-- ==== Sys2Proof/Word.lean ====
section
/-!
DEFINITION. The smallest units of the module's data: a byte, a 32-bit and a 64-bit word, and the little-endian
laying out of a number in bytes (R11).
-/

namespace Sys2Proof

/-- One byte. -/
abbrev Byte := BitVec 8

/-- One 32-bit register word, and the bit pattern of an FP32 value. -/
abbrev Word32 := BitVec 32

/-- The `n` bytes of `v`, least significant first (R11). -/
def leBytes : Nat → Nat → List Byte
  | 0, _ => []
  | n + 1, v => BitVec.ofNat 8 v :: leBytes n (v / 256)

/-- The number that bytes spell, least significant first (R11). -/
def leNat : List Byte → Nat
  | [] => 0
  | b :: bs => b.toNat + 256 * leNat bs

end Sys2Proof
end

