-- ==== Sys2Proof/Syntax.lean ====
section
/-!
DEFINITION. The commands that act on the module: one constructor for each row of the table of commands, with its operands.
What the model cannot compute from its state (sensor readings, what a device or another module answers, bytes in host
memory) comes in as an operand of the command that meets it.
-/

namespace Sys2Proof

/-! ## Common operand types -/

/-- Who makes a register write (R490): host software of the PF through BAR0, the tray controller through PLDM, or the
module's own firmware or security island. Only the first is bound by LOCK. -/
inductive Writer where
  | host | pldm | firmware
  deriving DecidableEq, Repr

/-- The status codes of R297. -/
inductive Status where
  | ok | lengthRange | fieldReserved | invalidOpcode | tenantMismatch | tenantRetiring | timeoutSt | flushed
  | queueState | partitionBusy | fnBusy | poolBusy | hostReset | cancelled | late | nearTimeout
  | alreadyComplete | planImage | planCapacity | planPlacement | planClassMismatch | planPace | slotBusy | slotState
  | partitionMismatch | quadDark | fastLaneOnly | residentStale | planFault | residueFault | storeFault | formatFault
  | memPoison | duskAbandon | debugAbandon | admitBudget | admitDeadline | admitPages | admitClass | admitCapacity
  | servConfig | deadlineExpired | kvExhausted | seqState | memConfig | memAbsent | memUnowned | dmaHostError
  | dmaBusy | sealRequired | sealNoKey | sealReplay | sealExhausted | sealAuth | linkDown | peerAbsent
  | hiveStopped | expelBudgetSpent | twinDivergence | twinFailover | bindingDenied | keySlotState | unlockDenied | capLag
  | fallbackNotReady | gateStuck | thermAlarm | thermTrip | vidUnsupported | vidStreamError | fwuChunkDigest | fwuSignature
  | fwuBinding | fwuHealthMissed | evrFrozen
  deriving DecidableEq, Repr


/-! ## Host port and queues (chapters 10 and 11) -/

/-- How the read of a submission entry ended (R264, R267): it came, its segment failed authentication, or the host read
failed. -/
inductive FetchRes where
  | good | badTag | hostError
  deriving DecidableEq, Repr

/-! ## Pace governors (chapter 02) -/

/-- One of the 40 samples a governor takes of its die in an interval (R443): active cells in partitions with a launch
running, whether a pipe was busy, and the controllers a launch held. -/
structure GovSample where
  cells    : Nat
  pipeBusy : Bool
  held     : List Nat
  deriving DecidableEq, Repr

/-- What one loop interval of a governor finds outside the model (R42): sensor readings in M st/s by sensor number, die
temperature in tenths of a degree, the voltage the regulator can deliver in mV, and the samples of the launch mix. -/
structure GovEnv where
  sensors : List Nat
  temp    : Int
  supply  : Nat
  samples : List GovSample
  deriving DecidableEq, Repr

/-- Where a counted error arose (R55): a physical cell, or a memory controller's datapath. -/
inductive MarginSrc where
  | cell (p : Nat)
  | memc (i : Nat)
  deriving DecidableEq, Repr

/-! ## Cell instructions (chapter 03, R69 to R71) -/

/-- Operand fields of an MMA instruction (R71). -/
structure MmaArgs where
  aAddr : Nat
  bAddr : Nat
  k     : Nat
  bFmt  : Nat
  aFmt  : Nat
  m     : Nat
  acc   : Nat
  n     : Nat
  zero  : Bool
  scale : Nat
  deriving DecidableEq, Repr

/-- Operand fields of a VEC instruction, and of an SFU instruction, which has no second source (R71). -/
structure VecArgs where
  src1  : Nat
  src2  : Nat
  dst   : Nat
  l     : Nat
  s1    : Nat
  s2    : Nat
  inFmt : Nat
  deriving DecidableEq, Repr

/-- Operand fields of a CVT instruction (R71). -/
structure CvtArgs where
  src1  : Nat
  dst   : Nat
  l     : Nat
  fromF : Nat
  toF   : Nat
  round : Bool
  deriving DecidableEq, Repr

/-- Operand fields of a MOVE instruction; the row of the table gives its KIND (R71). -/
structure MoveArgs where
  loc   : Nat
  units : Nat
  chan  : Nat
  entry : Nat
  deriving DecidableEq, Repr

/-- What the end of a partition step finds in the hardware (R76 to R79, R174): logical cells with a residue mismatch,
logical pipes with one, cells with a corrected store error, cells and store addresses of uncorrectable ones, cells whose
bank ports were exceeded (R74), and whether the step waited on an ECC retry (R59). -/
structure StepEnv where
  residue     : List Nat
  pipeResidue : List Nat
  storeCE     : List Nat
  storeUE     : List (Nat × Nat)
  ports       : List Nat
  retryWait   : Bool
  deriving DecidableEq, Repr

/-! ## Plans and launches (chapter 05) -/

/-- A launch descriptor (R141). -/
structure LaunchDesc where
  slot        : Nat
  partition   : Nat
  variant     : Nat
  tenant      : Nat
  batch       : Nat
  stochKey    : Nat
  scratchBase : Nat
  ioBase      : Nat
  seqList     : Nat
  recordAddr  : Nat
  tag         : Nat
  deriving DecidableEq, Repr

/-! ## Device memory (chapter 09) -/

/-- Who reads a unit (R246). -/
inductive Consumer where
  | launch (part entry : Nat)
  | dma (engine : Nat)
  | codec (ctx : Nat)
  | vpre
  | window (fn : Nat)
  | copy (queue : Nat)
  deriving DecidableEq, Repr

/-- What accesses to units meet in the hardware (R245, R246): units read and corrected, units whose read was uncorrectable
(`false`) or failed the path check (`true`), and units whose write failed the path check. -/
structure MemEnv where
  corrected : List Nat := []
  bad       : List (Nat × Bool) := []
  writeBad  : List Nat := []
  deriving DecidableEq, Repr

/-! ## Waggle links and the hive (chapters 12 and 13) -/

/-- What a message between modules carries, as the chapters that own the traffic describe it. -/
inductive Msg where
  /-- PEER_COPY data (R309): on the first frame the tenant, destination address and length; data bytes; `cmd` is the sender's
  number for the message. -/
  | copyPart (cmd : Nat) (head : Option (Nat × Nat × Nat)) (data : List Byte)
  | copyReport (cmd bytes : Nat) (st : Status)
  | copyAbort (cmd : Nat)
  | remoteSignal (cmd tenant counter : Nat) (set : Bool) (v : Nat)
  | signalReport (cmd : Nat) (st : Status)
  | unreachable (src : Nat) (cmd : Option Nat)
  | arrival (b g shard time : Nat)
  | verdict (b g v : Nat)
  | release (b g : Nat)
  | backupStart (b g shard : Nat)
  | stop
  | formationCall (epoch : Nat) (shape : List Nat)
  | join (id role time : Nat) (group : List Nat)
  | memberList (epoch : Nat) (members : List Nat) (deputy queen time : Nat)
  | ack (id : Nat)
  | waiting (id : Nat)
  | beacon
  | membership (members : List Nat)
  | expelled
  | lossReport (id : Nat)
  | leaving (id : Nat)
  | progress (id useful elapsed wasted : Nat)
  | timeStamp (t : Nat)
  | slew (v : Int)
  | groupKey (id : List Nat) (key : Nat)
  | keyExchange
  | rekey
  | capability
  | idleAgree (accept : Bool)
  | manifest (bytes : List Byte)
  | chunk (index : Nat) (bytes : List Byte)
  | bitmap (id : Nat) (digest : List Byte) (bits : List Nat)
  | chainRefused (id : Nat)
  | mirror (what : List Nat)
  | mirrorLaunch (serial : Nat) (d : LaunchDesc) (ctxs : List Nat) (io : List Byte)
  | launchAck (serial : Nat) (st : Status)
  | compare (serial mark : Nat) (bytes : List Byte)
  | twinVerdict (serial : Nat) (what : List Nat)
  | paceReport (pairs : List (Nat × Nat))
  | twinControl (op : Nat) (what : List Nat)
  | none
  deriving DecidableEq, Repr

/-- A Waggle frame (R303): its header and what its payload carries. `credit` is by channel. -/
structure WFrame where
  vc       : Nat := 0
  first    : Bool := true
  last     : Bool := true
  idle     : Bool := false
  nak      : Bool := false
  epoch    : Nat := 0
  len      : Nat := 0
  src      : Nat := 0
  dst      : Nat := 0
  hops     : Nat := 0
  dateline : Bool := false
  tenant   : Nat := 0
  seq      : Nat := 0
  ack      : Nat := 0
  credit   : List Nat := []
  ctr      : Nat := 0
  time     : Nat := 0
  off      : Nat := 0
  body     : Msg := .none
  deriving DecidableEq, Repr

/-- How a frame came in (R302, R304, R313): whether its codeword could be decoded, how many symbols were corrected, whether
its tag verified, whether its header carries a reserved value, and units whose write met a path mismatch. -/
structure RxEnv where
  fecOk    : Bool
  fixed    : Nat
  tagOk    : Bool
  reserved : Bool
  writeBad : List Nat := []
  deriving DecidableEq, Repr

/-- What an order of link training finds (R300): locked or kept lanes, and the peer's module, port and highest generation. -/
structure PhaseInfo where
  lanes    : Nat
  module   : Nat := 0
  peerPort : Nat := 0
  gen      : Nat := 1
  deriving DecidableEq, Repr

/-- An arrival as the queen takes it (R333): sender, channel, generation, shard, and the time of the crossing. -/
structure Arrival where
  src   : Nat
  b     : Nat
  g     : Nat
  shard : Nat
  time  : Nat
  deriving DecidableEq, Repr

/-! ## Video (chapter 17) -/

/-- A picture as its standard decodes it (R425, R428): width and height, the bytes of its buffer, ranges of them that are
concealed (offset, length, and the nearest reference in output order, or none), CTBs concealed, whether it stays marked as a
reference, buffers that are no longer referenced, and outputs with their order counts. Number 64 stands for the picture's own
buffer. -/
structure DecPic where
  width   : Nat
  height  : Nat
  data    : List Byte
  lost    : List (Nat × Nat × Option Nat) := []
  damaged : Nat := 0
  ref     : Bool := false
  drop    : List Nat := []
  outs    : List (Nat × Nat) := []
  deriving DecidableEq, Repr

/-- A coded picture (R431 to R433): its type (0 I, 1 P, 2 B), luma samples of each of its units with the bits that each of the
unit's CTB rows took, and its bytes. -/
structure EncPic where
  kind  : Nat
  units : List (Nat × List Nat)
  bytes : List Byte
  deriving DecidableEq, Repr

/-- What a codec job meets in its stream, which the video standards decide: whether the access unit's structure is usable, uses
what the module does not support, or begins a new coded video sequence; the decoded-picture-buffer size in force; bytes
consumed; the pictures; outputs of a flush in output order; the busy steps of its engines; and what its memory accesses met. -/
structure VidRes where
  parses      : Bool := true
  unsupported : Bool := false
  newSeq      : Bool := false
  dpb         : Nat := 0
  used        : Nat := 0
  pics        : List DecPic := []
  coded       : List EncPic := []
  outs        : List (Nat × Nat) := []
  steps       : List Nat := []
  env         : MemEnv := {}
  deriving DecidableEq, Repr

/-! ## Start-up, firmware and register pages (chapters 19 and 20) -/

/-- What the security island finds at a start (R455, R466): slots (0 A, 1 B, 2 recovery) whose firmware signature verifies, slots
whose operator countersignature does, and pages of each bank that fail their CRC. -/
structure StartEnv where
  sigs   : List Nat
  opSigs : List Nat
  bad0   : Nat := 0
  bad1   : Nat := 0
  deriving DecidableEq, Repr

/-- What a register write needs from outside the model: the function's MSI-X Enable (R255), the frequency that CLKOBS would show
(R414), whether any member's channel is ARMED (R332), whether a submitted token's signature verifies with the digest of its
OP_PUB (R388), what the host answers to the read of a manifest or chunk (none for a failed read), and what the island finds
(R469). -/
structure WriteEnv where
  msix   : Bool := false
  hz     : Nat := 0
  armed  : Bool := false
  sigOk  : Bool := false
  digest : List Nat := []
  data   : Option (List Byte) := none
  start  : StartEnv := ⟨[], [], 0, 0⟩
  deriving DecidableEq, Repr

/-! ## The commands -/

/-- The commands of the table, in its order. -/
inductive Instr where
  /-- One loop interval of the governor of a die (R42). -/
  | governorInterval (die : Nat) (e : GovEnv)
  /-- Firmware acts on a counted error of a margin entry (R56). -/
  | marginUpdate (die entry : Nat) (src : MarginSrc)
  /-- A write of PACE_MARGIN.RAISE (R57). -/
  | paceMarginWrite (w : Writer) (die raise : Nat)
  /-- A write of PACE_MARGIN_CLR (R57). -/
  | clearAll (w : Writer) (die v : Nat)
  /-- A write of PACE_FLOOR.MIN_RATE (R45). -/
  | paceFloorWrite (w : Writer) (die v : Nat)
  /-- A write of PACE_VLIM (R47). -/
  | paceVlimWrite (w : Writer) (die vmin vmax : Nat)
  /-- The sequencer forms its bounds and predictions again (R62). -/
  | recomputePredictions (die : Nat)
  /-- A CTRL NOP issues in a cell (R70). -/
  | ctrlNop (cell : Nat)
  /-- A cell's last instruction issues (R70, R128). -/
  | end_ (cell : Nat)
  /-- A marker issues (R70, R137). -/
  | mark (cell markId : Nat)
  /-- A matrix instruction issues (R109). -/
  | mma (cell : Nat) (a : MmaArgs)
  /-- VEC ADD (R70, R111). -/
  | add (cell : Nat) (a : VecArgs)
  /-- VEC MUL (R111). -/
  | mul (cell : Nat) (a : VecArgs)
  /-- VEC FMA, one rounding (R111). -/
  | fma (cell : Nat) (a : VecArgs)
  /-- VEC MAX (R111). -/
  | max_ (cell : Nat) (a : VecArgs)
  /-- VEC MIN (R111). -/
  | min_ (cell : Nat) (a : VecArgs)
  /-- VEC RSUM, in the order R111 fixes. -/
  | rsum (cell : Nat) (a : VecArgs)
  /-- VEC RMAX (R111). -/
  | rmax (cell : Nat) (a : VecArgs)
  /-- VEC SCALE (R111). -/
  | scale (cell : Nat) (a : VecArgs)
  /-- VEC COPY (R111). -/
  | copy (cell : Nat) (a : VecArgs)
  /-- SFU EXP (R112). -/
  | exp (cell : Nat) (a : VecArgs)
  /-- SFU LOG (R112). -/
  | log (cell : Nat) (a : VecArgs)
  /-- SFU RECIP (R112). -/
  | recip (cell : Nat) (a : VecArgs)
  /-- SFU RSQRT (R112). -/
  | rsqrt (cell : Nat) (a : VecArgs)
  /-- CVT (R113 to R119). -/
  | cvt (cell : Nat) (a : CvtArgs)
  /-- MOVE of KIND 0 (R71). -/
  | moveMemToStore (cell : Nat) (a : MoveArgs)
  /-- MOVE of KIND 1 (R71). -/
  | moveStoreToMem (cell : Nat) (a : MoveArgs)
  /-- MOVE of KIND 2 (R71). -/
  | moveLocal (cell : Nat) (a : MoveArgs)
  /-- MOVE of KIND 3 (R71). -/
  | moveCellToCell (cell : Nat) (a : MoveArgs)
  /-- MOVE of KIND 4 (R165). -/
  | moveToPipe (cell : Nat) (a : MoveArgs)
  /-- MOVE of KIND 5 (R165). -/
  | moveFromPipe (cell : Nat) (a : MoveArgs)
  /-- A forward ATTN_CELL command (chapter 06) (R166). -/
  | attnCell (cell cmdAddr : Nat)
  /-- A backward ATTN_CELL command (R171). -/
  | attnCellBackward (cell cmdAddr : Nat)
  /-- A forward ATTN_PIPE command (R163). -/
  | attnPipe (cell cmdAddr : Nat)
  /-- A backward ATTN_PIPE command (R172). -/
  | attnPipeBackward (cell cmdAddr : Nat)
  /-- The step in progress of a partition comes to its end (R36). -/
  | stepComplete (part : Nat) (e : StepEnv)
  /-- A READ entry begins on its channel (R133). -/
  | memRead (part entry : Nat)
  /-- A WRITE entry begins (R133). -/
  | memWrite (part entry : Nat)
  /-- A STREAM entry begins (R129). -/
  | streamRefill (part entry : Nat)
  /-- A REFRESH entry begins (R135). -/
  | refreshEntry (part entry : Nat)
  /-- A KV_READ entry begins (R184). -/
  | kvRead (part entry : Nat)
  /-- A KV_WRITE entry begins (R184). -/
  | kvWrite (part entry : Nat)
  /-- An OPEN entry begins (R136). -/
  | openEntry (part entry : Nat)
  /-- A memory entry's last byte is in place (R132). -/
  | memEntryDone (part entry : Nat) (e : MemEnv)
  /-- A route entry moves its bytes (R130). -/
  | routeTransfer (part entry : Nat)
  /-- A write of CELL_TEST_CTL with START (R89). -/
  | cellTestStart (w : Writer) (cell stress : Nat)
  /-- A cell self-test ends (R88). -/
  | cellTestDone (cell failUnit : Nat)
  /-- A write of APIPE_TEST_CTL with START (R176). -/
  | pipeTestStart (w : Writer) (pipe stress : Nat)
  /-- A pipe self-test ends (R176). -/
  | pipeTestDone (pipe failUnit : Nat)
  /-- A write of CELL_RETIRE (R90). -/
  | cellRetire (w : Writer) (cell v : Nat)
  /-- A write of QUAD_APIPE.RETIRE (R90). -/
  | pipeRetire (w : Writer) (quad v : Nat)
  /-- The next queued retirement starts (R90). -/
  | retirementBegin
  /-- Order 3 of R90: the spare is tested. -/
  | retirementSpareTest
  /-- A write of QUAD_PART.PARTITION (R95). -/
  | quadPartWrite (w : Writer) (quad v : Nat)
  /-- A write of MEMC_PART.PARTITION (R95, R143). -/
  | memcPartWrite (w : Writer) (memc v : Nat)
  /-- A write of SEAM_LANE.PARTITION (R495). -/
  | seamLaneWrite (w : Writer) (die v : Nat)
  /-- A write of DIE_FASTLANE, both halves (R97). -/
  | fastlaneWrite (w : Writer) (v : Nat)
  /-- LOAD_PLAN runs its checks (R139). -/
  | loadPlan (queue : Nat) (image : List Byte) (bad : Option Nat)
  /-- The load checks of a slot end (R140). -/
  | planChecksDone (slot : Nat)
  /-- UNLOAD_PLAN (R140). -/
  | unloadPlan (queue : Nat)
  /-- LAUNCH issues a direct launch (R141). -/
  | launch (queue : Nat)
  /-- A launch's turn has come (R143). -/
  | launchStart (part : Nat)
  /-- The preload ends and step 0 begins (R144). -/
  | preloadDone (part : Nat)
  /-- A launch ends and writes its record (R150). -/
  | launchEnd (part : Nat)
  /-- SEQ_CTL open of a queue (R188, R200). -/
  | seqOpen (queue : Nat)
  /-- SEQ_CTL grow (R189, R200). -/
  | seqGrow (queue : Nat)
  /-- SEQ_CTL commit (R192, R200). -/
  | seqCommit (queue : Nat)
  /-- SEQ_CTL rollback (R193, R200). -/
  | seqRollback (queue : Nat)
  /-- SEQ_CTL close (R197, R200). -/
  | seqClose (queue : Nat)
  /-- The first operation that waits on a sequence proceeds (R195). -/
  | heldOpResume (seq : Nat)
  /-- KVPG looks at the heads of the park queues (R191). -/
  | parkGrant
  /-- A parked sequence's deadline passes (R190). -/
  | parkDeadline (seq : Nat)
  /-- The copy into a sequence ends (R196). -/
  | prefixCopyDone (dst : Nat)
  /-- A released frame has been overwritten (R197). -/
  | frameScrubDone (frame : Nat)
  /-- A write of KVPG_POOL_PAGES or KVPG_POOL_BASE (R185). -/
  | kvpgPoolWrite (w : Writer) (pages : Bool) (v : Nat)
  /-- A write of KVPG_SEQ_BASE (R180). -/
  | kvpgSeqBaseWrite (w : Writer) (v : Nat)
  /-- A write of KVPG_TEN_RESV for the selected tenant (R186). -/
  | kvpgResvWrite (w : Writer) (v : Nat)
  /-- REQUEST of a queue: the descriptor and the prompt tokens that host memory holds, and the first sealed segment of them that does not authenticate (R201, R207). -/
  | request (queue : Nat) (desc : List Byte) (prompt : List Nat) (bad : Option Nat)
  /-- A request that waited for a wake is decided (R396). -/
  | admissionAfterWake (req : Nat)
  /-- A write of SERV_SLOT_CFG for the selected slot (R205). -/
  | slotEnable (w : Writer) (v : Nat)
  /-- The sequencer prepares a slot's next launch (R214). -/
  | servingLaunchPrepare (slot : Nat)
  /-- The sequencer acts on a launch's record (R214). -/
  | servingLaunchResult (work : Nat)
  /-- A request's prompt is looked up (R222). -/
  | prefixLookup (req : Nat)
  /-- CANCEL of a queue (R228). -/
  | cancel (queue : Nat)
  /-- A write of SERV_TEN_BURST (R211). -/
  | burstWrite (w : Writer) (v : Nat)
  /-- A write of PFX_TEN_BASE or PFX_TEN_NODES (R221). -/
  | pfxTenWrite (w : Writer) (nodes : Bool) (v : Nat)
  /-- A write of MEM_SET_MAP (R232). -/
  | memSetMapWrite (w : Writer) (v : Nat)
  /-- A write of MEM_OWN with VALID = 1 for the selected extent (R238). -/
  | extentOwn (w : Writer) (tenant : Nat)
  /-- A write of MEM_OWN with VALID = 0 for the selected extent (R238). -/
  | extentRelease (w : Writer)
  /-- A released extent has been overwritten (R238). -/
  | extentScrubDone (extent : Nat)
  /-- Training ends; `failed` lists channels as 4 × controller + channel (R244). -/
  | memoryTrainingDone (failed : List Nat) (micros : Nat)
  /-- A re-read completes (R246). -/
  | eccReRead (addr : Nat) (who : Consumer) (clean : Bool)
  /-- A unit's poison mark is written (R246). -/
  | poisonMarkWrite (unit : Nat)
  /-- A refresh interval of a channel passes (R242). -/
  | refreshDue (memc chan : Nat)
  /-- The package's temperature and refresh class are read (R243). -/
  | packageTempRead (memc : Nat) (temp : Int) (rate : Nat)
  /-- Patrol scrubbing reads units; `done` ends its pass (R248). -/
  | patrolScrub (memc : Nat) (e : MemEnv) (done : Bool)
  /-- A BAR4 read (R249). -/
  | hostWindowRead (fn off len : Nat) (e : MemEnv)
  /-- A BAR4 write (R249). -/
  | hostWindowWrite (fn off : Nat) (data : List Byte) (e : MemEnv)
  /-- PERST_N is released (R257, R460). -/
  | perstNRelease
  /-- PERST_N is asserted; what running transfers had moved (R259, R456). -/
  | perstNAssert (cut : List (Nat × List Byte))
  /-- 4.0 s have passed since the release of PERST_N (R257). -/
  | readinessTimeout
  /-- Firmware services have started (R462). -/
  | startupReady
  /-- A Function Level Reset; `cut` is what running transfers had moved, by engine (R258). -/
  | functionLevelReset (fn : Nat) (cut : List (Nat × List Byte))
  /-- A hot reset (R259). -/
  | hotReset (cut : List (Nat × List Byte))
  /-- The host link goes down (R259). -/
  | hostLinkDown (cut : List (Nat × List Byte))
  /-- REFCLK fails (R29). -/
  | refclkLoss (cut : List (Nat × List Byte))
  /-- REFCLK returns (R29). -/
  | refclkReturn
  /-- The host link trained: HOST_LINK's speed code, lanes, and whether FLIT mode was negotiated (R251). -/
  | linkTrained (speed width : Nat) (flit : Bool)
  /-- A write of HOST_LINK_CTL (R251). -/
  | linkRetrain (w : Writer) (v : Nat)
  /-- A write of HOST_FN_CFG for the selected function (R252). -/
  | hostFnCfgWrite (w : Writer) (v : Nat)
  /-- A write of HOST_FN_MSIX; `enabled` is the function's MSI-X Enable (R255). -/
  | hostFnMsixWrite (w : Writer) (v : Nat) (enabled : Bool)
  /-- A write of HOST_FN_WIN (R254). -/
  | hostFnWinWrite (w : Writer) (v : Nat)
  /-- A Resizable BAR write of a size 2^size; `memEnable` is Memory Space Enable (R254). -/
  | bar4Resize (fn size : Nat) (memEnable : Bool)
  /-- The running DMA command of a queue (R262). -/
  | dma (queue : Nat)
  /-- A write of DMA_GO.GO (R260). -/
  | dmaGo (w : Writer) (eng : Nat)
  /-- The transfer in progress on an engine ends; `data` is what host memory gave, `bad` the first segment that fails authentication (R263, R267). -/
  | dmaTransferDone (eng : Nat) (data : List Byte) (bad : Option Nat) (env : MemEnv)
  /-- A host read fails: of engine n's transfer, or of queue n's running command; `moved` is what it had moved (R264). -/
  | hostReadError (byEngine : Bool) (n : Nat) (moved : List Byte)
  /-- An IDE_KM QUERY in a session of the responder (R380). -/
  | query (sid : Nat)
  /-- An IDE_KM KEY_PROG for a key set, sub-stream and direction of a stream (R380). -/
  | keyProg (sid stream set sub dir : Nat)
  /-- An IDE_KM K_SET_GO (R380). -/
  | kSetGo (sid stream set : Nat)
  /-- An IDE_KM K_SET_STOP (R380). -/
  | kSetStop (sid stream set : Nat)
  /-- A write of Q_CTL with CREATE, for the function's selected queue; `also` are the other bits written (R271). -/
  | create (fn also : Nat)
  /-- A write of Q_CTL with DELETE (R290). -/
  | delete (fn also : Nat) (cut : List (Nat × List Byte))
  /-- A write of Q_CTL with RESUME (R288). -/
  | resume (fn also : Nat)
  /-- A write of Q_CTL with FLUSH; `rest` are the entries not yet fetched, with how they read and their counters (R288). -/
  | queueFlush (fn also : Nat) (rest : List (List Byte × FetchRes × Nat))
  /-- A write of n bytes in a function's BAR2 (R273). -/
  | doorbell (fn off n v : Nat)
  /-- The next submission entry arrives, with the counter of its segment (R272). -/
  | entryFetched (queue : Nat) (bytes : List Byte) (res : FetchRes) (ctr : Nat)
  /-- A queue's next command starts (R272). -/
  | commandStart (queue : Nat)
  /-- The running NOP of a queue (R277). -/
  | nop (queue : Nat)
  /-- The running WAIT of a queue (R285). -/
  | wait (queue : Nat)
  /-- The running PEER_COPY of a queue (R278). -/
  | peerCopy (queue : Nat)
  /-- The running REMOTE_SIGNAL of a queue (R278). -/
  | remoteSignal (queue : Nat)
  /-- The running command of a queue has an unknown or forbidden opcode (R277). -/
  | invalidOpcode (queue : Nat)
  /-- A queue's command timer expires (R292). -/
  | commandTimeout (queue : Nat) (cut : List (Nat × List Byte))
  /-- A write of QMGR_SIG_BASE (R283). -/
  | qmgrSigBaseWrite (w : Writer) (v : Nat)
  /-- A write of QMGR_DBP_MAP for the selected doorbell page (R494). -/
  | dbpMapWrite (w : Writer) (fn : Nat)
  /-- A write of WAG_CTL of a port with ENABLE 1; v are the other bits (R315). -/
  | portEnable (w : Writer) (p v : Nat)
  /-- A write of WAG_CTL with ENABLE 0 (R315). -/
  | portDisable (w : Writer) (p v : Nat)
  /-- An order of link training is done (R300). -/
  | trainingPhaseDone (p : Nat) (info : PhaseInfo)
  /-- A bound of link training runs out (R300). -/
  | trainingBoundExpiry (p : Nat)
  /-- The peer's key-exchange message and how it verified (R366). -/
  | linkKeyExchange (p : Nat) (chainOk sigOk peerDebug : Bool)
  /-- The wait of a DOWN port ends (R301). -/
  | retrainWaitExpiry (p : Nat)
  /-- A write of WAG_CTL with RETRAIN 1 (R301). -/
  | wagRetrain (w : Writer) (p v : Nat)
  /-- A frame comes in on a port (R305). -/
  | frameReceive (p : Nat) (f : WFrame) (env : RxEnv)
  /-- A port sends its next frame (R308). -/
  | frameTransmit (p : Nat) (env : MemEnv)
  /-- The oldest unacknowledged frame has waited 8 µs (R306). -/
  | replayTimerExpiry (p : Nat)
  /-- A replay budget runs out (R307). -/
  | replayBudgetExpiry (p : Nat)
  /-- Lock is lost on lanes (R315). -/
  | laneLockLoss (p mask : Nat)
  /-- The peer of a port is leaving (R315). -/
  | leavingNotice (p : Nat)
  /-- The 100 µs after a leaving notice end (R315). -/
  | leavingWaitExpiry (p : Nat)
  /-- A direction's counter reaches 2^47 (R314). -/
  | rekeyStart (p : Nat)
  /-- No new key by counter 2^48 − 2^20 (R314). -/
  | rekeyDeadline (p : Nat)
  /-- A message of this module could not be forwarded (R312). -/
  | unreachableReport (cmd : Option Nat)
  /-- A peer reports bytes accepted (R309). -/
  | copyAcceptReport (cmd bytes : Nat) (st : Status)
  /-- The sender of an incoming message ends it (R382). -/
  | copyAbort (src cmd : Nat)
  /-- The hive reference loses lock (R317). -/
  | refLost
  /-- A write of HIVE_CTL with RESTART 1; auto is AUTO_EXPEL (R324). -/
  | hiveRestart (w : Writer) (auto : Bool)
  /-- The queen's port wait ends (R324). -/
  | formationPortWaitEnd
  /-- A formation call comes in; the shape's extents and origins, x to z (R323). -/
  | formationCall (src epoch : Nat) (shape : List Nat)
  /-- A join comes in (R324). -/
  | join (id role time : Nat) (group : List Nat)
  /-- The 50 ms of order 4 end; whether the bypass is wired (R324). -/
  | joinWindowEnd (bypass : Bool)
  /-- A member list comes in (R323). -/
  | memberList (src epoch : Nat) (members : List Nat) (deputy time : Nat) (bypass : Bool)
  /-- A member acknowledges (R324). -/
  | memberAck (id : Nat)
  /-- The 20 ms of order 6 end (R324). -/
  | formationAckBound
  /-- 200 ms pass without a member list (R323). -/
  | formingTimeout
  /-- A stop message comes in (R323). -/
  | hiveStop
  /-- A waiting module's notice comes in (R325). -/
  | waitingNotice (id : Nat)
  /-- The queen's 1 ms beacon timer (R321). -/
  | beaconTimer
  /-- A queen beacon comes in (R341). -/
  | queenBeacon
  /-- No beacon for QUEEN_LOSS ms (R341). -/
  | queenLossTimeout
  /-- 1 ms after queen loss was declared (R342). -/
  | queenTakeover
  /-- The 1 ms timer of time exchanges (R329). -/
  | timeExchangeTimer
  /-- An exchange is complete; its four stamps in 1/16 ns (R329). -/
  | timeExchange (t1 t2 t3 t4 : Int)
  /-- A write of MERID_SLEW (R331). -/
  | meridSlewWrite (w : Writer) (v : Nat)
  /-- Arrivals that reach the queen in one arbitration window (R333). -/
  | barrierArrival (l : List Arrival)
  /-- A verdict comes in (R336). -/
  | barrierVerdict (b g v : Nat)
  /-- A release comes in (R333). -/
  | barrierRelease (b g : Nat)
  /-- DELAY µs have passed since a channel's latest commit (R335). -/
  | backupDelayExpiry (b : Nat)
  /-- A backup start comes in (R335). -/
  | backupStart (b g shard : Nat)
  /-- A write of HIVE_MOD_CTL with EXPEL 1 (R338). -/
  | hiveExpel (w : Writer)
  /-- A write of HIVE_MOD_CTL with CLEAR_SUSPECT 1 (R337). -/
  | clearSuspect (w : Writer)
  /-- A bitmap comes in (R339). -/
  | membershipUpdate (members : List Nat)
  /-- A port has not been UP again for LOSS_WAIT ms (R340). -/
  | memberLossTimeout (p : Nat)
  /-- A write of HIVE_CTL with RELOAD_SHARDS 1; whether another member has a channel ARMED (R332). -/
  | reloadShards (w : Writer) (auto armed : Bool)
  /-- A write of HIVE_BAR_CFG (R333). -/
  | barrierEnable (w : Writer) (v : Nat)
  /-- The interval of progress reports ends (R344). -/
  | progressReportTimer
  /-- A progress report comes in (R344). -/
  | progressReport (id useful elapsed wasted : Nat)
  /-- A write of SEC_GROUP_CTL with GEN 1 (R376). -/
  | groupKeyGen (w : Writer)
  /-- A wrapped group key comes in; whether it opens (R376). -/
  | groupKeyDistribution (src : Nat) (id : List Nat) (key : Nat) (opened : Bool)
  /-- A write of TWIN_CTL with PAIR 1 (R346). -/
  | twinPair (w : Writer)
  /-- One second has passed since PAIR was written (R346). -/
  | pairWindowExpiry
  /-- A mirrored serving action comes in (R348). -/
  | servAction (what : List Nat)
  /-- A mirrored launch comes in with its rows' contexts and the I/O snapshot (R349). -/
  | mirrorLaunch (serial : Nat) (d : LaunchDesc) (ctxs : List Nat) (io : List Byte)
  /-- The standby has started a launch (R350). -/
  | launchAck (serial : Nat)
  /-- The active's bytes of a compare point come in (R351). -/
  | compareData (serial mark : Nat) (bytes : List Byte)
  /-- A divergence, a self-test's result or the verdict comes in (R356). -/
  | twinVerdict (serial : Nat) (what : List Nat)
  /-- The peer's lowest promise pace by partition comes in (R350). -/
  | paceReport (pairs : List (Nat × Nat))
  /-- A control message comes in (R358). -/
  | twinControl (op : Nat) (what : List Nat)
  /-- A write of TWIN_CTL with UNPAIR 1 (R358). -/
  | twinUnpair (w : Writer)
  /-- A write of TWIN_CTL with SWAP 1 (R358). -/
  | twinSwap (w : Writer)
  /-- A write of TWIN_CTL with TAKEOVER 1 (R358). -/
  | twinTakeover (w : Writer)
  /-- KEY_INSTALL with a MODE other than 1 runs on a queue; the request block, and whether its host read succeeds (R368). -/
  | keyInstallActivate (q : Nat) (block : List Byte) (hostOk : Bool)
  /-- KEY_INSTALL with MODE 1 runs on a queue (R371). -/
  | keyInstallReplace (q : Nat) (block : List Byte) (hostOk : Bool)
  /-- WEIGHT_LOAD runs on a queue; COUNT of its envelope, and whether the envelope is valid and opens (R374). -/
  | weightLoad (q count : Nat) (opened : Bool)
  /-- TENANT_RETIRE runs on a queue (R381). -/
  | tenantRetire (q : Nat)
  /-- W of a retirement runs out; what the running transfers had moved (R382). -/
  | drainWaitExpiry (t : Nat) (cut : List (Nat × List Byte))
  /-- Nothing of a retiring tenant is in flight (R383). -/
  | drainFence (t : Nat)
  /-- The scrub of a retirement ends (R383). -/
  | retirementScrubDone (t : Nat)
  /-- An SPDM GET_VERSION (R377). -/
  | getVersion
  /-- An SPDM GET_CAPABILITIES (R377). -/
  | getCapabilities
  /-- An SPDM NEGOTIATE_ALGORITHMS (R377). -/
  | negotiateAlgorithms
  /-- An SPDM GET_DIGESTS (R377). -/
  | getDigests
  /-- An SPDM GET_CERTIFICATE for bytes of a slot's chain (R377). -/
  | getCertificate (certSlot off n : Nat)
  /-- An SPDM CHALLENGE (R377). -/
  | challenge (nonce : List Byte)
  /-- An SPDM GET_MEASUREMENTS for a block, or 255 for all (R378). -/
  | getMeasurements (index : Nat) (signed : Bool)
  /-- An SPDM KEY_EXCHANGE (R377). -/
  | keyExchange
  /-- An SPDM FINISH, and whether it verifies (R377). -/
  | finish (sid : Nat) (verified : Bool)
  /-- An SPDM HEARTBEAT (R377). -/
  | heartbeat (sid : Nat)
  /-- An SPDM KEY_UPDATE (R377). -/
  | keyUpdate (sid : Nat)
  /-- An SPDM END_SESSION (R377). -/
  | endSession (sid : Nat)
  /-- An SPDM CHUNK_SEND (R377). -/
  | chunkSend (bytes : List Byte) (last : Bool)
  /-- An SPDM CHUNK_GET (R377). -/
  | chunkGet (n : Nat) (last : Bool)
  /-- A write of SEC_UNLOCK_CTL with NEW_NONCE 1 (R388). -/
  | newNonce (w : Writer)
  /-- The unlock nonce is 600 s old (R388). -/
  | nonceExpiry
  /-- A token on the debug channel, or a write of SEC_UNLOCK_CTL with SUBMIT 1; the digest of its OP_PUB as 16 words, and whether SIG verifies (R388). -/
  | unlockSubmit (token : Option (List Byte)) (digest : List Nat) (sigOk : Bool)
  /-- The erase of an unlock ends (R389). -/
  | unlockEraseDone
  /-- A write of SEC_OPKEY_CTL with COMMIT 1 (R388). -/
  | opkeyCommit (w : Writer)
  /-- An operation on the debug port: 0 memory read, 1 scan, 2 halt (R387). -/
  | debugOperation (kind a n : Nat)
  /-- Every 20 µs power control measures the input power, in 0.1 W (R398 to R402). -/
  | powerInterval (p : Nat)
  /-- A write of PWR_CAP.CAP_W (R398). -/
  | pwrCapWrite (w : Writer) (v : Nat)
  /-- A write of PWR_CAP.EMERG = 1 (R402). -/
  | emergSet (w : Writer)
  /-- A write of PWR_CAP.EMERG = 0 (R402). -/
  | emergClear (w : Writer)
  /-- The launch at the front of a partition has been held at the gate for MAX_HOLD (R400). -/
  | launchGateHoldExpiry (p : Nat)
  /-- A domain's block has been idle for its time (R395). -/
  | domainIdle (d : Nat)
  /-- A demand comes to a domain (R396). -/
  | domainWake (d : Nat)
  /-- A domain's wake ends (R391). -/
  | wakeDone (d : Nat)
  /-- A write of PWR_CTL of a page (R393). -/
  | holdOnWrite (ty inst v : Nat)
  /-- The two ends of a link agree to idle its lanes, or the peer refuses (R395). -/
  | laneIdleAgreement (p : Nat) (accept : Bool)
  /-- The conditions of standby have held for 1 ms (R397). -/
  | standbyEntry
  /-- A doorbell, a BAR access, a PLDM command or the early-break pin ends standby (R397). -/
  | standbyExit
  /-- The early-break pin, or input voltage below 38 V, for 20 µs (R404). -/
  | duskBegin
  /-- t0 + FINISH (R405). -/
  | duskFinishDeadline
  /-- t0 + 14.6 ms (R405). -/
  | duskLeaving
  /-- t0 + 15.0 ms; what running transfers had moved (R405). -/
  | duskHostDown (cut : List (Nat × List Byte))
  /-- t0 + 16.0 ms (R405). -/
  | duskPowerOff
  /-- Dusk ends; whether input power is present (R404). -/
  | duskEnd (power : Bool)
  /-- The monitor of a loop trips; what running transfers had moved (R408). -/
  | clockSourceTrip (k : Nat) (cut : List (Nat × List Byte))
  /-- 2 µs of a loop's divider have passed (R410). -/
  | dividerStep (k : Nat)
  /-- A source of a loop has been good for 100 µs (R409, R410). -/
  | clockSourceGood (k : Nat)
  /-- The TCXO reports stable (R407). -/
  | tcxoStable
  /-- The monitor of the TCXO trips (R412). -/
  | tcxoFault
  /-- A clock gate is asked for at a loop's block; whether an access is open or arrives (R413). -/
  | clockGateRequest (k : Nat) (access : Bool)
  /-- The access is still open after 4,096 cycles (R413). -/
  | gateStuck (k : Nat)
  /-- A write of CLK_OBS_SEL, and the frequency of the loop or sensor it selects (R414). -/
  | clkObsSelect (w : Writer) (v hz : Nat)
  /-- A die, or 16 and a package, is at its alarm temperature, in 0.1 °C (R514). -/
  | thermalAlarm (place : Nat) (temp : Int)
  /-- A die, or 16 and a package, is at its trip temperature (R515). -/
  | thermalTrip (place : Nat) (temp : Int)
  /-- After a trip, every temperature has been below its limit for 1 s (R515). -/
  | thermalTripCooled
  /-- Input above 66 V for more than 100 µs (R509). -/
  | overvoltageDisconnect
  /-- Input power is within its ratings; what the island finds, and whether the calendar count was carried (R499, R462). -/
  | powerGood (e : StartEnv) (clock : Bool)
  /-- The levels of the hive ID and role straps (R501). -/
  | strapSample (id role : Nat)
  /-- The management cores are released; whether the factory area's remap copy passes its CRC (R462, R481). -/
  | coresReleased (remapOk : Bool)
  /-- Every data unit has been written as zero plaintext (R462). -/
  | eccInitDone
  /-- Physical cells and pipes that failed, each with its first failing unit (R462). -/
  | startupSelfTestDone (cells pipes : List (Nat × Nat))
  /-- VID_DECODE with OP 0 on a queue; its parameter block, whether the host read succeeds, and the first segment that does not authenticate (R421). -/
  | decodeOpen (q : Nat) (block : List Byte) (hostOk : Bool) (bad : Option Nat)
  /-- VID_DECODE with OP 1 on a queue; its access unit (R425). -/
  | decodePicture (q : Nat) (au : List Byte) (hostOk : Bool) (bad : Option Nat)
  /-- VID_DECODE with OP 2 on a queue (R425). -/
  | decodeFlush (q : Nat)
  /-- VID_DECODE with OP 3 on a queue (R418). -/
  | decodeClose (q : Nat)
  /-- VID_ENCODE with OP 0 on a queue (R421). -/
  | encodeOpen (q : Nat) (block : List Byte) (hostOk : Bool) (bad : Option Nat)
  /-- VID_ENCODE with OP 1 on a queue (R431). -/
  | encodePicture (q : Nat)
  /-- VID_ENCODE with OP 2 on a queue (R419). -/
  | encodeFlush (q : Nat)
  /-- VID_ENCODE with OP 3 on a queue (R418). -/
  | encodeClose (q : Nat)
  /-- VID_PRE on a queue (R436). -/
  | vidPre (q : Nat)
  /-- The next codec job may start; units into which its picture divides (R434). -/
  | videoJobStart (units : Nat)
  /-- The running job of a context is at a CTB-row boundary (R434). -/
  | preemption (c : Nat)
  /-- The running job of a context ends (R422). -/
  | videoJobEnd (c : Nat) (r : VidRes)
  /-- The pre-processor's next job may start (R438). -/
  | vpreJobStart
  /-- The pre-processor's running job ends; its busy steps, and what its accesses met (R437). -/
  | vpreJobEnd (steps : Nat) (env : MemEnv)
  /-- An event of a block instance, or of firmware (type 63), with its code, severity, tenant and detail (R442). -/
  | eventRecord (ty inst code sev tenant : Nat) (detail : List Nat)
  /-- A write of EVR_RTC_CTL.SET = 1 (R439). -/
  | rtcSet (w : Writer)
  /-- FLUSH_PERIOD minutes after the previous flush ended (R448). -/
  | flushPeriodExpiry
  /-- A write of EVR_CTL.FLUSH = 1 (R448). -/
  | recorderFlush (w : Writer)
  /-- The commit page has been written, so many microseconds after the flush's start (R452, R454). -/
  | flushEnd (us : Nat)
  /-- The MRAM interface reports a write error (R454). -/
  | mramWriteError
  /-- A write of EVR_CTL.FREEZE = 1 (R450). -/
  | freeze (w : Writer)
  /-- A write of EVR_CTL.FREEZE = 0 (R450). -/
  | unfreeze (w : Writer)
  /-- 10 s have passed since a freeze began (R450). -/
  | freezeExpiry
  /-- The freeze copy ends (R450). -/
  | freezeCopyDone
  /-- A write of EVR_CTL.CLEAR_METRICS = 1 (R446). -/
  | clearMetrics (w : Writer)
  /-- A write of EVR_MET_LOW, or of EVR_MET_CFG, for the metric that EVR_MET_SEL shows (R446). -/
  | metricConfigWrite (w : Writer) (cfg : Bool) (v : Nat)
  /-- A metric's interval ends (R446). -/
  | metricIntervalEnd (m : Nat)
  /-- A write of BOOT_CTL.COLD = 1 (R456). -/
  | cold (w : Writer)
  /-- A write of BOOT_CTL.WARM = 1 (R458). -/
  | warm (w : Writer)
  /-- A write of BOOT_CTL.RECOVERY = 1 (R463). -/
  | recoveryRequest (w : Writer)
  /-- 2 s have passed without service of the watchdog (R456). -/
  | watchdogExpiry
  /-- WARM_WAIT ms have passed since order 1 of a warm reset (R458). -/
  | warmWaitExpiry
  /-- No launch runs; what the island finds, microseconds that a flush takes, and what running transfers had moved (R458). -/
  | warmResetProceed (e : StartEnv) (us : Nat) (cut : List (Nat × List Byte))
  /-- A write of BOOT_PRESET with GO = 1 and a domain (R459). -/
  | partialReset (w : Writer) (d : Nat)
  /-- The partial reset ends (R459). -/
  | partialResetDone
  /-- A write of FWU_CTL.BEGIN = 1; what the host answers to the read of the manifest, and what the island finds in recovery mode (R469). -/
  | fwuBegin (w : Writer) (data : Option (List Byte)) (e : StartEnv)
  /-- A write of FWU_CTL.CHUNK_GO = 1; what the host answers to the read of the chunk (R470). -/
  | chunkGo (w : Writer) (data : Option (List Byte))
  /-- The program of a chunk ends; whether its read-back matches (R470). -/
  | chunkProgramDone (ok : Bool)
  /-- A write of FWU_CTL.ACTIVATE = 1 (R472). -/
  | activate (w : Writer)
  /-- A write of FWU_CTL.ABORT = 1 (R472). -/
  | abort (w : Writer)
  /-- A write of FWU_CTL.HEALTH = 1 (R477). -/
  | health (w : Writer)
  /-- Powered trial time has reached 1,800 s (R478). -/
  | trialExpiry
  /-- 60 s of trial time have passed (R476). -/
  | trialFlushTimer
  /-- A chain manifest comes from the parent; what the island finds in recovery mode (R474). -/
  | chainManifest (m : List Byte) (e : StartEnv)
  /-- A chain chunk comes from the parent (R474). -/
  | chainChunk (index : Nat) (bs : List Byte)
  /-- CHAIN_RATE lets the next message go on a port (R473). -/
  | chainForward (p : Nat)
  /-- 1 s has passed (R475). -/
  | bitmapReportTimer
  /-- A member's report comes in on a port (R475). -/
  | bitmapReport (p id : Nat) (digest : List Byte) (bits : List Nat)
  /-- A write of a page's LOCK register, by block type and instance (R491). -/
  | lock (ty inst v : Nat)
  /-- A write of 1 to ALL of the BOOT page's LOCK register (R491). -/
  | lockAll
  /-- A write of a page's IRQ_EN register (R489). -/
  | irqEnWrite (ty inst v : Nat)
  /-- A write of 4 or 8 bytes at an offset of a page, by block type and instance (R485, R486). -/
  | registerWrite (w : Writer) (ty inst off bytes v : Nat) (e : WriteEnv)
  /-- Input power is lost, or hold-up runs out (R367). -/
  | inputPowerLoss
  /-- A second has passed (R447). -/
  | metricCountSecond
  /-- A neighbour reports a lost member (R340). -/
  | memberLossReport (id : Nat)
  deriving DecidableEq, Repr

end Sys2Proof
end

