-- ==== Sys2Proof/Machine/Table.lean ====
section
/-!
DEFINITION. Sparse tables: a list of key and value pairs with a default for every key that is not listed. One set of
operations serves the register file, the memories and every array of contexts, so each has one canonical form: keys
strictly rising, and no entry equal to the default.
-/

namespace Sys2Proof.Machine

/-- A sparse table of `α` by number. -/
abbrev Tbl (α : Type) := List (Nat × α)

/-- The value at `k`, or the default `d` where none is listed. -/
def tget {α : Type} (d : α) : Tbl α → Nat → α
  | [], _ => d
  | (k', v) :: t, k => if k = k' then v else tget d t k

/-- Lists `v` at `k`, in key order. -/
def tput {α : Type} (k : Nat) (v : α) : Tbl α → Tbl α
  | [] => [(k, v)]
  | (k', v') :: t =>
    if k < k' then (k, v) :: (k', v') :: t
    else if k = k' then (k, v) :: t
    else (k', v') :: tput k v t

/-- Takes every entry at `k` out. -/
def tdel {α : Type} (k : Nat) (t : Tbl α) : Tbl α := t.filter (fun e => e.1 ≠ k)

/-- Writes `v` at `k`: the entry goes when `v` is the default. -/
def tset {α : Type} [DecidableEq α] (d : α) (k : Nat) (v : α) (t : Tbl α) : Tbl α :=
  if v = d then tdel k t else tput k v t

/-- Changes the value at `k` by `f`. -/
def tmod {α : Type} [DecidableEq α] (d : α) (k : Nat) (f : α → α) (t : Tbl α) : Tbl α :=
  tset d k (f (tget d t k)) t

/-- Takes out every entry whose key lies in `[lo, hi)`: each reads as the default again. -/
def tclear {α : Type} (lo hi : Nat) (t : Tbl α) : Tbl α := t.filter (fun e => e.1 < lo || hi ≤ e.1)

/-- The canonical form: keys strictly rising and no entry equal to the default. -/
def twf {α : Type} [DecidableEq α] (d : α) : Tbl α → Bool
  | [] => true
  | [(_, v)] => v ≠ d
  | (k, v) :: (k', v') :: t => v ≠ d && k < k' && twf d ((k', v') :: t)

/-- The `n` values from key `a` on. -/
def tgets {α : Type} (d : α) (t : Tbl α) (a : Nat) : Nat → List α
  | 0 => []
  | n + 1 => tget d t a :: tgets d t (a + 1) n

/-- Writes the values `vs` at the keys from `a` on. -/
def tsets {α : Type} [DecidableEq α] (d : α) (a : Nat) : List α → Tbl α → Tbl α
  | [], t => t
  | v :: vs, t => tsets d (a + 1) vs (tset d a v t)

end Sys2Proof.Machine
end

