-- ==== Sys2Proof/Machine/Formats.lean ====
section
/-!
DEFINITION. Number formats and their arithmetic (chapter 04): element layouts (R99, R102), block scales (R103), packing
(R105, R106), rounding (R118, R119), conversions (R113 to R117), and the FP32 operations of the matrix and vector units
(R109, R111). A value is exact until it is rounded once into a format.
-/

namespace Sys2Proof.Machine

/-- An exact value: NaN, an infinity, or sign, magnitude and binary exponent (the number is `m × 2^e`). -/
inductive Val where
  | nan
  | inf (neg : Bool)
  | fin (neg : Bool) (m : Nat) (e : Int)
  deriving DecidableEq, Repr

/-- A floating-point layout of R99: exponent and mantissa bits, bias, the largest finite code without sign, whether
all-ones exponents hold infinity and NaN, and the canonical NaN of R100 where the format has one. -/
structure FloatFmt where
  eb      : Nat
  mb      : Nat
  bias    : Int
  maxCode : Nat
  ieee    : Bool
  nan     : Option Nat
  deriving DecidableEq, Repr

def fFP32 : FloatFmt := ⟨8, 23, 127, 0x7F7FFFFF, true, some 0x7FC00000⟩
def fBF16 : FloatFmt := ⟨8, 7, 127, 0x7F7F, true, some 0x7FC0⟩
def fFP16 : FloatFmt := ⟨5, 10, 15, 0x7BFF, true, some 0x7E00⟩
def fE4M3 : FloatFmt := ⟨4, 3, 7, 0x7E, false, some 0x7F⟩
def fE5M2 : FloatFmt := ⟨5, 2, 15, 0x7B, true, some 0x7E⟩
def fE3M2 : FloatFmt := ⟨3, 2, 3, 0x1F, false, none⟩
def fE2M3 : FloatFmt := ⟨2, 3, 1, 0x1F, false, none⟩
def fE2M1 : FloatFmt := ⟨2, 1, 1, 0x7, false, none⟩

/-- Bits of an element of a layout. -/
def floatBits (f : FloatFmt) : Nat := 1 + f.eb + f.mb

/-- The exact value of a code (R99). -/
def decodeFloat (f : FloatFmt) (c : Nat) : Val :=
  let neg := c / 2 ^ (f.eb + f.mb) % 2 = 1
  let ex := c / 2 ^ f.mb % 2 ^ f.eb
  let m := c % 2 ^ f.mb
  if f.ieee && ex = 2 ^ f.eb - 1 then (if m = 0 then .inf neg else .nan)
  else if !f.ieee && f.nan.isSome && c % 2 ^ (f.eb + f.mb) = f.maxCode + 1 then .nan
  else if ex = 0 then .fin neg m (1 - f.bias - f.mb)
  else .fin neg (2 ^ f.mb + m) (ex - f.bias - f.mb)

/-- Whether a magnitude is rounded up (R118, R119): `f` of `d` discarded bits, `lsb` the last kept bit, and the
generator's word for stochastic rounding. -/
def roundUp (rnd : Option Nat) (lsb f d : Nat) : Bool :=
  match rnd with
  | none => if 2 * f = 2 ^ d then lsb % 2 = 1 else 2 ^ d < 2 * f
  | some r =>
    if d ≤ 64 then 2 ^ d ≤ f + r / 2 ^ (64 - d) && f ≠ 0
    else
      let g := f / 2 ^ (d - 64)
      2 ^ 64 ≤ g + r && g ≠ 0

/-- `m × 2^e` in units of `2^q`, rounded to a whole number. -/
def roundQuantum (rnd : Option Nat) (m : Nat) (e q : Int) : Nat :=
  if q ≤ e then m * 2 ^ (e - q).toNat
  else
    let d := (q - e).toNat
    let t := m / 2 ^ d
    t + (if roundUp rnd t (m % 2 ^ d) d then 1 else 0)

/-- The code without sign that the magnitude `m × 2^e` rounds to; it lies above `f.maxCode` when the rounded magnitude is
beyond the largest finite value (R115). -/
def roundMag (f : FloatFmt) (rnd : Option Nat) (m : Nat) (e : Int) : Nat :=
  if m = 0 then 0
  else
    let qmin : Int := 1 - f.bias - f.mb
    let q := max ((m.log2 : Int) + e - f.mb) qmin
    (q - qmin).toNat * 2 ^ f.mb + roundQuantum rnd m e q

/-- Sign bit of a layout. -/
def signBit (f : FloatFmt) (neg : Bool) : Nat := if neg then 2 ^ (f.eb + f.mb) else 0

/-- Rounds a value once into a layout (R114 to R116): overflow goes to infinity where the layout has it and saturates
otherwise; BF16 results below its smallest normal are zero. -/
def encodeFloat (f : FloatFmt) (rnd : Option Nat) : Val → Nat
  | .nan => f.nan.getD 0
  | .inf neg => signBit f neg + (if f.ieee then f.maxCode + 1 else f.maxCode)
  | .fin neg m e =>
    let c := roundMag f rnd m e
    let c := if f = fBF16 && c < 2 ^ f.mb then 0 else c
    if f.maxCode < c then signBit f neg + (if f.ieee then f.maxCode + 1 else f.maxCode)
    else signBit f neg + c

/-- Rounds a value once into an integer range (R115): NaN gives 0, values beyond the range its nearest end. -/
def encodeInt (lo hi : Int) (rnd : Option Nat) : Val → Int
  | .nan => 0
  | .inf neg => if neg then lo else hi
  | .fin neg m e =>
    let n : Int := roundQuantum rnd m e 0
    max lo (min hi (if neg then -n else n))

/-- A whole number as a value. -/
def intVal (i : Int) : Val := .fin (i < 0) i.natAbs 0

/-- Two's complement code of `i` in `w` bits. -/
def codeInt (w : Nat) (i : Int) : Nat := (i % (2 ^ w : Int)).toNat

/-- The signed number that `w` bits spell. -/
def signedOf (w c : Nat) : Int := if 2 * (c % 2 ^ w) < 2 ^ w then (c % 2 ^ w : Int) else (c % 2 ^ w : Int) - (2 ^ w : Int)

/-! ### Format codes (R98) -/

/-- Bits of an element of a format code; T5 (0xE) packs five elements in a byte and has no width of its own. -/
def fmtBits : Nat → Nat
  | 0 => 32 | 1 => 16 | 2 => 16 | 3 => 8 | 4 => 8 | 5 => 8 | 6 => 6 | 7 => 6 | 8 => 4 | 9 => 8 | 10 => 8 | 11 => 8
  | 12 => 4 | 13 => 32 | 15 => 8 | _ => 0

/-- Formats with one E8M0 scale for each 32 elements. -/
def fmtIsMx (f : Nat) : Bool := (5 ≤ f && f ≤ 9) || f = 15

/-- The floating-point layout of a format code's elements. -/
def fmtFloat : Nat → Option FloatFmt
  | 0 => some fFP32 | 1 => some fBF16 | 2 => some fFP16 | 3 => some fE4M3 | 4 => some fE5M2 | 5 => some fE4M3
  | 6 => some fE3M2 | 7 => some fE2M3 | 8 => some fE2M1 | 15 => some fE5M2 | _ => none

/-- The exact value of an element's code, before any block scale (R99, R102). -/
def decodeElem (fmt c : Nat) : Val :=
  match fmtFloat fmt with
  | some f => decodeFloat f c
  | none =>
    match fmt with
    | 9 => match intVal (signedOf 8 c) with
      | .fin neg m e => .fin neg m (e - 6)
      | v => v
    | 10 => intVal (signedOf 8 c)
    | 11 => intVal (c % 256 : Nat)
    | 12 => intVal (signedOf 4 c)
    | 13 => intVal (signedOf 32 c)
    | _ => .nan

/-- Multiplies by the factor of a scale byte; 0xFF makes every element NaN (R103). -/
def scaleVal (sc : Nat) : Val → Val
  | .nan => .nan
  | .inf n => if sc = 255 then .nan else .inf n
  | .fin n m e => if sc = 255 then .nan else .fin n m (e + sc - 127)

/-- Bytes that `n` packed elements of a format take (R105). -/
def packedLen (fmt n : Nat) : Nat := if fmt = 14 then (n + 4) / 5 else (n * fmtBits fmt + 7) / 8

/-- Element `i` of a packed run (R105): its code's bits, from bit 0 of the lowest byte upward. -/
def unpackElem (fmt : Nat) (bs : List Byte) (i : Nat) : Nat :=
  let w := fmtBits fmt
  leNat ((bs.drop (i * w / 8)).take 5) / 2 ^ (i * w % 8) % 2 ^ w

/-- Weight `i` of a run of T5 bytes, as −1, 0 or 1, or nothing where its byte is a format fault (R106, R107). -/
def t5Weight (bs : List Byte) (i : Nat) : Option Int :=
  let b := ((bs.drop (i / 5)).headD 121).toNat
  if 243 ≤ b then none else some ((b / 3 ^ (i % 5) % 3 : Nat) - 1)

/-- Packs codes of `w` bits from bit 0 of the lowest byte upward; left-over bits are 0 (R105). -/
def packCodes (w : Nat) (cs : List Nat) : List Byte :=
  leBytes ((cs.length * w + 7) / 8) (cs.foldr (fun c acc => c % 2 ^ w + 2 ^ w * acc) 0)

/-- Packs weights five to a byte; unused slots carry the digit for 0 (R105, R106). -/
def packT5 : List Int → List Byte
  | [] => []
  | a :: b :: c :: d :: e :: r =>
    BitVec.ofInt 8 ((a + 1) + 3 * (b + 1) + 9 * (c + 1) + 27 * (d + 1) + 81 * (e + 1)) :: packT5 r
  | r =>
    let g := fun i => r.getD i 0 + 1
    [BitVec.ofInt 8 (g 0 + 3 * g 1 + 9 * g 2 + 27 * g 3 + 81 * g 4)]

/-! ### FP32 arithmetic (R109, R111) -/

/-- The exact product of two values; infinity times zero and any NaN are NaN. -/
def valMul : Val → Val → Val
  | .nan, _ => .nan
  | _, .nan => .nan
  | .inf a, .inf b => .inf (xor a b)
  | .inf a, .fin b m _ => if m = 0 then .nan else .inf (xor a b)
  | .fin a m _, .inf b => if m = 0 then .nan else .inf (xor a b)
  | .fin a m e, .fin b m' e' => .fin (xor a b) (m * m') (e + e')

/-- The exact sum of two values; zeros of one sign keep it, and any other exact zero is +0 (R101). -/
def valAdd : Val → Val → Val
  | .nan, _ => .nan
  | _, .nan => .nan
  | .inf a, .inf b => if a = b then .inf a else .nan
  | .inf a, .fin .. => .inf a
  | .fin .., .inf b => .inf b
  | .fin a m e, .fin b m' e' =>
    if m = 0 && m' = 0 then .fin (a && b) 0 0
    else
      let q := min e e'
      let x : Int := m * 2 ^ (e - q).toNat
      let y : Int := m' * 2 ^ (e' - q).toNat
      let z := (if a then -x else x) + (if b then -y else y)
      .fin (z < 0) z.natAbs q

def fp32 (c : Nat) : Val := decodeFloat fFP32 c
def toFp32 (v : Val) : Nat := encodeFloat fFP32 none v

def fp32Add (a b : Nat) : Nat := toFp32 (valAdd (fp32 a) (fp32 b))
def fp32Mul (a b : Nat) : Nat := toFp32 (valMul (fp32 a) (fp32 b))
/-- `a × b + c` with one rounding (R111). -/
def fp32Fma (a b c : Nat) : Nat := toFp32 (valAdd (valMul (fp32 a) (fp32 b)) (fp32 c))

/-- `a` less than `b`, with −0 less than +0 (R111); neither is NaN. -/
def valLt : Val → Val → Bool
  | .inf a, .inf b => a && !b
  | .inf a, .fin .. => a
  | .fin .., .inf b => !b
  | .fin a m e, .fin b m' e' =>
    if m = 0 && m' = 0 then a && !b
    else
      let q := min e e'
      let x : Int := m * 2 ^ (e - q).toNat
      let y : Int := m' * 2 ^ (e' - q).toNat
      (if a then -x else x) < (if b then -y else y)
  | _, _ => false

def isNan (c : Nat) : Bool := fp32 c = .nan

/-- MAX and RMAX: the canonical NaN when any operand is NaN (R111). -/
def fp32Max (a b : Nat) : Nat :=
  if isNan a || isNan b then 0x7FC00000 else if valLt (fp32 a) (fp32 b) then b else a

def fp32Min (a b : Nat) : Nat :=
  if isNan a || isNan b then 0x7FC00000 else if valLt (fp32 b) (fp32 a) then b else a

/-- One level of the binary tree of R111. -/
def sumPairs : List Nat → List Nat
  | a :: b :: r => fp32Add a b :: sumPairs r
  | r => r

/-- The 64 lane sums of R111: lane `i` sums the elements whose index is `i` mod 64, in increasing index. A lane
without elements stays +0. -/
def laneSum (xs : List Nat) (i : Nat) : Nat :=
  match (List.range ((xs.length + 63 - i) / 64)).map (fun j => xs.getD (64 * j + i) 0) with
  | [] => 0
  | a :: r => r.foldl fp32Add a

/-- RSUM (R111). -/
def rsumList (xs : List Nat) : Nat :=
  (sumPairs (sumPairs (sumPairs (sumPairs (sumPairs (sumPairs ((List.range 64).map (laneSum xs)))))))).headD 0

/-- RMAX (R111). -/
def rmaxList : List Nat → Nat
  | [] => 0xFF800000
  | a :: r => r.foldl fp32Max (if isNan a then 0x7FC00000 else a)

/-- One accumulator element of an MMA (R109, R110): slices in increasing `k`, one rounding for each. -/
def mmaElem (acc : Nat) : List (Val × Val) → Nat
  | [] => acc
  | (a, b) :: r => mmaElem (toFp32 (valAdd (valMul a b) (fp32 acc))) r

/-! ### The special-function unit (R112) -/

/-- Subnormal inputs are flushed to zero of the same sign (R112). -/
def flushSub (c : Nat) : Nat := if c % 0x80000000 < 0x800000 then c / 0x80000000 % 2 * 0x80000000 else c

/-- The results that R112 states; `none` where only an error bound is stated. `op` is 0 EXP, 1 LOG, 2 RECIP, 3 RSQRT. -/
def sfuSpecial (op c : Nat) : Option Nat :=
  let neg := c / 0x80000000 % 2 = 1
  match fp32 (flushSub c) with
  | .nan => some 0x7FC00000
  | .inf n =>
    match op with
    | 0 => some (if n then 0 else 0x7F800000)
    | 1 => some (if n then 0x7FC00000 else 0x7F800000)
    | 2 => some (if n then 0x80000000 else 0)
    | _ => some (if n then 0x7FC00000 else 0)
  | .fin _ m _ =>
    match op with
    | 0 => none
    | 1 => if m = 0 then some 0xFF800000 else if neg then some 0x7FC00000 else none
    | 2 => if m = 0 then some (if neg then 0xFF800000 else 0x7F800000) else none
    | _ => if m = 0 then some (if neg then 0xFF800000 else 0x7F800000) else if neg then some 0x7FC00000 else none

/-! ### Conversions (R113 to R117) -/

/-- The pairs that CVT converts (R113). -/
def cvtPair (a b : Nat) : Bool :=
  match a with
  | 0 | 1 => b ≠ a && b ≠ 14 && b < 16
  | 2 => [0, 1, 3, 4, 10, 11, 12, 13].contains b
  | 3 => [0, 1, 2, 4, 10, 11, 12, 13].contains b
  | 4 => [0, 1, 2, 3, 10, 11, 12, 13].contains b
  | 10 => [0, 1, 2, 11, 12, 13, 14].contains b
  | 11 => [0, 1, 2, 10, 13].contains b
  | 12 => [0, 1, 2, 10, 13].contains b
  | 13 => [0, 1, 2, 10, 11, 12].contains b
  | 14 => [0, 1, 2, 10].contains b
  | _ => fmtIsMx a && (b = 0 || b = 1)

/-- Rounds a value into a target without block scale (R114 to R116). -/
def encodeElem (fmt : Nat) (rnd : Option Nat) (v : Val) : Nat :=
  match fmtFloat fmt with
  | some f => encodeFloat f rnd v
  | none =>
    match fmt with
    | 10 => codeInt 8 (encodeInt (-128) 127 rnd v)
    | 11 => codeInt 8 (encodeInt 0 255 rnd v)
    | 12 => codeInt 4 (encodeInt (-8) 7 rnd v)
    | _ => codeInt 32 (encodeInt (-2147483648) 2147483647 rnd v)

/-- ⌊log2⌋ of a positive magnitude. -/
def valLog2 : Val → Option Int
  | .fin _ m e => if m = 0 then none else some (m.log2 + e)
  | _ => none

/-- The scale exponent X of a block (R117 order 3), or nothing where order 2 gives the scale byte 0x00. -/
def mxExp (emax : Int) (vs : List Val) : Option Int :=
  match vs.filterMap valLog2 with
  | [] => none
  | a :: r => some (max (-127) (min 127 (r.foldl max a - emax)))

/-- Largest exponent of an element type (R117). -/
def mxEmax : Nat → Int
  | 5 => 8 | 15 => 15 | 6 => 4 | 7 => 2 | 8 => 2 | _ => 0

/-- Rounds an element already divided by its block factor into an MX element type (R117 order 4). -/
def encodeMx (fmt : Nat) (rnd : Option Nat) : Val → Nat
  | .nan => 0
  | .inf neg =>
    match fmtFloat fmt with
    | some f => signBit f neg + (if f.ieee then f.maxCode + 1 else f.maxCode)
    | none => if neg then 0x80 else 0x7F
  | .fin neg m e =>
    match fmtFloat fmt with
    | some f => signBit f neg + min f.maxCode (roundMag f rnd m e)
    | none => codeInt 8 (encodeInt (-128) 127 rnd (.fin neg m (e + 6)))

/-- One block in an MX format: its scale byte and element codes (R117). `rnd i` is the generator's word of element `i`. -/
def mxBlock (fmt : Nat) (rnd : Nat → Option Nat) (i0 : Nat) (vs : List Val) : Nat × List Nat :=
  if vs.contains .nan then (255, vs.map (fun _ => 0))
  else
    match mxExp (mxEmax fmt) vs with
    | none => (0, vs.mapIdx (fun i v => encodeMx fmt (rnd (i0 + i)) v))
    | some x => ((x + 127).toNat, vs.mapIdx (fun i v => encodeMx fmt (rnd (i0 + i)) (match v with
        | .fin n m e => .fin n m (e - x)
        | w => w)))

/-- The counter-based generator of R120. -/
def generator (key counter : Nat) : Nat :=
  let m := 2 ^ 64
  let x := key % m ^^^ (counter * 0x9E3779B97F4A7C15 % m)
  let x := (x ^^^ x / 2 ^ 30) * 0xBF58476D1CE4E5B9 % m
  let x := (x ^^^ x / 2 ^ 27) * 0x94D049BB133111EB % m
  x ^^^ x / 2 ^ 31

/-- The counter of stochastic rounding (R120). -/
def roundCounter (step cell elem : Nat) : Nat :=
  step % 2 ^ 32 * 2 ^ 32 + cell % 256 * 2 ^ 24 + elem % 2 ^ 24

/-- K slices that the matrix unit completes in eight steps for a pair of formats (R64); 0 for a pair it does not accept
(R108). -/
def slicesPer8 (a b : Nat) : Nat :=
  let n := fun f => decide (f = 3 ∨ f = 4 ∨ f = 5 ∨ f = 9 ∨ f = 10 ∨ f = 11 ∨ f = 15)
  let s := fun f => decide (f = 6 ∨ f = 7 ∨ f = 8 ∨ f = 12)
  if a = 13 ∨ a = 14 ∨ b = 13 then 0
  else if b = 14 then (if n a || s a then 32 else 0)
  else if a = 0 ∨ b = 0 then 1
  else if a = 1 ∨ a = 2 ∨ b = 1 ∨ b = 2 then 4
  else if s a && s b then 16
  else 8

/-- Busy period of an MMA (R72). -/
def mmaBusy (a b k : Nat) : Nat := (8 * k + slicesPer8 a b - 1) / slicesPer8 a b

end Sys2Proof.Machine
end

