-- ==== Sys2Proof/Config.lean ====
section
/-!
DEFINITION. What the spec leaves open: constants without a body, of which nothing can be proved but what holds for every
value.
-/

namespace Sys2Proof.Config

/-- Free values: the `i`-th value that the spec leaves open in the event that the counter numbers. -/
opaque free : Nat → Nat → Nat

/-- Bytes of the NOR devices as manufacture left them, by device × 2^26 + address: the images of the slots (R464). -/
opaque norByte : Nat → Byte

end Sys2Proof.Config
end

