-- ==== Sys2Proof/Machine/Bytes.lean ====
section
/-!
DEFINITION. Fields of byte structures (R11), and SHAKE256, by which the spec names its digests. SHAKE256 is the extendable
output function of FIPS 202; the spec names it and does not lay it out (PRESUMED, log entry 12).
-/

namespace Sys2Proof.Machine

/-- Bits `[lo, lo + w)` of a number. -/
def bitsOf (x lo w : Nat) : Nat := x / 2 ^ lo % 2 ^ w

/-- Bytes `[a, a + n)` of a structure, little-endian (R11). -/
def fieldAt (bs : List Byte) (a n : Nat) : Nat := leNat ((bs.drop a).take n)

/-- Rotates a 64-bit lane left. -/
def rotl64 (x n : Nat) : Nat := (x * 2 ^ n + x / 2 ^ (64 - n)) % 2 ^ 64

/-- Round constants of Keccak-f[1600]. -/
def keccakRc : List Nat :=
  [0x1, 0x8082, 0x800000000000808A, 0x8000000080008000, 0x808B, 0x80000001, 0x8000000080008081, 0x8000000000008009, 0x8A,
   0x88, 0x80008009, 0x8000000A, 0x8000808B, 0x800000000000008B, 0x8000000000008089, 0x8000000000008003,
   0x8000000000008002, 0x8000000000000080, 0x800A, 0x800000008000000A, 0x8000000080008081, 0x8000000000008080,
   0x80000001, 0x8000000080008008]

/-- Rotation offsets by lane `x + 5 y`. -/
def keccakRot : List Nat :=
  [0, 1, 62, 28, 27, 36, 44, 6, 55, 20, 3, 10, 43, 25, 39, 41, 45, 15, 21, 8, 18, 2, 61, 56, 14]

/-- One round on 25 lanes. -/
def keccakRound (a : List Nat) (rc : Nat) : List Nat :=
  let c := (List.range 5).map (fun x => (List.range 5).foldl (fun v y => v ^^^ a.getD (x + 5 * y) 0) 0)
  let d := (List.range 5).map (fun x => c.getD ((x + 4) % 5) 0 ^^^ rotl64 (c.getD ((x + 1) % 5) 0) 1)
  let e := (List.range 25).map (fun i => rotl64 (a.getD i 0 ^^^ d.getD (i % 5) 0) (keccakRot.getD i 0))
  let b := (List.range 25).map (fun i =>
    let x := i % 5
    let y := i / 5
    e.getD ((x + 3 * y) % 5 + 5 * x) 0)
  (List.range 25).map (fun i =>
    let y := 5 * (i / 5)
    let v := b.getD i 0 ^^^ ((2 ^ 64 - 1 - b.getD (y + (i + 1) % 5) 0) &&& b.getD (y + (i + 2) % 5) 0)
    if i = 0 then v ^^^ rc else v)

def keccakF (a : List Nat) : List Nat := keccakRc.foldl keccakRound a

/-- Absorbs one block of 136 bytes. -/
def shakeBlock (a : List Nat) (blk : List Byte) : List Nat :=
  keccakF ((List.range 25).map (fun i => a.getD i 0 ^^^ (if i < 17 then fieldAt blk (8 * i) 8 else 0)))

/-- Absorbs the padded message, block by block. -/
def shakeAbsorb : Nat → List Nat → List Byte → List Nat
  | 0, a, _ => a
  | n + 1, a, bs =>
    if bs.length < 136 then
      let blk := bs ++ [0x1F] ++ List.replicate (135 - bs.length) 0
      shakeBlock a (blk.take 135 ++ [(blk.getD 135 0) ||| 0x80])
    else shakeAbsorb n (shakeBlock a (bs.take 136)) (bs.drop 136)

/-- The first `n` bytes, at most 136, of SHAKE256 of a message. -/
def shake256 (bs : List Byte) (n : Nat) : List Byte :=
  ((shakeAbsorb (bs.length / 136 + 1) (List.replicate 25 0) bs).take 17 |>.flatMap (leBytes 8)).take n

end Sys2Proof.Machine
end

