-- ==== Sys2Proof/Machine/PlanImage.lean ====
section
/-!
DEFINITION. The layout of a plan image (chapter 05, R69 to R71, R122 to R137) and the checks of orders 4 to 6, 9 and 10 of
R139 that can be made on the image itself.
-/

namespace Sys2Proof.Machine

/-! ### Header and directory (R123, R125) -/

def imgMagic (b : List Byte) : Nat := fieldAt b 0 4
def imgLen (b : List Byte) : Nat := fieldAt b 8 4
def imgSections (b : List Byte) : Nat := fieldAt b 12 2
def imgVariants (b : List Byte) : Nat := fieldAt b 14 2
def imgClass (b : List Byte) : Nat := fieldAt b 16 1
def imgAttn (b : List Byte) : Nat := bitsOf (fieldAt b 17 1) 0 2
def imgPace (b : List Byte) : Nat := fieldAt b 18 2
def imgMemcMask (b : List Byte) : Nat := fieldAt b 20 4
def imgQuadMask (b : List Byte) : Nat := fieldAt b 24 8
def imgWeightLen (b : List Byte) : Nat := fieldAt b 32 8
def imgScratchLen (b : List Byte) : Nat := fieldAt b 40 8
def imgIoLen (b : List Byte) : Nat := fieldAt b 48 8
def imgLayers (b : List Byte) : Nat := fieldAt b 56 2
def imgKvBytes (b : List Byte) : Nat := fieldAt b 60 4
/-- The image's digest is taken with the DIGEST field set to 0 (R123). -/
def imgDigestOk (b : List Byte) : Bool :=
  (b.drop 80).take 64 = shake256 (b.take 80 ++ List.replicate 64 0 ++ b.drop 144) 64

/-- Positions of the bits set in a mask, upward. -/
def maskBits (m n : Nat) : List Nat := (List.range n).filter (fun i => m / 2 ^ i % 2 = 1)
def imgQuads (b : List Byte) : List Nat := maskBits (imgQuadMask b) 64
def imgCells (b : List Byte) : List Nat := (imgQuads b).flatMap (fun q => [4 * q, 4 * q + 1, 4 * q + 2, 4 * q + 3])
def imgMemcs (b : List Byte) : List Nat := maskBits (imgMemcMask b) 32
/-- log2 of the tokens per page (R178). -/
def tppLog2Of (kvBytes : Nat) : Nat := Nat.log2 (16384 / max kvBytes 1)
/-- Tokens per page of a plan. -/
def imgTppLog2 (b : List Byte) : Nat := tppLog2Of (imgKvBytes b)

/-- A directory entry (R125). -/
structure Section where
  ty      : Nat
  variant : Nat
  item    : Nat
  off     : Nat
  len     : Nat
  deriving DecidableEq, Repr

def sectionAt (b : List Byte) (i : Nat) : Section :=
  let o := 256 + 16 * i
  { ty := fieldAt b o 2, variant := fieldAt b (o + 2) 2, item := fieldAt b (o + 4) 2, off := fieldAt b (o + 8) 4,
    len := fieldAt b (o + 12) 4 }
def imgDir (b : List Byte) : List Section := (List.range (imgSections b)).map (sectionAt b)
def sectionBytes (b : List Byte) (x : Section) : List Byte := (b.drop (64 * x.off)).take (64 * x.len)
def findSection (b : List Byte) (ty v item : Nat) : Option Section :=
  (imgDir b).find? (fun x => x.ty = ty && x.variant = v && x.item = item)
/-- Bytes of a section, or none at all where the image has no such section. -/
def sectionData (b : List Byte) (ty v item : Nat) : List Byte := ((findSection b ty v item).map (sectionBytes b)).getD []

/-! ### Variants (R127) -/

structure Variant where
  kind     : Nat
  bucket   : Nat
  batch    : Nat
  specLen  : Nat
  needsRes : Bool
  steps    : Nat
  maxCtx   : Nat
  routes   : Nat
  mems     : Nat
  compares : Nat
  deriving DecidableEq, Repr

def variantOf (x : List Byte) : Variant :=
  { kind := fieldAt x 0 1, bucket := fieldAt x 1 1, batch := fieldAt x 2 2, specLen := bitsOf (fieldAt x 4 1) 0 4,
    needsRes := bitsOf (fieldAt x 4 1) 4 1 = 1, steps := fieldAt x 8 8, maxCtx := fieldAt x 16 4, routes := fieldAt x 20 4,
    mems := fieldAt x 24 4, compares := fieldAt x 28 2 }
def variantAt (b : List Byte) (v : Nat) : Variant := variantOf ((sectionData b 1 0xFFFF 0).drop (32 * v))
def imgVariantList (b : List Byte) : List Variant := (List.range (imgVariants b)).map (variantAt b)

/-! ### Instructions (R69 to R71) -/

/-- An instruction of a stream with its issue step. -/
structure PlanInstr where
  cls   : Nat
  op    : Nat
  issue : Nat
  raw   : List Byte
  deriving DecidableEq, Repr

/-- Reads instructions up to the first END; bytes after it are padding (R128). -/
def readStream : Nat → Nat → List Byte → List PlanInstr
  | 0, _, _ => []
  | n + 1, t, bs =>
    let x := bs.take 16
    let c := bitsOf (fieldAt x 0 1) 4 4
    let o := bitsOf (fieldAt x 0 1) 0 4
    let i := t + fieldAt x 1 3
    { cls := c, op := o, issue := i, raw := x } :: (if c = 0 ∧ o = 1 then [] else readStream n i (bs.drop 16))
def streamOf (b : List Byte) (v cell : Nat) : List PlanInstr :=
  let d := sectionData b 2 v cell
  readStream (d.length / 16) 0 d

def mmaOf (x : List Byte) : MmaArgs :=
  { aAddr := fieldAt x 4 2, bAddr := fieldAt x 6 2, k := fieldAt x 8 2, bFmt := bitsOf (fieldAt x 10 1) 4 4,
    aFmt := bitsOf (fieldAt x 10 1) 0 4, m := bitsOf (fieldAt x 11 1) 0 7, acc := bitsOf (fieldAt x 11 1) 7 1,
    n := bitsOf (fieldAt x 12 1) 0 6, zero := bitsOf (fieldAt x 12 1) 6 1 = 1, scale := fieldAt x 13 2 }
def vecOf (sfu : Bool) (x : List Byte) : VecArgs :=
  { src1 := fieldAt x 4 2, src2 := if sfu then 0 else fieldAt x 6 2, dst := fieldAt x 8 2, l := fieldAt x 10 2,
    s1 := bitsOf (fieldAt x 12 1) 0 2, s2 := if sfu then 0 else bitsOf (fieldAt x 12 1) 2 2,
    inFmt := bitsOf (fieldAt x 12 1) 4 2 }
def cvtOf (x : List Byte) : CvtArgs :=
  { src1 := fieldAt x 4 2, dst := fieldAt x 8 2, l := fieldAt x 10 2, fromF := bitsOf (fieldAt x 12 1) 0 4,
    toF := bitsOf (fieldAt x 12 1) 4 4, round := bitsOf (fieldAt x 13 1) 0 1 = 1 }
def moveOf (x : List Byte) : MoveArgs :=
  { loc := fieldAt x 4 2, units := fieldAt x 6 2, chan := bitsOf (fieldAt x 8 1) 0 1, entry := fieldAt x 9 3 }
def moveKind (x : List Byte) : Nat := bitsOf (fieldAt x 8 1) 1 3

/-- Operations of a class (R70). -/
def opCount : Nat → Nat
  | 0 => 3 | 1 => 1 | 2 => 9 | 3 => 4 | 4 => 1 | 5 => 1 | 6 => 2 | _ => 0

/-- Bytes from a store address stay within the store (R75). -/
def inStore (a n : Nat) : Bool := 64 * a + n ≤ 4194304
/-- Bytes of a CVT operand or compared tensor: elements, then the scales on the next 64-byte unit (R104). -/
def tensorBytes (fmt n : Nat) : Nat :=
  if fmtIsMx fmt then (packedLen fmt n + 63) / 64 * 64 + (n + 31) / 32 else packedLen fmt n
/-- Bytes of an MMA's scales (R104). -/
def mmaScaleBytes (a : MmaArgs) : Nat :=
  let pa := if fmtIsMx a.aFmt then a.m * ((a.k + 31) / 32) else 0
  let pb := if fmtIsMx a.bFmt then a.n * ((a.k + 31) / 32) else 0
  if 0 < pa && 0 < pb then (pa + 63) / 64 * 64 + pb else pa + pb

/-- The length rules of R75 for an instruction of a variant. -/
def instrLenOk (va : Variant) (i : PlanInstr) : Bool :=
  match i.cls with
  | 1 =>
    let a := mmaOf i.raw
    1 ≤ a.k && a.k ≤ 65534 && 1 ≤ a.m && a.m ≤ 64 && 1 ≤ a.n && a.n ≤ 32 &&
      (slicesPer8 a.aFmt a.bFmt = 0 || (inStore a.aAddr (a.k * packedLen a.aFmt a.m) &&
        inStore a.bAddr (a.k * packedLen a.bFmt a.n) && (mmaScaleBytes a = 0 || inStore a.scale (mmaScaleBytes a))))
  | 2 =>
    let a := vecOf false i.raw
    let eb := if a.inFmt = 0 then 4 else 2
    1 ≤ a.l && a.l ≤ 65534 && (a.s1 ≠ 0 || inStore a.src1 (eb * a.l)) &&
      (i.op = 5 || i.op = 6 || i.op = 8 || a.s2 ≠ 0 || inStore a.src2 (if i.op = 7 then eb else eb * a.l)) &&
      inStore a.dst (if i.op = 5 || i.op = 6 then 4 else 4 * a.l)
  | 3 =>
    let a := vecOf true i.raw
    1 ≤ a.l && a.l ≤ 65534 && (a.s1 ≠ 0 || inStore a.src1 ((if a.inFmt = 0 then 4 else 2) * a.l)) && inStore a.dst (4 * a.l)
  | 4 =>
    let a := cvtOf i.raw
    1 ≤ a.l && a.l ≤ 65534 && inStore a.src1 (tensorBytes a.fromF a.l) && inStore a.dst (tensorBytes a.toF a.l)
  | 5 =>
    let a := moveOf i.raw
    let k := moveKind i.raw
    1 ≤ a.units && a.units ≤ 65534 && inStore a.loc (64 * a.units) &&
      (if k = 2 then inStore (a.entry % 65536) (64 * a.units)
       else if k < 2 then a.entry < va.mems else if k < 6 then a.entry < va.routes else true)
  | _ => true

/-- No reserved value in an instruction (R70, R71, R108, R113). Reserved bits and bytes are ignored (R12). -/
def instrValOk (i : PlanInstr) : Bool :=
  i.op < opCount i.cls &&
  (match i.cls with
   | 1 => slicesPer8 (mmaOf i.raw).aFmt (mmaOf i.raw).bFmt ≠ 0
   | 2 => (vecOf false i.raw).s1 < 3 && (vecOf false i.raw).s2 < 3 && (vecOf false i.raw).inFmt < 3
   | 3 => (vecOf true i.raw).s1 < 3 && (vecOf true i.raw).inFmt < 3
   | 4 => cvtPair (cvtOf i.raw).fromF (cvtOf i.raw).toF
   | 5 => moveKind i.raw < 6
   | _ => true)

/-- Unit that an instruction occupies (as in `unitFree`; 0 none), its busy period, and how long after it the result is
readable (R72). The busy period of ATTN cannot be evaluated from the image (R128). -/
def instrBusy (i : PlanInstr) : Nat × Nat × Nat :=
  match i.cls with
  | 1 => (1, mmaBusy (mmaOf i.raw).aFmt (mmaOf i.raw).bFmt (mmaOf i.raw).k, 6)
  | 2 => (2, ((vecOf false i.raw).l + 63) / 64, 4)
  | 3 => (3, ((vecOf true i.raw).l + 15) / 16, 8)
  | 4 => (2, ((cvtOf i.raw).l + 63) / 64, 3)
  | 5 => (4 + (moveOf i.raw).chan, (64 * (moveOf i.raw).units + 255) / 256, 0)
  | _ => (0, 0, 0)

/-! ### Route and memory entries, compare points (R130, R132, R137) -/

structure RouteEntry where
  src    : Nat
  dst    : Nat
  start  : Nat
  arrive : Nat
  bytes  : Nat
  colFirst : Bool
  lane1  : Nat
  lane2  : Nat
  deriving DecidableEq, Repr

def routeOf (x : List Byte) : RouteEntry :=
  { src := fieldAt x 0 2, dst := fieldAt x 2 2, start := fieldAt x 4 6, arrive := fieldAt x 10 6, bytes := fieldAt x 16 4,
    colFirst := bitsOf (fieldAt x 20 1) 0 1 = 1, lane1 := fieldAt x 21 1, lane2 := fieldAt x 22 1 }
def routeAt (b : List Byte) (v i : Nat) : RouteEntry := routeOf (((sectionData b 3 v 0).drop (32 * i)).take 32)
def routesOf (b : List Byte) (v : Nat) : List RouteEntry := (List.range (variantAt b v).routes).map (routeAt b v)

structure MemEntry where
  kind   : Nat
  pchan  : Nat
  cell   : Nat
  region : Nat
  store  : Nat
  units  : Nat
  addr   : Nat
  issue  : Nat
  arrive : Nat
  deriving DecidableEq, Repr

def memEntryOf (x : List Byte) : MemEntry :=
  { kind := fieldAt x 0 1, pchan := bitsOf (fieldAt x 1 1) 0 7, cell := fieldAt x 2 1, region := bitsOf (fieldAt x 3 1) 0 2,
    store := fieldAt x 4 2, units := fieldAt x 6 2, addr := fieldAt x 8 8, issue := fieldAt x 16 6,
    arrive := fieldAt x 22 6 }
def memEntryAt (b : List Byte) (v i : Nat) : MemEntry := memEntryOf (((sectionData b 4 v 0).drop (32 * i)).take 32)
def memEntriesOf (b : List Byte) (v : Nat) : List MemEntry := (List.range (variantAt b v).mems).map (memEntryAt b v)
/-- Fields of a KV entry, which lie in ADDR (R132). -/
def kvRow (e : MemEntry) : Nat := bitsOf e.addr 0 16
def kvLayer (e : MemEntry) : Nat := bitsOf e.addr 16 8
def kvUnit (e : MemEntry) : Nat := bitsOf e.addr 24 8
def kvBlock (e : MemEntry) : Nat := bitsOf e.addr 32 15
def kvFromTail (e : MemEntry) : Bool := bitsOf e.addr 47 1 = 1
def isKv (e : MemEntry) : Bool := e.kind = 4 || e.kind = 5

structure ComparePoint where
  mark     : Nat
  cell     : Nat
  tokens   : Bool
  fmt      : Nat
  profile  : Nat
  region   : Nat
  addr     : Nat
  elements : Nat
  step     : Nat
  deriving DecidableEq, Repr

def compareOf (x : List Byte) : ComparePoint :=
  { mark := fieldAt x 0 2, cell := fieldAt x 2 1, tokens := bitsOf (fieldAt x 3 1) 0 1 = 1, fmt := bitsOf (fieldAt x 4 1) 0 4,
    profile := bitsOf (fieldAt x 4 1) 4 4, region := bitsOf (fieldAt x 5 1) 0 2, addr := fieldAt x 8 8,
    elements := fieldAt x 16 4, step := fieldAt x 20 6 }
def comparesOf (b : List Byte) (v : Nat) : List ComparePoint :=
  (List.range (variantAt b v).compares).map (fun i => compareOf (((sectionData b 5 v 0).drop (32 * i)).take 32))
/-- Bytes a compare point names: 8 for each token pair, or the tensor's (R352, R353). -/
def compareBytes (c : ComparePoint) : Nat := if c.tokens then 8 * c.elements else tensorBytes c.fmt c.elements

/-! ### Orders 5 and 6 of R139 -/

/-- Endpoint kind and index (R130). -/
def epKind (e : Nat) : Nat := e / 4096
def epIndex (e : Nat) : Nat := e % 4096
def epLimit : Nat → Nat
  | 0 => 256 | 1 => 64 | 2 => 32 | _ => 4096
def laneOk (l : Nat) : Bool := l < 240 || l = 255

def memLenOk (b : List Byte) (va : Variant) (e : MemEntry) : Bool :=
  e.pchan < 4 * (imgMemcs b).length &&
  (match e.kind with
   | 3 => e.units = 0
   | 6 => 1 ≤ e.units && e.units ≤ 65534
   | 2 => 1 ≤ e.units && e.units ≤ 65534 && e.addr % 64 = 0 && e.store + e.units ≤ 1024
   | 4 | 5 => 1 ≤ e.units && e.units ≤ 65534 && kvRow e < va.batch && kvUnit e + e.units ≤ 256 && inStore e.store (64 * e.units)
   | 0 | 1 => 1 ≤ e.units && e.units ≤ 65534 && e.addr % 64 = 0 && inStore e.store (64 * e.units)
   | _ => true)

def variantLenOk (b : List Byte) (v : Variant) : Bool :=
  1 ≤ v.batch && v.batch ≤ 4096 && (if v.kind = 2 ∨ v.kind = 3 then 1 ≤ v.specLen && v.specLen ≤ 8 else v.specLen = 0) &&
  1 ≤ v.steps && v.steps ≤ 2 ^ 48 - 2 && 1 ≤ v.maxCtx && v.maxCtx ≤ 0xFFFFFFFE &&
  (imgKvBytes b = 0 || v.maxCtx ≤ 32768 * 2 ^ imgTppLog2 b) &&
  v.routes < 0xFFFFFFFF && v.mems < 0xFFFFFFFF && v.compares < 0xFFFF

def sectionLenOk (b : List Byte) (x : Section) : Bool :=
  1 ≤ x.len && x.len < 0xFFFFFFFF && 64 * (x.off + x.len) ≤ b.length && (x.ty ≠ 2 || x.item < 256)

/-- The section of a type of a variant is long enough for its entries. -/
def entriesFit (b : List Byte) (ty v size n : Nat) : Bool := n = 0 || size * n ≤ (sectionData b ty v 0).length ||
  (findSection b ty v 0).isNone

/-- Every count, length, index and identifier within its range (order 5 of R139; R75, R130, R132, R137, R179, R296). What a missing
section would hold is not checked here: that it is missing is found at order 6. -/
def imgRangesOk (b : List Byte) : Bool :=
  2 ≤ imgSections b && imgSections b ≤ 65534 && 1 ≤ imgVariants b && imgVariants b ≤ 256 &&
  500 ≤ imgPace b && imgPace b ≤ 1800 &&
  imgWeightLen b % 64 = 0 && imgScratchLen b % 64 = 0 && imgIoLen b % 64 = 0 &&
  imgWeightLen b < 2 ^ 64 - 1 && imgScratchLen b < 2 ^ 64 - 1 && imgIoLen b < 2 ^ 64 - 1 &&
  imgLayers b ≤ 256 && imgKvBytes b ≤ 16384 && 256 + 16 * imgSections b ≤ b.length &&
  (imgDir b).all (sectionLenOk b) && entriesFit b 1 0xFFFF 32 (imgVariants b) &&
  ((findSection b 1 0xFFFF 0).isNone || (List.range (imgVariants b)).all (fun v =>
    let va := variantAt b v
    variantLenOk b va && entriesFit b 3 v 32 va.routes && entriesFit b 4 v 32 va.mems && entriesFit b 5 v 32 va.compares &&
    (imgDir b).all (fun x => x.ty ≠ 2 || x.variant ≠ v || (streamOf b v x.item).all (instrLenOk va)) &&
    ((findSection b 3 v 0).isNone || (routesOf b v).all (fun r => 1 ≤ r.bytes && r.bytes ≤ 0xFFFFFFFE &&
      epIndex r.src < epLimit (epKind r.src) && epIndex r.dst < epLimit (epKind r.dst))) &&
    ((findSection b 4 v 0).isNone || (memEntriesOf b v).all (memLenOk b va)) &&
    ((findSection b 5 v 0).isNone || (comparesOf b v).all (fun c => 1 ≤ c.elements && c.elements ≤ 0xFFFFFFFE))))

/-- Two stretches of units do not overlap. -/
def apart (a la b lb : Nat) : Bool := a + la ≤ b || b + lb ≤ a

/-- Sections lie clear of the header, the directory and each other (R122). -/
def sectionsApart (b : List Byte) : Bool :=
  let d := imgDir b
  d.all (fun x => 256 + 16 * imgSections b ≤ 64 * x.off) &&
  (List.range d.length).all (fun i => (List.range i).all (fun j =>
    match d[i]?, d[j]? with
    | some x, some y => apart x.off x.len y.off y.len
    | _, _ => true))

/-- Sections by type and number as R126 gives them. -/
def sectionsOk (b : List Byte) : Bool :=
  let d := imgDir b
  let count := fun ty v item => (d.filter (fun x => x.ty = ty && x.variant = v && x.item = item)).length
  d.all (fun x => 1 ≤ x.ty && x.ty ≤ 5 && (x.ty = 2 || x.item = 0) &&
    (if x.ty = 1 then x.variant = 0xFFFF else x.variant < imgVariants b)) &&
  count 1 0xFFFF 0 = 1 &&
  (List.range (imgVariants b)).all (fun v =>
    count 3 v 0 = 1 && count 4 v 0 = 1 && count 5 v 0 ≤ 1 && ((variantAt b v).compares = 0 || count 5 v 0 = 1) &&
    (imgCells b).all (fun c => count 2 v c = 1) &&
    (d.filter (fun x => x.ty = 2 && x.variant = v)).length = (imgCells b).length)

/-- No two variants alike (R127). -/
def variantsDistinct (b : List Byte) : Bool :=
  let l := (imgVariantList b).map (fun v => (v.kind, v.bucket, v.batch, v.specLen))
  decide (l.eraseDups.length = l.length)

def memValOk (b : List Byte) (e : MemEntry) : Bool :=
  match e.kind with
  | 0 | 1 => e.region ≠ 3
  | 2 => e.region = 3
  | 3 | 6 => e.arrive = 0
  | 4 | 5 => kvLayer e < imgLayers b
  | _ => false

/-- No reserved value, sections as R126, variants distinct, and the rules of R178 (order 6 of R139). -/
def imgValuesOk (b : List Byte) : Bool :=
  imgAttn b ≠ 3 && decide ((imgLayers b = 0) = (imgKvBytes b = 0)) && sectionsApart b && sectionsOk b && variantsDistinct b &&
  (List.range (imgVariants b)).all (fun v =>
    let va := variantAt b v
    va.kind ≤ 6 && (va.bucket ≤ 15 || va.bucket = 0xFF) &&
    (imgCells b).all (fun c => (streamOf b v c).all instrValOk) &&
    (routesOf b v).all (fun r => epKind r.src < 3 && epKind r.dst < 3 && laneOk r.lane1 && laneOk r.lane2) &&
    (memEntriesOf b v).all (memValOk b) &&
    (comparesOf b v).all (fun c => (c.region = 1 || c.region = 2) && (if c.tokens then c.fmt = 13 else true)))

/-! ### Order 9 of R139 -/

def regionLen (b : List Byte) : Nat → Nat
  | 0 => imgWeightLen b | 1 => imgScratchLen b | 2 => imgIoLen b | _ => imgLen b

def imgRegionsOk (b : List Byte) : Bool :=
  (List.range (imgVariants b)).all (fun v =>
    (memEntriesOf b v).all (fun e => 3 ≤ e.kind || e.addr + 64 * e.units ≤ regionLen b e.region) &&
    (comparesOf b v).all (fun c => c.addr + compareBytes c ≤ regionLen b c.region))

/-! ### Order 10 of R139: streams (R128, R129) -/

def isEnd (i : PlanInstr) : Bool := i.cls = 0 && i.op = 1

/-- No instruction issues to a unit that is still busy (R72, R74): `free` holds the first free step of units 1 to 5. -/
def unitsOk : List PlanInstr → List Nat → Bool
  | [], _ => true
  | i :: r, free =>
    let u := (instrBusy i).1
    if u = 0 then unitsOk r free
    else free.getD u 0 ≤ i.issue && unitsOk r (free.set u (i.issue + (instrBusy i).2.1))

/-- The step from which an instruction's result is readable (R72). -/
def readyStep (b : List Byte) (v : Nat) (i : PlanInstr) : Nat :=
  if i.cls = 5 then
    let k := moveKind i.raw
    let e := (moveOf i.raw).entry
    if k = 2 then i.issue + (instrBusy i).2.1
    else if k < 2 then (memEntryAt b v e).arrive else (routeAt b v e).arrive
  else i.issue + (instrBusy i).2.1 + (instrBusy i).2.2

/-- A stream's own rules (R128). -/
def streamOk (b : List Byte) (v c : Nat) : Bool :=
  let l := streamOf b v c
  match l.getLast?, findSection b 2 v c with
  | some e, some x =>
    isEnd e && (l.length - 1) / 4 + 1 = x.len && unitsOk l [0, 0, 0, 0, 0, 0] &&
      l.all (fun i => readyStep b v i ≤ (variantAt b v).steps - 1)
  | _, _ => false

/-- The issue step of a cell's END. -/
def endStep (b : List Byte) (v c : Nat) : Nat := (((streamOf b v c).getLast?).map (fun i => i.issue)).getD 0

/-- STEPS is one more than the latest issue step of END (R128). -/
def stepsOk (b : List Byte) (v : Nat) : Bool :=
  (variantAt b v).steps = (imgCells b).foldl (fun m c => max m (endStep b v c)) 0 + 1

/-- The first instruction that a STREAM entry brings to its cell, when it names that cell's section of the image copy. -/
def refillFirst (b : List Byte) (v : Nat) (e : MemEntry) : Option Nat :=
  match findSection b 2 v e.cell with
  | some x => if 64 * x.off ≤ e.addr then some ((e.addr - 64 * x.off) / 16) else none
  | none => none

/-- A STREAM entry brings its instructions in time and after those it replaces have issued (R129). -/
def refillOk (b : List Byte) (v : Nat) (e : MemEntry) : Bool :=
  match refillFirst b v e with
  | none => false
  | some j =>
    let l := streamOf b v e.cell
    decide (4 * e.store = j % 4096) &&
    (match l[j]? with | some i => e.arrive ≤ i.issue | none => true) &&
    (List.range (4 * e.units)).all (fun k =>
      if j + k < 4096 then true
      else match l[j + k - 4096]? with | some i => i.issue < e.issue | none => true)

/-- Every instruction past the preload is brought by some STREAM entry. -/
def refillsCover (b : List Byte) (v c : Nat) : Bool :=
  let es := (memEntriesOf b v).filter (fun e => e.kind = 2 && e.cell = c)
  (List.range ((streamOf b v c).length - 4096)).all (fun k =>
    es.any (fun e => match refillFirst b v e with
      | some j => j ≤ k + 4096 && k + 4096 < j + 4 * e.units
      | none => false))

/-- Attention mode (R155). -/
def attnModeOk (b : List Byte) : Bool :=
  let m := imgAttn b
  (List.range (imgVariants b)).all (fun v =>
    (imgCells b).all (fun c => (streamOf b v c).all (fun i =>
      (i.cls ≠ 6 || (if i.op = 0 then m = 1 else m = 2)) && (i.cls ≠ 5 || moveKind i.raw < 4 || m = 2))) &&
    (m = 2 || (routesOf b v).all (fun r => epKind r.src ≠ 1 && epKind r.dst ≠ 1)))

/-! ### Order 10: places, paths and times (R80 to R82, R130, R131, R134) -/

/-- Home column of a local quad or pipe number (R80). -/
def localColumn (j : Nat) : Nat := if j < 8 then j else j + 1

/-- A place on a die's mesh: die, column and row; a pipe joins all four routers of its column and has no row of its own. -/
def epPlace (e : Nat) : Nat × Nat × Option Nat :=
  let i := epIndex e
  match epKind e with
  | 0 => (i / 64, localColumn (i % 64 / 4), some (i % 4))
  | 1 => (i / 16, localColumn (i % 16), none)
  | _ => (i / 8, if i % 8 < 4 then 0 else 16, some (i % 4))

def gap (a b : Nat) : Nat := max a b - min a b
/-- The column, 4 or 12, of the seam attachment nearer to a column (R82). -/
def seamColumn (c : Nat) : Nat := if gap c 12 < gap c 4 then 12 else 4

/-- Legs of a path on each die it touches: die, from column and row, to column and row (R131). A path between dies runs to
the seam attachment at the south end of its column, row 3, and from the other die's. -/
def pathLegs (a b : Nat × Nat × Option Nat) : List (Nat × (Nat × Nat) × (Nat × Nat)) :=
  let (da, ca, ra) := a
  let (db, cb, rb) := b
  if da = db then
    let ra' := ra.getD (rb.getD 0)
    [(da, (ca, ra'), (cb, rb.getD ra'))]
  else
    let sa := seamColumn ca
    let sb := seamColumn cb
    [(da, (ca, ra.getD 3), (sa, 3)), (db, (sb, 3), (cb, rb.getD 3))]

/-- Seam links crossed (R82): C0 and C3, and C1 and C2, meet through the hub. -/
def seamCross (da db : Nat) : Nat := if da = db then 0 else if da + db = 3 then 2 else 1

/-- Hop budget of the plan for a die (R84, R123). -/
def dieBudget (cls d : Nat) : Nat :=
  match cls / 4 ^ d % 4 with
  | 0 => 0 | 1 => 2 | 2 => 4 | _ => 8

def legHops (l : Nat × (Nat × Nat) × (Nat × Nat)) : Nat := gap l.2.1.1 l.2.2.1 + gap l.2.1.2 l.2.2.2

/-- H + B + 16 × C of a path (R131). -/
def pathLeg (cls : Nat) (a b : Nat × Nat × Option Nat) : Nat :=
  let ls := pathLegs a b
  (ls.map legHops).foldl (· + ·) 0 + (ls.map (fun l => dieBudget cls l.1)).foldl (· + ·) 0 + 16 * seamCross a.1 b.1

/-- Links of a leg in order: die, column and row of the router left, and direction (0 east, 1 west, 2 south, 3 north). -/
def legLinks (colFirst : Bool) (l : Nat × (Nat × Nat) × (Nat × Nat)) : List (Nat × Nat × Nat × Nat) :=
  let (d, (c0, r0), (c1, r1)) := l
  let row := fun r => if c0 ≤ c1 then (List.range (c1 - c0)).map (fun i => (d, c0 + i, r, 0))
    else (List.range (c0 - c1)).map (fun i => (d, c0 - i, r, 1))
  let col := fun c => if r0 ≤ r1 then (List.range (r1 - r0)).map (fun i => (d, c, r0 + i, 2))
    else (List.range (r0 - r1)).map (fun i => (d, c, r0 - i, 3))
  if colFirst then col c0 ++ row r1 else row r0 ++ col c1

/-- A window of steps in which a link or lane is taken: what is taken, first and last step. A lane's key has die 8. -/
structure Window where
  what : Nat × Nat × Nat × Nat
  lo   : Nat
  hi   : Nat
  deriving DecidableEq, Repr

/-- Windows on the links of a path: bytes enter link k of the path k steps (and 16 for each seam link before it) after
`first` and the last byte leaves it as long after `last`, widened by the die's budget (R131). -/
def pathWindows (cls : Nat) (colFirst : Bool) (a b : Nat × Nat × Option Nat) (first last : Nat) : List Window :=
  let ls := pathLegs a b
  (ls.mapIdx (fun n l =>
    let before := ((ls.take n).map legHops).foldl (· + ·) 0 + (if n = 0 then 0 else 16 * seamCross a.1 b.1)
    (legLinks colFirst l).mapIdx (fun k w =>
      { what := w, lo := first + before + k, hi := last + before + k + dieBudget cls l.1 : Window }))).flatten

/-- Die, link and number of a seam lane (R130). -/
def laneDie (l : Nat) : Nat := l / 60
def laneLink (l : Nat) : Nat := l % 60 / 20
/-- Lower- and higher-numbered neighbour of a die (R82). -/
def dieNeighbour (d k : Nat) : Nat :=
  match d, k with
  | 0, 1 => 1 | 0, _ => 2 | 1, 1 => 0 | 1, _ => 3 | 2, 1 => 0 | 2, _ => 3 | _, 1 => 1 | _, _ => 2

/-- The lane lies on the link that joins two dies, or joins a die with the hub. -/
def laneJoins (l da db : Nat) : Bool :=
  l < 240 && laneLink l ≠ 0 && ((laneDie l = da && dieNeighbour da (laneLink l) = db) ||
    (laneDie l = db && dieNeighbour db (laneLink l) = da))
def laneToHub (l d : Nat) : Bool := l < 240 && laneLink l = 0 && laneDie l = d

/-- Seam path of a route (R131). -/
def seamPathOk (r : RouteEntry) : Bool :=
  let da := (epPlace r.src).1
  let db := (epPlace r.dst).1
  match seamCross da db with
  | 0 => r.lane1 = 255 && r.lane2 = 255
  | 1 => laneJoins r.lane1 da db && r.lane2 = 255
  | _ => laneToHub r.lane1 da && laneToHub r.lane2 db

/-- Steps that a route's bytes take at one point: 256 B a step on the mesh, 64 B where it crosses a seam (R131). -/
def routeSpan (r : RouteEntry) : Nat :=
  if seamCross (epPlace r.src).1 (epPlace r.dst).1 = 0 then (r.bytes + 255) / 256 - 1 else (r.bytes + 63) / 64 - 1

def endpointOk (b : List Byte) (e : Nat) : Bool :=
  match epKind e with
  | 0 => (imgCells b).contains (epIndex e)
  | 1 => (imgQuads b).contains (epIndex e)
  | _ => (imgMemcs b).contains (epIndex e)

/-- A route entry's own rules: endpoints, seam path and arrival (R131). -/
def routeOk (b : List Byte) (r : RouteEntry) : Bool :=
  endpointOk b r.src && endpointOk b r.dst && seamPathOk r &&
  r.start + pathLeg (imgClass b) (epPlace r.src) (epPlace r.dst) + routeSpan r ≤ r.arrive

def routeWindows (cls : Nat) (r : RouteEntry) : List Window :=
  let a := epPlace r.src
  let b := epPlace r.dst
  let h := (((pathLegs a b).head?).map legHops).getD 0
  let lane := fun l extra => if l = 255 then [] else
    [{ what := (8, l, 0, 0), lo := r.start + h + extra, hi := r.start + h + extra + routeSpan r + dieBudget cls a.1 : Window }]
  pathWindows cls r.colFirst a b r.start (r.start + routeSpan r) ++ lane r.lane1 0 ++ lane r.lane2 16

/-- Controller of a plan channel (R132). -/
def pchanMemc (b : List Byte) (pc : Nat) : Nat := (imgMemcs b).getD (pc / 4) 0
def memEp (b : List Byte) (e : MemEntry) : Nat := 8192 + pchanMemc b e.pchan

/-- Busy time of a memory entry in ns (R133). -/
def busyTime (e : MemEntry) : Nat :=
  match e.kind with
  | 3 => 180
  | 6 => 3 * e.units
  | _ => 36 + 3 * (e.units + (e.units + 14) / 15)

/-- The leg between a memory entry's controller and its cell (R134). -/
def memLeg (b : List Byte) (e : MemEntry) : Nat := pathLeg (imgClass b) (epPlace (memEp b e)) (epPlace e.cell)

/-- The check of R134 along one channel, in thousandths of a step (a time of t ns is t × Q thousandths): whether every entry
arrives, and the mesh windows of the entries. -/
def channelRun (b : List Byte) (q : Nat) : List MemEntry → Nat → Bool × List Window
  | [], _ => (true, [])
  | e :: r, free =>
    let isWrite := e.kind = 1 || e.kind = 5
    let leg := if e.kind = 3 || e.kind = 6 then 0 else memLeg b e
    let start := max (1000 * (e.issue + (if isWrite then leg else 0))) free
    let free := start + busyTime e * q
    let ok := if e.kind = 3 || e.kind = 6 then true
      else if isWrite then (free + 999) / 1000 ≤ e.arrive
      else (free + 999) / 1000 + leg ≤ e.arrive
    let w := if e.kind = 3 || e.kind = 6 then []
      else if isWrite then
        pathWindows (imgClass b) false (epPlace e.cell) (epPlace (memEp b e)) e.issue (e.issue + (64 * e.units + 255) / 256 - 1)
      else pathWindows (imgClass b) false (epPlace (memEp b e)) (epPlace e.cell) (start / 1000) ((free + 999) / 1000)
    let (ok', w') := channelRun b q r free
    (ok && ok', w ++ w')

def channelEntries (b : List Byte) (v pc : Nat) : List MemEntry := (memEntriesOf b v).filter (fun e => e.pchan = pc)

/-- REFRESH entries of a channel come often enough (R135). -/
def refreshOk : List Nat → Nat → Nat → Bool
  | [], last, steps => steps ≤ last + 3900
  | t :: r, last, steps => t ≤ last + 3900 && refreshOk r t steps
def channelRefreshOk (b : List Byte) (v pc : Nat) : Bool :=
  match ((channelEntries b v pc).filter (fun e => e.kind = 3)).map (fun e => e.issue) with
  | [] => false
  | t :: r => t ≤ 3899 && refreshOk r t (variantAt b v).steps

/-- No two windows overlap on one link direction or lane. -/
def windowsApart : List Window → Bool
  | [] => true
  | w :: r => r.all (fun x => x.what ≠ w.what || x.hi < w.lo || w.hi < x.lo) && windowsApart r

def sortedBy {α : Type} (f : α → Nat) : List α → Bool
  | a :: b :: r => f a ≤ f b && sortedBy f (b :: r)
  | _ => true

/-- The first unit and the last of the channel-consecutive units that an entry moves (R236): the slot on an interleave set of
`n` controllers, and the region offset of the last unit. -/
def unitOffset (n o k : Nat) : Nat :=
  let g := 16384 / (4 * n)
  let cb := o / 16384 * g + o % g + 64 * k
  cb / g * 16384 + o % 16384 / g * g + cb % g
def slotOf (n o : Nat) : Nat := o % 16384 / (16384 / (4 * n))

/-- The channel that PCHAN names is slot `sl` of the set that begins at controller `first` (R132, R236). -/
def pchanIs (b : List Byte) (e : MemEntry) (first sl : Nat) : Bool :=
  pchanMemc b e.pchan = first + sl / 4 && e.pchan % 4 = sl % 4

/-- An entry of a region placed in a set passes R236. -/
def entryPlaced (b : List Byte) (e : MemEntry) (set : Nat × Nat) : Bool :=
  pchanIs b e set.1 (slotOf set.2 e.addr) && unitOffset set.2 e.addr (e.units - 1) + 64 ≤ regionLen b e.region
/-- A KV entry of frames in a set passes R237. -/
def kvPlaced (b : List Byte) (e : MemEntry) (set : Nat × Nat) : Bool :=
  let sh := 64 / set.2
  kvUnit e / sh = (kvUnit e + e.units - 1) / sh && pchanIs b e set.1 (kvUnit e / sh)

/-- Entries of a region in any variant. -/
def regionEntries (b : List Byte) (region : Nat) : List MemEntry :=
  (List.range (imgVariants b)).flatMap (fun v => (memEntriesOf b v).filter (fun e => e.kind < 3 && e.region = region))

/-- The sets kept for the scratch or I/O region (R236). -/
def keptSets (b : List Byte) (sets : List (Nat × Nat)) (region : Nat) : List (Nat × Nat) :=
  sets.filter (fun p => (regionEntries b region).all (fun e => entryPlaced b e p))

/-- A compare point names the one MARK of its number, and its data is not written after it (R137). -/
def compareOk (b : List Byte) (v : Nat) (c : ComparePoint) : Bool :=
  let marks := (imgCells b).flatMap (fun k =>
    ((streamOf b v k).filter (fun i => i.cls = 0 && i.op = 2 && fieldAt i.raw 4 2 = c.mark)).map (fun i => (k, i.issue)))
  marks = [(c.cell, c.step)] &&
  (memEntriesOf b v).all (fun e => e.kind ≠ 1 || e.region ≠ c.region || e.arrive ≤ c.step ||
    e.addr + 64 * e.units ≤ c.addr || c.addr + compareBytes c ≤ e.addr)

/-- Order 10 of R139 for one variant: streams, refills, routes, memory schedule, contention, compare points, and the places of
its memory entries; `wSet` and `iSet` are the sets of the weight region and the image copy. -/
def variantPlanOk (b : List Byte) (v : Nat) (wSet iSet : Nat × Nat) : Bool :=
  let rs := routesOf b v
  let ms := memEntriesOf b v
  let runs := (List.range (4 * (imgMemcs b).length)).map (fun pc => channelRun b (imgPace b) (channelEntries b v pc) 0)
  (imgCells b).all (fun c => streamOk b v c && refillsCover b v c) && stepsOk b v &&
  sortedBy (fun r : RouteEntry => r.start) rs && sortedBy (fun e : MemEntry => e.issue) ms && rs.all (routeOk b) &&
  ms.all (fun e => e.kind = 3 || e.kind = 6 || (imgCells b).contains e.cell) &&
  ms.all (fun e => e.kind ≠ 2 || refillOk b v e) &&
  runs.all Prod.fst && (List.range (4 * (imgMemcs b).length)).all (channelRefreshOk b v) &&
  windowsApart (rs.flatMap (routeWindows (imgClass b)) ++ runs.flatMap Prod.snd) &&
  ms.all (fun e =>
    if isKv e then kvPlaced b e wSet
    else if e.kind = 2 then entryPlaced b e iSet
    else if e.kind < 2 && e.region = 0 then entryPlaced b e wSet else true) &&
  (comparesOf b v).all (compareOk b v)

/-- Order 10 of R139. `sets` are the present interleave sets whose controllers all lie in MEMC_MASK. -/
def imgPlanOk (b : List Byte) (sets : List (Nat × Nat)) (wSet iSet : Nat × Nat) : Bool :=
  attnModeOk b && (List.range (imgVariants b)).all (fun v => variantPlanOk b v wSet iSet) &&
  [1, 2].all (fun r => (regionEntries b r).isEmpty || !(keptSets b sets r).isEmpty)

/-- Some entry of the image is a KV entry. -/
def imgHasKv (b : List Byte) : Bool := (List.range (imgVariants b)).any (fun v => (memEntriesOf b v).any isKv)

/-- Seam lanes that a variant names. -/
def variantLanes (b : List Byte) (v : Nat) : List Nat :=
  ((routesOf b v).flatMap (fun r => [r.lane1, r.lane2])).filter (fun l => l < 240)

/-- Base of the image copy (R138). -/
def imageBase (b : List Byte) (weightBase : Nat) : Nat := weightBase + (imgWeightLen b + 16383) / 16384 * 16384

end Sys2Proof.Machine
end

