-- ==== Sys2Proof/Machine/Registers.lean ====
section
/-!
DEFINITION. The register fields of BAR0, page by page, as the register tables of the spec list them: block type (R482),
offset, lowest bit, width, access code (R14), reset value, whether the field is subject to LOCK (R490), the values it
accepts (empty: every value of its width), and the offset of the register that selects the instance it shows (0: none).
A `_LO`/`_HI` pair is one field of 64 bits at the offset of its low half (R486).
-/

namespace Sys2Proof.Machine

/-- Access codes of R14. -/
inductive Acc where
  | ro | rw | wo | w1c | rws
  deriving DecidableEq, Repr

/-- One field of a register page. -/
structure Fld where
  ty    : Nat
  off   : Nat
  lo    : Nat
  w     : Nat
  acc   : Acc
  rst   : Nat
  lock  : Bool
  legal : List (Nat × Nat)
  bank  : Nat
  deriving DecidableEq, Repr

end Sys2Proof.Machine

namespace Sys2Proof.Machine.R

/-! `CELL` page (chapter 03). -/

def CELL_MAP_STATE : Fld := ⟨0, 0x100, 30, 2, .ro, 0, false, [], 0x0⟩
def CELL_MAP_LOGICAL : Fld := ⟨0, 0x100, 0, 9, .ro, 0, false, [], 0x0⟩
def CELL_STAT_TESTING : Fld := ⟨0, 0x104, 2, 1, .ro, 0, false, [], 0x0⟩
def CELL_STAT_BUSY : Fld := ⟨0, 0x104, 1, 1, .ro, 0, false, [], 0x0⟩
def CELL_STAT_POWERED : Fld := ⟨0, 0x104, 0, 1, .ro, 0, false, [], 0x0⟩
def CELL_RESIDUE_CNT : Fld := ⟨0, 0x108, 0, 32, .rws, 0, false, [(0, 0)], 0x0⟩
def CELL_STORE_ERR_UE : Fld := ⟨0, 0x10C, 16, 16, .rws, 0, false, [(0, 0)], 0x0⟩
def CELL_STORE_ERR_CE : Fld := ⟨0, 0x10C, 0, 16, .rws, 0, false, [(0, 0)], 0x0⟩
def CELL_TEST_CTL_STRESS : Fld := ⟨0, 0x110, 8, 6, .rw, 0, false, [(0, 50)], 0x0⟩
def CELL_TEST_CTL_START : Fld := ⟨0, 0x110, 0, 1, .wo, 0, true, [], 0x0⟩
def CELL_TEST_RES_FAIL_UNIT : Fld := ⟨0, 0x114, 4, 4, .ro, 0, false, [], 0x0⟩
def CELL_TEST_RES_PASS : Fld := ⟨0, 0x114, 1, 1, .ro, 0, false, [], 0x0⟩
def CELL_TEST_RES_DONE : Fld := ⟨0, 0x114, 0, 1, .ro, 0, false, [], 0x0⟩
def CELL_RETIRE : Fld := ⟨0, 0x118, 0, 1, .wo, 0, true, [], 0x0⟩
def CELL_STEPS : Fld := ⟨0, 0x11C, 0, 64, .ro, 0, false, [], 0x0⟩

/-- Every field of a `CELL` page. -/
def cellFields : List Fld :=
  [CELL_MAP_STATE, CELL_MAP_LOGICAL, CELL_STAT_TESTING, CELL_STAT_BUSY, CELL_STAT_POWERED, CELL_RESIDUE_CNT, CELL_STORE_ERR_UE, CELL_STORE_ERR_CE, CELL_TEST_CTL_STRESS, CELL_TEST_CTL_START, CELL_TEST_RES_FAIL_UNIT, CELL_TEST_RES_PASS, CELL_TEST_RES_DONE, CELL_RETIRE, CELL_STEPS]

/-! `APIPE` page (chapter 06). -/

def APIPE_MAP_STATE : Fld := ⟨1, 0x100, 30, 2, .ro, 0, false, [], 0x0⟩
def APIPE_MAP_LOGICAL : Fld := ⟨1, 0x100, 0, 7, .ro, 0, false, [], 0x0⟩
def APIPE_STAT_TESTING : Fld := ⟨1, 0x104, 2, 1, .ro, 0, false, [], 0x0⟩
def APIPE_STAT_BUSY : Fld := ⟨1, 0x104, 1, 1, .ro, 0, false, [], 0x0⟩
def APIPE_STAT_POWERED : Fld := ⟨1, 0x104, 0, 1, .ro, 0, false, [], 0x0⟩
def APIPE_RESIDUE_CNT : Fld := ⟨1, 0x108, 0, 32, .rws, 0, false, [(0, 0)], 0x0⟩
def APIPE_EMPTY : Fld := ⟨1, 0x10C, 0, 64, .ro, 0, false, [], 0x0⟩
def APIPE_CMD_CNT : Fld := ⟨1, 0x114, 0, 32, .ro, 0, false, [], 0x0⟩
def APIPE_TEST_CTL_STRESS : Fld := ⟨1, 0x118, 8, 6, .rw, 0, false, [(0, 50)], 0x0⟩
def APIPE_TEST_CTL_START : Fld := ⟨1, 0x118, 0, 1, .wo, 0, true, [], 0x0⟩
def APIPE_TEST_RES_FAIL_UNIT : Fld := ⟨1, 0x11C, 4, 4, .ro, 0, false, [], 0x0⟩
def APIPE_TEST_RES_PASS : Fld := ⟨1, 0x11C, 1, 1, .ro, 0, false, [], 0x0⟩
def APIPE_TEST_RES_DONE : Fld := ⟨1, 0x11C, 0, 1, .ro, 0, false, [], 0x0⟩
def APIPE_STEPS : Fld := ⟨1, 0x120, 0, 64, .ro, 0, false, [], 0x0⟩
def APIPE_FAULT_KIND : Fld := ⟨1, 0x128, 28, 4, .ro, 0, false, [], 0x0⟩
def APIPE_FAULT_CELL : Fld := ⟨1, 0x128, 16, 8, .ro, 0, false, [], 0x0⟩
def APIPE_FAULT_CMD_ADDR : Fld := ⟨1, 0x128, 0, 16, .ro, 0, false, [], 0x0⟩

/-- Every field of a `APIPE` page. -/
def apipeFields : List Fld :=
  [APIPE_MAP_STATE, APIPE_MAP_LOGICAL, APIPE_STAT_TESTING, APIPE_STAT_BUSY, APIPE_STAT_POWERED, APIPE_RESIDUE_CNT, APIPE_EMPTY, APIPE_CMD_CNT, APIPE_TEST_CTL_STRESS, APIPE_TEST_CTL_START, APIPE_TEST_RES_FAIL_UNIT, APIPE_TEST_RES_PASS, APIPE_TEST_RES_DONE, APIPE_STEPS, APIPE_FAULT_KIND, APIPE_FAULT_CELL, APIPE_FAULT_CMD_ADDR]

/-! `QUAD` page (chapter 03). -/

def QUAD_INFO_DIE : Fld := ⟨2, 0x100, 13, 2, .ro, 0, false, [], 0x0⟩
def QUAD_INFO_COLUMN : Fld := ⟨2, 0x100, 8, 5, .ro, 0, false, [], 0x0⟩
def QUAD_INFO_LOGICAL : Fld := ⟨2, 0x100, 0, 7, .ro, 0, false, [], 0x0⟩
def QUAD_PART_DARK : Fld := ⟨2, 0x104, 31, 1, .ro, 0, false, [], 0x0⟩
def QUAD_PART_PARTITION : Fld := ⟨2, 0x104, 0, 7, .rw, 127, false, [(0, 63), (127, 127)], 0x0⟩
def QUAD_REMAP_RETIRED : Fld := ⟨2, 0x108, 4, 4, .ro, 0, false, [], 0x0⟩
def QUAD_REMAP_STANDIN : Fld := ⟨2, 0x108, 0, 4, .ro, 0, false, [], 0x0⟩
def QUAD_APIPE_STATE : Fld := ⟨2, 0x10C, 8, 2, .ro, 0, false, [], 0x0⟩
def QUAD_APIPE_RETIRE : Fld := ⟨2, 0x10C, 7, 1, .wo, 0, true, [], 0x0⟩
def QUAD_APIPE_LOGICAL : Fld := ⟨2, 0x10C, 0, 7, .ro, 0, false, [], 0x0⟩

/-- Every field of a `QUAD` page. -/
def quadFields : List Fld :=
  [QUAD_INFO_DIE, QUAD_INFO_COLUMN, QUAD_INFO_LOGICAL, QUAD_PART_DARK, QUAD_PART_PARTITION, QUAD_REMAP_RETIRED, QUAD_REMAP_STANDIN, QUAD_APIPE_STATE, QUAD_APIPE_RETIRE, QUAD_APIPE_LOGICAL]

/-! `MEMC` page (chapter 09). -/

def MEMC_PART_DISABLED : Fld := ⟨3, 0x100, 31, 1, .ro, 0, false, [], 0x0⟩
def MEMC_PART_PARTITION : Fld := ⟨3, 0x100, 0, 7, .rw, 127, false, [(0, 63), (127, 127)], 0x0⟩
def MEMC_STAT_OWED : Fld := ⟨3, 0x104, 4, 4, .ro, 0, false, [], 0x0⟩
def MEMC_STAT_HOT : Fld := ⟨3, 0x104, 2, 1, .ro, 0, false, [], 0x0⟩
def MEMC_STAT_HELD : Fld := ⟨3, 0x104, 1, 1, .ro, 0, false, [], 0x0⟩
def MEMC_STAT_TRAINED : Fld := ⟨3, 0x104, 0, 1, .ro, 0, false, [], 0x0⟩
def MEMC_CE_CNT : Fld := ⟨3, 0x108, 0, 32, .rws, 0, false, [(0, 0)], 0x0⟩
def MEMC_RETRY_CNT : Fld := ⟨3, 0x10C, 0, 32, .rws, 0, false, [(0, 0)], 0x0⟩
def MEMC_POISON_CNT : Fld := ⟨3, 0x110, 0, 32, .rws, 0, false, [(0, 0)], 0x0⟩
def MEMC_PATH_CNT : Fld := ⟨3, 0x114, 0, 32, .rws, 0, false, [(0, 0)], 0x0⟩
def MEMC_ECC_CTL : Fld := ⟨3, 0x118, 0, 3, .rw, 2, true, [], 0x0⟩
def MEMC_SCRUB : Fld := ⟨3, 0x11C, 0, 10, .rw, 24, false, [(1, 720)], 0x0⟩
def MEMC_ERR_ADDR : Fld := ⟨3, 0x120, 0, 64, .ro, 0, false, [], 0x0⟩
def MEMC_ERR_INFO_TENANT : Fld := ⟨3, 0x128, 24, 8, .ro, 0, false, [], 0x0⟩
def MEMC_ERR_INFO_KIND : Fld := ⟨3, 0x128, 2, 2, .ro, 0, false, [], 0x0⟩
def MEMC_ERR_INFO_CHANNEL : Fld := ⟨3, 0x128, 0, 2, .ro, 0, false, [], 0x0⟩
def MEM_SET_MAP : Fld := ⟨3, 0x140, 0, 32, .rw, 16843009, true, [], 0x0⟩
def MEM_OWN_SEL : Fld := ⟨3, 0x144, 0, 14, .rw, 0, false, [], 0x0⟩
def MEM_OWN_VALID : Fld := ⟨3, 0x148, 31, 1, .rw, 0, true, [], 0x144⟩
def MEM_OWN_SCRUBBING : Fld := ⟨3, 0x148, 30, 1, .ro, 0, false, [], 0x144⟩
def MEM_OWN_TENANT : Fld := ⟨3, 0x148, 0, 8, .rw, 0, false, [], 0x144⟩
def MEM_WIN_DENY : Fld := ⟨3, 0x14C, 0, 32, .ro, 0, false, [], 0x0⟩

/-- Every field of a `MEMC` page. -/
def memcFields : List Fld :=
  [MEMC_PART_DISABLED, MEMC_PART_PARTITION, MEMC_STAT_OWED, MEMC_STAT_HOT, MEMC_STAT_HELD, MEMC_STAT_TRAINED, MEMC_CE_CNT, MEMC_RETRY_CNT, MEMC_POISON_CNT, MEMC_PATH_CNT, MEMC_ECC_CTL, MEMC_SCRUB, MEMC_ERR_ADDR, MEMC_ERR_INFO_TENANT, MEMC_ERR_INFO_KIND, MEMC_ERR_INFO_CHANNEL, MEM_SET_MAP, MEM_OWN_SEL, MEM_OWN_VALID, MEM_OWN_SCRUBBING, MEM_OWN_TENANT, MEM_WIN_DENY]

/-! `MPHY` page (chapter 09). -/

def MPHY_STAT_FAILED : Fld := ⟨4, 0x100, 4, 4, .ro, 0, false, [], 0x0⟩
def MPHY_STAT_TRAINED : Fld := ⟨4, 0x100, 0, 4, .ro, 0, false, [], 0x0⟩
def MPHY_TEMP_RATE_CLASS : Fld := ⟨4, 0x104, 8, 3, .ro, 0, false, [], 0x0⟩
def MPHY_TEMP_TEMP : Fld := ⟨4, 0x104, 0, 8, .ro, 0, false, [], 0x0⟩
def MPHY_RATE : Fld := ⟨4, 0x108, 0, 32, .ro, 10667, false, [], 0x0⟩
def MPHY_TRACK_CNT : Fld := ⟨4, 0x10C, 0, 32, .ro, 10667, false, [], 0x0⟩
def MPHY_TRAIN_TIME : Fld := ⟨4, 0x110, 0, 32, .ro, 10667, false, [], 0x0⟩

/-- Every field of a `MPHY` page. -/
def mphyFields : List Fld :=
  [MPHY_STAT_FAILED, MPHY_STAT_TRAINED, MPHY_TEMP_RATE_CLASS, MPHY_TEMP_TEMP, MPHY_RATE, MPHY_TRACK_CNT, MPHY_TRAIN_TIME]

/-! `SEAM` page (chapter 20 R495). -/

def SEAM_LANE_SEL : Fld := ⟨5, 0x100, 0, 6, .rw, 0, false, [(0, 59)], 0x0⟩
def SEAM_LANE : Fld := ⟨5, 0x104, 0, 7, .rw, 127, false, [(0, 63), (127, 127)], 0x100⟩
def SEAM_PEERS_HIGHER : Fld := ⟨5, 0x108, 2, 2, .ro, 0, false, [], 0x0⟩
def SEAM_PEERS_LOWER : Fld := ⟨5, 0x108, 0, 2, .ro, 0, false, [], 0x0⟩
def SEAM_FREE : Fld := ⟨5, 0x10C, 0, 64, .ro, 1152921504606846975, false, [], 0x0⟩
def SEAM_UNITS : Fld := ⟨5, 0x114, 0, 64, .ro, 0, false, [], 0x0⟩

/-- Every field of a `SEAM` page. -/
def seamFields : List Fld :=
  [SEAM_LANE_SEL, SEAM_LANE, SEAM_PEERS_HIGHER, SEAM_PEERS_LOWER, SEAM_FREE, SEAM_UNITS]

/-! `DIE` page (chapter 03). -/

def DIE_HOP_DARK_QUADS : Fld := ⟨6, 0x100, 8, 8, .ro, 0, false, [], 0x0⟩
def DIE_HOP_TIER : Fld := ⟨6, 0x100, 4, 2, .ro, 0, false, [], 0x0⟩
def DIE_HOP_DISPLACEMENT : Fld := ⟨6, 0x100, 0, 4, .ro, 0, false, [], 0x0⟩
def DIE_PLAN_CLASS_CHANGES : Fld := ⟨6, 0x100, 16, 16, .rws, 0, false, [], 0x0⟩
def DIE_PLAN_CLASS_CLASS : Fld := ⟨6, 0x100, 0, 8, .ro, 0, false, [], 0x0⟩
def DIE_FASTLANE : Fld := ⟨6, 0x104, 0, 64, .rw, 0, false, [], 0x0⟩

/-- Every field of a `DIE` page. -/
def dieFields : List Fld :=
  [DIE_HOP_DARK_QUADS, DIE_HOP_TIER, DIE_HOP_DISPLACEMENT, DIE_PLAN_CLASS_CHANGES, DIE_PLAN_CLASS_CLASS, DIE_FASTLANE]

/-! `HOST` page (chapter 10). -/

def HOST_LINK_DEGRADED : Fld := ⟨7, 0x100, 11, 1, .ro, 0, false, [], 0x0⟩
def HOST_LINK_UP : Fld := ⟨7, 0x100, 10, 1, .ro, 0, false, [], 0x0⟩
def HOST_LINK_FLIT : Fld := ⟨7, 0x100, 9, 1, .ro, 0, false, [], 0x0⟩
def HOST_LINK_WIDTH : Fld := ⟨7, 0x100, 4, 5, .ro, 0, false, [], 0x0⟩
def HOST_LINK_SPEED : Fld := ⟨7, 0x100, 0, 4, .ro, 0, false, [], 0x0⟩
def HOST_STAT_REFCLK_LOST : Fld := ⟨7, 0x104, 2, 1, .ro, 0, false, [], 0x0⟩
def HOST_STAT_RECOVERY : Fld := ⟨7, 0x104, 1, 1, .ro, 0, false, [], 0x0⟩
def HOST_STAT_READY : Fld := ⟨7, 0x104, 0, 1, .ro, 0, false, [], 0x0⟩
def HOST_LINK_CTL_RETRAIN : Fld := ⟨7, 0x108, 4, 1, .wo, 0, false, [], 0x0⟩
def HOST_LINK_CTL_MAX_SPEED : Fld := ⟨7, 0x108, 0, 4, .rw, 6, false, [(3, 6)], 0x0⟩
def HOST_FN_SEL : Fld := ⟨7, 0x10C, 0, 6, .rw, 0, false, [], 0x0⟩
def HOST_FN_CFG_BOUND : Fld := ⟨7, 0x110, 31, 1, .rw, 0, true, [], 0x10C⟩
def HOST_FN_CFG_TENANT : Fld := ⟨7, 0x110, 0, 8, .rw, 0, true, [], 0x10C⟩
def HOST_FN_MSIX : Fld := ⟨7, 0x114, 0, 12, .rw, 64, true, [(1, 2048)], 0x10C⟩
def HOST_FN_WIN : Fld := ⟨7, 0x118, 0, 10, .rw, 0, true, [], 0x10C⟩
def HOST_MSIX_FREE : Fld := ⟨7, 0x11C, 0, 15, .ro, 16257, false, [], 0x0⟩
def HOST_TEN_SEL : Fld := ⟨7, 0x120, 0, 8, .rw, 0, false, [], 0x0⟩
def HOST_TEN_SEAL_EXHAUSTED : Fld := ⟨7, 0x124, 2, 1, .ro, 0, false, [], 0x120⟩
def HOST_TEN_SEAL_KEY : Fld := ⟨7, 0x124, 1, 1, .ro, 0, false, [], 0x120⟩
def HOST_TEN_SEAL_SEAL_REQ : Fld := ⟨7, 0x124, 0, 1, .ro, 0, false, [], 0x120⟩
def HOST_IRQ_SUM : Fld := ⟨7, 0x128, 0, 27, .ro, 0, false, [], 0x0⟩
def HOST_IDE_STAT_INSECURE : Fld := ⟨7, 0x12C, 8, 8, .ro, 0, false, [], 0x0⟩
def HOST_IDE_STAT_ACTIVE : Fld := ⟨7, 0x12C, 0, 8, .ro, 0, false, [], 0x0⟩
def HOST_AER_CE_CNT : Fld := ⟨7, 0x130, 0, 32, .ro, 0, false, [], 0x0⟩
def HOST_AER_UE_CNT : Fld := ⟨7, 0x134, 0, 32, .ro, 0, false, [], 0x0⟩
def HOST_SEAL_FAIL_CNT : Fld := ⟨7, 0x138, 0, 32, .ro, 0, false, [], 0x0⟩
def HOST_SEAL_REPLAY_CNT : Fld := ⟨7, 0x13C, 0, 32, .ro, 0, false, [], 0x0⟩

/-- Every field of a `HOST` page. -/
def hostFields : List Fld :=
  [HOST_LINK_DEGRADED, HOST_LINK_UP, HOST_LINK_FLIT, HOST_LINK_WIDTH, HOST_LINK_SPEED, HOST_STAT_REFCLK_LOST, HOST_STAT_RECOVERY, HOST_STAT_READY, HOST_LINK_CTL_RETRAIN, HOST_LINK_CTL_MAX_SPEED, HOST_FN_SEL, HOST_FN_CFG_BOUND, HOST_FN_CFG_TENANT, HOST_FN_MSIX, HOST_FN_WIN, HOST_MSIX_FREE, HOST_TEN_SEL, HOST_TEN_SEAL_EXHAUSTED, HOST_TEN_SEAL_KEY, HOST_TEN_SEAL_SEAL_REQ, HOST_IRQ_SUM, HOST_IDE_STAT_INSECURE, HOST_IDE_STAT_ACTIVE, HOST_AER_CE_CNT] ++
  [HOST_AER_UE_CNT, HOST_SEAL_FAIL_CNT, HOST_SEAL_REPLAY_CNT]

/-! `DMA` page (chapter 10). -/

def DMA_STAT_QUEUE : Fld := ⟨8, 0x100, 16, 16, .ro, 0, false, [], 0x0⟩
def DMA_STAT_CONTROL : Fld := ⟨8, 0x100, 1, 1, .ro, 0, false, [], 0x0⟩
def DMA_STAT_BUSY : Fld := ⟨8, 0x100, 0, 1, .ro, 0, false, [], 0x0⟩
def DMA_DESC (j : Nat) : Fld := ⟨8, 0x104 + 4 * j, 0, 32, .rw, 0, true, [], 0x0⟩
def DMA_GO : Fld := ⟨8, 0x144, 0, 1, .wo, 0, false, [], 0x0⟩
def DMA_RESULT_VALID : Fld := ⟨8, 0x148, 16, 1, .ro, 0, false, [], 0x0⟩
def DMA_RESULT_STATUS : Fld := ⟨8, 0x148, 0, 16, .ro, 0, false, [], 0x0⟩
def DMA_RD_UNITS : Fld := ⟨8, 0x14C, 0, 32, .ro, 0, false, [], 0x0⟩
def DMA_WR_UNITS : Fld := ⟨8, 0x150, 0, 32, .ro, 0, false, [], 0x0⟩
def DMA_ERR_CNT : Fld := ⟨8, 0x154, 0, 32, .ro, 0, false, [], 0x0⟩

/-- Every field of a `DMA` page. -/
def dmaFields : List Fld :=
  [DMA_STAT_QUEUE, DMA_STAT_CONTROL, DMA_STAT_BUSY, DMA_GO, DMA_RESULT_VALID, DMA_RESULT_STATUS, DMA_RD_UNITS, DMA_WR_UNITS, DMA_ERR_CNT] ++
  (List.range 16).map DMA_DESC

/-! `QMGR` page (chapter 11, 20 R494). -/

def Q_SEL : Fld := ⟨9, 0x100, 0, 16, .rw, 0, false, [], 0x0⟩
def Q_SQ_BASE : Fld := ⟨9, 0x104, 0, 64, .rw, 0, false, [], 0x100⟩
def Q_CQ_BASE : Fld := ⟨9, 0x10C, 0, 64, .rw, 0, false, [], 0x100⟩
def Q_TAG_BASE : Fld := ⟨9, 0x114, 0, 64, .rw, 0, false, [], 0x100⟩
def Q_CFG_VECTOR : Fld := ⟨9, 0x11C, 16, 11, .rw, 0, false, [], 0x100⟩
def Q_CFG_IRQ_EN : Fld := ⟨9, 0x11C, 8, 1, .rw, 0, false, [], 0x100⟩
def Q_CFG_DEPTH_LOG2 : Fld := ⟨9, 0x11C, 0, 5, .rw, 0, false, [(1, 16)], 0x100⟩
def Q_TIMEOUT : Fld := ⟨9, 0x120, 0, 24, .rw, 0, false, [(0, 0), (80, 16777215)], 0x100⟩
def Q_CTL_FLUSH : Fld := ⟨9, 0x124, 3, 1, .wo, 0, false, [], 0x100⟩
def Q_CTL_RESUME : Fld := ⟨9, 0x124, 2, 1, .wo, 0, false, [], 0x100⟩
def Q_CTL_DELETE : Fld := ⟨9, 0x124, 1, 1, .wo, 0, false, [], 0x100⟩
def Q_CTL_CREATE : Fld := ⟨9, 0x124, 0, 1, .wo, 0, false, [], 0x100⟩
def Q_STAT_FAULT_STATUS : Fld := ⟨9, 0x128, 16, 16, .ro, 0, false, [], 0x100⟩
def Q_STAT_CQ_WAIT : Fld := ⟨9, 0x128, 7, 1, .ro, 0, false, [], 0x100⟩
def Q_STAT_STATE : Fld := ⟨9, 0x128, 0, 3, .ro, 0, false, [], 0x100⟩
def Q_SQ_PTR_TAIL : Fld := ⟨9, 0x12C, 16, 16, .ro, 0, false, [], 0x100⟩
def Q_SQ_PTR_HEAD : Fld := ⟨9, 0x12C, 0, 16, .ro, 0, false, [], 0x100⟩
def Q_CQ_PTR_TAIL : Fld := ⟨9, 0x130, 16, 16, .ro, 0, false, [], 0x100⟩
def Q_CQ_PTR_HEAD : Fld := ⟨9, 0x130, 0, 16, .ro, 0, false, [], 0x100⟩
def Q_FAULT_CID : Fld := ⟨9, 0x134, 0, 16, .ro, 0, false, [], 0x100⟩
def FN_SIG_SEL : Fld := ⟨9, 0x138, 0, 20, .rw, 0, false, [], 0x0⟩
def FN_SIG_VAL : Fld := ⟨9, 0x13C, 0, 64, .ro, 0, false, [], 0x138⟩
def QMGR_SIG_BASE : Fld := ⟨9, 0x180, 0, 64, .rw, 0, true, [], 0x0⟩
def QMGR_TO_CNT : Fld := ⟨9, 0x188, 0, 32, .ro, 0, false, [], 0x0⟩
def QMGR_TO_LOST : Fld := ⟨9, 0x18C, 0, 32, .ro, 0, false, [], 0x0⟩
def QMGR_HALT_CNT : Fld := ⟨9, 0x190, 0, 32, .ro, 0, false, [], 0x0⟩
def QMGR_DB_ERR_CNT : Fld := ⟨9, 0x194, 0, 32, .ro, 0, false, [], 0x0⟩
def QMGR_SIG_DENY : Fld := ⟨9, 0x198, 0, 32, .ro, 0, false, [], 0x0⟩
def QMGR_ACTIVE : Fld := ⟨9, 0x19C, 0, 17, .ro, 0, false, [], 0x0⟩
def QMGR_DBP_SEL : Fld := ⟨9, 0x1A0, 0, 7, .rw, 0, false, [], 0x0⟩
def QMGR_DBP_MAP : Fld := ⟨9, 0x1A4, 0, 6, .rw, 0, true, [], 0x1A0⟩

/-- Every field of a `QMGR` page. -/
def qmgrFields : List Fld :=
  [Q_SEL, Q_SQ_BASE, Q_CQ_BASE, Q_TAG_BASE, Q_CFG_VECTOR, Q_CFG_IRQ_EN, Q_CFG_DEPTH_LOG2, Q_TIMEOUT, Q_CTL_FLUSH, Q_CTL_RESUME, Q_CTL_DELETE, Q_CTL_CREATE, Q_STAT_FAULT_STATUS, Q_STAT_CQ_WAIT, Q_STAT_STATE, Q_SQ_PTR_TAIL, Q_SQ_PTR_HEAD, Q_CQ_PTR_TAIL, Q_CQ_PTR_HEAD, Q_FAULT_CID, FN_SIG_SEL, FN_SIG_VAL, QMGR_SIG_BASE, QMGR_TO_CNT] ++
  [QMGR_TO_LOST, QMGR_HALT_CNT, QMGR_DB_ERR_CNT, QMGR_SIG_DENY, QMGR_ACTIVE, QMGR_DBP_SEL, QMGR_DBP_MAP]

/-! `SERV` page (chapter 08). -/

def SERV_CTL_RELAUNCH_MAX : Fld := ⟨10, 0x100, 4, 4, .rw, 2, false, [], 0x0⟩
def SERV_CTL_ENABLE : Fld := ⟨10, 0x100, 0, 1, .rw, 0, false, [], 0x0⟩
def SERV_OVH_LAUNCH : Fld := ⟨10, 0x104, 16, 16, .rw, 20, false, [], 0x0⟩
def SERV_OVH_FIXED : Fld := ⟨10, 0x104, 0, 16, .rw, 150, false, [], 0x0⟩
def SERV_KEY : Fld := ⟨10, 0x108, 0, 64, .rw, 0, true, [], 0x0⟩
def SERV_CLASS_HEADROOM (j : Nat) : Fld := ⟨10, 0x110 + 4 * j, 16, 16, .rw, 0, false, [], 0x0⟩
def SERV_CLASS_PFX_EN (j : Nat) : Fld := ⟨10, 0x110 + 4 * j, 2, 1, .rw, 0, false, [], 0x0⟩
def SERV_CLASS_SHED_AT_RISK (j : Nat) : Fld := ⟨10, 0x110 + 4 * j, 1, 1, .rw, 0, false, [], 0x0⟩
def SERV_CLASS_CONTINUE_LATE (j : Nat) : Fld := ⟨10, 0x110 + 4 * j, 0, 1, .rw, 0, false, [], 0x0⟩
def SERV_SLOT_SEL : Fld := ⟨10, 0x120, 0, 6, .rw, 0, false, [], 0x0⟩
def SERV_SLOT_CFG_FAULTED : Fld := ⟨10, 0x124, 31, 1, .ro, 0, false, [], 0x120⟩
def SERV_SLOT_CFG_DRAFT_SLOT : Fld := ⟨10, 0x124, 24, 6, .rw, 0, false, [], 0x120⟩
def SERV_SLOT_CFG_PARTITION : Fld := ⟨10, 0x124, 16, 6, .rw, 0, false, [], 0x120⟩
def SERV_SLOT_CFG_SPEC_LEN : Fld := ⟨10, 0x124, 8, 4, .rw, 0, false, [], 0x120⟩
def SERV_SLOT_CFG_SPEC_EN : Fld := ⟨10, 0x124, 1, 1, .rw, 0, false, [], 0x120⟩
def SERV_SLOT_CFG_ENABLE : Fld := ⟨10, 0x124, 0, 1, .rw, 0, false, [], 0x120⟩
def SERV_SLOT_SIZE_CHUNK : Fld := ⟨10, 0x128, 16, 16, .rw, 256, false, [(1, 8192)], 0x120⟩
def SERV_SLOT_SIZE_SEATS : Fld := ⟨10, 0x128, 0, 16, .rw, 1, false, [(1, 4096)], 0x120⟩
def SERV_SLOT_IO : Fld := ⟨10, 0x12C, 0, 64, .rw, 0, false, [], 0x120⟩
def SERV_SLOT_SCR : Fld := ⟨10, 0x138, 0, 64, .rw, 0, false, [], 0x120⟩
def SERV_SLOT_REC : Fld := ⟨10, 0x140, 0, 64, .rw, 0, false, [], 0x120⟩
def SERV_SLOT_IOCNT : Fld := ⟨10, 0x134, 0, 5, .rw, 1, false, [(1, 16)], 0x120⟩
def SERV_BUCKET_SEL : Fld := ⟨10, 0x148, 0, 4, .rw, 0, false, [], 0x0⟩
def SERV_BUCKET_BOUND : Fld := ⟨10, 0x14C, 0, 32, .rw, 0, false, [], 0x120⟩
def SERV_SLOT_CYCLE : Fld := ⟨10, 0x150, 0, 32, .ro, 0, false, [], 0x120⟩
def SERV_TEN_SEL : Fld := ⟨10, 0x160, 0, 8, .rw, 0, false, [], 0x0⟩
def SERV_TEN_RATE : Fld := ⟨10, 0x164, 0, 24, .rw, 0, true, [], 0x160⟩
def SERV_TEN_BURST : Fld := ⟨10, 0x168, 0, 31, .rw, 0, true, [], 0x160⟩
def SERV_TEN_WEIGHT : Fld := ⟨10, 0x16C, 0, 8, .rw, 16, true, [], 0x160⟩
def SERV_TEN_LEVEL : Fld := ⟨10, 0x170, 0, 32, .ro, 0, false, [], 0x160⟩
def SERV_ADMIT_CNT : Fld := ⟨10, 0x180, 0, 32, .ro, 0, false, [], 0x0⟩
def SERV_REFUSE_CNT : Fld := ⟨10, 0x184, 0, 32, .ro, 0, false, [], 0x0⟩
def SERV_LATE_CNT : Fld := ⟨10, 0x188, 0, 32, .ro, 0, false, [], 0x0⟩
def SERV_RISK_CNT : Fld := ⟨10, 0x18C, 0, 32, .ro, 0, false, [], 0x0⟩
def SERV_DRAFT_PROPOSED : Fld := ⟨10, 0x190, 0, 32, .ro, 0, false, [], 0x0⟩
def SERV_DRAFT_ACCEPTED : Fld := ⟨10, 0x194, 0, 32, .ro, 0, false, [], 0x0⟩
def SERV_RELAUNCH_CNT : Fld := ⟨10, 0x198, 0, 32, .ro, 0, false, [], 0x0⟩

/-- Every field of a `SERV` page. -/
def servFields : List Fld :=
  [SERV_CTL_RELAUNCH_MAX, SERV_CTL_ENABLE, SERV_OVH_LAUNCH, SERV_OVH_FIXED, SERV_KEY, SERV_SLOT_SEL, SERV_SLOT_CFG_FAULTED, SERV_SLOT_CFG_DRAFT_SLOT, SERV_SLOT_CFG_PARTITION, SERV_SLOT_CFG_SPEC_LEN, SERV_SLOT_CFG_SPEC_EN, SERV_SLOT_CFG_ENABLE, SERV_SLOT_SIZE_CHUNK, SERV_SLOT_SIZE_SEATS, SERV_SLOT_IO, SERV_SLOT_SCR, SERV_SLOT_REC, SERV_SLOT_IOCNT, SERV_BUCKET_SEL, SERV_BUCKET_BOUND, SERV_SLOT_CYCLE, SERV_TEN_SEL, SERV_TEN_RATE, SERV_TEN_BURST] ++
  [SERV_TEN_WEIGHT, SERV_TEN_LEVEL, SERV_ADMIT_CNT, SERV_REFUSE_CNT, SERV_LATE_CNT, SERV_RISK_CNT, SERV_DRAFT_PROPOSED, SERV_DRAFT_ACCEPTED, SERV_RELAUNCH_CNT] ++
  (List.range 4).map SERV_CLASS_HEADROOM ++
  (List.range 4).map SERV_CLASS_PFX_EN ++
  (List.range 4).map SERV_CLASS_SHED_AT_RISK ++
  (List.range 4).map SERV_CLASS_CONTINUE_LATE

/-! `KVPG` page (chapter 07). -/

def KVPG_POOL_BASE : Fld := ⟨11, 0x100, 0, 64, .rw, 0, false, [], 0x0⟩
def KVPG_POOL_PAGES : Fld := ⟨11, 0x108, 0, 27, .rw, 0, true, [(1, 67108864)], 0x0⟩
def KVPG_SEQ_BASE : Fld := ⟨11, 0x10C, 0, 64, .rw, 0, false, [], 0x0⟩
def KVPG_FREE : Fld := ⟨11, 0x114, 0, 27, .ro, 0, false, [], 0x0⟩
def KVPG_SCRUB : Fld := ⟨11, 0x118, 0, 27, .ro, 0, false, [], 0x0⟩
def KVPG_LOW_MARK : Fld := ⟨11, 0x11C, 0, 27, .rw, 0, false, [], 0x0⟩
def KVPG_TEN_SEL : Fld := ⟨11, 0x120, 0, 8, .rw, 0, false, [], 0x0⟩
def KVPG_TEN_RESV : Fld := ⟨11, 0x124, 0, 27, .rw, 0, true, [], 0x120⟩
def KVPG_TEN_SHARED_OVERCOMMIT : Fld := ⟨11, 0x128, 31, 1, .rw, 0, true, [], 0x120⟩
def KVPG_TEN_SHARED_SHARED_MAX : Fld := ⟨11, 0x128, 0, 27, .rw, 0, true, [], 0x120⟩
def KVPG_TEN_USED : Fld := ⟨11, 0x12C, 0, 27, .ro, 0, false, [], 0x120⟩
def KVPG_TEN_PARKED : Fld := ⟨11, 0x130, 0, 17, .ro, 0, false, [], 0x120⟩
def KVPG_PARK_CNT : Fld := ⟨11, 0x134, 0, 32, .ro, 0, false, [], 0x0⟩
def KVPG_EXHAUST_CNT : Fld := ⟨11, 0x138, 0, 32, .ro, 0, false, [], 0x0⟩
def KVPG_WRITE_DROP : Fld := ⟨11, 0x13C, 0, 32, .ro, 0, false, [], 0x0⟩
def KVPG_ROWS_PADDED : Fld := ⟨11, 0x140, 0, 32, .ro, 0, false, [], 0x0⟩
def KVPG_COPY_CNT : Fld := ⟨11, 0x144, 0, 32, .ro, 0, false, [], 0x0⟩

/-- Every field of a `KVPG` page. -/
def kvpgFields : List Fld :=
  [KVPG_POOL_BASE, KVPG_POOL_PAGES, KVPG_SEQ_BASE, KVPG_FREE, KVPG_SCRUB, KVPG_LOW_MARK, KVPG_TEN_SEL, KVPG_TEN_RESV, KVPG_TEN_SHARED_OVERCOMMIT, KVPG_TEN_SHARED_SHARED_MAX, KVPG_TEN_USED, KVPG_TEN_PARKED, KVPG_PARK_CNT, KVPG_EXHAUST_CNT, KVPG_WRITE_DROP, KVPG_ROWS_PADDED, KVPG_COPY_CNT]

/-! `PFX` page (chapter 08). -/

def PFX_TEN_SEL : Fld := ⟨12, 0x100, 0, 8, .rw, 0, false, [], 0x0⟩
def PFX_TEN_BASE : Fld := ⟨12, 0x104, 0, 64, .rw, 0, false, [], 0x100⟩
def PFX_TEN_NODES : Fld := ⟨12, 0x10C, 0, 24, .rw, 0, false, [], 0x100⟩
def PFX_TEN_USED : Fld := ⟨12, 0x110, 0, 24, .ro, 0, false, [], 0x100⟩
def PFX_LOOKUP_CNT : Fld := ⟨12, 0x114, 0, 32, .ro, 0, false, [], 0x0⟩
def PFX_HIT_CNT : Fld := ⟨12, 0x118, 0, 32, .ro, 0, false, [], 0x0⟩
def PFX_HIT_BLOCKS : Fld := ⟨12, 0x11C, 0, 32, .ro, 0, false, [], 0x0⟩
def PFX_SKIP_CNT : Fld := ⟨12, 0x120, 0, 32, .ro, 0, false, [], 0x0⟩

/-- Every field of a `PFX` page. -/
def pfxFields : List Fld :=
  [PFX_TEN_SEL, PFX_TEN_BASE, PFX_TEN_NODES, PFX_TEN_USED, PFX_LOOKUP_CNT, PFX_HIT_CNT, PFX_HIT_BLOCKS, PFX_SKIP_CNT]

/-! `WAG` page (chapter 12). -/

def WAG_CTL_RETRAIN : Fld := ⟨13, 0x100, 5, 1, .wo, 0, false, [], 0x0⟩
def WAG_CTL_MIN_WIDTH : Fld := ⟨13, 0x100, 3, 2, .rw, 0, false, [(0, 2)], 0x0⟩
def WAG_CTL_MAX_GEN : Fld := ⟨13, 0x100, 1, 2, .rw, 2, false, [(1, 2)], 0x0⟩
def WAG_CTL_ENABLE : Fld := ⟨13, 0x100, 0, 1, .rw, 0, true, [], 0x0⟩
def WAG_STAT_DOWN_CAUSE : Fld := ⟨13, 0x104, 8, 4, .ro, 0, false, [], 0x0⟩
def WAG_STAT_DEGRADED : Fld := ⟨13, 0x104, 7, 1, .ro, 0, false, [], 0x0⟩
def WAG_STAT_WIDTH : Fld := ⟨13, 0x104, 4, 3, .ro, 0, false, [], 0x0⟩
def WAG_STAT_GEN : Fld := ⟨13, 0x104, 3, 1, .ro, 0, false, [], 0x0⟩
def WAG_STAT_STATE : Fld := ⟨13, 0x104, 0, 3, .ro, 0, false, [], 0x0⟩
def WAG_PEER_PORT : Fld := ⟨13, 0x108, 13, 3, .ro, 0, false, [], 0x0⟩
def WAG_PEER_MODULE : Fld := ⟨13, 0x108, 0, 9, .ro, 0, false, [], 0x0⟩
def WAG_REPLAY_ACTIVE : Fld := ⟨13, 0x10C, 31, 1, .ro, 0, false, [], 0x0⟩
def WAG_REPLAY_HELD : Fld := ⟨13, 0x10C, 0, 9, .ro, 0, false, [], 0x0⟩
def WAG_FEC_CE_CNT : Fld := ⟨13, 0x110, 0, 32, .rws, 0, false, [(0, 0)], 0x0⟩
def WAG_FEC_UE_CNT : Fld := ⟨13, 0x114, 0, 32, .rws, 0, false, [(0, 0)], 0x0⟩
def WAG_REPLAY_CNT : Fld := ⟨13, 0x118, 0, 32, .rws, 0, false, [(0, 0)], 0x0⟩
def WAG_TAG_FAIL_CNT : Fld := ⟨13, 0x11C, 0, 32, .rws, 0, false, [(0, 0)], 0x0⟩
def WAG_DOWN_CNT : Fld := ⟨13, 0x120, 0, 32, .rws, 0, false, [(0, 0)], 0x0⟩
def WAG_VC_DROP_CNT : Fld := ⟨13, 0x124, 0, 32, .rws, 0, false, [(0, 0)], 0x0⟩
def WAG_TX_CTR : Fld := ⟨13, 0x128, 0, 64, .ro, 0, false, [], 0x0⟩
def WAG_REKEY_CNT : Fld := ⟨13, 0x130, 0, 32, .ro, 0, false, [], 0x0⟩
def WAG_LANES_KEPT : Fld := ⟨13, 0x134, 4, 4, .ro, 0, false, [], 0x0⟩
def WAG_LANES_LOCKED : Fld := ⟨13, 0x134, 0, 4, .ro, 0, false, [], 0x0⟩
def WAG_REF_LOCKED : Fld := ⟨13, 0x140, 5, 1, .ro, 0, false, [], 0x0⟩
def WAG_REF_NONE : Fld := ⟨13, 0x140, 4, 1, .rw, 1, true, [], 0x0⟩
def WAG_REF_UPSTREAM : Fld := ⟨13, 0x140, 0, 3, .rw, 0, true, [(0, 5)], 0x0⟩

/-- Every field of a `WAG` page. -/
def wagFields : List Fld :=
  [WAG_CTL_RETRAIN, WAG_CTL_MIN_WIDTH, WAG_CTL_MAX_GEN, WAG_CTL_ENABLE, WAG_STAT_DOWN_CAUSE, WAG_STAT_DEGRADED, WAG_STAT_WIDTH, WAG_STAT_GEN, WAG_STAT_STATE, WAG_PEER_PORT, WAG_PEER_MODULE, WAG_REPLAY_ACTIVE, WAG_REPLAY_HELD, WAG_FEC_CE_CNT, WAG_FEC_UE_CNT, WAG_REPLAY_CNT, WAG_TAG_FAIL_CNT, WAG_DOWN_CNT, WAG_VC_DROP_CNT, WAG_TX_CTR, WAG_REKEY_CNT, WAG_LANES_KEPT, WAG_LANES_LOCKED, WAG_REF_LOCKED] ++
  [WAG_REF_NONE, WAG_REF_UPSTREAM]

/-! `HIVE` page (chapter 13). -/

def HIVE_CTL_RELOAD_SHARDS : Fld := ⟨14, 0x100, 3, 1, .wo, 0, false, [], 0x0⟩
def HIVE_CTL_AUTO_EXPEL : Fld := ⟨14, 0x100, 1, 1, .rw, 0, true, [], 0x0⟩
def HIVE_CTL_RESTART : Fld := ⟨14, 0x100, 0, 1, .wo, 0, true, [], 0x0⟩
def HIVE_ID_ID_CFG : Fld := ⟨14, 0x104, 16, 9, .rw, 0, true, [], 0x0⟩
def HIVE_ID_ID : Fld := ⟨14, 0x104, 0, 9, .ro, 0, false, [], 0x0⟩
def HIVE_ROLE_CONFLICT : Fld := ⟨14, 0x108, 8, 1, .ro, 0, false, [], 0x0⟩
def HIVE_ROLE_ROLE_CFG : Fld := ⟨14, 0x108, 4, 2, .rw, 0, true, [], 0x0⟩
def HIVE_ROLE_ROLE : Fld := ⟨14, 0x108, 0, 2, .ro, 0, false, [], 0x0⟩
def HIVE_SHAPE_EZ : Fld := ⟨14, 0x10C, 16, 3, .rw, 0, false, [(0, 4)], 0x0⟩
def HIVE_SHAPE_EY : Fld := ⟨14, 0x10C, 13, 3, .rw, 0, false, [(0, 4)], 0x0⟩
def HIVE_SHAPE_EX : Fld := ⟨14, 0x10C, 10, 3, .rw, 0, false, [(0, 4)], 0x0⟩
def HIVE_SHAPE_Z0 : Fld := ⟨14, 0x10C, 6, 3, .rw, 0, false, [], 0x0⟩
def HIVE_SHAPE_Y0 : Fld := ⟨14, 0x10C, 3, 3, .rw, 0, false, [], 0x0⟩
def HIVE_SHAPE_X0 : Fld := ⟨14, 0x10C, 0, 3, .rw, 0, false, [], 0x0⟩
def HIVE_STAT_QUEEN : Fld := ⟨14, 0x110, 16, 9, .ro, 0, false, [], 0x0⟩
def HIVE_STAT_NO_DEPUTY : Fld := ⟨14, 0x110, 3, 1, .ro, 0, false, [], 0x0⟩
def HIVE_STAT_STATE : Fld := ⟨14, 0x110, 0, 3, .ro, 0, false, [], 0x0⟩
def HIVE_DEPUTY_CFG_EN : Fld := ⟨14, 0x114, 31, 1, .rw, 0, false, [], 0x0⟩
def HIVE_DEPUTY_DEPUTY_CFG : Fld := ⟨14, 0x114, 16, 9, .rw, 0, false, [], 0x0⟩
def HIVE_DEPUTY_DEPUTY : Fld := ⟨14, 0x114, 0, 9, .ro, 511, false, [], 0x0⟩
def HIVE_EPOCH : Fld := ⟨14, 0x118, 0, 32, .ro, 0, false, [], 0x0⟩
def HIVE_FORM_CFG_QUEEN_LOSS : Fld := ⟨14, 0x11C, 24, 8, .rw, 4, false, [(1, 255)], 0x0⟩
def HIVE_FORM_CFG_LOSS_WAIT : Fld := ⟨14, 0x11C, 16, 8, .rw, 10, false, [(1, 255)], 0x0⟩
def HIVE_FORM_CFG_WAIT : Fld := ⟨14, 0x11C, 0, 10, .rw, 100, false, [(10, 1000)], 0x0⟩
def HIVE_MEMBER (j : Nat) : Fld := ⟨14, 0x120 + 4 * j, 0, 32, .ro, 0, false, [], 0x0⟩
def HIVE_SUSPECT_CFG_MIN_P : Fld := ⟨14, 0x160, 16, 8, .rw, 16, false, [(1, 255)], 0x0⟩
def HIVE_SUSPECT_CFG_SHARE : Fld := ⟨14, 0x160, 8, 8, .rw, 25, false, [(1, 100)], 0x0⟩
def HIVE_SUSPECT_CFG_WINDOW : Fld := ⟨14, 0x160, 0, 8, .rw, 64, false, [(16, 255)], 0x0⟩
def HIVE_EXPEL_CFG_WINDOW : Fld := ⟨14, 0x164, 8, 24, .rw, 86400, true, [(1, 16777215)], 0x0⟩
def HIVE_EXPEL_CFG_BUDGET : Fld := ⟨14, 0x164, 0, 8, .rw, 1, true, [], 0x0⟩
def HIVE_EXPEL_STAT_SPENT : Fld := ⟨14, 0x168, 8, 1, .ro, 0, false, [], 0x0⟩
def HIVE_EXPEL_STAT_USED : Fld := ⟨14, 0x168, 0, 8, .ro, 0, false, [], 0x0⟩
def HIVE_MOD_SEL : Fld := ⟨14, 0x16C, 0, 9, .rw, 0, false, [], 0x0⟩
def HIVE_MOD_STAT_COUNTED : Fld := ⟨14, 0x170, 16, 16, .ro, 0, false, [], 0x16C⟩
def HIVE_MOD_STAT_LAST1 : Fld := ⟨14, 0x170, 8, 8, .ro, 0, false, [], 0x16C⟩
def HIVE_MOD_STAT_SUSPECT : Fld := ⟨14, 0x170, 3, 1, .ro, 0, false, [], 0x16C⟩
def HIVE_MOD_STAT_STATE : Fld := ⟨14, 0x170, 0, 3, .ro, 0, false, [], 0x16C⟩
def HIVE_MOD_CTL_CLEAR_SUSPECT : Fld := ⟨14, 0x174, 1, 1, .wo, 0, true, [], 0x16C⟩
def HIVE_MOD_CTL_EXPEL : Fld := ⟨14, 0x174, 0, 1, .wo, 0, true, [], 0x16C⟩
def HIVE_MOD_HIST (j : Nat) : Fld := ⟨14, 0x180 + 4 * j, 0, 32, .ro, 0, false, [], 0x16C⟩
def HIVE_BAR_SEL : Fld := ⟨14, 0x1C0, 0, 6, .rw, 0, false, [], 0x0⟩
def HIVE_BAR_CFG_ENABLE : Fld := ⟨14, 0x1C4, 31, 1, .rw, 0, false, [], 0x1C0⟩
def HIVE_BAR_CFG_SPARE : Fld := ⟨14, 0x1C4, 30, 1, .rw, 0, false, [], 0x1C0⟩
def HIVE_BAR_CFG_TENANT : Fld := ⟨14, 0x1C4, 16, 8, .rw, 0, false, [], 0x1C0⟩
def HIVE_BAR_CFG_SHARD : Fld := ⟨14, 0x1C4, 0, 9, .rw, 0, false, [], 0x1C0⟩
def HIVE_BAR_ARRIVE : Fld := ⟨14, 0x1C8, 0, 20, .rw, 0, false, [], 0x1C0⟩
def HIVE_BAR_RELEASE : Fld := ⟨14, 0x1CC, 0, 20, .rw, 0, false, [], 0x1C0⟩
def HIVE_BAR_VERDICT : Fld := ⟨14, 0x1D0, 0, 20, .rw, 0, false, [], 0x1C0⟩
def HIVE_BAR_THRESH : Fld := ⟨14, 0x1D4, 0, 64, .rw, 0, false, [], 0x1C0⟩
def HIVE_BAR_STRIDE : Fld := ⟨14, 0x1DC, 0, 32, .rw, 0, false, [], 0x1C0⟩
def HIVE_BAR_STAT : Fld := ⟨14, 0x1E0, 0, 2, .ro, 0, false, [], 0x1C0⟩
def HIVE_BAR_GEN : Fld := ⟨14, 0x1E4, 0, 32, .ro, 0, false, [], 0x1C0⟩
def HIVE_BAR_BACKUP_VALID : Fld := ⟨14, 0x1E8, 31, 1, .ro, 0, false, [], 0x1C0⟩
def HIVE_BAR_BACKUP_SHARD : Fld := ⟨14, 0x1E8, 0, 9, .ro, 0, false, [], 0x1C0⟩
def HIVE_SHARD_BASE : Fld := ⟨14, 0x1F0, 0, 64, .rw, 0, true, [], 0x0⟩
def HIVE_BACKUP_CFG_MAX_MISSING : Fld := ⟨14, 0x1F8, 16, 4, .rw, 1, false, [], 0x0⟩
def HIVE_BACKUP_CFG_DELAY : Fld := ⟨14, 0x1F8, 0, 16, .rw, 200, false, [(1, 65534)], 0x0⟩
def HIVE_BAR_STALE : Fld := ⟨14, 0x1FC, 0, 32, .ro, 0, false, [], 0x0⟩
def HIVE_PROG_USEFUL : Fld := ⟨14, 0x200, 0, 64, .ro, 0, false, [], 0x0⟩
def HIVE_PROG_ELAPSED : Fld := ⟨14, 0x208, 0, 64, .ro, 0, false, [], 0x0⟩
def HIVE_PROG_WASTED : Fld := ⟨14, 0x210, 0, 64, .ro, 0, false, [], 0x0⟩
def HIVE_USEFUL_SLOTS : Fld := ⟨14, 0x218, 0, 64, .rw, 0, false, [], 0x0⟩
def HIVE_AGG_USEFUL : Fld := ⟨14, 0x220, 0, 64, .ro, 0, false, [], 0x0⟩
def HIVE_AGG_ELAPSED : Fld := ⟨14, 0x228, 0, 64, .ro, 0, false, [], 0x0⟩
def HIVE_AGG_WASTED : Fld := ⟨14, 0x230, 0, 64, .ro, 0, false, [], 0x0⟩
def HIVE_AGG_CFG_REPORTED : Fld := ⟨14, 0x238, 16, 16, .ro, 0, false, [], 0x0⟩
def HIVE_AGG_CFG_INTERVAL : Fld := ⟨14, 0x238, 0, 12, .rw, 1, false, [(1, 3600)], 0x0⟩

/-- Every field of a `HIVE` page. -/
def hiveFields : List Fld :=
  [HIVE_CTL_RELOAD_SHARDS, HIVE_CTL_AUTO_EXPEL, HIVE_CTL_RESTART, HIVE_ID_ID_CFG, HIVE_ID_ID, HIVE_ROLE_CONFLICT, HIVE_ROLE_ROLE_CFG, HIVE_ROLE_ROLE, HIVE_SHAPE_EZ, HIVE_SHAPE_EY, HIVE_SHAPE_EX, HIVE_SHAPE_Z0, HIVE_SHAPE_Y0, HIVE_SHAPE_X0, HIVE_STAT_QUEEN, HIVE_STAT_NO_DEPUTY, HIVE_STAT_STATE, HIVE_DEPUTY_CFG_EN, HIVE_DEPUTY_DEPUTY_CFG, HIVE_DEPUTY_DEPUTY, HIVE_EPOCH, HIVE_FORM_CFG_QUEEN_LOSS, HIVE_FORM_CFG_LOSS_WAIT, HIVE_FORM_CFG_WAIT] ++
  [HIVE_SUSPECT_CFG_MIN_P, HIVE_SUSPECT_CFG_SHARE, HIVE_SUSPECT_CFG_WINDOW, HIVE_EXPEL_CFG_WINDOW, HIVE_EXPEL_CFG_BUDGET, HIVE_EXPEL_STAT_SPENT, HIVE_EXPEL_STAT_USED, HIVE_MOD_SEL, HIVE_MOD_STAT_COUNTED, HIVE_MOD_STAT_LAST1, HIVE_MOD_STAT_SUSPECT, HIVE_MOD_STAT_STATE, HIVE_MOD_CTL_CLEAR_SUSPECT, HIVE_MOD_CTL_EXPEL, HIVE_BAR_SEL, HIVE_BAR_CFG_ENABLE, HIVE_BAR_CFG_SPARE, HIVE_BAR_CFG_TENANT, HIVE_BAR_CFG_SHARD, HIVE_BAR_ARRIVE, HIVE_BAR_RELEASE, HIVE_BAR_VERDICT, HIVE_BAR_THRESH, HIVE_BAR_STRIDE] ++
  [HIVE_BAR_STAT, HIVE_BAR_GEN, HIVE_BAR_BACKUP_VALID, HIVE_BAR_BACKUP_SHARD, HIVE_SHARD_BASE, HIVE_BACKUP_CFG_MAX_MISSING, HIVE_BACKUP_CFG_DELAY, HIVE_BAR_STALE, HIVE_PROG_USEFUL, HIVE_PROG_ELAPSED, HIVE_PROG_WASTED, HIVE_USEFUL_SLOTS, HIVE_AGG_USEFUL, HIVE_AGG_ELAPSED, HIVE_AGG_WASTED, HIVE_AGG_CFG_REPORTED, HIVE_AGG_CFG_INTERVAL] ++
  (List.range 16).map HIVE_MEMBER ++
  (List.range 16).map HIVE_MOD_HIST

/-! `MERID` page (chapter 13). -/

def MERID_TIME : Fld := ⟨15, 0x100, 0, 64, .ro, 0, false, [], 0x0⟩
def MERID_STAT_DEPTH : Fld := ⟨15, 0x108, 8, 4, .ro, 0, false, [], 0x0⟩
def MERID_STAT_QUALITY : Fld := ⟨15, 0x108, 0, 2, .ro, 0, true, [], 0x0⟩
def MERID_OFFSET : Fld := ⟨15, 0x10C, 0, 32, .ro, 0, false, [], 0x0⟩
def MERID_DELAY : Fld := ⟨15, 0x110, 0, 32, .ro, 0, false, [], 0x0⟩
def MERID_CFG : Fld := ⟨15, 0x114, 0, 1, .rw, 0, true, [], 0x0⟩
def MERID_SET : Fld := ⟨15, 0x118, 0, 64, .rw, 0, true, [], 0x0⟩
def MERID_SLEW : Fld := ⟨15, 0x120, 0, 32, .rw, 0, true, [], 0x0⟩
def MERID_STEP : Fld := ⟨15, 0x124, 0, 32, .ro, 0, false, [], 0x0⟩

/-- Every field of a `MERID` page. -/
def meridFields : List Fld :=
  [MERID_TIME, MERID_STAT_DEPTH, MERID_STAT_QUALITY, MERID_OFFSET, MERID_DELAY, MERID_CFG, MERID_SET, MERID_SLEW, MERID_STEP]

/-! `TWIN` page (chapter 14). -/

def TWIN_CFG_PEER : Fld := ⟨16, 0x100, 16, 9, .rw, 0, true, [], 0x0⟩
def TWIN_CFG_ROLE_CFG : Fld := ⟨16, 0x100, 0, 2, .rw, 0, true, [(1, 2)], 0x0⟩
def TWIN_PARTS : Fld := ⟨16, 0x104, 0, 64, .rw, 0, true, [], 0x0⟩
def TWIN_CTL_TAKEOVER : Fld := ⟨16, 0x10C, 3, 1, .wo, 0, true, [], 0x0⟩
def TWIN_CTL_SWAP : Fld := ⟨16, 0x10C, 2, 1, .wo, 0, true, [], 0x0⟩
def TWIN_CTL_UNPAIR : Fld := ⟨16, 0x10C, 1, 1, .wo, 0, true, [], 0x0⟩
def TWIN_CTL_PAIR : Fld := ⟨16, 0x10C, 0, 1, .wo, 0, true, [], 0x0⟩
def TWIN_STAT_CAUSE : Fld := ⟨16, 0x110, 12, 3, .ro, 0, false, [], 0x0⟩
def TWIN_STAT_VERDICT : Fld := ⟨16, 0x110, 8, 3, .ro, 0, false, [], 0x0⟩
def TWIN_STAT_STATE : Fld := ⟨16, 0x110, 0, 3, .ro, 0, false, [], 0x0⟩
def TWIN_SKEW : Fld := ⟨16, 0x114, 0, 32, .ro, 0, false, [], 0x0⟩
def TWIN_SKEW_MAX : Fld := ⟨16, 0x118, 0, 32, .ro, 0, false, [], 0x0⟩
def TWIN_PROF_SEL : Fld := ⟨16, 0x11C, 0, 4, .rw, 0, false, [], 0x0⟩
def TWIN_PROF_ABS : Fld := ⟨16, 0x120, 0, 32, .rw, 0, false, [(0, 2139095040)], 0x11C⟩
def TWIN_PROF_REL : Fld := ⟨16, 0x124, 0, 32, .rw, 0, false, [(0, 2139095040)], 0x11C⟩
def TWIN_PROF_EPS : Fld := ⟨16, 0x128, 0, 32, .rw, 0, false, [(0, 2139095040)], 0x11C⟩
def TWIN_PROF_MAXMIS : Fld := ⟨16, 0x12C, 0, 32, .rw, 0, false, [], 0x11C⟩
def TWIN_CMP_CNT : Fld := ⟨16, 0x130, 0, 32, .ro, 0, false, [], 0x0⟩
def TWIN_DIV_CNT : Fld := ⟨16, 0x134, 0, 32, .ro, 0, false, [], 0x0⟩
def TWIN_EXEMPT_CNT : Fld := ⟨16, 0x138, 0, 32, .ro, 0, false, [], 0x0⟩
def TWIN_FAILOVER_CNT : Fld := ⟨16, 0x13C, 0, 32, .ro, 0, false, [], 0x0⟩
def TWIN_LAST_DIV_MARK_ID : Fld := ⟨16, 0x140, 16, 16, .ro, 0, false, [], 0x0⟩
def TWIN_LAST_DIV_PARTITION : Fld := ⟨16, 0x140, 8, 6, .ro, 0, false, [], 0x0⟩
def TWIN_LAST_DIV_SLOT : Fld := ⟨16, 0x140, 0, 6, .ro, 0, false, [], 0x0⟩
def TWIN_LAST_MIS : Fld := ⟨16, 0x144, 0, 32, .ro, 0, false, [], 0x0⟩

/-- Every field of a `TWIN` page. -/
def twinFields : List Fld :=
  [TWIN_CFG_PEER, TWIN_CFG_ROLE_CFG, TWIN_PARTS, TWIN_CTL_TAKEOVER, TWIN_CTL_SWAP, TWIN_CTL_UNPAIR, TWIN_CTL_PAIR, TWIN_STAT_CAUSE, TWIN_STAT_VERDICT, TWIN_STAT_STATE, TWIN_SKEW, TWIN_SKEW_MAX, TWIN_PROF_SEL, TWIN_PROF_ABS, TWIN_PROF_REL, TWIN_PROF_EPS, TWIN_PROF_MAXMIS, TWIN_CMP_CNT, TWIN_DIV_CNT, TWIN_EXEMPT_CNT, TWIN_FAILOVER_CNT, TWIN_LAST_DIV_MARK_ID, TWIN_LAST_DIV_PARTITION, TWIN_LAST_DIV_SLOT] ++
  [TWIN_LAST_MIS]

/-! `SEC` page (chapter 15). -/

def SEC_STAT_ACTIVE_TENANTS : Fld := ⟨17, 0x100, 16, 9, .ro, 1, false, [], 0x0⟩
def SEC_STAT_GROUP_KEY : Fld := ⟨17, 0x100, 4, 1, .ro, 0, false, [], 0x0⟩
def SEC_STAT_OPKEY_SET : Fld := ⟨17, 0x100, 3, 1, .ro, 0, false, [], 0x0⟩
def SEC_STAT_UNLOCK_PENDING : Fld := ⟨17, 0x100, 2, 1, .ro, 0, false, [], 0x0⟩
def SEC_STAT_DEBUG_OPEN : Fld := ⟨17, 0x100, 1, 1, .ro, 0, false, [], 0x0⟩
def SEC_STAT_READY : Fld := ⟨17, 0x100, 0, 1, .ro, 0, false, [], 0x0⟩
def SEC_TEN_SEL : Fld := ⟨17, 0x104, 0, 8, .rw, 0, false, [], 0x0⟩
def SEC_TEN_STATE_STAGE : Fld := ⟨17, 0x108, 8, 3, .ro, 0, false, [], 0x104⟩
def SEC_TEN_STATE_TRANSPORT : Fld := ⟨17, 0x108, 3, 1, .ro, 0, false, [], 0x104⟩
def SEC_TEN_STATE_SEAL_REQ : Fld := ⟨17, 0x108, 2, 1, .ro, 0, false, [], 0x104⟩
def SEC_TEN_STATE_STATE : Fld := ⟨17, 0x108, 0, 2, .ro, 0, false, [], 0x104⟩
def SEC_DRAIN : Fld := ⟨17, 0x10C, 0, 16, .rw, 100, true, [(1, 65534)], 0x0⟩
def SEC_WKEY_SEL : Fld := ⟨17, 0x110, 0, 6, .rw, 0, false, [], 0x0⟩
def SEC_WKEY_HELD : Fld := ⟨17, 0x114, 31, 1, .ro, 0, false, [], 0x110⟩
def SEC_WKEY_TENANT : Fld := ⟨17, 0x114, 0, 8, .ro, 0, false, [], 0x110⟩
def SEC_DEVID (j : Nat) : Fld := ⟨17, 0x120 + 4 * j, 0, 32, .ro, 0, false, [], 0x0⟩
def SEC_BINDID (j : Nat) : Fld := ⟨17, 0x130 + 4 * j, 0, 32, .ro, 0, false, [], 0x0⟩
def SEC_GROUPID (j : Nat) : Fld := ⟨17, 0x140 + 4 * j, 0, 32, .ro, 0, false, [], 0x0⟩
def SEC_GROUP_CTL : Fld := ⟨17, 0x150, 0, 1, .wo, 0, true, [], 0x0⟩
def SEC_OPKEY (j : Nat) : Fld := ⟨17, 0x160 + 4 * j, 0, 32, .rw, 0, true, [], 0x0⟩
def SEC_OPKEY_CTL_CHANGES : Fld := ⟨17, 0x1A0, 16, 16, .ro, 0, false, [], 0x0⟩
def SEC_OPKEY_CTL_COMMIT : Fld := ⟨17, 0x1A0, 0, 1, .wo, 0, true, [], 0x0⟩
def SEC_UNLOCK_NONCE (j : Nat) : Fld := ⟨17, 0x1B0 + 4 * j, 0, 32, .ro, 0, false, [], 0x0⟩
def SEC_UNLOCK_CTL_SUBMIT : Fld := ⟨17, 0x1C0, 1, 1, .wo, 0, false, [], 0x0⟩
def SEC_UNLOCK_CTL_NEW_NONCE : Fld := ⟨17, 0x1C0, 0, 1, .wo, 0, false, [], 0x0⟩
def SEC_UNLOCK_STAT_STATUS : Fld := ⟨17, 0x1C4, 16, 16, .ro, 0, true, [], 0x0⟩
def SEC_UNLOCK_STAT_SCOPE : Fld := ⟨17, 0x1C4, 0, 3, .ro, 0, false, [], 0x0⟩
def SEC_UNLOCK_FAIL_CNT : Fld := ⟨17, 0x1D0, 0, 32, .ro, 0, false, [], 0x0⟩
def SEC_BIND_DENY_CNT : Fld := ⟨17, 0x1D4, 0, 32, .ro, 0, false, [], 0x0⟩
def SEC_RETIRE_CNT : Fld := ⟨17, 0x1D8, 0, 32, .ro, 0, false, [], 0x0⟩
def SEC_SPDM_CNT : Fld := ⟨17, 0x1DC, 0, 32, .ro, 0, false, [], 0x0⟩
def SEC_UNLOCK_BUF (j : Nat) : Fld := ⟨17, 0x200 + 4 * j, 0, 32, .wo, 0, false, [], 0x0⟩

/-- Every field of a `SEC` page. -/
def secFields : List Fld :=
  [SEC_STAT_ACTIVE_TENANTS, SEC_STAT_GROUP_KEY, SEC_STAT_OPKEY_SET, SEC_STAT_UNLOCK_PENDING, SEC_STAT_DEBUG_OPEN, SEC_STAT_READY, SEC_TEN_SEL, SEC_TEN_STATE_STAGE, SEC_TEN_STATE_TRANSPORT, SEC_TEN_STATE_SEAL_REQ, SEC_TEN_STATE_STATE, SEC_DRAIN, SEC_WKEY_SEL, SEC_WKEY_HELD, SEC_WKEY_TENANT, SEC_GROUP_CTL, SEC_OPKEY_CTL_CHANGES, SEC_OPKEY_CTL_COMMIT, SEC_UNLOCK_CTL_SUBMIT, SEC_UNLOCK_CTL_NEW_NONCE, SEC_UNLOCK_STAT_STATUS, SEC_UNLOCK_STAT_SCOPE, SEC_UNLOCK_FAIL_CNT, SEC_BIND_DENY_CNT] ++
  [SEC_RETIRE_CNT, SEC_SPDM_CNT] ++
  (List.range 4).map SEC_DEVID ++
  (List.range 4).map SEC_BINDID ++
  (List.range 4).map SEC_GROUPID ++
  (List.range 16).map SEC_OPKEY ++
  (List.range 4).map SEC_UNLOCK_NONCE ++
  (List.range 64).map SEC_UNLOCK_BUF

/-! `PACE` page (chapter 02). -/

def PACE_FLOOR_EFFECTIVE : Fld := ⟨18, 0x100, 16, 16, .ro, 1250, false, [], 0x0⟩
def PACE_FLOOR_MIN_RATE : Fld := ⟨18, 0x100, 0, 16, .rw, 1250, false, [(500, 1800)], 0x0⟩
def PACE_MEAS_SLOW_SENSOR : Fld := ⟨18, 0x104, 16, 11, .ro, 0, false, [], 0x0⟩
def PACE_MEAS_RATE : Fld := ⟨18, 0x104, 0, 16, .ro, 0, false, [], 0x0⟩
def PACE_VOLT_CEILING : Fld := ⟨18, 0x108, 16, 12, .ro, 900, false, [], 0x0⟩
def PACE_VOLT_VSET : Fld := ⟨18, 0x108, 0, 12, .ro, 750, false, [], 0x0⟩
def PACE_VLIM_VMAX : Fld := ⟨18, 0x10C, 16, 12, .rw, 900, false, [(600, 900)], 0x0⟩
def PACE_VLIM_VMIN : Fld := ⟨18, 0x10C, 0, 12, .rw, 600, false, [(600, 900)], 0x0⟩
def PACE_STAT_LOAD_PATTERN : Fld := ⟨18, 0x110, 12, 3, .ro, 0, false, [], 0x0⟩
def PACE_STAT_TEMP_BAND : Fld := ⟨18, 0x110, 8, 3, .ro, 0, false, [], 0x0⟩
def PACE_STAT_RAMPING : Fld := ⟨18, 0x110, 7, 1, .ro, 0, false, [], 0x0⟩
def PACE_STAT_SENSOR_FAULT : Fld := ⟨18, 0x110, 5, 1, .ro, 0, false, [], 0x0⟩
def PACE_STAT_MARGIN_ACTIVE : Fld := ⟨18, 0x110, 4, 1, .ro, 0, false, [], 0x0⟩
def PACE_STAT_CAUSE : Fld := ⟨18, 0x110, 1, 3, .ro, 0, false, [], 0x0⟩
def PACE_STAT_BREACH : Fld := ⟨18, 0x110, 0, 1, .ro, 0, false, [], 0x0⟩
def PACE_HYST : Fld := ⟨18, 0x114, 0, 8, .rw, 50, false, [(1, 255)], 0x0⟩
def PACE_BREACH_CNT : Fld := ⟨18, 0x118, 0, 32, .ro, 0, false, [], 0x0⟩
def PACE_BREACH_INTV : Fld := ⟨18, 0x11C, 0, 32, .ro, 0, false, [], 0x0⟩
def PACE_SENSOR_SEL : Fld := ⟨18, 0x120, 0, 11, .rw, 0, false, [], 0x0⟩
def PACE_SENSOR_RD_EXCLUDED : Fld := ⟨18, 0x124, 31, 1, .ro, 0, false, [], 0x120⟩
def PACE_SENSOR_RD_FAULT : Fld := ⟨18, 0x124, 30, 1, .ro, 0, false, [], 0x120⟩
def PACE_SENSOR_RD_RATE : Fld := ⟨18, 0x124, 0, 16, .ro, 0, false, [], 0x120⟩
def PACE_MARGIN_SEL : Fld := ⟨18, 0x130, 0, 6, .rw, 0, false, [], 0x0⟩
def PACE_MARGIN_RETIRE_REQ : Fld := ⟨18, 0x134, 31, 1, .ro, 0, false, [], 0x130⟩
def PACE_MARGIN_ERRORS : Fld := ⟨18, 0x134, 16, 8, .ro, 0, false, [], 0x130⟩
def PACE_MARGIN_RAISE : Fld := ⟨18, 0x134, 0, 16, .rw, 0, true, [(0, 200)], 0x130⟩
def PACE_MARGIN_CLR : Fld := ⟨18, 0x138, 0, 1, .wo, 0, true, [], 0x0⟩
def PACE_PROMISE_PROM_RATE : Fld := ⟨18, 0x140, 16, 16, .ro, 1250, false, [], 0x0⟩
def PACE_PROMISE_RETRY_ALLOW : Fld := ⟨18, 0x140, 0, 8, .rw, 4, false, [], 0x0⟩

/-- Every field of a `PACE` page. -/
def paceFields : List Fld :=
  [PACE_FLOOR_EFFECTIVE, PACE_FLOOR_MIN_RATE, PACE_MEAS_SLOW_SENSOR, PACE_MEAS_RATE, PACE_VOLT_CEILING, PACE_VOLT_VSET, PACE_VLIM_VMAX, PACE_VLIM_VMIN, PACE_STAT_LOAD_PATTERN, PACE_STAT_TEMP_BAND, PACE_STAT_RAMPING, PACE_STAT_SENSOR_FAULT, PACE_STAT_MARGIN_ACTIVE, PACE_STAT_CAUSE, PACE_STAT_BREACH, PACE_HYST, PACE_BREACH_CNT, PACE_BREACH_INTV, PACE_SENSOR_SEL, PACE_SENSOR_RD_EXCLUDED, PACE_SENSOR_RD_FAULT, PACE_SENSOR_RD_RATE, PACE_MARGIN_SEL, PACE_MARGIN_RETIRE_REQ] ++
  [PACE_MARGIN_ERRORS, PACE_MARGIN_RAISE, PACE_MARGIN_CLR, PACE_PROMISE_PROM_RATE, PACE_PROMISE_RETRY_ALLOW]

/-! `PWR` page (chapter 16). -/

def PWR_CAP_EMERG : Fld := ⟨19, 0x100, 31, 1, .rw, 0, true, [], 0x0⟩
def PWR_CAP_CAP_W : Fld := ⟨19, 0x100, 0, 9, .rw, 420, true, [(120, 450)], 0x0⟩
def PWR_SLEW : Fld := ⟨19, 0x104, 0, 8, .rw, 50, true, [(1, 200)], 0x0⟩
def PWR_STAT_P_IN : Fld := ⟨19, 0x108, 16, 16, .ro, 0, false, [], 0x0⟩
def PWR_STAT_EFF_CAP : Fld := ⟨19, 0x108, 7, 9, .ro, 420, false, [], 0x0⟩
def PWR_STAT_DUSK : Fld := ⟨19, 0x108, 3, 1, .ro, 0, false, [], 0x0⟩
def PWR_STAT_EMERG_ACTIVE : Fld := ⟨19, 0x108, 2, 1, .ro, 0, false, [], 0x0⟩
def PWR_STAT_STANDBY : Fld := ⟨19, 0x108, 1, 1, .ro, 0, false, [], 0x0⟩
def PWR_STAT_CAP_LAG : Fld := ⟨19, 0x108, 0, 1, .ro, 0, false, [], 0x0⟩
def PWR_PLATEAU_PLAT_W : Fld := ⟨19, 0x10C, 16, 9, .ro, 0, false, [], 0x0⟩
def PWR_PLATEAU_MIN_W : Fld := ⟨19, 0x10C, 0, 9, .rw, 0, true, [(0, 450)], 0x0⟩
def PWR_BALLAST_BALLAST_EN : Fld := ⟨19, 0x110, 31, 1, .rw, 1, true, [], 0x0⟩
def PWR_BALLAST_BALLAST_W : Fld := ⟨19, 0x110, 0, 9, .ro, 0, false, [], 0x0⟩
def PWR_EST_STEP_W : Fld := ⟨19, 0x114, 24, 8, .rw, 3, false, [(1, 255)], 0x0⟩
def PWR_EST_MEMC_MW : Fld := ⟨19, 0x114, 12, 12, .rw, 2800, false, [], 0x0⟩
def PWR_EST_CELL_MW : Fld := ⟨19, 0x114, 0, 12, .rw, 980, false, [], 0x0⟩
def PWR_GATE : Fld := ⟨19, 0x118, 0, 14, .rw, 500, false, [(0, 10000)], 0x0⟩
def PWR_DUSK : Fld := ⟨19, 0x11C, 0, 12, .rw, 2000, true, [(0, 2500)], 0x0⟩
def PWR_LAG_ENERGY : Fld := ⟨19, 0x120, 0, 32, .ro, 0, false, [], 0x0⟩
def PWR_SLEW_OVER_CNT : Fld := ⟨19, 0x124, 0, 32, .ro, 0, false, [], 0x0⟩
def PWR_GATE_HOLDS : Fld := ⟨19, 0x128, 0, 32, .ro, 0, false, [], 0x0⟩
def PWR_TOL_SEL : Fld := ⟨19, 0x130, 0, 6, .rw, 0, false, [], 0x0⟩
def PWR_PART_TOL_CLASSES : Fld := ⟨19, 0x134, 28, 4, .rw, 15, false, [], 0x130⟩
def PWR_PART_TOL_TOL : Fld := ⟨19, 0x134, 0, 24, .rw, 16777215, false, [], 0x130⟩
def PWR_CLASS_TOL (j : Nat) : Fld := ⟨19, 0x140 + 4 * j, 0, 24, .rw, 0, false, [], 0x0⟩
def PWR_VID_TOL : Fld := ⟨19, 0x150, 0, 24, .rw, 1000, false, [], 0x0⟩
def PWR_WAG_TOL : Fld := ⟨19, 0x154, 0, 24, .rw, 0, false, [], 0x0⟩
def PWR_MODULE_TOL_STANDBY_EN : Fld := ⟨19, 0x158, 31, 1, .rw, 0, false, [], 0x0⟩
def PWR_MODULE_TOL_TOL : Fld := ⟨19, 0x158, 0, 24, .rw, 16777215, false, [], 0x0⟩
def PWR_DIE_VLIM (j : Nat) : Fld := ⟨19, 0x160 + 4 * j, 0, 12, .ro, 900, false, [], 0x0⟩

/-- Every field of a `PWR` page. -/
def pwrFields : List Fld :=
  [PWR_CAP_EMERG, PWR_CAP_CAP_W, PWR_SLEW, PWR_STAT_P_IN, PWR_STAT_EFF_CAP, PWR_STAT_DUSK, PWR_STAT_EMERG_ACTIVE, PWR_STAT_STANDBY, PWR_STAT_CAP_LAG, PWR_PLATEAU_PLAT_W, PWR_PLATEAU_MIN_W, PWR_BALLAST_BALLAST_EN, PWR_BALLAST_BALLAST_W, PWR_EST_STEP_W, PWR_EST_MEMC_MW, PWR_EST_CELL_MW, PWR_GATE, PWR_DUSK, PWR_LAG_ENERGY, PWR_SLEW_OVER_CNT, PWR_GATE_HOLDS, PWR_TOL_SEL, PWR_PART_TOL_CLASSES, PWR_PART_TOL_TOL] ++
  [PWR_VID_TOL, PWR_WAG_TOL, PWR_MODULE_TOL_STANDBY_EN, PWR_MODULE_TOL_TOL] ++
  (List.range 4).map PWR_CLASS_TOL ++
  (List.range 5).map PWR_DIE_VLIM

/-! `CLK` page (chapter 16). -/

def CLK_STAT_FALLBACK_NOT_READY : Fld := ⟨20, 0x100, 2, 1, .ro, 0, false, [], 0x0⟩
def CLK_STAT_TCXO_FAULT : Fld := ⟨20, 0x100, 1, 1, .ro, 0, false, [], 0x0⟩
def CLK_STAT_TCXO_STABLE : Fld := ⟨20, 0x100, 0, 1, .ro, 0, false, [], 0x0⟩
def CLK_LOOP_SEL : Fld := ⟨20, 0x104, 0, 6, .rw, 0, false, [(0, 41)], 0x0⟩
def CLK_LOOP_STAT_DIVIDER : Fld := ⟨20, 0x108, 8, 4, .ro, 0, false, [], 0x104⟩
def CLK_LOOP_STAT_GATE_STUCK : Fld := ⟨20, 0x108, 7, 1, .ro, 0, false, [], 0x104⟩
def CLK_LOOP_STAT_GATED : Fld := ⟨20, 0x108, 6, 1, .ro, 0, false, [], 0x104⟩
def CLK_LOOP_STAT_SRC_LOST : Fld := ⟨20, 0x108, 5, 1, .ro, 0, false, [], 0x104⟩
def CLK_LOOP_STAT_SOURCE : Fld := ⟨20, 0x108, 3, 2, .ro, 0, false, [], 0x104⟩
def CLK_LOOP_STAT_STATE : Fld := ⟨20, 0x108, 0, 3, .ro, 0, false, [], 0x104⟩
def CLK_OBS_SEL_KIND : Fld := ⟨20, 0x10C, 30, 2, .rw, 0, false, [(0, 2)], 0x0⟩
def CLK_OBS_SEL_DIE : Fld := ⟨20, 0x10C, 27, 3, .rw, 0, false, [(0, 4)], 0x0⟩
def CLK_OBS_SEL_INDEX : Fld := ⟨20, 0x10C, 16, 11, .rw, 0, false, [], 0x0⟩
def CLK_OBS_SEL_DIV : Fld := ⟨20, 0x10C, 0, 16, .rw, 0, false, [], 0x0⟩
def CLK_OBS_STAT_ENABLED : Fld := ⟨20, 0x110, 1, 1, .rw, 0, false, [], 0x0⟩
def CLK_OBS_STAT_OVER : Fld := ⟨20, 0x110, 0, 1, .ro, 0, false, [], 0x0⟩
def CLK_SRC_FAIL_CNT : Fld := ⟨20, 0x114, 0, 32, .ro, 0, false, [], 0x0⟩
def CLK_GATE_STUCK_CNT : Fld := ⟨20, 0x118, 0, 32, .ro, 0, false, [], 0x0⟩

/-- Every field of a `CLK` page. -/
def clkFields : List Fld :=
  [CLK_STAT_FALLBACK_NOT_READY, CLK_STAT_TCXO_FAULT, CLK_STAT_TCXO_STABLE, CLK_LOOP_SEL, CLK_LOOP_STAT_DIVIDER, CLK_LOOP_STAT_GATE_STUCK, CLK_LOOP_STAT_GATED, CLK_LOOP_STAT_SRC_LOST, CLK_LOOP_STAT_SOURCE, CLK_LOOP_STAT_STATE, CLK_OBS_SEL_KIND, CLK_OBS_SEL_DIE, CLK_OBS_SEL_INDEX, CLK_OBS_SEL_DIV, CLK_OBS_STAT_ENABLED, CLK_OBS_STAT_OVER, CLK_SRC_FAIL_CNT, CLK_GATE_STUCK_CNT]

/-! `VID` page (chapter 17). -/

def VID_STAT_CTX : Fld := ⟨21, 0x100, 16, 8, .ro, 255, false, [], 0x0⟩
def VID_STAT_PAUSED : Fld := ⟨21, 0x100, 2, 1, .ro, 0, false, [], 0x0⟩
def VID_STAT_LIVE : Fld := ⟨21, 0x100, 1, 1, .ro, 0, false, [], 0x0⟩
def VID_STAT_BUSY : Fld := ⟨21, 0x100, 0, 1, .ro, 0, false, [], 0x0⟩
def VID_PICTURES : Fld := ⟨21, 0x104, 0, 32, .ro, 0, false, [], 0x0⟩
def VID_CONCEAL_CNT : Fld := ⟨21, 0x108, 0, 32, .ro, 0, false, [], 0x0⟩
def VID_STREAM_ERR_CNT : Fld := ⟨21, 0x10C, 0, 32, .ro, 0, false, [], 0x0⟩
def VID_STOLEN_CNT : Fld := ⟨21, 0x110, 0, 32, .ro, 0, false, [], 0x0⟩
def VID_PREEMPT_CNT : Fld := ⟨21, 0x114, 0, 32, .ro, 0, false, [], 0x0⟩
def VID_STEPS : Fld := ⟨21, 0x118, 0, 64, .ro, 0, false, [], 0x0⟩
def VID_CTX_SEL : Fld := ⟨21, 0x140, 0, 7, .rw, 0, false, [], 0x0⟩
def VID_CTX_STAT_STATE : Fld := ⟨21, 0x144, 30, 2, .ro, 0, false, [], 0x140⟩
def VID_CTX_STAT_LIVE : Fld := ⟨21, 0x144, 29, 1, .ro, 0, false, [], 0x140⟩
def VID_CTX_STAT_ENCODE : Fld := ⟨21, 0x144, 28, 1, .ro, 0, false, [], 0x140⟩
def VID_CTX_STAT_STD : Fld := ⟨21, 0x144, 26, 2, .ro, 0, false, [], 0x140⟩
def VID_CTX_STAT_ENGINES : Fld := ⟨21, 0x144, 8, 8, .ro, 0, false, [], 0x140⟩
def VID_CTX_STAT_TENANT : Fld := ⟨21, 0x144, 0, 8, .ro, 0, false, [], 0x140⟩
def VID_CTX_REF : Fld := ⟨21, 0x148, 0, 64, .ro, 0, false, [], 0x140⟩
def VID_CTX_OUT : Fld := ⟨21, 0x150, 0, 64, .ro, 0, false, [], 0x140⟩

/-- Every field of a `VID` page. -/
def vidFields : List Fld :=
  [VID_STAT_CTX, VID_STAT_PAUSED, VID_STAT_LIVE, VID_STAT_BUSY, VID_PICTURES, VID_CONCEAL_CNT, VID_STREAM_ERR_CNT, VID_STOLEN_CNT, VID_PREEMPT_CNT, VID_STEPS, VID_CTX_SEL, VID_CTX_STAT_STATE, VID_CTX_STAT_LIVE, VID_CTX_STAT_ENCODE, VID_CTX_STAT_STD, VID_CTX_STAT_ENGINES, VID_CTX_STAT_TENANT, VID_CTX_REF, VID_CTX_OUT]

/-! `VPRE` page (chapter 17). -/

def VPRE_STAT_TENANT : Fld := ⟨22, 0x100, 1, 8, .ro, 0, false, [], 0x0⟩
def VPRE_STAT_BUSY : Fld := ⟨22, 0x100, 0, 1, .ro, 0, false, [], 0x0⟩
def VPRE_JOBS : Fld := ⟨22, 0x104, 0, 32, .ro, 0, false, [], 0x0⟩
def VPRE_ERR_CNT : Fld := ⟨22, 0x108, 0, 32, .ro, 0, false, [], 0x0⟩
def VPRE_STEPS : Fld := ⟨22, 0x10C, 0, 64, .ro, 0, false, [], 0x0⟩

/-- Every field of a `VPRE` page. -/
def vpreFields : List Fld :=
  [VPRE_STAT_TENANT, VPRE_STAT_BUSY, VPRE_JOBS, VPRE_ERR_CNT, VPRE_STEPS]

/-! `EVR` page (chapter 18). -/

def EVR_CTL_CLEAR_METRICS : Fld := ⟨23, 0x100, 2, 1, .wo, 0, true, [], 0x0⟩
def EVR_CTL_FREEZE : Fld := ⟨23, 0x100, 1, 1, .rw, 0, false, [], 0x0⟩
def EVR_CTL_FLUSH : Fld := ⟨23, 0x100, 0, 1, .wo, 0, false, [], 0x0⟩
def EVR_STAT_TIME_Q : Fld := ⟨23, 0x104, 19, 2, .ro, 0, false, [], 0x0⟩
def EVR_STAT_COPIED : Fld := ⟨23, 0x104, 18, 1, .ro, 0, false, [], 0x0⟩
def EVR_STAT_FROZEN : Fld := ⟨23, 0x104, 17, 1, .ro, 0, false, [], 0x0⟩
def EVR_STAT_RECORDS : Fld := ⟨23, 0x104, 0, 17, .ro, 0, false, [], 0x0⟩
def EVR_DUMP_BASE : Fld := ⟨23, 0x108, 0, 64, .rw, 0, false, [], 0x0⟩
def EVR_FLUSH_PERIOD : Fld := ⟨23, 0x110, 0, 11, .rw, 10, false, [(1, 1440)], 0x0⟩
def EVR_DROP_CNT (j : Nat) : Fld := ⟨23, 0x114 + 4 * j, 0, 32, .ro, 0, false, [], 0x0⟩
def EVR_HOLD_DROP_CNT : Fld := ⟨23, 0x128, 0, 32, .ro, 0, false, [], 0x0⟩
def EVR_RTC : Fld := ⟨23, 0x130, 0, 64, .ro, 0, false, [], 0x0⟩
def EVR_RTC_SET : Fld := ⟨23, 0x138, 0, 64, .rw, 0, true, [], 0x0⟩
def EVR_RTC_CTL : Fld := ⟨23, 0x140, 0, 1, .wo, 0, true, [], 0x0⟩
def EVR_MET_SEL : Fld := ⟨23, 0x150, 0, 10, .rw, 0, false, [], 0x0⟩
def EVR_MET_LOW : Fld := ⟨23, 0x154, 0, 32, .rw, 0, false, [], 0x150⟩
def EVR_MET_CFG_SHIFT : Fld := ⟨23, 0x158, 17, 5, .rw, 0, false, [], 0x150⟩
def EVR_MET_CFG_INTERVAL : Fld := ⟨23, 0x158, 0, 17, .rw, 60, false, [(1, 86400)], 0x150⟩
def EVR_MET_DESC_DEFINED : Fld := ⟨23, 0x15C, 8, 1, .ro, 0, false, [], 0x150⟩
def EVR_MET_DESC_UNIT : Fld := ⟨23, 0x15C, 0, 8, .ro, 0, false, [], 0x150⟩

/-- Every field of a `EVR` page. -/
def evrFields : List Fld :=
  [EVR_CTL_CLEAR_METRICS, EVR_CTL_FREEZE, EVR_CTL_FLUSH, EVR_STAT_TIME_Q, EVR_STAT_COPIED, EVR_STAT_FROZEN, EVR_STAT_RECORDS, EVR_DUMP_BASE, EVR_FLUSH_PERIOD, EVR_HOLD_DROP_CNT, EVR_RTC, EVR_RTC_SET, EVR_RTC_CTL, EVR_MET_SEL, EVR_MET_LOW, EVR_MET_CFG_SHIFT, EVR_MET_CFG_INTERVAL, EVR_MET_DESC_DEFINED, EVR_MET_DESC_UNIT] ++
  (List.range 5).map EVR_DROP_CNT

/-! `NVS` page (chapter 18). -/

def NVS_STAT_LAST_CAUSE : Fld := ⟨24, 0x100, 8, 3, .ro, 0, false, [], 0x0⟩
def NVS_STAT_SEQ_END : Fld := ⟨24, 0x100, 5, 1, .ro, 0, false, [], 0x0⟩
def NVS_STAT_LOST : Fld := ⟨24, 0x100, 4, 1, .ro, 0, false, [], 0x0⟩
def NVS_STAT_FLUSHING : Fld := ⟨24, 0x100, 3, 1, .ro, 0, false, [], 0x0⟩
def NVS_STAT_VALID1 : Fld := ⟨24, 0x100, 2, 1, .ro, 0, false, [], 0x0⟩
def NVS_STAT_VALID0 : Fld := ⟨24, 0x100, 1, 1, .ro, 0, false, [], 0x0⟩
def NVS_STAT_CURRENT : Fld := ⟨24, 0x100, 0, 1, .ro, 0, false, [], 0x0⟩
def NVS_SEQ : Fld := ⟨24, 0x104, 0, 64, .ro, 0, false, [], 0x0⟩
def NVS_FLUSH_CNT : Fld := ⟨24, 0x10C, 0, 32, .rws, 0, false, [(0, 0)], 0x0⟩
def NVS_FLUSH_FAIL_CNT : Fld := ⟨24, 0x110, 0, 32, .rws, 0, false, [(0, 0)], 0x0⟩
def NVS_CRC_FAIL_CNT : Fld := ⟨24, 0x114, 0, 32, .rws, 0, false, [(0, 0)], 0x0⟩
def NVS_LAST_US : Fld := ⟨24, 0x118, 0, 32, .ro, 0, false, [], 0x0⟩

/-- Every field of a `NVS` page. -/
def nvsFields : List Fld :=
  [NVS_STAT_LAST_CAUSE, NVS_STAT_SEQ_END, NVS_STAT_LOST, NVS_STAT_FLUSHING, NVS_STAT_VALID1, NVS_STAT_VALID0, NVS_STAT_CURRENT, NVS_SEQ, NVS_FLUSH_CNT, NVS_FLUSH_FAIL_CNT, NVS_CRC_FAIL_CNT, NVS_LAST_US]

/-! `FWU` page (chapter 19). -/

def FWU_CTL_HEALTH : Fld := ⟨25, 0x100, 5, 1, .wo, 0, true, [], 0x0⟩
def FWU_CTL_ABORT : Fld := ⟨25, 0x100, 4, 1, .wo, 0, true, [], 0x0⟩
def FWU_CTL_ACTIVATE : Fld := ⟨25, 0x100, 3, 1, .wo, 0, true, [], 0x0⟩
def FWU_CTL_CHUNK_GO : Fld := ⟨25, 0x100, 2, 1, .wo, 0, true, [], 0x0⟩
def FWU_CTL_BEGIN : Fld := ⟨25, 0x100, 1, 1, .wo, 0, true, [], 0x0⟩
def FWU_STAT_STAGED : Fld := ⟨25, 0x104, 16, 9, .ro, 0, false, [], 0x0⟩
def FWU_STAT_HEALTH_COMMITTED : Fld := ⟨25, 0x104, 6, 1, .ro, 0, false, [], 0x0⟩
def FWU_STAT_CHAIN_SOURCE : Fld := ⟨25, 0x104, 5, 1, .ro, 0, false, [], 0x0⟩
def FWU_STAT_TARGET : Fld := ⟨25, 0x104, 4, 1, .ro, 0, false, [], 0x0⟩
def FWU_STAT_STATE : Fld := ⟨25, 0x104, 0, 2, .ro, 0, false, [], 0x0⟩
def FWU_MAN_ADDR : Fld := ⟨25, 0x108, 0, 64, .rw, 0, false, [], 0x0⟩
def FWU_MAN_LEN : Fld := ⟨25, 0x110, 0, 15, .rw, 0, false, [(210, 16701)], 0x0⟩
def FWU_CHUNK_SEL_DEVICE : Fld := ⟨25, 0x114, 31, 1, .rw, 0, false, [], 0x0⟩
def FWU_CHUNK_SEL_INDEX : Fld := ⟨25, 0x114, 0, 9, .rw, 0, false, [(0, 510)], 0x0⟩
def FWU_CHUNK_ADDR : Fld := ⟨25, 0x118, 0, 64, .rw, 0, false, [], 0x0⟩
def FWU_RESULT_VALID : Fld := ⟨25, 0x120, 31, 1, .ro, 0, false, [], 0x0⟩
def FWU_RESULT_INDEX : Fld := ⟨25, 0x120, 16, 9, .ro, 0, false, [], 0x0⟩
def FWU_RESULT_STATUS : Fld := ⟨25, 0x120, 0, 16, .ro, 0, false, [], 0x0⟩
def FWU_BITMAP (j : Nat) : Fld := ⟨25, 0x140 + 4 * j, 0, 32, .ro, 0, false, [], 0x0⟩
def FWU_CFG_CHAIN_ACCEPT : Fld := ⟨25, 0x180, 31, 1, .rw, 1, true, [], 0x0⟩
def FWU_CFG_CHAIN_SOURCE : Fld := ⟨25, 0x180, 30, 1, .rw, 0, true, [], 0x0⟩
def FWU_CFG_CHAIN_RATE : Fld := ⟨25, 0x180, 0, 17, .rw, 1000, false, [(1, 100000)], 0x0⟩
def FWU_CHAIN_DONE : Fld := ⟨25, 0x184, 0, 10, .ro, 0, false, [], 0x0⟩
def FWU_CHUNK_CNT : Fld := ⟨25, 0x188, 0, 32, .ro, 0, false, [], 0x0⟩
def FWU_DIGEST_FAIL_CNT : Fld := ⟨25, 0x18C, 0, 32, .ro, 0, false, [], 0x0⟩

/-- Every field of a `FWU` page. -/
def fwuFields : List Fld :=
  [FWU_CTL_HEALTH, FWU_CTL_ABORT, FWU_CTL_ACTIVATE, FWU_CTL_CHUNK_GO, FWU_CTL_BEGIN, FWU_STAT_STAGED, FWU_STAT_HEALTH_COMMITTED, FWU_STAT_CHAIN_SOURCE, FWU_STAT_TARGET, FWU_STAT_STATE, FWU_MAN_ADDR, FWU_MAN_LEN, FWU_CHUNK_SEL_DEVICE, FWU_CHUNK_SEL_INDEX, FWU_CHUNK_ADDR, FWU_RESULT_VALID, FWU_RESULT_INDEX, FWU_RESULT_STATUS, FWU_CFG_CHAIN_ACCEPT, FWU_CFG_CHAIN_SOURCE, FWU_CFG_CHAIN_RATE, FWU_CHAIN_DONE, FWU_CHUNK_CNT, FWU_DIGEST_FAIL_CNT] ++
  (List.range 16).map FWU_BITMAP

/-! `BOOT` page (chapter 19). -/

def BOOT_STAT_STAGE : Fld := ⟨26, 0x100, 20, 4, .ro, 0, false, [], 0x0⟩
def BOOT_STAT_RECOVERY_CAUSE : Fld := ⟨26, 0x100, 12, 4, .ro, 0, false, [], 0x0⟩
def BOOT_STAT_RUNNING : Fld := ⟨26, 0x100, 8, 2, .ro, 0, false, [], 0x0⟩
def BOOT_STAT_TRIAL : Fld := ⟨26, 0x100, 2, 1, .ro, 0, false, [], 0x0⟩
def BOOT_STAT_RECOVERY : Fld := ⟨26, 0x100, 1, 1, .ro, 0, false, [], 0x0⟩
def BOOT_STAT_READY : Fld := ⟨26, 0x100, 0, 1, .ro, 0, false, [], 0x0⟩
def BOOT_VARIANT_VARIANT : Fld := ⟨26, 0x104, 31, 1, .ro, 0, false, [], 0x0⟩
def BOOT_VARIANT_USABLE_GIB : Fld := ⟨26, 0x104, 0, 10, .ro, 0, false, [], 0x0⟩
def BOOT_CTL_RECOVERY : Fld := ⟨26, 0x108, 2, 1, .wo, 0, true, [], 0x0⟩
def BOOT_CTL_COLD : Fld := ⟨26, 0x108, 1, 1, .wo, 0, true, [], 0x0⟩
def BOOT_CTL_WARM : Fld := ⟨26, 0x108, 0, 1, .wo, 0, true, [], 0x0⟩
def BOOT_CFG_REQUIRE_COSIGN : Fld := ⟨26, 0x10C, 31, 1, .rw, 0, true, [], 0x0⟩
def BOOT_CFG_WARM_WAIT : Fld := ⟨26, 0x10C, 8, 12, .rw, 100, false, [(1, 1000)], 0x0⟩
def BOOT_CFG_FATAL_ACTION : Fld := ⟨26, 0x10C, 4, 2, .rw, 1, true, [(0, 2)], 0x0⟩
def BOOT_CFG_PERST_SCOPE : Fld := ⟨26, 0x10C, 0, 2, .rw, 0, true, [(0, 2)], 0x0⟩
def BOOT_RESET_CAUSE_KIND : Fld := ⟨26, 0x110, 8, 2, .ro, 0, false, [], 0x0⟩
def BOOT_RESET_CAUSE_CAUSE : Fld := ⟨26, 0x110, 0, 8, .ro, 0, false, [], 0x0⟩
def BOOT_COLD_CNT : Fld := ⟨26, 0x114, 0, 32, .ro, 0, false, [], 0x0⟩
def BOOT_WARM_CNT : Fld := ⟨26, 0x118, 0, 32, .ro, 0, false, [], 0x0⟩
def BOOT_FALLBACK_CNT : Fld := ⟨26, 0x11C, 0, 32, .ro, 0, false, [], 0x0⟩
def BOOT_READY_MS : Fld := ⟨26, 0x120, 0, 32, .ro, 0, false, [], 0x0⟩
def BOOT_SLOTS_OTHER_CONFIRMED : Fld := ⟨26, 0x124, 12, 1, .ro, 0, false, [], 0x0⟩
def BOOT_SLOTS_TRIAL_BOOTS : Fld := ⟨26, 0x124, 8, 2, .ro, 0, false, [], 0x0⟩
def BOOT_SLOTS_TRIAL : Fld := ⟨26, 0x124, 4, 2, .ro, 3, false, [], 0x0⟩
def BOOT_SLOTS_ACTIVE : Fld := ⟨26, 0x124, 0, 2, .ro, 3, false, [], 0x0⟩
def BOOT_TRIAL_LEFT : Fld := ⟨26, 0x128, 0, 11, .ro, 0, false, [], 0x0⟩
def BOOT_PRESET_GO : Fld := ⟨26, 0x12C, 31, 1, .wo, 0, true, [], 0x0⟩
def BOOT_PRESET_DOMAIN : Fld := ⟨26, 0x12C, 0, 9, .rw, 0, false, [(0, 401)], 0x0⟩
def BOOT_PRESET_STAT_STATUS : Fld := ⟨26, 0x130, 16, 16, .ro, 0, false, [], 0x0⟩
def BOOT_PRESET_STAT_BUSY : Fld := ⟨26, 0x130, 0, 1, .ro, 0, false, [], 0x0⟩
def BOOT_MAN_DIGEST (j : Nat) : Fld := ⟨26, 0x140 + 4 * j, 0, 32, .ro, 0, false, [], 0x0⟩

/-- Every field of a `BOOT` page. -/
def bootFields : List Fld :=
  [BOOT_STAT_STAGE, BOOT_STAT_RECOVERY_CAUSE, BOOT_STAT_RUNNING, BOOT_STAT_TRIAL, BOOT_STAT_RECOVERY, BOOT_STAT_READY, BOOT_VARIANT_VARIANT, BOOT_VARIANT_USABLE_GIB, BOOT_CTL_RECOVERY, BOOT_CTL_COLD, BOOT_CTL_WARM, BOOT_CFG_REQUIRE_COSIGN, BOOT_CFG_WARM_WAIT, BOOT_CFG_FATAL_ACTION, BOOT_CFG_PERST_SCOPE, BOOT_RESET_CAUSE_KIND, BOOT_RESET_CAUSE_CAUSE, BOOT_COLD_CNT, BOOT_WARM_CNT, BOOT_FALLBACK_CNT, BOOT_READY_MS, BOOT_SLOTS_OTHER_CONFIRMED, BOOT_SLOTS_TRIAL_BOOTS, BOOT_SLOTS_TRIAL] ++
  [BOOT_SLOTS_ACTIVE, BOOT_TRIAL_LEFT, BOOT_PRESET_GO, BOOT_PRESET_DOMAIN, BOOT_PRESET_STAT_STATUS, BOOT_PRESET_STAT_BUSY] ++
  (List.range 16).map BOOT_MAN_DIGEST

end Sys2Proof.Machine.R

namespace Sys2Proof.Machine.Irq

/-! Bits of IRQ_RAW, IRQ_EN and IRQ_CLR on each page (R489), as the pages list them. -/

def CELL_RETIRED : Nat := 5
def CELL_TEST_DONE : Nat := 4
def CELL_PLAN_FAULT : Nat := 3
def CELL_STORE_CE : Nat := 2
def CELL_STORE_UE : Nat := 1
def CELL_RESIDUE : Nat := 0
def APIPE_RETIRED : Nat := 3
def APIPE_TEST_DONE : Nat := 2
def APIPE_CMD_FAULT : Nat := 1
def APIPE_RESIDUE : Nat := 0
def MEMC_TRAIN_FAIL : Nat := 6
def MEMC_HOT : Nat := 5
def MEMC_SCRUB_LAG : Nat := 4
def MEMC_POISON : Nat := 3
def MEMC_PATH : Nat := 2
def MEMC_RETRIED : Nat := 1
def MEMC_CE : Nat := 0
def MPHY_TRAIN_DONE : Nat := 0
def DIE_CLASS_CHANGE : Nat := 0
def HOST_AER : Nat := 5
def HOST_REFCLK_LOST : Nat := 4
def HOST_IDE_INSECURE : Nat := 3
def HOST_SEAL_FAIL : Nat := 2
def HOST_FLR : Nat := 1
def HOST_LINK_CHANGE : Nat := 0
def DMA_ERROR : Nat := 1
def DMA_DONE : Nat := 0
def QMGR_CQ_WAIT : Nat := 3
def QMGR_SIG_DENY : Nat := 2
def QMGR_DB_ERROR : Nat := 1
def QMGR_HALT : Nat := 0
def SERV_SLOT_FAULT : Nat := 3
def SERV_LATE : Nat := 2
def SERV_AT_RISK : Nat := 1
def SERV_RELAUNCH : Nat := 0
def KVPG_WRITE_DROP : Nat := 3
def KVPG_EXHAUSTED : Nat := 2
def KVPG_PARK : Nat := 1
def KVPG_POOL_LOW : Nat := 0
def PFX_INSERT_SKIP : Nat := 0
def WAG_REF_LOST : Nat := 4
def WAG_REKEY : Nat := 3
def WAG_REPLAY : Nat := 2
def WAG_LINK_DOWN : Nat := 1
def WAG_LINK_UP : Nat := 0
def HIVE_SHARD_DROPPED : Nat := 7
def HIVE_MEMBER_LOST : Nat := 6
def HIVE_BUDGET_SPENT : Nat := 5
def HIVE_SUSPECT : Nat := 4
def HIVE_BACKUP_START : Nat := 3
def HIVE_EXPELLED : Nat := 2
def HIVE_STOPPED : Nat := 1
def HIVE_FORMED : Nat := 0
def MERID_STEP : Nat := 2
def MERID_HOLDOVER : Nat := 1
def MERID_LOCKED : Nat := 0
def TWIN_BROKEN : Nat := 4
def TWIN_FAILOVER : Nat := 3
def TWIN_UNDETERMINED : Nat := 2
def TWIN_DIVERGENCE : Nat := 1
def TWIN_PAIRED : Nat := 0
def SEC_GROUP_KEY : Nat := 4
def SEC_DEBUG_OPEN : Nat := 3
def SEC_UNLOCK_DENIED : Nat := 2
def SEC_RETIRED : Nat := 1
def SEC_KEY_INSTALLED : Nat := 0
def PACE_MARGIN_CHANGE : Nat := 3
def PACE_SENSOR_FAULT : Nat := 2
def PACE_BREACH_EXIT : Nat := 1
def PACE_BREACH_ENTER : Nat := 0
def PWR_STANDBY_EXIT : Nat := 4
def PWR_DUSK : Nat := 3
def PWR_SLEW_OVER : Nat := 2
def PWR_EMERG : Nat := 1
def PWR_CAP_LAG : Nat := 0
def CLK_TCXO_FAULT : Nat := 3
def CLK_GATE_STUCK : Nat := 2
def CLK_FALLBACK_NOT_READY : Nat := 1
def CLK_SRC_LOST : Nat := 0
def VID_TAKEN : Nat := 2
def VID_STREAM_ERROR : Nat := 1
def VID_CONCEALED : Nat := 0
def VPRE_JOB_ERROR : Nat := 0
def EVR_FREEZE_EXPIRED : Nat := 2
def EVR_DROP : Nat := 1
def EVR_FATAL : Nat := 0
def NVS_STORE_LOST : Nat := 2
def NVS_FLUSH_FAIL : Nat := 1
def NVS_FLUSH_DONE : Nat := 0
def FWU_CHAIN_REFUSED : Nat := 3
def FWU_COMPLETE : Nat := 2
def FWU_CHUNK_ERROR : Nat := 1
def FWU_CHUNK_DONE : Nat := 0
def BOOT_FALLBACK : Nat := 3
def BOOT_RECOVERY : Nat := 2
def BOOT_PRESET_DONE : Nat := 1
def BOOT_READY : Nat := 0

end Sys2Proof.Machine.Irq

namespace Sys2Proof.Machine

/-- The fields that the pages of a block type hold from offset 0x100 on (R496). -/
def pageFields : Nat → List Fld
  | 0 => R.cellFields
  | 1 => R.apipeFields
  | 2 => R.quadFields
  | 3 => R.memcFields
  | 4 => R.mphyFields
  | 5 => R.seamFields
  | 6 => R.dieFields
  | 7 => R.hostFields
  | 8 => R.dmaFields
  | 9 => R.qmgrFields
  | 10 => R.servFields
  | 11 => R.kvpgFields
  | 12 => R.pfxFields
  | 13 => R.wagFields
  | 14 => R.hiveFields
  | 15 => R.meridFields
  | 16 => R.twinFields
  | 17 => R.secFields
  | 18 => R.paceFields
  | 19 => R.pwrFields
  | 20 => R.clkFields
  | 21 => R.vidFields
  | 22 => R.vpreFields
  | 23 => R.evrFields
  | 24 => R.nvsFields
  | 25 => R.fwuFields
  | 26 => R.bootFields
  | _ => []

/-- How many interrupt bits a page of a block type lists. -/
def irqBits : Nat → Nat
  | 0 => 6
  | 1 => 4
  | 2 => 0
  | 3 => 7
  | 4 => 1
  | 5 => 0
  | 6 => 1
  | 7 => 6
  | 8 => 2
  | 9 => 4
  | 10 => 4
  | 11 => 4
  | 12 => 1
  | 13 => 5
  | 14 => 8
  | 15 => 3
  | 16 => 5
  | 17 => 5
  | 18 => 4
  | 19 => 5
  | 20 => 4
  | 21 => 3
  | 22 => 1
  | 23 => 3
  | 24 => 3
  | 25 => 4
  | 26 => 4
  | _ => 0

end Sys2Proof.Machine
end

