-- ==== Sys2Proof/Machine/State.lean ====
section
/-!
DEFINITION. The state of the module: plain data. Everything a register shows stands once, in the register file `regs`;
the other fields hold what the spec gives the machine beside its registers, chapter by chapter.
-/

namespace Sys2Proof.Machine

/-! ## Comb (chapters 02 to 06) -/

/-- What a pace governor keeps between its intervals beyond its registers: the previous interval's effective floor, the
low count and the exit count (R49), the last measured paces, newest first (R50), and the intervals spent in the present
breach (R519). States HELD, RAMPING and BREACH stand in PACE_STAT. -/
structure Gov where
  prevEff : Nat := 1250
  lowCnt  : Nat := 0
  exitCnt : Nat := 0
  recent  : List Nat := []
  inBreach : Nat := 0
  deriving DecidableEq, Repr

/-- One counted error of a margin entry: its Meridian time and where it arose (R54, R56). -/
structure MarginErr where
  time : Nat
  src  : MarginSrc
  deriving DecidableEq, Repr

/-- A result that an instruction has formed and that is not readable yet (R72, R73): its space (0 the store, in bytes;
1 and 2 the accumulators, in elements), where it lies, what lay there before, and the step from which it is readable. -/
structure Pend where
  space : Nat
  lo    : Nat
  old   : List Nat
  ready : Nat
  deriving DecidableEq, Repr

/-- One logical cell (R63): its store, its two accumulators (element 2048 × a + 32 × m + n, FP32 patterns), the stream
buffer ring (the stream index plus one that each ring entry holds, and its 16 bytes as a number), the step from which each
unit is free (matrix, vector, special-function, mover 0 and 1), the stream index of the next instruction, the issue
step of the last one, whether END has issued, the steps in which its bank ports were taken are not laid out (R128), and results
not yet readable. -/
structure Cell where
  store   : Tbl Byte := []
  acc     : Tbl Nat := []
  ringIdx : Tbl Nat := []
  ring    : Tbl Nat := []
  matFree : Nat := 0
  vecFree : Nat := 0
  sfuFree : Nat := 0
  mov0    : Nat := 0
  mov1    : Nat := 0
  next    : Nat := 0
  ended   : Bool := false
  pend    : List Pend := []
  deriving DecidableEq, Repr

/-- A forward command that a pipe runs (R163, R164): the issuing cell and command block, its issue step, the row info, the bytes of
Q and of the previous output and statistics, and the bytes of K and V read so far. -/
structure PipeJob where
  cell  : Nat
  addr  : Nat
  issue : Nat
  cmd   : List Byte
  info  : List Byte
  q     : List Byte
  prev  : List Byte := []
  k     : List Byte := []
  v     : List Byte := []
  deriving DecidableEq, Repr

/-- One logical attention pipe: the bytes in its key-value window and its output window, oldest first (R165), the step
from which it is free, the cell and command block of its last command, and the forward
command it runs. -/
structure Pipe where
  win  : List Byte := []
  out  : List Byte := []
  free : Nat := 0
  by_  : Nat := 0
  cmd  : Nat := 0
  job  : Option PipeJob := none
  deriving DecidableEq, Repr

/-- Causes that abandon a launch (R147), in the order of its table. -/
inductive Cause where
  | planFault | residue | store | format | poison | dusk | retire | debug
  deriving DecidableEq, Repr

/-- A batch row as captured at launch start (R183): its sequence context, write position, tokens per page, whether the
row is a padding row, and its page mapping, by layer × 2^16 + block, as frame plus one. -/
structure CapRow where
  seq      : Nat
  writePos : Nat
  tppLog2  : Nat
  pad      : Bool
  map      : Tbl Nat
  deriving DecidableEq, Repr

/-- Who issued a launch (R31, R141, R349): a queue's LAUNCH command, the serving sequencer, or the twin's mirror. -/
inductive LaunchSrc where
  | direct (queue cid : Nat)
  | serving (work : Nat)
  | mirror
  deriving DecidableEq, Repr

/-- A launch that runs in a partition: its descriptor and issuer, whether step 0 has begun (before it, the preload runs),
the step in progress, Meridian start time, the launch bound formed at start, in ns over `boundDen` (R60), the record's running counts
(R150), what the step in progress has met, the abandonment status once the cells have stopped, the last step reached,
the memory and route entries that have begun and that are done, and the captured rows. -/
structure Running where
  desc       : LaunchDesc
  src        : LaunchSrc
  begun      : Bool := false
  step       : Nat := 0
  start      : Nat := 0
  bound      : Nat := 0
  boundDen   : Nat := 1
  minProm    : Nat := 0
  lowIntv    : Nat := 0
  retries    : Nat := 0
  retrySteps : Nat := 0
  schedWaits : Nat := 0
  emptyRows  : Nat := 0
  waited     : Bool := false
  retried    : Bool := false
  causes     : List Cause := []
  stopped    : Option Status := none
  ended      : Bool := false
  faultCell  : Nat := 255
  faultAddr  : Nat := 0
  memBegun   : List Nat := []
  memDone    : List Nat := []
  rtBegun    : List Nat := []
  rtDone     : List Nat := []
  rows       : List CapRow := []
  /-- LOCAL plus one of the MOVE of KIND 0 or 1 that named a memory entry (R71). -/
  moves      : Tbl Nat := []
  /-- For a route entry that a MOVE named: its KIND, cell, LOCAL and UNITS (R71). -/
  sends      : Tbl (List Nat) := []
  /-- Data of a WRITE or KV_WRITE entry, taken from the store as it begins. -/
  wbuf       : Tbl (List Byte) := []
  /-- Steps at which poisoned data is consumed, with its device address (R147, R246). -/
  poison     : List (Nat × Nat) := []
  /-- Twin launch serial of a mirrored launch (R348). -/
  serial     : Nat := 0
  /-- Sequence contexts of its rows, for a launch of the serving sequencer. -/
  ctxs       : List Nat := []
  deriving DecidableEq, Repr

/-- A launch issued to a partition and not started. -/
structure QLaunch where
  desc : LaunchDesc
  src  : LaunchSrc
  /-- Meridian time since which the launch gate holds it (R400). -/
  held : Option Nat := none
  /-- The gate lets it pass whatever its step (R400). -/
  pass : Bool := false
  ctxs : List Nat := []
  serial : Nat := 0
  /-- The active's copy of the I/O region of a mirrored launch (R349), once read. -/
  snap   : Option (List Byte) := none
  deriving DecidableEq, Repr

/-- A partition's launch stream (R142): launches issued and not started, the running one, and the residency mark (R149).
-/
structure Part where
  queue    : List QLaunch := []
  running  : Option Running := none
  resident : Option Nat := none
  held     : Bool := false
  deriving DecidableEq, Repr

/-- States of a model slot (R140). -/
inductive SlotSt where
  | empty | loading | ready | draining
  deriving DecidableEq, Repr

/-- A model slot (R138, R140): its state, owner, weight base, the image it holds, the queue command that waits for its
load or unload, and the queues whose UNLOAD_PLAN waits for the load checks or the drain. -/
structure Slot where
  st         : SlotSt := .empty
  tenant     : Nat := 0
  weightBase : Nat := 0
  image      : List Byte := []
  loadBy     : Option Nat := none
  unloads    : List Nat := []
  verdict    : Option Status := none
  deriving DecidableEq, Repr

/-- Why a retirement was requested (R90). -/
inductive RetireReason where
  | margin | storeErrors | selfTest | operator | pipeResidue
  deriving DecidableEq, Repr

/-- A requested retirement of a physical cell or pipe, its reason, and the order of R90 it has reached (0: queued). -/
structure Retirement where
  pipe   : Bool
  num    : Nat
  reason : RetireReason
  order  : Nat := 0
  deriving DecidableEq, Repr

structure Comb where
  gov      : Tbl Gov := []
  margin   : Tbl (List MarginErr) := []
  cells    : Tbl Cell := []
  pipes    : Tbl Pipe := []
  parts    : Tbl Part := []
  slots    : Tbl Slot := []
  retire   : List Retirement := []
  ueTimes  : Tbl (List Nat) := []
  resTimes : Tbl (List Nat) := []
  routerBad : List Nat := []
  deriving DecidableEq, Repr

/-! ## Key-value pages (chapter 07) -/

/-- A sequence context (R180): the fields of its record, its level-one and table pages, and its mapping (by
layer × 2^15 + block, frame plus one). `st` is 0 FREE, 1 OPEN, 2 PARKED, 3 CLOSING. RESV_LEFT is the sum of the pages
reserved out of the tenant's reservation and out of the shared pool (R186). `ops` are the queues whose operation waits on
HELD, in arrival order (R195); `pins` counts copies that read the sequence and `closeOwed` a close that waits for them
(R196). `setFirst` and `setLen` name the interleave set of its frames (R237); `parkNo` is its place among parked sequences. -/
structure Seq where
  st         : Nat := 0
  overcommit : Bool := false
  held       : Bool := false
  host       : Bool := false
  tenant     : Nat := 0
  slot       : Nat := 0
  tppLog2    : Nat := 0
  layers     : Nat := 0
  writePos   : Nat := 0
  commitLen  : Nat := 0
  mapped     : Nat := 0
  resvOwn    : Nat := 0
  resvShared : Nat := 0
  l1         : Nat := 0
  growNeed   : Nat := 0
  growN      : Nat := 0
  parkTime   : Nat := 0
  deadline   : Nat := 0
  tables     : Tbl Nat := []
  map        : Tbl Nat := []
  ops        : List Nat := []
  pins       : Nat := 0
  closeOwed  : Bool := false
  setFirst   : Nat := 0
  setLen     : Nat := 0
  parkNo     : Nat := 0
  deriving DecidableEq, Repr

/-- A frame of the pool that is not free: its tenant, the sequence it belongs to, whether it was taken from the shared pool,
and whether it awaits its scrub (R186, R197) or was handed to retirement (R199). -/
structure Frame where
  tenant : Nat
  seq    : Nat
  shared : Bool
  scrub  : Bool := false
  handed : Bool := false
  deriving DecidableEq, Repr

/-- A prefix-hit copy in progress (R196). -/
structure KvCopy where
  src : Nat
  dst : Nat
  h   : Nat
  deriving DecidableEq, Repr

structure Kv where
  seqs   : Tbl Seq := []
  frames : Tbl (Option Frame) := []
  copies : List KvCopy := []
  /-- Sequences parked so far. -/
  parks  : Nat := 0
  deriving DecidableEq, Repr

/-! ## Serving sequencer (chapter 08) -/

/-- Where a request stands (R224), before it the wait of R396 for the wake of its slot's partitions. -/
inductive ReqSt where
  | waking | prefill | generate | ended
  deriving DecidableEq, Repr

/-- A request: its descriptor (R201), the queue it came through, its prompt, and what the sequencer keeps of it. -/
structure Req where
  queue     : Nat
  fn        : Nat
  tenant    : Nat
  slot      : Nat
  cls       : Nat
  sampled   : Bool
  spec      : Bool
  lookup    : Bool
  insert    : Bool
  seq       : Nat
  draftSeq  : Nat
  prompt    : List Nat
  maxLen    : Nat
  tag       : Nat
  eos       : Nat
  temp      : Nat
  deadline  : Nat
  outAddr   : Nat
  outCap    : Nat
  signal    : Nat
  signalEn  : Bool
  seed      : Nat
  st        : ReqSt := .prefill
  charge    : Nat := 0
  finish    : Nat := 0
  started   : Bool := false
  delivered : Nat := 0
  /-- Meridian time of its admission. -/
  admitted  : Nat := 0
  last      : Nat := 0
  hit       : Nat := 0
  atRisk    : Bool := false
  late      : Bool := false
  prefilled : Bool := false
  draftPre  : Nat := 0
  looked    : Bool := false
  passDraft : Bool := false
  abandons  : Nat := 0
  inWork    : Option Nat := none
  /-- Queues whose CANCEL waits for the launch boundary (R228). -/
  cancels   : List Nat := []
  /-- Drafted tokens of the pass in hand with their draft probabilities. -/
  drafts    : List (Nat × Nat) := []
  deriving DecidableEq, Repr

/-- Kinds of serving launches, by the KIND of the variant (R127): 0 PREFILL, 1 DECODE, 2 DRAFT, 3 VERIFY, 5 RELOAD;
`draft` says that it runs on the draft slot. -/
structure Work where
  slot     : Nat
  runSlot  : Nat
  part     : Nat
  kind     : Nat
  draft    : Bool
  bucket   : Nat
  variant  : Nat
  rows     : List Nat
  ns       : List Nat
  starts   : List Nat
  io       : Nat
  record   : Nat
  serial   : Nat
  desc     : LaunchDesc
  refused  : Option Status := none
  stopped  : Option Status := none
  endTime  : Nat := 0
  done     : Bool := false
  /-- A RELOAD launch: the launch to be made again after it. -/
  redo     : Option Nat := none
  deriving DecidableEq, Repr

/-- A tenant's budget level (R211), in 1/16 tokens, with the time it was last brought up to date and the remainder. -/
structure Budget where
  level : Int := 0
  time  : Nat := 0
  rest  : Nat := 0
  deriving DecidableEq, Repr

/-- A slot's serving state: the position in its cycle (5 × bucket + kind), the launch in flight, the I/O region taken last,
records used, and the launch, by its number, before which a RELOAD is owed (R149, R214). -/
structure ServSlot where
  cycle  : Nat := 0
  flight : Option Nat := none
  io     : Nat := 0
  recNo  : Nat := 0
  reload : Option Nat := none
  /-- Kinds and requests that have had their launch in this cycle (R212). -/
  took   : List (Nat × Nat) := []
  deriving DecidableEq, Repr

structure Serv where
  /-- Dies whose promise pace has changed since predictions were last formed (R62). -/
  dirty  : List Nat := []
  reqs   : Tbl (Option Req) := []
  nextReq : Nat := 0
  tags   : Tbl (Option (Nat × Nat)) := []
  works  : Tbl (Option Work) := []
  serial : Nat := 0
  slots  : Tbl ServSlot := []
  budget : Tbl Budget := []
  deriving DecidableEq, Repr

/-! ## Device memory (chapter 09) -/

/-- A unit whose read failed and is being read again (R246): device address, consumer, re-reads made, and whether the first
error was a path-check mismatch. -/
structure ReRead where
  addr  : Nat
  who   : Consumer
  tries : Nat
  path  : Bool
  deriving DecidableEq, Repr

/-- Device memory: the plaintext of every unit by address, units with a poison mark, units on the list that await their mark
(R246), re-reads in progress, the refreshes each channel owes (negative in advance, R242), and the time at which each
controller began its patrol pass (R248). -/
structure Mem where
  cells    : List Host.Cell := []
  poison   : List Nat := []
  awaiting : List Nat := []
  rereads  : List ReRead := []
  owed     : Tbl Int := []
  patrol   : Tbl Nat := []
  /-- Controllers whose pass has been reported late (R248). -/
  lagged   : List Nat := []
  deriving DecidableEq, Repr

/-! ## Host port and queues (chapters 10 and 11) -/

/-- A completion before it is posted (R280): the phase and the time are those of its posting. -/
structure Cpl where
  cid    : Nat
  status : Status
  flags  : Nat
  sqHead : Nat
  result : Nat
  deriving DecidableEq, Repr

/-- A fetched submission entry (R276): its ring index, its 64 bytes, the status with which it fails when it could not be
authenticated (R282), and the counter of its segment. -/
structure Sub where
  idx   : Nat
  bytes : List Byte
  bad   : Option Status := none
  deriving DecidableEq, Repr

/-- The command a queue runs (R272): its entry, the function and tenant it acts for, the Meridian time it started, whether
the timer's expiry waits for a retry below (R293), and bytes written and accepted so far. -/
structure RunCmd where
  sub     : Sub
  fn      : Nat
  tenant  : Nat
  start   : Nat
  near    : Bool := false
  written : Nat := 0
  retry   : Bool := false
  linkBad : Bool := false
  /-- The command has passed its own checks and its work goes on elsewhere. -/
  busy    : Bool := false
  /-- Serial of the PEER_COPY or REMOTE_SIGNAL message it sent. -/
  msg     : Option Nat := none
  deriving DecidableEq, Repr

/-- A queue beyond its registers (R272, R275): entries fetched ahead, the entry index that the next fetch brings, the running
command, the phase of its completion ring, and a completion held for want of ring space. -/
structure Queue where
  fetched : List Sub := []
  next    : Nat := 0
  run     : Option RunCmd := none
  phase   : Nat := 1
  held    : List Cpl := []
  deriving DecidableEq, Repr

/-- A bulk transfer on an engine (R260, R261): the queue command or the register program it serves, its descriptor, and how
far it has come. `kind` 0 is a DMA descriptor, 1 a WEIGHT_LOAD. -/
structure Xfer where
  queue   : Option Nat
  kind    : Nat
  op      : Nat
  sealed  : Bool
  tenant  : Nat
  sealQ   : Nat
  length  : Nat
  src     : Nat
  dst     : Nat
  tagAddr : Nat
  ctr     : Nat
  slot    : Nat := 0
  last    : Bool := false
  deriving DecidableEq, Repr

/-- A function's BAR4 size as a power of two (R254); 0 stands for the size at reset. -/
structure Fn where
  bar4 : Nat := 0
  deriving DecidableEq, Repr

/-- An IDE stream (R269, R380): key sets programmed (bit 2 × set + direction) for each sub-stream, whether it carries
traffic, and whether it is insecure. -/
structure IdeStream where
  keys     : List Nat := []
  active   : Option Nat := none
  insecure : Bool := false
  deriving DecidableEq, Repr

structure HostPort where
  queues  : Tbl Queue := []
  engines : Tbl (List Xfer) := []
  fns     : Tbl Fn := []
  ide     : Tbl IdeStream := []
  /-- Last counter of each stream: accepted from the host, or used towards it; by tenant × 2^32 + stream word (R266). -/
  streams : Tbl Nat := []
  /-- Meridian time of the last release of PERST_N, while the readiness sequence runs (R257). -/
  perst   : Option Nat := none
  /-- PERST_N is asserted, REFCLK is present. -/
  inReset : Bool := true
  refclk  : Bool := true
  /-- A retrain has been asked for and has not ended (R251). -/
  retrain : Bool := false
  deriving DecidableEq, Repr

/-! ## Waggle links and the hive (chapters 12 and 13) -/

/-- A message waiting to be sent: its channel, destination, tenant, and the frames it will be cut into, of which `sent` have
been built (R303, R309). -/
structure OutMsg where
  vc     : Nat
  src    : Nat
  dst    : Nat
  tenant : Nat
  hops   : Nat := 0
  dateline : Bool := false
  body   : Msg
  /-- PEER_COPY: source address, destination address and length; otherwise none. -/
  copy   : Option (Nat × Nat × Nat) := none
  sent   : Nat := 0
  /-- A forwarded frame keeps its place in its message. -/
  first  : Bool := true
  last   : Bool := true
  len    : Nat := 0
  off    : Nat := 0
  /-- The port whose receive buffer a forwarded frame holds. -/
  inPort : Option Nat := none
  deriving DecidableEq, Repr

/-- A frame held for replay: when it was last sent, and when a replay first included it (R305 to R307). -/
structure Held where
  frame : WFrame
  sent  : Nat
  since : Option Nat := none
  deriving DecidableEq, Repr

/-- A port beyond its registers: the order of R300 it trains (0 none), when it began or went down, the wait before its next
attempt in ms (R301), the peer's highest generation, what waits to be sent by channel, frames held for replay, the ones still
to be resent (R306), sequence, counter, credit and epoch state by channel and class (2 × channel + class), and the sources whose
message in hand is being dropped (R312). -/
structure WPort where
  order    : Nat := 0
  since    : Nat := 0
  wait     : Nat := 1
  peerGen  : Nat := 1
  txq      : Tbl (List OutMsg) := []
  replay   : List Held := []
  resend   : List WFrame := []
  txSeq    : Nat := 0
  rxSeq    : Nat := 0
  txCtr    : Nat := 1
  rxCtr    : Nat := 0
  txEpoch  : Nat := 0
  rxEpoch  : Nat := 0
  rekeying : Bool := false
  newTx    : Bool := false
  newRx    : Bool := false
  credits  : Tbl Nat := []
  /-- Classes of frames sent whose credit has not come back, oldest first, by channel. -/
  outst    : Tbl (List Nat) := []
  freed    : Tbl Nat := []
  nakOwed  : Bool := false
  nakFor   : Option (Nat × Nat) := none
  sinceVc2 : Nat := 0
  turn     : Nat := 0
  leaving  : Option Nat := none
  idle     : Bool := false
  /-- When the port left UP, until it is UP again (R340). -/
  downAt   : Option Nat := none
  drop     : List (Nat × Nat) := []
  deriving DecidableEq, Repr

/-- A PEER_COPY or REMOTE_SIGNAL of this module: its queue, the port it left through, and the bytes its peer has reported
accepted (R309). -/
structure PeerCmd where
  queue  : Nat
  dst    : Nat
  port   : Nat
  tenant : Nat
  length : Nat := 0
  done   : Nat := 0
  /-- The message has been aborted: how the command ends with the peer's last report (R382). -/
  ending : Option Status := none
  /-- The module has left the hive while a retry was pending (R327). -/
  stop   : Bool := false
  deriving DecidableEq, Repr

/-- An incoming PEER_COPY (R309): sender, message number, tenant, next address, bytes left, bytes accepted, and the status
once a range check has failed. -/
structure InCopy where
  src    : Nat
  cmd    : Nat
  tenant : Nat
  addr   : Nat
  left   : Nat
  done   : Nat := 0
  bad    : Option Status := none
  inPort : Nat := 0
  deriving DecidableEq, Repr

structure Wag where
  ports  : Tbl WPort := []
  cmds   : Tbl (Option PeerCmd) := []
  nextCmd : Nat := 0
  copies : List InCopy := []
  deriving DecidableEq, Repr

/-- A used entry of the queen's shard table (R332). -/
structure Shard where
  home    : Nat
  spare   : Nat
  spareEn : Bool
  deriving DecidableEq, Repr

/-- The queen's view of a channel's current generation (R333, R335, R336): its number, commits by shard (time, and whether
the backup won), the time of the latest commit, and the backup starts sent, each with its shard, home and spare. -/
structure BarGen where
  gen     : Nat := 0
  commits : Tbl (Option (Nat × Bool)) := []
  latest  : Nat := 0
  started : List (Nat × Nat × Nat) := []
  deriving DecidableEq, Repr

/-- A join collected by the queen (R324): ID, role claim, Meridian count, group identifier (R376), and the time at which it arrived. -/
structure Join where
  id    : Nat
  role  : Nat
  time  : Nat
  group : List Nat
  at_   : Nat
  deriving DecidableEq, Repr

structure Hive where
  /-- Order of R324 that the queen's restart has reached; 0 for none. -/
  order    : Nat := 0
  /-- When that order, or this module's own FORMING, began. -/
  since    : Nat := 0
  /-- Shape in force: extents and origins, x to z (R320). -/
  shape    : List Nat := []
  joins    : List Join := []
  acks     : List Nat := []
  /-- The formation call in hand: its epoch and sender, this module for its own (R322). -/
  claimed  : Option (Nat × Nat) := none
  /-- The queen's count has been set since cold reset (R331). -/
  timed    : Bool := false
  /-- The queen's copy of the shard table, by 512 × channel + shard. -/
  shards   : Tbl (Option Shard) := []
  bars     : Tbl BarGen := []
  /-- By home module: the latest counted generations, newest first, `true` for a last-1 % placing (R337). -/
  last1    : Tbl (List Bool) := []
  /-- Times of expulsions since the module took the queen's role (R338). -/
  expels   : List Nat := []
  /-- Suspects that the budget has left in place (R338). -/
  kept     : List Nat := []
  lastBeacon : Nat := 0
  /-- The latest progress report of each member (R344), and when this module last reported. -/
  reports  : Tbl (List Nat) := []
  reportAt : Nat := 0
  /-- Exchanges within the bound, in a row (R330). -/
  clean    : Nat := 0
  /-- Correction still to be applied to the Meridian count, in 1/16 ns (R328, R329). -/
  adjust   : Int := 0
  /-- Remainders of the progress counts, in cell-steps (R343). -/
  useful   : Nat := 0
  wasted   : Nat := 0
  elapsed  : Nat := 0
  /-- When this deputy declared queen loss (R342). -/
  stopAt   : Option Nat := none
  deriving DecidableEq, Repr

/-! ## Twin modules (chapter 14) -/

/-- What a unit keeps of a mirrored partition (R348 to R351): the serial of its latest launch, whether the active has received
the acknowledgement for it, the peer's last PACE report (0 none), its own bytes of compare points by serial and MARK_ID
that await the peer's, the peer's that await its own, and whether a divergence has stopped launching there. -/
structure TwinPart where
  serial   : Nat := 0
  acked    : Bool := true
  peerPace : Nat := 0
  /-- The pace this unit has last reported. -/
  toldPace : Nat := 0
  own      : List (Nat × Nat × List Byte) := []
  peer     : List (Nat × Nat × List Byte) := []
  stop     : Bool := false
  /-- Serial, slot and variant of this unit's ended launches whose points await the peer's. -/
  ends     : List (Nat × Nat × Nat) := []
  deriving DecidableEq, Repr

/-- A divergence being handled (R355): its partition, whether the self-tests have begun, the physical cells and pipes under
test, whether one of them has failed, this unit's result and the peer's (`true` passed). -/
structure TwinTest where
  part    : Nat
  begun   : Bool := false
  cells   : List Nat := []
  pipes   : List Nat := []
  failed  : Bool := false
  ownRes  : Option Bool := none
  peerRes : Option Bool := none
  deriving DecidableEq, Repr

/-- The pair (R346 to R358): the time at which PAIR was written here, the peer's pair message with the time it came, role before
TESTING (1 active, 2 standby), mirrored partitions, sequences the standby follows, the divergence in hand, and whether a
leaving notice has come from the peer. -/
structure Twin where
  asked   : Option Nat := none
  peerAsk : Option (Nat × List Nat) := none
  role    : Nat := 0
  /-- Serial of the latest mirrored launch. -/
  serial  : Nat := 0
  parts   : Tbl TwinPart := []
  follow  : List Nat := []
  test    : Option TwinTest := none
  left    : Bool := false
  /-- Tenants whose mirror messages the standby discards (R354). -/
  drop    : List Nat := []
  deriving DecidableEq, Repr

/-! ## Tenants and security (chapter 15) -/

/-- A retirement in progress (R383): its tenant, the queue whose TENANT_RETIRE waits, unless the unlock asked for it, the time
of order 1, whether W has run out, and the extents handed to its scrub. -/
structure Retiring where
  tenant  : Nat
  queue   : Option Nat
  since   : Nat
  expired : Bool := false
  extents : List Nat := []
  deriving DecidableEq, Repr

/-- An SPDM session of the responder (R377): its number, whether FINISH has established it, and key updates made. -/
structure Session where
  id      : Nat
  open_   : Bool := false
  updates : Nat := 0
  deriving DecidableEq, Repr

/-- The security island beyond its registers: retirements, extents handed to their scrub, partitions with the tenants whose
launches ran there since the last scrub (R383), the time at which the unlock nonce was drawn (R388), the committed operator key
digest, the hive group private key (R376), the scope that an accepted token asks for, and the responder's sessions, bytes of a
large request taken in chunks, and chunks of a large response given (R377). -/
structure Sec where
  retiring : List Retiring := []
  handedExtents : List Nat := []
  ran      : List (Nat × Nat) := []
  nonce    : Option Nat := none
  opkey    : List Nat := []
  group    : Option Nat := none
  scope    : Nat := 0
  sessions : List Session := []
  nextSession : Nat := 0
  request  : List Byte := []
  given    : Nat := 0
  deriving DecidableEq, Repr

/-! ## Power and clocks (chapter 16) -/

/-- Power control beyond its registers (R391, R398 to R405). Power is in mW. `dom` holds the domains that are not in their
reset state. -/
structure Pwr where
  dom     : Tbl Nat := []
  /-- The effective cap E, as finely as `SLEW` moves it. -/
  eff     : Nat := 420000
  /-- What `PWR_LAG_ENERGY` does not show yet, in 1/50,000 mJ. -/
  lagRest : Nat := 0
  /-- Ramp credit (R401), plateau and ballast (R399). -/
  credit  : Nat := 0
  plateau : Nat := 0
  ballast : Nat := 0
  /-- Demand of the latest interval, and whether a fall that ballast cannot cover runs. -/
  demand  : Nat := 0
  short   : Bool := false
  /-- t0 of a dusk that runs, or of a thermal trip, and the latest order of R405 done. -/
  dusk    : Option Nat := none
  order   : Nat := 0
  /-- A thermal trip has begun and its cooling is awaited (R515); THERM_N is asserted (R514). -/
  trip    : Bool := false
  therm   : Bool := false
  /-- Latest junction temperatures by die, in 0.1 °C. -/
  junction : Tbl Int := []
  /-- Input power is present, and is within its ratings (R499); its overvoltage has disconnected the converters and is
  still to be recorded (R509). -/
  fed      : Bool := true
  good     : Bool := false
  overvolt : Bool := false
  deriving DecidableEq, Repr

/-- Clock loops beyond CLK_LOOP_STAT (R407 to R411): loops that step their divider back up, loops that wait for the TCXO,
and waiting loops for which it has come. -/
structure Clk where
  up    : List Nat := []
  await : List Nat := []
  come  : List Nat := []
  deriving DecidableEq, Repr

/-! ## Video (chapter 17) -/

/-- A stream context beyond VID_CTX_STAT and its marks (R418, R420, R424, R431): its parameter block, buffers held for output,
buffers marked OUT in the order of their output, whether the next access unit must begin a new sequence, by picture type QP and
bits of the last picture, the rate buffer's fullness and the overspend owed, in bits, pictures since the last intra one, and
the close that waits: its queue, result address, and whether its record is sealed by its tenant. -/
structure VCtx where
  block    : List Byte := []
  hold     : List Nat := []
  outOrder : List Nat := []
  fresh    : Bool := true
  last     : Tbl (Nat × Nat) := []
  full     : Int := 0
  owed     : Nat := 0
  sinceKey : Nat := 0
  closing  : Option (Nat × Nat) := none
  deriving DecidableEq, Repr

/-- A codec job (R434): its place in command order, its command, and its engines once it runs (`st` 0 waits, 1 runs, 2 is
paused). -/
structure VJob where
  serial  : Nat
  queue   : Nat
  tenant  : Nat
  ctx     : Nat
  encode  : Bool
  op      : Nat
  key     : Bool
  length  : Nat
  src     : Nat
  release : Nat
  out     : Nat
  cap     : Nat
  result  : Nat
  inSegs  : Nat
  st      : Nat := 0
  engines : List Nat := []
  deriving DecidableEq, Repr

/-- A pre-processor job (R436, R438): its place in command order, queue, tenant, entry and priority. -/
structure PreJob where
  serial : Nat
  queue  : Nat
  tenant : Nat
  entry  : List Byte
  live   : Bool
  deriving DecidableEq, Repr

/-- Video: contexts, codec jobs in command order, the context that each queue opened last plus one, and pre-processor jobs, with
the serial of the one that runs. -/
structure Video where
  ctxs   : Tbl VCtx := []
  jobs   : List VJob := []
  serial : Nat := 0
  opened : Tbl Nat := []
  pre    : List PreJob := []
  preRun : Option Nat := none
  deriving DecidableEq, Repr

/-! ## Event recorder and two-bank store (chapter 18) -/

/-- A record (R440). `serial` counts every record written and is shown modulo 2^32. -/
structure Rec where
  first    : Nat
  last     : Nat
  count    : Nat
  source   : Nat
  code     : Nat
  severity : Nat
  timeQ    : Nat
  tagged   : Bool
  tenant   : Nat
  tempBand : Nat
  paceBand : Nat
  loadPat  : Nat
  serial   : Nat
  detail   : List Nat
  deriving DecidableEq, Repr

/-- A metric's entry (R446); LOW, SHIFT and INTERVAL stand in EVR_MET_LOW and EVR_MET_CFG. The extremes carry the
calendar time of their first occurrence. -/
structure Metric where
  hist   : Tbl Nat := []
  low    : Option (Int × Nat) := none
  high   : Option (Int × Nat) := none
  sum    : Int := 0
  cnt    : Nat := 0
  lastSum : Int := 0
  lastCnt : Nat := 0
  start  : Nat := 0
  deriving DecidableEq, Repr

/-- The boot page of a bank (R479, page 1); slots are 0 A, 1 B, 3 none. -/
structure BootPage where
  active    : Nat := 3
  trial     : Nat := 3
  trialBoots : Nat := 0
  otherOk   : Bool := false
  trialUp   : Nat := 0
  cold      : Nat := 0
  warm      : Nat := 0
  fallbacks : Nat := 0
  lastCause : Nat := 0
  activeDigest : List Byte := []
  deriving DecidableEq, Repr

/-- The staging page of a bank (R479, page 4): staging state (0 IDLE, 1 STAGING, 2 COMPLETE, 3 ACTIVATED), target slot, whether
the chain began it, chunk count, manifest digest, the words of the bitmap, and the calendar time of BEGIN. -/
structure Staging where
  st        : Nat := 0
  target    : Nat := 0
  fromChain : Bool := false
  chunks    : Nat := 0
  digest    : List Byte := []
  bitmap    : List Nat := []
  beginTime : Nat := 0
  deriving DecidableEq, Repr

/-- A setting (R480): block type and instance of its page, offset and value of a register, and the index under which its
selectors show it. -/
structure Setting where
  ty   : Nat
  inst : Nat
  off  : Nat
  sel  : Nat
  val  : Nat
  deriving DecidableEq, Repr

/-- What a committed flush put into a bank (R453): header, boot, margin, remap, staging, key, pairing, settings, metric and
record regions. The margin, remap and pairing regions are the register fields they save. -/
structure BankData where
  seq      : Nat := 0
  cause    : Nat := 0
  rtc      : Nat := 0
  merid    : Nat := 0
  boot     : BootPage := {}
  staging  : Staging := {}
  regs     : Tbl Nat := []
  margin   : Tbl (List MarginErr) := []
  group    : Option (List Nat × Nat) := none
  settings : List Setting := []
  metrics  : Tbl Metric := []
  records  : List Rec := []
  deriving DecidableEq, Repr

/-- A flush that runs (R448): its target bank, and what it writes there, as it stood at its start. -/
structure Flush where
  bank : Nat
  data : BankData
  deriving DecidableEq, Repr

/-- The recorder (R439 to R455): the record store in store order, the next serial, by SOURCE the serial of its latest record
plus one, the holding queue, the metric entries, the flush that runs and the cause kept for the next, whether the freeze copy is
still to be made, when the freeze began, the count to be set at the next tick, seconds counted by each metric's interval, and
the two banks (none for an invalid one). -/
structure Evr where
  store    : List Rec := []
  serial   : Nat := 0
  latest   : Tbl Nat := []
  hold     : List Rec := []
  metrics  : Tbl Metric := []
  flush    : Option Flush := none
  kept     : Option Nat := none
  copying  : Bool := false
  frozenAt : Nat := 0
  /-- Meridian time at which the latest flush ended. -/
  lastEnd  : Nat := 0
  rtcSet   : Option Nat := none
  /-- Latest counts of corrected errors and replays, from which the metrics of counts per second are formed (R447). -/
  counted  : Tbl Nat := []
  bank0    : Option BankData := none
  bank1    : Option BankData := none
  deriving DecidableEq, Repr

/-! ## Start-up and firmware (chapter 19) -/

/-- What a member has heard from a child, on a port of the firmware chain (R473, R475): the manifest digest and bitmap words of
its latest report, and what has been sent to it since (the manifest, and chunks by number). -/
structure Child where
  digest : List Byte := []
  bits   : List Nat := []
  sentMan : Bool := false
  sent   : List Nat := []
  deriving DecidableEq, Repr

/-- Start-up and firmware beyond the BOOT and FWU pages. -/
structure Boot where
  /-- A fatal event has taken place, and what FATAL_ACTION asks for is still to follow (R456). -/
  fatal : Bool := false
  /-- The start in progress, or the last one, was a cold one. -/
  cold  : Bool := true
  /-- Meridian time at which a warm reset began, while it runs (R458), its cause, and whether it goes to the recovery slot. -/
  warm  : Option Nat := none
  cause : Nat := 0
  toRecovery : Bool := false
  /-- Powered trial time in s (R476), and the manifest digest of the active image (R479). -/
  trialUp : Nat := 0
  activeDigest : List Byte := []
  /-- A HEALTH write's flush has still to commit (R477). -/
  healthOwed : Bool := false
  /-- Staged image (R479): manifest digest, chunk count, calendar time of BEGIN. -/
  digest : List Byte := []
  chunks : Nat := 0
  beginTime : Nat := 0
  /-- The chunk being programmed: its number and bytes, and whether the chain brought it (R470). -/
  chunk : Option (Nat × List Byte × Bool) := none
  /-- Bytes of the NOR devices that the module has erased or programmed, by device × 2^26 + address (R464); every other holds
  what manufacture left there. -/
  nor : Tbl (Option Byte) := []
  /-- Neither bank was valid at the latest start (R455); hive ID and role that the straps gave at the latest cold start (R501). -/
  lost : Bool := false
  straps : Option (Nat × Nat) := none
  /-- The remap table's copy in the factory area (R464), as register fields. -/
  remapCopy : Tbl Nat := []
  /-- The settings list (R480). -/
  settings : List Setting := []
  /-- Domain under partial reset (R459). -/
  preset : Option Nat := none
  /-- The firmware chain, by port; members that have reported a complete bitmap to the queen (R473, R475). -/
  children : Tbl Child := []
  complete : List Nat := []
  deriving DecidableEq, Repr

/-! ## The whole machine -/

inductive OutEv where
  | msix (fn vec : Nat)
  | hostWrite (a : Nat) (bs : List Byte)
  | sealedWrite (a tag tenant word ctr : Nat) (bs : List Byte)
  | toSelf (m : Msg)
  /-- A frame sent on a Waggle port. -/
  | frame (port : Nat) (f : WFrame)
  /-- An answer of the attestation responder (R377, R380). -/
  | mctp (answer : List Nat)
  /-- Bytes that an invasive debug read answers (R387). -/
  | debugRead (bs : List Byte)
  /-- What a host-window read answers: its bytes, and whether the completion is poisoned (R246, R249). -/
  | window (fn : Nat) (bs : List Byte) (poisoned : Bool)
  deriving DecidableEq, Repr

/-- The state of the module. -/
structure State where
  regs : Tbl Nat := []
  now  : Nat := 0
  rtc  : Nat := 0
  free : Nat := 0
  comb : Comb := {}
  evr  : Evr := {}
  pwr  : Pwr := {}
  clk  : Clk := {}
  mem  : Mem := {}
  kv   : Kv := {}
  host : HostPort := {}
  wag  : Wag := {}
  hive : Hive := {}
  serv : Serv := {}
  twin : Twin := {}
  vid  : Video := {}
  sec  : Sec := {}
  boot : Boot := {}
  out  : List OutEv := []
  pending : List Instr := []
  deriving DecidableEq, Repr

/-- The module right after reset (R456, R499): input power is present and not yet within its ratings, every register stands at
the value its table states (`fldReset`), device memory lists nothing, and no command waits. -/
def State.reset : State := {}

/-- Why the machine stops with a fault. Every rule of the spec ends its command in a state: a refusal by the module is a state in
which its status is shown. -/
inductive Fault where
  /-- Safe. Raised by no command. -/
  | unreached
  deriving DecidableEq, Repr

/-- Why a command is turned away without an outcome of the spec. -/
inductive Refusal where
  /-- Safe. Raised by no command: the dispatcher would answer it for a row of the table without a meaning, and there is none. -/
  | notModelled (mnemonic : String)
  deriving DecidableEq, Repr

end Sys2Proof.Machine
end

