-- ==== Sys2Proof/Machine/Status.lean ====
section
/-!
DEFINITION. The 16-bit value of each status code and whether it halts its queue, as the table of R297 gives them.
-/

namespace Sys2Proof.Machine

/-- The 16-bit value of a status code (R297). -/
def statusValue : Status → Nat
  | .ok => 0x0000
  | .lengthRange => 0x0001
  | .fieldReserved => 0x0002
  | .invalidOpcode => 0x0003
  | .tenantMismatch => 0x0004
  | .tenantRetiring => 0x0005
  | .timeoutSt => 0x0006
  | .flushed => 0x0007
  | .queueState => 0x0008
  | .partitionBusy => 0x0009
  | .fnBusy => 0x000A
  | .poolBusy => 0x000B
  | .hostReset => 0x000C
  | .cancelled => 0x000D
  | .late => 0x00F0
  | .nearTimeout => 0x00F1
  | .alreadyComplete => 0x00F2
  | .planImage => 0x0101
  | .planCapacity => 0x0102
  | .planPlacement => 0x0103
  | .planClassMismatch => 0x0104
  | .planPace => 0x0105
  | .slotBusy => 0x0106
  | .slotState => 0x0107
  | .partitionMismatch => 0x0108
  | .quadDark => 0x0109
  | .fastLaneOnly => 0x010A
  | .residentStale => 0x010B
  | .planFault => 0x0201
  | .residueFault => 0x0202
  | .storeFault => 0x0203
  | .formatFault => 0x0204
  | .memPoison => 0x0205
  | .duskAbandon => 0x0206
  | .debugAbandon => 0x0207
  | .admitBudget => 0x0301
  | .admitDeadline => 0x0302
  | .admitPages => 0x0303
  | .admitClass => 0x0304
  | .admitCapacity => 0x0305
  | .servConfig => 0x0306
  | .deadlineExpired => 0x0307
  | .kvExhausted => 0x0308
  | .seqState => 0x0309
  | .memConfig => 0x0401
  | .memAbsent => 0x0402
  | .memUnowned => 0x0403
  | .dmaHostError => 0x0501
  | .dmaBusy => 0x0502
  | .sealRequired => 0x0503
  | .sealNoKey => 0x0504
  | .sealReplay => 0x0505
  | .sealExhausted => 0x0506
  | .sealAuth => 0x0507
  | .linkDown => 0x0601
  | .peerAbsent => 0x0602
  | .hiveStopped => 0x0603
  | .expelBudgetSpent => 0x0604
  | .twinDivergence => 0x0701
  | .twinFailover => 0x0702
  | .bindingDenied => 0x0801
  | .keySlotState => 0x0802
  | .unlockDenied => 0x0803
  | .capLag => 0x0901
  | .fallbackNotReady => 0x0902
  | .gateStuck => 0x0903
  | .thermAlarm => 0x0904
  | .thermTrip => 0x0905
  | .vidUnsupported => 0x0A01
  | .vidStreamError => 0x0A02
  | .fwuChunkDigest => 0x0B01
  | .fwuSignature => 0x0B02
  | .fwuBinding => 0x0B03
  | .fwuHealthMissed => 0x0B04
  | .evrFrozen => 0x0C01

/-- The Halts column of R297: a queue command ending with this primary status halts its queue. -/
def statusHalts : Status → Bool
  | .invalidOpcode => true
  | .timeoutSt => true
  | .planFault => true
  | .residueFault => true
  | .storeFault => true
  | .formatFault => true
  | .memPoison => true
  | .duskAbandon => true
  | .debugAbandon => true
  | .dmaHostError => true
  | .sealAuth => true
  | .linkDown => true
  | .hiveStopped => true
  | _ => false

end Sys2Proof.Machine
end

