-- ==== Sys2Proof/Machine/Ops.lean ====
section
/-!
DEFINITION. The named operations over the register file, the memories, the event recorder and the other shared parts of
the state, which the meanings of the commands call.
-/

namespace Sys2Proof.Machine

/-! ### The register file -/

/-- How many instances a block type has (R482). -/
def pageCount : Nat → Nat
  | 0 => 272 | 1 => 68 | 2 => 68 | 3 => 32 | 4 => 32 | 5 => 4 | 6 => 5 | 7 => 1 | 8 => 16 | 13 => 8 | 18 => 5 | 21 => 8
  | 27 => 64 | n => if n < 27 then 1 else 0

/-- The place of a field in the register file: the bit address of its lowest bit in its page, and above it the block type, the
instance, and the index that a selector register shows. -/
def fldKey (f : Fld) (i k : Nat) : Nat := ((k * 2 ^ 16 + i % 2 ^ 16) * 32 + f.ty % 32) * 2 ^ 15 + (f.off * 8 + f.lo) % 2 ^ 15

/-- Logical number that a home position holds (R80): column 8 is the spare's. -/
def homeLocal (c : Nat) : Nat := if c < 8 then c else c - 1

/-- Reset values that the tables give per position, per instance or per selected index; every other field resets to
the value its table states. -/
def fldReset (f : Fld) (i k : Nat) : Nat :=
  match f.ty, f.off, f.lo with
  | 0, 0x100, 30 => if i % 68 / 4 = 8 then 1 else 0
  | 0, 0x100, 0 => if i % 68 / 4 = 8 then 0x1FF else i / 68 * 64 + homeLocal (i % 68 / 4) * 4 + i % 4
  | 1, 0x100, 30 => if i % 17 = 8 then 1 else 0
  | 1, 0x100, 0 => if i % 17 = 8 then 0x7F else i / 17 * 16 + homeLocal (i % 17)
  | 2, 0x100, 13 => i / 17
  | 2, 0x100, 8 => i % 17
  | 2, 0x100, 0 => if i % 17 = 8 then 0x7F else i / 17 * 16 + homeLocal (i % 17)
  | 2, 0x10C, 8 => if i % 17 = 8 then 1 else 0
  | 2, 0x10C, 0 => if i % 17 = 8 then 0x7F else i / 17 * 16 + homeLocal (i % 17)
  | 5, 0x108, 2 => if i = 0 ∨ i = 3 then 2 else 3
  | 5, 0x108, 0 => if i = 0 then 1 else if i = 3 then 1 else 0
  | 7, 0x110, 31 => if k = 0 then 1 else 0
  | 7, 0x114, 0 => if k = 0 then 64 else 1
  | 8, 0x100, 1 => if i < 4 then 1 else 0
  | 10, 0x110, 2 => 0
  | 10, _, 2 => if f.off = 0x114 ∨ f.off = 0x118 ∨ f.off = 0x11C then 1 else f.rst
  | 17, 0x108, 0 => if k = 0 then 1 else 0
  | 19, 0x140, 0 => 0
  | 19, 0x144, 0 => 0x64
  | 19, 0x148, 0 => 0x1388
  | 19, 0x14C, 0 => 0xFFFFFF
  | 4, 0x108, 0 => 0x29AB
  | 20, 0x108, 3 => if k = 32 then 1 else if 33 ≤ k then 2 else 0
  | 23, 0x15C, 8 => if k ≤ 216 then 1 else 0
  | 23, 0x15C, 0 =>
    if k < 5 then 1 else if k < 10 then 2 else if k < 15 then 3 else if k = 15 then 4 else if k = 16 then 5
    else if k < 49 then 6 else if k < 89 then 0 else if k < 153 then 7 else if k < 217 then 8 else 0
  | 4, 0x10C, 0 => 0
  | 4, 0x110, 0 => 0
  | _, _, _ => f.rst

/-- Reads a field of instance `i`, at index `k` of the selector where the field has one. -/
def rd (s : State) (f : Fld) (i : Nat := 0) (k : Nat := 0) : Nat := tget (fldReset f i k) s.regs (fldKey f i k)

/-- Writes a field; the value is cut to the field's width. -/
def wr (s : State) (f : Fld) (v : Nat) (i : Nat := 0) (k : Nat := 0) : State :=
  { s with regs := tset (fldReset f i k) (fldKey f i k) (v % 2 ^ f.w) s.regs }

/-- A count that stops at the field's largest value. -/
def incSat (s : State) (f : Fld) (i : Nat := 0) (k : Nat := 0) : State :=
  wr s f (min (rd s f i k + 1) (2 ^ f.w - 1)) i k

/-- A count that grows by `n` and stops at the field's largest value. -/
def addSat (s : State) (f : Fld) (n : Nat) (i : Nat := 0) (k : Nat := 0) : State :=
  wr s f (min (rd s f i k + n) (2 ^ f.w - 1)) i k

/-- A count that wraps (a free-running 64-bit count of steps or units). -/
def incWrap (s : State) (f : Fld) (n : Nat := 1) (i : Nat := 0) (k : Nat := 0) : State := wr s f (rd s f i k + n) i k

def b2n (b : Bool) : Nat := if b then 1 else 0

/-! ### The common header (R484) -/

def hStatReset (ty : Nat) : Fld := ⟨ty, 0x00C, 2, 1, .ro, 0, false, [], 0⟩
def hStatBusy (ty : Nat) : Fld := ⟨ty, 0x00C, 1, 1, .ro, 0, false, [], 0⟩
def hStatReady (ty : Nat) : Fld := ⟨ty, 0x00C, 0, 1, .ro, 0, false, [], 0⟩
def hIrqRaw (ty n : Nat) : Fld := ⟨ty, 0x010, n, 1, .ro, 0, false, [], 0⟩
def hIrqEn (ty n : Nat) : Fld := ⟨ty, 0x014, n, 1, .rw, 0, false, [], 0⟩
def hErrOffset (ty : Nat) : Fld := ⟨ty, 0x01C, 16, 12, .ro, 0, false, [], 0⟩
def hErrStatus (ty : Nat) : Fld := ⟨ty, 0x01C, 0, 16, .ro, 0, false, [], 0⟩
def hErrSeq (ty : Nat) : Fld := ⟨ty, 0x020, 0, 32, .ro, 0, false, [], 0⟩
def hHoldOn (ty : Nat) : Fld := ⟨ty, 0x024, 0, 1, .rw, 0, false, [], 0⟩
def hLockRefused (ty : Nat) : Fld := ⟨ty, 0x02C, 16, 16, .ro, 0, false, [], 0⟩
def hLocked (ty : Nat) : Fld := ⟨ty, 0x02C, 0, 1, .rws, 0, false, [], 0⟩

/-- Records a refused write on its page: ERR_CODE takes the offset and status, ERR_SEQ grows by 1 and wraps (R485). -/
def refuseWrite (s : State) (ty i off : Nat) (st : Status) : State :=
  incWrap (wr (wr s (hErrOffset ty) off i) (hErrStatus ty) (statusValue st) i) (hErrSeq ty) 1 i

/-- Appends an outward event. -/
def emit (s : State) (e : OutEv) : State := { s with out := e :: s.out }

/-- Raises interrupt bit `n` of a page (R489): a message goes out when the bit goes from 0 to 1 while it is enabled. -/
def raiseIrq (s : State) (ty i n : Nat) : State :=
  if rd s (hIrqRaw ty n) i = 1 then s
  else
    let s := wr s (hIrqRaw ty n) 1 i
    if rd s (hIrqEn ty n) i = 1 then emit s (.msix (if ty = 27 then i else 0) 0) else s

/-- The next free value (an opaque constant of Config; nothing constrains it). -/
def freeVal (s : State) (i : Nat) : Nat := Config.free s.free i

/-- Advances the model's own counter of free values. -/
def useFree (s : State) : State := { s with free := s.free + 1 }

/-! ### Power domains of pages (R391, R393) -/

/-- The power domain of a page. -/
def pageDomain (ty i : Nat) : Nat :=
  match ty with
  | 0 => i
  | 1 => 272 + i
  | 2 => 372 + i / 17
  | 3 | 4 => 340 + i
  | 5 => 372 + i
  | 6 | 18 => if i < 4 then 372 + i else 398
  | 7 | 8 => 397
  | 13 => 376 + i
  | 17 => 401
  | 21 => 384 + i
  | 22 => 392
  | 23 | 24 => 399
  | _ => 398

/-- State of a power domain: 0 on, 1 waking, 2 low, 3 in reset (R393). At reset the spares in state FREE and the closed
debug port are off (R391). -/
def domReset (d : Nat) : Nat :=
  if d < 272 then (if d % 68 / 4 = 8 then 2 else 0)
  else if d < 340 then (if (d - 272) % 17 = 8 then 2 else 0)
  else if d = 400 then 2 else 0

def dom (s : State) (d : Nat) : Nat := tget (domReset d) s.pwr.dom d
def setDom (s : State) (d v : Nat) : State := { s with pwr := { s.pwr with dom := tset (domReset d) d v s.pwr.dom } }

/-- Pages served in recovery mode (R488): HOST, SEC, EVR, NVS, FWU and BOOT. -/
def recoveryPage (ty : Nat) : Bool := ty = 7 || ty = 17 || ty = 23 || ty = 24 || ty = 25 || ty = 26

/-- The page takes register writes now: its domain is on, and it is served in recovery mode where that holds (R393, R488).
-/
def pageServed (s : State) (ty i : Nat) : Bool :=
  dom s (pageDomain ty i) = 0 && (rd s R.BOOT_STAT_RECOVERY = 0 || recoveryPage ty)

/-- A write of `v` writes a field subject to LOCK: it carries another value than the field's (R491). -/
def chg (s : State) (f : Fld) (v : Nat) (i : Nat := 0) (k : Nat := 0) : Bool := f.lock && rd s f i k ≠ v % 2 ^ f.w

/-- A value that a field's table lists (R13); an empty list admits every value of the width. -/
def legalValue (f : Fld) (v : Nat) : Bool :=
  v < 2 ^ f.w && (f.legal.isEmpty || f.legal.any (fun r => r.1 ≤ v && v ≤ r.2))

/-- Free bytes: what the island draws or signs. -/
def freeBytes (s : State) (i n : Nat) : List Byte := (List.range n).map (fun j => BitVec.ofNat 8 (freeVal s (i + j)))

/-- A quotient as a whole number: how a fraction shows is not stated, and is a free choice of the two neighbouring values. -/
def nearest (s : State) (k n d : Nat) : Nat := n / d + (if n % d = 0 then 0 else freeVal s k % 2)

/-! ### Memories -/

/-- The byte of device memory at an address; unlisted bytes read 0, which is what start-up leaves (R462). -/
def memByte (s : State) (a : Nat) : Byte := tget 0 s.mem.cells a
def memBytes (s : State) (a n : Nat) : List Byte := tgets 0 s.mem.cells a n
def memNat (s : State) (a n : Nat) : Nat := leNat (memBytes s a n)
/-- A unit that carries a poison mark or awaits one (R246). -/
def poisonUnit (s : State) (u : Nat) : Bool := s.mem.poison.contains u || s.mem.awaiting.contains u
/-- A write covers unit `u` whole. -/
def wholeUnit (a n u : Nat) : Bool := a ≤ 64 * u && 64 * u + 64 ≤ a + n
/-- Writes bytes, skipping those that fall into a poisoned unit the write does not cover whole: the merge of such a unit is
not made (R230, R246). -/
def writeBytes (s : State) (a0 n : Nat) : Nat → List Byte → Tbl Byte → Tbl Byte
  | _, [], t => t
  | a, b :: bs, t =>
    writeBytes s a0 n (a + 1) bs (if poisonUnit s (a / 64) && !wholeUnit a0 n (a / 64) then t else tset 0 a b t)
/-- A write of bytes from `a` on, which replaces the data of every unit it covers whole, its poison mark included. -/
def memWrite (s : State) (a : Nat) (bs : List Byte) : State :=
  let n := bs.length
  { s with mem := { s.mem with
      cells := writeBytes s a n a bs s.mem.cells
      poison := s.mem.poison.filter (fun u => !wholeUnit a n u)
      awaiting := s.mem.awaiting.filter (fun u => !wholeUnit a n u) } }
/-- Some unit that the range only covers in part is poisoned: its merge fails (R246). -/
def mergePoison (s : State) (a n : Nat) : Bool :=
  0 < n && ((poisonUnit s (a / 64) && !wholeUnit a n (a / 64)) ||
    (poisonUnit s ((a + n - 1) / 64) && !wholeUnit a n ((a + n - 1) / 64)))
/-- Some unit of the range is poisoned. -/
def rangePoison (s : State) (a n : Nat) : Bool :=
  (s.mem.poison ++ s.mem.awaiting).any (fun u => 0 < n && a / 64 ≤ u && 64 * u < a + n)
/-- Zeros every byte of `[a, a + n)`: a scrub with zero plaintext. -/
def memZero (s : State) (a n : Nat) : State :=
  { s with mem := { s.mem with
      cells := tclear a (a + n) s.mem.cells
      poison := s.mem.poison.filter (fun u => !wholeUnit a n u)
      awaiting := s.mem.awaiting.filter (fun u => !wholeUnit a n u) } }

/-- Device memory is in its canonical form: addresses strictly rising, and no byte listed that reads as an unlisted one. -/
def Memory.wf (m : List Host.Cell) : Bool := twf 0 m

/-- A write that a DMA engine makes into host memory. -/
def hostWrite (s : State) (a : Nat) (bs : List Byte) : State := emit s (.hostWrite a bs)

/-! ### Comb lookups -/

def cell (s : State) (c : Nat) : Cell := tget {} s.comb.cells c
def setCell (s : State) (c : Nat) (x : Cell) : State := { s with comb := { s.comb with cells := tset {} c x s.comb.cells } }
def pipe (s : State) (p : Nat) : Pipe := tget {} s.comb.pipes p
def setPipe (s : State) (p : Nat) (x : Pipe) : State := { s with comb := { s.comb with pipes := tset {} p x s.comb.pipes } }
def part (s : State) (p : Nat) : Part := tget {} s.comb.parts p
def setPart (s : State) (p : Nat) (x : Part) : State := { s with comb := { s.comb with parts := tset {} p x s.comb.parts } }
def slot (s : State) (n : Nat) : Slot := tget {} s.comb.slots n
def setSlot (s : State) (n : Nat) (x : Slot) : State := { s with comb := { s.comb with slots := tset {} n x s.comb.slots } }

/-- Home column of a local quad or pipe number (R80). -/
def homeColumn (j : Nat) : Nat := if j < 8 then j else j + 1
/-- Physical quad of a logical quad's home, which is also the physical pipe of a logical pipe's home (R80). -/
def quadHome (q : Nat) : Nat := 17 * (q / 16) + homeColumn (q % 16)
/-- Physical cell of a logical cell's home (R80). -/
def cellHome (l : Nat) : Nat := 68 * (l / 64) + 4 * homeColumn (l % 64 / 4) + l % 4
/-- The row's spare for a physical cell (R80, R83), and the die's spare pipe. -/
def cellSpare (p : Nat) : Nat := 68 * (p / 68) + 32 + p % 4
def pipeSpare (p : Nat) : Nat := 17 * (p / 17) + 8

/-- The physical cell that holds a logical number: the home while it is ACTIVE, otherwise the row's spare if it stands
in, otherwise none (R91). -/
def cellPhys (s : State) (l : Nat) : Option Nat :=
  let h := cellHome l
  if rd s R.CELL_MAP_STATE h = 0 then some h
  else if rd s R.CELL_MAP_STATE (cellSpare h) = 2 && rd s R.CELL_MAP_LOGICAL (cellSpare h) = l then some (cellSpare h)
  else none
def pipePhys (s : State) (l : Nat) : Option Nat :=
  let h := quadHome l
  if rd s R.APIPE_MAP_STATE h = 0 then some h
  else if rd s R.APIPE_MAP_STATE (pipeSpare h) = 2 && rd s R.APIPE_MAP_LOGICAL (pipeSpare h) = l then some (pipeSpare h)
  else none

/-- Partition of a logical quad; 0x7F for none (R94). -/
def quadPart (s : State) (q : Nat) : Nat := rd s R.QUAD_PART_PARTITION (quadHome q)
/-- Logical quads of a partition, in rising order. -/
def partQuads (s : State) (p : Nat) : List Nat := (List.range 64).filter (fun q => quadPart s q = p)
/-- Logical cells of a partition. -/
def partCells (s : State) (p : Nat) : List Nat := (partQuads s p).flatMap (fun q => [4 * q, 4 * q + 1, 4 * q + 2, 4 * q + 3])
/-- Comb dies that hold any of a partition's cells. -/
def partDies (s : State) (p : Nat) : List Nat :=
  (List.range 4).filter (fun d => (partQuads s p).any (fun q => q / 16 = d))
/-- A launch runs in the partition, from its start to its record. -/
def partRunning (s : State) (p : Nat) : Bool := (part s p).running.isSome
/-- The partition is a fast lane (R97). -/
def fastLane (s : State) (p : Nat) : Bool := rd s R.DIE_FASTLANE 4 / 2 ^ p % 2 = 1
/-- The partition's promise pace in M st/s (R60). A partition without quads has none; no launch is accepted into it. -/
def promisePace (s : State) (p : Nat) : Nat :=
  match (partDies s p).map (fun d => rd s R.PACE_PROMISE_PROM_RATE d) with
  | [] => 0
  | a :: r => r.foldl min a
/-- A fraction of nanoseconds. -/
structure Frac where
  num : Nat
  den : Nat
  deriving DecidableEq, Repr

def frAdd (a b : Frac) : Frac := if a.den = b.den then ⟨a.num + b.num, a.den⟩ else ⟨a.num * b.den + b.num * a.den, a.den * b.den⟩
def frMul (n : Nat) (a : Frac) : Frac := ⟨n * a.num, a.den⟩
/-- The fraction is at most `n`. -/
def frLe (a : Frac) (n : Nat) : Bool := a.num ≤ n * a.den
def frMax (a b : Frac) : Frac := if a.num * b.den < b.num * a.den then b else a

/-- The launch bound of R60 in ns at a promise pace in M st/s: `S / P + A × 0.25 µs`. -/
def launchBound (s : State) (steps pace : Nat) : Frac :=
  ⟨steps * 1000 + rd s R.PACE_PROMISE_RETRY_ALLOW 4 * 250 * max pace 1, max pace 1⟩

/-- The preload bound of R144 in ns for `u` cells and `n` channels: 4 µs + u × 64 KiB / (n × 21.33 GB/s). -/
def preloadBound (u n : Nat) : Frac := ⟨4000 * (2133 * max n 1) + u * 65536 * 100, 2133 * max n 1⟩

/-- The running launch of a partition, changed by `f`. -/
def modRunning (s : State) (p : Nat) (f : Running → Running) : State :=
  let x := part s p
  setPart s p { x with running := x.running.map f }

/-- Clears the residency mark of a partition (R149). -/
def clearResident (s : State) (p : Nat) : State := setPart s p { part s p with resident := none }

/-- The partition that holds a logical cell, and the launch that runs there. -/
def cellPart (s : State) (l : Nat) : Nat := quadPart s (l / 4)

/-! ### Event records (chapter 18) -/

/-- PACE_BAND of a measured pace (R443). -/
def paceBand (r : Nat) : Nat :=
  if r < 1000 then 0 else if r < 1150 then 1 else if r < 1250 then 2 else if r < 1350 then 3 else if r < 1450 then 4
  else if r < 1550 then 5 else if r < 1700 then 6 else 7

/-- TEMP_BAND of a junction temperature in tenths of a degree (R443). -/
def tempBand (t : Int) : Nat :=
  if t < 0 then 0 else if t < 200 then 1 else if t < 400 then 2 else if t < 600 then 3 else if t < 750 then 4
  else if t < 900 then 5 else if t < 1000 then 6 else 7

/-- The governor whose die tags a source's records (R443): those of CELL, APIPE, MEMC and PACE. -/
def tagDie (ty i : Nat) : Option Nat :=
  match ty with
  | 0 => some (i / 68)
  | 1 => some (i / 17)
  | 3 => some (i / 8)
  | 18 => some i
  | _ => none

/-- SOURCE of a block instance (R440). -/
def srcOf (ty i : Nat) : Nat := ty * 1024 + i

def isFrozen (s : State) : Bool := rd s R.EVR_STAT_FROZEN = 1
def isFlushing (s : State) : Bool := s.evr.flush.isSome

/-- The record an event would write, as it stands when it occurs. -/
def mkRec (s : State) (ty i code sev tenant : Nat) (detail : List Nat) : Rec :=
  let t := tagDie ty i
  let d := t.getD 0
  { first := s.rtc, last := s.rtc, count := 1, source := srcOf ty i, code := code, severity := sev,
    timeQ := rd s R.EVR_STAT_TIME_Q, tagged := t.isSome, tenant := tenant,
    tempBand := if t.isSome then rd s R.PACE_STAT_TEMP_BAND d else 0,
    paceBand := if t.isSome then paceBand (rd s R.PACE_MEAS_RATE d) else 0,
    loadPat := if t.isSome then rd s R.PACE_STAT_LOAD_PATTERN d else 0,
    serial := 0, detail := detail }

/-- An event is a repeat of a record of its source (R442). -/
def isRepeat (r e : Rec) : Bool :=
  r.source = e.source && r.code = e.code && r.tenant = e.tenant && r.tagged = e.tagged && r.tempBand = e.tempBand &&
  r.paceBand = e.paceBand && r.loadPat = e.loadPat && r.detail = e.detail

/-- Among records that may be overwritten by severity `sev`, the index of the oldest, counted by serial; fatal records are
overwritten by nothing (R444). -/
def victim (sev : Nat) : Nat → List Rec → Option (Nat × Nat)
  | _, [] => none
  | i, r :: t =>
    let rest := victim sev (i + 1) t
    if r.severity ≤ sev && r.severity ≠ 4 then
      match rest with
      | some (j, ser) => if ser < r.serial then some (j, ser) else some (i, r.serial)
      | none => some (i, r.serial)
    else rest

def setStore (s : State) (l : List Rec) : State := wr { s with evr := { s.evr with store := l } } R.EVR_STAT_RECORDS l.length

/-- Applies an event to the record store: a repeat is counted, any other event writes a new record, which overwrites the
oldest of its severity or lower when the store is full, or is dropped and counted (R442, R444). -/
def applyRec (s : State) (e : Rec) : State :=
  let ser := tget 0 s.evr.latest e.source
  if s.evr.store.any (fun r => r.serial + 1 = ser && isRepeat r e) then
    setStore s (s.evr.store.map (fun r =>
      if r.serial + 1 = ser then { r with last := e.last, count := min (r.count + 1) 0xFFFFFFFF } else r))
  else
    let n := s.evr.serial
    let e := { e with serial := n }
    let written := fun (s : State) (l : List Rec) =>
      let s := setStore { s with evr := { s.evr with serial := n + 1, latest := tset 0 e.source (n + 1) s.evr.latest } } l
      if e.severity = 4 then raiseIrq s 23 0 Irq.EVR_FATAL else s
    if s.evr.store.length < 65536 then written s (s.evr.store ++ [e])
    else
      match victim e.severity 0 s.evr.store with
      | some (j, _) => written s (s.evr.store.set j e)
      | none => raiseIrq (incSat s (R.EVR_DROP_CNT e.severity)) 23 0 Irq.EVR_DROP

/-- While a flush or a freeze runs, an event waits in the holding queue of 1,024, or is dropped and counted (R449). -/
def holdRec (s : State) (e : Rec) : State :=
  if s.evr.hold.length < 1024 then { s with evr := { s.evr with hold := s.evr.hold ++ [e] } }
  else raiseIrq (incSat s R.EVR_HOLD_DROP_CNT) 23 0 Irq.EVR_DROP

/-- The held events are applied in arrival order (R449). -/
def applyHeld (s : State) : State :=
  s.evr.hold.foldl applyRec { s with evr := { s.evr with hold := [] } }

/-- The bank that a flush writes: the one that was not committed last (R448). -/
def targetBank (s : State) : Nat := 1 - rd s R.NVS_STAT_CURRENT

def bankSeq (b : Option BankData) : Nat := (b.map (fun d => d.seq)).getD 0

/-- Register fields that the margin, remap and pairing regions of a bank save (R453), with their instances and indices. -/
def mapFields : List (Fld × Nat × Nat) :=
  ((List.range 272).flatMap (fun n => [(R.CELL_MAP_STATE, n, 0), (R.CELL_MAP_LOGICAL, n, 0)])) ++
  ((List.range 68).flatMap (fun n => [(R.APIPE_MAP_STATE, n, 0), (R.APIPE_MAP_LOGICAL, n, 0)]))
def savedFields : List (Fld × Nat × Nat) :=
  ((List.range 4).flatMap (fun d => (List.range 64).flatMap (fun n =>
    [(R.PACE_MARGIN_RAISE, d, n), (R.PACE_MARGIN_ERRORS, d, n), (R.PACE_MARGIN_RETIRE_REQ, d, n)]))) ++ mapFields ++
  [(R.DIE_PLAN_CLASS_CLASS, 4, 0), (R.DIE_PLAN_CLASS_CHANGES, 4, 0), (R.TWIN_STAT_STATE, 0, 0), (R.HIVE_ROLE_ROLE_CFG, 0, 0)]

/-- Those of a list of fields that do not hold their reset values. -/
def savedOf (l : List (Fld × Nat × Nat)) (s : State) : Tbl Nat :=
  let keys := l.map (fun x => fldKey x.1 x.2.1 x.2.2)
  s.regs.filter (fun e => keys.contains e.1)
def savedRegs (s : State) : Tbl Nat := savedOf savedFields s

/-- Puts saved fields back. -/
def restoreOf (l : List (Fld × Nat × Nat)) (t : Tbl Nat) (s : State) : State :=
  l.foldl (fun s x => wr s x.1 (tget (fldReset x.1 x.2.1 x.2.2) t (fldKey x.1 x.2.1 x.2.2)) x.2.1 x.2.2) s
def restoreRegs (t : Tbl Nat) (s : State) : State := restoreOf savedFields t s

/-- The copy of the remap table in the factory area is rewritten (R464). -/
def copyRemap (s : State) : State := { s with boot := { s.boot with remapCopy := savedOf mapFields s } }

/-- The boot page and the staging page as firmware holds them (R479). -/
def bootPage (s : State) : BootPage :=
  { active := rd s R.BOOT_SLOTS_ACTIVE, trial := rd s R.BOOT_SLOTS_TRIAL, trialBoots := rd s R.BOOT_SLOTS_TRIAL_BOOTS,
    otherOk := rd s R.BOOT_SLOTS_OTHER_CONFIRMED = 1, trialUp := s.boot.trialUp, cold := rd s R.BOOT_COLD_CNT,
    warm := rd s R.BOOT_WARM_CNT, fallbacks := rd s R.BOOT_FALLBACK_CNT, lastCause := rd s R.BOOT_RESET_CAUSE_CAUSE,
    activeDigest := s.boot.activeDigest }
def stagingPage (s : State) : Staging :=
  { st := rd s R.FWU_STAT_STATE, target := rd s R.FWU_STAT_TARGET, fromChain := rd s R.FWU_STAT_CHAIN_SOURCE = 1,
    chunks := s.boot.chunks, digest := s.boot.digest, bitmap := (List.range 16).map (fun j => rd s (R.FWU_BITMAP j)),
    beginTime := s.boot.beginTime }

/-- What a flush that starts now writes (R448, R453). -/
def bankOf (s : State) (cause seq : Nat) : BankData :=
  { seq := seq, cause := cause, rtc := s.rtc, merid := s.now, boot := bootPage s, staging := stagingPage s,
    regs := savedRegs s, margin := s.comb.margin,
    group := s.sec.group.map (fun k => ((List.range 4).map (fun j => rd s (R.SEC_GROUPID j)), k)),
    settings := s.boot.settings, metrics := s.evr.metrics, records := s.evr.store }

/-- Starts a flush, or keeps its trigger while one runs, the highest cause among the kept ones (R448). A flush whose
sequence number would pass the last one is refused (R454). -/
def triggerFlush (s : State) (cause : Nat) : State :=
  match s.evr.flush with
  | some _ => { s with evr := { s.evr with kept := some (max cause (s.evr.kept.getD 0)) } }
  | none =>
    let seq := max (bankSeq s.evr.bank0) (bankSeq s.evr.bank1) + 1
    if 2 ^ 64 ≤ seq then wr s R.NVS_STAT_SEQ_END 1
    else
      wr { s with evr := { s.evr with flush := some { bank := targetBank s, data := bankOf s cause seq } } } R.NVS_STAT_FLUSHING 1

/-- A freeze ends: the held events are applied at once, unless a flush runs (R450). -/
def endFreeze (s : State) : State :=
  if isFrozen s then
    let s := wr (wr { s with evr := { s.evr with copying := false } } R.EVR_STAT_FROZEN 0) R.EVR_CTL_FREEZE 0
    if isFlushing s then s else applyHeld s
  else s

/-- An event takes place (R442, R449, R451): a fatal one ends a freeze, is written, triggers a flush of cause 1 and asks
for the reset that FATAL_ACTION names (R456). -/
def recordEvent (s : State) (ty i code sev tenant : Nat) (detail : List Nat) : State :=
  let e := mkRec s ty i code sev tenant detail
  if sev = 4 then
    let s := endFreeze s
    let s := if isFlushing s then holdRec s e else applyRec s e
    let s := triggerFlush s 1
    { s with boot := { s.boot with fatal := true } }
  else if isFrozen s || isFlushing s then holdRec s e
  else applyRec s e

/-- Bin of a value in a metric's histogram (R446). -/
def metricBin (low : Int) (shift : Nat) (v : Int) : Nat :=
  if v < low then 0
  else if low + 30 * 2 ^ shift ≤ v then 31
  else 1 + ((v - low) / 2 ^ shift).toNat

/-- A sum that would overflow 64 signed bits stops at its limit (R446). -/
def clampSum (x : Int) : Int := max (-(2 ^ 63)) (min (2 ^ 63 - 1) x)

def metric (s : State) (m : Nat) : Metric := tget {} s.evr.metrics m
def setMetric (s : State) (m : Nat) (x : Metric) : State := { s with evr := { s.evr with metrics := tset {} m x s.evr.metrics } }

/-- A sample of a metric updates its histogram, extremes and interval (R446); during a freeze it is discarded (R449). -/
def metricSample (s : State) (m : Nat) (v : Int) : State :=
  if isFrozen s then s
  else
    let x := metric s m
    let b := metricBin (signedOf 32 (rd s R.EVR_MET_LOW 0 m)) (rd s R.EVR_MET_CFG_SHIFT 0 m) v
    setMetric s m { x with
      hist := tset 0 b (min (tget 0 x.hist b + 1) 0xFFFFFFFF) x.hist
      low := match x.low with | some (y, t) => if v < y then some (v, s.rtc) else some (y, t) | none => some (v, s.rtc)
      high := match x.high with | some (y, t) => if y < v then some (v, s.rtc) else some (y, t) | none => some (v, s.rtc)
      sum := clampSum (x.sum + v)
      cnt := min (x.cnt + 1) 0xFFFFFFFF }

/-! ### Writes of one register (R12 to R15, R485, R486, R491) -/

/-- Whether an instance of a page has a field: MEMC, WAG and VID have their registers from 0x140 on instance 0 alone; DIE[4] has
others than the comb dies; the margin registers are the comb dies' and RETRY_ALLOW the hub's. -/
def onPage (f : Fld) (i : Nat) : Bool :=
  match f.ty with
  | 3 | 13 | 21 => f.off < 0x140 || i = 0
  | 6 => decide (i = 4) == (f.off = 0x104 || f.w = 16 || (f.lo = 0 && f.w = 8))
  | 18 => if i = 4 then !(0x130 ≤ f.off && f.off ≤ 0x138) else !(f.off = 0x140 && f.lo = 0)
  | _ => true

/-- Fields of the register at an offset of a page. A VF function page shows the queue registers of the QMGR page (R492). -/
def fieldsAt (ty i off : Nat) : List Fld :=
  (if ty = 27 then (pageFields 9).filter (fun f => f.off < 0x180) else pageFields ty).filter
    (fun f => f.off ≤ off && off < f.off + (if 32 < f.w then 8 else 4) && onPage f i)

/-- Where a field seen on a page stands: on a VF function page, Q_SEL and FN_SIG_SEL are the page's own, and the registers of
the selected queue are the QMGR page's. -/
def homeFld (ty : Nat) (f : Fld) : Fld := if ty = 27 && f.bank ≠ 0x100 then { f with ty := 27 } else f
def homeInst (ty i : Nat) (f : Fld) : Nat := if ty = 27 && f.bank = 0x100 then 0 else i

/-- The index that a field's selector register shows on a page; the buckets of a serving slot have two selectors. -/
def bankIdx (s : State) (ty i : Nat) (f : Fld) : Nat :=
  if f.bank = 0 then 0
  else
    match (pageFields f.ty).find? (fun g => g.off = f.bank && g.lo = 0) with
    | some g =>
      if f = R.SERV_BUCKET_BOUND then 16 * rd s R.SERV_SLOT_SEL + rd s R.SERV_BUCKET_SEL else rd s (homeFld ty g) i
    | none => 0

/-- The value that a 32-bit write carries for a field, whose present value is `cur`; a field of 64 bits is written by halves. -/
def carried (f : Fld) (off v cur : Nat) : Nat :=
  if f.w ≤ 32 then v / 2 ^ f.lo % 2 ^ f.w
  else if off = f.off then cur / 2 ^ 32 * 2 ^ 32 + v % 2 ^ 32
  else v % 2 ^ 32 * 2 ^ 32 + cur % 2 ^ 32

/-- The function that holds a queue: the one of its doorbell page (R493). -/
def queueFn (s : State) (q : Nat) : Nat := rd s R.QMGR_DBP_MAP 0 (q / 512)
/-- Function whose queue registers a page shows. -/
def pageFn (ty i : Nat) : Nat := if ty = 27 then i else 0

/-- A register that takes no write as things stand, with the status it sets: the configuration of a queue that is not DISABLED
(R271), of an enabled serving slot (R205) and of an enabled barrier channel (R333). -/
def registerShut (s : State) (ty i off : Nat) : Option Status :=
  if (ty = 9 || ty = 27) && 0x104 ≤ off && off < 0x124 then
    if rd s R.Q_STAT_STATE 0 (rd s (homeFld ty R.Q_SEL) i) ≠ 0 then some .queueState else none
  else if ty = 10 && 0x128 ≤ off && off ≤ 0x150 then
    if rd s R.SERV_SLOT_CFG_ENABLE 0 (rd s R.SERV_SLOT_SEL) = 1 then some .servConfig else none
  else if ty = 14 && 0x1C8 ≤ off && off < 0x1E0 then
    if rd s R.HIVE_BAR_CFG_ENABLE 0 (rd s R.HIVE_BAR_SEL) = 1 then some .queueState else none
  else none

/-- Low bits that a field's description asks to be 0. -/
def alignBits (f : Fld) : Nat :=
  if f = R.EVR_DUMP_BASE then 16 else if f = R.FWU_MAN_ADDR || f = R.FWU_CHUNK_ADDR then 6
  else if f = R.HIVE_SHARD_BASE then 12 else 0

/-- An extent of 8 in a word for HIVE_SHAPE with an origin other than 0 on the same axis, of which `f` is a field. -/
def badAxis (f : Fld) (v : Nat) : Bool :=
  (((f = R.HIVE_SHAPE_EX || f = R.HIVE_SHAPE_X0) && bitsOf v 10 3 = 4 && bitsOf v 0 3 ≠ 0) ||
   ((f = R.HIVE_SHAPE_EY || f = R.HIVE_SHAPE_Y0) && bitsOf v 13 3 = 4 && bitsOf v 3 3 ≠ 0) ||
   ((f = R.HIVE_SHAPE_EZ || f = R.HIVE_SHAPE_Z0) && bitsOf v 16 3 = 4 && bitsOf v 6 3 ≠ 0))

/-- Whether a field takes a value that a word `v` carries, and the status of the refusal (R13, and the rules that name another). -/
def fieldRefuses (s : State) (ty i v : Nat) (f : Fld) (new : Nat) : Option Status :=
  if f = R.Q_SEL then (if queueFn s new = pageFn ty i then none else some .lengthRange)
  else if f = R.FN_SIG_SEL then
    (if ty = 27 && new / 4096 ≠ rd s R.HOST_FN_CFG_TENANT 0 i then some .fieldReserved else none)
  else if f = R.Q_TIMEOUT || f = R.PWR_SLEW then (if legalValue f new then none else some .lengthRange)
  else if !legalValue f new || new % 2 ^ alignBits f ≠ 0 || badAxis f v then some .fieldReserved
  else if f = R.PACE_SENSOR_SEL then (if new < (if i = 4 then 32 else 272) then none else some .fieldReserved)
  else if f = R.MEM_OWN_SEL then
    (if new < (if rd s R.BOOT_VARIANT_VARIANT = 1 then 7680 else 15360) then none else some .fieldReserved)
  else if f = R.TWIN_CFG_ROLE_CFG || f = R.TWIN_PARTS then
    (if rd s R.TWIN_STAT_STATE = 0 then none else some .fieldReserved)
  else if f.ty = 16 && 0x120 ≤ f.off && f.off ≤ 0x12C then
    (if rd s R.TWIN_STAT_STATE = 2 then some .fieldReserved else none)
  else none

/-- One field of a write: the state, a refusal, and whether LOCK keeps a field. -/
def writeField (w : Writer) (ty i off v : Nat) (low : Bool) (x : State × Option Status × Bool) (f0 : Fld) :
    State × Option Status × Bool :=
  let s := x.1
  let f := homeFld ty f0
  let j := homeInst ty i f0
  let k := bankIdx s ty i f0
  let cur := rd s f j k
  let new := carried f off v cur
  let locked := f.lock && w = .host && rd s (hLocked ty) i = 1
  match f.acc with
  | .ro => x
  | .w1c => (wr s f (cur &&& (2 ^ f.w - 1 - new % 2 ^ f.w)) j k, x.2)
  | .wo =>
    if locked && new ≠ 0 then (s, x.2.1, true)
    else if f.w = 32 then (wr s f new j k, x.2)
    else x
  | a =>
    if (low && a ≠ .rws) || f0 = R.DIE_PLAN_CLASS_CHANGES then x
    else if new = cur then (if locked || legalValue f0 new then x else (s, some .fieldReserved, x.2.2))
    else if locked then (s, x.2.1, true)
    else
      match fieldRefuses s ty i v f0 new with
      | none => (wr s f new j k, x.2)
      | some st => (s, some st, x.2.2)

/-! #### The settings list (R480) -/

/-- What the register at `off` shows of a field that holds `n`: all of it, or a half of a field of 64 bits. -/
def halfOf (f : Fld) (off n : Nat) : Nat := if f.w ≤ 32 then n else if off = f.off then n % 2 ^ 32 else n / 2 ^ 32

/-- The 32-bit value of a register's writable fields, under index `k` of its selectors. -/
def wordValue (s : State) (ty i off k : Nat) : Nat :=
  (fieldsAt ty i off).foldl (fun n f => if f.acc = .rw then n + halfOf f off (rd s f i k) * 2 ^ f.lo else n) 0

/-- Registers that are never settings. -/
def noSetting (ty off : Nat) : Bool :=
  ty = 17 || ty = 27 || (ty = 3 && off = R.MEM_OWN_VALID.off) || (ty = 7 && off = R.HOST_FN_CFG_BOUND.off) ||
  (ty = 8 && 0x104 ≤ off && off < 0x144)

/-- Entries that a setting takes in its region: one for each selector of its register, and its own. -/
def settingSize (x : Setting) : Nat :=
  match (fieldsAt x.ty x.inst x.off).find? (fun f => f.bank ≠ 0) with
  | some f => if f = R.SERV_BUCKET_BOUND then 3 else 2
  | none => 1

/-- Fields subject to LOCK of the register differ between two states. -/
def lockChanged (s t : State) (ty i off : Nat) : Bool :=
  (fieldsAt ty i off).any (fun f => f.lock && f.acc = .rw &&
    halfOf f off (rd s f i (bankIdx s ty i f)) ≠ halfOf f off (rd t f i (bankIdx s ty i f)))

/-- A record that firmware writes of its own (R440); no rule names its code or its core, which are free values. -/
def firmwareRecord (s : State) (sev : Nat) (detail : List Nat) : State :=
  recordEvent (useFree s) 63 (freeVal s 1 % 4) (freeVal s 0 % 65536) sev 0 detail

/-- The state before a write of a register and the one after it: an accepted write of a field subject to LOCK adds or updates its
setting. One for which the region has no room is recorded as an overflow. -/
def noteWord (before s : State) (ty i off : Nat) : State :=
  if noSetting ty off || !lockChanged before s ty i off then s
  else
    let k := (((fieldsAt ty i off).find? (fun f => f.bank ≠ 0)).map (bankIdx s ty i)).getD 0
    let x : Setting := { ty := ty, inst := i, off := off, sel := k, val := wordValue s ty i off k }
    let same := fun (y : Setting) => y.ty = ty && y.inst = i && y.off = off && y.sel = k
    let put := fun (l : List Setting) => { s with boot := { s.boot with settings := l } }
    if s.boot.settings.any same then put (s.boot.settings.map (fun y => if same y then x else y))
    else if (s.boot.settings.map settingSize).foldl (· + ·) 0 + settingSize x ≤ 32704 then put (s.boot.settings ++ [x])
    else firmwareRecord s 1 [ty, i, off]

/-- The registers that hold the fields at an offset: one, or both halves of a field of 64 bits. -/
def settingWords (ty i off : Nat) : List Nat :=
  match (fieldsAt ty i off).find? (fun f => 32 < f.w) with
  | some f => [f.off, f.off + 4]
  | none => [off]

/-- Each register that the write changed becomes a setting (R480). -/
def noteSetting (before s : State) (ty i off : Nat) : State :=
  (settingWords ty i off).foldl (fun s o => noteWord before s ty i o) s

/-- Every register write goes through here. A page that is not served ignores it (R393, R488). A write that touches a
locked field (R491) is refused when it comes from host software of the PF and the page is locked (R490); an accepted one becomes
a setting (R480). -/
def regWrite (s : State) (w : Writer) (ty i off : Nat) (touches : Bool) (k : State → State) : State :=
  if pageServed s ty i then
    if touches && decide (w = .host) && decide (rd s (hLocked ty) i = 1) then
      addSat (refuseWrite s ty i off .fieldReserved) (hLockRefused ty) 1 i
    else noteSetting s (k s) ty i off
  else s


/-- A 32-bit write of a register: each field takes its value, keeps it when the value is reserved, or keeps it under LOCK; a
refusal is recorded once (R485). While the page's domain is low, only RWS fields take writes (R393). -/
def wordWrite (s : State) (w : Writer) (ty i off v : Nat) : State :=
  if rd s R.BOOT_STAT_RECOVERY = 1 && !recoveryPage ty then s
  else
    match registerShut s ty i off with
    | some st => refuseWrite s ty i off st
    | none =>
      let low := dom s (pageDomain ty i) ≠ 0
      let r := (fieldsAt ty i off).foldl (writeField w ty i off v low) (s, none, false)
      let t := if r.2.2 then refuseWrite r.1 ty i off .fieldReserved
        else match r.2.1 with | some st => refuseWrite r.1 ty i off st | none => r.1
      if r.2.2 then addSat t (hLockRefused ty) 1 i else noteSetting s t ty i off

/-- An action of a page subject to LOCK, beside the fields that the same write carries: whether it is taken. -/
def actionTaken (s : State) (w : Writer) (ty i : Nat) : Bool := pageServed s ty i && !(w = .host && rd s (hLocked ty) i = 1)

/-! #### The common header's writable registers (R484, R489 to R491) -/

/-- The page exists and answers now: a page of R482, or a VF function page, and one that recovery mode serves (R482, R488). -/
def pageThere (s : State) (ty i : Nat) : Bool :=
  i < pageCount ty && (ty ≠ 27 || 0 < i) && (rd s R.BOOT_STAT_RECOVERY = 0 || recoveryPage ty)

/-- How many interrupt bits a page lists, from bit 0. -/
def irqCount (ty i : Nat) : Nat :=
  if ty = 6 && i ≠ 4 then 0 else
  [6, 4, 0, 7, 1, 0, 1, 6, 2, 4, 4, 4, 1, 5, 8, 3, 5, 5, 4, 5, 4, 3, 1, 3, 3, 4, 4, 4].getD ty 0

/-- A write of IRQ_EN (R489): an enable bit that goes from 0 to 1 over a raw bit sends a message. -/
def irqEnable (s : State) (ty i v : Nat) : State :=
  if pageThere s ty i then
    (List.range (irqCount ty i)).foldl (fun s n =>
      let was := rd s (hIrqEn ty n) i
      let s := wr s (hIrqEn ty n) (bitsOf v n 1) i
      if was = 0 && bitsOf v n 1 = 1 && rd s (hIrqRaw ty n) i = 1 then emit s (.msix (pageFn ty i) 0) else s) s
  else s

/-- A write of IRQ_CLR: 1 clears a raw bit. -/
def irqClear (s : State) (ty i v : Nat) : State :=
  if pageThere s ty i then
    (List.range (irqCount ty i)).foldl (fun s n => if bitsOf v n 1 = 1 then wr s (hIrqRaw ty n) 0 i else s) s
  else s

/-- Every page of R482, as block type and instance. -/
def allPages : List (Nat × Nat) := (List.range 27).flatMap (fun ty => (List.range (pageCount ty)).map (fun i => (ty, i)))

/-- Every page is locked (R491). -/
def lockAll (s : State) : State := allPages.foldl (fun s p => wr s (hLocked p.1) 1 p.2) s

/-- A write of LOCK: LOCKED is only ever set, and ALL stands on the BOOT page alone. A VF function page ignores it (R492). -/
def lockWrite (s : State) (ty i v : Nat) : State :=
  if pageThere s ty i && ty ≠ 27 then
    let s := if bitsOf v 0 1 = 1 then wr s (hLocked ty) 1 i else s
    if ty = 26 && bitsOf v 1 1 = 1 then lockAll s else s
  else s

/-! ### Ends of flushes, and the freeze copy (chapter 18) -/

/-- A kept trigger starts one further flush (R448). -/
def keptFlush (s : State) : State :=
  match s.evr.kept with
  | some c => triggerFlush { s with evr := { s.evr with kept := none } } c
  | none => s

/-- The flush that runs is over: held events are applied, unless a freeze runs, and then a kept trigger starts the next one (R448,
R449, R451). -/
def flushOver (s : State) : State :=
  let s := wr { s with evr := { s.evr with flush := none, lastEnd := s.now } } R.NVS_STAT_FLUSHING 0
  keptFlush (if isFrozen s then s else applyHeld s)

/-- Puts a committed copy into its bank (R453, R454). -/
def commitBank (s : State) (bank : Nat) (d : BankData) : State :=
  let s := { s with evr := if bank = 0 then { s.evr with bank0 := some d } else { s.evr with bank1 := some d } }
  let s := wr (wr s R.NVS_STAT_CURRENT bank) (if bank = 0 then R.NVS_STAT_VALID0 else R.NVS_STAT_VALID1) 1
  incSat (wr (wr s R.NVS_SEQ d.seq) R.NVS_STAT_LAST_CAUSE d.cause) R.NVS_FLUSH_CNT

/-- A flush commits (R454, R477), `us` microseconds after its start; its end lies within 6.2 ms of it (R452). -/
def commitFlush (s : State) (us : Nat) : State :=
  match s.evr.flush with
  | none => s
  | some f =>
    let us := min us 6200
    let s := { s with now := max s.now (f.data.merid + 1000 * us) }
    let s := commitBank (wr s R.NVS_LAST_US us) f.bank f.data
    let s := if s.boot.healthOwed && f.data.boot.trial = 3 then
        wr { s with boot := { s.boot with healthOwed := false } } R.FWU_STAT_HEALTH_COMMITTED 1 else s
    flushOver (raiseIrq s 24 0 Irq.NVS_FLUSH_DONE)

/-- The 64 bytes of a record (R440). How identifiers lie in DETAIL is not stated but for a retirement (R90): its other bytes are free. -/
def recBytes (s : State) (k : Nat) (r : Rec) : List Byte :=
  leBytes 8 r.first ++ leBytes 8 r.last ++ leBytes 4 r.count ++ leBytes 2 r.source ++ leBytes 2 r.code ++
  leBytes 1 (r.severity + 8 * r.timeQ + 32 * b2n r.tagged) ++ leBytes 1 r.tenant ++
  leBytes 2 (r.tempBand + 8 * r.paceBand + 64 * r.loadPat) ++ leBytes 4 r.serial ++ (if (r.source / 1024 = 0 && r.code = 0x8005) || (r.source / 1024 = 1 && r.code = 0x8003) then
      r.detail.map (BitVec.ofNat 8) ++ freeBytes s (16 * k) 14 else freeBytes s (16 * k) 16) ++ leBytes 16 0

/-- Bytes of the freeze copy (R450): the record store, then the metrics. What the places that hold no record read as, and how a
metric's 256 bytes are laid out, is not stated: those bytes are free. -/
def freezeBytes (s : State) : List Byte :=
  let n := s.evr.store.length
  s.evr.store.zipIdx.flatMap (fun e => recBytes s e.2 e.1) ++ freeBytes s (16 * n) (4456448 - 64 * n)

/-- Sampled counts per second (R447): the sample of a metric is how far its counter has grown, or stands since it was cleared. -/
def countMetric (s : State) (m now : Nat) : State :=
  let was := tget 0 s.evr.counted m
  let s := { s with evr := { s.evr with counted := tset 0 m now s.evr.counted } }
  metricSample s m ((if was ≤ now then now - was else now : Nat) : Int)

/-! ### Resets asked for (R456, R458) -/

/-- Order 1 of R458: admissions stop. A warm reset that already runs is not started again, and dusk prevails over it. -/
def beginWarm (s : State) (cause : Nat) (recovery : Bool) : State :=
  if s.boot.warm.isSome || s.pwr.dusk.isSome || !s.pwr.good then s
  else { s with boot := { s.boot with warm := some s.now, cause := cause, toRecovery := recovery } }

/-- An event that sets interrupt bit `n` of its page: it is recorded with code 0x8000 + `n` and severity 1, and signalled
(R441, R489). -/
def irqEvent (s : State) (ty i n tenant : Nat) (detail : List Nat) : State :=
  raiseIrq (recordEvent s ty i (0x8000 + n) 1 tenant detail) ty i n

/-- An event that a status names: severity 3 where the status halts a queue, otherwise 2 (R441). -/
def statusEvent (s : State) (ty i : Nat) (st : Status) (tenant : Nat) (detail : List Nat) : State :=
  recordEvent s ty i (statusValue st) (if statusHalts st then 3 else 2) tenant detail

/-! ### Device memory (chapter 09) -/

/-- Refreshes that channel `c` of controller `m` owes, negative for ones issued in advance (R242). -/
def owedOf (s : State) (m c : Nat) : Int := tget 0 s.mem.owed (4 * m + c)
/-- Sets them, and shows the largest owed count over the controller's channels. -/
def setOwed (s : State) (m c : Nat) (v : Int) : State :=
  let s := { s with mem := { s.mem with owed := tset 0 (4 * m + c) v s.mem.owed } }
  wr s R.MEMC_STAT_OWED (max (max (owedOf s m 0) (owedOf s m 1)) (max (owedOf s m 2) (owedOf s m 3))).toNat m

/-- Data bytes of one controller (R229); BOOT_VARIANT.VARIANT 0 is the 1T. -/
def memPer (s : State) : Nat := if rd s R.BOOT_VARIANT_VARIANT = 0 then 30 * 2 ^ 30 else 15 * 2 ^ 30

/-- First controllers of the interleave sets of a START word; bit 0 counts as set (R232). -/
def setStarts (w : Nat) : List Nat := (List.range 32).filter (fun i => i = 0 || w / 2 ^ i % 2 = 1)

/-- The interleave sets: first controller and number of controllers. -/
def setList (w : Nat) : List (Nat × Nat) :=
  let st := setStarts w
  List.zipWith (fun a b => (a, b - a)) st (st.drop 1 ++ [32])

/-- The set in which an address lies, if any. -/
def setOf (s : State) (a : Nat) : Option (Nat × Nat) :=
  (setList (rd s R.MEM_SET_MAP)).find? (fun p => p.1 * memPer s ≤ a && a < (p.1 + p.2) * memPer s)

/-- A set is present while none of its controllers is disabled (R234). -/
def setPresent (s : State) (p : Nat × Nat) : Bool :=
  (List.range p.2).all (fun j => rd s R.MEMC_PART_DISABLED (p.1 + j) = 0)
/-- Usable capacity after absent sets, in GiB (R26, R234). -/
def usableGib (s : State) : Nat :=
  ((setList (rd s R.MEM_SET_MAP)).map (fun p => if setPresent s p then p.2 * (memPer s / 2 ^ 30) else 0)).foldl (· + ·) 0

/-- Controller, channel and channel data byte of an address (R233). -/
def locate (s : State) (a : Nat) : Option (Nat × Nat × Nat) :=
  (setOf s a).map (fun p =>
    let o := a - p.1 * memPer s
    let g := 16384 / (4 * p.2)
    let sl := o % 16384 / g
    (p.1 + sl / 4, sl % 4, o / 16384 * g + o % g))

/-- The controller that holds an address; 0 for none. -/
def memcOf (s : State) (a : Nat) : Nat := ((locate s a).map Prod.fst).getD 0

/-- Number of extents of the variant (R238). -/
def extentCount (s : State) : Nat := if rd s R.BOOT_VARIANT_VARIANT = 0 then 15360 else 7680

/-- The extent lies in a present set. -/
def extentPresent (s : State) (e : Nat) : Bool :=
  match setOf s (e * 2 ^ 26) with
  | some p => setPresent s p
  | none => false

/-- The tenant that owns an extent, unless it is being scrubbed (R238). -/
def extentOwner (s : State) (e : Nat) : Option Nat :=
  if rd s R.MEM_OWN_VALID 0 e = 1 && rd s R.MEM_OWN_SCRUBBING 0 e = 0 then some (rd s R.MEM_OWN_TENANT 0 e) else none

/-- The extents that `n` bytes from `a` touch. -/
def extentsOf (a n : Nat) : List Nat :=
  if n = 0 then [] else (List.range ((a + n - 1) / 2 ^ 26 - a / 2 ^ 26 + 1)).map (· + a / 2 ^ 26)

/-- Size of the KV pool in bytes. -/
def poolBytes (s : State) : Nat := rd s R.KVPG_POOL_PAGES * 16384

/-- `n` bytes from `a` meet the KV pool. -/
def meetsPool (s : State) (a n : Nat) : Bool :=
  0 < n && a < rd s R.KVPG_POOL_BASE + poolBytes s && rd s R.KVPG_POOL_BASE < a + n

/-- The status with which an access by a tenant to `n` bytes from `a` fails: an absent set, or bytes that are unowned or lie
in the KV pool (R234, R238, R240). -/
def accessFail (s : State) (t a n : Nat) : Option Status :=
  let es := extentsOf a n
  if es.any (fun e => (setOf s (e * 2 ^ 26)).isSome && !extentPresent s e) then some .memAbsent
  else if meetsPool s a n || es.any (fun e => !extentPresent s e || extentOwner s e ≠ some t) then some .memUnowned
  else none

/-- Within the tenant's memory and usable capacity. -/
def owned (s : State) (t a n : Nat) : Bool := (accessFail s t a n).isNone

/-- The set in which a region is placed under R235 for a controller mask, if any. -/
def placedSet (s : State) (base len mask : Nat) : Option (Nat × Nat) :=
  match setOf s base with
  | some p =>
    if base % 16384 = 0 && base + len ≤ (p.1 + p.2) * memPer s && setPresent s p &&
       (List.range p.2).all (fun j => mask / 2 ^ (p.1 + j) % 2 = 1) then some p else none
  | none => none

/-- Notes the last retried (1), poisoned (2) or path (3) event of a controller (R247). -/
def noteMemErr (s : State) (a tenant kind : Nat) : State :=
  let m := memcOf s a
  let ch := ((locate s a).map (fun p => p.2.1)).getD 0
  wr (wr (wr (wr s R.MEMC_ERR_ADDR a m) R.MEMC_ERR_INFO_TENANT tenant m) R.MEMC_ERR_INFO_KIND kind m)
    R.MEMC_ERR_INFO_CHANNEL ch m

/-- The owner of a unit: the tenant of its frame in the KV pool, otherwise the extent's owner; 0 for none (R239). -/
def unitOwner (s : State) (a : Nat) : Nat :=
  if meetsPool s a 1 then ((tget none s.kv.frames ((a - rd s R.KVPG_POOL_BASE) / 16384)).map (fun f => if f.scrub then 0 else f.tenant)).getD 0
  else (extentOwner s (a / 2 ^ 26)).getD 0

/-- A corrected read (R245). -/
def memCorrected (s : State) (a : Nat) : State :=
  irqEvent (incSat s R.MEMC_CE_CNT (memcOf s a)) 3 (memcOf s a) Irq.MEMC_CE (unitOwner s a) [a]

/-- A path-check mismatch (R245); MARGIN_UPDATE acts on it (R55). -/
def memPath (s : State) (a : Nat) : State :=
  let s := noteMemErr (incSat s R.MEMC_PATH_CNT (memcOf s a)) a (unitOwner s a) 3
  irqEvent s 3 (memcOf s a) Irq.MEMC_PATH (unitOwner s a) [a]

/-- Data is poisoned: counted, recorded, and the unit goes on the list of units that await their mark (R246). -/
def poisonData (s : State) (a : Nat) : State :=
  let m := memcOf s a
  let s := noteMemErr (incSat s R.MEMC_POISON_CNT m) a (unitOwner s a) 2
  let s := raiseIrq s 3 m Irq.MEMC_POISON
  let s := statusEvent s 3 m .memPoison (unitOwner s a) [a]
  if poisonUnit s (a / 64) then s else { s with mem := { s.mem with awaiting := s.mem.awaiting ++ [a / 64] } }

/-- A write whose path check mismatches stores the unit with its poison mark at once (R246). -/
def writePathBad (s : State) (a : Nat) : State :=
  let s := memPath s a
  let m := memcOf s a
  let s := raiseIrq (incSat s R.MEMC_POISON_CNT m) 3 m Irq.MEMC_POISON
  { s with mem := { s.mem with poison := (a / 64 :: s.mem.poison).eraseDups, awaiting := s.mem.awaiting.erase (a / 64) } }

/-- What reading units meets in the hardware (R245, R246): units corrected, units uncorrectable or with a read path mismatch
(`true`), and units whose write met a path mismatch. -/
def readFails (s : State) (who : Consumer) (e : MemEnv) : State :=
  let s := e.corrected.foldl memCorrected s
  e.bad.foldl (fun s b =>
    let s := if b.2 then memPath s b.1 else s
    if poisonUnit s (b.1 / 64) then s
    else if rd s R.MEMC_ECC_CTL (memcOf s b.1) = 0 then poisonData s b.1
    else { s with mem := { s.mem with
        rereads := s.mem.rereads ++ [{ addr := b.1, who := who, tries := 0, path := b.2 }] } }) s

/-- A consumer waits for re-reads. -/
def waitsReRead (s : State) (who : Consumer) : Bool := s.mem.rereads.any (fun r => r.who = who)

/-! ### Tenants (R368) -/

/-- Key slot state: 0 FREE, 1 ACTIVE, 2 RETIRING. -/
def tenState (s : State) (t : Nat) : Nat := rd s R.SEC_TEN_STATE_STATE 0 t
def tenActive (s : State) (t : Nat) : Bool := tenState s t = 1
def tenSeals (s : State) (t : Nat) : Bool := rd s R.SEC_TEN_STATE_SEAL_REQ 0 t = 1
def debugOpen (s : State) : Bool := rd s R.SEC_STAT_DEBUG_OPEN = 1

/-! ### Messages between modules (chapters 12 and 13) -/

def port (s : State) (p : Nat) : WPort := tget {} s.wag.ports p
def setPort (s : State) (p : Nat) (x : WPort) : State := { s with wag := { s.wag with ports := tset {} p x s.wag.ports } }
/-- Port states of R315: 0 DISABLED, 1 TRAINING, 2 KEYING, 3 UP, 4 DOWN. -/
def portState (s : State) (p : Nat) : Nat := rd s R.WAG_STAT_STATE p
def portUp (s : State) (p : Nat) : Bool := portState s p = 3

/-- This module's hive ID, and its coordinates (R18). -/
def hiveId (s : State) : Nat := rd s R.HIVE_ID_ID
def coord (m d : Nat) : Nat := if d = 0 then m % 8 else if d = 1 then m / 8 % 8 else m / 64

/-- The port on which a route from `a` to `b` leaves (R310): dimension by dimension, the shorter way round the ring, + on a
tie. -/
def routeDim (a b d : Nat) : Option Nat :=
  let k := (coord b d + 8 - coord a d) % 8
  if k = 0 then none else if k ≤ 4 then some (2 * d) else some (2 * d + 1)
def routePort (a b : Nat) : Option Nat :=
  match routeDim a b 0 with
  | some p => some p
  | none => match routeDim a b 1 with
    | some p => some p
    | none => routeDim a b 2

/-- Puts a message on a port's channel. -/
def enqueue (s : State) (p : Nat) (m : OutMsg) : State :=
  let x := port s p
  setPort s p { x with txq := tset [] m.vc (tget [] x.txq m.vc ++ [m]) x.txq }

/-- Sends a message of this module to another: over the port of its route, or to itself. Over a port that is not UP it is
lost (R312). -/
def sendMsg (s : State) (dst vc tenant : Nat) (m : Msg) : State :=
  if dst = hiveId s then emit s (.toSelf m)
  else
    match routePort (hiveId s) dst with
    | some p =>
      if portUp s p then
        enqueue s p { vc := vc, src := hiveId s, dst := dst, tenant := tenant, body := m }
      else s
    | none => s

/-- Sends a message to the neighbour on a port. -/
def sendOn (s : State) (p vc : Nat) (m : Msg) : State :=
  if portUp s p then enqueue s p { vc := vc, src := hiveId s, dst := rd s R.WAG_PEER_MODULE p, tenant := 0, body := m }
  else s

/-- Hive states of R323: 0 WAITING, 1 FORMING, 2 MEMBER, 3 EXPELLED, 4 STOPPED. -/
def hiveState (s : State) : Nat := rd s R.HIVE_STAT_STATE
def isQueen (s : State) : Bool := rd s R.HIVE_ROLE_ROLE = 3
/-- A hive of one (R319). -/
def hiveOfOne (s : State) : Bool := rd s R.HIVE_ROLE_ROLE_CFG = 0
def isMember (s : State) (m : Nat) : Bool := rd s (R.HIVE_MEMBER (m / 32)) / 2 ^ (m % 32) % 2 = 1

/-- Meridian quality: 0 FREE, 1 LOCKED, 2 HOLDOVER (R328, R330). -/
def setQuality (s : State) (q : Nat) : State :=
  if rd s R.MERID_STAT_QUALITY = q then s
  else
    let s := wr s R.MERID_STAT_QUALITY q
    if q = 1 then irqEvent s 15 0 Irq.MERID_LOCKED 0 []
    else if q = 2 then irqEvent s 15 0 Irq.MERID_HOLDOVER 0 [] else s

/-- Order 1 of R333: an armed channel whose arrive counter has reached THRESH sends its arrival. -/
def arriveIf (s : State) (b v : Nat) : State :=
  if rd s R.HIVE_BAR_STAT 0 b = 1 && rd s R.HIVE_BAR_THRESH 0 b ≤ v then
    let shard := if rd s R.HIVE_BAR_CFG_SPARE 0 b = 1 then rd s R.HIVE_BAR_BACKUP_SHARD 0 b else rd s R.HIVE_BAR_CFG_SHARD 0 b
    sendMsg (wr s R.HIVE_BAR_STAT 2 0 b) (rd s R.HIVE_STAT_QUEEN) 1 0 (.arrival b (rd s R.HIVE_BAR_GEN 0 b) shard s.now)
  else s

/-- A signal counter has taken value `v`: every channel that arrives on it is looked at (R333). -/
def barrierThreshold (s : State) (c v : Nat) : State :=
  (List.range 64).foldl (fun s b =>
    if rd s R.HIVE_BAR_CFG_ENABLE 0 b = 1 && rd s R.HIVE_BAR_ARRIVE 0 b = c then arriveIf s b v else s) s

/-! ### Queues (chapter 11) -/

def queue (s : State) (q : Nat) : Queue := tget {} s.host.queues q
def setQueue (s : State) (q : Nat) (x : Queue) : State := { s with host := { s.host with queues := tset {} q x s.host.queues } }


/-- A function's bound tenant, and whether it is bound (R252). -/
def fnTenant (s : State) (f : Nat) : Nat := if f = 0 then 0 else rd s R.HOST_FN_CFG_TENANT 0 f
def fnBound (s : State) (f : Nat) : Bool := f = 0 || rd s R.HOST_FN_CFG_BOUND 0 f = 1
/-- Queue states of R288: 0 DISABLED, 1 ACTIVE, 2 HALTED, 3 DELETING. -/
def qState (s : State) (q : Nat) : Nat := rd s R.Q_STAT_STATE 0 q
/-- Depth of both rings. -/
def ringN (s : State) (q : Nat) : Nat := 2 ^ rd s R.Q_CFG_DEPTH_LOG2 0 q
/-- Raises a queue interrupt on its function's page (R276, R489). -/
def queueIrq (s : State) (q n : Nat) : State :=
  let f := queueFn s q
  if f = 0 then raiseIrq s 9 0 n else raiseIrq s 27 f n

/-- Stream word of R265: direction, kind, queue or sequence context. -/
def streamWord (dir kind q : Nat) : Nat := dir * 2 ^ 31 + kind * 2 ^ 28 + q
def streamKey (tenant word : Nat) : Nat := tenant * 2 ^ 32 + word
/-- Last counter of a stream. -/
def streamCtr (s : State) (tenant word : Nat) : Nat := tget 0 s.host.streams (streamKey tenant word)
def setStream (s : State) (tenant word c : Nat) : State :=
  { s with host := { s.host with streams := tset 0 (streamKey tenant word) c s.host.streams } }

/-- A write towards host memory: plain, or sealed as one segment of its stream with the next counter (R265, R266). A stream
whose next counter would reach 2^48 takes no further traffic. -/
def towardsHost (s : State) (tenant kind q a tagAddr : Nat) (bs : List Byte) : State :=
  if tenSeals s tenant then
    let w := streamWord 1 kind q
    let c := streamCtr s tenant w + 1
    if 2 ^ 48 ≤ c then wr s R.HOST_TEN_SEAL_EXHAUSTED 1 0 tenant
    else emit (setStream s tenant w c) (.sealedWrite a tagAddr tenant w c bs)
  else hostWrite s a bs

/-- A completion entry's 32 bytes (R280). -/
def cplBytes (c : Cpl) (q phase time : Nat) : List Byte :=
  leBytes 2 c.cid ++ leBytes 2 (statusValue c.status) ++ leBytes 2 c.flags ++ leBytes 1 phase ++ leBytes 1 0 ++
  leBytes 2 c.sqHead ++ leBytes 2 q ++ leBytes 4 0 ++ leBytes 8 c.result ++ leBytes 8 time

/-- Writes a completion into the ring, moves the tail and the phase, and sends the queue's message (R275). -/
def postNow (s : State) (q : Nat) (c : Cpl) : State :=
  let t := rd s R.Q_CQ_PTR_TAIL 0 q
  let n := ringN s q
  let x := queue s q
  let s := towardsHost s (fnTenant s (queueFn s q)) 2 q (rd s R.Q_CQ_BASE 0 q + 32 * t)
    (rd s R.Q_TAG_BASE 0 q + 32 * n + 32 * t) (cplBytes c q x.phase s.now)
  let t' := (t + 1) % n
  let s := wr s R.Q_CQ_PTR_TAIL t' 0 q
  let s := if t' = 0 then setQueue s q { x with phase := 1 - x.phase } else s
  if rd s R.Q_CFG_IRQ_EN 0 q = 1 then emit s (.msix (queueFn s q) (rd s R.Q_CFG_VECTOR 0 q)) else s

/-- The completion ring is full. -/
def cqFull (s : State) (q : Nat) : Bool :=
  (rd s R.Q_CQ_PTR_TAIL 0 q + 1) % ringN s q = rd s R.Q_CQ_PTR_HEAD 0 q

/-- Posts a completion, or holds it for want of ring space (R275). -/
def postCpl (s : State) (q : Nat) (c : Cpl) : State :=
  let x := queue s q
  if cqFull s q || !x.held.isEmpty then
    queueIrq (wr (setQueue s q { x with held := x.held ++ [c] }) R.Q_STAT_CQ_WAIT 1 0 q) q Irq.QMGR_CQ_WAIT
  else postNow s q c

/-- Posts held completions while the ring has room (R275). -/
def postHeld : Nat → State → Nat → State
  | 0, s, _ => s
  | n + 1, s, q =>
    match (queue s q).held with
    | [] => wr s R.Q_STAT_CQ_WAIT 0 0 q
    | c :: r => if cqFull s q then s else postHeld n (postNow (setQueue s q { queue s q with held := r }) q c) q

/-- Address and value of a signal counter (R283). -/
def sigAddr (s : State) (c : Nat) : Nat := rd s R.QMGR_SIG_BASE + 8 * c
def sigValue (s : State) (c : Nat) : Nat := memNat s (sigAddr s c) 8

/-- An entry of a queue's running command. -/
def runOp (r : RunCmd) : Nat := fieldAt r.sub.bytes 0 1
def runCid (r : RunCmd) : Nat := fieldAt r.sub.bytes 2 2
/-- Operand field of the running command. -/
def arg (r : RunCmd) (a n : Nat) : Nat := fieldAt r.sub.bytes a n
def waitCounter (r : RunCmd) : Nat := bitsOf (arg r 16 4) 0 20

/-- The running command is a WAIT on counter `c` whose threshold the counter has reached (R285). -/
def waitMet (s : State) (c : Nat) (x : Queue) : Bool :=
  match x.run with
  | some r => r.busy && runOp r = 2 && waitCounter r = c && arg r 24 8 ≤ sigValue s c
  | none => false

/-- What remains to be done when signals are applied and completions posted. -/
inductive SigWork where
  /-- Add `v` to, or set, a counter for a tenant. -/
  | sig (tenant c : Nat) (set : Bool) (v : Nat)
  | post (q : Nat) (c : Cpl)
  deriving DecidableEq, Repr

/-- Completion of a queue's running command. -/
def runCpl (s : State) (q : Nat) (r : RunCmd) (st : Status) (flags result : Nat) : Cpl :=
  { cid := if r.sub.bad.isSome then 0xFFFF else runCid r, status := st, flags := flags,
    sqHead := (r.sub.idx + 1) % ringN s q, result := result }

/-- The signal that a command asks for when it ends OK (R276, R284). -/
def runSignal (r : RunCmd) (st : Status) : List SigWork :=
  let f := fieldAt r.sub.bytes 1 1
  if st = .ok && f % 2 = 1 then
    [.sig r.tenant (bitsOf (fieldAt r.sub.bytes 4 4) 0 20) (f / 2 % 2 = 1) (fieldAt r.sub.bytes 8 8)]
  else []

/-- A queue leaves DELETING when its running command has ended (R290). -/
def disableQueue (s : State) (q : Nat) : State :=
  let s := setQueue s q {}
  let s := wr (wr s R.Q_STAT_STATE 0 0 q) R.Q_STAT_CQ_WAIT 0 0 q
  wr s R.QMGR_ACTIVE (rd s R.QMGR_ACTIVE - 1)

/-- A command's primary status halts its queue (R288). -/
def haltIf (s : State) (q : Nat) (st : Status) (cid : Nat) : State :=
  if statusHalts st && qState s q = 1 then
    let s := wr (wr (wr s R.Q_STAT_STATE 2 0 q) R.Q_STAT_FAULT_STATUS (statusValue st) 0 q) R.Q_FAULT_CID cid 0 q
    queueIrq (incSat s R.QMGR_HALT_CNT) q Irq.QMGR_HALT
  else s

/-- Applies signals and posts completions in order; an update that satisfies WAITs completes them in the same window (R284,
R285). -/
def settle : Nat → State → List SigWork → State
  | 0, s, _ => s
  | _, s, [] => s
  | n + 1, s, .post q c :: w => settle n (haltIf (postCpl s q c) q c.status c.cid) w
  | n + 1, s, .sig t c set v :: w =>
    if c / 4096 ≠ t then settle n (raiseIrq (incSat s R.QMGR_SIG_DENY) 9 0 Irq.QMGR_SIG_DENY) w
    else
      let old := sigValue s c
      let s := memWrite s (sigAddr s c) (leBytes 8 (if set then v else old + v))
      let s := barrierThreshold s c (sigValue s c)
      let met := s.host.queues.filter (fun e => waitMet s c e.2 && qState s e.1 = 1)
      let done := met.flatMap (fun e =>
        match e.2.run with
        | some r => runSignal r .ok ++ [.post e.1 (runCpl s e.1 r .ok (if r.near then 2 else 0) (sigValue s c))]
        | none => [])
      let s := met.foldl (fun s e => setQueue s e.1 { queue s e.1 with run := none }) s
      settle n s (done ++ w)

/-- Runs `settle` with room for every queue that may be waiting. -/
def settleAll (s : State) (w : List SigWork) : State := settle (4 * s.host.queues.length + w.length + 4) s w

/-- A tenant's signal counter is updated (R284). -/
def signalUpdate (s : State) (tenant c : Nat) (set : Bool) (v : Nat) : State := settleAll s [.sig tenant c set v]

/-- The running command of a queue ends with a status: its signal, then its completion, then the halt (R284, R288). In
DELETING the completion and signal are discarded (R290). A pending expiry makes it NEAR_TIMEOUT (R293). -/
def finishCmd (s : State) (q : Nat) (st : Status) (result : Nat) (flags : Nat := 0) : State :=
  match (queue s q).run with
  | none => s
  | some r =>
    if qState s q = 3 then disableQueue s q
    else
      let s := if r.near then incSat s R.QMGR_TO_LOST else s
      let near := r.near && (st ≠ .linkDown && st ≠ .memPoison)
      let s := setQueue s q { queue s q with run := none }
      settleAll s (runSignal r st ++ [.post q (runCpl s q r st (flags ||| (if near then 2 else 0)) result)])

/-- The running command of a queue, when it has opcode `op` and its work has not begun. -/
def running (s : State) (q op : Nat) : Option RunCmd :=
  match (queue s q).run with
  | some r => if runOp r = op && !r.busy then some r else none
  | none => none

/-- Marks the running command as working elsewhere. -/
def setBusy (s : State) (q : Nat) : State :=
  setQueue s q { queue s q with run := (queue s q).run.map (fun r => { r with busy := true }) }
def modRun (s : State) (q : Nat) (f : RunCmd → RunCmd) : State :=
  setQueue s q { queue s q with run := (queue s q).run.map f }

/-- R279 for a command whose TENANT the PF may name freely (`any`) or must leave 0. -/
def tenantOk (r : RunCmd) (any : Bool) (t : Nat) : Bool := if r.fn = 0 then any || t = 0 else t = r.tenant

/-! ### The prefix index (R220 to R223) -/

/-- Address of a node of a tenant's tree (R221). -/
def pfxNode (s : State) (t n : Nat) : Nat := rd s R.PFX_TEN_BASE 0 t + 64 * n
def pfxField (s : State) (t n off len : Nat) : Nat := memNat s (pfxNode s t n + off) len
def pfxSet (s : State) (t n off len v : Nat) : State := memWrite s (pfxNode s t n + off) (leBytes len v)
def pfxUsed (s : State) (t : Nat) : Nat := rd s R.PFX_TEN_USED 0 t
def pfxNone : Nat := 0xFFFFFFFF

/-- Every node that names a sequence becomes orphaned when the sequence closes (R223). -/
def pfxOrphan (s : State) (t k : Nat) : State :=
  (List.range (pfxUsed s t)).foldl (fun s n => if n ≠ 0 && pfxField s t n 28 2 = k then pfxSet s t n 28 2 0xFFFF else s) s

/-- The child of a node, from a first child on, whose KEY is `key`. -/
def pfxFind (s : State) (t : Nat) (key : List Byte) : Nat → Nat → Option Nat
  | 0, _ => none
  | f + 1, n =>
    if n = pfxNone then none
    else if memBytes s (pfxNode s t n) 16 = key then some n
    else pfxFind s t key f (pfxField s t n 24 4)
def pfxChild (s : State) (t n : Nat) (key : List Byte) : Option Nat :=
  pfxFind s t key (pfxUsed s t) (pfxField s t n 20 4)

/-- Nodes along the path of a list of keys, from a node on, as far as they exist. -/
def pfxWalk (s : State) (t : Nat) : Nat → List (List Byte) → List Nat
  | _, [] => []
  | n, k :: r => match pfxChild s t n k with
    | some c => c :: pfxWalk s t c r
    | none => []

/-- The chained keys of a prompt's blocks (R220), from the bytes that begin the first digest. -/
def pfxKeys : List Byte → List (List Byte) → List (List Byte)
  | _, [] => []
  | m, b :: r => let k := shake256 (m ++ b) 16; k :: pfxKeys k r

/-- Token blocks of a prompt: full blocks of 2^tl tokens as bytes. -/
def promptBlocks (prompt : List Nat) (tl : Nat) : List (List Byte) :=
  (List.range (prompt.length / 2 ^ tl)).map (fun b => ((prompt.drop (b * 2 ^ tl)).take (2 ^ tl)).flatMap (leBytes 4))

/-- What the first key is chained from: MODEL_ID, BUILD_ID and TPP of the slot (R220). -/
def pfxSeed (img : List Byte) : List Byte := (img.drop 64).take 16 ++ leBytes 4 (2 ^ imgTppLog2 img)

/-- The orphaned leaf with the oldest LAST_USE (R223). -/
def pfxVictim (s : State) (t : Nat) : Option Nat :=
  (List.range (pfxUsed s t)).foldl (fun v n =>
    if n ≠ 0 && pfxField s t n 28 2 = 0xFFFF && pfxField s t n 20 4 = pfxNone then
      match v with
      | some m => if pfxField s t n 40 8 < pfxField s t m 40 8 then some n else some m
      | none => some n
    else v) none

/-- Takes a node out of its parent's list of children. -/
def pfxUnlinkFrom (s : State) (t n : Nat) : Nat → Nat → State
  | 0, _ => s
  | f + 1, c =>
    if c = pfxNone then s
    else if pfxField s t c 24 4 = n then pfxSet s t c 24 4 (pfxField s t n 24 4)
    else pfxUnlinkFrom s t n f (pfxField s t c 24 4)
def pfxUnlink (s : State) (t n : Nat) : State :=
  let p := pfxField s t n 16 4
  let c := pfxField s t p 20 4
  if c = n then pfxSet s t p 20 4 (pfxField s t n 24 4) else pfxUnlinkFrom s t n (pfxUsed s t) c

/-- A node for a new block (R223): an unused one, the lowest in number, or the orphaned leaf used longest ago. -/
def pfxTake (s : State) (t : Nat) : Option (State × Nat) :=
  let u := pfxUsed s t
  if u < rd s R.PFX_TEN_NODES 0 t then some (wr s R.PFX_TEN_USED (u + 1) 0 t, u)
  else (pfxVictim s t).map (fun n => (pfxUnlink s t n, n))

/-- Inserts the blocks of a prompt below a node (R223): existing nodes are re-pointed when they are orphaned, missing ones are
made; without a node to take, the insertion stops and is counted. -/
def pfxInsert (t k : Nat) : State → Nat → Nat → List (List Byte) → State
  | s, _, _, [] => s
  | s, n, d, key :: r =>
    match pfxChild s t n key with
    | some c =>
      let s := if pfxField s t c 28 2 = 0xFFFF then pfxSet s t c 28 2 k else s
      pfxInsert t k (pfxSet s t c 40 8 s.now) c (d + 1) r
    | none =>
      match pfxTake s t with
      | none => irqEvent (incSat s R.PFX_SKIP_CNT) 12 0 Irq.PFX_INSERT_SKIP t [k, d]
      | some (s, c) =>
        let s := memWrite s (pfxNode s t c) (key ++ leBytes 4 n ++ leBytes 4 pfxNone ++ leBytes 4 (pfxField s t n 20 4) ++
          leBytes 2 k ++ leBytes 1 1 ++ leBytes 1 0 ++ leBytes 4 (d + 1) ++ leBytes 4 0 ++ leBytes 8 s.now ++ leBytes 16 0)
        pfxInsert t k (pfxSet s t n 20 4 c) c (d + 1) r

/-- The tree is cleared to its root (R221). -/
def pfxClear (s : State) (t : Nat) : State :=
  if rd s R.PFX_TEN_NODES 0 t = 0 then wr s R.PFX_TEN_USED 0 0 t
  else
    wr (memWrite s (pfxNode s t 0) (leBytes 16 0 ++ leBytes 4 pfxNone ++ leBytes 4 pfxNone ++ leBytes 4 pfxNone ++
      leBytes 2 0xFFFF ++ leBytes 1 1 ++ leBytes 33 0)) R.PFX_TEN_USED 1 0 t

/-! ### Key-value pages (chapter 07) -/

def seqOf (s : State) (k : Nat) : Seq := tget {} s.kv.seqs k

/-- The 64-byte sequence record (R180). -/
def seqRecord (x : Seq) : List Byte :=
  leBytes 1 (x.st + (if x.overcommit then 8 else 0) + (if x.held then 16 else 0) + (if x.host then 32 else 0)) ++
  leBytes 1 x.tenant ++ leBytes 1 x.slot ++ leBytes 1 x.tppLog2 ++ leBytes 2 x.layers ++ leBytes 2 0 ++
  leBytes 4 x.writePos ++ leBytes 4 x.commitLen ++ leBytes 4 x.mapped ++ leBytes 4 (x.resvOwn + x.resvShared) ++
  leBytes 4 x.l1 ++ leBytes 4 x.growNeed ++ leBytes 8 x.parkTime ++ leBytes 8 x.deadline ++ leBytes 16 0

/-- Sets a sequence context and writes its record (R180). -/
def setSeq (s : State) (k : Nat) (x : Seq) : State :=
  memWrite { s with kv := { s.kv with seqs := tset {} k x s.kv.seqs } } (rd s R.KVPG_SEQ_BASE + 64 * k) (seqRecord x)

/-- Every sequence context is FREE. -/
def allFree (s : State) : Bool := s.kv.seqs.all (fun e => e.2.st = 0)

def frameOf (s : State) (f : Nat) : Option Frame := tget none s.kv.frames f
def setFrame (s : State) (f : Nat) (x : Option Frame) : State :=
  { s with kv := { s.kv with frames := tset none f x s.kv.frames } }
def frameAddr (s : State) (f : Nat) : Nat := rd s R.KVPG_POOL_BASE + 16384 * f

/-- Σ RESV over all tenants (R186). -/
def resvSum (s : State) : Nat := ((List.range 256).map (fun t => rd s R.KVPG_TEN_RESV 0 t)).foldl (· + ·) 0

/-- Pages of a tenant taken from its reservation, or from the shared pool: frames allocated or awaiting scrub, and pages
reserved to its sequences (R186, R188, R197). -/
def heldPages (s : State) (t : Nat) (shared : Bool) : Nat :=
  (s.kv.frames.filter (fun e => match e.2 with | some f => f.tenant = t && f.shared = shared | none => false)).length +
  ((s.kv.seqs.filter (fun e => e.2.tenant = t)).map (fun e => if shared then e.2.resvShared else e.2.resvOwn)).foldl (· + ·) 0

/-- Pages taken from the shared pool by all tenants. -/
def sharedHeld (s : State) : Nat :=
  (s.kv.frames.filter (fun e => match e.2 with | some f => f.shared | none => false)).length +
  (s.kv.seqs.map (fun e => e.2.resvShared)).foldl (· + ·) 0

/-- Free pages of the shared pool. -/
def sharedFree (s : State) : Nat := rd s R.KVPG_POOL_PAGES - resvSum s - sharedHeld s

/-- How `n` further pages of a tenant divide between its reservation and the shared pool, if it can have them (R186). -/
def takeSplit (s : State) (t n : Nat) : Option (Nat × Nat) :=
  let own := min n (rd s R.KVPG_TEN_RESV 0 t - heldPages s t false)
  let sh := n - own
  if sh ≤ rd s R.KVPG_TEN_SHARED_SHARED_MAX 0 t - heldPages s t true && sh ≤ sharedFree s then some (own, sh) else none

/-- The frames of the pool that lie in an interleave set: first, and one past the last (R237). -/
def setFrames (s : State) (first len : Nat) : Nat × Nat :=
  let b := rd s R.KVPG_POOL_BASE
  let lo := first * memPer s
  let hi := (first + len) * memPer s
  ((max lo b - b + 16383) / 16384, min (rd s R.KVPG_POOL_PAGES) ((max hi b - b) / 16384))

/-- Frames of a stretch that are not free, in rising order. -/
def takenFrames (s : State) (lo hi : Nat) : List Nat :=
  (s.kv.frames.map Prod.fst).filter (fun f => lo ≤ f && f < hi)

/-- Free frames of a set. -/
def freeFrames (s : State) (first len : Nat) : Nat :=
  let p := setFrames s first len
  p.2 - p.1 - (takenFrames s p.1 p.2).length

/-- Pages reserved to sequences whose frames lie in a set. -/
def reservedIn (s : State) (first len : Nat) : Nat :=
  ((s.kv.seqs.filter (fun e => e.2.setFirst = first && e.2.setLen = len)).map
    (fun e => e.2.resvOwn + e.2.resvShared)).foldl (· + ·) 0

/-- The `r`-th frame from `c` on that is not among the taken ones. -/
def nthFree : List Nat → Nat → Nat → Nat
  | [], c, r => c + r
  | f :: t, c, r => if f < c then nthFree t c r else if c + r < f then c + r else nthFree t (f + 1) (r - (f - c))

/-- A free frame of a set. Which one is taken is a free value. -/
def pickFrame (s : State) (first len : Nat) : Nat :=
  let p := setFrames s first len
  nthFree (takenFrames s p.1 p.2) p.1 (freeVal s 0 % max 1 (freeFrames s first len))

/-- Shows the page counts of the pool and of a tenant, and raises POOL_LOW when the free pages of the shared pool fall below
the mark. -/
def kvSync (s : State) (t : Nat) : State :=
  let f := sharedFree s
  let was := decide (rd s R.KVPG_FREE < rd s R.KVPG_LOW_MARK)
  let s := wr (wr s R.KVPG_FREE f) R.KVPG_SCRUB
    (s.kv.frames.filter (fun e => match e.2 with | some x => x.scrub | none => false)).length
  let s := wr (wr s R.KVPG_TEN_USED (heldPages s t false + heldPages s t true) 0 t) R.KVPG_TEN_PARKED
    (s.kv.seqs.filter (fun e => e.2.st = 2 && e.2.tenant = t)).length 0 t
  if !was && decide (f < rd s R.KVPG_LOW_MARK) then irqEvent s 11 0 Irq.KVPG_POOL_LOW 0 [f] else s

/-- Allocates a frame to a sequence, drawing on its reserved pages while it has any and then as R186 gives (R189). -/
def allocFrame (s : State) (k : Nat) : State × Nat :=
  let x := seqOf s k
  let f := pickFrame s x.setFirst x.setLen
  let own := if 0 < x.resvOwn then true else if 0 < x.resvShared then false
    else decide (heldPages s x.tenant false < rd s R.KVPG_TEN_RESV 0 x.tenant)
  let x := if 0 < x.resvOwn then { x with resvOwn := x.resvOwn - 1 }
    else if 0 < x.resvShared then { x with resvShared := x.resvShared - 1 } else x
  let s := setSeq s k x
  (useFree (setFrame s f (some { tenant := x.tenant, seq := k, shared := !own })), f)

/-- Table page `i` of a layer exists from here on: written in full with zeros, then pointed to (R181, R182). -/
def addTable (s : State) (k layer i : Nat) : State :=
  let (s, f) := allocFrame s k
  let x := seqOf s k
  let s := memZero s (frameAddr s f) 16384
  let s := memWrite s (frameAddr s x.l1 + 32 * layer + 4 * i) (leBytes 4 (2 ^ 31 + f))
  setSeq s k { x with tables := tset 0 (8 * layer + i) (f + 1) x.tables }

/-- Maps block `b` of a layer (R182). -/
def addBlock (s : State) (k layer b : Nat) : State :=
  let s := if tget 0 (seqOf s k).tables (8 * layer + b / 4096) = 0 then addTable s k layer (b / 4096) else s
  let (s, f) := allocFrame s k
  let x := seqOf s k
  let tf := tget 0 x.tables (8 * layer + b / 4096) - 1
  let sh := match frameOf s f with | some y => y.shared | none => false
  let s := memWrite s (frameAddr s tf + 4 * (b % 4096)) (leBytes 4 (f + 2 ^ 26 + (if sh then 2 ^ 27 else 0)))
  setSeq s k { x with map := tset 0 (layer * 2 ^ 15 + b) (f + 1) x.map }

/-- What a growth comes to (R189). -/
inductive Growth where
  | done (s : State)
  | lacks (need : Nat)
  | range
  deriving DecidableEq, Repr

/-- A growth for `n` positions: all or nothing (R189). -/
def grow (s : State) (k n : Nat) : Growth :=
  let x := seqOf s k
  let last := (x.writePos + n - 1) / 2 ^ x.tppLog2
  if x.layers = 0 || last < x.mapped then .done s
  else if 32768 ≤ last then .range
  else
    let nb := last + 1 - x.mapped
    let nt := (last + 4096) / 4096 - (x.mapped + 4095) / 4096
    let need := x.layers * (nb + nt)
    let own := min need (x.resvOwn + x.resvShared)
    if (takeSplit s x.tenant (need - own)).isSome &&
       need + reservedIn s x.setFirst x.setLen ≤ freeFrames s x.setFirst x.setLen + own then
      let s := (List.range nb).foldl (fun s i =>
        (List.range x.layers).foldl (fun s l => addBlock s k l (x.mapped + i)) s) s
      .done (kvSync (setSeq s k { seqOf s k with mapped := last + 1 }) x.tenant)
    else .lacks need

/-- Committed pages of a length (R187), without the level-one page. -/
def committedPages (layers tpp lc : Nat) : Nat :=
  let bc := (lc + tpp - 1) / tpp
  layers * bc + layers * ((bc + 4095) / 4096)

/-- Opens a context for a tenant and slot (R188): the level-one page is allocated and cleared, and the other committed pages
are reserved unless the tenant overcommits. `img` is the slot's image. -/
def openSeq (s : State) (k tenant slotNo lc deadline : Nat) (host : Bool) : Except Status State :=
  let img := (slot s slotNo).image
  let tl := imgTppLog2 img
  let layers := imgLayers img
  let above := rd s R.KVPG_TEN_SHARED_OVERCOMMIT 0 tenant = 1
  let set := (setOf s (slot s slotNo).weightBase).getD (0, 0)
  let rest := if above then 0 else committedPages layers (2 ^ tl) lc
  if layers ≠ 0 && 32768 < (lc + 2 ^ tl - 1) / 2 ^ tl then .error .lengthRange
  else if (seqOf s k).st ≠ 0 then .error .seqState
  else if tenState s tenant = 2 then .error .tenantRetiring
  else
    match takeSplit s tenant (rest + 1) with
    | none => .error .admitPages
    | some (own, sh) =>
      if freeFrames s set.1 set.2 < rest + 1 + reservedIn s set.1 set.2 then .error .admitPages
      else
        let s := setSeq s k
          { st := 1, overcommit := above, host := host, tenant := tenant, slot := slotNo, tppLog2 := tl, layers := layers,
            commitLen := lc, resvOwn := own, resvShared := sh, deadline := deadline, setFirst := set.1, setLen := set.2 }
        let (s, f) := allocFrame s k
        let s := memZero s (frameAddr s f) 16384
        .ok (kvSync (setSeq s k { seqOf s k with l1 := f }) tenant)

/-- Releases every frame of a sequence and its reserved pages (R197); a retiring tenant's frames are handed to the
retirement procedure (R199). -/
def releaseSeq (s : State) (k : Nat) : State :=
  let x := seqOf s k
  let hand := tenState s x.tenant = 2
  let fs := s.kv.frames.map (fun e => (e.1, e.2.map (fun f =>
    if f.seq = k && !f.scrub then { f with scrub := true, handed := hand } else f)))
  let s := { s with kv := { s.kv with frames := fs } }
  let s := setSeq s k { x with st := 3, held := false, resvOwn := 0, resvShared := 0, growNeed := 0, growN := 0, parkTime := 0,
                               tables := [], map := [], closeOwed := false }
  kvSync (pfxOrphan s x.tenant k) x.tenant

/-- A close (R197); it waits while a copy reads the sequence (R196) and while a running launch holds it (R195). A context that
is FREE or CLOSING stays as it is. -/
def closeSeq (s : State) (k : Nat) : State :=
  let x := seqOf s k
  if x.st ≠ 1 && x.st ≠ 2 then s
  else if 0 < x.pins || x.held then setSeq s k { x with closeOwed := true } else releaseSeq s k

/-- A commit of `n` positions (R192). -/
def commitSeq (s : State) (k n : Nat) : Option State :=
  let x := seqOf s k
  if x.st = 1 && (x.layers = 0 || (x.writePos + n - 1) / 2 ^ x.tppLog2 < x.mapped) && x.writePos + n < 2 ^ 32 then
    some (setSeq s k { x with writePos := x.writePos + n })
  else none

/-- A rollback to position `p` (R193, R195). -/
def rollbackSeq (s : State) (k p : Nat) : Option State :=
  let x := seqOf s k
  if x.st = 1 && p ≤ x.writePos then some (setSeq s k { x with writePos := p }) else none

/-- A sequencer growth that lacks pages parks its sequence (R190). -/
def parkSeq (s : State) (k n need : Nat) : State :=
  let x := seqOf s k
  let s := setSeq s k { x with st := 2, growNeed := need, growN := n, parkTime := s.now, parkNo := s.kv.parks + 1 }
  let s := { s with kv := { s.kv with parks := s.kv.parks + 1 } }
  kvSync (irqEvent (incSat s R.KVPG_PARK_CNT) 11 0 Irq.KVPG_PARK x.tenant [k, need]) x.tenant

/-- Parked sequences of a tenant, in queue order (R191). -/
def insertPark (e : Nat × Seq) : List (Nat × Seq) → List (Nat × Seq)
  | [] => [e]
  | a :: r => if e.2.parkNo < a.2.parkNo then e :: a :: r else a :: insertPark e r
def parkQueue (s : State) : List (Nat × Seq) := (s.kv.seqs.filter (fun e => e.2.st = 2 && !s.twin.follow.contains e.1)).foldr insertPark []

/-! ### Sealed reads from host memory (R265 to R267) -/

/-- Segments of a bulk transfer (R265). -/
def segCount (n : Nat) : Nat := (n + 4095) / 4096

/-- A segment fails its authentication, or carries a wrong counter (R267). -/
def sealFailed (s : State) (replay : Bool) : State :=
  irqEvent (incSat s (if replay then R.HOST_SEAL_REPLAY_CNT else R.HOST_SEAL_FAIL_CNT)) 7 0 Irq.HOST_SEAL_FAIL 0 []

/-- A stream takes no counter past 2^48 − 1 (R266). -/
def sealExhausted (s : State) (t : Nat) : State := wr s R.HOST_TEN_SEAL_EXHAUSTED 1 0 t

/-- Why a sealed bulk read of `n` segments from counter `c` on cannot begin (R266). -/
def sealCheck (s : State) (t q c n : Nat) : Option Status :=
  if c ≤ streamCtr s t (streamWord 0 0 q) then some .sealReplay
  else if 2 ^ 48 ≤ c + n - 1 then some .sealExhausted else none

/-- Reads `n` sealed segments of the queue's host-to-device bulk stream for a tenant; `bad` is the first segment that fails
authentication. Answers the status with which the reading command fails (R266, R267). -/
def sealedIn (s : State) (t q c n : Nat) (bad : Option Nat) : State × Option Status :=
  match sealCheck s t q c n with
  | some .sealReplay => (sealFailed s true, some .sealReplay)
  | some st => (sealExhausted s t, some st)
  | none =>
    let w := streamWord 0 0 q
    match bad with
    | some i => if i < n then (sealFailed (if i = 0 then s else setStream s t w (c + i - 1)) false, some .sealAuth)
      else (setStream s t w (c + n - 1), none)
    | none => (setStream s t w (c + n - 1), none)

/-- The same for a command's own reads, which are plain unless the tenant seals. -/
def sealedRead (s : State) (t q c n : Nat) (bad : Option Nat) : State × Option Status :=
  if tenSeals s t then sealedIn s t q c n bad else (s, none)

/-! ### The serving sequencer (chapter 08) -/

def req (s : State) (i : Nat) : Option Req := tget none s.serv.reqs i
def setReq (s : State) (i : Nat) (x : Option Req) : State := { s with serv := { s.serv with reqs := tset none i x s.serv.reqs } }
def modReq (s : State) (i : Nat) (f : Req → Req) : State := setReq s i ((req s i).map f)
/-- Open requests in admission order. -/
def openReqs (s : State) : List (Nat × Req) :=
  s.serv.reqs.filterMap (fun e => match e.2 with | some x => if x.st = .waking then none else some (e.1, x) | none => none)
def work (s : State) (i : Nat) : Option Work := tget none s.serv.works i
def setWork (s : State) (i : Nat) (x : Option Work) : State := { s with serv := { s.serv with works := tset none i x s.serv.works } }
def modWork (s : State) (i : Nat) (f : Work → Work) : State := setWork s i ((work s i).map f)
def servSlot (s : State) (n : Nat) : ServSlot := tget {} s.serv.slots n
def setServSlot (s : State) (n : Nat) (x : ServSlot) : State := { s with serv := { s.serv with slots := tset {} n x s.serv.slots } }
def slotEnabled (s : State) (n : Nat) : Bool := rd s R.SERV_SLOT_CFG_ENABLE 0 n = 1
def slotFaulted (s : State) (n : Nat) : Bool := rd s R.SERV_SLOT_CFG_FAULTED 0 n = 1
def slotPaired (s : State) (n : Nat) : Bool := rd s R.SERV_SLOT_CFG_SPEC_EN 0 n = 1
def draftSlotOf (s : State) (n : Nat) : Nat := rd s R.SERV_SLOT_CFG_DRAFT_SLOT 0 n
def specLen (s : State) (n : Nat) : Nat := rd s R.SERV_SLOT_CFG_SPEC_LEN 0 n
/-- Serving partition of a slot. -/
def servPart (s : State) (n : Nat) : Nat := rd s R.SERV_SLOT_CFG_PARTITION 0 n
def chunkOf (s : State) (n : Nat) : Nat := rd s R.SERV_SLOT_SIZE_CHUNK 0 n
/-- Bucket bounds of a slot; they are held by slot × 16 + bucket. -/
def bucketBound (s : State) (n b : Nat) : Nat := rd s R.SERV_BUCKET_BOUND 0 (16 * n + b)
def bucketsUsed (s : State) (n : Nat) : List Nat := (List.range 16).filter (fun b => bucketBound s n b ≠ 0)

/-- A mirrored partition of a unit that is active, or standby; while a divergence is tested the role is the one before it
(R345, R358). -/
def twinRole (s : State) : Nat :=
  let st := rd s R.TWIN_STAT_STATE
  if st = 3 then s.twin.role else if st = 1 || st = 2 then st else 0
def mirrored (s : State) (p : Nat) : Bool := rd s R.TWIN_PARTS / 2 ^ p % 2 = 1
def twinPart (s : State) (p : Nat) : TwinPart := tget {} s.twin.parts p
def setTwinPart (s : State) (p : Nat) (x : TwinPart) : State := { s with twin := { s.twin with parts := tset {} p x s.twin.parts } }
/-- The active sends the standby a serving action in a mirrored slot (R348): 1 admission (slot, tenant, L_C and context, then
whether a draft context opens, its slot, L_C and context), 2 growth (context, positions, WRITE_POS, and for a prefix hit the
source and its blocks), 3 rollback, 4 park, 5 close, 6 request end. -/
def servAction (s : State) (n : Nat) (what : List Nat) : State :=
  if twinRole s = 1 && mirrored s (servPart s n) then sendOn s 6 3 (.mirror what) else s

/-- A tenant's budget level brought up to the present (R211). -/
def budgetNow (s : State) (t : Nat) : Budget :=
  let b := tget {} s.serv.budget t
  let cap : Int := 16 * rd s R.SERV_TEN_BURST 0 t
  let u := (s.now - b.time) * rd s R.SERV_TEN_RATE 0 t * 16 + b.rest
  if cap ≤ b.level then { level := b.level, time := s.now, rest := 0 }
  else if cap ≤ b.level + u / 1000000000 then { level := cap, time := s.now, rest := 0 }
  else { level := b.level + u / 1000000000, time := s.now, rest := u % 1000000000 }

/-- Sets a level, which never falls below −2^31 tokens, and shows it in whole tokens (R211). -/
def setBudget (s : State) (t : Nat) (b : Budget) : State :=
  let l := max (-(2 ^ 35)) b.level
  wr { s with serv := { s.serv with budget := tset {} t { b with level := l } s.serv.budget } }
    R.SERV_TEN_LEVEL (codeInt 32 (l / 16)) 0 t

/-- Moves a level by `d` sixteenths of a token. -/
def chargeBudget (s : State) (t : Nat) (d : Int) : State :=
  let b := budgetNow s t
  setBudget s t { b with level := b.level + d }

/-- Prompt charge in tokens (R211). -/
def promptCharge (s : State) (t n : Nat) : Nat := (n * rd s R.SERV_TEN_WEIGHT 0 t + 15) / 16

/-- One write of a delivery (R204, R268): its own segment of the context's stream for a tenant that seals. -/
def deliverWrite (s : State) (x : Req) (a tagAddr : Nat) (bs : List Byte) : State := towardsHost s x.tenant 3 x.seq a tagAddr bs
/-- Where the tag records of a delivery lie (R265). -/
def tagBase (x : Req) : Nat := (x.outAddr + 16 + 8 * x.outCap + 63) / 64 * 64

/-- The output header (R203). -/
def outHeader (x : Req) (ended : Option Status) : List Byte :=
  leBytes 4 x.delivered ++ leBytes 2 (match ended with | some st => statusValue st | none => 0) ++
  leBytes 1 (if ended.isSome then 1 else 0) ++ leBytes 1 0 ++ leBytes 4 x.hit ++ leBytes 4 0

/-- Tokens up to the one that ends the request (R215): EOS, or the MAX_LEN-th; and whether one of them does. -/
def cutTokens (x : Req) : Nat → List (Nat × Bool) → List (Nat × Bool) × Bool
  | _, [] => ([], false)
  | n, (t, d) :: r =>
    if n + 1 = x.maxLen || (x.eos ≠ 0xFFFFFFFF && t = x.eos) then ([(t, d)], true)
    else let (l, e) := cutTokens x (n + 1) r; ((t, d) :: l, e)

/-- Delivers tokens of a request and, where `endSt` or its last token says so, its end (R204, R215): the token entries, then the
header with DELIVERED, then the end bytes, then the signal counter. Tokens are charged (R211). On its end the request's
contexts close and a waiting CANCEL completes (R224, R228). `quiet` writes nothing towards the host. -/
def deliver (s : State) (i : Nat) (toks : List (Nat × Bool)) (late : Bool) (endSt : Option Status) (quiet : Bool := false) :
    State :=
  match req s i with
  | none => s
  | some x =>
    let (l, fin) := cutTokens x x.delivered toks
    let ended := if fin then some .ok else endSt
    let x' := { x with delivered := x.delivered + l.length, last := ((l.getLast?).map Prod.fst).getD x.last,
                       late := x.late || late, st := if x.st = .prefill && !l.isEmpty then .generate else x.st }
    let z := tagBase x
    let s := if quiet then s else
      (l.zipIdx).foldl (fun s e =>
        let n := x.delivered + e.2
        deliverWrite s x (x.outAddr + 16 + 8 * n) (z + 32 * n)
          (leBytes 4 e.1.1 ++ leBytes 1 ((if late || x.late then 1 else 0) + (if x.atRisk then 2 else 0) +
            (if e.1.2 then 4 else 0)) ++ leBytes 3 0)) s
    let s := if quiet || (l.isEmpty && ended.isNone) then s
      else deliverWrite s x x.outAddr (z + 32 * x.outCap) (outHeader x' none)
    let s := if late && !l.isEmpty then irqEvent (addSat s R.SERV_LATE_CNT l.length) 10 0 Irq.SERV_LATE x.tenant [x.slot, x.seq] else s
    let s := match ended with
      | some st =>
        if quiet then s
        else if tenSeals s x.tenant then deliverWrite s x x.outAddr (z + 32 * x.outCap) (outHeader x' (some st))
        else deliverWrite s x (x.outAddr + 4) 0 (leBytes 2 (statusValue st) ++ leBytes 1 1 ++ leBytes 1 0)
      | none => s
    let s := if x.signalEn && !quiet && (!l.isEmpty || ended.isSome) then
        signalUpdate s x.tenant x.signal true ((if ended.isSome then 2 ^ 32 else 0) + x'.delivered) else s
    let s := if l.isEmpty then s else chargeBudget s x.tenant (-(16 * l.length))
    let s := if !l.isEmpty && x.delivered = 0 then
        metricSample (useFree s) (153 + servPart s x.slot) (nearest s 0 (s.now - x.admitted) 1000 : Nat) else s
    match ended with
    | none => setReq s i (some x')
    | some _ =>
      let s := closeSeq s x.seq
      let s := if x.spec then closeSeq s x.draftSeq else s
      let s := setReq s i none
      let s := x.cancels.foldl (fun s q => finishCmd s q .ok 0 (if fin then 4 else 0)) s
      servAction s x.slot [6, x.seq, statusValue (ended.getD .ok), b2n x.spec, x.draftSeq]

/-- Ends a request with a status (R224). -/
def endReq (s : State) (i : Nat) (st : Status) (quiet : Bool := false) : State := deliver s i [] false (some st) quiet

/-- Marks a slot faulted; every open request of the slot, and of the slots it drafts for, ends (R214, R227). -/
def faultSlot (s : State) (n : Nat) (st : Status) : State :=
  let s := irqEvent (wr s R.SERV_SLOT_CFG_FAULTED 1 0 n) 10 0 Irq.SERV_SLOT_FAULT (slot s n).tenant [n, statusValue st]
  let s := setServSlot s n { servSlot s n with reload := none }
  ((openReqs s).filter (fun e => e.2.slot = n)).foldl (fun s e => endReq s e.1 st) s

/-- Variants of a slot of a kind for a bucket, with their numbers. -/
def bucketVariants (s : State) (n kind b : Nat) : List (Nat × Variant) :=
  let img := (slot s n).image
  ((imgVariantList img).zipIdx.map (fun e => (e.2, e.1))).filter (fun e => e.2.kind = kind && e.2.bucket = b)

/-- Preload and launch overhead of a slot, O of R208. -/
def overhead (s : State) (n : Nat) : Frac :=
  let img := (slot s n).image
  frAdd (preloadBound (imgCells img).length (4 * (imgMemcs img).length)) ⟨rd s R.SERV_OVH_LAUNCH * 100, 1⟩

/-- Promise pace that the sequencer takes for a partition. A mirrored partition takes the lower of its own and the standby's
report (R350). -/
def servPace (s : State) (p : Nat) : Nat :=
  let own := promisePace s p
  let peer := (tget {} s.twin.parts p).peerPace
  if rd s R.TWIN_STAT_STATE = 1 && rd s R.TWIN_PARTS / 2 ^ p % 2 = 1 && peer ≠ 0 then min own peer else own

/-- Largest launch bound among the variants of a kind for a bucket. -/
def kindBound (s : State) (n kind b p : Nat) : Frac :=
  (bucketVariants s n kind b).foldl (fun m e => frMax m (launchBound s e.2.steps (servPace s p))) ⟨0, 1⟩

/-- Kinds served, by their place in a cycle (R212): 0 target PREFILL, 1 draft PREFILL, 2 DECODE, 3 DRAFT, 4 VERIFY; the KIND of
the variant (R127). -/
def variantKind : Nat → Nat
  | 0 => 0 | 1 => 0 | 2 => 1 | 3 => 2 | _ => 3
/-- The slot that a kind of launch runs on, and its partition. -/
def kindSlot (s : State) (n k : Nat) : Nat := if k = 1 || k = 3 then draftSlotOf s n else n
def kindPart (s : State) (n k : Nat) : Nat := servPart s (kindSlot s n k)

/-- The cycle bound C of a slot in ns (R208). -/
def cycleBound (s : State) (n : Nat) : Frac :=
  let ks := if slotPaired s n then [0, 2, 1, 3, 4] else [0, 2]
  ks.foldl (fun c k =>
    (bucketsUsed s n).foldl (fun c b =>
      frAdd c (frAdd (kindBound s (kindSlot s n k) (variantKind k) b (kindPart s n k)) (overhead s (kindSlot s n k)))) c) ⟨0, 1⟩

/-- The cycle bound as SERV_SLOT_CYCLE shows it, in units of 10 ns. -/
def showCycle (s : State) (n : Nat) : State :=
  let c := cycleBound s n
  wr s R.SERV_SLOT_CYCLE (min (c.num / (10 * c.den)) 0xFFFFFFFF) 0 n

/-- The predicted finish F of a request at the present time (R208). -/
def predict (s : State) (n promptLen maxLen : Nat) : Frac :=
  let running := match (part s (servPart s n)).running with
    | some r => frAdd ⟨r.bound, max r.boundDen 1⟩ (overhead s r.desc.slot)
    | none => ⟨0, 1⟩
  let ch := max (chunkOf s n) 1
  frAdd (frAdd ⟨s.now + rd s R.SERV_OVH_FIXED * 100, 1⟩ running)
    (frMul ((promptLen + ch - 1) / ch + maxLen) (cycleBound s n))

/-! ### Twin modules (chapter 14) -/

/-- Shows a cause of R358. -/
def twinCause (s : State) (c : Nat) : State := wr s R.TWIN_STAT_CAUSE c
def twinState (s : State) : Nat := rd s R.TWIN_STAT_STATE
def setTwinState (s : State) (v : Nat) : State := wr s R.TWIN_STAT_STATE v
/-- Sends a message to the twin over `WAG[6]` on channel 3 (R348). -/
def sendTwin (s : State) (m : Msg) : State := sendOn s 6 3 m
/-- The standby closes the sequences it followed (R357, R358). -/
def closeFollowed (s : State) : State :=
  s.twin.follow.foldl closeSeq { s with twin := { s.twin with follow := [] } }
/-- Mirroring ends: nothing of it is kept. -/
def twinReset (s : State) : State := { s with twin := { s.twin with parts := [], follow := [], test := none, left := false, drop := [] } }

/-- The standby's launch was refused: the pair breaks (R354, R358). No self-test runs. -/
def twinRefused (s : State) : State :=
  if twinRole s = 2 then
    let s := irqEvent (twinCause s 4) 16 0 Irq.TWIN_BROKEN 0 []
    sendTwin (setTwinState { s with twin := { s.twin with test := none } } 4) (.twinControl 5 [])
  else s

/-- Open requests of mirrored slots, by number. -/
def mirroredReqs (s : State) : List Nat :=
  (s.serv.reqs.filter (fun e => match e.2 with | some x => mirrored s (servPart s x.slot) | none => false)).map Prod.fst

/-- Some mirrored partition has a launch running or waiting, or a slot served in one has an open request (R346, R358). -/
def mirrorBusy (s : State) : Bool :=
  s.comb.parts.any (fun e => mirrored s e.1 && (e.2.running.isSome || !e.2.queue.isEmpty)) || !(mirroredReqs s).isEmpty

/-- The active role moves here (R357, R358). -/
def becomeActive (s : State) : State :=
  setTwinState (incSat (irqEvent (closeFollowed s) 16 0 Irq.TWIN_FAILOVER 0 []) R.TWIN_FAILOVER_CNT) 1

/-- Applies a verdict of R356 on this unit: 2 UNDETERMINED, 3 STANDBY_FAILED, 4 ACTIVE_FAILED, 5 BOTH_FAILED. On the old active a
fail-over ends each open request of a mirrored slot (R357). -/
def applyVerdict (s : State) (v : Nat) : State :=
  if twinState s ≠ 3 then s
  else
    let role := s.twin.role
    let s := wr s R.TWIN_STAT_VERDICT v
    let s := match s.twin.test with
      | some t => setTwinPart s t.part { twinPart s t.part with stop := false }
      | none => s
    let s := { s with twin := { s.twin with test := none } }
    match v with
    | 2 => setTwinState (irqEvent s 16 0 Irq.TWIN_UNDETERMINED 0 []) role
    | 4 =>
      if role = 1 then
        let s := (mirroredReqs s).foldl (fun s i => endReq s i .twinFailover) s
        setTwinState (incSat (irqEvent s 16 0 Irq.TWIN_FAILOVER 0 []) R.TWIN_FAILOVER_CNT) 5
      else becomeActive s
    | _ => if role = 1 then setTwinState s 0 else setTwinState s 5

/-- PACE messages go out for the mirrored partitions whose lowest promise pace has changed since the last one (R348). -/
def tellPace (s : State) : State :=
  if twinRole s = 0 then s
  else
    let l := ((List.range 64).filter (fun p => mirrored s p && (twinPart s p).toldPace ≠ promisePace s p)).map
      (fun p => (p, promisePace s p))
    if l.isEmpty then s
    else sendTwin (l.foldl (fun s e => setTwinPart s e.1 { twinPart s e.1 with toldPace := e.2 }) s) (.paceReport l)

/-! ### Launches (R141 to R150) -/

/-- The variant that a descriptor names. -/
def descVariant (s : State) (d : LaunchDesc) : Variant := variantAt (slot s d.slot).image d.variant
/-- STEPS_DECLARED of a refused launch's record (R150). -/
def declaredSteps (s : State) (d : LaunchDesc) : Nat :=
  if (slot s d.slot).st = .ready && d.variant < imgVariants (slot s d.slot).image then (descVariant s d).steps else 0

/-- The 64 bytes of a launch record (R150). -/
def launchRecord (d : LaunchDesc) (st : Status) (overBound resSet : Bool) (waits done decl retries retrySteps start fin minProm low
    fcell faddr empty : Nat) : List Byte :=
  leBytes 2 (statusValue st) ++ leBytes 2 (b2n overBound + 2 * b2n resSet + 4 * min waits 0x3FFF) ++ leBytes 2 d.variant ++
  leBytes 1 d.slot ++ leBytes 1 d.partition ++ leBytes 8 done ++ leBytes 8 decl ++ leBytes 4 (min retries 0xFFFFFFFF) ++
  leBytes 4 (min retrySteps 0xFFFFFFFF) ++ leBytes 8 start ++ leBytes 8 fin ++ leBytes 2 minProm ++ leBytes 2 low ++
  leBytes 1 fcell ++ leBytes 1 0 ++ leBytes 2 faddr ++ leBytes 4 empty ++ leBytes 4 d.tag

/-- The queue still runs the LAUNCH command of that CID. -/
def launchWaits (s : State) (q cid : Nat) : Bool :=
  match (queue s q).run with
  | some r => r.busy && runOp r = 7 && runCid r = cid
  | none => false

/-- A launch is refused (R143): its record, unless it was refused at order 0, then its issuer. The serving sequencer marks the
slot faulted for every status but RESIDENT_STALE (R214). -/
def refuseLaunch (s : State) (d : LaunchDesc) (src : LaunchSrc) (st : Status) (rec : Bool) : State :=
  let s := if rec then memWrite s d.recordAddr (launchRecord d st false false 0 0 (declaredSteps s d) 0 0 s.now s.now
      (promisePace s d.partition) 0 255 0 0) else s
  match src with
  | .direct q cid => if launchWaits s q cid then finishCmd s q st 0 else s
  | .serving w =>
    match work s w with
    | none => s
    | some x =>
      if st = .residentStale then setWork s w (some { x with refused := some st, done := true })
      else
        let s := setServSlot (setWork s w none) x.slot { servSlot s x.slot with flight := none }
        faultSlot s x.slot st
  | .mirror => twinRefused s

/-- A quad has a dark cell or lies on a die with a failed router, or has a dark pipe (R86, R87). -/
def darkCells (s : State) (q : Nat) : Bool :=
  s.comb.routerBad.contains (q / 16) || [0, 1, 2, 3].any (fun r => (cellPhys s (4 * q + r)).isNone)
def darkPipe (s : State) (q : Nat) : Bool := (pipePhys s q).isNone

/-- The partition holds every quad, controller and seam lane that a variant of an image uses (order 6 of R143). -/
def partHolds (s : State) (p : Nat) (img : List Byte) (lanes : List Nat) : Bool :=
  (imgQuads img).all (fun q => quadPart s q = p) &&
  (imgMemcs img).all (fun m => rd s R.MEMC_PART_PARTITION m = p) &&
  lanes.all (fun l => rd s R.SEAM_LANE (l / 60) (l % 60) = p)

/-- Plan class (R85): no die of the plan has a tier above the plan's. -/
def classOk (s : State) (img : List Byte) : Bool :=
  (imgQuads img).all (fun q =>
    rd s R.DIE_PLAN_CLASS_CLASS 4 / 4 ^ (q / 16) % 4 ≤ imgClass img / 4 ^ (q / 16) % 4)

/-- Interleave sets that are present and whose controllers all lie in a mask. -/
def maskSets (s : State) (mask : Nat) : List (Nat × Nat) :=
  (setList (rd s R.MEM_SET_MAP)).filter (fun p => setPresent s p && (List.range p.2).all (fun j => mask / 2 ^ (p.1 + j) % 2 = 1))

/-- `n` bytes from `a` lie on controllers of a mask. -/
def onMask (s : State) (a n mask : Nat) : Bool :=
  (extentsOf a n).all (fun e => match setOf s (e * 2 ^ 26) with
    | some p => (maskSets s mask).contains p
    | none => false)

/-- A launch of a draft slot by the sequencer: it uses the I/O region of its target slot, which lies on the target's
controllers (R206). -/
def draftLaunch (s : State) (src : LaunchSrc) : Bool :=
  match src with
  | .serving w => (match work s w with | some x => x.draft | none => false)
  | _ => false

/-- The start checks of R143 in order: the status of the first failure, and whether a record is written for it. The I/O region
and SEQ_LIST of a draft launch lie on the target's controllers (R206), and order 10 asks no controller and no place of them. -/
def startCheck (s : State) (p : Nat) (d : LaunchDesc) (src : LaunchSrc) : Option (Status × Bool) :=
  let sl := slot s d.slot
  let img := sl.image
  let va := descVariant s d
  let direct := match src with | .direct _ _ => true | _ => false
  if d.recordAddr % 64 ≠ 0 then some (.lengthRange, false)
  else
    match accessFail s d.tenant d.recordAddr 64 with
    | some st => some (st, false)
    | none =>
      if sl.st = .ready && (imgVariants img ≤ d.variant || d.batch < 1 || va.batch < d.batch) then some (.lengthRange, true)
      else if sl.st ≠ .ready then some (.slotState, true)
      else if sl.tenant ≠ d.tenant then some (.tenantMismatch, true)
      else if !tenActive s d.tenant then some (.tenantRetiring, true)
      else if direct && fastLane s p then some (.fastLaneOnly, true)
      else if !partHolds s p img (variantLanes img d.variant) then some (.partitionMismatch, true)
      else if (imgQuads img).any (fun q => darkCells s q || (imgAttn img = 2 && darkPipe s q)) then some (.quadDark, true)
      else if !classOk s img then some (.planClassMismatch, true)
      else if imgPace img < promisePace s p then some (.planPace, true)
      else if !owned s d.tenant d.scratchBase (imgScratchLen img) || !owned s d.tenant d.ioBase (imgIoLen img) ||
          !owned s d.tenant d.seqList (2 * d.batch) || !onMask s d.scratchBase (imgScratchLen img) (imgMemcMask img) ||
          (!draftLaunch s src &&
            (!onMask s d.ioBase (imgIoLen img) (imgMemcMask img) || !onMask s d.seqList (2 * d.batch) (imgMemcMask img))) then
        some (.planCapacity, true)
      else if [(1, d.scratchBase, imgScratchLen img), (2, d.ioBase, imgIoLen img)].any (fun x =>
          x.2.2 ≠ 0 && !(x.1 = 2 && draftLaunch s src) && (match placedSet s x.2.1 x.2.2 (imgMemcMask img) with
            | some t => !(keptSets img (maskSets s (imgMemcMask img)) x.1).contains t
            | none => true)) then some (.planPlacement, true)
      else if va.needsRes && (part s p).resident ≠ some d.slot then some (.residentStale, true)
      else none

/-- Captures the batch rows of a launch (R183): every row that is not a padding row sets HELD on its sequence; the others are
counted. -/
def captureRows (s : State) (d : LaunchDesc) : List Nat → State × List CapRow
  | [] => (s, [])
  | k :: r =>
    let x := seqOf s k
    let ok := x.st = 1 && x.tenant = d.tenant && x.slot = d.slot && !x.held
    let s := if ok then setSeq s k { x with held := true } else incSat s R.KVPG_ROWS_PADDED
    let row : CapRow := { seq := k, writePos := x.writePos, tppLog2 := x.tppLog2, pad := !ok, map := if ok then x.map else [] }
    let (s, rows) := captureRows s d r
    (s, row :: rows)

/-- Contexts named by a launch's SEQ_LIST (R141). -/
def seqListOf (s : State) (d : LaunchDesc) : List Nat := (List.range d.batch).map (fun i => memNat s (d.seqList + 2 * i) 2)

/-- The controllers of a plan are held, or let go. -/
def holdMemcs (s : State) (img : List Byte) (v : Nat) : State := (imgMemcs img).foldl (fun s m => wr s R.MEMC_STAT_HELD v m) s
/-- CELL_STAT.BUSY of the cells of a partition. -/
def busyCells (s : State) (p v : Nat) : State :=
  (partCells s p).foldl (fun s c => match cellPhys s c with | some n => wr s R.CELL_STAT_BUSY v n | none => s) s

/-- A launch starts (R143, R144): residency of another slot ends (R149), rows are captured, and the preload begins. -/
def startLaunch (s : State) (p : Nat) (q : QLaunch) : State :=
  let d := q.desc
  let img := (slot s d.slot).image
  let s := if (part s p).resident = some d.slot then s else clearResident s p
  let ctxs := match q.src with | .direct _ _ => seqListOf s d | _ => q.ctxs
  let (s, rows) := if imgLayers img = 0 then (s, []) else captureRows s d ctxs
  let b := launchBound s (descVariant s d).steps (promisePace s p)
  let s := busyCells (holdMemcs s img 1) p 1
  let s := (imgCells img).foldl (fun s c => setCell s c { cell s c with
    ringIdx := [], ring := [], matFree := 0, vecFree := 0, sfuFree := 0, mov0 := 0, mov1 := 0, next := 0, ended := false,
    pend := [] }) s
  let s := if imgAttn img = 2 then (imgQuads img).foldl (fun s c => setPipe s c {}) s else s
  let s := { s with sec := { s.sec with ran := ((p, d.tenant) :: s.sec.ran).eraseDups } }
  setPart s p { part s p with running := some { desc := d, src := q.src, bound := b.num, boundDen := b.den,
                                                minProm := promisePace s p, rows := rows, serial := q.serial, ctxs := ctxs } }

/-- The image copy is erased and the slot becomes EMPTY; every UNLOAD_PLAN that waits completes OK (R140). -/
def emptySlot (s : State) (n : Nat) : State :=
  let x := slot s n
  let s := memZero s (imageBase x.image x.weightBase) x.image.length
  x.unloads.foldl (fun s q => finishCmd s q .ok 0) (setSlot s n {})

/-- A launch of the slot runs. -/
def slotRuns (s : State) (n : Nat) : Bool :=
  s.comb.parts.any (fun e => match e.2.running with | some r => r.desc.slot = n | none => false)

/-- Queued launches of a slot are refused, in order (R140). -/
def refuseQueued (s : State) (n : Nat) (st : Status) : State :=
  (s.comb.parts.map Prod.fst).foldl (fun s p =>
    let l := (part s p).queue.filter (fun q => q.desc.slot = n)
    let s := setPart s p { part s p with queue := (part s p).queue.filter (fun q => q.desc.slot ≠ n) }
    l.foldl (fun s q => refuseLaunch s q.desc q.src st true) s) s

/-- UNLOAD_PLAN on a READY slot (R140). -/
def unloadReady (s : State) (n q : Nat) : State :=
  let s := setSlot s n { slot s n with unloads := (slot s n).unloads ++ [q] }
  if slotRuns s n then refuseQueued (setSlot s n { slot s n with st := .draining }) n .slotState
  else emptySlot (refuseQueued s n .slotState) n

/-- A launch that waits in a partition's stream is issued to it (R142). -/
def issueLaunch (s : State) (p : Nat) (q : QLaunch) : State := setPart s p { part s p with queue := (part s p).queue ++ [q] }

/-! ### Self-tests, remap and divergence (R86 to R92, R176, R355) -/

def testBit (isPipe : Bool) : Fld := if isPipe then R.APIPE_STAT_TESTING else R.CELL_STAT_TESTING
def mapState (isPipe : Bool) : Fld := if isPipe then R.APIPE_MAP_STATE else R.CELL_MAP_STATE
def mapLogical (isPipe : Bool) : Fld := if isPipe then R.APIPE_MAP_LOGICAL else R.CELL_MAP_LOGICAL
def underTest (s : State) (isPipe : Bool) (n : Nat) : Bool := rd s (testBit isPipe) n = 1

/-- The logical cell or pipe that a physical one holds (R91). -/
def logicalOf (s : State) (isPipe : Bool) (n : Nat) : Option Nat :=
  if rd s (mapState isPipe) n % 2 = 0 then
    let l := rd s (mapLogical isPipe) n
    if l < (if isPipe then 64 else 256) then some l else none
  else none

/-- Partition of the logical quad whose cell or pipe a physical one holds, if it has one. -/
def unitPart (s : State) (isPipe : Bool) (n : Nat) : Option Nat :=
  match logicalOf s isPipe n with
  | some l =>
    let p := quadPart s (if isPipe then l else l / 4)
    if p < 64 then some p else none
  | none => none

/-- Die of a physical cell or pipe. -/
def unitDie (isPipe : Bool) (n : Nat) : Nat := if isPipe then n / 17 else n / 68
/-- Its power domain (R391). -/
def unitDomain (isPipe : Bool) (n : Nat) : Nat := if isPipe then 272 + n else n
def unitPage (isPipe : Bool) : Nat := if isPipe then 1 else 0

/-- A self-test touches a cell: its partition's residency mark is cleared (R149). -/
def touchResident (s : State) (isPipe : Bool) (n : Nat) : State :=
  match unitPart s isPipe n with
  | some p => if isPipe then s else clearResident s p
  | none => s

/-- A self-test begins (R88, R176). -/
def startTest (s : State) (isPipe : Bool) (n : Nat) : State :=
  if rd s (mapState isPipe) n = 3 then s else touchResident (wr s (testBit isPipe) 1 n) isPipe n

/-- A self-test runs in a cell or pipe of a partition. -/
def partUnderTest (s : State) (p : Nat) : Bool :=
  (partQuads s p).any (fun q =>
    [0, 1, 2, 3].any (fun r => match cellPhys s (4 * q + r) with | some c => underTest s false c | none => false) ||
    (match pipePhys s q with | some c => underTest s true c | none => false))

/-- The quad pages of a die show which of its logical quads are dark (R86, R87), and its cells' retirement and stand-ins. -/
def showQuads (s : State) (d : Nat) : State :=
  let s := (List.range 16).foldl (fun s j =>
    let q := 16 * d + j
    wr s R.QUAD_PART_DARK (b2n (darkCells s q || darkPipe s q)) (quadHome q)) s
  let s := (List.range 17).foldl (fun s c =>
    let q := 17 * d + c
    let ret := (List.range 4).foldl (fun m r => m + (if rd s R.CELL_MAP_STATE (4 * q + r) = 3 then 2 ^ r else 0)) 0
    let sub := (List.range 4).foldl (fun m r =>
      m + (if c ≠ 8 && rd s R.CELL_MAP_STATE (cellSpare (4 * q + r)) = 2 &&
              rd s R.CELL_MAP_LOGICAL (cellSpare (4 * q + r)) = 64 * d + 4 * localColumnOf c + r then 2 ^ r else 0)) 0
    wr (wr (wr (wr s R.QUAD_REMAP_RETIRED ret q) R.QUAD_REMAP_STANDIN sub q) R.QUAD_APIPE_STATE
      (rd s R.APIPE_MAP_STATE q) q) R.QUAD_APIPE_LOGICAL (rd s R.APIPE_MAP_LOGICAL q) q) s
  wr s R.DIE_HOP_DARK_QUADS ((List.range 16).filter (fun j => rd s R.QUAD_PART_DARK (quadHome (16 * d + j)) = 1)).length d
where
  localColumnOf (c : Nat) : Nat := if c < 8 then c else c - 1

/-- Displacement of the stand-ins of a die (R84). -/
def dieDisplacement (s : State) (d : Nat) : Nat :=
  let cellDisp := (List.range 4).map (fun r =>
    let n := 68 * d + 32 + r
    if rd s R.CELL_MAP_STATE n = 2 then gap (homeColumn (rd s R.CELL_MAP_LOGICAL n % 64 / 4)) 8 else 0)
  let n := 17 * d + 8
  let p := if rd s R.APIPE_MAP_STATE n = 2 then gap (homeColumn (rd s R.APIPE_MAP_LOGICAL n % 16)) 8 else 0
  (p :: cellDisp).foldl max 0
def hopTier (x : Nat) : Nat := if x = 0 then 0 else if x ≤ 2 then 1 else if x ≤ 4 then 2 else 3

/-- Order 5 of R90: the die displacement, its tier and the plan class (R84, R85). -/
def recomputeClass (s : State) (d : Nat) : State :=
  let x := dieDisplacement s d
  let s := wr (wr (showQuads s d) R.DIE_HOP_DISPLACEMENT x d) R.DIE_HOP_TIER (hopTier x) d
  let c := (List.range 4).foldl (fun m e => m + 4 ^ e * rd s R.DIE_HOP_TIER e) 0
  if c = rd s R.DIE_PLAN_CLASS_CLASS 4 then s
  else irqEvent (incSat (wr s R.DIE_PLAN_CLASS_CLASS c 4) R.DIE_PLAN_CLASS_CHANGES 4) 6 4 Irq.DIE_CLASS_CHANGE 0 [c]

/-- A physical cell or pipe becomes RETIRED and is powered off (R91). -/
def retireUnit (s : State) (isPipe : Bool) (n : Nat) : State :=
  setDom (wr (wr s (mapState isPipe) 3 n) (mapLogical isPipe) (if isPipe then 0x7F else 0x1FF) n) (unitDomain isPipe n) 2

/-- Records of a retirement (R90). -/
def retireRecord (s : State) (isPipe : Bool) (n a b : Nat) : State :=
  recordEvent s (unitPage isPipe) n (if isPipe then 0x8003 else 0x8005) 2 0 [a, b]

def reasonCode : RetireReason → Nat
  | .margin => 0 | .storeErrors => 1 | .selfTest => 2 | .operator => 3 | .pipeResidue => 4

/-- The spare of a unit. -/
def spareOf (isPipe : Bool) (n : Nat) : Nat := if isPipe then pipeSpare n else cellSpare n

/-- Orders 4 to 6 of R90: a free spare that passed takes the logical number and its store holds 0, otherwise the quad goes
dark; the unit is retired, the class is recomputed, and the second record is written. -/
def carryOut (s : State) (isPipe : Bool) (n : Nat) (pass : Bool) : State :=
  let sp := spareOf isPipe n
  let l := logicalOf s isPipe n
  let p := unitPart s isPipe n
  let s := touchResident s isPipe n
  let s := retireUnit s isPipe n
  let took := pass && sp ≠ n && rd s (mapState isPipe) sp = 1
  let s := match l with
    | some l =>
      if took then
        let s := setDom (wr (wr s (mapState isPipe) 2 sp) (mapLogical isPipe) l sp) (unitDomain isPipe sp) 0
        if isPipe then s else setCell s l {}
      else s
    | none => s
  let s := copyRemap (recomputeClass s (unitDie isPipe n))
  let s := match p with
    | some p => setPart s p { part s p with held := false }
    | none => s
  let s := { s with comb := { s.comb with retire := s.comb.retire.filter (fun r => !(r.pipe = isPipe && r.num = n)) } }
  raiseIrq (retireRecord s isPipe n 1 (b2n (!took))) (unitPage isPipe) n (if isPipe then Irq.APIPE_RETIRED else Irq.CELL_RETIRED)

/-- A retirement request (R90, R91): a FREE spare is powered off at once; any other unit that is not RETIRED is queued. -/
def askRetire (s : State) (isPipe : Bool) (n : Nat) (why : RetireReason) : State :=
  if rd s (mapState isPipe) n = 3 then s
  else if rd s (mapState isPipe) n = 1 then copyRemap (recomputeClass (retireUnit s isPipe n) (unitDie isPipe n))
  else if s.comb.retire.any (fun r => r.pipe = isPipe && r.num = n) then s
  else { s with comb := { s.comb with retire := s.comb.retire ++ [{ pipe := isPipe, num := n, reason := why }] } }

/-- The self-tests of a divergence begin once its partition runs nothing (R355, orders 2 and 3). -/
def beginTwinTests (s : State) : State :=
  match s.twin.test with
  | some t =>
    if t.begun || partRunning s t.part then s
    else
      let s := { s with twin := { s.twin with test := some { t with begun := true } } }
      t.pipes.foldl (fun s n => startTest s true n) (t.cells.foldl (fun s n => startTest s false n) s)
  | none => s

/-- A divergence is declared (R355): order 1 on this unit. `cause` is 1 tensor, 2 token, 3 STANDBY_FAULT. -/
def declareDivergence (s : State) (p serial mark slotNo mis cause : Nat) : State :=
  if twinState s = 1 || twinState s = 2 then
    let role := twinState s
    let s := raiseIrq (statusEvent s 16 0 .twinDivergence 0 [p, serial, mark]) 16 0 Irq.TWIN_DIVERGENCE
    let s := wr (wr (wr (wr s R.TWIN_LAST_DIV_MARK_ID mark) R.TWIN_LAST_DIV_PARTITION p) R.TWIN_LAST_DIV_SLOT slotNo)
      R.TWIN_LAST_MIS mis
    let s := incSat (wr (twinCause s cause) R.TWIN_STAT_VERDICT 1) R.TWIN_DIV_CNT
    let s := setTwinPart s p { twinPart s p with stop := true }
    let s := if role = 2 then sendTwin s (.twinVerdict serial [p, mark, slotNo, mis, cause]) else s
    let img := (slot s slotNo).image
    let t : TwinTest := { part := p, cells := (partCells s p).filterMap (cellPhys s),
                          pipes := if imgAttn img = 2 then (partQuads s p).filterMap (pipePhys s) else [] }
    beginTwinTests (setTwinState { s with twin := { s.twin with role := role, test := some t } } 3)
  else s

/-- The verdict of R356 from the two results, `true` for a pass. -/
def verdictOf (active standby : Bool) : Nat := if active then (if standby then 2 else 3) else (if standby then 4 else 5)

/-- Order 4 of R355: a unit whose tests have all ended sends its result; the standby, once it has both, forms the verdict and
sends it. -/
def twinResults (s : State) : State :=
  match s.twin.test with
  | some t =>
    let ready := t.begun && t.cells.isEmpty && t.pipes.isEmpty && t.ownRes.isNone
    let s := if ready then
        sendTwin { s with twin := { s.twin with test := some { t with ownRes := some (!t.failed) } } }
          (.twinVerdict 0 [16 + b2n (!t.failed)])
      else s
    match s.twin.test with
    | some t =>
      match t.ownRes, t.peerRes with
      | some o, some e =>
        if s.twin.role = 2 then
          let v := verdictOf e o
          applyVerdict (sendTwin s (.twinVerdict 0 [32 + v])) v
        else s
      | _, _ => s
    | none => s
  | none => s

/-- A self-test of a cell or pipe has ended for the divergence in hand. -/
def twinTestDone (s : State) (isPipe : Bool) (n : Nat) (ok : Bool) : State :=
  match s.twin.test with
  | some t =>
    if t.begun && (if isPipe then t.pipes.contains n else t.cells.contains n) then
      twinResults { s with twin := { s.twin with test := some (if isPipe then { t with pipes := t.pipes.erase n, failed := t.failed || !ok }
        else { t with cells := t.cells.erase n, failed := t.failed || !ok }) } }
    else s
  | none => s

/-! ### Comparison (R352, R353) -/

/-- Binary64, in which tensors are compared. -/
def fFP64 : FloatFmt := ⟨11, 52, 1023, 0x7FEFFFFFFFFFFFFF, true, some 0x7FF8000000000000⟩
/-- Rounds a value once into binary64. -/
def round64 (v : Val) : Val := decodeFloat fFP64 (encodeFloat fFP64 none v)
def valAbs : Val → Val
  | .fin _ m e => .fin false m e
  | .inf _ => .inf false
  | v => v
def valNeg : Val → Val
  | .fin n m e => .fin (!n) m e
  | .inf n => .inf (!n)
  | v => v

/-- Elements of a tensor in memory layout (R104); none for an invalid T5 byte. -/
def tensorElems (fmt n : Nat) (bs : List Byte) : List (Option Val) :=
  if fmt = 14 then (List.range n).map (fun i => (t5Weight bs i).map intVal)
  else
    let sc := (packedLen fmt n + 63) / 64 * 64
    (List.range n).map (fun i =>
      let v := decodeElem fmt (unpackElem fmt bs i)
      some (if fmtIsMx fmt then scaleVal ((bs.drop (sc + i / 32)).headD 0).toNat v else v))

/-- Two elements mismatch under a profile's ABS and REL (R352). -/
def elemMismatch (ab re : Val) : Option Val → Option Val → Bool
  | some .nan, some .nan => false
  | some .nan, some _ => true
  | some _, some .nan => true
  | some (.inf a), some (.inf b) => a ≠ b
  | some (.inf _), some _ => true
  | some _, some (.inf _) => true
  | some a, some b =>
    let m := if valLt (valAbs a) (valAbs b) then valAbs b else valAbs a
    valLt (round64 (valAdd ab (round64 (valMul re m)))) (valAbs (round64 (valAdd a (valNeg b))))
  | _, _ => true

/-- Mismatches of a compare point, exempt positions, and its cause code: 1 tensor, 2 token (R352, R353). `a` and `b` are the two
copies of its bytes. -/
def comparePoint (s : State) (c : ComparePoint) (a b : List Byte) : Nat × Nat × Nat :=
  if c.tokens then
    let eps := fp32 (rd s R.TWIN_PROF_EPS 0 c.profile)
    let r := (List.range c.elements).map (fun i =>
      let ta := fieldAt a (8 * i) 4
      let tb := fieldAt b (8 * i) 4
      let exempt := valLt (fp32 (fieldAt a (8 * i + 4) 4)) eps || valLt (fp32 (fieldAt b (8 * i + 4) 4)) eps
      (exempt, decide (ta ≠ tb)))
    ((r.filter (fun x => !x.1 && x.2)).length, (r.filter (fun x => x.1)).length, 2)
  else
    let ab := fp32 (rd s R.TWIN_PROF_ABS 0 c.profile)
    let re := fp32 (rd s R.TWIN_PROF_REL 0 c.profile)
    (((List.zip (tensorElems c.fmt c.elements a) (tensorElems c.fmt c.elements b)).filter
      (fun x => elemMismatch ab re x.1 x.2)).length, 0, 1)

/-- The standby compares a point whose two copies it holds (R351 to R353). -/
def evaluatePoint (s : State) (p serial mark slotNo variant : Nat) (own peer : List Byte) : State :=
  match (comparesOf (slot s slotNo).image variant).find? (fun c => c.mark = mark) with
  | none => s
  | some c =>
    let (mis, ex, cause) := comparePoint s c own peer
    let s := addSat (incSat s R.TWIN_CMP_CNT) R.TWIN_EXEMPT_CNT ex
    if rd s R.TWIN_PROF_MAXMIS 0 c.profile < mis then declareDivergence s p serial mark slotNo mis cause else s

/-! ### Abandonment decided from outside (R147) -/

/-- The launch of a partition is to stop at the boundary of the step in progress; during the preload it stops before
step 0. -/
def abandonRunning (s : State) (p : Nat) (cause : Cause) (ty : Nat) : State :=
  match (part s p).running with
  | none => s
  | some r =>
    if r.stopped.isSome || r.ended then s
    else
      let st := match cause with | .dusk => Status.duskAbandon | .retire => .tenantRetiring | _ => .debugAbandon
      let s := recordEvent s ty 0 (statusValue st) (if statusHalts st then 3 else 2) r.desc.tenant [p, r.desc.slot]
      if r.begun then modRunning s p (fun r => { r with causes := r.causes ++ [cause] })
      else modRunning s p (fun r => { r with stopped := some st })
/-- Every running launch that meets a test stops so. -/
def abandonAll (s : State) (f : Running → Bool) (cause : Cause) (ty : Nat) : State :=
  s.comb.parts.foldl (fun s e => match e.2.running with
    | some r => if f r then abandonRunning s e.1 cause ty else s
    | none => s) s

/-! ### Video (chapter 17) -/

def vctx (s : State) (c : Nat) : VCtx := tget {} s.vid.ctxs c
def setVctx (s : State) (c : Nat) (x : VCtx) : State := { s with vid := { s.vid with ctxs := tset {} c x s.vid.ctxs } }
/-- Context states: 0 FREE, 1 OPEN, 2 CLOSING (R418). -/
def vctxState (s : State) (c : Nat) : Nat := rd s R.VID_CTX_STAT_STATE 0 c
def vctxTenant (s : State) (c : Nat) : Nat := rd s R.VID_CTX_STAT_TENANT 0 c
def vctxLive (s : State) (c : Nat) : Bool := rd s R.VID_CTX_STAT_LIVE 0 c = 1
def vctxEncode (s : State) (c : Nat) : Bool := rd s R.VID_CTX_STAT_ENCODE 0 c = 1
/-- Field of a context's parameter block (R420). -/
def vpar (s : State) (c a n : Nat) : Nat := fieldAt (vctx s c).block a n

/-- The 64 bytes of a result record (R422). -/
structure VidRecord where
  flags  : Nat := 0
  bytes  : Nat := 0
  damaged : Nat := 0
  steps  : Nat := 0
  width  : Nat := 0
  height : Nat := 0
  overspend : Nat := 0
  avgQp  : Nat := 0
  outs   : List (Nat × Nat) := []
  deriving DecidableEq, Repr

def vidRecord (st : Status) (r : VidRecord) : List Byte :=
  leBytes 2 (statusValue st) ++ leBytes 2 r.flags ++ leBytes 4 r.bytes ++ leBytes 4 r.damaged ++ leBytes 4 r.steps ++
  leBytes 2 r.width ++ leBytes 2 r.height ++ leBytes 4 r.overspend ++ leBytes 1 r.avgQp ++ leBytes 7 0 ++
  (List.range 4).flatMap (fun k => match r.outs[k]? with
    | some o => leBytes 1 o.1 ++ leBytes 3 0 ++ leBytes 4 o.2
    | none => leBytes 1 0xFF ++ leBytes 7 0)

/-- Writes a command's result record, then ends the command (R419, R422). `tagged` counts the tag records before it. -/
def endVideo (s : State) (q tenant result tagged : Nat) (st : Status) (r : VidRecord) : State :=
  let s := if result % 64 = 0 then towardsHost s tenant 0 q result (result + 64 + 32 * tagged) (vidRecord st r) else s
  finishCmd s q st 0

/-- Shows an engine idle. -/
def freeEngine (s : State) (v : Nat) : State :=
  wr (wr (wr s R.VID_STAT_CTX 0xFF v) R.VID_STAT_LIVE 0 v) R.VID_STAT_BUSY 0 v

/-- A context becomes FREE. -/
def freeVctx (s : State) (c : Nat) : State :=
  let s := setVctx s c {}
  [R.VID_CTX_STAT_STATE, R.VID_CTX_STAT_LIVE, R.VID_CTX_STAT_ENCODE, R.VID_CTX_STAT_STD, R.VID_CTX_STAT_ENGINES,
   R.VID_CTX_STAT_TENANT, R.VID_CTX_REF, R.VID_CTX_OUT].foldl (fun s f => wr s f 0 0 c) s

/-- A CLOSING context without a job in progress becomes FREE, and its close completes (R418). -/
def finishClose (s : State) (c : Nat) : State :=
  if vctxState s c = 2 && !(s.vid.jobs.any (fun j => j.ctx = c)) then
    let t := vctxTenant s c
    match (vctx s c).closing with
    | some (q, a) => endVideo (freeVctx s c) q t a 0 .ok {}
    | none => freeVctx s c
  else s

/-- A job ends: its engines are free, its record is written and its command completes. -/
def endJob (s : State) (j : VJob) (tagged : Nat) (st : Status) (r : VidRecord) : State :=
  let s := { s with vid := { s.vid with jobs := s.vid.jobs.filter (fun x => x.serial ≠ j.serial) } }
  let s := if j.st = 1 then j.engines.foldl freeEngine s
    else if j.st = 2 then j.engines.foldl (fun s v => wr s R.VID_STAT_PAUSED 0 v) s else s
  finishClose (endVideo s j.queue j.tenant j.result tagged st r) j.ctx

/-- Ends the jobs that a test names with a status. -/
def endJobs (s : State) (f : VJob → Bool) (st : Status) : State :=
  (s.vid.jobs.filter f).foldl (fun s j => endJob s j j.inSegs st {}) s

/-- A pre-processor job leaves. -/
def dropPre (s : State) (j : PreJob) : State :=
  let run := decide (s.vid.preRun = some j.serial)
  let s := { s with vid := { s.vid with pre := s.vid.pre.filter (fun x => x.serial ≠ j.serial)
                                        preRun := if run then none else s.vid.preRun } }
  if run then wr (wr s R.VPRE_STAT_BUSY 0) R.VPRE_STAT_TENANT 0 else s

/-- Ends pre-processor jobs that a test names with a status. -/
def endPres (s : State) (f : PreJob → Bool) (st : Status) : State :=
  (s.vid.pre.filter f).foldl (fun s j => finishCmd (dropPre s j) j.queue st 0) s

/-- Queued jobs of a retiring tenant fail (R382). -/
def retireVideo (s : State) (t : Nat) : State :=
  endPres (endJobs s (fun j => j.tenant = t && j.st = 0) .tenantRetiring) (fun j => j.tenant = t && s.vid.preRun ≠ some j.serial)
    .tenantRetiring
/-- Some job of the tenant has not ended. -/
def videoBusy (s : State) (t : Nat) : Bool := s.vid.jobs.any (fun j => j.tenant = t) || s.vid.pre.any (fun j => j.tenant = t)
/-- W has run out: running jobs of the tenant stop (R382). -/
def stopVideo (s : State) (t : Nat) : State :=
  endPres (endJobs s (fun j => j.tenant = t) .tenantRetiring) (fun j => j.tenant = t) .tenantRetiring
/-- At the drain fence every context of the tenant becomes FREE (R418). -/
def freeVideo (s : State) (t : Nat) : State :=
  (List.range 128).foldl (fun s c => if vctxState s c ≠ 0 && vctxTenant s c = t then freeVctx s c else s) s
/-- Running jobs stop at order 2 of dusk (R435). -/
def stopJobs (s : State) : State :=
  endPres (endJobs s (fun j => j.st ≠ 0) .duskAbandon) (fun j => s.vid.preRun = some j.serial) .duskAbandon
/-- An engine runs a job, or one that may run on it waits. -/
def engineBusy (s : State) (v : Nat) : Bool :=
  s.vid.jobs.any (fun j => j.engines.contains v || rd s R.VID_CTX_STAT_ENGINES 0 j.ctx / 2 ^ v % 2 = 1)
/-- No codec job exists. -/
def videoIdle (s : State) : Bool := s.vid.jobs.isEmpty && s.vid.pre.isEmpty
/-- Device ranges that contexts and jobs use (R238). -/
def videoRanges (s : State) : List (Nat × Nat) :=
  ((List.range 128).flatMap (fun c => if vctxState s c = 0 then [] else
    [(vpar s c 8 8, vpar s c 16 4 * (vpar s c 3 1 % 128)), (vpar s c 24 8, vpar s c 20 4), (vpar s c 32 8, 2 ^ 20)])) ++
  (s.vid.jobs.flatMap (fun j => if j.encode && j.op = 1 then [(j.src, vpar s j.ctx 16 4)] else [])) ++
  (s.vid.pre.flatMap (fun j =>
    [(fieldAt j.entry 32 8, fieldAt j.entry 24 4 * ((fieldAt j.entry 22 2 + 63) / 64 * 64) * 3 / 2),
     (fieldAt j.entry 40 8, 8 * (fieldAt j.entry 19 1 % 32)), (fieldAt j.entry 56 8, 24),
     (fieldAt j.entry 48 8, 12 * (fieldAt j.entry 19 1 % 32) * fieldAt j.entry 28 2 * fieldAt j.entry 30 2)]))

/-! ### Use of extents (R238) -/

/-- Two ranges of bytes meet. -/
def meets (a n b m : Nat) : Bool := 0 < n && 0 < m && a < b + m && b < a + n

/-- Device ranges of a bulk transfer: none for the host's side. -/
def xferRanges (x : Xfer) : List (Nat × Nat) :=
  if x.kind = 1 || x.op = 0 then [(x.dst, x.length)]
  else if x.op = 1 then [(x.src, x.length)] else [(x.src, x.length), (x.dst, x.length)]

/-- Device ranges that transfers, PEER_COPY commands and incoming copies use. -/
def transferRanges (s : State) : List (Nat × Nat) :=
  (s.host.engines.flatMap (fun e => e.2.flatMap xferRanges)) ++
  (s.host.queues.filterMap (fun e => match e.2.run with
    | some r => if r.busy && runOp r = 8 then some (arg r 24 8, arg r 20 4) else none
    | none => none)) ++
  s.wag.copies.map (fun c => (c.addr, c.left))

/-- Regions of a launch's descriptor. -/
def launchRanges (s : State) (d : LaunchDesc) : List (Nat × Nat) :=
  let img := (slot s d.slot).image
  [(d.scratchBase, imgScratchLen img), (d.ioBase, imgIoLen img), (d.seqList, 2 * d.batch), (d.recordAddr, 64)]

/-- Regions in use for the release test, but for what only tenant 0 has. -/
def usedRanges (s : State) : List (Nat × Nat) :=
  (s.comb.slots.flatMap (fun e => if e.2.st = .empty then [] else
    [(e.2.weightBase, imgWeightLen e.2.image), (imageBase e.2.image e.2.weightBase, e.2.image.length)])) ++
  ((List.range 64).flatMap (fun n => if slotEnabled s n then
    let img := (slot s n).image
    [(rd s R.SERV_SLOT_IO 0 n, imgIoLen img * rd s R.SERV_SLOT_IOCNT 0 n), (rd s R.SERV_SLOT_SCR 0 n, imgScratchLen img),
     (rd s R.SERV_SLOT_REC 0 n, 4096)] else [])) ++
  (s.comb.parts.flatMap (fun e => (match e.2.running with | some r => launchRanges s r.desc | none => []) ++
    e.2.queue.flatMap (fun q => launchRanges s q.desc))) ++
  transferRanges s

/-- Tenant 0's areas in use (R238). -/
def areaRanges (s : State) : List (Nat × Nat) :=
  (if (List.range 4096).any (fun q => qState s q ≠ 0) then [(rd s R.QMGR_SIG_BASE, 8 * 2 ^ 20)] else []) ++
  (if allFree s then [] else [(rd s R.KVPG_SEQ_BASE, 2 ^ 22)]) ++ [(rd s R.KVPG_POOL_BASE, poolBytes s)] ++
  (if isQueen s then [(rd s R.HIVE_SHARD_BASE, 131072)] else []) ++
  (if isFrozen s || s.evr.copying then [(rd s R.EVR_DUMP_BASE, 0x440000)] else [])

/-- Something in use lies in an extent. -/
def extentUsed (s : State) (e : Nat) : Bool :=
  (usedRanges s ++ videoRanges s ++ (if rd s R.MEM_OWN_TENANT 0 e = 0 then areaRanges s else [])).any
    (fun r => meets r.1 r.2 (e * 2 ^ 26) (2 ^ 26))

/-! ### Host port (chapter 10) -/

/-- A module in dusk, or in a warm reset, admits nothing and fetches nothing (R405, R458). -/
def admissionsStopped (s : State) : Bool := rd s R.PWR_STAT_DUSK = 1 || s.boot.warm.isSome

/-- Moves Meridian time on to a moment that has come. -/
def reachTime (s : State) (t : Nat) : State := { s with now := max s.now t }

/-- BAR2 and BAR4 are decoded: the link is up, and the module is not in recovery mode (R29, R257). -/
def hostUp (s : State) : Bool := rd s R.HOST_LINK_UP = 1 && rd s R.HOST_STAT_RECOVERY = 0

/-- Size of BAR4 as a power of two (R253, R254). -/
def barBits (s : State) (fn : Nat) : Nat :=
  let b := (tget {} s.host.fns fn).bar4
  if b = 0 then (if fn = 0 then 36 else 32) else b

/-- Selector values under which a field does not hold its reset value. -/
def bankKeys (s : State) (f : Fld) (i : Nat) : List Nat :=
  s.regs.filterMap (fun e => if e.1 % 2 ^ 36 = fldKey f i 0 then some (e.1 / 2 ^ 36) else none)

/-- Queues that are not DISABLED. -/
def liveQueues (s : State) : List Nat := bankKeys s R.Q_STAT_STATE 0
/-- Queues of a function that are not DISABLED (R252). -/
def fnQueues (s : State) (fn : Nat) : List Nat := (liveQueues s).filter (fun q => queueFn s q = fn)

/-! ### DMA engines (R260 to R267) -/

/-- Bytes that running transfers had moved when they were stopped, by engine. -/
abbrev Cut := List (Nat × List Byte)
def cutOf (cut : Cut) (e : Nat) : List Byte := ((cut.find? (fun x => x.1 = e)).map Prod.snd).getD []

/-- Bulk engine of a queue. -/
def queueEngine (q : Nat) : Nat := 4 + q % 12
def engine (s : State) (e : Nat) : List Xfer := tget [] s.host.engines e
/-- Sets an engine's transfers, the first of which is in progress, and shows them. -/
def setEngine (s : State) (e : Nat) (l : List Xfer) : State :=
  let s := { s with host := { s.host with engines := tset [] e l s.host.engines } }
  wr (wr s R.DMA_STAT_BUSY (b2n (!l.isEmpty)) e) R.DMA_STAT_QUEUE ((l.head?.bind (fun x => x.queue)).getD 0) e
def pushXfer (s : State) (e : Nat) (x : Xfer) : State := setEngine s e (engine s e ++ [x])

/-- Pieces of a device range that carry no poisoned unit: offset and length. A range without poison is one piece. -/
def cleanPieces (s : State) (a n : Nat) : List (Nat × Nat) :=
  if n = 0 then []
  else if rangePoison s a n then
    (List.range ((a + n - 1) / 64 - a / 64 + 1)).filterMap (fun i =>
      let u := a / 64 + i
      let lo := max a (64 * u)
      let hi := min (a + n) (64 * u + 64)
      if poisonUnit s u then none else some (lo - a, hi - lo))
  else [(0, n)]

/-- Bytes of a range in clean pieces. -/
def cleanLen (s : State) (a n : Nat) : Nat := ((cleanPieces s a n).map Prod.snd).foldl (· + ·) 0

/-- What a device-to-device copy reads for byte `i`; a byte whose source lies in the destination range may be read before or
after it is written, and is a free value. -/
def copyByte (s : State) (x : Xfer) (i : Nat) : Byte :=
  if x.dst ≤ x.src + i && x.src + i < x.dst + x.length then BitVec.ofNat 8 (freeVal s i) else memByte s (x.src + i)

/-- One sealed segment towards the host of the queue's bulk stream (R265, R266). -/
def sealedOut (s : State) (x : Xfer) (i : Nat) : State :=
  let w := streamWord 1 0 x.sealQ
  let c := streamCtr s x.tenant w + 1
  let n := min 4096 (x.length - 4096 * i)
  if rangePoison s (x.src + 4096 * i) n then s
  else emit (setStream s x.tenant w c) (.sealedWrite (x.dst + 4096 * i) (x.tagAddr + 32 * i) x.tenant w c
    (memBytes s (x.src + 4096 * i) n))

/-- Counts of 64 KiB units. -/
def unitCount (n : Nat) : Nat := (n + 65535) / 65536

/-- Moves the first `n` bytes of a transfer, `data` being those from the host; poisoned source units and merges into poisoned
units stay out. Answers the bytes written and accepted. -/
def moveBytes (s : State) (e : Nat) (x : Xfer) (n : Nat) (data : List Byte) : State × Nat :=
  if x.op = 0 then
    let s' := memWrite s x.dst ((data ++ List.replicate n 0).take n)
    (incWrap s' R.DMA_RD_UNITS (unitCount n) e, if mergePoison s x.dst n then cleanLen s x.dst n else n)
  else if x.op = 1 then
    let ps := cleanPieces s x.src n
    let s' := if x.sealed then (List.range (segCount n)).foldl (fun s i => sealedOut s { x with length := n } i) s
      else ps.foldl (fun s p => hostWrite s (x.dst + p.1) (memBytes s (x.src + p.1) p.2)) s
    (incWrap s' R.DMA_WR_UNITS (unitCount n) e, (ps.map Prod.snd).foldl (· + ·) 0)
  else
    let ps := cleanPieces s x.src n
    let s' := ps.foldl (fun t p => memWrite t (x.dst + p.1) ((List.range p.2).map (fun i => copyByte s x (p.1 + i)))) s
    (useFree s', (ps.map Prod.snd).foldl (· + ·) 0)

/-- What a transfer had moved when it was stopped: of a sealed read, whole segments, which stand as accepted (R267). -/
def moveCut (s : State) (e : Nat) (x : Xfer) (d : List Byte) : State × Nat :=
  if x.op = 0 && x.sealed then
    let k := d.length / 4096
    moveBytes (if k = 0 then s else setStream s x.tenant (streamWord 0 0 x.sealQ) (x.ctr + k - 1)) e x (4096 * k) (d.take (4096 * k))
  else moveBytes s e x d.length d

/-- The weight key of a slot is destroyed (R374, R375). -/
def dropWeightKey (s : State) (n : Nat) : State := wr (wr s R.SEC_WKEY_HELD 0 0 n) R.SEC_WKEY_TENANT 0 0 n

/-- A transfer has ended: its command completes with its bytes, or DMA_RESULT takes its status. -/
def endXfer (s : State) (e : Nat) (x : Xfer) (st : Status) (bytes : Nat) : State :=
  let s := if st = .ok then s else incSat s R.DMA_ERR_CNT e
  let s := if x.kind = 1 && x.last then dropWeightKey s x.slot else s
  match x.queue with
  | some q => finishCmd s q st (if x.kind = 1 then 0 else bytes)
  | none =>
    let s := wr (wr s R.DMA_RESULT_STATUS (statusValue st) e) R.DMA_RESULT_VALID 1 e
    irqEvent s 8 e (if st = .ok then Irq.DMA_DONE else Irq.DMA_ERROR) 0 [statusValue st]

/-- Stops the transfers of a queue, or those that a test names: the running one after the bytes it has moved, the others at
once. Each ends with a status, and the bytes of the running one. -/
def stopXfers (s : State) (p : Xfer → Bool) (st : Status) (cut : Cut) : State :=
  (List.range 16).foldl (fun s e =>
    match engine s e with
    | [] => s
    | x :: r =>
      let stop := (x :: r).filter p
      if stop.isEmpty then s
      else
        let (s, n) := if p x then moveCut s e x ((cutOf cut e).take (x.length - 1)) else (s, 0)
        let s := setEngine s e ((x :: r).filter (fun y => !p y))
        stop.foldl (fun t y => endXfer t e y st (if y = x then n else 0)) s) s

/-- No further frame of an outgoing message is built, and COPY_ABORT ends it on its channel (R290, R382). -/
def abortCopy (s : State) (cmd : Nat) : State :=
  match tget none s.wag.cmds cmd with
  | none => s
  | some c =>
    let x := port s c.port
    let mine := fun (m : OutMsg) => match m.body with | .copyPart n _ _ => n = cmd && m.src = hiveId s | _ => false
    if (tget [] x.txq 0).any mine then
      let s := setPort s c.port { x with txq := tset [] 0 ((tget [] x.txq 0).filter (fun m => !mine m)) x.txq }
      enqueue s c.port { vc := 0, src := hiveId s, dst := c.dst, tenant := c.tenant, body := .copyAbort cmd }
    else s

/-- Messages of this module that a queue's running command waits for. -/
def queuePeer (s : State) (q : Nat) : Option (Nat × PeerCmd) :=
  (s.wag.cmds.find? (fun e => match e.2 with | some c => c.queue = q | none => false)).bind
    (fun e => e.2.map (fun c => (e.1, c)))

/-- A command that waits for a peer ends; after a stop of the hive it cannot end OK (R278, R327). -/
def endPeer (s : State) (cmd : Nat) (st : Status) : State :=
  match tget none s.wag.cmds cmd with
  | none => s
  | some c =>
    let s := { s with wag := { s.wag with cmds := tset none cmd none s.wag.cmds } }
    finishCmd s c.queue (if c.stop && st = .ok then .hiveStopped else st) c.done

/-! ### Deleting queues (R290) -/

/-- A queue is deleted: fetching stops, entries not started are discarded, nothing more is posted for it. A WAIT, a PEER_COPY and
a DMA end; any other running command ends as its own rules allow. -/
def deleteQueue (s : State) (q : Nat) (cut : Cut) : State :=
  let x := queue s q
  let s := wr (wr (setQueue s q { x with fetched := [], held := [] }) R.Q_STAT_CQ_WAIT 0 0 q) R.Q_STAT_STATE 3 0 q
  match x.run with
  | none => disableQueue s q
  | some r =>
    if !r.busy then disableQueue s q
    else
      match runOp r with
      | 1 => stopXfers s (fun y => y.queue = some q) .flushed cut
      | 2 => disableQueue s q
      | 8 =>
        match queuePeer s q with
        | some (cmd, _) => endPeer (abortCopy s cmd) cmd .flushed
        | none => disableQueue s q
      | _ => s

/-- Requests that came through a function's queues, by number. -/
def fnReqs (s : State) (fn : Nat) : List Nat :=
  (s.serv.reqs.filter (fun e => match e.2 with | some x => x.fn = fn | none => false)).map Prod.fst

/-- A request that waits for a wake is dropped with its command (R258, R396). -/
def dropWaking (s : State) (i : Nat) : State :=
  match req s i with
  | some x => if x.st = .waking then finishCmd (setReq s i none) x.queue .hostReset 0 else s
  | none => s

/-- A function reset (R258), without its interrupt. -/
def functionReset (s : State) (fn : Nat) (cut : Cut) : State :=
  let qs := fnQueues s fn
  let s := qs.foldl (fun s q => deleteQueue s q cut) s
  let s := stopXfers s (fun y => match y.queue with | some q => qs.contains q | none => false) .hostReset cut
  let s := (fnReqs s fn).foldl (fun s i =>
    match req s i with
    | some x => if x.st = .waking then dropWaking s i else endReq s i .hostReset true
    | none => s) s
  { s with host := { s.host with fns := tset {} fn {} s.host.fns } }

/-- A host-port reset (R259): a function reset of every function; the link is down and the readiness sequence runs again. -/
def hostPortReset (s : State) (cut : Cut) : State :=
  let s := (List.range 64).foldl (fun s f => functionReset s f cut) s
  let was := rd s R.HOST_LINK_UP
  let s := wr (wr (wr s R.HOST_LINK_UP 0) R.HOST_LINK_SPEED 0) R.HOST_LINK_WIDTH 0
  let s := wr (wr (wr s R.HOST_LINK_FLIT 0) R.HOST_LINK_DEGRADED 0) R.HOST_STAT_READY 0
  let s := wr s R.HOST_IDE_STAT_ACTIVE 0
  let s := { s with host := { s.host with perst := some s.now, retrain := false } }
  let s := if was = 1 then irqEvent s 7 0 Irq.HOST_LINK_CHANGE 0 [0] else s
  irqEvent s 7 0 Irq.HOST_FLR 0 []

/-! ### Waggle ports (chapter 12) -/

/-- Frames that a channel's receive buffer holds for a class (R308, R311): a quarter, rounded down, for class 1. -/
def vcFrames (v c : Nat) : Nat :=
  let n := [204, 25, 51, 102].getD v 0
  if c = 1 then n / 4 else n - n / 4

/-- The port carries the channel (R308). -/
def portCarries (p v : Nat) : Bool :=
  match v with
  | 0 => p ≠ 7
  | 3 => p = 6
  | _ => true

/-- The link on a torus port of this module crosses its ring's wrap (R311). -/
def wrapLink (s : State) (p : Nat) : Bool :=
  p < 6 && coord (hiveId s) (p / 2) = (if p % 2 = 0 then 7 else 0)

/-- A message or frame belongs to this module's command `cmd`. -/
def bodyIs (cmd : Nat) : Msg → Bool
  | .copyPart n _ _ => n = cmd
  | .remoteSignal n _ _ _ _ => n = cmd
  | _ => false

/-- The hive reference is lost (R317); a member's count goes on without its path (R330). -/
def refLost (s : State) : State :=
  if rd s R.WAG_REF_LOCKED = 1 then
    let s := irqEvent (wr s R.WAG_REF_LOCKED 0) 13 0 Irq.WAG_REF_LOST 0 []
    let s := { s with hive := { s.hive with clean := 0 } }
    if hiveState s = 2 && rd s R.MERID_STAT_QUALITY = 1 then setQuality s 2 else s
  else s

/-- WAG[6] goes down without a leaving notice (R358): the pair breaks, and the standby closes what it followed. -/
def twinLinkDown (s : State) : State :=
  let st := twinState s
  if 1 ≤ st && st ≤ 3 then
    let role := twinRole s
    let s := twinCause (irqEvent s 16 0 Irq.TWIN_BROKEN 0 []) 5
    if role = 2 then setTwinState (twinReset (closeFollowed s)) 4 else setTwinState (twinReset s) 0
  else s

/-- Training begins (R300). -/
def startTraining (s : State) (p : Nat) : State :=
  let x := port s p
  wr (setPort s p { x with order := 1, since := s.now }) R.WAG_STAT_STATE 1 p

/-- Tells a source that its message cannot be forwarded (R312). -/
def tellUnreachable (s : State) (src : Nat) (b : Msg) : State :=
  match b with
  | .copyPart n _ _ => sendMsg s src 1 0 (.unreachable src (some n))
  | .remoteSignal n _ _ _ _ => sendMsg s src 1 0 (.unreachable src (some n))
  | _ => sendMsg s src 1 0 (.unreachable src none)

/-- An UP port goes DOWN (R315, R316): what it held is discarded, commands whose frames are lost end LINK_DOWN, and messages
received in part are dropped. -/
def portDown (s : State) (p cause : Nat) : State :=
  if !portUp s p then s
  else
    let x := port s p
    let left := x.leaving.isSome
    let own := hiveId s
    let queued := x.txq.flatMap Prod.snd
    let lost := (s.wag.cmds.filter (fun e =>
      queued.any (fun m => m.src = own && bodyIs e.1 m.body) ||
      x.replay.any (fun h => h.frame.src = own && bodyIs e.1 h.frame.body))).map Prod.fst
    let fwd := (queued.filter (fun m => m.src ≠ own)).map (fun m => (m.src, m.body))
    let s := setPort s p { wait := x.wait, since := s.now, downAt := some s.now }
    let s := wr (wr (wr s R.WAG_STAT_STATE 4 p) R.WAG_STAT_DOWN_CAUSE cause p) R.WAG_REPLAY_ACTIVE 0 p
    let s := irqEvent (incSat (wr s R.WAG_REPLAY_HELD 0 p) R.WAG_DOWN_CNT p) 13 p Irq.WAG_LINK_DOWN 0 [cause]
    let s := { s with wag := { s.wag with copies := s.wag.copies.filter (fun c => c.inPort ≠ p) } }
    let s := if rd s R.WAG_REF_NONE = 0 && rd s R.WAG_REF_UPSTREAM = p then refLost s else s
    let s := lost.foldl (fun s c => endPeer s c .linkDown) s
    let s := fwd.eraseDups.foldl (fun s m => tellUnreachable s m.1 m.2) s
    if p = 6 && !left then twinLinkDown s else s

/-- Order 6 of R300: the port is UP, its sequence state 0 and its frame counters 1. -/
def linkUp (s : State) (p : Nat) : State :=
  let cr : Tbl Nat := (List.range 8).foldl (fun t i =>
    if portCarries p (i / 2) then tset 0 i (vcFrames (i / 2) (i % 2)) t else t) []
  let s := setPort s p { peerGen := (port s p).peerGen, since := s.now, credits := cr }
  let s := wr (wr s R.WAG_STAT_STATE 3 p) R.WAG_TX_CTR 1 p
  let s := if rd s R.WAG_REF_NONE = 0 && rd s R.WAG_REF_UPSTREAM = p then wr s R.WAG_REF_LOCKED 1 else s
  irqEvent s 13 p Irq.WAG_LINK_UP 0 []

/-- The replay registers of a port show what it holds. -/
def showReplay (s : State) (p : Nat) : State :=
  let x := port s p
  wr (wr s R.WAG_REPLAY_HELD x.replay.length p) R.WAG_REPLAY_ACTIVE (b2n (!x.resend.isEmpty)) p

/-- Go-back-N (R306): every unacknowledged frame is sent again, in order; the budget of those not yet replayed starts. -/
def startReplay (s : State) (p : Nat) : State :=
  let x := port s p
  if x.replay.isEmpty then s
  else
    let held := x.replay.map (fun h => { h with since := some (h.since.getD s.now) })
    let s := setPort s p { x with replay := held, resend := held.map (fun h => h.frame) }
    irqEvent (incSat (showReplay s p) R.WAG_REPLAY_CNT p) 13 p Irq.WAG_REPLAY 0 []

/-- Frames that an ACK_SEQ leaves unacknowledged (R305). -/
def afterAck (ack : Nat) (l : List Held) : List Held :=
  match l.findIdx? (fun h => h.frame.seq = ack) with
  | some i => l.drop (i + 1)
  | none => l

/-- A replay on its port covers frames of a command (R293). -/
def replayCovers (s : State) (cmd : Nat) (c : PeerCmd) : Bool :=
  (port s c.port).replay.any (fun h => h.since.isSome && h.frame.src = hiveId s && bodyIs cmd h.frame.body)

/-- A retry below is pending for a command (R293). -/
def peerRetry (s : State) (cmd : Nat) (c : PeerCmd) : Bool := replayCovers s cmd c || waitsReRead s (.copy c.queue)

/-- Commands that outlived a stop of the hive, and whose retry has succeeded, end (R327). -/
def endStopped (s : State) : State :=
  s.wag.cmds.foldl (fun s e => match e.2 with
    | some c => if c.stop && !peerRetry s e.1 c then endPeer (abortCopy s e.1) e.1 .hiveStopped else s
    | none => s) s

/-- A peer's acknowledgement and credits are applied; a leaving port whose frames are all acknowledged goes down (R305, R308,
R315). -/
def applyAck (s : State) (p ack : Nat) (credit : List Nat) : State :=
  let x := port s p
  let held := afterAck ack x.replay
  let resend := x.resend.filter (fun f => held.any (fun h => h.frame.seq = f.seq))
  let x := { x with replay := held, resend := resend }
  let x := (List.range 4).foldl (fun (x : WPort) v =>
    let back := (tget [] x.outst v).take (credit.getD v 0)
    { x with outst := tset [] v ((tget [] x.outst v).drop (credit.getD v 0)) x.outst
             credits := back.foldl (fun t c => tset 0 (2 * v + c) (tget 0 t (2 * v + c) + 1) t) x.credits }) x
  let s := endStopped (showReplay (setPort s p x) p)
  if x.leaving.isSome && held.isEmpty then portDown s p 6 else s

/-! ### The hive (chapter 13) -/

/-- Extent that a code of HIVE_SHAPE stands for (R320). -/
def extentOf (c : Nat) : Nat := if c < 4 then c + 1 else 8
/-- The shape that HIVE_SHAPE names: extents and origins, x to z. -/
def shapeRegs (s : State) : List Nat :=
  [extentOf (rd s R.HIVE_SHAPE_EX), extentOf (rd s R.HIVE_SHAPE_EY), extentOf (rd s R.HIVE_SHAPE_EZ),
   rd s R.HIVE_SHAPE_X0, rd s R.HIVE_SHAPE_Y0, rd s R.HIVE_SHAPE_Z0]
/-- A module lies in a shape (R320). -/
def inShape (sh : List Nat) (m : Nat) : Bool :=
  [0, 1, 2].all (fun d => (coord m d + 8 - sh.getD (3 + d) 0) % 8 < sh.getD d 1)
/-- The neighbour of a module on a torus port. -/
def neighbour (m p : Nat) : Nat :=
  let d := p / 2
  let c := (coord m d + (if p % 2 = 0 then 1 else 7)) % 8
  m - coord m d * 8 ^ d + c * 8 ^ d

/-- The port on which the route from `a` arrives at `b`: the one facing opposite to the last hop (R326). -/
def arrivalPort (a b : Nat) : Option Nat :=
  let last := match routeDim a b 2 with
    | some p => some p
    | none => match routeDim a b 1 with
      | some p => some p
      | none => routeDim a b 0
  last.map (fun p => if p % 2 = 0 then p + 1 else p - 1)
/-- Hops of the route from `a` to `b` (R310, R326). -/
def hops (a b : Nat) : Nat :=
  ([0, 1, 2].map (fun d =>
    let k := (coord b d + 8 - coord a d) % 8
    min k (8 - k))).foldl (· + ·) 0

def setHiveState (s : State) (v : Nat) : State := wr s R.HIVE_STAT_STATE v
def setMember (s : State) (m : Nat) (b : Bool) : State :=
  let w := rd s (R.HIVE_MEMBER (m / 32))
  let bit := 2 ^ (m % 32)
  wr s (R.HIVE_MEMBER (m / 32)) (if b then w ||| bit else w &&& (2 ^ 32 - 1 - bit))
/-- Members of this module's bitmap, in rising order. -/
def memberList (s : State) : List Nat := (List.range 512).filter (fun m => isMember s m)
def setMembers (s : State) (l : List Nat) : State :=
  l.foldl (fun s m => setMember s m true) ((List.range 16).foldl (fun s k => wr s (R.HIVE_MEMBER k) 0) s)
def otherMembers (s : State) : List Nat := (memberList s).filter (fun m => m ≠ hiveId s)
/-- The queen in a running hive acts on the queen's registers and messages. -/
def queenActs (s : State) : Bool := isQueen s && hiveState s = 2

def setDeputy (s : State) (d : Nat) : State :=
  wr (wr s R.HIVE_DEPUTY_DEPUTY d) R.HIVE_STAT_NO_DEPUTY (b2n (d = 0x1FF))

/-- Every barrier channel in use is abandoned (R342). -/
def abandonChannels (s : State) : State :=
  (List.range 64).foldl (fun s b => if rd s R.HIVE_BAR_STAT 0 b = 0 then s else wr s R.HIVE_BAR_STAT 3 0 b) s

/-- Commands to peers end HIVE_STOPPED, those with a retry pending once it has its verdict (R327). -/
def stopPeers (s : State) : State :=
  s.wag.cmds.foldl (fun s e => match e.2 with
    | some c =>
      if peerRetry s e.1 c then { s with wag := { s.wag with cmds := tset none e.1 (some { c with stop := true }) s.wag.cmds } }
      else endPeer (abortCopy s e.1) e.1 .hiveStopped
    | none => s) s

/-- The module leaves MEMBER for EXPELLED (3) or STOPPED (4): its channels are abandoned, its count runs free (R323, R328). -/
def leaveHive (s : State) (st : Nat) : State :=
  let was := hiveState s
  let s := setHiveState (abandonChannels s) st
  let s := irqEvent s 14 0 (if st = 3 then Irq.HIVE_EXPELLED else Irq.HIVE_STOPPED) 0 []
  let s := setQuality { s with hive := { s.hive with clean := 0, adjust := 0 } } 2
  if was = 2 then stopPeers s else s
/-- A stop reaches a member or an expelled module (R323). -/
def hiveStopped (s : State) : State := if hiveState s = 2 || hiveState s = 3 then leaveHive s 4 else s

/-- A forward step of the Meridian count to `t`, where that is later (R331). -/
def stepTime (s : State) (t : Nat) : State :=
  if t ≤ s.now then s
  else irqEvent (addSat { s with now := t } R.MERID_STEP (t - s.now)) 15 0 Irq.MERID_STEP 0 []

/-! #### Barriers (R332 to R336) -/

def barGen (s : State) (b : Nat) : BarGen := tget {} s.hive.bars b
def setBar (s : State) (b : Nat) (x : BarGen) : State := { s with hive := { s.hive with bars := tset {} b x s.hive.bars } }
/-- Used shards of a channel in the queen's copy of the table, with their entries. -/
def barShards (s : State) (b : Nat) : List (Nat × Shard) :=
  s.hive.shards.filterMap (fun e => if e.1 / 512 = b then e.2.map (fun x => (e.1 % 512, x)) else none)

/-- A verdict here: the verdict counter is set (R336). -/
def takeVerdict (s : State) (b g v : Nat) : State :=
  if rd s R.HIVE_BAR_CFG_ENABLE 0 b = 1 then
    signalUpdate s (rd s R.HIVE_BAR_CFG_TENANT 0 b) (rd s R.HIVE_BAR_VERDICT 0 b) true (4 * (g + 1) + v)
  else s
/-- A release here (R333, order 4); an arrive counter that has reached the new threshold arrives at once. -/
def takeRelease (s : State) (b g : Nat) : State :=
  let s := wr (wr s R.HIVE_BAR_GEN (g + 1) 0 b) R.HIVE_BAR_BACKUP_VALID 0 0 b
  if rd s R.HIVE_BAR_CFG_ENABLE 0 b = 1 then
    let s := wr (wr s R.HIVE_BAR_THRESH (rd s R.HIVE_BAR_THRESH 0 b + rd s R.HIVE_BAR_STRIDE 0 b) 0 b) R.HIVE_BAR_STAT 1 0 b
    let s := signalUpdate s (rd s R.HIVE_BAR_CFG_TENANT 0 b) (rd s R.HIVE_BAR_RELEASE 0 b) true (g + 1)
    arriveIf s b (sigValue s (rd s R.HIVE_BAR_ARRIVE 0 b))
  else s
/-- A backup start here (R335). -/
def takeBackup (s : State) (b shard : Nat) : State :=
  let s := wr (wr s R.HIVE_BAR_BACKUP_VALID 1 0 b) R.HIVE_BAR_BACKUP_SHARD shard 0 b
  let s := if rd s R.HIVE_BAR_CFG_ENABLE 0 b = 1 then
      signalUpdate s (rd s R.HIVE_BAR_CFG_TENANT 0 b) (rd s R.HIVE_BAR_VERDICT 0 b) false 1 else s
  irqEvent s 14 0 Irq.HIVE_BACKUP_START 0 [b, shard]

/-- The queen's message to a member, which she may be herself. -/
def toMember (s : State) (m : Nat) (here : State → State) (msg : Msg) : State :=
  if !isMember s m then s else if m = hiveId s then here s else sendMsg s m 1 0 msg

/-- A backup start for a shard goes to a module, once per generation (R335). -/
def sendBackup (s : State) (b shard home dst : Nat) : State :=
  let x := barGen s b
  if x.started.any (fun e => e.1 = shard) then s
  else
    let s := setBar s b { x with started := x.started ++ [(shard, home, dst)] }
    toMember s dst (fun s => takeBackup s b shard) (.backupStart b x.gen shard)

/-! #### Ranks, suspects and expulsion (R334, R337 to R340) -/

/-- Inserts a shard by the time of its commit, ties by the lower home. -/
def insertRank (e : Nat × Nat) : List (Nat × Nat) → List (Nat × Nat)
  | [] => [e]
  | f :: r => if e.1 < f.1 || (e.1 = f.1 && e.2 ≤ f.2) then e :: f :: r else f :: insertRank e r

/-- The home modules of a completed generation with their ranks (R334). -/
def genRanks (s : State) (b : Nat) : List (Nat × Nat) :=
  let x := barGen s b
  let l := barShards s b
  let time := fun (e : Nat × Shard) => tget none x.commits e.1
  let own := (l.filterMap (fun e => match time e with
    | some (t, w) => if w && e.2.spareEn then none else some (t, e.2.home)
    | none => none)).foldr insertRank []
  let lost := l.filterMap (fun e => match time e with
    | some (_, w) => if w && e.2.spareEn then some (e.2.home, l.length - 1) else none
    | none => none)
  (own.map Prod.snd).zipIdx ++ lost

/-- Placings in the last 1 % within the window, and counted generations there (R337). -/
def placings (s : State) (m : Nat) : Nat := ((tget [] s.hive.last1 m).filter id).length
def isSuspect (s : State) (m : Nat) : Bool := rd s R.HIVE_MOD_STAT_SUSPECT 0 m = 1
def showRanks (s : State) (m : Nat) : State :=
  wr (wr s R.HIVE_MOD_STAT_LAST1 (placings s m) 0 m) R.HIVE_MOD_STAT_COUNTED (tget [] s.hive.last1 m).length 0 m

/-- A home module's placing in a counted generation, and its mark (R337). -/
def countPlacing (s : State) (m : Nat) (last : Bool) : State :=
  let w := rd s R.HIVE_SUSPECT_CFG_WINDOW
  let s := { s with hive := { s.hive with last1 := tset [] m ((last :: tget [] s.hive.last1 m).take w) s.hive.last1 } }
  let s := showRanks s m
  let bad := decide (rd s R.HIVE_SUSPECT_CFG_SHARE * w < 100 * placings s m)
  if bad && !isSuspect s m && isMember s m then irqEvent (wr s R.HIVE_MOD_STAT_SUSPECT 1 0 m) 14 0 Irq.HIVE_SUSPECT 0 [m]
  else if !bad then wr s R.HIVE_MOD_STAT_SUSPECT 0 0 m
  else s

/-- Expulsions in the last WINDOW seconds (R338). -/
def expelsUsed (s : State) : Nat :=
  (s.hive.expels.filter (fun t => s.now < t + rd s R.HIVE_EXPEL_CFG_WINDOW * 10 ^ 9)).length
def budgetSpent (s : State) : Bool := rd s R.HIVE_EXPEL_CFG_BUDGET ≤ expelsUsed s
def showBudget (s : State) : State :=
  wr (wr s R.HIVE_EXPEL_STAT_USED (min 255 (expelsUsed s))) R.HIVE_EXPEL_STAT_SPENT (b2n (budgetSpent s))

/-- A member goes out of the hive at the queen: its shards take their spares or are dropped (R339). -/
def moveShards (s : State) (m : Nat) : State :=
  s.hive.shards.foldl (fun s e => match e.2 with
    | some x =>
      if x.home ≠ m then s
      else
        let b := e.1 / 512
        let k := e.1 % 512
        let put := fun (s : State) (y : Option Shard) =>
          { s with hive := { s.hive with shards := tset none e.1 y s.hive.shards } }
        if x.spareEn then
          let s := put s (some { home := x.spare, spare := 0, spareEn := false })
          if (tget none (barGen s b).commits k).isSome then s else sendBackup s b k m x.spare
        else
          let s := put s none
          let y := barGen s b
          let s := setBar s b { y with commits := tset none k none y.commits }
          irqEvent s 14 0 Irq.HIVE_SHARD_DROPPED 0 [b, k]
    | none => s) s

/-- A member is taken out of the bitmap, which goes to the members, `told` among them (R339, R340). -/
def removeMember (s : State) (m st : Nat) (told : Bool) : State :=
  let before := otherMembers s
  let s := wr (setMember s m false) R.HIVE_MOD_STAT_STATE st 0 m
  let s := if rd s R.HIVE_DEPUTY_DEPUTY = m then setDeputy s 0x1FF else s
  let l := memberList s
  let s := (before.filter (fun d => told || d ≠ m)).foldl (fun s d => sendMsg s d 1 0 (.membership l)) s
  moveShards s m

/-- A member is expelled (R338, R339). -/
def expelMember (s : State) (m : Nat) : State :=
  let s := { s with hive := { s.hive with expels := s.hive.expels ++ [s.now], kept := s.hive.kept.filter (· ≠ m) } }
  let s := removeMember (showBudget s) m 2 true
  irqEvent s 14 0 Irq.HIVE_EXPELLED 0 [m]

/-- A member is lost (R340). -/
def loseMember (s : State) (m : Nat) : State :=
  if queenActs s && isMember s m && m ≠ hiveId s then
    irqEvent (removeMember s m 3 false) 14 0 Irq.HIVE_MEMBER_LOST 0 [m]
  else s

/-- The suspect to expel: among those the budget has left in place, else among all, the one with the most placings, ties to the
higher ID (R338). -/
def nextSuspect (s : State) : Option Nat :=
  let l := (memberList s).filter (fun m => isSuspect s m && m ≠ hiveId s)
  let k := l.filter (fun m => s.hive.kept.contains m)
  (if k.isEmpty then l else k).foldl (fun (a : Option Nat) m => match a with
    | some b => if placings s b ≤ placings s m then some m else some b
    | none => some m) none

/-- Automatic expulsion after a counted generation (R338). A suspect the budget leaves in place is reported once. -/
def autoExpel (s : State) : State :=
  let s := showBudget { s with hive := { s.hive with kept := s.hive.kept.filter (fun m => isSuspect s m && isMember s m) } }
  if rd s R.HIVE_CTL_AUTO_EXPEL = 0 then s
  else
    match nextSuspect s with
    | none => s
    | some m =>
      if !budgetSpent s then expelMember s m
      else
        ((memberList s).filter (fun m => isSuspect s m && m ≠ hiveId s && !s.hive.kept.contains m)).foldl (fun s m =>
          raiseIrq (statusEvent { s with hive := { s.hive with kept := s.hive.kept ++ [m] } } 14 0 .expelBudgetSpent 0 [m])
            14 0 Irq.HIVE_BUDGET_SPENT) s

/-- Verdicts of a generation, to the home and the spare of each backup start (R336). -/
def sendVerdicts (s : State) (b : Nat) : State :=
  let x := barGen s b
  x.started.foldl (fun s e =>
    match tget none x.commits e.1 with
    | some (_, spareWon) =>
      let v := fun (m : Nat) (won : Bool) (s : State) =>
        let n := if won then 1 else 2
        toMember s m (fun s => takeVerdict s b x.gen n) (.verdict b x.gen n)
      v e.2.2 spareWon (v e.2.1 (!spareWon) s)
    | none => s) s

/-- Credits the ranks of a completed generation, and marks suspects where it is counted (R334, R337). -/
def creditRanks (s : State) (b : Nat) : State :=
  let l := genRanks s b
  let p := (barShards s b).length
  let s := l.foldl (fun s e => incSat s (R.HIVE_MOD_HIST (16 * e.2 / p)) 0 e.1) s
  if rd s R.HIVE_SUSPECT_CFG_MIN_P ≤ p then
    ((l.map Prod.fst).eraseDups).foldl (fun s m =>
      countPlacing s m (l.any (fun e => e.1 = m && p - (p + 99) / 100 ≤ e.2))) s
  else s

/-- When every shard of a channel has committed: verdicts, then the release, to the home and spare of every shard (R333). -/
def finishGen (s : State) (b : Nat) : State :=
  let x := barGen s b
  let l := barShards s b
  if l.isEmpty || l.any (fun e => (tget none x.commits e.1).isNone) then s
  else
    let s := sendVerdicts s b
    let counted := decide (rd s R.HIVE_SUSPECT_CFG_MIN_P ≤ l.length)
    let dst := (l.flatMap (fun e => e.2.home :: (if e.2.spareEn then [e.2.spare] else []))).eraseDups
    let s := creditRanks s b
    let s := setBar s b { gen := x.gen + 1 }
    let s := dst.foldl (fun s m => toMember s m (fun s => takeRelease s b x.gen) (.release b x.gen)) s
    if counted then autoExpel s else s

/-- Generations that a shard's going has completed. -/
def finishAll (s : State) : State := (List.range 64).foldl finishGen s

/-- The queen takes an arrival: the first of its shard in the current generation is the commit (R333, R336). -/
def takeArrival (s : State) (src b g shard time : Nat) : State :=
  if !queenActs s || !isMember s src then s
  else
    let x := barGen s b
    match tget none s.hive.shards (512 * b + shard) with
    | none => s
    | some y =>
      if g ≠ x.gen then incSat s R.HIVE_BAR_STALE
      else if (tget none x.commits shard).isSome then s
      else
        let start := x.started.find? (fun e => e.1 = shard)
        let home := match start with | some e => e.2.1 | none => y.home
        if src ≠ y.home && !(y.spareEn && src = y.spare) then s
        else
          setBar s b { x with commits := tset none shard (some (time, decide (src ≠ home && start.isSome))) x.commits
                              latest := max x.latest time }

/-- The shard table as the queen reads it (R332). -/
def readShards (s : State) : Tbl (Option Shard) :=
  (List.range 32768).foldl (fun t i =>
    let w := memNat s (rd s R.HIVE_SHARD_BASE + 4 * i) 4
    if w / 2 ^ 31 = 1 then
      t ++ [(i, some { home := w % 512, spare := w / 512 % 512, spareEn := w / 2 ^ 18 % 2 = 1 })]
    else t) []

/-- The queen takes the table; shards of modules outside the hive go to their spares or are dropped (R332, R339). -/
def loadShards (s : State) : State :=
  let s := { s with hive := { s.hive with shards := readShards s } }
  s.hive.shards.foldl (fun s e => match e.2 with
    | some x =>
      if isMember s x.home then s
      else
        let y := if x.spareEn && isMember s x.spare then some { home := x.spare, spare := 0, spareEn := false } else none
        let s := { s with hive := { s.hive with shards := tset none e.1 y s.hive.shards } }
        if y.isNone then irqEvent s 14 0 Irq.HIVE_SHARD_DROPPED 0 [e.1 / 512, e.1 % 512] else s
    | none => s) s

/-! #### Queen loss and progress (R341 to R344) -/

/-- The deputy declares queen loss: a stop goes to every member (R341, R342). -/
def declareQueenLoss (s : State) : State :=
  if hiveState s = 2 && rd s R.HIVE_ROLE_ROLE = 2 then
    let s := (otherMembers s).foldl (fun s m => sendMsg s m 1 0 .stop) s
    leaveHive { s with hive := { s.hive with stopAt := some s.now } } 4
  else s

/-- A neighbour `m` is gone: the queen is told, or is this module (R340). -/
def tellLoss (s : State) (m : Nat) : State :=
  if hiveState s ≠ 2 || !isMember s m then s
  else if isQueen s then finishAll (loseMember s m)
  else if m = rd s R.HIVE_STAT_QUEEN then s
  else sendMsg s (rd s R.HIVE_STAT_QUEEN) 1 0 (.lossReport m)

/-- A leaving notice on a port: the deputy sees the queen leave, any other member's neighbour reports it (R340, R341). -/
def hiveLeaving (s : State) (p : Nat) : State :=
  let m := rd s R.WAG_PEER_MODULE p
  if hiveState s ≠ 2 || p = 6 then s
  else if m = rd s R.HIVE_STAT_QUEEN then declareQueenLoss s
  else if p < 6 then tellLoss s m else s

/-- The queen keeps a member's latest report and shows the sums (R344). -/
def takeReport (s : State) (m : Nat) (l : List Nat) : State :=
  let s := { s with hive := { s.hive with reports := tset [] m l s.hive.reports } }
  let sum := fun (k : Nat) => (s.hive.reports.map (fun e => e.2.getD k 0)).foldl (· + ·) 0
  let s := wr (wr (wr s R.HIVE_AGG_USEFUL (sum 0)) R.HIVE_AGG_ELAPSED (sum 1)) R.HIVE_AGG_WASTED (sum 2)
  wr s R.HIVE_AGG_CFG_REPORTED s.hive.reports.length

/-! ### Tenants and security (chapter 15) -/

/-- The hive group identifier, and the key's way to members; a queen with debug open distributes none (R376). -/
def groupId (s : State) : List Nat := (List.range 4).map (fun j => rd s (R.SEC_GROUPID j))
def sendGroupKey (s : State) (l : List Nat) : State :=
  match s.sec.group with
  | some k => if debugOpen s then s else l.foldl (fun s m => sendMsg s m 1 0 (.groupKey (groupId s) k)) s
  | none => s
/-- A group key replaces the one held (R376). -/
def setGroupKey (s : State) (id : List Nat) (key : Nat) : State :=
  let s := (List.range 4).foldl (fun s j => wr s (R.SEC_GROUPID j) (id.getD j 0)) s
  irqEvent (wr { s with sec := { s.sec with group := some key } } R.SEC_STAT_GROUP_KEY 1) 17 0 Irq.SEC_GROUP_KEY 0 []

/-- The status with which a retiring tenant's launches and requests end (R383, R389). -/
def retireStatus (s : State) : Status := if rd s R.SEC_STAT_UNLOCK_PENDING = 1 then .debugAbandon else .tenantRetiring
def retireCause (s : State) : Cause := if rd s R.SEC_STAT_UNLOCK_PENDING = 1 then .debug else .retire

/-- VFs bound to a tenant. -/
def tenantFns (s : State) (t : Nat) : List Nat :=
  (List.range 64).filter (fun f => f ≠ 0 && rd s R.HOST_FN_CFG_BOUND 0 f = 1 && rd s R.HOST_FN_CFG_TENANT 0 f = t)

/-- Changes a retirement in progress. -/
def modRetiring (s : State) (t : Nat) (f : Retiring → Retiring) : State :=
  { s with sec := { s.sec with retiring := s.sec.retiring.map (fun r => if r.tenant = t then f r else r) } }

/-- Transfers waiting behind the ones in progress, of a tenant, complete at once (R382). -/
def dropQueued (s : State) (t : Nat) (st : Status) : State :=
  (List.range 16).foldl (fun s e =>
    match engine s e with
    | [] => s
    | x :: r =>
      let out := r.filter (fun y => y.tenant = t)
      if out.isEmpty then s
      else out.foldl (fun s y => endXfer s e y st 0) (setEngine s e (x :: r.filter (fun y => y.tenant ≠ t)))) s

/-- Requests of a tenant that no launch holds end; those in a launch end with it (R383). -/
def endRequests (s : State) (t : Nat) : State :=
  ((openReqs s).filter (fun e => e.2.tenant = t && e.2.inWork.isNone)).foldl (fun s e => endReq s e.1 (retireStatus s)) s

/-- Orders 1 and 2 of R383. -/
def beginRetire (s : State) (t : Nat) (q : Option Nat) (abandon : Bool) : State :=
  let s := wr (wr s R.SEC_TEN_STATE_STATE 2 0 t) R.SEC_TEN_STATE_STAGE 1 0 t
  let s := { s with sec := { s.sec with retiring := s.sec.retiring ++ [{ tenant := t, queue := q, since := s.now }] } }
  let s := endRequests (dropQueued s t .tenantRetiring) t
  let s := retireVideo s t
  let s := { s with kv := { s.kv with frames := s.kv.frames.map (fun e => (e.1, e.2.map (fun f =>
    if f.tenant = t then { f with handed := true } else f))) } }
  let s := wr s R.SEC_TEN_STATE_STAGE 2 0 t
  let s := if abandon then abandonAll s (fun r => r.desc.tenant = t) (retireCause s) 17 else s
  wr s R.SEC_TEN_STATE_STAGE 3 0 t

/-- The drain fence has come for a tenant (R383): nothing of it is in flight. -/
def drained (s : State) (t : Nat) : Bool :=
  !(s.comb.parts.any (fun e => match e.2.running with | some r => r.desc.tenant = t | none => false)) &&
  !(s.host.engines.any (fun e => e.2.any (fun x => x.tenant = t))) &&
  !(s.wag.cmds.any (fun e => match e.2 with | some c => c.tenant = t | none => false)) &&
  !(s.kv.copies.any (fun c => (seqOf s c.dst).tenant = t)) && !videoBusy s t &&
  !((openReqs s).any (fun e => e.2.tenant = t))

/-- Every field that a selector shows for a tenant takes its reset value. -/
def resetTenant (s : State) (t : Nat) : State :=
  [R.SERV_TEN_RATE, R.SERV_TEN_BURST, R.SERV_TEN_WEIGHT, R.SERV_TEN_LEVEL, R.KVPG_TEN_RESV, R.KVPG_TEN_SHARED_SHARED_MAX,
   R.KVPG_TEN_SHARED_OVERCOMMIT, R.KVPG_TEN_USED, R.KVPG_TEN_PARKED, R.PFX_TEN_BASE, R.PFX_TEN_NODES, R.PFX_TEN_USED].foldl
    (fun s f => wr s f (fldReset f 0 t) 0 t) { s with serv := { s.serv with budget := tset {} t {} s.serv.budget } }

/-- A tenant's transport key and stream counters are gone. -/
def dropStreams (s : State) (t : Nat) : State :=
  wr { s with host := { s.host with streams := tclear (t * 2 ^ 32) ((t + 1) * 2 ^ 32) s.host.streams } } R.HOST_TEN_SEAL_EXHAUSTED 0 0 t
def dropTenantKeys (s : State) (t : Nat) : State :=
  (List.range 64).foldl (fun s n =>
    if rd s R.SEC_WKEY_HELD 0 n = 1 && rd s R.SEC_WKEY_TENANT 0 n = t then dropWeightKey s n else s)
    (dropStreams (wr s R.SEC_TEN_STATE_TRANSPORT 0 0 t) t)

/-- A key slot becomes FREE. -/
def freeTenant (s : State) (t : Nat) : State :=
  let s := wr (wr (wr s R.SEC_TEN_STATE_STATE 0 0 t) R.SEC_TEN_STATE_STAGE 0 0 t) R.SEC_TEN_STATE_SEAL_REQ 0 0 t
  wr s R.SEC_STAT_ACTIVE_TENANTS (rd s R.SEC_STAT_ACTIVE_TENANTS - 1)

/-- What deciphering leaves of memory whose key is gone: each byte that held data is free. -/
def garbleMemory (s : State) : State :=
  let cells := (s.mem.cells.zipIdx).foldl (fun t e => tset 0 e.1.1 (BitVec.ofNat 8 (freeVal s e.2)) t) ([] : Tbl Byte)
  useFree { s with mem := { s.mem with cells := cells } }

/-! ### Power (chapter 16) -/

/-- Conditions under which a domain is always off (R391): a spare that is FREE, a RETIRED unit, a disabled controller, the debug
port while debug is closed. -/
def alwaysOff (s : State) (d : Nat) : Bool :=
  if d < 272 then rd s R.CELL_MAP_STATE d = 1 || rd s R.CELL_MAP_STATE d = 3
  else if d < 340 then rd s R.APIPE_MAP_STATE (d - 272) = 1 || rd s R.APIPE_MAP_STATE (d - 272) = 3
  else if d < 372 then rd s R.MEMC_PART_DISABLED (d - 340) = 1
  else d = 400 && !debugOpen s

/-- Pages in a domain that has a low state: block type and instance (R393). -/
def domainPages (d : Nat) : List (Nat × Nat) :=
  if d < 272 then [(0, d)]
  else if d < 340 then [(1, d - 272)]
  else if d < 372 then [(3, d - 340), (4, d - 340)]
  else if d < 376 then
    (5, d - 372) :: (6, d - 372) :: (18, d - 372) :: (List.range 17).map (fun j => (2, 17 * (d - 372) + j))
  else if d < 384 then [(13, d - 376)]
  else if d < 392 then [(21, d - 384)]
  else if d = 392 then [(22, 0)]
  else []
/-- HOLD_ON keeps the domain on (R392). -/
def heldOn (s : State) (d : Nat) : Bool := (domainPages d).any (fun p => rd s (hHoldOn p.1) p.2 = 1)

/-- Effective tolerance of a partition in µs (R394). -/
def effTolerance (s : State) (p : Nat) : Nat :=
  (List.range 4).foldl (fun t c =>
    if rd s R.PWR_PART_TOL_CLASSES 0 p / 2 ^ c % 2 = 1 || (c = 0 && fastLane s p) then min t (rd s (R.PWR_CLASS_TOL c)) else t)
    (rd s R.PWR_PART_TOL_TOL 0 p)

/-- A demand wakes a low domain (R396). -/
def wakeDomain (s : State) (d : Nat) : State :=
  if dom s d = 2 && !alwaysOff s d && (s.pwr.dusk.isNone || s.pwr.order < 5) then setDom s d 1 else s

/-- Domains of a partition's cells and pipes. -/
def partDomains (s : State) (p : Nat) : List Nat :=
  (partCells s p).filterMap (cellPhys s) ++ ((partQuads s p).filterMap (pipePhys s)).map (· + 272)

/-- Idle, powered, active cells, which can carry ballast (R399). -/
def ballastCells (s : State) : Nat :=
  ((List.range 272).filter (fun n =>
    (rd s R.CELL_MAP_STATE n = 0 || rd s R.CELL_MAP_STATE n = 2) && dom s n = 0 && rd s R.CELL_STAT_BUSY n = 0 &&
    rd s R.CELL_STAT_TESTING n = 0)).length

/-- Whole watts of a power in mW as a register shows it: how a fraction shows is not stated, and is a free choice of the two
neighbouring values. -/
def showWatts (s : State) (k mw : Nat) : Nat := mw / 1000 + (if mw % 1000 = 0 then 0 else freeVal s k % 2)

/-- The registers that show E, plateau and ballast. -/
def showPower (s : State) : State :=
  useFree (wr (wr (wr s R.PWR_STAT_EFF_CAP (showWatts s 0 s.pwr.eff)) R.PWR_PLATEAU_PLAT_W (showWatts s 1 s.pwr.plateau))
    R.PWR_BALLAST_BALLAST_W (showWatts s 2 s.pwr.ballast))

/-- E changes; while it lies above the cap, CAP_LAG is set, and its onset is raised and recorded (R398). -/
def setEff (s : State) (e : Nat) : State :=
  let cap := 1000 * rd s R.PWR_CAP_CAP_W
  let s := { s with pwr := { s.pwr with eff := e } }
  if cap < e then
    if rd s R.PWR_STAT_CAP_LAG = 1 then s
    else raiseIrq (statusEvent (wr s R.PWR_STAT_CAP_LAG 1) 19 0 .capLag 0 [rd s R.PWR_CAP_CAP_W]) 19 0 Irq.PWR_CAP_LAG
  else wr s R.PWR_STAT_CAP_LAG 0

/-- A swing of load that is not shaped (R399, R400). -/
def unshaped (s : State) : State := irqEvent (incSat s R.PWR_SLEW_OVER_CNT) 19 0 Irq.PWR_SLEW_OVER 0 []

/-- No ballast, plateau nor credit (R402, R405). -/
def dropShaping (s : State) : State :=
  showPower { s with pwr := { s.pwr with credit := 0, plateau := 0, ballast := 0, short := false } }

/-- A write of PWR_CAP.CAP_W (R398): a value out of range is refused with LENGTH_RANGE; a raised cap becomes E at once. -/
def capWrite (s : State) (v : Nat) : State :=
  if v < 120 || 450 < v then refuseWrite s 19 0 0x100 .lengthRange
  else
    let s := wr s R.PWR_CAP_CAP_W v
    showPower (setEff s (if s.pwr.eff ≤ 1000 * v then 1000 * v else s.pwr.eff))

/-- Writes of PWR_CAP.EMERG (R402, R406): 1 sheds load at once, 0 ends the shed; during dusk neither has an effect. -/
def emergWrite (s : State) (on : Bool) : State :=
  let was := rd s R.PWR_CAP_EMERG = 1
  let s := wr s R.PWR_CAP_EMERG (b2n on)
  if on && !was && s.pwr.dusk.isNone then
    let s := dropShaping (wr s R.PWR_STAT_EMERG_ACTIVE 1)
    let s := (List.range 4).foldl (fun s d => wr s (R.PWR_DIE_VLIM d) (rd s R.PACE_VLIM_VMIN d)) s
    irqEvent s 19 0 Irq.PWR_EMERG 0 []
  else if !on then wr s R.PWR_STAT_EMERG_ACTIVE 0
  else s

/-- A word written to PWR_CAP (R398, R402). -/
def capWordWrite (s : State) (v : Nat) : State :=
  let s := if v % 512 = rd s R.PWR_CAP_CAP_W then s else capWrite s (v % 512)
  emergWrite s (v / 2 ^ 31 % 2 = 1)

/-- Cells of a launch's quads and controllers, as a step estimate in mW (R400). -/
def stepEstimate (s : State) (img : List Byte) : Nat :=
  4 * (imgQuads img).length * rd s R.PWR_EST_CELL_MW + (imgMemcs img).length * rd s R.PWR_EST_MEMC_MW

/-- Launches that the gate holds: their step estimates. -/
def heldSteps (s : State) : List Nat :=
  s.comb.parts.filterMap (fun e => match e.2.queue.head? with
    | some q => if q.held.isSome then some (stepEstimate s (slot s q.desc.slot).image) else none
    | none => none)

/-- Standby ends (R397): the domains it put low are on again, but for those that are always off. -/
def leaveStandby (s : State) : State :=
  if rd s R.PWR_STAT_STANDBY = 1 then
    let s := wr s R.PWR_STAT_STANDBY 0
    let s := (List.range 397).foldl (fun s d =>
      if (d < 376 || 384 ≤ d) && dom s d ≠ 3 && !alwaysOff s d then setDom s d 0 else s) s
    irqEvent s 19 0 Irq.PWR_STANDBY_EXIT 0 []
  else s

/-- Every open request ends with a status. -/
def endAllRequests (s : State) (st : Status) : State := (openReqs s).foldl (fun s e => endReq s e.1 st) s

/-- Leaving notices on every UP port (R315, R405, R458). -/
def sendLeaving (s : State) : State :=
  (List.range 8).foldl (fun s p => if portUp s p then sendOn s p 1 (.leaving (hiveId s)) else s) s

/-- Orders 1 and 2 of R405 at t0, for dusk and for a thermal trip (R515): admissions stop, shaping ends, and launches that do not
end within FINISH are abandoned. A freeze ends (R450). -/
def beginDusk (s : State) : State :=
  let s := endFreeze (leaveStandby s)
  let s := wr { s with pwr := { s.pwr with dusk := some s.now, order := 1 } } R.PWR_STAT_DUSK 1
  let s := irqEvent (dropShaping s) 19 0 Irq.PWR_DUSK 0 []
  let parts : Tbl Part := s.comb.parts.map (fun e => (e.1, { e.2 with queue := e.2.queue.map (fun q => { q with held := none }) }))
  let s := { s with comb := { s.comb with parts := parts } }
  s.comb.parts.foldl (fun s e => match e.2.running with
    | some r =>
      let left := launchBound s ((descVariant s r.desc).steps - r.step) (promisePace s e.1)
      if frLe left (1000 * rd s R.PWR_DUSK) then s else abandonRunning s e.1 .dusk 19
    | none => s) s

/-- THERM_N is released once every junction is below 100 °C and every package below 85 °C, but not during a trip (R514, R515). -/
def coolCheck (s : State) : State :=
  if s.pwr.therm && !s.pwr.trip && (List.range 5).all (fun d => tget 0 s.pwr.junction d < 1000) &&
     (List.range 32).all (fun m => signedOf 8 (rd s R.MPHY_TEMP_TEMP m) < 85) then
    { s with pwr := { s.pwr with therm := false } }
  else s

/-! ### Clocks (R407 to R413) -/

def loopState (s : State) (k : Nat) : Nat := rd s R.CLK_LOOP_STAT_STATE 0 k
def setLoop (s : State) (k v : Nat) : State := wr s R.CLK_LOOP_STAT_STATE v 0 k
def tcxoStable (s : State) : Bool := rd s R.CLK_STAT_TCXO_STABLE = 1
/-- The hive reference is there (R317). -/
def hiveRef (s : State) : Bool := rd s R.WAG_REF_NONE = 0 && rd s R.WAG_REF_LOCKED = 1

/-- CLK_STAT shows whether a loop that has the TCXO as its fallback waits for it (R411). -/
def showAwait (s : State) : State := wr s R.CLK_STAT_FALLBACK_NOT_READY (b2n (s.clk.await.any (33 ≤ ·)))

/-- A loop coasts (R410): it holds its oscillator and begins to step its divider down; the block that it clocks cannot use it for
data. `wait` says that it waits for the TCXO. -/
def coast (s : State) (k : Nat) (wait : Bool) (cut : Cut) : State :=
  let s := { s with clk := { s.clk with up := s.clk.up.filter (· ≠ k), come := s.clk.come.filter (· ≠ k),
                                        await := if wait then (k :: s.clk.await).eraseDups else s.clk.await.filter (· ≠ k) } }
  let s := showAwait (setLoop s k (if rd s R.CLK_LOOP_STAT_DIVIDER 0 k = 5 then 2 else 3))
  if k = 32 then (if s.host.refclk then hostPortReset s cut else s)
  else if 33 ≤ k && k < 41 then portDown s (k - 33) 2
  else s

/-- The calendar, Meridian and waiting: loop 41 without its primary source is in holdover (R330, R409). -/
def meridHoldover (s : State) : State :=
  if rd s R.MERID_STAT_QUALITY = 1 then setQuality s 2 else s

/-- A loop's monitor trips (R408 to R411). -/
def loopTrip (s : State) (k : Nat) (cut : Cut) : State :=
  if loopState s k = 0 || rd s R.CLK_LOOP_STAT_SRC_LOST 0 k = 1 && (loopState s k ≠ 1 || k < 33) then s
  else
    let fell := 33 ≤ k && rd s R.CLK_LOOP_STAT_SOURCE 0 k = 2
    let s := irqEvent (incSat (wr s R.CLK_LOOP_STAT_SRC_LOST 1 0 k) R.CLK_SRC_FAIL_CNT) 20 0 Irq.CLK_SRC_LOST 0 [k]
    let s := if k = 41 then meridHoldover s else s
    if fell && tcxoStable s then wr s R.CLK_LOOP_STAT_SOURCE 0 0 k
    else if 33 ≤ k && !tcxoStable s then
      let s := wr s R.CLK_LOOP_STAT_SOURCE 0 0 k
      let s := raiseIrq (statusEvent s 20 0 .fallbackNotReady 0 [k]) 20 0 Irq.CLK_FALLBACK_NOT_READY
      coast s k true cut
    else coast s k (k < 32 && !tcxoStable s) cut

/-! ### Loss of state at a cold reset (R456, R457) -/

/-- Fields that a cold reset keeps: the variant, the module's identifiers, the operator key's standing and REQUIRE_COSIGN. -/
def keptFields : List Fld :=
  [R.BOOT_VARIANT_VARIANT, R.BOOT_CFG_REQUIRE_COSIGN, R.SEC_STAT_OPKEY_SET, R.SEC_OPKEY_CTL_CHANGES] ++
  (List.range 4).map R.SEC_DEVID ++ (List.range 4).map R.SEC_BINDID

/-- A bank whose flush was cut off is invalid (R452). -/
def cutFlush (s : State) : State :=
  match s.evr.flush with
  | some f => { s with evr := if f.bank = 0 then { s.evr with bank0 := none } else { s.evr with bank1 := none } }
  | none => s

/-- A cold reset with its cause, and a loss of input power followed by its return (R367, R456, R457): keys, and with them the
contents of device memory, and everything else are lost but the two banks, the NOR devices, the operator key digest, and the
calendar count with its quality. The start begins when input power is within its ratings (R499). -/
def coldReset (s : State) (cause : Nat) : State :=
  let s := garbleMemory (cutFlush s)
  let q := rd s R.EVR_STAT_TIME_Q
  let t : State :=
    { now := s.now, rtc := if q = 0 then 0 else s.rtc, free := s.free, out := s.out, pending := s.pending,
      mem := { cells := s.mem.cells },
      evr := { bank0 := s.evr.bank0, bank1 := s.evr.bank1 },
      sec := { opkey := s.sec.opkey },
      pwr := { fed := s.pwr.fed, overvolt := s.pwr.overvolt },
      host := { refclk := s.host.refclk, inReset := s.host.inReset },
      boot := { nor := s.boot.nor, remapCopy := s.boot.remapCopy, cause := cause } }
  let t := keptFields.foldl (fun t f => wr t f (rd s f)) t
  wr t R.EVR_STAT_TIME_Q (if q = 0 then 0 else 1)

/-- Input power is lost (R367). -/
def losePower (s : State) : State :=
  let s := coldReset s 0
  { s with pwr := { s.pwr with fed := false } }

/-- What FATAL_ACTION asks for after a fatal event (R456). -/
def fatalAction (s : State) : State :=
  if s.boot.fatal then
    let s := { s with boot := { s.boot with fatal := false } }
    match rd s R.BOOT_CFG_FATAL_ACTION with
    | 1 => beginWarm s 4 false
    | 2 => if s.pwr.dusk.isSome || !s.pwr.good then s else coldReset s 4
    | _ => s
  else s

end Sys2Proof.Machine
end

