-- ==== Sys2Proof/Machine/CellOps.lean ====
section
/-!
DEFINITION. What every cell instruction shares: issue and its faults (R72, R74), reads that meet results not yet readable
(R73), and writes of results with the step from which they are readable.
-/

namespace Sys2Proof.Machine

/-- The launch that runs a cell's stream: the cell's partition has one whose step 0 has begun and whose cells have not
stopped. -/
def cellLaunch (s : State) (c : Nat) : Option Running :=
  match (part s (cellPart s c)).running with
  | some r => if r.begun && r.stopped.isNone && !r.ended then some r else none
  | none => none

/-- The physical cell behind a logical number, or the home where none holds it. -/
def cellPage (s : State) (c : Nat) : Nat := (cellPhys s c).getD (cellHome c)

/-- The status of an abandonment cause (R147). -/
def causeStatus : Cause → Status
  | .planFault => .planFault
  | .residue => .residueFault
  | .store => .storeFault
  | .format => .formatFault
  | .poison => .memPoison
  | .dusk => .duskAbandon
  | .retire => .tenantRetiring
  | .debug => .debugAbandon

/-- Row of a cause in the table of R147. -/
def causeRank : Cause → Nat
  | .planFault => 0 | .residue => 1 | .store => 2 | .format => 3 | .poison => 4 | .dusk => 5 | .retire => 6 | .debug => 7

/-- The cause whose row comes first (R147). -/
def firstCause : List Cause → Option Cause
  | [] => none
  | a :: r =>
    match firstCause r with
    | some b => if causeRank b < causeRank a then some b else some a
    | none => some a

/-- The step in progress meets a cause; every cause is recorded, its DETAIL naming the partition and slot (R147). -/
def noteCause (s : State) (p : Nat) (cause : Cause) (ty i : Nat) (detail : List Nat) : State :=
  match (part s p).running with
  | none => s
  | some r =>
    let s := modRunning s p (fun r => { r with causes := r.causes ++ [cause] })
    recordEvent s ty i (statusValue (causeStatus cause)) 3 r.desc.tenant (p :: r.desc.slot :: detail)

/-- A cell's fault: the launch record keeps the cell and store address of the first one (R150). -/
def cellFault (s : State) (c : Nat) (cause : Cause) (addr : Nat) : State :=
  let p := cellPart s c
  let s := modRunning s p (fun r => if r.faultCell = 255 then { r with faultCell := c, faultAddr := addr } else r)
  noteCause s p cause 0 (cellPage s c) [c, addr]

/-- An issue-time stream fault, with the store address that the launch record gives (R74, R173). -/
def planFaultAt (s : State) (c addr : Nat) : State :=
  raiseIrq (cellFault s c .planFault addr) 0 (cellPage s c) Irq.CELL_PLAN_FAULT
def planFault (s : State) (c : Nat) : State := planFaultAt s c 0

/-- Units of a cell (R72): 0 none, 1 matrix, 2 vector, 3 special-function, 4 mover 0, 5 mover 1, 6 matrix, vector and
special-function together. -/
def unitFree (x : Cell) : Nat → Nat
  | 1 => x.matFree
  | 2 => x.vecFree
  | 3 => x.sfuFree
  | 4 => x.mov0
  | 5 => x.mov1
  | 6 => max x.matFree (max x.vecFree x.sfuFree)
  | _ => 0

def takeUnit (x : Cell) (u t : Nat) : Cell :=
  match u with
  | 1 => { x with matFree := t }
  | 2 => { x with vecFree := t }
  | 3 => { x with sfuFree := t }
  | 4 => { x with mov0 := t }
  | 5 => { x with mov1 := t }
  | 6 => { x with matFree := t, vecFree := t, sfuFree := t }
  | _ => x

/-- The stream buffer holds the cell's next instruction (R68, R129). -/
def inBuffer (x : Cell) : Bool := tget 0 x.ringIdx (x.next % 4096) = x.next + 1

/-- An instruction issues in the step in progress (R72): it must be in the buffer, carry no reserved value (`ok`), and
find its unit free; otherwise it is a stream fault (R74). Where it issues, the unit is busy for `busy` steps and `k` gives
its effect. A cell without a running launch issues nothing. -/
def issueInstr (s : State) (c unit busy : Nat) (ok : Bool) (k : State → Running → Cell → State) : State :=
  match cellLaunch s c with
  | none => s
  | some r =>
    let x := cell s c
    if x.ended then s
    else if inBuffer x && ok && unitFree x unit ≤ r.step then
      let x := takeUnit { x with next := x.next + 1, pend := x.pend.filter (fun d => r.step < d.ready) } unit (r.step + busy)
      k (setCell s c x) r x
    else planFault (setCell s c { x with next := x.next + 1 }) c

/-- What lay at a place before a result that is not readable yet (R73). -/
def pendOld (x : Cell) (step space a : Nat) : Option Nat :=
  match x.pend.reverse.find? (fun d => d.space = space && step < d.ready && d.lo ≤ a && a < d.lo + d.old.length) with
  | some d => d.old[a - d.lo]?
  | none => none

/-- Store bytes as they stand, or as they stood before results not yet readable. -/
def cellBytes (x : Cell) (step : Nat) (old : Bool) (a n : Nat) : List Byte :=
  (List.range n).map (fun i =>
    match (if old then pendOld x step 0 (a + i) else none) with
    | some v => BitVec.ofNat 8 v
    | none => tget 0 x.store (a + i))

/-- Whether element `i` of a read shows old or new data where the two differ: a free value (R73). -/
def sawOld (s : State) (i : Nat) : Bool := freeVal s i % 2 = 1

/-- Codes of `n` packed elements of a format from byte `a` of the store, element by element old or new (R73). -/
def readCodes (s : State) (x : Cell) (step fmt a n : Nat) : List Nat :=
  let nw := cellBytes x step false a (packedLen fmt n)
  let od := cellBytes x step true a (packedLen fmt n)
  (List.range n).map (fun i => unpackElem fmt (if sawOld s i then od else nw) i)

/-- The accumulator element, old or new where a result is not readable yet (R73). -/
def accElem (s : State) (x : Cell) (step a i j : Nat) : Nat :=
  let e := 2048 * a + j
  match (if sawOld s i then pendOld x step (a + 1) j else none) with
  | some v => v
  | none => tget 0 x.acc e

/-- Writes bytes into a cell's store; they are readable from step `ready` (R72, R73). -/
def putStore (x : Cell) (a : Nat) (bs : List Byte) (ready : Nat) : Cell :=
  { x with pend := x.pend ++ [{ space := 0, lo := a, old := (tgets 0 x.store a bs.length).map BitVec.toNat, ready := ready }]
           store := tsets 0 a bs x.store }

/-- Writes accumulator `a`; its elements are readable from step `ready`. -/
def putAcc (x : Cell) (a : Nat) (vs : List Nat) (ready : Nat) : Cell :=
  { x with pend := x.pend ++ [{ space := a + 1, lo := 0, old := tgets 0 x.acc (2048 * a) 2048, ready := ready }]
           acc := tsets 0 (2048 * a) vs x.acc }

/-- A source of a VEC or SFU instruction, as FP32 patterns (R71, R111): from the store in the format of IN_FMT, widened
exactly, or from an accumulator, from element 16 × SRC on. -/
def vecSource (s : State) (x : Cell) (step space inFmt src n : Nat) : List Nat :=
  if space = 0 then
    let fmt := if inFmt = 0 then 0 else if inFmt = 1 then 1 else 2
    (readCodes s x step fmt (64 * src) n).map (fun c =>
      if inFmt = 0 then c else if inFmt = 1 then c * 65536 else toFp32 (decodeFloat fFP16 c))
  else (List.range n).map (fun i => accElem s x step (space - 1) i ((16 * src + i) % 2048))

/-- FP32 patterns as bytes. -/
def wordsBytes (ws : List Nat) : List Byte := ws.flatMap (leBytes 4)

/-- Field values that R71 and R75 allow for VEC and SFU. -/
def vecOk (a : VecArgs) : Bool := 1 ≤ a.l && a.l ≤ 65534 && a.s1 < 3 && a.s2 < 3 && a.inFmt < 3

/-- A VEC instruction that writes `f` of its sources to DST (R72, R111). -/
def vecInstr (s : State) (c : Nat) (a : VecArgs) (f : List Nat → List Nat → List Nat → List Nat) : State :=
  issueInstr s c 2 ((a.l + 63) / 64) (vecOk a) (fun s r x =>
    let u := vecSource s x r.step a.s1 a.inFmt a.src1 a.l
    let v := vecSource s x r.step a.s2 a.inFmt a.src2 a.l
    let w := readCodes s x r.step 0 (64 * a.dst) a.l
    useFree (setCell s c (putStore x (64 * a.dst) (wordsBytes (f u v w)) (r.step + (a.l + 63) / 64 + 4))))

/-- Element by element on the two sources. -/
def zip2 (f : Nat → Nat → Nat) (u v _w : List Nat) : List Nat := List.zipWith f u v

def execAdd (c : Nat) (a : VecArgs) (s : State) : Host.Outcome State Fault Refusal := .next (vecInstr s c a (zip2 fp32Add))
def execMul (c : Nat) (a : VecArgs) (s : State) : Host.Outcome State Fault Refusal := .next (vecInstr s c a (zip2 fp32Mul))
/-- `SRC1 × SRC2 + DST`, one rounding (R111). -/
def execFma (c : Nat) (a : VecArgs) (s : State) : Host.Outcome State Fault Refusal :=
  .next (vecInstr s c a (fun u v w => List.zipWith (fun p z => fp32Fma p.1 p.2 z) (List.zip u v) w))
def execMax (c : Nat) (a : VecArgs) (s : State) : Host.Outcome State Fault Refusal := .next (vecInstr s c a (zip2 fp32Max))
def execMin (c : Nat) (a : VecArgs) (s : State) : Host.Outcome State Fault Refusal := .next (vecInstr s c a (zip2 fp32Min))
/-- One FP32 sum at DST, in the lane and tree order of R111. -/
def execRsum (c : Nat) (a : VecArgs) (s : State) : Host.Outcome State Fault Refusal :=
  .next (vecInstr s c a (fun u _ _ => [rsumList u]))
def execRmax (c : Nat) (a : VecArgs) (s : State) : Host.Outcome State Fault Refusal :=
  .next (vecInstr s c a (fun u _ _ => [rmaxList u]))
/-- SRC1 times the element at SRC2 (R70, R111). -/
def execScale (c : Nat) (a : VecArgs) (s : State) : Host.Outcome State Fault Refusal :=
  .next (vecInstr s c a (fun u v _ => u.map (fun x => fp32Mul x (v.headD 0))))
/-- FP32 patterns unchanged, NaN payloads included (R111). -/
def execCopy (c : Nat) (a : VecArgs) (s : State) : Host.Outcome State Fault Refusal := .next (vecInstr s c a (fun u _ _ => u))

/-- `m × 2^e` as a whole number of units of `2^-600`; every finite FP32 product here lies above that. -/
def scaled (m : Nat) (e : Int) : Nat := m * 2 ^ (e + 600).toNat

/-- Whether an FP32 code lies within 1 ulp of `1/x` (`root` false) or of `1/√x` (`root` true), for `x = m × 2^e` (R112):
with the result `v` and its ulp `u`, `(v − u)·x ≤ 1 ≤ (v + u)·x`, squared for the root. -/
def withinUlp (root : Bool) (m : Nat) (e : Int) (code : Nat) : Bool :=
  match fp32 code with
  | .fin _ vm ve =>
    let p := fun n => if root then scaled (n * n * m) (2 * ve + e) else scaled (n * m) (ve + e)
    (vm = 0 || p (vm - 1) ≤ 2 ^ 600) && 2 ^ 600 ≤ p (vm + 1)
  | _ => false

/-- The whole root of `n` of at most `k` bits, above `r`: bit by bit from the highest. -/
def sqrtBits : Nat → Nat → Nat → Nat
  | 0, r, _ => r
  | k + 1, r, n => sqrtBits k (if (r + 2 ^ k) * (r + 2 ^ k) ≤ n then r + 2 ^ k else r) n

/-- Code of a positive FP32 value near `1/x` or `1/√x`, from which the result is at most one code away. -/
def nearRecip (root : Bool) (m : Nat) (e : Int) : Nat :=
  if root then
    let k : Nat := if (e % 2 = 0) then 0 else 1
    -- 1/√(m·2^e) = √(2^(2N)/(m·2^k)) · 2^(−N − (e−k)/2)
    roundMag fFP32 none (sqrtBits 81 0 (2 ^ 160 / (m * 2 ^ k))) (-80 - (e - k) / 2)
  else roundMag fFP32 none (2 ^ 100 / m) (-100 - e)

/-- A special-function result (R112): the stated special values; a reciprocal or reciprocal root within 1 ulp, which one is
a free value; an exponential or logarithm elsewhere is a free value, because R112 bounds its error and fixes no bits. -/
def sfuResult (s : State) (op i c : Nat) : Nat :=
  match sfuSpecial op c with
  | some r => r
  | none =>
    match fp32 (flushSub c) with
    | .fin neg m e =>
      if op = 2 ∨ op = 3 then
        let t := nearRecip (op = 3) m e
        let t' := t + freeVal s i % 3 - 1
        signBit fFP32 (neg && op = 2) + (if withinUlp (op = 3) m e t' then t' else t)
      else freeVal s i % 2 ^ 32
    | _ => 0x7FC00000

/-- An SFU instruction (R72, R112); bits [3:2] of its byte 12 are ignored (R71). -/
def sfuInstr (s : State) (c op : Nat) (a : VecArgs) : State :=
  issueInstr s c 3 ((a.l + 15) / 16) (1 ≤ a.l && a.l ≤ 65534 && a.s1 < 3 && a.inFmt < 3) (fun s r x =>
    let u := vecSource s x r.step a.s1 a.inFmt a.src1 a.l
    let res := u.mapIdx (fun i c => sfuResult s op (65536 + i) c)
    useFree (setCell s c (putStore x (64 * a.dst) (wordsBytes res) (r.step + (a.l + 15) / 16 + 8))))

def execExp (c : Nat) (a : VecArgs) (s : State) : Host.Outcome State Fault Refusal := .next (sfuInstr s c 0 a)
def execLog (c : Nat) (a : VecArgs) (s : State) : Host.Outcome State Fault Refusal := .next (sfuInstr s c 1 a)
def execRecip (c : Nat) (a : VecArgs) (s : State) : Host.Outcome State Fault Refusal := .next (sfuInstr s c 2 a)
def execRsqrt (c : Nat) (a : VecArgs) (s : State) : Host.Outcome State Fault Refusal := .next (sfuInstr s c 3 a)

/-- Elements of an operand of an MMA as exact values: `n` elements of run `k`, runs one after another on byte boundaries
(R105), each times its block factor (R104). Nothing where a T5 byte is a format fault (R107). -/
def mmaRun (s : State) (x : Cell) (step fmt base n k scBase : Nat) : Option (List Val) :=
  let a := base + k * packedLen fmt n
  if fmt = 14 then
    let bs := cellBytes x step (sawOld s k) a (packedLen 14 n)
    (List.range n).mapM (fun i => (t5Weight bs i).map intVal)
  else
    let cs := readCodes s x step fmt a n
    some (cs.mapIdx (fun i c =>
      let v := decodeElem fmt c
      if fmtIsMx fmt then scaleVal (tget 0 x.store (scBase + k / 32 * n + i)).toNat v else v))

/-- Field values that R71, R75 and R108 allow for MMA. -/
def mmaOk (a : MmaArgs) : Bool :=
  1 ≤ a.k && a.k ≤ 65534 && 1 ≤ a.m && a.m ≤ 64 && 1 ≤ a.n && a.n ≤ 32 && slicesPer8 a.aFmt a.bFmt ≠ 0

/-- A matrix instruction (R109, R110): for each element of the accumulator, the exact products of the slices are added in
increasing k, with one rounding each. A T5 byte above 242 is a format fault and leaves no result (R107). -/
def execMma (c : Nat) (a : MmaArgs) (s : State) : Host.Outcome State Fault Refusal :=
  let busy := mmaBusy a.aFmt a.bFmt a.k
  .next (issueInstr s c 1 busy (mmaOk a) (fun s r x =>
    let scA := 64 * a.scale
    let scB := if fmtIsMx a.aFmt then scA + (a.m * ((a.k + 31) / 32) + 63) / 64 * 64 else scA
    let as := (List.range a.k).mapM (fun k => mmaRun s x r.step a.aFmt (64 * a.aAddr) a.m k scA)
    let bs := (List.range a.k).mapM (fun k => mmaRun s x r.step a.bFmt (64 * a.bAddr) a.n k scB)
    match as, bs with
    | some as, some bs =>
      let acc := (List.range 2048).map (fun j =>
        let m := j / 32
        let n := j % 32
        let old := if a.zero then 0 else tget 0 x.acc (2048 * a.acc + j)
        if m < a.m && n < a.n then
          mmaElem old ((List.range a.k).map (fun k => ((as.getD k []).getD m .nan, (bs.getD k []).getD n .nan)))
        else old)
      useFree (setCell s c (putAcc x a.acc acc (r.step + busy + 6)))
    | _, _ => useFree (cellFault s c .format a.bAddr)))

/-- The exact values of the sources of a CVT, block factors applied (R104, R117); nothing where a T5 byte is a format
fault. -/
def cvtSource (s : State) (x : Cell) (step : Nat) (a : CvtArgs) : Option (List Val) :=
  let base := 64 * a.src1
  if a.fromF = 14 then
    let bs := cellBytes x step (sawOld s 0) base (packedLen 14 a.l)
    (List.range a.l).mapM (fun i => (t5Weight bs i).map intVal)
  else
    let sc := base + (packedLen a.fromF a.l + 63) / 64 * 64
    some ((readCodes s x step a.fromF base a.l).mapIdx (fun i c =>
      let v := decodeElem a.fromF c
      if fmtIsMx a.fromF then scaleVal (tget 0 x.store (sc + i / 32)).toNat v else v))

/-- Cuts a list into blocks of 32. -/
def blocks32 {α : Type} (l : List α) : List (List α) :=
  (List.range ((l.length + 31) / 32)).map (fun b => (l.drop (32 * b)).take 32)

/-- CVT: `l` elements, each rounded once into the target, to nearest even or stochastically with the launch's key (R114,
R119, R120); MX targets block by block (R117); T5 targets clamped (R115). -/
def execCvt (c : Nat) (a : CvtArgs) (s : State) : Host.Outcome State Fault Refusal :=
  .next (issueInstr s c 2 ((a.l + 63) / 64) (1 ≤ a.l && a.l ≤ 65534 && cvtPair a.fromF a.toF) (fun s r x =>
    let ready := r.step + (a.l + 63) / 64 + 3
    let rnd := fun i => if a.round then some (generator r.desc.stochKey (roundCounter r.step c i)) else none
    match cvtSource s x r.step a with
    | none => useFree (cellFault s c .format a.src1)
    | some vs =>
      let dst := 64 * a.dst
      let x :=
        if fmtIsMx a.toF then
          let bl := (blocks32 vs).mapIdx (fun b l => mxBlock a.toF rnd (32 * b) l)
          let el := packCodes (fmtBits a.toF) (bl.flatMap Prod.snd)
          putStore (putStore x dst el ready) (dst + (el.length + 63) / 64 * 64)
            (bl.map (fun p => BitVec.ofNat 8 p.1)) ready
        else if a.toF = 14 then
          putStore x dst (packT5 (vs.map (fun v => max (-1) (min 1 (encodeInt (-128) 127 none v))))) ready
        else
          putStore x dst (packCodes (fmtBits a.toF) (vs.mapIdx (fun i v => encodeElem a.toF (rnd i) v))) ready
      useFree (setCell s c x)))

/-- CTRL NOP occupies no unit (R70). -/
def execCtrlNop (c : Nat) (s : State) : Host.Outcome State Fault Refusal :=
  .next (issueInstr s c 0 0 true (fun s _ _ => s))

/-- END is the cell's last instruction; the launch's last step is the latest issue step of END (R70, R128). -/
def execEnd (c : Nat) (s : State) : Host.Outcome State Fault Refusal :=
  .next (issueInstr s c 0 0 true (fun s _ x => setCell s c { x with ended := true }))

end Sys2Proof.Machine
end

