-- ==== Sys2Proof/Machine/Attention.lean ====
section
/-!
DEFINITION. Attention commands (chapter 06): the command block and its checks, forward and backward commands in cells and in
attention pipes. Exponentials, logarithms and reciprocals are bounded and not fixed bit by bit (R112, R167); what rests on
them is a free value, and what the rules fix without them is computed.
-/

namespace Sys2Proof.Machine

/-- A command block (R157). -/
structure AttnCmd where
  back     : Bool
  cont     : Bool
  final    : Bool
  saveStat : Bool
  biasEn   : Bool
  mask     : Nat
  qFmt     : Nat
  kFmt     : Nat
  vFmt     : Nat
  oFmt     : Nat
  statBf   : Bool
  kvWin    : Bool
  oWin     : Bool
  rowsQ    : Nat
  rowsK    : Nat
  rowsV    : Nat
  rowsO    : Nat
  rows     : Nat
  heads    : Nat
  head0    : Nat
  dim      : Nat
  keys     : Nat
  ring     : Nat
  window   : Nat
  kpos0    : Nat
  scale    : Nat
  q        : Nat
  k        : Nat
  v        : Nat
  o        : Nat
  stat     : Nat
  bias     : Nat
  info     : Nat
  dO       : Nat
  dQ       : Nat
  dK       : Nat
  dV       : Nat
  deriving DecidableEq, Repr

def attnCmdOf (b : List Byte) : AttnCmd :=
  let b0 := fieldAt b 0 1
  let b4 := fieldAt b 4 1
  { back := bitsOf b0 0 1 = 1, cont := bitsOf b0 1 1 = 1, final := bitsOf b0 2 1 = 1, saveStat := bitsOf b0 3 1 = 1,
    biasEn := bitsOf b0 4 1 = 1, mask := bitsOf b0 5 2,
    qFmt := bitsOf (fieldAt b 1 1) 0 4, kFmt := bitsOf (fieldAt b 1 1) 4 4, vFmt := bitsOf (fieldAt b 2 1) 0 4,
    oFmt := bitsOf (fieldAt b 2 1) 4 4, statBf := bitsOf (fieldAt b 3 1) 0 1 = 1, kvWin := bitsOf (fieldAt b 3 1) 1 1 = 1,
    oWin := bitsOf (fieldAt b 3 1) 2 1 = 1, rowsQ := bitsOf b4 0 2, rowsK := bitsOf b4 2 2, rowsV := bitsOf b4 4 2,
    rowsO := bitsOf b4 6 2, rows := bitsOf (fieldAt b 5 1) 0 7, heads := bitsOf (fieldAt b 6 1) 0 7, head0 := fieldAt b 7 1,
    dim := fieldAt b 8 2, keys := fieldAt b 10 2, ring := fieldAt b 12 2, window := fieldAt b 14 2, kpos0 := fieldAt b 16 4,
    scale := fieldAt b 20 4, q := fieldAt b 24 2, k := fieldAt b 26 2, v := fieldAt b 28 2, o := fieldAt b 30 2,
    stat := fieldAt b 32 2, bias := fieldAt b 34 2, info := fieldAt b 36 2, dO := fieldAt b 38 2, dQ := fieldAt b 40 2,
    dK := fieldAt b 42 2, dV := fieldAt b 44 2 }

/-- Bytes of an element of a format. -/
def fmtBytes (f : Nat) : Nat := fmtBits f / 8
def statBytes (a : AttnCmd) : Nat := if a.statBf then 2 else 4

/-- Row info (R159). -/
def infoEnd (i : List Byte) : Nat := fieldAt i 0 4
def infoPos (i : List Byte) : Nat := fieldAt i 4 4
def infoPad (i : List Byte) : Bool := bitsOf (fieldAt i 8 1) 0 1 = 1
/-- Reserved bits of the row info are 0 (R173). -/
def infoOk (i : List Byte) : Bool := fieldAt i 8 1 < 2 && fieldAt i 9 7 = 0

/-- The check of R173: the status that the recorder gets as the fault's detail, if a field is out of range or reserved. -/
def attnCheck (a : AttnCmd) (pipeMode : Bool) (info : List Byte) : Option Status :=
  let qk := fun f => decide (1 ≤ f ∧ f ≤ 4)
  let n := a.rows * a.dim
  let lens :=
    1 ≤ a.rows && a.rows ≤ 64 && 1 ≤ a.heads && a.heads ≤ 64 && a.rows % max a.heads 1 = 0 && 16 ≤ a.dim && a.dim ≤ 256 &&
    a.dim % 16 = 0 && 1 ≤ a.keys && a.keys ≤ 65534 && 1 ≤ a.ring && a.ring ≤ 65534 &&
    (a.mask ≠ 2 || (1 ≤ a.window && a.window ≤ 65534)) && inStore a.q (n * fmtBytes a.qFmt) &&
    (a.kvWin || (inStore a.k (a.ring * a.dim * fmtBytes a.kFmt) && inStore a.v (a.ring * a.dim * fmtBytes a.vFmt))) &&
    (a.oWin || inStore a.o (n * fmtBytes a.oFmt)) &&
    (!(a.back || a.cont || (a.saveStat && !a.oWin)) || inStore a.stat (2 * statBytes a * a.rows)) &&
    (!a.biasEn || 64 * a.bias + 2176 * (a.head0 + a.heads) ≤ 4194304) &&
    (!a.back || (inStore a.dO (n * fmtBytes a.oFmt) && inStore a.dQ (4 * n) && inStore a.dK (4 * a.keys * a.dim) &&
      inStore a.dV (4 * a.keys * a.dim)))
  if !(qk a.qFmt && qk a.kFmt && qk a.vFmt && a.oFmt < 4 && a.mask < 3) || !infoOk info ||
     ((a.kvWin || a.oWin) && (!pipeMode || a.back)) then some .formatFault
  else if lens then none else some .lengthRange

/-! ### Busy periods (R163, R166, R172) -/

def attnWidth (a : AttnCmd) : Nat := if [a.qFmt, a.kFmt, a.vFmt].any (fun f => f = 1 || f = 2) then 2 else 1
/-- QL and CL of R163. -/
def queryLoad (a : AttnCmd) : Nat := (a.rows * a.dim * fmtBytes a.qFmt + 255) / 256
def contLoad (a : AttnCmd) : Nat :=
  if a.cont then (a.rows * (a.dim * fmtBytes a.oFmt + 2 * statBytes a) + 255) / 256 else 0
def pipeBusy (a : AttnCmd) : Nat :=
  let c := a.dim * attnWidth a
  let nb := (a.keys + 15) / 16
  if a.back then (a.rows * a.dim * (fmtBytes a.qFmt + 2 * fmtBytes a.oFmt) + 255) / 256 + (nb + 1) * 3 * c + 48
  else queryLoad a + contLoad a + (nb + 1) * c + 24
def cellBusy (a : AttnCmd) : Nat :=
  let nb := (a.keys + 31) / 32
  if a.back then (nb + 1) * max (5 * a.dim * attnWidth a) (3 * a.rows) + 64
  else (nb + 1) * max (2 * a.dim * attnWidth a) (3 * a.rows) + 40 + contLoad a

/-! ### Scores (R151, R152, R162) -/

/-- Row `r`'s query position. -/
def rowPos (a : AttnCmd) (info : List Byte) (r : Nat) : Nat := infoPos info + r % (a.rows / max a.heads 1)
def rowHead (a : AttnCmd) (r : Nat) : Nat := a.head0 + r / max 1 (a.rows / max a.heads 1)

/-- Key `j` is in the allowed set of a row at position `qp` (R151, R152). -/
def admitted (a : AttnCmd) (info : List Byte) (qp j : Nat) : Bool :=
  let kp := a.kpos0 + j
  kp < infoEnd info && (match a.mask with
    | 0 => true
    | 1 => kp ≤ qp
    | _ => qp < kp + a.window && kp ≤ qp)

/-- δ is at least T_b = ⌈1,024 × 2^(b/8)⌉ (R162). -/
def reaches (d b : Nat) : Bool := 1024 ^ 8 * 2 ^ b ≤ d ^ 8
/-- Bias entry for a distance (R162). -/
def biasIndex (d : Nat) : Nat := if d < 1024 then d else 1024 + ((List.range 64).filter (reaches d)).foldl max 0

/-- Values of a row of `n` elements of a format. -/
def rowVals (fmt n : Nat) (bs : List Byte) : List Val := (List.range n).map (fun i => decodeElem fmt (unpackElem fmt bs i))

/-- The score of a key: exact products accumulated in FP32, times SCALE, plus the bias entry (R109, R151, R162, R167). -/
def score (a : AttnCmd) (bias : Option Nat) (q k : List Val) : Nat :=
  let x := fp32Mul a.scale (mmaElem 0 (List.zip q k))
  match bias with
  | some b => fp32Add x (toFp32 (decodeFloat fFP16 b))
  | none => x

/-- Bias entry of a row and key from the table's bytes. -/
def biasOf (a : AttnCmd) (table : List Byte) (head qp j : Nat) : Option Nat :=
  if a.biasEn then some (fieldAt table (2176 * head + 2 * biasIndex (gap qp (a.kpos0 + j))) 2) else none

def negInf : Nat := 0xFF800000
def canNan : Nat := 0x7FC00000

/-- Result of a row: output codes in O_FMT, and m and L as FP32 patterns. -/
structure AttnRow where
  o : List Nat
  m : Nat
  l : Nat
  deriving DecidableEq, Repr

def emptyRow (a : AttnCmd) : AttnRow := { o := List.replicate a.dim 0, m := negInf, l := negInf }
/-- A free value that is no row's −∞ sentinel (R168). -/
def freeStat (x : Nat) : Nat := if x % 2 ^ 32 = negInf then negInf - 1 else x % 2 ^ 32
def oBits (a : AttnCmd) : Nat := fmtBits a.oFmt

/-- A row whose weights rest on exponentials: its outputs and log-sum are free values, its maximum is not (R112, R151). -/
def openRow (a : AttnCmd) (m : Nat) (fv : Nat → Nat) : AttnRow :=
  { o := (List.range a.dim).map (fun d => fv (d + 1) % 2 ^ oBits a), m := m, l := freeStat (fv 0) }
def nanRow (a : AttnCmd) : AttnRow :=
  { o := List.replicate a.dim (encodeElem a.oFmt none .nan), m := canNan, l := canNan }

/-- One forward row (R151 to R154): `key` and `value` give the values of a key, `table` the bias bytes. -/
def forwardRow (a : AttnCmd) (info : List Byte) (r : Nat) (q : List Val) (key value : Nat → List Val) (table : List Byte)
    (fv : Nat → Nat) : AttnRow :=
  let qp := rowPos a info r
  let ss := ((List.range a.keys).filter (admitted a info qp)).map (fun j =>
    (j, score a (biasOf a table (rowHead a r) qp j) q (key j)))
  if infoPad info then emptyRow a
  else if ss.any (fun x => isNan x.2) then nanRow a
  else
    match ss with
    | [] => emptyRow a
    | [(j, x)] => if x = negInf then emptyRow a
        else { o := (value j).map (encodeElem a.oFmt none), m := x, l := x }
    | (_, x) :: t =>
      let m := t.foldl (fun m y => fp32Max m y.2) x
      if m = negInf then emptyRow a else openRow a m fv

/-- Merges a row with the previous command's (R169). -/
def mergeRow (a : AttnCmd) (p c : AttnRow) (fv : Nat → Nat) : AttnRow :=
  if c.l = negInf then (if p.l = negInf then emptyRow a else { p with m := fp32Max p.m c.m })
  else if p.l = negInf then { c with m := fp32Max p.m c.m }
  else if isNan p.l || isNan c.l then nanRow a
  else openRow a (fp32Max p.m c.m) fv

/-- A statistic as FP32 from STAT_FMT, and back, to nearest even (R168). -/
def statIn (a : AttnCmd) (c : Nat) : Nat := if a.statBf then c * 65536 else c
def statOut (a : AttnCmd) (x : Nat) : List Byte :=
  if a.statBf then
    let c := encodeFloat fBF16 none (fp32 x)
    leBytes 2 (if c = 0xFF80 && x ≠ negInf then 0xFF7F else c)
  else leBytes 4 x

/-- The previous rows in memory layout: outputs, then statistics. -/
def prevRow (a : AttnCmd) (prev : List Byte) (r : Nat) : AttnRow :=
  let ob := fmtBytes a.oFmt
  let so := a.rows * a.dim * ob
  let sb := statBytes a
  { o := (List.range a.dim).map (fun d => fieldAt prev ((r * a.dim + d) * ob) ob),
    m := statIn a (fieldAt prev (so + 2 * sb * r) sb), l := statIn a (fieldAt prev (so + 2 * sb * r + sb) sb) }

/-- Every row of a forward command. `fv r` numbers the free values of row `r`. -/
def forwardRows (a : AttnCmd) (info q prev table : List Byte) (key value : Nat → List Val) (fv : Nat → Nat → Nat) :
    List AttnRow :=
  (List.range a.rows).map (fun r =>
    let c := forwardRow a info r (rowVals a.qFmt a.dim (q.drop (r * a.dim * fmtBytes a.qFmt))) key value table (fv r)
    if infoPad info then c else if a.cont then mergeRow a (prevRow a prev r) c (fv r) else c)

def rowsOut (a : AttnCmd) (l : List AttnRow) : List Byte := l.flatMap (fun r => packCodes (oBits a) r.o)
def rowsStat (a : AttnCmd) (l : List AttnRow) : List Byte := l.flatMap (fun r => statOut a r.m ++ statOut a r.l)
/-- Rows that count as empty (R170). -/
def emptyCount (a : AttnCmd) (info : List Byte) (l : List AttnRow) : Nat :=
  if a.final && !infoPad info then (l.filter (fun r => r.l = negInf)).length else 0

/-! ### Store access -/

/-- Bytes of a cell's store as a command reads them in the step in progress (R73). -/
def attnRead (s : State) (c step a n : Nat) : List Byte := (readCodes s (cell s c) step 3 (64 * a) n).map (BitVec.ofNat 8)
def attnPut (s : State) (c a : Nat) (bs : List Byte) (ready : Nat) : State := setCell s c (putStore (cell s c) (64 * a) bs ready)

/-- A field of the command block is reserved (R173): the launch stops with the issuing cell and CMD_ADDR in its record. -/
def attnFault (s : State) (c addr : Nat) (st : Status) : State :=
  let p := cellPart s c
  let s := modRunning s p (fun r => if r.faultCell = 255 then { r with faultCell := c, faultAddr := addr } else r)
  raiseIrq (noteCause s p .planFault 0 (cellPage s c) [c, addr, statusValue st]) 0 (cellPage s c) Irq.CELL_PLAN_FAULT

/-- The command block at CMD_ADDR. -/
def cmdBytes (s : State) (c step addr : Nat) : List Byte := attnRead s c step addr 64

/-- Adds to the launch's count of empty rows (R170). -/
def addEmpty (s : State) (p n : Nat) : State := modRunning s p (fun r => { r with emptyRows := r.emptyRows + n })

/-- The key or value ring's row of a key (R158). -/
def ringRow (s : State) (c step base fmt dim ring j : Nat) : List Val :=
  rowVals fmt dim ((attnRead s c step base ((j % ring + 1) * dim * fmtBytes fmt)).drop (j % ring * dim * fmtBytes fmt))

/-! ### Backward commands (R171) -/

/-- Gradients of a backward command: dQ is written, dK and dV are added to. The terms rest on exponentials, so each element that
some allowed key of a counted row touches is a free value; a row with the sentinel, or a padding command, adds nothing. -/
def backward (s : State) (a : AttnCmd) (info : List Byte) (step ready ck cv co : Nat) : State :=
  let st := attnRead s co step a.stat (2 * statBytes a * a.rows)
  let live := fun r => !infoPad info && statIn a (fieldAt st (2 * statBytes a * r + statBytes a) (statBytes a)) ≠ negInf
  let allowed := fun r j => admitted a info (rowPos a info r) j
  let n := a.rows * a.dim
  let dq := (List.range n).map (fun i =>
    let r := i / a.dim
    if !live r then 0
    else if (List.range a.keys).any (allowed r) then freeVal s i % 2 ^ 32 else fp32Mul a.scale 0)
  let grad := fun (base cell' k0 : Nat) =>
    let old := attnRead s cell' step base (4 * a.keys * a.dim)
    (List.range (a.keys * a.dim)).map (fun i =>
      if (List.range a.rows).any (fun r => live r && allowed r (i / a.dim)) then freeVal s (k0 + i) % 2 ^ 32
      else fieldAt old (4 * i) 4)
  let dk := grad a.dK ck n
  let dv := grad a.dV cv (n + a.keys * a.dim)
  let s := attnPut s co a.dQ (wordsBytes dq) ready
  let s := attnPut s ck a.dK (wordsBytes dk) ready
  useFree (attnPut s cv a.dV (wordsBytes dv) ready)

/-! ### Cell mode (R166, R172) -/

/-- An ATTN_CELL command: it takes the cell's matrix, vector and special-function units together (R156). Its operands are read
at the issue step. -/
def attnCell (s : State) (c addr : Nat) (back : Bool) : State :=
  match cellLaunch s c with
  | none => s
  | some r =>
    let a := attnCmdOf (cmdBytes s c r.step addr)
    let info := attnRead s c r.step a.info 16
    let chk := attnCheck a false info
    if a.back ≠ back then s
    else
      issueInstr s c 6 (if chk.isSome then 0 else cellBusy a) true (fun s r _ =>
        match chk with
        | some st => attnFault s c addr st
        | none =>
          let ready := r.step + cellBusy a + 10
          if back then backward s a info r.step ready c c c
          else
            let q := attnRead s c r.step a.q (a.rows * a.dim * fmtBytes a.qFmt)
            let prev := if a.cont then attnRead s c r.step a.o (a.rows * a.dim * fmtBytes a.oFmt) ++
              attnRead s c r.step a.stat (2 * statBytes a * a.rows) else []
            let table := if a.biasEn then attnRead s c r.step a.bias (2176 * (a.head0 + a.heads)) else []
            let l := forwardRows a info q prev table (ringRow s c r.step a.k a.kFmt a.dim a.ring)
              (ringRow s c r.step a.v a.vFmt a.dim a.ring) (fun row i => freeVal s (1000 * row + i))
            let s := attnPut s c a.o (rowsOut a l) ready
            let s := if a.saveStat then attnPut s c a.stat (rowsStat a l) ready else s
            useFree (addEmpty s (cellPart s c) (emptyCount a info l)))

def execAttnCell (c addr : Nat) (s : State) : Host.Outcome State Fault Refusal := .next (attnCell s c addr false)
def execAttnCellBackward (c addr : Nat) (s : State) : Host.Outcome State Fault Refusal := .next (attnCell s c addr true)

/-! ### Pipe mode (R156, R163 to R165, R172) -/

/-- Cell of a row of the pipe's quad. -/
def quadCell (q row : Nat) : Nat := 4 * q + row

/-- A fault of a pipe command (R173). -/
def attnPipeFault (s : State) (q c addr : Nat) (st : Status) : State :=
  let n := (pipePhys s q).getD (quadHome q)
  let s := raiseIrq (attnFault s c addr st) 1 n Irq.APIPE_CMD_FAULT
  wr (wr (wr s R.APIPE_FAULT_KIND 2 n) R.APIPE_FAULT_CELL c n) R.APIPE_FAULT_CMD_ADDR addr n

/-- An ATTN_PIPE command issues in the pipe of the cell's quad (R156); a pipe that is busy is a stream fault (R74). -/
def attnPipe (s : State) (c addr : Nat) (back : Bool) : State :=
  match cellLaunch s c with
  | none => s
  | some r =>
    let q := c / 4
    let a := attnCmdOf (cmdBytes s c r.step addr)
    let info := attnRead s (quadCell q a.rowsQ) r.step a.info 16
    if a.back ≠ back then s
    else
      issueInstr s c 0 0 ((pipe s q).free ≤ r.step) (fun s r _ =>
        match attnCheck a true info with
        | some st => attnPipeFault s q c addr st
        | none =>
          let n := (pipePhys s q).getD (quadHome q)
          let y := { pipe s q with free := r.step + pipeBusy a, by_ := c, cmd := addr }
          let s := wr s R.APIPE_STAT_BUSY 1 n
          if back then
            backward (setPipe s q y) a info r.step (r.step + pipeBusy a + 6) (quadCell q a.rowsK)
              (quadCell q a.rowsV) (quadCell q a.rowsO)
          else
            let j : PipeJob :=
              { cell := c, addr := addr, issue := r.step, cmd := cmdBytes s c r.step addr, info := info,
                q := attnRead s (quadCell q a.rowsQ) r.step a.q (a.rows * a.dim * fmtBytes a.qFmt) }
            useFree (setPipe s q { y with job := some j }))

def execAttnPipe (c addr : Nat) (s : State) : Host.Outcome State Fault Refusal := .next (attnPipe s c addr false)
def execAttnPipeBackward (c addr : Nat) (s : State) : Host.Outcome State Fault Refusal := .next (attnPipe s c addr true)

/-- Takes `n` bytes from a pipe's key-value window. -/
def takeWin (s : State) (q n : Nat) : Option (State × List Byte) :=
  let y := pipe s q
  if y.win.length < n then none else some (setPipe s q { y with win := y.win.drop n }, y.win.take n)

/-- Keys of block `i`, from their ring slots (R158, R163). -/
def blockRing (s : State) (c step base fmt dim ring keys i : Nat) : List Byte :=
  let n := dim * fmtBytes fmt
  (List.range (min 16 (keys - 16 * i))).flatMap (fun t =>
    let sl := (16 * i + t) % ring
    (attnRead s c step base ((sl + 1) * n)).drop (sl * n))

def modJob (s : State) (q : Nat) (f : PipeJob → PipeJob) : State :=
  setPipe s q { pipe s q with job := (pipe s q).job.map f }

/-- A block of K or V is read at the first step of its window (R163, R165). -/
def readBlock (s : State) (q step i : Nat) (a : AttnCmd) (j : PipeJob) (isV : Bool) : State :=
  let fmt := if isV then a.vFmt else a.kFmt
  let app := fun (s : State) (d : List Byte) => modJob s q (fun j => if isV then { j with v := j.v ++ d } else { j with k := j.k ++ d })
  if a.kvWin then
    match takeWin s q (16 * a.dim * fmtBytes fmt) with
    | some (s, d) => app s d
    | none =>
      let n := (pipePhys s q).getD (quadHome q)
      let s := raiseIrq (planFaultAt s j.cell j.addr) 1 n Irq.APIPE_CMD_FAULT
      let s := wr (wr (wr s R.APIPE_FAULT_KIND 3 n) R.APIPE_FAULT_CELL j.cell n) R.APIPE_FAULT_CMD_ADDR j.addr n
      setPipe s q { pipe s q with job := none }
  else
    app s (blockRing s (quadCell q (if isV then a.rowsV else a.rowsK)) step (if isV then a.v else a.k) fmt a.dim a.ring a.keys i)

/-- A forward pipe command ends: its rows are written to the store or the output window (R163, R165, R168, R170). -/
def finishPipe (s : State) (p q step : Nat) (a : AttnCmd) (j : PipeJob) : State :=
  let cb := quadCell q a.rowsQ
  let table := if a.biasEn then attnRead s cb step a.bias (2176 * (a.head0 + a.heads)) else []
  let row := fun fmt (d : List Byte) i => rowVals fmt a.dim (d.drop (i * a.dim * fmtBytes fmt))
  let l := forwardRows a j.info j.q j.prev table (row a.kFmt j.k) (row a.vFmt j.v) (fun r i => freeVal s (1000 * r + i))
  let n := (pipePhys s q).getD (quadHome q)
  let s := setPipe s q { pipe s q with job := none }
  let e := emptyCount a j.info l
  let s := incWrap (addEmpty s p e) R.APIPE_EMPTY e n
  let out := rowsOut a l
  let stat := if a.saveStat then rowsStat a l else []
  let co := quadCell q a.rowsO
  let ready := j.issue + pipeBusy a + 6
  if a.oWin then
    let y := pipe s q
    if 65536 < y.out.length + out.length + stat.length then
      let s := raiseIrq (planFaultAt s j.cell j.addr) 1 n Irq.APIPE_CMD_FAULT
      useFree (wr (wr (wr s R.APIPE_FAULT_KIND 4 n) R.APIPE_FAULT_CELL j.cell n) R.APIPE_FAULT_CMD_ADDR j.addr n)
    else useFree (setPipe s q { y with out := y.out ++ out ++ stat })
  else
    let s := attnPut s co a.o out ready
    useFree (if a.saveStat then attnPut s co a.stat stat ready else s)

/-- What a pipe's forward command does in a step (R163, R164). -/
def advancePipe (p step : Nat) (s : State) (q : Nat) : State :=
  match (pipe s q).job with
  | none => s
  | some j =>
    let a := attnCmdOf j.cmd
    let c := a.dim * attnWidth a
    let nb := (a.keys + 15) / 16
    let t0 := j.issue + queryLoad a + contLoad a
    let s := if a.cont && step = j.issue + queryLoad a then
        let d := attnRead s (quadCell q a.rowsO) step a.o (a.rows * a.dim * fmtBytes a.oFmt) ++
          attnRead s (quadCell q a.rowsO) step a.stat (2 * statBytes a * a.rows)
        modJob s q (fun j => { j with prev := d })
      else s
    let s := if t0 ≤ step && (step - t0) % c = 0 then
        let i := (step - t0) / c
        let s := if 0 < i && i ≤ nb then readBlock s q step (i - 1) a j true else s
        if i < nb && (pipe s q).job.isSome then readBlock s q step i a j false else s
      else s
    match (pipe s q).job with
    | some j => if step + 1 = j.issue + pipeBusy a then finishPipe s p q step a j else s
    | none => s

end Sys2Proof.Machine
end

