-- ==== Sys2Proof/Machine/Waggle.lean ====
section
/-!
DEFINITION. The meanings of the Waggle links' commands: port control, training, frames, replay, rekeying and the reports of
peers (chapter 12).
-/

namespace Sys2Proof.Machine

/-! ### Port control (R301, R315) -/

/-- A write of WAG_CTL of a port: MIN_WIDTH and MAX_GEN take their values; ENABLE starts or stops the port; RETRAIN takes an UP
port down with cause DISABLED, and it trains at once. -/
def wagControl (s : State) (w : Writer) (p v : Nat) : State :=
  let was := rd s R.WAG_CTL_ENABLE p
  let served := pageServed s 13 p
  let s := wordWrite s w 13 p 0x100 v
  let en := rd s R.WAG_CTL_ENABLE p
  if !served then s
  else
    let s := if was = 1 && en = 0 then
        let s := portDown s p 7
        let s := setPort s p {}
        wr (wr (wr (wr (wr s R.WAG_STAT_STATE 0 p) R.WAG_STAT_WIDTH 0 p) R.WAG_STAT_DEGRADED 0 p) R.WAG_LANES_KEPT 0 p)
          R.WAG_LANES_LOCKED 0 p
      else if was = 0 && en = 1 && portState s p = 0 then startTraining s p
      else s
    if bitsOf v 5 1 = 1 && portUp s p then startTraining (portDown s p 7) p else s

/-- PORT_ENABLE: a write of WAG_CTL with ENABLE 1 (R315). -/
def execPortEnable (w : Writer) (p v : Nat) (s : State) : Host.Outcome State Fault Refusal :=
  .next (wagControl s w p (v % 32 / 2 * 2 + 1))
/-- PORT_DISABLE: a write of WAG_CTL with ENABLE 0 (R315). -/
def execPortDisable (w : Writer) (p v : Nat) (s : State) : Host.Outcome State Fault Refusal :=
  .next (wagControl s w p (v % 32 / 2 * 2))
/-- WAG_RETRAIN: a write of WAG_CTL with RETRAIN 1 (R301). -/
def execWagRetrain (w : Writer) (p v : Nat) (s : State) : Host.Outcome State Fault Refusal :=
  .next (wagControl s w p (v % 32 + 32))

/-! ### Training (R300) -/

def maskCount (m : Nat) : Nat := ((List.range 4).filter (fun i => m / 2 ^ i % 2 = 1)).length

/-- TRAINING_PHASE_DONE (R298, R300): the order in hand is done. Order 3 keeps 4, 2 or 1 lanes, no fewer than MIN_WIDTH. -/
def execTrainingPhaseDone (p : Nat) (i : PhaseInfo) (s : State) : Host.Outcome State Fault Refusal :=
  .next (
    let x := port s p
    if portState s p ≠ 1 then s
    else
      match x.order with
      | 1 => wr (setPort s p { x with order := 2 }) R.WAG_LANES_LOCKED i.lanes p
      | 2 => wr (wr (setPort s p { x with order := 3, peerGen := i.gen }) R.WAG_PEER_MODULE i.module p) R.WAG_PEER_PORT i.peerPort p
      | 3 =>
        let n := maskCount i.lanes
        if !([1, 2, 4].contains n) || n < 2 ^ rd s R.WAG_CTL_MIN_WIDTH p then s
        else
          let g := min x.peerGen (rd s R.WAG_CTL_MAX_GEN p)
          let s := wr (wr (setPort s p { x with order := 4 }) R.WAG_LANES_KEPT i.lanes p) R.WAG_STAT_WIDTH n p
          wr (wr s R.WAG_STAT_GEN (b2n (2 ≤ g)) p) R.WAG_STAT_DEGRADED (b2n (n < 4)) p
      | 4 => wr (setPort s p { x with order := 5 }) R.WAG_STAT_STATE 2 p
      | _ => s)

/-- A port that fails training goes DOWN, and the wait before its next attempt doubles, from 1 ms up to 1 s (R300, R301). -/
def trainFail (s : State) (p cause : Nat) : State :=
  let x := port s p
  let s := setPort s p { wait := min 1000 (2 * x.wait), since := s.now, downAt := x.downAt }
  wr (wr s R.WAG_STAT_STATE 4 p) R.WAG_STAT_DOWN_CAUSE cause p

/-- Bound of an order of R300 in ns. -/
def trainBound : Nat → Nat
  | 1 => 20000000
  | 2 => 1000000
  | 3 => 30000000
  | 4 => 1000000
  | _ => 10000000

/-- TRAINING_BOUND_EXPIRY (R300, R315). -/
def execTrainingBoundExpiry (p : Nat) (s : State) : Host.Outcome State Fault Refusal :=
  .next (
    if portState s p = 1 then trainFail s p 8
    else if portState s p = 2 then trainFail s p 5
    else s)

/-- LINK_KEY_EXCHANGE (R300, R314, R366, R390): the peer's chain and signature verify, and it does not report debug open. In KEYING
success brings the link up and failure ends training; a rekey's new keys wait for the first frame under them. -/
def execLinkKeyExchange (p : Nat) (chainOk sigOk peerDebug : Bool) (s : State) : Host.Outcome State Fault Refusal :=
  .next (
    let ok := chainOk && sigOk && !peerDebug && !debugOpen s
    if portState s p = 2 then (if ok then linkUp s p else trainFail s p 5)
    else if portUp s p && (port s p).rekeying && ok then
      setPort s p { port s p with newTx := true, newRx := true, rekeying := false }
    else s)

/-- RETRAIN_WAIT_EXPIRY (R301, R315): the wait of a DOWN port ends. -/
def execRetrainWaitExpiry (p : Nat) (s : State) : Host.Outcome State Fault Refusal :=
  .next (
    let x := port s p
    if portState s p = 4 && rd s R.WAG_CTL_ENABLE p = 1 && rd s R.WAG_STAT_DOWN_CAUSE p ≠ 7 then
      startTraining (reachTime s (x.since + 1000000 * x.wait)) p
    else s)

/-! ### Sending (R302 to R313) -/

/-- A frame's class on a port of this module (R311). -/
def frameClass (s : State) (p : Nat) (m : OutMsg) : Nat := b2n (m.dateline || wrapLink s p)

/-- The channel has a frame and a credit for it (R308). -/
def canSend (s : State) (p : Nat) (x : WPort) (v : Nat) : Bool :=
  match tget [] x.txq v with
  | m :: _ => 0 < tget 0 x.credits (2 * v + frameClass s p m)
  | [] => false

/-- The channel that sends next (R308): 1 first, then 0 and 3 in turn, then 2, which is given one frame in every 64. -/
def pickVc (s : State) (p : Nat) (x : WPort) : Option Nat :=
  let c := canSend s p x
  if c 2 && 63 ≤ x.sinceVc2 then some 2
  else if c 1 then some 1
  else if c 0 && (x.turn = 0 || !c 3) then some 0
  else if c 3 then some 3
  else if c 2 then some 2
  else none

/-- Bytes of a PEER_COPY's message in its next frame: offset, number, and the device range they come from (R309). -/
def copyChunk (src len sent : Nat) : Nat × Nat × Nat :=
  let n := min 576 (64 + len - sent)
  if sent = 0 then (n, src, n - 64) else (n, src + sent - 64, n)

/-- The next frame of a message, and what remains of it. -/
def nextFrame (s : State) (p : Nat) (m : OutMsg) : WFrame × Option OutMsg :=
  let base : WFrame := { vc := m.vc, src := m.src, dst := m.dst, hops := m.hops, dateline := m.dateline || wrapLink s p,
                         tenant := m.tenant, time := s.now, body := m.body, first := m.first, last := m.last, len := m.len,
                         off := m.off }
  match m.copy, m.body with
  | some (src, dst, len), .copyPart c _ _ =>
    let (n, a, k) := copyChunk src len m.sent
    let last := decide (64 + len ≤ m.sent + n)
    let body := Msg.copyPart c (if m.sent = 0 then some (m.tenant, dst, len) else none) (memBytes s a k)
    let f := { base with first := m.sent = 0, last := last, len := n, off := m.sent, body := body }
    (f, if last then none else some { m with sent := m.sent + n })
  | _, _ => (base, none)

/-- The header fields that every frame sent takes afresh (R305, R306, R313): epoch, counter, acknowledgement, NAK, credits. A new
key takes effect here, at its first frame (R314). -/
def stamp (s : State) (p : Nat) (f : WFrame) : State × WFrame :=
  let x := port s p
  let turned := x.newTx
  let x := if turned then { x with newTx := false, txEpoch := 1 - x.txEpoch, txCtr := 1 } else x
  let credit := (List.range 4).map (fun v => min 255 (tget 0 x.freed v))
  let f := { f with epoch := x.txEpoch, ctr := x.txCtr, ack := x.rxSeq, nak := x.nakOwed, credit := credit, time := s.now }
  let x := { x with txCtr := x.txCtr + 1, nakOwed := false,
                    nakFor := if x.nakOwed then some (x.rxSeq, s.now) else x.nakFor,
                    freed := (List.range 4).foldl (fun t v => tset 0 v (tget 0 t v - credit.getD v 0) t) x.freed }
  let s := wr (setPort s p x) R.WAG_TX_CTR x.txCtr p
  (if turned then irqEvent (incSat s R.WAG_REKEY_CNT p) 13 p Irq.WAG_REKEY 0 [] else s, f)

/-- A frame goes out on a port. -/
def putFrame (s : State) (p : Nat) (f : WFrame) : State :=
  let (s, f) := stamp s p f
  emit s (.frame p f)

/-- An idle frame (R302). -/
def sendIdle (s : State) (p : Nat) : State := putFrame s p { idle := true, src := hiveId s, dst := rd s R.WAG_PEER_MODULE p }

/-- A frame leaves the receive buffer it was forwarded from (R308). -/
def freeBuffer (s : State) (p v : Nat) : State :=
  let x := port s p
  setPort s p { x with freed := tset 0 v (tget 0 x.freed v + 1) x.freed }

/-- A new frame of a channel is built, numbered, kept for replay, and sent (R305, R308). A PEER_COPY that reads poisoned data
ends (R246). -/
def sendNew (s : State) (p v : Nat) : State :=
  let x := port s p
  match tget [] x.txq v with
  | [] => sendIdle s p
  | m :: rest =>
    let poisoned := match m.copy, m.body with
      | some (src, _, len), .copyPart _ _ _ =>
        let (_, a, k) := copyChunk src len m.sent
        rangePoison s a k
      | _, _ => false
    let cmd := match m.body with | .copyPart c _ _ => c | _ => 0
    if poisoned then endPeer (abortCopy s cmd) cmd .memPoison
    else
      let cl := frameClass s p m
      let (f, left) := nextFrame s p m
      let seq := (x.txSeq + 1) % 65536
      let f := { f with seq := seq }
      let x := { x with
        txq := tset [] v (left.toList ++ rest) x.txq, txSeq := seq
        credits := tset 0 (2 * v + cl) (tget 0 x.credits (2 * v + cl) - 1) x.credits
        outst := tset [] v (tget [] x.outst v ++ [cl]) x.outst
        replay := x.replay ++ [{ frame := f, sent := s.now }]
        sinceVc2 := if v = 2 then 0 else x.sinceVc2 + 1, turn := if v = 0 then 1 else if v = 3 then 0 else x.turn }
      let s := showReplay (setPort s p x) p
      let s := match m.inPort with | some q => freeBuffer s q v | none => s
      putFrame s p f

/-- A held frame is sent again (R306). -/
def sendAgain (s : State) (p : Nat) (f : WFrame) (rest : List WFrame) : State :=
  let x := port s p
  let held := x.replay.map (fun h => if h.frame.seq = f.seq then { h with sent := s.now } else h)
  putFrame (showReplay (setPort s p { x with resend := rest, replay := held }) p) p f

/-- Device range of the next frame of the message at the head of a channel, for a PEER_COPY, and its queue. -/
def headCopy (s : State) (p : Nat) : Option Nat :=
  match pickVc s p (port s p), tget [] (port s p).txq 0 with
  | some 0, m :: _ => match m.copy, m.body with
    | some _, .copyPart c _ _ => (tget none s.wag.cmds c).map (fun c => c.queue)
    | _, _ => none
  | _, _ => none

/-- FRAME_TRANSMIT (R302, R305 to R308, R314): an UP port sends its next frame: a replayed one first, then a new one while the
replay buffer has room and the port is not leaving, otherwise an idle one. `env` is what reading device memory met. -/
def execFrameTransmit (p : Nat) (env : MemEnv) (s : State) : Host.Outcome State Fault Refusal :=
  .next (
    let x := port s p
    if !portUp s p || x.idle then s
    else if 2 ^ 48 - 2 ^ 20 ≤ x.txCtr && !x.newTx then portDown s p 4
    else
      match x.resend with
      | f :: rest => sendAgain s p f rest
      | [] =>
        if x.leaving.isSome || 409 ≤ x.replay.length then sendIdle s p
        else
          match headCopy s p with
          | some q =>
            let s := readFails s (.copy q) env
            if waitsReRead s (.copy q) then sendIdle s p else sendNew s p 0
          | none =>
            match pickVc s p x with
            | some v => sendNew s p v
            | none => sendIdle s p)

/-! ### Receiving (R304, R305, R308 to R312) -/

/-- A frame is discarded, and a NAK is owed for the last frame accepted, unless one for it went out within 2 µs (R305). -/
def discardFrame (s : State) (p : Nat) : State :=
  let x := port s p
  match x.nakFor with
  | some (a, t) =>
    if a = x.rxSeq && s.now < t + 2000 then s else setPort s p { x with nakOwed := true }
  | none => setPort s p { x with nakOwed := true }

/-- A frame for another module is put on the port of its route, or dropped with the rest of its message (R310 to R312). -/
def forwardFrame (s : State) (p : Nat) (f : WFrame) : State :=
  let x := port s p
  let key := (f.src, f.vc)
  let dropping := x.drop.contains key && !f.first
  let clear := setPort s p { x with drop := x.drop.filter (· ≠ key) }
  let out := routePort (hiveId s) f.dst
  match out with
  | none => freeBuffer s p f.vc
  | some o =>
    if dropping then freeBuffer (if f.last then clear else s) p f.vc
    else if !portUp s o then
      let s := if f.last then clear else setPort s p { x with drop := key :: x.drop.filter (· ≠ key) }
      tellUnreachable (freeBuffer s p f.vc) f.src f.body
    else
      enqueue clear o { vc := f.vc, src := f.src, dst := f.dst, tenant := f.tenant, hops := f.hops + 1,
                        dateline := f.dateline && o / 2 = p / 2, body := f.body, first := f.first, last := f.last, len := f.len,
                        off := f.off, inPort := some p }

/-- The report of an incoming copy to its sender (R309). -/
def reportCopy (s : State) (c : InCopy) (st : Status) : State := sendMsg s c.src 0 c.tenant (.copyReport c.cmd c.done st)

/-- Why an incoming copy is not written (R240, R278, R296, R382). -/
def copyRefused (s : State) (t a n : Nat) : Option Status :=
  if n < 1 || 0xFFFFFFFE < n || 2 ^ 64 < a + n then some .lengthRange
  else if tenState s t = 2 then some .tenantRetiring
  else accessFail s t a n

/-- Data of an incoming copy is accepted (R309): a report goes out after each 65,536 bytes and after the last byte. -/
def acceptCopy (s : State) (c : InCopy) (data : List Byte) (last : Bool) (writeBad : List Nat) : State :=
  let others := s.wag.copies.filter (fun d => !(d.src = c.src && d.cmd = c.cmd))
  let keep := fun (s : State) (c : InCopy) => { s with wag := { s.wag with copies := if last then others else others ++ [c] } }
  if c.bad.isSome then keep s c
  else if tenState s c.tenant = 2 then reportCopy (keep s { c with bad := some .tenantRetiring }) c .tenantRetiring
  else
    let d := data.take c.left
    let clean := if mergePoison s c.addr d.length then cleanLen s c.addr d.length else d.length
    let s := writeBad.foldl writePathBad (memWrite s c.addr d)
    let c' := { c with addr := c.addr + d.length, left := c.left - d.length, done := c.done + clean }
    if clean < d.length then reportCopy (keep s { c' with bad := some .memPoison }) c' .memPoison
    else
      let s := keep s c'
      if c'.left = 0 then reportCopy s c' .ok
      else if c.done / 65536 < c'.done / 65536 then reportCopy s { c' with done := c'.done / 65536 * 65536 } .ok
      else s

/-- A REMOTE_SIGNAL is applied for its tenant, and answered (R278, R284). -/
def acceptSignal (s : State) (src cmd t c : Nat) (set : Bool) (v : Nat) : State :=
  if tenState s t = 2 then sendMsg s src 1 0 (.signalReport cmd .tenantRetiring)
  else sendMsg (signalUpdate s t c set v) src 1 0 (.signalReport cmd (if c / 4096 = t then .ok else .tenantMismatch))

/-- What an accepted frame for this module does here. A message whose arrival the table lists is a command of its own. -/
def deliverFrame (s : State) (p : Nat) (f : WFrame) (writeBad : List Nat) : State :=
  match f.body with
  | .copyPart n (some (t, a, len)) data =>
    let c : InCopy := { src := f.src, cmd := n, tenant := t, addr := a, left := len, inPort := p }
    match copyRefused s t a len with
    | some st =>
      let s := if f.last then s else { s with wag := { s.wag with copies := s.wag.copies ++ [{ c with bad := some st }] } }
      reportCopy s c st
    | none => acceptCopy s c data f.last writeBad
  | .copyPart n none data =>
    match s.wag.copies.find? (fun c => c.src = f.src && c.cmd = n) with
    | some c => acceptCopy s c data f.last writeBad
    | none => s
  | .remoteSignal n t c set v => acceptSignal s f.src n t c set v
  | .signalReport n st => endPeer s n st
  | _ => s

/-- An authenticated frame: its acknowledgements are applied; it is accepted in sequence or discarded (R304, R305). -/
def takeFrame (s : State) (p : Nat) (f : WFrame) (e : RxEnv) : State :=
  let s := applyAck s p f.ack f.credit
  let s := if f.nak && portUp s p then startReplay s p else s
  let x := port s p
  if !portUp s p then s
  else if f.idle then setPort s p { x with rxCtr := f.ctr }
  else if f.seq ≠ (x.rxSeq + 1) % 65536 then discardFrame s p
  else
    let s := setPort s p { x with rxCtr := f.ctr, rxSeq := f.seq }
    if 576 < f.len || 12 < f.hops || e.reserved then portDown s p 3
    else if !portCarries p f.vc then freeBuffer (incSat s R.WAG_VC_DROP_CNT p) p f.vc
    else if f.dst = hiveId s || 6 ≤ p then deliverFrame (freeBuffer s p f.vc) p f e.writeBad
    else forwardFrame s p f

/-- FRAME_RECEIVE (R302, R304, R305, R313, R314). -/
def execFrameReceive (p : Nat) (f : WFrame) (e : RxEnv) (s : State) : Host.Outcome State Fault Refusal :=
  .next (
    if !portUp s p then s
    else
      let s := addSat s R.WAG_FEC_CE_CNT e.fixed p
      if !e.fecOk then discardFrame (incSat s R.WAG_FEC_UE_CNT p) p
      else if !e.tagOk then discardFrame (incSat s R.WAG_TAG_FAIL_CNT p) p
      else
        let x := port s p
        if f.epoch ≠ x.rxEpoch && x.newRx then
          takeFrame (setPort s p { x with rxEpoch := f.epoch, newRx := false, rxCtr := 0 }) p f e
        else if f.epoch ≠ x.rxEpoch || f.ctr ≤ x.rxCtr then discardFrame s p
        else takeFrame s p f e)

/-! ### Timers and down events -/

/-- REPLAY_TIMER_EXPIRY (R306): the oldest unacknowledged frame has waited 8 µs. -/
def execReplayTimerExpiry (p : Nat) (s : State) : Host.Outcome State Fault Refusal :=
  .next (match (port s p).replay with
  | h :: _ => if portUp s p && (port s p).resend.isEmpty then startReplay (reachTime s (h.sent + 8000)) p else s
  | [] => s)

/-- REPLAY_BUDGET_EXPIRY (R307): the oldest frame's 64 µs have run out without an acknowledgement. -/
def execReplayBudgetExpiry (p : Nat) (s : State) : Host.Outcome State Fault Refusal :=
  .next (match (port s p).replay with
  | h :: _ => match h.since with
    | some t => if portUp s p then portDown (reachTime s (t + 64000)) p 1 else s
    | none => s
  | [] => s)

/-- LANE_LOCK_LOSS (R315): lock is lost on lanes of the mask. -/
def execLaneLockLoss (p mask : Nat) (s : State) : Host.Outcome State Fault Refusal :=
  .next (
    let locked := rd s R.WAG_LANES_LOCKED p
    let s := wr s R.WAG_LANES_LOCKED (locked &&& (15 - mask % 16)) p
    if portUp s p && rd s R.WAG_LANES_KEPT p &&& mask % 16 ≠ 0 then portDown s p 2 else s)

/-- A leaving notice over WAG[6] (R358): the standby takes over, the active goes on alone; nothing is ended here. -/
def twinPeerLeft (s : State) : State :=
  let st := twinState s
  if 1 ≤ st && st ≤ 3 then
    let role := twinRole s
    let s := twinCause { s with twin := { s.twin with left := true, test := none } } 6
    if role = 2 then becomeActive s else setTwinState (twinReset s) 0
  else s

/-- LEAVING_NOTICE (R315, R340, R341, R358): no new frame is sent; the frames sent have up to 100 µs to be acknowledged. -/
def execLeavingNotice (p : Nat) (s : State) : Host.Outcome State Fault Refusal :=
  .next (
    if !portUp s p then s
    else
      let s := setPort s p { port s p with leaving := some s.now }
      let s := if p = 6 then twinPeerLeft s else hiveLeaving s p
      if (port s p).replay.isEmpty then portDown s p 6 else s)

/-- LEAVING_WAIT_EXPIRY (R315). -/
def execLeavingWaitExpiry (p : Nat) (s : State) : Host.Outcome State Fault Refusal :=
  .next (match (port s p).leaving with
  | some t => portDown (reachTime s (t + 100000)) p 6
  | none => s)

/-- REKEY_START (R314): a direction's counter has reached 2^47. -/
def execRekeyStart (p : Nat) (s : State) : Host.Outcome State Fault Refusal :=
  .next (
    let x := port s p
    if portUp s p && 2 ^ 47 ≤ x.txCtr && !x.rekeying && !x.newTx then
      sendOn (setPort s p { x with rekeying := true }) p 1 .rekey
    else s)

/-- REKEY_DEADLINE (R314): no new key is in force by counter 2^48 − 2^20. -/
def execRekeyDeadline (p : Nat) (s : State) : Host.Outcome State Fault Refusal :=
  .next (
    let x := port s p
    if portUp s p && 2 ^ 48 - 2 ^ 20 ≤ x.txCtr && !x.newTx then portDown s p 4 else s)

/-! ### Reports of peers -/

/-- UNREACHABLE_REPORT (R312): the originating command completes LINK_DOWN. -/
def execUnreachableReport (cmd : Option Nat) (s : State) : Host.Outcome State Fault Refusal :=
  .next (match cmd with
  | some n => endPeer s n .linkDown
  | none => s)

/-- COPY_ACCEPT_REPORT (R278, R309): the bytes accepted so far; the command ends with the peer's status, or once every byte is
accepted. -/
def execCopyAcceptReport (cmd bytes : Nat) (st : Status) (s : State) : Host.Outcome State Fault Refusal :=
  .next (match tget none s.wag.cmds cmd with
  | none => s
  | some c =>
    let s := { s with wag := { s.wag with cmds := tset none cmd (some { c with done := min bytes c.length }) s.wag.cmds } }
    if c.ending.isSome then endPeer s cmd (c.ending.getD .ok)
    else if st ≠ .ok then endPeer (abortCopy s cmd) cmd st
    else if c.length ≤ bytes then endPeer s cmd .ok
    else s)

/-- COPY_ABORT (R382): an incoming message ends where it is, with a last report. -/
def execCopyAbort (src cmd : Nat) (s : State) : Host.Outcome State Fault Refusal :=
  .next (match s.wag.copies.find? (fun c => c.src = src && c.cmd = cmd) with
  | some c => reportCopy { s with wag := { s.wag with copies := s.wag.copies.filter (fun c => !(c.src = src && c.cmd = cmd)) } } c .ok
  | none => s)

/-- REF_LOST (R317): the recovered clock of the upstream port loses lock. -/
def execRefLost (s : State) : Host.Outcome State Fault Refusal := .next (refLost s)

end Sys2Proof.Machine
end

