-- ==== Sys2Proof/Machine/Hive.lean ====
section
/-!
DEFINITION. The meanings of the hive's commands: formation, time, barriers, suspects and expulsion, loss of members and of the
queen, and progress reports (chapter 13).
-/

namespace Sys2Proof.Machine

/-! ### Formation (R318 to R326) -/

/-- Firmware enables the torus ports whose neighbour lies in the shape and disables the others (R320). -/
def shapePorts (s : State) (sh : List Nat) : State :=
  (List.range 6).foldl (fun s p =>
    let v := rd s R.WAG_CTL_MIN_WIDTH p * 8 + rd s R.WAG_CTL_MAX_GEN p * 2
    let want := inShape sh (neighbour (hiveId s) p)
    if want && rd s R.WAG_CTL_ENABLE p = 0 then wagControl s .firmware p (v + 1)
    else if !want && rd s R.WAG_CTL_ENABLE p = 1 then wagControl s .firmware p v
    else s) s

/-- `WAG[7]` is enabled only on the queen and the deputy, when both have the bypass wired (R320). -/
def bypassPort (s : State) (on : Bool) : State :=
  let v := rd s R.WAG_CTL_MIN_WIDTH 7 * 8 + rd s R.WAG_CTL_MAX_GEN 7 * 2
  if on && rd s R.WAG_CTL_ENABLE 7 = 0 then wagControl s .firmware 7 (v + 1)
  else if !on && rd s R.WAG_CTL_ENABLE 7 = 1 then wagControl s .firmware 7 v
  else s

/-- The module has no upstream port: it runs from its TCXO (R317, R326). -/
def noUpstream (s : State) : State := setQuality (wr (wr (wr s R.WAG_REF_NONE 1) R.WAG_REF_LOCKED 0) R.MERID_STAT_DEPTH 0) 0

/-- Generations start again at 0 (R324). -/
def clearGens (s : State) : State :=
  (List.range 64).foldl (fun s b => wr s R.HIVE_BAR_GEN 0 0 b) { s with hive := { s.hive with bars := [] } }

/-- The first formation after cold reset takes the count from MERID_SET or the calendar clock (R331). -/
def firstTime (s : State) : State :=
  let s := if s.hive.timed then s
    else stepTime s (if rd s R.MERID_CFG = 1 then rd s R.MERID_SET else s.rtc * 1000000000 / 32768)
  { s with hive := { s.hive with timed := true } }

/-- The queen's count at order 5 (R331): her own, stepped to the latest count reported, each carried on by the time since its
join came. -/
def queenTime (s : State) : State :=
  stepTime (firstTime s) ((s.hive.joins.map (fun j => j.time + (s.now - j.at_))).foldl max 0)

/-- A hive of one (R319, R323), which is its own queen for Meridian time. -/
def formAlone (s : State) : State :=
  let s := wr (wr (wr s R.HIVE_ID_ID (rd s R.HIVE_ID_ID_CFG)) R.HIVE_ROLE_ROLE 0) R.HIVE_ROLE_CONFLICT 0
  let s := setDeputy (setMembers (wr s R.HIVE_STAT_QUEEN (hiveId s)) [hiveId s]) 0x1FF
  let s := setHiveState (clearGens (noUpstream { s with hive := { s.hive with order := 0, claimed := none, stopAt := none } })) 2
  irqEvent (firstTime s) 14 0 Irq.HIVE_FORMED 0 []

/-- Order 2 of R324: the module holds the queen's role and waits for its ports. -/
def beginRestart (s : State) : State :=
  let s := if isQueen s then s else { s with hive := { s.hive with expels := [], kept := [] } }
  let s := wr s R.HIVE_ROLE_ROLE 3
  let sh := shapeRegs s
  shapePorts { s with hive := { s.hive with order := 2, since := s.now, shape := sh, stopAt := none, joins := [], claimed := none } } sh

/-- A restart by a module whose ROLE_CFG is 3 (R324): order 1 stops a running hive. -/
def restartHive (s : State) : State :=
  let s := if hiveState s = 2 then
      leaveHive ((otherMembers s).foldl (fun s m => sendMsg s m 1 0 .stop) s) 4 else s
  beginRestart (wr (wr s R.HIVE_ID_ID (rd s R.HIVE_ID_ID_CFG)) R.HIVE_ROLE_CONFLICT 0)

/-- HIVE_RESTART (R324). -/
def execHiveRestart (w : Writer) (auto : Bool) (s : State) : Host.Outcome State Fault Refusal :=
  .next (
    let s' := wordWrite s w 14 0 0x100 (2 * b2n auto + 1)
    if !actionTaken s w 14 0 then s'
    else if rd s' R.HIVE_ROLE_ROLE_CFG ≠ 3 then refuseWrite s' 14 0 0x100 .fieldReserved
    else restartHive s')

/-- FORMATION_PORT_WAIT_END (R324, order 3): a new epoch, and the call to every position of the shape. -/
def execFormationPortWaitEnd (s : State) : Host.Outcome State Fault Refusal :=
  .next (
    if s.hive.order ≠ 2 then s
    else
      let s := reachTime s (s.hive.since + rd s R.HIVE_FORM_CFG_WAIT * 1000000)
      let s := wr s R.HIVE_EPOCH (rd s R.HIVE_EPOCH + 1)
      let e := rd s R.HIVE_EPOCH
      let sh := s.hive.shape
      let s := { s with hive := { s.hive with order := 4, since := s.now, joins := [], claimed := some (e, hiveId s) } }
      ((List.range 512).filter (fun m => inShape sh m && m ≠ hiveId s)).foldl (fun s m =>
        sendMsg s m 1 0 (.formationCall e sh)) (setHiveState s 1))

/-- Code of an extent in HIVE_SHAPE. -/
def extentCode (n : Nat) : Nat := if n = 8 then 4 else n - 1

/-- The module answers a formation call with a join (R323, R324). -/
def sendJoin (s : State) (src epoch : Nat) (sh : List Nat) : State :=
  let s := wr (wr s R.HIVE_ID_ID (rd s R.HIVE_ID_ID_CFG)) R.HIVE_ROLE_ROLE 0
  let s := wr (wr (wr s R.HIVE_SHAPE_EX (extentCode (sh.getD 0 1))) R.HIVE_SHAPE_EY (extentCode (sh.getD 1 1)))
    R.HIVE_SHAPE_EZ (extentCode (sh.getD 2 1))
  let s := wr (wr (wr s R.HIVE_SHAPE_X0 (sh.getD 3 0)) R.HIVE_SHAPE_Y0 (sh.getD 4 0)) R.HIVE_SHAPE_Z0 (sh.getD 5 0)
  let s := { s with hive := { s.hive with shape := sh, claimed := some (epoch, src), since := s.now, order := 0, stopAt := none } }
  sendMsg (setHiveState (shapePorts s sh) 1) src 1 0 (.join (hiveId s) (rd s R.HIVE_ROLE_ROLE_CFG) s.now (groupId s))

/-- FORMATION_CALL (R319, R322, R323): a claimant yields to a call of a higher epoch, or of its own epoch from a lower ID; a
module that waits, is stopped, expelled or forming joins. -/
def execFormationCall (src epoch : Nat) (shape : List Nat) (s : State) : Host.Outcome State Fault Refusal :=
  .next (
    let st := hiveState s
    if hiveOfOne s then (if st = 2 then s else formAlone s)
    else if s.hive.order = 4 || s.hive.order = 5 then
      match s.hive.claimed with
      | some (e, _) =>
        if e < epoch || (e = epoch && src < hiveId s) then wr (sendJoin s src epoch shape) R.HIVE_ROLE_CONFLICT 1 else s
      | none => s
    else if st = 1 then
      match s.hive.claimed with
      | some (e, q) => if e < epoch || (e = epoch && src < q) then sendJoin s src epoch shape else s
      | none => s
    else if st ≠ 2 && rd s R.HIVE_EPOCH < epoch then
      let o := s.hive.order
      let t := sendJoin s src epoch shape
      if o = 2 then { t with hive := { t.hive with order := 2, since := s.hive.since } } else t
    else s)

/-- JOIN (R324, order 4). -/
def execJoin (id role time : Nat) (group : List Nat) (s : State) : Host.Outcome State Fault Refusal :=
  .next (
    let j : Join := { id := id, role := role, time := time, group := group, at_ := s.now }
    if s.hive.order = 4 then { s with hive := { s.hive with joins := s.hive.joins ++ [j] } } else s)

/-- Joins that the queen accepts: in the shape, and of an ID that only one module presents (R318, R324). -/
def goodJoins (s : State) : List Join :=
  s.hive.joins.filter (fun j => inShape s.hive.shape j.id && j.id ≠ hiveId s &&
    (s.hive.joins.filter (fun k => k.id = j.id)).length = 1)

/-- The queen records each ID conflict; the spec names no code for the record, which is a free value. -/
def recordConflicts (s : State) : State :=
  ((s.hive.joins.map (fun j => j.id)).eraseDups).foldl (fun s i =>
    if 1 < (s.hive.joins.filter (fun k => k.id = i)).length || i = hiveId s then
      useFree (recordEvent s 14 0 (freeVal s 0 % 65536) 2 0 [i]) else s) s

/-- The deputy of a formation (R322). -/
def pickDeputy (s : State) (l : List Join) : Nat :=
  if rd s R.HIVE_DEPUTY_CFG_EN = 1 then
    (if l.any (fun j => j.id = rd s R.HIVE_DEPUTY_DEPUTY_CFG) then rd s R.HIVE_DEPUTY_DEPUTY_CFG else 0x1FF)
  else ((l.filter (fun j => j.role = 2)).map (fun j => j.id)).foldl min 0x1FF

/-- JOIN_WINDOW_END (R324, order 5). -/
def execJoinWindowEnd (bypass : Bool) (s : State) : Host.Outcome State Fault Refusal :=
  .next (
    if s.hive.order ≠ 4 then s
    else
      let s := reachTime s (s.hive.since + 50000000)
      let s := recordConflicts s
      let good := goodJoins s
      let told := ((s.hive.joins.map (fun j => j.id)).eraseDups).filter (fun m => m ≠ hiveId s)
      let dep := pickDeputy s good
      let s := queenTime s
      let l := (List.range 512).filter (fun m => m = hiveId s || good.any (fun j => j.id = m))
      let s := setMembers (setDeputy (wr (wr s R.HIVE_STAT_QUEEN (hiveId s)) R.HIVE_ROLE_ROLE 3) dep) l
      let s := (List.range 512).foldl (fun s m => wr s R.HIVE_MOD_STAT_STATE (b2n (l.contains m)) 0 m) s
      let s := setHiveState (loadShards (clearGens (noUpstream s))) 2
      let s := bypassPort s (bypass && dep ≠ 0x1FF)
      let s := { s with hive := { s.hive with order := 5, since := s.now, acks := [], adjust := 0, lastBeacon := s.now } }
      let s := told.foldl (fun s m => sendMsg s m 1 0 (.memberList (rd s R.HIVE_EPOCH) l dep (hiveId s) s.now)) s
      let s := sendGroupKey s ((good.filter (fun j => j.group ≠ groupId s)).map (fun j => j.id))
      if l.length ≤ 1 then irqEvent { s with hive := { s.hive with order := 0 } } 14 0 Irq.HIVE_FORMED 0 [] else s)

/-- A member takes its place (R323, R326, R331). -/
def enterHive (s : State) (src epoch : Nat) (l : List Nat) (deputy time : Nat) (bypass : Bool) : State :=
  let me := hiveId s
  let up := (arrivalPort src me).getD 0
  let s := wr (wr (wr s R.WAG_REF_UPSTREAM up) R.WAG_REF_NONE 0) R.WAG_REF_LOCKED (b2n (portUp s up))
  let s := wr s R.MERID_STAT_DEPTH (hops src me)
  let s := { s with hive := { s.hive with adjust := if s.now < time then 0 else -(16 * ((s.now - time : Nat) : Int)), clean := 0 } }
  let s := stepTime s time
  let s := wr (wr (wr s R.HIVE_EPOCH epoch) R.HIVE_STAT_QUEEN src) R.HIVE_ROLE_ROLE (if deputy = me then 2 else 1)
  let s := clearGens (setMembers (setDeputy s deputy) l)
  let s := bypassPort { s with hive := { s.hive with lastBeacon := s.now, claimed := none } } (bypass && deputy = me)
  let s := irqEvent (setHiveState s 2) 14 0 Irq.HIVE_FORMED 0 []
  sendMsg s src 1 0 (.ack me)

/-- MEMBER_LIST (R323). -/
def execMemberList (src epoch : Nat) (members : List Nat) (deputy time : Nat) (bypass : Bool) (s : State) :
    Host.Outcome State Fault Refusal :=
  .next (
    if hiveState s = 1 && s.hive.order = 0 && s.hive.claimed = some (epoch, src) then
      if members.contains (hiveId s) then enterHive s src epoch members deputy time bypass
      else setQuality (setHiveState { s with hive := { s.hive with claimed := none } } 0) 2
    else s)

/-- MEMBER_ACK (R324, order 6). -/
def execMemberAck (id : Nat) (s : State) : Host.Outcome State Fault Refusal :=
  .next (
    if s.hive.order = 5 && queenActs s && isMember s id then
      let s := { s with hive := { s.hive with acks := id :: s.hive.acks.filter (· ≠ id) } }
      if (otherMembers s).all (fun m => s.hive.acks.contains m) then
        irqEvent { s with hive := { s.hive with order := 0 } } 14 0 Irq.HIVE_FORMED 0 []
      else s
    else s)

/-- FORMATION_ACK_BOUND (R324, order 6). -/
def execFormationAckBound (s : State) : Host.Outcome State Fault Refusal :=
  .next (
    if s.hive.order = 5 && queenActs s then
      let s := reachTime s (s.hive.since + 20000000)
      let s := (otherMembers s).foldl (fun s m =>
        if s.hive.acks.contains m then s else wr s R.HIVE_MOD_STAT_STATE 0 0 m) s
      irqEvent { s with hive := { s.hive with order := 0 } } 14 0 Irq.HIVE_FORMED 0 []
    else s)

/-- FORMING_TIMEOUT (R323, R328). -/
def execFormingTimeout (s : State) : Host.Outcome State Fault Refusal :=
  .next (
    if hiveState s = 1 && s.hive.order = 0 then
      let s := reachTime s (s.hive.since + 200000000)
      setQuality (setHiveState { s with hive := { s.hive with claimed := none } } 0) 2
    else s)

/-- HIVE_STOP (R323, R327, R342). -/
def execHiveStop (s : State) : Host.Outcome State Fault Refusal := .next (if hiveOfOne s then s else hiveStopped s)

/-- WAITING_NOTICE (R325). -/
def execWaitingNotice (id : Nat) (s : State) : Host.Outcome State Fault Refusal :=
  .next (if queenActs s && !isMember s id then wr s R.HIVE_MOD_STAT_STATE 4 0 id else s)

/-! ### Beacons and queen loss (R321, R341, R342) -/

/-- BEACON_TIMER: the queen's beacon to the deputy, on the torus route and on `WAG[7]`. -/
def execBeaconTimer (s : State) : Host.Outcome State Fault Refusal :=
  .next (
    let d := rd s R.HIVE_DEPUTY_DEPUTY
    if queenActs s && d ≠ 0x1FF then sendOn (sendMsg s d 1 0 .beacon) 7 1 .beacon else s)

/-- QUEEN_BEACON. -/
def execQueenBeacon (s : State) : Host.Outcome State Fault Refusal :=
  .next (if hiveState s = 2 then { s with hive := { s.hive with lastBeacon := s.now } } else s)

/-- QUEEN_LOSS_TIMEOUT: a deputy has seen no beacon for QUEEN_LOSS ms. -/
def execQueenLossTimeout (s : State) : Host.Outcome State Fault Refusal :=
  .next (
    if hiveState s = 2 && rd s R.HIVE_ROLE_ROLE = 2 then
      declareQueenLoss (reachTime s (s.hive.lastBeacon + rd s R.HIVE_FORM_CFG_QUEEN_LOSS * 1000000))
    else s)

/-- QUEEN_TAKEOVER: the deputy takes the queen's role and restarts from order 2 of R324. -/
def execQueenTakeover (s : State) : Host.Outcome State Fault Refusal :=
  .next (match s.hive.stopAt with
  | some t => if hiveState s = 4 then beginRestart (reachTime s (t + 1000000)) else s
  | none => s)

/-! ### Meridian time (R328 to R331) -/

/-- Ports on which a module downstream takes its time from this one (R326). -/
def childPorts (s : State) : List Nat :=
  (List.range 6).filter (fun p =>
    let m := rd s R.WAG_PEER_MODULE p
    portUp s p && m ≠ rd s R.HIVE_STAT_QUEEN && isMember s m &&
      arrivalPort (rd s R.HIVE_STAT_QUEEN) m = some (if p % 2 = 0 then p + 1 else p - 1))

/-- TIME_EXCHANGE_TIMER: timestamped frames to the upstream neighbour, and to those downstream. -/
def execTimeExchangeTimer (s : State) : Host.Outcome State Fault Refusal :=
  .next (
    if hiveState s ≠ 2 || hiveOfOne s then s
    else
      let s := (childPorts s).foldl (fun s p => sendOn s p 2 (.timeStamp s.now)) s
      if rd s R.WAG_REF_NONE = 0 then sendOn s (rd s R.WAG_REF_UPSTREAM) 2 (.timeStamp s.now) else s)

/-- A signed number in a register of `n` bits. -/
def twosComp (n : Nat) (v : Int) : Nat := (v % 2 ^ n).toNat

/-- TIME_EXCHANGE: offset and delay are shown, the offset is to be corrected, and the second exchange in a row within the bound
of R330 locks the member. -/
def execTimeExchange (t1 t2 t3 t4 : Int) (s : State) : Host.Outcome State Fault Refusal :=
  .next (
    if hiveState s ≠ 2 || hiveOfOne s || isQueen s then s
    else
      let off := ((t2 - t1) - (t4 - t3)) / 2
      let s := wr (wr s R.MERID_OFFSET (twosComp 32 off)) R.MERID_DELAY (twosComp 32 (((t2 - t1) + (t4 - t3)) / 2))
      let clean := if off.natAbs ≤ 24 * rd s R.MERID_STAT_DEPTH + 32 then s.hive.clean + 1 else 0
      let s := { s with hive := { s.hive with adjust := -off, clean := clean } }
      if 2 ≤ clean && portUp s (rd s R.WAG_REF_UPSTREAM) && rd s R.WAG_REF_LOCKED = 1 then setQuality s 1 else s)

/-- MERID_SLEW_WRITE (R331). -/
def execMeridSlewWrite (w : Writer) (v : Nat) (s : State) : Host.Outcome State Fault Refusal :=
  .next (wordWrite s w 15 0 R.MERID_SLEW.off v)

/-! ### Barriers (R332 to R336) -/

/-- The arrival is from the shard's home. -/
def fromHome (s : State) (a : Arrival) : Bool :=
  match tget none s.hive.shards (512 * a.b + a.shard) with
  | some y => y.home = a.src
  | none => false

/-- BARRIER_ARRIVAL: of arrivals in one window, those from home modules come first (R336); then complete generations are
released. -/
def execBarrierArrival (l : List Arrival) (s : State) : Host.Outcome State Fault Refusal :=
  .next (
    let o := l.filter (fromHome s) ++ l.filter (fun a => !fromHome s a)
    let t := o.foldl (fun s a => takeArrival s a.src a.b a.g a.shard a.time) s
    if queenActs t then ((l.map (fun a => a.b)).eraseDups).foldl finishGen t else t)

/-- BARRIER_VERDICT (R336). -/
def execBarrierVerdict (b g v : Nat) (s : State) : Host.Outcome State Fault Refusal :=
  .next (if hiveState s = 2 then takeVerdict s b g v else s)

/-- BARRIER_RELEASE (R333, order 4). -/
def execBarrierRelease (b g : Nat) (s : State) : Host.Outcome State Fault Refusal :=
  .next (if hiveState s = 2 then takeRelease s b g else s)

/-- BACKUP_DELAY_EXPIRY (R335). -/
def execBackupDelayExpiry (b : Nat) (s : State) : Host.Outcome State Fault Refusal :=
  .next (
    let x := barGen s b
    let missing := (barShards s b).filter (fun e => (tget none x.commits e.1).isNone)
    if queenActs s && !missing.isEmpty && missing.length ≤ rd s R.HIVE_BACKUP_CFG_MAX_MISSING && !x.commits.isEmpty then
      let s := reachTime s (x.latest + rd s R.HIVE_BACKUP_CFG_DELAY * 1000)
      missing.foldl (fun s e => if e.2.spareEn then sendBackup s b e.1 e.2.home e.2.spare else s) s
    else s)

/-- BACKUP_START (R335). -/
def execBackupStart (b g shard : Nat) (s : State) : Host.Outcome State Fault Refusal :=
  .next (if hiveState s = 2 && g = rd s R.HIVE_BAR_GEN 0 b then takeBackup s b shard else s)

/-- RELOAD_SHARDS (R332): refused while a channel of a member is ARMED. -/
def execReloadShards (w : Writer) (auto armed : Bool) (s : State) : Host.Outcome State Fault Refusal :=
  .next (
    let t := wordWrite s w 14 0 0x100 (2 * b2n auto + 8)
    if !pageServed s 14 0 || !isQueen s then t
    else if armed || (List.range 64).any (fun b => rd s R.HIVE_BAR_STAT 0 b = 1) then refuseWrite t 14 0 0x100 .poolBusy
    else loadShards t)

/-- BARRIER_ENABLE (R333): a write of HIVE_BAR_CFG of the selected channel. -/
def execBarrierEnable (w : Writer) (v : Nat) (s : State) : Host.Outcome State Fault Refusal :=
  .next (regWrite s w 14 0 R.HIVE_BAR_CFG_ENABLE.off false (fun s =>
    let b := rd s R.HIVE_BAR_SEL
    let en := v / 2 ^ 31 % 2 = 1
    let sp := v / 2 ^ 30 % 2
    let tn := v / 2 ^ 16 % 256
    let sh := v % 512
    let off := R.HIVE_BAR_CFG_ENABLE.off
    if rd s R.HIVE_BAR_CFG_ENABLE 0 b = 1 then
      let same := sp = rd s R.HIVE_BAR_CFG_SPARE 0 b && tn = rd s R.HIVE_BAR_CFG_TENANT 0 b && sh = rd s R.HIVE_BAR_CFG_SHARD 0 b
      if en || !same then refuseWrite s 14 0 off .queueState
      else wr (wr s R.HIVE_BAR_CFG_ENABLE 0 0 b) R.HIVE_BAR_STAT 0 0 b
    else
      let mine := [R.HIVE_BAR_ARRIVE, R.HIVE_BAR_RELEASE, R.HIVE_BAR_VERDICT].all (fun f => rd s f 0 b / 4096 = tn)
      if en && !mine then refuseWrite s 14 0 off .tenantMismatch
      else
        let s := wr (wr (wr s R.HIVE_BAR_CFG_SPARE sp 0 b) R.HIVE_BAR_CFG_TENANT tn 0 b) R.HIVE_BAR_CFG_SHARD sh 0 b
        if en then
          let s := wr (wr s R.HIVE_BAR_CFG_ENABLE 1 0 b) R.HIVE_BAR_STAT 1 0 b
          arriveIf s b (sigValue s (rd s R.HIVE_BAR_ARRIVE 0 b))
        else s))

/-! ### Suspects, expulsion and loss (R337 to R340) -/

/-- HIVE_EXPEL (R338): an operator's write; the budget binds it, and the queen is never expelled. -/
def execHiveExpel (w : Writer) (s : State) : Host.Outcome State Fault Refusal :=
  .next (regWrite s w 14 0 0x174 true (fun s =>
    let m := rd s R.HIVE_MOD_SEL
    if !queenActs s || !isMember s m || m = hiveId s then s
    else if budgetSpent s then refuseWrite (showBudget s) 14 0 0x174 .expelBudgetSpent
    else finishAll (expelMember s m)))

/-- CLEAR_SUSPECT (R337). -/
def execClearSuspect (w : Writer) (s : State) : Host.Outcome State Fault Refusal :=
  .next (regWrite s w 14 0 0x174 true (fun s =>
    let m := rd s R.HIVE_MOD_SEL
    if !isQueen s then s
    else
      let s := { s with hive := { s.hive with last1 := tset [] m [] s.hive.last1, kept := s.hive.kept.filter (· ≠ m) } }
      showRanks (wr s R.HIVE_MOD_STAT_SUSPECT 0 0 m) m))

/-- MEMBERSHIP_UPDATE (R339). -/
def execMembershipUpdate (members : List Nat) (s : State) : Host.Outcome State Fault Refusal :=
  .next (
    if hiveState s ≠ 2 || isQueen s || hiveOfOne s then s
    else
      let d := rd s R.HIVE_DEPUTY_DEPUTY
      let s := setDeputy (setMembers s members) (if members.contains d then d else 0x1FF)
      if members.contains (hiveId s) then s else leaveHive s 3)

/-- MEMBER_LOSS_TIMEOUT (R340). -/
def execMemberLossTimeout (p : Nat) (s : State) : Host.Outcome State Fault Refusal :=
  .next (match (port s p).downAt with
  | some t =>
    if p < 6 && !portUp s p then
      let s := setPort s p { port s p with downAt := none }
      tellLoss (reachTime s (t + rd s R.HIVE_FORM_CFG_LOSS_WAIT * 1000000)) (rd s R.WAG_PEER_MODULE p)
    else s
  | none => s)

/-- MEMBER_LOSS_REPORT (R340). -/
def execMemberLossReport (id : Nat) (s : State) : Host.Outcome State Fault Refusal :=
  .next (if queenActs s then finishAll (loseMember s id) else s)

/-! ### Progress (R344) -/

/-- PROGRESS_REPORT_TIMER. -/
def execProgressReportTimer (s : State) : Host.Outcome State Fault Refusal :=
  .next (
    if hiveState s ≠ 2 then s
    else
      let s := reachTime s (s.hive.reportAt + rd s R.HIVE_AGG_CFG_INTERVAL * 1000000000)
      let s := { s with hive := { s.hive with reportAt := s.now } }
      let u := rd s R.HIVE_PROG_USEFUL
      let e := rd s R.HIVE_PROG_ELAPSED
      let x := rd s R.HIVE_PROG_WASTED
      if isQueen s then takeReport s (hiveId s) [u, e, x]
      else if hiveOfOne s then s
      else sendMsg s (rd s R.HIVE_STAT_QUEEN) 2 0 (.progress (hiveId s) u e x))

/-- PROGRESS_REPORT. -/
def execProgressReport (id useful elapsed wasted : Nat) (s : State) : Host.Outcome State Fault Refusal :=
  .next (if queenActs s && isMember s id then takeReport s id [useful, elapsed, wasted] else s)

end Sys2Proof.Machine
end

