-- ==== Sys2Proof/Machine/HostPort.lean ====
section
/-!
DEFINITION. The meanings of the host port's commands: function and host-port resets, the link, function registers, and bulk
transfers (chapter 10).
-/

namespace Sys2Proof.Machine

/-- FUNCTION_LEVEL_RESET (R258): `cut` is what running transfers had moved. -/
def execFunctionLevelReset (fn : Nat) (cut : List (Nat × List Byte)) (s : State) : Host.Outcome State Fault Refusal :=
  .next (irqEvent (functionReset s fn cut) 7 0 Irq.HOST_FLR 0 [fn])

/-- HOT_RESET (R259). -/
def execHotReset (cut : List (Nat × List Byte)) (s : State) : Host.Outcome State Fault Refusal :=
  .next (hostPortReset s cut)

/-- HOST_LINK_DOWN (R259). -/
def execHostLinkDown (cut : List (Nat × List Byte)) (s : State) : Host.Outcome State Fault Refusal :=
  .next (if rd s R.HOST_LINK_UP = 1 then hostPortReset s cut else s)

/-- REFCLK_LOSS (R29, R259). -/
def execRefclkLoss (cut : List (Nat × List Byte)) (s : State) : Host.Outcome State Fault Refusal :=
  .next (
    if s.host.refclk then
      let s := hostPortReset { s with host := { s.host with refclk := false } } cut
      irqEvent (wr s R.HOST_STAT_REFCLK_LOST 1) 7 0 Irq.HOST_REFCLK_LOST 0 []
    else s)

/-- REFCLK_RETURN (R29): the link may train again. -/
def execRefclkReturn (s : State) : Host.Outcome State Fault Refusal :=
  .next (wr { s with host := { s.host with refclk := true } } R.HOST_STAT_REFCLK_LOST 0)

/-- Every IDE stream enters the insecure state and must be keyed anew (R269). -/
def ideInsecure (s : State) : State :=
  let was := rd s R.HOST_IDE_STAT_INSECURE
  let s := wr (wr s R.HOST_IDE_STAT_INSECURE 0xFF) R.HOST_IDE_STAT_ACTIVE 0
  let s := { s with host := { s.host with
    ide := (List.range 8).foldl (fun t i => tset {} i { insecure := true } t) s.host.ide } }
  if was = 0xFF then s else irqEvent s 7 0 Irq.HOST_IDE_INSECURE 0 []

/-- LINK_TRAINED (R250, R251, R269): a rate up to the advertised one and a width; FLIT mode stays once negotiated. -/
def execLinkTrained (speed width : Nat) (flit : Bool) (s : State) : Host.Outcome State Fault Refusal :=
  .next (
    if !s.host.refclk || s.host.inReset || speed < 1 || rd s R.HOST_LINK_CTL_MAX_SPEED < speed ||
       !([1, 2, 4, 8, 16].contains width) then s
    else
      let same := rd s R.HOST_LINK_UP = 1 && rd s R.HOST_LINK_SPEED = speed && rd s R.HOST_LINK_WIDTH = width
      let fl := rd s R.HOST_LINK_FLIT = 1 || flit || speed = 6
      let s := wr (wr (wr s R.HOST_LINK_UP 1) R.HOST_LINK_SPEED speed) R.HOST_LINK_WIDTH width
      let s := wr (wr s R.HOST_LINK_FLIT (b2n fl)) R.HOST_LINK_DEGRADED (b2n (speed < 3 || width < 4))
      let s := { s with host := { s.host with retrain := false } }
      let s := if same then s else irqEvent s 7 0 Irq.HOST_LINK_CHANGE 0 [speed, width]
      if speed < 5 then ideInsecure s else s)

/-- LINK_RETRAIN: a write of HOST_LINK_CTL (R251). -/
def execLinkRetrain (w : Writer) (v : Nat) (s : State) : Host.Outcome State Fault Refusal :=
  .next (regWrite s w 7 0 R.HOST_LINK_CTL_RETRAIN.off false (fun s =>
    let m := v % 16
    let s := if legalValue R.HOST_LINK_CTL_MAX_SPEED m then wr s R.HOST_LINK_CTL_MAX_SPEED m
      else refuseWrite s 7 0 R.HOST_LINK_CTL_MAX_SPEED.off .fieldReserved
    if bitsOf v 4 1 = 1 then { s with host := { s.host with retrain := true } } else s))

/-- HOST_FN_CFG_WRITE (R252): the PF's binding is fixed; a VF's changes while it has no created queue. -/
def execHostFnCfgWrite (w : Writer) (v : Nat) (s : State) : Host.Outcome State Fault Refusal :=
  .next (
    let f := rd s R.HOST_FN_SEL
    if f = 0 then s
    else
      regWrite s w 7 0 R.HOST_FN_CFG_BOUND.off
          (chg s R.HOST_FN_CFG_BOUND (bitsOf v 31 1) 0 f || chg s R.HOST_FN_CFG_TENANT v 0 f) (fun s =>
        if !(fnQueues s f).isEmpty then refuseWrite s 7 0 R.HOST_FN_CFG_BOUND.off .fnBusy
        else wr (wr s R.HOST_FN_CFG_BOUND (bitsOf v 31 1) 0 f) R.HOST_FN_CFG_TENANT (v % 256) 0 f))

/-- Vectors of all functions. -/
def msixSum (s : State) : Nat := ((List.range 64).map (fun f => rd s R.HOST_FN_MSIX 0 f)).foldl (· + ·) 0

/-- HOST_FN_MSIX_WRITE (R255): `enabled` is the function's MSI-X Enable. -/
def execHostFnMsixWrite (w : Writer) (v : Nat) (enabled : Bool) (s : State) : Host.Outcome State Fault Refusal :=
  .next (regWrite s w 7 0 R.HOST_FN_MSIX.off (chg s R.HOST_FN_MSIX v 0 (rd s R.HOST_FN_SEL)) (fun s =>
    let f := rd s R.HOST_FN_SEL
    let n := v % 4096
    let sum := msixSum s - rd s R.HOST_FN_MSIX 0 f + n
    if n = 0 || 2048 < n || 16384 < sum then refuseWrite s 7 0 R.HOST_FN_MSIX.off .lengthRange
    else if enabled then refuseWrite s 7 0 R.HOST_FN_MSIX.off .fnBusy
    else wr (wr s R.HOST_FN_MSIX n 0 f) R.HOST_MSIX_FREE (16384 - sum)))

/-- HOST_FN_WIN_WRITE (R254). -/
def execHostFnWinWrite (w : Writer) (v : Nat) (s : State) : Host.Outcome State Fault Refusal :=
  .next (regWrite s w 7 0 R.HOST_FN_WIN.off (chg s R.HOST_FN_WIN v 0 (rd s R.HOST_FN_SEL)) (fun s =>
    wr s R.HOST_FN_WIN v 0 (rd s R.HOST_FN_SEL)))

/-- BAR4_RESIZE (R253, R254): takes effect while Memory Space Enable is 0. -/
def execBar4Resize (fn size : Nat) (memEnable : Bool) (s : State) : Host.Outcome State Fault Refusal :=
  .next (
    if memEnable || fn > 63 || size < 30 || (if fn = 0 then 40 else 36) < size then s
    else { s with host := { s.host with fns := tset {} fn { bar4 := size } s.host.fns } })

/-! ### Bulk transfers (R260 to R268) -/

/-- A descriptor's own ranges (R261, R262 order 1); a reserved OP, and SEAL with OP 2, are refused before them (R13). -/
def descRange (x : Xfer) : Option Status :=
  if x.op = 3 || (x.op = 2 && x.sealed) then some .fieldReserved
  else if x.length < 1 || 0xFFFFFFFE < x.length || 2 ^ 64 < x.src + x.length || 2 ^ 64 < x.dst + x.length ||
      (x.sealed && x.tagAddr % 32 ≠ 0) then some .lengthRange
  else none

/-- Orders 3 to 5 of R262. -/
def descAccess (s : State) (x : Xfer) : Option Status :=
  if !tenActive s x.tenant then some .tenantRetiring
  else if tenSeals s x.tenant && !x.sealed && x.op ≠ 2 then some .sealRequired
  else if x.sealed && rd s R.HOST_TEN_SEAL_KEY 0 x.tenant = 0 then some .sealNoKey
  else ((xferRanges x).findSome? (fun r => accessFail s x.tenant r.1 r.2))

/-- Order 6 of R262. -/
def descSeal (s : State) (x : Xfer) : Option Status :=
  if !x.sealed then none
  else if x.op = 0 then sealCheck s x.tenant x.sealQ x.ctr (segCount x.length)
  else if 2 ^ 48 ≤ streamCtr s x.tenant (streamWord 1 0 x.sealQ) + segCount x.length then some .sealExhausted
  else none

/-- The checks of R262 in order; `mine` says that order 2 holds. -/
def descCheck (s : State) (x : Xfer) (mine : Bool) : Option Status :=
  match descRange x with
  | some st => some st
  | none => if !mine then some .tenantMismatch else
    match descAccess s x with
    | some st => some st
    | none => descSeal s x

/-- What a refusal at order 6 counts (R266, R267). -/
def noteSeal (s : State) (t : Nat) : Status → State
  | .sealReplay => sealFailed s true
  | .sealExhausted => sealExhausted s t
  | _ => s

/-- DMA of queue `q` (R260 to R262, R277): the descriptor stands in bytes 16 to 55 of the entry. -/
def execDma (q : Nat) (s : State) : Host.Outcome State Fault Refusal :=
  .next (match running s q 1 with
  | none => s
  | some r =>
    let x : Xfer := { queue := some q, kind := 0, op := arg r 16 1 % 4, sealed := bitsOf (arg r 16 1) 2 1 = 1, tenant := arg r 17 1,
                      sealQ := q, length := arg r 20 4, src := arg r 24 8, dst := arg r 32 8, tagAddr := arg r 40 8,
                      ctr := arg r 48 8 }
    match descCheck s x (tenantOk r false x.tenant) with
    | some st => finishCmd (noteSeal s x.tenant st) q st 0
    | none => pushXfer (setBusy s q) (queueEngine q) x)

/-- A programmed transfer of the engine has not ended. -/
def programmedBusy (s : State) (e : Nat) : Bool := (engine s e).any (fun x => x.queue.isNone)

/-- DMA_GO (R260 to R262): the programmed descriptor is checked and queued; a failed check is its result. -/
def execDmaGo (w : Writer) (e : Nat) (s : State) : Host.Outcome State Fault Refusal :=
  .next (regWrite s w 8 e R.DMA_GO.off R.DMA_GO.lock (fun s =>
    if e < 4 || programmedBusy s e then refuseWrite s 8 e R.DMA_GO.off .dmaBusy
    else
      let d := (List.range 16).flatMap (fun j => leBytes 4 (rd s (R.DMA_DESC j) e))
      let x : Xfer := { queue := none, kind := 0, op := fieldAt d 0 1 % 4, sealed := bitsOf (fieldAt d 0 1) 2 1 = 1,
                        tenant := fieldAt d 1 1, sealQ := fieldAt d 2 2, length := fieldAt d 4 4, src := fieldAt d 8 8,
                        dst := fieldAt d 16 8, tagAddr := fieldAt d 24 8, ctr := fieldAt d 32 8 }
      let s := wr s R.DMA_RESULT_VALID 0 e
      match descCheck s x (x.tenant = 0) with
      | some st => endXfer (noteSeal s x.tenant st) e x st 0
      | none => pushXfer s e x))

/-- Segment length of a transfer (R265, R374). -/
def segLen (x : Xfer) : Nat := if x.kind = 1 then 65536 else 4096

/-- The bytes of a host-to-device transfer that pass authentication, and the status when a segment does not (R267, R375). -/
def authPart (s : State) (x : Xfer) (bad : Option Nat) : State × Nat × Option Status :=
  if x.kind = 1 then
    match bad with
    | some i => if 65536 * i < x.length then (sealFailed s false, 65536 * i, some .sealAuth) else (s, x.length, none)
    | none => (s, x.length, none)
  else if x.op = 0 && x.sealed then
    match sealedIn s x.tenant x.sealQ x.ctr (segCount x.length) bad with
    | (s, some .sealAuth) => (s, 4096 * (bad.getD 0), some .sealAuth)
    | (s, some st) => (s, 0, some st)
    | (s, none) => (s, x.length, none)
  else (s, x.length, none)

/-- DMA_TRANSFER_DONE (R263, R267, R246): the transfer in progress on an engine ends. `data` is what the host memory gave,
deciphered; `bad` the first segment that fails authentication; `env` what the accesses to units met. -/
def execDmaTransferDone (e : Nat) (data : List Byte) (bad : Option Nat) (env : MemEnv) (s : State) :
    Host.Outcome State Fault Refusal :=
  .next (match engine s e with
  | [] => s
  | x :: rest =>
    let s := readFails s (.dma e) env
    if waitsReRead s (.dma e) then s
    else
      let (s, n, fail) := authPart s x bad
      let (s, done) := moveBytes s e x n data
      let s := env.writeBad.foldl writePathBad s
      endXfer (setEngine s e rest) e x (match fail with | some st => st | none => if done < n then .memPoison else .ok) done)

/-- A failed host read is counted and recorded (R264). -/
def hostReadFailed (s : State) (fn : Nat) (detail : List Nat) : State :=
  let s := raiseIrq (incSat s R.HOST_AER_UE_CNT) 7 0 Irq.HOST_AER
  statusEvent s 7 0 .dmaHostError (fnTenant s fn) detail

/-- HOST_READ_ERROR (R264): the host read of a queue's running command, or of the transfer in progress on an engine, fails after
`moved` bytes. -/
def execHostReadError (byEngine : Bool) (n : Nat) (moved : List Byte) (s : State) : Host.Outcome State Fault Refusal :=
  .next (
    if byEngine then
      match engine s n with
      | [] => s
      | x :: rest =>
        if x.op ≠ 0 then s
        else
          let s := hostReadFailed s ((x.queue.map (queueFn s)).getD 0) [n]
          let (s, done) := moveCut s n x (moved.take (x.length - 1))
          endXfer (setEngine s n rest) n x .dmaHostError done
    else
      match (queue s n).run with
      | some r =>
        if r.busy || !([3, 5, 0x20].contains (runOp r)) then s
        else finishCmd (hostReadFailed s r.fn [n]) n .dmaHostError 0
      | none => s)

end Sys2Proof.Machine
end

