-- ==== Sys2Proof/Machine/Kv.lean ====
section
/-!
DEFINITION. The meanings of the commands on key-value pages: SEQ_CTL, waiting operations, parking, prefix copies, scrubbing and
the pool registers (chapter 07).
-/

namespace Sys2Proof.Machine

/-- Orders 1 to 4 of R200 for a SEQ_CTL of operation `op`: the status of the first failure. -/
def seqCheck (s : State) (r : RunCmd) (op : Nat) : Option Status :=
  let t := arg r 16 1
  let x := seqOf s (arg r 18 2)
  let sl := slot s (arg r 20 1 % 64)
  let n := arg r 24 4
  if (op < 3 && (n = 0 || n = 0xFFFFFFFF)) || (op = 4 && n ≠ 0) then some .lengthRange
  else if !tenantOk r false t then some .tenantMismatch
  else if !tenActive s t then some .tenantRetiring
  else if op = 0 then (if sl.st ≠ .ready || sl.tenant ≠ t then some .slotState else if x.st ≠ 0 then some .seqState else none)
  else if x.st ≠ 0 && x.tenant ≠ t then some .tenantMismatch
  else if x.st ≠ 1 || !x.host then some .seqState
  else none

/-- The effect of an operation other than open on its context (R200), which ends the command. -/
def seqApply (s : State) (q : Nat) (r : RunCmd) : State :=
  let k := arg r 18 2
  let n := arg r 24 4
  if (seqOf s k).st ≠ 1 then finishCmd s q .seqState 0
  else
    match arg r 17 1 % 8 with
    | 1 => match grow s k n with
      | .done s => finishCmd s q .ok 0
      | .lacks _ => finishCmd s q .admitPages 0
      | .range => finishCmd s q .lengthRange 0
    | 2 => match commitSeq s k n with
      | some s => finishCmd s q .ok 0
      | none => finishCmd s q .seqState 0
    | 3 => match rollbackSeq s k n with
      | some s => finishCmd s q .ok 0
      | none => finishCmd s q .seqState 0
    | _ => finishCmd (releaseSeq s k) q .ok 0

/-- The running SEQ_CTL of a queue with operation `op`. -/
def seqCmd (s : State) (q op : Nat) : Option RunCmd :=
  match running s q 0x0A with
  | some r => if arg r 17 1 % 8 = op then some r else none
  | none => none

/-- A grow, commit, rollback or close of a context (R200); on a HELD one, and a close on one that a copy reads, it waits
(R195, R196). -/
def seqOp (s : State) (q op : Nat) : State :=
  match seqCmd s q op with
  | none => s
  | some r =>
    let k := arg r 18 2
    let x := seqOf s k
    match seqCheck s r op with
    | some st => finishCmd s q st 0
    | none =>
      if x.held || !x.ops.isEmpty || (op = 4 && 0 < x.pins) then setBusy (setSeq s k { x with ops := x.ops ++ [q] }) q
      else seqApply s q r

/-- SEQ_CTL open (R188, R200). -/
def execSeqOpen (q : Nat) (s : State) : Host.Outcome State Fault Refusal :=
  .next (match seqCmd s q 0 with
  | none => s
  | some r =>
    match seqCheck s r 0 with
    | some st => finishCmd s q st 0
    | none =>
      match openSeq s (arg r 18 2) (arg r 16 1) (arg r 20 1 % 64) (arg r 24 4) (2 ^ 64 - 1) true with
      | .ok s => finishCmd s q .ok 0
      | .error st => finishCmd s q st 0)
def execSeqGrow (q : Nat) (s : State) : Host.Outcome State Fault Refusal := .next (seqOp s q 1)
def execSeqCommit (q : Nat) (s : State) : Host.Outcome State Fault Refusal := .next (seqOp s q 2)
def execSeqRollback (q : Nat) (s : State) : Host.Outcome State Fault Refusal := .next (seqOp s q 3)
def execSeqClose (q : Nat) (s : State) : Host.Outcome State Fault Refusal := .next (seqOp s q 4)

/-- HELD_OP_RESUME (R195): once nothing holds the sequence, the operation that arrived first proceeds. -/
def execHeldOpResume (k : Nat) (s : State) : Host.Outcome State Fault Refusal :=
  .next (
    let x := seqOf s k
    match x.ops with
    | [] => s
    | q :: rest =>
      match (queue s q).run with
      | none => setSeq s k { x with ops := rest }
      | some r =>
        if x.held || (arg r 17 1 % 8 = 4 && 0 < x.pins && x.st = 1) then s
        else seqApply (setSeq s k { x with ops := rest }) q r)

/-- A parked sequence's growth, where its whole growth can be met (R190, R191). -/
def grantPark (s : State) (k : Nat) : Option State :=
  let x := seqOf s k
  match grow s k x.growN with
  | .done s =>
    let s := setSeq s k { seqOf s k with st := 1, growNeed := 0, growN := 0, parkTime := 0 }
    some (servAction (kvSync s x.tenant) x.slot [2, k, x.growN, x.writePos])
  | _ => none

/-- The heads of the tenants' park queues in order (R191). -/
def parkHeads : List (Nat × Seq) → List Nat → List Nat
  | [], _ => []
  | (k, x) :: r, seen => if seen.contains x.tenant then parkHeads r seen else k :: parkHeads r (x.tenant :: seen)

def execParkGrant (s : State) : Host.Outcome State Fault Refusal :=
  .next ((parkHeads (parkQueue s) []).foldl (fun s k => (grantPark s k).getD s) s)

/-- PARK_DEADLINE (R190): the request ends with KV_EXHAUSTED and its sequence is released; a grant in the same window
prevails. -/
def execParkDeadline (k : Nat) (s : State) : Host.Outcome State Fault Refusal :=
  .next (
    let x := seqOf s k
    if x.st ≠ 2 || 2 ^ 64 ≤ x.deadline + 1 then s
    else
      let s := reachTime s (x.deadline + 1)
      match (if (parkHeads (parkQueue s) []).contains k then grantPark s k else none) with
      | some s => s
      | none =>
        let s := irqEvent (incSat s R.KVPG_EXHAUST_CNT) 11 0 Irq.KVPG_EXHAUSTED x.tenant [k]
        match (openReqs s).find? (fun e => e.2.seq = k || (e.2.spec && e.2.draftSeq = k)) with
        | some e => endReq s e.1 .kvExhausted
        | none => closeSeq s k)

/-- Copies the pages of blocks below `h` of every layer (R196). -/
def copyPages (s : State) (c : KvCopy) : State :=
  let x := seqOf s c.src
  let y := seqOf s c.dst
  (List.range y.layers).foldl (fun s l => (List.range c.h).foldl (fun s b =>
    match tget 0 x.map (l * 2 ^ 15 + b), tget 0 y.map (l * 2 ^ 15 + b) with
    | f + 1, g + 1 => memWrite s (frameAddr s g) (memBytes s (frameAddr s f) 16384)
    | _, _ => s) s) s

/-- PREFIX_COPY_DONE (R196). -/
def execPrefixCopyDone (dst : Nat) (s : State) : Host.Outcome State Fault Refusal :=
  .next (match s.kv.copies.find? (fun c => c.dst = dst) with
  | none => s
  | some c =>
    let s := { s with kv := { s.kv with copies := s.kv.copies.filter (fun c => c.dst ≠ dst) } }
    let y := seqOf s dst
    let s := if y.st = 1 || y.st = 2 then
        let s := copyPages s c
        addSat (setSeq s dst { y with writePos := c.h * 2 ^ y.tppLog2 }) R.KVPG_COPY_CNT (y.layers * c.h)
      else s
    let x := seqOf s c.src
    let s := setSeq s c.src { x with pins := x.pins - 1 }
    if x.closeOwed && x.pins ≤ 1 && !x.held then releaseSeq s c.src else s)

/-- FRAME_SCRUB_DONE (R197): the frame holds zeros and returns to the free pages; the context is FREE after its last frame. -/
def execFrameScrubDone (f : Nat) (s : State) : Host.Outcome State Fault Refusal :=
  .next (match frameOf s f with
  | none => s
  | some x =>
    if !x.scrub || x.handed then s
    else
      let s := setFrame (memZero s (frameAddr s f) 16384) f none
      let left := s.kv.frames.any (fun e => match e.2 with | some y => y.seq = x.seq && y.tenant = x.tenant | none => false)
      let s := if !left && (seqOf s x.seq).st = 3 then setSeq s x.seq { ops := (seqOf s x.seq).ops } else s
      kvSync s x.tenant)

/-- KVPG_POOL_PAGES when `pages`, otherwise KVPG_POOL_BASE (R185). -/
def execKvpgPoolWrite (w : Writer) (pages : Bool) (v : Nat) (s : State) : Host.Outcome State Fault Refusal :=
  .next (
    let f := if pages then R.KVPG_POOL_PAGES else R.KVPG_POOL_BASE
    regWrite s w 11 0 f.off (chg s f v) (fun s =>
      let base := if pages then rd s R.KVPG_POOL_BASE else v
      let n := if pages then v else rd s R.KVPG_POOL_PAGES
      if !allFree s then refuseWrite s 11 0 f.off .poolBusy
      else if base % 16384 ≠ 0 || (pages && (v = 0 || 2 ^ 26 < v)) || n < resvSum s ||
          !(extentsOf base (16384 * n)).all (extentPresent s) then refuseWrite s 11 0 f.off .lengthRange
      else kvSync (wr { s with kv := { s.kv with frames := [] } } f v) 0))

/-- KVPG_SEQ_BASE (R180). -/
def execKvpgSeqBaseWrite (w : Writer) (v : Nat) (s : State) : Host.Outcome State Fault Refusal :=
  .next (regWrite s w 11 0 R.KVPG_SEQ_BASE.off (chg s R.KVPG_SEQ_BASE v) (fun s =>
    if !allFree s then refuseWrite s 11 0 R.KVPG_SEQ_BASE.off .poolBusy
    else if v % 2 ^ 22 ≠ 0 then refuseWrite s 11 0 R.KVPG_SEQ_BASE.off .lengthRange
    else wr s R.KVPG_SEQ_BASE v))

/-- KVPG_TEN_RESV of the selected tenant (R186). -/
def execKvpgResvWrite (w : Writer) (v : Nat) (s : State) : Host.Outcome State Fault Refusal :=
  .next (regWrite s w 11 0 R.KVPG_TEN_RESV.off (chg s R.KVPG_TEN_RESV v 0 (rd s R.KVPG_TEN_SEL)) (fun s =>
    let t := rd s R.KVPG_TEN_SEL
    if rd s R.KVPG_POOL_PAGES < resvSum s - rd s R.KVPG_TEN_RESV 0 t + v || v < heldPages s t false then
      refuseWrite s 11 0 R.KVPG_TEN_RESV.off .lengthRange
    else kvSync (wr s R.KVPG_TEN_RESV v 0 t) t))

end Sys2Proof.Machine
end

