-- ==== Sys2Proof/Machine/Memory.lean ====
section
/-!
DEFINITION. The meanings of the commands on device memory: interleave sets, extents, training, errors, refresh, temperature,
patrol scrubbing and the host window (chapter 09).
-/

namespace Sys2Proof.Machine

/-- MEM_SET_MAP (R232). -/
def execMemSetMapWrite (w : Writer) (v : Nat) (s : State) : Host.Outcome State Fault Refusal :=
  .next (regWrite s w 3 0 R.MEM_SET_MAP.off (chg s R.MEM_SET_MAP v) (fun s =>
    if (setList v).any (fun p => !([1, 2, 4, 8, 16, 32].contains p.2)) || rd s R.KVPG_POOL_PAGES ≠ 0 ||
       (List.range (extentCount s)).any (fun e => rd s R.MEM_OWN_VALID 0 e = 1 || rd s R.MEM_OWN_SCRUBBING 0 e = 1) then
      refuseWrite s 3 0 R.MEM_SET_MAP.off .memConfig
    else wr s R.MEM_SET_MAP v))

/-- MEM_OWN from VALID 0 to 1 (R238). -/
def execExtentOwn (w : Writer) (t : Nat) (s : State) : Host.Outcome State Fault Refusal :=
  .next (regWrite s w 3 0 R.MEM_OWN_VALID.off (chg s R.MEM_OWN_VALID 1 0 (rd s R.MEM_OWN_SEL)) (fun s =>
    let e := rd s R.MEM_OWN_SEL
    if rd s R.MEM_OWN_VALID 0 e = 0 && rd s R.MEM_OWN_SCRUBBING 0 e = 0 && extentPresent s e && tenActive s t then
      wr (wr s R.MEM_OWN_VALID 1 0 e) R.MEM_OWN_TENANT t 0 e
    else refuseWrite s 3 0 R.MEM_OWN_VALID.off .memConfig))

/-- MEM_OWN from VALID 1 to 0 (R238): the release scrub begins. -/
def execExtentRelease (w : Writer) (s : State) : Host.Outcome State Fault Refusal :=
  .next (regWrite s w 3 0 R.MEM_OWN_VALID.off (chg s R.MEM_OWN_VALID 0 0 (rd s R.MEM_OWN_SEL)) (fun s =>
    let e := rd s R.MEM_OWN_SEL
    if rd s R.MEM_OWN_VALID 0 e = 1 && rd s R.MEM_OWN_SCRUBBING 0 e = 0 && !extentUsed s e then
      wr s R.MEM_OWN_SCRUBBING 1 0 e
    else refuseWrite s 3 0 R.MEM_OWN_VALID.off .memConfig))

/-- EXTENT_SCRUB_DONE (R238). -/
def execExtentScrubDone (e : Nat) (s : State) : Host.Outcome State Fault Refusal :=
  .next (
    if rd s R.MEM_OWN_SCRUBBING 0 e = 1 && !s.sec.handedExtents.contains e then
      wr (wr (memZero s (e * 2 ^ 26) (2 ^ 26)) R.MEM_OWN_VALID 0 0 e) R.MEM_OWN_SCRUBBING 0 0 e
    else s)

/-- One controller's training result (R234, R244). -/
def trainMemc (failed : List Nat) (micros : Nat) (s : State) (m : Nat) : State :=
  let bad := (List.range 4).foldl (fun b c => b + (if failed.contains (4 * m + c) then 2 ^ c else 0)) 0
  let s := wr (wr (wr s R.MPHY_STAT_FAILED bad m) R.MPHY_STAT_TRAINED (15 - bad) m) R.MPHY_TRAIN_TIME micros m
  let s := raiseIrq (wr s R.MEMC_STAT_TRAINED (b2n (bad = 0)) m) 4 m Irq.MPHY_TRAIN_DONE
  if bad = 0 then s
  else
    let s := setDom (wr (wr s R.MEMC_PART_DISABLED 1 m) R.MEMC_PART_PARTITION 0x7F m) (340 + m) 2
    irqEvent s 3 m Irq.MEMC_TRAIN_FAIL 0 [bad]

/-- MEMORY_TRAINING_DONE (R244): order 6 of a cold start. -/
def execMemoryTrainingDone (failed : List Nat) (micros : Nat) (s : State) : Host.Outcome State Fault Refusal :=
  .next (
    if rd s R.BOOT_STAT_STAGE = 6 && s.boot.cold then
      let s := (List.range 32).foldl (trainMemc failed micros) s
      wr (wr s R.BOOT_VARIANT_USABLE_GIB (usableGib s)) R.BOOT_STAT_STAGE 7
    else s)

/-- ECC_RE_READ (R58, R59, R246, R247): a clean re-read delivers the unit; the last failing one poisons it. -/
def execEccReRead (a : Nat) (who : Consumer) (clean : Bool) (s : State) : Host.Outcome State Fault Refusal :=
  .next (match s.mem.rereads.find? (fun r => r.addr = a && r.who = who) with
  | none => s
  | some r =>
    let m := memcOf s a
    let n := r.tries + 1
    let s := incSat s R.MEMC_RETRY_CNT m
    let s := match who with
      | .launch p _ => modRunning s p (fun x => { x with retries := x.retries + 1 })
      | _ => s
    let rest := s.mem.rereads.filter (fun x => !(x.addr = a && x.who = who))
    if clean then
      let s := noteMemErr { s with mem := { s.mem with rereads := rest } } a (unitOwner s a) 1
      irqEvent s 3 m Irq.MEMC_RETRIED (unitOwner s a) [a, n]
    else if rd s R.MEMC_ECC_CTL m ≤ n then
      let s := recordEvent { s with mem := { s.mem with rereads := rest } } 3 m (0x8000 + Irq.MEMC_RETRIED) 1 (unitOwner s a) [a, n]
      poisonData s a
    else { s with mem := { s.mem with rereads := { r with tries := n } :: rest } })

/-- POISON_MARK_WRITE (R246). -/
def execPoisonMarkWrite (u : Nat) (s : State) : Host.Outcome State Fault Refusal :=
  .next (
    if s.mem.awaiting.contains u then
      { s with mem := { s.mem with awaiting := s.mem.awaiting.erase u, poison := (u :: s.mem.poison).eraseDups } }
    else s)

/-- Steps to the next plan entry of a channel of a held controller; 0 while an entry of it runs (R242). -/
def heldGap (s : State) (m c : Nat) : Nat :=
  match (part s (rd s R.MEMC_PART_PARTITION m)).running with
  | none => 0
  | some r =>
    let img := (slot s r.desc.slot).image
    let va := variantAt img r.desc.variant
    let mine := (List.range va.mems).filter (fun i =>
      let e := memEntryAt img r.desc.variant i
      pchanMemc img e.pchan = m && e.pchan % 4 = c)
    if mine.any (fun i => r.memBegun.contains i && !r.memDone.contains i) then 0
    else
      match mine.find? (fun i => !r.memBegun.contains i) with
      | some i => (memEntryAt img r.desc.variant i).issue - r.step
      | none => va.steps - r.step

/-- REFRESH_DUE (R242): one more refresh is owed, at most 8; a channel of a controller that no launch holds refreshes at once, a
held one in a gap. -/
def execRefreshDue (m c : Nat) (s : State) : Host.Outcome State Fault Refusal :=
  .next (
    let o := min 8 (owedOf s m c + 1)
    if rd s R.MEMC_STAT_HELD m = 0 then setOwed s m c (min o 0)
    else setOwed s m c (o - min (max o 0) (heldGap s m c / 360 : Nat)))

/-- PACKAGE_TEMP_READ (R243). -/
def execPackageTempRead (m : Nat) (t : Int) (rate : Nat) (s : State) : Host.Outcome State Fault Refusal :=
  .next (
    let s := wr (wr s R.MPHY_TEMP_TEMP (codeInt 8 t) m) R.MPHY_TEMP_RATE_CLASS rate m
    let s := coolCheck (metricSample s (17 + m) t)
    if 0 < rate then
      if rd s R.MEMC_STAT_HOT m = 1 then s else irqEvent (wr s R.MEMC_STAT_HOT 1 m) 3 m Irq.MEMC_HOT 0 []
    else wr s R.MEMC_STAT_HOT 0 m)

/-- One hour in nanoseconds. -/
def hourNs : Nat := 3600 * 10 ^ 9

/-- The patrol pass of a controller has lasted twice its period (R248). -/
def patrolLate (s : State) (m : Nat) : Bool :=
  tget 0 s.mem.patrol m + 2 * rd s R.MEMC_SCRUB m * hourNs < s.now && !s.mem.lagged.contains m

/-- A pass that has become late is reported once (R248). -/
def notePatrol (s : State) (m : Nat) : State :=
  if patrolLate s m then
    irqEvent { s with mem := { s.mem with lagged := m :: s.mem.lagged } } 3 m Irq.MEMC_SCRUB_LAG 0 []
  else s

/-- A pass ends, and the next begins. -/
def endPatrol (s : State) (m : Nat) : State :=
  { s with mem := { s.mem with patrol := tset 0 m s.now s.mem.patrol, lagged := s.mem.lagged.erase m } }

/-- PATROL_SCRUB (R248): corrected units are counted and written back, uncorrectable ones are poisoned without retry. -/
def execPatrolScrub (m : Nat) (e : MemEnv) (done : Bool) (s : State) : Host.Outcome State Fault Refusal :=
  .next (
    let s := e.corrected.foldl memCorrected s
    let s := e.bad.foldl (fun s b => poisonData (if b.2 then memPath s b.1 else s) b.1) s
    let s := notePatrol (e.writeBad.foldl writePathBad s) m
    if done then endPatrol s m else s)

/-- Device address of a window offset (R254). -/
def windowAddr (s : State) (fn off : Nat) : Nat := rd s R.HOST_FN_WIN 0 fn * 2 ^ 30 + off
/-- The function decodes the access (R254). -/
def windowHit (s : State) (fn off n : Nat) : Bool :=
  hostUp s && off + n ≤ 2 ^ barBits s fn
/-- The access is served (R249). -/
def windowServed (s : State) (fn off n : Nat) : Bool :=
  fnBound s fn && !tenSeals s (fnTenant s fn) && owned s (fnTenant s fn) (windowAddr s fn off) n

/-- HOST_WINDOW_READ (R246, R249). -/
def execHostWindowRead (fn off n : Nat) (e : MemEnv) (s : State) : Host.Outcome State Fault Refusal :=
  .next (
    if !windowHit s fn off n then s
    else if !windowServed s fn off n then
      emit (incSat s R.MEM_WIN_DENY) (.window fn (List.replicate n 0xFF) false)
    else
      let s := readFails s (.window fn) e
      if waitsReRead s (.window fn) then s
      else emit s (.window fn (memBytes s (windowAddr s fn off) n) (rangePoison s (windowAddr s fn off) n)))

/-- HOST_WINDOW_WRITE (R230, R246, R249): units written in part are read and merged; the sequence-record area takes no write. -/
def execHostWindowWrite (fn off : Nat) (data : List Byte) (e : MemEnv) (s : State) : Host.Outcome State Fault Refusal :=
  .next (
    let n := data.length
    let a := windowAddr s fn off
    if !windowHit s fn off n then s
    else if !windowServed s fn off n || meets a n (rd s R.KVPG_SEQ_BASE) (2 ^ 22) then incSat s R.MEM_WIN_DENY
    else
      let s := readFails s (.window fn) e
      if waitsReRead s (.window fn) then s
      else e.writeBad.foldl writePathBad (memWrite s a data))

end Sys2Proof.Machine
end

