-- ==== Sys2Proof/Machine/Pace.lean ====
section
/-!
DEFINITION. Pace governors (chapter 02): the loop interval, floor and limit writes, and the margin table.
-/

namespace Sys2Proof.Machine

/-- How many sensors a die carries (R39). -/
def sensorCount (die : Nat) : Nat := if die < 4 then 272 else 32

/-- The first test of R40: the sensor belongs to a cell that is in neither state ACTIVE nor STANDIN, or whose domain is
not on. Hub sensors belong to no cell. -/
def sensorOff (s : State) (die n : Nat) : Bool :=
  if die < 4 then
    let p := 68 * die + n / 4
    let st := rd s R.CELL_MAP_STATE p
    !((st = 0 || st = 2) && dom s p = 0)
  else false

/-- The sensors that a sensor is compared with (R40). -/
def compareGroup (s : State) (die n : Nat) : List Nat :=
  (List.range (sensorCount die)).filter (fun m =>
    m ≠ n && (die ≥ 4 || m / 16 = n / 16) && !sensorOff s die m && rd s R.PACE_SENSOR_RD_FAULT die m = 0)

/-- Inserts a value into a rising list. -/
def insertLe (x : Nat) : List Nat → List Nat
  | [] => [x]
  | y :: r => if x ≤ y then x :: y :: r else y :: insertLe x r

/-- Twice the median of a list: the middle value doubled, or the sum of the two middle values. -/
def median2 (xs : List Nat) : Nat :=
  let ys := xs.foldr insertLe []
  ys.getD ((ys.length - 1) / 2) 0 + ys.getD (ys.length / 2) 0

/-- The second and third tests of R40, on a sensor that the first does not exclude. -/
def sensorBad (s : State) (e : GovEnv) (die n : Nat) : Bool :=
  let r := e.sensors.getD n 0
  let g := (compareGroup s die n).map (fun m => e.sensors.getD m 0)
  let m2 := median2 g
  r < 300 || 3000 < r || (3 ≤ g.length && m2 < 4 * (if 2 * r < m2 then m2 - 2 * r else 2 * r - m2))

/-- The sensors a governor marks faulty in this interval (R40). -/
def newFaults (s : State) (e : GovEnv) (die : Nat) : List Nat :=
  (List.range (sensorCount die)).filter (fun n =>
    !sensorOff s die n && rd s R.PACE_SENSOR_RD_FAULT die n = 0 && sensorBad s e die n)

/-- Marks a sensor faulty: it stays excluded until a cold reset, and is recorded (R40, R519). -/
def markFaulty (e : GovEnv) (die : Nat) (s : State) (n : Nat) : State :=
  let s := wr (wr s R.PACE_SENSOR_RD_FAULT 1 die n) R.PACE_STAT_SENSOR_FAULT 1 die
  raiseIrq (recordEvent s 18 die 0x8002 2 0 [n, e.sensors.getD n 0]) 18 die Irq.PACE_SENSOR_FAULT

/-- A sensor that the governor leaves out of its measurement (R40). -/
def sensorExcluded (s : State) (die n : Nat) : Bool := sensorOff s die n || rd s R.PACE_SENSOR_RD_FAULT die n = 1

/-- What PACE_SENSOR_RD shows of a sensor after the interval. -/
def showSensor (e : GovEnv) (die : Nat) (s : State) (n : Nat) : State :=
  let off := die < 4 && dom s (68 * die + n / 4) ≠ 0
  wr (wr s R.PACE_SENSOR_RD_EXCLUDED (b2n (sensorExcluded s die n)) die n) R.PACE_SENSOR_RD_RATE
    (if off then 0 else e.sensors.getD n 0) die n

/-- The lowest reading among the included sensors and the sensor that gave it; nothing when none is included (R41). -/
def measure (s : State) (e : GovEnv) (die : Nat) : Option (Nat × Nat) :=
  (List.range (sensorCount die)).foldl (fun acc n =>
    if sensorExcluded s die n then acc
    else
      let r := e.sensors.getD n 0
      match acc with
      | some (b, m) => if r < b then some (r, n) else some (b, m)
      | none => some (r, n)) none

/-- Physical cells of a comb die that are active and on, and have all four sensors excluded (R41). -/
def blindCells (s : State) (die : Nat) : List Nat :=
  if die < 4 then
    ((List.range 68).filter (fun k => !sensorOff s die (4 * k) &&
      (List.range 4).all (fun j => sensorExcluded s die (4 * k + j)))).map (fun k => 68 * die + k)
  else []

/-- Active cells of a die. -/
def activeCells (s : State) (die : Nat) : Nat :=
  ((List.range 68).filter (fun k => rd s R.CELL_MAP_STATE (68 * die + k) = 0 || rd s R.CELL_MAP_STATE (68 * die + k) = 2)).length

/-- The load pattern of an interval's samples (R443); 0 on the hub. -/
def loadPattern (s : State) (die : Nat) (xs : List GovSample) : Nat :=
  if die < 4 then
    let busy := (xs.map (fun x => x.cells)).sum
    b2n (activeCells s die * xs.length < 2 * busy && 0 < xs.length) + 2 * b2n (xs.any (fun x => x.pipeBusy)) +
      4 * b2n ((List.range 8).any (fun j => 20 < (xs.filter (fun x => x.held.contains (8 * die + j))).length))
  else 0

/-- The thermal ceiling (R44). -/
def thermalCeiling (vmax : Nat) (temp : Int) : Nat := vmax - 10 * ((temp - 1050) / 10).toNat

/-- The new set point (R43): raised by 10 mV below 1.02 × EFF, lowered by 5 mV above 1.06 × EFF, within VMIN and the
ceiling, and always falling to the ceiling. -/
def newSetPoint (vset vmin ceil eff : Nat) (rate : Option Nat) : Nat :=
  let v := match rate with
    | none => vset
    | some r => if 100 * r < 102 * eff then vset + 10 else if 106 * eff < 100 * r then vset - 5 else vset
  min (ceil / 5 * 5) (max vmin v)

/-- The breach cause at an interval's end (R51): 6 SENSOR; 1 POWER_CAP, 2 VOLTAGE_LIMIT, 3 THERMAL, 4 SUPPLY for the limit
that binds the set point, the lowest value of equal ones; 5 RESPONSE. -/
def breachCause (blind atCeil : Bool) (vlim vmax therm supply ceil : Nat) : Nat :=
  if blind then 6
  else if !atCeil then 5
  else if vlim < vmax && vlim = ceil then 1
  else if vmax = ceil then 2
  else if therm = ceil then 3
  else if supply = ceil then 4 else 1

/-- States of R49, as PACE_STAT shows them. -/
def isBreach (s : State) (die : Nat) : Bool := rd s R.PACE_STAT_BREACH die = 1
def isRamping (s : State) (die : Nat) : Bool := rd s R.PACE_STAT_RAMPING die = 1

def gov (s : State) (die : Nat) : Gov := tget {} s.comb.gov die
def setGov (s : State) (die : Nat) (g : Gov) : State := { s with comb := { s.comb with gov := tset {} die g s.comb.gov } }

/-- PROM_RATE changes: the sequencer owes the affected partitions new bounds (R62). -/
def setProm (s : State) (die v : Nat) : State :=
  if rd s R.PACE_PROMISE_PROM_RATE die = v then s
  else
    let s := wr s R.PACE_PROMISE_PROM_RATE v die
    if die < 4 then { s with serv := { s.serv with dirty := (die :: s.serv.dirty).eraseDups } } else s

/-- PROM_RATE in breach: the lesser of EFF and the lowest measured pace of the last 16 intervals (R50). -/
def promBreach (eff : Nat) (recent : List Nat) : Nat := recent.foldl min eff

/-- The rows "EFF rises", "EFF falls" and "EFF changes" of R49. -/
def effRow (s : State) (die eff : Nat) (recent : List Nat) : State :=
  let g := gov s die
  if eff = g.prevEff then s
  else if isBreach s die then setProm s die (promBreach eff recent)
  else if isRamping s die then
    if rd s R.PACE_PROMISE_PROM_RATE die < eff then s
    else setGov (wr (setProm s die eff) R.PACE_STAT_RAMPING 0 die) die { g with lowCnt := 0 }
  else if g.prevEff < eff then wr (setProm s die g.prevEff) R.PACE_STAT_RAMPING 1 die
  else setGov (setProm s die eff) die { g with lowCnt := 0 }

/-- A floor breach is declared (R49). -/
def enterBreach (s : State) (die cause eff rate : Nat) (low : Bool) (recent : List Nat) : State :=
  let s := wr (wr (wr s R.PACE_STAT_BREACH 1 die) R.PACE_STAT_RAMPING 0 die) R.PACE_STAT_CAUSE cause die
  let s := incSat s R.PACE_BREACH_CNT die
  let s := if low then incSat s R.PACE_BREACH_INTV die else s
  let s := setProm s die (promBreach eff recent)
  let s := setGov s die { gov s die with lowCnt := 0, exitCnt := 0, inBreach := 1 }
  raiseIrq (recordEvent s 18 die 0x8000 3 0 [cause, eff, rate]) 18 die Irq.PACE_BREACH_ENTER

/-- The row "Interval ends" of R49. -/
def intervalRow (s : State) (die eff rate cause : Nat) (atCeil blind : Bool) (recent : List Nat) : State :=
  let g := gov s die
  let prom := rd s R.PACE_PROMISE_PROM_RATE die
  let low := decide (rate < prom)
  let cnt := if low then g.lowCnt + 1 else 0
  if isBreach s die then
    if rate < eff then
      let s := if low then incSat s R.PACE_BREACH_INTV die else s
      setProm (wr (setGov s die { g with exitCnt := 0, lowCnt := cnt, inBreach := g.inBreach + 1 }) R.PACE_STAT_CAUSE cause die)
        die (promBreach eff recent)
    else if blind then
      setProm (wr (setGov s die { g with exitCnt := 0, lowCnt := cnt, inBreach := g.inBreach + 1 }) R.PACE_STAT_CAUSE cause die)
        die (promBreach eff recent)
    else if g.exitCnt + 1 < rd s R.PACE_HYST die then
      setProm (wr (setGov s die { g with exitCnt := g.exitCnt + 1, lowCnt := cnt, inBreach := g.inBreach + 1 })
        R.PACE_STAT_CAUSE cause die) die (promBreach eff recent)
    else
      let s := setProm (wr (wr s R.PACE_STAT_BREACH 0 die) R.PACE_STAT_CAUSE 0 die) die eff
      let s := setGov s die { g with exitCnt := 0, lowCnt := 0, inBreach := 0 }
      raiseIrq (recordEvent s 18 die 0x8001 1 0 [g.inBreach]) 18 die Irq.PACE_BREACH_EXIT
  else if blind then enterBreach s die cause eff rate low recent
  else if eff ≤ rate then
    setGov (wr (setProm s die eff) R.PACE_STAT_RAMPING 0 die) die { g with lowCnt := 0 }
  else if low then
    if atCeil || 3 ≤ cnt then enterBreach s die cause eff rate true recent
    else incSat (setGov s die { g with lowCnt := cnt }) R.PACE_BREACH_INTV die
  else if atCeil then enterBreach s die cause eff rate false recent
  else setGov s die { g with lowCnt := 0 }

/-- What a running launch of a partition on the die keeps of the interval: its lowest promise pace and its low
intervals (R150). -/
def noteInterval (die : Nat) (low : Bool) (s : State) (p : Nat) : State :=
  if (partDies s p).contains die && partRunning s p then
    modRunning s p (fun r => { r with minProm := min r.minProm (promisePace s p)
                                      lowIntv := if low then min (r.lowIntv + 1) 0xFFFF else r.lowIntv })
  else s

/-- Queues a retirement request, once for each cell or pipe (R90); the first of its two records is written at order 1. -/
def requestRetire (s : State) (isPipe : Bool) (n : Nat) (why : RetireReason) : State :=
  if s.comb.retire.any (fun r => r.pipe = isPipe && r.num = n) then s
  else if rd s (if isPipe then R.APIPE_MAP_STATE else R.CELL_MAP_STATE) n = 3 then s
  else { s with comb := { s.comb with retire := s.comb.retire ++ [{ pipe := isPipe, num := n, reason := why }] } }

/-- Metrics a governor samples at each interval (R447). -/
def sampleGov (s : State) (die : Nat) (rate : Nat) (temp : Int) : State :=
  metricSample (metricSample (metricSample s die rate) (5 + die) temp) (10 + die) (rd s R.PACE_VOLT_VSET die)

/-- ELAPSED grows by the measured pace over 20 µs on every active cell of a comb die (R343). -/
def countElapsed (s : State) (die rate : Nat) : State :=
  if die < 4 then
    let t := s.hive.elapsed + 20 * rate * activeCells s die
    incWrap { s with hive := { s.hive with elapsed := t % 1024 } } R.HIVE_PROG_ELAPSED (t / 1024)
  else s

/-- One loop interval of the governor of die `die` (R42): measures, forms the effective floor and the ceiling, moves the
set point, and runs the breach state table, except on a comb die of which no active cell is on (R41). The comb governors stop in
standby (R397). -/
def execGovernorInterval (die : Nat) (e : GovEnv) (s : State) : Host.Outcome State Fault Refusal :=
  if die < 4 && rd s R.PWR_STAT_STANDBY = 1 then .next s else
  let s := coolCheck { s with pwr := { s.pwr with junction := tset 0 die e.temp s.pwr.junction } }
  let s := (newFaults s e die).foldl (markFaulty e die) s
  let s := (List.range (sensorCount die)).foldl (showSensor e die) s
  let m := measure s e die
  let rate := (m.map Prod.fst).getD 0
  let s := wr (wr s R.PACE_MEAS_RATE rate die) R.PACE_MEAS_SLOW_SENSOR ((m.map Prod.snd).getD 0x7FF) die
  let idle := m.isNone && decide (die < 4) && (blindCells s die).isEmpty
  let band := tempBand e.temp
  let pat := loadPattern s die e.samples
  let raise := if die < 4 then rd s R.PACE_MARGIN_RAISE die (band * 8 + pat) else 0
  let s := wr (wr s R.PACE_STAT_TEMP_BAND band die) R.PACE_STAT_LOAD_PATTERN pat die
  let s := wr s R.PACE_STAT_MARGIN_ACTIVE (b2n (0 < raise)) die
  let eff := min (rd s R.PACE_FLOOR_MIN_RATE die + raise) 1800
  let s := wr s R.PACE_FLOOR_EFFECTIVE eff die
  let vmax := rd s R.PACE_VLIM_VMAX die
  let therm := thermalCeiling vmax e.temp
  let vlim := rd s (R.PWR_DIE_VLIM die)
  let ceil := min (min vmax therm) (min vlim e.supply)
  let vset := newSetPoint (rd s R.PACE_VOLT_VSET die) (rd s R.PACE_VLIM_VMIN die) ceil eff (if idle then none else some rate)
  let s := wr (wr s R.PACE_VOLT_CEILING ceil die) R.PACE_VOLT_VSET vset die
  let blind := !(blindCells s die).isEmpty || (die = 4 && m.isNone)
  let s := (blindCells s die).foldl (fun s p => requestRetire s false p .margin) s
  let s := countElapsed (sampleGov s die rate e.temp) die rate
  if idle then .next s
  else
    let recent := (rate :: (gov s die).recent).take 16
    let atCeil := decide (ceil / 5 * 5 ≤ vset)
    let s := effRow s die eff recent
    let low := decide (rate < rd s R.PACE_PROMISE_PROM_RATE die)
    let s := (List.range 64).foldl (noteInterval die low) s
    let s := intervalRow s die eff rate (breachCause blind atCeil vlim vmax therm e.supply ceil) atCeil blind recent
    .next (setGov s die { gov s die with prevEff := eff, recent := recent })

/-- Counted errors of an entry within the last 24 h. -/
def recentErrs (s : State) (die entry : Nat) : List MarginErr :=
  (tget [] s.comb.margin (die * 64 + entry)).filter (fun x => s.now < x.time + 86400 * 10 ^ 9)

/-- How many of the errors arose in a place. -/
def errsFrom (l : List MarginErr) (src : MarginSrc) : Nat := (l.filter (fun x => x.src = src)).length

/-- The cell with the most counted errors among `l`, the first reached on a tie. -/
def worstCell (l : List MarginErr) : Option Nat :=
  l.foldl (fun acc x =>
    match x.src, acc with
    | .cell p, some b => if errsFrom l (.cell b) < errsFrom l (.cell p) then some p else some b
    | .cell p, none => some p
    | .memc _, a => a) none

/-- The controller with the most path-check mismatches among `l`. -/
def worstMemc (l : List MarginErr) : Option Nat :=
  l.foldl (fun acc x =>
    match x.src, acc with
    | .memc p, some b => if errsFrom l (.memc b) < errsFrom l (.memc p) then some p else some b
    | .memc p, none => some p
    | .cell _, a => a) none

/-- A margin entry's raise changes: recorded and signalled (R519). -/
def setRaise (s : State) (die entry v : Nat) : State :=
  if rd s R.PACE_MARGIN_RAISE die entry = v then s
  else raiseIrq (recordEvent (wr s R.PACE_MARGIN_RAISE v die entry) 18 die 0x8003 1 0 [entry, v]) 18 die Irq.PACE_MARGIN_CHANGE

/-- Firmware's action on a counted error of entry `entry` of comb die `die` (R56). -/
def execMarginUpdate (die entry : Nat) (src : MarginSrc) (s : State) : Host.Outcome State Fault Refusal :=
  let errs := recentErrs s die entry ++ [{ time := s.now, src := src }]
  let s := { s with comb := { s.comb with margin := tset [] (die * 64 + entry) errs s.comb.margin } }
  let s := wr s R.PACE_MARGIN_ERRORS (min errs.length 255) die entry
  let raise := rd s R.PACE_MARGIN_RAISE die entry
  let above := raise = 200 || (2 ≤ errs.length && 1800 < rd s R.PACE_FLOOR_MIN_RATE die + min (raise + 25) 200)
  let s :=
    if above then
      let s := wr s R.PACE_MARGIN_RETIRE_REQ 1 die entry
      match worstCell errs with
      | some p => requestRetire s false p .margin
      | none => recordEvent s 3 ((worstMemc errs).getD 0) 0x8002 3 0 [entry]
    else if 2 ≤ errs.length then setRaise s die entry (min (raise + 25) 200)
    else s
  match src with
  | .cell p =>
    let all := (List.range 64).flatMap (fun n => recentErrs s die n)
    .next (if 4 ≤ errsFrom all (.cell p) then requestRetire s false p .margin else s)
  | .memc _ => .next s

/-- A write of PACE_MARGIN.RAISE sets the raise of the selected entry, 0 to 200 (R57). -/
def execPaceMarginWrite (w : Writer) (die raise : Nat) (s : State) : Host.Outcome State Fault Refusal :=
  let entry := rd s R.PACE_MARGIN_SEL die
  .next (regWrite s w 18 die 0x134 (rd s R.PACE_MARGIN_RAISE die entry ≠ raise) (fun s =>
    if raise ≤ 200 then setRaise s die entry raise else refuseWrite s 18 die 0x134 .fieldReserved))

/-- A write of 1 to PACE_MARGIN_CLR.CLEAR_ALL sets every raise and count of the die to 0 (R57); 0 has no effect. -/
def execClearAll (w : Writer) (die v : Nat) (s : State) : Host.Outcome State Fault Refusal :=
  .next (regWrite s w 18 die 0x138 (v = 1) (fun s =>
    if v = 1 then
      (List.range 64).foldl (fun s n =>
        let s := setRaise s die n 0
        let s := wr s R.PACE_MARGIN_ERRORS 0 die n
        { s with comb := { s.comb with margin := tset [] (die * 64 + n) [] s.comb.margin } }) s
    else s))

/-- A write of PACE_FLOOR.MIN_RATE is taken from 500 to 1,800 and refused otherwise (R45). -/
def execPaceFloorWrite (w : Writer) (die v : Nat) (s : State) : Host.Outcome State Fault Refusal :=
  .next (regWrite s w 18 die 0x100 false (fun s =>
    if 500 ≤ v && v ≤ 1800 then wr s R.PACE_FLOOR_MIN_RATE v die else refuseWrite s 18 die 0x100 .fieldReserved))

/-- A write of PACE_VLIM is taken only when both fields lie within 600 to 900 mV and VMIN is at least 50 mV below VMAX
(R47). -/
def execPaceVlimWrite (w : Writer) (die vmin vmax : Nat) (s : State) : Host.Outcome State Fault Refusal :=
  .next (regWrite s w 18 die 0x10C false (fun s =>
    if 600 ≤ vmin && vmin ≤ 900 && 600 ≤ vmax && vmax ≤ 900 && vmin + 50 ≤ vmax then
      wr (wr s R.PACE_VLIM_VMIN vmin die) R.PACE_VLIM_VMAX vmax die
    else refuseWrite s 18 die 0x10C .fieldReserved))

end Sys2Proof.Machine
end

