-- ==== Sys2Proof/Machine/Partition.lean ====
section
/-!
DEFINITION. The meanings of the commands on self-tests, retirement and partitions (R86 to R97, R143, R176, R495).
-/

namespace Sys2Proof.Machine

/-- A register write on a cell or pipe page. A FREE spare is off and still takes the requests that R91 lists for it. -/
def unitWrite (s : State) (w : Writer) (isPipe : Bool) (ty n off : Nat) (k : State → State) : State :=
  if rd s (mapState isPipe) n = 1 then
    if w = .host && decide (rd s (hLocked ty) n = 1) then
      addSat (refuseWrite s ty n off .fieldReserved) (hLockRefused ty) 1 n
    else k s
  else regWrite s w ty n off true k

/-- A self-test request (R89, R176). -/
def testRequest (s : State) (w : Writer) (isPipe : Bool) (n stress : Nat) : State :=
  let ty := unitPage isPipe
  let off := if isPipe then 0x118 else 0x110
  let f := if isPipe then R.APIPE_TEST_CTL_STRESS else R.CELL_TEST_CTL_STRESS
  unitWrite s w isPipe ty n off (fun s =>
    if 50 < stress then refuseWrite s ty n off .fieldReserved
    else if rd s (mapState isPipe) n = 3 then s
    else if underTest s isPipe n then refuseWrite s ty n off .dmaBusy
    else if (match unitPart s isPipe n with | some p => partRunning s p | none => false) then
      refuseWrite s ty n off .partitionBusy
    else startTest (wr s f stress n) isPipe n)

def execCellTestStart (w : Writer) (c stress : Nat) (s : State) : Host.Outcome State Fault Refusal :=
  .next (testRequest s w false c stress)
def execPipeTestStart (w : Writer) (n stress : Nat) (s : State) : Host.Outcome State Fault Refusal :=
  .next (testRequest s w true n stress)

/-- The retirement whose spare is under test (order 3 of R90). -/
def spareTested (s : State) (isPipe : Bool) (n : Nat) : Option Retirement :=
  s.comb.retire.find? (fun r => r.pipe = isPipe && r.order = 3 && spareOf isPipe r.num = n)

/-- A self-test ends (R88, R91, R176): its result is posted and a cell's store holds 0. A failing unit that serves is to be
retired; a failing FREE spare is RETIRED at once. A failed router makes the die's quads dark (R87). The test of a spare at
order 3 of R90 carries that retirement out. -/
def testDone (s : State) (isPipe : Bool) (n failUnit : Nat) : State :=
  if !underTest s isPipe n then s
  else
    let ok := decide (failUnit = 0)
    let s := wr s (testBit isPipe) 0 n
    let s := if isPipe then
        raiseIrq (wr (wr (wr s R.APIPE_TEST_RES_DONE 1 n) R.APIPE_TEST_RES_PASS (b2n ok) n) R.APIPE_TEST_RES_FAIL_UNIT failUnit n)
          1 n Irq.APIPE_TEST_DONE
      else
        raiseIrq (wr (wr (wr s R.CELL_TEST_RES_DONE 1 n) R.CELL_TEST_RES_PASS (b2n ok) n) R.CELL_TEST_RES_FAIL_UNIT failUnit n)
          0 n Irq.CELL_TEST_DONE
    let s := touchResident s isPipe n
    let s := match logicalOf s isPipe n with
      | some l => if isPipe then setPipe s l {} else setCell s l {}
      | none => s
    let s := if !isPipe && failUnit = 7 then
        showQuads { s with comb := { s.comb with routerBad := (n / 68 :: s.comb.routerBad).eraseDups } } (n / 68)
      else s
    let s := match spareTested s isPipe n with
      | some r => carryOut (if ok then s else askRetire s isPipe n .selfTest) isPipe r.num ok
      | none => if ok then s else askRetire s isPipe n .selfTest
    twinTestDone s isPipe n ok

def execCellTestDone (c failUnit : Nat) (s : State) : Host.Outcome State Fault Refusal := .next (testDone s false c failUnit)
def execPipeTestDone (n failUnit : Nat) (s : State) : Host.Outcome State Fault Refusal := .next (testDone s true n failUnit)

/-- An operator's retirement request (R90, R91): only a write of 1 asks. -/
def execCellRetire (w : Writer) (c v : Nat) (s : State) : Host.Outcome State Fault Refusal :=
  .next (if v % 2 = 1 then unitWrite s w false 0 c 0x118 (fun s => askRetire s false c .operator) else s)
def execPipeRetire (w : Writer) (q v : Nat) (s : State) : Host.Outcome State Fault Refusal :=
  .next (if v % 2 = 1 then unitWrite s w true 2 q 0x10C (fun s => askRetire s true q .operator) else s)

/-- Changes the retirement in hand. -/
def setRetire (s : State) (isPipe : Bool) (n order : Nat) : State :=
  { s with comb := { s.comb with retire := s.comb.retire.map (fun r =>
      if r.pipe = isPipe && r.num = n then { r with order := order } else r) } }

/-- RETIREMENT_BEGIN (order 1 of R90): requests are carried out one at a time, in arrival order. -/
def execRetirementBegin (s : State) : Host.Outcome State Fault Refusal :=
  .next (match s.comb.retire with
  | [] => s
  | r :: _ =>
    if s.comb.retire.any (fun x => x.order ≠ 0) then s
    else
      let s := match unitPart s r.pipe r.num with
        | some p => setPart s p { part s p with held := true }
        | none => s
      retireRecord (setRetire s r.pipe r.num 2) r.pipe r.num 0 (reasonCode r.reason))

/-- RETIREMENT_SPARE_TEST (orders 2 and 3 of R90): once the running launch has ended the spare is tested if it is free;
otherwise the retirement is carried out without one. -/
def execRetirementSpareTest (s : State) : Host.Outcome State Fault Refusal :=
  .next (match s.comb.retire.find? (fun r => r.order = 2) with
  | none => s
  | some r =>
    if (match unitPart s r.pipe r.num with | some p => partRunning s p | none => false) then s
    else
      let sp := spareOf r.pipe r.num
      if sp ≠ r.num && rd s (mapState r.pipe) sp = 1 then startTest (setRetire s r.pipe r.num 3) r.pipe sp
      else carryOut s r.pipe r.num false)

/-! ### Partitions -/

/-- R95: a write of a partition field takes effect only while neither the old nor the new partition has a launch running. -/
def partitionWrite (s : State) (f : Fld) (i k v : Nat) (eff : State → State) : State :=
  let busy := fun p => decide (p < 64) && partRunning s p
  if !legalValue f v then refuseWrite s f.ty i f.off .fieldReserved
  else if busy (rd s f i k) || busy v then refuseWrite s f.ty i f.off .partitionBusy
  else eff (wr s f v i k)

/-- QUAD_PART (R94, R95): the residency of both partitions ends (R149). The field is RO on the spare quad. -/
def execQuadPartWrite (w : Writer) (q v : Nat) (s : State) : Host.Outcome State Fault Refusal :=
  .next (regWrite s w 2 q 0x104 false (fun s =>
    if q % 17 = 8 then s
    else
      let old := rd s R.QUAD_PART_PARTITION q
      partitionWrite s R.QUAD_PART_PARTITION q 0 v (fun s =>
        let s := if old < 64 && old ≠ v then clearResident s old else s
        if v < 64 && old ≠ v then clearResident s v else s)))

/-- MEMC_PART (R143): the same rule for a controller. -/
def execMemcPartWrite (w : Writer) (m v : Nat) (s : State) : Host.Outcome State Fault Refusal :=
  .next (regWrite s w 3 m 0x100 false (fun s => partitionWrite s R.MEMC_PART_PARTITION m 0 v id))

/-- SEAM_LANE for the selected lane (R495); SEAM_FREE shows the lanes that no partition holds. -/
def execSeamLaneWrite (w : Writer) (d v : Nat) (s : State) : Host.Outcome State Fault Refusal :=
  .next (regWrite s w 5 d 0x104 false (fun s =>
    let k := rd s R.SEAM_LANE_SEL d
    partitionWrite s R.SEAM_LANE d k v (fun s =>
      let free := rd s R.SEAM_FREE d
      wr s R.SEAM_FREE (free - (free / 2 ^ k % 2) * 2 ^ k + (if v = 127 then 2 ^ k else 0)) d)))

/-- DIE_FASTLANE, both halves (R97): refused where it changes the bit of a partition with a launch running. -/
def execFastlaneWrite (w : Writer) (v : Nat) (s : State) : Host.Outcome State Fault Refusal :=
  .next (regWrite s w 6 4 0x104 false (fun s =>
    let old := rd s R.DIE_FASTLANE 4
    if (List.range 64).any (fun p => old / 2 ^ p % 2 ≠ v / 2 ^ p % 2 && partRunning s p) then
      refuseWrite s 6 4 0x104 .partitionBusy
    else wr s R.DIE_FASTLANE v 4))

end Sys2Proof.Machine
end

