-- ==== Sys2Proof/Machine/Power.lean ====
section
/-!
DEFINITION. The meanings of the commands of power control, dusk, temperature and the boundary clocks (chapters 16 and 21).
-/

namespace Sys2Proof.Machine

/-! ### The power interval (R398 to R402) -/

/-- A comb die's limit stays within its VMIN and VMAX, and the hub's is its VMAX (R401). -/
def clampLimits (s : State) : State :=
  let s := (List.range 4).foldl (fun s d =>
    wr s (R.PWR_DIE_VLIM d) (max (rd s R.PACE_VLIM_VMIN d) (min (rd s R.PACE_VLIM_VMAX d) (rd s (R.PWR_DIE_VLIM d))))) s
  wr s (R.PWR_DIE_VLIM 4) (rd s R.PACE_VLIM_VMAX 4)

/-- Energy above the cap over one interval (R398): `p` in mW. -/
def countLag (s : State) (p : Nat) : State :=
  let e := (p - 1000 * rd s R.PWR_CAP_CAP_W) + s.pwr.lagRest
  addSat { s with pwr := { s.pwr with lagRest := e % 50000 } } R.PWR_LAG_ENERGY (e / 50000)

/-- How far a pinned comb die lies below its floor: its set point is at a limit below VMAX, and its pace below the effective
floor (R401). -/
def pinnedGap (s : State) (d : Nat) : Nat :=
  let v := rd s (R.PWR_DIE_VLIM d)
  if rd s R.PACE_VOLT_VSET d = v && v < rd s R.PACE_VLIM_VMAX d then
    rd s R.PACE_FLOOR_EFFECTIVE d - rd s R.PACE_MEAS_RATE d else 0

/-- The die whose limit rises; which of equally far ones is a free choice. -/
def pinnedDie (s : State) : Option Nat :=
  let far := ((List.range 4).map (pinnedGap s)).foldl max 0
  if far = 0 then none
  else
    let l := (List.range 4).filter (fun d => pinnedGap s d = far)
    l[freeVal s 7 % l.length]?

/-- The comb dies' limits (R401). -/
def moveLimits (s : State) (p : Nat) : State :=
  let step := 1000 * rd s R.PWR_EST_STEP_W
  let x := s.pwr
  if x.eff < p then
    let s := (List.range 4).foldl (fun s d =>
      wr s (R.PWR_DIE_VLIM d) (max (rd s R.PACE_VLIM_VMIN d) (rd s R.PACE_VOLT_VSET d - 10))) s
    { s with pwr := { x with credit := 0 } }
  else if p + step ≤ x.eff && step ≤ x.credit then
    match pinnedDie s with
    | some d =>
      let s := wr s (R.PWR_DIE_VLIM d) (min (rd s (R.PWR_DIE_VLIM d) + 5) (rd s R.PACE_VLIM_VMAX d))
      useFree { s with pwr := { x with credit := x.credit - step } }
    | none => s
  else s

/-- Plateau and ballast (R399, R400). The plateau follows demand, and falls no faster than SLEW; a rise above demand, toward MIN_W
or toward what a held launch needs, draws on the credit. Ballast fills the gap as far as idle cells allow. -/
def shapeLoad (s : State) (p : Nat) : State :=
  let x := s.pwr
  let on := rd s R.PWR_BALLAST_BALLAST_EN = 1
  let demand := p - x.ballast
  let base := min x.eff (max demand (x.plateau - 20 * rd s R.PWR_SLEW))
  let held := if on then (heldSteps s).foldl max 0 else 0
  let want := min x.eff (max base (max (1000 * rd s R.PWR_PLATEAU_MIN_W) (if held = 0 then 0 else demand + held)))
  let keep := max base (min x.plateau want)
  let rise := min x.credit (want - keep)
  let plateau := keep + rise
  let room := rd s R.PWR_EST_CELL_MW * ballastCells s
  let gap := if on then plateau - demand else 0
  let above := decide (room < gap) && decide (demand < x.demand) && !x.short
  let s := { s with pwr := { x with credit := x.credit - rise, plateau := plateau, ballast := min gap room, demand := demand,
                                    short := decide (room < gap) } }
  if above then unshaped s else s

/-- POWER_INTERVAL (R398 to R402): `p` is the input power in 0.1 W. -/
def execPowerInterval (p : Nat) (s : State) : Host.Outcome State Fault Refusal :=
  let mw := 100 * p
  let cap := 1000 * rd s R.PWR_CAP_CAP_W
  let slew := 20 * rd s R.PWR_SLEW
  let s := metricSample (wr s R.PWR_STAT_P_IN p) 15 p
  let s := countLag (setEff s (if s.pwr.eff ≤ cap then cap else max cap (s.pwr.eff - slew))) mw
  let s := clampLimits s
  let s :=
    if rd s R.PWR_STAT_EMERG_ACTIVE = 1 then
      let s := (List.range 4).foldl (fun s d => wr s (R.PWR_DIE_VLIM d) (rd s R.PACE_VLIM_VMIN d)) s
      dropShaping s
    else if s.pwr.dusk.isSome then dropShaping s
    else
      let c := min (s.pwr.credit + slew) (1000 * rd s R.PWR_EST_STEP_W)
      shapeLoad (moveLimits { s with pwr := { s.pwr with credit := c } } mw) mw
  let s := showPower s
  .next (metricSample s 16 (rd s R.PWR_STAT_EFF_CAP))

/-- PWR_CAP_WRITE (R398): CAP_W of a write of PWR_CAP. -/
def execPwrCapWrite (w : Writer) (v : Nat) (s : State) : Host.Outcome State Fault Refusal :=
  .next (regWrite s w 19 0 0x100 (rd s R.PWR_CAP_CAP_W ≠ v % 512) (fun s => capWrite s (v % 512)))
/-- EMERG_SET (R402). -/
def execEmergSet (w : Writer) (s : State) : Host.Outcome State Fault Refusal :=
  .next (regWrite s w 19 0 0x100 (rd s R.PWR_CAP_EMERG = 0) (fun s => emergWrite s true))
/-- EMERG_CLEAR (R402). -/
def execEmergClear (w : Writer) (s : State) : Host.Outcome State Fault Refusal :=
  .next (regWrite s w 19 0 0x100 (rd s R.PWR_CAP_EMERG = 1) (fun s => emergWrite s false))

/-- LAUNCH_GATE_HOLD_EXPIRY (R400): the held launch starts anyway, at its LAUNCH_START. -/
def execLaunchGateHoldExpiry (p : Nat) (s : State) : Host.Outcome State Fault Refusal :=
  .next (match (part s p).queue with
  | q :: r =>
    match q.held with
    | some t =>
      let s := reachTime s (t + 1000 * rd s R.PWR_GATE)
      setPart s p { part s p with queue := { q with pass := true } :: r }
    | none => s
  | [] => s)

/-! ### Domains (R391 to R397) -/

/-- A launch runs or waits in a partition. -/
def partWorks (s : State) (p : Nat) : Bool := (part s p).running.isSome || !(part s p).queue.isEmpty

/-- Tolerance of a unit in partition `p`, or of one in none. -/
def unitTolerance (s : State) (p : Option Nat) (other : Nat) : Nat :=
  match p with
  | some p => effTolerance s p
  | none => other

/-- Lanes of a port may go idle (R395). -/
def lanesMayIdle (s : State) (p : Nat) : Bool :=
  let x := port s p
  portUp s p && !(rd s R.WAG_REF_NONE = 0 && rd s R.WAG_REF_UPSTREAM = p) &&
  !(p = 6 && 1 ≤ twinState s && twinState s ≤ 3) && x.txq.all (fun e => e.2.isEmpty) && x.replay.isEmpty && x.resend.isEmpty &&
  10 ≤ rd s R.PWR_WAG_TOL && !heldOn s (376 + p)

/-- The conditions of R395 for a domain, but for the time for which they have held. -/
def mayIdle (s : State) (d : Nat) : Bool :=
  if d < 340 then
    let isPipe := 272 ≤ d
    let n := if isPipe then d - 272 else d
    let p := unitPart s isPipe n
    let idle := match p with | some p => !partWorks s p | none => true
    idle && rd s (testBit isPipe) n = 0 && 25 ≤ unitTolerance s p 25 &&
    (isPipe || s.pwr.ballast ≤ rd s R.PWR_EST_CELL_MW * (ballastCells s - 1))
  else if d < 372 then
    let m := d - 340
    let p := rd s R.MEMC_PART_PARTITION m
    rd s R.MEMC_STAT_HELD m = 0 && !(s.mem.rereads.any (fun r => memcOf s r.addr = m)) &&
    4 ≤ unitTolerance s (if p < 64 then some p else none) (rd s R.PWR_MODULE_TOL_TOL)
  else if 384 ≤ d && d < 392 then !engineBusy s (d - 384) && 200 ≤ rd s R.PWR_VID_TOL
  else false

/-- DOMAIN_IDLE (R392, R395): the block's conditions have held for its time. Lanes go idle by LANE_IDLE_AGREEMENT alone. -/
def execDomainIdle (d : Nat) (s : State) : Host.Outcome State Fault Refusal :=
  .next (if dom s d = 0 && !heldOn s d && mayIdle s d then setDom s d 2 else s)

/-- DOMAIN_WAKE (R396). -/
def execDomainWake (d : Nat) (s : State) : Host.Outcome State Fault Refusal :=
  .next (if rd s R.PWR_STAT_STANDBY = 1 && (d < 376 || 384 ≤ d) then s else wakeDomain s d)

/-- WAKE_DONE (R391, R396): the domain is on; what waits for it goes on by its own command. -/
def execWakeDone (d : Nat) (s : State) : Host.Outcome State Fault Refusal :=
  .next (
    if dom s d = 1 then
      let s := setDom s d 0
      if 376 ≤ d && d < 384 then setPort s (d - 376) { port s (d - 376) with idle := false } else s
    else s)

/-- HOLD_ON_WRITE (R392, R393): a write of PWR_CTL, which a low domain's page takes as well. -/
def execHoldOnWrite (ty i v : Nat) (s : State) : Host.Outcome State Fault Refusal :=
  .next (
    if 27 ≤ ty || pageCount ty ≤ i || (rd s R.BOOT_STAT_RECOVERY = 1 && !recoveryPage ty) then s
    else
      let s := wr s (hHoldOn ty) (v % 2) i
      if v % 2 = 1 then wakeDomain s (pageDomain ty i) else s)

/-- LANE_IDLE_AGREEMENT (R395): the two ends agree on channel 1, and this one refuses where its own conditions do not hold. -/
def execLaneIdleAgreement (p : Nat) (accept : Bool) (s : State) : Host.Outcome State Fault Refusal :=
  .next (
    if accept && lanesMayIdle s p && dom s (376 + p) = 0 then
      setDom (setPort s p { port s p with idle := true }) (376 + p) 2
    else s)

/-- Every tolerance of R394 is at least `t` µs. -/
def allTolerate (s : State) (t : Nat) : Bool :=
  (List.range 64).all (fun p => t ≤ rd s R.PWR_PART_TOL_TOL 0 p) && (List.range 4).all (fun c => t ≤ rd s (R.PWR_CLASS_TOL c)) &&
  t ≤ rd s R.PWR_VID_TOL && t ≤ rd s R.PWR_WAG_TOL && t ≤ rd s R.PWR_MODULE_TOL_TOL

/-- Domains that standby puts low. -/
def standbyDomains : List Nat := (List.range 397).filter (fun d => d < 376 || 384 ≤ d)

/-- The conditions of standby (R397), but for the time for which they have held. -/
def mayStandby (s : State) : Bool :=
  rd s R.PWR_MODULE_TOL_STANDBY_EN = 1 && allTolerate s 3000 && s.comb.parts.all (fun e => e.2.running.isNone && e.2.queue.isEmpty) &&
  videoIdle s && s.serv.reqs.all (fun e => e.2.isNone) &&
  s.host.queues.all (fun e => match e.2.run with | some r => runOp r = 2 | none => true) &&
  rd s R.HIVE_ROLE_ROLE_CFG = 0 && twinState s = 0 && !debugOpen s && s.pwr.dusk.isNone &&
  standbyDomains.all (fun d => !heldOn s d)

/-- STANDBY_ENTRY (R397). -/
def execStandbyEntry (s : State) : Host.Outcome State Fault Refusal :=
  .next (
    if rd s R.PWR_STAT_STANDBY = 0 && mayStandby s then
      standbyDomains.foldl (fun s d => setDom s d 2) (wr s R.PWR_STAT_STANDBY 1)
    else s)

/-- STANDBY_EXIT (R397). -/
def execStandbyExit (s : State) : Host.Outcome State Fault Refusal := .next (leaveStandby s)

/-! ### Dusk (R404 to R406) and temperature (R514, R515) -/

/-- DUSK_BEGIN (R404): nothing new while dusk or a thermal trip runs, nor before input power is within its ratings (R499). -/
def execDuskBegin (s : State) : Host.Outcome State Fault Refusal :=
  .next (if s.pwr.dusk.isSome || !s.pwr.good then s else beginDusk s)

/-- Moves on to a moment of dusk, `us` µs after t0, when the order before it is done. -/
def duskAt (s : State) (order us : Nat) (k : State → State) : State :=
  match s.pwr.dusk with
  | some t =>
    if s.pwr.order = order then
      let s := k (reachTime s (t + 1000 * us))
      { s with pwr := { s.pwr with order := order + 1 } }
    else s
  | none => s

/-- DUSK_FINISH_DEADLINE: launches still running are abandoned, codec jobs stop, and the dusk flush starts. -/
def execDuskFinishDeadline (s : State) : Host.Outcome State Fault Refusal :=
  .next (duskAt s 1 (rd s R.PWR_DUSK) (fun s =>
    triggerFlush (stopJobs (abandonAll s (fun r => !r.causes.contains .dusk) .dusk 19)) 2))

/-- DUSK_LEAVING. -/
def execDuskLeaving (s : State) : Host.Outcome State Fault Refusal := .next (duskAt s 2 14600 sendLeaving)

/-- DUSK_HOST_DOWN: request ends are written, then the host port goes down and nothing more is posted. -/
def execDuskHostDown (cut : List (Nat × List Byte)) (s : State) : Host.Outcome State Fault Refusal :=
  .next (duskAt s 3 15000 (fun s =>
    let s := hostPortReset (endAllRequests s .duskAbandon) cut
    { s with host := { s.host with perst := none } }))

/-- DUSK_POWER_OFF: every domain but 401 is off. -/
def execDuskPowerOff (s : State) : Host.Outcome State Fault Refusal :=
  .next (duskAt s 4 16000 (fun s =>
    let s := (List.range 401).foldl (fun s d => setDom s d 2) s
    let s := (List.range 8).foldl (fun s p => wr s R.WAG_STAT_STATE 0 p) s
    let s := { s with comb := { s.comb with parts := [], cells := [], pipes := [] }, wag := {} }
    { s with host := { s.host with engines := [], queues := [] }, mem := { s.mem with rereads := [] } }))

/-- DUSK_END (R404, R515): with input power still present the module restarts as after power-on; after a thermal trip it first
waits until it has cooled. -/
def execDuskEnd (power : Bool) (s : State) : Host.Outcome State Fault Refusal :=
  .next (if s.pwr.dusk.isSome && s.pwr.order = 5 && power && !s.pwr.trip then coldReset s 1 else s)

/-- THERMAL_ALARM (R514): `place` is a die, or 16 and a package; `temp` in 0.1 °C. -/
def execThermalAlarm (place : Nat) (temp : Int) (s : State) : Host.Outcome State Fault Refusal :=
  .next (
    if s.pwr.therm then s
    else recordEvent { s with pwr := { s.pwr with therm := true } } 19 0 (statusValue .thermAlarm) 3 0 [place, codeInt 16 temp])

/-- THERMAL_TRIP (R512, R515): a fatal record, then the orders of dusk. FATAL_ACTION has no part in it. -/
def execThermalTrip (place : Nat) (temp : Int) (s : State) : Host.Outcome State Fault Refusal :=
  .next (
    if s.pwr.dusk.isSome then s
    else
      let s := recordEvent { s with pwr := { s.pwr with therm := true, trip := true } } 19 0 (statusValue .thermTrip) 4 0
        [place, codeInt 16 temp]
      beginDusk { s with boot := { s.boot with fatal := false } })

/-- THERMAL_TRIP_COOLED (R515). -/
def execThermalTripCooled (s : State) : Host.Outcome State Fault Refusal :=
  .next (if s.pwr.trip && s.pwr.order = 5 then coldReset s 4 else s)

/-- OVERVOLTAGE_DISCONNECT (R509): the converters are disconnected; the next start records it. -/
def execOvervoltageDisconnect (s : State) : Host.Outcome State Fault Refusal :=
  .next (
    let s := losePower s
    { s with pwr := { s.pwr with overvolt := true } })

/-- INPUT_POWER_LOSS (R367, R452). -/
def execInputPowerLoss (s : State) : Host.Outcome State Fault Refusal := .next (losePower s)

/-! ### Boundary clocks (R407 to R414) -/

/-- CLOCK_SOURCE_TRIP (R408 to R411); `cut` is what running transfers had moved when loop 32 takes the host port down. -/
def execClockSourceTrip (k : Nat) (cut : List (Nat × List Byte)) (s : State) : Host.Outcome State Fault Refusal :=
  .next (if k < 42 then loopTrip s k cut else s)

/-- A loop at its lowest frequency relocks onto its source (R410, R411). -/
def relock (s : State) (k : Nat) : State :=
  showAwait (setLoop { s with clk := { s.clk with await := s.clk.await.filter (· ≠ k), come := s.clk.come.filter (· ≠ k) } } k 4)

/-- DIVIDER_STEP (R410): the next ratio, down to 8 while the loop begins to coast, and up to 1 after it has relocked. -/
def execDividerStep (k : Nat) (s : State) : Host.Outcome State Fault Refusal :=
  .next (
    let d := rd s R.CLK_LOOP_STAT_DIVIDER 0 k
    if loopState s k = 3 && !s.clk.up.contains k then
      let s := wr s R.CLK_LOOP_STAT_DIVIDER (d + 1) 0 k
      if d + 1 < 5 then s
      else if s.clk.come.contains k then relock s k else setLoop s k 2
    else if loopState s k = 4 || loopState s k = 3 then
      let s := setLoop (wr { s with clk := { s.clk with up := (k :: s.clk.up).eraseDups } } R.CLK_LOOP_STAT_DIVIDER (d - 1) 0 k) k 3
      if 1 < d then s else setLoop { s with clk := { s.clk with up := s.clk.up.filter (· ≠ k) } } k 1
    else s)

/-- CLOCK_SOURCE_GOOD (R409, R410): a source of the loop has been good for 100 µs. A loop on its fallback returns to the hive
reference, and a coasting one relocks. -/
def execClockSourceGood (k : Nat) (s : State) : Host.Outcome State Fault Refusal :=
  .next (
    let src := if k < 32 then (if tcxoStable s then some 0 else none)
      else if k = 32 then (if s.host.refclk then some 1 else none)
      else if hiveRef s then some 2
      else if tcxoStable s then some 0 else none
    match src with
    | none => s
    | some v =>
      if 42 ≤ k then s
      else if loopState s k = 1 then
        if 33 ≤ k && v = 2 then wr (wr s R.CLK_LOOP_STAT_SOURCE 2 0 k) R.CLK_LOOP_STAT_SRC_LOST 0 0 k else s
      else if loopState s k = 2 then
        relock (wr (wr s R.CLK_LOOP_STAT_SOURCE v 0 k) R.CLK_LOOP_STAT_SRC_LOST 0 0 k) k
      else if loopState s k = 3 && !s.clk.up.contains k then
        let s := wr (wr s R.CLK_LOOP_STAT_SOURCE v 0 k) R.CLK_LOOP_STAT_SRC_LOST 0 0 k
        { s with clk := { s.clk with come := (k :: s.clk.come).eraseDups } }
      else s)

/-- A loop finds the TCXO stable: at start it locks, and where it waits it relocks onto it (R407, R411). -/
def tcxoFor (s : State) (k : Nat) : State :=
  if loopState s k = 0 then
    let v := if k < 32 then 0 else if k = 32 then 1 else if hiveRef s then 2 else 0
    if k = 32 && !s.host.refclk then s else setLoop (wr s R.CLK_LOOP_STAT_SOURCE v 0 k) k 1
  else if s.clk.await.contains k then
    let s := wr s R.CLK_LOOP_STAT_SRC_LOST 0 0 k
    if loopState s k = 2 then relock s k
    else { s with clk := { s.clk with come := (k :: s.clk.come).eraseDups, await := s.clk.await.filter (· ≠ k) } }
  else s

/-- TCXO_STABLE (R407, R411, R412). -/
def execTcxoStable (s : State) : Host.Outcome State Fault Refusal :=
  .next (showAwait ((List.range 42).foldl tcxoFor (wr (wr s R.CLK_STAT_TCXO_STABLE 1) R.CLK_STAT_TCXO_FAULT 0)))

/-- TCXO_FAULT (R412): a fatal event; loops 0 to 31 coast, and those of the others that ran on the TCXO have lost their source. -/
def execTcxoFault (s : State) : Host.Outcome State Fault Refusal :=
  .next (
    let s := wr (wr s R.CLK_STAT_TCXO_FAULT 1) R.CLK_STAT_TCXO_STABLE 0
    let s := raiseIrq (recordEvent s 20 0 (0x8000 + Irq.CLK_TCXO_FAULT) 4 0 []) 20 0 Irq.CLK_TCXO_FAULT
    fatalAction ((List.range 42).foldl (fun s k =>
      if loopState s k ≠ 1 then s
      else if k < 32 then coast s k true []
      else if 33 ≤ k && rd s R.CLK_LOOP_STAT_SOURCE 0 k = 0 then loopTrip s k []
      else s) s))

/-- CLOCK_GATE_REQUEST (R413): an open or new access keeps or opens the gate; a memory PHY clock runs on while its controller is
held or has a channel out of self-refresh. -/
def execClockGateRequest (k : Nat) (access : Bool) (s : State) : Host.Outcome State Fault Refusal :=
  .next (
    if 42 ≤ k then s
    else if access then wr s R.CLK_LOOP_STAT_GATED 0 0 k
    else if k < 32 && (rd s R.MEMC_STAT_HELD k = 1 || dom s (340 + k) ≠ 2) then s
    else wr s R.CLK_LOOP_STAT_GATED 1 0 k)

/-- GATE_STUCK (R413): the gate stays open. -/
def execGateStuck (k : Nat) (s : State) : Host.Outcome State Fault Refusal :=
  .next (
    if 42 ≤ k then s
    else
      let s := incSat (wr (wr s R.CLK_LOOP_STAT_GATE_STUCK 1 0 k) R.CLK_LOOP_STAT_GATED 0 0 k) R.CLK_GATE_STUCK_CNT
      raiseIrq (statusEvent s 20 0 .gateStuck 0 [k]) 20 0 Irq.CLK_GATE_STUCK)

/-- Frequency in Hz of a fixed source of CLKOBS (R414). -/
def fixedHz : Nat → Nat
  | 1 => 100000000
  | 3 => 32768
  | _ => 156250000

/-- INDEX names a signal of its KIND (R414). -/
def obsIndexOk (kind die index : Nat) : Bool :=
  if kind = 0 then index < 42 else if kind = 1 then index < sensors die else index < 4
where
  sensors (die : Nat) : Nat := if die < 4 then 272 else 32

/-- CLK_OBS_SELECT (R414): a write of CLK_OBS_SEL; `hz` is the frequency of a selected loop output or pace sensor. -/
def execClkObsSelect (w : Writer) (v hz : Nat) (s : State) : Host.Outcome State Fault Refusal :=
  .next (
    let kind := v / 2 ^ 30 % 4
    let index := bitsOf v 16 11
    if kind ≠ 3 && bitsOf v 27 3 < 5 && !obsIndexOk kind (bitsOf v 27 3) index then
      if pageServed s 20 0 then refuseWrite s 20 0 0x10C .fieldReserved else s
    else
      let s := wordWrite s w 20 0 0x10C v
      let f := if rd s R.CLK_OBS_SEL_KIND = 2 then fixedHz (rd s R.CLK_OBS_SEL_INDEX) else hz
      wr s R.CLK_OBS_STAT_OVER (b2n (200000000 * (rd s R.CLK_OBS_SEL_DIV + 1) < f)))

end Sys2Proof.Machine
end

