-- ==== Sys2Proof/Machine/Queues.lean ====
section
/-!
DEFINITION. The meanings of the commands on queue pairs: control, doorbells, fetching and starting entries, WAIT, the peer
commands, timeouts, and the queue manager's registers (chapter 11).
-/

namespace Sys2Proof.Machine

/-- Page and instance of a function's queue registers (R253). -/
def fnPage (fn : Nat) : Nat := if fn = 0 then 9 else 27
/-- Q_SEL of a function's own page. -/
def qSel (s : State) (fn : Nat) : Nat := rd s { R.Q_SEL with ty := fnPage fn } fn

/-- What R271 asks for the creation of a queue. -/
def createOk (s : State) (fn q : Nat) : Bool :=
  let d := rd s R.Q_CFG_DEPTH_LOG2 0 q
  let tmo := rd s R.Q_TIMEOUT 0 q
  let tag := rd s R.Q_TAG_BASE 0 q
  rd s R.Q_SQ_BASE 0 q % 4096 = 0 && rd s R.Q_CQ_BASE 0 q % 4096 = 0 && 1 ≤ d && d ≤ 16 &&
  rd s R.Q_CFG_VECTOR 0 q < rd s R.HOST_FN_MSIX 0 fn && (tmo = 0 || 80 ≤ tmo) &&
  (!tenSeals s (fnTenant s fn) || (tag ≠ 0 && tag % 4096 = 0))

/-- A created queue: heads and tails 0, phase 1, ACTIVE (R271). -/
def createQueue (s : State) (q : Nat) : State :=
  let s := wr (wr (wr (wr s R.Q_SQ_PTR_HEAD 0 0 q) R.Q_SQ_PTR_TAIL 0 0 q) R.Q_CQ_PTR_HEAD 0 0 q) R.Q_CQ_PTR_TAIL 0 0 q
  let s := wr (wr (wr s R.Q_STAT_STATE 1 0 q) R.Q_STAT_CQ_WAIT 0 0 q) R.Q_STAT_FAULT_STATUS 0 0 q
  wr (setQueue s q {}) R.QMGR_ACTIVE (rd s R.QMGR_ACTIVE + 1)

/-- Entries from the next one to start up to SQ_TAIL. -/
def waiting (s : State) (q : Nat) : Nat :=
  (rd s R.Q_SQ_PTR_TAIL 0 q + ringN s q - rd s R.Q_SQ_PTR_HEAD 0 q) % ringN s q

/-- An entry counts for its stream when it is executed or flushed (R282). -/
def countEntry (s : State) (q : Nat) : State :=
  let t := fnTenant s (queueFn s q)
  if tenSeals s t then setStream s t (streamWord 0 1 q) (streamCtr s t (streamWord 0 1 q) + 1) else s

/-- A fetched entry: its segment verifies under the counter that its place gives, or it is a faulting command (R266, R267,
R282). `ahead` is how many entries fetched before it have not been executed. -/
def fetchEntry (s : State) (q idx ahead : Nat) (b : List Byte) (res : FetchRes) (ctr : Nat) : State × Sub :=
  let t := fnTenant s (queueFn s q)
  let b := (b ++ List.replicate 64 0).take 64
  match res with
  | .hostError => (hostReadFailed s (queueFn s q) [q, idx], { idx := idx, bytes := b, bad := some .dmaHostError })
  | r =>
    if tenSeals s t && (r = .badTag || ctr ≠ streamCtr s t (streamWord 0 1 q) + ahead + 1) then
      (sealFailed s false, { idx := idx, bytes := b, bad := some .sealAuth })
    else (s, { idx := idx, bytes := b })

/-- Completes an entry FLUSHED (R288). -/
def flushOne (s : State) (q : Nat) (e : Sub) : State :=
  postCpl (countEntry s q) q { cid := if e.bad.isSome then 0xFFFF else fieldAt e.bytes 2 2, status := .flushed, flags := 0,
                               sqHead := (e.idx + 1) % ringN s q, result := 0 }

/-- Every entry after the faulting one completes FLUSHED, in order: the fetched ones, then those still in the ring, which
`rest` brings (R288). -/
def flushQueue (s : State) (q : Nat) (rest : List (List Byte × FetchRes × Nat)) : State :=
  let x := queue s q
  let n := waiting s q
  let s := wr (setQueue s q { x with fetched := [], next := rd s R.Q_SQ_PTR_TAIL 0 q }) R.Q_STAT_STATE 1 0 q
  let s := (x.fetched.take n).foldl (fun s e => flushOne s q e) s
  let s := (List.range (n - x.fetched.length)).foldl (fun s i =>
    let e := rest.getD i ([], .good, 0)
    let (s, b) := fetchEntry s q ((x.next + i) % ringN s q) 0 e.1 e.2.1 e.2.2
    flushOne s q b) s
  wr s R.Q_SQ_PTR_HEAD (rd s R.Q_SQ_PTR_TAIL 0 q) 0 q

/-- A write of Q_CTL for the function's selected queue (R288). Bits of one write act in the order CREATE, DELETE, RESUME,
FLUSH. -/
def queueControl (s : State) (fn v : Nat) (cut : List (Nat × List Byte)) (rest : List (List Byte × FetchRes × Nat)) : State :=
  let q := qSel s fn
  let ty := fnPage fn
  let off := R.Q_CTL_CREATE.off
  let bad := fun (s : State) (st : Status) => refuseWrite s ty fn off st
  regWrite s .host ty fn off false (fun s =>
    if queueFn s q ≠ fn then bad s .lengthRange
    else if bitsOf v 2 2 = 3 then bad s .queueState
    else
      let s := if bitsOf v 0 1 = 0 then s
        else if qState s q ≠ 0 then bad s .queueState
        else if createOk s fn q then createQueue s q else bad s .lengthRange
      let s := if bitsOf v 1 1 = 0 then s
        else if qState s q = 1 || qState s q = 2 then deleteQueue s q cut else bad s .queueState
      let s := if bitsOf v 2 1 = 0 then s
        else if qState s q = 2 then wr s R.Q_STAT_STATE 1 0 q else bad s .queueState
      if bitsOf v 3 1 = 0 then s
      else if qState s q = 2 then flushQueue s q rest else bad s .queueState)

/-- CREATE (R271, R288): `also` are the other bits of the write. -/
def execCreate (fn also : Nat) (s : State) : Host.Outcome State Fault Refusal :=
  .next (queueControl s fn (also % 16 ||| 1) [] [])
/-- DELETE (R290). -/
def execDelete (fn also : Nat) (cut : List (Nat × List Byte)) (s : State) : Host.Outcome State Fault Refusal :=
  .next (queueControl s fn (also % 16 ||| 2) cut [])
/-- RESUME (R288). -/
def execResume (fn also : Nat) (s : State) : Host.Outcome State Fault Refusal :=
  .next (queueControl s fn (also % 16 ||| 4) [] [])
/-- QUEUE_FLUSH (R288): `rest` are the entries not yet fetched, as the host's memory gives them. -/
def execQueueFlush (fn also : Nat) (rest : List (List Byte × FetchRes × Nat)) (s : State) : Host.Outcome State Fault Refusal :=
  .next (queueControl s fn (also % 16 ||| 8) [] rest)

/-! ### Doorbells (R273 to R275, R493) -/

/-- A doorbell that is ignored (R273, R274). -/
def doorbellError (s : State) (fn : Nat) : State := raiseIrq (incSat s R.QMGR_DB_ERR_CNT) (fnPage fn) fn Irq.QMGR_DB_ERROR

/-- The queue whose doorbell lies at an offset of a function's BAR2 (R493). -/
def doorbellQueue (s : State) (fn off : Nat) : Option Nat :=
  let p := off / 4096
  let q := fun g => 512 * g + off % 4096 / 8
  if fn = 0 then (if p < 128 && rd s R.QMGR_DBP_MAP 0 p = 0 then some (q p) else none)
  else if 64 ≤ p then none
  else if rd s R.QMGR_DBP_MAP 0 p = fn then some (q p)
  else if rd s R.QMGR_DBP_MAP 0 (p + 64) = fn then some (q (p + 64))
  else none

/-- SQ_TAIL takes a new value (R274). -/
def bellTail (s : State) (fn q v : Nat) : State :=
  if ringN s q ≤ v then doorbellError s fn else wr s R.Q_SQ_PTR_TAIL v 0 q

/-- CQ_HEAD takes a new value, and held completions are posted (R274, R275). -/
def bellHead (s : State) (fn q v : Nat) : State :=
  let n := ringN s q
  let h := rd s R.Q_CQ_PTR_HEAD 0 q
  if n ≤ v || (rd s R.Q_CQ_PTR_TAIL 0 q + n - h) % n < (v + n - h) % n then doorbellError s fn
  else
    let s := wr s R.Q_CQ_PTR_HEAD v 0 q
    postHeld ((queue s q).held.length + 1) s q

/-- DOORBELL (R273, R274): a write of `n` bytes of value `v` at an offset of a function's BAR2. -/
def execDoorbell (fn off n v : Nat) (s : State) : Host.Outcome State Fault Refusal :=
  .next (
    if !hostUp s || 63 < fn then s
    else if !((n = 8 && off % 8 = 0) || (n = 4 && off % 4 = 0)) then doorbellError s fn
    else
      match doorbellQueue s fn off with
      | none => doorbellError s fn
      | some q =>
        if qState s q = 0 || qState s q = 3 then doorbellError s fn
        else if n = 4 then (if off % 8 = 0 then bellTail s fn q (v % 65536) else bellHead s fn q (v % 65536))
        else bellHead (bellTail s fn q (v % 65536)) fn q (bitsOf v 32 16))

/-! ### Fetching and starting (R272, R276 to R279) -/

/-- ENTRY_FETCHED (R272, R282): at most 8 entries ahead of the running command, up to SQ_TAIL. -/
def execEntryFetched (q : Nat) (bytes : List Byte) (res : FetchRes) (ctr : Nat) (s : State) : Host.Outcome State Fault Refusal :=
  .next (
    let x := queue s q
    if qState s q ≠ 1 || admissionsStopped s || !(x.fetched.length < 8) || x.next = rd s R.Q_SQ_PTR_TAIL 0 q then s
    else
      let (s, e) := fetchEntry s q x.next x.fetched.length bytes res ctr
      setQueue s q { x with fetched := x.fetched ++ [e], next := (x.next + 1) % ringN s q })

/-- Opcodes of R277. -/
def knownOps : List Nat := [0, 1, 2, 3, 4, 5, 6, 7, 8, 9, 0x0A, 0x10, 0x11, 0x12, 0x20, 0x21, 0x22]
/-- The opcode is unknown, or forbidden to the function. -/
def opForbidden (r : RunCmd) : Bool := !knownOps.contains (runOp r) || (runOp r = 0x22 && r.fn ≠ 0)

/-- COMMAND_START (R252, R272, R282, R383): the next fetched entry becomes the running command, or completes at once with what
forbids it. -/
def execCommandStart (q : Nat) (s : State) : Host.Outcome State Fault Refusal :=
  .next (
    let x := queue s q
    match x.fetched with
    | [] => s
    | e :: rest =>
      if qState s q ≠ 1 || x.run.isSome || !x.held.isEmpty then s
      else
        let fn := queueFn s q
        let r : RunCmd := { sub := e, fn := fn, tenant := fnTenant s fn, start := s.now }
        let s := wr (setQueue s q { x with fetched := rest, run := some r }) R.Q_SQ_PTR_HEAD ((e.idx + 1) % ringN s q) 0 q
        let s := countEntry s q
        match e.bad with
        | some st => finishCmd s q st 0
        | none =>
          if opForbidden r then s
          else if !fnBound s fn then finishCmd s q .tenantMismatch 0
          else if fn ≠ 0 && tenState s r.tenant = 2 then finishCmd s q .tenantRetiring 0
          else if runOp r = 0x0A && 4 < arg r 17 1 % 8 then finishCmd s q .fieldReserved 0
          else s)

/-- NOP (R277). -/
def execNop (q : Nat) (s : State) : Host.Outcome State Fault Refusal :=
  .next (match running s q 0 with
  | some _ => finishCmd s q .ok 0
  | none => s)

/-- INVALID_OPCODE (R277). -/
def execInvalidOpcode (q : Nat) (s : State) : Host.Outcome State Fault Refusal :=
  .next (match (queue s q).run with
  | some r => if opForbidden r && !r.busy then finishCmd s q .invalidOpcode 0 else s
  | none => s)

/-- WAIT (R285). -/
def execWait (q : Nat) (s : State) : Host.Outcome State Fault Refusal :=
  .next (match running s q 2 with
  | none => s
  | some r =>
    let c := waitCounter r
    if c / 4096 ≠ r.tenant then finishCmd s q .tenantMismatch 0
    else if arg r 24 8 ≤ sigValue s c then finishCmd s q .ok (sigValue s c)
    else setBusy s q)

/-! ### Peers (R278, R309, R327) -/

/-- Why a command cannot go to a module (R327). -/
def peerCheck (s : State) (m : Nat) : Option Status :=
  if !isMember s m then some .peerAbsent
  else if hiveState s ≠ 2 then some .hiveStopped
  else none

/-- A command to another module: its message is numbered, and leaves on the port of its route. A first link that is not up
fails it (R312). -/
def sendPeer (s : State) (q dst tenant length vc : Nat) (copy : Option (Nat × Nat × Nat)) (body : Nat → Msg) : State :=
  let n := s.wag.nextCmd
  let p := (routePort (hiveId s) dst).getD 0
  if dst ≠ hiveId s && !portUp s p then finishCmd s q .linkDown 0
  else
    let c : PeerCmd := { queue := q, dst := dst, port := p, tenant := tenant, length := length }
    let s := { s with wag := { s.wag with nextCmd := n + 1, cmds := tset none n (some c) s.wag.cmds } }
    let s := modRun (setBusy s q) q (fun r => { r with msg := some n })
    if dst = hiveId s then emit s (.toSelf (body n))
    else enqueue s p { vc := vc, src := hiveId s, dst := dst, tenant := tenant, body := body n, copy := copy }

/-- PEER_COPY (R278, R279, R309, R327). -/
def execPeerCopy (q : Nat) (s : State) : Host.Outcome State Fault Refusal :=
  .next (match running s q 8 with
  | none => s
  | some r =>
    let m := arg r 16 2 % 512
    let t := arg r 18 1
    let n := arg r 20 4
    let src := arg r 24 8
    let dst := arg r 32 8
    if n < 1 || 0xFFFFFFFE < n || 2 ^ 64 < src + n || 2 ^ 64 < dst + n then finishCmd s q .lengthRange 0
    else if !tenantOk r false t then finishCmd s q .tenantMismatch 0
    else if !tenActive s t then finishCmd s q .tenantRetiring 0
    else
      match peerCheck s m with
      | some st => finishCmd s q st 0
      | none =>
        match accessFail s t src n with
        | some st => finishCmd s q st 0
        | none => sendPeer s q m t n 0 (some (src, dst, n)) (fun c => .copyPart c (some (t, dst, n)) []))

/-- REMOTE_SIGNAL (R278, R327). -/
def execRemoteSignal (q : Nat) (s : State) : Host.Outcome State Fault Refusal :=
  .next (match running s q 9 with
  | none => s
  | some r =>
    let m := arg r 16 2 % 512
    match peerCheck s m with
    | some st => finishCmd s q st 0
    | none => sendPeer s q m r.tenant 0 1 none
        (fun c => .remoteSignal c r.tenant (arg r 20 4 % 2 ^ 20) (arg r 18 1 % 2 = 1) (arg r 24 8)))

/-! ### Timeouts (R291 to R294) -/

/-- Opcodes with a command timer (R277); REQUEST, LOAD_PLAN and WEIGHT_LOAD have it for their host reads. -/
def timedOps : List Nat := [1, 2, 3, 5, 8, 9, 0x20]

/-- The command is still in what its timer covers. -/
def timerRuns (r : RunCmd) : Bool := timedOps.contains (runOp r) && (!r.busy || (runOp r ≠ 3 && runOp r ≠ 5))

/-- A retry below is pending for a queue's running command (R293): a re-read of its transfer's units, or a replay on the port
of its message. -/
def retryBelow (s : State) (q : Nat) : Bool :=
  (match engine s (queueEngine q) with
    | x :: _ => x.queue = some q && waitsReRead s (.dma (queueEngine q))
    | [] => false) ||
  (match queuePeer s q with
    | some (_, c) => (port s c.port).replay.any (fun h => h.since.isSome) || waitsReRead s (.copy q)
    | none => false)

/-- The command ends TIMEOUT (R292). -/
def timeOut (s : State) (q : Nat) (r : RunCmd) (cut : List (Nat × List Byte)) : State :=
  let s := incSat s R.QMGR_TO_CNT
  match runOp r with
  | 2 => finishCmd s q .timeoutSt (if r.busy then sigValue s (waitCounter r) else 0)
  | 1 => if r.busy then stopXfers s (fun x => x.queue = some q) .timeoutSt cut else finishCmd s q .timeoutSt 0
  | 0x20 => if r.busy then stopXfers s (fun x => x.queue = some q) .timeoutSt cut else finishCmd s q .timeoutSt 0
  | _ =>
    match queuePeer s q with
    | some (cmd, _) => endPeer (if runOp r = 8 then abortCopy s cmd else s) cmd .timeoutSt
    | none => finishCmd s q .timeoutSt 0

/-- COMMAND_TIMEOUT (R292, R293): `cut` is what the command's transfer had moved. -/
def execCommandTimeout (q : Nat) (cut : List (Nat × List Byte)) (s : State) : Host.Outcome State Fault Refusal :=
  .next (match (queue s q).run with
  | none => s
  | some r =>
    let tmo := rd s R.Q_TIMEOUT 0 q
    if tmo = 0 || !timerRuns r || qState s q ≠ 1 then s
    else
      let s := reachTime s (r.start + 1000 * tmo)
      if retryBelow s q then modRun s q (fun r => { r with near := true })
      else timeOut s q r cut)

/-! ### The queue manager's registers -/

/-- QMGR_SIG_BASE_WRITE (R283): accepted while every queue is DISABLED; the area is 8 MiB-aligned. -/
def execQmgrSigBaseWrite (w : Writer) (v : Nat) (s : State) : Host.Outcome State Fault Refusal :=
  .next (regWrite s w 9 0 R.QMGR_SIG_BASE.off (chg s R.QMGR_SIG_BASE v) (fun s =>
    if !(liveQueues s).isEmpty then refuseWrite s 9 0 R.QMGR_SIG_BASE.off .queueState
    else if v % 2 ^ 23 ≠ 0 then refuseWrite s 9 0 R.QMGR_SIG_BASE.off .lengthRange
    else wr s R.QMGR_SIG_BASE v))

/-- DBP_MAP_WRITE (R494): the selected doorbell page moves to a function. -/
def execDbpMapWrite (w : Writer) (fn : Nat) (s : State) : Host.Outcome State Fault Refusal :=
  .next (regWrite s w 9 0 R.QMGR_DBP_MAP.off (chg s R.QMGR_DBP_MAP fn 0 (rd s R.QMGR_DBP_SEL)) (fun s =>
    let g := rd s R.QMGR_DBP_SEL
    if (liveQueues s).any (fun q => q / 512 = g) then refuseWrite s 9 0 R.QMGR_DBP_MAP.off .queueState
    else if fn % 64 ≠ 0 && rd s R.QMGR_DBP_MAP 0 ((g + 64) % 128) = fn % 64 then
      refuseWrite s 9 0 R.QMGR_DBP_MAP.off .fieldReserved
    else wr s R.QMGR_DBP_MAP fn 0 g))

end Sys2Proof.Machine
end

