-- ==== Sys2Proof/Machine/Recorder.lean ====
section
/-!
DEFINITION. The event recorder and the two-bank store (chapter 18).
-/

namespace Sys2Proof.Machine

/-- EVENT_RECORD (R442 to R445): a fatal event is followed by what FATAL_ACTION asks for (R456). -/
def execEventRecord (ty i code sev tenant : Nat) (detail : List Nat) (s : State) : Host.Outcome State Fault Refusal :=
  .next (
    if (i < pageCount ty || ty = 63) && sev ≤ 4 && code < 65536 && tenant < 256 then
      fatalAction (recordEvent s ty i code sev tenant detail)
    else s)

/-- RTC_SET (R439): the count takes effect at the next tick. -/
def execRtcSet (w : Writer) (s : State) : Host.Outcome State Fault Refusal :=
  .next (regWrite s w 23 0 0x140 true (fun s => { s with evr := { s.evr with rtcSet := some (rd s R.EVR_RTC_SET) } }))

/-- FLUSH_PERIOD_EXPIRY (R448). -/
def execFlushPeriodExpiry (s : State) : Host.Outcome State Fault Refusal :=
  .next (
    if isFlushing s then s
    else triggerFlush (reachTime s (s.evr.lastEnd + 60000000000 * rd s R.EVR_FLUSH_PERIOD)) 0)

/-- RECORDER_FLUSH (R448). -/
def execRecorderFlush (w : Writer) (s : State) : Host.Outcome State Fault Refusal :=
  .next (regWrite s w 23 0 0x100 false (fun s => triggerFlush s 3))

/-- FLUSH_END (R448, R449, R454). -/
def execFlushEnd (us : Nat) (s : State) : Host.Outcome State Fault Refusal := .next (commitFlush s us)

/-- MRAM_WRITE_ERROR (R454): the bank that was being written is no longer valid, and is the next one to be written. -/
def execMramWriteError (s : State) : Host.Outcome State Fault Refusal :=
  .next (match s.evr.flush with
  | none => s
  | some f =>
    let s := wr (cutFlush s) (if f.bank = 0 then R.NVS_STAT_VALID0 else R.NVS_STAT_VALID1) 0
    flushOver (irqEvent (incSat s R.NVS_FLUSH_FAIL_CNT) 24 0 Irq.NVS_FLUSH_FAIL 0 []))

/-- A freeze begins (R450); while frozen, a further write of 1 changes nothing. In recovery mode the copy goes to the host (R463). -/
def startFreeze (s : State) : State :=
  if isFrozen s then s
  else
    let s := wr (wr (wr s R.EVR_CTL_FREEZE 1) R.EVR_STAT_FROZEN 1) R.EVR_STAT_COPIED 0
    let s := { s with evr := { s.evr with frozenAt := s.now } }
    if rd s R.BOOT_STAT_RECOVERY = 1 || owned s 0 (rd s R.EVR_DUMP_BASE) 4456448 then
      { s with evr := { s.evr with copying := true } }
    else refuseWrite s 23 0 0x100 .memUnowned

/-- FREEZE (R450). -/
def execFreeze (w : Writer) (s : State) : Host.Outcome State Fault Refusal := .next (regWrite s w 23 0 0x100 false startFreeze)
/-- UNFREEZE (R450). -/
def execUnfreeze (w : Writer) (s : State) : Host.Outcome State Fault Refusal := .next (regWrite s w 23 0 0x100 false endFreeze)

/-- FREEZE_EXPIRY (R450). -/
def execFreezeExpiry (s : State) : Host.Outcome State Fault Refusal :=
  .next (
    if isFrozen s then
      irqEvent (endFreeze (reachTime s (s.evr.frozenAt + 10000000000))) 23 0 Irq.EVR_FREEZE_EXPIRED 0 []
    else s)

/-- FREEZE_COPY_DONE (R450, R463). -/
def execFreezeCopyDone (s : State) : Host.Outcome State Fault Refusal :=
  .next (
    if s.evr.copying then
      let bs := freezeBytes s
      let a := rd s R.EVR_DUMP_BASE
      let s := useFree { s with evr := { s.evr with copying := false } }
      wr (if rd s R.BOOT_STAT_RECOVERY = 1 then emit s (.hostWrite a bs) else memWrite s a bs) R.EVR_STAT_COPIED 1
    else s)

/-- Clears every histogram and extreme (R446); a freeze has stopped writes to the metric entries (R450). -/
def clearAllMetrics (s : State) : State :=
  if isFrozen s then s
  else
    let l : Tbl Metric := s.evr.metrics.map (fun e => (e.1, { e.2 with hist := [], low := none, high := none }))
    { s with evr := { s.evr with metrics := l } }

/-- CLEAR_METRICS (R446). -/
def execClearMetrics (w : Writer) (s : State) : Host.Outcome State Fault Refusal :=
  .next (regWrite s w 23 0 0x100 true clearAllMetrics)

/-- A word written to EVR_MET_LOW or EVR_MET_CFG (R446, R450): a change of LOW or SHIFT clears the metric's histogram. -/
def metricConfig (s : State) (w : Writer) (off v : Nat) : State :=
  if isFrozen s then refuseWrite s 23 0 off .evrFrozen
  else
    let m := rd s R.EVR_MET_SEL
    let t := wordWrite s w 23 0 off v
    if rd t R.EVR_MET_LOW 0 m = rd s R.EVR_MET_LOW 0 m && rd t R.EVR_MET_CFG_SHIFT 0 m = rd s R.EVR_MET_CFG_SHIFT 0 m then t
    else setMetric t m { metric t m with hist := [] }

/-- METRIC_CONFIG_WRITE (R446). -/
def execMetricConfigWrite (w : Writer) (cfg : Bool) (v : Nat) (s : State) : Host.Outcome State Fault Refusal :=
  .next (metricConfig s w (if cfg then 0x158 else 0x154) v)

/-- METRIC_INTERVAL_END (R446); a freeze has stopped writes to the metric entries (R450). -/
def execMetricIntervalEnd (m : Nat) (s : State) : Host.Outcome State Fault Refusal :=
  .next (
    if isFrozen s || 1024 ≤ m then s
    else
      let x := metric s m
      let t := max s.rtc (x.start + 32768 * rd s R.EVR_MET_CFG_INTERVAL 0 m)
      setMetric { s with rtc := t } m { x with lastSum := x.sum, lastCnt := x.cnt, sum := 0, cnt := 0, start := t })

/-- METRIC_COUNT_SECOND (R447): corrected errors of the 32 memory controllers, then replays of the 8 Waggle ports. -/
def execMetricCountSecond (s : State) : Host.Outcome State Fault Refusal :=
  .next (
    let s := (List.range 32).foldl (fun s i => countMetric s (49 + i) (rd s R.MEMC_CE_CNT i)) s
    (List.range 8).foldl (fun s p => countMetric s (81 + p) (rd s R.WAG_REPLAY_CNT p)) s)

end Sys2Proof.Machine
end

