-- ==== Sys2Proof/Machine/Security.lean ====
section
/-!
DEFINITION. The meanings of the security island's commands: key slots, weights, retirement, group keys, attestation, IDE keys
and the debug unlock (chapter 15).
-/

namespace Sys2Proof.Machine

/-! ### Key slots (R367 to R371) -/

/-- Checks of R369 in order. -/
def keyCheck (s : State) (r : RunCmd) : Option Status :=
  let t := arg r 16 1
  let m := arg r 17 1 % 4
  let sealReq := bitsOf (arg r 17 1) 2 1 = 1
  let a := arg r 24 8
  if t = 0 || a % 64 ≠ 0 || arg r 32 8 % 64 ≠ 0 then some .lengthRange
  else if 2 ≤ m || (a = 0 && (m = 1 || sealReq)) then some .fieldReserved
  else if !tenantOk r true t then some .tenantMismatch
  else if tenState s t = 2 then some .tenantRetiring
  else if (m = 0 && tenState s t ≠ 0) || (m = 1 && tenState s t ≠ 1) || debugOpen s then some .keySlotState
  else none

/-- The response block of R370. What the island draws, measures or signs is free; the identifier is the SEC page's. -/
def keyResponse (s : State) (t mode : Nat) (agreed : Bool) (block : List Byte) : List Byte :=
  let bit := 2 ^ 0 * rd s R.SEC_TEN_STATE_SEAL_REQ 0 t + 2 * rd s R.SEC_TEN_STATE_TRANSPORT 0 t
  let pad := fun (n : Nat) => List.replicate n (0 : Byte)
  let devid := (List.range 4).flatMap (fun j => leBytes 4 (rd s (R.SEC_DEVID j)))
  leBytes 1 t ++ leBytes 1 mode ++ leBytes 1 bit ++ pad 5 ++ leBytes 8 s.now ++
    (if agreed then freeBytes s 0 56 ++ (block.drop 56).take 32 ++ block.take 56 else pad 144) ++
    freeBytes s 56 64 ++ devid ++ freeBytes s 120 114 ++ pad 30

/-- A KEY_INSTALL that has passed its checks takes effect (R368, R371). -/
def keyEffect (s : State) (q : Nat) (r : RunCmd) (block : List Byte) : State :=
  let t := arg r 16 1
  let m := arg r 17 1 % 4
  let agreed := decide (arg r 24 8 ≠ 0)
  let s := if m = 0 then
      wr (wr s R.SEC_TEN_STATE_STATE 1 0 t) R.SEC_STAT_ACTIVE_TENANTS (rd s R.SEC_STAT_ACTIVE_TENANTS + 1) else s
  let s := if agreed then wr (dropStreams s t) R.SEC_TEN_STATE_TRANSPORT 1 0 t else s
  let s := if bitsOf (arg r 17 1) 2 1 = 1 then wr s R.SEC_TEN_STATE_SEAL_REQ 1 0 t else s
  let s := useFree (hostWrite s (arg r 32 8) (keyResponse s t m agreed ((block ++ List.replicate 128 0).take 128)))
  finishCmd (irqEvent s 17 0 Irq.SEC_KEY_INSTALLED t []) q .ok 0

/-- KEY_INSTALL of one mode. -/
def keyInstall (s : State) (q : Nat) (replace : Bool) (block : List Byte) (hostOk : Bool) : State :=
  match running s q 0x21 with
  | none => s
  | some r =>
    if decide (arg r 17 1 % 4 = 1) ≠ replace then s
    else if r.fn ≠ 0 && arg r 17 1 % 4 = 0 then finishCmd s q .invalidOpcode 0
    else
      match keyCheck s r with
      | some st => finishCmd s q st 0
      | none =>
        if arg r 24 8 ≠ 0 && !hostOk then finishCmd (hostReadFailed s r.fn [q]) q .dmaHostError 0
        else keyEffect s q r block

def execKeyInstallActivate (q : Nat) (block : List Byte) (hostOk : Bool) (s : State) : Host.Outcome State Fault Refusal :=
  .next (keyInstall s q false block hostOk)
def execKeyInstallReplace (q : Nat) (block : List Byte) (hostOk : Bool) (s : State) : Host.Outcome State Fault Refusal :=
  .next (keyInstall s q true block hostOk)

/-! ### Weights (R372 to R375) -/

/-- Checks of R375 in order. -/
def weightCheck (s : State) (r : RunCmd) (count : Nat) (opened : Bool) : Option Status :=
  let t := arg r 16 1
  let n := arg r 17 1 % 64
  let op := bitsOf (arg r 18 1) 0 1 = 1
  let last := bitsOf (arg r 18 1) 1 1 = 1
  let len := arg r 20 4
  let dst := arg r 32 8
  let held := rd s R.SEC_WKEY_HELD 0 n = 1
  if 0xFFFFFFFE < len || (len = 0 && !op && !last) || dst % 64 ≠ 0 || arg r 48 8 % 16 ≠ 0 || arg r 56 8 % 64 ≠ 0 ||
     2 ^ 64 < dst + len || (op && (count < 1 || 512 < count)) then some .lengthRange
  else if !tenantOk r true t then some .tenantMismatch
  else if !tenActive s t then some .tenantRetiring
  else if ((slot s n).st ≠ .empty && (slot s n).tenant ≠ t) || (held && rd s R.SEC_WKEY_TENANT 0 n ≠ t) then some .slotBusy
  else if op = held then some .keySlotState
  else if op && (!opened || debugOpen s) then some .bindingDenied
  else if len = 0 then none
  else accessFail s t dst len

/-- WEIGHT_LOAD: the key is held, and the transfer joins the queue's bulk engine. -/
def execWeightLoad (q count : Nat) (opened : Bool) (s : State) : Host.Outcome State Fault Refusal :=
  .next (match running s q 0x20 with
  | none => s
  | some r =>
    let t := arg r 16 1
    let n := arg r 17 1 % 64
    let last := bitsOf (arg r 18 1) 1 1 = 1
    match weightCheck s r count opened with
    | some st => finishCmd (if st = .bindingDenied then incSat s R.SEC_BIND_DENY_CNT else s) q st 0
    | none =>
      let s := wr (wr s R.SEC_WKEY_HELD 1 0 n) R.SEC_WKEY_TENANT t 0 n
      if arg r 20 4 = 0 then finishCmd (if last then dropWeightKey s n else s) q .ok 0
      else
        pushXfer (setBusy s q) (queueEngine q)
          { queue := some q, kind := 1, op := 0, sealed := false, tenant := t, sealQ := q, length := arg r 20 4, src := arg r 24 8,
            dst := arg r 32 8, tagAddr := arg r 48 8, ctr := arg r 40 4, slot := n, last := last })

/-! ### Group keys (R376) -/

/-- GROUP_KEY_GEN: a new key pair, which is free, goes to every member. -/
def execGroupKeyGen (w : Writer) (s : State) : Host.Outcome State Fault Refusal :=
  .next (regWrite s w 17 0 R.SEC_GROUP_CTL.off true (fun s =>
    if !isQueen s then refuseWrite s 17 0 R.SEC_GROUP_CTL.off .fieldReserved
    else
      let s := useFree (setGroupKey s ((List.range 4).map (fun j => freeVal s j)) (freeVal s 4))
      if hiveState s = 2 then sendGroupKey s (otherMembers s) else s))

/-- GROUP_KEY_DISTRIBUTION: a member takes the queen's key when it opens and differs from its own. -/
def execGroupKeyDistribution (src : Nat) (id : List Nat) (key : Nat) (opened : Bool) (s : State) :
    Host.Outcome State Fault Refusal :=
  .next (
    if hiveState s ≠ 2 || src ≠ rd s R.HIVE_STAT_QUEEN || !opened || groupId s = (List.range 4).map (fun j => id.getD j 0) then s
    else setGroupKey s id key)

/-! ### Retirement (R381 to R385) -/

/-- TENANT_RETIRE (R381, orders 1 and 2 of R383). -/
def execTenantRetire (q : Nat) (s : State) : Host.Outcome State Fault Refusal :=
  .next (match running s q 0x22 with
  | none => s
  | some r =>
    let t := arg r 16 1
    if r.fn ≠ 0 then finishCmd s q .invalidOpcode 0
    else if t = 0 || tenState s t ≠ 1 then finishCmd s q .keySlotState 0
    else beginRetire (setBusy s q) t (some q) (bitsOf (arg r 17 1) 0 1 = 1))

/-- DRAIN_WAIT_EXPIRY (R382): W runs out. -/
def execDrainWaitExpiry (t : Nat) (cut : List (Nat × List Byte)) (s : State) : Host.Outcome State Fault Refusal :=
  .next (match s.sec.retiring.find? (fun r => r.tenant = t) with
  | none => s
  | some r =>
    if r.expired then s
    else
      let s := modRetiring (reachTime s (r.since + 1000 * rd s R.SEC_DRAIN)) t (fun r => { r with expired := true })
      let s := stopXfers s (fun x => x.tenant = t) .tenantRetiring cut
      let s := s.wag.cmds.foldl (fun s e => match e.2 with
        | some c =>
          if c.tenant = t && (match (queue s c.queue).run with | some x => runOp x = 8 | none => false) then
            let s := abortCopy s e.1
            { s with wag := { s.wag with cmds := tset none e.1 (some { c with ending := some .tenantRetiring }) s.wag.cmds } }
          else if c.tenant = t then endPeer s e.1 .tenantRetiring else s
        | none => s) s
      let s := stopVideo s t
      { s with kv := { s.kv with copies := s.kv.copies.filter (fun c => (seqOf s c.dst).tenant ≠ t) } })

/-- Extents that a tenant owns. -/
def tenantExtents (s : State) (t : Nat) : List Nat :=
  (bankKeys s R.MEM_OWN_VALID 0).filter (fun e => rd s R.MEM_OWN_VALID 0 e = 1 && rd s R.MEM_OWN_TENANT 0 e = t)

/-- Order 4 of R383. -/
def atFence (s : State) (t : Nat) : State :=
  let s := (tenantFns s t).foldl (fun s f => (fnQueues s f).foldl (fun s q => deleteQueue s q []) s) s
  let s := (List.range 64).foldl (fun s n =>
    if (slot s n).st ≠ .empty && (slot s n).tenant = t then
      (slot s n).unloads.foldl (fun s q => finishCmd s q .ok 0) (setSlot s n {})
    else s) s
  let s := freeVideo (dropTenantKeys s t) t
  let es := tenantExtents s t
  let s := { s with sec := { s.sec with handedExtents := (es ++ s.sec.handedExtents).eraseDups } }
  wr (modRetiring s t (fun r => { r with extents := es })) R.SEC_TEN_STATE_STAGE 5 0 t

/-- DRAIN_FENCE (R383, orders 3 and 4). An unlock has a fence of its own (R389). -/
def execDrainFence (t : Nat) (s : State) : Host.Outcome State Fault Refusal :=
  .next (
    if tenState s t = 2 && rd s R.SEC_TEN_STATE_STAGE 0 t = 3 && rd s R.SEC_STAT_UNLOCK_PENDING = 0 && drained s t then
      atFence s t
    else s)

/-- The cell stores, stream buffers and windows of a partition are scrubbed (R149, R383). -/
def scrubPartition (s : State) (p : Nat) : State :=
  let s := (partCells s p).foldl (fun s c => setCell s c {}) s
  let s := (partQuads s p).foldl (fun s q => setPipe s q {}) s
  clearResident { s with sec := { s.sec with ran := s.sec.ran.filter (fun e => e.1 ≠ p) } } p

/-- The frames of a tenant go back to the pool as zeros, and its sequence contexts are FREE. -/
def scrubFrames (s : State) (t : Nat) : State :=
  let fs := s.kv.frames.filterMap (fun e => match e.2 with
    | some f => if f.tenant = t then some e.1 else none
    | none => none)
  let s := fs.foldl (fun s f => setFrame (memZero s (frameAddr s f) 16384) f none) s
  s.kv.seqs.foldl (fun s e => if e.2.tenant = t && e.2.st = 3 then setSeq s e.1 {} else s) s

/-- RETIREMENT_SCRUB_DONE (R383, orders 5 and 6). -/
def execRetirementScrubDone (t : Nat) (s : State) : Host.Outcome State Fault Refusal :=
  .next (match s.sec.retiring.find? (fun r => r.tenant = t) with
  | none => s
  | some r =>
    if rd s R.SEC_TEN_STATE_STAGE 0 t ≠ 5 then s
    else
      let ps := (s.sec.ran.filter (fun e => e.2 = t)).map Prod.fst
      let s := scrubFrames (ps.foldl scrubPartition s) t
      let s := r.extents.foldl (fun s e =>
        wr (wr (memZero s (e * 2 ^ 26) (2 ^ 26)) R.MEM_OWN_VALID 0 0 e) R.MEM_OWN_SCRUBBING 0 0 e) s
      let s := { s with sec := { s.sec with handedExtents := s.sec.handedExtents.filter (fun e => !r.extents.contains e)
                                            retiring := s.sec.retiring.filter (fun x => x.tenant ≠ t) } }
      let s := memZero s (sigAddr s (4096 * t)) 32768
      let s := (tenantFns s t).foldl (fun s f => wr (wr s R.HOST_FN_CFG_BOUND 0 0 f) R.HOST_FN_CFG_TENANT 0 0 f) (resetTenant s t)
      let s := incSat (irqEvent (freeTenant s t) 17 0 Irq.SEC_RETIRED t []) R.SEC_RETIRE_CNT
      match r.queue with
      | some q => finishCmd s q .ok 0
      | none => s)

/-! ### Attestation (R377 to R379) -/

/-- The responder answers: the number of the request in R377's list, then the content. -/
def answer (s : State) (req : Nat) (l : List Nat) : State := emit s (.mctp (req :: l))

/-- GET_VERSION: versions 1.1, 1.2 and 1.3. -/
def execGetVersion (s : State) : Host.Outcome State Fault Refusal := .next (answer s 0 [0x11, 0x12, 0x13])
/-- GET_CAPABILITIES: responder only, no mutual authentication. -/
def execGetCapabilities (s : State) : Host.Outcome State Fault Refusal := .next (answer s 1 [1, 0])
/-- NEGOTIATE_ALGORITHMS: Ed448, SHA3-384, secp384r1, AES-256-GCM, by their place in R377. -/
def execNegotiateAlgorithms (s : State) : Host.Outcome State Fault Refusal := .next (answer s 2 [1, 1, 1, 1])
/-- GET_DIGESTS: the digest of the chain in slot 0, which differs per unit. -/
def execGetDigests (s : State) : Host.Outcome State Fault Refusal :=
  .next (useFree (answer s 3 ((List.range 48).map (freeVal s))))
/-- GET_CERTIFICATE: bytes of the chain of slot 0; other slots are not supported. -/
def execGetCertificate (certSlot off n : Nat) (s : State) : Host.Outcome State Fault Refusal :=
  .next (if certSlot ≠ 0 then answer s 4 [] else useFree (answer s 4 ((List.range n).map (fun i => freeVal s (off + i)))))
/-- CHALLENGE: an Alias signature, which is free. -/
def execChallenge (nonce : List Byte) (s : State) : Host.Outcome State Fault Refusal :=
  .next (useFree (answer s 5 ((nonce.map BitVec.toNat) ++ (List.range 114).map (freeVal s))))

/-- A measurement block (R378). Blocks 1 and 2 and the digest of a staged manifest are SHAKE256 outputs, which are free here. -/
def measurement (s : State) (i : Nat) : List Nat :=
  match i with
  | 3 =>
    [rd s R.SEC_STAT_DEBUG_OPEN, 0, 0, 0] ++ (leBytes 4 (rd s R.SEC_OPKEY_CTL_CHANGES)).map BitVec.toNat ++
      ((List.range 16).flatMap (fun j => leBytes 4 (s.sec.opkey.getD j 0))).map BitVec.toNat
  | 4 =>
    let st := rd s R.FWU_STAT_STATE
    [b2n (st ≠ 0) + 2 * b2n (2 ≤ st), 0] ++ (if st = 0 then List.replicate 64 0 else (List.range 64).map (freeVal s))
  | 5 => (List.range 51).map (fun k => (List.range 8).foldl (fun m j =>
      m + (if 8 * k + j < 402 && dom s (8 * k + j) = 3 then 2 ^ j else 0)) 0)
  | _ => (List.range 64).map (fun j => freeVal s (64 * i + j))

/-- GET_MEASUREMENTS. -/
def execGetMeasurements (index : Nat) (signed : Bool) (s : State) : Host.Outcome State Fault Refusal :=
  .next (
    let l := if index = 255 then [1, 2, 3, 4, 5] else [index]
    let sig := if signed then (List.range 114).map (fun j => freeVal s (1000 + j)) else []
    useFree (answer s 6 (l.flatMap (measurement s) ++ sig)))

def modSession (s : State) (sid : Nat) (f : Session → Session) : State :=
  { s with sec := { s.sec with sessions := s.sec.sessions.map (fun x => if x.id = sid then f x else x) } }
def sessionOpen (s : State) (sid : Nat) : Bool := s.sec.sessions.any (fun x => x.id = sid && x.open_)

/-- KEY_EXCHANGE: a new session; a fifth is refused with Busy. -/
def execKeyExchange (s : State) : Host.Outcome State Fault Refusal :=
  .next (
    if 4 ≤ s.sec.sessions.length then answer s 7 []
    else
      let n := s.sec.nextSession
      answer { s with sec := { s.sec with sessions := s.sec.sessions ++ [{ id := n }], nextSession := n + 1 } } 7 [n])
/-- FINISH: the session is established. -/
def execFinish (sid : Nat) (verified : Bool) (s : State) : Host.Outcome State Fault Refusal :=
  .next (
    if s.sec.sessions.any (fun x => x.id = sid && !x.open_) then
      if verified then answer (incSat (modSession s sid (fun x => { x with open_ := true })) R.SEC_SPDM_CNT) 8 [sid]
      else { s with sec := { s.sec with sessions := s.sec.sessions.filter (fun x => x.id ≠ sid) } }
    else s)
/-- HEARTBEAT. -/
def execHeartbeat (sid : Nat) (s : State) : Host.Outcome State Fault Refusal :=
  .next (if sessionOpen s sid then answer s 9 [sid] else s)
/-- KEY_UPDATE. -/
def execKeyUpdate (sid : Nat) (s : State) : Host.Outcome State Fault Refusal :=
  .next (if sessionOpen s sid then answer (modSession s sid (fun x => { x with updates := x.updates + 1 })) 10 [sid] else s)
/-- END_SESSION. -/
def execEndSession (sid : Nat) (s : State) : Host.Outcome State Fault Refusal :=
  .next (if sessionOpen s sid then
    answer { s with sec := { s.sec with sessions := s.sec.sessions.filter (fun x => x.id ≠ sid) } } 11 [sid] else s)
/-- CHUNK_SEND: a chunk of a large request; the last one completes it. -/
def execChunkSend (bytes : List Byte) (last : Bool) (s : State) : Host.Outcome State Fault Refusal :=
  .next (answer { s with sec := { s.sec with request := if last then [] else s.sec.request ++ bytes } } 12 [b2n last])
/-- CHUNK_GET: a chunk of a large response, whose bytes are the response's. -/
def execChunkGet (n : Nat) (last : Bool) (s : State) : Host.Outcome State Fault Refusal :=
  .next (answer { s with sec := { s.sec with given := if last then 0 else s.sec.given + n } } 13 [s.sec.given, n])

/-! ### IDE keys (R269, R380, R390) -/

def ideStream (s : State) (i : Nat) : IdeStream := tget {} s.host.ide i
def setIde (s : State) (i : Nat) (x : IdeStream) : State := { s with host := { s.host with ide := tset {} i x s.host.ide } }
/-- IDE_KM runs in an established session, and not while debug is open. -/
def ideServed (s : State) (sid stream : Nat) : Bool := sessionOpen s sid && !debugOpen s && stream < 8

/-- QUERY: 8 streams with 2 address association blocks each. -/
def execQuery (sid : Nat) (s : State) : Host.Outcome State Fault Refusal :=
  .next (if ideServed s sid 0 then answer s 14 [8, 2] else s)
/-- KEY_PROG: a key of a set for a sub-stream (0 to 2) and direction. -/
def execKeyProg (sid stream set sub dir : Nat) (s : State) : Host.Outcome State Fault Refusal :=
  .next (
    if ideServed s sid stream && set < 2 && sub < 3 && dir < 2 then
      let x := ideStream s stream
      answer (setIde s stream { x with keys := ((6 * set + 2 * sub + dir) :: x.keys).eraseDups }) 15 [stream]
    else s)
/-- K_SET_GO: a stream whose set has all its keys carries traffic under it, at 32 GT/s or more. -/
def execKSetGo (sid stream set : Nat) (s : State) : Host.Outcome State Fault Refusal :=
  .next (
    let x := ideStream s stream
    if ideServed s sid stream && set < 2 && (List.range 6).all (fun j => x.keys.contains (6 * set + j)) &&
       5 ≤ rd s R.HOST_LINK_SPEED then
      let s := setIde s stream { x with active := some set, insecure := false }
      let bit := 2 ^ stream
      let s := wr s R.HOST_IDE_STAT_ACTIVE (rd s R.HOST_IDE_STAT_ACTIVE ||| bit)
      answer (wr s R.HOST_IDE_STAT_INSECURE (rd s R.HOST_IDE_STAT_INSECURE &&& (255 - bit))) 16 [stream]
    else s)
/-- K_SET_STOP: the stream carries no traffic under the set, whose keys are gone. -/
def execKSetStop (sid stream set : Nat) (s : State) : Host.Outcome State Fault Refusal :=
  .next (
    let x := ideStream s stream
    if ideServed s sid stream && set < 2 then
      let s := setIde s stream { x with keys := x.keys.filter (fun k => k / 6 ≠ set), active := if x.active = some set then none else x.active }
      let s := if x.active = some set then
          wr s R.HOST_IDE_STAT_ACTIVE (rd s R.HOST_IDE_STAT_ACTIVE &&& (255 - 2 ^ stream)) else s
      answer s 17 [stream]
    else s)

/-! ### Debug unlock (R387 to R390) -/

def clearNonce (s : State) : State :=
  (List.range 4).foldl (fun s j => wr s (R.SEC_UNLOCK_NONCE j) 0) { s with sec := { s.sec with nonce := none } }

/-- NEW_NONCE: 128 bits that the island draws. -/
def execNewNonce (w : Writer) (s : State) : Host.Outcome State Fault Refusal :=
  .next (regWrite s w 17 0 R.SEC_UNLOCK_CTL_NEW_NONCE.off false (fun s =>
    let t := (List.range 4).foldl (fun t j => wr t (R.SEC_UNLOCK_NONCE j) (freeVal s j)) s
    useFree { t with sec := { t.sec with nonce := some s.now } }))

/-- NONCE_EXPIRY. -/
def execNonceExpiry (s : State) : Host.Outcome State Fault Refusal :=
  .next (match s.sec.nonce with
  | some t => clearNonce (reachTime s (t + 600 * 10 ^ 9))
  | none => s)

/-- The token in SEC_UNLOCK_BUF. -/
def unlockBuf (s : State) : List Byte := (List.range 64).flatMap (fun j => leBytes 4 (rd s (R.SEC_UNLOCK_BUF j)))

/-- The conditions of R388. -/
def tokenOk (s : State) (t : List Byte) (digest : List Nat) (sigOk : Bool) : Bool :=
  fieldAt t 0 4 = 0x4B4E4C55 && fieldAt t 4 2 = 1 && fieldAt t 6 1 % 8 ≠ 0 &&
  (List.range 4).all (fun j => fieldAt t (8 + 4 * j) 4 = rd s (R.SEC_DEVID j)) &&
  (match s.sec.nonce with | some u => s.now < u + 600 * 10 ^ 9 | none => false) &&
  (List.range 4).all (fun j => fieldAt t (24 + 4 * j) 4 = rd s (R.SEC_UNLOCK_NONCE j)) &&
  digest = s.sec.opkey && digest.any (· ≠ 0) && sigOk

/-- Order 1 of R389: every ACTIVE tenant but tenant 0 retires, with DEBUG_ABANDON. -/
def beginUnlock (s : State) (scope : Nat) : State :=
  let s := wr { s with sec := { s.sec with scope := scope } } R.SEC_STAT_UNLOCK_PENDING 1
  ((List.range 256).filter (fun t => t ≠ 0 && tenState s t = 1)).foldl (fun s t => beginRetire s t none true) s

/-- UNLOCK_SUBMIT: every submission consumes the nonce. -/
def execUnlockSubmit (token : Option (List Byte)) (digest : List Nat) (sigOk : Bool) (s : State) : Host.Outcome State Fault Refusal :=
  .next (
    let t := token.getD (unlockBuf s)
    let ok := tokenOk s t digest sigOk
    let s := clearNonce s
    if ok then
      let s := wr s R.SEC_UNLOCK_STAT_STATUS (statusValue .ok)
      if debugOpen s || rd s R.SEC_STAT_UNLOCK_PENDING = 1 then s else beginUnlock s (fieldAt t 6 1 % 8)
    else
      let s := wr s R.SEC_UNLOCK_STAT_STATUS (statusValue .unlockDenied)
      raiseIrq (incSat (statusEvent s 17 0 .unlockDenied 0 []) R.SEC_UNLOCK_FAIL_CNT) 17 0 Irq.SEC_UNLOCK_DENIED)

/-- Order 2 of R389. -/
def destroyKeys (s : State) : State :=
  let s := (List.range 256).foldl dropTenantKeys s
  let s := (List.range 8).foldl (fun s p => portDown s p 5) s
  let s := (List.range 4).foldl (fun s j => wr s (R.SEC_GROUPID j) 0) (wr s R.SEC_STAT_GROUP_KEY 0)
  ideInsecure { s with sec := { s.sec with group := none, sessions := [], request := [], given := 0 } }

/-- Order 3 of R389. -/
def eraseStores (s : State) : State :=
  let s := garbleMemory { s with comb := { s.comb with cells := [], pipes := [] } }
  let s := (bankKeys s R.MEM_OWN_VALID 0).foldl (fun s e => wr (wr s R.MEM_OWN_VALID 0 0 e) R.MEM_OWN_SCRUBBING 0 0 e) s
  let s := { s with kv := { s.kv with seqs := [], frames := [], copies := [] }, sec := { s.sec with handedExtents := [], ran := [] } }
  (List.range 256).foldl (fun s t => kvSync (if t ≠ 0 && tenState s t ≠ 0 then freeTenant s t else s) t) s

/-- UNLOCK_ERASE_DONE (R385, R389): after the one fence, keys are destroyed, what they covered is erased, a new key for tenant 0
is drawn, and debug is open. Retirements that the unlock overtook complete OK. -/
def execUnlockEraseDone (s : State) : Host.Outcome State Fault Refusal :=
  .next (
    if rd s R.SEC_STAT_UNLOCK_PENDING = 0 || !(s.sec.retiring.all (fun r => drained s r.tenant)) then s
    else
      let owed := s.sec.retiring.filterMap (fun r => r.queue)
      let s := eraseStores (destroyKeys s)
      let s := { s with sec := { s.sec with retiring := [] } }
      let s := wr (wr (wr s R.SEC_STAT_UNLOCK_PENDING 0) R.SEC_STAT_DEBUG_OPEN 1) R.SEC_UNLOCK_STAT_SCOPE s.sec.scope
      let s := setDom (irqEvent s 17 0 Irq.SEC_DEBUG_OPEN 0 []) 400 0
      owed.foldl (fun s q => finishCmd s q .ok 0) s)

/-- OPKEY_COMMIT (R388). -/
def execOpkeyCommit (w : Writer) (s : State) : Host.Outcome State Fault Refusal :=
  .next (regWrite s w 17 0 R.SEC_OPKEY_CTL_COMMIT.off true (fun s =>
    let d := (List.range 16).map (fun j => rd s (R.SEC_OPKEY j))
    let s := { s with sec := { s.sec with opkey := d } }
    incSat (wr s R.SEC_STAT_OPKEY_SET (b2n (d.any (· ≠ 0)))) R.SEC_OPKEY_CTL_CHANGES))

/-- DEBUG_OPERATION (R387): within the scope open, a memory read answers its bytes; scan and halt leave what this model holds as
it is. -/
def execDebugOperation (kind a n : Nat) (s : State) : Host.Outcome State Fault Refusal :=
  .next (
    if !debugOpen s || rd s R.SEC_UNLOCK_STAT_SCOPE / 2 ^ kind % 2 = 0 then s
    else if kind = 0 then emit s (.debugRead (memBytes s a n))
    else s)

end Sys2Proof.Machine
end

