-- ==== Sys2Proof/Machine/Serving.lean ====
section
/-!
DEFINITION. The meanings of the serving sequencer's commands (chapter 08).
-/

namespace Sys2Proof.Machine

/-! ### Predictions (R62, R210) -/

/-- A class's HEADROOM in ns. -/
def headroom (s : State) (c : Nat) : Nat := 1000 * rd s (R.SERV_CLASS_HEADROOM c)
/-- No deadline. -/
def noDeadline : Nat := 0xFFFFFFFFFFFFFFFF

/-- A new prediction of a request that has not been launched: shed, or at risk, when it passes the deadline (R210). -/
def repredict (s : State) (i : Nat) : State :=
  match req s i with
  | none => s
  | some x =>
    if x.started || x.deadline = noDeadline then s
    else if frLe (frAdd (predict s x.slot x.prompt.length x.maxLen) ⟨headroom s x.cls, 1⟩) x.deadline then s
    else if rd s (R.SERV_CLASS_SHED_AT_RISK x.cls) = 1 then
      chargeBudget (endReq s i .admitDeadline) x.tenant (16 * x.charge)
    else if x.atRisk then s
    else irqEvent (incSat (setReq s i (some { x with atRisk := true })) R.SERV_RISK_CNT) 10 0 Irq.SERV_AT_RISK x.tenant [x.slot, x.seq]

/-- A slot's launches run on a die. -/
def slotOnDie (s : State) (n die : Nat) : Bool :=
  (partDies s (servPart s n)).contains die || (slotPaired s n && (partDies s (servPart s (draftSlotOf s n))).contains die)

/-- The sequencer forms again the bounds of slots on a die and the predictions of their requests not yet launched (R62). -/
def recompute (s : State) (die : Nat) : State :=
  let s := tellPace { s with serv := { s.serv with dirty := s.serv.dirty.filter (· ≠ die) } }
  let ns := (List.range 64).filter (fun n => slotEnabled s n && slotOnDie s n die)
  let s := ns.foldl showCycle s
  ((openReqs s).filter (fun e => slotOnDie s e.2.slot die)).foldl (fun s e => repredict s e.1) s

/-- RECOMPUTE_PREDICTIONS (R62). -/
def execRecomputePredictions (die : Nat) (s : State) : Host.Outcome State Fault Refusal := .next (recompute s die)

/-! ### Admission (R201, R207) -/

/-- A request descriptor's fields (R201). -/
def reqOf (q fn : Nat) (b : List Byte) (prompt : List Nat) : Req :=
  let f := fieldAt b 2 1
  { queue := q, fn := fn, tenant := fieldAt b 0 1, slot := fieldAt b 1 1 % 64, cls := f % 4, sampled := bitsOf f 2 1 = 1,
    spec := bitsOf f 3 1 = 1, lookup := bitsOf f 4 1 = 1, insert := bitsOf f 5 1 = 1, seq := fieldAt b 4 2,
    draftSeq := fieldAt b 6 2, prompt := prompt, maxLen := fieldAt b 12 2, tag := fieldAt b 14 2, eos := fieldAt b 16 4,
    temp := fieldAt b 20 4, deadline := fieldAt b 24 8, outAddr := fieldAt b 40 8, outCap := fieldAt b 48 4,
    signal := bitsOf (fieldAt b 52 4) 0 20, signalEn := bitsOf (fieldAt b 52 4) 31 1 = 1, seed := fieldAt b 56 8 }

/-- The largest SPEC_LEN among a slot's VERIFY variants (R187). -/
def maxVerify (s : State) (n : Nat) : Nat :=
  (imgVariantList (slot s n).image).foldl (fun m v => if v.kind = 3 then max m v.specLen else m) 0

/-- Committed length of a request's target context (R187). -/
def reqLc (s : State) (x : Req) : Nat := x.prompt.length + x.maxLen + maxVerify s x.slot
/-- Committed length of its draft context (order 9 of R207). -/
def draftLc (s : State) (x : Req) : Nat := x.prompt.length + x.maxLen + specLen s x.slot

/-- Orders 1 to 7 of R207. `plen` is the descriptor's PROMPT_LEN. -/
def admitEarly (s : State) (x : Req) (plen : Nat) : Option Status :=
  let tpp := 2 ^ imgTppLog2 (slot s x.slot).image
  let top := (bucketsUsed s x.slot).foldl (fun m b => max m (bucketBound s x.slot b)) 0
  let sp := if x.spec then specLen s x.slot else 0
  if plen < 1 || 0xFFFFFFFE < plen || x.maxLen < 1 || 65534 < x.maxLen || x.outCap < 1 || 0xFFFFFFFE < x.outCap ||
     x.outAddr % 64 ≠ 0 || x.outCap < x.maxLen || top < plen + x.maxLen + sp ||
     (imgLayers (slot s x.slot).image ≠ 0 && 32768 < (plen + x.maxLen + maxVerify s x.slot + tpp - 1) / tpp) then
    some .lengthRange
  else if !tenActive s x.tenant then some .tenantRetiring
  else if rd s R.SERV_CTL_ENABLE = 0 || !slotEnabled s x.slot || slotFaulted s x.slot || (x.spec && !slotPaired s x.slot) then
    some .slotState
  else if (slot s x.slot).tenant ≠ x.tenant then some .tenantMismatch
  else if x.cls ≠ 0 && fastLane s (servPart s x.slot) then some .admitClass
  else if rd s R.SERV_SLOT_SIZE_SEATS 0 x.slot ≤ ((openReqs s).filter (fun e => e.2.slot = x.slot)).length then
    some .admitCapacity
  else if (budgetNow s x.tenant).level < 16 * (promptCharge s x.tenant plen + 1) then some .admitBudget
  else none

/-- Order 8 of R207. -/
def admitDeadline (s : State) (x : Req) : Bool :=
  x.deadline = noDeadline ||
    frLe (frAdd (predict s x.slot x.prompt.length x.maxLen) ⟨headroom s x.cls, 1⟩) x.deadline

/-- Order 9 of R207: the contexts open with their committed pages. -/
def openContexts (s : State) (x : Req) : Except Status State :=
  match openSeq s x.seq x.tenant x.slot (reqLc s x) x.deadline false with
  | .error st => .error st
  | .ok s1 =>
    if x.spec then
      match openSeq s1 x.draftSeq x.tenant (draftSlotOf s x.slot) (draftLc s x) x.deadline false with
      | .error st => .error st
      | .ok s2 => .ok s2
    else .ok s1

/-- The command of a refused request completes with the status. -/
def refuseReq (s : State) (q : Nat) (st : Status) : State := finishCmd (incSat s R.SERV_REFUSE_CNT) q st 0

/-- Orders 8 and 9, and admission: the prompt is charged and the command completes (R202, R207). -/
def admitReq (s : State) (i : Nat) (x : Req) : State :=
  if !admitDeadline s x then refuseReq s x.queue .admitDeadline
  else
    let s0 := s
    match openContexts s x with
    | .error st => refuseReq s x.queue st
    | .ok s =>
      let c := promptCharge s x.tenant x.prompt.length
      let f := predict s x.slot x.prompt.length x.maxLen
      let s := chargeBudget s x.tenant (-(16 * c))
      let s := setReq s i (some { x with charge := c, admitted := s.now, finish := (f.num + f.den - 1) / f.den })
      let s := { s with serv := { s.serv with tags := tset none x.seq (some (x.tenant, x.tag)) s.serv.tags } }
      let s := servAction (incSat s R.SERV_ADMIT_CNT) x.slot
        [1, x.slot, x.tenant, reqLc s0 x, x.seq, b2n x.spec, draftSlotOf s0 x.slot, draftLc s0 x, x.draftSeq]
      finishCmd s x.queue .ok 0

/-- A partition's cells and pipes are all on (R396). -/
def partAwake (s : State) (p : Nat) : Bool :=
  (partCells s p).all (fun c => match cellPhys s c with | some h => dom s h = 0 | none => true) &&
  (partQuads s p).all (fun q => match pipePhys s q with | some h => dom s (272 + h) = 0 | none => true)

/-- REQUEST of queue `q` (R201, R207): `desc` is the descriptor in host memory, `prompt` the tokens it names, and `bad` the
first segment of both that does not authenticate. A slot whose partitions are not awake waits for them before order 8
(R396). -/
def execRequest (q : Nat) (desc : List Byte) (prompt : List Nat) (bad : Option Nat) (s : State) :
    Host.Outcome State Fault Refusal :=
  .next (match running s q 3 with
  | none => s
  | some r =>
    let plen := fieldAt desc 8 4
    let x := reqOf q r.fn desc ((prompt ++ List.replicate plen 0).take plen)
    if admissionsStopped s then s
    else if arg r 16 8 % 64 ≠ 0 then refuseReq s q .lengthRange
    else
      match sealedRead s (fnTenant s r.fn) q (arg r 24 8) (1 + segCount (4 * plen)) bad with
      | (s, some st) => finishCmd s q st 0
      | (s, none) =>
        if !tenantOk r false x.tenant then refuseReq s q .tenantMismatch
        else if twinRole s = 2 && mirrored s (servPart s x.slot) then refuseReq s q .slotState
        else
          match admitEarly s x plen with
          | some st => refuseReq s q st
          | none =>
            let i := s.serv.nextReq
            let s := { s with serv := { s.serv with nextReq := i + 1 } }
            if partAwake s (servPart s x.slot) && (!slotPaired s x.slot || partAwake s (servPart s (draftSlotOf s x.slot)))
            then admitReq s i x
            else setBusy (setReq s i (some { x with st := .waking })) q)

/-- ADMISSION_AFTER_WAKE (R396): orders 8 and 9 for a request whose partitions have woken. -/
def execAdmissionAfterWake (i : Nat) (s : State) : Host.Outcome State Fault Refusal :=
  .next (match req s i with
  | none => s
  | some x =>
    if x.st = .waking && partAwake s (servPart s x.slot) &&
       (!slotPaired s x.slot || partAwake s (servPart s (draftSlotOf s x.slot))) then
      admitReq (setReq s i none) i { x with st := .prefill }
    else s)

/-! ### Slots prepared for serving (R205, R206) -/

/-- Rows of the serving layout, L of R206. -/
def layoutRows (s : State) (n : Nat) : Nat :=
  (imgVariantList (slot s n).image).foldl (fun m v => if v.kind = 0 || v.kind = 1 || v.kind = 3 then max m v.batch else m) 0
/-- An input block's length, IB of R206. -/
def inputBlock (chunk sl : Nat) : Nat := 64 + (4 * max chunk (sl + 1) + 63) / 64 * 64
def inputBase (l : Nat) : Nat := (16 * l + 63) / 64 * 64
def draftBase (l ib : Nat) : Nat := inputBase l + ib * l
def tokenBase (l ib : Nat) : Nat := draftBase l ib + 64 * l

/-- Variants of a kind for every bucket in use carry SEATS rows (R205). -/
def seatsOk (s : State) (n kind seats : Nat) : Bool :=
  (bucketsUsed s n).all (fun b =>
    let vs := bucketVariants s n kind b
    vs.isEmpty || vs.any (fun v => seats ≤ v.2.batch))

def strictlyRising : List Nat → Bool
  | a :: b :: r => a < b && strictlyRising (b :: r)
  | _ => true

/-- The conditions of R205 for enabling slot `n` on partition `p`, paired with slot `d` when `spec`. -/
def enableOk (s : State) (n p : Nat) (spec : Bool) (sl d : Nat) : Bool :=
  let img := (slot s n).image
  let vs := imgVariantList img
  let used := bucketsUsed s n
  let seats := rd s R.SERV_SLOT_SIZE_SEATS 0 n
  let l := layoutRows s n
  let ib := inputBlock (chunkOf s n) (if spec then sl else 0)
  (slot s n).st = .ready &&
  (List.range (imgVariants img)).all (fun v => partHolds s p img (variantLanes img v)) &&
  (List.range 64).all (fun m => m = n || !slotEnabled s m || servPart s m ≠ p) &&
  strictlyRising (used.map (bucketBound s n)) &&
  vs.all (fun v => 4 ≤ v.kind || used.contains v.bucket) &&
  used.all (fun b => !(bucketVariants s n 0 b).isEmpty && !(bucketVariants s n 1 b).isEmpty) &&
  [0, 1, 2, 3].all (fun k => seatsOk s n k seats) &&
  tokenBase l ib + 192 * l ≤ imgIoLen img &&
  (!spec || ((slot s d).st = .ready && (slot s d).tenant = (slot s n).tenant && servPart s d ≠ p &&
    used.all (fun b => !(bucketVariants s d 0 b).isEmpty && (bucketVariants s d 2 b).any (fun v => v.2.specLen = sl) &&
      (bucketVariants s n 3 b).any (fun v => v.2.specLen = sl))))

/-- SLOT_ENABLE: a write of SERV_SLOT_CFG for the selected slot (R205). While ENABLE is 1 the other fields keep their values. -/
def execSlotEnable (w : Writer) (v : Nat) (s : State) : Host.Outcome State Fault Refusal :=
  .next (
    let n := rd s R.SERV_SLOT_SEL
    let en := v % 2
    let spec := bitsOf v 1 1
    let sl := bitsOf v 8 4
    let p := bitsOf v 16 6
    let d := bitsOf v 24 6
    let same := spec = rd s R.SERV_SLOT_CFG_SPEC_EN 0 n && sl = specLen s n && p = servPart s n && d = draftSlotOf s n
    regWrite s w 10 0 0x124 false (fun s =>
      if slotEnabled s n then
        if !same then refuseWrite s 10 0 0x124 .servConfig else wr s R.SERV_SLOT_CFG_ENABLE en 0 n
      else if spec = 1 && (sl < 1 || 8 < sl) then refuseWrite s 10 0 0x124 .fieldReserved
      else if en = 1 && !enableOk s n p (spec = 1) sl d then refuseWrite s 10 0 0x124 .servConfig
      else
        let s := wr (wr (wr (wr (wr s R.SERV_SLOT_CFG_SPEC_EN spec 0 n) R.SERV_SLOT_CFG_SPEC_LEN sl 0 n)
          R.SERV_SLOT_CFG_PARTITION p 0 n) R.SERV_SLOT_CFG_DRAFT_SLOT d 0 n) R.SERV_SLOT_CFG_ENABLE en 0 n
        if en = 1 then showCycle (wr s R.SERV_SLOT_CFG_FAULTED 0 0 n) n else s))

/-! ### Launches of the sequencer (R212 to R214) -/

/-- The context a kind of launch writes. -/
def kindSeq (k : Nat) (x : Req) : Nat := if k = 1 || k = 3 then x.draftSeq else x.seq
/-- Positions a launch of a kind writes for a request (R213). -/
def kindN (s : State) (k : Nat) (x : Req) : Nat :=
  match k with
  | 0 | 1 => min (chunkOf s x.slot) (x.prompt.length - (seqOf s (kindSeq k x)).writePos)
  | 2 => 1
  | _ => specLen s x.slot + 1

/-- The smallest bucket for a launch of a kind (R213). -/
def placeBucket (s : State) (k : Nat) (x : Req) : Option Nat :=
  (bucketsUsed s x.slot).find? (fun b =>
    (seqOf s (kindSeq k x)).writePos + kindN s k x ≤ bucketBound s x.slot b &&
    !(bucketVariants s (kindSlot s x.slot k) (variantKind k) b).isEmpty)

/-- A request wants a launch of a kind (R212): its contexts are open and in no copy, and it stands where that kind comes. -/
def wants (s : State) (k : Nat) (x : Req) : Bool :=
  let t := seqOf s x.seq
  let d := seqOf s x.draftSeq
  let ready := t.st = 1 && (!x.spec || d.st = 1) && x.inWork.isNone && (x.looked || !x.lookup ||
      rd s (R.SERV_CLASS_PFX_EN x.cls) = 0) && s.kv.copies.all (fun c => c.dst ≠ x.seq)
  ready && (match k with
    | 0 => x.st = .prefill && t.writePos < x.prompt.length
    | 1 => x.spec && d.writePos < x.prompt.length
    | 2 => !x.spec && x.st = .generate
    | 3 => x.spec && x.st = .generate && x.prompt.length ≤ d.writePos && !x.passDraft
    | _ => x.spec && x.passDraft)

/-- Requests that take part in the launch at a place of a slot's cycle, oldest admission first. -/
def takers (s : State) (n b k : Nat) : List (Nat × Req) :=
  (openReqs s).filter (fun e => e.2.slot = n && wants s k e.2 && placeBucket s k e.2 = some b &&
    !(servSlot s n).took.contains (k, e.1))

/-- The next place of a cycle from `c` on, 5 × bucket + kind, that has a launch to make (R212). -/
def nextPlace (s : State) (n : Nat) : Nat → Nat → Option Nat
  | 0, _ => none
  | f + 1, c => if 80 ≤ c then none else if (takers s n (c / 5) (c % 5)).isEmpty then nextPlace s n f (c + 1) else some c

/-- The generator's output for a request's position and use (R219). -/
def reqRandom (x : Req) (use pos : Nat) : Nat := generator x.seed (pos % 2 ^ 32 * 2 ^ 32 + use * 2 ^ 28)
/-- A variate as VAR carries it: the top 32 bits. -/
def variate (x : Req) (use pos : Nat) : Nat := if x.sampled then reqRandom x use pos / 2 ^ 32 else 0

/-- VAR entries of a row (R219), for launch-start position `p` and `n` positions. -/
def rowVars (x : Req) (k p n : Nat) : List Nat :=
  match k with
  | 0 | 1 => [variate x 0 (p + n)]
  | 2 => [variate x 0 (p + 1)]
  | 3 => (List.range (n - 1)).map (fun j => variate x 2 (p + j + 1))
  | _ => (List.range n).map (fun i => variate x 0 (p + i + 1))

/-- Input tokens of a row (R213). -/
def rowTokens (x : Req) (k p n : Nat) : List Nat :=
  match k with
  | 0 | 1 => (x.prompt.drop p).take n
  | 2 | 3 => [x.last]
  | _ => x.last :: x.drafts.map Prod.fst

/-- An input block (R206). -/
def inputBytes (x : Req) (k p n ib : Nat) : List Byte :=
  let vs := (rowVars x k p n ++ List.replicate 9 0).take 9
  let ts := rowTokens x k p n
  (leBytes 4 ts.length ++ leBytes 4 (if x.sampled then x.temp else 0) ++ vs.flatMap (leBytes 4) ++ leBytes 20 0 ++
    ts.flatMap (leBytes 4) ++ List.replicate ib 0).take ib

/-- Row info of R159. -/
def rowInfo (keyEnd queryPos : Nat) (pad : Bool) : List Byte := leBytes 4 keyEnd ++ leBytes 4 queryPos ++ leBytes 1 (b2n pad) ++ leBytes 7 0

/-- Requests whose deadline has passed at a launch decision end, or go on late (R225). -/
def deadlineCheck (s : State) (e : Nat × Req) : State :=
  if s.now ≤ e.2.deadline then s
  else if rd s (R.SERV_CLASS_CONTINUE_LATE e.2.cls) = 0 then endReq s e.1 .deadlineExpired
  else setReq s e.1 (some { e.2 with late := true })

/-- Grows the rows of a launch: a sequence that lacks pages parks and leaves it (R190, R214 order 2). -/
def growRows (s : State) (k : Nat) : List Nat → State × List Nat
  | [] => (s, [])
  | i :: r =>
    match req s i with
    | none => growRows s k r
    | some x =>
      let c := kindSeq k x
      match grow s c (kindN s k x) with
      | .done s =>
        let (s, l) := growRows (servAction s x.slot [2, c, kindN s k x, (seqOf s c).writePos]) k r
        (s, i :: l)
      | .lacks need => growRows (servAction (parkSeq s c (kindN s k x) need) x.slot [4, c]) k r
      | .range => growRows (endReq s i .lengthRange) k r

/-- The variant with the smallest BATCH that holds `m` rows (R214 order 3). -/
def pickVariant (vs : List (Nat × Variant)) (m : Nat) : Option (Nat × Variant) :=
  (vs.filter (fun v => m ≤ v.2.batch)).foldl (fun b v =>
    match b with
    | some c => if v.2.batch < c.2.batch then some v else some c
    | none => some v) none

/-- Issues a launch of the sequencer (R214 order 5). -/
def issueServing (s : State) (wn : Nat) (x : Work) (ctxs : List Nat) : State :=
  let s := setWork s wn (some { x with done := false, refused := none })
  let s := setServSlot s x.slot { servSlot s x.slot with flight := some wn }
  issueLaunch s x.part { desc := x.desc, src := .serving wn, ctxs := ctxs }

/-- The descriptor of a serving launch (R214 order 5), and the record and region it takes from the slot's rings. -/
def servDesc (s : State) (n runSlot p v m io : Nat) : LaunchDesc :=
  { slot := runSlot, partition := p, variant := v, tenant := (slot s n).tenant, batch := m,
    stochKey := generator (rd s R.SERV_KEY) s.serv.serial, scratchBase := rd s R.SERV_SLOT_SCR 0 runSlot, ioBase := io,
    seqList := io, recordAddr := rd s R.SERV_SLOT_REC 0 n + 64 * ((servSlot s n).recNo % 64),
    tag := s.serv.serial % 2 ^ 32 }

/-- Writes row info and input blocks of a launch (R214 order 4). -/
def writeRows (s : State) (n k io : Nat) (rows : List Nat) : State :=
  let l := layoutRows s n
  let ib := inputBlock (chunkOf s n) (if slotPaired s n then specLen s n else 0)
  let s := (rows.zipIdx).foldl (fun s e =>
    match req s e.1 with
    | none => s
    | some x =>
      let p := (seqOf s (kindSeq k x)).writePos
      let m := kindN s k x
      memWrite (memWrite s (io + 16 * e.2) (rowInfo (p + m) p false)) (io + inputBase l + ib * e.2) (inputBytes x k p m ib)) s
  (List.range (l - rows.length)).foldl (fun s j => memWrite s (io + 16 * (rows.length + j)) (rowInfo 0 0 true)) s

/-- Prepares the launch at a place of a slot's cycle (R214, orders 1 to 5). -/
def prepareAt (s : State) (n c : Nat) : State :=
  let b := c / 5
  let k := c % 5
  let s := setServSlot s n { servSlot s n with cycle := c }
  let s := (takers s n b k).foldl deadlineCheck s
  let (s, rows) := growRows s k ((takers s n b k).map Prod.fst)
  let runSlot := kindSlot s n k
  let p := kindPart s n k
  let vs := (bucketVariants s runSlot (variantKind k) b).filter (fun v => k < 3 || v.2.specLen = specLen s n)
  match rows, pickVariant vs rows.length with
  | [], _ => s
  | _, none => s
  | _, some (v, _) =>
    let ss := servSlot s n
    let idx := if k = 4 then ss.io else (ss.io + 1) % max 1 (rd s R.SERV_SLOT_IOCNT 0 n)
    let io := rd s R.SERV_SLOT_IO 0 n + imgIoLen (slot s n).image * idx
    let xs := rows.filterMap (req s)
    let ctxs := xs.map (kindSeq k)
    let ns := xs.map (kindN s k)
    let starts := ctxs.map (fun q => (seqOf s q).writePos)
    let s := writeRows s n k io rows
    let wn := s.serv.serial
    let d := servDesc s n runSlot p v rows.length io
    let wk : Work := { slot := n, runSlot := runSlot, part := p, kind := k, draft := k = 1 || k = 3, bucket := b, variant := v,
                       rows := rows, ns := ns, starts := starts, io := io, record := d.recordAddr, serial := wn, desc := d }
    let s := rows.foldl (fun s i => modReq s i (fun x => { x with started := true, inWork := some wn })) s
    let s := setServSlot s n { ss with io := idx, recNo := ss.recNo + 1, took := ss.took ++ rows.map (fun i => (k, i)) }
    issueServing { s with serv := { s.serv with serial := wn + 1 } } wn wk ctxs

/-- A RELOAD launch comes before the launch again that residency refused (R149, R214). -/
def prepareReload (s : State) (n wn : Nat) : State :=
  match work s wn with
  | none => setServSlot s n { servSlot s n with reload := none }
  | some x =>
    if (part s x.part).resident = some x.runSlot then
      issueServing (setServSlot s n { servSlot s n with reload := none }) wn x ((x.rows.filterMap (req s)).map (kindSeq x.kind))
    else
      match ((imgVariantList (slot s x.runSlot).image).zipIdx).find? (fun v => v.1.kind = 5) with
      | none => faultSlot (setServSlot (setWork s wn none) n { servSlot s n with reload := none }) n .residentStale
      | some (_, v) =>
        let d := servDesc s n x.runSlot x.part v 1 x.io
        let wk := s.serv.serial
        let s := setServSlot s n { servSlot s n with recNo := (servSlot s n).recNo + 1 }
        issueServing { s with serv := { s.serv with serial := wk + 1 } } wk
          { x with kind := 5, variant := v, rows := [], ns := [], starts := [], record := d.recordAddr, serial := wk, desc := d,
                   redo := some wn } []

/-- The sequencer launches nothing in a partition: a retirement holds it (R90), a divergence has stopped it (R355), or it is
mirrored on a standby unit (R348). -/
def launchStopped (s : State) (p : Nat) : Bool :=
  (part s p).held || (twinPart s p).stop || ((twinRole s = 2 || twinState s = 5) && mirrored s p)

/-- SERVING_LAUNCH_PREPARE (R214): the next launch of a slot's cycle, unless one is in flight. -/
def execServingLaunchPrepare (n : Nat) (s : State) : Host.Outcome State Fault Refusal :=
  .next (
    let s := s.serv.dirty.foldl recompute s
    let ss := servSlot s n
    if ss.flight.isSome || slotFaulted s n || (slot s n).st ≠ .ready || rd s R.SERV_CTL_ENABLE = 0 || admissionsStopped s ||
       launchStopped s (servPart s n) || (slotPaired s n && launchStopped s (servPart s (draftSlotOf s n))) then s
    else
      match ss.reload with
      | some w => prepareReload s n w
      | none =>
        match nextPlace s n 80 ss.cycle with
        | some c => prepareAt s n c
        | none =>
          let s := setServSlot s n { ss with cycle := 0, took := [] }
          match nextPlace s n 80 0 with
          | some c => prepareAt s n c
          | none => s)

/-! ### Results (R214 to R218, R223, R226, R227) -/

/-- TOKEN_OUT entry `i` of row `r`: token, P, RESID (R206). -/
def tokenOut (s : State) (x : Work) (r i : Nat) : Nat × Nat × Nat :=
  let l := layoutRows s x.slot
  let ib := inputBlock (chunkOf s x.slot) (if slotPaired s x.slot then specLen s x.slot else 0)
  let a := x.io + tokenBase l ib + 192 * r + 16 * i
  (memNat s a 4, memNat s (a + 4) 4, memNat s (a + 8) 4)
/-- DRAFT_OUT entries of row `r`: drafted tokens with their probabilities. -/
def draftOut (s : State) (x : Work) (r sl : Nat) : List (Nat × Nat) :=
  let l := layoutRows s x.slot
  let ib := inputBlock (chunkOf s x.slot) (if slotPaired s x.slot then specLen s x.slot else 0)
  (List.range sl).map (fun j =>
    let a := x.io + draftBase l ib + 64 * r + 8 * j
    (memNat s a 4, memNat s (a + 4) 4))

/-- Greedy acceptance (R216): how many drafted tokens agree with the target's. -/
def acceptGreedy : List Nat → List Nat → Nat
  | d :: ds, t :: ts => if d = t then 1 + acceptGreedy ds ts else 0
  | _, _ => 0

/-- The test of R217 for one drafted token: u × Q < P in FP32. -/
def acceptTest (r q p : Nat) : Bool :=
  let u := toFp32 (.fin false (r / 2 ^ 40) (-24))
  !isNan q && !isNan p && valLt (fp32 (fp32Mul u q)) (fp32 p)

/-- Sampled acceptance (R217): how many drafted tokens pass, from position `pos` on. -/
def acceptSampled (x : Req) : Nat → List (Nat × Nat) → List Nat → Nat
  | pos, (_, q) :: ds, p :: ps => if acceptTest (reqRandom x 1 pos) q p then 1 + acceptSampled x (pos + 1) ds ps else 0
  | _, _, _ => 0

/-- What a VERIFY launch accepts and delivers for a row (R216, R217): k, and the tokens. -/
def verifyRow (s : State) (w : Work) (r : Nat) (x : Req) (p : Nat) : Nat × List (Nat × Bool) :=
  let sl := x.drafts.length
  let ts := (List.range (sl + 1)).map (tokenOut s w r)
  let k := if x.sampled then acceptSampled x (p + 1) x.drafts (ts.map (fun t => t.2.1))
    else acceptGreedy (x.drafts.map Prod.fst) (ts.map Prod.fst)
  let t := ts.getD k (0, 0, 0)
  (k, (x.drafts.take k).map (fun d => (d.1, true)) ++ [(if x.sampled && k < sl then t.2.2 else t.1, false)])

/-- Inserts a prompt's blocks into the tenant's prefix index after its last prefill (R223). -/
def insertPrompt (s : State) (x : Req) : State :=
  if x.insert && rd s R.PFX_TEN_NODES 0 x.tenant ≠ 0 then
    let img := (slot s x.slot).image
    pfxInsert x.tenant x.seq s 0 0 (pfxKeys (pfxSeed img) (promptBlocks x.prompt (imgTppLog2 img)))
  else s

/-- Delivers a row's tokens under R215, R226 and R228. -/
def deliverRow (s : State) (w : Work) (i : Nat) (toks : List (Nat × Bool)) : State :=
  match req s i with
  | none => s
  | some x =>
    let late := decide (x.deadline < w.endTime) && !toks.isEmpty
    let forced := if tenState s x.tenant = 2 then some (retireStatus s)
      else if !x.cancels.isEmpty then some .cancelled
      else if late && rd s (R.SERV_CLASS_CONTINUE_LATE x.cls) = 0 then some .deadlineExpired else none
    deliver s i toks late forced

/-- The result of one row of a launch that was not abandoned: commit, acceptance, rollback and delivery (R214). -/
def rowResult (w : Work) (s : State) (e : Nat × Nat) : State :=
  let (i, r) := e
  match req s i with
  | none => s
  | some x =>
    let n := w.ns.getD r 0
    let p := w.starts.getD r 0
    let c := kindSeq w.kind x
    let s := (commitSeq s c n).getD s
    let s := setReq s i (some { x with inWork := none })
    match w.kind with
    | 0 =>
      if x.prompt.length ≤ p + n then
        deliverRow (insertPrompt s x) w i [((tokenOut s w r 0).1, false)]
      else deliverRow s w i []
    | 1 => deliverRow s w i []
    | 2 => deliverRow s w i [((tokenOut s w r 0).1, false)]
    | 3 => deliverRow (modReq s i (fun x => { x with passDraft := true, drafts := draftOut s w r (n - 1) })) w i []
    | _ =>
      let (k, toks) := verifyRow s w r x p
      let s := (rollbackSeq s x.seq (p + 1 + k)).getD s
      let s := (rollbackSeq s x.draftSeq (p + 1 + k)).getD s
      let s := servAction (servAction s x.slot [3, x.seq, p + 1 + k]) x.slot [3, x.draftSeq, p + 1 + k]
      let s := addSat (addSat s R.SERV_DRAFT_PROPOSED x.drafts.length) R.SERV_DRAFT_ACCEPTED k
      deliverRow (modReq s i (fun x => { x with passDraft := false, drafts := [] })) w i toks

/-- A row of an abandoned launch (R227): its pass is repeated, its abandoned launches are counted, and it ends when there are
more than RELAUNCH_MAX of them or a CANCEL waits. -/
def rowAbandoned (w : Work) (st : Status) (s : State) (e : Nat × Nat) : State :=
  let (i, r) := e
  match req s i with
  | none => s
  | some x =>
    let s := if w.kind = 4 then (rollbackSeq s x.draftSeq (w.starts.getD r 0)).getD s else s
    let s := servAction s x.slot [3, kindSeq w.kind x, w.starts.getD r 0]
    let s := setReq s i (some { x with inWork := none, passDraft := false, drafts := [], abandons := x.abandons + 1 })
    if rd s R.SERV_CTL_RELAUNCH_MAX < x.abandons + 1 then endReq s i st
    else if !x.cancels.isEmpty then endReq s i .cancelled else s

/-- SERVING_LAUNCH_RESULT (R214, R227): the sequencer acts on the record of its launch. -/
def execServingLaunchResult (wn : Nat) (s : State) : Host.Outcome State Fault Refusal :=
  .next (match work s wn with
  | none => s
  | some w =>
    if !w.done then s
    else
      let s := setServSlot s w.slot { servSlot s w.slot with flight := none }
      match w.refused, w.stopped with
      | some _, _ => setServSlot (setWork s wn (some { w with done := false, refused := none })) w.slot
          { servSlot s w.slot with reload := some wn }
      | none, some st =>
        let s := setWork s wn none
        match st with
        | .planFault => faultSlot s w.slot .planFault
        | .duskAbandon => (openReqs s).foldl (fun s e => endReq s e.1 .duskAbandon) s
        | .tenantRetiring | .debugAbandon =>
          let s := w.rows.foldl (fun s i => modReq s i (fun x => { x with inWork := none, passDraft := false, drafts := [] })) s
          w.rows.foldl (fun s i => match req s i with
            | some x => if tenState s x.tenant = 2 then endReq s i (retireStatus s) else s
            | none => s) s
        | _ =>
          let s := irqEvent (incSat s R.SERV_RELAUNCH_CNT) 10 0 Irq.SERV_RELAUNCH (slot s w.slot).tenant [w.slot, statusValue st]
          (w.rows.zipIdx).foldl (rowAbandoned w st) s
      | none, none => (w.rows.zipIdx).foldl (rowResult w) (setWork s wn none))

/-! ### Prefix lookup (R222), cancellation (R228), budgets and index registers -/

/-- The hit depth of R222 along a path of nodes. -/
def hitDepth (s : State) (x : Req) (path : List Nat) : Nat :=
  let tpp := 2 ^ imgTppLog2 (slot s x.slot).image
  (path.zipIdx).foldl (fun h e =>
    let d := e.2 + 1
    let q := pfxField s x.tenant e.1 28 2
    let y := seqOf s q
    if q ≠ 0xFFFF && y.st = 1 && y.tenant = x.tenant && y.slot = x.slot && d * tpp ≤ y.writePos && d ≤ (x.prompt.length - 1) / tpp
    then d else h) 0

/-- PREFIX_LOOKUP of a request (R222): on a hit the new sequence grows to cover the blocks, and their copy begins (R196). -/
def execPrefixLookup (i : Nat) (s : State) : Host.Outcome State Fault Refusal :=
  .next (match req s i with
  | none => s
  | some x =>
    if !x.lookup || x.looked || x.st ≠ .prefill || rd s (R.SERV_CLASS_PFX_EN x.cls) = 0 || (seqOf s x.seq).st ≠ 1 then s
    else
      let img := (slot s x.slot).image
      let tpp := 2 ^ imgTppLog2 img
      let path := if rd s R.PFX_TEN_NODES 0 x.tenant = 0 then [] else
        pfxWalk s x.tenant 0 (pfxKeys (pfxSeed img) (promptBlocks x.prompt (imgTppLog2 img)))
      let h := hitDepth s x path
      let src := pfxField s x.tenant (path.getD (h - 1) 0) 28 2
      if h = 0 then setReq (incSat s R.PFX_LOOKUP_CNT) i (some { x with looked := true })
      else
        match grow s x.seq (h * tpp) with
        | .lacks need => servAction (parkSeq s x.seq (h * tpp) need) x.slot [4, x.seq]
        | .range => setReq (incSat s R.PFX_LOOKUP_CNT) i (some { x with looked := true })
        | .done s =>
          let s := addSat (incSat (incSat s R.PFX_LOOKUP_CNT) R.PFX_HIT_CNT) R.PFX_HIT_BLOCKS h
          let s := (path.take h).foldl (fun s n => pfxSet s x.tenant n 40 8 s.now) s
          let s := setSeq s src { seqOf s src with pins := (seqOf s src).pins + 1 }
          let s := { s with kv := { s.kv with copies := s.kv.copies ++ [{ src := src, dst := x.seq, h := h }] } }
          let s := servAction s x.slot [2, x.seq, h * tpp, (seqOf s x.seq).writePos, src, h]
          setReq s i (some { x with looked := true, hit := h * tpp }))

/-- CANCEL of queue `q` (R228). -/
def execCancel (q : Nat) (s : State) : Host.Outcome State Fault Refusal :=
  .next (match running s q 4 with
  | none => s
  | some r =>
    let t := arg r 16 1
    let k := arg r 18 2
    let tag := arg r 20 2
    if !tenantOk r true t then finishCmd s q .tenantMismatch 0
    else
      match (openReqs s).find? (fun e => e.2.seq = k) with
      | some (i, x) =>
        if x.tenant ≠ t then finishCmd s q .tenantMismatch 0
        else if x.tag ≠ tag then finishCmd s q .seqState 0
        else
          let s := setBusy (setReq s i (some { x with cancels := x.cancels ++ [q] })) q
          if x.inWork.isNone then endReq s i .cancelled else s
      | none =>
        if (seqOf s k).st ≠ 0 && (seqOf s k).tenant ≠ t then finishCmd s q .tenantMismatch 0
        else
          match tget none s.serv.tags k with
          | some (t', tag') => if t' = t && tag' = tag then finishCmd s q .ok 0 4 else finishCmd s q .seqState 0
          | none => finishCmd s q .seqState 0)

/-- BURST_WRITE: the selected tenant's ceiling, and its level (R211). -/
def execBurstWrite (w : Writer) (v : Nat) (s : State) : Host.Outcome State Fault Refusal :=
  .next (regWrite s w 10 0 0x168 (chg s R.SERV_TEN_BURST v 0 (rd s R.SERV_TEN_SEL)) (fun s =>
    let t := rd s R.SERV_TEN_SEL
    let s := wr s R.SERV_TEN_BURST v 0 t
    setBudget s t { level := 16 * rd s R.SERV_TEN_BURST 0 t, time := s.now, rest := 0 }))

/-- PFX_TEN_WRITE: PFX_TEN_NODES when `nodes`, otherwise PFX_TEN_BASE, of the selected tenant; the tree is cleared (R221). -/
def execPfxTenWrite (w : Writer) (nodes : Bool) (v : Nat) (s : State) : Host.Outcome State Fault Refusal :=
  .next (
    let f := if nodes then R.PFX_TEN_NODES else R.PFX_TEN_BASE
    regWrite s w 12 0 f.off (chg s f v 0 (rd s R.PFX_TEN_SEL)) (fun s =>
      let t := rd s R.PFX_TEN_SEL
      if (openReqs s).any (fun e => e.2.tenant = t) then refuseWrite s 12 0 f.off .poolBusy
      else if !nodes && v % 64 ≠ 0 then refuseWrite s 12 0 f.off .fieldReserved
      else pfxClear (wr s f v 0 t) t))

end Sys2Proof.Machine
end

