-- ==== Sys2Proof/Machine/Twin.lean ====
section
/-!
DEFINITION. The meanings of the twin modules' commands: pairing, the mirror stream, comparison, verdicts and the pair's states
(chapter 14).
-/

namespace Sys2Proof.Machine

/-! ### Pairing (R346) -/

/-- What a unit's pair message says: its role, mirrored partitions, ID, peer, and whether mirrored work is open there. -/
def pairWords (s : State) : List Nat :=
  [rd s R.TWIN_CFG_ROLE_CFG, rd s R.TWIN_PARTS, hiveId s, rd s R.TWIN_CFG_PEER, b2n (mirrorBusy s)]

/-- The active's 16 tolerance profiles, by number: ABS, REL, EPS and MAXMIS. -/
def profileWords (s : State) : List Nat :=
  (List.range 16).flatMap (fun k =>
    [rd s R.TWIN_PROF_ABS 0 k, rd s R.TWIN_PROF_REL 0 k, rd s R.TWIN_PROF_EPS 0 k, rd s R.TWIN_PROF_MAXMIS 0 k])

/-- A pairing attempt is over. -/
def endAttempt (s : State) : State := { s with twin := { s.twin with asked := none, peerAsk := none } }

/-- The pairing is refused (R346). -/
def refusePair (s : State) (st : Status) : State := refuseWrite (endAttempt s) 16 0 0x10C st

/-- The pair forms. -/
def formPair (s : State) (role : Nat) : State :=
  let s := wr (wr (endAttempt (twinReset s)) R.TWIN_SKEW 0) R.TWIN_SKEW_MAX 0
  let s := wr (twinCause (setTwinState s role) 0) R.TWIN_STAT_VERDICT 0
  let s := irqEvent { s with twin := { s.twin with serial := 0 } } 16 0 Irq.TWIN_PAIRED 0 []
  let s := if role = 1 then sendTwin s (.twinControl 6 (profileWords s)) else s
  tellPace s

/-- Once PAIR has been written on both units within 1 s, each decides by the same three checks. -/
def tryPair (s : State) : State :=
  match s.twin.asked, s.twin.peerAsk with
  | some _, some (_, m) =>
    let role := rd s R.TWIN_CFG_ROLE_CFG
    if !portUp s 6 then refusePair s .linkDown
    else if m.getD 1 0 ≠ rd s R.TWIN_PARTS || role + m.getD 0 0 ≠ 3 || role = 0 || m.getD 0 0 = 0 ||
        m.getD 2 0 ≠ rd s R.TWIN_CFG_PEER || m.getD 3 0 ≠ hiveId s then refusePair s .fieldReserved
    else if mirrorBusy s || m.getD 4 0 = 1 then refusePair s .partitionBusy
    else formPair s role
  | _, _ => s

/-- A peer's pair message older than 1 s has lapsed. -/
def freshAsk (s : State) : State :=
  match s.twin.peerAsk with
  | some (t, _) => if t + 1000000000 < s.now then { s with twin := { s.twin with peerAsk := none } } else s
  | none => s

/-- TWIN_PAIR. -/
def execTwinPair (w : Writer) (s : State) : Host.Outcome State Fault Refusal :=
  .next (regWrite s w 16 0 0x10C true (fun s =>
    if twinState s ≠ 0 then s
    else if !portUp s 6 then refusePair s .linkDown
    else
      let s := freshAsk { s with twin := { s.twin with asked := some s.now } }
      tryPair (sendTwin s (.twinControl 1 (pairWords s)))))

/-- PAIR_WINDOW_EXPIRY. -/
def execPairWindowExpiry (s : State) : Host.Outcome State Fault Refusal :=
  .next (match s.twin.asked with
  | some t => endAttempt (reachTime s (t + 1000000000))
  | none => s)

/-! ### The mirror stream (R348 to R350) -/

/-- A context that the standby opens and follows. -/
def followOpen (s : State) (slotNo tenant lc seq : Nat) : State :=
  match openSeq s seq tenant slotNo lc (2 ^ 64 - 1) false with
  | .ok s => { s with twin := { s.twin with follow := s.twin.follow ++ [seq] } }
  | .error _ => s
/-- A context that the standby follows closes. -/
def followClose (s : State) (seq : Nat) : State :=
  if s.twin.follow.contains seq then closeSeq { s with twin := { s.twin with follow := s.twin.follow.filter (· ≠ seq) } } seq
  else s

/-- Copies the pages of a prefix hit, as its growth says. -/
def followCopy (s : State) (src dst h : Nat) : State :=
  let x := seqOf s src
  let y := seqOf s dst
  let s := (List.range y.layers).foldl (fun s l => (List.range h).foldl (fun s b =>
    match tget 0 x.map (l * 2 ^ 15 + b), tget 0 y.map (l * 2 ^ 15 + b) with
    | f + 1, g + 1 => memWrite s (frameAddr s g) (memBytes s (frameAddr s f) 16384)
    | _, _ => s) s) s
  setSeq s dst { seqOf s dst with writePos := h * 2 ^ y.tppLog2 }

/-- A mirrored growth: WRITE_POS is the active's, a parked sequence opens again. -/
def followGrow (s : State) (k n wp : Nat) (hit : Option (Nat × Nat)) : State :=
  if !s.twin.follow.contains k then s
  else
    let s := setSeq s k { seqOf s k with writePos := wp, st := if (seqOf s k).st = 2 then 1 else (seqOf s k).st, growNeed := 0,
                                         growN := 0, parkTime := 0 }
    match grow s k n with
    | .done s => match hit with
      | some (src, h) => followCopy s src k h
      | none => s
    | _ => s

/-- SERV_ACTION: the standby applies an action to its own KVPG. Messages of a tenant that it drops are discarded (R354). -/
def execServAction (what : List Nat) (s : State) : Host.Outcome State Fault Refusal :=
  .next (
    if twinRole s ≠ 2 then s
    else
      match what with
      | 1 :: n :: t :: lc :: k :: spec :: dn :: dlc :: dk :: _ =>
        if s.twin.drop.contains t then s
        else
          let s := followOpen s n t lc k
          if spec = 1 then followOpen s dn t dlc dk else s
      | 2 :: k :: n :: wp :: src :: h :: _ =>
        if s.twin.drop.contains (seqOf s k).tenant then s else followGrow s k n wp (some (src, h))
      | 2 :: k :: n :: wp :: _ => if s.twin.drop.contains (seqOf s k).tenant then s else followGrow s k n wp none
      | 3 :: k :: p :: _ =>
        if s.twin.follow.contains k && !s.twin.drop.contains (seqOf s k).tenant then (rollbackSeq s k p).getD s else s
      | 4 :: k :: _ =>
        if s.twin.follow.contains k && !s.twin.drop.contains (seqOf s k).tenant then setSeq s k { seqOf s k with st := 2 } else s
      | 5 :: k :: _ => followClose s k
      | 6 :: k :: _ :: spec :: dk :: _ =>
        let s := followClose s k
        if spec = 1 then followClose s dk else s
      | _ => s)

/-- MIRROR_LAUNCH: the launch waits in its partition with its snapshot. -/
def execMirrorLaunch (serial : Nat) (d : LaunchDesc) (ctxs : List Nat) (io : List Byte) (s : State) :
    Host.Outcome State Fault Refusal :=
  .next (
    if twinRole s ≠ 2 || !mirrored s d.partition || s.twin.drop.contains d.tenant then s
    else
      let t := twinPart s d.partition
      issueLaunch (setTwinPart s d.partition { t with serial := serial }) d.partition
        { desc := d, src := .mirror, ctxs := ctxs, serial := serial, snap := some io })

/-- LAUNCH_ACK. -/
def execLaunchAck (serial : Nat) (s : State) : Host.Outcome State Fault Refusal :=
  .next (s.twin.parts.foldl (fun s e =>
    if e.2.serial = serial then setTwinPart s e.1 { e.2 with acked := true } else s) s)

/-- PACE_REPORT: a change of a partition's pace sets the sequencer to form its predictions again (R62, R350). -/
def execPaceReport (pairs : List (Nat × Nat)) (s : State) : Host.Outcome State Fault Refusal :=
  .next (
    if twinRole s = 0 then s
    else
      pairs.foldl (fun s e =>
        let p := e.1
        if (twinPart s p).peerPace = e.2 || !mirrored s p then s
        else
          let s := setTwinPart s p { twinPart s p with peerPace := e.2 }
          { s with serv := { s.serv with dirty := (partDies s p ++ s.serv.dirty).eraseDups } }) s)

/-! ### Comparison and verdicts (R351 to R357) -/

/-- Mirrored partition in which the standby runs, keeps or awaits a launch of a serial. -/
def serialPart (s : State) (serial : Nat) : Option Nat :=
  (List.range 64).find? (fun p => mirrored s p &&
    ((twinPart s p).own.any (fun x => x.1 = serial) ||
     (match (part s p).running with | some r => r.serial = serial && r.src = .mirror | none => false) ||
     (part s p).queue.any (fun q => q.serial = serial && q.src = .mirror)))

/-- COMPARE_DATA: compared at once when this unit's launch has ended and its copy is there; otherwise kept for that. -/
def execCompareData (serial mark : Nat) (bytes : List Byte) (s : State) : Host.Outcome State Fault Refusal :=
  .next (
    if twinRole s ≠ 2 then s
    else
      match serialPart s serial with
      | none => s
      | some p =>
        let t := twinPart s p
        let runs := match (part s p).running with | some r => r.serial = serial | none => false
        let keep := setTwinPart s p { t with peer := t.peer ++ [(serial, mark, bytes)] }
        if runs || (part s p).queue.any (fun q => q.serial = serial) then keep
        else
          match t.own.find? (fun x => x.1 = serial && x.2.1 = mark), t.ends.find? (fun e => e.1 = serial) with
          | some x, some (_, slotNo, variant) =>
            let s := setTwinPart s p { t with own := t.own.filter (fun y => !(y.1 = serial && y.2.1 = mark)) }
            evaluatePoint s p serial mark slotNo variant x.2.2 bytes
          | _, _ => s)

/-- TWIN_VERDICT: serial 0 carries a self-test's result (16 failed, 17 passed) or, from 32 on, the verdict; another serial a
divergence that the standby has found. -/
def execTwinVerdict (serial : Nat) (what : List Nat) (s : State) : Host.Outcome State Fault Refusal :=
  .next (
    if serial = 0 then
      let v := what.getD 0 0
      if 32 ≤ v then applyVerdict s (v - 32)
      else
        match s.twin.test with
        | some t => twinResults { s with twin := { s.twin with test := some { t with peerRes := some (v = 17) } } }
        | none => s
    else if twinState s = 1 then
      declareDivergence s (what.getD 0 0) serial (what.getD 1 0) (what.getD 2 0) (what.getD 3 0) (what.getD 4 0)
    else s)

/-! ### Pair states (R358, R359) -/

/-- The pair is dissolved on this unit. -/
def dissolve (s : State) : State :=
  let s := if twinRole s = 2 then closeFollowed s else s
  setTwinState (endAttempt (twinReset s)) 0

/-- The roles exchange on this unit (R358). -/
def swapRole (s : State) : State :=
  let role := twinState s
  let s := if role = 2 then closeFollowed s else s
  setTwinState { s with twin := { s.twin with parts := [], drop := [] } } (3 - role)

/-- The standby takes the active's tolerance profiles. -/
def takeProfiles (s : State) (l : List Nat) : State :=
  (List.range 16).foldl (fun s k =>
    wr (wr (wr (wr s R.TWIN_PROF_ABS (l.getD (4 * k) 0) 0 k) R.TWIN_PROF_REL (l.getD (4 * k + 1) 0) 0 k) R.TWIN_PROF_EPS
      (l.getD (4 * k + 2) 0) 0 k) R.TWIN_PROF_MAXMIS (l.getD (4 * k + 3) 0) 0 k) s

/-- TWIN_CONTROL: 1 pair, 2 unpair, 3 swap, 5 the pair broke, 6 the profiles. A take-over message (4) changes nothing here: the
link is not UP when one is due. -/
def execTwinControl (op : Nat) (what : List Nat) (s : State) : Host.Outcome State Fault Refusal :=
  .next (match op with
  | 1 => if twinState s = 0 then tryPair { s with twin := { s.twin with peerAsk := some (s.now, what) } } else s
  | 2 => if twinState s = 0 then s else dissolve s
  | 3 => if twinState s = 2 then swapRole s else s
  | 5 => if 1 ≤ twinState s && twinState s ≤ 3 then setTwinState (twinReset (twinCause s 4)) 0 else s
  | 6 => if twinState s = 2 then takeProfiles s what else s
  | _ => s)

/-- TWIN_UNPAIR. -/
def execTwinUnpair (w : Writer) (s : State) : Host.Outcome State Fault Refusal :=
  .next (regWrite s w 16 0 0x10C true (fun s =>
    if twinState s = 0 then s else dissolve (sendTwin s (.twinControl 2 []))))

/-- TWIN_SWAP. -/
def execTwinSwap (w : Writer) (s : State) : Host.Outcome State Fault Refusal :=
  .next (regWrite s w 16 0 0x10C true (fun s =>
    if twinRole s ≠ 1 then s
    else if twinState s = 3 || mirrorBusy s then refuseWrite s 16 0 0x10C .partitionBusy
    else swapRole (sendTwin s (.twinControl 3 []))))

/-- TWIN_TAKEOVER. -/
def execTwinTakeover (w : Writer) (s : State) : Host.Outcome State Fault Refusal :=
  .next (regWrite s w 16 0 0x10C true (fun s =>
    if twinState s ≠ 4 then s
    else if portUp s 6 then refuseWrite s 16 0 0x10C .fieldReserved
    else setTwinState (irqEvent s 16 0 Irq.TWIN_FAILOVER 0 []) 1))

end Sys2Proof.Machine
end

