-- ==== Sys2Proof/Machine/RegRules.lean ====
section
/-!
DEFINITION. A 32-bit write of a register: the registers that have a rule of their own, and every other (chapter 20). The
settings replay of start-up (R480) writes through it too.
-/

namespace Sys2Proof.Machine

/-- The state after a command that another register write stands for. -/
def after (r : Host.Outcome State Fault Refusal) (s : State) : State :=
  match r with
  | .next t => t
  | _ => s

/-- Registers of the comb, the plans and device memory that have a rule of their own. -/
def combWrite (s : State) (w : Writer) (ty i off v : Nat) : Option State :=
  match ty, off with
  | 18, 0x100 => some (after (execPaceFloorWrite w i (v % 65536) s) s)
  | 18, 0x10C => some (after (execPaceVlimWrite w i (v % 4096) (v / 65536 % 4096) s) s)
  | 18, 0x134 => if i < 4 then some (after (execPaceMarginWrite w i (v % 65536) s) s) else none
  | 18, 0x138 => if i < 4 then some (after (execClearAll w i (v % 2) s) s) else none
  | 0, 0x110 => if v % 2 = 1 then some (after (execCellTestStart w i (bitsOf v 8 6) s) s) else none
  | 0, 0x118 => some (after (execCellRetire w i (v % 2) s) s)
  | 1, 0x118 => if v % 2 = 1 then some (after (execPipeTestStart w i (bitsOf v 8 6) s) s) else none
  | 2, 0x104 => some (after (execQuadPartWrite w i (v % 128) s) s)
  | 2, 0x10C => some (after (execPipeRetire w i (bitsOf v 7 1) s) s)
  | 3, 0x100 => some (after (execMemcPartWrite w i (v % 128) s) s)
  | 3, 0x140 => if i = 0 then some (after (execMemSetMapWrite w v s) s) else none
  | 3, 0x148 =>
    if i = 0 then some (if bitsOf v 31 1 = 1 then after (execExtentOwn w (v % 256) s) s else after (execExtentRelease w s) s)
    else none
  | 5, 0x104 => some (after (execSeamLaneWrite w i (v % 128) s) s)
  | 6, 0x104 | 6, 0x108 =>
    if i = 4 then some (after (execFastlaneWrite w (carried R.DIE_FASTLANE off v (rd s R.DIE_FASTLANE 4)) s) s) else none
  | _, _ => none

/-- A half of the pool's or the record area's address, or the pool's size (R180, R185). -/
def kvWrite (s : State) (w : Writer) (off v : Nat) : Option State :=
  if off = R.KVPG_POOL_PAGES.off then some (after (execKvpgPoolWrite w true (v % 2 ^ 27) s) s)
  else if R.KVPG_POOL_BASE.off ≤ off && off < R.KVPG_POOL_BASE.off + 8 then
    some (after (execKvpgPoolWrite w false (carried R.KVPG_POOL_BASE off v (rd s R.KVPG_POOL_BASE)) s) s)
  else if R.KVPG_SEQ_BASE.off ≤ off && off < R.KVPG_SEQ_BASE.off + 8 then
    some (after (execKvpgSeqBaseWrite w (carried R.KVPG_SEQ_BASE off v (rd s R.KVPG_SEQ_BASE)) s) s)
  else if off = R.KVPG_TEN_RESV.off then some (after (execKvpgResvWrite w (v % 2 ^ 27) s) s)
  else none

/-- Registers of the host port, the queues and serving. -/
def hostRegWrite (s : State) (w : Writer) (ty i off v : Nat) (e : WriteEnv) : Option State :=
  match ty, off with
  | 7, 0x108 => some (after (execLinkRetrain w v s) s)
  | 7, 0x110 => some (after (execHostFnCfgWrite w v s) s)
  | 7, 0x114 => some (after (execHostFnMsixWrite w (v % 4096) e.msix s) s)
  | 7, 0x118 => some (after (execHostFnWinWrite w (v % 1024) s) s)
  | 8, 0x144 => some (if v % 2 = 1 then after (execDmaGo w i s) s else s)
  | 9, 0x180 | 9, 0x184 => some (after (execQmgrSigBaseWrite w (carried R.QMGR_SIG_BASE off v (rd s R.QMGR_SIG_BASE)) s) s)
  | 9, 0x1A4 => some (after (execDbpMapWrite w (v % 64) s) s)
  | 9, 0x124 => some (queueControl s 0 (v % 16) [] [])
  | 27, 0x124 => some (queueControl s i (v % 16) [] [])
  | 10, 0x124 => some (after (execSlotEnable w v s) s)
  | 10, 0x168 => some (after (execBurstWrite w (v % 2 ^ 31) s) s)
  | 11, _ => kvWrite s w off v
  | 12, 0x104 | 12, 0x108 =>
    some (after (execPfxTenWrite w false (carried R.PFX_TEN_BASE off v (rd s R.PFX_TEN_BASE 0 (rd s R.PFX_TEN_SEL))) s) s)
  | 12, 0x10C => some (after (execPfxTenWrite w true (v % 2 ^ 24) s) s)
  | _, _ => none

/-- Runs `k` where bit `n` of a written word is 1. -/
def onBit (v n : Nat) (k : State → State) (s : State) : State := if bitsOf v n 1 = 1 then k s else s

/-- Registers of the links, the hive, the pair, the security island, power and clocks, and the recorder. Actions of one word are
taken from the lowest bit up. -/
def moduleWrite (s : State) (w : Writer) (ty i off v : Nat) (e : WriteEnv) : Option State :=
  match ty, off with
  | 13, 0x100 => some (wagControl s w i v)
  | 14, 0x100 =>
    let auto := bitsOf v 1 1 = 1
    if bitsOf v 0 1 = 0 && bitsOf v 3 1 = 0 then none
    else some (onBit v 3 (fun s => after (execReloadShards w auto e.armed s) s)
      (onBit v 0 (fun s => after (execHiveRestart w auto s) s) s))
  | 14, 0x174 => some (onBit v 1 (fun s => after (execClearSuspect w s) s) (onBit v 0 (fun s => after (execHiveExpel w s) s) s))
  | 14, 0x1C4 => some (after (execBarrierEnable w v s) s)
  | 15, 0x120 => some (after (execMeridSlewWrite w v s) s)
  | 16, 0x10C =>
    some (onBit v 3 (fun s => after (execTwinTakeover w s) s) (onBit v 2 (fun s => after (execTwinSwap w s) s)
      (onBit v 1 (fun s => after (execTwinUnpair w s) s) (onBit v 0 (fun s => after (execTwinPair w s) s) s))))
  | 17, 0x150 => some (onBit v 0 (fun s => after (execGroupKeyGen w s) s) s)
  | 17, 0x1A0 => some (onBit v 0 (fun s => after (execOpkeyCommit w s) s) s)
  | 17, 0x1C0 =>
    some (onBit v 1 (fun s => after (execUnlockSubmit none e.digest e.sigOk s) s)
      (onBit v 0 (fun s => after (execNewNonce w s) s) s))
  | 19, 0x100 =>
    some (regWrite s w 19 0 0x100 (rd s R.PWR_CAP_CAP_W ≠ v % 512 || rd s R.PWR_CAP_EMERG ≠ bitsOf v 31 1)
      (fun s => capWordWrite s v))
  | 20, 0x10C => some (after (execClkObsSelect w v e.hz s) s)
  | 23, 0x100 =>
    let s := onBit v 2 (fun s => after (execClearMetrics w s) s) s
    let s := if bitsOf v 1 1 = 1 then after (execFreeze w s) s else after (execUnfreeze w s) s
    some (onBit v 0 (fun s => after (execRecorderFlush w s) s) s)
  | 23, 0x140 => some (onBit v 0 (fun s => after (execRtcSet w s) s) s)
  | 23, 0x154 | 23, 0x158 => some (metricConfig s w off v)
  | _, _ => none

/-- A register of the common header (R484). -/
def headerWrite (s : State) (ty i off v : Nat) : State :=
  match off with
  | 0x014 => irqEnable s ty i v
  | 0x018 => irqClear s ty i v
  | 0x024 => after (execHoldOnWrite ty i v s) s
  | 0x02C => lockWrite s ty i v
  | _ => s

/-- A 32-bit write of a register of a block, but for the actions of BOOT and FWU. Unused pages and offsets between the registers
ignore it (R483, R486). -/
def blockWrite (s : State) (w : Writer) (ty i off v : Nat) (e : WriteEnv) : State :=
  if !pageThere s ty i || off % 4 ≠ 0 || 0x1000 ≤ off then s
  else if off < 0x100 then headerWrite s ty i off v
  else
    match combWrite s w ty i off v with
    | some t => t
    | none =>
      match hostRegWrite s w ty i off v e with
      | some t => t
      | none =>
        match moduleWrite s w ty i off v e with
        | some t => t
        | none => if (fieldsAt ty i off).isEmpty then s else wordWrite s w ty i off v

end Sys2Proof.Machine
end

