-- ==== Sys2Proof/Machine/Boot.lean ====
section
/-!
DEFINITION. Start-up and resets (R456 to R467, R476 to R481, and the readiness sequence of R257).
-/

namespace Sys2Proof.Machine

/-! ### Images in the NOR devices (R464 to R466) -/

/-- Address of a byte of a slot (0 A, 1 B, 2 the recovery slot) among those of both devices. -/
def norAddr (slot off : Nat) : Nat := (if slot = 2 then 2 ^ 26 else slot * 2 ^ 25) + off
def norByte (s : State) (a : Nat) : Byte := (tget none s.boot.nor a).getD (Config.norByte a)
def norBytes (s : State) (slot off n : Nat) : List Byte := (List.range n).map (fun i => norByte s (norAddr slot off + i))

/-- Erases a sector of a slot and programs bytes into it from its start. -/
def norProgram (s : State) (slot sector : Nat) (bs : List Byte) : State :=
  let a := norAddr slot (65536 * sector)
  let bs := bs.take 65536
  let whole : List Byte := bs ++ List.replicate (65536 - bs.length) 0xFF
  let new : Tbl (Option Byte) := whole.zipIdx.map (fun e => (a + e.2, some e.1))
  let nor := s.boot.nor.filter (fun e => e.1 < a) ++ new ++ s.boot.nor.filter (fun e => a + 65536 ≤ e.1)
  { s with boot := { s.boot with nor := nor } }

/-- Fields of a manifest (R465). -/
def manChunks (m : List Byte) : Nat := fieldAt m 12 2
def manBound (m : List Byte) : Bool := bitsOf (fieldAt m 14 1) 0 1 = 1
def manCosigned (m : List Byte) : Bool := bitsOf (fieldAt m 14 1) 1 1 = 1
def manImageLen (m : List Byte) : Nat := fieldAt m 8 4
/-- Where the signature begins, and the length of the whole manifest. -/
def manBody (m : List Byte) : Nat := 64 + 32 * manChunks m
def manLen (m : List Byte) : Nat := manBody m + 114 + (if manCosigned m then 171 else 0)
def manRanges (m : List Byte) : Bool :=
  1 ≤ manImageLen m && manImageLen m ≤ 33488896 && manChunks m = (manImageLen m + 65535) / 65536
/-- MAGIC, VERSION and the reserved bits and bytes. -/
def manForm (m : List Byte) : Bool :=
  fieldAt m 0 4 = 0x57464E4C && fieldAt m 4 2 = 1 && fieldAt m 14 1 < 4 && fieldAt m 15 1 = 0 && fieldAt m 40 24 = 0
/-- HW_TYPE, and UNIT_ID where the image is bound to one module. -/
def manBinds (s : State) (m : List Byte) : Bool :=
  fieldAt m 6 2 = 0x7200 && (!manBound m || (List.range 4).all (fun j => fieldAt m (16 + 4 * j) 4 = rd s (R.SEC_DEVID j)))
def manDigest (m : List Byte) : List Byte := shake256 m 64
/-- Bytes of chunk `i`; the last one is not padded. -/
def chunkLen (m : List Byte) (i : Nat) : Nat := min 65536 (manImageLen m - 65536 * i)
def chunkGood (m : List Byte) (i : Nat) (bs : List Byte) : Bool := shake256 bs 32 = (m.drop (64 + 32 * i)).take 32
/-- The manifest in a slot's sector 0. -/
def slotMan (s : State) (slot : Nat) : List Byte := norBytes s slot 0 (manLen (norBytes s slot 0 64))

/-- The countersignature under the committed operator key (R466, R388). -/
def cosigned (s : State) (e : StartEnv) (slot : Nat) (m : List Byte) : Bool :=
  let h := shake256 ((m.drop (manBody m + 114)).take 57) 64
  manCosigned m && e.opSigs.contains slot && (List.range 16).map (fun j => fieldAt h (4 * j) 4) = s.sec.opkey

/-- The checks of R466 in order: the status of the first that fails, none for an image that verifies. -/
def verifies (s : State) (e : StartEnv) (slot : Nat) : Option Status :=
  let m := slotMan s slot
  if !manForm m || !manRanges m then some .fwuSignature
  else if !e.sigs.contains slot || (rd s R.BOOT_CFG_REQUIRE_COSIGN = 1 && !cosigned s e slot m) then some .fwuSignature
  else if !manBinds s m then some .fwuBinding
  else if !(List.range (manChunks m)).all (fun i => chunkGood m i (norBytes s slot (65536 * (i + 1)) (chunkLen m i))) then
    some .fwuChunkDigest
  else none

/-! ### Choosing the image (R463, R467) -/

/-- An event of the start: at a cold start it waits until the record store is loaded. -/
def startRecord (s : State) (code sev : Nat) : State :=
  if s.boot.cold then holdRec s (mkRec s 26 0 code sev 0 []) else recordEvent s 26 0 code sev 0 []
def startStatus (s : State) (st : Status) : State := startRecord s (statusValue st) (if statusHalts st then 3 else 2)
def startIrq (s : State) (n : Nat) : State := raiseIrq (startRecord s (0x8000 + n) 1) 26 0 n

/-- Recovery mode is entered (R463). -/
def enterRecovery (s : State) (cause : Nat) : State :=
  startIrq (wr (wr (wr s R.BOOT_STAT_RECOVERY 1) R.BOOT_STAT_RECOVERY_CAUSE cause) R.HOST_STAT_RECOVERY 1) Irq.BOOT_RECOVERY

/-- The chosen slot's image runs. -/
def runSlot (s : State) (slot : Nat) : State :=
  let d := manDigest (slotMan s slot)
  (List.range 16).foldl (fun s j => wr s (R.BOOT_MAN_DIGEST j) (fieldAt d (4 * j) 4)) (wr s R.BOOT_STAT_RUNNING slot)

/-- A flush committed by the island before the cores start (R462, R467): at a cold start the selected bank's copy goes on with the
new boot page. -/
def commitStart (s : State) : State :=
  let seq := max (bankSeq s.evr.bank0) (bankSeq s.evr.bank1) + 1
  if 2 ^ 64 ≤ seq then wr s R.NVS_STAT_SEQ_END 1
  else
    let cur := if rd s R.NVS_STAT_CURRENT = 0 then s.evr.bank0 else s.evr.bank1
    let d := match cur with
      | some b => if s.boot.cold then { b with boot := bootPage s, staging := stagingPage s } else bankOf s 3 seq
      | none => bankOf s 3 seq
    let d := { d with seq := seq, cause := 3, rtc := s.rtc, merid := s.now }
    raiseIrq (commitBank s (targetBank s) d) 24 0 Irq.NVS_FLUSH_DONE

/-- A trial slot that is not taken: the trial is cleared (R467). -/
def dropTrial (s : State) (st : Status) : State :=
  let s := wr (wr s R.BOOT_SLOTS_TRIAL 3) R.BOOT_SLOTS_TRIAL_BOOTS 0
  startIrq (incSat (startStatus { s with boot := { s.boot with trialUp := 0 } } st) R.BOOT_FALLBACK_CNT) Irq.BOOT_FALLBACK

/-- Order 1 of R467: whether the trial slot was taken. -/
def tryTrial (s : State) (e : StartEnv) : State × Bool :=
  let slot := rd s R.BOOT_SLOTS_TRIAL
  if 2 ≤ slot then (s, false)
  else if rd s R.BOOT_SLOTS_TRIAL_BOOTS < 3 && s.boot.trialUp < 1800 then
    match verifies s e slot with
    | none =>
      let s := wr (wr (incSat s R.BOOT_SLOTS_TRIAL_BOOTS) R.BOOT_STAT_TRIAL 1) R.BOOT_TRIAL_LEFT (1800 - s.boot.trialUp)
      (commitStart (runSlot s slot), true)
    | some st => (dropTrial s st, false)
  else (dropTrial s .fwuHealthMissed, false)

/-- Orders 4 and 5 of R467. -/
def tryRecovery (s : State) (e : StartEnv) (cause : Nat) : State × Bool :=
  match verifies s e 2 with
  | none => (enterRecovery (runSlot s 2) cause, true)
  | some st => (startStatus s st, false)

/-- Orders 2 and 3 of R467: the active slot, then the other confirmed one, which becomes the active slot. -/
def tryActive (s : State) (e : StartEnv) : State × Bool :=
  let a := rd s R.BOOT_SLOTS_ACTIVE
  let first := if 2 ≤ a then some none else (verifies s e a).map some
  match first with
  | none => (runSlot s a, true)
  | some st =>
    let s := match st with | some st => startStatus s st | none => s
    if rd s R.BOOT_SLOTS_OTHER_CONFIRMED = 1 && a < 2 then
      match verifies s e (1 - a) with
      | none =>
        let s := wr s R.BOOT_SLOTS_ACTIVE (1 - a)
        (runSlot { s with boot := { s.boot with activeDigest := manDigest (slotMan s (1 - a)) } } (1 - a), true)
      | some st => (startStatus s st, false)
    else (s, false)

/-- The choice of an image (R467); a requested recovery goes to the recovery slot at once (R463). -/
def chooseImage (s : State) (e : StartEnv) : State × Bool :=
  if s.boot.toRecovery then tryRecovery s e 3
  else
    match tryTrial s e with
    | (s, true) => (s, true)
    | (s, false) =>
      match tryActive s e with
      | (s, true) => (s, true)
      | (s, false) => tryRecovery s e 1

/-! ### Orders 2 to 4 of R462, at a cold and at a warm start -/

/-- Both banks are checked (R454, R455). -/
def checkBanks (s : State) (e : StartEnv) : State :=
  let b0 := if e.bad0 = 0 then s.evr.bank0 else none
  let b1 := if e.bad1 = 0 then s.evr.bank1 else none
  let s := { s with evr := { s.evr with bank0 := b0, bank1 := b1 } }
  addSat (wr (wr s R.NVS_STAT_VALID0 (b2n b0.isSome)) R.NVS_STAT_VALID1 (b2n b1.isSome)) R.NVS_CRC_FAIL_CNT (e.bad0 + e.bad1)

/-- The valid bank with the higher sequence number (R455). -/
def selectedBank (s : State) : Option (Nat × BankData) :=
  match s.evr.bank0, s.evr.bank1 with
  | some a, some b => if a.seq < b.seq then some (1, b) else some (0, a)
  | some a, none => some (0, a)
  | none, some b => some (1, b)
  | none, none => none

/-- The boot page and the staging page come into force (R471, R479). -/
def loadBoot (s : State) (b : BootPage) : State :=
  let s := wr (wr s R.BOOT_SLOTS_ACTIVE b.active) R.BOOT_SLOTS_TRIAL b.trial
  let s := wr (wr s R.BOOT_SLOTS_TRIAL_BOOTS b.trialBoots) R.BOOT_SLOTS_OTHER_CONFIRMED (b2n b.otherOk)
  let s := wr (wr (wr s R.BOOT_COLD_CNT b.cold) R.BOOT_WARM_CNT b.warm) R.BOOT_FALLBACK_CNT b.fallbacks
  { s with boot := { s.boot with trialUp := b.trialUp, activeDigest := b.activeDigest } }
/-- Chunks that a staging bitmap shows. -/
def bitsSet (bits : List Nat) : Nat := ((List.range 511).filter (fun i => bitsOf (bits.getD (i / 32) 0) (i % 32) 1 = 1)).length
def setBitmap (s : State) (bits : List Nat) : State :=
  wr ((List.range 16).foldl (fun s j => wr s (R.FWU_BITMAP j) (bits.getD j 0)) s) R.FWU_STAT_STAGED (bitsSet bits)
def loadStaging (s : State) (g : Staging) : State :=
  let s := wr (wr (wr s R.FWU_STAT_STATE g.st) R.FWU_STAT_TARGET g.target) R.FWU_STAT_CHAIN_SOURCE (b2n g.fromChain)
  setBitmap { s with boot := { s.boot with digest := g.digest, chunks := g.chunks, beginTime := g.beginTime } } g.bitmap

/-- Order 2: the selected bank's pages, or what R481 says when there is none. -/
def loadPages (s : State) (e : StartEnv) : State :=
  let s := checkBanks s e
  match selectedBank s with
  | some (k, b) =>
    let s := wr (wr (wr s R.NVS_STAT_CURRENT k) R.NVS_SEQ b.seq) R.NVS_STAT_LAST_CAUSE b.cause
    loadStaging (loadBoot { s with boot := { s.boot with lost := false } } b.boot) b.staging
  | none =>
    let a := if (verifies s e 0).isNone then 0 else if (verifies s e 1).isNone then 1 else 3
    let d := if a < 2 then manDigest (slotMan s a) else []
    loadStaging (loadBoot { s with boot := { s.boot with lost := true } } { active := a, activeDigest := d }) {}

/-- PERST_N that was released before order 4 ended counts from there (R460). -/
def effectiveRelease (s : State) : State :=
  if !s.host.inReset && s.host.perst.isNone then { s with host := { s.host with perst := some s.now } } else s

/-- Orders 2 to 4: an image is chosen and its cores are about to be released; with none, the island alone runs (R467). -/
def startIsland (s : State) (e : StartEnv) : State :=
  let s := loadPages s e
  let s := incSat s (if s.boot.cold then R.BOOT_COLD_CNT else R.BOOT_WARM_CNT)
  let s := wr (wr s R.BOOT_RESET_CAUSE_KIND (b2n (!s.boot.cold))) R.BOOT_RESET_CAUSE_CAUSE s.boot.cause
  match chooseImage s e with
  | (s, true) => effectiveRelease (wr (wr s R.SEC_STAT_READY 1) R.BOOT_STAT_STAGE 4)
  | (s, false) => wr { s with host := { s.host with perst := none } } R.BOOT_STAT_STAGE 2

/-- POWER_GOOD (R499, R462): `clock` says that the supercapacitor has carried the calendar count (R439). -/
def execPowerGood (e : StartEnv) (clock : Bool) (s : State) : Host.Outcome State Fault Refusal :=
  .next (
    if s.pwr.good || !s.pwr.fed then s
    else
      let s := if clock then s else wr { s with rtc := 0 } R.EVR_STAT_TIME_Q 0
      startIsland { s with pwr := { s.pwr with good := true }, boot := { s.boot with cold := true } } e)

/-- STRAP_SAMPLE (R318, R319, R501): once between cold resets. -/
def execStrapSample (id role : Nat) (s : State) : Host.Outcome State Fault Refusal :=
  .next (
    if !s.pwr.good || s.boot.straps.isSome then s
    else
      let s := { s with boot := { s.boot with straps := some (id % 512, role % 4) } }
      wr (wr (wr s R.HIVE_ID_ID id) R.HIVE_ID_ID_CFG id) R.HIVE_ROLE_ROLE_CFG role)

/-! ### Order 5: restoring, and the settings (R57, R92, R455, R480, R481) -/

/-- What firmware loads from the selected bank at a cold start. -/
def restoreBank (s : State) (b : BankData) : State :=
  let latest : Tbl Nat := b.records.foldl (fun t r => tset 0 r.source (max (tget 0 t r.source) (r.serial + 1)) t) []
  let next := (b.records.map (fun r => r.serial + 1)).foldl max 0
  let s := { s with evr := { s.evr with store := b.records, serial := next, latest := latest, metrics := b.metrics },
                    comb := { s.comb with margin := b.margin }, boot := { s.boot with settings := b.settings } }
  let s := restoreRegs b.regs (wr s R.EVR_STAT_RECORDS b.records.length)
  match b.group with
  | some (id, key) =>
    let s := (List.range 4).foldl (fun s j => wr s (R.SEC_GROUPID j) (id.getD j 0)) s
    wr { s with sec := { s.sec with group := some key } } R.SEC_STAT_GROUP_KEY 1
  | none => s

/-- Neither bank is valid: the loss is recorded, and that of the margin table; the remap table comes from the factory area, whose
copy may fail its own CRC (R57, R455, R481). -/
def restoreLost (s : State) (remapOk : Bool) : State :=
  let s := wr s R.NVS_STAT_LOST 1
  let s := raiseIrq (recordEvent s 24 0 (0x8000 + Irq.NVS_STORE_LOST) 3 0 []) 24 0 Irq.NVS_STORE_LOST
  if !s.boot.cold then s
  else
    let s := firmwareRecord s 2 []
    if remapOk then restoreOf mapFields s.boot.remapCopy s else firmwareRecord s 4 []

/-- A register write that a settings entry stands for; whether it was accepted. -/
def replayWrite (s : State) (ty i off v : Nat) : State × Bool :=
  let t := blockWrite s .firmware ty i off v {}
  (t, rd t (hErrSeq ty) i = rd s (hErrSeq ty) i)

/-- Selectors of a setting's register, with the values that show it. -/
def selectorsOf (x : Setting) : List (Nat × Nat) :=
  match (fieldsAt x.ty x.inst x.off).find? (fun f => f.bank ≠ 0) with
  | none => []
  | some f =>
    if f = R.SERV_BUCKET_BOUND then [(R.SERV_SLOT_SEL.off, x.sel / 16), (R.SERV_BUCKET_SEL.off, x.sel % 16)] else [(f.bank, x.sel)]

/-- Entries of a group in order; a refused one is recorded, and the rest of the group is skipped. -/
def replayEntries (ty i : Nat) : List (Nat × Nat) → State → State
  | [], s => s
  | (off, v) :: r, s =>
    match replayWrite s ty i off v with
    | (t, true) => replayEntries ty i r t
    | (t, false) => recordEvent (useFree t) 63 (freeVal t 0 % 4) (rd t (hErrStatus ty) i) 2 0 [ty, i, off]

/-- Every selector register goes back to its reset value. -/
def resetSelectors (s : State) : State :=
  (List.range 27).foldl (fun s ty =>
    let offs := (if ty = 10 then [R.SERV_BUCKET_SEL.off] else []) ++ ((pageFields ty).map (fun f => f.bank)).eraseDups
    offs.foldl (fun s b =>
      match (pageFields ty).find? (fun g => b ≠ 0 && g.off = b && g.lo = 0) with
      | some g => (List.range (pageCount ty)).foldl (fun s i => wr s g (fldReset g i 0) i) s
      | none => s) s) s

/-- The settings are replayed in list order as ordinary writes. They are in the list already, so the list stays. -/
def replaySettings (s : State) : State :=
  let l := s.boot.settings
  let s := resetSelectors (l.foldl (fun s x => replayEntries x.ty x.inst (selectorsOf x ++ [(x.off, x.val)]) s) s)
  { s with boot := { s.boot with settings := l } }

/-- Power states of the domains as firmware sets them at a start; a controller's channels wait in self-refresh (R391, R458). -/
def powerDomains (s : State) : State :=
  (List.range 401).foldl (fun s d =>
    if 340 ≤ d && d < 372 then s else setDom s d (if alwaysOff s d then 2 else 0)) s

/-- Displacement and tier of every die, as its map gives them (R84). -/
def showHops (s : State) : State :=
  (List.range 4).foldl (fun s d =>
    let x := dieDisplacement s d
    wr (wr (showQuads s d) R.DIE_HOP_DISPLACEMENT x d) R.DIE_HOP_TIER (hopTier x) d) s

/-- CORES_RELEASED (R462 order 5): `remapOk` says that the factory area's copy of the remap table passes its CRC (R481). A cold
start goes on to training, a warm one to the self-test; in recovery mode comb and memory stay idle (R463). -/
def execCoresReleased (remapOk : Bool) (s : State) : Host.Outcome State Fault Refusal :=
  .next (
    if rd s R.BOOT_STAT_STAGE ≠ 4 || s.pwr.dusk.isSome then s
    else
      let s := match selectedBank s with
        | some (_, b) => if s.boot.cold then restoreBank s b else s
        | none => restoreLost s remapOk
      let s := showHops (powerDomains s)
      let s := if s.boot.cold && !isFlushing s && !isFrozen s then applyHeld s else s
      let fatal := s.boot.fatal
      let s := if s.pwr.overvolt then firmwareRecord { s with pwr := { s.pwr with overvolt := false } } 4 [] else s
      let s := replaySettings { s with boot := { s.boot with fatal := fatal } }
      let s := if s.boot.cold then s else wr s R.BOOT_VARIANT_USABLE_GIB (usableGib s)
      fatalAction (wr s R.BOOT_STAT_STAGE
        (if rd s R.BOOT_STAT_RECOVERY = 1 then 5 else if s.boot.cold then 6 else 8)))

/-! ### Orders 7 to 9 -/

/-- ECC_INIT_DONE (R462 order 7): every data unit is written as zero plaintext. -/
def execEccInitDone (s : State) : Host.Outcome State Fault Refusal :=
  .next (
    if rd s R.BOOT_STAT_STAGE = 7 then
      wr { s with mem := { s.mem with cells := [], poison := [], awaiting := [] } } R.BOOT_STAT_STAGE 8
    else s)

/-- The result of a unit's start-up self-test (R88, R176): its first failing unit, 0 for a pass. -/
def postTest (s : State) (isPipe : Bool) (n failUnit : Nat) : State :=
  let ok := b2n (decide (failUnit = 0))
  if isPipe then
    raiseIrq (wr (wr (wr s R.APIPE_TEST_RES_DONE 1 n) R.APIPE_TEST_RES_PASS ok n) R.APIPE_TEST_RES_FAIL_UNIT failUnit n) 1 n
      Irq.APIPE_TEST_DONE
  else
    raiseIrq (wr (wr (wr s R.CELL_TEST_RES_DONE 1 n) R.CELL_TEST_RES_PASS ok n) R.CELL_TEST_RES_FAIL_UNIT failUnit n) 0 n
      Irq.CELL_TEST_DONE

/-- A unit that failed its start-up self-test (R87, R90, R91): a FREE spare is retired at once; any other is retired, and the
spare that passed takes its number. -/
def startFailure (s : State) (isPipe : Bool) (bad : List (Nat × Nat)) (x : Nat × Nat) : State :=
  let s := if !isPipe && x.2 = 7 then
      showQuads { s with comb := { s.comb with routerBad := (x.1 / 68 :: s.comb.routerBad).eraseDups } } (x.1 / 68) else s
  if rd s (mapState isPipe) x.1 = 3 then s
  else if rd s (mapState isPipe) x.1 = 1 then askRetire s isPipe x.1 .selfTest
  else carryOut (retireRecord s isPipe x.1 0 2) isPipe x.1 (!(bad.any (fun y => y.1 = spareOf isPipe x.1)))

/-- Every unit that is not RETIRED is tested (R462 order 8). -/
def startTests (s : State) (isPipe : Bool) (bad : List (Nat × Nat)) : State :=
  let units := (List.range (if isPipe then 68 else 272)).filter (fun n => rd s (mapState isPipe) n ≠ 3)
  let fail := fun n => ((bad.find? (fun x => x.1 = n)).map Prod.snd).getD 0
  let s := units.foldl (fun s n => postTest s isPipe n (fail n)) s
  (units.filter (fun n => fail n ≠ 0)).foldl (fun s n => startFailure s isPipe bad (n, fail n)) s

/-- STARTUP_SELF_TEST_DONE (R462 order 8): physical cells and pipes that failed, with their first failing unit. -/
def execStartupSelfTestDone (cells pipes : List (Nat × Nat)) (s : State) : Host.Outcome State Fault Refusal :=
  .next (
    if rd s R.BOOT_STAT_STAGE ≠ 8 then s
    else
      let s := startTests (startTests s false cells) true pipes
      let s := (List.range 4).foldl recomputeClass s
      wr s R.BOOT_STAT_STAGE 9)

/-- The first READY of a start (R257, R319, R324): a module of role 0 forms a hive of one, a queen performs her first restart, any
other waits, its count running free (R328). -/
def firstReady (s : State) (t : Nat) : State :=
  let s := wr (wr s R.BOOT_STAT_READY 1) R.BOOT_READY_MS (nearest s 0 (s.now - t) 1000000)
  let s := irqEvent (useFree s) 26 0 Irq.BOOT_READY 0 []
  if hiveOfOne s then formAlone s
  else
    let s := setQuality s 2
    if rd s R.HIVE_ROLE_ROLE_CFG = 3 && s.boot.cold then beginRestart s else s

/-- STARTUP_READY (R257, R462 order 9). -/
def execStartupReady (s : State) : Host.Outcome State Fault Refusal :=
  .next (match s.host.perst with
  | none => s
  | some t =>
    if rd s R.BOOT_STAT_STAGE ≠ 9 || rd s R.BOOT_STAT_RECOVERY = 1 || s.boot.warm.isSome || s.pwr.dusk.isSome then s
    else
      let s := wr { s with host := { s.host with perst := none } } R.HOST_STAT_READY 1
      if rd s R.BOOT_STAT_READY = 1 then s else firstReady s t)

/-! ### PERST_N and the readiness sequence (R257, R259, R460) -/

/-- A trial image that is not confirmed, or not ready in time, falls back (R478). -/
def fallBack (s : State) : State :=
  let s := statusEvent { s with boot := { s.boot with trialUp := 1800 } } 26 0 .fwuHealthMissed 0 []
  beginWarm (wr s R.BOOT_TRIAL_LEFT 0) 7 false

/-- PERST_N_RELEASE (R257, R460). -/
def execPerstNRelease (s : State) : Host.Outcome State Fault Refusal :=
  .next (
    let s := { s with host := { s.host with inReset := false } }
    if 4 ≤ rd s R.BOOT_STAT_STAGE && s.pwr.dusk.isNone then { s with host := { s.host with perst := some s.now } } else s)

/-- PERST_N_ASSERT (R259, R456, R512): a host-port reset, and what PERST_SCOPE asks for; during dusk the pin changes nothing. -/
def execPerstNAssert (cut : List (Nat × List Byte)) (s : State) : Host.Outcome State Fault Refusal :=
  .next (
    if s.pwr.dusk.isSome || s.host.inReset then { s with host := { s.host with inReset := true } }
    else
      let s := hostPortReset s cut
      let s := { s with host := { s.host with inReset := true, perst := none } }
      match rd s R.BOOT_CFG_PERST_SCOPE with
      | 1 => beginWarm s 3 false
      | 2 => if s.pwr.good then coldReset s 3 else s
      | _ => s)

/-- READINESS_TIMEOUT (R257, R463, R478): 4.0 s without READY; a trial image falls back, any other start ends in recovery mode. -/
def execReadinessTimeout (s : State) : Host.Outcome State Fault Refusal :=
  .next (match s.host.perst with
  | none => s
  | some t =>
    if rd s R.HOST_STAT_READY = 1 || rd s R.BOOT_STAT_RECOVERY = 1 || s.boot.warm.isSome || s.pwr.dusk.isSome then s
    else
      let s := reachTime s (t + 4000000000)
      if rd s R.BOOT_STAT_TRIAL = 1 && rd s R.BOOT_STAT_READY = 0 then fallBack s
      else
        let s := wr (wr (wr s R.BOOT_STAT_RECOVERY 1) R.BOOT_STAT_RECOVERY_CAUSE 2) R.HOST_STAT_RECOVERY 1
        irqEvent s 26 0 Irq.BOOT_RECOVERY 0 [])

/-! ### Cold and warm resets (R456 to R458) -/

/-- A cold reset that is asked for; dusk prevails over it. -/
def askCold (s : State) (cause : Nat) : State := if s.pwr.dusk.isSome || !s.pwr.good then s else coldReset s cause

/-- Actions of a word written to BOOT_CTL: COLD prevails, and RECOVERY over WARM. -/
def bootActions (s : State) (v : Nat) : State :=
  if bitsOf v 1 1 = 1 then askCold s 2
  else if bitsOf v 2 1 = 1 then beginWarm s 9 true
  else if bitsOf v 0 1 = 1 then beginWarm s 5 false
  else s

/-- COLD (R456). -/
def execCold (w : Writer) (s : State) : Host.Outcome State Fault Refusal :=
  .next (regWrite s w 26 0 0x108 true (fun s => bootActions s 2))
/-- WARM (R456, R458). -/
def execWarm (w : Writer) (s : State) : Host.Outcome State Fault Refusal :=
  .next (regWrite s w 26 0 0x108 true (fun s => bootActions s 1))
/-- RECOVERY_REQUEST (R456, R463). -/
def execRecoveryRequest (w : Writer) (s : State) : Host.Outcome State Fault Refusal :=
  .next (regWrite s w 26 0 0x108 true (fun s => bootActions s 4))
/-- WATCHDOG_EXPIRY (R456). -/
def execWatchdogExpiry (s : State) : Host.Outcome State Fault Refusal := .next (beginWarm s 6 false)

/-- A launch runs in some partition. -/
def launchRuns (s : State) : Bool := s.comb.parts.any (fun e => e.2.running.isSome)

/-- WARM_WAIT_EXPIRY (R458 order 2). -/
def execWarmWaitExpiry (s : State) : Host.Outcome State Fault Refusal :=
  .next (match s.boot.warm with
  | some t =>
    if launchRuns s && s.pwr.dusk.isNone then coldReset (reachTime s (t + 1000000 * rd s R.BOOT_CFG_WARM_WAIT)) 8 else s
  | none => s)

/-- Block types whose pages lie in the domains that a warm reset keeps: MEMC, MPHY, SEC, EVR and NVS (R458). -/
def keptTypes : List Nat := [3, 4, 17, 23, 24]

/-- Fields of other pages that R457 keeps, beside the RWS fields: remap, margin tables and plan class; functions, which a host-port
reset keeps; sealing state; the variant and REQUIRE_COSIGN; the pairing page; what the clock loops show, which run on; and faulty pace
sensors and counts that only a cold reset takes back (R40, R170, R331). -/
def warmFields : List Fld :=
  [R.CELL_MAP_STATE, R.CELL_MAP_LOGICAL, R.APIPE_MAP_STATE, R.APIPE_MAP_LOGICAL, R.PACE_MARGIN_RAISE, R.PACE_MARGIN_ERRORS,
   R.PACE_MARGIN_RETIRE_REQ, R.DIE_PLAN_CLASS_CLASS, R.DIE_PLAN_CLASS_CHANGES, R.HOST_FN_CFG_BOUND, R.HOST_FN_CFG_TENANT,
   R.HOST_FN_MSIX, R.HOST_FN_WIN, R.HOST_MSIX_FREE, R.HOST_TEN_SEAL_KEY, R.HOST_TEN_SEAL_EXHAUSTED, R.BOOT_VARIANT_VARIANT,
   R.BOOT_CFG_REQUIRE_COSIGN, R.TWIN_STAT_STATE, R.HIVE_ROLE_ROLE_CFG, R.CLK_STAT_TCXO_STABLE, R.CLK_STAT_TCXO_FAULT,
   R.CLK_STAT_FALLBACK_NOT_READY, R.CLK_LOOP_STAT_STATE, R.CLK_LOOP_STAT_SOURCE, R.CLK_LOOP_STAT_DIVIDER,
   R.CLK_LOOP_STAT_SRC_LOST, R.CLK_LOOP_STAT_GATED, R.CLK_LOOP_STAT_GATE_STUCK, R.PACE_SENSOR_RD_FAULT,
   R.PACE_STAT_SENSOR_FAULT, R.APIPE_EMPTY, R.WAG_REKEY_CNT, R.MERID_STEP]

/-- Whether a reset of its block keeps the field at a place of the register file: RWS fields and LOCKED, and those of `also`. -/
def keptPlace (also : List Fld) (ty bit : Nat) : Bool :=
  bit = 8 * 0x02C || (pageFields ty).any (fun f => 8 * f.off + f.lo = bit && (f.acc = .rws || also.contains f))
/-- Whether a warm reset keeps the field at a key of the register file. -/
def keepWarm (key : Nat) : Bool :=
  let ty := key / 2 ^ 15 % 32
  keptTypes.contains ty || keptPlace warmFields ty (key % 2 ^ 15)

/-- Every frame of the pool that is not free is scrubbed (R197, R457). -/
def scrubPool (s : State) : State :=
  s.kv.frames.foldl (fun s e => if e.2.isSome then memZero s (frameAddr s e.1) 16384 else s) s

/-- Order 6 of R458: every domain but 340 to 371, 399 and 401 is reset (R457). -/
def warmState (s : State) : State :=
  let s := scrubPool s
  let retire := s.comb.retire.map (fun r => { r with order := 0 })
  let comb : Comb := { margin := s.comb.margin, retire := retire, ueTimes := s.comb.ueTimes, resTimes := s.comb.resTimes,
                       routerBad := s.comb.routerBad }
  let pwr : Pwr := { dom := s.pwr.dom, fed := s.pwr.fed, good := s.pwr.good, overvolt := s.pwr.overvolt, therm := s.pwr.therm,
                     junction := s.pwr.junction }
  let host : HostPort := { streams := s.host.streams, perst := s.host.perst, inReset := s.host.inReset, refclk := s.host.refclk }
  let boot : Boot := { cold := false, cause := s.boot.cause, toRecovery := s.boot.toRecovery, nor := s.boot.nor,
                       remapCopy := s.boot.remapCopy, settings := s.boot.settings, straps := s.boot.straps }
  let t : State :=
    { regs := s.regs.filter (fun e => keepWarm e.1), now := s.now, rtc := s.rtc, free := s.free, out := s.out,
      pending := s.pending, comb := comb, pwr := pwr, host := host, boot := boot, clk := s.clk, sec := s.sec,
      mem := { s.mem with rereads := [] }, evr := { s.evr with copying := false }, hive := { timed := s.hive.timed } }
  let t := match s.boot.straps with
    | some (id, _) => wr (wr t R.HIVE_ID_ID id) R.HIVE_ID_ID_CFG id
    | none => t
  let t := (List.range 32).foldl (fun t m => setDom (wr t R.MEMC_STAT_HELD 0 m) (340 + m) 2) (powerDomains t)
  showHops (setQuality (wr t R.HOST_STAT_REFCLK_LOST (b2n (!s.host.refclk))) 2)

/-- Order 5 of R458: a flush that runs ends, and one of cause 3 follows; each takes `us` microseconds. -/
def flushNow (s : State) (us : Nat) : State :=
  commitFlush (commitFlush (triggerFlush (commitFlush s us) 3) us) us

/-- WARM_RESET_PROCEED (R458 orders 3 to 6, then orders 2 to 4 of R462): the flush's duration, what running transfers had moved, and
what the island finds. -/
def execWarmResetProceed (e : StartEnv) (us : Nat) (cut : List (Nat × List Byte)) (s : State) :
    Host.Outcome State Fault Refusal :=
  .next (
    if s.boot.warm.isNone || launchRuns s || s.pwr.dusk.isSome then s
    else
      let held := s.host.inReset
      let s := hostPortReset (endAllRequests s .hostReset) cut
      let s := sendLeaving s
      let s := reachTime s (s.now + 100000)
      let s := if portUp s 6 then twinLinkDown s else s
      let s := { s with host := { s.host with perst := if held then none else some s.now } }
      startIsland (warmState (flushNow s us)) e)

/-! ### Partial resets (R459) -/

/-- Ranges in use have units on a controller, so that accesses may be queued there. -/
def memcInUse (s : State) (m : Nat) : Bool :=
  s.mem.rereads.any (fun r => memcOf s r.addr = m) ||
  (usedRanges s).any (fun r => match setOf s r.1 with | some p => p.1 ≤ m && m < p.1 + p.2 | none => false)

/-- Whether a partial reset of a domain is refused, and its code. -/
def presetRefusal (s : State) (d : Nat) : Option Status :=
  if d < 340 then
    match unitPart s (decide (272 ≤ d)) (if d < 272 then d else d - 272) with
    | some p => if partRunning s p then some .partitionBusy else none
    | none => none
  else if d < 372 then
    let m := d - 340
    if rd s R.MEMC_PART_PARTITION m ≠ 0x7F || rd s R.MEMC_STAT_HELD m = 1 || memcInUse s m then some .partitionBusy else none
  else if (376 ≤ d && d < 393) then none
  else some .fieldReserved

/-- The running job of a codec engine, or of the pre-processor, that a partial reset waits for. -/
def presetWaits (s : State) (d : Nat) : Bool :=
  if 384 ≤ d && d < 392 then engineBusy s (d - 384) else d = 392 && s.vid.preRun.isSome

/-- A partial reset begins: a Waggle port goes DOWN with cause DISABLED. -/
def beginPreset (s : State) (d : Nat) : State :=
  let s := wr { s with boot := { s.boot with preset := some d } } R.BOOT_PRESET_STAT_BUSY 1
  let s := if presetWaits s d then s else setDom s d 3
  if 376 ≤ d && d < 384 then
    let p := d - 376
    if portUp s p then portDown s p 7
    else if portState s p = 0 then s
    else wr (wr (setPort s p {}) R.WAG_STAT_STATE 4 p) R.WAG_STAT_DOWN_CAUSE 7 p
  else s

/-- GO of a word written to BOOT_PRESET. -/
def presetGo (s : State) : State :=
  let d := rd s R.BOOT_PRESET_DOMAIN
  if rd s R.BOOT_PRESET_STAT_BUSY = 1 then refuseWrite s 26 0 0x12C .dmaBusy
  else
    match presetRefusal s d with
    | some st => refuseWrite s 26 0 0x12C st
    | none => if s.pwr.dusk.isSome || s.boot.warm.isSome then s else beginPreset s d

/-- A word written to BOOT_PRESET: DOMAIN, then GO unless DOMAIN was refused or LOCK keeps the page. -/
def presetWrite (s : State) (w : Writer) (v : Nat) : State :=
  let t := wordWrite s w 26 0 0x12C v
  if bitsOf v 31 1 = 1 && actionTaken s w 26 0 && v % 512 ≤ 401 then presetGo t else t

/-- PARTIAL_RESET (R459): a write of BOOT_PRESET with GO = 1. -/
def execPartialReset (w : Writer) (d : Nat) (s : State) : Host.Outcome State Fault Refusal :=
  .next (presetWrite s w (2 ^ 31 + d % 512))

/-- Fields of a page take their reset values, but for those that a reset of its block keeps (R457, R459). Registers from 0x140 on
the memory and codec pages belong to no single instance. -/
def resetPage (also : List Fld) (s : State) (ty i : Nat) : State :=
  let regs := s.regs.filter (fun e =>
    let bit := e.1 % 2 ^ 15
    e.1 / 2 ^ 15 % 32 ≠ ty || e.1 / 2 ^ 20 % 2 ^ 16 ≠ i || keptPlace also ty bit || ((ty = 3 || ty = 21) && 8 * 0x140 ≤ bit))
  { s with regs := regs }

/-- What a partial reset does to its unit (R459). -/
def presetEffect (s : State) (d : Nat) : State :=
  if d < 340 then
    let isPipe := decide (272 ≤ d)
    let n := if isPipe then d - 272 else d
    let s := match unitPart s isPipe n with | some p => clearResident s p | none => s
    let s := match logicalOf s isPipe n with
      | some l => if isPipe then setPipe s l {} else setCell s l {}
      | none => s
    resetPage warmFields s (unitPage isPipe) n
  else if d < 372 then
    resetPage [R.MEMC_STAT_TRAINED, R.MEMC_PART_DISABLED, R.MEMC_PART_PARTITION] s 3 (d - 340)
  else if 384 ≤ d && d < 392 then resetPage [] s 21 (d - 384)
  else if d = 392 then resetPage [] s 22 0
  else s

/-- PARTIAL_RESET_DONE (R459). -/
def execPartialResetDone (s : State) : Host.Outcome State Fault Refusal :=
  .next (match s.boot.preset with
  | none => s
  | some d =>
    if presetWaits s d then s
    else
      let s := presetEffect { s with boot := { s.boot with preset := none } } d
      let s := setDom s d (if alwaysOff s d || (340 ≤ d && d < 372) then 2 else 0)
      let s := wr (wr s R.BOOT_PRESET_STAT_STATUS (statusValue .ok)) R.BOOT_PRESET_STAT_BUSY 0
      let s := irqEvent s 26 0 Irq.BOOT_PRESET_DONE 0 [d]
      if 376 ≤ d && d < 384 && rd s R.WAG_CTL_ENABLE (d - 376) = 1 then startTraining s (d - 376) else s)

end Sys2Proof.Machine
end

