-- ==== Sys2Proof/Machine/Firmware.lean ====
section
/-!
DEFINITION. Staging of firmware images, their trial and confirmation, and the firmware chain (R468 to R478).
-/

namespace Sys2Proof.Machine

/-- An action of FWU_CTL by its bit. -/
def fwuAction (s : State) (w : Writer) (k : State → State) : State := regWrite s w 25 0 0x100 true k

/-- The outcome of a BEGIN (INDEX 0x1FF) or of a chunk (R468). -/
def postResult (s : State) (index : Nat) (st : Status) : State :=
  let s := wr (wr (wr s R.FWU_RESULT_VALID 1) R.FWU_RESULT_INDEX index) R.FWU_RESULT_STATUS (statusValue st)
  if st = .ok then irqEvent s 25 0 Irq.FWU_CHUNK_DONE 0 [index]
  else
    let s := if st = .fwuChunkDigest then incSat s R.FWU_DIGEST_FAIL_CNT else s
    raiseIrq (statusEvent s 25 0 st 0 [index]) 25 0 Irq.FWU_CHUNK_ERROR

/-- The read of a manifest or a chunk of `n` bytes at an address (R468): from tenant 0's device memory, or from the host, whose
answer is `data`. -/
def fwuRead (s : State) (a n : Nat) (data : Option (List Byte)) : Except Status (List Byte) :=
  if rd s R.FWU_CHUNK_SEL_DEVICE = 1 then
    match accessFail s 0 a n with
    | some st => .error st
    | none => if rangePoison s a n then .error .memPoison else .ok (memBytes s a n)
  else
    match data with
    | some bs => .ok (bs.take n)
    | none => .error .dmaHostError

/-- The running slot's image is on trial. -/
def onTrial (s : State) : Bool := rd s R.BOOT_STAT_TRIAL = 1

/-- Orders 3 to 5 of R469. -/
def beginCheck (s : State) (m : List Byte) : Option Status :=
  let st := rd s R.FWU_STAT_STATE
  if !manForm m then some .fieldReserved
  else if !manBinds s m then some .fwuBinding
  else if onTrial s || !(st = 0 || ((st = 1 || st = 2) && manDigest m = s.boot.digest)) then some .slotState
  else none

/-- The slot into which a new image goes (R469). -/
def stagingTarget (s : State) (e : StartEnv) : Nat :=
  if rd s R.BOOT_STAT_RECOVERY = 1 || rd s R.BOOT_STAT_RUNNING = 2 then
    if (verifies s e 0).isSome then 0
    else if (verifies s e 1).isSome then 1
    else if rd s R.BOOT_SLOTS_ACTIVE = 0 then 1 else 0
  else 1 - rd s R.BOOT_STAT_RUNNING

/-- An accepted BEGIN (R469): the same manifest resumes, any other starts anew. -/
def beginStaging (s : State) (e : StartEnv) (m : List Byte) (chain : Bool) : State :=
  if rd s R.FWU_STAT_STATE ≠ 0 then s
  else
    let t := stagingTarget s e
    let a := rd s R.BOOT_SLOTS_ACTIVE
    let s := if t ≠ a then wr s R.BOOT_SLOTS_OTHER_CONFIRMED 0 else s
    let s := norProgram s t 0 m
    let s := { s with boot := { s.boot with digest := manDigest m, chunks := manChunks m, beginTime := s.rtc, children := [], complete := [] } }
    let s := wr (wr (wr s R.FWU_STAT_STATE 1) R.FWU_STAT_TARGET t) R.FWU_STAT_CHAIN_SOURCE (b2n chain)
    wr (setBitmap s []) R.FWU_CHAIN_DONE 0

/-- The action BEGIN (R469). A length that the manifest's own header does not give is found once the manifest is read. -/
def doBegin (s : State) (data : Option (List Byte)) (e : StartEnv) : State :=
  let n := rd s R.FWU_MAN_LEN
  match fwuRead s (rd s R.FWU_MAN_ADDR) n data with
  | .error st => postResult s 0x1FF st
  | .ok m =>
    if m.length ≠ n || manLen m ≠ n || !manRanges m then postResult s 0x1FF .lengthRange
    else
      match beginCheck s m with
      | some st => postResult s 0x1FF st
      | none => postResult (beginStaging s e m false) 0x1FF .ok

/-- BEGIN (R468, R469). -/
def execFwuBegin (w : Writer) (data : Option (List Byte)) (e : StartEnv) (s : State) : Host.Outcome State Fault Refusal :=
  .next (fwuAction s w (fun s => doBegin s data e))

/-- A chunk is staged. -/
def bitSet (s : State) (i : Nat) : Bool := bitsOf (rd s (R.FWU_BITMAP (i / 32))) (i % 32) 1 = 1
/-- The staged image's manifest. -/
def stagedMan (s : State) : List Byte := slotMan s (rd s R.FWU_STAT_TARGET)

/-- Order 4 of R470 and what follows: a chunk that is staged already is posted again, any other is programmed. -/
def takeChunk (s : State) (i : Nat) (bs : List Byte) (chain : Bool) : State :=
  if bs.length ≠ chunkLen (stagedMan s) i || !chunkGood (stagedMan s) i bs then postResult s i .fwuChunkDigest
  else if bitSet s i then postResult s i .ok
  else { s with boot := { s.boot with chunk := some (i, bs, chain) } }

/-- Orders 1 and 2 of R470. -/
def chunkCheck (s : State) (i : Nat) : Option Status :=
  if rd s R.FWU_STAT_STATE ≠ 1 then some .slotState
  else if s.boot.chunks ≤ i then some .lengthRange
  else none

/-- The action CHUNK_GO (R470). -/
def doChunk (s : State) (data : Option (List Byte)) : State :=
  if s.boot.chunk.isSome then refuseWrite s 25 0 0x100 .dmaBusy
  else
    let i := rd s R.FWU_CHUNK_SEL_INDEX
    match chunkCheck s i with
    | some st => postResult s i st
    | none =>
      match fwuRead s (rd s R.FWU_CHUNK_ADDR) (chunkLen (stagedMan s) i) data with
      | .error st => postResult s i st
      | .ok bs => takeChunk s i bs false

/-- CHUNK_GO (R468, R470). -/
def execChunkGo (w : Writer) (data : Option (List Byte)) (s : State) : Host.Outcome State Fault Refusal :=
  .next (fwuAction s w (fun s => doChunk s data))

/-- A chunk's bit sets; the last one completes the image (R470). -/
def chunkStaged (s : State) (i : Nat) : State :=
  let f := R.FWU_BITMAP (i / 32)
  let s := wr s f (rd s f + 2 ^ (i % 32))
  let s := incSat (wr s R.FWU_STAT_STAGED (rd s R.FWU_STAT_STAGED + 1)) R.FWU_CHUNK_CNT
  let s := postResult s i .ok
  if rd s R.FWU_STAT_STAGED = s.boot.chunks then
    triggerFlush (irqEvent (wr s R.FWU_STAT_STATE 2) 25 0 Irq.FWU_COMPLETE 0 []) 3
  else s

/-- CHUNK_PROGRAM_DONE (R470): a read-back that fails leaves the sector's bytes unknown and the bit clear. -/
def execChunkProgramDone (ok : Bool) (s : State) : Host.Outcome State Fault Refusal :=
  .next (match s.boot.chunk with
  | none => s
  | some (i, bs, _) =>
    let s := { s with boot := { s.boot with chunk := none } }
    let t := rd s R.FWU_STAT_TARGET
    if ok then chunkStaged (norProgram s t (i + 1) bs) i
    else postResult (useFree (norProgram s t (i + 1) (freeBytes s 0 65536))) i .fwuChunkDigest)

/-! ### Trial and confirmation (R472, R476 to R478) -/

/-- The action ACTIVATE (R472). -/
def doActivate (s : State) : State :=
  if rd s R.FWU_STAT_STATE ≠ 2 then refuseWrite s 25 0 0x100 .slotState
  else
    let s := wr (wr s R.BOOT_SLOTS_TRIAL (rd s R.FWU_STAT_TARGET)) R.BOOT_SLOTS_TRIAL_BOOTS 0
    triggerFlush (wr { s with boot := { s.boot with trialUp := 0 } } R.FWU_STAT_STATE 3) 3

/-- ACTIVATE (R472). -/
def execActivate (w : Writer) (s : State) : Host.Outcome State Fault Refusal := .next (fwuAction s w doActivate)

/-- Staging is IDLE. -/
def clearStaging (s : State) : State :=
  let s := { s with boot := { s.boot with digest := [], chunks := 0, chunk := none, children := [], complete := [] } }
  setBitmap (wr (wr s R.FWU_STAT_STATE 0) R.FWU_STAT_CHAIN_SOURCE 0) []

/-- The action ABORT (R472): the target's sector 0 is erased, and a trial that has not been booted is cleared. -/
def doAbort (s : State) : State :=
  if rd s R.FWU_STAT_STATE = 0 then s
  else
    let s := if rd s R.FWU_STAT_STATE = 3 && rd s R.BOOT_SLOTS_TRIAL_BOOTS = 0 then wr s R.BOOT_SLOTS_TRIAL 3 else s
    clearStaging (norProgram s (rd s R.FWU_STAT_TARGET) 0 [])

/-- ABORT (R472). -/
def execAbort (w : Writer) (s : State) : Host.Outcome State Fault Refusal := .next (fwuAction s w doAbort)

/-- The action HEALTH (R477, R478). -/
def doHealth (s : State) : State :=
  if !onTrial s || (s.boot.warm.isSome && s.boot.cause = 7) then refuseWrite s 25 0 0x100 .slotState
  else
    let run := rd s R.BOOT_STAT_RUNNING
    let s := wr (wr (wr s R.BOOT_SLOTS_ACTIVE run) R.BOOT_SLOTS_OTHER_CONFIRMED 1) R.BOOT_SLOTS_TRIAL 3
    let s := wr (wr (wr s R.BOOT_SLOTS_TRIAL_BOOTS 0) R.BOOT_STAT_TRIAL 0) R.BOOT_TRIAL_LEFT 0
    let d := (List.range 16).flatMap (fun j => leBytes 4 (rd s (R.BOOT_MAN_DIGEST j)))
    let s := { s with boot := { s.boot with trialUp := 0, activeDigest := d, healthOwed := true } }
    triggerFlush (clearStaging s) 3

/-- HEALTH (R477). -/
def execHealth (w : Writer) (s : State) : Host.Outcome State Fault Refusal := .next (fwuAction s w doHealth)

/-- TRIAL_EXPIRY (R478). -/
def execTrialExpiry (s : State) : Host.Outcome State Fault Refusal :=
  .next (if onTrial s && s.boot.warm.isNone && s.pwr.dusk.isNone then fallBack s else s)

/-- TRIAL_FLUSH_TIMER (R476): another 60 s of powered trial time. -/
def execTrialFlushTimer (s : State) : Host.Outcome State Fault Refusal :=
  .next (
    if onTrial s then
      let up := min 1800 (s.boot.trialUp + 60)
      triggerFlush (wr { s with boot := { s.boot with trialUp := up } } R.BOOT_TRIAL_LEFT (1800 - up)) 3
    else s)

/-! ### The firmware chain (R473 to R475) -/

/-- The member sends its parent a message over its upstream port (R326). -/
def sendParent (s : State) (m : Msg) : State :=
  if rd s R.WAG_REF_NONE = 1 then s else sendOn s (rd s R.WAG_REF_UPSTREAM) 2 m

/-- A chain manifest is refused here (R474). -/
def refuseChain (s : State) : State := irqEvent (sendParent s (.chainRefused (hiveId s))) 25 0 Irq.FWU_CHAIN_REFUSED 0 []

/-- CHAIN_MANIFEST (R474): a BEGIN without the orders of its reading; `e` is what the island finds in recovery mode. -/
def execChainManifest (m : List Byte) (e : StartEnv) (s : State) : Host.Outcome State Fault Refusal :=
  .next (
    if hiveState s ≠ 2 then s
    else if rd s R.FWU_CFG_CHAIN_ACCEPT = 0 then refuseChain s
    else
      match (if manRanges m && manLen m = m.length then beginCheck s m else some .fieldReserved) with
      | some st => refuseChain (postResult s 0x1FF st)
      | none => postResult (beginStaging s e m true) 0x1FF .ok)

/-- CHAIN_CHUNK (R470, R474): while a chunk is in progress the chain's is not taken, and comes again (R475). -/
def execChainChunk (i : Nat) (bs : List Byte) (s : State) : Host.Outcome State Fault Refusal :=
  .next (
    if hiveState s ≠ 2 || s.boot.chunk.isSome then s
    else
      match chunkCheck s i with
      | some st => postResult s i st
      | none => takeChunk s i bs true)

def child (s : State) (p : Nat) : Child := tget {} s.boot.children p
def setChild (s : State) (p : Nat) (c : Child) : State := { s with boot := { s.boot with children := tset {} p c s.boot.children } }

/-- The module forwards the image it stages (R473): the queen where CHAIN_SOURCE says so and the image is not bound, any other
member when the chain began its staging. -/
def forwards (s : State) : Bool :=
  hiveState s = 2 && rd s R.FWU_STAT_STATE ≠ 0 &&
  (if isQueen s then rd s R.FWU_CFG_CHAIN_SOURCE = 1 && !manBound (stagedMan s) else rd s R.FWU_STAT_CHAIN_SOURCE = 1)

/-- The lowest chunk that is staged here, that the child has not reported and that has not been sent since. -/
def nextChunk (s : State) (c : Child) : Option Nat :=
  (List.range s.boot.chunks).find? (fun i =>
    bitSet s i && bitsOf (c.bits.getD (i / 32) 0) (i % 32) 1 = 0 && !c.sent.contains i)

/-- CHAIN_FORWARD (R473): the next message on a port, as CHAIN_RATE lets it go. -/
def execChainForward (p : Nat) (s : State) : Host.Outcome State Fault Refusal :=
  .next (
    if !forwards s || !(childPorts s).contains p then s
    else
      let c := child s p
      if !c.sentMan then setChild (sendOn s p 2 (.manifest (stagedMan s))) p { c with sentMan := true }
      else
        match nextChunk s c with
        | some i =>
          let m := stagedMan s
          let bs := norBytes s (rd s R.FWU_STAT_TARGET) (65536 * (i + 1)) (chunkLen m i)
          setChild (sendOn s p 2 (.chunk i bs)) p { c with sent := c.sent ++ [i] }
        | none => s)

/-- BITMAP_REPORT_TIMER (R475): a staging member reports to its parent; as a parent it owes the manifest again to every child that
has reported none since the last time. -/
def execBitmapReportTimer (s : State) : Host.Outcome State Fault Refusal :=
  .next (
    if hiveState s ≠ 2 || rd s R.FWU_STAT_STATE = 0 then s
    else
      let bits := (List.range 16).map (fun j => rd s (R.FWU_BITMAP j))
      let s := if isQueen s then s else sendParent s (.bitmap (hiveId s) s.boot.digest bits)
      (childPorts s).foldl (fun s p =>
        let c := child s p
        setChild s p { c with sentMan := c.sentMan && c.digest = s.boot.digest, digest := [] }) s)

/-- Every chunk of the staged image shows in a reported bitmap. -/
def bitmapFull (s : State) (bits : List Nat) : Bool :=
  (List.range s.boot.chunks).all (fun i => bitsOf (bits.getD (i / 32) 0) (i % 32) 1 = 1)

/-- BITMAP_REPORT (R475): the report of member `id` comes in on port `p`. What its own child lacks is owed again. The queen counts
members whose bitmap is complete; every other parent passes the report on. -/
def execBitmapReport (p id : Nat) (digest : List Byte) (bits : List Nat) (s : State) : Host.Outcome State Fault Refusal :=
  .next (
    if hiveState s ≠ 2 then s
    else
      let mine := decide (rd s R.FWU_STAT_STATE ≠ 0) && decide (digest = s.boot.digest)
      let s :=
        if rd s R.FWU_STAT_STATE = 0 || rd s R.WAG_PEER_MODULE p ≠ id then s
        else if mine then setChild s p { digest := digest, bits := bits, sentMan := true, sent := [] }
        else setChild s p { digest := digest }
      if !isQueen s then sendParent s (.bitmap id digest bits)
      else if mine && bitmapFull s bits && !s.boot.complete.contains id then
        let l := id :: s.boot.complete
        wr { s with boot := { s.boot with complete := l } } R.FWU_CHAIN_DONE l.length
      else s)

/-- Actions of a word written to FWU_CTL, from the lowest bit up (R468). -/
def fwuActions (s : State) (v : Nat) (data : Option (List Byte)) (e : StartEnv) : State :=
  onBit v 5 doHealth (onBit v 4 doAbort (onBit v 3 doActivate
    (onBit v 2 (fun s => doChunk s data) (onBit v 1 (fun s => doBegin s data e) s))))

end Sys2Proof.Machine
end

