-- ==== Sys2Proof/Machine/Launch.lean ====
section
/-!
DEFINITION. The meanings of the commands by which a launch runs: the end of its preload, memory and route entries, the MOVE
and MARK instructions, the end of a step, and the end of the launch (R71, R129 to R137, R144 to R150).
-/

namespace Sys2Proof.Machine

/-- The image that a running launch runs. -/
def runImage (s : State) (r : Running) : List Byte := (slot s r.desc.slot).image

/-- Fills a cell's stream buffer with the first instructions of its stream (R129). -/
def fillBuffer (img : List Byte) (v : Nat) (s : State) (c : Nat) : State :=
  let l := ((streamOf img v c).take 4096).map (fun i => fieldAt i.raw 0 16)
  setCell s c { cell s c with ringIdx := tsets 0 0 ((List.range l.length).map (· + 1)) [], ring := tsets 0 0 l [] }

/-! ### Launch start (R142 to R144, R349, R400) -/

/-- The partition's launch waits before its start checks (R142, R350, R355, R357, R402, R405, R458). -/
def launchHeld (s : State) (p : Nat) : Bool :=
  (part s p).held || partUnderTest s p || (partDomains s p).any (fun d => dom s d = 3) ||
  (List.range 32).any (fun m => rd s R.MEMC_PART_PARTITION m = p && dom s (340 + m) = 3) ||
  rd s R.PWR_STAT_EMERG_ACTIVE = 1 || admissionsStopped s || (twinPart s p).stop || (twinState s = 5 && mirrored s p)

/-- Low units of the partition, and controllers of the plan, wake (R396). -/
def wakeForLaunch (s : State) (p : Nat) (img : List Byte) : State :=
  (partDomains s p ++ (imgMemcs img).map (· + 340)).foldl wakeDomain s

/-- The active copies a mirrored launch's I/O region and sends the launch to the standby, before its start checks (R348, R349). A
region that the tenant does not own is not copied. -/
def mirrorSend (s : State) (p : Nat) (q : QLaunch) : State × QLaunch :=
  let img := (slot s q.desc.slot).image
  let n := s.twin.serial + 1
  let io := if owned s q.desc.tenant q.desc.ioBase (imgIoLen img) then memBytes s q.desc.ioBase (imgIoLen img) else []
  let ctxs := match q.src with | .direct _ _ => seqListOf s q.desc | _ => q.ctxs
  let s := setTwinPart { s with twin := { s.twin with serial := n } } p { twinPart s p with serial := n, acked := false }
  (sendTwin s (.mirrorLaunch n q.desc ctxs io), { q with snap := some io, serial := n })

/-- A launch that passes the gate takes its step from the ballast first, then from the credit (R400). -/
def takeStep (s : State) (x : Nat) : State :=
  let b := min x s.pwr.ballast
  showPower { s with pwr := { s.pwr with ballast := s.pwr.ballast - b, credit := s.pwr.credit - (x - b) } }

/-- The checked launch starts (R144); a mirrored one writes its snapshot first and is then acknowledged (R348, R349). -/
def beginLaunch (s : State) (p : Nat) (q : QLaunch) : State :=
  match q.src with
  | .mirror => sendTwin (startLaunch (memWrite s q.desc.ioBase (q.snap.getD [])) p q) (.launchAck q.serial .ok)
  | _ => startLaunch s p q

/-- The launch gate (R400). -/
def gateLaunch (s : State) (p : Nat) (q : QLaunch) (rest : List QLaunch) : State :=
  let x := stepEstimate s (slot s q.desc.slot).image
  let go := beginLaunch (setPart s p { part s p with queue := rest }) p q
  if rd s R.PWR_BALLAST_BALLAST_EN = 0 then go
  else if x ≤ s.pwr.ballast + s.pwr.credit then takeStep go x
  else if q.pass then unshaped (takeStep go x)
  else if q.held.isSome then setPart s p { part s p with queue := q :: rest }
  else setPart (incSat s R.PWR_GATE_HOLDS) p { part s p with queue := { q with held := some s.now } :: rest }

/-- LAUNCH_START (R142, R143): the launch whose turn has come, unless it waits. -/
def execLaunchStart (p : Nat) (s : State) : Host.Outcome State Fault Refusal :=
  .next (match (part s p).running, (part s p).queue with
  | none, q :: rest =>
    if launchHeld s p then s
    else
      let s := wakeForLaunch s p (slot s q.desc.slot).image
      if (partDomains s p).any (fun d => dom s d = 1 || dom s d = 2) then s
      else
        let mir := twinRole s = 1 && mirrored s p && q.snap.isNone
        if mir && !(twinPart s p).acked then s
        else
          let r := if mir then mirrorSend s p q else (s, q)
          match startCheck r.1 p r.2.desc r.2.src with
          | some e => refuseLaunch (setPart r.1 p { part r.1 p with queue := rest }) r.2.desc r.2.src e.1 e.2
          | none => gateLaunch r.1 p r.2 rest
  | _, _ => s)

/-- PRELOAD_DONE (R129, R144): the stream buffers are filled and step 0 begins. -/
def execPreloadDone (p : Nat) (s : State) : Host.Outcome State Fault Refusal :=
  .next (match (part s p).running with
  | none => s
  | some r =>
    if r.begun || r.stopped.isSome then s
    else
      let img := runImage s r
      let s := (imgCells img).foldl (fillBuffer img r.desc.variant) s
      modRunning s p (fun r => { r with begun := true, start := s.now }))

/-! ### Memory entries -/

/-- Entry `i` of the running launch's schedule may begin (R133): its step has come and every earlier entry of its channel is
done. -/
def entryBegins (s : State) (r : Running) (i kind : Nat) : Bool :=
  let img := runImage s r
  let v := r.desc.variant
  let e := memEntryAt img v i
  r.begun && r.stopped.isNone && !r.ended && i < (variantAt img v).mems && e.kind = kind && e.issue ≤ r.step &&
  !r.memBegun.contains i &&
  (List.range i).all (fun j => (memEntryAt img v j).pchan ≠ e.pchan || r.memDone.contains j)

/-- Base of a region of a launch (R132). -/
def regionBase (s : State) (r : Running) (region : Nat) : Nat :=
  match region with
  | 0 => (slot s r.desc.slot).weightBase
  | 1 => r.desc.scratchBase
  | 2 => r.desc.ioBase
  | _ => imageBase (runImage s r) (slot s r.desc.slot).weightBase

/-- Device addresses of the units that a READ, WRITE or STREAM entry moves (R233, R236). -/
def unitAddrs (s : State) (r : Running) (e : MemEntry) : List Nat :=
  let b := regionBase s r (if e.kind = 2 then 3 else e.region)
  let n := ((setOf s b).getD (0, 32)).2
  (List.range e.units).map (fun k => b + unitOffset n e.addr k)

/-- The captured row of a KV entry, if it is not a padding row (R183). -/
def kvCapture (r : Running) (e : MemEntry) : Option CapRow :=
  match r.rows[kvRow e]? with
  | some x => if x.pad then none else some x
  | none => none

/-- Device addresses of a KV entry's units in the captured mapping, where the block is mapped (R184). -/
def kvAddrs (s : State) (r : Running) (e : MemEntry) : Option (List Nat) :=
  match kvCapture r e with
  | none => none
  | some x =>
    let cur := x.writePos / 2 ^ x.tppLog2
    if kvFromTail e && cur < kvBlock e then none
    else
      let b := if kvFromTail e then cur - kvBlock e else kvBlock e
      match tget 0 x.map (kvLayer e * 2 ^ 15 + b) with
      | 0 => none
      | f + 1 => some ((List.range e.units).map (fun k => frameAddr s f + 64 * (kvUnit e + k)))

/-- Device addresses that an entry touches; none for a KV entry that touches no memory. -/
def entryAddrs (s : State) (r : Running) (e : MemEntry) : Option (List Nat) :=
  if isKv e then kvAddrs s r e else some (unitAddrs s r e)

/-- The store address at the near end of an entry: LOCAL of the MOVE that names it, otherwise its own (R71, R132). -/
def nearAddr (r : Running) (i : Nat) (e : MemEntry) : Nat :=
  match tget 0 r.moves i with
  | 0 => e.store
  | a + 1 => a

/-- An entry begins on its channel (R133). -/
def beginEntry (s : State) (p i kind : Nat) (k : State → Running → MemEntry → State) : State :=
  match (part s p).running with
  | none => s
  | some r =>
    if entryBegins s r i kind then
      k (modRunning s p (fun r => { r with memBegun := i :: r.memBegun })) r (memEntryAt (runImage s r) r.desc.variant i)
    else s

/-- A writing entry takes its data from the store of its cell as it begins. -/
def takeData (s : State) (p i : Nat) (r : Running) (e : MemEntry) : State :=
  let d := cellBytes (cell s e.cell) r.step false (64 * nearAddr r i e) (64 * e.units)
  modRunning s p (fun r => { r with wbuf := tset [] i d r.wbuf })

def execMemRead (p i : Nat) (s : State) : Host.Outcome State Fault Refusal := .next (beginEntry s p i 0 (fun s _ _ => s))
def execMemWrite (p i : Nat) (s : State) : Host.Outcome State Fault Refusal :=
  .next (beginEntry s p i 1 (fun s r e => takeData s p i r e))
def execStreamRefill (p i : Nat) (s : State) : Host.Outcome State Fault Refusal := .next (beginEntry s p i 2 (fun s _ _ => s))
def execKvRead (p i : Nat) (s : State) : Host.Outcome State Fault Refusal := .next (beginEntry s p i 4 (fun s _ _ => s))
/-- KV_WRITE (R184): a write to an unmapped block is dropped and counted; a padding row's is discarded. -/
def execKvWrite (p i : Nat) (s : State) : Host.Outcome State Fault Refusal :=
  .next (beginEntry s p i 5 (fun s r e =>
    let s := takeData s p i r e
    if (kvCapture r e).isSome && (kvAddrs s r e).isNone then
      irqEvent (incSat s R.KVPG_WRITE_DROP) 11 0 Irq.KVPG_WRITE_DROP r.desc.tenant [p, i] else s))

/-- Controller and channel of an entry. -/
def entryChan (s : State) (r : Running) (e : MemEntry) : Nat × Nat := (pchanMemc (runImage s r) e.pchan, e.pchan % 4)

/-- Steps from an entry to the next one of its channel, or to the launch's end. -/
def gapAfter (s : State) (r : Running) (i : Nat) (e : MemEntry) : Nat :=
  let img := runImage s r
  let v := r.desc.variant
  let n := (variantAt img v).mems
  match (List.range (n - i - 1)).find? (fun j => (memEntryAt img v (i + 1 + j)).pchan = e.pchan) with
  | some j => (memEntryAt img v (i + 1 + j)).issue - e.issue
  | none => (variantAt img v).steps - e.issue

/-- REFRESH (R135, R242): one refresh, then further owed ones while the channel's next entry is at least 360 steps away. -/
def execRefreshEntry (p i : Nat) (s : State) : Host.Outcome State Fault Refusal :=
  .next (beginEntry s p i 3 (fun s r e =>
    let (m, c) := entryChan s r e
    let o := owedOf s m c
    setOwed s m c (max (-8) (o - 1 - min (max (o - 1) 0) (gapAfter s r i e / 360 : Nat)))))

/-- OPEN (R136, R242): owed refreshes, each within the entry's busy time of 3.0 ns for each unit. -/
def execOpenEntry (p i : Nat) (s : State) : Host.Outcome State Fault Refusal :=
  .next (beginEntry s p i 6 (fun s r e =>
    let (m, c) := entryChan s r e
    let o := owedOf s m c
    setOwed s m c (o - min (max o 0) (3 * e.units / 180 : Nat))))

/-- What reading a unit gives: its bytes, or free values where it is poisoned (R246). -/
def unitRead (s : State) (k a : Nat) : List Byte :=
  if poisonUnit s (a / 64) then (List.range 64).map (fun j => BitVec.ofNat 8 (freeVal s (64 * k + j))) else memBytes s a 64

/-- Bytes that an entry reads; zeros where it touches no memory (R184). -/
def entryData (s : State) (r : Running) (e : MemEntry) : List Byte :=
  match entryAddrs s r e with
  | some l => (l.zipIdx).flatMap (fun x => unitRead s x.2 x.1)
  | none => List.replicate (64 * e.units) 0

/-- A read's data reaches the store, and a refill's the stream buffer (R68, R132). -/
def deliverEntry (s : State) (r : Running) (i : Nat) (e : MemEntry) : State :=
  let d := entryData s r e
  let x := cell s e.cell
  if e.kind = 2 then
    match refillFirst (runImage s r) r.desc.variant e with
    | some j =>
      let n := 4 * e.units
      setCell s e.cell { x with
        ringIdx := tsets 0 (4 * e.store) ((List.range n).map (fun k => j + k + 1)) x.ringIdx
        ring := tsets 0 (4 * e.store) ((List.range n).map (fun k => fieldAt d (16 * k) 16)) x.ring }
    | none => s
  else setCell s e.cell (putStore x (64 * nearAddr r i e) d e.arrive)

/-- Writes an entry's data, unit by unit. -/
def storeEntry (s : State) (r : Running) (i : Nat) (e : MemEntry) : State :=
  match entryAddrs s r e with
  | some l => (l.zipIdx).foldl (fun s x => memWrite s x.1 (((tget [] r.wbuf i).drop (64 * x.2)).take 64)) s
  | none => s

/-- MEM_ENTRY_DONE (R132, R133): the entry's last byte is in place. Units that fail are read again first (R246), and the entry
stays open until then. A launch that has stopped discards what it reads (R148). -/
def execMemEntryDone (p i : Nat) (env : MemEnv) (s : State) : Host.Outcome State Fault Refusal :=
  .next (match (part s p).running with
  | none => s
  | some r =>
    if !r.memBegun.contains i || r.memDone.contains i then s
    else
      let e := memEntryAt (runImage s r) r.desc.variant i
      let reads := decide (e.kind = 0 ∨ e.kind = 2 ∨ e.kind = 4)
      let writes := decide (e.kind = 1 ∨ e.kind = 5)
      let s := if reads then readFails s (.launch p i) env else s
      if waitsReRead s (.launch p i) then s
      else
        let s :=
          if reads then
            if r.stopped.isSome then s
            else
              let bad := ((entryAddrs s r e).getD []).filter (fun a => poisonUnit s (a / 64))
              let s := useFree (deliverEntry s r i e)
              modRunning s p (fun r => { r with poison := r.poison ++ bad.map (fun a => (e.arrive, a)) })
          else if writes then
            env.writeBad.foldl writePathBad (storeEntry s r i e)
          else s
        modRunning s p (fun r => { r with memDone := i :: r.memDone, wbuf := tset [] i [] r.wbuf }))

/-! ### Routes, MOVE and MARK -/

/-- ROUTE_TRANSFER (R130, R131): a route entry's bytes move from its start step on, and are readable at its arrival step. Bytes
that a MOVE of KIND 3 sends go to the destination cell; the entry names no store address there, which is a free value. -/
def execRouteTransfer (p i : Nat) (s : State) : Host.Outcome State Fault Refusal :=
  .next (match (part s p).running with
  | none => s
  | some r =>
    let img := runImage s r
    let e := routeAt img r.desc.variant i
    if !r.begun || r.stopped.isSome || r.ended || r.rtBegun.contains i || (variantAt img r.desc.variant).routes ≤ i ||
       r.step < e.start then s
    else
      let s := modRunning s p (fun r => { r with rtBegun := i :: r.rtBegun, rtDone := i :: r.rtDone })
      let s := if e.lane1 < 240 then incWrap s R.SEAM_UNITS ((e.bytes + 63) / 64) (e.lane1 / 60) else s
      match tget [] r.sends i with
      | [c, a, n] =>
        if epKind e.dst = 0 then
          let d := (cellBytes (cell s c) r.step false (64 * a) (64 * n)).take e.bytes
          let dst := epIndex e.dst
          let at_ := 64 * (freeVal s 0 % (65536 - n))
          useFree (setCell s dst (putStore (cell s dst) at_ d e.arrive))
        else s
      | _ => s)

/-- A MOVE on its mover channel (R72); its busy period is ⌈UNITS × 64 / 256⌉. -/
def moveInstr (s : State) (c : Nat) (a : MoveArgs) (ok : Running → Bool) (k : State → Running → Cell → State) : State :=
  match cellLaunch s c with
  | none => s
  | some r =>
    issueInstr s c (4 + a.chan % 2) ((64 * a.units + 255) / 256)
      (1 ≤ a.units && a.units ≤ 65534 && inStore a.loc (64 * a.units) && ok r) k

/-- The variant's entry counts, against which ENTRY is checked (R75). -/
def hasMem (s : State) (i : Nat) (r : Running) : Bool := i < (variantAt (runImage s r) r.desc.variant).mems
def hasRoute (s : State) (i : Nat) (r : Running) : Bool := i < (variantAt (runImage s r) r.desc.variant).routes

/-- A MOVE of KIND 0 or 1 gives the memory entry it names its near end (R71). -/
def moveMem (s : State) (c : Nat) (a : MoveArgs) : State :=
  moveInstr s c a (hasMem s a.entry) (fun s _ _ =>
    modRunning s (cellPart s c) (fun r => { r with moves := tset 0 a.entry (a.loc + 1) r.moves }))
def execMoveMemToStore (c : Nat) (a : MoveArgs) (s : State) : Host.Outcome State Fault Refusal := .next (moveMem s c a)
def execMoveStoreToMem (c : Nat) (a : MoveArgs) (s : State) : Host.Outcome State Fault Refusal := .next (moveMem s c a)

/-- KIND 2 (R71, R72): within the cell's own store, from LOCAL to the address in bits [15:0] of ENTRY. -/
def execMoveLocal (c : Nat) (a : MoveArgs) (s : State) : Host.Outcome State Fault Refusal :=
  .next (moveInstr s c a (fun _ => inStore (a.entry % 65536) (64 * a.units)) (fun s r x =>
    let d := (readCodes s x r.step 3 (64 * a.loc) (64 * a.units)).map (BitVec.ofNat 8)
    useFree (setCell s c (putStore x (64 * (a.entry % 65536)) d (r.step + (64 * a.units + 255) / 256)))))

/-- KIND 3 (R71): the route entry takes the cell's bytes. -/
def execMoveCellToCell (c : Nat) (a : MoveArgs) (s : State) : Host.Outcome State Fault Refusal :=
  .next (moveInstr s c a (hasRoute s a.entry) (fun s _ _ =>
    modRunning s (cellPart s c) (fun r => { r with sends := tset [] a.entry [c, a.loc, a.units] r.sends })))

/-- The physical pipe behind a logical one, or its home. -/
def pipePage (s : State) (q : Nat) : Nat := (pipePhys s q).getD (quadHome q)

/-- A fault of a pipe command or window (R165, R173): `kind` is the APIPE_FAULT code. -/
def pipeFault (s : State) (q c addr kind : Nat) : State :=
  let n := pipePage s q
  let s := raiseIrq (planFaultAt s c addr) 1 n Irq.APIPE_CMD_FAULT
  wr (wr (wr s R.APIPE_FAULT_KIND kind n) R.APIPE_FAULT_CELL c n) R.APIPE_FAULT_CMD_ADDR addr n

/-- Sizes of the two windows of a pipe in bytes (R165). -/
def kvWindow : Nat := 131072
def outWindow : Nat := 65536

/-- KIND 4 (R165): appends to the key-value window of the pipe that the route entry names, which lies in the launch's
partition. -/
def execMoveToPipe (c : Nat) (a : MoveArgs) (s : State) : Host.Outcome State Fault Refusal :=
  .next (moveInstr s c a (hasRoute s a.entry) (fun s r x =>
    let e := routeAt (runImage s r) r.desc.variant a.entry
    let q := epIndex e.dst
    let y := pipe s q
    let d := (readCodes s x r.step 3 (64 * a.loc) (64 * a.units)).map (BitVec.ofNat 8)
    let s := useFree s
    if epKind e.dst ≠ 1 || quadPart s q ≠ cellPart s c then planFault s c
    else if kvWindow < y.win.length + d.length then pipeFault s q c 0 3
    else setPipe s q { y with win := y.win ++ d }))

/-- KIND 5 (R165): removes bytes from a pipe's output window, in order. -/
def execMoveFromPipe (c : Nat) (a : MoveArgs) (s : State) : Host.Outcome State Fault Refusal :=
  .next (moveInstr s c a (hasRoute s a.entry) (fun s r x =>
    let e := routeAt (runImage s r) r.desc.variant a.entry
    let q := epIndex e.src
    let y := pipe s q
    let n := 64 * a.units
    if epKind e.src ≠ 1 || quadPart s q ≠ cellPart s c then planFault s c
    else if y.out.length < n then pipeFault s q c 0 4
    else setCell (setPipe s q { y with out := y.out.drop n }) c (putStore x (64 * a.loc) (y.out.take n) e.arrive)))

/-- MARK (R137, R351): on a twin unit, a compare point of a mirrored partition's launch has its bytes read; any other MARK has
no effect. -/
def execMark (c m : Nat) (s : State) : Host.Outcome State Fault Refusal :=
  .next (issueInstr s c 0 0 true (fun s r _ =>
    let p := cellPart s c
    if twinRole s ≠ 0 && mirrored s p then
      match (comparesOf (runImage s r) r.desc.variant).find? (fun x => x.mark = m && x.cell = c) with
      | some x =>
        let t := twinPart s p
        setTwinPart s p { t with own := t.own ++ [(r.serial, m, memBytes s (regionBase s r x.region + x.addr) (compareBytes x))] }
      | none => s
    else s))

/-! ### The end of a step -/

/-- Operands of the step in progress are still on their way (R36, R37): a read whose arrival step has come is not done, or a
route has not moved. -/
def stepWaits (s : State) (r : Running) : Bool :=
  let img := runImage s r
  let v := r.desc.variant
  let va := variantAt img v
  (List.range va.mems).any (fun i =>
    let e := memEntryAt img v i
    (e.kind = 0 || e.kind = 2 || e.kind = 4) && e.arrive ≤ r.step && !r.memDone.contains i) ||
  (List.range va.routes).any (fun i => (routeAt img v i).arrive ≤ r.step && !r.rtDone.contains i)

/-- Some re-read of the launch runs. -/
def launchRetries (s : State) (p : Nat) : Bool :=
  s.mem.rereads.any (fun x => match x.who with | .launch q _ => q = p | _ => false)

/-- Times of the last events within 24 h, the present one first. -/
def lastDay (s : State) (l : List Nat) : List Nat := s.now :: (l.filter (fun t => s.now < t + 86400000000000))

/-- A residue mismatch of a cell (R77). -/
def cellResidue (s : State) (c : Nat) : State :=
  let n := cellPage s c
  cellFault (raiseIrq (incSat s R.CELL_RESIDUE_CNT n) 0 n Irq.CELL_RESIDUE) c .residue 0

/-- A residue mismatch of a pipe (R174); the third within 24 h asks for its retirement. -/
def pipeResidue (p : Nat) (s : State) (q : Nat) : State :=
  let n := pipePage s q
  let y := pipe s q
  let s := raiseIrq (incSat s R.APIPE_RESIDUE_CNT n) 1 n Irq.APIPE_RESIDUE
  let s := wr (wr (wr s R.APIPE_FAULT_KIND 1 n) R.APIPE_FAULT_CELL y.by_ n) R.APIPE_FAULT_CMD_ADDR y.cmd n
  let s := modRunning s p (fun r => if r.faultCell = 255 then { r with faultCell := y.by_ } else r)
  let s := noteCause s p .residue 1 n [q]
  let l := lastDay s (tget [] s.comb.resTimes n)
  let s := { s with comb := { s.comb with resTimes := tset [] n l s.comb.resTimes } }
  if 3 ≤ l.length then askRetire s true n .pipeResidue else s

/-- A corrected store error (R79). -/
def storeCorrected (s : State) (c : Nat) : State :=
  let n := cellPage s c
  irqEvent (incSat s R.CELL_STORE_ERR_CE n) 0 n Irq.CELL_STORE_CE 0 []

/-- An uncorrectable store error (R79); the third within 24 h asks for the cell's retirement. -/
def storeBad (s : State) (e : Nat × Nat) : State :=
  let n := cellPage s e.1
  let s := cellFault (raiseIrq (incSat s R.CELL_STORE_ERR_UE n) 0 n Irq.CELL_STORE_UE) e.1 .store e.2
  let l := lastDay s (tget [] s.comb.ueTimes n)
  let s := { s with comb := { s.comb with ueTimes := tset [] n l s.comb.ueTimes } }
  if 3 ≤ l.length then askRetire s false n .storeErrors else s

/-- Steps are counted on the cells of the plan, and on its pipes that are busy. -/
def countSteps (s : State) (r : Running) : State :=
  let img := runImage s r
  let s := (imgCells img).foldl (fun s c => incWrap s R.CELL_STEPS 1 (cellPage s c)) s
  (imgQuads img).foldl (fun s q =>
    if r.step < (pipe s q).free then
      let s := incWrap s R.APIPE_STEPS 1 (pipePage s q)
      if (pipe s q).free ≤ r.step + 1 then
        incSat (wr s R.APIPE_STAT_BUSY 0 (pipePage s q)) R.APIPE_CMD_CNT (pipePage s q) else s
    else s) s

/-- STEP_COMPLETE (R36, R37, R76 to R79, R146, R147, R174): a step whose operands have not arrived waits. Otherwise it
completes: what it met is counted and recorded, and the launch goes on, ends, or stops at this boundary. -/
def execStepComplete (p : Nat) (e : StepEnv) (s : State) : Host.Outcome State Fault Refusal :=
  .next (match (part s p).running with
  | none => s
  | some r =>
    if !r.begun || r.stopped.isSome || r.ended then s
    else if stepWaits s r then
      modRunning s p (fun r => if launchRetries s p then { r with retried := true } else { r with waited := true })
    else
      let s := (imgQuads (runImage s r)).foldl (advancePipe p r.step) s
      let s := e.residue.foldl cellResidue s
      let s := e.storeUE.foldl storeBad s
      let s := e.storeCE.foldl storeCorrected s
      let s := e.pipeResidue.foldl (pipeResidue p) s
      let s := e.ports.foldl planFault s
      let s := (r.poison.filter (fun x => x.1 ≤ r.step)).foldl (fun s x =>
        noteCause s p .poison 3 (memcOf s x.2) [x.2]) s
      let s := countSteps s r
      let steps := (variantAt (runImage s r) r.desc.variant).steps
      let s := modRunning s p (fun r =>
        { r with step := r.step + 1, waited := false, retried := false,
                 schedWaits := r.schedWaits + b2n (r.waited && !r.retried && !e.retryWait),
                 retrySteps := r.retrySteps + b2n (r.retried || e.retryWait),
                 stopped := (firstCause r.causes).map causeStatus,
                 ended := r.causes.isEmpty && decide (r.step + 1 = steps) })
      match (part s p).running with
      | some r => if r.stopped.isSome then clearResident s p else s
      | none => s)

/-! ### The end of a launch -/

/-- Adds cell-steps to a progress count in units of 1,024 (R343). -/
def countUseful (s : State) (bad : Bool) (n : Nat) : State :=
  if bad then
    let t := s.hive.wasted + n
    incWrap { s with hive := { s.hive with wasted := t % 1024 } } R.HIVE_PROG_WASTED (t / 1024)
  else
    let t := s.hive.useful + n
    incWrap { s with hive := { s.hive with useful := t % 1024 } } R.HIVE_PROG_USEFUL (t / 1024)

/-- A row lets its sequence go: after an abandoned launch it is rolled back to its captured position first (R194, R195). -/
def freeRow (bad : Bool) (s : State) (x : CapRow) : State :=
  if x.pad then s
  else
    let y := seqOf s x.seq
    let s := setSeq s x.seq { y with held := false, writePos := if bad then x.writePos else y.writePos }
    if (seqOf s x.seq).closeOwed && (seqOf s x.seq).pins = 0 then releaseSeq s x.seq else s

/-- Cell faults, and MEM_POISON, of a standby's launch are a divergence (R354). -/
def cellCause (st : Status) : Bool := st = .planFault || st = .residueFault || st = .storeFault || st = .formatFault || st = .memPoison

/-- What a launch's end means to the pair (R351, R354): a completed launch's points are sent, or compared with what has come;
those of an abandoned one are dropped. -/
def twinEnd (s : State) (p : Nat) (r : Running) (st : Status) : State :=
  if twinRole s = 0 || !mirrored s p then s
  else
    let t := twinPart s p
    let mine := t.own.filter (fun x => x.1 = r.serial)
    let rest := t.own.filter (fun x => x.1 ≠ r.serial)
    if st ≠ .ok then
      let s := setTwinPart s p { t with own := rest, peer := t.peer.filter (fun x => x.1 ≠ r.serial) }
      if twinRole s = 2 && cellCause st then declareDivergence s p r.serial 0 r.desc.slot 0 3
      else if twinRole s = 2 && st = .tenantRetiring then
        { s with twin := { s.twin with drop := (r.desc.tenant :: s.twin.drop).eraseDups } }
      else s
    else if twinRole s = 1 then
      mine.foldl (fun s x => sendTwin s (.compare x.1 x.2.1 x.2.2)) (setTwinPart s p { t with own := rest })
    else
      let s := setTwinPart s p { t with
        ends := (r.serial, r.desc.slot, r.desc.variant) :: t.ends.filter (fun e => rest.any (fun x => x.1 = e.1))
        own := rest ++ mine.filter (fun x => !t.peer.any (fun y => y.1 = x.1 && y.2.1 = x.2.1))
        peer := t.peer.filter (fun y => y.1 ≠ r.serial) }
      mine.foldl (fun s x =>
        match t.peer.find? (fun y => y.1 = x.1 && y.2.1 = x.2.1) with
        | some y => evaluatePoint s p r.serial x.2.1 r.desc.slot r.desc.variant x.2.2 y.2.2
        | none => s) s

/-- Tells the launch's issuer (R150, R214). -/
def tellIssuer (s : State) (r : Running) (st : Status) (done : Nat) : State :=
  match r.src with
  | .direct q cid => if launchWaits s q cid then finishCmd s q st done else s
  | .serving w => modWork s w (fun x => { x with done := true, stopped := if st = .ok then none else some st, endTime := s.now })
  | .mirror => s

/-- LAUNCH_END (R147 to R150): once the entries that have begun are done, residency is set or cleared, rows are rolled back
after an abandonment, the record is written, sequences are let go, and the issuer is told. -/
def execLaunchEnd (p : Nat) (s : State) : Host.Outcome State Fault Refusal :=
  .next (match (part s p).running with
  | none => s
  | some r =>
    if (!r.ended && r.stopped.isNone) || !(r.memBegun.all r.memDone.contains) || launchRetries s p then s
    else
      let img := runImage s r
      let va := variantAt img r.desc.variant
      let st := r.stopped.getD .ok
      let bad := decide (st ≠ .ok)
      let done := if r.begun then r.step else 0
      let t0 := if r.begun then r.start else s.now
      let above := decide (r.bound < (s.now - t0) * r.boundDen)
      let set := !bad && va.kind = 5
      let s := setPart s p { part s p with resident := if bad then none else if set then some r.desc.slot else (part s p).resident }
      let s := if bad then r.rows.foldl (fun s x => if x.pad then s else
        setSeq s x.seq { seqOf s x.seq with writePos := x.writePos }) s else s
      let s := memWrite s r.desc.recordAddr (launchRecord r.desc st above set r.schedWaits done va.steps r.retries
        r.retrySteps t0 s.now r.minProm r.lowIntv r.faultCell r.faultAddr (min r.emptyRows 0xFFFFFFFF))
      let s := r.rows.foldl (freeRow bad) s
      let s := holdMemcs (busyCells s p 0) img 0
      let s := (imgQuads img).foldl (fun s q =>
        setPipe (wr s R.APIPE_STAT_BUSY 0 (pipePage s q)) q {}) s
      let s := setPart s p { part s p with running := none }
      let s := if rd s R.HIVE_USEFUL_SLOTS / 2 ^ r.desc.slot % 2 = 1 then
          countUseful s bad (done * (imgCells img).length) else s
      let s := if 0 < r.bound then metricSample (useFree s) (89 + p) (nearest s 0 ((s.now - t0) * r.boundDen * 1000) r.bound : Nat) else s
      let s := twinEnd s p r st
      let s := tellIssuer s r st done
      let s := if (slot s r.desc.slot).st = .draining && !slotRuns s r.desc.slot then emptySlot s r.desc.slot else s
      beginTwinTests s)

end Sys2Proof.Machine
end

