-- ==== Sys2Proof/Machine/Plan.lean ====
section
/-!
DEFINITION. The meanings of the commands that load and unload plans and that issue launches (R138 to R142).
-/

namespace Sys2Proof.Machine

/-- The queue's key-held test of R375: an EMPTY slot with a weight key of another tenant counts as not EMPTY. -/
def slotKeyOther (s : State) (n t : Nat) : Bool := rd s R.SEC_WKEY_HELD 0 n = 1 && rd s R.SEC_WKEY_TENANT 0 n ≠ t

/-- Orders 4 to 10 of R139 on an image, for the tenant's weight region at `wb`. -/
def planVerdict (s : State) (t wb : Nat) (b : List Byte) : Option Status :=
  let ib := imageBase b wb
  let mask := imgMemcMask b
  if imgMagic b ≠ 0x4C50524C || fieldAt b 4 2 ≠ 1 || fieldAt b 6 2 ≠ 256 || !imgDigestOk b then some .planImage
  else if !imgRangesOk b then some .lengthRange
  else if !imgValuesOk b then some .planImage
  else if !owned s t wb (imgWeightLen b) || !owned s t ib b.length then some .planCapacity
  else
    match (if imgWeightLen b = 0 then placedSet s wb 1 mask else placedSet s wb (imgWeightLen b) mask),
          placedSet s ib b.length mask with
    | some ws, some is =>
      if imgHasKv b && (setFrames s ws.1 ws.2).2 ≤ (setFrames s ws.1 ws.2).1 then some .planPlacement
      else if !imgRegionsOk b then some .planImage
      else if !imgPlanOk b (maskSets s mask) ws is then some .planImage
      else none
    | _, _ => some .planPlacement

/-- LOAD_PLAN of queue `q` (R138, R139): `image` is what the host memory named holds, `bad` the first sealed segment that
does not authenticate. Order 1 reads the image's own length. From order 2 on the slot is LOADING and the verdict is posted
when the checks end (R140). -/
def execLoadPlan (q : Nat) (image : List Byte) (bad : Option Nat) (s : State) : Host.Outcome State Fault Refusal :=
  .next (match running s q 5 with
  | none => s
  | some r =>
    let n := arg r 16 1 % 64
    let t := arg r 17 1
    let len := arg r 20 4
    let addr := arg r 24 8
    let wb := arg r 32 8
    if !tenantOk r true t then finishCmd s q .tenantMismatch 0
    else if len % 64 ≠ 0 || len < 512 || 0xFFFFFFC0 < len then finishCmd s q .lengthRange 0
    else
      let dev := arg r 18 1 % 2 = 1
      let b := if dev then memBytes s addr len else (image ++ List.replicate len 0).take len
      let (s, fail) := if dev then
          (s, match accessFail s t addr len with
            | some st => some st
            | none => if rangePoison s addr len then some .memPoison else none)
        else sealedRead s t q (arg r 40 8) (segCount len) bad
      match fail with
      | some st => finishCmd s q st 0
      | none =>
        if imgLen b ≠ len then finishCmd s q .lengthRange 0
        else if (slot s n).st ≠ .empty || slotKeyOther s n t then finishCmd s q .slotBusy 0
        else
          setBusy (setSlot s n { st := .loading, tenant := t, weightBase := wb, image := b, loadBy := some q,
                                 verdict := if tenActive s t then planVerdict s t wb b else some .tenantRetiring }) q)

/-- UNLOAD_PLANs that waited for a slot's load checks are handled in the state that results (R140). -/
def unloadHeld (s : State) (n : Nat) : List Nat → State
  | [] => s
  | q :: r =>
    match (slot s n).st with
    | .ready => unloadHeld (unloadReady s n q) n r
    | .draining => unloadHeld (finishCmd s q .slotBusy 0) n r
    | _ => unloadHeld (finishCmd s q .ok 0) n r

/-- The load checks of a slot end (R140): the image copy is written and the slot is READY, or it is EMPTY again; the status is
posted. -/
def execPlanChecksDone (n : Nat) (s : State) : Host.Outcome State Fault Refusal :=
  .next (
    let x := slot s n
    if x.st ≠ .loading then s
    else
      let held := x.unloads
      let s := match x.verdict with
        | some _ => setSlot s n {}
        | none => memWrite (setSlot s n { x with st := .ready, loadBy := none, unloads := [] })
            (imageBase x.image x.weightBase) x.image
      let s := match x.loadBy with
        | some q => finishCmd s q (x.verdict.getD .ok) 0
        | none => s
      unloadHeld s n held)

/-- UNLOAD_PLAN (R140, R375): the owner's weight key of the slot is destroyed, then the slot's state decides. -/
def execUnloadPlan (q : Nat) (s : State) : Host.Outcome State Fault Refusal :=
  .next (match running s q 6 with
  | none => s
  | some r =>
    let n := arg r 16 1 % 64
    let t := arg r 17 1
    let x := slot s n
    if !tenantOk r true t then finishCmd s q .tenantMismatch 0
    else if (x.st ≠ .empty && x.tenant ≠ t) || (x.st = .empty && slotKeyOther s n t) then finishCmd s q .tenantMismatch 0
    else if x.st = .draining then finishCmd s q .slotBusy 0
    else
      let s := wr (wr s R.SEC_WKEY_HELD 0 0 n) R.SEC_WKEY_TENANT 0 0 n
      match x.st with
      | .empty => finishCmd s q .ok 0
      | .loading => setBusy (setSlot s n { x with unloads := x.unloads ++ [q] }) q
      | _ => unloadReady (setBusy s q) n q)

/-- A launch descriptor's fields (R141). -/
def descOf (b : List Byte) : LaunchDesc :=
  { slot := fieldAt b 0 1 % 64, partition := fieldAt b 1 1 % 64, variant := fieldAt b 2 2, tenant := fieldAt b 4 1,
    batch := fieldAt b 8 2, stochKey := fieldAt b 16 8, scratchBase := fieldAt b 24 8, ioBase := fieldAt b 32 8,
    seqList := fieldAt b 40 8, recordAddr := fieldAt b 48 8, tag := fieldAt b 56 4 }

/-- LAUNCH (R141, R278): reads its descriptor in the memory of the issuing function's tenant, which R279 makes the
descriptor's tenant, and issues the launch to its partition. On a standby unit a mirrored partition takes none (R347). -/
def execLaunch (q : Nat) (s : State) : Host.Outcome State Fault Refusal :=
  .next (match running s q 7 with
  | none => s
  | some r =>
    let a := arg r 16 8
    let d := descOf (memBytes s a 64)
    if a % 64 ≠ 0 then finishCmd s q .lengthRange 0
    else
      match accessFail s r.tenant a 64 with
      | some st => finishCmd s q st 0
      | none =>
        if rangePoison s a 64 then finishCmd s q .memPoison 0
        else if !tenantOk r false d.tenant then finishCmd s q .tenantMismatch 0
        else if twinRole s = 2 && mirrored s d.partition then finishCmd s q .partitionMismatch 0
        else issueLaunch (setBusy s q) d.partition { desc := d, src := .direct q (runCid r) })

end Sys2Proof.Machine
end

