-- ==== Sys2Proof/Machine/RegWrite.lean ====
section
/-!
DEFINITION. The commands that write registers of any page (R483 to R492).
-/

namespace Sys2Proof.Machine

/-- LOCK (R490, R491): a write of a page's LOCK register. -/
def execLock (ty i v : Nat) (s : State) : Host.Outcome State Fault Refusal := .next (lockWrite s ty i v)

/-- LOCK_ALL (R491). -/
def execLockAll (s : State) : Host.Outcome State Fault Refusal := .next (lockWrite s 26 0 2)

/-- IRQ_EN_WRITE (R489). -/
def execIrqEnWrite (ty i v : Nat) (s : State) : Host.Outcome State Fault Refusal := .next (irqEnable s ty i v)

/-- A 32-bit write of any register: the actions of the BOOT and FWU pages, and every other (R485, R486). -/
def anyWrite (s : State) (w : Writer) (ty i off v : Nat) (e : WriteEnv) : State :=
  if ty = 26 && i = 0 && off = 0x108 then
    if bitsOf v 0 3 = 0 then s else regWrite s w 26 0 0x108 true (fun s => bootActions s v)
  else if ty = 26 && i = 0 && off = 0x12C then presetWrite s w v
  else if ty = 25 && i = 0 && off = 0x100 then
    if bitsOf v 1 5 = 0 then s else fwuAction s w (fun s => fwuActions s v e.data e.start)
  else blockWrite s w ty i off v e

/-- REGISTER_WRITE (R485 to R487): an aligned access of 4 bytes, or of 8, which is served as two, the lower offset first. Any other
access is not a register write. -/
def execRegisterWrite (w : Writer) (ty i off bytes v : Nat) (e : WriteEnv) (s : State) : Host.Outcome State Fault Refusal :=
  .next (
    if bytes = 4 && off % 4 = 0 then anyWrite s w ty i off (v % 2 ^ 32) e
    else if bytes = 8 && off % 8 = 0 then
      anyWrite (anyWrite s w ty i off (v % 2 ^ 32) e) w ty i (off + 4) (v / 2 ^ 32 % 2 ^ 32) e
    else s)

end Sys2Proof.Machine
end

