-- ==== Sys2Proof/Machine/Video.lean ====
section
/-!
DEFINITION. The meanings of the video commands: stream contexts, codec jobs and their scheduling, decoding into buffers, rate
control, and the input pre-processor (chapter 17). What a bitstream spells, and what a coder makes of samples, the video
standards decide; it comes in as the operand of VIDEO_JOB_END.
-/

namespace Sys2Proof.Machine

def popCount (m : Nat) : Nat := ((List.range 8).filter (fun v => m / 2 ^ v % 2 = 1)).length

/-! ### Frames (R423) -/

/-- Bytes of a sample. -/
def sampleBytes (ten : Bool) : Nat := if ten then 2 else 1
def pitchOf (w : Nat) (ten : Bool) : Nat := (w * sampleBytes ten + 255) / 256 * 256
/-- Bytes of the planes of a frame. -/
def planeBytes (w h : Nat) (ten mono : Bool) : Nat :=
  let luma := (h + 63) / 64 * 64 * pitchOf w ten
  if mono then luma else luma + luma / 2
def motionBytes (w h : Nat) : Nat := (w + 15) / 16 * ((h + 15) / 16) * 16
/-- Smallest BUF_BYTES. -/
def bufNeed (w h : Nat) (ten mono : Bool) : Nat := (planeBytes w h ten mono + motionBytes w h + 65535) / 65536 * 65536

/-- Largest coded picture (R433). -/
def outBound (w h : Nat) (ten : Bool) : Nat := 3 * w * h * sampleBytes ten / 2 + 4096

/-! ### Opening a context (R418 to R421) -/

/-- Order 1 of R421. -/
def blockRanges (b : List Byte) (enc : Bool) : Bool :=
  let std := fieldAt b 0 1 % 4
  let split := fieldAt b 2 1
  let w := fieldAt b 4 2
  let h := fieldAt b 6 2
  let qpMax := if std = 2 then 63 else 51
  1 ≤ split && split ≤ 8 && split ≤ popCount (fieldAt b 1 1) && 2 ≤ fieldAt b 3 1 && fieldAt b 3 1 ≤ 64 &&
  16 ≤ w && w ≤ 8192 && 16 ≤ h && h ≤ 8192 && fieldAt b 8 8 % 65536 = 0 && fieldAt b 16 4 % 65536 = 0 &&
  bufNeed w h (bitsOf (fieldAt b 0 1) 5 1 = 1) (bitsOf (fieldAt b 0 1) 4 1 = 1) ≤ fieldAt b 16 4 &&
  65536 ≤ fieldAt b 20 4 && fieldAt b 20 4 ≤ 268435456 &&
  (!enc ||
    (fieldAt b 40 1 ≤ 2 && fieldAt b 41 1 ≤ qpMax && fieldAt b 42 1 ≤ qpMax && fieldAt b 43 1 ≤ qpMax &&
     1 ≤ fieldAt b 44 4 && fieldAt b 44 4 ≤ 1000000 && fieldAt b 56 1 ≤ 3 && 1 ≤ fieldAt b 57 1 && fieldAt b 57 1 ≤ 4 &&
     fieldAt b 58 1 ≤ 12 && fieldAt b 59 1 ≤ 1 && 1 ≤ fieldAt b 60 2 && fieldAt b 60 2 ≤ 65534 && 8 ≤ fieldAt b 62 1 &&
     fieldAt b 62 1 ≤ 64 && 1 ≤ fieldAt b 64 1 && fieldAt b 64 1 ≤ 8 && 1 ≤ fieldAt b 65 1 && fieldAt b 65 1 ≤ 8 &&
     (split = 1 || std = 0 || split ≤ fieldAt b 64 1 * fieldAt b 65 1)))

/-- Order 5 of R421: standard, bit depth, chroma and encode level (R415, R417). -/
def blockSupported (b : List Byte) (enc : Bool) : Bool :=
  let std := fieldAt b 0 1 % 4
  let ten := bitsOf (fieldAt b 0 1) 5 1 = 1
  let mono := bitsOf (fieldAt b 0 1) 4 1 = 1
  if enc then std ≠ 3 && !mono && !(std = 0 && ten) && fieldAt b 63 1 ≤ 51
  else !(std = 0 && ten) && !(std = 1 && mono)

/-- Orders 1 to 6 of R421. -/
def openCheck (s : State) (r : RunCmd) (b : List Byte) (enc : Bool) : Option Status :=
  let t := arg r 18 1
  let c := arg r 17 1
  if 128 ≤ c || !blockRanges b enc then some .lengthRange
  else if !tenantOk r false t then some .tenantMismatch
  else if !tenActive s t then some .tenantRetiring
  else if vctxState s c ≠ 0 then some .slotBusy
  else if !blockSupported b enc then some .vidUnsupported
  else
    match accessFail s t (fieldAt b 8 8) (fieldAt b 3 1 * fieldAt b 16 4) with
    | some st => some st
    | none =>
      match accessFail s t (fieldAt b 32 8) (2 ^ 20) with
      | some st => some st
      | none => accessFail s t (fieldAt b 24 8) (fieldAt b 20 4)

/-- The host read of a command's own bytes ends (R264, R267): `hostOk` that it succeeded, `bad` the first sealed segment that does
not authenticate. -/
def ownRead (s : State) (q : Nat) (r : RunCmd) (n : Nat) (hostOk : Bool) (bad : Option Nat) : State × Option Status :=
  if !hostOk then (hostReadFailed s r.fn [q], some .dmaHostError)
  else if tenSeals s r.tenant && rd s R.SEC_TEN_STATE_TRANSPORT 0 r.tenant = 0 then (s, some .sealNoKey)
  else sealedRead s r.tenant q (arg r 56 8) (segCount n) bad

/-- VID_DECODE and VID_ENCODE with OP 0 (R418 to R421). -/
def openVideo (s : State) (q : Nat) (enc : Bool) (block : List Byte) (hostOk : Bool) (bad : Option Nat) : State :=
  match running s q (if enc then 0x11 else 0x10) with
  | none => s
  | some r =>
    if arg r 16 1 % 4 ≠ 0 then s
    else
      match ownRead s q r 128 hostOk bad with
      | (s, some st) => finishCmd s q st 0
      | (s, none) =>
        let b := (block ++ List.replicate 128 0).take 128
        match openCheck s r b enc with
        | some st => finishCmd s q st 0
        | none =>
          let c := arg r 17 1
          let s := setVctx s c { block := b }
          let s := wr (wr (wr s R.VID_CTX_STAT_STATE 1 0 c) R.VID_CTX_STAT_LIVE (bitsOf (fieldAt b 0 1) 2 1) 0 c)
            R.VID_CTX_STAT_ENCODE (b2n enc) 0 c
          let s := wr (wr (wr s R.VID_CTX_STAT_STD (fieldAt b 0 1 % 4) 0 c) R.VID_CTX_STAT_ENGINES (fieldAt b 1 1) 0 c)
            R.VID_CTX_STAT_TENANT (arg r 18 1) 0 c
          let s := { s with vid := { s.vid with opened := tset 0 q (c + 1) s.vid.opened } }
          finishCmd s q .ok 0

def execDecodeOpen (q : Nat) (block : List Byte) (hostOk : Bool) (bad : Option Nat) (s : State) :
    Host.Outcome State Fault Refusal := .next (openVideo s q false block hostOk bad)
def execEncodeOpen (q : Nat) (block : List Byte) (hostOk : Bool) (bad : Option Nat) (s : State) :
    Host.Outcome State Fault Refusal := .next (openVideo s q true block hostOk bad)

/-! ### Commands of an open context (R419, R421) -/

/-- The ranges of OP 1 to 3. A context that is not open gives no bounds of its own. -/
def workRanges (s : State) (r : RunCmd) (enc : Bool) : Bool :=
  let c := arg r 17 1
  let op := arg r 16 1 % 4
  c < 128 && arg r 48 8 % 64 = 0 &&
  (vctxState s c ≠ 1 ||
    (if enc then op = 3 || outBound (vpar s c 4 2) (vpar s c 6 2) (bitsOf (vpar s c 0 1) 5 1 = 1) ≤ arg r 40 4
     else
       arg r 32 8 / 2 ^ (vpar s c 3 1 % 128) = 0 && (op ≠ 1 || (1 ≤ arg r 20 4 && arg r 20 4 ≤ vpar s c 20 4))))

/-- The checks of OP 1 to 3. -/
def workCheck (s : State) (r : RunCmd) (enc : Bool) : Option Status :=
  let c := arg r 17 1
  let t := arg r 18 1
  if !workRanges s r enc then some .lengthRange
  else if !tenantOk r false t then some .tenantMismatch
  else if !tenActive s t then some .tenantRetiring
  else if vctxState s c ≠ 1 || vctxEncode s c ≠ enc || vctxTenant s c ≠ t then some .slotState
  else if tenSeals s t && rd s R.SEC_TEN_STATE_TRANSPORT 0 t = 0 then some .sealNoKey
  else none

/-- Runs `k` when a command of kind `op` passes its checks, and otherwise ends it with its record. -/
def workVideo (s : State) (q : Nat) (enc : Bool) (op : Nat) (k : State → RunCmd → State) : State :=
  match running s q (if enc then 0x11 else 0x10) with
  | none => s
  | some r =>
    if arg r 16 1 % 4 ≠ op then s
    else
      match workCheck s r enc with
      | some st => endVideo s q r.tenant (arg r 48 8) 0 st {}
      | none => k s r

/-- The command's job joins the jobs. -/
def addJob (s : State) (q : Nat) (r : RunCmd) (enc : Bool) (inSegs : Nat) : State :=
  let n := s.vid.serial
  let j : VJob := { serial := n, queue := q, tenant := arg r 18 1, ctx := arg r 17 1, encode := enc, op := arg r 16 1 % 4,
                    key := bitsOf (arg r 16 1) 2 1 = 1, length := arg r 20 4, src := arg r 24 8,
                    release := if enc then 0 else arg r 32 8, out := arg r 32 8, cap := arg r 40 4, result := arg r 48 8,
                    inSegs := inSegs }
  setBusy { s with vid := { s.vid with serial := n + 1, jobs := s.vid.jobs ++ [j] } } q

/-- DECODE_PICTURE (R419, R425): the access unit reaches the staging area, and its job waits. -/
def execDecodePicture (q : Nat) (au : List Byte) (hostOk : Bool) (bad : Option Nat) (s : State) :
    Host.Outcome State Fault Refusal :=
  .next (workVideo s q false 1 (fun s r =>
    let n := arg r 20 4
    match ownRead s q r n hostOk bad with
    | (s, some st) => endVideo s q r.tenant (arg r 48 8) (if tenSeals s r.tenant then segCount n else 0) st {}
    | (s, none) =>
      let s := memWrite s (vpar s (arg r 17 1) 24 8) ((au ++ List.replicate n 0).take n)
      addJob s q r false (if tenSeals s r.tenant then segCount n else 0)))

/-- DECODE_FLUSH (R425): a job of its own, in command order. -/
def execDecodeFlush (q : Nat) (s : State) : Host.Outcome State Fault Refusal :=
  .next (workVideo s q false 2 (fun s r => addJob s q r false 0))
/-- ENCODE_PICTURE (R431). -/
def execEncodePicture (q : Nat) (s : State) : Host.Outcome State Fault Refusal :=
  .next (workVideo s q true 1 (fun s r => addJob s q r true 0))
/-- ENCODE_FLUSH (R419). -/
def execEncodeFlush (q : Nat) (s : State) : Host.Outcome State Fault Refusal :=
  .next (workVideo s q true 2 (fun s r => addJob s q r true 0))

/-- Closes a context (R418): its queued jobs end SLOT_STATE, the running one goes on. -/
def closeVideo (s : State) (q : Nat) (enc : Bool) : State :=
  workVideo s q enc 3 (fun s r =>
    let c := arg r 17 1
    let s := wr (setVctx (setBusy s q) c { vctx s c with closing := some (q, arg r 48 8) }) R.VID_CTX_STAT_STATE 2 0 c
    finishClose (endJobs s (fun j => j.ctx = c && j.st = 0) .slotState) c)
def execDecodeClose (q : Nat) (s : State) : Host.Outcome State Fault Refusal := .next (closeVideo s q false)
def execEncodeClose (q : Nat) (s : State) : Host.Outcome State Fault Refusal := .next (closeVideo s q true)

/-! ### Scheduling (R429, R434) -/

/-- Jobs that are not running, in the order in which they start: live before batch, then command order. -/
def jobOrder (s : State) : List VJob :=
  let l := s.vid.jobs.filter (fun j => j.st ≠ 1)
  l.filter (fun j => vctxLive s j.ctx) ++ l.filter (fun j => !vctxLive s j.ctx)

/-- An engine is on, runs nothing and is not about to be reset (R459). -/
def engineFree (s : State) (v : Nat) : Bool :=
  dom s (384 + v) = 0 && rd s R.VID_STAT_BUSY v = 0 && s.boot.preset ≠ some (384 + v)

/-- No earlier job of the same context is still to end. -/
def firstOfCtx (s : State) (j : VJob) : Bool := s.vid.jobs.all (fun x => x.ctx ≠ j.ctx || j.serial ≤ x.serial)

/-- The engines on which a job may start among `avail`: those it was paused on, or its first SPLIT ones. -/
def pickEngines (s : State) (j : VJob) (avail : List Nat) : Option (List Nat) :=
  if j.st = 2 then (if j.engines.all avail.contains then some j.engines else none)
  else
    let l := avail.filter (fun v => rd s R.VID_CTX_STAT_ENGINES 0 j.ctx / 2 ^ v % 2 = 1)
    let k := vpar s j.ctx 2 1
    if k ≤ l.length then some (l.take k) else none

/-- The first job that can start, with its engines. A job that cannot keeps its engines from later ones. -/
def nextJob (s : State) : List Nat → List VJob → Option (VJob × List Nat)
  | _, [] => none
  | avail, j :: r =>
    if !firstOfCtx s j then nextJob s avail r
    else
      match pickEngines s j avail with
      | some l => some (j, l)
      | none => nextJob s (avail.filter (fun v => rd s R.VID_CTX_STAT_ENGINES 0 j.ctx / 2 ^ v % 2 ≠ 1)) r

/-- RELEASE clears OUT marks before the job (R419, R424). -/
def releaseBufs (s : State) (c m : Nat) : State :=
  let out := rd s R.VID_CTX_OUT 0 c
  let s := wr s R.VID_CTX_OUT ((List.range 64).foldl (fun n i => if out / 2 ^ i % 2 = 1 && m / 2 ^ i % 2 = 0 then n + 2 ^ i else n) 0)
    0 c
  setVctx s c { vctx s c with outOrder := (vctx s c).outOrder.filter (fun b => m / 2 ^ b % 2 = 0) }

/-- VIDEO_JOB_START (R429, R434): the next job starts on its engines; a picture with fewer units than SPLIT releases the others.
No job starts in an emergency shed or in dusk (R402, R405). -/
def execVideoJobStart (units : Nat) (s : State) : Host.Outcome State Fault Refusal :=
  .next (
    if rd s R.PWR_STAT_EMERG_ACTIVE = 1 || admissionsStopped s then s
    else
      match nextJob s ((List.range 8).filter (engineFree s)) (jobOrder s) with
      | none => s
      | some (j, l) =>
        let l := if j.st = 2 then l else l.take (max units 1)
        let s := if j.st = 0 then releaseBufs s j.ctx j.release else s
        let s := { s with vid := { s.vid with jobs := s.vid.jobs.map (fun x =>
          if x.serial = j.serial then { x with st := 1, engines := l } else x) } }
        l.foldl (fun s v =>
          wr (wr (wr (wr s R.VID_STAT_CTX j.ctx v) R.VID_STAT_LIVE (b2n (vctxLive s j.ctx)) v) R.VID_STAT_BUSY 1 v)
            R.VID_STAT_PAUSED 0 v) s)

/-- A live job waits for an engine that the job holds. -/
def liveWants (s : State) (j : VJob) : Bool :=
  s.vid.jobs.any (fun x => x.st = 0 && vctxLive s x.ctx && firstOfCtx s x &&
    j.engines.any (fun v => rd s R.VID_CTX_STAT_ENGINES 0 x.ctx / 2 ^ v % 2 = 1))

/-- PREEMPTION (R434): the context's running batch job pauses at a CTB-row boundary, and its state goes to the context's save area,
whose bytes are free. -/
def execPreemption (c : Nat) (s : State) : Host.Outcome State Fault Refusal :=
  .next (match s.vid.jobs.find? (fun j => j.ctx = c && j.st = 1) with
  | none => s
  | some j =>
    if vctxLive s c || !liveWants s j then s
    else
      let s := useFree (memWrite s (vpar s c 32 8) (freeBytes s 0 (2 ^ 20)))
      let s := { s with vid := { s.vid with jobs := s.vid.jobs.map (fun x =>
        if x.serial = j.serial then { x with st := 2 } else x) } }
      let s := j.engines.foldl (fun s v => wr (freeEngine s v) R.VID_STAT_PAUSED 1 v) s
      incSat s R.VID_PREEMPT_CNT (j.engines.headD 0))

/-! ### Decoding (R424 to R428) -/

def marked (m b : Nat) : Bool := m / 2 ^ b % 2 = 1
def mark (m b : Nat) (on : Bool) : Nat :=
  if marked m b = on then m else if on then m + 2 ^ b else m - 2 ^ b

/-- The buffer for the current picture (R424): the lowest free one, otherwise the one marked only OUT that was output earliest, and
whether its mark is taken. -/
def chooseBuf (s : State) (c : Nat) : Option (Nat × Bool) :=
  let ref := rd s R.VID_CTX_REF 0 c
  let out := rd s R.VID_CTX_OUT 0 c
  let x := vctx s c
  match (List.range (vpar s c 3 1)).find? (fun b => !marked ref b && !marked out b && !x.hold.contains b) with
  | some b => some (b, false)
  | none => (x.outOrder.find? (fun b => !marked ref b && !x.hold.contains b)).map (fun b => (b, true))

def bufAddr (s : State) (c b : Nat) : Nat := vpar s c 8 8 + b * vpar s c 16 4

/-- Mid-grey samples (R427): 2^(b − 1) for bit depth b; `off` is the offset of the first byte. -/
def greyBytes (ten : Bool) (off n : Nat) : List Byte :=
  (List.range n).map (fun i => if ten then (if (off + i) % 2 = 0 then 0 else 2) else 0x80)

/-- One concealed range of a picture's bytes (R428): co-located bytes of a reference, or mid-grey. -/
def conceal (s : State) (c : Nat) (data : List Byte) (x : Nat × Nat × Option Nat) : List Byte :=
  let fill := match x.2.2 with
    | some b => memBytes s (bufAddr s c b + x.1) x.2.1
    | none => greyBytes (bitsOf (vpar s c 0 1) 5 1 = 1) x.1 x.2.1
  data.take x.1 ++ fill ++ data.drop (x.1 + x.2.1)

/-- A buffer is output (R424): it is listed, and marked OUT. -/
def outputBuf (c : Nat) (s : State) (b : Nat) : State :=
  let x := vctx s c
  let s := wr s R.VID_CTX_OUT (mark (rd s R.VID_CTX_OUT 0 c) b true) 0 c
  setVctx s c { x with hold := x.hold.filter (· ≠ b), outOrder := x.outOrder.filter (· ≠ b) ++ [b] }

/-- A buffer is no longer referenced (R424); one that has not been output is held for output when `later`. -/
def unrefBuf (c : Nat) (later : List Nat) (s : State) (b : Nat) : State :=
  if marked (rd s R.VID_CTX_REF 0 c) b then
    let s := wr s R.VID_CTX_REF (mark (rd s R.VID_CTX_REF 0 c) b false) 0 c
    if later.contains b && !marked (rd s R.VID_CTX_OUT 0 c) b then setVctx s c { vctx s c with hold := b :: (vctx s c).hold } else s
  else s

/-- What a decode job has gathered. -/
structure DecAcc where
  concealed : Bool := false
  taken     : Bool := false
  damaged   : Nat := 0
  outs      : List (Nat × Nat) := []
  deriving DecidableEq, Repr

/-- Counts and signals of the engine that a job began on. -/
def codecEvent (s : State) (v bit : Nat) (f : Fld) (tenant : Nat) : State := irqEvent (incSat s f v) 21 v bit tenant []

/-- One picture is decoded into its buffer, concealed where it is damaged, marked, and outputs are released (R424, R425, R428).
`later` are buffers that pictures after it still output. -/
def decodePic (v c tenant : Nat) (later : List Nat) (a : State × DecAcc) (p : DecPic) : State × DecAcc :=
  match chooseBuf a.1 c with
  | none => a
  | some (b, took) =>
    let s := if took then
        let s := codecEvent a.1 v Irq.VID_TAKEN R.VID_STOLEN_CNT tenant
        let s := wr s R.VID_CTX_OUT (mark (rd s R.VID_CTX_OUT 0 c) b false) 0 c
        setVctx s c { vctx s c with outOrder := (vctx s c).outOrder.filter (· ≠ b) }
      else a.1
    let s := memWrite s (bufAddr s c b) ((p.lost.foldl (conceal s c) p.data).take (vpar s c 16 4))
    let s := if p.lost.isEmpty then s else codecEvent s v Irq.VID_CONCEALED R.VID_CONCEAL_CNT tenant
    let s := wr (incSat s R.VID_PICTURES v) R.VID_CTX_REF (mark (rd s R.VID_CTX_REF 0 c) b true) 0 c
    let own := fun n => if n = 64 then b else n
    let outs := p.outs.map (fun o => (own o.1, o.2))
    let s := (outs.map Prod.fst).foldl (outputBuf c) s
    let s := (p.drop.map own).foldl (unrefBuf c (later.map own)) s
    let s := if p.ref then s else unrefBuf c [b] s b
    (s, { concealed := a.2.concealed || !p.lost.isEmpty, taken := a.2.taken || took, damaged := a.2.damaged + p.damaged,
          outs := a.2.outs ++ outs })

/-- Steps of a job on its engines, and their sum. -/
def countBusy (s : State) (j : VJob) (steps : List Nat) : State :=
  (j.engines.zip steps).foldl (fun s e => incWrap s R.VID_STEPS e.2 e.1) s
def stepSum (l : List Nat) : Nat := min (l.foldl (· + ·) 0) 0xFFFFFFFF

/-- An access unit's job ends (R424 to R428). -/
def endDecode (s : State) (j : VJob) (r : VidRes) : State :=
  let c := j.ctx
  let v := j.engines.headD 0
  let x := vctx s c
  let st := fun (s : State) (w : Status) => endJob s j j.inSegs w { steps := stepSum r.steps }
  let need := if vpar s c 0 1 % 4 = 2 then 8 else r.dpb
  if rangePoison s (vpar s c 24 8) j.length then st s .memPoison
  else if !r.parses || (x.fresh && !r.newSeq) then
    st (raiseIrq (statusEvent (incSat s R.VID_STREAM_ERR_CNT v) 21 v .vidStreamError j.tenant [c]) 21 v Irq.VID_STREAM_ERROR)
      .vidStreamError
  else if r.unsupported || vpar s c 3 1 < need + 1 ||
      r.pics.any (fun p => vpar s c 4 2 < p.width || vpar s c 6 2 < p.height) then st s .vidUnsupported
  else
    let later := r.pics.flatMap (fun p => p.outs.map Prod.fst)
    let (s, a) := r.pics.foldl (decodePic v c j.tenant later) (setVctx s c { x with fresh := false }, {})
    let p := r.pics.getLastD { width := 0, height := 0, data := [] }
    endJob s j j.inSegs .ok { flags := b2n a.concealed + 2 * b2n a.taken, bytes := r.used, damaged := a.damaged,
                              steps := stepSum r.steps, width := p.width, height := p.height, outs := a.outs.take 4 }

/-- A flush of a decoder ends (R422, R425): the reference state ends, and held pictures are output, four at a time. -/
def endDecodeFlush (s : State) (j : VJob) (r : VidRes) : State :=
  let c := j.ctx
  let outs := r.outs.take 4
  let s := (outs.map Prod.fst).foldl (outputBuf c) s
  let s := (List.range 64).foldl (unrefBuf c ((r.outs.drop 4).map Prod.fst)) s
  let s := setVctx s c { vctx s c with fresh := true }
  endJob s j 0 .ok { flags := 4 * b2n (4 < r.outs.length), steps := stepSum r.steps, outs := outs }

/-! ### Rate control (R431 to R433) -/

/-- A rational number of bits. -/
structure Bits where
  num : Int
  den : Nat
  deriving DecidableEq, Repr

def bitsMin (a b : Bits) : Bits := if a.num * b.den ≤ b.num * a.den then a else b
def bitsSub (a : Bits) (n : Int) : Bits := ⟨a.num - n * a.den, a.den⟩

/-- The budget of a picture by type, before it is adjusted (R431): w is 3.0, 1.0 and 0.6. -/
def baseBudget (s : State) (c kind : Nat) : Bits :=
  ⟨((vpar s c 44 4 * 1000 * vpar s c 54 2 * (if kind = 0 then 30 else if kind = 1 then 10 else 6) : Nat) : Int),
   10 * max (vpar s c 52 2) 1⟩

/-- The budget T of the next picture (R431, R432): CBR corrects it by the rate buffer and keeps that from overflowing, VBR keeps it
to twice its value; bits overspent before are taken from it. -/
def budget (s : State) (c kind : Nat) : Bits :=
  let x := vctx s c
  let t := baseBudget s c kind
  let vbv : Int := vpar s c 48 4 * 1000
  let adj : Bits :=
    if vpar s c 40 1 = 1 then
      let a : Bits := ⟨16 * t.num + (vbv - 2 * x.full) * t.den, 16 * t.den⟩
      bitsMin a ⟨vbv - x.full, 1⟩
    else ⟨t.num, t.den⟩
  let adj := bitsSub adj x.owed
  if vpar s c 40 1 = 2 then bitsMin adj ⟨2 * t.num, t.den⟩ else adj

def clampQp (s : State) (c : Nat) (q : Int) : Nat := (max (vpar s c 42 1 : Int) (min (vpar s c 43 1 : Int) q)).toNat

/-- QP of an I, P or B picture at constant QP (R431). -/
def constQp (s : State) (c kind : Nat) : Nat := clampQp s c (vpar s c 41 1 + 2 * kind : Nat)

/-- round(6 × log2(bits / T)) within ±4 (R431): how many of the half steps 2^((2k − 1) / 12) the ratio passes. -/
def qpStep (bits : Nat) (t : Bits) : Int :=
  if t.num ≤ 0 then 4
  else
    let n := (bits * t.den) ^ 12
    let d := t.num.toNat ^ 12
    ((List.range 8).foldl (fun (a : Int) (i : Nat) =>
      let k : Int := 2 * (i : Int) - 7
      let pass := if 0 ≤ k then d * 2 ^ k.toNat ≤ n else d ≤ n * 2 ^ (-k).toNat
      if pass then a + 1 else a) (-4))

/-- The picture's QP (R431). -/
def picQp (s : State) (c kind : Nat) (t : Bits) : Nat :=
  if vpar s c 40 1 = 0 then constQp s c kind
  else
    match tget (0, 0) (vctx s c).last kind with
    | (q1, bits) => if q1 = 0 then constQp s c kind else clampQp s c ((q1 - 1 : Nat) + qpStep bits t)

/-- QPs of the rows of a unit whose share of the budget is T × area / whole (R432): after each row the QP moves with the spend
against the plan; once the spend reaches T the rest is coded at QP_MAX, or skipped. -/
def rowQps (s : State) (c base kind : Nat) (t : Bits) (n : Nat) : Nat → Nat → Nat → List Nat → List Nat
  | _, _, _, [] => []
  | r, spent, q, b :: rest =>
    let lo := max (vpar s c 42 1) (base - vpar s c 58 1)
    let hi := min (vpar s c 43 1) (base + vpar s c 58 1)
    let now := spent + b
    let plan : Int := t.num * ((r : Int) + 1)
    let above : Int := 10 * (now : Int) * (t.den * n : Nat)
    let q' := if 11 * plan < above then min hi (q + 1) else if above < 9 * plan then max lo (q - 1) else q
    let q' := if t.num ≤ (now : Int) * t.den then
        (if vpar s c 59 1 = 1 && kind ≠ 0 then q' else vpar s c 43 1) else q'
    q :: rowQps s c base kind t n (r + 1) now q' rest

/-- QPs of every row of a picture. -/
def picRowQps (s : State) (c kind : Nat) (t : Bits) (units : List (Nat × List Nat)) : List Nat :=
  let q := picQp s c kind t
  let whole := max ((units.map Prod.fst).foldl (· + ·) 0) 1
  if vpar s c 40 1 = 0 then units.flatMap (fun u => u.2.map (fun _ => q))
  else units.flatMap (fun u => rowQps s c q kind ⟨t.num * u.1, t.den * whole⟩ (max u.2.length 1) 0 0 q u.2)

/-- What an encode job has gathered. -/
structure EncAcc where
  key   : Bool := false
  overspend : Nat := 0
  qps   : List Nat := []
  bytes : List Byte := []
  deriving DecidableEq, Repr

/-- Whether the next coded picture is intra: the first one, one that FORCE_KEY asks for, or the KEY_INT-th (R419, R420). -/
def mustKey (s : State) (j : VJob) : Bool :=
  (j.key && j.op = 1) || (vctx s j.ctx).sinceKey = 0 || vpar s j.ctx 60 2 ≤ (vctx s j.ctx).sinceKey

/-- One coded picture (R431 to R433). How a fraction of a bit over budget shows is not stated, and is a free choice. -/
def encodePic (j : VJob) (first : Bool) (a : State × EncAcc) (p : EncPic) : State × EncAcc :=
  let s := a.1
  let c := j.ctx
  let x := vctx s c
  let kind := if first && mustKey s j then 0 else p.kind
  let t := budget s c kind
  let qps := picRowQps s c kind t p.units
  let bits : Nat := ((p.units.flatMap Prod.snd)).foldl (fun (a b : Nat) => a + b) 0
  let lim := outBound (vpar s c 4 2) (vpar s c 6 2) (bitsOf (vpar s c 0 1) 5 1 = 1)
  let excess : Int := (bits : Int) * t.den - t.num
  let whole := excess.toNat / max t.den 1
  let overspend := if vpar s c 40 1 = 0 then 0 else whole + (if excess.toNat % max t.den 1 = 0 then 0 else freeVal s 0 % 2)
  let drain : Int := (vpar s c 44 4 * 1000 * vpar s c 54 2 / max (vpar s c 52 2) 1 : Nat)
  let s := setVctx s c { x with last := tset (0, 0) kind (picQp s c kind t + 1, bits) x.last, owed := overspend,
                                full := max 0 (x.full + (bits : Int) - drain), sinceKey := if kind = 0 then 1 else x.sinceKey + 1 }
  (useFree (incSat s R.VID_PICTURES (j.engines.headD 0)),
   { key := a.2.key || kind = 0, overspend := a.2.overspend + overspend, qps := a.2.qps ++ qps, bytes := a.2.bytes ++ p.bytes.take lim })

/-- Mean of the row QPs; how a fraction shows is a free choice. -/
def avgQp (s : State) (l : List Nat) : Nat :=
  if l.isEmpty then 0
  else
    let t := l.foldl (· + ·) 0
    t / l.length + (if t % l.length = 0 then 0 else freeVal s 1 % 2)

/-- Writes a bitstream towards the host, for a tenant that seals segment by segment (R265, R419). -/
def writeStream (s : State) (j : VJob) (tagged : Nat) (bs : List Byte) : State :=
  if tenSeals s j.tenant then
    (List.range (segCount bs.length)).foldl (fun s i =>
      towardsHost s j.tenant 0 j.queue (j.out + 4096 * i) (j.result + 64 + 32 * (tagged + i)) ((bs.drop (4096 * i)).take 4096)) s
  else if bs.isEmpty then s else towardsHost s j.tenant 0 j.queue j.out 0 bs

/-- An encoder's job ends. -/
def endEncode (s : State) (j : VJob) (r : VidRes) : State :=
  let c := j.ctx
  let n := planeBytes (vpar s c 4 2) (vpar s c 6 2) (bitsOf (vpar s c 0 1) 5 1 = 1) (bitsOf (vpar s c 0 1) 4 1 = 1)
  let st := fun (w : Status) => endJob s j 0 w { steps := stepSum r.steps }
  match (if j.op = 1 then accessFail s j.tenant j.src n else none) with
  | some w => st w
  | none =>
    if j.op = 1 && rangePoison s j.src n then st .memPoison
    else
      let (s, a) := (r.coded.zipIdx).foldl (fun a p => encodePic j (p.2 = 0) a p.1) (s, {})
      let bs := a.bytes.take j.cap
      let s := useFree (writeStream s j 0 bs)
      endJob s j (if tenSeals s j.tenant then segCount bs.length else 0) .ok
        { flags := 8 * b2n a.key + 16 * b2n (0 < a.overspend), bytes := bs.length, steps := stepSum r.steps,
          width := vpar s c 4 2, height := vpar s c 6 2, overspend := min a.overspend 0xFFFFFFFF, avgQp := avgQp s a.qps }

/-- VIDEO_JOB_END (R422): a context's running job ends; units that fail are read again first (R246). -/
def execVideoJobEnd (c : Nat) (r : VidRes) (s : State) : Host.Outcome State Fault Refusal :=
  .next (match s.vid.jobs.find? (fun j => j.ctx = c && j.st = 1) with
  | none => s
  | some j =>
    let s := readFails s (.codec c) r.env
    if waitsReRead s (.codec c) then s
    else
      let s := countBusy s j r.steps
      let s := if j.encode then endEncode s j r else if j.op = 2 then endDecodeFlush s j r else endDecode s j r
      r.env.writeBad.foldl writePathBad s)

/-! ### The pre-processor (R436 to R438) -/

def preField (b : List Byte) (a n : Nat) : Nat := fieldAt b a n
def preFlag (b : List Byte) (i : Nat) : Bool := bitsOf (fieldAt b 17 1) i 1 = 1
/-- Channels of the output. -/
def preChans (b : List Byte) : Nat := if bitsOf (fieldAt b 18 1) 4 2 = 2 then 1 else 3
def preElem (b : List Byte) : Nat := fmtBits (fieldAt b 18 1 % 16) / 8
def preTen (b : List Byte) : Bool := bitsOf (fieldAt b 18 1) 6 1 = 1
def preMono (b : List Byte) : Bool := bitsOf (fieldAt b 18 1) 7 1 = 1
/-- Bytes of one crop's tensor. -/
def preTensor (b : List Byte) : Nat := fieldAt b 28 2 * fieldAt b 30 2 * preChans b * preElem b
/-- Rows of the luma plane. -/
def preRows (b : List Byte) : Nat := (fieldAt b 22 2 + 63) / 64 * 64
def preSource (b : List Byte) : Nat :=
  let luma := fieldAt b 24 4 * preRows b
  if preMono b then luma else luma + luma / 2

/-- Values that R436 reserves. -/
def preReserved (b : List Byte) : Bool :=
  bitsOf (fieldAt b 17 1) 4 2 = 3 || bitsOf (fieldAt b 18 1) 4 2 = 3 || !([0, 1, 2, 3, 10, 11].contains (fieldAt b 18 1 % 16)) ||
  (preMono b && bitsOf (fieldAt b 18 1) 4 2 ≠ 2)
def preRanges (b : List Byte) : Bool :=
  1 ≤ fieldAt b 19 1 && fieldAt b 19 1 ≤ 16 && 16 ≤ fieldAt b 20 2 && fieldAt b 20 2 ≤ 8192 && 16 ≤ fieldAt b 22 2 &&
  fieldAt b 22 2 ≤ 8192 && fieldAt b 24 4 % 256 = 0 && 1 ≤ fieldAt b 28 2 && fieldAt b 28 2 ≤ 4096 && 1 ≤ fieldAt b 30 2 &&
  fieldAt b 30 2 ≤ 4096

/-- A crop's position and size from the crop table. -/
def cropOf (s : State) (b : List Byte) (i : Nat) : Nat × Nat × Nat × Nat :=
  let a := fieldAt b 40 8 + 8 * i
  (memNat s a 2, memNat s (a + 2) 2, memNat s (a + 4) 2, memNat s (a + 6) 2)

/-- The checks of R436. -/
def preCheck (s : State) (r : RunCmd) : Option Status :=
  let b := r.sub.bytes
  let t := fieldAt b 16 1
  let n := fieldAt b 19 1
  if preReserved b then some .fieldReserved
  else if !preRanges b then some .lengthRange
  else if !tenantOk r false t then some .tenantMismatch
  else if !tenActive s t then some .tenantRetiring
  else
    match [(fieldAt b 32 8, preSource b), (fieldAt b 40 8, 8 * n), (fieldAt b 48 8, n * preTensor b), (fieldAt b 56 8, 24)].findSome?
        (fun x => accessFail s t x.1 x.2) with
    | some st => some st
    | none =>
      if (List.range n).any (fun i =>
          let c := cropOf s b i
          c.2.2.1 = 0 || c.2.2.2 = 0 || fieldAt b 20 2 < c.1 + c.2.2.1 || fieldAt b 22 2 < c.2.1 + c.2.2.2) then some .lengthRange
      else none

/-- VID_PRE (R436, R438): checked, then queued; live when its queue's last opened context is open and live. -/
def execVidPre (q : Nat) (s : State) : Host.Outcome State Fault Refusal :=
  .next (match running s q 0x12 with
  | none => s
  | some r =>
    match preCheck s r with
    | some st => finishCmd (irqEvent (incSat s R.VPRE_ERR_CNT) 22 0 Irq.VPRE_JOB_ERROR (fieldAt r.sub.bytes 16 1) [statusValue st]) q st 0
    | none =>
      let n := s.vid.serial
      let live := match tget 0 s.vid.opened q with
        | 0 => false
        | c + 1 => vctxState s c = 1 && vctxLive s c
      let j : PreJob := { serial := n, queue := q, tenant := fieldAt r.sub.bytes 16 1, entry := r.sub.bytes, live := live }
      setBusy { s with vid := { s.vid with serial := n + 1, pre := s.vid.pre ++ [j] } } q)

/-- VPRE_JOB_START (R438). -/
def execVpreJobStart (s : State) : Host.Outcome State Fault Refusal :=
  .next (
    if s.vid.preRun.isSome || dom s 392 ≠ 0 || s.boot.preset = some 392 || admissionsStopped s then s
    else
      match (s.vid.pre.filter (fun j => j.live) ++ s.vid.pre.filter (fun j => !j.live)).head? with
      | none => s
      | some j =>
        wr (wr { s with vid := { s.vid with preRun := some j.serial } } R.VPRE_STAT_BUSY 1) R.VPRE_STAT_TENANT j.tenant)

/-! #### Samples and arithmetic (R437) -/

/-- An exact rational. -/
structure Ratio where
  n : Int
  d : Nat
  deriving DecidableEq, Repr

def rAdd (a b : Ratio) : Ratio := if a.d = b.d then ⟨a.n + b.n, a.d⟩ else ⟨a.n * b.d + b.n * a.d, a.d * b.d⟩
def rSub (a b : Ratio) : Ratio := rAdd a ⟨-b.n, b.d⟩
def rMul (a b : Ratio) : Ratio := ⟨a.n * b.n, a.d * b.d⟩
def rDiv (a b : Ratio) : Ratio := ⟨a.n * b.d * b.n.sign, a.d * b.n.natAbs⟩

/-- Rounds a rational once into FP32, to nearest even: its quotient far below the last place, with the rest as a sticky bit. -/
def rRound (a : Ratio) : Nat :=
  let m := a.n.natAbs * 2 ^ 256 / a.d
  let sticky := if a.n.natAbs * 2 ^ 256 % a.d = 0 then 0 else 1
  toFp32 (.fin (a.n < 0) (2 * m + sticky) (-257))

/-- The rational that a finite FP32 code stands for. -/
def rOf (c : Nat) : Ratio :=
  match fp32 c with
  | .fin neg m e =>
    let v : Int := if neg then -(m : Int) else m
    if 0 ≤ e then ⟨v * 2 ^ e.toNat, 1⟩ else ⟨v, 2 ^ (-e).toNat⟩
  | _ => ⟨0, 1⟩

/-- Luma sample at a picture position. -/
def lumaAt (s : State) (b : List Byte) (x y : Nat) : Nat :=
  let a := fieldAt b 32 8 + fieldAt b 24 4 * y + x * sampleBytes (preTen b)
  if preTen b then memNat s a 2 % 1024 else memNat s a 1

/-- Cb (`k` 0) or Cr (`k` 1) sample of the chroma plane, clamped to the plane. -/
def chromaAt (s : State) (b : List Byte) (k x y : Nat) : Nat :=
  let x := min x ((fieldAt b 20 2 + 1) / 2 - 1)
  let y := min y ((fieldAt b 22 2 + 1) / 2 - 1)
  let a := fieldAt b 32 8 + fieldAt b 24 4 * preRows b + fieldAt b 24 4 * y + (2 * x + k) * sampleBytes (preTen b)
  if preTen b then memNat s a 2 % 1024 else memNat s a 1

/-- Eight times a plane's sample at a luma position; chroma is co-sited horizontally with even luma samples and lies midway
vertically. Plane 0 is luma, 1 Cb, 2 Cr. -/
def planeAt (s : State) (b : List Byte) (plane x y : Nat) : Nat :=
  if plane = 0 then 8 * lumaAt s b x y
  else
    let row := fun y => if x % 2 = 0 then 2 * chromaAt s b (plane - 1) (x / 2) y
      else chromaAt s b (plane - 1) (x / 2) y + chromaAt s b (plane - 1) (x / 2 + 1) y
    if y % 2 = 0 then row (y / 2 - 1) + 3 * row (y / 2) else 3 * row (y / 2) + row (y / 2 + 1)

/-- Width and height of a crop after rotation. -/
def turned (b : List Byte) (w h : Nat) : Nat × Nat := if fieldAt b 17 1 % 2 = 1 then (h, w) else (w, h)

/-- Eight times the sample of a rotated and mirrored crop at (i, j). -/
def cropAt (s : State) (b : List Byte) (c : Nat × Nat × Nat × Nat) (plane i j : Nat) : Nat :=
  let w := c.2.2.1
  let h := c.2.2.2
  let t := turned b w h
  let i := if preFlag b 2 then t.1 - 1 - i else i
  let p := match fieldAt b 17 1 % 4 with
    | 0 => (i, j)
    | 1 => (j, h - 1 - i)
    | 2 => (w - 1 - i, h - 1 - j)
    | _ => (w - 1 - j, i)
  planeAt s b plane (c.1 + p.1) (c.2.1 + p.2)

/-- Source positions and weights, over a common denominator, of an output position in one dimension: `n` source samples, `m`
output samples (R437, step 3). Bilinear weighs the two nearest, area averaging every sample by its overlap. -/
def axisWeights (area : Bool) (n m x : Nat) : List (Nat × Nat) × Nat :=
  if area then
    ((List.range n).filterMap (fun i =>
      let lo := max (i * m) (x * n)
      let hi := min ((i + 1) * m) ((x + 1) * n)
      if lo < hi then some (i, hi - lo) else none), n)
  else
    let t := (2 * x + 1) * n
    let u := min (t - m) ((n - 1) * (2 * m))
    let i := u / (2 * m)
    let f := u % (2 * m)
    (if f = 0 then [(i, 2 * m)] else [(i, 2 * m - f), (i + 1, f)], 2 * m)

/-- Step 3: the scaledPic sample, in FP32. -/
def scaledPic (s : State) (b : List Byte) (c : Nat × Nat × Nat × Nat) (plane x y : Nat) : Nat :=
  let t := turned b c.2.2.1 c.2.2.2
  let wx := axisWeights (preFlag b 3) t.1 (fieldAt b 28 2) x
  let wy := axisWeights (preFlag b 3) t.2 (fieldAt b 30 2) y
  let v := (wy.1.flatMap (fun q => wx.1.map (fun p => p.2 * q.2 * cropAt s b c plane p.1 q.1))).foldl (· + ·) 0
  rRound ⟨(v : Nat), 8 * wx.2 * wy.2⟩

/-- Step 4: the normalised sample. -/
def normSample (b : List Byte) (chroma : Bool) (c : Nat) : Nat :=
  let d : Int := if preTen b then 4 else 1
  let top : Int := if preTen b then 1023 else 255
  let x := rOf c
  rRound (
    if preFlag b 6 then (if chroma then rDiv (rSub x ⟨128 * d, 1⟩) ⟨top, 1⟩ else rDiv x ⟨top, 1⟩)
    else if chroma then rDiv (rSub x ⟨128 * d, 1⟩) ⟨224 * d, 1⟩ else rDiv (rSub x ⟨16 * d, 1⟩) ⟨219 * d, 1⟩)

/-- Kr and Kb of MATRIX, in ten-thousandths. -/
def matrixK : Nat → Int × Int
  | 0 => (2990, 1140)
  | 1 => (2126, 722)
  | _ => (2627, 593)

/-- Clamps an FP32 value to [0, 1]. -/
def clampUnit (c : Nat) : Nat :=
  let r := rOf c
  if r.n ≤ 0 then 0 else if (r.d : Int) ≤ r.n then 0x3F800000 else c

/-- Step 5: red, green and blue, or luma. -/
def colours (b : List Byte) (y cb cr : Nat) : List Nat :=
  let k := matrixK (bitsOf (fieldAt b 17 1) 4 2)
  let red := rRound (rAdd (rOf y) (rMul ⟨2 * (10000 - k.1), 10000⟩ (rOf cr)))
  let blue := rRound (rAdd (rOf y) (rMul ⟨2 * (10000 - k.2), 10000⟩ (rOf cb)))
  let green := rRound (rDiv (rSub (rSub (rOf y) (rMul ⟨k.1, 10000⟩ (rOf red))) (rMul ⟨k.2, 10000⟩ (rOf blue)))
    ⟨10000 - k.1 - k.2, 10000⟩)
  match bitsOf (fieldAt b 18 1) 4 2 with
  | 0 => [red, green, blue].map clampUnit
  | 1 => [blue, green, red].map clampUnit
  | _ => [clampUnit y]

/-- Steps 6 and 7: the element code of a channel. -/
def preCode (s : State) (b : List Byte) (k v : Nat) : Nat :=
  let mean := fp32 (memNat s (fieldAt b 56 8 + 4 * k) 4)
  let scale := fp32 (memNat s (fieldAt b 56 8 + 12 + 4 * k) 4)
  let minus : Val := match mean with
    | .fin n m e => .fin (!n) m e
    | .inf n => .inf (!n)
    | .nan => .nan
  encodeElem (fieldAt b 18 1 % 16) none (fp32 (toFp32 (valMul (valAdd (fp32 v) minus) scale)))

/-- Element codes of the output position (x, y) of a crop, by channel. -/
def prePixel (s : State) (b : List Byte) (c : Nat × Nat × Nat × Nat) (x y : Nat) : List Nat :=
  let luma := normSample b false (scaledPic s b c 0 x y)
  let chroma := fun p => if preChans b = 1 then 0 else normSample b true (scaledPic s b c p x y)
  ((colours b luma (chroma 1) (chroma 2)).zipIdx).map (fun e => preCode s b e.2 e.1)

/-- The bytes of a crop's tensor, planar or interleaved. -/
def cropTensor (s : State) (b : List Byte) (i : Nat) : List Byte :=
  let c := cropOf s b i
  let w := fieldAt b 28 2
  let h := fieldAt b 30 2
  let px := fun x y => prePixel s b c x y
  let codes :=
    if preFlag b 7 then (List.range h).flatMap (fun y => (List.range w).flatMap (fun x => px x y))
    else (List.range (preChans b)).flatMap (fun k =>
      (List.range h).flatMap (fun y => (List.range w).map (fun x => (px x y).getD k 0)))
  codes.flatMap (leBytes (preElem b))

/-- VPRE_JOB_END (R437, R438): the tensors of every crop are written, unless poisoned data was read. -/
def execVpreJobEnd (steps : Nat) (env : MemEnv) (s : State) : Host.Outcome State Fault Refusal :=
  .next (match s.vid.pre.find? (fun j => s.vid.preRun = some j.serial) with
  | none => s
  | some j =>
    let s := readFails s .vpre env
    if waitsReRead s .vpre then s
    else
      let b := j.entry
      let n := fieldAt b 19 1
      let s := incWrap s R.VPRE_STEPS steps
      let bad := [(fieldAt b 32 8, preSource b), (fieldAt b 40 8, 8 * n), (fieldAt b 56 8, 24)].any (fun x => rangePoison s x.1 x.2)
      let s := dropPre s j
      if bad then finishCmd s j.queue .memPoison 0
      else
        let s := (List.range n).foldl (fun t i => memWrite t (fieldAt b 48 8 + i * preTensor b) (cropTensor s b i)) s
        let s := env.writeBad.foldl writePathBad s
        finishCmd (incSat s R.VPRE_JOBS) j.queue .ok 0)

end Sys2Proof.Machine
end

