-- ==== Sys2Proof/Machine/Dispatch.lean ====
section
/-!
DEFINITION. Which meaning each command has: one arm for each constructor.
-/

namespace Sys2Proof.Machine

def exec (i : Instr) (s : State) : Host.Outcome State Fault Refusal :=
  match i with
  | .governorInterval die e => Sys2Proof.Machine.execGovernorInterval die e s
  | .marginUpdate die entry src => Sys2Proof.Machine.execMarginUpdate die entry src s
  | .paceMarginWrite w die raise => Sys2Proof.Machine.execPaceMarginWrite w die raise s
  | .clearAll w die v => Sys2Proof.Machine.execClearAll w die v s
  | .paceFloorWrite w die v => Sys2Proof.Machine.execPaceFloorWrite w die v s
  | .paceVlimWrite w die vmin vmax => Sys2Proof.Machine.execPaceVlimWrite w die vmin vmax s
  | .recomputePredictions die => Sys2Proof.Machine.execRecomputePredictions die s
  | .ctrlNop cell => Sys2Proof.Machine.execCtrlNop cell s
  | .end_ cell => Sys2Proof.Machine.execEnd cell s
  | .mark cell markId => Sys2Proof.Machine.execMark cell markId s
  | .mma cell a => Sys2Proof.Machine.execMma cell a s
  | .add cell a => Sys2Proof.Machine.execAdd cell a s
  | .mul cell a => Sys2Proof.Machine.execMul cell a s
  | .fma cell a => Sys2Proof.Machine.execFma cell a s
  | .max_ cell a => Sys2Proof.Machine.execMax cell a s
  | .min_ cell a => Sys2Proof.Machine.execMin cell a s
  | .rsum cell a => Sys2Proof.Machine.execRsum cell a s
  | .rmax cell a => Sys2Proof.Machine.execRmax cell a s
  | .scale cell a => Sys2Proof.Machine.execScale cell a s
  | .copy cell a => Sys2Proof.Machine.execCopy cell a s
  | .exp cell a => Sys2Proof.Machine.execExp cell a s
  | .log cell a => Sys2Proof.Machine.execLog cell a s
  | .recip cell a => Sys2Proof.Machine.execRecip cell a s
  | .rsqrt cell a => Sys2Proof.Machine.execRsqrt cell a s
  | .cvt cell a => Sys2Proof.Machine.execCvt cell a s
  | .moveMemToStore cell a => Sys2Proof.Machine.execMoveMemToStore cell a s
  | .moveStoreToMem cell a => Sys2Proof.Machine.execMoveStoreToMem cell a s
  | .moveLocal cell a => Sys2Proof.Machine.execMoveLocal cell a s
  | .moveCellToCell cell a => Sys2Proof.Machine.execMoveCellToCell cell a s
  | .moveToPipe cell a => Sys2Proof.Machine.execMoveToPipe cell a s
  | .moveFromPipe cell a => Sys2Proof.Machine.execMoveFromPipe cell a s
  | .attnCell cell cmdAddr => Sys2Proof.Machine.execAttnCell cell cmdAddr s
  | .attnCellBackward cell cmdAddr => Sys2Proof.Machine.execAttnCellBackward cell cmdAddr s
  | .attnPipe cell cmdAddr => Sys2Proof.Machine.execAttnPipe cell cmdAddr s
  | .attnPipeBackward cell cmdAddr => Sys2Proof.Machine.execAttnPipeBackward cell cmdAddr s
  | .stepComplete part e => Sys2Proof.Machine.execStepComplete part e s
  | .memRead part entry => Sys2Proof.Machine.execMemRead part entry s
  | .memWrite part entry => Sys2Proof.Machine.execMemWrite part entry s
  | .streamRefill part entry => Sys2Proof.Machine.execStreamRefill part entry s
  | .refreshEntry part entry => Sys2Proof.Machine.execRefreshEntry part entry s
  | .kvRead part entry => Sys2Proof.Machine.execKvRead part entry s
  | .kvWrite part entry => Sys2Proof.Machine.execKvWrite part entry s
  | .openEntry part entry => Sys2Proof.Machine.execOpenEntry part entry s
  | .memEntryDone part entry e => Sys2Proof.Machine.execMemEntryDone part entry e s
  | .routeTransfer part entry => Sys2Proof.Machine.execRouteTransfer part entry s
  | .cellTestStart w cell stress => Sys2Proof.Machine.execCellTestStart w cell stress s
  | .cellTestDone cell failUnit => Sys2Proof.Machine.execCellTestDone cell failUnit s
  | .pipeTestStart w pipe stress => Sys2Proof.Machine.execPipeTestStart w pipe stress s
  | .pipeTestDone pipe failUnit => Sys2Proof.Machine.execPipeTestDone pipe failUnit s
  | .cellRetire w cell v => Sys2Proof.Machine.execCellRetire w cell v s
  | .pipeRetire w quad v => Sys2Proof.Machine.execPipeRetire w quad v s
  | .retirementBegin => Sys2Proof.Machine.execRetirementBegin s
  | .retirementSpareTest => Sys2Proof.Machine.execRetirementSpareTest s
  | .quadPartWrite w quad v => Sys2Proof.Machine.execQuadPartWrite w quad v s
  | .memcPartWrite w memc v => Sys2Proof.Machine.execMemcPartWrite w memc v s
  | .seamLaneWrite w die v => Sys2Proof.Machine.execSeamLaneWrite w die v s
  | .fastlaneWrite w v => Sys2Proof.Machine.execFastlaneWrite w v s
  | .loadPlan queue image bad => Sys2Proof.Machine.execLoadPlan queue image bad s
  | .planChecksDone slot => Sys2Proof.Machine.execPlanChecksDone slot s
  | .unloadPlan queue => Sys2Proof.Machine.execUnloadPlan queue s
  | .launch queue => Sys2Proof.Machine.execLaunch queue s
  | .launchStart part => Sys2Proof.Machine.execLaunchStart part s
  | .preloadDone part => Sys2Proof.Machine.execPreloadDone part s
  | .launchEnd part => Sys2Proof.Machine.execLaunchEnd part s
  | .seqOpen queue => Sys2Proof.Machine.execSeqOpen queue s
  | .seqGrow queue => Sys2Proof.Machine.execSeqGrow queue s
  | .seqCommit queue => Sys2Proof.Machine.execSeqCommit queue s
  | .seqRollback queue => Sys2Proof.Machine.execSeqRollback queue s
  | .seqClose queue => Sys2Proof.Machine.execSeqClose queue s
  | .heldOpResume seq => Sys2Proof.Machine.execHeldOpResume seq s
  | .parkGrant => Sys2Proof.Machine.execParkGrant s
  | .parkDeadline seq => Sys2Proof.Machine.execParkDeadline seq s
  | .prefixCopyDone dst => Sys2Proof.Machine.execPrefixCopyDone dst s
  | .frameScrubDone frame => Sys2Proof.Machine.execFrameScrubDone frame s
  | .kvpgPoolWrite w pages v => Sys2Proof.Machine.execKvpgPoolWrite w pages v s
  | .kvpgSeqBaseWrite w v => Sys2Proof.Machine.execKvpgSeqBaseWrite w v s
  | .kvpgResvWrite w v => Sys2Proof.Machine.execKvpgResvWrite w v s
  | .request queue desc prompt bad => Sys2Proof.Machine.execRequest queue desc prompt bad s
  | .admissionAfterWake req => Sys2Proof.Machine.execAdmissionAfterWake req s
  | .slotEnable w v => Sys2Proof.Machine.execSlotEnable w v s
  | .servingLaunchPrepare slot => Sys2Proof.Machine.execServingLaunchPrepare slot s
  | .servingLaunchResult work => Sys2Proof.Machine.execServingLaunchResult work s
  | .prefixLookup req => Sys2Proof.Machine.execPrefixLookup req s
  | .cancel queue => Sys2Proof.Machine.execCancel queue s
  | .burstWrite w v => Sys2Proof.Machine.execBurstWrite w v s
  | .pfxTenWrite w nodes v => Sys2Proof.Machine.execPfxTenWrite w nodes v s
  | .memSetMapWrite w v => Sys2Proof.Machine.execMemSetMapWrite w v s
  | .extentOwn w tenant => Sys2Proof.Machine.execExtentOwn w tenant s
  | .extentRelease w => Sys2Proof.Machine.execExtentRelease w s
  | .extentScrubDone extent => Sys2Proof.Machine.execExtentScrubDone extent s
  | .memoryTrainingDone failed micros => Sys2Proof.Machine.execMemoryTrainingDone failed micros s
  | .eccReRead addr who clean => Sys2Proof.Machine.execEccReRead addr who clean s
  | .poisonMarkWrite unit => Sys2Proof.Machine.execPoisonMarkWrite unit s
  | .refreshDue memc chan => Sys2Proof.Machine.execRefreshDue memc chan s
  | .packageTempRead memc temp rate => Sys2Proof.Machine.execPackageTempRead memc temp rate s
  | .patrolScrub memc e done => Sys2Proof.Machine.execPatrolScrub memc e done s
  | .hostWindowRead fn off len e => Sys2Proof.Machine.execHostWindowRead fn off len e s
  | .hostWindowWrite fn off data e => Sys2Proof.Machine.execHostWindowWrite fn off data e s
  | .perstNRelease => Sys2Proof.Machine.execPerstNRelease s
  | .perstNAssert cut => Sys2Proof.Machine.execPerstNAssert cut s
  | .readinessTimeout => Sys2Proof.Machine.execReadinessTimeout s
  | .startupReady => Sys2Proof.Machine.execStartupReady s
  | .functionLevelReset fn cut => Sys2Proof.Machine.execFunctionLevelReset fn cut s
  | .hotReset cut => Sys2Proof.Machine.execHotReset cut s
  | .hostLinkDown cut => Sys2Proof.Machine.execHostLinkDown cut s
  | .refclkLoss cut => Sys2Proof.Machine.execRefclkLoss cut s
  | .refclkReturn => Sys2Proof.Machine.execRefclkReturn s
  | .linkTrained speed width flit => Sys2Proof.Machine.execLinkTrained speed width flit s
  | .linkRetrain w v => Sys2Proof.Machine.execLinkRetrain w v s
  | .hostFnCfgWrite w v => Sys2Proof.Machine.execHostFnCfgWrite w v s
  | .hostFnMsixWrite w v enabled => Sys2Proof.Machine.execHostFnMsixWrite w v enabled s
  | .hostFnWinWrite w v => Sys2Proof.Machine.execHostFnWinWrite w v s
  | .bar4Resize fn size memEnable => Sys2Proof.Machine.execBar4Resize fn size memEnable s
  | .dma queue => Sys2Proof.Machine.execDma queue s
  | .dmaGo w eng => Sys2Proof.Machine.execDmaGo w eng s
  | .dmaTransferDone eng data bad env => Sys2Proof.Machine.execDmaTransferDone eng data bad env s
  | .hostReadError byEngine n moved => Sys2Proof.Machine.execHostReadError byEngine n moved s
  | .query sid => Sys2Proof.Machine.execQuery sid s
  | .keyProg sid stream set sub dir => Sys2Proof.Machine.execKeyProg sid stream set sub dir s
  | .kSetGo sid stream set => Sys2Proof.Machine.execKSetGo sid stream set s
  | .kSetStop sid stream set => Sys2Proof.Machine.execKSetStop sid stream set s
  | .create fn also => Sys2Proof.Machine.execCreate fn also s
  | .delete fn also cut => Sys2Proof.Machine.execDelete fn also cut s
  | .resume fn also => Sys2Proof.Machine.execResume fn also s
  | .queueFlush fn also rest => Sys2Proof.Machine.execQueueFlush fn also rest s
  | .doorbell fn off n v => Sys2Proof.Machine.execDoorbell fn off n v s
  | .entryFetched queue bytes res ctr => Sys2Proof.Machine.execEntryFetched queue bytes res ctr s
  | .commandStart queue => Sys2Proof.Machine.execCommandStart queue s
  | .nop queue => Sys2Proof.Machine.execNop queue s
  | .wait queue => Sys2Proof.Machine.execWait queue s
  | .peerCopy queue => Sys2Proof.Machine.execPeerCopy queue s
  | .remoteSignal queue => Sys2Proof.Machine.execRemoteSignal queue s
  | .invalidOpcode queue => Sys2Proof.Machine.execInvalidOpcode queue s
  | .commandTimeout queue cut => Sys2Proof.Machine.execCommandTimeout queue cut s
  | .qmgrSigBaseWrite w v => Sys2Proof.Machine.execQmgrSigBaseWrite w v s
  | .dbpMapWrite w fn => Sys2Proof.Machine.execDbpMapWrite w fn s
  | .portEnable w p v => Sys2Proof.Machine.execPortEnable w p v s
  | .portDisable w p v => Sys2Proof.Machine.execPortDisable w p v s
  | .trainingPhaseDone p info => Sys2Proof.Machine.execTrainingPhaseDone p info s
  | .trainingBoundExpiry p => Sys2Proof.Machine.execTrainingBoundExpiry p s
  | .linkKeyExchange p chainOk sigOk peerDebug => Sys2Proof.Machine.execLinkKeyExchange p chainOk sigOk peerDebug s
  | .retrainWaitExpiry p => Sys2Proof.Machine.execRetrainWaitExpiry p s
  | .wagRetrain w p v => Sys2Proof.Machine.execWagRetrain w p v s
  | .frameReceive p f env => Sys2Proof.Machine.execFrameReceive p f env s
  | .frameTransmit p env => Sys2Proof.Machine.execFrameTransmit p env s
  | .replayTimerExpiry p => Sys2Proof.Machine.execReplayTimerExpiry p s
  | .replayBudgetExpiry p => Sys2Proof.Machine.execReplayBudgetExpiry p s
  | .laneLockLoss p mask => Sys2Proof.Machine.execLaneLockLoss p mask s
  | .leavingNotice p => Sys2Proof.Machine.execLeavingNotice p s
  | .leavingWaitExpiry p => Sys2Proof.Machine.execLeavingWaitExpiry p s
  | .rekeyStart p => Sys2Proof.Machine.execRekeyStart p s
  | .rekeyDeadline p => Sys2Proof.Machine.execRekeyDeadline p s
  | .unreachableReport cmd => Sys2Proof.Machine.execUnreachableReport cmd s
  | .copyAcceptReport cmd bytes st => Sys2Proof.Machine.execCopyAcceptReport cmd bytes st s
  | .copyAbort src cmd => Sys2Proof.Machine.execCopyAbort src cmd s
  | .refLost => Sys2Proof.Machine.execRefLost s
  | .hiveRestart w auto => Sys2Proof.Machine.execHiveRestart w auto s
  | .formationPortWaitEnd => Sys2Proof.Machine.execFormationPortWaitEnd s
  | .formationCall src epoch shape => Sys2Proof.Machine.execFormationCall src epoch shape s
  | .join id role time group => Sys2Proof.Machine.execJoin id role time group s
  | .joinWindowEnd bypass => Sys2Proof.Machine.execJoinWindowEnd bypass s
  | .memberList src epoch members deputy time bypass => Sys2Proof.Machine.execMemberList src epoch members deputy time bypass s
  | .memberAck id => Sys2Proof.Machine.execMemberAck id s
  | .formationAckBound => Sys2Proof.Machine.execFormationAckBound s
  | .formingTimeout => Sys2Proof.Machine.execFormingTimeout s
  | .hiveStop => Sys2Proof.Machine.execHiveStop s
  | .waitingNotice id => Sys2Proof.Machine.execWaitingNotice id s
  | .beaconTimer => Sys2Proof.Machine.execBeaconTimer s
  | .queenBeacon => Sys2Proof.Machine.execQueenBeacon s
  | .queenLossTimeout => Sys2Proof.Machine.execQueenLossTimeout s
  | .queenTakeover => Sys2Proof.Machine.execQueenTakeover s
  | .timeExchangeTimer => Sys2Proof.Machine.execTimeExchangeTimer s
  | .timeExchange t1 t2 t3 t4 => Sys2Proof.Machine.execTimeExchange t1 t2 t3 t4 s
  | .meridSlewWrite w v => Sys2Proof.Machine.execMeridSlewWrite w v s
  | .barrierArrival l => Sys2Proof.Machine.execBarrierArrival l s
  | .barrierVerdict b g v => Sys2Proof.Machine.execBarrierVerdict b g v s
  | .barrierRelease b g => Sys2Proof.Machine.execBarrierRelease b g s
  | .backupDelayExpiry b => Sys2Proof.Machine.execBackupDelayExpiry b s
  | .backupStart b g shard => Sys2Proof.Machine.execBackupStart b g shard s
  | .hiveExpel w => Sys2Proof.Machine.execHiveExpel w s
  | .clearSuspect w => Sys2Proof.Machine.execClearSuspect w s
  | .membershipUpdate members => Sys2Proof.Machine.execMembershipUpdate members s
  | .memberLossTimeout p => Sys2Proof.Machine.execMemberLossTimeout p s
  | .reloadShards w auto armed => Sys2Proof.Machine.execReloadShards w auto armed s
  | .barrierEnable w v => Sys2Proof.Machine.execBarrierEnable w v s
  | .progressReportTimer => Sys2Proof.Machine.execProgressReportTimer s
  | .progressReport id useful elapsed wasted => Sys2Proof.Machine.execProgressReport id useful elapsed wasted s
  | .groupKeyGen w => Sys2Proof.Machine.execGroupKeyGen w s
  | .groupKeyDistribution src id key opened => Sys2Proof.Machine.execGroupKeyDistribution src id key opened s
  | .twinPair w => Sys2Proof.Machine.execTwinPair w s
  | .pairWindowExpiry => Sys2Proof.Machine.execPairWindowExpiry s
  | .servAction what => Sys2Proof.Machine.execServAction what s
  | .mirrorLaunch serial d ctxs io => Sys2Proof.Machine.execMirrorLaunch serial d ctxs io s
  | .launchAck serial => Sys2Proof.Machine.execLaunchAck serial s
  | .compareData serial mark bytes => Sys2Proof.Machine.execCompareData serial mark bytes s
  | .twinVerdict serial what => Sys2Proof.Machine.execTwinVerdict serial what s
  | .paceReport pairs => Sys2Proof.Machine.execPaceReport pairs s
  | .twinControl op what => Sys2Proof.Machine.execTwinControl op what s
  | .twinUnpair w => Sys2Proof.Machine.execTwinUnpair w s
  | .twinSwap w => Sys2Proof.Machine.execTwinSwap w s
  | .twinTakeover w => Sys2Proof.Machine.execTwinTakeover w s
  | .keyInstallActivate q block hostOk => Sys2Proof.Machine.execKeyInstallActivate q block hostOk s
  | .keyInstallReplace q block hostOk => Sys2Proof.Machine.execKeyInstallReplace q block hostOk s
  | .weightLoad q count opened => Sys2Proof.Machine.execWeightLoad q count opened s
  | .tenantRetire q => Sys2Proof.Machine.execTenantRetire q s
  | .drainWaitExpiry t cut => Sys2Proof.Machine.execDrainWaitExpiry t cut s
  | .drainFence t => Sys2Proof.Machine.execDrainFence t s
  | .retirementScrubDone t => Sys2Proof.Machine.execRetirementScrubDone t s
  | .getVersion => Sys2Proof.Machine.execGetVersion s
  | .getCapabilities => Sys2Proof.Machine.execGetCapabilities s
  | .negotiateAlgorithms => Sys2Proof.Machine.execNegotiateAlgorithms s
  | .getDigests => Sys2Proof.Machine.execGetDigests s
  | .getCertificate certSlot off n => Sys2Proof.Machine.execGetCertificate certSlot off n s
  | .challenge nonce => Sys2Proof.Machine.execChallenge nonce s
  | .getMeasurements index signed => Sys2Proof.Machine.execGetMeasurements index signed s
  | .keyExchange => Sys2Proof.Machine.execKeyExchange s
  | .finish sid verified => Sys2Proof.Machine.execFinish sid verified s
  | .heartbeat sid => Sys2Proof.Machine.execHeartbeat sid s
  | .keyUpdate sid => Sys2Proof.Machine.execKeyUpdate sid s
  | .endSession sid => Sys2Proof.Machine.execEndSession sid s
  | .chunkSend bytes last => Sys2Proof.Machine.execChunkSend bytes last s
  | .chunkGet n last => Sys2Proof.Machine.execChunkGet n last s
  | .newNonce w => Sys2Proof.Machine.execNewNonce w s
  | .nonceExpiry => Sys2Proof.Machine.execNonceExpiry s
  | .unlockSubmit token digest sigOk => Sys2Proof.Machine.execUnlockSubmit token digest sigOk s
  | .unlockEraseDone => Sys2Proof.Machine.execUnlockEraseDone s
  | .opkeyCommit w => Sys2Proof.Machine.execOpkeyCommit w s
  | .debugOperation kind a n => Sys2Proof.Machine.execDebugOperation kind a n s
  | .powerInterval p => Sys2Proof.Machine.execPowerInterval p s
  | .pwrCapWrite w v => Sys2Proof.Machine.execPwrCapWrite w v s
  | .emergSet w => Sys2Proof.Machine.execEmergSet w s
  | .emergClear w => Sys2Proof.Machine.execEmergClear w s
  | .launchGateHoldExpiry p => Sys2Proof.Machine.execLaunchGateHoldExpiry p s
  | .domainIdle d => Sys2Proof.Machine.execDomainIdle d s
  | .domainWake d => Sys2Proof.Machine.execDomainWake d s
  | .wakeDone d => Sys2Proof.Machine.execWakeDone d s
  | .holdOnWrite ty inst v => Sys2Proof.Machine.execHoldOnWrite ty inst v s
  | .laneIdleAgreement p accept => Sys2Proof.Machine.execLaneIdleAgreement p accept s
  | .standbyEntry => Sys2Proof.Machine.execStandbyEntry s
  | .standbyExit => Sys2Proof.Machine.execStandbyExit s
  | .duskBegin => Sys2Proof.Machine.execDuskBegin s
  | .duskFinishDeadline => Sys2Proof.Machine.execDuskFinishDeadline s
  | .duskLeaving => Sys2Proof.Machine.execDuskLeaving s
  | .duskHostDown cut => Sys2Proof.Machine.execDuskHostDown cut s
  | .duskPowerOff => Sys2Proof.Machine.execDuskPowerOff s
  | .duskEnd power => Sys2Proof.Machine.execDuskEnd power s
  | .clockSourceTrip k cut => Sys2Proof.Machine.execClockSourceTrip k cut s
  | .dividerStep k => Sys2Proof.Machine.execDividerStep k s
  | .clockSourceGood k => Sys2Proof.Machine.execClockSourceGood k s
  | .tcxoStable => Sys2Proof.Machine.execTcxoStable s
  | .tcxoFault => Sys2Proof.Machine.execTcxoFault s
  | .clockGateRequest k access => Sys2Proof.Machine.execClockGateRequest k access s
  | .gateStuck k => Sys2Proof.Machine.execGateStuck k s
  | .clkObsSelect w v hz => Sys2Proof.Machine.execClkObsSelect w v hz s
  | .thermalAlarm place temp => Sys2Proof.Machine.execThermalAlarm place temp s
  | .thermalTrip place temp => Sys2Proof.Machine.execThermalTrip place temp s
  | .thermalTripCooled => Sys2Proof.Machine.execThermalTripCooled s
  | .overvoltageDisconnect => Sys2Proof.Machine.execOvervoltageDisconnect s
  | .powerGood e clock => Sys2Proof.Machine.execPowerGood e clock s
  | .strapSample id role => Sys2Proof.Machine.execStrapSample id role s
  | .coresReleased remapOk => Sys2Proof.Machine.execCoresReleased remapOk s
  | .eccInitDone => Sys2Proof.Machine.execEccInitDone s
  | .startupSelfTestDone cells pipes => Sys2Proof.Machine.execStartupSelfTestDone cells pipes s
  | .decodeOpen q block hostOk bad => Sys2Proof.Machine.execDecodeOpen q block hostOk bad s
  | .decodePicture q au hostOk bad => Sys2Proof.Machine.execDecodePicture q au hostOk bad s
  | .decodeFlush q => Sys2Proof.Machine.execDecodeFlush q s
  | .decodeClose q => Sys2Proof.Machine.execDecodeClose q s
  | .encodeOpen q block hostOk bad => Sys2Proof.Machine.execEncodeOpen q block hostOk bad s
  | .encodePicture q => Sys2Proof.Machine.execEncodePicture q s
  | .encodeFlush q => Sys2Proof.Machine.execEncodeFlush q s
  | .encodeClose q => Sys2Proof.Machine.execEncodeClose q s
  | .vidPre q => Sys2Proof.Machine.execVidPre q s
  | .videoJobStart units => Sys2Proof.Machine.execVideoJobStart units s
  | .preemption c => Sys2Proof.Machine.execPreemption c s
  | .videoJobEnd c r => Sys2Proof.Machine.execVideoJobEnd c r s
  | .vpreJobStart => Sys2Proof.Machine.execVpreJobStart s
  | .vpreJobEnd steps env => Sys2Proof.Machine.execVpreJobEnd steps env s
  | .eventRecord ty inst code sev tenant detail => Sys2Proof.Machine.execEventRecord ty inst code sev tenant detail s
  | .rtcSet w => Sys2Proof.Machine.execRtcSet w s
  | .flushPeriodExpiry => Sys2Proof.Machine.execFlushPeriodExpiry s
  | .recorderFlush w => Sys2Proof.Machine.execRecorderFlush w s
  | .flushEnd us => Sys2Proof.Machine.execFlushEnd us s
  | .mramWriteError => Sys2Proof.Machine.execMramWriteError s
  | .freeze w => Sys2Proof.Machine.execFreeze w s
  | .unfreeze w => Sys2Proof.Machine.execUnfreeze w s
  | .freezeExpiry => Sys2Proof.Machine.execFreezeExpiry s
  | .freezeCopyDone => Sys2Proof.Machine.execFreezeCopyDone s
  | .clearMetrics w => Sys2Proof.Machine.execClearMetrics w s
  | .metricConfigWrite w cfg v => Sys2Proof.Machine.execMetricConfigWrite w cfg v s
  | .metricIntervalEnd m => Sys2Proof.Machine.execMetricIntervalEnd m s
  | .cold w => Sys2Proof.Machine.execCold w s
  | .warm w => Sys2Proof.Machine.execWarm w s
  | .recoveryRequest w => Sys2Proof.Machine.execRecoveryRequest w s
  | .watchdogExpiry => Sys2Proof.Machine.execWatchdogExpiry s
  | .warmWaitExpiry => Sys2Proof.Machine.execWarmWaitExpiry s
  | .warmResetProceed e us cut => Sys2Proof.Machine.execWarmResetProceed e us cut s
  | .partialReset w d => Sys2Proof.Machine.execPartialReset w d s
  | .partialResetDone => Sys2Proof.Machine.execPartialResetDone s
  | .fwuBegin w data e => Sys2Proof.Machine.execFwuBegin w data e s
  | .chunkGo w data => Sys2Proof.Machine.execChunkGo w data s
  | .chunkProgramDone ok => Sys2Proof.Machine.execChunkProgramDone ok s
  | .activate w => Sys2Proof.Machine.execActivate w s
  | .abort w => Sys2Proof.Machine.execAbort w s
  | .health w => Sys2Proof.Machine.execHealth w s
  | .trialExpiry => Sys2Proof.Machine.execTrialExpiry s
  | .trialFlushTimer => Sys2Proof.Machine.execTrialFlushTimer s
  | .chainManifest m e => Sys2Proof.Machine.execChainManifest m e s
  | .chainChunk index bs => Sys2Proof.Machine.execChainChunk index bs s
  | .chainForward p => Sys2Proof.Machine.execChainForward p s
  | .bitmapReportTimer => Sys2Proof.Machine.execBitmapReportTimer s
  | .bitmapReport p id digest bits => Sys2Proof.Machine.execBitmapReport p id digest bits s
  | .lock ty inst v => Sys2Proof.Machine.execLock ty inst v s
  | .lockAll => Sys2Proof.Machine.execLockAll s
  | .irqEnWrite ty inst v => Sys2Proof.Machine.execIrqEnWrite ty inst v s
  | .registerWrite w ty inst off bytes v e => Sys2Proof.Machine.execRegisterWrite w ty inst off bytes v e s
  | .inputPowerLoss => Sys2Proof.Machine.execInputPowerLoss s
  | .metricCountSecond => Sys2Proof.Machine.execMetricCountSecond s
  | .memberLossReport id => Sys2Proof.Machine.execMemberLossReport id s

end Sys2Proof.Machine
end

