-- ==== Sys2Proof/Machine/Time.lean ====
section
/-!
DEFINITION. How time passes while no command waits (R328, R331, R439).
-/

namespace Sys2Proof.Machine

/-- The whole nanoseconds, from -d/10 to d/10, by which a correction of `a` sixteenths is made within `d` ns (R328). -/
def correction (a : Int) (d : Nat) : Int := max (-(d / 10 : Nat)) (min ((d / 10 : Nat) : Int) (Int.tdiv a 16))

/-- What MERID_SLEW adds within `d` ns, at 50 ns per ms, on the module that acts as the queen (R331). -/
def slewPart (s : State) (d : Nat) : Int :=
  if hiveState s = 2 && (isQueen s || rd s R.HIVE_ROLE_ROLE_CFG = 0) then
    max (-(d / 20000 : Nat)) (min ((d / 20000 : Nat) : Int) (signedOf 32 (rd s R.MERID_SLEW)))
  else 0

/-- Two's complement of a 32-bit value. -/
def code32 (v : Int) : Nat := (v % (2 ^ 32)).toNat

/-- The Meridian count after `d` ns of its reference. It never decreases. -/
def passMerid (s : State) (d : Nat) : State :=
  let a := correction s.hive.adjust d
  let b := slewPart s d
  let s := wr s R.MERID_SLEW (code32 (signedOf 32 (rd s R.MERID_SLEW) - b))
  { s with now := s.now + ((d : Int) + a + b).toNat, hive := { s.hive with adjust := s.hive.adjust - 16 * a } }

/-- The calendar count after `n` ticks of its crystal; a count that was set takes effect at the first of them (R439). -/
def passCalendar (s : State) (n : Nat) : State :=
  if n = 0 then s
  else
    match s.evr.rtcSet with
    | some v => wr { s with rtc := (v + (n - 1)) % 2 ^ 64, evr := { s.evr with rtcSet := none } } R.EVR_STAT_TIME_Q 2
    | none => { s with rtc := (s.rtc + n) % 2 ^ 64 }

/-- Time passes; how much is a free value. -/
def passTime (s : State) : State := useFree (passCalendar (passMerid s (freeVal s 0)) (freeVal s 1))

end Sys2Proof.Machine
end

