-- ==== Sys2Proof/Machine/Operands.lean ====
section
/-!
DEFINITION. What a read of a register answers (R393, R484, R486, R488): the register file, and the views that the block forms of
its state.
-/

namespace Sys2Proof.Machine

/-- HOST_IRQ_SUM: bit `n` is 1 while a page of type `n` has a bit set both raw and enabled (R489). -/
def irqSum (s : State) : Nat :=
  (List.range 27).foldl (fun v ty =>
    v + (if (List.range (pageCount ty)).any (fun i => (List.range (irqCount ty i)).any (fun n =>
        rd s (hIrqRaw ty n) i = 1 && rd s (hIrqEn ty n) i = 1)) then 2 ^ ty else 0)) 0

/-- The value that a field shows: a count that the module keeps elsewhere, or what the register file holds. -/
def fieldValue (s : State) (ty i : Nat) (f : Fld) : Nat :=
  let k := bankIdx s ty i f
  if f = R.MERID_TIME then s.now % 2 ^ 64
  else if f = R.EVR_RTC then s.rtc
  else if f = R.FN_SIG_VAL then sigValue s k
  else if f = R.HOST_IRQ_SUM then irqSum s
  else if f = R.CELL_STAT_POWERED then b2n (decide (dom s i ≠ 2))
  else if f = R.APIPE_STAT_POWERED then b2n (decide (dom s (272 + i) ≠ 2))
  else rd s (homeFld ty f) (homeInst ty i f) k

/-- RWS fields and counters stay readable while their domain is low (R393). -/
def readsLow (f : Fld) : Bool :=
  f.acc = .rws || [R.CELL_STEPS, R.APIPE_EMPTY, R.APIPE_CMD_CNT, R.APIPE_STEPS, R.MPHY_TRACK_CNT, R.SEAM_UNITS, R.WAG_TX_CTR,
    R.WAG_REKEY_CNT, R.PACE_BREACH_CNT, R.VID_PICTURES, R.VID_CONCEAL_CNT, R.VID_STREAM_ERR_CNT, R.VID_STOLEN_CNT,
    R.VID_PREEMPT_CNT, R.VID_STEPS, R.VPRE_JOBS, R.VPRE_ERR_CNT, R.VPRE_STEPS].contains f

/-- Block types with counters that the operator reads without unlocking (R386). -/
def operatorPage (ty : Nat) : Bool := !([2, 4, 6, 12, 15, 18].contains ty) && ty < 27

/-- Offset of the highest register of a page (R484, R496). -/
def lastOffset (ty i : Nat) : Nat :=
  ((if ty = 27 then (pageFields 9).filter (fun f => f.off ≤ 0x13C) else pageFields ty).filter (fun f => onPage f i)).foldl
    (fun m f => max m (if f.w ≤ 32 then f.off else f.off + 4)) 0

/-- Registers of the common header (R484, R492, R393). -/
def headerRead (s : State) (ty i off : Nat) : Nat :=
  let vf := decide (ty = 27)
  let bits := fun (g : Nat → Fld) => (List.range (irqCount ty i)).foldl (fun v n => v + rd s (g n) i * 2 ^ n) 0
  let d := dom s (pageDomain ty i)
  match off with
  | 0x000 => 2 ^ 31 + (if vf then 9 else ty) * 1024 + i
  | 0x004 => 65536
  | 0x008 =>
    lastOffset ty i + (if vf then 0 else b2n ((pageFields ty).any (fun f => f.lock && onPage f i)) * 2 ^ 16 + b2n (recoveryPage ty) * 2 ^ 17 +
      b2n (operatorPage ty) * 2 ^ 18)
  | 0x00C => b2n (decide (d = 0)) + rd s (hStatBusy ty) i * 2 + b2n (decide (d = 3)) * 4
  | 0x010 | 0x018 => bits (hIrqRaw ty)
  | 0x014 => bits (hIrqEn ty)
  | 0x01C => rd s (hErrOffset ty) i * 65536 + rd s (hErrStatus ty) i
  | 0x020 => rd s (hErrSeq ty) i
  | 0x024 => if vf then 0 else rd s (hHoldOn ty) i
  | 0x028 => pageDomain ty i + d * 4096 + (if vf then 0 else rd s (hHoldOn ty) i * 2 ^ 14)
  | 0x02C => if vf then 0 else rd s (hLocked ty) i + rd s (hLockRefused ty) i * 65536
  | _ => 0

/-- What a 32-bit read of a page's offset answers. -/
def regRead (s : State) (ty i off : Nat) : Nat :=
  if !pageThere s ty i || off % 4 ≠ 0 then 0
  else if off < 0x100 then headerRead s ty i off
  else
    (fieldsAt ty i off).foldl (fun v f =>
      if f.acc = .wo || (dom s (pageDomain ty i) ≠ 0 && !readsLow f) then v
      else
        let x := fieldValue s ty i f
        v + (if f.w ≤ 32 then x * 2 ^ f.lo else if off = f.off then x % 2 ^ 32 else x / 2 ^ 32)) 0

/-- Where the high half of the pair at an offset is latched (R486): in a bank that no selector reaches, as one more than the value;
0 is no latch. -/
def latchFld (ty off : Nat) : Fld := ⟨ty, off, 1, 33, .ro, 0, false, [], 0⟩

/-- A 32-bit read and the latch that it leaves (R486): a read of the low half of a pair latches the high half, and a read of the high
half answers what was latched. -/
def regReadLatch (s : State) (ty i off : Nat) : Nat × State :=
  match (fieldsAt ty i off).find? (fun f => 32 < f.w) with
  | some f =>
    if off = f.off then (regRead s ty i off, wr s (latchFld ty off) (regRead s ty i (off + 4) + 1) i (2 ^ 20))
    else
      let l := rd s (latchFld ty f.off) i (2 ^ 20)
      (if l = 0 then regRead s ty i off else l - 1, s)
  | none => (regRead s ty i off, s)

/-- An aligned 64-bit read: two 32-bit reads, the lower offset first (R486). -/
def regRead64 (s : State) (ty i off : Nat) : Nat × State :=
  let a := regReadLatch s ty i off
  let b := regReadLatch a.2 ty i (off + 4)
  (a.1 + b.1 * 2 ^ 32, b.2)

/-- First page of each block type (R482). Type 27 stands for the VF function pages (R492), which lie outside BAR0 of the
PF; VF `v` has page 0x4000 + v. -/
def pageBase : Nat → Nat
  | 0 => 0x000 | 1 => 0x120 | 2 => 0x180 | 3 => 0x200 | 4 => 0x220 | 5 => 0x240 | 6 => 0x248 | 7 => 0x260 | 8 => 0x270
  | 9 => 0x280 | 10 => 0x281 | 11 => 0x282 | 12 => 0x283 | 13 => 0x290 | 14 => 0x298 | 15 => 0x299 | 16 => 0x29A
  | 17 => 0x2A0 | 18 => 0x250 | 19 => 0x2A8 | 20 => 0x2A9 | 21 => 0x2B0 | 22 => 0x2B8 | 23 => 0x2C0 | 24 => 0x2C1
  | 25 => 0x2C2 | 26 => 0x2C3 | _ => 0x4000

/-- What a 32-bit read of BAR0 answers: the register at a byte offset of the window (R482). -/
def bar0Read (s : State) (a : Nat) : Nat :=
  match (List.range 27).find? (fun ty => pageBase ty ≤ a / 4096 && a / 4096 < pageBase ty + pageCount ty) with
  | some ty => regRead s ty (a / 4096 - pageBase ty) (a % 4096)
  | none => 0

end Sys2Proof.Machine
end

