-- ==== Sys2Proof/Machine/Flags.lean ====
section
/-!
DEFINITION. Status that other state decides: whether the block has work, and what the domains report (R378, R392, R484).
-/

namespace Sys2Proof.Machine

/-- Bits of measurement block 5: domains in their low state or held in reset (R378, R392). -/
def lowDomains (s : State) : List Nat := (List.range 402).filter (fun d => dom s d = 2 || dom s d = 3)

/-- The host port answers configuration requests: the start is ready, or the module is in recovery mode (R257). -/
def portAnswers (s : State) : Bool := rd s R.HOST_STAT_READY = 1 || rd s R.HOST_STAT_RECOVERY = 1

/-- An interrupt bit of a page asks for service (R489). -/
def irqPending (s : State) (ty i n : Nat) : Bool := rd s (hIrqRaw ty n) i = 1 && rd s (hIrqEn ty n) i = 1

/-- A page takes no write of its lockable fields from the host (R491). -/
def pageLocked (s : State) (ty i : Nat) : Bool := rd s (hLocked ty) i = 1

end Sys2Proof.Machine
end

