-- ==== Sys2Proof/Safety.lean ====
section
/-!
DEFINITION. What a run must keep: the state's canonical form. And the parts of the state, in which claims say what a command
leaves alone.
-/

namespace Sys2Proof.Safety

open Sys2Proof.Machine

/-- Device memory is in its canonical form. -/
def memoryOk (s : State) : Bool := Memory.wf s.mem.cells

/-- No step of the module stops: every command ends in a state. -/
def answers (r : Host.Outcome State Fault Refusal) : Bool :=
  match r with
  | .next _ => true
  | _ => false

/-- The parts of the state: the registers of a block type, the bytes of device memory, what the memory controllers keep beside
them, and the other blocks' own state. -/
inductive Comp where
  | page (ty : Nat)
  | bytes | memory | now | rtc | free | governors | margins | cells | pipes | parts | slots | retiring | recorder | power
  | clocks | kv | host | links | hive | serving | twin | video | security | boot | out
  deriving DecidableEq, Repr

/-- A part of the state is the same in both. -/
def Same : Comp → State → State → Prop
  | .page ty, s, t => ∀ a d, a / 2 ^ 15 % 32 = ty → tget d t.regs a = tget d s.regs a
  | .bytes, s, t => t.mem.cells = s.mem.cells
  | .memory, s, t => ({ t.mem with cells := [] } : Mem) = { s.mem with cells := [] }
  | .now, s, t => t.now = s.now
  | .rtc, s, t => t.rtc = s.rtc
  | .free, s, t => t.free = s.free
  | .governors, s, t => t.comb.gov = s.comb.gov
  | .margins, s, t => t.comb.margin = s.comb.margin
  | .cells, s, t => t.comb.cells = s.comb.cells
  | .pipes, s, t => t.comb.pipes = s.comb.pipes
  | .parts, s, t => t.comb.parts = s.comb.parts
  | .slots, s, t => t.comb.slots = s.comb.slots
  | .retiring, s, t =>
    t.comb.retire = s.comb.retire ∧ t.comb.ueTimes = s.comb.ueTimes ∧ t.comb.resTimes = s.comb.resTimes ∧
      t.comb.routerBad = s.comb.routerBad
  | .recorder, s, t => t.evr = s.evr
  | .power, s, t => t.pwr = s.pwr
  | .clocks, s, t => t.clk = s.clk
  | .kv, s, t => t.kv = s.kv
  | .host, s, t => t.host = s.host
  | .links, s, t => t.wag = s.wag
  | .hive, s, t => t.hive = s.hive
  | .serving, s, t => t.serv = s.serv
  | .twin, s, t => t.twin = s.twin
  | .video, s, t => t.vid = s.vid
  | .security, s, t => t.sec = s.sec
  | .boot, s, t => t.boot = s.boot
  | .out, s, t => t.out = s.out

/-- Every part that `l` does not name is the same in both, and so is the queue of commands. -/
def SameBut (l : List Comp) (s t : State) : Prop := t.pending = s.pending ∧ ∀ c, c ∉ l → Same c s t

end Sys2Proof.Safety
end

