-- ==== Sys2Proof/Certificates/Slice0/Obligations.lean ====
section
/-!
DEFINITION. The statements to be proved about the model, family by family of the table of commands.
-/

namespace Sys2Proof.Certificates

open Sys2Proof Sys2Proof.Machine Sys2Proof.Safety

/-- The command answers a next state, of which `P` holds. -/
def Ends (c : Instr) (s : State) (P : State → Prop) : Prop := ∃ t, exec c s = .next t ∧ P t

/-- A register write reaches its page, and LOCK does not keep it (R393, R488, R490, R491). -/
def Writable (s : State) (w : Writer) (ty i : Nat) : Prop :=
  pageServed s ty i = true ∧ ¬(w = .host ∧ rd s (hLocked ty) i = 1)

/-- The registers of some block types, and of the recorder's two pages, on which every event is counted. -/
def pages (l : List Nat) : List Comp := l.map .page

/-- Where an event leaves its traces: the recorder's pages and store, its mark of a fatal event, and its interrupts. -/
def recorded : List Comp := pages [23, 24] ++ [.recorder, .boot, .out]

/-- Where a register write of a page leaves its traces: the page, the settings list, and the recorder. -/
def written (ty : Nat) : List Comp := .page ty :: .free :: recorded

/-- Where a queue command's completion leaves its traces (R282 to R286): the signals it raises in device memory and on other
modules, the queues and their pages, and the host's window. -/
def completed : List Comp := pages [7, 9, 14, 27] ++ [.bytes, .memory, .host, .links, .out]

end Sys2Proof.Certificates

open Sys2Proof Sys2Proof.Machine Sys2Proof.Safety Sys2Proof.Certificates

/-! ## Steps, pace and the margin table (chapter 02) -/

/-- Steps 3 to 5 of R42, with R43, R44 and R54; R397 for the comb governors in standby. Choices of the model in it: log
entries 7 and 30. -/
def Obligations.GovernorInterval : Prop :=
  (∀ die e s, (die < 4 → rd s R.PWR_STAT_STANDBY ≠ 1) → die < 5 →
    rd s R.PACE_VLIM_VMAX die < 2 ^ 12 →
    Ends (.governorInterval die e) s (fun t =>
      rd t R.PACE_FLOOR_EFFECTIVE die = min (rd s R.PACE_FLOOR_MIN_RATE die +
        (if die < 4 then rd s R.PACE_MARGIN_RAISE die (tempBand e.temp * 8 + loadPattern s die e.samples) else 0)) 1800 ∧
      rd t R.PACE_VOLT_CEILING die =
        min (min (rd s R.PACE_VLIM_VMAX die) (thermalCeiling (rd s R.PACE_VLIM_VMAX die) e.temp))
          (min (rd s (R.PWR_DIE_VLIM die)) e.supply) ∧
      rd t R.PACE_VOLT_VSET die ≤ rd t R.PACE_VOLT_CEILING die ∧
      rd t R.PACE_STAT_TEMP_BAND die = tempBand e.temp % 8 ∧
      rd t R.PACE_FLOOR_MIN_RATE die = rd s R.PACE_FLOOR_MIN_RATE die ∧
      SameBut (recorded ++ pages [14, 18] ++ [.power, .hive, .serving, .governors, .parts, .retiring]) s t)) ∧
  (∀ die e s, die < 4 → rd s R.PWR_STAT_STANDBY = 1 → exec (.governorInterval die e) s = .next s)

/-- The first two rows of R56; R62. Choices of the model in it: log entry 7. -/
def Obligations.MarginsAndPredictions : Prop :=
  (∀ die entry p s, die < 4 → entry < 64 → recentErrs s die entry = [] → rd s R.PACE_MARGIN_RAISE die entry < 200 →
    Ends (.marginUpdate die entry (.memc p)) s (fun t =>
      tget [] t.comb.margin (die * 64 + entry) = [{ time := s.now, src := .memc p }] ∧
      rd t R.PACE_MARGIN_ERRORS die entry = 1 ∧
      (∀ i k, rd t R.PACE_MARGIN_RAISE i k = rd s R.PACE_MARGIN_RAISE i k) ∧
      t.comb.retire = s.comb.retire ∧ SameBut (recorded ++ pages [18] ++ [.margins, .retiring]) s t)) ∧
  (∀ die entry p s e, die < 4 → entry < 64 → recentErrs s die entry = [e] → rd s R.PACE_MARGIN_RAISE die entry < 200 →
    rd s R.PACE_FLOOR_MIN_RATE die + min (rd s R.PACE_MARGIN_RAISE die entry + 25) 200 ≤ 1800 →
    Ends (.marginUpdate die entry (.memc p)) s (fun t =>
      rd t R.PACE_MARGIN_ERRORS die entry = 2 ∧
      rd t R.PACE_MARGIN_RAISE die entry = min (rd s R.PACE_MARGIN_RAISE die entry + 25) 200 ∧
      t.comb.retire = s.comb.retire ∧ SameBut (recorded ++ pages [18] ++ [.margins, .retiring]) s t)) ∧
  (∀ die s, (∀ e ∈ openReqs s, e.2.started = true ∨ e.2.deadline = noDeadline) →
    Ends (.recomputePredictions die) s (fun t =>
      t.serv.dirty = s.serv.dirty.filter (· ≠ die) ∧ t.serv.reqs = s.serv.reqs ∧ SameBut (recorded ++ completed ++ pages [10, 11] ++ [.free, .kv, .serving, .twin]) s t))

/-- R45, R47 and R57, each on a page that takes the write. -/
def Obligations.PaceWrites : Prop :=
  (rd State.reset R.PACE_FLOOR_MIN_RATE 0 = 1250) ∧
  (∀ w die v s, die < 5 → pageServed s 18 die = true → 500 ≤ v → v ≤ 1800 →
    Ends (.paceFloorWrite w die v) s (fun t => rd t R.PACE_FLOOR_MIN_RATE die = v ∧ SameBut (written 18) s t)) ∧
  (∀ w die v s, die < 5 → pageServed s 18 die = true → (v < 500 ∨ 1800 < v) →
    Ends (.paceFloorWrite w die v) s (fun t => (∀ i, rd t R.PACE_FLOOR_MIN_RATE i = rd s R.PACE_FLOOR_MIN_RATE i) ∧
      rd t (hErrStatus 18) die = statusValue .fieldReserved ∧ rd t (hErrOffset 18) die = 0x100 ∧ SameBut (written 18) s t)) ∧
  (∀ w die a b s, die < 5 → pageServed s 18 die = true → 600 ≤ a → a + 50 ≤ b → b ≤ 900 →
    Ends (.paceVlimWrite w die a b) s (fun t => rd t R.PACE_VLIM_VMIN die = a ∧ rd t R.PACE_VLIM_VMAX die = b ∧
      SameBut (written 18) s t)) ∧
  (∀ w die a b s, die < 5 → pageServed s 18 die = true → (a < 600 ∨ 900 < a ∨ b < 600 ∨ 900 < b ∨ b < a + 50) →
    Ends (.paceVlimWrite w die a b) s (fun t => (∀ i, rd t R.PACE_VLIM_VMIN i = rd s R.PACE_VLIM_VMIN i) ∧
      (∀ i, rd t R.PACE_VLIM_VMAX i = rd s R.PACE_VLIM_VMAX i) ∧
      rd t (hErrStatus 18) die = statusValue .fieldReserved ∧ rd t (hErrOffset 18) die = 0x10C ∧ SameBut (written 18) s t)) ∧
  (∀ w die v s, die < 4 → Writable s w 18 die → v ≤ 200 →
    Ends (.paceMarginWrite w die v) s (fun t => rd t R.PACE_MARGIN_RAISE die (rd s R.PACE_MARGIN_SEL die) = v ∧
      SameBut (written 18) s t)) ∧
  (∀ w die v s, die < 4 → Writable s w 18 die → 200 < v →
    Ends (.paceMarginWrite w die v) s (fun t => (∀ i k, rd t R.PACE_MARGIN_RAISE i k = rd s R.PACE_MARGIN_RAISE i k) ∧
      rd t (hErrStatus 18) die = statusValue .fieldReserved ∧ SameBut (written 18) s t)) ∧
  (∀ w die s, die < 4 → Writable s w 18 die →
    Ends (.clearAll w die 1) s (fun t => (∀ n < 64, rd t R.PACE_MARGIN_RAISE die n = 0 ∧ rd t R.PACE_MARGIN_ERRORS die n = 0 ∧
      tget [] t.comb.margin (die * 64 + n) = []) ∧ SameBut (.margins :: written 18) s t))

/-! ## Cells (chapters 03 and 04) -/

namespace Sys2Proof.Certificates

open Sys2Proof Sys2Proof.Machine Sys2Proof.Safety

/-- The cell runs launch `r`, its next instruction is in the buffer and its stream goes on, and the unit is free in the step in
progress (R72): an instruction with legal fields issues. -/
def Issuing (s : State) (c unit : Nat) (r : Running) : Prop :=
  cellLaunch s c = some r ∧ (cell s c).ended = false ∧ inBuffer (cell s c) = true ∧ unitFree (cell s c) unit ≤ r.step

/-- A VEC instruction completes: the DST bytes become the FP32 results of `f` on its sources and on what stood at DST, the vector
unit is busy for its steps, and nothing else changes but the cell's place in its stream. -/
def VectorOp (mk : Nat → VecArgs → Instr) (f : List Nat → List Nat → List Nat → List Nat) : Prop :=
  ∀ c a r s, Issuing s c 2 r → vecOk a = true →
    Ends (mk c a) s (fun t =>
      (cell t c).store = tsets 0 (64 * a.dst) (wordsBytes (f (vecSource s (cell s c) r.step a.s1 a.inFmt a.src1 a.l)
        (vecSource s (cell s c) r.step a.s2 a.inFmt a.src2 a.l) (readCodes s (cell s c) r.step 0 (64 * a.dst) a.l)))
        (cell s c).store ∧
      (cell t c).acc = (cell s c).acc ∧ (cell t c).vecFree = r.step + (a.l + 63) / 64 ∧
      (cell t c).next = (cell s c).next + 1 ∧ (∀ d, d ≠ c → cell t d = cell s d) ∧ SameBut [.free, .cells] s t)

/-- An SFU instruction completes: each result stands at its place; the special-function unit is busy for its steps. -/
def SfuOp (mk : Nat → VecArgs → Instr) (op : Nat) : Prop :=
  ∀ c a r s, Issuing s c 3 r → 1 ≤ a.l → a.l ≤ 65534 → a.s1 < 3 → a.inFmt < 3 →
    Ends (mk c a) s (fun t =>
      (cell t c).store = tsets 0 (64 * a.dst) (wordsBytes ((vecSource s (cell s c) r.step a.s1 a.inFmt a.src1 a.l).mapIdx
        (fun i x => sfuResult s op (65536 + i) x))) (cell s c).store ∧
      (cell t c).acc = (cell s c).acc ∧ (cell t c).sfuFree = r.step + (a.l + 15) / 16 ∧
      (cell t c).next = (cell s c).next + 1 ∧ (∀ d, d ≠ c → cell t d = cell s d) ∧ SameBut [.free, .cells] s t)

/-- The cell of an instruction of a cell's stream. -/
def cellOf : Instr → Option Nat
  | .ctrlNop c | .end_ c | .mark c _ | .mma c _ | .add c _ | .mul c _ | .fma c _ | .max_ c _ | .min_ c _ | .rsum c _
  | .rmax c _ | .scale c _ | .copy c _ | .exp c _ | .log c _ | .recip c _ | .rsqrt c _ | .cvt c _
  | .moveMemToStore c _ | .moveStoreToMem c _ | .moveLocal c _ | .moveCellToCell c _ | .moveToPipe c _ | .moveFromPipe c _
  | .attnCell c _ | .attnCellBackward c _ | .attnPipe c _ | .attnPipeBackward c _ => some c
  | _ => none

end Sys2Proof.Certificates

/-- R70, R72, R73 and R111, one clause for each instruction. Choices of the model in it: log entry 34. -/
def Obligations.VectorOps : Prop :=
  VectorOp .add (zip2 fp32Add) ∧ VectorOp .mul (zip2 fp32Mul) ∧
  VectorOp .fma (fun u v w => List.zipWith (fun p z => fp32Fma p.1 p.2 z) (List.zip u v) w) ∧
  VectorOp .max_ (zip2 fp32Max) ∧ VectorOp .min_ (zip2 fp32Min) ∧
  VectorOp .rsum (fun u _ _ => [rsumList u]) ∧ VectorOp .rmax (fun u _ _ => [rmaxList u]) ∧
  VectorOp .scale (fun u v _ => u.map (fun x => fp32Mul x (v.headD 0))) ∧ VectorOp .copy (fun u _ _ => u)

/-- R70, R72 and R112. Choices of the model in it: log entries 34 and 35. -/
def Obligations.SpecialFunctionOps : Prop :=
  SfuOp .exp 0 ∧ SfuOp .log 1 ∧ SfuOp .recip 2 ∧ SfuOp .rsqrt 3 ∧
  (∀ s op i x v, sfuSpecial op x = some v → sfuResult s op i x = v)

/-- R105, R107 to R110; R114 to R119. Choices of the model in it: log entry 34. -/
def Obligations.MatrixAndConvert : Prop :=
  (∀ c a r s as bs, Issuing s c 1 r → mmaOk a = true →
    (List.range a.k).mapM (fun k => mmaRun s (cell s c) r.step a.aFmt (64 * a.aAddr) a.m k (64 * a.scale)) = some as →
    (List.range a.k).mapM (fun k => mmaRun s (cell s c) r.step a.bFmt (64 * a.bAddr) a.n k
      (if fmtIsMx a.aFmt then 64 * a.scale + (a.m * ((a.k + 31) / 32) + 63) / 64 * 64 else 64 * a.scale)) = some bs →
    Ends (.mma c a) s (fun t =>
      (∀ m n, m < 64 → n < 32 →
        tget 0 (cell t c).acc (2048 * a.acc + 32 * m + n) =
          let old := if a.zero then 0 else tget 0 (cell s c).acc (2048 * a.acc + 32 * m + n)
          if m < a.m ∧ n < a.n then
            mmaElem old ((List.range a.k).map (fun k => ((as.getD k []).getD m .nan, (bs.getD k []).getD n .nan)))
          else old) ∧
      (cell t c).store = (cell s c).store ∧ (cell t c).matFree = r.step + mmaBusy a.aFmt a.bFmt a.k ∧
      (∀ d, d ≠ c → cell t d = cell s d) ∧ SameBut [.free, .cells] s t)) ∧
  (∀ c a r s, Issuing s c 1 r → mmaOk a = true →
    (List.range a.k).mapM (fun k => mmaRun s (cell s c) r.step a.bFmt (64 * a.bAddr) a.n k
      (if fmtIsMx a.aFmt then 64 * a.scale + (a.m * ((a.k + 31) / 32) + 63) / 64 * 64 else 64 * a.scale)) = none →
    Ends (.mma c a) s (fun t =>
      (cell t c).acc = (cell s c).acc ∧ (cell t c).store = (cell s c).store ∧
      (part t (cellPart s c)).running.map Running.causes = some (r.causes ++ [.format]))) ∧
  (∀ c a r s vs, Issuing s c 2 r → 1 ≤ a.l → a.l ≤ 65534 → cvtPair a.fromF a.toF = true → fmtIsMx a.toF = false →
    cvtSource s (cell s c) r.step a = some vs →
    Ends (.cvt c a) s (fun t =>
      (cell t c).store = tsets 0 (64 * a.dst)
        (if a.toF = 14 then packT5 (vs.map (fun v => max (-1) (min 1 (encodeInt (-128) 127 none v))))
          else packCodes (fmtBits a.toF) (vs.mapIdx (fun i v => encodeElem a.toF
            (if a.round then some (generator r.desc.stochKey (roundCounter r.step c i)) else none) v))) (cell s c).store ∧
      (cell t c).acc = (cell s c).acc ∧ (∀ d, d ≠ c → cell t d = cell s d) ∧ SameBut [.free, .cells] s t))

/-- R68, R70, R72, R74, R128, R137, R351. Choices of the model in it: log entries 34 and 39. -/
def Obligations.ControlInstructions : Prop :=
  (∀ c r s, Issuing s c 0 r →
    Ends (.ctrlNop c) s (fun t => (cell t c).next = (cell s c).next + 1 ∧ (cell t c).ended = false ∧
      (cell t c).store = (cell s c).store ∧ (∀ d, d ≠ c → cell t d = cell s d) ∧ SameBut [.cells] s t)) ∧
  (∀ c r s, Issuing s c 0 r →
    Ends (.end_ c) s (fun t => (cell t c).ended = true ∧ (cell t c).store = (cell s c).store ∧
      (∀ d, d ≠ c → cell t d = cell s d) ∧ SameBut [.cells] s t)) ∧
  (∀ c m r s, Issuing s c 0 r → twinRole s = 0 →
    Ends (.mark c m) s (fun t => (cell t c).next = (cell s c).next + 1 ∧ (∀ d, d ≠ c → cell t d = cell s d) ∧
      SameBut [.cells] s t)) ∧
  (∀ c m r s x, Issuing s c 0 r → twinRole s ≠ 0 → mirrored s (cellPart s c) = true →
    (comparesOf (runImage s r) r.desc.variant).find? (fun x => x.mark = m && x.cell = c) = some x →
    Ends (.mark c m) s (fun t => (twinPart t (cellPart s c)).own = (twinPart s (cellPart s c)).own ++
      [(r.serial, m, memBytes s (regionBase s r x.region + x.addr) (compareBytes x))] ∧
      SameBut [.cells, .twin] s t)) ∧
  (∀ c r s, cellLaunch s c = some r → (cell s c).ended = false → inBuffer (cell s c) = false →
    Ends (.ctrlNop c) s (fun t =>
      (part t (cellPart s c)).running.map Running.causes = some (r.causes ++ [.planFault]) ∧
      rd t (hIrqRaw 0 Irq.CELL_PLAN_FAULT) (cellPage s c) = 1)) ∧
  (∀ i c s, cellOf i = some c → cellLaunch s c = none → exec i s = .next s)

/-! ## Moves, attention commands, schedules and steps (chapters 03, 05 and 06) -/

/-- R71, R72 and R165. Choices of the model in it: log entry 38. -/
def Obligations.Moves : Prop :=
  (∀ c a r s, Issuing s c (4 + a.chan % 2) r → 1 ≤ a.units → a.units ≤ 65534 → inStore a.loc (64 * a.units) = true →
    hasMem s a.entry r = true →
    Ends (.moveMemToStore c a) s (fun t =>
      (part t (cellPart s c)).running = some { r with moves := tset 0 a.entry (a.loc + 1) r.moves } ∧
      (cell t c).store = (cell s c).store ∧ (∀ d, d ≠ c → cell t d = cell s d) ∧ SameBut [.cells, .parts] s t) ∧
    Ends (.moveStoreToMem c a) s (fun t =>
      (part t (cellPart s c)).running = some { r with moves := tset 0 a.entry (a.loc + 1) r.moves } ∧
      (cell t c).store = (cell s c).store ∧ (∀ d, d ≠ c → cell t d = cell s d) ∧ SameBut [.cells, .parts] s t)) ∧
  (∀ c a r s, Issuing s c (4 + a.chan % 2) r → 1 ≤ a.units → a.units ≤ 65534 → inStore a.loc (64 * a.units) = true →
    inStore (a.entry % 65536) (64 * a.units) = true →
    Ends (.moveLocal c a) s (fun t =>
      (cell t c).store = tsets 0 (64 * (a.entry % 65536))
        ((readCodes s (cell s c) r.step 3 (64 * a.loc) (64 * a.units)).map (BitVec.ofNat 8)) (cell s c).store ∧
      (∀ d, d ≠ c → cell t d = cell s d) ∧ SameBut [.free, .cells] s t)) ∧
  (∀ c a r s, Issuing s c (4 + a.chan % 2) r → 1 ≤ a.units → a.units ≤ 65534 → inStore a.loc (64 * a.units) = true →
    hasRoute s a.entry r = true →
    Ends (.moveCellToCell c a) s (fun t =>
      (part t (cellPart s c)).running = some { r with sends := tset [] a.entry [c, a.loc, a.units] r.sends } ∧
      (cell t c).store = (cell s c).store ∧ (∀ d, d ≠ c → cell t d = cell s d) ∧ SameBut [.cells, .parts] s t)) ∧
  (∀ c a r s, Issuing s c (4 + a.chan % 2) r → 1 ≤ a.units → a.units ≤ 65534 → inStore a.loc (64 * a.units) = true →
    hasRoute s a.entry r = true → epKind (routeAt (runImage s r) r.desc.variant a.entry).dst = 1 →
    quadPart s (epIndex (routeAt (runImage s r) r.desc.variant a.entry).dst) = cellPart s c →
    (pipe s (epIndex (routeAt (runImage s r) r.desc.variant a.entry).dst)).win.length + 64 * a.units ≤ 131072 →
    Ends (.moveToPipe c a) s (fun t =>
      (pipe t (epIndex (routeAt (runImage s r) r.desc.variant a.entry).dst)).win =
        (pipe s (epIndex (routeAt (runImage s r) r.desc.variant a.entry).dst)).win ++
          (readCodes s (cell s c) r.step 3 (64 * a.loc) (64 * a.units)).map (BitVec.ofNat 8) ∧
      (cell t c).store = (cell s c).store ∧ (∀ d, d ≠ c → cell t d = cell s d) ∧
      SameBut [.free, .cells, .pipes] s t)) ∧
  (∀ c a r s, Issuing s c (4 + a.chan % 2) r → 1 ≤ a.units → a.units ≤ 65534 → inStore a.loc (64 * a.units) = true →
    hasRoute s a.entry r = true → epKind (routeAt (runImage s r) r.desc.variant a.entry).src = 1 →
    quadPart s (epIndex (routeAt (runImage s r) r.desc.variant a.entry).src) = cellPart s c →
    64 * a.units ≤ (pipe s (epIndex (routeAt (runImage s r) r.desc.variant a.entry).src)).out.length →
    Ends (.moveFromPipe c a) s (fun t =>
      (pipe t (epIndex (routeAt (runImage s r) r.desc.variant a.entry).src)).out =
        (pipe s (epIndex (routeAt (runImage s r) r.desc.variant a.entry).src)).out.drop (64 * a.units) ∧
      (cell t c).store = tsets 0 (64 * a.loc)
        ((pipe s (epIndex (routeAt (runImage s r) r.desc.variant a.entry).src)).out.take (64 * a.units)) (cell s c).store ∧
      (∀ d, d ≠ c → cell t d = cell s d) ∧ SameBut [.cells, .pipes] s t))

/-- R156, R157, R163 to R173. Choices of the model in it: log entries 34 and 37. -/
def Obligations.AttentionCommands : Prop :=
  (∀ c addr r s, Issuing s c 6 r →
    let a := attnCmdOf (cmdBytes s c r.step addr)
    let info := attnRead s c r.step a.info 16
    a.back = false → attnCheck a false info = none →
    Ends (.attnCell c addr) s (fun t =>
      let q := attnRead s c r.step a.q (a.rows * a.dim * fmtBytes a.qFmt)
      let prev := if a.cont then attnRead s c r.step a.o (a.rows * a.dim * fmtBytes a.oFmt) ++
        attnRead s c r.step a.stat (2 * statBytes a * a.rows) else []
      let table := if a.biasEn then attnRead s c r.step a.bias (2176 * (a.head0 + a.heads)) else []
      let l := forwardRows a info q prev table (ringRow s c r.step a.k a.kFmt a.dim a.ring)
        (ringRow s c r.step a.v a.vFmt a.dim a.ring) (fun row i => freeVal s (1000 * row + i))
      let o := tsets 0 (64 * a.o) (rowsOut a l) (cell s c).store
      (cell t c).store = (if a.saveStat then tsets 0 (64 * a.stat) (rowsStat a l) o else o) ∧
      (cell t c).matFree = r.step + cellBusy a ∧ (cell t c).vecFree = r.step + cellBusy a ∧
      (cell t c).sfuFree = r.step + cellBusy a ∧
      (part t (cellPart s c)).running = some { r with emptyRows := r.emptyRows + emptyCount a info l } ∧
      (∀ d, d ≠ c → cell t d = cell s d) ∧ SameBut [.free, .cells, .parts] s t)) ∧
  (∀ c addr r s, Issuing s c 6 r →
    let a := attnCmdOf (cmdBytes s c r.step addr)
    a.back = true → attnCheck a false (attnRead s c r.step a.info 16) = none →
    Ends (.attnCellBackward c addr) s (fun t =>
      (cell t c).matFree = r.step + cellBusy a ∧
      (∀ x, (x < 64 * a.dQ ∨ 64 * a.dQ + 4 * (a.rows * a.dim) ≤ x) → (x < 64 * a.dK ∨ 64 * a.dK + 4 * (a.keys * a.dim) ≤ x) →
        (x < 64 * a.dV ∨ 64 * a.dV + 4 * (a.keys * a.dim) ≤ x) → tget 0 (cell t c).store x = tget 0 (cell s c).store x) ∧
      (∀ d, d ≠ c → cell t d = cell s d) ∧ SameBut [.free, .cells] s t)) ∧
  (∀ c addr r s, Issuing s c 0 r → (pipe s (c / 4)).free ≤ r.step →
    let a := attnCmdOf (cmdBytes s c r.step addr)
    let info := attnRead s (quadCell (c / 4) a.rowsQ) r.step a.info 16
    a.back = false → attnCheck a true info = none →
    Ends (.attnPipe c addr) s (fun t =>
      (pipe t (c / 4)).free = r.step + pipeBusy a ∧ (pipe t (c / 4)).win = (pipe s (c / 4)).win ∧
      (pipe t (c / 4)).job = some
        { cell := c, addr := addr, issue := r.step, cmd := cmdBytes s c r.step addr, info := info,
          q := attnRead s (quadCell (c / 4) a.rowsQ) r.step a.q (a.rows * a.dim * fmtBytes a.qFmt) } ∧
      rd t R.APIPE_STAT_BUSY ((pipePhys s (c / 4)).getD (quadHome (c / 4))) = 1 ∧
      (cell t c).store = (cell s c).store ∧ (∀ d, d ≠ c → cell t d = cell s d) ∧
      SameBut [.page 1, .free, .cells, .pipes] s t)) ∧
  (∀ c addr r s, Issuing s c 0 r → (pipe s (c / 4)).free ≤ r.step →
    let a := attnCmdOf (cmdBytes s c r.step addr)
    a.back = true → attnCheck a true (attnRead s (quadCell (c / 4) a.rowsQ) r.step a.info 16) = none →
    Ends (.attnPipeBackward c addr) s (fun t =>
      (pipe t (c / 4)).free = r.step + pipeBusy a ∧ (pipe t (c / 4)).job = (pipe s (c / 4)).job ∧
      (∀ d, d ≠ c → d ≠ quadCell (c / 4) a.rowsQ → d ≠ quadCell (c / 4) a.rowsK → d ≠ quadCell (c / 4) a.rowsV →
        d ≠ quadCell (c / 4) a.rowsO → cell t d = cell s d) ∧
      SameBut [.page 1, .free, .cells, .pipes] s t)) ∧
  (∀ c addr r s st, Issuing s c 6 r →
    let a := attnCmdOf (cmdBytes s c r.step addr)
    a.back = false → attnCheck a false (attnRead s c r.step a.info 16) = some st →
    Ends (.attnCell c addr) s (fun t => (cell t c).store = (cell s c).store ∧
      (part t (cellPart s c)).running.map Running.causes = some (r.causes ++ [.planFault])))

/-- R130, R132 to R136, R184, R242. Choices of the model in it: log entry 7. -/
def Obligations.EntriesBegin : Prop :=
  (∀ p i r s, (part s p).running = some r →
    (entryBegins s r i 0 = true → Ends (.memRead p i) s (fun t =>
      (part t p).running = some { r with memBegun := i :: r.memBegun } ∧ SameBut [.parts] s t)) ∧
    (entryBegins s r i 2 = true → Ends (.streamRefill p i) s (fun t =>
      (part t p).running = some { r with memBegun := i :: r.memBegun } ∧ SameBut [.parts] s t)) ∧
    (entryBegins s r i 4 = true → Ends (.kvRead p i) s (fun t =>
      (part t p).running = some { r with memBegun := i :: r.memBegun } ∧ SameBut [.parts] s t))) ∧
  (∀ p i r s, (part s p).running = some r →
    let e := memEntryAt (runImage s r) r.desc.variant i
    let d := cellBytes (cell s e.cell) r.step false (64 * nearAddr r i e) (64 * e.units)
    (entryBegins s r i 1 = true → Ends (.memWrite p i) s (fun t =>
      (part t p).running = some { r with memBegun := i :: r.memBegun, wbuf := tset [] i d r.wbuf } ∧ SameBut [.parts] s t)) ∧
    (entryBegins s r i 5 = true → ((kvCapture r e).isSome = false ∨ (kvAddrs s r e).isSome = true) →
      Ends (.kvWrite p i) s (fun t =>
        (part t p).running = some { r with memBegun := i :: r.memBegun, wbuf := tset [] i d r.wbuf } ∧ SameBut [.parts] s t)) ∧
    (entryBegins s r i 5 = true → (kvCapture r e).isSome = true → kvAddrs s r e = none → rd s R.KVPG_WRITE_DROP < 2 ^ 32 - 1 →
      Ends (.kvWrite p i) s (fun t =>
        rd t R.KVPG_WRITE_DROP = rd s R.KVPG_WRITE_DROP + 1 ∧
        (part t p).running = some { r with memBegun := i :: r.memBegun, wbuf := tset [] i d r.wbuf } ∧
        SameBut (recorded ++ pages [11] ++ [.parts]) s t))) ∧
  (∀ p i r s, (part s p).running = some r →
    let e := memEntryAt (runImage s r) r.desc.variant i
    let m := pchanMemc (runImage s r) e.pchan
    let o := owedOf s m (e.pchan % 4)
    (entryBegins s r i 3 = true → Ends (.refreshEntry p i) s (fun t =>
      owedOf t m (e.pchan % 4) = max (-8) (o - 1 - min (max (o - 1) 0) (gapAfter s r i e / 360 : Nat)) ∧
      SameBut (pages [3] ++ [.memory, .parts]) s t)) ∧
    (entryBegins s r i 6 = true → Ends (.openEntry p i) s (fun t =>
      owedOf t m (e.pchan % 4) = o - min (max o 0) (3 * e.units / 180 : Nat) ∧ SameBut (pages [3] ++ [.memory, .parts]) s t))) ∧
  (∀ p i r s, (part s p).running = some r → (∀ k, entryBegins s r i k = false) →
    exec (.memRead p i) s = .next s ∧ exec (.memWrite p i) s = .next s ∧ exec (.streamRefill p i) s = .next s ∧
    exec (.kvRead p i) s = .next s ∧ exec (.kvWrite p i) s = .next s ∧ exec (.refreshEntry p i) s = .next s ∧
    exec (.openEntry p i) s = .next s) ∧
  (∀ p i r s, (part s p).running = some r →
    let e := routeAt (runImage s r) r.desc.variant i
    r.begun = true → r.stopped = none → r.ended = false → r.rtBegun.contains i = false →
    i < (variantAt (runImage s r) r.desc.variant).routes → e.start ≤ r.step → tget [] r.sends i = [] →
    Ends (.routeTransfer p i) s (fun t =>
      (part t p).running = some { r with rtBegun := i :: r.rtBegun, rtDone := i :: r.rtDone } ∧
      (e.lane1 < 240 → rd t R.SEAM_UNITS (e.lane1 / 60) = (rd s R.SEAM_UNITS (e.lane1 / 60) + (e.bytes + 63) / 64) % 2 ^ R.SEAM_UNITS.w) ∧
      SameBut [.page 5, .parts] s t))

/-- R36, R37, R132, R133, R146, R246. Choices of the model in it: log entries 7 and 45. -/
def Obligations.EntriesEndAndSteps : Prop :=
  (∀ p i r s, (part s p).running = some r → r.memBegun.contains i = true → r.memDone.contains i = false → r.stopped = none →
    waitsReRead s (.launch p i) = false →
    let e := memEntryAt (runImage s r) r.desc.variant i
    (e.kind = 0 ∨ e.kind = 4) → (∀ a ∈ (entryAddrs s r e).getD [], poisonUnit s (a / 64) = false) →
    Ends (.memEntryDone p i {}) s (fun t =>
      (cell t e.cell).store = tsets 0 (64 * nearAddr r i e) (entryData s r e) (cell s e.cell).store ∧
      (∀ d, d ≠ e.cell → cell t d = cell s d) ∧ (part t p).running.map Running.memDone = some (i :: r.memDone) ∧
      SameBut [.free, .cells, .parts] s t)) ∧
  (∀ p i r s env, (part s p).running = some r → r.memBegun.contains i = true → r.memDone.contains i = false →
    waitsReRead s (.launch p i) = false →
    let e := memEntryAt (runImage s r) r.desc.variant i
    (e.kind = 1 ∨ e.kind = 5) →
    Ends (.memEntryDone p i env) s (fun t =>
      (∀ b, (∀ a ∈ (entryAddrs s r e).getD [], b < a ∨ a + 64 ≤ b) → memByte t b = memByte s b) ∧
      (∀ a, entryAddrs s r e = some [a] → a % 64 = 0 → (tget [] r.wbuf i).length = 64 → memBytes t a 64 = tget [] r.wbuf i) ∧
      (part t p).running.map Running.memDone = some (i :: r.memDone) ∧ (∀ d, cell t d = cell s d))) ∧
  (∀ p e r s, (part s p).running = some r → r.begun = true → r.stopped = none → r.ended = false → r.causes = [] →
    stepWaits s r = false → e.residue = [] → e.storeUE = [] → e.storeCE = [] → e.pipeResidue = [] → e.ports = [] →
    (∀ x ∈ r.poison, r.step < x.1) → (∀ q ∈ imgQuads (runImage s r), (pipe s q).job = none) →
    Ends (.stepComplete p e) s (fun t =>
      (part t p).running = some
        { r with step := r.step + 1, waited := false, retried := false,
                 schedWaits := r.schedWaits + b2n (r.waited && !r.retried && !e.retryWait),
                 retrySteps := r.retrySteps + b2n (r.retried || e.retryWait), stopped := none,
                 ended := decide (r.step + 1 = (variantAt (runImage s r) r.desc.variant).steps) } ∧
      (∀ c, cell t c = cell s c) ∧ SameBut [.page 0, .page 1, .parts] s t)) ∧
  (∀ p e r s, (part s p).running = some r → r.begun = true → r.stopped = none → r.ended = false → stepWaits s r = true →
    launchRetries s p = false →
    Ends (.stepComplete p e) s (fun t => (part t p).running = some { r with waited := true } ∧ SameBut [.parts] s t))

/-! ## Self-tests, retirement and partitions (chapters 03 and 06) -/

namespace Sys2Proof.Certificates

open Sys2Proof Sys2Proof.Machine Sys2Proof.Safety

/-- A unit's page takes a write of its test or retirement register: LOCK does not keep it, and the page is served or belongs to a
FREE spare (R89, R91, R176). -/
def UnitWritable (s : State) (w : Writer) (isPipe : Bool) (ty n : Nat) : Prop :=
  (pageServed s ty n = true ∨ rd s (mapState isPipe) n = 1) ∧ ¬(w = .host ∧ rd s (hLocked ty) n = 1)

/-- No launch runs in the partition of a unit. -/
def unitIdle (s : State) (isPipe : Bool) (n : Nat) : Prop := ∀ p, unitPart s isPipe n = some p → partRunning s p = false

end Sys2Proof.Certificates

/-- R88, R89, R176. Choices of the model in it: log entry 7. -/
def Obligations.SelfTests : Prop :=
  (∀ w n stress s, UnitWritable s w false 0 n → rd s (mapState false) n ≠ 3 → stress ≤ 50 → underTest s false n = false →
    unitIdle s false n →
    Ends (.cellTestStart w n stress) s (fun t => rd t R.CELL_STAT_TESTING n = 1 ∧ rd t R.CELL_TEST_CTL_STRESS n = stress ∧
      SameBut (.parts :: written 0) s t)) ∧
  (∀ w n stress s, UnitWritable s w true 1 n → rd s (mapState true) n ≠ 3 → stress ≤ 50 → underTest s true n = false →
    unitIdle s true n →
    Ends (.pipeTestStart w n stress) s (fun t => rd t R.APIPE_STAT_TESTING n = 1 ∧ rd t R.APIPE_TEST_CTL_STRESS n = stress ∧
      SameBut (.parts :: written 1) s t)) ∧
  (∀ w n stress s, UnitWritable s w false 0 n → rd s (mapState false) n ≠ 3 → stress ≤ 50 → underTest s false n = true →
    Ends (.cellTestStart w n stress) s (fun t => rd t R.CELL_STAT_TESTING n = 1 ∧
      rd t (hErrStatus 0) n = statusValue .dmaBusy ∧ SameBut (written 0) s t)) ∧
  (∀ n s, underTest s false n = true → spareTested s false n = none → s.twin.test = none →
    Ends (.cellTestDone n 0) s (fun t => rd t R.CELL_STAT_TESTING n = 0 ∧ rd t R.CELL_TEST_RES_DONE n = 1 ∧
      rd t R.CELL_TEST_RES_PASS n = 1 ∧ rd t R.CELL_TEST_RES_FAIL_UNIT n = 0 ∧ rd t (hIrqRaw 0 Irq.CELL_TEST_DONE) n = 1 ∧
      (∀ l, logicalOf s false n = some l → cell t l = {}) ∧ t.comb.retire = s.comb.retire)) ∧
  (∀ n s, underTest s true n = true → spareTested s true n = none → s.twin.test = none →
    Ends (.pipeTestDone n 0) s (fun t => rd t R.APIPE_STAT_TESTING n = 0 ∧ rd t R.APIPE_TEST_RES_DONE n = 1 ∧
      rd t R.APIPE_TEST_RES_PASS n = 1 ∧ rd t R.APIPE_TEST_RES_FAIL_UNIT n = 0 ∧
      (∀ l, logicalOf s true n = some l → pipe t l = {}) ∧ t.comb.retire = s.comb.retire)) ∧
  (∀ n u s, underTest s false n = true → 0 < u → u < 7 → spareTested s false n = none → s.twin.test = none →
    rd s (mapState false) n ≠ 1 → rd s (mapState false) n ≠ 3 → (s.comb.retire.any (fun r => r.pipe = false && r.num = n)) = false →
    Ends (.cellTestDone n u) s (fun t => rd t R.CELL_TEST_RES_PASS n = 0 ∧ rd t R.CELL_TEST_RES_FAIL_UNIT n = u ∧
      t.comb.retire = s.comb.retire ++ [{ pipe := false, num := n, reason := .selfTest }]))

/-- R90, R91. -/
def Obligations.Retirement : Prop :=
  (∀ w n v s, v % 2 = 1 → UnitWritable s w false 0 n → rd s (mapState false) n ≠ 1 → rd s (mapState false) n ≠ 3 →
    s.comb.retire.any (fun r => r.pipe = false && r.num = n) = false →
    Ends (.cellRetire w n v) s (fun t =>
      t.comb.retire = s.comb.retire ++ [{ pipe := false, num := n, reason := .operator }] ∧
      SameBut (.retiring :: written 0) s t)) ∧
  (∀ w n v s, v % 2 = 1 → pageServed s 2 n = true → ¬(w = .host ∧ rd s (hLocked 2) n = 1) → rd s (mapState true) n ≠ 1 →
    rd s (mapState true) n ≠ 3 → s.comb.retire.any (fun r => r.pipe = true && r.num = n) = false →
    Ends (.pipeRetire w n v) s (fun t =>
      t.comb.retire = s.comb.retire ++ [{ pipe := true, num := n, reason := .operator }] ∧
      SameBut (.retiring :: written 2) s t)) ∧
  (∀ w n v s, v % 2 = 0 → exec (.cellRetire w n v) s = .next s ∧ exec (.pipeRetire w n v) s = .next s) ∧
  (∀ r rest s, s.comb.retire = r :: rest → (∀ x ∈ s.comb.retire, x.order = 0) →
    Ends .retirementBegin s (fun t =>
      t.comb.retire = s.comb.retire.map (fun x => if x.pipe = r.pipe && x.num = r.num then { x with order := 2 } else x) ∧
      (∀ p, unitPart s r.pipe r.num = some p → (part t p).held = true ∧ (part t p).queue = (part s p).queue) ∧
      SameBut (recorded ++ [.parts, .retiring]) s t)) ∧
  (∀ s, s.comb.retire = [] → exec .retirementBegin s = .next s) ∧
  (∀ r s, s.comb.retire.find? (fun r => r.order = 2) = some r → unitIdle s r.pipe r.num → spareOf r.pipe r.num ≠ r.num →
    rd s (mapState r.pipe) (spareOf r.pipe r.num) = 1 →
    Ends .retirementSpareTest s (fun t =>
      rd t (testBit r.pipe) (spareOf r.pipe r.num) = 1 ∧
      t.comb.retire = s.comb.retire.map (fun x => if x.pipe = r.pipe && x.num = r.num then { x with order := 3 } else x) ∧
      SameBut [.page 0, .page 1, .parts, .retiring] s t)) ∧
  (∀ r s, s.comb.retire.find? (fun r => r.order = 2) = some r → unitIdle s r.pipe r.num →
    (spareOf r.pipe r.num = r.num ∨ rd s (mapState r.pipe) (spareOf r.pipe r.num) ≠ 1) →
    Ends .retirementSpareTest s (fun t =>
      rd t (mapState r.pipe) r.num = 3 ∧ dom t (unitDomain r.pipe r.num) = 2 ∧
      t.comb.retire = s.comb.retire.filter (fun x => !(x.pipe = r.pipe && x.num = r.num))))

/-- R94, R95, R97, R143, R149, R495. Choices of the model in it: log entry 77. -/
def Obligations.PartitionRegisters : Prop :=
  (∀ w q v s, pageServed s 2 q = true → q % 17 ≠ 8 → legalValue R.QUAD_PART_PARTITION v = true →
    (∀ p, p = rd s R.QUAD_PART_PARTITION q ∨ p = v → p < 64 → partRunning s p = false) →
    Ends (.quadPartWrite w q v) s (fun t => rd t R.QUAD_PART_PARTITION q = v ∧
      (∀ p, p = rd s R.QUAD_PART_PARTITION q ∨ p = v → p < 64 → rd s R.QUAD_PART_PARTITION q ≠ v → (part t p).resident = none) ∧
      SameBut (.parts :: written 2) s t)) ∧
  (∀ w q v s, pageServed s 2 q = true → q % 17 ≠ 8 → legalValue R.QUAD_PART_PARTITION v = true →
    (∃ p, (p = rd s R.QUAD_PART_PARTITION q ∨ p = v) ∧ p < 64 ∧ partRunning s p = true) →
    Ends (.quadPartWrite w q v) s (fun t => rd t R.QUAD_PART_PARTITION q = rd s R.QUAD_PART_PARTITION q ∧
      rd t (hErrStatus 2) q = statusValue .partitionBusy ∧ SameBut (written 2) s t)) ∧
  (∀ w m v s, pageServed s 3 m = true → legalValue R.MEMC_PART_PARTITION v = true →
    (∀ p, p = rd s R.MEMC_PART_PARTITION m ∨ p = v → p < 64 → partRunning s p = false) →
    Ends (.memcPartWrite w m v) s (fun t => rd t R.MEMC_PART_PARTITION m = v ∧ SameBut (written 3) s t)) ∧
  (∀ w d v s, pageServed s 5 d = true → legalValue R.SEAM_LANE v = true →
    (∀ p, p = rd s R.SEAM_LANE d (rd s R.SEAM_LANE_SEL d) ∨ p = v → p < 64 → partRunning s p = false) →
    Ends (.seamLaneWrite w d v) s (fun t => rd t R.SEAM_LANE d (rd s R.SEAM_LANE_SEL d) = v ∧ SameBut (written 5) s t)) ∧
  (∀ w v s, pageServed s 6 4 = true → v < 2 ^ 64 →
    (∀ p < 64, rd s R.DIE_FASTLANE 4 / 2 ^ p % 2 ≠ v / 2 ^ p % 2 → partRunning s p = false) →
    Ends (.fastlaneWrite w v) s (fun t => rd t R.DIE_FASTLANE 4 = v ∧ SameBut (written 6) s t)) ∧
  (∀ w v s p, pageServed s 6 4 = true → p < 64 → rd s R.DIE_FASTLANE 4 / 2 ^ p % 2 ≠ v / 2 ^ p % 2 → partRunning s p = true →
    Ends (.fastlaneWrite w v) s (fun t => rd t R.DIE_FASTLANE 4 = rd s R.DIE_FASTLANE 4 ∧
      rd t (hErrStatus 6) 4 = statusValue .partitionBusy ∧ SameBut (written 6) s t))

/-! ## Plans and launches (chapter 05) -/

/-- R138 to R141, R278, R375. Choices of the model in it: log entries 20, 36 and 83. -/
def Obligations.PlansAndLaunches : Prop :=
  (∀ q image bad r s, running s q 5 = some r →
    let n := arg r 16 1 % 64
    let t := arg r 17 1
    let len := arg r 20 4
    let dev := arg r 18 1 % 2 = 1
    let b := if dev then memBytes s (arg r 24 8) len else (image ++ List.replicate len 0).take len
    tenantOk r true t = true → len % 64 = 0 → 512 ≤ len → len ≤ 0xFFFFFFC0 →
    (dev → accessFail s t (arg r 24 8) len = none ∧ rangePoison s (arg r 24 8) len = false) →
    (¬dev → tenSeals s t = false) → imgLen b = len → (slot s n).st = .empty → slotKeyOther s n t = false →
    exec (.loadPlan q image bad) s = .next (setBusy (setSlot s n
      { st := .loading, tenant := t, weightBase := arg r 32 8, image := b, loadBy := some q,
        verdict := if tenActive s t then planVerdict s t (arg r 32 8) b else some .tenantRetiring }) q)) ∧
  (∀ q image bad r s, running s q 5 = some r → tenantOk r true (arg r 17 1) = false →
    exec (.loadPlan q image bad) s = .next (finishCmd s q .tenantMismatch 0)) ∧
  (∀ n q s, (slot s n).st = .loading → (slot s n).unloads = [] → (slot s n).loadBy = some q →
    ((slot s n).verdict = none → exec (.planChecksDone n) s = .next (finishCmd
      (memWrite (setSlot s n { slot s n with st := .ready, loadBy := none, unloads := [] })
        (imageBase (slot s n).image (slot s n).weightBase) (slot s n).image) q .ok 0)) ∧
    (∀ e, (slot s n).verdict = some e → exec (.planChecksDone n) s = .next (finishCmd (setSlot s n {}) q e 0))) ∧
  (∀ q r s, running s q 6 = some r →
    let n := arg r 16 1 % 64
    let t := arg r 17 1
    let k := wr (wr s R.SEC_WKEY_HELD 0 0 n) R.SEC_WKEY_TENANT 0 0 n
    tenantOk r true t = true →
    ((slot s n).st = .empty → slotKeyOther s n t = false → exec (.unloadPlan q) s = .next (finishCmd k q .ok 0)) ∧
    ((slot s n).st = .loading → (slot s n).tenant = t →
      exec (.unloadPlan q) s = .next (setBusy (setSlot k n { slot s n with unloads := (slot s n).unloads ++ [q] }) q)) ∧
    ((slot s n).st = .ready → (slot s n).tenant = t → exec (.unloadPlan q) s = .next (unloadReady (setBusy k q) n q)) ∧
    ((slot s n).st = .draining → (slot s n).tenant = t → exec (.unloadPlan q) s = .next (finishCmd s q .slotBusy 0)) ∧
    ((slot s n).st ≠ .empty → (slot s n).tenant ≠ t → exec (.unloadPlan q) s = .next (finishCmd s q .tenantMismatch 0))) ∧
  (∀ q r s, running s q 7 = some r →
    let a := arg r 16 8
    let d := descOf (memBytes s a 64)
    a % 64 = 0 → tenantOk r false d.tenant = true → accessFail s r.tenant a 64 = none → rangePoison s a 64 = false →
    ¬(twinRole s = 2 ∧ mirrored s d.partition = true) →
    Ends (.launch q) s (fun t =>
      (part t d.partition).queue = (part s d.partition).queue ++ [{ desc := d, src := .direct q (runCid r) }] ∧
      (part t d.partition).running = (part s d.partition).running ∧
      (queue t q).run = some { r with busy := true } ∧ SameBut [.host, .parts] s t))

/-- R129, R142 to R150. Choices of the model in it: log entries 29, 39, 81 and 84. -/
def Obligations.LaunchLife : Prop :=
  (∀ p q rest s, (part s p).running = none → (part s p).queue = q :: rest → launchHeld s p = false →
    (∀ d ∈ partDomains s p ++ (imgMemcs (slot s q.desc.slot).image).map (· + 340), dom s d = 0) → twinRole s = 0 →
    q.src ≠ .mirror → startCheck s p q.desc q.src = none → rd s R.PWR_BALLAST_BALLAST_EN = 0 →
    Ends (.launchStart p) s (fun t => (part t p).queue = rest ∧
      (part t p).running.map (fun r => (r.desc, r.src, r.begun, r.step, r.minProm)) =
        some (q.desc, q.src, false, 0, promisePace s p) ∧ (part t p).held = (part s p).held)) ∧
  (∀ p q rest s e, (part s p).running = none → (part s p).queue = q :: rest → launchHeld s p = false →
    (∀ d ∈ partDomains s p ++ (imgMemcs (slot s q.desc.slot).image).map (· + 340), dom s d = 0) → twinRole s = 0 →
    startCheck s p q.desc q.src = some e →
    exec (.launchStart p) s = .next (refuseLaunch (setPart s p { part s p with queue := rest }) q.desc q.src e.1 e.2)) ∧
  (∀ p s, (part s p).queue = [] → exec (.launchStart p) s = .next s) ∧
  (∀ p r s, (part s p).running = some r → r.begun = false → r.stopped = none →
    Ends (.preloadDone p) s (fun t => (part t p).running = some { r with begun := true, start := s.now } ∧
      (∀ c, (cell t c).store = (cell s c).store) ∧ SameBut [.cells, .parts] s t)) ∧
  (∀ p r s, (part s p).running = some r → (r.ended = true ∨ r.stopped ≠ none) → r.memBegun.all r.memDone.contains = true →
    launchRetries s p = false → twinRole s = 0 → s.twin.test = none →
    Ends (.launchEnd p) s (fun t => (part t p).running = none ∧ (part t p).queue = (part s p).queue ∧
      (part t p).resident = (if r.stopped.getD .ok ≠ .ok then none
        else if (variantAt (runImage s r) r.desc.variant).kind = 5 then some r.desc.slot else (part s p).resident))) ∧
  (∀ p r w s, (part s p).running = some r → r.ended = true → r.stopped = none → r.memBegun.all r.memDone.contains = true →
    launchRetries s p = false → twinRole s = 0 → s.twin.test = none → r.src = .serving w → r.rows = [] →
    (slot s r.desc.slot).st ≠ .draining → r.desc.recordAddr % 64 = 0 →
    Ends (.launchEnd p) s (fun t =>
      memBytes t r.desc.recordAddr 64 = launchRecord r.desc .ok
        (decide (r.bound < (s.now - (if r.begun then r.start else s.now)) * r.boundDen))
        (decide ((variantAt (runImage s r) r.desc.variant).kind = 5)) r.schedWaits (if r.begun then r.step else 0)
        (variantAt (runImage s r) r.desc.variant).steps r.retries r.retrySteps (if r.begun then r.start else s.now) s.now r.minProm r.lowIntv
        r.faultCell r.faultAddr (min r.emptyRows 0xFFFFFFFF) ∧
      (∀ b, (b < r.desc.recordAddr ∨ r.desc.recordAddr + 64 ≤ b) → memByte t b = memByte s b)))

/-! ## Key-value pages (chapter 07) -/

/-- R188, R189, R192, R193, R195, R197, R200. Choices of the model in it: log entry 42. -/
def Obligations.SequenceOperations : Prop :=
  (∀ q r s u, seqCmd s q 0 = some r → seqCheck s r 0 = none →
    openSeq s (arg r 18 2) (arg r 16 1) (arg r 20 1 % 64) (arg r 24 4) (2 ^ 64 - 1) true = .ok u →
    exec (.seqOpen q) s = .next (finishCmd u q .ok 0) ∧ (seqOf u (arg r 18 2)).st = 1 ∧
      (seqOf u (arg r 18 2)).tenant = arg r 16 1 ∧ (seqOf u (arg r 18 2)).writePos = 0 ∧
      (seqOf u (arg r 18 2)).commitLen = arg r 24 4 ∧ (∀ j, j ≠ arg r 18 2 → seqOf u j = seqOf s j)) ∧
  (∀ q r s e, seqCmd s q 0 = some r → seqCheck s r 0 = some e →
    exec (.seqOpen q) s = .next (finishCmd s q e 0)) ∧
  (∀ q r s u, let k := arg r 18 2
    let x := seqOf s k
    x.held = false → x.ops = [] →
    (seqCmd s q 1 = some r → seqCheck s r 1 = none → grow s k (arg r 24 4) = .done u →
      exec (.seqGrow q) s = .next (finishCmd u q .ok 0)) ∧
    (∀ n, seqCmd s q 1 = some r → seqCheck s r 1 = none → grow s k (arg r 24 4) = .lacks n →
      exec (.seqGrow q) s = .next (finishCmd s q .admitPages 0)) ∧
    (seqCmd s q 2 = some r → seqCheck s r 2 = none → commitSeq s k (arg r 24 4) = some u →
      exec (.seqCommit q) s = .next (finishCmd u q .ok 0)) ∧
    (seqCmd s q 2 = some r → seqCheck s r 2 = none → commitSeq s k (arg r 24 4) = none →
      exec (.seqCommit q) s = .next (finishCmd s q .seqState 0)) ∧
    (seqCmd s q 3 = some r → seqCheck s r 3 = none → rollbackSeq s k (arg r 24 4) = some u →
      exec (.seqRollback q) s = .next (finishCmd u q .ok 0)) ∧
    (seqCmd s q 4 = some r → seqCheck s r 4 = none → x.pins = 0 →
      exec (.seqClose q) s = .next (finishCmd (releaseSeq s k) q .ok 0) ∧ (seqOf (releaseSeq s k) k).st = 3)) ∧
  (∀ q r s, let x := seqOf s (arg r 18 2)
    x.held = true → seqCmd s q 1 = some r → seqCheck s r 1 = none →
    Ends (.seqGrow q) s (fun t => seqOf t (arg r 18 2) = { x with ops := x.ops ++ [q] } ∧
      (queue t q).run = some { r with busy := true })) ∧
  (∀ k q rest r s, (seqOf s k).ops = q :: rest → (queue s q).run = some r → (seqOf s k).held = false →
    (arg r 17 1 % 8 = 4 → (seqOf s k).pins = 0) →
    exec (.heldOpResume k) s = .next (seqApply (setSeq s k { seqOf s k with ops := rest }) q r)) ∧
  (∀ k s, (seqOf s k).ops = [] → exec (.heldOpResume k) s = .next s) ∧
  (∀ s k n u, commitSeq s k n = some u → (seqOf u k).writePos = (seqOf s k).writePos + n ∧ (∀ j, j ≠ k → seqOf u j = seqOf s j) ∧
    (∀ b, (b < rd s R.KVPG_SEQ_BASE + 64 * k ∨ rd s R.KVPG_SEQ_BASE + 64 * k + 64 ≤ b) → memByte u b = memByte s b)) ∧
  (∀ s k p u, rollbackSeq s k p = some u → (seqOf u k).writePos = p ∧ p ≤ (seqOf s k).writePos ∧
    (∀ j, j ≠ k → seqOf u j = seqOf s j) ∧
    (∀ b, (b < rd s R.KVPG_SEQ_BASE + 64 * k ∨ rd s R.KVPG_SEQ_BASE + 64 * k + 64 ≤ b) → memByte u b = memByte s b))

/-- R180, R185, R186, R190, R191, R196, R197. Choices of the model in it: log entry 43. -/
def Obligations.PoolAndParking : Prop :=
  (∀ k s u, parkHeads (parkQueue s) [] = [k] → grow s k (seqOf s k).growN = .done u →
    Ends .parkGrant s (fun t => (seqOf t k).st = 1 ∧ (seqOf t k).growNeed = 0 ∧ (seqOf t k).parkTime = 0)) ∧
  (∀ s, parkQueue s = [] → exec .parkGrant s = .next s) ∧
  (∀ k s, (seqOf s k).st = 2 → (seqOf s k).deadline + 1 < 2 ^ 64 → (seqOf s k).pins = 0 → (seqOf s k).held = false →
    (parkHeads (parkQueue s) []).contains k = false →
    (openReqs s).find? (fun e => e.2.seq = k || (e.2.spec && e.2.draftSeq = k)) = none →
    Ends (.parkDeadline k) s (fun t => (seqOf t k).st = 3 ∧ t.now = max s.now ((seqOf s k).deadline + 1) ∧
      rd t R.KVPG_EXHAUST_CNT = min (rd s R.KVPG_EXHAUST_CNT + 1) (2 ^ 32 - 1))) ∧
  (∀ dst c s, s.kv.copies.find? (fun c => c.dst = dst) = some c → (seqOf s dst).st = 1 → c.src ≠ dst →
    (seqOf s c.src).closeOwed = false →
    Ends (.prefixCopyDone dst) s (fun t =>
      (seqOf t dst).writePos = c.h * 2 ^ (seqOf s dst).tppLog2 ∧ (seqOf t c.src).pins = (seqOf s c.src).pins - 1 ∧
      t.kv.copies = s.kv.copies.filter (fun c => c.dst ≠ dst) ∧
      rd t R.KVPG_COPY_CNT = min (rd s R.KVPG_COPY_CNT + (seqOf s dst).layers * c.h) (2 ^ 32 - 1))) ∧
  (∀ f x s, frameOf s f = some x → x.scrub = true → x.handed = false → (seqOf s x.seq).st ≠ 3 →
    Ends (.frameScrubDone f) s (fun t => frameOf t f = none ∧ (∀ g, g ≠ f → frameOf t g = frameOf s g) ∧
      (∀ b, frameAddr s f ≤ b → b < frameAddr s f + 16384 → memByte t b = 0) ∧
      (∀ b, (b < frameAddr s f ∨ frameAddr s f + 16384 ≤ b) → memByte t b = memByte s b) ∧ SameBut (recorded ++ pages [11] ++ [.bytes, .memory, .kv]) s t)) ∧
  (∀ f x s, frameOf s f = some x → x.scrub = false → exec (.frameScrubDone f) s = .next s) ∧
  (∀ w v s, Writable s w 11 0 → allFree s = true → 1 ≤ v → v ≤ 2 ^ 26 → rd s R.KVPG_POOL_BASE % 16384 = 0 → resvSum s ≤ v →
    (extentsOf (rd s R.KVPG_POOL_BASE) (16384 * v)).all (extentPresent s) = true →
    Ends (.kvpgPoolWrite w true v) s (fun t => rd t R.KVPG_POOL_PAGES = v ∧ t.kv.frames = [] ∧
      t.kv.seqs = s.kv.seqs ∧ SameBut (.kv :: written 11) s t)) ∧
  (∀ w v s, Writable s w 11 0 → allFree s = true → v < 2 ^ 64 → v % 16384 = 0 → resvSum s ≤ rd s R.KVPG_POOL_PAGES →
    (extentsOf v (16384 * rd s R.KVPG_POOL_PAGES)).all (extentPresent s) = true →
    Ends (.kvpgPoolWrite w false v) s (fun t => rd t R.KVPG_POOL_BASE = v ∧ t.kv.frames = [] ∧
      t.kv.seqs = s.kv.seqs ∧ SameBut (.kv :: written 11) s t)) ∧
  (∀ w pages v s, Writable s w 11 0 → allFree s = false →
    Ends (.kvpgPoolWrite w pages v) s (fun t => rd t R.KVPG_POOL_PAGES = rd s R.KVPG_POOL_PAGES ∧
      rd t R.KVPG_POOL_BASE = rd s R.KVPG_POOL_BASE ∧ rd t (hErrStatus 11) 0 = statusValue .poolBusy ∧
      SameBut (written 11) s t)) ∧
  (∀ w v s, Writable s w 11 0 → allFree s = true → v < 2 ^ 64 → v % 2 ^ 22 = 0 →
    Ends (.kvpgSeqBaseWrite w v) s (fun t => rd t R.KVPG_SEQ_BASE = v ∧ SameBut (written 11) s t)) ∧
  (∀ w v s, Writable s w 11 0 → v < 2 ^ 27 →
    resvSum s - rd s R.KVPG_TEN_RESV 0 (rd s R.KVPG_TEN_SEL) + v ≤ rd s R.KVPG_POOL_PAGES →
    heldPages s (rd s R.KVPG_TEN_SEL) false ≤ v →
    Ends (.kvpgResvWrite w v) s (fun t => rd t R.KVPG_TEN_RESV 0 (rd s R.KVPG_TEN_SEL) = v ∧
      (∀ k, k ≠ rd s R.KVPG_TEN_SEL → rd t R.KVPG_TEN_RESV 0 k = rd s R.KVPG_TEN_RESV 0 k) ∧
      t.kv.seqs = s.kv.seqs ∧ SameBut (.kv :: written 11) s t))

/-! ## The serving sequencer (chapter 08) -/

/-- R201, R202, R207, R228, R396. Choices of the model in it: log entry 28. -/
def Obligations.Admission : Prop :=
  (∀ q desc prompt bad r s, running s q 3 = some r → admissionsStopped s = false → arg r 16 8 % 64 = 0 →
    tenSeals s (fnTenant s r.fn) = false →
    let plen := fieldAt desc 8 4
    let x := reqOf q r.fn desc ((prompt ++ List.replicate plen 0).take plen)
    tenantOk r false x.tenant = true → twinRole s = 0 →
    (∀ st, admitEarly s x plen = some st → exec (.request q desc prompt bad) s = .next (refuseReq s q st)) ∧
    (admitEarly s x plen = none → partAwake s (servPart s x.slot) = true → slotPaired s x.slot = false →
      exec (.request q desc prompt bad) s =
        .next (admitReq { s with serv := { s.serv with nextReq := s.serv.nextReq + 1 } } s.serv.nextReq x))) ∧
  (∀ q desc prompt bad r s, running s q 3 = some r → admissionsStopped s = true →
    exec (.request q desc prompt bad) s = .next s) ∧
  (∀ i x s, req s i = some x → x.st = .waking → slotPaired s x.slot = false →
    (partAwake s (servPart s x.slot) = true →
      exec (.admissionAfterWake i) s = .next (admitReq (setReq s i none) i { x with st := .prefill })) ∧
    (partAwake s (servPart s x.slot) = false → exec (.admissionAfterWake i) s = .next s)) ∧
  (∀ s i x u, admitDeadline s x = true → openContexts s x = .ok u →
    ∃ f, req (admitReq s i x) i = some
      { x with charge := promptCharge u x.tenant x.prompt.length, admitted := u.now, finish := f }) ∧
  (∀ s i x, admitDeadline s x = false → admitReq s i x = refuseReq s x.queue .admitDeadline) ∧
  (∀ q r s, running s q 4 = some r → tenantOk r true (arg r 16 1) = true →
    let t := arg r 16 1
    let k := arg r 18 2
    let found := (openReqs s).find? (fun e => e.2.seq = k)
    (∀ i x, found = some (i, x) → x.tenant = t → x.tag = arg r 20 2 → x.inWork = none →
      exec (.cancel q) s =
        .next (endReq (setBusy (setReq s i (some { x with cancels := x.cancels ++ [q] })) q) i .cancelled)) ∧
    (∀ i x w, found = some (i, x) → x.tenant = t → x.tag = arg r 20 2 → x.inWork = some w →
      Ends (.cancel q) s (fun u => req u i = some { x with cancels := x.cancels ++ [q] } ∧
        (queue u q).run = some { r with busy := true } ∧ SameBut [.serving, .host] s u)) ∧
    (found = none → (seqOf s k).st = 0 → tget none s.serv.tags k = some (t, arg r 20 2) →
      exec (.cancel q) s = .next (finishCmd s q .ok 0 4)) ∧
    (found = none → (seqOf s k).st = 0 → tget none s.serv.tags k = none →
      exec (.cancel q) s = .next (finishCmd s q .seqState 0)))

/-- R205, R211 to R214, R221, R222, R227. Choices of the model in it: log entries 40, 41 and 44. -/
def Obligations.SequencerWork : Prop :=
  (∀ w v s, pageServed s 10 0 = true →
    let n := rd s R.SERV_SLOT_SEL
    slotEnabled s n = false → v % 2 = 1 → bitsOf v 1 1 = 0 →
    (enableOk s n (bitsOf v 16 6) false (bitsOf v 8 4) (bitsOf v 24 6) = true →
      Ends (.slotEnable w v) s (fun t => slotEnabled t n = true ∧ servPart t n = bitsOf v 16 6 ∧
        rd t R.SERV_SLOT_CFG_FAULTED 0 n = 0 ∧ SameBut (written 10) s t)) ∧
    (enableOk s n (bitsOf v 16 6) false (bitsOf v 8 4) (bitsOf v 24 6) = false →
      Ends (.slotEnable w v) s (fun t => slotEnabled t n = false ∧ rd t (hErrStatus 10) 0 = statusValue .servConfig ∧
        SameBut (written 10) s t))) ∧
  (∀ w v s, pageServed s 10 0 = true →
    let n := rd s R.SERV_SLOT_SEL
    slotEnabled s n = true → v % 2 = 0 → bitsOf v 1 1 = rd s R.SERV_SLOT_CFG_SPEC_EN 0 n → bitsOf v 8 4 = specLen s n →
    bitsOf v 16 6 = servPart s n → bitsOf v 24 6 = draftSlotOf s n →
    Ends (.slotEnable w v) s (fun t => slotEnabled t n = false ∧ servPart t n = servPart s n ∧ SameBut (written 10) s t)) ∧
  (∀ n c s, s.serv.dirty = [] → (servSlot s n).flight = none → (servSlot s n).reload = none → slotFaulted s n = false →
    (slot s n).st = .ready → rd s R.SERV_CTL_ENABLE ≠ 0 → admissionsStopped s = false → launchStopped s (servPart s n) = false →
    slotPaired s n = false → nextPlace s n 80 (servSlot s n).cycle = some c →
    exec (.servingLaunchPrepare n) s = .next (prepareAt s n c)) ∧
  (∀ n w s, s.serv.dirty = [] → (servSlot s n).flight = some w → exec (.servingLaunchPrepare n) s = .next s) ∧
  (∀ wn w s, work s wn = some w → w.done = true → w.refused = none → w.stopped = none →
    exec (.servingLaunchResult wn) s = .next ((w.rows.zipIdx).foldl (rowResult w)
      (setWork (setServSlot s w.slot { servSlot s w.slot with flight := none }) wn none))) ∧
  (∀ wn w s, work s wn = some w → w.done = false → exec (.servingLaunchResult wn) s = .next s) ∧
  (∀ i x s, req s i = some x → x.lookup = true → x.looked = false → x.st = .prefill →
    rd s (R.SERV_CLASS_PFX_EN x.cls) ≠ 0 → (seqOf s x.seq).st = 1 → rd s R.PFX_TEN_NODES 0 x.tenant = 0 →
    Ends (.prefixLookup i) s (fun t => req t i = some { x with looked := true } ∧
      rd t R.PFX_LOOKUP_CNT = min (rd s R.PFX_LOOKUP_CNT + 1) (2 ^ 32 - 1) ∧ SameBut [.page 12, .serving] s t)) ∧
  (∀ w v s, Writable s w 10 0 → v < 2 ^ 31 →
    Ends (.burstWrite w v) s (fun t => rd t R.SERV_TEN_BURST 0 (rd s R.SERV_TEN_SEL) = v ∧
      (tget {} t.serv.budget (rd s R.SERV_TEN_SEL)).level = 16 * v ∧
      (tget {} t.serv.budget (rd s R.SERV_TEN_SEL)).time = s.now ∧ SameBut (.serving :: written 10) s t)) ∧
  (∀ w v s, Writable s w 12 0 → (openReqs s).any (fun e => e.2.tenant = rd s R.PFX_TEN_SEL) = false →
    (v < 2 ^ 24 → Ends (.pfxTenWrite w true v) s (fun t => rd t R.PFX_TEN_NODES 0 (rd s R.PFX_TEN_SEL) = v ∧
      t.serv = s.serv ∧ t.kv = s.kv)) ∧
    (v < 2 ^ 64 → v % 64 = 0 → Ends (.pfxTenWrite w false v) s (fun t => rd t R.PFX_TEN_BASE 0 (rd s R.PFX_TEN_SEL) = v ∧
      t.serv = s.serv ∧ t.kv = s.kv))) ∧
  (∀ w v s, Writable s w 12 0 → (openReqs s).any (fun e => e.2.tenant = rd s R.PFX_TEN_SEL) = true →
    Ends (.pfxTenWrite w true v) s (fun t => rd t R.PFX_TEN_NODES 0 (rd s R.PFX_TEN_SEL) = rd s R.PFX_TEN_NODES 0 (rd s R.PFX_TEN_SEL) ∧
      rd t (hErrStatus 12) 0 = statusValue .poolBusy ∧ SameBut (written 12) s t))

/-! ## Device memory (chapter 09) -/

/-- R232, R238. -/
def Obligations.Extents : Prop :=
  (∀ w v s, Writable s w 3 0 → v < 2 ^ 32 → (∀ p ∈ setList v, p.2 ∈ [1, 2, 4, 8, 16, 32]) → rd s R.KVPG_POOL_PAGES = 0 →
    (∀ e < extentCount s, rd s R.MEM_OWN_VALID 0 e ≠ 1 ∧ rd s R.MEM_OWN_SCRUBBING 0 e ≠ 1) →
    Ends (.memSetMapWrite w v) s (fun t => rd t R.MEM_SET_MAP = v ∧ SameBut (written 3) s t)) ∧
  (∀ w v s e, Writable s w 3 0 → e < extentCount s → rd s R.MEM_OWN_VALID 0 e = 1 →
    Ends (.memSetMapWrite w v) s (fun t => rd t R.MEM_SET_MAP = rd s R.MEM_SET_MAP ∧
      rd t (hErrStatus 3) 0 = statusValue .memConfig ∧ SameBut (written 3) s t)) ∧
  (∀ w v s, Writable s w 3 0 → let e := rd s R.MEM_OWN_SEL
    rd s R.MEM_OWN_VALID 0 e = 0 → rd s R.MEM_OWN_SCRUBBING 0 e = 0 → extentPresent s e = true → tenActive s v = true → v < 256 →
    Ends (.extentOwn w v) s (fun t => rd t R.MEM_OWN_VALID 0 e = 1 ∧ rd t R.MEM_OWN_TENANT 0 e = v ∧
      (∀ k, k ≠ e → rd t R.MEM_OWN_VALID 0 k = rd s R.MEM_OWN_VALID 0 k) ∧ SameBut (written 3) s t)) ∧
  (∀ w v s, Writable s w 3 0 → let e := rd s R.MEM_OWN_SEL
    rd s R.MEM_OWN_VALID 0 e = 1 →
    Ends (.extentOwn w v) s (fun t => rd t R.MEM_OWN_TENANT 0 e = rd s R.MEM_OWN_TENANT 0 e ∧
      rd t (hErrStatus 3) 0 = statusValue .memConfig ∧ SameBut (written 3) s t)) ∧
  (∀ w s, Writable s w 3 0 → let e := rd s R.MEM_OWN_SEL
    rd s R.MEM_OWN_VALID 0 e = 1 → rd s R.MEM_OWN_SCRUBBING 0 e = 0 → extentUsed s e = false →
    Ends (.extentRelease w) s (fun t => rd t R.MEM_OWN_SCRUBBING 0 e = 1 ∧ rd t R.MEM_OWN_VALID 0 e = 1 ∧
      SameBut (written 3) s t)) ∧
  (∀ e s, rd s R.MEM_OWN_SCRUBBING 0 e = 1 → s.sec.handedExtents.contains e = false →
    Ends (.extentScrubDone e) s (fun t => rd t R.MEM_OWN_VALID 0 e = 0 ∧ rd t R.MEM_OWN_SCRUBBING 0 e = 0 ∧
      (∀ b, e * 2 ^ 26 ≤ b → b < (e + 1) * 2 ^ 26 → memByte t b = 0) ∧
      (∀ b, (b < e * 2 ^ 26 ∨ (e + 1) * 2 ^ 26 ≤ b) → memByte t b = memByte s b) ∧ SameBut (pages [3] ++ [.bytes, .memory]) s t)) ∧
  (∀ e s, rd s R.MEM_OWN_SCRUBBING 0 e = 0 → exec (.extentScrubDone e) s = .next s)

/-- R234, R242 to R244, R246, R248. Choices of the model in it: log entry 7. -/
def Obligations.MemoryUpkeep : Prop :=
  (∀ failed micros s, rd s R.BOOT_STAT_STAGE = 6 → s.boot.cold = true →
    Ends (.memoryTrainingDone failed micros) s (fun t => rd t R.BOOT_STAT_STAGE = 7 ∧
      (∀ m < 32, (∀ c < 4, failed.contains (4 * m + c) = false) →
        rd t R.MEMC_STAT_TRAINED m = 1 ∧ rd t R.MPHY_STAT_TRAINED m = 15 ∧ rd t R.MPHY_STAT_FAILED m = 0) ∧
      (∀ m < 32, ∀ c < 4, failed.contains (4 * m + c) = true →
        rd t R.MEMC_STAT_TRAINED m = 0 ∧ rd t R.MEMC_PART_DISABLED m = 1 ∧ dom t (340 + m) = 2) ∧
      SameBut (recorded ++ pages [3, 4, 26] ++ [.power]) s t)) ∧
  (∀ a who r s, s.mem.rereads.find? (fun r => r.addr = a && r.who = who) = some r →
    Ends (.eccReRead a who true) s (fun t =>
      t.mem.rereads = s.mem.rereads.filter (fun x => !(x.addr = a && x.who = who)) ∧ t.mem.poison = s.mem.poison ∧
      rd t R.MEMC_RETRY_CNT (memcOf s a) = min (rd s R.MEMC_RETRY_CNT (memcOf s a) + 1) (2 ^ 32 - 1) ∧ SameBut (recorded ++ pages [3] ++ [.memory, .parts]) s t)) ∧
  (∀ a who r s, s.mem.rereads.find? (fun r => r.addr = a && r.who = who) = some r →
    rd s R.MEMC_ECC_CTL (memcOf s a) ≤ r.tries + 1 →
    Ends (.eccReRead a who false) s (fun t =>
      t.mem.rereads = s.mem.rereads.filter (fun x => !(x.addr = a && x.who = who)) ∧ poisonUnit t (a / 64) = true ∧
      SameBut (recorded ++ pages [3] ++ [.memory, .parts]) s t)) ∧
  (∀ a who r s, s.mem.rereads.find? (fun r => r.addr = a && r.who = who) = some r →
    r.tries + 1 < rd s R.MEMC_ECC_CTL (memcOf s a) →
    Ends (.eccReRead a who false) s (fun t =>
      t.mem.rereads = { r with tries := r.tries + 1 } :: s.mem.rereads.filter (fun x => !(x.addr = a && x.who = who)) ∧
      t.mem.poison = s.mem.poison ∧ t.mem.awaiting = s.mem.awaiting)) ∧
  (∀ u s, s.mem.awaiting.contains u = true →
    Ends (.poisonMarkWrite u) s (fun t => u ∈ t.mem.poison ∧ t.mem.awaiting = s.mem.awaiting.erase u ∧ SameBut [.memory] s t)) ∧
  (∀ m c s, c < 4 → rd s R.MEMC_STAT_HELD m = 0 →
    Ends (.refreshDue m c) s (fun t => owedOf t m c = min (min 8 (owedOf s m c + 1)) 0 ∧
      (∀ d, d < 4 → d ≠ c → owedOf t m d = owedOf s m d) ∧ SameBut (pages [3] ++ [.memory]) s t)) ∧
  (∀ m c s, c < 4 → rd s R.MEMC_STAT_HELD m ≠ 0 → heldGap s m c < 360 →
    Ends (.refreshDue m c) s (fun t => owedOf t m c = min 8 (owedOf s m c + 1) ∧ SameBut (pages [3] ++ [.memory]) s t)) ∧
  (∀ m x rate s, rate < 8 →
    Ends (.packageTempRead m x rate) s (fun t => rd t R.MPHY_TEMP_RATE_CLASS m = rate ∧
      rd t R.MPHY_TEMP_TEMP m = codeInt 8 x % 2 ^ 8 ∧ rd t R.MEMC_STAT_HOT m = (if 0 < rate then 1 else 0) ∧
      SameBut (recorded ++ pages [3, 4] ++ [.power]) s t)) ∧
  (∀ m s, patrolLate s m = false →
    exec (.patrolScrub m {} false) s = .next s ∧
    Ends (.patrolScrub m {} true) s (fun t => tget 0 t.mem.patrol m = s.now ∧ t.mem.lagged = s.mem.lagged.erase m ∧
      SameBut [.memory] s t))

/-- R230, R246, R249, R254. Choices of the model in it: log entry 45. -/
def Obligations.HostWindow : Prop :=
  (∀ fn off data s, windowHit s fn off data.length = true → windowServed s fn off data.length = true →
    meets (windowAddr s fn off) data.length (rd s R.KVPG_SEQ_BASE) (2 ^ 22) = false → waitsReRead s (.window fn) = false →
    rangePoison s (windowAddr s fn off) data.length = false →
    Ends (.hostWindowWrite fn off data {}) s (fun t =>
      memBytes t (windowAddr s fn off) data.length = data ∧
      (∀ b, (b < windowAddr s fn off ∨ windowAddr s fn off + data.length ≤ b) → memByte t b = memByte s b) ∧
      SameBut [.bytes, .memory] s t)) ∧
  (∀ fn off data e s, windowHit s fn off data.length = true →
    (windowServed s fn off data.length = false ∨
      meets (windowAddr s fn off) data.length (rd s R.KVPG_SEQ_BASE) (2 ^ 22) = true) →
    Ends (.hostWindowWrite fn off data e) s (fun t => rd t R.MEM_WIN_DENY = min (rd s R.MEM_WIN_DENY + 1) (2 ^ 32 - 1) ∧
      t.out = s.out ∧ SameBut [.page 3] s t)) ∧
  (∀ fn off n s, windowHit s fn off n = true → windowServed s fn off n = true → waitsReRead s (.window fn) = false →
    Ends (.hostWindowRead fn off n {}) s (fun t =>
      t.out = .window fn (memBytes s (windowAddr s fn off) n) (rangePoison s (windowAddr s fn off) n) :: s.out ∧
      SameBut [.out] s t)) ∧
  (∀ fn off n e s, windowHit s fn off n = true → windowServed s fn off n = false →
    Ends (.hostWindowRead fn off n e) s (fun t => t.out = .window fn (List.replicate n 0xFF) false :: s.out ∧
      rd t R.MEM_WIN_DENY = min (rd s R.MEM_WIN_DENY + 1) (2 ^ 32 - 1) ∧ SameBut [.page 3, .out] s t)) ∧
  (∀ fn off data e s, windowHit s fn off data.length = false →
    exec (.hostWindowWrite fn off data e) s = .next s ∧ exec (.hostWindowRead fn off data.length e) s = .next s)

/-! ## The host port (chapter 10) -/

/-- R29, R250, R251, R258, R259, R269. Choices of the model in it: log entries 9 and 80. -/
def Obligations.HostLink : Prop :=
  (∀ fn cut s, Ends (.functionLevelReset fn cut) s (fun t => tget {} t.host.fns fn = {} ∧
    rd t (hIrqRaw 7 Irq.HOST_FLR) 0 = 1 ∧ SameBut (recorded ++ completed ++ pages [8, 10, 11, 17] ++ [.free, .kv, .serving]) s t)) ∧
  (∀ cut s, Ends (.hotReset cut) s (fun t => rd t R.HOST_LINK_UP = 0 ∧ rd t R.HOST_STAT_READY = 0 ∧
    rd t R.HOST_IDE_STAT_ACTIVE = 0 ∧ t.host.perst = some s.now ∧ (∀ fn < 64, tget {} t.host.fns fn = {}) ∧
    SameBut (recorded ++ completed ++ pages [8, 10, 11, 17] ++ [.free, .kv, .serving]) s t)) ∧
  (∀ cut s, rd s R.HOST_LINK_UP = 1 → Ends (.hostLinkDown cut) s (fun t => rd t R.HOST_LINK_UP = 0 ∧
    rd t R.HOST_STAT_READY = 0 ∧ (∀ fn < 64, tget {} t.host.fns fn = {}) ∧ SameBut (recorded ++ completed ++ pages [8, 10, 11, 17] ++ [.free, .kv, .serving]) s t)) ∧
  (∀ cut s, rd s R.HOST_LINK_UP ≠ 1 → exec (.hostLinkDown cut) s = .next s) ∧
  (∀ cut s, s.host.refclk = true → Ends (.refclkLoss cut) s (fun t => t.host.refclk = false ∧ rd t R.HOST_LINK_UP = 0 ∧
    rd t R.HOST_STAT_REFCLK_LOST = 1 ∧ SameBut (recorded ++ completed ++ pages [8, 10, 11, 17] ++ [.free, .kv, .serving]) s t)) ∧
  (∀ cut s, s.host.refclk = false → exec (.refclkLoss cut) s = .next s) ∧
  (∀ s, Ends .refclkReturn s (fun t => t.host.refclk = true ∧ rd t R.HOST_STAT_REFCLK_LOST = 0 ∧ SameBut (pages [7] ++ [.host]) s t)) ∧
  (∀ speed width flit s, s.host.refclk = true → s.host.inReset = false → 1 ≤ speed → speed ≤ rd s R.HOST_LINK_CTL_MAX_SPEED →
    speed < 16 → width ∈ [1, 2, 4, 8, 16] →
    Ends (.linkTrained speed width flit) s (fun t => rd t R.HOST_LINK_UP = 1 ∧ rd t R.HOST_LINK_SPEED = speed ∧
      rd t R.HOST_LINK_WIDTH = width ∧ rd t R.HOST_LINK_DEGRADED = (if speed < 3 ∨ width < 4 then 1 else 0) ∧
      (speed < 5 → rd t R.HOST_IDE_STAT_INSECURE = 0xFF ∧ rd t R.HOST_IDE_STAT_ACTIVE = 0) ∧ SameBut (recorded ++ pages [7] ++ [.host]) s t)) ∧
  (∀ speed width flit s, (s.host.refclk = false ∨ s.host.inReset = true ∨ speed = 0 ∨ rd s R.HOST_LINK_CTL_MAX_SPEED < speed ∨
    width ∉ [1, 2, 4, 8, 16]) → exec (.linkTrained speed width flit) s = .next s) ∧
  (∀ w v s, pageServed s 7 0 = true → 3 ≤ v % 16 → v % 16 ≤ 6 →
    Ends (.linkRetrain w v) s (fun t => rd t R.HOST_LINK_CTL_MAX_SPEED = v % 16 ∧
      t.host.retrain = (if bitsOf v 4 1 = 1 then true else s.host.retrain) ∧ SameBut (.host :: written 7) s t)) ∧
  (∀ w v s, pageServed s 7 0 = true → (v % 16 < 3 ∨ 6 < v % 16) →
    Ends (.linkRetrain w v) s (fun t => rd t R.HOST_LINK_CTL_MAX_SPEED = rd s R.HOST_LINK_CTL_MAX_SPEED ∧
      rd t (hErrStatus 7) 0 = statusValue .fieldReserved ∧ SameBut (.host :: written 7) s t))

/-- R252 to R255. Choices of the model in it: log entry 9. -/
def Obligations.FunctionRegisters : Prop :=
  (∀ w v s, Writable s w 7 0 → let f := rd s R.HOST_FN_SEL
    f ≠ 0 → fnQueues s f = [] →
    Ends (.hostFnCfgWrite w v) s (fun t => rd t R.HOST_FN_CFG_BOUND 0 f = bitsOf v 31 1 ∧
      rd t R.HOST_FN_CFG_TENANT 0 f = v % 256 ∧ SameBut (written 7) s t)) ∧
  (∀ w v s, Writable s w 7 0 → let f := rd s R.HOST_FN_SEL
    f ≠ 0 → fnQueues s f ≠ [] →
    Ends (.hostFnCfgWrite w v) s (fun t => rd t R.HOST_FN_CFG_BOUND 0 f = rd s R.HOST_FN_CFG_BOUND 0 f ∧
      rd t R.HOST_FN_CFG_TENANT 0 f = rd s R.HOST_FN_CFG_TENANT 0 f ∧ rd t (hErrStatus 7) 0 = statusValue .fnBusy ∧
      SameBut (written 7) s t)) ∧
  (∀ w v s, rd s R.HOST_FN_SEL = 0 → exec (.hostFnCfgWrite w v) s = .next s) ∧
  (∀ w v s, Writable s w 7 0 → let f := rd s R.HOST_FN_SEL
    1 ≤ v → v ≤ 2048 → msixSum s - rd s R.HOST_FN_MSIX 0 f + v ≤ 16384 →
    Ends (.hostFnMsixWrite w v false) s (fun t => rd t R.HOST_FN_MSIX 0 f = v ∧
      rd t R.HOST_MSIX_FREE = 16384 - (msixSum s - rd s R.HOST_FN_MSIX 0 f + v) ∧ SameBut (written 7) s t) ∧
    Ends (.hostFnMsixWrite w v true) s (fun t => rd t R.HOST_FN_MSIX 0 f = rd s R.HOST_FN_MSIX 0 f ∧
      rd t (hErrStatus 7) 0 = statusValue .fnBusy ∧ SameBut (written 7) s t)) ∧
  (∀ w v s, Writable s w 7 0 → v < 2 ^ 10 →
    Ends (.hostFnWinWrite w v) s (fun t => rd t R.HOST_FN_WIN 0 (rd s R.HOST_FN_SEL) = v ∧
      (∀ k, k ≠ rd s R.HOST_FN_SEL → rd t R.HOST_FN_WIN 0 k = rd s R.HOST_FN_WIN 0 k) ∧ SameBut (written 7) s t)) ∧
  (∀ fn size s, fn < 64 → 30 ≤ size → size ≤ (if fn = 0 then 40 else 36) →
    Ends (.bar4Resize fn size false) s (fun t => barBits t fn = size ∧ (∀ g, g ≠ fn → barBits t g = barBits s g) ∧
      SameBut [.host] s t) ∧
    exec (.bar4Resize fn size true) s = .next s)

/-- R260 to R264, R277. Choices of the model in it: log entries 25 and 46. -/
def Obligations.BulkTransfers : Prop :=
  (∀ q r s, running s q 1 = some r →
    let x : Xfer := { queue := some q, kind := 0, op := arg r 16 1 % 4, sealed := bitsOf (arg r 16 1) 2 1 = 1, tenant := arg r 17 1,
                      sealQ := q, length := arg r 20 4, src := arg r 24 8, dst := arg r 32 8, tagAddr := arg r 40 8,
                      ctr := arg r 48 8 }
    (descCheck s x (tenantOk r false x.tenant) = none →
      Ends (.dma q) s (fun t => engine t (queueEngine q) = engine s (queueEngine q) ++ [x] ∧
        (queue t q).run = some { r with busy := true } ∧ SameBut [.page 8, .host] s t)) ∧
    (∀ st, descCheck s x (tenantOk r false x.tenant) = some st →
      exec (.dma q) s = .next (finishCmd (noteSeal s x.tenant st) q st 0))) ∧
  (∀ w e s, Writable s w 8 e → 4 ≤ e → programmedBusy s e = false →
    let d := (List.range 16).flatMap (fun j => leBytes 4 (rd s (R.DMA_DESC j) e))
    let x : Xfer := { queue := none, kind := 0, op := fieldAt d 0 1 % 4, sealed := bitsOf (fieldAt d 0 1) 2 1 = 1,
                      tenant := fieldAt d 1 1, sealQ := fieldAt d 2 2, length := fieldAt d 4 4, src := fieldAt d 8 8,
                      dst := fieldAt d 16 8, tagAddr := fieldAt d 24 8, ctr := fieldAt d 32 8 }
    (descCheck s x (x.tenant = 0) = none →
      Ends (.dmaGo w e) s (fun t => engine t e = engine s e ++ [x] ∧ rd t R.DMA_RESULT_VALID e = 0 ∧
        rd t R.DMA_STAT_BUSY e = 1 ∧ SameBut (.host :: written 8) s t)) ∧
    (∀ st, descRange x = some st →
      Ends (.dmaGo w e) s (fun t => engine t e = engine s e ∧ rd t R.DMA_RESULT_VALID e = 1 ∧
        rd t R.DMA_RESULT_STATUS e = statusValue st % 2 ^ R.DMA_RESULT_STATUS.w))) ∧
  (∀ w e s, Writable s w 8 e → (e < 4 ∨ programmedBusy s e = true) →
    Ends (.dmaGo w e) s (fun t => rd t (hErrStatus 8) e = statusValue .dmaBusy ∧ SameBut (written 8) s t)) ∧
  (∀ e x rest data s, engine s e = x :: rest → x.queue = none → x.kind = 0 → x.op = 0 → x.sealed = false →
    data.length = x.length → waitsReRead s (.dma e) = false → rangePoison s x.dst x.length = false →
    Ends (.dmaTransferDone e data none {}) s (fun t =>
      memBytes t x.dst x.length = data ∧
      (∀ b, (b < x.dst ∨ x.dst + x.length ≤ b) → memByte t b = memByte s b) ∧
      engine t e = rest ∧ rd t R.DMA_RESULT_VALID e = 1 ∧ rd t R.DMA_RESULT_STATUS e = statusValue .ok)) ∧
  (∀ e data bad env s, engine s e = [] → exec (.dmaTransferDone e data bad env) s = .next s) ∧
  (∀ e x rest s, engine s e = x :: rest → x.queue = none → x.kind = 0 → x.op = 0 →
    Ends (.hostReadError true e []) s (fun t => engine t e = rest ∧ rd t R.DMA_RESULT_VALID e = 1 ∧
      rd t R.DMA_RESULT_STATUS e = statusValue .dmaHostError % 2 ^ R.DMA_RESULT_STATUS.w ∧
      (∀ b, memByte t b = memByte s b))) ∧
  (∀ q r s, (queue s q).run = some r → r.busy = false → runOp r ∈ [3, 5, 0x20] →
    exec (.hostReadError false q []) s = .next (finishCmd (hostReadFailed s r.fn [q]) q .dmaHostError 0))

/-! ## Queues, completions and timeouts (chapter 11) -/

/-- R271, R273, R274, R288, R290. Choices of the model in it: log entries 22 and 47. -/
def Obligations.QueueControl : Prop :=
  (∀ fn s, let q := qSel s fn
    pageServed s (fnPage fn) fn = true → queueFn s q = fn → qState s q = 0 → createOk s fn q = true →
    Ends (.create fn 0) s (fun t => qState t q = 1 ∧ rd t R.Q_SQ_PTR_HEAD 0 q = 0 ∧ rd t R.Q_SQ_PTR_TAIL 0 q = 0 ∧
      rd t R.Q_CQ_PTR_HEAD 0 q = 0 ∧ rd t R.Q_CQ_PTR_TAIL 0 q = 0 ∧ queue t q = {} ∧
      rd t R.QMGR_ACTIVE = (rd s R.QMGR_ACTIVE + 1) % 2 ^ 17 ∧ (∀ k, k ≠ q → qState t k = qState s k))) ∧
  (∀ fn s, let q := qSel s fn
    pageServed s (fnPage fn) fn = true → queueFn s q = fn → qState s q ≠ 0 →
    Ends (.create fn 0) s (fun t => qState t q = qState s q ∧ rd t (hErrStatus (fnPage fn)) fn = statusValue .queueState)) ∧
  (∀ fn cut s, let q := qSel s fn
    pageServed s (fnPage fn) fn = true → queueFn s q = fn → (qState s q = 1 ∨ qState s q = 2) → (queue s q).run = none →
    Ends (.delete fn 0 cut) s (fun t => qState t q = 0 ∧ queue t q = {} ∧ (∀ k, k ≠ q → qState t k = qState s k))) ∧
  (∀ fn s, let q := qSel s fn
    pageServed s (fnPage fn) fn = true → queueFn s q = fn →
    (qState s q = 2 → Ends (.resume fn 0) s (fun t => qState t q = 1 ∧ queue t q = queue s q)) ∧
    (qState s q ≠ 2 → Ends (.resume fn 0) s (fun t => qState t q = qState s q ∧
      rd t (hErrStatus (fnPage fn)) fn = statusValue .queueState))) ∧
  (∀ fn rest s, let q := qSel s fn
    pageServed s (fnPage fn) fn = true → queueFn s q = fn → qState s q = 2 →
    Ends (.queueFlush fn 0 rest) s (fun t => qState t q = 1 ∧ (queue t q).fetched = [] ∧
      rd t R.Q_SQ_PTR_HEAD 0 q = rd s R.Q_SQ_PTR_TAIL 0 q ∧ rd t R.Q_SQ_PTR_TAIL 0 q = rd s R.Q_SQ_PTR_TAIL 0 q)) ∧
  (∀ fn off v q s, hostUp s = true → fn < 64 → off % 8 = 0 → doorbellQueue s fn off = some q → (qState s q = 1 ∨ qState s q = 2) →
    (v < ringN s q → v < 2 ^ 16 → Ends (.doorbell fn off 4 v) s (fun t => rd t R.Q_SQ_PTR_TAIL 0 q = v ∧
      (∀ k, k ≠ q → rd t R.Q_SQ_PTR_TAIL 0 k = rd s R.Q_SQ_PTR_TAIL 0 k) ∧ SameBut [.page 9] s t)) ∧
    (ringN s q ≤ v → v < 2 ^ 16 → Ends (.doorbell fn off 4 v) s (fun t =>
      rd t R.Q_SQ_PTR_TAIL 0 q = rd s R.Q_SQ_PTR_TAIL 0 q ∧
      rd t R.QMGR_DB_ERR_CNT = min (rd s R.QMGR_DB_ERR_CNT + 1) (2 ^ 32 - 1)))) ∧
  (∀ fn off n v s, hostUp s = false → exec (.doorbell fn off n v) s = .next s)

/-- R272, R276, R277, R284, R285, R288, R292, R293. Choices of the model in it: log entry 13. -/
def Obligations.CommandsRun : Prop :=
  (∀ q bytes ctr s, qState s q = 1 → admissionsStopped s = false → (queue s q).fetched.length < 8 →
    (queue s q).next ≠ rd s R.Q_SQ_PTR_TAIL 0 q → tenSeals s (fnTenant s (queueFn s q)) = false →
    Ends (.entryFetched q bytes .good ctr) s (fun t =>
      (queue t q).fetched = (queue s q).fetched ++ [{ idx := (queue s q).next, bytes := (bytes ++ List.replicate 64 0).take 64 }] ∧
      (queue t q).next = ((queue s q).next + 1) % ringN s q ∧ (queue t q).run = (queue s q).run ∧ SameBut [.host] s t)) ∧
  (∀ q bytes res ctr s, 8 ≤ (queue s q).fetched.length → exec (.entryFetched q bytes res ctr) s = .next s) ∧
  (∀ q e rest s, (queue s q).fetched = e :: rest → qState s q = 1 → (queue s q).run = none → (queue s q).held = [] →
    let fn := queueFn s q
    let r : RunCmd := { sub := e, fn := fn, tenant := fnTenant s fn, start := s.now }
    (e.bad = none → opForbidden r = false → fnBound s fn = true → (fn = 0 ∨ tenState s r.tenant ≠ 2) →
      (runOp r = 0x0A → arg r 17 1 % 8 ≤ 4) →
      Ends (.commandStart q) s (fun t => (queue t q).run = some r ∧ (queue t q).fetched = rest ∧
        rd t R.Q_SQ_PTR_HEAD 0 q = (e.idx + 1) % ringN s q % 2 ^ 16 ∧ t.mem = s.mem ∧ t.out = s.out)) ∧
    (∀ st, e.bad = some st → ∃ u, exec (.commandStart q) s = .next (finishCmd u q st 0) ∧ (queue u q).run = some r ∧
      u.mem = s.mem ∧ u.out = s.out)) ∧
  (∀ q r s, running s q 0 = some r → exec (.nop q) s = .next (finishCmd s q .ok 0)) ∧
  (∀ q r s, (queue s q).run = some r → opForbidden r = true → r.busy = false →
    exec (.invalidOpcode q) s = .next (finishCmd s q .invalidOpcode 0)) ∧
  (∀ q r s, running s q 2 = some r → let c := waitCounter r
    (c / 4096 ≠ r.tenant → exec (.wait q) s = .next (finishCmd s q .tenantMismatch 0)) ∧
    (c / 4096 = r.tenant → arg r 24 8 ≤ sigValue s c → exec (.wait q) s = .next (finishCmd s q .ok (sigValue s c))) ∧
    (c / 4096 = r.tenant → sigValue s c < arg r 24 8 → exec (.wait q) s = .next (setBusy s q))) ∧
  (∀ q cut r s, (queue s q).run = some r → rd s R.Q_TIMEOUT 0 q ≠ 0 → timerRuns r = true → qState s q = 1 →
    let u := { s with now := max s.now (r.start + 1000 * rd s R.Q_TIMEOUT 0 q) }
    (retryBelow u q = false → exec (.commandTimeout q cut) s = .next (timeOut u q r cut)) ∧
    (retryBelow u q = true → Ends (.commandTimeout q cut) s (fun t => (queue t q).run = some { r with near := true } ∧
      t.now = u.now ∧ SameBut [.now, .host] s t))) ∧
  (∀ q cut s, rd s R.Q_TIMEOUT 0 q = 0 → exec (.commandTimeout q cut) s = .next s) ∧
  (∀ q r st res s, (queue s q).run = some r → qState s q = 1 → r.near = false → fieldAt r.sub.bytes 1 1 % 2 = 0 →
    cqFull s q = false → (queue s q).held = [] → rd s R.Q_CFG_DEPTH_LOG2 0 q ≤ 16 → tenSeals s (fnTenant s (queueFn s q)) = false →
    let u := finishCmd s q st res
    (queue u q).run = none ∧ rd u R.Q_CQ_PTR_TAIL 0 q = (rd s R.Q_CQ_PTR_TAIL 0 q + 1) % ringN s q ∧
    qState u q = (if statusHalts st then 2 else 1) ∧ u.mem = s.mem ∧
    OutEv.hostWrite (rd s R.Q_CQ_BASE 0 q + 32 * rd s R.Q_CQ_PTR_TAIL 0 q)
      (cplBytes (runCpl s q r st 0 res) q (queue s q).phase s.now) ∈ u.out)

/-- R278, R279, R283, R309, R312, R327, R494. Choices of the model in it: log entry 21. -/
def Obligations.PeersAndQueueRegisters : Prop :=
  (∀ q r s, running s q 8 = some r →
    let m := arg r 16 2 % 512
    let t := arg r 18 1
    let n := arg r 20 4
    1 ≤ n → n ≤ 0xFFFFFFFE → arg r 24 8 + n ≤ 2 ^ 64 → arg r 32 8 + n ≤ 2 ^ 64 →
    (tenantOk r false t = false → exec (.peerCopy q) s = .next (finishCmd s q .tenantMismatch 0)) ∧
    (tenantOk r false t = true → tenActive s t = true → peerCheck s m = none → accessFail s t (arg r 24 8) n = none →
      exec (.peerCopy q) s = .next (sendPeer s q m t n 0 (some (arg r 24 8, arg r 32 8, n))
        (fun c => .copyPart c (some (t, arg r 32 8, n)) []))) ∧
    (∀ st, tenantOk r false t = true → tenActive s t = true → peerCheck s m = some st →
      exec (.peerCopy q) s = .next (finishCmd s q st 0))) ∧
  (∀ q r s, running s q 9 = some r →
    let m := arg r 16 2 % 512
    (∀ st, peerCheck s m = some st → exec (.remoteSignal q) s = .next (finishCmd s q st 0)) ∧
    (peerCheck s m = none → exec (.remoteSignal q) s = .next (sendPeer s q m r.tenant 0 1 none
      (fun c => .remoteSignal c r.tenant (arg r 20 4 % 2 ^ 20) (arg r 18 1 % 2 = 1) (arg r 24 8))))) ∧
  (∀ s q dst tenant length vc copy body r, (queue s q).run = some r →
    let p := (routePort (hiveId s) dst).getD 0
    (dst ≠ hiveId s → portUp s p = true →
      let t := sendPeer s q dst tenant length vc copy body
      t.wag.nextCmd = s.wag.nextCmd + 1 ∧ (queue t q).run = some { r with busy := true, msg := some s.wag.nextCmd } ∧
      tget [] (port t p).txq vc = tget [] (port s p).txq vc ++
        [{ vc := vc, src := hiveId s, dst := dst, tenant := tenant, body := body s.wag.nextCmd, copy := copy }] ∧
      SameBut [.host, .links] s t) ∧
    (dst ≠ hiveId s → portUp s p = false →
      sendPeer s q dst tenant length vc copy body = finishCmd s q .linkDown 0)) ∧
  (∀ w v s, Writable s w 9 0 →
    (liveQueues s = [] → v < 2 ^ 64 → v % 2 ^ 23 = 0 →
      Ends (.qmgrSigBaseWrite w v) s (fun t => rd t R.QMGR_SIG_BASE = v ∧ SameBut (written 9) s t)) ∧
    (liveQueues s ≠ [] → Ends (.qmgrSigBaseWrite w v) s (fun t => rd t R.QMGR_SIG_BASE = rd s R.QMGR_SIG_BASE ∧
      rd t (hErrStatus 9) 0 = statusValue .queueState ∧ SameBut (written 9) s t))) ∧
  (∀ w fn s, Writable s w 9 0 → fn < 64 → let g := rd s R.QMGR_DBP_SEL
    (liveQueues s).any (fun q => q / 512 = g) = false → (fn = 0 ∨ rd s R.QMGR_DBP_MAP 0 ((g + 64) % 128) ≠ fn) →
    Ends (.dbpMapWrite w fn) s (fun t => rd t R.QMGR_DBP_MAP 0 g = fn ∧
      (∀ k, k ≠ g → rd t R.QMGR_DBP_MAP 0 k = rd s R.QMGR_DBP_MAP 0 k) ∧ SameBut (written 9) s t))

/-! ## Waggle links (chapter 12) -/

/-- R298, R300, R301, R314, R315, R317, R366, R390. Choices of the model in it: log entry 48. -/
def Obligations.LinkStates : Prop :=
  (∀ w p v s, p < 8 → Writable s w 13 p → rd s R.BOOT_STAT_RECOVERY = 0 → rd s R.WAG_CTL_ENABLE p = 0 → portState s p = 0 →
    Ends (.portEnable w p v) s (fun t => rd t R.WAG_CTL_ENABLE p = 1 ∧ portState t p = 1 ∧ (port t p).order = 1 ∧
      (port t p).since = s.now)) ∧
  (∀ w p v s, p < 8 → Writable s w 13 p → rd s R.BOOT_STAT_RECOVERY = 0 → rd s R.WAG_CTL_ENABLE p = 1 →
    Ends (.portDisable w p v) s (fun t => rd t R.WAG_CTL_ENABLE p = 0 ∧ portState t p = 0 ∧ port t p = {})) ∧
  (∀ w p v s, p < 8 → Writable s w 13 p → rd s R.BOOT_STAT_RECOVERY = 0 → rd s R.WAG_CTL_ENABLE p = 1 → v % 2 = 1 →
    portUp s p = true →
    Ends (.wagRetrain w p v) s (fun t => rd t R.WAG_CTL_ENABLE p = 1 ∧ portState t p = 1 ∧ (port t p).order = 1 ∧
      rd t R.WAG_STAT_DOWN_CAUSE p = 7)) ∧
  (∀ p i s, portState s p = 1 → i.lanes < 16 → i.module < 512 → i.peerPort < 8 →
    ((port s p).order = 1 → Ends (.trainingPhaseDone p i) s (fun t => (port t p).order = 2 ∧
      rd t R.WAG_LANES_LOCKED p = i.lanes ∧ portState t p = 1 ∧ SameBut (pages [13] ++ [.links]) s t)) ∧
    ((port s p).order = 2 → Ends (.trainingPhaseDone p i) s (fun t => (port t p).order = 3 ∧ (port t p).peerGen = i.gen ∧
      rd t R.WAG_PEER_MODULE p = i.module ∧ rd t R.WAG_PEER_PORT p = i.peerPort ∧ SameBut (pages [13] ++ [.links]) s t)) ∧
    ((port s p).order = 3 → maskCount i.lanes ∈ [1, 2, 4] → 2 ^ rd s R.WAG_CTL_MIN_WIDTH p ≤ maskCount i.lanes →
      Ends (.trainingPhaseDone p i) s (fun t => (port t p).order = 4 ∧ rd t R.WAG_LANES_KEPT p = i.lanes ∧
        rd t R.WAG_STAT_WIDTH p = maskCount i.lanes ∧ rd t R.WAG_STAT_DEGRADED p = (if maskCount i.lanes < 4 then 1 else 0) ∧
        SameBut (pages [13] ++ [.links]) s t)) ∧
    ((port s p).order = 3 → (maskCount i.lanes ∉ [1, 2, 4] ∨ maskCount i.lanes < 2 ^ rd s R.WAG_CTL_MIN_WIDTH p) →
      exec (.trainingPhaseDone p i) s = .next s) ∧
    ((port s p).order = 4 → Ends (.trainingPhaseDone p i) s (fun t => (port t p).order = 5 ∧ portState t p = 2 ∧
      SameBut (pages [13] ++ [.links]) s t))) ∧
  (∀ p s, (portState s p = 1 ∨ portState s p = 2) →
    Ends (.trainingBoundExpiry p) s (fun t => portState t p = 4 ∧
      rd t R.WAG_STAT_DOWN_CAUSE p = (if portState s p = 1 then 8 else 5) ∧
      (port t p).wait = min 1000 (2 * (port s p).wait) ∧ SameBut (pages [13] ++ [.links]) s t)) ∧
  (∀ p c g d s, portState s p = 2 →
    (c = true → g = true → d = false → debugOpen s = false →
      Ends (.linkKeyExchange p c g d) s (fun t => portState t p = 3 ∧ (port t p).txCtr = 1 ∧ (port t p).since = s.now ∧
        SameBut (recorded ++ pages [13] ++ [.links]) s t)) ∧
    ((c = false ∨ g = false ∨ d = true ∨ debugOpen s = true) →
      Ends (.linkKeyExchange p c g d) s (fun t => portState t p = 4 ∧ rd t R.WAG_STAT_DOWN_CAUSE p = 5))) ∧
  (∀ p s, portState s p = 4 → rd s R.WAG_CTL_ENABLE p = 1 → rd s R.WAG_STAT_DOWN_CAUSE p ≠ 7 →
    Ends (.retrainWaitExpiry p) s (fun t => portState t p = 1 ∧ (port t p).order = 1 ∧
      t.now = max s.now ((port s p).since + 1000000 * (port s p).wait) ∧ SameBut (pages [13] ++ [.now, .links]) s t)) ∧
  (∀ p mask s, mask < 16 → portUp s p = true → rd s R.WAG_LANES_KEPT p &&& mask ≠ 0 →
    Ends (.laneLockLoss p mask) s (fun t => portState t p = 4 ∧ rd t R.WAG_STAT_DOWN_CAUSE p = 2)) ∧
  (∀ p mask s, mask < 16 → rd s R.WAG_LANES_KEPT p &&& mask = 0 →
    Ends (.laneLockLoss p mask) s (fun t => portState t p = portState s p ∧
      rd t R.WAG_LANES_LOCKED p = rd s R.WAG_LANES_LOCKED p &&& (15 - mask) ∧ SameBut [.page 13] s t)) ∧
  (∀ p x s, portUp s p = true → (port s p).leaving = some x →
    Ends (.leavingWaitExpiry p) s (fun t => portState t p = 4 ∧ rd t R.WAG_STAT_DOWN_CAUSE p = 6 ∧ t.now = max s.now (x + 100000))) ∧
  (∀ p s, portUp s p = true → 2 ^ 48 - 2 ^ 20 ≤ (port s p).txCtr → (port s p).newTx = false →
    Ends (.rekeyDeadline p) s (fun t => portState t p = 4 ∧ rd t R.WAG_STAT_DOWN_CAUSE p = 4)) ∧
  (∀ p s, (port s p).txCtr < 2 ^ 48 - 2 ^ 20 → exec (.rekeyDeadline p) s = .next s) ∧
  (∀ s, rd s R.WAG_REF_LOCKED = 1 → Ends .refLost s (fun t => rd t R.WAG_REF_LOCKED = 0 ∧ t.hive.clean = 0 ∧
    SameBut (recorded ++ pages [13, 15] ++ [.hive]) s t)) ∧
  (∀ s, rd s R.WAG_REF_LOCKED = 0 → exec .refLost s = .next s)

/-- R302, R304 to R308, R313 to R315. Choices of the model in it: log entries 48 and 49. -/
def Obligations.Frames : Prop :=
  (∀ p env f rest s, portUp s p = true → (port s p).idle = false → (port s p).txCtr < 2 ^ 48 - 2 ^ 20 →
    (port s p).newTx = false → (port s p).resend = f :: rest →
    Ends (.frameTransmit p env) s (fun t => (port t p).resend = rest ∧ (port t p).txSeq = (port s p).txSeq ∧
      (port t p).txCtr = (port s p).txCtr + 1 ∧
      ∃ g, t.out = .frame p g :: s.out ∧ g.seq = f.seq ∧ g.body = f.body ∧ g.ctr = (port s p).txCtr)) ∧
  (∀ p env s, portUp s p = true → (port s p).idle = false → (port s p).txCtr < 2 ^ 48 - 2 ^ 20 →
    (port s p).newTx = false → (port s p).resend = [] → (∀ v, tget [] (port s p).txq v = []) →
    Ends (.frameTransmit p env) s (fun t => (port t p).txSeq = (port s p).txSeq ∧ (port t p).replay = (port s p).replay ∧
      ∃ g, t.out = .frame p g :: s.out ∧ g.idle = true ∧ g.dst = rd s R.WAG_PEER_MODULE p ∧ g.ack = (port s p).rxSeq)) ∧
  (∀ p env v m rest s, portUp s p = true → (port s p).idle = false → (port s p).txCtr < 2 ^ 48 - 2 ^ 20 →
    (port s p).newTx = false → (port s p).resend = [] → (port s p).leaving = none → (port s p).replay.length < 409 →
    pickVc s p (port s p) = some v → tget [] (port s p).txq v = m :: rest → m.copy = none →
    Ends (.frameTransmit p env) s (fun t => tget [] (port t p).txq v = rest ∧
      (port t p).txSeq = ((port s p).txSeq + 1) % 65536 ∧ (port t p).replay.length = (port s p).replay.length + 1 ∧
      ∃ g, t.out = .frame p g :: s.out ∧ g.seq = ((port s p).txSeq + 1) % 65536 ∧ g.body = m.body ∧ g.vc = m.vc ∧ g.idle = false)) ∧
  (∀ p env s, portUp s p = false → exec (.frameTransmit p env) s = .next s) ∧
  (∀ p f e s, portUp s p = true → e.fecOk = false →
    Ends (.frameReceive p f e) s (fun t => rd t R.WAG_FEC_UE_CNT p = min (rd s R.WAG_FEC_UE_CNT p + 1) (2 ^ 32 - 1) ∧
      (port t p).rxSeq = (port s p).rxSeq ∧ (port t p).rxCtr = (port s p).rxCtr ∧ t.mem = s.mem ∧ t.host = s.host ∧ t.out = s.out)) ∧
  (∀ p f e s, portUp s p = true → e.fecOk = true → e.tagOk = true → e.reserved = false → f.epoch = (port s p).rxEpoch →
    (port s p).newRx = false → (port s p).rxCtr < f.ctr → f.nak = false → (port s p).leaving = none → f.idle = false →
    f.seq = ((port s p).rxSeq + 1) % 65536 → f.len ≤ 576 → f.hops ≤ 12 → portCarries p f.vc = true → f.dst = hiveId s →
    f.body = .rekey →
    Ends (.frameReceive p f e) s (fun t => (port t p).rxSeq = f.seq ∧ (port t p).rxCtr = f.ctr)) ∧
  (∀ p f e s, portUp s p = false → exec (.frameReceive p f e) s = .next s) ∧
  (∀ p h l s, portUp s p = true → (port s p).replay = h :: l → (port s p).resend = [] →
    Ends (.replayTimerExpiry p) s (fun t => (port t p).resend = (h :: l).map (fun x => x.frame) ∧
      t.now = max s.now (h.sent + 8000) ∧ rd t R.WAG_REPLAY_CNT p = min (rd s R.WAG_REPLAY_CNT p + 1) (2 ^ 32 - 1) ∧
      SameBut (recorded ++ pages [13] ++ [.now, .links]) s t)) ∧
  (∀ p h l x s, portUp s p = true → (port s p).replay = h :: l → h.since = some x →
    Ends (.replayBudgetExpiry p) s (fun t => portState t p = 4 ∧ rd t R.WAG_STAT_DOWN_CAUSE p = 1 ∧ t.now = max s.now (x + 64000))) ∧
  (∀ p s, (port s p).replay = [] → exec (.replayTimerExpiry p) s = .next s ∧ exec (.replayBudgetExpiry p) s = .next s) ∧
  (∀ p s, portUp s p = true → 2 ^ 47 ≤ (port s p).txCtr → (port s p).rekeying = false → (port s p).newTx = false →
    Ends (.rekeyStart p) s (fun t => (port t p).rekeying = true ∧
      (tget [] (port t p).txq 1).map OutMsg.body = (tget [] (port s p).txq 1).map OutMsg.body ++ [.rekey] ∧ SameBut [.links] s t)) ∧
  (∀ p s, portUp s p = true → p ≠ 6 → hiveState s ≠ 2 → (port s p).replay ≠ [] →
    Ends (.leavingNotice p) s (fun t => (port t p).leaving = some s.now ∧ portState t p = 3 ∧ SameBut [.links] s t)) ∧
  (∀ p s, portUp s p = false → exec (.leavingNotice p) s = .next s)

/-- R278, R309, R312, R382. -/
def Obligations.PeerReports : Prop :=
  (∀ n s, exec (.unreachableReport (some n)) s = .next (endPeer s n .linkDown)) ∧
  (∀ s, exec (.unreachableReport none) s = .next s) ∧
  (∀ cmd n c s, tget none s.wag.cmds cmd = some c → c.ending = none →
    let u := { s with wag := { s.wag with cmds := tset none cmd (some { c with done := min n c.length }) s.wag.cmds } }
    (n < c.length → exec (.copyAcceptReport cmd n .ok) s = .next u) ∧
    (c.length ≤ n → exec (.copyAcceptReport cmd n .ok) s = .next (endPeer u cmd .ok)) ∧
    (∀ st, st ≠ .ok → exec (.copyAcceptReport cmd n st) s = .next (endPeer (abortCopy u cmd) cmd st))) ∧
  (∀ s n st c, tget none s.wag.cmds n = some c → ∃ u, endPeer s n st =
      finishCmd u c.queue (if c.stop = true ∧ st = .ok then .hiveStopped else st) c.done ∧
    tget none u.wag.cmds n = none ∧ SameBut [.links] s u) ∧
  (∀ src cmd c s, s.wag.copies.find? (fun c => c.src = src && c.cmd = cmd) = some c →
    Ends (.copyAbort src cmd) s (fun t => t.wag.copies = s.wag.copies.filter (fun c => !(c.src = src && c.cmd = cmd)) ∧
      t.mem = s.mem ∧ SameBut [.links, .out] s t)) ∧
  (∀ src cmd s, s.wag.copies.find? (fun c => c.src = src && c.cmd = cmd) = none → exec (.copyAbort src cmd) s = .next s)

/-! ## The hive (chapter 13) -/

namespace Sys2Proof.Certificates

open Sys2Proof Sys2Proof.Machine Sys2Proof.Safety

/-- Every torus port is enabled exactly where its neighbour, from position `m`, lies in the shape: forming needs no port change. -/
def PortsFit (s : State) (m : Nat) (sh : List Nat) : Prop :=
  ∀ p < 6, rd s R.WAG_CTL_ENABLE p = (if inShape sh (neighbour m p) then 1 else 0)

end Sys2Proof.Certificates

/-- R318 to R326, R341, R342. Choices of the model in it: log entries 51 and 52. -/
def Obligations.Formation : Prop :=
  (∀ w auto s, Writable s w 14 0 → rd s R.BOOT_STAT_RECOVERY = 0 → rd s R.HIVE_ROLE_ROLE_CFG = 3 → hiveState s ≠ 2 →
    PortsFit s (rd s R.HIVE_ID_ID_CFG % 2 ^ 9) (shapeRegs s) →
    Ends (.hiveRestart w auto) s (fun t => rd t R.HIVE_ROLE_ROLE = 3 ∧ t.hive.order = 2 ∧ t.hive.since = s.now ∧
      t.hive.joins = [] ∧ t.hive.shape = shapeRegs s ∧ hiveId t = rd s R.HIVE_ID_ID_CFG % 2 ^ 9)) ∧
  (∀ w auto s, Writable s w 14 0 → rd s R.BOOT_STAT_RECOVERY = 0 → rd s R.HIVE_ROLE_ROLE_CFG ≠ 3 →
    Ends (.hiveRestart w auto) s (fun t => rd t R.HIVE_ROLE_ROLE = rd s R.HIVE_ROLE_ROLE ∧ t.hive = s.hive ∧
      rd t (hErrStatus 14) 0 = statusValue .fieldReserved)) ∧
  (∀ s, s.hive.order = 2 → Ends .formationPortWaitEnd s (fun t => t.hive.order = 4 ∧ hiveState t = 1 ∧
    rd t R.HIVE_EPOCH = (rd s R.HIVE_EPOCH + 1) % 2 ^ 32 ∧ t.hive.joins = [] ∧
    t.now = max s.now (s.hive.since + rd s R.HIVE_FORM_CFG_WAIT * 1000000) ∧ SameBut (pages [14] ++ [.now, .links, .hive, .out]) s t)) ∧
  (∀ s, s.hive.order ≠ 2 → exec .formationPortWaitEnd s = .next s) ∧
  (∀ id role time group s,
    (s.hive.order = 4 → Ends (.join id role time group) s (fun t =>
      t.hive = { s.hive with joins := s.hive.joins ++ [{ id := id, role := role, time := time, group := group, at_ := s.now }] } ∧
      SameBut [.hive] s t)) ∧
    (s.hive.order ≠ 4 → exec (.join id role time group) s = .next s)) ∧
  (∀ bypass s, s.hive.order = 4 → s.hive.joins = [] → s.hive.timed = true → rd s R.WAG_CTL_ENABLE 7 = 0 →
    Ends (.joinWindowEnd bypass) s (fun t => hiveState t = 2 ∧ t.hive.order = 0 ∧ rd t R.HIVE_ROLE_ROLE = 3 ∧
      rd t R.HIVE_STAT_QUEEN = hiveId s % 2 ^ 9 ∧ rd t R.HIVE_DEPUTY_DEPUTY = 0x1FF ∧ rd t R.WAG_REF_NONE = 1 ∧
      t.now = max s.now (s.hive.since + 50000000))) ∧
  (∀ bypass s, s.hive.order ≠ 4 → exec (.joinWindowEnd bypass) s = .next s) ∧
  (∀ src epoch shape s, hiveOfOne s = false → s.hive.order = 0 → hiveState s ≠ 1 → hiveState s ≠ 2 → rd s R.HIVE_EPOCH < epoch →
    PortsFit s (rd s R.HIVE_ID_ID_CFG % 2 ^ 9) shape →
    Ends (.formationCall src epoch shape) s (fun t => hiveState t = 1 ∧ t.hive.claimed = some (epoch, src) ∧
      t.hive.shape = shape ∧ rd t R.HIVE_ROLE_ROLE = 0)) ∧
  (∀ src epoch shape s, hiveOfOne s = false → s.hive.order = 0 → hiveState s = 2 →
    exec (.formationCall src epoch shape) s = .next s) ∧
  (∀ src epoch l deputy time bypass s, hiveState s = 1 → s.hive.order = 0 → s.hive.claimed = some (epoch, src) →
    (l.contains (hiveId s) = true → src < 512 → epoch < 2 ^ 32 → rd s R.WAG_CTL_ENABLE 7 = 0 → deputy ≠ hiveId s →
      Ends (.memberList src epoch l deputy time bypass) s (fun t => hiveState t = 2 ∧ rd t R.HIVE_STAT_QUEEN = src ∧
        rd t R.HIVE_EPOCH = epoch ∧ rd t R.HIVE_ROLE_ROLE = 1 ∧ t.now = max s.now time ∧ t.hive.lastBeacon = max s.now time)) ∧
    (l.contains (hiveId s) = false →
      Ends (.memberList src epoch l deputy time bypass) s (fun t => hiveState t = 0 ∧ t.hive.claimed = none))) ∧
  (∀ id s, s.hive.order = 5 → queenActs s = true → isMember s id = true →
    Ends (.memberAck id) s (fun t => t.hive.acks = id :: s.hive.acks.filter (· ≠ id) ∧
      t.hive.order = (if (otherMembers s).all (fun m => (id :: s.hive.acks.filter (· ≠ id)).contains m) then 0 else 5) ∧
      SameBut (recorded ++ pages [14] ++ [.hive]) s t)) ∧
  (∀ s, s.hive.order = 5 → queenActs s = true →
    Ends .formationAckBound s (fun t => t.hive.order = 0 ∧ t.now = max s.now (s.hive.since + 20000000) ∧
      (∀ m ∈ otherMembers s, s.hive.acks.contains m = false → rd t R.HIVE_MOD_STAT_STATE 0 m = 0) ∧ SameBut (recorded ++ pages [14] ++ [.now, .hive]) s t)) ∧
  (∀ s, hiveState s = 1 → s.hive.order = 0 →
    Ends .formingTimeout s (fun t => hiveState t = 0 ∧ t.hive.claimed = none ∧ t.now = max s.now (s.hive.since + 200000000) ∧
      SameBut (recorded ++ pages [14, 15] ++ [.now, .hive]) s t)) ∧
  (∀ s, hiveOfOne s = false → hiveState s = 3 → Ends .hiveStop s (fun t => hiveState t = 4)) ∧
  (∀ s, hiveState s ≠ 2 → hiveState s ≠ 3 → exec .hiveStop s = .next s) ∧
  (∀ x s, s.hive.stopAt = some x → hiveState s = 4 → PortsFit s (hiveId s) (shapeRegs s) →
    Ends .queenTakeover s (fun t => rd t R.HIVE_ROLE_ROLE = 3 ∧ t.hive.order = 2 ∧ t.now = max s.now (x + 1000000))) ∧
  (∀ s, s.hive.stopAt = none → exec .queenTakeover s = .next s)

/-- R325, R328 to R331, R339 to R344. Choices of the model in it: log entries 52 and 53. -/
def Obligations.HiveUpkeep : Prop :=
  (∀ id s, queenActs s = true → isMember s id = false →
    Ends (.waitingNotice id) s (fun t => rd t R.HIVE_MOD_STAT_STATE 0 id = 4 ∧ SameBut [.page 14] s t)) ∧
  (∀ id s, queenActs s = false → exec (.waitingNotice id) s = .next s) ∧
  (∀ s, queenActs s = true → rd s R.HIVE_DEPUTY_DEPUTY ≠ 0x1FF →
    exec .beaconTimer s = .next (sendOn (sendMsg s (rd s R.HIVE_DEPUTY_DEPUTY) 1 0 .beacon) 7 1 .beacon)) ∧
  (∀ s, queenActs s = false → exec .beaconTimer s = .next s) ∧
  (∀ s, hiveState s = 2 → Ends .queenBeacon s (fun t => t.hive = { s.hive with lastBeacon := s.now } ∧ SameBut [.hive] s t)) ∧
  (∀ s, hiveState s = 2 → rd s R.HIVE_ROLE_ROLE = 2 → s.wag.cmds = [] →
    Ends .queenLossTimeout s (fun t => hiveState t = 4 ∧ t.hive.stopAt = some t.now ∧
      t.now = max s.now (s.hive.lastBeacon + rd s R.HIVE_FORM_CFG_QUEEN_LOSS * 1000000))) ∧
  (∀ s, hiveState s = 2 → rd s R.HIVE_ROLE_ROLE ≠ 2 → exec .queenLossTimeout s = .next s) ∧
  (∀ s, hiveState s = 2 → hiveOfOne s = false →
    exec .timeExchangeTimer s = .next
      (let u := (childPorts s).foldl (fun u p => sendOn u p 2 (.timeStamp u.now)) s
       if rd u R.WAG_REF_NONE = 0 then sendOn u (rd u R.WAG_REF_UPSTREAM) 2 (.timeStamp u.now) else u)) ∧
  (∀ s, hiveState s ≠ 2 → exec .timeExchangeTimer s = .next s) ∧
  (∀ t1 t2 t3 t4 s, hiveState s = 2 → hiveOfOne s = false → isQueen s = false →
    let off := ((t2 - t1) - (t4 - t3)) / 2
    Ends (.timeExchange t1 t2 t3 t4) s (fun t => rd t R.MERID_OFFSET = twosComp 32 off ∧ t.hive.adjust = -off ∧ t.now = s.now ∧
      rd t R.MERID_DELAY = twosComp 32 (((t2 - t1) + (t4 - t3)) / 2) ∧
      t.hive.clean = (if off.natAbs ≤ 24 * rd s R.MERID_STAT_DEPTH + 32 then s.hive.clean + 1 else 0) ∧
      (off.natAbs ≤ 24 * rd s R.MERID_STAT_DEPTH + 32 → 1 ≤ s.hive.clean → portUp s (rd s R.WAG_REF_UPSTREAM) = true →
        rd s R.WAG_REF_LOCKED = 1 → rd t R.MERID_STAT_QUALITY = 1) ∧ SameBut (recorded ++ pages [15] ++ [.hive]) s t)) ∧
  (∀ w v s, Writable s w 15 0 → rd s R.BOOT_STAT_RECOVERY = 0 → v < 2 ^ 32 →
    Ends (.meridSlewWrite w v) s (fun t => rd t R.MERID_SLEW = v ∧ t.now = s.now ∧ SameBut (written 15) s t)) ∧
  (∀ l s, hiveState s = 2 → isQueen s = false → hiveOfOne s = false → l.contains (hiveId s) = true →
    Ends (.membershipUpdate l) s (fun t => hiveState t = 2 ∧
      rd t R.HIVE_DEPUTY_DEPUTY = (if l.contains (rd s R.HIVE_DEPUTY_DEPUTY) then rd s R.HIVE_DEPUTY_DEPUTY % 512 else 0x1FF) ∧
      (l.all (fun m => decide (m < 512)) = true → ∀ m < 512, isMember t m = l.contains m) ∧ SameBut [.page 14] s t)) ∧
  (∀ p x s, p < 6 → portUp s p = false → (port s p).downAt = some x → hiveState s ≠ 2 →
    Ends (.memberLossTimeout p) s (fun t => (port t p).downAt = none ∧
      t.now = max s.now (x + rd s R.HIVE_FORM_CFG_LOSS_WAIT * 1000000) ∧ SameBut [.now, .links] s t)) ∧
  (∀ p s, (port s p).downAt = none → exec (.memberLossTimeout p) s = .next s) ∧
  (∀ id s, (queenActs s = true → exec (.memberLossReport id) s = .next (finishAll (loseMember s id))) ∧
    (queenActs s = false → exec (.memberLossReport id) s = .next s)) ∧
  (∀ s, hiveState s = 2 → isQueen s = true →
    Ends .progressReportTimer s (fun t => t.now = max s.now (s.hive.reportAt + rd s R.HIVE_AGG_CFG_INTERVAL * 1000000000) ∧
      t.hive.reportAt = t.now ∧ tget [] t.hive.reports (hiveId s) =
        [rd s R.HIVE_PROG_USEFUL, rd s R.HIVE_PROG_ELAPSED, rd s R.HIVE_PROG_WASTED] ∧ SameBut (pages [14] ++ [.now, .links, .hive, .out]) s t)) ∧
  (∀ s, hiveState s ≠ 2 → exec .progressReportTimer s = .next s) ∧
  (∀ id u e x s, queenActs s = true → isMember s id = true →
    Ends (.progressReport id u e x) s (fun t => tget [] t.hive.reports id = [u, e, x] ∧
      rd t R.HIVE_AGG_CFG_REPORTED = t.hive.reports.length % 2 ^ 16 ∧ SameBut (pages [14] ++ [.hive]) s t))

/-- R332 to R338. Choices of the model in it: log entries 27, 52 and 54. -/
def Obligations.Barriers : Prop :=
  (∀ a y s, queenActs s = true → isMember s a.src = true → tget none s.hive.shards (512 * a.b + a.shard) = some y →
    y.home = a.src → a.g = (barGen s a.b).gen → tget none (barGen s a.b).commits a.shard = none → (barGen s a.b).started = [] →
    (∃ e ∈ barShards s a.b, e.1 ≠ a.shard ∧ tget none (barGen s a.b).commits e.1 = none) →
    Ends (.barrierArrival [a]) s (fun t => tget none (barGen t a.b).commits a.shard = some (a.time, false) ∧
      (barGen t a.b).gen = (barGen s a.b).gen ∧ (barGen t a.b).latest = max (barGen s a.b).latest a.time ∧
      SameBut [.hive] s t)) ∧
  (∀ l s, queenActs s = false → exec (.barrierArrival l) s = .next s) ∧
  (∀ b g v s, hiveState s = 2 →
    (rd s R.HIVE_BAR_CFG_ENABLE 0 b = 1 → exec (.barrierVerdict b g v) s = .next
      (signalUpdate s (rd s R.HIVE_BAR_CFG_TENANT 0 b) (rd s R.HIVE_BAR_VERDICT 0 b) true (4 * (g + 1) + v))) ∧
    (rd s R.HIVE_BAR_CFG_ENABLE 0 b = 0 → exec (.barrierVerdict b g v) s = .next s)) ∧
  (∀ b g s, hiveState s = 2 →
    (rd s R.HIVE_BAR_CFG_ENABLE 0 b = 0 → Ends (.barrierRelease b g) s (fun t => rd t R.HIVE_BAR_GEN 0 b = (g + 1) % 2 ^ 32 ∧
      rd t R.HIVE_BAR_BACKUP_VALID 0 b = 0 ∧ SameBut [.page 14] s t)) ∧
    exec (.barrierRelease b g) s = .next (takeRelease s b g)) ∧
  (∀ b g v s, hiveState s ≠ 2 → exec (.barrierVerdict b g v) s = .next s ∧ exec (.barrierRelease b g) s = .next s ∧
    exec (.backupStart b g v) s = .next s) ∧
  (∀ b e s, queenActs s = true → (barShards s b).filter (fun e => (tget none (barGen s b).commits e.1).isNone) = [e] →
    1 ≤ rd s R.HIVE_BACKUP_CFG_MAX_MISSING → (barGen s b).commits ≠ [] → e.2.spareEn = true →
    (barGen s b).started.any (fun x => x.1 = e.1) = false →
    Ends (.backupDelayExpiry b) s (fun t =>
      (barGen t b).started = (barGen s b).started ++ [(e.1, e.2.home, e.2.spare)] ∧
      t.now = max s.now ((barGen s b).latest + rd s R.HIVE_BACKUP_CFG_DELAY * 1000))) ∧
  (∀ b s, queenActs s = false → exec (.backupDelayExpiry b) s = .next s) ∧
  (∀ b shard s, hiveState s = 2 → rd s R.HIVE_BAR_CFG_ENABLE 0 b = 0 → shard < 512 →
    Ends (.backupStart b (rd s R.HIVE_BAR_GEN 0 b) shard) s (fun t => rd t R.HIVE_BAR_BACKUP_VALID 0 b = 1 ∧
      rd t R.HIVE_BAR_BACKUP_SHARD 0 b = shard ∧ rd t (hIrqRaw 14 Irq.HIVE_BACKUP_START) 0 = 1)) ∧
  (∀ w auto s, pageServed s 14 0 = true → isQueen s = true → (∀ b < 64, rd s R.HIVE_BAR_STAT 0 b ≠ 1) →
    exec (.reloadShards w auto false) s = .next (loadShards (wordWrite s w 14 0 0x100 (2 * b2n auto + 8)))) ∧
  (∀ w auto s, pageServed s 14 0 = true → isQueen s = true →
    Ends (.reloadShards w auto true) s (fun t => t.hive = s.hive ∧ rd t (hErrStatus 14) 0 = statusValue .poolBusy)) ∧
  (∀ w v s, pageServed s 14 0 = true → let b := rd s R.HIVE_BAR_SEL
    rd s R.HIVE_BAR_CFG_ENABLE 0 b = 0 → v / 2 ^ 31 % 2 = 1 →
    (∀ f ∈ [R.HIVE_BAR_ARRIVE, R.HIVE_BAR_RELEASE, R.HIVE_BAR_VERDICT], rd s f 0 b / 4096 = v / 2 ^ 16 % 256) →
    sigValue s (rd s R.HIVE_BAR_ARRIVE 0 b) < rd s R.HIVE_BAR_THRESH 0 b →
    Ends (.barrierEnable w v) s (fun t => rd t R.HIVE_BAR_CFG_ENABLE 0 b = 1 ∧ rd t R.HIVE_BAR_STAT 0 b = 1 ∧
      rd t R.HIVE_BAR_CFG_TENANT 0 b = v / 2 ^ 16 % 256 ∧ rd t R.HIVE_BAR_CFG_SHARD 0 b = v % 512 ∧
      SameBut (.links :: written 14) s t)) ∧
  (∀ w v s, pageServed s 14 0 = true → let b := rd s R.HIVE_BAR_SEL
    rd s R.HIVE_BAR_CFG_ENABLE 0 b = 1 → v / 2 ^ 31 % 2 = 0 → v / 2 ^ 30 % 2 = rd s R.HIVE_BAR_CFG_SPARE 0 b →
    v / 2 ^ 16 % 256 = rd s R.HIVE_BAR_CFG_TENANT 0 b → v % 512 = rd s R.HIVE_BAR_CFG_SHARD 0 b →
    Ends (.barrierEnable w v) s (fun t => rd t R.HIVE_BAR_CFG_ENABLE 0 b = 0 ∧ rd t R.HIVE_BAR_STAT 0 b = 0 ∧
      SameBut (written 14) s t)) ∧
  (∀ w s, Writable s w 14 0 → let m := rd s R.HIVE_MOD_SEL
    queenActs s = true → isMember s m = true → m ≠ hiveId s →
    (budgetSpent s = false → exec (.hiveExpel w) s = .next (noteSetting s (finishAll (expelMember s m)) 14 0 0x174)) ∧
    (budgetSpent s = true → Ends (.hiveExpel w) s (fun t => isMember t m = true ∧
      rd t (hErrStatus 14) 0 = statusValue .expelBudgetSpent ∧ SameBut (written 14) s t))) ∧
  (∀ w s, Writable s w 14 0 → isQueen s = true → let m := rd s R.HIVE_MOD_SEL
    Ends (.clearSuspect w) s (fun t => rd t R.HIVE_MOD_STAT_SUSPECT 0 m = 0 ∧ t.hive.kept = s.hive.kept.filter (· ≠ m) ∧
      tget [] t.hive.last1 m = [] ∧ SameBut (.hive :: written 14) s t))

/-! ## Twin modules (chapter 14) -/

/-- R346, R358. Choices of the model in it: log entries 29 and 55. -/
def Obligations.TwinPairs : Prop :=
  (∀ w s, Writable s w 16 0 → twinState s ≠ 0 →
    Ends (.twinPair w) s (fun t => twinState t = twinState s ∧ t.twin = s.twin ∧ t.wag = s.wag)) ∧
  (∀ w s, Writable s w 16 0 → twinState s = 0 →
    (portUp s 6 = false → Ends (.twinPair w) s (fun t => twinState t = 0 ∧ t.twin.asked = none ∧
      rd t (hErrStatus 16) 0 = statusValue .linkDown)) ∧
    (portUp s 6 = true → s.twin.peerAsk = none → Ends (.twinPair w) s (fun t => twinState t = 0 ∧ t.twin.asked = some s.now ∧
      (tget [] (port t 6).txq 3).map OutMsg.body = (tget [] (port s 6).txq 3).map OutMsg.body ++ [.twinControl 1 (pairWords s)])) ∧
    (∀ x m, portUp s 6 = true → s.twin.peerAsk = some (x, m) → s.now ≤ x + 1000000000 →
      let role := rd s R.TWIN_CFG_ROLE_CFG
      let fits := m.getD 0 0 + role = 3 ∧ (role = 1 ∨ role = 2) ∧ m.getD 1 0 = rd s R.TWIN_PARTS ∧
        m.getD 2 0 = rd s R.TWIN_CFG_PEER ∧ m.getD 3 0 = hiveId s
      (fits → mirrorBusy s = false → m.getD 4 0 ≠ 1 →
        Ends (.twinPair w) s (fun t => twinState t = role ∧ t.twin.asked = none ∧ t.twin.peerAsk = none ∧ rd t R.TWIN_SKEW = 0 ∧
          rd t R.TWIN_STAT_CAUSE = 0 ∧ rd t (hIrqRaw 16 Irq.TWIN_PAIRED) 0 = 1 ∧
          (role = 1 → (Msg.twinControl 6 (profileWords s)) ∈ (tget [] (port t 6).txq 3).map OutMsg.body))) ∧
      (fits → (mirrorBusy s = true ∨ m.getD 4 0 = 1) →
        Ends (.twinPair w) s (fun t => twinState t = 0 ∧ rd t (hErrStatus 16) 0 = statusValue .partitionBusy)) ∧
      (¬fits → Ends (.twinPair w) s (fun t => twinState t = 0 ∧ rd t (hErrStatus 16) 0 = statusValue .fieldReserved)))) ∧
  (∀ s, (∀ x, s.twin.asked = some x → Ends .pairWindowExpiry s (fun t => t.twin = { s.twin with asked := none, peerAsk := none } ∧
      t.now = max s.now (x + 1000000000) ∧ SameBut [.now, .twin] s t)) ∧
    (s.twin.asked = none → exec .pairWindowExpiry s = .next s)) ∧
  (∀ w s, Writable s w 16 0 →
    (twinState s ≠ 0 → Ends (.twinUnpair w) s (fun t => twinState t = 0 ∧ t.twin.parts = [] ∧ t.twin.follow = [] ∧
      t.twin.test = none ∧ t.twin.asked = none ∧ (twinState s = 1 → t.mem = s.mem ∧ t.kv = s.kv))) ∧
    (twinState s = 0 → Ends (.twinUnpair w) s (fun t => twinState t = 0 ∧ t.twin = s.twin ∧ t.wag = s.wag))) ∧
  (∀ w s, Writable s w 16 0 →
    (twinState s = 1 → mirrorBusy s = false → Ends (.twinSwap w) s (fun t => twinState t = 2 ∧ t.twin.parts = [] ∧
      t.mem = s.mem ∧ t.kv = s.kv)) ∧
    (twinState s = 1 → mirrorBusy s = true → Ends (.twinSwap w) s (fun t => twinState t = 1 ∧ t.twin = s.twin ∧ t.wag = s.wag ∧
      rd t (hErrStatus 16) 0 = statusValue .partitionBusy)) ∧
    (twinState s = 3 → s.twin.role = 1 → Ends (.twinSwap w) s (fun t => twinState t = 3 ∧ t.twin = s.twin ∧
      rd t (hErrStatus 16) 0 = statusValue .partitionBusy)) ∧
    (twinRole s ≠ 1 → Ends (.twinSwap w) s (fun t => twinState t = twinState s ∧ t.twin = s.twin ∧ t.wag = s.wag))) ∧
  (∀ w s, Writable s w 16 0 →
    (twinState s = 4 → portUp s 6 = false → Ends (.twinTakeover w) s (fun t => twinState t = 1 ∧
      rd t (hIrqRaw 16 Irq.TWIN_FAILOVER) 0 = 1 ∧ SameBut (written 16) s t)) ∧
    (twinState s = 4 → portUp s 6 = true → Ends (.twinTakeover w) s (fun t => twinState t = 4 ∧
      rd t (hErrStatus 16) 0 = statusValue .fieldReserved ∧ SameBut (written 16) s t)) ∧
    (twinState s ≠ 4 → Ends (.twinTakeover w) s (fun t => twinState t = twinState s ∧ SameBut (written 16) s t))) ∧
  (∀ l s, (twinState s ≠ 0 → exec (.twinControl 1 l) s = .next s ∧
      Ends (.twinControl 2 l) s (fun t => twinState t = 0 ∧ t.twin.follow = [])) ∧
    (twinState s = 2 → Ends (.twinControl 3 l) s (fun t => twinState t = 1 ∧ t.twin.follow = [])) ∧
    (twinState s ≠ 2 → exec (.twinControl 3 l) s = .next s ∧ exec (.twinControl 6 l) s = .next s) ∧
    (1 ≤ twinState s → twinState s ≤ 3 → Ends (.twinControl 5 l) s (fun t => twinState t = 0 ∧ rd t R.TWIN_STAT_CAUSE = 4 ∧
      t.twin = { s.twin with parts := [], follow := [], test := none, left := false, drop := [] } ∧ SameBut [.page 16, .twin] s t)) ∧
    (twinState s = 2 → Ends (.twinControl 6 l) s (fun t => (∀ k < 16, rd t R.TWIN_PROF_ABS 0 k = l.getD (4 * k) 0 % 2 ^ 32 ∧
      rd t R.TWIN_PROF_REL 0 k = l.getD (4 * k + 1) 0 % 2 ^ 32 ∧ rd t R.TWIN_PROF_EPS 0 k = l.getD (4 * k + 2) 0 % 2 ^ 32 ∧
      rd t R.TWIN_PROF_MAXMIS 0 k = l.getD (4 * k + 3) 0 % 2 ^ 32) ∧ SameBut [.page 16] s t)) ∧
    (∀ op, 7 ≤ op → exec (.twinControl op l) s = .next s))

/-- R348 to R358. Choices of the model in it: log entries 39, 55 and 56. -/
def Obligations.MirrorStream : Prop :=
  (∀ what s, twinRole s ≠ 2 → exec (.servAction what) s = .next s) ∧
  (∀ k p s, twinRole s = 2 → s.twin.follow.contains k = true → s.twin.drop.contains (seqOf s k).tenant = false →
    ((seqOf s k).st = 1 → p ≤ (seqOf s k).writePos →
      Ends (.servAction [3, k, p]) s (fun t => seqOf t k = { seqOf s k with writePos := p } ∧
        (∀ j, j ≠ k → seqOf t j = seqOf s j) ∧ t.twin = s.twin ∧ SameBut (recorded ++ pages [11] ++ [.free, .bytes, .memory, .kv, .twin]) s t)) ∧
    Ends (.servAction [4, k]) s (fun t => seqOf t k = { seqOf s k with st := 2 } ∧ (∀ j, j ≠ k → seqOf t j = seqOf s j) ∧
      t.twin = s.twin)) ∧
  (∀ k n wp s, twinRole s = 2 → s.twin.drop.contains (seqOf s k).tenant = false →
    exec (.servAction [2, k, n, wp]) s = .next (followGrow s k n wp none) ∧
    (s.twin.follow.contains k = false → followGrow s k n wp none = s) ∧
    (s.twin.follow.contains k = true → (seqOf s k).layers ≠ 0 → n ≠ 0 → wp + n ≤ 2 ^ (seqOf s k).tppLog2 * (seqOf s k).mapped →
      seqOf (followGrow s k n wp none) k =
        { seqOf s k with writePos := wp, st := if (seqOf s k).st = 2 then 1 else (seqOf s k).st, growNeed := 0, growN := 0, parkTime := 0 })) ∧
  (∀ k s, twinRole s = 2 →
    (s.twin.follow.contains k = true → exec (.servAction [5, k]) s =
      .next (closeSeq { s with twin := { s.twin with follow := s.twin.follow.filter (· ≠ k) } } k)) ∧
    (s.twin.follow.contains k = false → exec (.servAction [5, k]) s = .next s)) ∧
  (∀ n tn lc k u s, twinRole s = 2 → s.twin.drop.contains tn = false → openSeq s k tn n lc (2 ^ 64 - 1) false = .ok u →
    Ends (.servAction [1, n, tn, lc, k, 0, 0, 0, 0]) s (fun t => t = { u with twin := { u.twin with follow := u.twin.follow ++ [k] } })) ∧
  (∀ serial d ctxs io s, twinRole s = 2 → mirrored s d.partition = true → s.twin.drop.contains d.tenant = false →
    Ends (.mirrorLaunch serial d ctxs io) s (fun t => (part t d.partition).queue = (part s d.partition).queue ++
        [{ desc := d, src := .mirror, ctxs := ctxs, serial := serial, snap := some io }] ∧
      (∀ p, p ≠ d.partition → part t p = part s p) ∧ (twinPart t d.partition).serial = serial ∧ SameBut [.twin, .parts] s t)) ∧
  (∀ serial d ctxs io s, (twinRole s ≠ 2 ∨ mirrored s d.partition = false ∨ s.twin.drop.contains d.tenant = true) →
    exec (.mirrorLaunch serial d ctxs io) s = .next s) ∧
  (∀ serial s, twf {} s.twin.parts = true →
    Ends (.launchAck serial) s (fun t => (∀ e ∈ s.twin.parts, e.2.serial = serial → twinPart t e.1 = { e.2 with acked := true }) ∧
      (∀ p, (twinPart s p).serial ≠ serial → twinPart t p = twinPart s p) ∧ SameBut [.twin] s t)) ∧
  (∀ p v s, twinRole s ≠ 0 → mirrored s p = true →
    ((twinPart s p).peerPace ≠ v → Ends (.paceReport [(p, v)]) s (fun t => (twinPart t p).peerPace = v ∧
      (∀ k, k ≠ p → twinPart t k = twinPart s k) ∧ t.serv.dirty = (partDies s p ++ s.serv.dirty).eraseDups ∧
      SameBut [.serving, .twin] s t)) ∧
    ((twinPart s p).peerPace = v → exec (.paceReport [(p, v)]) s = .next s)) ∧
  (∀ l s, twinRole s = 0 → exec (.paceReport l) s = .next s) ∧
  (∀ serial mark bytes s, (twinRole s ≠ 2 ∨ serialPart s serial = none) → exec (.compareData serial mark bytes) s = .next s) ∧
  (∀ serial mark bytes p s, twinRole s = 2 → serialPart s serial = some p →
    (∀ r, (part s p).running = some r → r.serial = serial →
      Ends (.compareData serial mark bytes) s (fun t => twinPart t p =
        { twinPart s p with peer := (twinPart s p).peer ++ [(serial, mark, bytes)] } ∧ SameBut [.twin] s t)) ∧
    (∀ x m n v, (part s p).running = none → (part s p).queue = [] →
      (twinPart s p).own.find? (fun x => x.1 = serial && x.2.1 = mark) = some x →
      (twinPart s p).ends.find? (fun e => e.1 = serial) = some (m, n, v) →
      ∃ u, exec (.compareData serial mark bytes) s = .next (evaluatePoint u p serial mark n v x.2.2 bytes) ∧
        (twinPart u p).own = (twinPart s p).own.filter (fun y => !(y.1 = serial && y.2.1 = mark)) ∧ SameBut [.twin] s u)) ∧
  (∀ p serial mark n v own peer c mis ex cause s,
    (comparesOf (slot s n).image v).find? (fun c => c.mark = mark) = some c → comparePoint s c own peer = (mis, ex, cause) →
    let t := evaluatePoint s p serial mark n v own peer
    rd t R.TWIN_CMP_CNT = min (rd s R.TWIN_CMP_CNT + 1) (2 ^ 32 - 1) ∧
    rd t R.TWIN_EXEMPT_CNT = min (rd s R.TWIN_EXEMPT_CNT + ex) (2 ^ 32 - 1) ∧
    (mis ≤ rd s R.TWIN_PROF_MAXMIS 0 c.profile → SameBut [.page 16] s t ∧ twinState t = twinState s) ∧
    (rd s R.TWIN_PROF_MAXMIS 0 c.profile < mis → (twinState s = 1 ∨ twinState s = 2) → rd t R.TWIN_LAST_MIS = mis % 2 ^ 32 ∧
      rd t R.TWIN_LAST_DIV_MARK_ID = mark % 2 ^ 16 ∧ rd t R.TWIN_LAST_DIV_PARTITION = p % 2 ^ 6 ∧
      rd t R.TWIN_DIV_CNT = min (rd s R.TWIN_DIV_CNT + 1) (2 ^ 32 - 1))) ∧
  (∀ v s, twinState s = 3 →
    (v ≠ 4 → Ends (.twinVerdict 0 [32 + v]) s (fun t => t.twin.test = none ∧
      twinState t = (if v = 2 then s.twin.role % 2 ^ 3 else if s.twin.role = 1 then 0 else 5))) ∧
    (v = 4 → Ends (.twinVerdict 0 [32 + v]) s (fun t => twinState t = (if s.twin.role = 1 then 5 else 1)))) ∧
  (∀ v s, twinState s ≠ 3 → exec (.twinVerdict 0 [32 + v]) s = .next s) ∧
  (∀ s x, s.twin.test = some x → s.twin.role = 1 → x.ownRes.isSome = true →
    Ends (.twinVerdict 0 [17]) s (fun t => t.twin.test = some { x with peerRes := some true } ∧ SameBut [.twin] s t)) ∧
  (∀ serial p mark n mis cause s, serial ≠ 0 →
    (twinState s = 1 → Ends (.twinVerdict serial [p, mark, n, mis, cause]) s (fun t => rd t R.TWIN_LAST_MIS = mis % 2 ^ 32 ∧
      rd t R.TWIN_LAST_DIV_SLOT = n % 2 ^ 6 ∧ rd t R.TWIN_LAST_DIV_PARTITION = p % 2 ^ 6)) ∧
    (twinState s ≠ 1 → exec (.twinVerdict serial [p, mark, n, mis, cause]) s = .next s))

/-! ## Tenants and security (chapter 15) -/

/-- R368 to R376. Choices of the model in it: log entries 11 and 57. -/
def Obligations.KeysAndWeights : Prop :=
  (∀ q block hostOk r s, running s q 0x21 = some r → arg r 17 1 % 4 ≠ 1 → r.fn ≠ 0 → arg r 17 1 % 4 = 0 →
    exec (.keyInstallActivate q block hostOk) s = .next (finishCmd s q .invalidOpcode 0)) ∧
  (∀ q block hostOk r st s, running s q 0x21 = some r → keyCheck s r = some st →
    (arg r 17 1 % 4 ≠ 1 → (r.fn = 0 ∨ arg r 17 1 % 4 ≠ 0) →
      exec (.keyInstallActivate q block hostOk) s = .next (finishCmd s q st 0)) ∧
    (arg r 17 1 % 4 = 1 → exec (.keyInstallReplace q block hostOk) s = .next (finishCmd s q st 0))) ∧
  (∀ q block r s, running s q 0x21 = some r → keyCheck s r = none → arg r 24 8 ≠ 0 → r.fn = 0 →
    (arg r 17 1 % 4 = 0 → exec (.keyInstallActivate q block false) s =
      .next (finishCmd (hostReadFailed s r.fn [q]) q .dmaHostError 0)) ∧
    (arg r 17 1 % 4 = 1 → exec (.keyInstallReplace q block false) s =
      .next (finishCmd (hostReadFailed s r.fn [q]) q .dmaHostError 0))) ∧
  (∀ q block r s, running s q 0x21 = some r → keyCheck s r = none → r.fn = 0 →
    let n := arg r 16 1
    (arg r 17 1 % 4 = 0 → ∃ u, exec (.keyInstallActivate q block true) s = .next (finishCmd u q .ok 0) ∧ tenState u n = 1 ∧
      rd u R.SEC_STAT_ACTIVE_TENANTS = (rd s R.SEC_STAT_ACTIVE_TENANTS + 1) % 2 ^ 9 ∧
      rd u R.SEC_TEN_STATE_TRANSPORT 0 n = (if arg r 24 8 = 0 then rd s R.SEC_TEN_STATE_TRANSPORT 0 n else 1) ∧
      (∃ l, l.length = 382 ∧ OutEv.hostWrite (arg r 32 8) (BitVec.ofNat 8 n :: 0 :: l) ∈ u.out) ∧
      rd u (hIrqRaw 17 Irq.SEC_KEY_INSTALLED) 0 = 1 ∧ u.mem = s.mem ∧ (∀ m, m ≠ n → tenState u m = tenState s m)) ∧
    (arg r 17 1 % 4 = 1 → ∃ u, exec (.keyInstallReplace q block true) s = .next (finishCmd u q .ok 0) ∧ tenState u n = 1 ∧
      rd u R.SEC_STAT_ACTIVE_TENANTS = rd s R.SEC_STAT_ACTIVE_TENANTS ∧ rd u R.SEC_TEN_STATE_TRANSPORT 0 n = 1 ∧
      (∃ l, l.length = 382 ∧ OutEv.hostWrite (arg r 32 8) (BitVec.ofNat 8 n :: 1 :: l) ∈ u.out) ∧ u.mem = s.mem)) ∧
  (∀ r s, let n := arg r 16 1
    n ≠ 0 → arg r 24 8 % 64 = 0 → arg r 32 8 % 64 = 0 → arg r 17 1 = 0 → tenantOk r true n = true →
    keyCheck s r = (if tenState s n = 2 then some .tenantRetiring else if tenState s n = 0 ∧ debugOpen s = false then none
      else some .keySlotState)) ∧
  (∀ q count opened r s, running s q 0x20 = some r →
    let n := arg r 17 1 % 64
    let tn := arg r 16 1
    (∀ st, weightCheck s r count opened = some st → st ≠ .bindingDenied →
      exec (.weightLoad q count opened) s = .next (finishCmd s q st 0)) ∧
    (weightCheck s r count opened = some .bindingDenied → ∃ u, exec (.weightLoad q count opened) s =
      .next (finishCmd u q .bindingDenied 0) ∧ SameBut [.page 17] s u ∧
      rd u R.SEC_BIND_DENY_CNT = min (rd s R.SEC_BIND_DENY_CNT + 1) (2 ^ 32 - 1)) ∧
    (weightCheck s r count opened = none → arg r 20 4 = 0 → ∃ u, exec (.weightLoad q count opened) s = .next (finishCmd u q .ok 0) ∧
      rd u R.SEC_WKEY_HELD 0 n = (if bitsOf (arg r 18 1) 1 1 = 1 then 0 else 1) ∧ SameBut [.page 17] s u) ∧
    (weightCheck s r count opened = none → arg r 20 4 ≠ 0 → Ends (.weightLoad q count opened) s (fun t =>
      rd t R.SEC_WKEY_HELD 0 n = 1 ∧ rd t R.SEC_WKEY_TENANT 0 n = tn ∧
      (∃ x, engine t (queueEngine q) = engine s (queueEngine q) ++ [x] ∧ x.queue = some q ∧ x.kind = 1 ∧ x.slot = n ∧
        x.tenant = tn ∧ x.length = arg r 20 4 ∧ x.src = arg r 24 8 ∧ x.dst = arg r 32 8) ∧
      (queue t q).run = some { r with busy := true } ∧ SameBut [.page 17, .host] s t))) ∧
  (∀ w s, Writable s w 17 0 →
    (isQueen s = true → Ends (.groupKeyGen w) s (fun t => t.sec.group = some (freeVal s 4) ∧
      (∀ j < 4, rd t (R.SEC_GROUPID j) = freeVal s j % 2 ^ 32) ∧ rd t R.SEC_STAT_GROUP_KEY = 1 ∧
      rd t (hIrqRaw 17 Irq.SEC_GROUP_KEY) 0 = 1)) ∧
    (isQueen s = false → Ends (.groupKeyGen w) s (fun t => t.sec = s.sec ∧ rd t (hErrStatus 17) 0 = statusValue .fieldReserved))) ∧
  (∀ src id key opened s,
    let l := (List.range 4).map (fun j => id.getD j 0)
    (hiveState s = 2 → src = rd s R.HIVE_STAT_QUEEN → opened = true → groupId s ≠ l →
      Ends (.groupKeyDistribution src id key opened) s (fun t => t.sec.group = some key ∧ groupId t = l.map (fun x => x % 2 ^ 32) ∧
        SameBut (recorded ++ pages [17] ++ [.security]) s t)) ∧
    ((hiveState s ≠ 2 ∨ src ≠ rd s R.HIVE_STAT_QUEEN ∨ opened = false ∨ groupId s = l) →
      exec (.groupKeyDistribution src id key opened) s = .next s))

/-- R277, R381 to R383, R385. Choices of the model in it: log entry 57. -/
def Obligations.Retirements : Prop :=
  (∀ q r s, running s q 0x22 = some r → r.fn ≠ 0 → exec (.tenantRetire q) s = .next (finishCmd s q .invalidOpcode 0)) ∧
  (∀ q r s, running s q 0x22 = some r → r.fn = 0 → let n := arg r 16 1
    ((n = 0 ∨ tenState s n ≠ 1) → exec (.tenantRetire q) s = .next (finishCmd s q .keySlotState 0)) ∧
    (n ≠ 0 → tenState s n = 1 → Ends (.tenantRetire q) s (fun t => tenState t n = 2 ∧ rd t R.SEC_TEN_STATE_STAGE 0 n = 3 ∧
      (∃ x ∈ t.sec.retiring, x.tenant = n ∧ x.queue = some q ∧ x.since = s.now ∧ x.expired = false) ∧ t.now = s.now ∧
      (∀ m, m ≠ n → tenState t m = tenState s m)))) ∧
  (∀ n cut x s, s.sec.retiring.find? (fun r => r.tenant = n) = some x → x.expired = false →
    Ends (.drainWaitExpiry n cut) s (fun t => t.now = max s.now (x.since + 1000 * rd s R.SEC_DRAIN) ∧
      (∀ y ∈ t.sec.retiring, y.tenant = n → y.expired = true) ∧ (∀ e < 16, ∀ y ∈ engine t e, y.tenant ≠ n) ∧
      (∀ c ∈ t.kv.copies, (seqOf t c.dst).tenant ≠ n) ∧ (∀ m, tenState t m = tenState s m))) ∧
  (∀ n cut s, (∀ x, s.sec.retiring.find? (fun r => r.tenant = n) = some x → x.expired = true) →
    exec (.drainWaitExpiry n cut) s = .next s) ∧
  (∀ n s, tenState s n = 2 → rd s R.SEC_TEN_STATE_STAGE 0 n = 3 → rd s R.SEC_STAT_UNLOCK_PENDING = 0 →
    (drained s n = true → Ends (.drainFence n) s (fun t => rd t R.SEC_TEN_STATE_STAGE 0 n = 5 ∧ tenState t n = 2 ∧
      rd t R.SEC_TEN_STATE_TRANSPORT 0 n = 0 ∧ (∀ k < 64, (slot t k).st = .empty ∨ (slot t k).tenant ≠ n) ∧
      (∀ k < 64, rd t R.SEC_WKEY_HELD 0 k = 0 ∨ rd t R.SEC_WKEY_TENANT 0 k ≠ n) ∧
      (∀ e ∈ tenantExtents s n, t.sec.handedExtents.contains e = true))) ∧
    (drained s n = false → exec (.drainFence n) s = .next s)) ∧
  (∀ n s, (tenState s n ≠ 2 ∨ rd s R.SEC_TEN_STATE_STAGE 0 n ≠ 3 ∨ rd s R.SEC_STAT_UNLOCK_PENDING ≠ 0) →
    exec (.drainFence n) s = .next s) ∧
  (∀ n x s, s.sec.retiring.find? (fun r => r.tenant = n) = some x → rd s R.SEC_TEN_STATE_STAGE 0 n = 5 →
    ∃ u, exec (.retirementScrubDone n) s = .next (match x.queue with | some q => finishCmd u q .ok 0 | none => u) ∧
      tenState u n = 0 ∧ rd u R.SEC_TEN_STATE_STAGE 0 n = 0 ∧ (∀ m, m ≠ n → tenState u m = tenState s m) ∧
      rd u R.SEC_RETIRE_CNT = min (rd s R.SEC_RETIRE_CNT + 1) (2 ^ 32 - 1) ∧
      u.sec.retiring = s.sec.retiring.filter (fun y => y.tenant ≠ n) ∧
      (∀ e ∈ x.extents, rd u R.MEM_OWN_VALID 0 e = 0 ∧ ∀ a, a / 2 ^ 26 = e → tget 0 u.mem.cells a = 0) ∧
      (∀ f ∈ tenantFns s n, rd u R.HOST_FN_CFG_BOUND 0 f = 0) ∧ rd u (hIrqRaw 17 Irq.SEC_RETIRED) 0 = 1) ∧
  (∀ n s, rd s R.SEC_TEN_STATE_STAGE 0 n ≠ 5 → exec (.retirementScrubDone n) s = .next s)

/-- R269, R377 to R380. Choices of the model in it: log entries 11 and 58. -/
def Obligations.Attestation : Prop :=
  (∀ s, Ends .getVersion s (fun t => t.out = .mctp [0, 0x11, 0x12, 0x13] :: s.out ∧ SameBut [.out] s t) ∧
    Ends .getCapabilities s (fun t => t.out = .mctp [1, 1, 0] :: s.out ∧ SameBut [.out] s t) ∧
    Ends .negotiateAlgorithms s (fun t => t.out = .mctp [2, 1, 1, 1, 1] :: s.out ∧ SameBut [.out] s t)) ∧
  (∀ s, Ends .getDigests s (fun t => (∃ l, l.length = 48 ∧ t.out = .mctp (3 :: l) :: s.out) ∧ SameBut [.free, .out] s t)) ∧
  (∀ off n s, Ends (.getCertificate 0 off n) s (fun t => (∃ l, l.length = n ∧ t.out = .mctp (4 :: l) :: s.out) ∧
    SameBut [.free, .out] s t)) ∧
  (∀ k off n s, k ≠ 0 → Ends (.getCertificate k off n) s (fun t => t.out = .mctp [4] :: s.out ∧ SameBut [.out] s t)) ∧
  (∀ nonce s, Ends (.challenge nonce) s (fun t => (∃ l, l.length = 114 ∧ t.out = .mctp (5 :: (nonce.map BitVec.toNat ++ l)) :: s.out) ∧
    SameBut [.free, .out] s t)) ∧
  (∀ signed s, Ends (.getMeasurements 3 signed) s (fun t =>
    (∃ l, l.length = (if signed then 114 else 0) ∧ t.out = .mctp (6 :: (measurement s 3 ++ l)) :: s.out) ∧ SameBut [.free, .out] s t)) ∧
  (∀ s, (measurement s 3).getD 0 0 = rd s R.SEC_STAT_DEBUG_OPEN ∧ (measurement s 3).length = 72) ∧
  (∀ s, s.sec.sessions.length < 4 → Ends .keyExchange s (fun t => t.sec.sessions = s.sec.sessions ++ [{ id := s.sec.nextSession }] ∧
    t.out = .mctp [7, s.sec.nextSession] :: s.out ∧ SameBut [.security, .out] s t)) ∧
  (∀ s, 4 ≤ s.sec.sessions.length → Ends .keyExchange s (fun t => t.out = .mctp [7] :: s.out ∧ SameBut [.out] s t)) ∧
  (∀ sid s, s.sec.sessions.any (fun x => x.id = sid && !x.open_) = true →
    Ends (.finish sid true) s (fun t => sessionOpen t sid = true ∧ rd t R.SEC_SPDM_CNT = min (rd s R.SEC_SPDM_CNT + 1) (2 ^ 32 - 1) ∧
      t.out = .mctp [8, sid] :: s.out ∧ SameBut [.page 17, .security, .out] s t) ∧
    Ends (.finish sid false) s (fun t => (∀ x ∈ t.sec.sessions, x.id ≠ sid) ∧ SameBut [.security] s t)) ∧
  (∀ sid s, sessionOpen s sid = true →
    Ends (.heartbeat sid) s (fun t => t.out = .mctp [9, sid] :: s.out ∧ SameBut [.out] s t) ∧
    Ends (.keyUpdate sid) s (fun t => t.sec.sessions = s.sec.sessions.map (fun x =>
      if x.id = sid then { x with updates := x.updates + 1 } else x) ∧ t.out = .mctp [10, sid] :: s.out ∧
      SameBut [.security, .out] s t) ∧
    Ends (.endSession sid) s (fun t => t.sec.sessions = s.sec.sessions.filter (fun x => x.id ≠ sid) ∧ sessionOpen t sid = false ∧
      t.out = .mctp [11, sid] :: s.out ∧ SameBut [.security, .out] s t)) ∧
  (∀ sid s, sessionOpen s sid = false → exec (.heartbeat sid) s = .next s ∧ exec (.keyUpdate sid) s = .next s ∧
    exec (.endSession sid) s = .next s ∧ exec (.query sid) s = .next s ∧ (∀ i set sub dir,
      exec (.keyProg sid i set sub dir) s = .next s ∧ exec (.kSetGo sid i set) s = .next s ∧ exec (.kSetStop sid i set) s = .next s)) ∧
  (∀ bytes s, Ends (.chunkSend bytes false) s (fun t => t.sec.request = s.sec.request ++ bytes ∧ SameBut [.security, .out] s t) ∧
    Ends (.chunkSend bytes true) s (fun t => t.sec.request = [] ∧ SameBut [.security, .out] s t)) ∧
  (∀ n s, Ends (.chunkGet n false) s (fun t => t.sec.given = s.sec.given + n ∧ t.out = .mctp [13, s.sec.given, n] :: s.out ∧
      SameBut [.security, .out] s t) ∧
    Ends (.chunkGet n true) s (fun t => t.sec.given = 0 ∧ SameBut [.security, .out] s t)) ∧
  (∀ sid i set s, sessionOpen s sid = true → debugOpen s = false → i < 8 → set < 2 →
    Ends (.query sid) s (fun t => t.out = .mctp [14, 8, 2] :: s.out ∧ SameBut [.out] s t) ∧
    (∀ sub dir, sub < 3 → dir < 2 → Ends (.keyProg sid i set sub dir) s (fun t =>
      (∀ k, k ∈ (ideStream t i).keys ↔ k = 6 * set + 2 * sub + dir ∨ k ∈ (ideStream s i).keys) ∧
      (∀ j, j ≠ i → ideStream t j = ideStream s j) ∧ SameBut [.host, .out] s t)) ∧
    ((∀ j < 6, 6 * set + j ∈ (ideStream s i).keys) → 5 ≤ rd s R.HOST_LINK_SPEED → Ends (.kSetGo sid i set) s (fun t =>
      (ideStream t i).active = some set ∧ rd t R.HOST_IDE_STAT_ACTIVE / 2 ^ i % 2 = 1 ∧ rd t R.HOST_IDE_STAT_INSECURE / 2 ^ i % 2 = 0 ∧
      (∀ j, j ≠ i → ideStream t j = ideStream s j) ∧ SameBut [.page 7, .host, .out] s t)) ∧
    ((ideStream s i).active = some set → Ends (.kSetStop sid i set) s (fun t => (ideStream t i).active = none ∧
      (∀ k ∈ (ideStream t i).keys, k / 6 ≠ set) ∧ rd t R.HOST_IDE_STAT_ACTIVE / 2 ^ i % 2 = 0 ∧
      (∀ j, j ≠ i → ideStream t j = ideStream s j) ∧ SameBut [.page 7, .host, .out] s t)))

/-- R387 to R390. Choices of the model in it: log entries 11, 57 and 59. -/
def Obligations.DebugUnlock : Prop :=
  (∀ w s, pageServed s 17 0 = true → Ends (.newNonce w) s (fun t => t.sec = { s.sec with nonce := some s.now } ∧
    (∀ j < 4, rd t (R.SEC_UNLOCK_NONCE j) = freeVal s j % 2 ^ 32) ∧ SameBut ([.security] ++ written 17) s t)) ∧
  (∀ x s, s.sec.nonce = some x → Ends .nonceExpiry s (fun t => t.sec = { s.sec with nonce := none } ∧
    (∀ j < 4, rd t (R.SEC_UNLOCK_NONCE j) = 0) ∧ t.now = max s.now (x + 600 * 10 ^ 9) ∧ SameBut (pages [17] ++ [.now, .security]) s t)) ∧
  (∀ s, s.sec.nonce = none → exec .nonceExpiry s = .next s) ∧
  (∀ token digest sigOk s, tokenOk s (token.getD (unlockBuf s)) digest sigOk = false →
    Ends (.unlockSubmit token digest sigOk) s (fun t => t.sec = { s.sec with nonce := none } ∧
      rd t R.SEC_UNLOCK_STAT_STATUS = statusValue .unlockDenied ∧
      rd t R.SEC_UNLOCK_FAIL_CNT = min (rd s R.SEC_UNLOCK_FAIL_CNT + 1) (2 ^ 32 - 1) ∧
      rd t R.SEC_STAT_UNLOCK_PENDING = rd s R.SEC_STAT_UNLOCK_PENDING ∧ SameBut ([.page 17, .security] ++ recorded) s t)) ∧
  (∀ token digest sigOk s, let b := token.getD (unlockBuf s)
    tokenOk s b digest sigOk = true →
    Ends (.unlockSubmit token digest sigOk) s (fun t => t.sec.nonce = none ∧
      (rd s R.SEC_STAT_DEBUG_OPEN = 0 → rd s R.SEC_STAT_UNLOCK_PENDING = 0 → rd t R.SEC_STAT_UNLOCK_PENDING = 1 ∧
        t.sec.scope = fieldAt b 6 1 % 8 ∧ (∀ n < 256, n ≠ 0 → tenState s n = 1 → tenState t n = 2)))) ∧
  (∀ s b digest sigOk, (s.sec.nonce = none ∨ sigOk = false ∨ digest ≠ s.sec.opkey ∨ fieldAt b 0 4 ≠ 0x4B4E4C55 ∨ fieldAt b 6 1 % 8 = 0 ∨
      (∃ j < 4, fieldAt b (8 + 4 * j) 4 ≠ rd s (R.SEC_DEVID j)) ∨ (∃ x, s.sec.nonce = some x ∧ x + 600 * 10 ^ 9 ≤ s.now) ∨
      (∃ j < 4, fieldAt b (24 + 4 * j) 4 ≠ rd s (R.SEC_UNLOCK_NONCE j)) ∨ (∀ d ∈ digest, d = 0)) →
    tokenOk s b digest sigOk = false) ∧
  (∀ s, rd s R.SEC_STAT_UNLOCK_PENDING = 1 → (∀ r ∈ s.sec.retiring, drained s r.tenant = true) →
    Ends .unlockEraseDone s (fun t => rd t R.SEC_STAT_UNLOCK_PENDING = 0 ∧ rd t R.SEC_STAT_DEBUG_OPEN = 1 ∧
      rd t R.SEC_UNLOCK_STAT_SCOPE = s.sec.scope % 8 ∧ dom t 400 = 0 ∧ t.sec.sessions = [] ∧ t.sec.retiring = [] ∧
      t.sec.group = none ∧ t.kv.seqs = [] ∧ t.kv.frames = [] ∧ (∀ n < 256, n ≠ 0 → tenState t n = 0))) ∧
  (∀ s, (rd s R.SEC_STAT_UNLOCK_PENDING = 0 ∨ (∃ r ∈ s.sec.retiring, drained s r.tenant = false)) →
    exec .unlockEraseDone s = .next s) ∧
  (∀ w s, Writable s w 17 0 → Ends (.opkeyCommit w) s (fun t =>
    t.sec = { s.sec with opkey := (List.range 16).map (fun j => rd s (R.SEC_OPKEY j)) } ∧
    rd t R.SEC_STAT_OPKEY_SET = (if (List.range 16).all (fun j => rd s (R.SEC_OPKEY j) = 0) = true then 0 else 1) ∧
    rd t R.SEC_OPKEY_CTL_CHANGES = min (rd s R.SEC_OPKEY_CTL_CHANGES + 1) (2 ^ 16 - 1))) ∧
  (∀ a n s, debugOpen s = true → rd s R.SEC_UNLOCK_STAT_SCOPE % 2 = 1 →
    Ends (.debugOperation 0 a n) s (fun t => t.out = .debugRead (memBytes s a n) :: s.out ∧ SameBut [.out] s t)) ∧
  (∀ k a n s, (debugOpen s = false ∨ rd s R.SEC_UNLOCK_STAT_SCOPE / 2 ^ k % 2 = 0 ∨ k ≠ 0) →
    exec (.debugOperation k a n) s = .next s)

/-! ## Power, dusk and clocks (chapters 16 and 21) -/

/-- R398 to R402. Choices of the model in it: log entries 8, 31 and 32. -/
def Obligations.PowerIntervals : Prop :=
  (∀ p s, let cap := 1000 * rd s R.PWR_CAP_CAP_W
    let e := if s.pwr.eff ≤ cap then cap else max cap (s.pwr.eff - 20 * rd s R.PWR_SLEW)
    Ends (.powerInterval p) s (fun t => rd t R.PWR_STAT_P_IN = p % 2 ^ 16 ∧ t.pwr.eff = e ∧
      rd t R.PWR_STAT_CAP_LAG = (if cap < e then 1 else 0) ∧
      rd t R.PWR_LAG_ENERGY = min (rd s R.PWR_LAG_ENERGY + (100 * p - cap + s.pwr.lagRest) / 50000) (2 ^ 32 - 1) ∧
      rd t (R.PWR_DIE_VLIM 4) = rd s R.PACE_VLIM_VMAX 4 % 2 ^ 12 ∧
      t.pwr.plateau ≤ e ∧ t.pwr.ballast ≤ t.pwr.plateau ∧ t.pwr.credit ≤ 1000 * rd s R.PWR_EST_STEP_W ∧
      (rd s R.PWR_BALLAST_BALLAST_EN = 0 → t.pwr.ballast = 0) ∧
      (rd s R.PWR_STAT_EMERG_ACTIVE = 1 → t.pwr.credit = 0 ∧ t.pwr.plateau = 0 ∧ t.pwr.ballast = 0 ∧
        ∀ d < 4, rd t (R.PWR_DIE_VLIM d) = rd s R.PACE_VLIM_VMIN d % 2 ^ 12) ∧
      (s.pwr.dusk ≠ none → t.pwr.credit = 0 ∧ t.pwr.plateau = 0 ∧ t.pwr.ballast = 0) ∧
      (rd s R.PWR_STAT_EMERG_ACTIVE ≠ 1 → s.pwr.dusk = none → e < 100 * p → t.pwr.credit = 0 ∧
        ∀ d < 4, rd t (R.PWR_DIE_VLIM d) = max (rd s R.PACE_VLIM_VMIN d) (rd s R.PACE_VOLT_VSET d - 10) % 2 ^ 12) ∧
      SameBut (recorded ++ pages [19] ++ [.free, .power]) s t)) ∧
  (∀ w v s, Writable s w 19 0 →
    (120 ≤ v % 512 → v % 512 ≤ 450 → Ends (.pwrCapWrite w v) s (fun t => rd t R.PWR_CAP_CAP_W = v % 512 ∧
      t.pwr = { s.pwr with eff := max s.pwr.eff (1000 * (v % 512)) } ∧
      rd t R.PWR_STAT_CAP_LAG = (if 1000 * (v % 512) < s.pwr.eff then 1 else 0) ∧ SameBut ([.power] ++ written 19) s t)) ∧
    ((v % 512 < 120 ∨ 450 < v % 512) → Ends (.pwrCapWrite w v) s (fun t => rd t R.PWR_CAP_CAP_W = rd s R.PWR_CAP_CAP_W ∧
      rd t (hErrStatus 19) 0 = statusValue .lengthRange ∧ SameBut (written 19) s t))) ∧
  (∀ w s, Writable s w 19 0 → rd s R.PWR_CAP_EMERG = 0 → s.pwr.dusk = none →
    Ends (.emergSet w) s (fun t => rd t R.PWR_CAP_EMERG = 1 ∧ rd t R.PWR_STAT_EMERG_ACTIVE = 1 ∧
      t.pwr = { s.pwr with credit := 0, plateau := 0, ballast := 0, short := false } ∧
      (∀ d < 4, rd t (R.PWR_DIE_VLIM d) = rd s R.PACE_VLIM_VMIN d % 2 ^ 12) ∧
      rd t (R.PWR_DIE_VLIM 4) = rd s (R.PWR_DIE_VLIM 4) ∧ rd t (hIrqRaw 19 Irq.PWR_EMERG) 0 = 1 ∧
      SameBut ([.power] ++ written 19) s t)) ∧
  (∀ w s, Writable s w 19 0 → s.pwr.dusk ≠ none →
    Ends (.emergSet w) s (fun t => rd t R.PWR_CAP_EMERG = 1 ∧ rd t R.PWR_STAT_EMERG_ACTIVE = rd s R.PWR_STAT_EMERG_ACTIVE ∧
      t.pwr = s.pwr)) ∧
  (∀ w s, Writable s w 19 0 → Ends (.emergClear w) s (fun t => rd t R.PWR_CAP_EMERG = 0 ∧ rd t R.PWR_STAT_EMERG_ACTIVE = 0 ∧
    t.pwr = s.pwr ∧ SameBut (written 19) s t)) ∧
  (∀ p q rest x s, (part s p).queue = q :: rest → q.held = some x → Ends (.launchGateHoldExpiry p) s (fun t =>
    part t p = { part s p with queue := { q with pass := true } :: rest } ∧ t.now = max s.now (x + 1000 * rd s R.PWR_GATE) ∧
    SameBut [.now, .parts] s t)) ∧
  (∀ p s, (∀ q ∈ (part s p).queue.head?, q.held = none) → exec (.launchGateHoldExpiry p) s = .next s)

/-- R391 to R397. Choices of the model in it: log entry 60. -/
def Obligations.Domains : Prop :=
  (∀ d s, (dom s d = 0 → heldOn s d = false → mayIdle s d = true →
      Ends (.domainIdle d) s (fun t => dom t d = 2 ∧ (∀ k, k ≠ d → dom t k = dom s k) ∧ t.pwr = { s.pwr with dom := t.pwr.dom } ∧
        SameBut [.power] s t)) ∧
    ((dom s d ≠ 0 ∨ heldOn s d = true ∨ mayIdle s d = false) → exec (.domainIdle d) s = .next s) ∧
    ((372 ≤ d ∧ d < 384 ∨ 392 ≤ d) → exec (.domainIdle d) s = .next s)) ∧
  (∀ d s, dom s d = 2 → alwaysOff s d = false → s.pwr.dusk = none → rd s R.PWR_STAT_STANDBY ≠ 1 →
    Ends (.domainWake d) s (fun t => dom t d = 1 ∧ (∀ k, k ≠ d → dom t k = dom s k) ∧ SameBut [.power] s t)) ∧
  (∀ d s, (dom s d ≠ 2 ∨ alwaysOff s d = true ∨ rd s R.PWR_STAT_STANDBY = 1 ∧ d < 376) → exec (.domainWake d) s = .next s) ∧
  (∀ d s, (dom s d = 1 → Ends (.wakeDone d) s (fun t => dom t d = 0 ∧ (∀ k, k ≠ d → dom t k = dom s k) ∧
      (∀ p < 8, (port t p).idle = (if d = 376 + p then false else (port s p).idle)) ∧ SameBut [.power, .links] s t)) ∧
    (dom s d ≠ 1 → exec (.wakeDone d) s = .next s)) ∧
  (∀ ty i v s, ty < 27 → i < pageCount ty → rd s R.BOOT_STAT_RECOVERY ≠ 1 →
    Ends (.holdOnWrite ty i v) s (fun t => rd t (hHoldOn ty) i = v % 2 ∧ (v % 2 = 0 → SameBut [.page ty] s t) ∧
      (v % 2 = 1 → dom s (pageDomain ty i) = 2 → alwaysOff s (pageDomain ty i) = false → s.pwr.dusk = none →
        dom t (pageDomain ty i) = 1) ∧ SameBut [.page ty, .power] s t)) ∧
  (∀ ty i v s, (27 ≤ ty ∨ pageCount ty ≤ i) → exec (.holdOnWrite ty i v) s = .next s) ∧
  (∀ p s, (lanesMayIdle s p = true → dom s (376 + p) = 0 → Ends (.laneIdleAgreement p true) s (fun t => dom t (376 + p) = 2 ∧
      (port t p).idle = true ∧ portState t p = portState s p ∧ SameBut [.power, .links] s t)) ∧
    exec (.laneIdleAgreement p false) s = .next s ∧
    (lanesMayIdle s p = false → exec (.laneIdleAgreement p true) s = .next s)) ∧
  (∀ s, rd s R.PWR_STAT_STANDBY = 0 → mayStandby s = true → Ends .standbyEntry s (fun t => rd t R.PWR_STAT_STANDBY = 1 ∧
    (∀ d, (d < 376 ∨ 384 ≤ d ∧ d < 397) → dom t d = 2) ∧ (∀ d, (376 ≤ d ∧ d < 384 ∨ 397 ≤ d) → dom t d = dom s d) ∧
    SameBut (pages [19] ++ [.power]) s t)) ∧
  (∀ s, (rd s R.PWR_STAT_STANDBY ≠ 0 ∨ mayStandby s = false) → exec .standbyEntry s = .next s) ∧
  (∀ s, rd s R.PWR_STAT_STANDBY = 1 → Ends .standbyExit s (fun t => rd t R.PWR_STAT_STANDBY = 0 ∧
    (∀ d, (d < 376 ∨ 384 ≤ d ∧ d < 397) → dom s d ≠ 3 → alwaysOff s d = false → dom t d = 0) ∧
    rd t (hIrqRaw 19 Irq.PWR_STANDBY_EXIT) 0 = 1 ∧ SameBut (recorded ++ pages [19] ++ [.power]) s t)) ∧
  (∀ s, rd s R.PWR_STAT_STANDBY ≠ 1 → exec .standbyExit s = .next s)

/-- R404 to R406, R452, R509, R512, R514, R515. Choices of the model in it: log entries 62 and 63. -/
def Obligations.DuskAndTrips : Prop :=
  (∀ s, s.pwr.dusk = none → s.pwr.good = true → Ends .duskBegin s (fun t => t.pwr.dusk = some s.now ∧ t.pwr.order = 1 ∧
    t.pwr.credit = 0 ∧ t.pwr.plateau = 0 ∧ t.pwr.ballast = 0 ∧ rd t R.PWR_STAT_DUSK = 1 ∧ rd t (hIrqRaw 19 Irq.PWR_DUSK) 0 = 1 ∧
    SameBut (recorded ++ pages [19] ++ [.free, .power, .parts]) s t)) ∧
  (∀ s, (s.pwr.dusk ≠ none ∨ s.pwr.good = false) → exec .duskBegin s = .next s) ∧
  (∀ x s, s.pwr.dusk = some x → s.pwr.order = 1 → Ends .duskFinishDeadline s (fun t => t.pwr = { s.pwr with order := 2 } ∧
    t.now = max s.now (x + 1000 * rd s R.PWR_DUSK) ∧ (t.evr.flush.isSome = true ∨ rd t R.NVS_STAT_SEQ_END = 1))) ∧
  (∀ x s, s.pwr.dusk = some x → s.pwr.order = 2 → Ends .duskLeaving s (fun t => t.pwr = { s.pwr with order := 3 } ∧
    t.now = max s.now (x + 14600000) ∧ (∀ p < 8, portUp s p = true → (tget [] (port t p).txq 1).map OutMsg.body =
      (tget [] (port s p).txq 1).map OutMsg.body ++ [.leaving (hiveId s)]) ∧ SameBut [.now, .power, .links] s t)) ∧
  (∀ x cut s, s.pwr.dusk = some x → s.pwr.order = 3 → Ends (.duskHostDown cut) s (fun t => t.pwr = { s.pwr with order := 4 } ∧
    t.now = max s.now (x + 15000000) ∧ rd t R.HOST_LINK_UP = 0 ∧ rd t R.HOST_STAT_READY = 0 ∧ t.host.perst = none)) ∧
  (∀ x s, s.pwr.dusk = some x → s.pwr.order = 4 → Ends .duskPowerOff s (fun t => t.pwr.order = 5 ∧ t.pwr.dusk = some x ∧
    t.now = max s.now (x + 16000000) ∧ (∀ d < 401, dom t d = 2) ∧ dom t 401 = dom s 401 ∧ t.comb.cells = [] ∧ t.comb.parts = [] ∧
    t.host.queues = [] ∧ t.host.engines = [] ∧ t.mem.cells = s.mem.cells ∧ SameBut (pages [13] ++ [.now, .power, .memory, .host, .links, .cells, .pipes, .parts]) s t)) ∧
  (∀ cut s, (s.pwr.dusk = none ∨ s.pwr.order = 5) → exec .duskFinishDeadline s = .next s ∧ exec .duskLeaving s = .next s ∧
    exec (.duskHostDown cut) s = .next s ∧ exec .duskPowerOff s = .next s) ∧
  (∀ x s, s.pwr.dusk = some x → s.pwr.order = 5 → s.pwr.trip = false → exec (.duskEnd true) s = .next (coldReset s 1)) ∧
  (∀ b s, (s.pwr.dusk = none ∨ s.pwr.order ≠ 5 ∨ b = false ∨ s.pwr.trip = true) → exec (.duskEnd b) s = .next s) ∧
  (∀ s c, let t := coldReset s c
    t.now = s.now ∧ t.pending = s.pending ∧ t.boot.nor = s.boot.nor ∧ t.boot.cause = c ∧ t.sec.opkey = s.sec.opkey ∧
    t.pwr.dusk = none ∧ t.pwr.fed = s.pwr.fed ∧ t.pwr.good = false ∧ t.comb = {} ∧ t.kv = {} ∧ t.wag = {} ∧ t.serv = {} ∧ t.twin = {} ∧
    t.vid = {} ∧ t.hive = {} ∧ t.evr.flush = none ∧ rd t R.SEC_STAT_DEBUG_OPEN = 0 ∧ rd t R.PWR_CAP_CAP_W = 420 ∧
    rd t R.SEC_OPKEY_CTL_CHANGES = rd s R.SEC_OPKEY_CTL_CHANGES % 2 ^ 16 ∧
    rd t R.EVR_STAT_TIME_Q = (if rd s R.EVR_STAT_TIME_Q = 0 then 0 else 1)) ∧
  (∀ place temp s, (s.pwr.therm = false → Ends (.thermalAlarm place temp) s (fun t => t.pwr = { s.pwr with therm := true } ∧
      SameBut (recorded ++ [.power]) s t)) ∧
    (s.pwr.therm = true → exec (.thermalAlarm place temp) s = .next s)) ∧
  (∀ place temp s, (s.pwr.dusk = none → Ends (.thermalTrip place temp) s (fun t => t.pwr.dusk = some s.now ∧ t.pwr.order = 1 ∧
      t.pwr.trip = true ∧ t.pwr.therm = true ∧ t.boot.fatal = false ∧ SameBut (recorded ++ pages [19] ++ [.free, .power, .parts]) s t)) ∧
    (s.pwr.dusk ≠ none → exec (.thermalTrip place temp) s = .next s)) ∧
  (∀ s, (s.pwr.trip = true → s.pwr.order = 5 → exec .thermalTripCooled s = .next (coldReset s 4)) ∧
    ((s.pwr.trip = false ∨ s.pwr.order ≠ 5) → exec .thermalTripCooled s = .next s)) ∧
  (∀ s, Ends .inputPowerLoss s (fun t => t.pwr.fed = false ∧ t.pwr.overvolt = s.pwr.overvolt ∧ t.now = s.now ∧ t.pwr.dusk = none) ∧
    Ends .overvoltageDisconnect s (fun t => t.pwr.fed = false ∧ t.pwr.overvolt = true ∧ t.now = s.now ∧ t.pwr.dusk = none))

/-- R407 to R414. Choices of the model in it: log entry 61. -/
def Obligations.Clocks : Prop :=
  (∀ k cut s, 33 ≤ k → k < 42 → loopState s k = 1 → rd s R.CLK_LOOP_STAT_SOURCE 0 k = 2 → tcxoStable s = true →
    Ends (.clockSourceTrip k cut) s (fun t => loopState t k = 1 ∧ rd t R.CLK_LOOP_STAT_SOURCE 0 k = 0 ∧
      rd t R.CLK_LOOP_STAT_SRC_LOST 0 k = 1 ∧ rd t R.CLK_SRC_FAIL_CNT = min (rd s R.CLK_SRC_FAIL_CNT + 1) (2 ^ 32 - 1) ∧
      rd t (hIrqRaw 20 Irq.CLK_SRC_LOST) 0 = 1 ∧ t.clk = s.clk ∧ t.wag = s.wag)) ∧
  (∀ k cut s, k < 33 → loopState s k = 1 → rd s R.CLK_LOOP_STAT_SRC_LOST 0 k = 0 →
    Ends (.clockSourceTrip k cut) s (fun t => loopState t k = (if rd s R.CLK_LOOP_STAT_DIVIDER 0 k = 5 then 2 else 3) ∧
      rd t R.CLK_LOOP_STAT_SRC_LOST 0 k = 1 ∧ rd t R.CLK_SRC_FAIL_CNT = min (rd s R.CLK_SRC_FAIL_CNT + 1) (2 ^ 32 - 1) ∧
      (k = 32 → s.host.refclk = true → rd t R.HOST_LINK_UP = 0) ∧ (∀ j, j ≠ k → loopState t j = loopState s j))) ∧
  (∀ k cut s, (42 ≤ k ∨ loopState s k = 0) → exec (.clockSourceTrip k cut) s = .next s) ∧
  (∀ k s, let d := rd s R.CLK_LOOP_STAT_DIVIDER 0 k
    (loopState s k = 3 → s.clk.up.contains k = false → d < 4 → Ends (.dividerStep k) s (fun t => loopState t k = 3 ∧
      rd t R.CLK_LOOP_STAT_DIVIDER 0 k = d + 1 ∧ SameBut (pages [20] ++ [.clocks]) s t)) ∧
    (loopState s k = 3 → s.clk.up.contains k = false → d = 4 → s.clk.come.contains k = false → Ends (.dividerStep k) s (fun t =>
      loopState t k = 2 ∧ rd t R.CLK_LOOP_STAT_DIVIDER 0 k = 5 ∧ SameBut (pages [20] ++ [.clocks]) s t)) ∧
    (loopState s k = 4 → 1 < d → Ends (.dividerStep k) s (fun t => loopState t k = 3 ∧ t.clk.up.contains k = true ∧
      rd t R.CLK_LOOP_STAT_DIVIDER 0 k = (d - 1) % 2 ^ 4 ∧ SameBut (pages [20] ++ [.clocks]) s t)) ∧
    ((loopState s k = 4 ∨ loopState s k = 3 ∧ s.clk.up.contains k = true) → d ≤ 1 → Ends (.dividerStep k) s (fun t =>
      loopState t k = 1 ∧ t.clk.up.contains k = false ∧ rd t R.CLK_LOOP_STAT_DIVIDER 0 k = 0 ∧ SameBut (pages [20] ++ [.clocks]) s t)) ∧
    ((loopState s k < 3 ∨ 4 < loopState s k) → exec (.dividerStep k) s = .next s)) ∧
  (∀ k s, (k < 32 → loopState s k = 2 → tcxoStable s = true → Ends (.clockSourceGood k) s (fun t => loopState t k = 4 ∧
      rd t R.CLK_LOOP_STAT_SOURCE 0 k = 0 ∧ rd t R.CLK_LOOP_STAT_SRC_LOST 0 k = 0 ∧ t.clk.await.contains k = false ∧
      SameBut (pages [20] ++ [.clocks]) s t)) ∧
    (33 ≤ k → k < 42 → loopState s k = 1 → hiveRef s = true → Ends (.clockSourceGood k) s (fun t => loopState t k = 1 ∧
      rd t R.CLK_LOOP_STAT_SOURCE 0 k = 2 ∧ rd t R.CLK_LOOP_STAT_SRC_LOST 0 k = 0 ∧ SameBut [.page 20] s t)) ∧
    ((k < 32 ∧ tcxoStable s = false ∨ k = 32 ∧ s.host.refclk = false ∨ 42 ≤ k) → exec (.clockSourceGood k) s = .next s)) ∧
  (∀ s, Ends .tcxoStable s (fun t => rd t R.CLK_STAT_TCXO_STABLE = 1 ∧ rd t R.CLK_STAT_TCXO_FAULT = 0 ∧
    (∀ k < 42, k ≠ 32 → loopState s k = 0 → loopState t k = 1 ∧
      rd t R.CLK_LOOP_STAT_SOURCE 0 k = (if k < 32 ∨ hiveRef s = false then 0 else 2)) ∧
    (loopState s 32 = 0 → s.host.refclk = false → loopState t 32 = 0) ∧ SameBut (pages [20] ++ [.clocks]) s t)) ∧
  (∀ s, rd s R.BOOT_CFG_FATAL_ACTION = 0 → Ends .tcxoFault s (fun t => rd t R.CLK_STAT_TCXO_FAULT = 1 ∧
    rd t R.CLK_STAT_TCXO_STABLE = 0 ∧ rd t (hIrqRaw 20 Irq.CLK_TCXO_FAULT) 0 = 1 ∧ t.boot.fatal = false ∧
    (∀ k < 32, loopState s k = 1 → loopState t k = (if rd s R.CLK_LOOP_STAT_DIVIDER 0 k = 5 then 2 else 3)) ∧
    (loopState s 41 = 1 → rd s R.CLK_LOOP_STAT_SOURCE 0 41 = 0 → rd t R.CLK_STAT_FALLBACK_NOT_READY = 1))) ∧
  (∀ k s, k < 42 → Ends (.clockGateRequest k true) s (fun t => rd t R.CLK_LOOP_STAT_GATED 0 k = 0 ∧ SameBut [.page 20] s t) ∧
    ((32 ≤ k ∨ rd s R.MEMC_STAT_HELD k ≠ 1 ∧ dom s (340 + k) = 2) →
      Ends (.clockGateRequest k false) s (fun t => rd t R.CLK_LOOP_STAT_GATED 0 k = 1 ∧ SameBut [.page 20] s t)) ∧
    (k < 32 → (rd s R.MEMC_STAT_HELD k = 1 ∨ dom s (340 + k) ≠ 2) → exec (.clockGateRequest k false) s = .next s) ∧
    Ends (.gateStuck k) s (fun t => rd t R.CLK_LOOP_STAT_GATE_STUCK 0 k = 1 ∧ rd t R.CLK_LOOP_STAT_GATED 0 k = 0 ∧
      rd t R.CLK_GATE_STUCK_CNT = min (rd s R.CLK_GATE_STUCK_CNT + 1) (2 ^ 32 - 1) ∧ rd t (hIrqRaw 20 Irq.CLK_GATE_STUCK) 0 = 1 ∧
      SameBut (recorded ++ pages [20]) s t)) ∧
  (∀ k b s, 42 ≤ k → exec (.clockGateRequest k b) s = .next s ∧ exec (.gateStuck k) s = .next s) ∧
  (∀ w v hz s, pageServed s 20 0 = true → v < 2 ^ 32 → v / 2 ^ 30 ≠ 3 → bitsOf v 27 3 < 5 →
    let kind := v / 2 ^ 30
    let n := bitsOf v 16 11
    (obsIndexOk kind (bitsOf v 27 3) n = true → Ends (.clkObsSelect w v hz) s (fun t => rd t R.CLK_OBS_SEL_KIND = kind ∧
      rd t R.CLK_OBS_SEL_DIE = bitsOf v 27 3 ∧ rd t R.CLK_OBS_SEL_INDEX = n ∧ rd t R.CLK_OBS_SEL_DIV = v % 2 ^ 16 ∧
      rd t R.CLK_OBS_STAT_OVER = (if 200000000 * (v % 2 ^ 16 + 1) < (if kind = 2 then fixedHz n else hz) then 1 else 0) ∧
      SameBut (written 20) s t)) ∧
    (obsIndexOk kind (bitsOf v 27 3) n = false → Ends (.clkObsSelect w v hz) s (fun t =>
      rd t R.CLK_OBS_SEL_KIND = rd s R.CLK_OBS_SEL_KIND ∧ rd t (hErrStatus 20) 0 = statusValue .fieldReserved ∧
      SameBut (written 20) s t)))

/-! ## Video (chapter 17) -/

/-- R418, R419, R421, R425. Choices of the model in it: log entry 64. -/
def Obligations.VideoContexts : Prop :=
  (∀ q block bad r s, tenSeals s r.tenant = false → arg r 16 1 % 4 = 0 →
    let b := (block ++ List.replicate 128 0).take 128
    let c := arg r 17 1
    (running s q 0x10 = some r →
      exec (.decodeOpen q block false bad) s = .next (finishCmd (hostReadFailed s r.fn [q]) q .dmaHostError 0) ∧
      (∀ st, openCheck s r b false = some st → exec (.decodeOpen q block true bad) s = .next (finishCmd s q st 0)) ∧
      (openCheck s r b false = none → ∃ u, exec (.decodeOpen q block true bad) s = .next (finishCmd u q .ok 0) ∧ vctxState u c = 1 ∧
        vctx u c = { block := b } ∧ vctxEncode u c = false ∧ vctxTenant u c = arg r 18 1 ∧
        (∀ k, k ≠ c → vctx u k = vctx s k ∧ vctxState u k = vctxState s k) ∧ SameBut [.page 21, .video] s u)) ∧
    (running s q 0x11 = some r →
      exec (.encodeOpen q block false bad) s = .next (finishCmd (hostReadFailed s r.fn [q]) q .dmaHostError 0) ∧
      (∀ st, openCheck s r b true = some st → exec (.encodeOpen q block true bad) s = .next (finishCmd s q st 0)) ∧
      (openCheck s r b true = none → ∃ u, exec (.encodeOpen q block true bad) s = .next (finishCmd u q .ok 0) ∧ vctxState u c = 1 ∧
        vctx u c = { block := b } ∧ vctxEncode u c = true ∧ vctxTenant u c = arg r 18 1 ∧ SameBut [.page 21, .video] s u))) ∧
  (∀ q block bad r s, running s q 0x10 = some r → arg r 16 1 % 4 = 0 → tenSeals s r.tenant = true →
    rd s R.SEC_TEN_STATE_TRANSPORT 0 r.tenant = 0 → exec (.decodeOpen q block true bad) s = .next (finishCmd s q .sealNoKey 0)) ∧
  (∀ q au ok bad r st s, running s q 0x10 = some r → workCheck s r false = some st →
    let e := endVideo s q r.tenant (arg r 48 8) 0 st {}
    (arg r 16 1 % 4 = 1 → exec (.decodePicture q au ok bad) s = .next e) ∧ (arg r 16 1 % 4 = 2 → exec (.decodeFlush q) s = .next e) ∧
    (arg r 16 1 % 4 = 3 → exec (.decodeClose q) s = .next e)) ∧
  (∀ q r st s, running s q 0x11 = some r → workCheck s r true = some st →
    let e := endVideo s q r.tenant (arg r 48 8) 0 st {}
    (arg r 16 1 % 4 = 1 → exec (.encodePicture q) s = .next e) ∧ (arg r 16 1 % 4 = 2 → exec (.encodeFlush q) s = .next e) ∧
    (arg r 16 1 % 4 = 3 → exec (.encodeClose q) s = .next e)) ∧
  (∀ q au bad r s, running s q 0x10 = some r → workCheck s r false = none → arg r 16 1 % 4 = 1 → tenSeals s r.tenant = false →
    Ends (.decodePicture q au true bad) s (fun t =>
      (∃ x, t.vid.jobs = s.vid.jobs ++ [x] ∧ x.serial = s.vid.serial ∧ x.queue = q ∧ x.ctx = arg r 17 1 ∧ x.encode = false ∧ x.op = 1 ∧
        x.length = arg r 20 4 ∧ x.release = arg r 32 8 ∧ x.result = arg r 48 8 ∧ x.st = 0) ∧
      t.mem = (memWrite s (vpar s (arg r 17 1) 24 8) ((au ++ List.replicate (arg r 20 4) 0).take (arg r 20 4))).mem ∧
      (queue t q).run = some { r with busy := true } ∧ SameBut [.bytes, .memory, .host, .video] s t)) ∧
  (∀ q r s, running s q 0x10 = some r → workCheck s r false = none → arg r 16 1 % 4 = 2 →
    Ends (.decodeFlush q) s (fun t => (∃ x, t.vid.jobs = s.vid.jobs ++ [x] ∧ x.serial = s.vid.serial ∧ x.queue = q ∧
      x.ctx = arg r 17 1 ∧ x.op = 2 ∧ x.st = 0) ∧ (queue t q).run = some { r with busy := true } ∧ SameBut [.host, .video] s t)) ∧
  (∀ q r s, running s q 0x11 = some r → workCheck s r true = none →
    (arg r 16 1 % 4 = 1 → Ends (.encodePicture q) s (fun t => (∃ x, t.vid.jobs = s.vid.jobs ++ [x] ∧ x.serial = s.vid.serial ∧
      x.queue = q ∧ x.ctx = arg r 17 1 ∧ x.encode = true ∧ x.op = 1 ∧ x.src = arg r 24 8 ∧ x.out = arg r 32 8 ∧ x.cap = arg r 40 4 ∧
      x.st = 0) ∧ (queue t q).run = some { r with busy := true } ∧ SameBut [.host, .video] s t)) ∧
    (arg r 16 1 % 4 = 2 → Ends (.encodeFlush q) s (fun t => (∃ x, t.vid.jobs = s.vid.jobs ++ [x] ∧ x.encode = true ∧ x.op = 2 ∧
      x.ctx = arg r 17 1 ∧ x.st = 0) ∧ (queue t q).run = some { r with busy := true } ∧ SameBut [.host, .video] s t))) ∧
  (∀ q r s, running s q 0x10 = some r → workCheck s r false = none → arg r 16 1 % 4 = 3 → let c := arg r 17 1
    ((∀ j ∈ s.vid.jobs, j.ctx ≠ c) → Ends (.decodeClose q) s (fun t => vctxState t c = 0 ∧ vctx t c = {} ∧ t.vid.jobs = s.vid.jobs)) ∧
    ((∀ j ∈ s.vid.jobs, j.ctx = c → j.st ≠ 0) → (∃ j ∈ s.vid.jobs, j.ctx = c) → Ends (.decodeClose q) s (fun t =>
      vctxState t c = 2 ∧ (vctx t c).closing = some (q, arg r 48 8) ∧ t.vid.jobs = s.vid.jobs ∧
      (queue t q).run = some { r with busy := true } ∧ SameBut [.page 21, .host, .video] s t))) ∧
  (∀ q r s, running s q 0x11 = some r → workCheck s r true = none → arg r 16 1 % 4 = 3 → let c := arg r 17 1
    ((∀ j ∈ s.vid.jobs, j.ctx ≠ c) → Ends (.encodeClose q) s (fun t => vctxState t c = 0 ∧ vctx t c = {} ∧ t.vid.jobs = s.vid.jobs)))

/-- R422 to R429, R431 to R434, R436 to R438. Choices of the model in it: log entries 64, 65 and 66. -/
def Obligations.VideoJobs : Prop :=
  (∀ units s, (rd s R.PWR_STAT_EMERG_ACTIVE = 1 ∨ admissionsStopped s = true ∨
      nextJob s ((List.range 8).filter (engineFree s)) (jobOrder s) = none) → exec (.videoJobStart units) s = .next s) ∧
  (∀ units j l s, rd s R.PWR_STAT_EMERG_ACTIVE ≠ 1 → admissionsStopped s = false →
    nextJob s ((List.range 8).filter (engineFree s)) (jobOrder s) = some (j, l) →
    let own := if j.st = 2 then l else l.take (max units 1)
    Ends (.videoJobStart units) s (fun t =>
      t.vid.jobs = s.vid.jobs.map (fun x => if x.serial = j.serial then { x with st := 1, engines := own } else x) ∧
      (∀ v ∈ own, rd t R.VID_STAT_BUSY v = 1 ∧ rd t R.VID_STAT_PAUSED v = 0) ∧
      (j.st = 0 → ∀ b < 64, j.release / 2 ^ b % 2 = 1 → rd t R.VID_CTX_OUT 0 j.ctx / 2 ^ b % 2 = 0) ∧ SameBut (pages [21] ++ [.video]) s t)) ∧
  (∀ c j s, s.vid.jobs.find? (fun j => j.ctx = c && j.st = 1) = some j →
    ((vctxLive s c = true ∨ liveWants s j = false) → exec (.preemption c) s = .next s) ∧
    (vctxLive s c = false → liveWants s j = true → Ends (.preemption c) s (fun t =>
      t.vid.jobs = s.vid.jobs.map (fun x => if x.serial = j.serial then { x with st := 2 } else x) ∧
      (∀ v ∈ j.engines, rd t R.VID_STAT_BUSY v = 0 ∧ rd t R.VID_STAT_PAUSED v = 1) ∧
      rd t R.VID_PREEMPT_CNT (j.engines.headD 0) = min (rd s R.VID_PREEMPT_CNT (j.engines.headD 0) + 1) (2 ^ 32 - 1) ∧
      (∀ a, (a < vpar s c 32 8 ∨ vpar s c 32 8 + 2 ^ 20 ≤ a) → tget 0 t.mem.cells a = tget 0 s.mem.cells a) ∧
      SameBut (pages [21] ++ [.free, .bytes, .memory, .video]) s t))) ∧
  (∀ c r s, s.vid.jobs.find? (fun j => j.ctx = c && j.st = 1) = none →
    exec (.preemption c) s = .next s ∧ exec (.videoJobEnd c r) s = .next s) ∧
  (∀ c j r s, s.vid.jobs.find? (fun j => j.ctx = c && j.st = 1) = some j → r.env = {} → waitsReRead s (.codec c) = false →
    let v := j.engines.headD 0
    (j.encode = false → j.op = 1 →
      (rangePoison s (vpar s c 24 8) j.length = true → ∃ u d, exec (.videoJobEnd c r) s = .next (endJob u j j.inSegs .memPoison d) ∧
        u.mem = s.mem ∧ SameBut [.page 21] s u) ∧
      (rangePoison s (vpar s c 24 8) j.length = false → (r.parses = false ∨ (vctx s c).fresh = true ∧ r.newSeq = false) →
        ∃ u d, exec (.videoJobEnd c r) s = .next (endJob u j j.inSegs .vidStreamError d) ∧ u.mem = s.mem ∧
          rd u R.VID_STREAM_ERR_CNT v = min (rd s R.VID_STREAM_ERR_CNT v + 1) (2 ^ 32 - 1) ∧
          rd u (hIrqRaw 21 Irq.VID_STREAM_ERROR) v = 1) ∧
      (∀ p b, rangePoison s (vpar s c 24 8) j.length = false → r.parses = true → r.newSeq = true → r.unsupported = false →
        (if vpar s c 0 1 % 4 = 2 then 8 else r.dpb) + 1 ≤ vpar s c 3 1 → r.pics = [p] → p.width ≤ vpar s c 4 2 →
        p.height ≤ vpar s c 6 2 → p.lost = [] → p.outs = [] → p.drop = [] → p.ref = true → chooseBuf s c = some (b, false) → b < 64 →
        ∃ u d, exec (.videoJobEnd c r) s = .next (endJob u j j.inSegs .ok d) ∧
          u.mem = (memWrite s (bufAddr s c b) (p.data.take (vpar s c 16 4))).mem ∧ marked (rd u R.VID_CTX_REF 0 c) b = true ∧
          d.width = p.width ∧ d.height = p.height ∧ d.bytes = r.used ∧ SameBut [.page 21, .bytes, .memory, .video] s u)) ∧
    (j.encode = false → j.op = 2 → ∃ u d, exec (.videoJobEnd c r) s = .next (endJob u j 0 .ok d) ∧
      (∀ b < 64, marked (rd u R.VID_CTX_REF 0 c) b = false) ∧ (vctx u c).fresh = true ∧ d.outs = r.outs.take 4 ∧
      SameBut [.page 21, .video] s u) ∧
    (j.encode = true → j.op = 1 → j.ctx = c →
      let n := planeBytes (vpar s c 4 2) (vpar s c 6 2) (bitsOf (vpar s c 0 1) 5 1 = 1) (bitsOf (vpar s c 0 1) 4 1 = 1)
      (∀ st, accessFail s j.tenant j.src n = some st → ∃ u d, exec (.videoJobEnd c r) s = .next (endJob u j 0 st d) ∧
        SameBut [.page 21] s u) ∧
      (accessFail s j.tenant j.src n = none → rangePoison s j.src n = true →
        ∃ u d, exec (.videoJobEnd c r) s = .next (endJob u j 0 .memPoison d) ∧ SameBut [.page 21] s u) ∧
      (∀ p, accessFail s j.tenant j.src n = none → rangePoison s j.src n = false → r.coded = [p] → tenSeals s j.tenant = false →
        let bs := (p.bytes.take (outBound (vpar s c 4 2) (vpar s c 6 2) (bitsOf (vpar s c 0 1) 5 1 = 1))).take j.cap
        bs ≠ [] → ∃ u d, exec (.videoJobEnd c r) s = .next (endJob u j 0 .ok d) ∧ d.bytes = bs.length ∧
          u.out = .hostWrite j.out bs :: s.out ∧ (mustKey s j = true → d.flags / 8 % 2 = 1) ∧ u.mem = s.mem))) ∧
  (∀ j n st d s, let t := endJob s j n st d
    (∀ x ∈ t.vid.jobs, x.serial ≠ j.serial) ∧ (j.st = 1 → ∀ v ∈ j.engines, rd t R.VID_STAT_BUSY v = 0)) ∧
  (∀ q r s, running s q 0x12 = some r →
    (∀ st, preCheck s r = some st → ∃ u, exec (.vidPre q) s = .next (finishCmd u q st 0) ∧
      rd u R.VPRE_ERR_CNT = min (rd s R.VPRE_ERR_CNT + 1) (2 ^ 32 - 1) ∧ u.vid = s.vid ∧ u.mem = s.mem) ∧
    (preCheck s r = none → Ends (.vidPre q) s (fun t => (∃ x, t.vid.pre = s.vid.pre ++ [x] ∧ x.serial = s.vid.serial ∧ x.queue = q ∧
      x.tenant = fieldAt r.sub.bytes 16 1 ∧ x.entry = r.sub.bytes) ∧ (queue t q).run = some { r with busy := true } ∧
      SameBut [.host, .video] s t))) ∧
  (∀ s, (s.vid.preRun.isSome = true ∨ dom s 392 ≠ 0 ∨ admissionsStopped s = true ∨ s.vid.pre = []) → exec .vpreJobStart s = .next s) ∧
  (∀ j l s, s.vid.preRun = none → dom s 392 = 0 → s.boot.preset ≠ some 392 → admissionsStopped s = false → s.vid.pre = j :: l →
    (j.live = true ∨ ∀ x ∈ l, x.live = false) → Ends .vpreJobStart s (fun t => t.vid = { s.vid with preRun := some j.serial } ∧
      rd t R.VPRE_STAT_BUSY = 1 ∧ rd t R.VPRE_STAT_TENANT = j.tenant % 2 ^ 8 ∧ SameBut (pages [22] ++ [.video]) s t)) ∧
  (∀ steps j s, s.vid.pre.find? (fun j => s.vid.preRun = some j.serial) = some j → waitsReRead s .vpre = false →
    fieldAt j.entry 19 1 = 1 →
    let bad := [(fieldAt j.entry 32 8, preSource j.entry), (fieldAt j.entry 40 8, 8), (fieldAt j.entry 56 8, 24)].any
      (fun x => rangePoison s x.1 x.2)
    (bad = true → ∃ u, exec (.vpreJobEnd steps {}) s = .next (finishCmd u j.queue .memPoison 0) ∧ u.vid.preRun = none ∧
      rd u R.VPRE_STAT_BUSY = 0 ∧ SameBut [.page 22, .video] s u) ∧
    (bad = false → ∃ u, exec (.vpreJobEnd steps {}) s = .next (finishCmd u j.queue .ok 0) ∧ u.vid.preRun = none ∧
      rd u R.VPRE_STAT_BUSY = 0 ∧ rd u R.VPRE_JOBS = min (rd s R.VPRE_JOBS + 1) (2 ^ 32 - 1) ∧
      u.mem = (memWrite s (fieldAt j.entry 48 8) (cropTensor s j.entry 0)).mem ∧ SameBut [.page 22, .bytes, .memory, .video] s u)) ∧
  (∀ steps env s, s.vid.preRun = none → exec (.vpreJobEnd steps env) s = .next s)

/-! ## The event recorder and the two-bank store (chapter 18) -/

/-- R439, R443, R445 to R447, R449, R450. Choices of the model in it: log entry 67. -/
def Obligations.EventRecorder : Prop :=
  (∀ ty i code sev tenant detail s, (i < pageCount ty ∨ ty = 63) → sev ≤ 3 → code < 65536 → tenant < 256 → s.boot.fatal = false →
    let e := mkRec s ty i code sev tenant detail
    let c := Instr.eventRecord ty i code sev tenant detail
    (e.first = s.rtc ∧ e.count = 1 ∧ e.source = 1024 * ty + i ∧ e.code = code ∧ e.severity = sev ∧ e.detail = detail) ∧
    ((isFrozen s = true ∨ isFlushing s = true) → s.evr.hold.length < 1024 →
      Ends c s (fun t => t.evr = { s.evr with hold := s.evr.hold ++ [e] } ∧ SameBut [.recorder] s t)) ∧
    ((isFrozen s = true ∨ isFlushing s = true) → 1024 ≤ s.evr.hold.length →
      Ends c s (fun t => rd t R.EVR_HOLD_DROP_CNT = min (rd s R.EVR_HOLD_DROP_CNT + 1) (2 ^ 32 - 1) ∧
        rd t (hIrqRaw 23 Irq.EVR_DROP) 0 = 1 ∧ SameBut [.page 23, .out] s t))) ∧
  (∀ ty i code sev tenant detail s, (¬(i < pageCount ty ∨ ty = 63) ∨ 4 < sev ∨ 65536 ≤ code ∨ 256 ≤ tenant) →
    exec (.eventRecord ty i code sev tenant detail) s = .next s) ∧
  (∀ ty i code tenant detail s, (i < pageCount ty ∨ ty = 63) → code < 65536 → tenant < 256 → rd s R.BOOT_CFG_FATAL_ACTION = 0 →
    Ends (.eventRecord ty i code 4 tenant detail) s (fun t => isFrozen t = false ∧ t.boot.fatal = false ∧
      (t.evr.flush.isSome = true ∨ rd t R.NVS_STAT_SEQ_END = 1) ∧ SameBut recorded s t)) ∧
  (∀ w s, Writable s w 23 0 → Ends (.rtcSet w) s (fun t => t.evr.rtcSet = some (rd s R.EVR_RTC_SET) ∧ t.rtc = s.rtc)) ∧
  (∀ w s, pageServed s 23 0 = true →
    (isFrozen s = false → Ends (.freeze w) s (fun t => isFrozen t = true ∧ t.evr.frozenAt = s.now ∧ rd t R.EVR_STAT_COPIED = 0 ∧
      (rd s R.BOOT_STAT_RECOVERY = 0 → (owned s 0 (rd s R.EVR_DUMP_BASE) 4456448 = true → t.evr.copying = true) ∧
        (owned s 0 (rd s R.EVR_DUMP_BASE) 4456448 = false → t.evr.copying = s.evr.copying ∧
          rd t (hErrStatus 23) 0 = statusValue .memUnowned)))) ∧
    (isFrozen s = true → Ends (.freeze w) s (fun t => isFrozen t = true ∧ t.evr.frozenAt = s.evr.frozenAt ∧
      t.evr.copying = s.evr.copying)) ∧
    Ends (.unfreeze w) s (fun t => isFrozen t = false ∧ (isFrozen s = true → t.evr.copying = false ∧
      (isFlushing s = false → t.evr.hold = [])))) ∧
  (∀ s, (isFrozen s = true → Ends .freezeExpiry s (fun t => isFrozen t = false ∧ t.now = max s.now (s.evr.frozenAt + 10000000000) ∧
      rd t (hIrqRaw 23 Irq.EVR_FREEZE_EXPIRED) 0 = 1 ∧ SameBut (recorded ++ [.now]) s t)) ∧
    (isFrozen s = false → exec .freezeExpiry s = .next s)) ∧
  (∀ s, (s.evr.copying = true → rd s R.BOOT_STAT_RECOVERY = 0 → Ends .freezeCopyDone s (fun t =>
      t.mem = (memWrite s (rd s R.EVR_DUMP_BASE) (freezeBytes s)).mem ∧ t.evr = { s.evr with copying := false } ∧
      rd t R.EVR_STAT_COPIED = 1 ∧ SameBut (pages [23] ++ [.free, .recorder, .bytes, .memory, .out]) s t)) ∧
    (s.evr.copying = false → exec .freezeCopyDone s = .next s)) ∧
  (∀ w s, Writable s w 23 0 →
    (isFrozen s = false → Ends (.clearMetrics w) s (fun t => ∀ m, metric t m = { metric s m with hist := [], low := none, high := none })) ∧
    (isFrozen s = true → Ends (.clearMetrics w) s (fun t => ∀ m, metric t m = metric s m))) ∧
  (∀ w v s, pageServed s 23 0 = true → let m := rd s R.EVR_MET_SEL
    (isFrozen s = false → Ends (.metricConfigWrite w false v) s (fun t => rd t R.EVR_MET_LOW 0 m = v % 2 ^ 32 ∧
      (metric t m).hist = (if v % 2 ^ 32 = rd s R.EVR_MET_LOW 0 m then (metric s m).hist else []) ∧
      (∀ k, k ≠ m → metric t k = metric s k))) ∧
    (∀ cfg, isFrozen s = true → Ends (.metricConfigWrite w cfg v) s (fun t => rd t R.EVR_MET_LOW 0 m = rd s R.EVR_MET_LOW 0 m ∧
      t.evr = s.evr ∧ rd t (hErrStatus 23) 0 = statusValue .evrFrozen ∧ SameBut [.page 23] s t))) ∧
  (∀ m s, isFrozen s = false → m < 1024 → Ends (.metricIntervalEnd m) s (fun t =>
    t.rtc = max s.rtc ((metric s m).start + 32768 * rd s R.EVR_MET_CFG_INTERVAL 0 m) ∧
    metric t m = { metric s m with lastSum := (metric s m).sum, lastCnt := (metric s m).cnt, sum := 0, cnt := 0, start := t.rtc } ∧
    (∀ k, k ≠ m → metric t k = metric s k) ∧ SameBut [.rtc, .recorder] s t)) ∧
  (∀ m s, (isFrozen s = true ∨ 1024 ≤ m) → exec (.metricIntervalEnd m) s = .next s) ∧
  (∀ s, Ends .metricCountSecond s (fun t => (∀ i < 32, tget 0 t.evr.counted (49 + i) = rd s R.MEMC_CE_CNT i) ∧
    (∀ p < 8, tget 0 t.evr.counted (81 + p) = rd s R.WAG_REPLAY_CNT p) ∧
    (∀ i < 40, (metric t (49 + i)).cnt = (if isFrozen s = true then (metric s (49 + i)).cnt else
      min ((metric s (49 + i)).cnt + 1) 0xFFFFFFFF)) ∧ t.evr.store = s.evr.store ∧ SameBut [.recorder] s t))

/-- R442 and R444, at the moment a record is applied. -/
def Obligations.EventStore : Prop :=
  (∀ r e : Rec, isRepeat r e = true ↔ (r.source = e.source ∧ r.code = e.code ∧ r.tenant = e.tenant ∧ r.tagged = e.tagged ∧
    r.tempBand = e.tempBand ∧ r.paceBand = e.paceBand ∧ r.loadPat = e.loadPat ∧ r.detail = e.detail)) ∧
  (∀ ty i code sev tenant detail s, (i < pageCount ty ∨ ty = 63) → sev ≤ 4 → code < 65536 → tenant < 256 →
    ((sev ≤ 3 ∧ s.boot.fatal = false) ∨ rd s R.BOOT_CFG_FATAL_ACTION = 0) → isFrozen s = false → isFlushing s = false →
    let e := mkRec s ty i code sev tenant detail
    let latest := fun (r : Rec) => r.serial + 1 = tget 0 s.evr.latest (1024 * ty + i)
    let lower := fun (r : Rec) => r.severity ≤ sev ∧ r.severity ≠ 4
    ((∃ r ∈ s.evr.store, latest r ∧ isRepeat r e = true) →
      Ends (.eventRecord ty i code sev tenant detail) s (fun t =>
        t.evr.store.length = s.evr.store.length ∧ t.evr.serial = s.evr.serial ∧ t.evr.latest = s.evr.latest ∧
        (∀ (n : Nat) (r : Rec), s.evr.store[n]? = some r → t.evr.store[n]? = some (if latest r then
          { r with last := s.rtc, count := min (r.count + 1) (2 ^ 32 - 1) } else r)) ∧ SameBut recorded s t)) ∧
    ((∀ r ∈ s.evr.store, latest r → isRepeat r e = false) →
      (s.evr.store.length < 65536 → Ends (.eventRecord ty i code sev tenant detail) s (fun t =>
        t.evr.store = s.evr.store ++ [{ e with serial := s.evr.serial }] ∧ t.evr.serial = s.evr.serial + 1 ∧
        tget 0 t.evr.latest (1024 * ty + i) = s.evr.serial + 1 ∧
        rd t R.EVR_STAT_RECORDS = s.evr.store.length + 1 ∧ SameBut recorded s t)) ∧
      (65536 ≤ s.evr.store.length → (∃ r ∈ s.evr.store, lower r) →
        Ends (.eventRecord ty i code sev tenant detail) s (fun t => ∃ (n : Nat) (r : Rec),
          s.evr.store[n]? = some r ∧ lower r ∧ (∀ q ∈ s.evr.store, lower q → r.serial ≤ q.serial) ∧
          t.evr.store = s.evr.store.set n { e with serial := s.evr.serial } ∧ t.evr.serial = s.evr.serial + 1 ∧
          tget 0 t.evr.latest (1024 * ty + i) = s.evr.serial + 1 ∧ SameBut recorded s t)) ∧
      (65536 ≤ s.evr.store.length → (∀ r ∈ s.evr.store, ¬lower r) →
        Ends (.eventRecord ty i code sev tenant detail) s (fun t => t.evr.store = s.evr.store ∧ t.evr.serial = s.evr.serial ∧
          t.evr.latest = s.evr.latest ∧
          (∀ k < 5, rd t (R.EVR_DROP_CNT k) = if k = sev then min (rd s (R.EVR_DROP_CNT k) + 1) (2 ^ 32 - 1)
            else rd s (R.EVR_DROP_CNT k)) ∧
          (∀ r ∈ t.evr.store, r.serial + 1 = tget 0 t.evr.latest (1024 * ty + i) →
            isRepeat r (mkRec t ty i code sev tenant detail) = false) ∧ SameBut recorded s t))))

/-- R448, R449, R454. Choices of the model in it: log entry 68. -/
def Obligations.Flushes : Prop :=
  (∀ w s, pageServed s 23 0 = true → max (bankSeq s.evr.bank0) (bankSeq s.evr.bank1) + 1 < 2 ^ 64 → s.evr.flush = none →
    Ends (.recorderFlush w) s (fun t => ∃ f, t.evr.flush = some f ∧ f.bank = 1 - rd s R.NVS_STAT_CURRENT ∧ f.data.cause = 3 ∧
      f.data.seq = max (bankSeq s.evr.bank0) (bankSeq s.evr.bank1) + 1 ∧ f.data.records = s.evr.store ∧
      f.data.metrics = s.evr.metrics ∧ f.data.merid = s.now ∧ rd t R.NVS_STAT_FLUSHING = 1 ∧ t.evr.bank0 = s.evr.bank0 ∧
      t.evr.bank1 = s.evr.bank1)) ∧
  (∀ w f s, pageServed s 23 0 = true → s.evr.flush = some f →
    Ends (.recorderFlush w) s (fun t => t.evr.flush = some f ∧ t.evr.kept = some (max 3 (s.evr.kept.getD 0)))) ∧
  (∀ s, s.evr.flush = none → max (bankSeq s.evr.bank0) (bankSeq s.evr.bank1) + 1 < 2 ^ 64 →
    Ends .flushPeriodExpiry s (fun t => (∃ f, t.evr.flush = some f ∧ f.bank = 1 - rd s R.NVS_STAT_CURRENT ∧ f.data.cause = 0) ∧
      t.now = max s.now (s.evr.lastEnd + 60000000000 * rd s R.EVR_FLUSH_PERIOD) ∧ SameBut (pages [24] ++ [.now, .recorder]) s t)) ∧
  (∀ s, isFlushing s = true → exec .flushPeriodExpiry s = .next s) ∧
  (∀ us f s, s.evr.flush = some f → Ends (.flushEnd us) s (fun t =>
    (f.bank = 0 → t.evr.bank0 = some f.data ∧ t.evr.bank1 = s.evr.bank1 ∧ rd t R.NVS_STAT_VALID0 = 1) ∧
    (f.bank = 1 → t.evr.bank1 = some f.data ∧ t.evr.bank0 = s.evr.bank0 ∧ rd t R.NVS_STAT_VALID1 = 1) ∧
    rd t R.NVS_STAT_CURRENT = f.bank % 2 ∧ rd t R.NVS_SEQ = f.data.seq % 2 ^ 64 ∧
    rd t R.NVS_FLUSH_CNT = min (rd s R.NVS_FLUSH_CNT + 1) (2 ^ 32 - 1) ∧ rd t (hIrqRaw 24 Irq.NVS_FLUSH_DONE) 0 = 1 ∧
    t.now = max s.now (f.data.merid + 1000 * min us 6200) ∧ SameBut (recorded ++ pages [25] ++ [.now]) s t)) ∧
  (∀ f s, s.evr.flush = some f → f.bank ≤ 1 → Ends .mramWriteError s (fun t =>
    (f.bank = 0 → t.evr.bank0 = none ∧ t.evr.bank1 = s.evr.bank1 ∧ rd t R.NVS_STAT_VALID0 = 0) ∧
    (f.bank = 1 → t.evr.bank1 = none ∧ t.evr.bank0 = s.evr.bank0 ∧ rd t R.NVS_STAT_VALID1 = 0) ∧
    rd t R.NVS_FLUSH_FAIL_CNT = min (rd s R.NVS_FLUSH_FAIL_CNT + 1) (2 ^ 32 - 1) ∧
    rd t (hIrqRaw 24 Irq.NVS_FLUSH_FAIL) 0 = 1 ∧ SameBut (recorded) s t)) ∧
  (∀ us s, s.evr.flush = none → exec (.flushEnd us) s = .next s ∧ exec .mramWriteError s = .next s)

/-! ## Start-up, resets and firmware (chapter 19) -/

/-- R257, R259, R318, R319, R455, R456, R460, R462, R463, R467, R478, R481. Choices of the model in it: log entries 26, 71,
72 and 73. -/
def Obligations.StartUp : Prop :=
  (∀ e clock s, (s.pwr.good = true ∨ s.pwr.fed = false) → exec (.powerGood e clock) s = .next s) ∧
  (∀ e clock s, s.pwr.good = false → s.pwr.fed = true → e.bad0 ≠ 0 → e.bad1 ≠ 0 → s.boot.toRecovery = false →
    (verifies s e 0 = none → Ends (.powerGood e clock) s (fun t => rd t R.BOOT_STAT_STAGE = 4 ∧ rd t R.BOOT_STAT_RUNNING = 0 ∧
      rd t R.BOOT_SLOTS_ACTIVE = 0 ∧ rd t R.SEC_STAT_READY = 1 ∧ rd t R.BOOT_RESET_CAUSE_KIND = 0 ∧ rd t R.BOOT_COLD_CNT = 1 ∧
      t.pwr.good = true ∧ t.boot.lost = true ∧ t.boot.cold = true ∧ t.evr.bank0 = none ∧ t.evr.bank1 = none ∧ t.now = s.now ∧
      (clock = false → t.rtc = 0 ∧ rd t R.EVR_STAT_TIME_Q = 0) ∧ (clock = true → t.rtc = s.rtc) ∧ SameBut (recorded ++ pages [7, 17, 25, 26] ++ [.rtc, .power, .host]) s t)) ∧
    (verifies s e 0 ≠ none → verifies s e 1 ≠ none → verifies s e 2 = none → Ends (.powerGood e clock) s (fun t =>
      rd t R.BOOT_STAT_STAGE = 4 ∧ rd t R.BOOT_STAT_RUNNING = 2 ∧ rd t R.BOOT_STAT_RECOVERY = 1 ∧
      rd t R.BOOT_STAT_RECOVERY_CAUSE = 1 ∧ rd t R.HOST_STAT_RECOVERY = 1)) ∧
    (verifies s e 0 ≠ none → verifies s e 1 ≠ none → verifies s e 2 ≠ none → Ends (.powerGood e clock) s (fun t =>
      rd t R.BOOT_STAT_STAGE = 2 ∧ t.host.perst = none))) ∧
  (∀ id role s, (s.pwr.good = true → s.boot.straps = none → Ends (.strapSample id role) s (fun t => hiveId t = id % 2 ^ 9 ∧
      rd t R.HIVE_ID_ID_CFG = id % 2 ^ 9 ∧ rd t R.HIVE_ROLE_ROLE_CFG = role % 2 ^ 2 ∧ t.boot.straps = some (id % 512, role % 4) ∧
      SameBut (pages [14] ++ [.boot]) s t)) ∧
    ((s.pwr.good = false ∨ s.boot.straps ≠ none) → exec (.strapSample id role) s = .next s)) ∧
  (∀ b s, (rd s R.BOOT_STAT_STAGE ≠ 4 ∨ s.pwr.dusk ≠ none) → exec (.coresReleased b) s = .next s) ∧
  (∀ ok k b s, rd s R.BOOT_STAT_STAGE = 4 → s.pwr.dusk = none → selectedBank s = some (k, b) → s.boot.fatal = false →
    s.pwr.overvolt = false →
    (s.boot.cold = true → b.settings = [] → s.evr.hold = [] → Ends (.coresReleased ok) s (fun t => t.evr.store = b.records ∧
      t.evr.metrics = b.metrics ∧ t.comb.margin = b.margin ∧ t.now = s.now ∧
      rd t R.BOOT_STAT_STAGE = (if rd s R.BOOT_STAT_RECOVERY = 1 then 5 else 6))) ∧
    (s.boot.cold = false → s.boot.settings = [] → Ends (.coresReleased ok) s (fun t => t.evr = s.evr ∧ t.mem = s.mem ∧
      (∀ d < 401, (d < 340 ∨ 372 ≤ d) → dom t d = (if alwaysOff s d = true then 2 else 0)) ∧
      rd t R.BOOT_STAT_STAGE = (if rd s R.BOOT_STAT_RECOVERY = 1 then 5 else 8)))) ∧
  (∀ s, (rd s R.BOOT_STAT_STAGE = 7 → Ends .eccInitDone s (fun t => t.mem = { s.mem with cells := [], poison := [], awaiting := [] } ∧
      rd t R.BOOT_STAT_STAGE = 8 ∧ SameBut [.bytes, .memory, .page 26] s t)) ∧
    (rd s R.BOOT_STAT_STAGE ≠ 7 → exec .eccInitDone s = .next s)) ∧
  (∀ s, rd s R.BOOT_STAT_STAGE = 8 → Ends (.startupSelfTestDone [] []) s (fun t => rd t R.BOOT_STAT_STAGE = 9 ∧
    (∀ n < 272, rd s R.CELL_MAP_STATE n ≠ 3 → rd t R.CELL_TEST_RES_DONE n = 1 ∧ rd t R.CELL_TEST_RES_PASS n = 1) ∧
    (∀ n < 68, rd s R.APIPE_MAP_STATE n ≠ 3 → rd t R.APIPE_TEST_RES_DONE n = 1 ∧ rd t R.APIPE_TEST_RES_PASS n = 1))) ∧
  (∀ l m s, rd s R.BOOT_STAT_STAGE ≠ 8 → exec (.startupSelfTestDone l m) s = .next s) ∧
  (∀ x s, s.host.perst = some x → rd s R.BOOT_STAT_STAGE = 9 → rd s R.BOOT_STAT_RECOVERY ≠ 1 → s.boot.warm = none → s.pwr.dusk = none →
    Ends .startupReady s (fun t => rd t R.HOST_STAT_READY = 1 ∧ t.host.perst = none ∧ rd t R.BOOT_STAT_READY = 1 ∧
      (rd s R.BOOT_STAT_READY = 1 → t.hive = s.hive ∧ SameBut [.page 7, .host] s t) ∧
      (rd s R.BOOT_STAT_READY ≠ 1 → hiveOfOne s = true → hiveState t = 2))) ∧
  (∀ s, (s.host.perst = none ∨ rd s R.BOOT_STAT_STAGE ≠ 9 ∨ rd s R.BOOT_STAT_RECOVERY = 1) → exec .startupReady s = .next s) ∧
  (∀ s, Ends .perstNRelease s (fun t => t.host.inReset = false ∧
    t.host.perst = (if 4 ≤ rd s R.BOOT_STAT_STAGE ∧ s.pwr.dusk = none then some s.now else s.host.perst) ∧ SameBut [.host] s t)) ∧
  (∀ cut s, ((s.pwr.dusk ≠ none ∨ s.host.inReset = true) → Ends (.perstNAssert cut) s (fun t =>
      t = { s with host := { s.host with inReset := true } })) ∧
    (s.pwr.dusk = none → s.host.inReset = false → rd s R.BOOT_CFG_PERST_SCOPE = 0 → Ends (.perstNAssert cut) s (fun t =>
      t.host.inReset = true ∧ t.host.perst = none ∧ rd t R.HOST_LINK_UP = 0 ∧ rd t R.HOST_STAT_READY = 0 ∧ t.boot.warm = s.boot.warm)) ∧
    (s.pwr.dusk = none → s.host.inReset = false → rd s R.BOOT_CFG_PERST_SCOPE = 1 → s.pwr.good = true → s.boot.warm = none →
      Ends (.perstNAssert cut) s (fun t => t.boot.warm = some s.now ∧ t.boot.cause = 3 ∧ rd t R.HOST_LINK_UP = 0)) ∧
    (s.pwr.dusk = none → s.host.inReset = false → rd s R.BOOT_CFG_PERST_SCOPE = 2 → s.pwr.good = true →
      Ends (.perstNAssert cut) s (fun t => t.boot.cause = 3 ∧ t.pwr.good = false ∧ t.comb = {} ∧ t.now = s.now))) ∧
  (∀ x s, s.host.perst = some x → rd s R.HOST_STAT_READY ≠ 1 → rd s R.BOOT_STAT_RECOVERY ≠ 1 → s.boot.warm = none → s.pwr.dusk = none →
    (rd s R.BOOT_STAT_TRIAL ≠ 1 → Ends .readinessTimeout s (fun t => rd t R.BOOT_STAT_RECOVERY = 1 ∧
      rd t R.BOOT_STAT_RECOVERY_CAUSE = 2 ∧ rd t R.HOST_STAT_RECOVERY = 1 ∧ t.now = max s.now (x + 4000000000) ∧
      rd t (hIrqRaw 26 Irq.BOOT_RECOVERY) 0 = 1 ∧ SameBut (recorded ++ pages [7, 26] ++ [.now]) s t)) ∧
    (rd s R.BOOT_STAT_TRIAL = 1 → rd s R.BOOT_STAT_READY = 0 → s.pwr.good = true → Ends .readinessTimeout s (fun t =>
      t.boot.warm = some t.now ∧ t.boot.cause = 7 ∧ t.boot.trialUp = 1800 ∧ rd t R.BOOT_TRIAL_LEFT = 0 ∧
      SameBut (recorded ++ pages [7, 26] ++ [.now]) s t))) ∧
  (∀ s, (s.host.perst = none ∨ rd s R.HOST_STAT_READY = 1) → exec .readinessTimeout s = .next s)

/-- R456 to R459. Choices of the model in it: log entries 23, 50, 63 and 70. -/
def Obligations.Resets : Prop :=
  (∀ w s, Writable s w 26 0 →
    (s.pwr.good = true → s.pwr.dusk = none → Ends (.cold w) s (fun t => t.boot.cause = 2 ∧ t.pwr.good = false ∧ t.comb = {} ∧
      t.kv = {} ∧ t.now = s.now ∧ rd t R.BOOT_STAT_STAGE = 0)) ∧
    ((s.pwr.good = false ∨ s.pwr.dusk ≠ none) → Ends (.cold w) s (fun t => t.boot.cause = s.boot.cause ∧ t.pwr = s.pwr ∧
      t.comb = s.comb))) ∧
  (∀ w s, Writable s w 26 0 → s.pwr.good = true → s.pwr.dusk = none → s.boot.warm = none →
    Ends (.warm w) s (fun t => t.boot.warm = some s.now ∧ t.boot.cause = 5 ∧ t.boot.toRecovery = false ∧ t.comb = s.comb) ∧
    Ends (.recoveryRequest w) s (fun t => t.boot.warm = some s.now ∧ t.boot.cause = 9 ∧ t.boot.toRecovery = true ∧ t.comb = s.comb)) ∧
  (∀ w x s, Writable s w 26 0 → s.boot.warm = some x → Ends (.warm w) s (fun t => t.boot.warm = some x ∧ t.boot.cause = s.boot.cause)) ∧
  (∀ s, s.pwr.good = true → s.pwr.dusk = none → s.boot.warm = none → Ends .watchdogExpiry s (fun t =>
    t.boot = { s.boot with warm := some s.now, cause := 6, toRecovery := false } ∧ SameBut [.boot] s t)) ∧
  (∀ s, s.boot.warm ≠ none → exec .watchdogExpiry s = .next s) ∧
  (∀ x s, s.boot.warm = some x → s.pwr.dusk = none → launchRuns s = true → Ends .warmWaitExpiry s (fun t => t.boot.cause = 8 ∧
    t.boot.warm = none ∧ t.pwr.good = false ∧ t.comb = {} ∧ t.now = max s.now (x + 1000000 * rd s R.BOOT_CFG_WARM_WAIT))) ∧
  (∀ s, (s.boot.warm = none ∨ launchRuns s = false) → exec .warmWaitExpiry s = .next s) ∧
  (∀ e us cut s, s.boot.warm ≠ none → launchRuns s = false → s.pwr.dusk = none →
    Ends (.warmResetProceed e us cut) s (fun t => t.boot.warm = none ∧ t.boot.cold = false ∧ t.comb.parts = [] ∧ t.comb.cells = [] ∧
      t.comb.slots = [] ∧ t.kv = {} ∧ t.serv = {} ∧ t.wag = {} ∧ rd t R.HOST_LINK_UP = 0 ∧ rd t R.BOOT_RESET_CAUSE_KIND = 1 ∧
      (rd t R.BOOT_STAT_STAGE = 4 ∨ rd t R.BOOT_STAT_STAGE = 2) ∧ (∀ m < 32, dom t (340 + m) = 2))) ∧
  (∀ e us cut s, (s.boot.warm = none ∨ launchRuns s = true ∨ s.pwr.dusk ≠ none) → exec (.warmResetProceed e us cut) s = .next s) ∧
  (∀ w d s, Writable s w 26 0 → d ≤ 401 →
    (rd s R.BOOT_PRESET_STAT_BUSY = 1 → Ends (.partialReset w d) s (fun t => t.boot.preset = s.boot.preset ∧
      rd t (hErrStatus 26) 0 = statusValue .dmaBusy)) ∧
    (∀ st, rd s R.BOOT_PRESET_STAT_BUSY ≠ 1 → presetRefusal s d = some st → Ends (.partialReset w d) s (fun t =>
      t.boot.preset = s.boot.preset ∧ t.pwr = s.pwr ∧ rd t (hErrStatus 26) 0 = statusValue st)) ∧
    (rd s R.BOOT_PRESET_STAT_BUSY ≠ 1 → presetRefusal s d = none → s.pwr.dusk = none → s.boot.warm = none →
      Ends (.partialReset w d) s (fun t => t.boot.preset = some d ∧ rd t R.BOOT_PRESET_STAT_BUSY = 1 ∧
        rd t R.BOOT_PRESET_DOMAIN = d ∧ (presetWaits s d = false → dom t d = 3) ∧
        (∀ k, k ≠ d → dom t k = dom s k)))) ∧
  (∀ s d, (d = 372 ∨ d = 398 ∨ d = 400 ∨ d = 401 → presetRefusal s d = some .fieldReserved) ∧
    (376 ≤ d → d < 393 → presetRefusal s d = none)) ∧
  (∀ d s, s.boot.preset = some d → presetWaits s d = false → d < 393 → Ends .partialResetDone s (fun t => t.boot.preset = none ∧
    rd t R.BOOT_PRESET_STAT_BUSY = 0 ∧ rd t R.BOOT_PRESET_STAT_STATUS = statusValue .ok ∧
    rd t (hIrqRaw 26 Irq.BOOT_PRESET_DONE) 0 = 1 ∧
    dom t d = (if alwaysOff s d = true ∨ 340 ≤ d ∧ d < 372 then 2 else 0) ∧ t.mem = s.mem)) ∧
  (∀ s, (s.boot.preset = none ∨ ∃ d, s.boot.preset = some d ∧ presetWaits s d = true) → exec .partialResetDone s = .next s)

/-- R468 to R472, R476 to R478. Choices of the model in it: log entries 24 and 75. -/
def Obligations.FirmwareStaging : Prop :=
  (∀ w e s, Writable s w 25 0 → rd s R.FWU_CHUNK_SEL_DEVICE = 0 → Ends (.fwuBegin w none e) s (fun t =>
    rd t R.FWU_RESULT_VALID = 1 ∧ rd t R.FWU_RESULT_INDEX = 0x1FF ∧ rd t R.FWU_RESULT_STATUS = statusValue .dmaHostError ∧
    rd t R.FWU_STAT_STATE = rd s R.FWU_STAT_STATE ∧ t.boot.nor = s.boot.nor)) ∧
  (∀ w e m s, Writable s w 25 0 → rd s R.FWU_CHUNK_SEL_DEVICE = 0 → m.length = rd s R.FWU_MAN_LEN → manLen m = m.length →
    manRanges m = true →
    (∀ st, beginCheck s m = some st → Ends (.fwuBegin w (some m) e) s (fun t => rd t R.FWU_RESULT_STATUS = statusValue st ∧
      rd t R.FWU_RESULT_INDEX = 0x1FF ∧ rd t R.FWU_STAT_STATE = rd s R.FWU_STAT_STATE ∧ t.boot.nor = s.boot.nor)) ∧
    (beginCheck s m = none → rd s R.FWU_STAT_STATE = 0 → Ends (.fwuBegin w (some m) e) s (fun t =>
      rd t R.FWU_STAT_STATE = 1 ∧ rd t R.FWU_STAT_TARGET = stagingTarget s e ∧ t.boot.digest = manDigest m ∧
      t.boot.chunks = manChunks m ∧ rd t R.FWU_RESULT_STATUS = statusValue .ok ∧ rd t R.FWU_STAT_STAGED = 0 ∧
      norBytes t (stagingTarget s e) 0 m.length = m))) ∧
  (∀ w data s, Writable s w 25 0 →
    (s.boot.chunk.isSome = true → Ends (.chunkGo w data) s (fun t => t.boot.chunk = s.boot.chunk ∧
      rd t (hErrStatus 25) 0 = statusValue .dmaBusy)) ∧
    (∀ st, s.boot.chunk = none → chunkCheck s (rd s R.FWU_CHUNK_SEL_INDEX) = some st → Ends (.chunkGo w data) s (fun t =>
      t.boot.chunk = none ∧ rd t R.FWU_RESULT_STATUS = statusValue st))) ∧
  (∀ w bs s, Writable s w 25 0 → s.boot.chunk = none → rd s R.FWU_CHUNK_SEL_DEVICE = 0 → let i := rd s R.FWU_CHUNK_SEL_INDEX
    chunkCheck s i = none → bs.length = chunkLen (stagedMan s) i →
    (chunkGood (stagedMan s) i bs = false → Ends (.chunkGo w (some bs)) s (fun t => t.boot.chunk = none ∧
      rd t R.FWU_RESULT_STATUS = statusValue .fwuChunkDigest ∧
      rd t R.FWU_DIGEST_FAIL_CNT = min (rd s R.FWU_DIGEST_FAIL_CNT + 1) (2 ^ 32 - 1))) ∧
    (chunkGood (stagedMan s) i bs = true → bitSet s i = false → Ends (.chunkGo w (some bs)) s (fun t =>
      t.boot.chunk = some (i, bs, false) ∧ t.boot.nor = s.boot.nor))) ∧
  (∀ i bs c s, s.boot.chunk = some (i, bs, c) → i < 511 →
    (bitSet s i = false → Ends (.chunkProgramDone true) s (fun t => t.boot.chunk = none ∧ bitSet t i = true ∧
      rd t R.FWU_STAT_STAGED = (rd s R.FWU_STAT_STAGED + 1) % 2 ^ 9 ∧ rd t R.FWU_RESULT_STATUS = statusValue .ok ∧
      rd t R.FWU_RESULT_INDEX = i ∧
      rd t R.FWU_STAT_STATE = (if (rd s R.FWU_STAT_STAGED + 1) % 2 ^ 9 = s.boot.chunks then 2 else rd s R.FWU_STAT_STATE))) ∧
    Ends (.chunkProgramDone false) s (fun t => t.boot.chunk = none ∧ bitSet t i = bitSet s i ∧
      rd t R.FWU_RESULT_STATUS = statusValue .fwuChunkDigest ∧ rd t R.FWU_STAT_STATE = rd s R.FWU_STAT_STATE)) ∧
  (∀ b s, s.boot.chunk = none → exec (.chunkProgramDone b) s = .next s) ∧
  (∀ w s, Writable s w 25 0 →
    (rd s R.FWU_STAT_STATE = 2 → Ends (.activate w) s (fun t => rd t R.FWU_STAT_STATE = 3 ∧
      rd t R.BOOT_SLOTS_TRIAL = rd s R.FWU_STAT_TARGET % 2 ^ 2 ∧ rd t R.BOOT_SLOTS_TRIAL_BOOTS = 0 ∧ t.boot.trialUp = 0)) ∧
    (rd s R.FWU_STAT_STATE ≠ 2 → Ends (.activate w) s (fun t => rd t R.FWU_STAT_STATE = rd s R.FWU_STAT_STATE ∧
      rd t R.BOOT_SLOTS_TRIAL = rd s R.BOOT_SLOTS_TRIAL ∧ rd t (hErrStatus 25) 0 = statusValue .slotState))) ∧
  (∀ w s, Writable s w 25 0 →
    (rd s R.FWU_STAT_STATE ≠ 0 → Ends (.abort w) s (fun t => rd t R.FWU_STAT_STATE = 0 ∧ t.boot.chunk = none ∧ t.boot.digest = [] ∧
      rd t R.FWU_STAT_STAGED = 0 ∧ (∀ j < 16, rd t (R.FWU_BITMAP j) = 0) ∧
      (∀ k < 65536, norByte t (norAddr (rd s R.FWU_STAT_TARGET) k) = 0xFF))) ∧
    (rd s R.FWU_STAT_STATE = 0 → Ends (.abort w) s (fun t => t.boot.nor = s.boot.nor ∧ rd t R.FWU_STAT_STATE = 0))) ∧
  (∀ w s, Writable s w 25 0 →
    (onTrial s = true → s.boot.warm = none → Ends (.health w) s (fun t => rd t R.BOOT_SLOTS_ACTIVE = rd s R.BOOT_STAT_RUNNING % 2 ^ 2 ∧
      rd t R.BOOT_SLOTS_OTHER_CONFIRMED = 1 ∧ rd t R.BOOT_SLOTS_TRIAL = 3 ∧ rd t R.BOOT_SLOTS_TRIAL_BOOTS = 0 ∧ onTrial t = false ∧
      rd t R.FWU_STAT_STATE = 0 ∧ t.boot.healthOwed = true ∧ t.boot.trialUp = 0)) ∧
    (onTrial s = false → Ends (.health w) s (fun t => rd t R.BOOT_SLOTS_ACTIVE = rd s R.BOOT_SLOTS_ACTIVE ∧
      rd t (hErrStatus 25) 0 = statusValue .slotState))) ∧
  (∀ s, onTrial s = true → s.boot.warm = none → s.pwr.dusk = none → s.pwr.good = true → Ends .trialExpiry s (fun t =>
    t.boot.warm = some s.now ∧ t.boot.cause = 7 ∧ t.boot.trialUp = 1800 ∧ rd t R.BOOT_TRIAL_LEFT = 0 ∧ SameBut (recorded ++ pages [26]) s t)) ∧
  (∀ s, onTrial s = true → Ends .trialFlushTimer s (fun t => t.boot.trialUp = min 1800 (s.boot.trialUp + 60) ∧
    rd t R.BOOT_TRIAL_LEFT = 1800 - min 1800 (s.boot.trialUp + 60) ∧ SameBut (pages [24, 26] ++ [.recorder, .boot]) s t)) ∧
  (∀ s, onTrial s = false → exec .trialExpiry s = .next s ∧ exec .trialFlushTimer s = .next s)

/-- R473 to R475. Choices of the model in it: log entry 76. -/
def Obligations.FirmwareChain : Prop :=
  (∀ m e i bs p id dg bits s, hiveState s ≠ 2 → exec (.chainManifest m e) s = .next s ∧ exec (.chainChunk i bs) s = .next s ∧
    exec (.chainForward p) s = .next s ∧ exec .bitmapReportTimer s = .next s ∧ exec (.bitmapReport p id dg bits) s = .next s) ∧
  (∀ m e s, hiveState s = 2 →
    (rd s R.FWU_CFG_CHAIN_ACCEPT = 0 → Ends (.chainManifest m e) s (fun t => rd t (hIrqRaw 25 Irq.FWU_CHAIN_REFUSED) 0 = 1 ∧
      rd t R.FWU_STAT_STATE = rd s R.FWU_STAT_STATE ∧ t.boot.nor = s.boot.nor)) ∧
    (rd s R.FWU_CFG_CHAIN_ACCEPT ≠ 0 → manRanges m = true → manLen m = m.length →
      (∀ st, beginCheck s m = some st → Ends (.chainManifest m e) s (fun t => rd t (hIrqRaw 25 Irq.FWU_CHAIN_REFUSED) 0 = 1 ∧
        rd t R.FWU_RESULT_STATUS = statusValue st ∧ rd t R.FWU_STAT_STATE = rd s R.FWU_STAT_STATE)) ∧
      (beginCheck s m = none → rd s R.FWU_STAT_STATE = 0 → Ends (.chainManifest m e) s (fun t => rd t R.FWU_STAT_STATE = 1 ∧
        rd t R.FWU_STAT_CHAIN_SOURCE = 1 ∧ t.boot.digest = manDigest m ∧ t.boot.chunks = manChunks m ∧
        norBytes t (stagingTarget s e) 0 m.length = m ∧ SameBut (recorded ++ pages [25, 26] ++ [.links]) s t)))) ∧
  (∀ i bs s, hiveState s = 2 →
    (s.boot.chunk.isSome = true → exec (.chainChunk i bs) s = .next s) ∧
    (s.boot.chunk = none → chunkCheck s i = none → bs.length = chunkLen (stagedMan s) i → chunkGood (stagedMan s) i bs = true →
      bitSet s i = false → Ends (.chainChunk i bs) s (fun t => t.boot = { s.boot with chunk := some (i, bs, true) } ∧
        SameBut [.boot] s t))) ∧
  (∀ p s, forwards s = true → p ∈ childPorts s →
    ((child s p).sentMan = false → Ends (.chainForward p) s (fun t => (child t p).sentMan = true ∧
      (tget [] (port t p).txq 2).map OutMsg.body = (tget [] (port s p).txq 2).map OutMsg.body ++ [.manifest (stagedMan s)] ∧
      SameBut [.links, .boot] s t)) ∧
    (∀ i, (child s p).sentMan = true → nextChunk s (child s p) = some i → Ends (.chainForward p) s (fun t =>
      (child t p).sent = (child s p).sent ++ [i] ∧ (tget [] (port t p).txq 2).map OutMsg.body =
        (tget [] (port s p).txq 2).map OutMsg.body ++
          [.chunk i (norBytes s (rd s R.FWU_STAT_TARGET) (65536 * (i + 1)) (chunkLen (stagedMan s) i))] ∧ SameBut [.links, .boot] s t)) ∧
    ((child s p).sentMan = true → nextChunk s (child s p) = none → exec (.chainForward p) s = .next s)) ∧
  (∀ p s, (forwards s = false ∨ p ∉ childPorts s) → exec (.chainForward p) s = .next s) ∧
  (∀ s, hiveState s = 2 → rd s R.FWU_STAT_STATE ≠ 0 → isQueen s = false → rd s R.WAG_REF_NONE = 0 →
    portUp s (rd s R.WAG_REF_UPSTREAM) = true → Ends .bitmapReportTimer s (fun t =>
      (tget [] (port t (rd s R.WAG_REF_UPSTREAM)).txq 2).map OutMsg.body =
        (tget [] (port s (rd s R.WAG_REF_UPSTREAM)).txq 2).map OutMsg.body ++
          [.bitmap (hiveId s) s.boot.digest ((List.range 16).map (fun j => rd s (R.FWU_BITMAP j)))] ∧
      (∀ p ∈ childPorts s, (child t p).digest = []) ∧ SameBut [.links, .boot] s t)) ∧
  (∀ p id bits s, hiveState s = 2 → isQueen s = true → rd s R.FWU_STAT_STATE ≠ 0 → bitmapFull s bits = true →
    (s.boot.complete.contains id = false → Ends (.bitmapReport p id s.boot.digest bits) s (fun t =>
      t.boot.complete = id :: s.boot.complete ∧ rd t R.FWU_CHAIN_DONE = (s.boot.complete.length + 1) % 2 ^ 10 ∧
      SameBut (pages [25] ++ [.links, .boot]) s t)) ∧
    (s.boot.complete.contains id = true → Ends (.bitmapReport p id s.boot.digest bits) s (fun t =>
      t.boot.complete = s.boot.complete ∧ rd t R.FWU_CHAIN_DONE = rd s R.FWU_CHAIN_DONE))) ∧
  (∀ p id digest bits s, hiveState s = 2 → isQueen s = false → rd s R.WAG_REF_NONE = 0 →
    portUp s (rd s R.WAG_REF_UPSTREAM) = true → Ends (.bitmapReport p id digest bits) s (fun t =>
      (tget [] (port t (rd s R.WAG_REF_UPSTREAM)).txq 2).map OutMsg.body =
        (tget [] (port s (rd s R.WAG_REF_UPSTREAM)).txq 2).map OutMsg.body ++ [.bitmap id digest bits]))

/-! ## Register pages (chapter 20) -/

/-- R483 to R486 and R488 to R491. Choices of the model in it: log entries 15, 17 and 18. -/
def Obligations.Registers : Prop :=
  (∀ ty i v s, ty ≠ 27 → pageThere s ty i = true → v % 2 = 1 → (ty = 26 → bitsOf v 1 1 = 0) →
    Ends (.lock ty i v) s (fun t => rd t (hLocked ty) i = 1 ∧
      (∀ j < pageCount ty, j ≠ i → rd t (hLocked ty) j = rd s (hLocked ty) j) ∧ SameBut [.page ty] s t)) ∧
  (∀ ty i v s, (pageThere s ty i = false ∨ (v % 2 = 0 ∧ (ty = 26 → bitsOf v 1 1 = 0))) → exec (.lock ty i v) s = .next s) ∧
  (∀ s, Ends .lockAll s (fun t => (∀ ty < 27, ∀ i < pageCount ty, rd t (hLocked ty) i = 1) ∧
      SameBut (pages (List.range 27)) s t) ∧ exec .lockAll s = exec (.lock 26 0 2) s) ∧
  (∀ ty i v s, pageThere s ty i = true → Ends (.irqEnWrite ty i v) s (fun t =>
    (∀ n < irqCount ty i, rd t (hIrqEn ty n) i = bitsOf v n 1 ∧ rd t (hIrqRaw ty n) i = rd s (hIrqRaw ty n) i) ∧
    t.out = List.replicate ((List.range (irqCount ty i)).filter (fun n =>
      rd s (hIrqEn ty n) i = 0 && bitsOf v n 1 = 1 && rd s (hIrqRaw ty n) i = 1)).length (.msix (pageFn ty i) 0) ++ s.out ∧
    SameBut [.page ty, .out] s t)) ∧
  (∀ ty i v s, pageThere s ty i = false → exec (.irqEnWrite ty i v) s = .next s) ∧
  (∀ w ty i off bytes v e s, ((bytes ≠ 4 ∨ off % 4 ≠ 0) ∧ (bytes ≠ 8 ∨ off % 8 ≠ 0)) →
    exec (.registerWrite w ty i off bytes v e) s = .next s) ∧
  (∀ w ty i off bytes v e s, (pageThere s ty i = false ∨ 4096 ≤ off) → exec (.registerWrite w ty i off bytes v e) s = .next s) ∧
  (∀ w ty i off v e s t, off % 8 = 0 → v < 2 ^ 64 → exec (.registerWrite w ty i off 4 (v % 2 ^ 32) e) s = .next t →
    exec (.registerWrite w ty i off 8 v e) s = exec (.registerWrite w ty i (off + 4) 4 (v / 2 ^ 32) e) t) ∧
  (∀ w ty i v e s, v < 2 ^ 32 → exec (.registerWrite w ty i 0x014 4 v e) s = exec (.irqEnWrite ty i v) s ∧
    exec (.registerWrite w ty i 0x02C 4 v e) s = exec (.lock ty i v) s) ∧
  (∀ w i v e s, (pageThere s 18 i = true →
      exec (.registerWrite w 18 i 0x100 4 v e) s = exec (.paceFloorWrite w i (v % 2 ^ 16)) s) ∧
    (pageThere s 8 i = true → exec (.registerWrite w 8 i 0x144 4 1 e) s = exec (.dmaGo w i) s)) ∧
  (∀ w v e s, exec (.registerWrite w 19 0 0x108 4 v e) s = .next s) ∧
  (∀ w x b e s, Writable s w 14 0 → 1 ≤ x → x < 2 ^ 24 → b < 256 →
    Ends (.registerWrite w 14 0 0x164 4 (256 * x + b) e) s (fun t => rd t R.HIVE_EXPEL_CFG_WINDOW = x ∧
      rd t R.HIVE_EXPEL_CFG_BUDGET = b ∧ rd t (hErrSeq 14) = rd s (hErrSeq 14) ∧ SameBut (written 14) s t)) ∧
  (∀ w b e s, Writable s w 14 0 → b < 256 → rd s R.HIVE_EXPEL_CFG_WINDOW ≠ 0 →
    Ends (.registerWrite w 14 0 0x164 4 b e) s (fun t => rd t R.HIVE_EXPEL_CFG_WINDOW = rd s R.HIVE_EXPEL_CFG_WINDOW ∧
      rd t R.HIVE_EXPEL_CFG_BUDGET = b ∧ rd t (hErrStatus 14) = statusValue .fieldReserved ∧ rd t (hErrOffset 14) = 0x164 ∧
      rd t (hErrSeq 14) = (rd s (hErrSeq 14) + 1) % 2 ^ 32 ∧ SameBut (written 14) s t)) ∧
  (∀ x b e s, pageServed s 14 0 = true → rd s (hLocked 14) = 1 → x < 2 ^ 24 → b < 256 →
    ((x ≠ rd s R.HIVE_EXPEL_CFG_WINDOW ∨ b ≠ rd s R.HIVE_EXPEL_CFG_BUDGET) →
      Ends (.registerWrite .host 14 0 0x164 4 (256 * x + b) e) s (fun t =>
        rd t R.HIVE_EXPEL_CFG_WINDOW = rd s R.HIVE_EXPEL_CFG_WINDOW ∧ rd t R.HIVE_EXPEL_CFG_BUDGET = rd s R.HIVE_EXPEL_CFG_BUDGET ∧
        rd t (hLockRefused 14) = min (rd s (hLockRefused 14) + 1) (2 ^ 16 - 1) ∧
        rd t (hErrStatus 14) = statusValue .fieldReserved ∧ rd t (hErrOffset 14) = 0x164 ∧
        rd t (hErrSeq 14) = (rd s (hErrSeq 14) + 1) % 2 ^ 32 ∧ SameBut [.page 14] s t)) ∧
    ((x = rd s R.HIVE_EXPEL_CFG_WINDOW ∧ b = rd s R.HIVE_EXPEL_CFG_BUDGET) →
      exec (.registerWrite .host 14 0 0x164 4 (256 * x + b) e) s = .next s)) ∧
  (∀ w v e s, dom s (pageDomain 14 0) ≠ 0 → exec (.registerWrite w 14 0 0x164 4 v e) s = .next s) ∧
  (∀ w v e s, pageServed s 19 0 = true → v ≤ 10000 → Ends (.registerWrite w 19 0 0x118 4 v e) s (fun t =>
    rd t R.PWR_GATE = v ∧ rd t (hErrSeq 19) = rd s (hErrSeq 19) ∧ SameBut (written 19) s t))

/-! ## The module's steps -/

/-- The model's own interface (log entry 2): the commands are taken in the order they wait. -/
def Obligations.StepRunsFront : Prop :=
  ∀ (c : Instr) (r : List Instr) (s : State), step { s with pending := c :: r } = exec c { s with pending := r }

/-- R328 and R439, with log entry 2. -/
def Obligations.IdleStep : Prop :=
  ∀ s, s.pending = [] → ∃ t, step s = .next t ∧ s.now ≤ t.now ∧
    (s.evr.rtcSet = none → t.evr = s.evr ∧ ∃ n, t.rtc = s.rtc ∨ t.rtc = (s.rtc + n) % 2 ^ 64) ∧
    (∀ v, s.evr.rtcSet = some v → (t.rtc = s.rtc ∧ t.evr = s.evr) ∨
      (∃ n, t.rtc = (v + n) % 2 ^ 64) ∧ t.evr = { s.evr with rtcSet := none } ∧ rd t R.EVR_STAT_TIME_Q = 2) ∧
    t.hive = { s.hive with adjust := t.hive.adjust } ∧ t.hive.adjust.natAbs ≤ s.hive.adjust.natAbs ∧
    t.free = s.free + 1 ∧ SameBut [.page 15, .page 23, .now, .rtc, .free, .recorder, .hive] s t

/-- The register tables' reset values; log entries 4 to 6 name those the spec does not give. -/
def Obligations.ResetState : Prop :=
  State.reset.pending = [] ∧ State.reset.mem.cells = [] ∧ memoryOk State.reset = true ∧ State.reset.out = [] ∧
  State.reset.evr.store = [] ∧
  (∀ f i k, rd State.reset f i k = fldReset f i k) ∧
  rd State.reset R.PWR_CAP_CAP_W = 420 ∧ rd State.reset R.PWR_SLEW = 50 ∧ rd State.reset R.PWR_BALLAST_BALLAST_EN = 1 ∧
  rd State.reset R.PWR_GATE = 500 ∧ (∀ die, rd State.reset R.PACE_FLOOR_MIN_RATE die = 1250) ∧
  rd State.reset R.SEC_DRAIN = 100 ∧ (∀ p, rd State.reset R.WAG_REF_NONE p = 1) ∧
  rd State.reset R.HIVE_EXPEL_CFG_WINDOW = 86400 ∧ rd State.reset R.HIVE_EXPEL_CFG_BUDGET = 1 ∧
  (∀ i, rd State.reset R.MEMC_ECC_CTL i = 2) ∧
  (∀ ty i n, rd State.reset (hLocked ty) i = 0 ∧ rd State.reset (hIrqRaw ty n) i = 0 ∧ rd State.reset (hIrqEn ty n) i = 0)

/-- No command of the table is without an effect in the spec. -/
def Obligations.EveryCommandAnswers : Prop :=
  ∀ c s, ∃ t, exec c s = .next t ∧ t.pending = s.pending

/-- Equal memories are equal data, in every state a run can reach (log entry 6). -/
def Obligations.MemoryKept : Prop :=
  ∀ s t, memoryOk s = true → step s = .next t → memoryOk t = true
end

