-- ==== Sys2Proof/Laws/Table.lean ====
section
/-!
SUPPORT. The laws of sparse tables: a read after a write, and that every operation keeps the canonical form.
-/

namespace Sys2Proof.Machine

variable {α : Type}

@[simp] theorem tget_nil (d : α) (k : Nat) : tget d [] k = d := rfl

theorem tget_tput (d : α) (k k' : Nat) (v : α) (t : Tbl α) :
    tget d (tput k v t) k' = if k' = k then v else tget d t k' := by
  induction t with
  | nil => simp [tput, tget]
  | cons e t ih =>
    obtain ⟨a, b⟩ := e
    simp only [tput]
    split
    · simp only [tget]
    · split
      · subst_vars; simp only [tget]; split <;> rfl
      · simp only [tget, ih]; split
        · subst_vars; rw [if_neg]; omega
        · rfl

theorem tget_filter (d : α) (p : Nat → Bool) (t : Tbl α) (k : Nat) :
    tget d (t.filter (fun e => p e.1)) k = if p k = true then tget d t k else d := by
  induction t with
  | nil => simp
  | cons e t ih =>
    obtain ⟨a, b⟩ := e
    by_cases h : p a = true
    · rw [List.filter_cons_of_pos (by simpa using h)]
      simp only [tget, ih]; by_cases hk : k = a
      · subst hk; simp [h]
      · simp [hk]
    · rw [List.filter_cons_of_neg (by simpa using h), ih]
      simp only [tget]; by_cases hk : k = a
      · subst hk; simp [h]
      · simp [hk]

theorem tget_tdel (d : α) (k k' : Nat) (t : Tbl α) : tget d (tdel k t) k' = if k' = k then d else tget d t k' := by
  have h := tget_filter d (fun a => decide (a ≠ k)) t k'
  simp only [tdel]
  by_cases hk : k' = k <;> simp_all

/-- A read after a write: the value written at its key, and every other key as it was. -/
theorem tget_tset [DecidableEq α] (d : α) (k k' : Nat) (v : α) (t : Tbl α) :
    tget d (tset d k v t) k' = if k' = k then v else tget d t k' := by
  unfold tset
  split
  · rw [tget_tdel]; subst_vars; rfl
  · rw [tget_tput]

@[simp] theorem tget_tset_same [DecidableEq α] (d : α) (k : Nat) (v : α) (t : Tbl α) : tget d (tset d k v t) k = v := by
  rw [tget_tset, if_pos rfl]

/-- A write leaves every other key alone, whatever default the read takes. -/
theorem tget_tset_ne [DecidableEq α] (d d' : α) {k k' : Nat} (h : k' ≠ k) (v : α) (t : Tbl α) :
    tget d' (tset d k v t) k' = tget d' t k' := by
  unfold tset
  split
  · rw [tget_tdel, if_neg h]
  · rw [tget_tput, if_neg h]

/-- The canonical form, as a pairwise order and a condition on each entry. -/
theorem twf_iff [DecidableEq α] (d : α) (t : Tbl α) :
    twf d t = true ↔ (t.Pairwise (fun a b => a.1 < b.1) ∧ ∀ e ∈ t, e.2 ≠ d) := by
  induction t with
  | nil => simp [twf]
  | cons e t ih =>
    obtain ⟨a, b⟩ := e
    cases t with
    | nil => simp [twf]
    | cons e' t =>
      obtain ⟨a', b'⟩ := e'
      simp only [twf, Bool.and_eq_true, decide_eq_true_eq, ih, List.pairwise_cons, List.mem_cons, forall_eq_or_imp,
        ne_eq, decide_not, Bool.not_eq_true', decide_eq_false_iff_not]
      constructor
      · rintro ⟨⟨h1, h2⟩, ⟨h3, h4⟩, h5, h6⟩
        exact ⟨⟨⟨h2, fun x hx => lt_trans h2 (h3 x hx)⟩, h3, h4⟩, h1, h5, h6⟩
      · rintro ⟨⟨⟨h2, -⟩, h3, h4⟩, h1, h5, h6⟩
        exact ⟨⟨h1, h2⟩, ⟨h3, h4⟩, h5, h6⟩

theorem mem_tput {k : Nat} {v : α} {t : Tbl α} {e : Nat × α} (h : e ∈ tput k v t) : e = (k, v) ∨ e ∈ t := by
  induction t with
  | nil => simpa [tput] using h
  | cons x t ih =>
    obtain ⟨a, b⟩ := x
    simp only [tput] at h
    split at h
    · simpa using h
    · split at h
      · rcases List.mem_cons.1 h with h | h
        · exact .inl h
        · exact .inr (List.mem_cons_of_mem _ h)
      · rcases List.mem_cons.1 h with h | h
        · exact .inr (by simp [h])
        · rcases ih h with h | h
          · exact .inl h
          · exact .inr (List.mem_cons_of_mem _ h)

theorem pairwise_tput {k : Nat} {v : α} {t : Tbl α} (h : t.Pairwise (fun a b => a.1 < b.1)) :
    (tput k v t).Pairwise (fun a b => a.1 < b.1) := by
  induction t with
  | nil => simp [tput]
  | cons x t ih =>
    obtain ⟨a, b⟩ := x
    simp only [tput]
    rw [List.pairwise_cons] at h
    split
    · rename_i hk
      exact List.pairwise_cons.2 ⟨fun y hy => by
        rcases List.mem_cons.1 hy with rfl | hy
        · exact hk
        · exact lt_trans hk (h.1 y hy), List.pairwise_cons.2 h⟩
    · split
      · subst_vars; exact List.pairwise_cons.2 h
      · refine List.pairwise_cons.2 ⟨fun y hy => ?_, ih h.2⟩
        rcases mem_tput hy with rfl | hy
        · show a < k; omega
        · exact h.1 y hy

theorem twf_filter [DecidableEq α] {d : α} {t : Tbl α} (p : Nat × α → Bool) (h : twf d t = true) :
    twf d (t.filter p) = true := by
  rw [twf_iff] at h ⊢
  exact ⟨h.1.filter p, fun e he => h.2 e (List.mem_of_mem_filter he)⟩

/-- A write keeps the canonical form. -/
theorem twf_tset [DecidableEq α] {d : α} {t : Tbl α} (k : Nat) (v : α) (h : twf d t = true) :
    twf d (tset d k v t) = true := by
  unfold tset
  split
  · exact twf_filter _ h
  · rename_i hv
    rw [twf_iff] at h ⊢
    refine ⟨pairwise_tput h.1, fun e he => ?_⟩
    rcases mem_tput he with rfl | he
    · exact hv
    · exact h.2 e he

theorem twf_tclear [DecidableEq α] {d : α} {t : Tbl α} (lo hi : Nat) (h : twf d t = true) :
    twf d (tclear lo hi t) = true := twf_filter _ h

/-- After a range is cleared, its keys read as the default, and every other key as before. -/
theorem tget_tclear (d : α) (lo hi k : Nat) (t : Tbl α) :
    tget d (tclear lo hi t) k = if lo ≤ k ∧ k < hi then d else tget d t k := by
  have h := tget_filter d (fun a => decide (a < lo) || decide (hi ≤ a)) t k
  simp only [tclear]
  rw [h]
  by_cases h1 : k < lo <;> by_cases h2 : hi ≤ k <;> simp [h1, h2]

end Sys2Proof.Machine
end

