-- ==== Sys2Proof/Laws/Touch.lean ====
section
/-!
SUPPORT. What an operation may touch. `Touches m s t` says that `t` differs from `s` in nothing but the parts whose bits `m` names,
that the queue of commands is the same, and that the canonical form of device memory is kept. One lemma for each way of making a
state; the files `Laws/Frame….lean` then say it of every operation.
-/

namespace Sys2Proof.Laws

open Sys2Proof.Machine Sys2Proof.Safety

/-- Device memory at reset, with nothing listed, is in its canonical form. -/
theorem memoryOk_reset : memoryOk State.reset = true := rfl

/-- The bit of a part of the state in a mask. -/
def bit : Comp → Nat
  | .page ty => 32 + ty
  | .now => 0
  | .rtc => 1
  | .free => 2
  | .recorder => 4
  | .power => 5
  | .clocks => 6
  | .bytes => 7
  | .memory => 8
  | .kv => 9
  | .host => 10
  | .links => 11
  | .hive => 12
  | .serving => 13
  | .twin => 14
  | .video => 15
  | .security => 16
  | .boot => 17
  | .out => 18
  | .governors => 20
  | .margins => 21
  | .cells => 22
  | .pipes => 23
  | .parts => 24
  | .slots => 25
  | .retiring => 26

/-- `t` differs from `s` only in the parts that `m` names, and keeps the memory's form. -/
def Touches (m : Nat) (s t : State) : Prop :=
  t.pending = s.pending ∧ (memoryOk s = true → memoryOk t = true) ∧ ∀ c, m.testBit (bit c) = false → Same c s t

theorem Same.refl (c : Comp) (s : State) : Same c s s := by cases c <;> simp [Same]

theorem Same.trans {c : Comp} {s t u : State} (h : Same c s t) (k : Same c t u) : Same c s u := by
  cases c
  case page ty => exact fun a d ha => (k a d ha).trans (h a d ha)
  case retiring =>
    exact ⟨k.1.trans h.1, k.2.1.trans h.2.1, k.2.2.1.trans h.2.2.1, k.2.2.2.trans h.2.2.2⟩
  all_goals exact Eq.trans k h

namespace Touches

variable {m : Nat} {s t u : State}

theorem refl (m : Nat) (s : State) : Touches m s s := ⟨rfl, id, fun c _ => Same.refl c s⟩

theorem trans (h : Touches m s t) (k : Touches m t u) : Touches m s u :=
  ⟨k.1.trans h.1, fun hm => k.2.1 (h.2.1 hm), fun c hc => Same.trans (h.2.2 c hc) (k.2.2 c hc)⟩

/-- A bit of an operation's own mask is one of `m`. -/
theorem has {M m b : Nat} (hm : M &&& m = M) (hb : M.testBit b = true) : m.testBit b = true := by
  rw [← hm, Nat.testBit_and, Bool.and_eq_true] at hb
  exact hb.2

/-- A mask within an operation's own mask is within `m`. -/
theorem inc {M m k : Nat} (hm : M &&& m = M) (hk : k &&& M = k) : k &&& m = k := by
  rw [← hk, Nat.and_assoc, hm]

/-- A mask that names every page names the page of any field. -/
theorem anyPage {M m : Nat} (hm : M &&& m = M) (hM : M >>> 32 = 2 ^ 32 - 1) (n : Nat) : m.testBit (32 + n % 32) = true := by
  refine has hm ?_
  have h : (M >>> 32).testBit (n % 32) = true := by
    rw [hM, Nat.testBit_two_pow_sub_one]
    exact decide_eq_true (Nat.mod_lt _ (by decide))
  rwa [Nat.testBit_shiftRight] at h

theorem mono {M : Nat} (h : Touches M s t) (hm : M &&& m = M) : Touches m s t :=
  ⟨h.1, h.2.1, fun c hc => h.2.2 c (by
    by_contra hk
    rw [Bool.not_eq_false] at hk
    rw [has hm hk] at hc
    cases hc)⟩

theorem ite {c : Prop} {inst : Decidable c} {a b : State} (ha : Touches m s a) (hb : Touches m s b) :
    Touches m s (if c then a else b) := by split <;> assumption

/-- A choice under a view of the result: the first of a pair, or the state that an outcome holds. -/
theorem iteV {α : Type} (v : α → State) {c : Prop} {inst : Decidable c} {a b : α} (ha : Touches m s (v a)) (hb : Touches m s (v b)) :
    Touches m s (v (if c then a else b)) := by split <;> assumption

theorem foldl {α : Type} {f : State → α → State} {l : List α} (h : Touches m s t) (hf : ∀ u x, Touches m u (f u x)) :
    Touches m s (l.foldl f t) := by
  induction l generalizing t with
  | nil => exact h
  | cons x l ih => exact ih (h.trans (hf t x))

theorem foldlV {α β : Type} {f : State × β → α → State × β} {l : List α} {p : State × β} (h : Touches m s p.1)
    (hf : ∀ u b x, Touches m u (f (u, b) x).1) : Touches m s (l.foldl f p).1 := by
  induction l generalizing p with
  | nil => exact h
  | cons x l ih => exact ih (h.trans (hf p.1 p.2 x))

/-- A step that changes one part. -/
theorem part {b : Nat} (h : Touches m s t) (hb : m.testBit b = true) (hp : u.pending = t.pending) (hw : memoryOk t = true → memoryOk u = true)
    (hs : ∀ c, bit c ≠ b → Same c t u) : Touches m s u :=
  h.trans ⟨hp, hw, fun c hc => hs c (fun he => by rw [he, hb] at hc; cases hc)⟩

/-- The state that an optional result holds, or else `s`. -/
abbrev optS (s : State) (o : Option State) : State := o.getD s
/-- The state that an optional pair holds, or else `s`. -/
def optP {α : Type} (s : State) : Option (State × α) → State
  | some p => p.1
  | none => s
/-- The state that a checked result holds, or else `s`. -/
def okS {ε : Type} (s : State) : Except ε State → State
  | .ok t => t
  | .error _ => s
/-- The state that an outcome holds, or else `s`. -/
def outS (s : State) : Host.Outcome State Fault Refusal → State
  | .next t => t
  | _ => s

theorem someI (h : Touches m s t) : Touches m s (optS u (some t)) := h

theorem someP {α : Type} {p : State × α} (h : Touches m s p.1) : Touches m s (optP u (some p)) := h

theorem okI {ε : Type} (h : Touches m s t) : Touches m s (okS (ε := ε) u (.ok t)) := h

theorem nextI (h : Touches m s t) : Touches m s (outS u (.next t)) := h

theorem mkI {α : Type} {a : α} (h : Touches m s t) : Touches m s (t, a).1 := h

theorem getD {o : Option State} (h : Touches m s t) (ho : Touches m s t → Touches m s (optS t o)) :
    Touches m s (o.getD t) := ho h

theorem now {x} (hb : m.testBit 0 = true) (h : Touches m s t) : Touches m s { t with now := x } :=
  part h hb rfl id (by
    intro c hc
    cases c <;> first | rfl | exact ⟨rfl, rfl, rfl, rfl⟩ | exact fun _ _ _ => rfl | exact absurd rfl hc)

theorem rtc {x} (hb : m.testBit 1 = true) (h : Touches m s t) : Touches m s { t with rtc := x } :=
  part h hb rfl id (by
    intro c hc
    cases c <;> first | rfl | exact ⟨rfl, rfl, rfl, rfl⟩ | exact fun _ _ _ => rfl | exact absurd rfl hc)

theorem free {x} (hb : m.testBit 2 = true) (h : Touches m s t) : Touches m s { t with free := x } :=
  part h hb rfl id (by
    intro c hc
    cases c <;> first | rfl | exact ⟨rfl, rfl, rfl, rfl⟩ | exact fun _ _ _ => rfl | exact absurd rfl hc)

theorem recorder {x} (hb : m.testBit 4 = true) (h : Touches m s t) : Touches m s { t with evr := x } :=
  part h hb rfl id (by
    intro c hc
    cases c <;> first | rfl | exact ⟨rfl, rfl, rfl, rfl⟩ | exact fun _ _ _ => rfl | exact absurd rfl hc)

theorem power {x} (hb : m.testBit 5 = true) (h : Touches m s t) : Touches m s { t with pwr := x } :=
  part h hb rfl id (by
    intro c hc
    cases c <;> first | rfl | exact ⟨rfl, rfl, rfl, rfl⟩ | exact fun _ _ _ => rfl | exact absurd rfl hc)

theorem clocks {x} (hb : m.testBit 6 = true) (h : Touches m s t) : Touches m s { t with clk := x } :=
  part h hb rfl id (by
    intro c hc
    cases c <;> first | rfl | exact ⟨rfl, rfl, rfl, rfl⟩ | exact fun _ _ _ => rfl | exact absurd rfl hc)

theorem kv {x} (hb : m.testBit 9 = true) (h : Touches m s t) : Touches m s { t with kv := x } :=
  part h hb rfl id (by
    intro c hc
    cases c <;> first | rfl | exact ⟨rfl, rfl, rfl, rfl⟩ | exact fun _ _ _ => rfl | exact absurd rfl hc)

theorem host {x} (hb : m.testBit 10 = true) (h : Touches m s t) : Touches m s { t with host := x } :=
  part h hb rfl id (by
    intro c hc
    cases c <;> first | rfl | exact ⟨rfl, rfl, rfl, rfl⟩ | exact fun _ _ _ => rfl | exact absurd rfl hc)

theorem links {x} (hb : m.testBit 11 = true) (h : Touches m s t) : Touches m s { t with wag := x } :=
  part h hb rfl id (by
    intro c hc
    cases c <;> first | rfl | exact ⟨rfl, rfl, rfl, rfl⟩ | exact fun _ _ _ => rfl | exact absurd rfl hc)

theorem hive {x} (hb : m.testBit 12 = true) (h : Touches m s t) : Touches m s { t with hive := x } :=
  part h hb rfl id (by
    intro c hc
    cases c <;> first | rfl | exact ⟨rfl, rfl, rfl, rfl⟩ | exact fun _ _ _ => rfl | exact absurd rfl hc)

theorem serving {x} (hb : m.testBit 13 = true) (h : Touches m s t) : Touches m s { t with serv := x } :=
  part h hb rfl id (by
    intro c hc
    cases c <;> first | rfl | exact ⟨rfl, rfl, rfl, rfl⟩ | exact fun _ _ _ => rfl | exact absurd rfl hc)

theorem twin {x} (hb : m.testBit 14 = true) (h : Touches m s t) : Touches m s { t with twin := x } :=
  part h hb rfl id (by
    intro c hc
    cases c <;> first | rfl | exact ⟨rfl, rfl, rfl, rfl⟩ | exact fun _ _ _ => rfl | exact absurd rfl hc)

theorem video {x} (hb : m.testBit 15 = true) (h : Touches m s t) : Touches m s { t with vid := x } :=
  part h hb rfl id (by
    intro c hc
    cases c <;> first | rfl | exact ⟨rfl, rfl, rfl, rfl⟩ | exact fun _ _ _ => rfl | exact absurd rfl hc)

theorem security {x} (hb : m.testBit 16 = true) (h : Touches m s t) : Touches m s { t with sec := x } :=
  part h hb rfl id (by
    intro c hc
    cases c <;> first | rfl | exact ⟨rfl, rfl, rfl, rfl⟩ | exact fun _ _ _ => rfl | exact absurd rfl hc)

theorem boot {x} (hb : m.testBit 17 = true) (h : Touches m s t) : Touches m s { t with boot := x } :=
  part h hb rfl id (by
    intro c hc
    cases c <;> first | rfl | exact ⟨rfl, rfl, rfl, rfl⟩ | exact fun _ _ _ => rfl | exact absurd rfl hc)

theorem out {x} (hb : m.testBit 18 = true) (h : Touches m s t) : Touches m s { t with out := x } :=
  part h hb rfl id (by
    intro c hc
    cases c <;> first | rfl | exact ⟨rfl, rfl, rfl, rfl⟩ | exact fun _ _ _ => rfl | exact absurd rfl hc)

theorem comb_gov {x} (hb : m.testBit 20 = true) (h : Touches m s t) :
    Touches m s { t with comb := { t.comb with gov := x } } :=
  part h hb rfl id (by
    intro c hc
    cases c <;> first | rfl | exact ⟨rfl, rfl, rfl, rfl⟩ | exact fun _ _ _ => rfl | exact absurd rfl hc)

theorem comb_margin {x} (hb : m.testBit 21 = true) (h : Touches m s t) :
    Touches m s { t with comb := { t.comb with margin := x } } :=
  part h hb rfl id (by
    intro c hc
    cases c <;> first | rfl | exact ⟨rfl, rfl, rfl, rfl⟩ | exact fun _ _ _ => rfl | exact absurd rfl hc)

theorem comb_cells {x} (hb : m.testBit 22 = true) (h : Touches m s t) :
    Touches m s { t with comb := { t.comb with cells := x } } :=
  part h hb rfl id (by
    intro c hc
    cases c <;> first | rfl | exact ⟨rfl, rfl, rfl, rfl⟩ | exact fun _ _ _ => rfl | exact absurd rfl hc)

theorem comb_pipes {x} (hb : m.testBit 23 = true) (h : Touches m s t) :
    Touches m s { t with comb := { t.comb with pipes := x } } :=
  part h hb rfl id (by
    intro c hc
    cases c <;> first | rfl | exact ⟨rfl, rfl, rfl, rfl⟩ | exact fun _ _ _ => rfl | exact absurd rfl hc)

theorem comb_parts {x} (hb : m.testBit 24 = true) (h : Touches m s t) :
    Touches m s { t with comb := { t.comb with parts := x } } :=
  part h hb rfl id (by
    intro c hc
    cases c <;> first | rfl | exact ⟨rfl, rfl, rfl, rfl⟩ | exact fun _ _ _ => rfl | exact absurd rfl hc)

theorem comb_slots {x} (hb : m.testBit 25 = true) (h : Touches m s t) :
    Touches m s { t with comb := { t.comb with slots := x } } :=
  part h hb rfl id (by
    intro c hc
    cases c <;> first | rfl | exact ⟨rfl, rfl, rfl, rfl⟩ | exact fun _ _ _ => rfl | exact absurd rfl hc)

theorem comb_retire {x} (hb : m.testBit 26 = true) (h : Touches m s t) :
    Touches m s { t with comb := { t.comb with retire := x } } :=
  part h hb rfl id (by
    intro c hc
    cases c <;> first | rfl | exact ⟨rfl, rfl, rfl, rfl⟩ | exact fun _ _ _ => rfl | exact absurd rfl hc)

theorem comb_ueTimes {x} (hb : m.testBit 26 = true) (h : Touches m s t) :
    Touches m s { t with comb := { t.comb with ueTimes := x } } :=
  part h hb rfl id (by
    intro c hc
    cases c <;> first | rfl | exact ⟨rfl, rfl, rfl, rfl⟩ | exact fun _ _ _ => rfl | exact absurd rfl hc)

theorem comb_resTimes {x} (hb : m.testBit 26 = true) (h : Touches m s t) :
    Touches m s { t with comb := { t.comb with resTimes := x } } :=
  part h hb rfl id (by
    intro c hc
    cases c <;> first | rfl | exact ⟨rfl, rfl, rfl, rfl⟩ | exact fun _ _ _ => rfl | exact absurd rfl hc)

theorem comb_routerBad {x} (hb : m.testBit 26 = true) (h : Touches m s t) :
    Touches m s { t with comb := { t.comb with routerBad := x } } :=
  part h hb rfl id (by
    intro c hc
    cases c <;> first | rfl | exact ⟨rfl, rfl, rfl, rfl⟩ | exact fun _ _ _ => rfl | exact absurd rfl hc)

/-- A change of the comb as a whole. -/
theorem comb {x : Comb} (hb : ∀ b ∈ [20, 21, 22, 23, 24, 25, 26], m.testBit b = true) (h : Touches m s t) :
    Touches m s { t with comb := x } :=
  h.trans ⟨rfl, id, fun c hc => by
    cases c <;> first
      | rfl
      | exact fun _ _ _ => rfl
      | (rw [hb _ (by decide : bit _ ∈ _)] at hc; cases hc)⟩

/-- A change of the memory controllers' own state that leaves every byte. -/
theorem memory {x : Mem} (hb : m.testBit 8 = true) (hx : x.cells = t.mem.cells) (h : Touches m s t) :
    Touches m s { t with mem := x } :=
  part h hb rfl (fun k => by simpa [memoryOk, hx] using k) (by
    intro c hc
    cases c <;> first | rfl | exact hx | exact ⟨rfl, rfl, rfl, rfl⟩ | exact fun _ _ _ => rfl | exact absurd rfl hc)

/-- A change of bytes that keeps the canonical form. -/
theorem bytes {x : Mem} (h7 : m.testBit 7 = true) (h8 : m.testBit 8 = true)
    (hx : Memory.wf t.mem.cells = true → Memory.wf x.cells = true) (h : Touches m s t) :
    Touches m s { t with mem := x } :=
  h.trans ⟨rfl, hx, fun c hc => by
    cases c <;> first
      | rfl
      | exact ⟨rfl, rfl, rfl, rfl⟩
      | exact fun _ _ _ => rfl
      | (simp only [bit, h7] at hc; cases hc)
      | (simp only [bit, h8] at hc; cases hc)⟩

theorem fldKey_type (f : Fld) (i k : Nat) : fldKey f i k / 2 ^ 15 % 32 = f.ty % 32 := by
  unfold fldKey
  omega

theorem regs {x : Tbl Nat} {n : Nat} (hb : m.testBit (32 + n % 32) = true)
    (hx : ∀ a d, a / 2 ^ 15 % 32 ≠ n % 32 → tget d x a = tget d t.regs a) (h : Touches m s t) :
    Touches m s { t with regs := x } :=
  h.trans ⟨rfl, id, fun c hc => by
    cases c
    case page ty =>
      intro a d ha
      refine hx a d (fun he => ?_)
      rw [ha] at he
      rw [bit, he, hb] at hc
      cases hc
    all_goals first | rfl | exact ⟨rfl, rfl, rfl, rfl⟩⟩

/-- A field of a page that is not touched reads as before. -/
theorem reads {f : Fld} {i k : Nat} (h : Touches m s t) (hb : m.testBit (32 + f.ty % 32) = false) :
    rd t f i k = rd s f i k := h.2.2 (.page (f.ty % 32)) hb _ _ (fldKey_type f i k)

/-- A part that is not touched is the same. -/
theorem same {c : Comp} (h : Touches m s t) (hb : m.testBit (bit c) = false) : Same c s t := h.2.2 c hb

/-- Every register may change. -/
theorem allRegs {x : Tbl Nat} (hb : ∀ n, m.testBit (32 + n % 32) = true) (h : Touches m s t) :
    Touches m s { t with regs := x } :=
  h.trans ⟨rfl, id, fun c hc => by
    cases c
    case page ty =>
      intro a d ha
      have h2 := hb (a / 2 ^ 15)
      rw [ha] at h2
      rw [bit, h2] at hc
      cases hc
    all_goals first | rfl | exact ⟨rfl, rfl, rfl, rfl⟩⟩

end Touches

/-! ## The operations that everything else is made of -/

variable {m : Nat} {b s : State}

/-- A register write touches the pages of its field's block type. -/
theorem wr_touches {f : Fld} {v i k : Nat} (hp : m.testBit (32 + f.ty % 32) = true) (h : Touches m b s) :
    Touches m b (wr s f v i k) :=
  Touches.regs (n := f.ty) hp (fun a d ha => tget_tset_ne _ _ (fun he => ha (by rw [he, Touches.fldKey_type])) _ _) h

theorem incSat_touches {f : Fld} {i k : Nat} (hp : m.testBit (32 + f.ty % 32) = true) (h : Touches m b s) :
    Touches m b (incSat s f i k) := wr_touches hp h

theorem addSat_touches {f : Fld} {n i k : Nat} (hp : m.testBit (32 + f.ty % 32) = true) (h : Touches m b s) :
    Touches m b (addSat s f n i k) := wr_touches hp h

theorem incWrap_touches {f : Fld} {n i k : Nat} (hp : m.testBit (32 + f.ty % 32) = true) (h : Touches m b s) :
    Touches m b (incWrap s f n i k) := wr_touches hp h

theorem refuseWrite_touches {ty i off : Nat} {st : Status} (hp : m.testBit (32 + ty % 32) = true) (h : Touches m b s) :
    Touches m b (refuseWrite s ty i off st) := wr_touches hp (wr_touches hp (wr_touches hp h))

theorem emit_touches {e : OutEv} (hb : m.testBit 18 = true) (h : Touches m b s) : Touches m b (emit s e) :=
  Touches.out hb h

theorem raiseIrq_touches {ty i n : Nat} (hb : m.testBit 18 = true) (hp : m.testBit (32 + ty % 32) = true)
    (h : Touches m b s) : Touches m b (raiseIrq s ty i n) := by
  unfold raiseIrq
  refine Touches.ite h ?_
  extract_lets x
  have hx : Touches m b x := wr_touches hp h
  exact Touches.ite (emit_touches hb hx) hx

/-- The state that a growth leaves, or else `s`. -/
def growS (s : State) : Growth → State
  | .done t => t
  | _ => s

theorem grow_done {d t : State} (h : Touches m b t) : Touches m b (growS d (.done t)) := h

theorem after_touches {r : Host.Outcome State Fault Refusal} (h : Touches m b s)
    (hr : Touches m b s → Touches m b (Touches.outS s r)) : Touches m b (after r s) := by
  have := hr h
  unfold after
  unfold Touches.outS at this
  exact this

/-- Everything may change. -/
theorem all_touches {t : State} (hb : ∀ c, m.testBit (bit c) = true ∨ Same c s t) (hp : t.pending = s.pending)
    (hw : memoryOk s = true → memoryOk t = true) (h : Touches m b s) : Touches m b t :=
  h.trans ⟨hp, hw, fun c hc => (hb c).resolve_left (by rw [hc]; exact Bool.false_ne_true)⟩

/-- A mask that names every part. -/
theorem every {t : State} (hm : 0xFFFFFFFF07F7FFF7 &&& m = 0xFFFFFFFF07F7FFF7) (c : Comp) :
    m.testBit (bit c) = true ∨ Same c s t := by
  cases c
  case page ty =>
    by_cases h : ty < 32
    · have := Touches.anyPage hm rfl ty
      rw [Nat.mod_eq_of_lt h] at this
      exact .inl this
    · exact .inr (fun a d ha => absurd ha (by omega))
  all_goals exact .inl (Touches.has hm rfl)

theorem writeBytes_wf (s : State) (a0 n : Nat) (a : Nat) (bs : List Byte) (t : Tbl Byte) (h : twf 0 t = true) :
    twf 0 (writeBytes s a0 n a bs t) = true := by
  induction bs generalizing a t with
  | nil => exact h
  | cons x bs ih =>
    refine ih _ _ ?_
    split
    · exact h
    · exact twf_tset a x h

theorem memWrite_touches {a : Nat} {bs : List Byte} (h7 : m.testBit 7 = true) (h8 : m.testBit 8 = true)
    (h : Touches m b s) : Touches m b (memWrite s a bs) :=
  Touches.bytes h7 h8 (fun k => writeBytes_wf s _ _ _ _ _ k) h

theorem memZero_touches {a n : Nat} (h7 : m.testBit 7 = true) (h8 : m.testBit 8 = true) (h : Touches m b s) :
    Touches m b (memZero s a n) := Touches.bytes h7 h8 (fun k => twf_tclear _ _ k) h

theorem garbleMemory_touches (h2 : m.testBit 2 = true) (h7 : m.testBit 7 = true) (h8 : m.testBit 8 = true)
    (h : Touches m b s) : Touches m b (garbleMemory s) := by
  unfold garbleMemory
  refine Touches.free h2 (Touches.bytes h7 h8 (fun _ => ?_) h)
  show twf 0 (List.foldl _ _ _) = true
  have hf : ∀ (l : List (Host.Cell × Nat)) (t : Tbl Byte), twf 0 t = true →
      twf 0 (l.foldl (fun t e => tset 0 e.1.1 (BitVec.ofNat 8 (freeVal s e.2)) t) t) = true := by
    intro l
    induction l with
    | nil => exact fun _ h => h
    | cons e l ih => exact fun t ht => ih _ (twf_tset _ _ ht)
  exact hf _ _ rfl

theorem bit_inj {c d : Comp} (h : bit c = bit d) : c = d := by
  cases c <;> cases d <;> simp [bit] at h ⊢ <;> omega

/-- A frame over the parts that a list names, from a mask within it. -/
theorem Touches.sameBut {m : Nat} {s t : State} {l : List Comp} (h : Touches m s t) (hm : m < 2 ^ 64)
    (hl : (List.range 64).all (fun b => !m.testBit b || (l.map bit).contains b) = true) : SameBut l s t := by
  refine ⟨h.1, fun c hc => h.2.2 c ?_⟩
  by_contra hk
  rw [Bool.not_eq_false] at hk
  have hb : bit c < 64 := by
    by_contra hb
    rw [Nat.testBit_lt_two_pow (lt_of_lt_of_le hm (Nat.pow_le_pow_right (by decide) (Nat.le_of_not_lt hb)))] at hk
    cases hk
  have := List.all_eq_true.mp hl (bit c) (List.mem_range.mpr hb)
  rw [hk, Bool.not_true, Bool.false_or, List.contains_iff_mem, List.mem_map] at this
  obtain ⟨d, hd, he⟩ := this
  exact hc (bit_inj he ▸ hd)

end Sys2Proof.Laws
end

