-- ==== Sys2Proof/Laws/FrameOps.lean ====
section
/-!
SUPPORT. What each operation of `Machine/Ops.lean` may touch: the mask names the parts of the state in which its result can
differ from the state it started from.
-/

set_option linter.unusedVariables false
set_option linter.unusedTactic false

namespace Sys2Proof.Laws

open Sys2Proof Sys2Proof.Machine Sys2Proof.Safety

variable {mm : Nat} {z0 : State}

theorem upd_comb_cells_comb_pipes {m : Nat} {s t : State} {x0 x1} (h0 : m.testBit 22 = true) (h1 : m.testBit 23 = true) (h : Touches m s t) :
    Touches m s { t with comb := { t.comb with cells := x0, pipes := x1 } } :=
  h.trans ⟨rfl, id, fun c hc0 => by
    cases c <;> first
      | rfl
      | exact ⟨rfl, rfl, rfl, rfl⟩
      | exact fun _ _ _ => rfl
      | exact absurd (h0.symm.trans hc0) Bool.noConfusion
      | exact absurd (h1.symm.trans hc0) Bool.noConfusion⟩

theorem upd_kv_security {m : Nat} {s t : State} {x0 x1} (h0 : m.testBit 9 = true) (h1 : m.testBit 16 = true) (h : Touches m s t) :
    Touches m s { t with kv := x0, sec := x1 } :=
  h.trans ⟨rfl, id, fun c hc0 => by
    cases c <;> first
      | rfl
      | exact ⟨rfl, rfl, rfl, rfl⟩
      | exact fun _ _ _ => rfl
      | exact absurd (h0.symm.trans hc0) Bool.noConfusion
      | exact absurd (h1.symm.trans hc0) Bool.noConfusion⟩

theorem upd_comb_cells_comb_pipes_comb_parts_links {m : Nat} {s t : State} {x0 x1 x2 x3} (h0 : m.testBit 22 = true) (h1 : m.testBit 23 = true) (h2 : m.testBit 24 = true) (h3 : m.testBit 11 = true) (h : Touches m s t) :
    Touches m s { t with wag := x3, comb := { t.comb with cells := x0, pipes := x1, parts := x2 } } :=
  h.trans ⟨rfl, id, fun c hc0 => by
    cases c <;> first
      | rfl
      | exact ⟨rfl, rfl, rfl, rfl⟩
      | exact fun _ _ _ => rfl
      | exact absurd (h0.symm.trans hc0) Bool.noConfusion
      | exact absurd (h1.symm.trans hc0) Bool.noConfusion
      | exact absurd (h2.symm.trans hc0) Bool.noConfusion
      | exact absurd (h3.symm.trans hc0) Bool.noConfusion⟩

theorem upd_memory_host {m : Nat} {s t : State} {x0 x1} (h0 : m.testBit 8 = true) (hc : x0.cells = t.mem.cells) (h1 : m.testBit 10 = true) (h : Touches m s t) :
    Touches m s { t with mem := x0, host := x1 } :=
  h.trans ⟨rfl, fun k => by simpa [memoryOk, hc] using k, fun c hc0 => by
    cases c <;> first
      | rfl
      | exact ⟨rfl, rfl, rfl, rfl⟩
      | exact fun _ _ _ => rfl
      | exact hc
      | exact absurd (h0.symm.trans hc0) Bool.noConfusion
      | exact absurd (h1.symm.trans hc0) Bool.noConfusion⟩

theorem upd_power_boot {m : Nat} {s t : State} {x0 x1} (h0 : m.testBit 5 = true) (h1 : m.testBit 17 = true) (h : Touches m s t) :
    Touches m s { t with pwr := x0, boot := x1 } :=
  h.trans ⟨rfl, id, fun c hc0 => by
    cases c <;> first
      | rfl
      | exact ⟨rfl, rfl, rfl, rfl⟩
      | exact fun _ _ _ => rfl
      | exact absurd (h0.symm.trans hc0) Bool.noConfusion
      | exact absurd (h1.symm.trans hc0) Bool.noConfusion⟩

theorem upd_comb_margin_recorder_boot {m : Nat} {s t : State} {x0 x1 x2} (h0 : m.testBit 21 = true) (h1 : m.testBit 4 = true) (h2 : m.testBit 17 = true) (h : Touches m s t) :
    Touches m s { t with evr := x1, boot := x2, comb := { t.comb with margin := x0 } } :=
  h.trans ⟨rfl, id, fun c hc0 => by
    cases c <;> first
      | rfl
      | exact ⟨rfl, rfl, rfl, rfl⟩
      | exact fun _ _ _ => rfl
      | exact absurd (h0.symm.trans hc0) Bool.noConfusion
      | exact absurd (h1.symm.trans hc0) Bool.noConfusion
      | exact absurd (h2.symm.trans hc0) Bool.noConfusion⟩

theorem upd_now_hive {m : Nat} {s t : State} {x0 x1} (h0 : m.testBit 0 = true) (h1 : m.testBit 12 = true) (h : Touches m s t) :
    Touches m s { t with now := x0, hive := x1 } :=
  h.trans ⟨rfl, id, fun c hc0 => by
    cases c <;> first
      | rfl
      | exact ⟨rfl, rfl, rfl, rfl⟩
      | exact fun _ _ _ => rfl
      | exact absurd (h0.symm.trans hc0) Bool.noConfusion
      | exact absurd (h1.symm.trans hc0) Bool.noConfusion⟩

theorem upd_rtc_recorder {m : Nat} {s t : State} {x0 x1} (h0 : m.testBit 1 = true) (h1 : m.testBit 4 = true) (h : Touches m s t) :
    Touches m s { t with rtc := x0, evr := x1 } :=
  h.trans ⟨rfl, id, fun c hc0 => by
    cases c <;> first
      | rfl
      | exact ⟨rfl, rfl, rfl, rfl⟩
      | exact fun _ _ _ => rfl
      | exact absurd (h0.symm.trans hc0) Bool.noConfusion
      | exact absurd (h1.symm.trans hc0) Bool.noConfusion⟩

theorem useFree_touches {s : State} (hm : 0x4 &&& mm = 0x4) (hT : Touches mm z0 s) :
    Touches mm z0 (useFree s) := by
  unfold useFree
  exact Touches.free (Touches.has hm rfl) hT

theorem setDom_touches {s : State} {d : ℕ} {v : ℕ} (hm : 0x20 &&& mm = 0x20) (hT : Touches mm z0 s) :
    Touches mm z0 (setDom s d v) := by
  unfold setDom
  extract_lets -merge -underBinder src1
  exact Touches.power (Touches.has hm rfl) hT

theorem hostWrite_touches {s : State} {a : ℕ} {bs : List Byte} (hm : 0x40000 &&& mm = 0x40000) (hT : Touches mm z0 s) :
    Touches mm z0 (hostWrite s a bs) := by
  unfold hostWrite
  exact emit_touches (Touches.has hm rfl) hT

theorem setCell_touches {s : State} {c : ℕ} {x : Cell} (hm : 0x400000 &&& mm = 0x400000) (hT : Touches mm z0 s) :
    Touches mm z0 (setCell s c x) := by
  unfold setCell
  extract_lets -merge -underBinder src1
  exact Touches.comb_cells (Touches.has hm rfl) hT

theorem setPipe_touches {s : State} {p : ℕ} {x : Pipe} (hm : 0x800000 &&& mm = 0x800000) (hT : Touches mm z0 s) :
    Touches mm z0 (setPipe s p x) := by
  unfold setPipe
  extract_lets -merge -underBinder src1
  exact Touches.comb_pipes (Touches.has hm rfl) hT

theorem setPart_touches {s : State} {p : ℕ} {x : Part} (hm : 0x1000000 &&& mm = 0x1000000) (hT : Touches mm z0 s) :
    Touches mm z0 (setPart s p x) := by
  unfold setPart
  extract_lets -merge -underBinder src1
  exact Touches.comb_parts (Touches.has hm rfl) hT

theorem setSlot_touches {s : State} {n : ℕ} {x : Slot} (hm : 0x2000000 &&& mm = 0x2000000) (hT : Touches mm z0 s) :
    Touches mm z0 (setSlot s n x) := by
  unfold setSlot
  extract_lets -merge -underBinder src1
  exact Touches.comb_slots (Touches.has hm rfl) hT

theorem modRunning_touches {s : State} {p : ℕ} {f : Running → Running} (hm : 0x1000000 &&& mm = 0x1000000)
    (hT : Touches mm z0 s) :
    Touches mm z0 (modRunning s p f) := by
  unfold modRunning
  extract_lets -merge -underBinder x1
  try clear_value x1
  exact setPart_touches (Touches.inc hm rfl) hT

theorem clearResident_touches {s : State} {p : ℕ} (hm : 0x1000000 &&& mm = 0x1000000) (hT : Touches mm z0 s) :
    Touches mm z0 (clearResident s p) := by
  unfold clearResident
  extract_lets -merge -underBinder src1
  exact setPart_touches (Touches.inc hm rfl) hT

theorem setStore_touches {s : State} {l : List Rec} (hm : 0x80000000000010 &&& mm = 0x80000000000010) (hT : Touches mm z0 s) :
    Touches mm z0 (setStore s l) := by
  unfold setStore
  extract_lets -merge -underBinder src1
  refine wr_touches (Touches.has hm rfl) ?_
  exact Touches.recorder (Touches.has hm rfl) hT

theorem applyRec_touches {s : State} {e : Rec} (hm : 0x80000000040010 &&& mm = 0x80000000040010) (hT : Touches mm z0 s) :
    Touches mm z0 (applyRec s e) := by
  unfold applyRec
  extract_lets -merge -underBinder x4 x5 x6 x7
  try clear_value x4
  try clear_value x5
  try clear_value x6
  have hx7 : ∀ x7a0 x7a1 z, Touches mm z x7a0 → Touches mm z (x7 x7a0 x7a1) := by
    intro x7a0 x7a1 z hu
    subst x7
    beta_reduce
    extract_lets -merge -underBinder src10 x11
    have hx11 : Touches mm z x11 := by
      subst x11
      refine setStore_touches (Touches.inc hm rfl) ?_
      exact Touches.recorder (Touches.has hm rfl) hu
    try clear_value x11
    refine Touches.ite ?_ ?_
    · exact raiseIrq_touches (Touches.has hm rfl) (Touches.has hm rfl) hx11
    · exact hx11
  try clear_value x7
  refine Touches.ite ?_ ?_
  · exact setStore_touches (Touches.inc hm rfl) hT
  · refine Touches.ite ?_ ?_
    · exact hx7 _ _ _ hT
    · split
      · exact hx7 _ _ _ hT
      · refine raiseIrq_touches (Touches.has hm rfl) (Touches.has hm rfl) ?_
        exact incSat_touches (show Nat.testBit _ (32 + 23 % 32) = true from Touches.has hm rfl) hT

theorem holdRec_touches {s : State} {e : Rec} (hm : 0x80000000040010 &&& mm = 0x80000000040010) (hT : Touches mm z0 s) :
    Touches mm z0 (holdRec s e) := by
  unfold holdRec
  extract_lets -merge -underBinder src1
  refine Touches.ite ?_ ?_
  · exact Touches.recorder (Touches.has hm rfl) hT
  · refine raiseIrq_touches (Touches.has hm rfl) (Touches.has hm rfl) ?_
    exact incSat_touches (Touches.has hm rfl) hT

theorem applyHeld_touches {s : State} (hm : 0x80000000040010 &&& mm = 0x80000000040010) (hT : Touches mm z0 s) :
    Touches mm z0 (applyHeld s) := by
  unfold applyHeld
  extract_lets -merge -underBinder src1
  refine Touches.foldl ?_ (fun u x => ?_)
  · exact Touches.recorder (Touches.has hm rfl) hT
  · revert x u; intro u2 y
    beta_reduce
    exact applyRec_touches (Touches.inc hm rfl) (Touches.refl mm _)

theorem restoreOf_touches {l : List (Fld × ℕ × ℕ)} {t : Tbl ℕ} {s : State}
    (hm : 0xFFFFFFFF00000000 &&& mm = 0xFFFFFFFF00000000) (hT : Touches mm z0 s) :
    Touches mm z0 (restoreOf l t s) := by
  unfold restoreOf
  refine Touches.foldl ?_ (fun u x => ?_)
  · exact hT
  · revert x u; intro u0 y
    beta_reduce
    exact wr_touches (Touches.anyPage hm rfl _) (Touches.refl mm _)

theorem restoreRegs_touches {t : Tbl ℕ} {s : State} (hm : 0xFFFFFFFF00000000 &&& mm = 0xFFFFFFFF00000000) (hT : Touches mm z0 s) :
    Touches mm z0 (restoreRegs t s) := by
  unfold restoreRegs
  exact restoreOf_touches (Touches.inc hm rfl) hT

theorem copyRemap_touches {s : State} (hm : 0x20000 &&& mm = 0x20000) (hT : Touches mm z0 s) :
    Touches mm z0 (copyRemap s) := by
  unfold copyRemap
  extract_lets -merge -underBinder src1
  exact Touches.boot (Touches.has hm rfl) hT

theorem triggerFlush_touches {s : State} {cause : ℕ} (hm : 0x100000000000010 &&& mm = 0x100000000000010) (hT : Touches mm z0 s) :
    Touches mm z0 (triggerFlush s cause) := by
  unfold triggerFlush
  split
  · extract_lets -merge -underBinder src1
    exact Touches.recorder (Touches.has hm rfl) hT
  · extract_lets -merge -underBinder x4 src5
    try clear_value x4
    refine Touches.ite ?_ ?_
    · exact wr_touches (Touches.has hm rfl) hT
    · refine wr_touches (Touches.has hm rfl) ?_
      exact Touches.recorder (Touches.has hm rfl) hT

theorem endFreeze_touches {s : State} (hm : 0x80000000040010 &&& mm = 0x80000000040010) (hT : Touches mm z0 s) :
    Touches mm z0 (endFreeze s) := by
  unfold endFreeze
  extract_lets -merge -underBinder src2 x3
  have hx3 : Touches mm z0 x3 := by
    subst x3
    refine wr_touches (Touches.has hm rfl) ?_
    refine wr_touches (Touches.has hm rfl) ?_
    exact Touches.recorder (Touches.has hm rfl) hT
  try clear_value x3
  refine Touches.ite ?_ ?_
  · refine Touches.ite ?_ ?_
    · exact hx3
    · exact applyHeld_touches (Touches.inc hm rfl) hx3
  · exact hT

theorem recordEvent_touches {s : State} {ty : ℕ} {i : ℕ} {code : ℕ} {sev : ℕ} {tenant : ℕ} {detail : List ℕ}
    (hm : 0x180000000060010 &&& mm = 0x180000000060010) (hT : Touches mm z0 s) :
    Touches mm z0 (recordEvent s ty i code sev tenant detail) := by
  unfold recordEvent
  extract_lets -merge -underBinder x5 x6 x7 x8 src9
  try clear_value x5
  have hx6 : Touches mm z0 x6 := by
    subst x6
    exact endFreeze_touches (Touches.inc hm rfl) hT
  try clear_value x6
  have hx7 : Touches mm z0 x7 := by
    subst x7
    refine Touches.ite ?_ ?_
    · exact holdRec_touches (Touches.inc hm rfl) hx6
    · exact applyRec_touches (Touches.inc hm rfl) hx6
  try clear_value x7
  have hx8 : Touches mm z0 x8 := by
    subst x8
    exact triggerFlush_touches (Touches.inc hm rfl) hx7
  try clear_value x8
  refine Touches.ite ?_ ?_
  · exact Touches.boot (Touches.has hm rfl) hx8
  · refine Touches.ite ?_ ?_
    · exact holdRec_touches (Touches.inc hm rfl) hT
    · exact applyRec_touches (Touches.inc hm rfl) hT

theorem setMetric_touches {s : State} {m : ℕ} {x : Metric} (hm : 0x10 &&& mm = 0x10) (hT : Touches mm z0 s) :
    Touches mm z0 (setMetric s m x) := by
  unfold setMetric
  extract_lets -merge -underBinder src1
  exact Touches.recorder (Touches.has hm rfl) hT

theorem metricSample_touches {s : State} {m : ℕ} {v : ℤ} (hm : 0x10 &&& mm = 0x10) (hT : Touches mm z0 s) :
    Touches mm z0 (metricSample s m v) := by
  unfold metricSample
  extract_lets -merge -underBinder x2 x3
  try clear_value x2
  try clear_value x3
  refine Touches.ite ?_ ?_
  · exact hT
  · exact setMetric_touches (Touches.inc hm rfl) hT

theorem writeField_touches {w : Writer} {ty : ℕ} {i : ℕ} {off : ℕ} {v : ℕ} {low : Bool} {x : State × Option Status × Bool}
    {f0 : Fld} (hm : 0xFFFFFFFF00000000 &&& mm = 0xFFFFFFFF00000000) (hT : Touches mm z0 x.1) :
    Touches mm z0 (writeField w ty i off v low x f0).1 := by
  unfold writeField
  extract_lets -merge -underBinder x7 x8 x9 x10 x11 x12 x13
  have hx7 : Touches mm z0 x7 := by
    subst x7
    exact hT
  try clear_value x7
  try clear_value x8
  try clear_value x9
  try clear_value x10
  try clear_value x11
  try clear_value x12
  try clear_value x13
  split
  · exact hT
  · refine Touches.mkI ?_
    exact wr_touches (Touches.anyPage hm rfl _) hx7
  · refine Touches.iteV Prod.fst ?_ ?_
    · exact Touches.mkI hx7
    · refine Touches.iteV Prod.fst ?_ ?_
      · refine Touches.mkI ?_
        exact wr_touches (Touches.anyPage hm rfl _) hx7
      · exact hT
  · refine Touches.iteV Prod.fst ?_ ?_
    · exact hT
    · refine Touches.iteV Prod.fst ?_ ?_
      · refine Touches.iteV Prod.fst ?_ ?_
        · exact hT
        · exact Touches.mkI hx7
      · refine Touches.iteV Prod.fst ?_ ?_
        · exact Touches.mkI hx7
        · split
          · refine Touches.mkI ?_
            exact wr_touches (Touches.anyPage hm rfl _) hx7
          · exact Touches.mkI hx7

theorem firmwareRecord_touches {s : State} {sev : ℕ} {detail : List ℕ} (hm : 0x180000000060014 &&& mm = 0x180000000060014)
    (hT : Touches mm z0 s) :
    Touches mm z0 (firmwareRecord s sev detail) := by
  unfold firmwareRecord
  refine recordEvent_touches (Touches.inc hm rfl) ?_
  exact useFree_touches (Touches.inc hm rfl) hT

theorem noteWord_touches {before : State} {s : State} {ty : ℕ} {i : ℕ} {off : ℕ}
    (hm : 0x180000000060014 &&& mm = 0x180000000060014) (hT : Touches mm z0 s) :
    Touches mm z0 (noteWord before s ty i off) := by
  unfold noteWord
  extract_lets -merge -underBinder x4 x5 x6 x7
  try clear_value x4
  try clear_value x5
  try clear_value x6
  have hx7 : ∀ x7a0, Touches mm z0 (x7 x7a0) := by
    intro x7a0
    subst x7
    beta_reduce
    extract_lets -merge -underBinder src9
    exact Touches.boot (Touches.has hm rfl) hT
  try clear_value x7
  refine Touches.ite ?_ ?_
  · exact hT
  · refine Touches.ite ?_ ?_
    · exact hx7 _
    · refine Touches.ite ?_ ?_
      · exact hx7 _
      · exact firmwareRecord_touches (Touches.inc hm rfl) hT

theorem noteSetting_touches {before : State} {s : State} {ty : ℕ} {i : ℕ} {off : ℕ}
    (hm : 0x180000000060014 &&& mm = 0x180000000060014) (hT : Touches mm z0 s) :
    Touches mm z0 (noteSetting before s ty i off) := by
  unfold noteSetting
  refine Touches.foldl ?_ (fun u x => ?_)
  · exact hT
  · revert x u; intro u y
    beta_reduce
    exact noteWord_touches (Touches.inc hm rfl) (Touches.refl mm _)

theorem regWrite_touches {s : State} {w : Writer} {ty : ℕ} {i : ℕ} {off : ℕ} {touches : Bool} {k : State → State}
    (hm : 0xFFFFFFFF00060014 &&& mm = 0xFFFFFFFF00060014) (hk6 : ∀ z u0, Touches mm z u0 → Touches mm z (k u0)) (hT : Touches mm z0 s) :
    Touches mm z0 (regWrite s w ty i off touches k) := by
  unfold regWrite
  refine Touches.ite ?_ ?_
  · refine Touches.ite ?_ ?_
    · refine addSat_touches (Touches.anyPage hm rfl _) ?_
      exact refuseWrite_touches (Touches.anyPage hm rfl _) hT
    · refine noteSetting_touches (Touches.inc hm rfl) ?_
      exact hk6 _ _ hT
  · exact hT

theorem wordWrite_touches {s : State} {w : Writer} {ty : ℕ} {i : ℕ} {off : ℕ} {v : ℕ}
    (hm : 0xFFFFFFFF00060014 &&& mm = 0xFFFFFFFF00060014) (hT : Touches mm z0 s) :
    Touches mm z0 (wordWrite s w ty i off v) := by
  unfold wordWrite
  refine Touches.ite ?_ ?_
  · exact hT
  · split
    · exact refuseWrite_touches (Touches.anyPage hm rfl _) hT
    · extract_lets -merge -underBinder x3 x4 x5
      try clear_value x3
      have hx4 : Touches mm z0 x4.1 := by
        subst x4
        refine Touches.foldlV ?_ (fun u c x => ?_)
        · exact Touches.mkI hT
        · revert x c u; intro u6 c y
          beta_reduce
          refine writeField_touches (Touches.inc hm rfl) ?_
          exact Touches.mkI (Touches.refl mm _)
      try clear_value x4
      have hx5 : Touches mm z0 x5 := by
        subst x5
        refine Touches.ite ?_ ?_
        · exact refuseWrite_touches (Touches.anyPage hm rfl _) hx4
        · split
          · exact refuseWrite_touches (Touches.anyPage hm rfl _) hx4
          · exact hx4
      try clear_value x5
      refine Touches.ite ?_ ?_
      · exact addSat_touches (Touches.anyPage hm rfl _) hx5
      · exact noteSetting_touches (Touches.inc hm rfl) hx5

theorem irqEnable_touches {s : State} {ty : ℕ} {i : ℕ} {v : ℕ} (hm : 0x40000 &&& mm = 0x40000) (hp : mm.testBit
    (32 + ty % 32) = true) (hT : Touches mm z0 s) :
    Touches mm z0 (irqEnable s ty i v) := by
  unfold irqEnable
  refine Touches.ite ?_ ?_
  · refine Touches.foldl ?_ (fun u x => ?_)
    · exact hT
    · revert x u; intro u0 y
      beta_reduce
      extract_lets -merge -underBinder x3 x4
      try clear_value x3
      have hx4 : Touches mm u0 x4 := by
        subst x4
        exact wr_touches hp (Touches.refl mm _)
      try clear_value x4
      refine Touches.ite ?_ ?_
      · exact emit_touches (Touches.has hm rfl) hx4
      · exact hx4
  · exact hT

theorem irqClear_touches {s : State} {ty : ℕ} {i : ℕ} {v : ℕ} (hp : mm.testBit (32 + ty % 32) = true) (hT : Touches mm z0 s) :
    Touches mm z0 (irqClear s ty i v) := by
  unfold irqClear
  refine Touches.ite ?_ ?_
  · refine Touches.foldl ?_ (fun u x => ?_)
    · exact hT
    · revert x u; intro u0 y
      beta_reduce
      refine Touches.ite ?_ ?_
      · exact wr_touches hp (Touches.refl mm _)
      · exact Touches.refl mm _
  · exact hT

theorem lockAll_touches {s : State} (hm : 0xFFFFFFFF00000000 &&& mm = 0xFFFFFFFF00000000) (hT : Touches mm z0 s) :
    Touches mm z0 (lockAll s) := by
  unfold lockAll
  refine Touches.foldl ?_ (fun u x => ?_)
  · exact hT
  · revert x u; intro u0 y
    beta_reduce
    exact wr_touches (Touches.anyPage hm rfl _) (Touches.refl mm _)

theorem lockWrite_touches {s : State} {ty : ℕ} {i : ℕ} {v : ℕ} (hm : 0xFFFFFFFF00000000 &&& mm = 0xFFFFFFFF00000000)
    (hp : mm.testBit (32 + ty % 32) = true) (hT : Touches mm z0 s) :
    Touches mm z0 (lockWrite s ty i v) := by
  unfold lockWrite
  extract_lets -merge -underBinder x1
  have hx1 : Touches mm z0 x1 := by
    subst x1
    refine Touches.ite ?_ ?_
    · exact wr_touches hp hT
    · exact hT
  try clear_value x1
  refine Touches.ite ?_ ?_
  · refine Touches.ite ?_ ?_
    · exact lockAll_touches (Touches.inc hm rfl) hx1
    · exact hx1
  · exact hT

theorem keptFlush_touches {s : State} (hm : 0x100000000000010 &&& mm = 0x100000000000010) (hT : Touches mm z0 s) :
    Touches mm z0 (keptFlush s) := by
  unfold keptFlush
  split
  · extract_lets -merge -underBinder src1
    refine triggerFlush_touches (Touches.inc hm rfl) ?_
    exact Touches.recorder (Touches.has hm rfl) hT
  · exact hT

theorem flushOver_touches {s : State} (hm : 0x180000000040010 &&& mm = 0x180000000040010) (hT : Touches mm z0 s) :
    Touches mm z0 (flushOver s) := by
  unfold flushOver
  extract_lets -merge -underBinder src2 x3
  have hx3 : Touches mm z0 x3 := by
    subst x3
    refine wr_touches (Touches.has hm rfl) ?_
    exact Touches.recorder (Touches.has hm rfl) hT
  try clear_value x3
  refine keptFlush_touches (Touches.inc hm rfl) ?_
  refine Touches.ite ?_ ?_
  · exact hx3
  · exact applyHeld_touches (Touches.inc hm rfl) hx3

theorem commitBank_touches {s : State} {bank : ℕ} {d : BankData} (hm : 0x100000000000010 &&& mm = 0x100000000000010)
    (hT : Touches mm z0 s) :
    Touches mm z0 (commitBank s bank d) := by
  unfold commitBank
  extract_lets -merge -underBinder src4 src5 x6 x7
  have hx6 : Touches mm z0 x6 := by
    subst x6
    exact Touches.recorder (Touches.has hm rfl) hT
  try clear_value x6
  have hx7 : Touches mm z0 x7 := by
    subst x7
    refine wr_touches (by rw [apply_ite Fld.ty]; split <;> exact Touches.has hm rfl) ?_
    exact wr_touches (Touches.has hm rfl) hx6
  try clear_value x7
  refine incSat_touches (Touches.has hm rfl) ?_
  refine wr_touches (Touches.has hm rfl) ?_
  exact wr_touches (Touches.has hm rfl) hx7

theorem commitFlush_touches {s : State} {us : ℕ} (hm : 0x380000000060011 &&& mm = 0x380000000060011) (hT : Touches mm z0 s) :
    Touches mm z0 (commitFlush s us) := by
  unfold commitFlush
  split
  · exact hT
  · extract_lets -merge -underBinder x5 x6 x7 src8 x9
    try clear_value x5
    have hx6 : Touches mm z0 x6 := by
      subst x6
      exact Touches.now (Touches.has hm rfl) hT
    try clear_value x6
    have hx7 : Touches mm z0 x7 := by
      subst x7
      refine commitBank_touches (Touches.inc hm rfl) ?_
      exact wr_touches (Touches.has hm rfl) hx6
    try clear_value x7
    have hx9 : Touches mm z0 x9 := by
      subst x9
      refine Touches.ite ?_ ?_
      · refine wr_touches (Touches.has hm rfl) ?_
        exact Touches.boot (Touches.has hm rfl) hx7
      · exact hx7
    try clear_value x9
    refine flushOver_touches (Touches.inc hm rfl) ?_
    exact raiseIrq_touches (Touches.has hm rfl) (Touches.has hm rfl) hx9

theorem countMetric_touches {s : State} {m : ℕ} {now : ℕ} (hm : 0x10 &&& mm = 0x10) (hT : Touches mm z0 s) :
    Touches mm z0 (countMetric s m now) := by
  unfold countMetric
  extract_lets -merge -underBinder x3 src4 x5
  try clear_value x3
  have hx5 : Touches mm z0 x5 := by
    subst x5
    exact Touches.recorder (Touches.has hm rfl) hT
  try clear_value x5
  exact metricSample_touches (Touches.inc hm rfl) hx5

theorem beginWarm_touches {s : State} {cause : ℕ} {recovery : Bool} (hm : 0x20000 &&& mm = 0x20000) (hT : Touches mm z0 s) :
    Touches mm z0 (beginWarm s cause recovery) := by
  unfold beginWarm
  extract_lets -merge -underBinder src1
  refine Touches.ite ?_ ?_
  · exact hT
  · exact Touches.boot (Touches.has hm rfl) hT

theorem irqEvent_touches {s : State} {ty : ℕ} {i : ℕ} {n : ℕ} {tenant : ℕ} {detail : List ℕ}
    (hm : 0x180000000060010 &&& mm = 0x180000000060010) (hp : mm.testBit (32 + ty % 32) = true) (hT : Touches mm z0 s) :
    Touches mm z0 (irqEvent s ty i n tenant detail) := by
  unfold irqEvent
  refine raiseIrq_touches (Touches.has hm rfl) hp ?_
  exact recordEvent_touches (Touches.inc hm rfl) hT

theorem statusEvent_touches {s : State} {ty : ℕ} {i : ℕ} {st : Status} {tenant : ℕ} {detail : List ℕ}
    (hm : 0x180000000060010 &&& mm = 0x180000000060010) (hT : Touches mm z0 s) :
    Touches mm z0 (statusEvent s ty i st tenant detail) := by
  unfold statusEvent
  exact recordEvent_touches (Touches.inc hm rfl) hT

theorem setOwed_touches {s : State} {m : ℕ} {c : ℕ} {v : ℤ} (hm : 0x800000100 &&& mm = 0x800000100) (hT : Touches mm z0 s) :
    Touches mm z0 (setOwed s m c v) := by
  unfold setOwed
  extract_lets -merge -underBinder src2 x3
  have hx3 : Touches mm z0 x3 := by
    subst x3
    exact Touches.memory (Touches.has hm rfl) rfl hT
  try clear_value x3
  exact wr_touches (Touches.has hm rfl) hx3

theorem noteMemErr_touches {s : State} {a : ℕ} {tenant : ℕ} {kind : ℕ} (hm : 0x800000000 &&& mm = 0x800000000)
    (hT : Touches mm z0 s) :
    Touches mm z0 (noteMemErr s a tenant kind) := by
  unfold noteMemErr
  extract_lets -merge -underBinder x2 x3
  try clear_value x2
  try clear_value x3
  refine wr_touches (Touches.has hm rfl) ?_
  refine wr_touches (Touches.has hm rfl) ?_
  refine wr_touches (Touches.has hm rfl) ?_
  exact wr_touches (Touches.has hm rfl) hT

theorem memCorrected_touches {s : State} {a : ℕ} (hm : 0x180000800060010 &&& mm = 0x180000800060010) (hT : Touches mm z0 s) :
    Touches mm z0 (memCorrected s a) := by
  unfold memCorrected
  refine irqEvent_touches (Touches.inc hm rfl) (Touches.has hm rfl) ?_
  exact incSat_touches (Touches.has hm rfl) hT

theorem memPath_touches {s : State} {a : ℕ} (hm : 0x180000800060010 &&& mm = 0x180000800060010) (hT : Touches mm z0 s) :
    Touches mm z0 (memPath s a) := by
  unfold memPath
  extract_lets -merge -underBinder x1
  have hx1 : Touches mm z0 x1 := by
    subst x1
    refine noteMemErr_touches (Touches.inc hm rfl) ?_
    exact incSat_touches (Touches.has hm rfl) hT
  try clear_value x1
  exact irqEvent_touches (Touches.inc hm rfl) (Touches.has hm rfl) hx1

theorem poisonData_touches {s : State} {a : ℕ} (hm : 0x180000800060110 &&& mm = 0x180000800060110) (hT : Touches mm z0 s) :
    Touches mm z0 (poisonData s a) := by
  unfold poisonData
  extract_lets -merge -underBinder x5 x6 x7 x8 src9
  try clear_value x5
  have hx6 : Touches mm z0 x6 := by
    subst x6
    refine noteMemErr_touches (Touches.inc hm rfl) ?_
    exact incSat_touches (Touches.has hm rfl) hT
  try clear_value x6
  have hx7 : Touches mm z0 x7 := by
    subst x7
    exact raiseIrq_touches (Touches.has hm rfl) (Touches.has hm rfl) hx6
  try clear_value x7
  have hx8 : Touches mm z0 x8 := by
    subst x8
    exact statusEvent_touches (Touches.inc hm rfl) hx7
  try clear_value x8
  refine Touches.ite ?_ ?_
  · exact hx8
  · exact Touches.memory (Touches.has hm rfl) rfl hx8

theorem writePathBad_touches {s : State} {a : ℕ} (hm : 0x180000800060110 &&& mm = 0x180000800060110) (hT : Touches mm z0 s) :
    Touches mm z0 (writePathBad s a) := by
  unfold writePathBad
  extract_lets -merge -underBinder x4 x5 x6 src7
  have hx4 : Touches mm z0 x4 := by
    subst x4
    exact memPath_touches (Touches.inc hm rfl) hT
  try clear_value x4
  try clear_value x5
  have hx6 : Touches mm z0 x6 := by
    subst x6
    refine raiseIrq_touches (Touches.has hm rfl) (Touches.has hm rfl) ?_
    exact incSat_touches (Touches.has hm rfl) hx4
  try clear_value x6
  exact Touches.memory (Touches.has hm rfl) rfl hx6

theorem readFails_touches {s : State} {who : Consumer} {e : MemEnv} (hm : 0x180000800060110 &&& mm = 0x180000800060110)
    (hT : Touches mm z0 s) :
    Touches mm z0 (readFails s who e) := by
  unfold readFails
  extract_lets -merge -underBinder x1
  have hx1 : Touches mm z0 x1 := by
    subst x1
    refine Touches.foldl ?_ (fun u x => ?_)
    · exact hT
    · revert x u; intro u2 y
      beta_reduce
      exact memCorrected_touches (Touches.inc hm rfl) (Touches.refl mm _)
  try clear_value x1
  refine Touches.foldl ?_ (fun u x => ?_)
  · exact hx1
  · revert x u; intro u3 y
    beta_reduce
    extract_lets -merge -underBinder x6 src7
    have hx6 : Touches mm u3 x6 := by
      subst x6
      refine Touches.ite ?_ ?_
      · exact memPath_touches (Touches.inc hm rfl) (Touches.refl mm _)
      · exact Touches.refl mm _
    try clear_value x6
    refine Touches.ite ?_ ?_
    · exact hx6
    · refine Touches.ite ?_ ?_
      · exact poisonData_touches (Touches.inc hm rfl) hx6
      · exact Touches.memory (Touches.has hm rfl) rfl hx6

theorem setPort_touches {s : State} {p : ℕ} {x : WPort} (hm : 0x800 &&& mm = 0x800) (hT : Touches mm z0 s) :
    Touches mm z0 (setPort s p x) := by
  unfold setPort
  extract_lets -merge -underBinder src1
  exact Touches.links (Touches.has hm rfl) hT

theorem enqueue_touches {s : State} {p : ℕ} {m : OutMsg} (hm : 0x800 &&& mm = 0x800) (hT : Touches mm z0 s) :
    Touches mm z0 (enqueue s p m) := by
  unfold enqueue
  extract_lets -merge -underBinder x1
  try clear_value x1
  exact setPort_touches (Touches.inc hm rfl) hT

theorem sendMsg_touches {s : State} {dst : ℕ} {vc : ℕ} {tenant : ℕ} {m : Msg} (hm : 0x40800 &&& mm = 0x40800)
    (hT : Touches mm z0 s) :
    Touches mm z0 (sendMsg s dst vc tenant m) := by
  unfold sendMsg
  refine Touches.ite ?_ ?_
  · exact emit_touches (Touches.has hm rfl) hT
  · split
    · refine Touches.ite ?_ ?_
      · exact enqueue_touches (Touches.inc hm rfl) hT
      · exact hT
    · exact hT

theorem sendOn_touches {s : State} {p : ℕ} {vc : ℕ} {m : Msg} (hm : 0x800 &&& mm = 0x800) (hT : Touches mm z0 s) :
    Touches mm z0 (sendOn s p vc m) := by
  unfold sendOn
  refine Touches.ite ?_ ?_
  · exact enqueue_touches (Touches.inc hm rfl) hT
  · exact hT

theorem setQuality_touches {s : State} {q : ℕ} (hm : 0x180800000060010 &&& mm = 0x180800000060010) (hT : Touches mm z0 s) :
    Touches mm z0 (setQuality s q) := by
  unfold setQuality
  extract_lets -merge -underBinder x1
  have hx1 : Touches mm z0 x1 := by
    subst x1
    exact wr_touches (Touches.has hm rfl) hT
  try clear_value x1
  refine Touches.ite ?_ ?_
  · exact hT
  · refine Touches.ite ?_ ?_
    · exact irqEvent_touches (Touches.inc hm rfl) (Touches.has hm rfl) hx1
    · refine Touches.ite ?_ ?_
      · exact irqEvent_touches (Touches.inc hm rfl) (Touches.has hm rfl) hx1
      · exact hx1

theorem arriveIf_touches {s : State} {b : ℕ} {v : ℕ} (hm : 0x400000040800 &&& mm = 0x400000040800) (hT : Touches mm z0 s) :
    Touches mm z0 (arriveIf s b v) := by
  unfold arriveIf
  extract_lets -merge -underBinder x1
  try clear_value x1
  refine Touches.ite ?_ ?_
  · refine sendMsg_touches (Touches.inc hm rfl) ?_
    exact wr_touches (Touches.has hm rfl) hT
  · exact hT

theorem barrierThreshold_touches {s : State} {c : ℕ} {v : ℕ} (hm : 0x400000040800 &&& mm = 0x400000040800)
    (hT : Touches mm z0 s) :
    Touches mm z0 (barrierThreshold s c v) := by
  unfold barrierThreshold
  refine Touches.foldl ?_ (fun u x => ?_)
  · exact hT
  · revert x u; intro u0 y
    beta_reduce
    refine Touches.ite ?_ ?_
    · exact arriveIf_touches (Touches.inc hm rfl) (Touches.refl mm _)
    · exact Touches.refl mm _

theorem setQueue_touches {s : State} {q : ℕ} {x : Queue} (hm : 0x400 &&& mm = 0x400) (hT : Touches mm z0 s) :
    Touches mm z0 (setQueue s q x) := by
  unfold setQueue
  extract_lets -merge -underBinder src1
  exact Touches.host (Touches.has hm rfl) hT

theorem queueIrq_touches {s : State} {q : ℕ} {n : ℕ} (hm : 0x800020000040000 &&& mm = 0x800020000040000) (hT : Touches mm z0 s) :
    Touches mm z0 (queueIrq s q n) := by
  unfold queueIrq
  extract_lets -merge -underBinder x1
  try clear_value x1
  refine Touches.ite ?_ ?_
  · exact raiseIrq_touches (Touches.has hm rfl) (Touches.has hm rfl) hT
  · exact raiseIrq_touches (Touches.has hm rfl) (Touches.has hm rfl) hT

theorem setStream_touches {s : State} {tenant : ℕ} {word : ℕ} {c : ℕ} (hm : 0x400 &&& mm = 0x400) (hT : Touches mm z0 s) :
    Touches mm z0 (setStream s tenant word c) := by
  unfold setStream
  extract_lets -merge -underBinder src1
  exact Touches.host (Touches.has hm rfl) hT

theorem towardsHost_touches {s : State} {tenant : ℕ} {kind : ℕ} {q : ℕ} {a : ℕ} {tagAddr : ℕ} {bs : List Byte}
    (hm : 0x8000040400 &&& mm = 0x8000040400) (hT : Touches mm z0 s) :
    Touches mm z0 (towardsHost s tenant kind q a tagAddr bs) := by
  unfold towardsHost
  extract_lets -merge -underBinder x2 x3
  try clear_value x2
  try clear_value x3
  refine Touches.ite ?_ ?_
  · refine Touches.ite ?_ ?_
    · exact wr_touches (Touches.has hm rfl) hT
    · refine emit_touches (Touches.has hm rfl) ?_
      exact setStream_touches (Touches.inc hm rfl) hT
  · exact hostWrite_touches (Touches.inc hm rfl) hT

theorem postNow_touches {s : State} {q : ℕ} {c : Cpl} (hm : 0x28000040400 &&& mm = 0x28000040400) (hT : Touches mm z0 s) :
    Touches mm z0 (postNow s q c) := by
  unfold postNow
  extract_lets -merge -underBinder x7 x8 x9 x10 x11 x12 x13
  try clear_value x7
  try clear_value x8
  try clear_value x9
  have hx10 : Touches mm z0 x10 := by
    subst x10
    exact towardsHost_touches (Touches.inc hm rfl) hT
  try clear_value x10
  try clear_value x11
  have hx12 : Touches mm z0 x12 := by
    subst x12
    exact wr_touches (Touches.has hm rfl) hx10
  try clear_value x12
  have hx13 : Touches mm z0 x13 := by
    subst x13
    refine Touches.ite ?_ ?_
    · exact setQueue_touches (Touches.inc hm rfl) hx12
    · exact hx12
  try clear_value x13
  refine Touches.ite ?_ ?_
  · exact emit_touches (Touches.has hm rfl) hx13
  · exact hx13

theorem postCpl_touches {s : State} {q : ℕ} {c : Cpl} (hm : 0x800028000040400 &&& mm = 0x800028000040400) (hT : Touches mm z0 s) :
    Touches mm z0 (postCpl s q c) := by
  unfold postCpl
  extract_lets -merge -underBinder x1
  try clear_value x1
  refine Touches.ite ?_ ?_
  · refine queueIrq_touches (Touches.inc hm rfl) ?_
    refine wr_touches (Touches.has hm rfl) ?_
    exact setQueue_touches (Touches.inc hm rfl) hT
  · exact postNow_touches (Touches.inc hm rfl) hT

theorem postHeld_touches {arg0 : ℕ} {arg1 : State} {arg2 : ℕ} (hm : 0x28000040400 &&& mm = 0x28000040400)
    (hT : Touches mm z0 arg1) :
    Touches mm z0 (postHeld arg0 arg1 arg2) := by
  unfold postHeld
  split
  · exact hT
  · split
    · exact wr_touches (Touches.has hm rfl) hT
    · extract_lets -merge -underBinder src1
      refine Touches.ite ?_ ?_
      · exact hT
      · refine postHeld_touches (Touches.inc hm rfl) ?_
        refine postNow_touches (Touches.inc hm rfl) ?_
        exact setQueue_touches (Touches.inc hm rfl) hT

theorem disableQueue_touches {s : State} {q : ℕ} (hm : 0x20000000400 &&& mm = 0x20000000400) (hT : Touches mm z0 s) :
    Touches mm z0 (disableQueue s q) := by
  unfold disableQueue
  extract_lets -merge -underBinder x2 x3
  have hx2 : Touches mm z0 x2 := by
    subst x2
    exact setQueue_touches (Touches.inc hm rfl) hT
  try clear_value x2
  have hx3 : Touches mm z0 x3 := by
    subst x3
    refine wr_touches (Touches.has hm rfl) ?_
    exact wr_touches (Touches.has hm rfl) hx2
  try clear_value x3
  exact wr_touches (Touches.has hm rfl) hx3

theorem haltIf_touches {s : State} {q : ℕ} {st : Status} {cid : ℕ} (hm : 0x800020000040000 &&& mm = 0x800020000040000)
    (hT : Touches mm z0 s) :
    Touches mm z0 (haltIf s q st cid) := by
  unfold haltIf
  extract_lets -merge -underBinder x1
  have hx1 : Touches mm z0 x1 := by
    subst x1
    refine wr_touches (Touches.has hm rfl) ?_
    refine wr_touches (Touches.has hm rfl) ?_
    exact wr_touches (Touches.has hm rfl) hT
  try clear_value x1
  refine Touches.ite ?_ ?_
  · refine queueIrq_touches (Touches.inc hm rfl) ?_
    exact incSat_touches (Touches.has hm rfl) hx1
  · exact hT

theorem settle_touches {arg0 : ℕ} {arg1 : State} {arg2 : List SigWork} (hm : 0x800428000040D80 &&& mm = 0x800428000040D80)
    (hT : Touches mm z0 arg1) :
    Touches mm z0 (settle arg0 arg1 arg2) := by
  unfold settle
  split
  · exact hT
  · exact hT
  · refine settle_touches (Touches.inc hm rfl) ?_
    refine haltIf_touches (Touches.inc hm rfl) ?_
    exact postCpl_touches (Touches.inc hm rfl) hT
  · extract_lets -merge -underBinder x6 x7 x8 x9 x10 x11
    try clear_value x6
    have hx7 : Touches mm z0 x7 := by
      subst x7
      exact memWrite_touches (Touches.has hm rfl) (Touches.has hm rfl) hT
    try clear_value x7
    have hx8 : Touches mm z0 x8 := by
      subst x8
      exact barrierThreshold_touches (Touches.inc hm rfl) hx7
    try clear_value x8
    try clear_value x9
    try clear_value x10
    have hx11 : Touches mm z0 x11 := by
      subst x11
      refine Touches.foldl ?_ (fun u x => ?_)
      · exact hx8
      · revert x u; intro u12 y
        beta_reduce
        extract_lets -merge -underBinder src14
        exact setQueue_touches (Touches.inc hm rfl) (Touches.refl mm _)
    try clear_value x11
    refine Touches.ite ?_ ?_
    · refine settle_touches (Touches.inc hm rfl) ?_
      refine raiseIrq_touches (Touches.has hm rfl) (Touches.has hm rfl) ?_
      exact incSat_touches (Touches.has hm rfl) hT
    · exact settle_touches (Touches.inc hm rfl) hx11

theorem settleAll_touches {s : State} {w : List SigWork} (hm : 0x800428000040D80 &&& mm = 0x800428000040D80)
    (hT : Touches mm z0 s) :
    Touches mm z0 (settleAll s w) := by
  unfold settleAll
  exact settle_touches (Touches.inc hm rfl) hT

theorem signalUpdate_touches {s : State} {tenant : ℕ} {c : ℕ} {set : Bool} {v : ℕ}
    (hm : 0x800428000040D80 &&& mm = 0x800428000040D80) (hT : Touches mm z0 s) :
    Touches mm z0 (signalUpdate s tenant c set v) := by
  unfold signalUpdate
  exact settleAll_touches (Touches.inc hm rfl) hT

theorem finishCmd_touches {s : State} {q : ℕ} {st : Status} {result : ℕ} {flags : ℕ}
    (hm : 0x800428000040D80 &&& mm = 0x800428000040D80) (hT : Touches mm z0 s) :
    Touches mm z0 (finishCmd s q st result flags) := by
  unfold finishCmd
  split
  · exact hT
  · extract_lets -merge -underBinder x4 x5 src6 x7
    have hx4 : Touches mm z0 x4 := by
      subst x4
      refine Touches.ite ?_ ?_
      · exact incSat_touches (Touches.has hm rfl) hT
      · exact hT
    try clear_value x4
    try clear_value x5
    have hx7 : Touches mm z0 x7 := by
      subst x7
      exact setQueue_touches (Touches.inc hm rfl) hx4
    try clear_value x7
    refine Touches.ite ?_ ?_
    · exact disableQueue_touches (Touches.inc hm rfl) hT
    · exact settleAll_touches (Touches.inc hm rfl) hx7

theorem setBusy_touches {s : State} {q : ℕ} (hm : 0x400 &&& mm = 0x400) (hT : Touches mm z0 s) :
    Touches mm z0 (setBusy s q) := by
  unfold setBusy
  extract_lets -merge -underBinder src1
  exact setQueue_touches (Touches.inc hm rfl) hT

theorem modRun_touches {s : State} {q : ℕ} {f : RunCmd → RunCmd} (hm : 0x400 &&& mm = 0x400) (hT : Touches mm z0 s) :
    Touches mm z0 (modRun s q f) := by
  unfold modRun
  extract_lets -merge -underBinder src1
  exact setQueue_touches (Touches.inc hm rfl) hT

theorem pfxSet_touches {s : State} {t : ℕ} {n : ℕ} {off : ℕ} {len : ℕ} {v : ℕ} (hm : 0x180 &&& mm = 0x180)
    (hT : Touches mm z0 s) :
    Touches mm z0 (pfxSet s t n off len v) := by
  unfold pfxSet
  exact memWrite_touches (Touches.has hm rfl) (Touches.has hm rfl) hT

theorem pfxOrphan_touches {s : State} {t : ℕ} {k : ℕ} (hm : 0x180 &&& mm = 0x180) (hT : Touches mm z0 s) :
    Touches mm z0 (pfxOrphan s t k) := by
  unfold pfxOrphan
  refine Touches.foldl ?_ (fun u x => ?_)
  · exact hT
  · revert x u; intro u0 y
    beta_reduce
    refine Touches.ite ?_ ?_
    · exact pfxSet_touches (Touches.inc hm rfl) (Touches.refl mm _)
    · exact Touches.refl mm _

theorem pfxUnlinkFrom_touches {s : State} {t : ℕ} {n : ℕ} {arg3 : ℕ} {arg4 : ℕ} (hm : 0x180 &&& mm = 0x180)
    (hT : Touches mm z0 s) :
    Touches mm z0 (pfxUnlinkFrom s t n arg3 arg4) := by
  unfold pfxUnlinkFrom
  split
  · exact hT
  · refine Touches.ite ?_ ?_
    · exact hT
    · refine Touches.ite ?_ ?_
      · exact pfxSet_touches (Touches.inc hm rfl) hT
      · exact pfxUnlinkFrom_touches (Touches.inc hm rfl) hT

theorem pfxUnlink_touches {s : State} {t : ℕ} {n : ℕ} (hm : 0x180 &&& mm = 0x180) (hT : Touches mm z0 s) :
    Touches mm z0 (pfxUnlink s t n) := by
  unfold pfxUnlink
  extract_lets -merge -underBinder x2 x3
  try clear_value x2
  try clear_value x3
  refine Touches.ite ?_ ?_
  · exact pfxSet_touches (Touches.inc hm rfl) hT
  · exact pfxUnlinkFrom_touches (Touches.inc hm rfl) hT

theorem pfxTake_touches {s : State} {t : Nat} {d0 : State} (hm : 0x100000000180 &&& mm = 0x100000000180)
    (hd : Touches mm z0 d0) (hT : Touches mm z0 s) : Touches mm z0 (Touches.optP d0 (pfxTake s t)) := by
  unfold pfxTake
  extract_lets -merge -underBinder x1
  split
  · exact wr_touches (Touches.has hm rfl) hT
  · cases pfxVictim s t with
    | none => exact hd
    | some n => exact pfxUnlink_touches (Touches.inc hm rfl) hT

theorem pfxInsert_touches {t : ℕ} {k : ℕ} {arg2 : State} {arg3 : ℕ} {arg4 : ℕ} {arg5 : List (List Byte)}
    (hm : 0x180100000060190 &&& mm = 0x180100000060190) (hT : Touches mm z0 arg2) :
    Touches mm z0 (pfxInsert t k arg2 arg3 arg4 arg5) := by
  unfold pfxInsert
  split
  · exact hT
  · split
    · extract_lets -merge -underBinder x1
      have hx1 : Touches mm z0 x1 := by
        subst x1
        refine Touches.ite ?_ ?_
        · exact pfxSet_touches (Touches.inc hm rfl) hT
        · exact hT
      try clear_value x1
      refine pfxInsert_touches (Touches.inc hm rfl) ?_
      exact pfxSet_touches (Touches.inc hm rfl) hx1
    · split
      · refine irqEvent_touches (Touches.inc hm rfl) (Touches.has hm rfl) ?_
        exact incSat_touches (Touches.has hm rfl) hT
      · rename_i p2 p3 e4
        have h5 : Touches mm z0 p2 := by
          have e := congrArg (Touches.optP z0) e4
          refine Eq.mp (congrArg (Touches mm z0) e) ?_
          clear e e4
          exact pfxTake_touches (Touches.inc hm rfl) (Touches.refl mm _) hT
        extract_lets -merge -underBinder x7
        have hx7 : Touches mm z0 x7 := by
          subst x7
          exact memWrite_touches (Touches.has hm rfl) (Touches.has hm rfl) h5
        try clear_value x7
        refine pfxInsert_touches (Touches.inc hm rfl) ?_
        exact pfxSet_touches (Touches.inc hm rfl) hx7

theorem pfxClear_touches {s : State} {t : ℕ} (hm : 0x100000000180 &&& mm = 0x100000000180) (hT : Touches mm z0 s) :
    Touches mm z0 (pfxClear s t) := by
  unfold pfxClear
  refine Touches.ite ?_ ?_
  · exact wr_touches (Touches.has hm rfl) hT
  · refine wr_touches (Touches.has hm rfl) ?_
    exact memWrite_touches (Touches.has hm rfl) (Touches.has hm rfl) hT

theorem setSeq_touches {s : State} {k : ℕ} {x : Seq} (hm : 0x380 &&& mm = 0x380) (hT : Touches mm z0 s) :
    Touches mm z0 (setSeq s k x) := by
  unfold setSeq
  extract_lets -merge -underBinder src1
  refine memWrite_touches (Touches.has hm rfl) (Touches.has hm rfl) ?_
  exact Touches.kv (Touches.has hm rfl) hT

theorem setFrame_touches {s : State} {f : ℕ} {x : Option Frame} (hm : 0x200 &&& mm = 0x200) (hT : Touches mm z0 s) :
    Touches mm z0 (setFrame s f x) := by
  unfold setFrame
  extract_lets -merge -underBinder src1
  exact Touches.kv (Touches.has hm rfl) hT

theorem kvSync_touches {s : State} {t : ℕ} (hm : 0x180080000060210 &&& mm = 0x180080000060210) (hT : Touches mm z0 s) :
    Touches mm z0 (kvSync s t) := by
  unfold kvSync
  extract_lets -merge -underBinder x6 w6 x7 x8
  try clear_value x6 w6
  have hx7 : Touches mm z0 x7 := by
    subst x7
    refine wr_touches (Touches.has hm rfl) ?_
    exact wr_touches (Touches.has hm rfl) hT
  try clear_value x7
  have hx8 : Touches mm z0 x8 := by
    subst x8
    refine wr_touches (Touches.has hm rfl) ?_
    exact wr_touches (Touches.has hm rfl) hx7
  try clear_value x8
  refine Touches.ite ?_ ?_
  · exact irqEvent_touches (Touches.inc hm rfl) (Touches.has hm rfl) hx8
  · exact hx8

theorem allocFrame_touches {s : State} {k : ℕ} (hm : 0x384 &&& mm = 0x384) (hT : Touches mm z0 s) :
    Touches mm z0 (allocFrame s k).1 := by
  unfold allocFrame
  extract_lets -merge -underBinder x5 x6 x7 x8 x9
  try clear_value x5
  try clear_value x6
  try clear_value x7
  try clear_value x8
  have hx9 : Touches mm z0 x9 := by
    subst x9
    exact setSeq_touches (Touches.inc hm rfl) hT
  try clear_value x9
  refine Touches.mkI ?_
  refine useFree_touches (Touches.inc hm rfl) ?_
  exact setFrame_touches (Touches.inc hm rfl) hx9

theorem addTable_touches {s : State} {k : ℕ} {layer : ℕ} {i : ℕ} (hm : 0x384 &&& mm = 0x384) (hT : Touches mm z0 s) :
    Touches mm z0 (addTable s k layer i) := by
  unfold addTable
  split
  · rename_i p0 p1 e2
    have h3 : Touches mm z0 p0 := by
      have e := congrArg Prod.fst e2
      refine Eq.mp (congrArg (Touches mm z0) e) ?_
      clear e e2
      exact allocFrame_touches (Touches.inc hm rfl) hT
    extract_lets -merge -underBinder x7 x8 x9
    try clear_value x7
    have hx8 : Touches mm z0 x8 := by
      subst x8
      exact memZero_touches (Touches.has hm rfl) (Touches.has hm rfl) h3
    try clear_value x8
    have hx9 : Touches mm z0 x9 := by
      subst x9
      exact memWrite_touches (Touches.has hm rfl) (Touches.has hm rfl) hx8
    try clear_value x9
    exact setSeq_touches (Touches.inc hm rfl) hx9

theorem addBlock_touches {s : State} {k : ℕ} {layer : ℕ} {b : ℕ} (hm : 0x384 &&& mm = 0x384) (hT : Touches mm z0 s) :
    Touches mm z0 (addBlock s k layer b) := by
  unfold addBlock
  extract_lets -merge -underBinder x1
  have hx1 : Touches mm z0 x1 := by
    subst x1
    refine Touches.ite ?_ ?_
    · exact addTable_touches (Touches.inc hm rfl) hT
    · exact hT
  try clear_value x1
  split
  · rename_i p2 p3 e4
    have h5 : Touches mm z0 p2 := by
      have e := congrArg Prod.fst e4
      refine Eq.mp (congrArg (Touches mm z0) e) ?_
      clear e e4
      exact allocFrame_touches (Touches.inc hm rfl) hx1
    extract_lets -merge -underBinder x10 x11 x12 x13
    try clear_value x10
    try clear_value x11
    try clear_value x12
    have hx13 : Touches mm z0 x13 := by
      subst x13
      exact memWrite_touches (Touches.has hm rfl) (Touches.has hm rfl) h5
    try clear_value x13
    exact setSeq_touches (Touches.inc hm rfl) hx13

theorem grow_touches {s : State} {k : ℕ} {n : ℕ} {d0 : State} (hm : 0x180080000060394 &&& mm = 0x180080000060394)
    (hd : Touches mm z0 d0) (hT : Touches mm z0 s) :
    Touches mm z0 (growS d0 (grow s k n)) := by
  unfold grow
  extract_lets -merge -underBinder x8 x9 x10 x11 x12 x13 x14 src15
  try clear_value x8
  try clear_value x9
  try clear_value x10
  try clear_value x11
  try clear_value x12
  try clear_value x13
  have hx14 : Touches mm z0 x14 := by
    subst x14
    refine Touches.foldl ?_ (fun u x => ?_)
    · exact hT
    · revert x u; intro u16 y
      beta_reduce
      refine Touches.foldl ?_ (fun u x => ?_)
      · exact Touches.refl mm _
      · revert x u; intro u17 y
        beta_reduce
        exact addBlock_touches (Touches.inc hm rfl) (Touches.refl mm _)
  try clear_value x14
  refine Touches.iteV (growS d0) ?_ ?_
  · exact grow_done hT
  · refine Touches.iteV (growS d0) ?_ ?_
    · exact hd
    · refine Touches.iteV (growS d0) ?_ ?_
      · refine grow_done ?_
        refine kvSync_touches (Touches.inc hm rfl) ?_
        exact setSeq_touches (Touches.inc hm rfl) hx14
      · exact hd

theorem openSeq_touches {s : State} {k : ℕ} {tenant : ℕ} {slotNo : ℕ} {lc : ℕ} {deadline : ℕ} {host : Bool} {d0 : State}
    (hm : 0x180080000060394 &&& mm = 0x180080000060394) (hd : Touches mm z0 d0) (hT : Touches mm z0 s) :
    Touches mm z0 (Touches.okS d0 (openSeq s k tenant slotNo lc deadline host)) := by
  unfold openSeq
  extract_lets -merge -underBinder x6 x7 x8 x9 x10 x11
  try clear_value x6
  try clear_value x7
  try clear_value x8
  try clear_value x9
  try clear_value x10
  try clear_value x11
  refine Touches.iteV (Touches.okS d0) ?_ ?_
  · exact hd
  · refine Touches.iteV (Touches.okS d0) ?_ ?_
    · exact hd
    · refine Touches.iteV (Touches.okS d0) ?_ ?_
      · exact hd
      · split
        · exact hd
        · extract_lets -merge -underBinder x13
          have hx13 : Touches mm z0 x13 := by
            subst x13
            exact setSeq_touches (Touches.inc hm rfl) hT
          try clear_value x13
          refine Touches.iteV (Touches.okS d0) ?_ ?_
          · exact hd
          · split
            · rename_i p14 p15 e16
              have h17 : Touches mm z0 p14 := by
                have e := congrArg Prod.fst e16
                refine Eq.mp (congrArg (Touches mm z0) e) ?_
                clear e e16
                exact allocFrame_touches (Touches.inc hm rfl) hx13
              extract_lets -merge -underBinder x20 src21
              have hx20 : Touches mm z0 x20 := by
                subst x20
                exact memZero_touches (Touches.has hm rfl) (Touches.has hm rfl) h17
              try clear_value x20
              refine Touches.okI ?_
              refine kvSync_touches (Touches.inc hm rfl) ?_
              exact setSeq_touches (Touches.inc hm rfl) hx20

theorem releaseSeq_touches {s : State} {k : ℕ} (hm : 0x180080000060390 &&& mm = 0x180080000060390) (hT : Touches mm z0 s) :
    Touches mm z0 (releaseSeq s k) := by
  unfold releaseSeq
  extract_lets -merge -underBinder x6 x7 x8 src9 x10 x11
  try clear_value x6
  try clear_value x7
  try clear_value x8
  have hx10 : Touches mm z0 x10 := by
    subst x10
    exact Touches.kv (Touches.has hm rfl) hT
  try clear_value x10
  have hx11 : Touches mm z0 x11 := by
    subst x11
    exact setSeq_touches (Touches.inc hm rfl) hx10
  try clear_value x11
  refine kvSync_touches (Touches.inc hm rfl) ?_
  exact pfxOrphan_touches (Touches.inc hm rfl) hx11

theorem closeSeq_touches {s : State} {k : ℕ} (hm : 0x180080000060390 &&& mm = 0x180080000060390) (hT : Touches mm z0 s) :
    Touches mm z0 (closeSeq s k) := by
  unfold closeSeq
  extract_lets -merge -underBinder x1
  try clear_value x1
  refine Touches.ite ?_ ?_
  · exact hT
  · refine Touches.ite ?_ ?_
    · exact setSeq_touches (Touches.inc hm rfl) hT
    · exact releaseSeq_touches (Touches.inc hm rfl) hT

theorem commitSeq_touches {s : State} {k : ℕ} {n : ℕ} {d0 : State} (hm : 0x380 &&& mm = 0x380) (hd : Touches mm z0 d0)
    (hT : Touches mm z0 s) :
    Touches mm z0 (Touches.optS d0 (commitSeq s k n)) := by
  unfold commitSeq
  extract_lets -merge -underBinder x1
  try clear_value x1
  refine Touches.iteV (Touches.optS d0) ?_ ?_
  · refine Touches.someI ?_
    exact setSeq_touches (Touches.inc hm rfl) hT
  · exact hd

theorem rollbackSeq_touches {s : State} {k : ℕ} {p : ℕ} {d0 : State} (hm : 0x380 &&& mm = 0x380) (hd : Touches mm z0 d0)
    (hT : Touches mm z0 s) :
    Touches mm z0 (Touches.optS d0 (rollbackSeq s k p)) := by
  unfold rollbackSeq
  extract_lets -merge -underBinder x1
  try clear_value x1
  refine Touches.iteV (Touches.optS d0) ?_ ?_
  · refine Touches.someI ?_
    exact setSeq_touches (Touches.inc hm rfl) hT
  · exact hd

theorem parkSeq_touches {s : State} {k : ℕ} {n : ℕ} {need : ℕ} (hm : 0x180080000060390 &&& mm = 0x180080000060390)
    (hT : Touches mm z0 s) :
    Touches mm z0 (parkSeq s k n need) := by
  unfold parkSeq
  extract_lets -merge -underBinder x4 x5 src6 x7
  try clear_value x4
  have hx5 : Touches mm z0 x5 := by
    subst x5
    exact setSeq_touches (Touches.inc hm rfl) hT
  try clear_value x5
  have hx7 : Touches mm z0 x7 := by
    subst x7
    exact Touches.kv (Touches.has hm rfl) hx5
  try clear_value x7
  refine kvSync_touches (Touches.inc hm rfl) ?_
  refine irqEvent_touches (Touches.inc hm rfl) (Touches.has hm rfl) ?_
  exact incSat_touches (Touches.has hm rfl) hx7

theorem sealFailed_touches {s : State} {replay : Bool} (hm : 0x180008000060010 &&& mm = 0x180008000060010)
    (hT : Touches mm z0 s) :
    Touches mm z0 (sealFailed s replay) := by
  unfold sealFailed
  refine irqEvent_touches (Touches.inc hm rfl) (Touches.has hm rfl) ?_
  exact incSat_touches (by rw [apply_ite Fld.ty]; split <;> exact Touches.has hm rfl) hT

theorem sealExhausted_touches {s : State} {t : ℕ} (hm : 0x8000000000 &&& mm = 0x8000000000) (hT : Touches mm z0 s) :
    Touches mm z0 (sealExhausted s t) := by
  unfold sealExhausted
  exact wr_touches (Touches.has hm rfl) hT

theorem sealedIn_touches {s : State} {t : ℕ} {q : ℕ} {c : ℕ} {n : ℕ} {bad : Option ℕ}
    (hm : 0x180008000060410 &&& mm = 0x180008000060410) (hT : Touches mm z0 s) :
    Touches mm z0 (sealedIn s t q c n bad).1 := by
  unfold sealedIn
  split
  · refine Touches.mkI ?_
    exact sealFailed_touches (Touches.inc hm rfl) hT
  · refine Touches.mkI ?_
    exact sealExhausted_touches (Touches.inc hm rfl) hT
  · extract_lets -merge -underBinder x1
    try clear_value x1
    split
    · refine Touches.iteV Prod.fst ?_ ?_
      · refine Touches.mkI ?_
        refine sealFailed_touches (Touches.inc hm rfl) ?_
        refine Touches.ite ?_ ?_
        · exact hT
        · exact setStream_touches (Touches.inc hm rfl) hT
      · refine Touches.mkI ?_
        exact setStream_touches (Touches.inc hm rfl) hT
    · refine Touches.mkI ?_
      exact setStream_touches (Touches.inc hm rfl) hT

theorem sealedRead_touches {s : State} {t : ℕ} {q : ℕ} {c : ℕ} {n : ℕ} {bad : Option ℕ}
    (hm : 0x180008000060410 &&& mm = 0x180008000060410) (hT : Touches mm z0 s) :
    Touches mm z0 (sealedRead s t q c n bad).1 := by
  unfold sealedRead
  refine Touches.iteV Prod.fst ?_ ?_
  · exact sealedIn_touches (Touches.inc hm rfl) hT
  · exact Touches.mkI hT

theorem setReq_touches {s : State} {i : ℕ} {x : Option Req} (hm : 0x2000 &&& mm = 0x2000) (hT : Touches mm z0 s) :
    Touches mm z0 (setReq s i x) := by
  unfold setReq
  extract_lets -merge -underBinder src1
  exact Touches.serving (Touches.has hm rfl) hT

theorem modReq_touches {s : State} {i : ℕ} {f : Req → Req} (hm : 0x2000 &&& mm = 0x2000) (hT : Touches mm z0 s) :
    Touches mm z0 (modReq s i f) := by
  unfold modReq
  exact setReq_touches (Touches.inc hm rfl) hT

theorem setWork_touches {s : State} {i : ℕ} {x : Option Work} (hm : 0x2000 &&& mm = 0x2000) (hT : Touches mm z0 s) :
    Touches mm z0 (setWork s i x) := by
  unfold setWork
  extract_lets -merge -underBinder src1
  exact Touches.serving (Touches.has hm rfl) hT

theorem modWork_touches {s : State} {i : ℕ} {f : Work → Work} (hm : 0x2000 &&& mm = 0x2000) (hT : Touches mm z0 s) :
    Touches mm z0 (modWork s i f) := by
  unfold modWork
  exact setWork_touches (Touches.inc hm rfl) hT

theorem setServSlot_touches {s : State} {n : ℕ} {x : ServSlot} (hm : 0x2000 &&& mm = 0x2000) (hT : Touches mm z0 s) :
    Touches mm z0 (setServSlot s n x) := by
  unfold setServSlot
  extract_lets -merge -underBinder src1
  exact Touches.serving (Touches.has hm rfl) hT

theorem setTwinPart_touches {s : State} {p : ℕ} {x : TwinPart} (hm : 0x4000 &&& mm = 0x4000) (hT : Touches mm z0 s) :
    Touches mm z0 (setTwinPart s p x) := by
  unfold setTwinPart
  extract_lets -merge -underBinder src1
  exact Touches.twin (Touches.has hm rfl) hT

theorem servAction_touches {s : State} {n : ℕ} {what : List ℕ} (hm : 0x800 &&& mm = 0x800) (hT : Touches mm z0 s) :
    Touches mm z0 (servAction s n what) := by
  unfold servAction
  refine Touches.ite ?_ ?_
  · exact sendOn_touches (Touches.inc hm rfl) hT
  · exact hT

theorem setBudget_touches {s : State} {t : ℕ} {b : Budget} (hm : 0x40000002000 &&& mm = 0x40000002000) (hT : Touches mm z0 s) :
    Touches mm z0 (setBudget s t b) := by
  unfold setBudget
  extract_lets -merge -underBinder x2 src3
  try clear_value x2
  refine wr_touches (Touches.has hm rfl) ?_
  exact Touches.serving (Touches.has hm rfl) hT

theorem chargeBudget_touches {s : State} {t : ℕ} {d : ℤ} (hm : 0x40000002000 &&& mm = 0x40000002000) (hT : Touches mm z0 s) :
    Touches mm z0 (chargeBudget s t d) := by
  unfold chargeBudget
  extract_lets -merge -underBinder x1
  try clear_value x1
  exact setBudget_touches (Touches.inc hm rfl) hT

theorem deliverWrite_touches {s : State} {x : Req} {a : ℕ} {tagAddr : ℕ} {bs : List Byte}
    (hm : 0x8000040400 &&& mm = 0x8000040400) (hT : Touches mm z0 s) :
    Touches mm z0 (deliverWrite s x a tagAddr bs) := by
  unfold deliverWrite
  exact towardsHost_touches (Touches.inc hm rfl) hT

theorem deliver_touches {s : State} {i : ℕ} {toks : List (ℕ × Bool)} {late : Bool} {endSt : Option Status} {quiet : Bool}
    (hm : 0x9804E8000062F94 &&& mm = 0x9804E8000062F94) (hT : Touches mm z0 s) :
    Touches mm z0 (deliver s i toks late endSt quiet) := by
  unfold deliver
  split
  · exact hT
  · split
    · extract_lets -merge -underBinder x10 x11 x12 x13 x14 x15 x16 x17 x18 x19
      try clear_value x10
      try clear_value x11
      try clear_value x12
      have hx13 : Touches mm z0 x13 := by
        subst x13
        refine Touches.ite ?_ ?_
        · exact hT
        · refine Touches.foldl ?_ (fun u x => ?_)
          · exact hT
          · revert x u; intro u20 y
            beta_reduce
            extract_lets -merge -underBinder x22
            try clear_value x22
            exact deliverWrite_touches (Touches.inc hm rfl) (Touches.refl mm _)
      try clear_value x13
      have hx14 : Touches mm z0 x14 := by
        subst x14
        refine Touches.ite ?_ ?_
        · exact hx13
        · exact deliverWrite_touches (Touches.inc hm rfl) hx13
      try clear_value x14
      have hx15 : Touches mm z0 x15 := by
        subst x15
        refine Touches.ite ?_ ?_
        · refine irqEvent_touches (Touches.inc hm rfl) (Touches.has hm rfl) ?_
          exact addSat_touches (Touches.has hm rfl) hx14
        · exact hx14
      try clear_value x15
      have hx16 : Touches mm z0 x16 := by
        subst x16
        split
        · refine Touches.ite ?_ ?_
          · exact hx15
          · refine Touches.ite ?_ ?_
            · exact deliverWrite_touches (Touches.inc hm rfl) hx15
            · exact deliverWrite_touches (Touches.inc hm rfl) hx15
        · exact hx15
      try clear_value x16
      have hx17 : Touches mm z0 x17 := by
        subst x17
        refine Touches.ite ?_ ?_
        · exact signalUpdate_touches (Touches.inc hm rfl) hx16
        · exact hx16
      try clear_value x17
      have hx18 : Touches mm z0 x18 := by
        subst x18
        refine Touches.ite ?_ ?_
        · exact hx17
        · exact chargeBudget_touches (Touches.inc hm rfl) hx17
      try clear_value x18
      have hx19 : Touches mm z0 x19 := by
        subst x19
        refine Touches.ite ?_ ?_
        · refine metricSample_touches (Touches.inc hm rfl) ?_
          exact useFree_touches (Touches.inc hm rfl) hx18
        · exact hx18
      try clear_value x19
      split
      · exact setReq_touches (Touches.inc hm rfl) hx19
      · extract_lets -merge -underBinder x27 x28 x29 x30
        have hx27 : Touches mm z0 x27 := by
          subst x27
          exact closeSeq_touches (Touches.inc hm rfl) hx19
        try clear_value x27
        have hx28 : Touches mm z0 x28 := by
          subst x28
          refine Touches.ite ?_ ?_
          · exact closeSeq_touches (Touches.inc hm rfl) hx27
          · exact hx27
        try clear_value x28
        have hx29 : Touches mm z0 x29 := by
          subst x29
          exact setReq_touches (Touches.inc hm rfl) hx28
        try clear_value x29
        have hx30 : Touches mm z0 x30 := by
          subst x30
          refine Touches.foldl ?_ (fun u x => ?_)
          · exact hx29
          · revert x u; intro u31 y
            beta_reduce
            exact finishCmd_touches (Touches.inc hm rfl) (Touches.refl mm _)
        try clear_value x30
        exact servAction_touches (Touches.inc hm rfl) hx30

theorem endReq_touches {s : State} {i : ℕ} {st : Status} {quiet : Bool} (hm : 0x9804E8000062F94 &&& mm = 0x9804E8000062F94)
    (hT : Touches mm z0 s) :
    Touches mm z0 (endReq s i st quiet) := by
  unfold endReq
  exact deliver_touches (Touches.inc hm rfl) hT

theorem faultSlot_touches {s : State} {n : ℕ} {st : Status} (hm : 0x9804E8000062F94 &&& mm = 0x9804E8000062F94)
    (hT : Touches mm z0 s) :
    Touches mm z0 (faultSlot s n st) := by
  unfold faultSlot
  extract_lets -merge -underBinder x3 src4 x5
  have hx3 : Touches mm z0 x3 := by
    subst x3
    refine irqEvent_touches (Touches.inc hm rfl) (Touches.has hm rfl) ?_
    exact wr_touches (Touches.has hm rfl) hT
  try clear_value x3
  have hx5 : Touches mm z0 x5 := by
    subst x5
    exact setServSlot_touches (Touches.inc hm rfl) hx3
  try clear_value x5
  refine Touches.foldl ?_ (fun u x => ?_)
  · exact hx5
  · revert x u; intro u6 y
    beta_reduce
    exact endReq_touches (Touches.inc hm rfl) (Touches.refl mm _)

theorem showCycle_touches {s : State} {n : ℕ} (hm : 0x40000000000 &&& mm = 0x40000000000) (hT : Touches mm z0 s) :
    Touches mm z0 (showCycle s n) := by
  unfold showCycle
  extract_lets -merge -underBinder x1
  try clear_value x1
  exact wr_touches (Touches.has hm rfl) hT

theorem twinCause_touches {s : State} {c : ℕ} (hm : 0x1000000000000 &&& mm = 0x1000000000000) (hT : Touches mm z0 s) :
    Touches mm z0 (twinCause s c) := by
  unfold twinCause
  exact wr_touches (Touches.has hm rfl) hT

theorem setTwinState_touches {s : State} {v : ℕ} (hm : 0x1000000000000 &&& mm = 0x1000000000000) (hT : Touches mm z0 s) :
    Touches mm z0 (setTwinState s v) := by
  unfold setTwinState
  exact wr_touches (Touches.has hm rfl) hT

theorem sendTwin_touches {s : State} {m : Msg} (hm : 0x800 &&& mm = 0x800) (hT : Touches mm z0 s) :
    Touches mm z0 (sendTwin s m) := by
  unfold sendTwin
  exact sendOn_touches (Touches.inc hm rfl) hT

theorem closeFollowed_touches {s : State} (hm : 0x180080000064390 &&& mm = 0x180080000064390) (hT : Touches mm z0 s) :
    Touches mm z0 (closeFollowed s) := by
  unfold closeFollowed
  extract_lets -merge -underBinder src1
  refine Touches.foldl ?_ (fun u x => ?_)
  · exact Touches.twin (Touches.has hm rfl) hT
  · revert x u; intro u2 y
    beta_reduce
    exact closeSeq_touches (Touches.inc hm rfl) (Touches.refl mm _)

theorem twinReset_touches {s : State} (hm : 0x4000 &&& mm = 0x4000) (hT : Touches mm z0 s) :
    Touches mm z0 (twinReset s) := by
  unfold twinReset
  extract_lets -merge -underBinder src1
  exact Touches.twin (Touches.has hm rfl) hT

theorem twinRefused_touches {s : State} (hm : 0x181000000064810 &&& mm = 0x181000000064810) (hT : Touches mm z0 s) :
    Touches mm z0 (twinRefused s) := by
  unfold twinRefused
  extract_lets -merge -underBinder x2 src3
  have hx2 : Touches mm z0 x2 := by
    subst x2
    refine irqEvent_touches (Touches.inc hm rfl) (Touches.has hm rfl) ?_
    exact twinCause_touches (Touches.inc hm rfl) hT
  try clear_value x2
  refine Touches.ite ?_ ?_
  · refine sendTwin_touches (Touches.inc hm rfl) ?_
    refine setTwinState_touches (Touches.inc hm rfl) ?_
    exact Touches.twin (Touches.has hm rfl) hx2
  · exact hT

theorem becomeActive_touches {s : State} (hm : 0x181080000064390 &&& mm = 0x181080000064390) (hT : Touches mm z0 s) :
    Touches mm z0 (becomeActive s) := by
  unfold becomeActive
  refine setTwinState_touches (Touches.inc hm rfl) ?_
  refine incSat_touches (Touches.has hm rfl) ?_
  refine irqEvent_touches (Touches.inc hm rfl) (Touches.has hm rfl) ?_
  exact closeFollowed_touches (Touches.inc hm rfl) hT

theorem applyVerdict_touches {s : State} {v : ℕ} (hm : 0x9814E8000066F94 &&& mm = 0x9814E8000066F94) (hT : Touches mm z0 s) :
    Touches mm z0 (applyVerdict s v) := by
  unfold applyVerdict
  extract_lets -merge -underBinder x5 x6 x7 src8 x9
  try clear_value x5
  have hx6 : Touches mm z0 x6 := by
    subst x6
    exact wr_touches (Touches.has hm rfl) hT
  try clear_value x6
  have hx7 : Touches mm z0 x7 := by
    subst x7
    split
    · extract_lets -merge -underBinder src11
      exact setTwinPart_touches (Touches.inc hm rfl) hx6
    · exact hx6
  try clear_value x7
  have hx9 : Touches mm z0 x9 := by
    subst x9
    exact Touches.twin (Touches.has hm rfl) hx7
  try clear_value x9
  refine Touches.ite ?_ ?_
  · exact hT
  · split
    · refine setTwinState_touches (Touches.inc hm rfl) ?_
      exact irqEvent_touches (Touches.inc hm rfl) (Touches.has hm rfl) hx9
    · extract_lets -merge -underBinder x13
      have hx13 : Touches mm z0 x13 := by
        subst x13
        refine Touches.foldl ?_ (fun u x => ?_)
        · exact hx9
        · revert x u; intro u14 y
          beta_reduce
          exact endReq_touches (Touches.inc hm rfl) (Touches.refl mm _)
      try clear_value x13
      refine Touches.ite ?_ ?_
      · refine setTwinState_touches (Touches.inc hm rfl) ?_
        refine incSat_touches (Touches.has hm rfl) ?_
        exact irqEvent_touches (Touches.inc hm rfl) (Touches.has hm rfl) hx13
      · exact becomeActive_touches (Touches.inc hm rfl) hx9
    · refine Touches.ite ?_ ?_
      · exact setTwinState_touches (Touches.inc hm rfl) hx9
      · exact setTwinState_touches (Touches.inc hm rfl) hx9

theorem tellPace_touches {s : State} (hm : 0x4800 &&& mm = 0x4800) (hT : Touches mm z0 s) :
    Touches mm z0 (tellPace s) := by
  unfold tellPace
  extract_lets -merge -underBinder x1
  try clear_value x1
  refine Touches.ite ?_ ?_
  · exact hT
  · refine Touches.ite ?_ ?_
    · exact hT
    · refine sendTwin_touches (Touches.inc hm rfl) ?_
      refine Touches.foldl ?_ (fun u x => ?_)
      · exact hT
      · revert x u; intro u2 y
        beta_reduce
        extract_lets -merge -underBinder src4
        exact setTwinPart_touches (Touches.inc hm rfl) (Touches.refl mm _)

theorem refuseLaunch_touches {s : State} {d : LaunchDesc} {src : LaunchSrc} {st : Status} {rec : Bool}
    (hm : 0x9814E8000066F94 &&& mm = 0x9814E8000066F94) (hT : Touches mm z0 s) :
    Touches mm z0 (refuseLaunch s d src st rec) := by
  unfold refuseLaunch
  extract_lets -merge -underBinder x1
  have hx1 : Touches mm z0 x1 := by
    subst x1
    refine Touches.ite ?_ ?_
    · exact memWrite_touches (Touches.has hm rfl) (Touches.has hm rfl) hT
    · exact hT
  try clear_value x1
  split
  · refine Touches.ite ?_ ?_
    · exact finishCmd_touches (Touches.inc hm rfl) hx1
    · exact hx1
  · split
    · exact hx1
    · extract_lets -merge -underBinder src4 x5
      have hx5 : Touches mm z0 x5 := by
        subst x5
        refine setServSlot_touches (Touches.inc hm rfl) ?_
        exact setWork_touches (Touches.inc hm rfl) hx1
      try clear_value x5
      refine Touches.ite ?_ ?_
      · exact setWork_touches (Touches.inc hm rfl) hx1
      · exact faultSlot_touches (Touches.inc hm rfl) hx5
  · exact twinRefused_touches (Touches.inc hm rfl) hx1

theorem captureRows_touches {s : State} {d : LaunchDesc} {arg2 : List ℕ} (hm : 0x80000000380 &&& mm = 0x80000000380)
    (hT : Touches mm z0 s) :
    Touches mm z0 (captureRows s d arg2).1 := by
  unfold captureRows
  split
  · exact Touches.mkI hT
  · extract_lets -merge -underBinder x4 x5 x6 x7
    try clear_value x4
    try clear_value x5
    have hx6 : Touches mm z0 x6 := by
      subst x6
      refine Touches.ite ?_ ?_
      · exact setSeq_touches (Touches.inc hm rfl) hT
      · exact incSat_touches (Touches.has hm rfl) hT
    try clear_value x6
    try clear_value x7
    split
    · rename_i p8 p9 e10
      have h11 : Touches mm z0 p8 := by
        have e := congrArg Prod.fst e10
        refine Eq.mp (congrArg (Touches mm z0) e) ?_
        clear e e10
        exact captureRows_touches (Touches.inc hm rfl) hx6
      exact Touches.mkI h11

theorem holdMemcs_touches {s : State} {img : List Byte} {v : ℕ} (hm : 0x800000000 &&& mm = 0x800000000) (hT : Touches mm z0 s) :
    Touches mm z0 (holdMemcs s img v) := by
  unfold holdMemcs
  refine Touches.foldl ?_ (fun u x => ?_)
  · exact hT
  · revert x u; intro u0 y
    beta_reduce
    exact wr_touches (Touches.has hm rfl) (Touches.refl mm _)

theorem busyCells_touches {s : State} {p : ℕ} {v : ℕ} (hm : 0x100000000 &&& mm = 0x100000000) (hT : Touches mm z0 s) :
    Touches mm z0 (busyCells s p v) := by
  unfold busyCells
  refine Touches.foldl ?_ (fun u x => ?_)
  · exact hT
  · revert x u; intro u0 y
    beta_reduce
    split
    · exact wr_touches (Touches.has hm rfl) (Touches.refl mm _)
    · exact Touches.refl mm _

theorem startLaunch_touches {s : State} {p : ℕ} {q : QLaunch} (hm : 0x80901C10380 &&& mm = 0x80901C10380) (hT : Touches mm z0 s) :
    Touches mm z0 (startLaunch s p q) := by
  unfold startLaunch
  extract_lets -merge -underBinder x4 x5 x6 x7
  try clear_value x4
  try clear_value x5
  have hx6 : Touches mm z0 x6 := by
    subst x6
    refine Touches.ite ?_ ?_
    · exact hT
    · exact clearResident_touches (Touches.inc hm rfl) hT
  try clear_value x6
  try clear_value x7
  split
  · rename_i p8 p9 e10
    have h11 : Touches mm z0 p8 := by
      have e := congrArg Prod.fst e10
      refine Eq.mp (congrArg (Touches mm z0) e) ?_
      clear e e10
      refine Touches.iteV Prod.fst ?_ ?_
      · exact Touches.mkI hx6
      · exact captureRows_touches (Touches.inc hm rfl) hx6
    extract_lets -merge -underBinder x19 x20 x21 x22 src23 x24 src25
    try clear_value x19
    have hx20 : Touches mm z0 x20 := by
      subst x20
      refine busyCells_touches (Touches.inc hm rfl) ?_
      exact holdMemcs_touches (Touches.inc hm rfl) h11
    try clear_value x20
    have hx21 : Touches mm z0 x21 := by
      subst x21
      refine Touches.foldl ?_ (fun u x => ?_)
      · exact hx20
      · revert x u; intro u26 y
        beta_reduce
        extract_lets -merge -underBinder src28
        exact setCell_touches (Touches.inc hm rfl) (Touches.refl mm _)
    try clear_value x21
    have hx22 : Touches mm z0 x22 := by
      subst x22
      refine Touches.ite ?_ ?_
      · refine Touches.foldl ?_ (fun u x => ?_)
        · exact hx21
        · revert x u; intro u29 y
          beta_reduce
          exact setPipe_touches (Touches.inc hm rfl) (Touches.refl mm _)
      · exact hx21
    try clear_value x22
    have hx24 : Touches mm z0 x24 := by
      subst x24
      exact Touches.security (Touches.has hm rfl) hx22
    try clear_value x24
    exact setPart_touches (Touches.inc hm rfl) hx24

theorem emptySlot_touches {s : State} {n : ℕ} (hm : 0x800428002040D80 &&& mm = 0x800428002040D80) (hT : Touches mm z0 s) :
    Touches mm z0 (emptySlot s n) := by
  unfold emptySlot
  extract_lets -merge -underBinder x2 x3
  try clear_value x2
  have hx3 : Touches mm z0 x3 := by
    subst x3
    exact memZero_touches (Touches.has hm rfl) (Touches.has hm rfl) hT
  try clear_value x3
  refine Touches.foldl ?_ (fun u x => ?_)
  · exact setSlot_touches (Touches.inc hm rfl) hx3
  · revert x u; intro u4 y
    beta_reduce
    exact finishCmd_touches (Touches.inc hm rfl) (Touches.refl mm _)

theorem refuseQueued_touches {s : State} {n : ℕ} {st : Status} (hm : 0x9814E8001066F94 &&& mm = 0x9814E8001066F94)
    (hT : Touches mm z0 s) :
    Touches mm z0 (refuseQueued s n st) := by
  unfold refuseQueued
  refine Touches.foldl ?_ (fun u x => ?_)
  · exact hT
  · revert x u; intro u0 y
    beta_reduce
    extract_lets -merge -underBinder x4 src5 x6
    try clear_value x4
    have hx6 : Touches mm u0 x6 := by
      subst x6
      exact setPart_touches (Touches.inc hm rfl) (Touches.refl mm _)
    try clear_value x6
    refine Touches.foldl ?_ (fun u x => ?_)
    · exact hx6
    · revert x u; intro u7 y
      beta_reduce
      exact refuseLaunch_touches (Touches.inc hm rfl) (Touches.refl mm _)

theorem unloadReady_touches {s : State} {n : ℕ} {q : ℕ} (hm : 0x9814E8003066F94 &&& mm = 0x9814E8003066F94)
    (hT : Touches mm z0 s) :
    Touches mm z0 (unloadReady s n q) := by
  unfold unloadReady
  extract_lets -merge -underBinder src3 x4 src5
  have hx4 : Touches mm z0 x4 := by
    subst x4
    exact setSlot_touches (Touches.inc hm rfl) hT
  try clear_value x4
  refine Touches.ite ?_ ?_
  · refine refuseQueued_touches (Touches.inc hm rfl) ?_
    exact setSlot_touches (Touches.inc hm rfl) hx4
  · refine emptySlot_touches (Touches.inc hm rfl) ?_
    exact refuseQueued_touches (Touches.inc hm rfl) hx4

theorem issueLaunch_touches {s : State} {p : ℕ} {q : QLaunch} (hm : 0x1000000 &&& mm = 0x1000000) (hT : Touches mm z0 s) :
    Touches mm z0 (issueLaunch s p q) := by
  unfold issueLaunch
  extract_lets -merge -underBinder src1
  exact setPart_touches (Touches.inc hm rfl) hT

theorem touchResident_touches {s : State} {isPipe : Bool} {n : ℕ} (hm : 0x1000000 &&& mm = 0x1000000) (hT : Touches mm z0 s) :
    Touches mm z0 (touchResident s isPipe n) := by
  unfold touchResident
  split
  · refine Touches.ite ?_ ?_
    · exact hT
    · exact clearResident_touches (Touches.inc hm rfl) hT
  · exact hT

theorem startTest_touches {s : State} {isPipe : Bool} {n : ℕ} (hm : 0xFFFFFFFF01000000 &&& mm = 0xFFFFFFFF01000000)
    (hT : Touches mm z0 s) :
    Touches mm z0 (startTest s isPipe n) := by
  unfold startTest
  refine Touches.ite ?_ ?_
  · exact hT
  · refine touchResident_touches (Touches.inc hm rfl) ?_
    exact wr_touches (Touches.anyPage hm rfl _) hT

theorem showQuads_touches {s : State} {d : ℕ} (hm : 0x4400000000 &&& mm = 0x4400000000) (hT : Touches mm z0 s) :
    Touches mm z0 (showQuads s d) := by
  unfold showQuads
  extract_lets -merge -underBinder x2 x3
  have hx2 : Touches mm z0 x2 := by
    subst x2
    refine Touches.foldl ?_ (fun u x => ?_)
    · exact hT
    · revert x u; intro u4 y
      beta_reduce
      extract_lets -merge -underBinder x6
      try clear_value x6
      exact wr_touches (Touches.has hm rfl) (Touches.refl mm _)
  try clear_value x2
  have hx3 : Touches mm z0 x3 := by
    subst x3
    refine Touches.foldl ?_ (fun u x => ?_)
    · exact hx2
    · revert x u; intro u7 y
      beta_reduce
      extract_lets -merge -underBinder x11 x12 x13
      try clear_value x11
      try clear_value x12
      try clear_value x13
      refine wr_touches (Touches.has hm rfl) ?_
      refine wr_touches (Touches.has hm rfl) ?_
      refine wr_touches (Touches.has hm rfl) ?_
      exact wr_touches (Touches.has hm rfl) (Touches.refl mm _)
  try clear_value x3
  exact wr_touches (Touches.has hm rfl) hx3

theorem recomputeClass_touches {s : State} {d : ℕ} (hm : 0x180004400060010 &&& mm = 0x180004400060010) (hT : Touches mm z0 s) :
    Touches mm z0 (recomputeClass s d) := by
  unfold recomputeClass
  extract_lets -merge -underBinder x3 x4 x5
  try clear_value x3
  have hx4 : Touches mm z0 x4 := by
    subst x4
    refine wr_touches (Touches.has hm rfl) ?_
    refine wr_touches (Touches.has hm rfl) ?_
    exact showQuads_touches (Touches.inc hm rfl) hT
  try clear_value x4
  try clear_value x5
  refine Touches.ite ?_ ?_
  · exact hx4
  · refine irqEvent_touches (Touches.inc hm rfl) (Touches.has hm rfl) ?_
    refine incSat_touches (Touches.has hm rfl) ?_
    exact wr_touches (Touches.has hm rfl) hx4

theorem retireUnit_touches {s : State} {isPipe : Bool} {n : ℕ} (hm : 0xFFFFFFFF00000020 &&& mm = 0xFFFFFFFF00000020)
    (hT : Touches mm z0 s) :
    Touches mm z0 (retireUnit s isPipe n) := by
  unfold retireUnit
  refine setDom_touches (Touches.inc hm rfl) ?_
  refine wr_touches (Touches.anyPage hm rfl _) ?_
  exact wr_touches (Touches.anyPage hm rfl _) hT

theorem retireRecord_touches {s : State} {isPipe : Bool} {n : ℕ} {a : ℕ} {b : ℕ}
    (hm : 0x180000000060010 &&& mm = 0x180000000060010) (hT : Touches mm z0 s) :
    Touches mm z0 (retireRecord s isPipe n a b) := by
  unfold retireRecord
  exact recordEvent_touches (Touches.inc hm rfl) hT

theorem carryOut_touches {s : State} {isPipe : Bool} {n : ℕ} {pass : Bool}
    (hm : 0xFFFFFFFF05460030 &&& mm = 0xFFFFFFFF05460030) (hT : Touches mm z0 s) :
    Touches mm z0 (carryOut s isPipe n pass) := by
  unfold carryOut
  extract_lets -merge -underBinder x11 x12 x13 x14 x15 x16 x17 x18 x19 src20 x21
  try clear_value x11
  try clear_value x12
  try clear_value x13
  have hx14 : Touches mm z0 x14 := by
    subst x14
    exact touchResident_touches (Touches.inc hm rfl) hT
  try clear_value x14
  have hx15 : Touches mm z0 x15 := by
    subst x15
    exact retireUnit_touches (Touches.inc hm rfl) hx14
  try clear_value x15
  try clear_value x16
  have hx17 : Touches mm z0 x17 := by
    subst x17
    split
    · extract_lets -merge -underBinder x23
      have hx23 : Touches mm z0 x23 := by
        subst x23
        refine setDom_touches (Touches.inc hm rfl) ?_
        refine wr_touches (Touches.anyPage hm rfl _) ?_
        exact wr_touches (Touches.anyPage hm rfl _) hx15
      try clear_value x23
      refine Touches.ite ?_ ?_
      · refine Touches.ite ?_ ?_
        · exact hx23
        · exact setCell_touches (Touches.inc hm rfl) hx23
      · exact hx15
    · exact hx15
  try clear_value x17
  have hx18 : Touches mm z0 x18 := by
    subst x18
    refine copyRemap_touches (Touches.inc hm rfl) ?_
    exact recomputeClass_touches (Touches.inc hm rfl) hx17
  try clear_value x18
  have hx19 : Touches mm z0 x19 := by
    subst x19
    split
    · extract_lets -merge -underBinder src25
      exact setPart_touches (Touches.inc hm rfl) hx18
    · exact hx18
  try clear_value x19
  have hx21 : Touches mm z0 x21 := by
    subst x21
    exact Touches.comb_retire (Touches.has hm rfl) hx19
  try clear_value x21
  refine raiseIrq_touches (Touches.has hm rfl) (Touches.anyPage hm rfl _) ?_
  exact retireRecord_touches (Touches.inc hm rfl) hx21

theorem askRetire_touches {s : State} {isPipe : Bool} {n : ℕ} {why : RetireReason}
    (hm : 0xFFFFFFFF04060030 &&& mm = 0xFFFFFFFF04060030) (hT : Touches mm z0 s) :
    Touches mm z0 (askRetire s isPipe n why) := by
  unfold askRetire
  extract_lets -merge -underBinder src1
  refine Touches.ite ?_ ?_
  · exact hT
  · refine Touches.ite ?_ ?_
    · refine copyRemap_touches (Touches.inc hm rfl) ?_
      refine recomputeClass_touches (Touches.inc hm rfl) ?_
      exact retireUnit_touches (Touches.inc hm rfl) hT
    · refine Touches.ite ?_ ?_
      · exact hT
      · exact Touches.comb_retire (Touches.has hm rfl) hT

theorem beginTwinTests_touches {s : State} (hm : 0xFFFFFFFF01004000 &&& mm = 0xFFFFFFFF01004000) (hT : Touches mm z0 s) :
    Touches mm z0 (beginTwinTests s) := by
  unfold beginTwinTests
  split
  · extract_lets -merge -underBinder src2 x3
    have hx3 : Touches mm z0 x3 := by
      subst x3
      exact Touches.twin (Touches.has hm rfl) hT
    try clear_value x3
    refine Touches.ite ?_ ?_
    · exact hT
    · refine Touches.foldl ?_ (fun u x => ?_)
      · refine Touches.foldl ?_ (fun u x => ?_)
        · exact hx3
        · revert x u; intro u4 y
          beta_reduce
          exact startTest_touches (Touches.inc hm rfl) (Touches.refl mm _)
      · revert x u; intro u5 y
        beta_reduce
        exact startTest_touches (Touches.inc hm rfl) (Touches.refl mm _)
  · exact hT

theorem declareDivergence_touches {s : State} {p : ℕ} {serial : ℕ} {mark : ℕ} {slotNo : ℕ} {mis : ℕ} {cause : ℕ}
    (hm : 0xFFFFFFFF01064810 &&& mm = 0xFFFFFFFF01064810) (hT : Touches mm z0 s) :
    Touches mm z0 (declareDivergence s p serial mark slotNo mis cause) := by
  unfold declareDivergence
  extract_lets -merge -underBinder x10 x11 x12 x13 src14 x15 x16 x17 x18 src19
  try clear_value x10
  have hx11 : Touches mm z0 x11 := by
    subst x11
    refine raiseIrq_touches (Touches.has hm rfl) (Touches.has hm rfl) ?_
    exact statusEvent_touches (Touches.inc hm rfl) hT
  try clear_value x11
  have hx12 : Touches mm z0 x12 := by
    subst x12
    refine wr_touches (Touches.has hm rfl) ?_
    refine wr_touches (Touches.has hm rfl) ?_
    refine wr_touches (Touches.has hm rfl) ?_
    exact wr_touches (Touches.has hm rfl) hx11
  try clear_value x12
  have hx13 : Touches mm z0 x13 := by
    subst x13
    refine incSat_touches (Touches.has hm rfl) ?_
    refine wr_touches (Touches.has hm rfl) ?_
    exact twinCause_touches (Touches.inc hm rfl) hx12
  try clear_value x13
  have hx15 : Touches mm z0 x15 := by
    subst x15
    exact setTwinPart_touches (Touches.inc hm rfl) hx13
  try clear_value x15
  have hx16 : Touches mm z0 x16 := by
    subst x16
    refine Touches.ite ?_ ?_
    · exact sendTwin_touches (Touches.inc hm rfl) hx15
    · exact hx15
  try clear_value x16
  try clear_value x17
  try clear_value x18
  refine Touches.ite ?_ ?_
  · refine beginTwinTests_touches (Touches.inc hm rfl) ?_
    refine setTwinState_touches (Touches.inc hm rfl) ?_
    exact Touches.twin (Touches.has hm rfl) hx16
  · exact hT

theorem twinResults_touches {s : State} (hm : 0x9814E8000066F94 &&& mm = 0x9814E8000066F94) (hT : Touches mm z0 s) :
    Touches mm z0 (twinResults s) := by
  unfold twinResults
  split
  · extract_lets -merge -underBinder x3 src4 x5
    try clear_value x3
    have hx5 : Touches mm z0 x5 := by
      subst x5
      refine Touches.ite ?_ ?_
      · refine sendTwin_touches (Touches.inc hm rfl) ?_
        exact Touches.twin (Touches.has hm rfl) hT
      · exact hT
    try clear_value x5
    split
    · split
      · extract_lets -merge -underBinder x7
        try clear_value x7
        refine Touches.ite ?_ ?_
        · refine applyVerdict_touches (Touches.inc hm rfl) ?_
          exact sendTwin_touches (Touches.inc hm rfl) hx5
        · exact hx5
      · exact hx5
    · exact hx5
  · exact hT

theorem twinTestDone_touches {s : State} {isPipe : Bool} {n : ℕ} {ok : Bool}
    (hm : 0x9814E8000066F94 &&& mm = 0x9814E8000066F94) (hT : Touches mm z0 s) :
    Touches mm z0 (twinTestDone s isPipe n ok) := by
  unfold twinTestDone
  split
  · extract_lets -merge -underBinder src1
    refine Touches.ite ?_ ?_
    · refine twinResults_touches (Touches.inc hm rfl) ?_
      exact Touches.twin (Touches.has hm rfl) hT
    · exact hT
  · exact hT

theorem evaluatePoint_touches {s : State} {p : ℕ} {serial : ℕ} {mark : ℕ} {slotNo : ℕ} {variant : ℕ} {own : List Byte}
    {peer : List Byte} (hm : 0xFFFFFFFF01064810 &&& mm = 0xFFFFFFFF01064810) (hT : Touches mm z0 s) :
    Touches mm z0 (evaluatePoint s p serial mark slotNo variant own peer) := by
  unfold evaluatePoint
  split
  · exact hT
  · split
    · extract_lets -merge -underBinder x1
      have hx1 : Touches mm z0 x1 := by
        subst x1
        refine addSat_touches (Touches.has hm rfl) ?_
        exact incSat_touches (Touches.has hm rfl) hT
      try clear_value x1
      refine Touches.ite ?_ ?_
      · exact declareDivergence_touches (Touches.inc hm rfl) hx1
      · exact hx1

theorem abandonRunning_touches {s : State} {p : ℕ} {cause : Cause} {ty : ℕ}
    (hm : 0x180000001060010 &&& mm = 0x180000001060010) (hT : Touches mm z0 s) :
    Touches mm z0 (abandonRunning s p cause ty) := by
  unfold abandonRunning
  split
  · exact hT
  · extract_lets -merge -underBinder x2 x3
    try clear_value x2
    have hx3 : Touches mm z0 x3 := by
      subst x3
      exact recordEvent_touches (Touches.inc hm rfl) hT
    try clear_value x3
    refine Touches.ite ?_ ?_
    · exact hT
    · refine Touches.ite ?_ ?_
      · exact modRunning_touches (Touches.inc hm rfl) hx3
      · exact modRunning_touches (Touches.inc hm rfl) hx3

theorem abandonAll_touches {s : State} {f : Running → Bool} {cause : Cause} {ty : ℕ}
    (hm : 0x180000001060010 &&& mm = 0x180000001060010) (hT : Touches mm z0 s) :
    Touches mm z0 (abandonAll s f cause ty) := by
  unfold abandonAll
  refine Touches.foldl ?_ (fun u x => ?_)
  · exact hT
  · revert x u; intro u0 y
    beta_reduce
    split
    · refine Touches.ite ?_ ?_
      · exact abandonRunning_touches (Touches.inc hm rfl) (Touches.refl mm _)
      · exact Touches.refl mm _
    · exact Touches.refl mm _

theorem setVctx_touches {s : State} {c : ℕ} {x : VCtx} (hm : 0x8000 &&& mm = 0x8000) (hT : Touches mm z0 s) :
    Touches mm z0 (setVctx s c x) := by
  unfold setVctx
  extract_lets -merge -underBinder src1
  exact Touches.video (Touches.has hm rfl) hT

theorem endVideo_touches {s : State} {q : ℕ} {tenant : ℕ} {result : ℕ} {tagged : ℕ} {st : Status} {r : VidRecord}
    (hm : 0x800428000040D80 &&& mm = 0x800428000040D80) (hT : Touches mm z0 s) :
    Touches mm z0 (endVideo s q tenant result tagged st r) := by
  unfold endVideo
  extract_lets -merge -underBinder x1
  have hx1 : Touches mm z0 x1 := by
    subst x1
    refine Touches.ite ?_ ?_
    · exact towardsHost_touches (Touches.inc hm rfl) hT
    · exact hT
  try clear_value x1
  exact finishCmd_touches (Touches.inc hm rfl) hx1

theorem freeEngine_touches {s : State} {v : ℕ} (hm : 0x20000000000000 &&& mm = 0x20000000000000) (hT : Touches mm z0 s) :
    Touches mm z0 (freeEngine s v) := by
  unfold freeEngine
  refine wr_touches (Touches.has hm rfl) ?_
  refine wr_touches (Touches.has hm rfl) ?_
  exact wr_touches (Touches.has hm rfl) hT

theorem freeVctx_touches {s : State} {c : ℕ} (hm : 0xFFFFFFFF00008000 &&& mm = 0xFFFFFFFF00008000) (hT : Touches mm z0 s) :
    Touches mm z0 (freeVctx s c) := by
  unfold freeVctx
  extract_lets -merge -underBinder x1
  have hx1 : Touches mm z0 x1 := by
    subst x1
    exact setVctx_touches (Touches.inc hm rfl) hT
  try clear_value x1
  refine Touches.foldl ?_ (fun u x => ?_)
  · exact hx1
  · revert x u; intro u2 y
    beta_reduce
    exact wr_touches (Touches.anyPage hm rfl _) (Touches.refl mm _)

theorem finishClose_touches {s : State} {c : ℕ} (hm : 0xFFFFFFFF00048D80 &&& mm = 0xFFFFFFFF00048D80) (hT : Touches mm z0 s) :
    Touches mm z0 (finishClose s c) := by
  unfold finishClose
  extract_lets -merge -underBinder x1
  try clear_value x1
  refine Touches.ite ?_ ?_
  · split
    · refine endVideo_touches (Touches.inc hm rfl) ?_
      exact freeVctx_touches (Touches.inc hm rfl) hT
    · exact freeVctx_touches (Touches.inc hm rfl) hT
  · exact hT

theorem endJob_touches {s : State} {j : VJob} {tagged : ℕ} {st : Status} {r : VidRecord}
    (hm : 0xFFFFFFFF00048D80 &&& mm = 0xFFFFFFFF00048D80) (hT : Touches mm z0 s) :
    Touches mm z0 (endJob s j tagged st r) := by
  unfold endJob
  extract_lets -merge -underBinder src3 x4 x5
  have hx4 : Touches mm z0 x4 := by
    subst x4
    exact Touches.video (Touches.has hm rfl) hT
  try clear_value x4
  have hx5 : Touches mm z0 x5 := by
    subst x5
    refine Touches.ite ?_ ?_
    · refine Touches.foldl ?_ (fun u x => ?_)
      · exact hx4
      · revert x u; intro u6 y
        beta_reduce
        exact freeEngine_touches (Touches.inc hm rfl) (Touches.refl mm _)
    · refine Touches.ite ?_ ?_
      · refine Touches.foldl ?_ (fun u x => ?_)
        · exact hx4
        · revert x u; intro u7 y
          beta_reduce
          exact wr_touches (Touches.has hm rfl) (Touches.refl mm _)
      · exact hx4
  try clear_value x5
  refine finishClose_touches (Touches.inc hm rfl) ?_
  exact endVideo_touches (Touches.inc hm rfl) hx5

theorem endJobs_touches {s : State} {f : VJob → Bool} {st : Status} (hm : 0xFFFFFFFF00048D80 &&& mm = 0xFFFFFFFF00048D80)
    (hT : Touches mm z0 s) :
    Touches mm z0 (endJobs s f st) := by
  unfold endJobs
  refine Touches.foldl ?_ (fun u x => ?_)
  · exact hT
  · revert x u; intro u0 y
    beta_reduce
    exact endJob_touches (Touches.inc hm rfl) (Touches.refl mm _)

theorem dropPre_touches {s : State} {j : PreJob} (hm : 0x40000000008000 &&& mm = 0x40000000008000) (hT : Touches mm z0 s) :
    Touches mm z0 (dropPre s j) := by
  unfold dropPre
  extract_lets -merge -underBinder x3 src4 x5
  try clear_value x3
  have hx5 : Touches mm z0 x5 := by
    subst x5
    exact Touches.video (Touches.has hm rfl) hT
  try clear_value x5
  refine Touches.ite ?_ ?_
  · refine wr_touches (Touches.has hm rfl) ?_
    exact wr_touches (Touches.has hm rfl) hx5
  · exact hx5

theorem endPres_touches {s : State} {f : PreJob → Bool} {st : Status} (hm : 0x840428000048D80 &&& mm = 0x840428000048D80)
    (hT : Touches mm z0 s) :
    Touches mm z0 (endPres s f st) := by
  unfold endPres
  refine Touches.foldl ?_ (fun u x => ?_)
  · exact hT
  · revert x u; intro u0 y
    beta_reduce
    refine finishCmd_touches (Touches.inc hm rfl) ?_
    exact dropPre_touches (Touches.inc hm rfl) (Touches.refl mm _)

theorem retireVideo_touches {s : State} {t : ℕ} (hm : 0xFFFFFFFF00048D80 &&& mm = 0xFFFFFFFF00048D80) (hT : Touches mm z0 s) :
    Touches mm z0 (retireVideo s t) := by
  unfold retireVideo
  refine endPres_touches (Touches.inc hm rfl) ?_
  exact endJobs_touches (Touches.inc hm rfl) hT

theorem stopVideo_touches {s : State} {t : ℕ} (hm : 0xFFFFFFFF00048D80 &&& mm = 0xFFFFFFFF00048D80) (hT : Touches mm z0 s) :
    Touches mm z0 (stopVideo s t) := by
  unfold stopVideo
  refine endPres_touches (Touches.inc hm rfl) ?_
  exact endJobs_touches (Touches.inc hm rfl) hT

theorem freeVideo_touches {s : State} {t : ℕ} (hm : 0xFFFFFFFF00008000 &&& mm = 0xFFFFFFFF00008000) (hT : Touches mm z0 s) :
    Touches mm z0 (freeVideo s t) := by
  unfold freeVideo
  refine Touches.foldl ?_ (fun u x => ?_)
  · exact hT
  · revert x u; intro u0 y
    beta_reduce
    refine Touches.ite ?_ ?_
    · exact freeVctx_touches (Touches.inc hm rfl) (Touches.refl mm _)
    · exact Touches.refl mm _

theorem stopJobs_touches {s : State} (hm : 0xFFFFFFFF00048D80 &&& mm = 0xFFFFFFFF00048D80) (hT : Touches mm z0 s) :
    Touches mm z0 (stopJobs s) := by
  unfold stopJobs
  refine endPres_touches (Touches.inc hm rfl) ?_
  exact endJobs_touches (Touches.inc hm rfl) hT

theorem reachTime_touches {s : State} {t : ℕ} (hm : 0x1 &&& mm = 0x1) (hT : Touches mm z0 s) :
    Touches mm z0 (reachTime s t) := by
  unfold reachTime
  exact Touches.now (Touches.has hm rfl) hT

theorem setEngine_touches {s : State} {e : ℕ} {l : List Xfer} (hm : 0x10000000400 &&& mm = 0x10000000400) (hT : Touches mm z0 s) :
    Touches mm z0 (setEngine s e l) := by
  unfold setEngine
  extract_lets -merge -underBinder src2 x3
  have hx3 : Touches mm z0 x3 := by
    subst x3
    exact Touches.host (Touches.has hm rfl) hT
  try clear_value x3
  refine wr_touches (Touches.has hm rfl) ?_
  exact wr_touches (Touches.has hm rfl) hx3

theorem pushXfer_touches {s : State} {e : ℕ} {x : Xfer} (hm : 0x10000000400 &&& mm = 0x10000000400) (hT : Touches mm z0 s) :
    Touches mm z0 (pushXfer s e x) := by
  unfold pushXfer
  exact setEngine_touches (Touches.inc hm rfl) hT

theorem sealedOut_touches {s : State} {x : Xfer} {i : ℕ} (hm : 0x40400 &&& mm = 0x40400) (hT : Touches mm z0 s) :
    Touches mm z0 (sealedOut s x i) := by
  unfold sealedOut
  extract_lets -merge -underBinder x3 x4 x5
  try clear_value x3
  try clear_value x4
  try clear_value x5
  refine Touches.ite ?_ ?_
  · exact hT
  · refine emit_touches (Touches.has hm rfl) ?_
    exact setStream_touches (Touches.inc hm rfl) hT

theorem moveBytes_touches {s : State} {e : ℕ} {x : Xfer} {n : ℕ} {data : List Byte}
    (hm : 0x10000040584 &&& mm = 0x10000040584) (hT : Touches mm z0 s) :
    Touches mm z0 (moveBytes s e x n data).1 := by
  unfold moveBytes
  extract_lets -merge -underBinder x5 x6 x7 x8 x9
  have hx5 : Touches mm z0 x5 := by
    subst x5
    exact memWrite_touches (Touches.has hm rfl) (Touches.has hm rfl) hT
  try clear_value x5
  try clear_value x6
  have hx7 : Touches mm z0 x7 := by
    subst x7
    refine Touches.ite ?_ ?_
    · refine Touches.foldl ?_ (fun u x => ?_)
      · exact hT
      · revert x u; intro u10 y
        beta_reduce
        exact sealedOut_touches (Touches.inc hm rfl) (Touches.refl mm _)
    · refine Touches.foldl ?_ (fun u x => ?_)
      · exact hT
      · revert x u; intro u11 y
        beta_reduce
        exact hostWrite_touches (Touches.inc hm rfl) (Touches.refl mm _)
  try clear_value x7
  try clear_value x8
  have hx9 : Touches mm z0 x9 := by
    subst x9
    refine Touches.foldl ?_ (fun u x => ?_)
    · exact hT
    · revert x u; intro u12 y
      beta_reduce
      exact memWrite_touches (Touches.has hm rfl) (Touches.has hm rfl) (Touches.refl mm _)
  try clear_value x9
  refine Touches.iteV Prod.fst ?_ ?_
  · refine Touches.mkI ?_
    exact incWrap_touches (Touches.has hm rfl) hx5
  · refine Touches.iteV Prod.fst ?_ ?_
    · refine Touches.mkI ?_
      exact incWrap_touches (Touches.has hm rfl) hx7
    · refine Touches.mkI ?_
      exact useFree_touches (Touches.inc hm rfl) hx9

theorem moveCut_touches {s : State} {e : ℕ} {x : Xfer} {d : List Byte} (hm : 0x10000040584 &&& mm = 0x10000040584)
    (hT : Touches mm z0 s) :
    Touches mm z0 (moveCut s e x d).1 := by
  unfold moveCut
  extract_lets -merge -underBinder x1
  try clear_value x1
  refine Touches.iteV Prod.fst ?_ ?_
  · refine moveBytes_touches (Touches.inc hm rfl) ?_
    refine Touches.ite ?_ ?_
    · exact hT
    · exact setStream_touches (Touches.inc hm rfl) hT
  · exact moveBytes_touches (Touches.inc hm rfl) hT

theorem dropWeightKey_touches {s : State} {n : ℕ} (hm : 0x2000000000000 &&& mm = 0x2000000000000) (hT : Touches mm z0 s) :
    Touches mm z0 (dropWeightKey s n) := by
  unfold dropWeightKey
  refine wr_touches (Touches.has hm rfl) ?_
  exact wr_touches (Touches.has hm rfl) hT

theorem endXfer_touches {s : State} {e : ℕ} {x : Xfer} {st : Status} {bytes : ℕ}
    (hm : 0x982438000060D90 &&& mm = 0x982438000060D90) (hT : Touches mm z0 s) :
    Touches mm z0 (endXfer s e x st bytes) := by
  unfold endXfer
  extract_lets -merge -underBinder x2 x3
  have hx2 : Touches mm z0 x2 := by
    subst x2
    refine Touches.ite ?_ ?_
    · exact hT
    · exact incSat_touches (Touches.has hm rfl) hT
  try clear_value x2
  have hx3 : Touches mm z0 x3 := by
    subst x3
    refine Touches.ite ?_ ?_
    · exact dropWeightKey_touches (Touches.inc hm rfl) hx2
    · exact hx2
  try clear_value x3
  split
  · exact finishCmd_touches (Touches.inc hm rfl) hx3
  · extract_lets -merge -underBinder x5
    have hx5 : Touches mm z0 x5 := by
      subst x5
      refine wr_touches (Touches.has hm rfl) ?_
      exact wr_touches (Touches.has hm rfl) hx3
    try clear_value x5
    exact irqEvent_touches (Touches.inc hm rfl) (Touches.has hm rfl) hx5

theorem stopXfers_touches {s : State} {p : Xfer → Bool} {st : Status} {cut : Cut}
    (hm : 0x982438000060D94 &&& mm = 0x982438000060D94) (hT : Touches mm z0 s) :
    Touches mm z0 (stopXfers s p st cut) := by
  unfold stopXfers
  refine Touches.foldl ?_ (fun u x => ?_)
  · exact hT
  · revert x u; intro u0 y
    beta_reduce
    split
    · exact Touches.refl mm _
    · extract_lets -merge -underBinder x2
      try clear_value x2
      refine Touches.ite ?_ ?_
      · exact Touches.refl mm _
      · split
        · rename_i p3 p4 e5
          have h6 : Touches mm u0 p3 := by
            have e := congrArg Prod.fst e5
            refine Eq.mp (congrArg (Touches mm u0) e) ?_
            clear e e5
            refine Touches.iteV Prod.fst ?_ ?_
            · exact moveCut_touches (Touches.inc hm rfl) (Touches.refl mm _)
            · exact Touches.mkI (Touches.refl mm _)
          extract_lets -merge -underBinder x8
          have hx8 : Touches mm u0 x8 := by
            subst x8
            exact setEngine_touches (Touches.inc hm rfl) h6
          try clear_value x8
          refine Touches.foldl ?_ (fun u x => ?_)
          · exact hx8
          · revert x u; intro u9 y
            beta_reduce
            exact endXfer_touches (Touches.inc hm rfl) (Touches.refl mm _)

theorem abortCopy_touches {s : State} {cmd : ℕ} (hm : 0x800 &&& mm = 0x800) (hT : Touches mm z0 s) :
    Touches mm z0 (abortCopy s cmd) := by
  unfold abortCopy
  split
  · exact hT
  · extract_lets -merge -underBinder x3 x4 x5
    try clear_value x3
    try clear_value x4
    have hx5 : Touches mm z0 x5 := by
      subst x5
      exact setPort_touches (Touches.inc hm rfl) hT
    try clear_value x5
    refine Touches.ite ?_ ?_
    · exact enqueue_touches (Touches.inc hm rfl) hx5
    · exact hT

theorem endPeer_touches {s : State} {cmd : ℕ} {st : Status} (hm : 0x800428000040D80 &&& mm = 0x800428000040D80)
    (hT : Touches mm z0 s) :
    Touches mm z0 (endPeer s cmd st) := by
  unfold endPeer
  split
  · exact hT
  · extract_lets -merge -underBinder src2 x3
    have hx3 : Touches mm z0 x3 := by
      subst x3
      exact Touches.links (Touches.has hm rfl) hT
    try clear_value x3
    exact finishCmd_touches (Touches.inc hm rfl) hx3

theorem deleteQueue_touches {s : State} {q : ℕ} {cut : Cut} (hm : 0x982438000060D94 &&& mm = 0x982438000060D94)
    (hT : Touches mm z0 s) :
    Touches mm z0 (deleteQueue s q cut) := by
  unfold deleteQueue
  extract_lets -merge -underBinder x2 x3
  try clear_value x2
  have hx3 : Touches mm z0 x3 := by
    subst x3
    refine wr_touches (Touches.has hm rfl) ?_
    refine wr_touches (Touches.has hm rfl) ?_
    exact setQueue_touches (Touches.inc hm rfl) hT
  try clear_value x3
  split
  · exact disableQueue_touches (Touches.inc hm rfl) hx3
  · refine Touches.ite ?_ ?_
    · exact disableQueue_touches (Touches.inc hm rfl) hx3
    · split
      · exact stopXfers_touches (Touches.inc hm rfl) hx3
      · exact disableQueue_touches (Touches.inc hm rfl) hx3
      · split
        · refine endPeer_touches (Touches.inc hm rfl) ?_
          exact abortCopy_touches (Touches.inc hm rfl) hx3
        · exact disableQueue_touches (Touches.inc hm rfl) hx3
      · exact hx3

theorem dropWaking_touches {s : State} {i : ℕ} (hm : 0x800428000042D80 &&& mm = 0x800428000042D80) (hT : Touches mm z0 s) :
    Touches mm z0 (dropWaking s i) := by
  unfold dropWaking
  split
  · refine Touches.ite ?_ ?_
    · refine finishCmd_touches (Touches.inc hm rfl) ?_
      exact setReq_touches (Touches.inc hm rfl) hT
    · exact hT
  · exact hT

theorem functionReset_touches {s : State} {fn : ℕ} {cut : Cut} (hm : 0x9824F8000062F94 &&& mm = 0x9824F8000062F94)
    (hT : Touches mm z0 s) :
    Touches mm z0 (functionReset s fn cut) := by
  unfold functionReset
  extract_lets -merge -underBinder x5 x6 x7 x8 src9
  try clear_value x5
  have hx6 : Touches mm z0 x6 := by
    subst x6
    refine Touches.foldl ?_ (fun u x => ?_)
    · exact hT
    · revert x u; intro u10 y
      beta_reduce
      exact deleteQueue_touches (Touches.inc hm rfl) (Touches.refl mm _)
  try clear_value x6
  have hx7 : Touches mm z0 x7 := by
    subst x7
    exact stopXfers_touches (Touches.inc hm rfl) hx6
  try clear_value x7
  have hx8 : Touches mm z0 x8 := by
    subst x8
    refine Touches.foldl ?_ (fun u x => ?_)
    · exact hx7
    · revert x u; intro u11 y
      beta_reduce
      split
      · refine Touches.ite ?_ ?_
        · exact dropWaking_touches (Touches.inc hm rfl) (Touches.refl mm _)
        · exact endReq_touches (Touches.inc hm rfl) (Touches.refl mm _)
      · exact Touches.refl mm _
  try clear_value x8
  exact Touches.host (Touches.has hm rfl) hx8

theorem hostPortReset_touches {s : State} {cut : Cut} (hm : 0x9824F8000062F94 &&& mm = 0x9824F8000062F94) (hT : Touches mm z0 s) :
    Touches mm z0 (hostPortReset s cut) := by
  unfold hostPortReset
  extract_lets -merge -underBinder x8 x9 x10 x11 x12 src13 x14 x15
  have hx8 : Touches mm z0 x8 := by
    subst x8
    refine Touches.foldl ?_ (fun u x => ?_)
    · exact hT
    · revert x u; intro u16 y
      beta_reduce
      exact functionReset_touches (Touches.inc hm rfl) (Touches.refl mm _)
  try clear_value x8
  try clear_value x9
  have hx10 : Touches mm z0 x10 := by
    subst x10
    refine wr_touches (Touches.has hm rfl) ?_
    refine wr_touches (Touches.has hm rfl) ?_
    exact wr_touches (Touches.has hm rfl) hx8
  try clear_value x10
  have hx11 : Touches mm z0 x11 := by
    subst x11
    refine wr_touches (Touches.has hm rfl) ?_
    refine wr_touches (Touches.has hm rfl) ?_
    exact wr_touches (Touches.has hm rfl) hx10
  try clear_value x11
  have hx12 : Touches mm z0 x12 := by
    subst x12
    exact wr_touches (Touches.has hm rfl) hx11
  try clear_value x12
  have hx14 : Touches mm z0 x14 := by
    subst x14
    exact Touches.host (Touches.has hm rfl) hx12
  try clear_value x14
  have hx15 : Touches mm z0 x15 := by
    subst x15
    refine Touches.ite ?_ ?_
    · exact irqEvent_touches (Touches.inc hm rfl) (Touches.has hm rfl) hx14
    · exact hx14
  try clear_value x15
  exact irqEvent_touches (Touches.inc hm rfl) (Touches.has hm rfl) hx15

theorem refLost_touches {s : State} (hm : 0x180A00000061010 &&& mm = 0x180A00000061010) (hT : Touches mm z0 s) :
    Touches mm z0 (refLost s) := by
  unfold refLost
  extract_lets -merge -underBinder x3 src4 x5
  have hx3 : Touches mm z0 x3 := by
    subst x3
    refine irqEvent_touches (Touches.inc hm rfl) (Touches.has hm rfl) ?_
    exact wr_touches (Touches.has hm rfl) hT
  try clear_value x3
  have hx5 : Touches mm z0 x5 := by
    subst x5
    exact Touches.hive (Touches.has hm rfl) hx3
  try clear_value x5
  refine Touches.ite ?_ ?_
  · refine Touches.ite ?_ ?_
    · exact setQuality_touches (Touches.inc hm rfl) hx5
    · exact hx5
  · exact hT

theorem twinLinkDown_touches {s : State} (hm : 0x181080000064390 &&& mm = 0x181080000064390) (hT : Touches mm z0 s) :
    Touches mm z0 (twinLinkDown s) := by
  unfold twinLinkDown
  extract_lets -merge -underBinder x3 x4 x5
  try clear_value x3
  try clear_value x4
  have hx5 : Touches mm z0 x5 := by
    subst x5
    refine twinCause_touches (Touches.inc hm rfl) ?_
    exact irqEvent_touches (Touches.inc hm rfl) (Touches.has hm rfl) hT
  try clear_value x5
  refine Touches.ite ?_ ?_
  · refine Touches.ite ?_ ?_
    · refine setTwinState_touches (Touches.inc hm rfl) ?_
      refine twinReset_touches (Touches.inc hm rfl) ?_
      exact closeFollowed_touches (Touches.inc hm rfl) hx5
    · refine setTwinState_touches (Touches.inc hm rfl) ?_
      exact twinReset_touches (Touches.inc hm rfl) hx5
  · exact hT

theorem startTraining_touches {s : State} {p : ℕ} (hm : 0x200000000800 &&& mm = 0x200000000800) (hT : Touches mm z0 s) :
    Touches mm z0 (startTraining s p) := by
  unfold startTraining
  extract_lets -merge -underBinder x1
  try clear_value x1
  refine wr_touches (Touches.has hm rfl) ?_
  exact setPort_touches (Touches.inc hm rfl) hT

theorem tellUnreachable_touches {s : State} {src : ℕ} {b : Msg} (hm : 0x40800 &&& mm = 0x40800) (hT : Touches mm z0 s) :
    Touches mm z0 (tellUnreachable s src b) := by
  unfold tellUnreachable
  split
  · exact sendMsg_touches (Touches.inc hm rfl) hT
  · exact sendMsg_touches (Touches.inc hm rfl) hT
  · exact sendMsg_touches (Touches.inc hm rfl) hT

theorem portDown_touches {s : State} {p : ℕ} {cause : ℕ} (hm : 0x981EA8000065F90 &&& mm = 0x981EA8000065F90)
    (hT : Touches mm z0 s) :
    Touches mm z0 (portDown s p cause) := by
  unfold portDown
  extract_lets -merge -underBinder x14 x15 x16 x17 x18 x19 x20 x21 x22 src23 x24 x25 x26 x27
  try clear_value x14
  try clear_value x15
  try clear_value x16
  try clear_value x17
  try clear_value x18
  try clear_value x19
  have hx20 : Touches mm z0 x20 := by
    subst x20
    exact setPort_touches (Touches.inc hm rfl) hT
  try clear_value x20
  have hx21 : Touches mm z0 x21 := by
    subst x21
    refine wr_touches (Touches.has hm rfl) ?_
    refine wr_touches (Touches.has hm rfl) ?_
    exact wr_touches (Touches.has hm rfl) hx20
  try clear_value x21
  have hx22 : Touches mm z0 x22 := by
    subst x22
    refine irqEvent_touches (Touches.inc hm rfl) (Touches.has hm rfl) ?_
    refine incSat_touches (Touches.has hm rfl) ?_
    exact wr_touches (Touches.has hm rfl) hx21
  try clear_value x22
  have hx24 : Touches mm z0 x24 := by
    subst x24
    exact Touches.links (Touches.has hm rfl) hx22
  try clear_value x24
  have hx25 : Touches mm z0 x25 := by
    subst x25
    refine Touches.ite ?_ ?_
    · exact refLost_touches (Touches.inc hm rfl) hx24
    · exact hx24
  try clear_value x25
  have hx26 : Touches mm z0 x26 := by
    subst x26
    refine Touches.foldl ?_ (fun u x => ?_)
    · exact hx25
    · revert x u; intro u28 y
      beta_reduce
      exact endPeer_touches (Touches.inc hm rfl) (Touches.refl mm _)
  try clear_value x26
  have hx27 : Touches mm z0 x27 := by
    subst x27
    refine Touches.foldl ?_ (fun u x => ?_)
    · exact hx26
    · revert x u; intro u29 y
      beta_reduce
      exact tellUnreachable_touches (Touches.inc hm rfl) (Touches.refl mm _)
  try clear_value x27
  refine Touches.ite ?_ ?_
  · exact hT
  · refine Touches.ite ?_ ?_
    · exact twinLinkDown_touches (Touches.inc hm rfl) hx27
    · exact hx27

theorem linkUp_touches {s : State} {p : ℕ} (hm : 0x180200000060810 &&& mm = 0x180200000060810) (hT : Touches mm z0 s) :
    Touches mm z0 (linkUp s p) := by
  unfold linkUp
  extract_lets -merge -underBinder x4 x5 x6 x7
  try clear_value x4
  have hx5 : Touches mm z0 x5 := by
    subst x5
    exact setPort_touches (Touches.inc hm rfl) hT
  try clear_value x5
  have hx6 : Touches mm z0 x6 := by
    subst x6
    refine wr_touches (Touches.has hm rfl) ?_
    exact wr_touches (Touches.has hm rfl) hx5
  try clear_value x6
  have hx7 : Touches mm z0 x7 := by
    subst x7
    refine Touches.ite ?_ ?_
    · exact wr_touches (Touches.has hm rfl) hx6
    · exact hx6
  try clear_value x7
  exact irqEvent_touches (Touches.inc hm rfl) (Touches.has hm rfl) hx7

theorem showReplay_touches {s : State} {p : ℕ} (hm : 0x200000000000 &&& mm = 0x200000000000) (hT : Touches mm z0 s) :
    Touches mm z0 (showReplay s p) := by
  unfold showReplay
  extract_lets -merge -underBinder x1
  try clear_value x1
  refine wr_touches (Touches.has hm rfl) ?_
  exact wr_touches (Touches.has hm rfl) hT

theorem startReplay_touches {s : State} {p : ℕ} (hm : 0x180200000060810 &&& mm = 0x180200000060810) (hT : Touches mm z0 s) :
    Touches mm z0 (startReplay s p) := by
  unfold startReplay
  extract_lets -merge -underBinder x3 x4 x5
  try clear_value x3
  try clear_value x4
  have hx5 : Touches mm z0 x5 := by
    subst x5
    exact setPort_touches (Touches.inc hm rfl) hT
  try clear_value x5
  refine Touches.ite ?_ ?_
  · exact hT
  · refine irqEvent_touches (Touches.inc hm rfl) (Touches.has hm rfl) ?_
    refine incSat_touches (Touches.has hm rfl) ?_
    exact showReplay_touches (Touches.inc hm rfl) hx5

theorem endStopped_touches {s : State} (hm : 0x800428000040D80 &&& mm = 0x800428000040D80) (hT : Touches mm z0 s) :
    Touches mm z0 (endStopped s) := by
  unfold endStopped
  refine Touches.foldl ?_ (fun u x => ?_)
  · exact hT
  · revert x u; intro u0 y
    beta_reduce
    split
    · refine Touches.ite ?_ ?_
      · refine endPeer_touches (Touches.inc hm rfl) ?_
        exact abortCopy_touches (Touches.inc hm rfl) (Touches.refl mm _)
      · exact Touches.refl mm _
    · exact Touches.refl mm _

theorem applyAck_touches {s : State} {p : ℕ} {ack : ℕ} {credit : List ℕ} (hm : 0x981EA8000065F90 &&& mm = 0x981EA8000065F90)
    (hT : Touches mm z0 s) :
    Touches mm z0 (applyAck s p ack credit) := by
  unfold applyAck
  extract_lets -merge -underBinder x6 x7 x8 x9 x10 x11
  try clear_value x6
  try clear_value x7
  try clear_value x8
  try clear_value x9
  try clear_value x10
  have hx11 : Touches mm z0 x11 := by
    subst x11
    refine endStopped_touches (Touches.inc hm rfl) ?_
    refine showReplay_touches (Touches.inc hm rfl) ?_
    exact setPort_touches (Touches.inc hm rfl) hT
  try clear_value x11
  refine Touches.ite ?_ ?_
  · exact portDown_touches (Touches.inc hm rfl) hx11
  · exact hx11

theorem setHiveState_touches {s : State} {v : ℕ} (hm : 0x400000000000 &&& mm = 0x400000000000) (hT : Touches mm z0 s) :
    Touches mm z0 (setHiveState s v) := by
  unfold setHiveState
  exact wr_touches (Touches.has hm rfl) hT

theorem setMember_touches {s : State} {m : ℕ} {b : Bool} (hm : 0x400000000000 &&& mm = 0x400000000000) (hT : Touches mm z0 s) :
    Touches mm z0 (setMember s m b) := by
  unfold setMember
  extract_lets -merge -underBinder x2 x3
  try clear_value x2
  try clear_value x3
  exact wr_touches (show Nat.testBit _ (32 + 14 % 32) = true from Touches.has hm rfl) hT

theorem setMembers_touches {s : State} {l : List ℕ} (hm : 0x400000000000 &&& mm = 0x400000000000) (hT : Touches mm z0 s) :
    Touches mm z0 (setMembers s l) := by
  unfold setMembers
  refine Touches.foldl ?_ (fun u x => ?_)
  · refine Touches.foldl ?_ (fun u x => ?_)
    · exact hT
    · revert x u; intro u0 y
      beta_reduce
      exact wr_touches (show Nat.testBit _ (32 + 14 % 32) = true from Touches.has hm rfl) (Touches.refl mm _)
  · revert x u; intro u1 y
    beta_reduce
    exact setMember_touches (Touches.inc hm rfl) (Touches.refl mm _)

theorem setDeputy_touches {s : State} {d : ℕ} (hm : 0x400000000000 &&& mm = 0x400000000000) (hT : Touches mm z0 s) :
    Touches mm z0 (setDeputy s d) := by
  unfold setDeputy
  refine wr_touches (Touches.has hm rfl) ?_
  exact wr_touches (Touches.has hm rfl) hT

theorem abandonChannels_touches {s : State} (hm : 0x400000000000 &&& mm = 0x400000000000) (hT : Touches mm z0 s) :
    Touches mm z0 (abandonChannels s) := by
  unfold abandonChannels
  refine Touches.foldl ?_ (fun u x => ?_)
  · exact hT
  · revert x u; intro u0 y
    beta_reduce
    refine Touches.ite ?_ ?_
    · exact Touches.refl mm _
    · exact wr_touches (Touches.has hm rfl) (Touches.refl mm _)

theorem stopPeers_touches {s : State} (hm : 0x800428000040D80 &&& mm = 0x800428000040D80) (hT : Touches mm z0 s) :
    Touches mm z0 (stopPeers s) := by
  unfold stopPeers
  refine Touches.foldl ?_ (fun u x => ?_)
  · exact hT
  · revert x u; intro u0 y
    beta_reduce
    split
    · extract_lets -merge -underBinder src2
      refine Touches.ite ?_ ?_
      · exact Touches.links (Touches.has hm rfl) (Touches.refl mm _)
      · refine endPeer_touches (Touches.inc hm rfl) ?_
        exact abortCopy_touches (Touches.inc hm rfl) (Touches.refl mm _)
    · exact Touches.refl mm _

theorem leaveHive_touches {s : State} {st : ℕ} (hm : 0x980C28000061D90 &&& mm = 0x980C28000061D90) (hT : Touches mm z0 s) :
    Touches mm z0 (leaveHive s st) := by
  unfold leaveHive
  extract_lets -merge -underBinder x5 x6 x7 src8 x9
  try clear_value x5
  have hx6 : Touches mm z0 x6 := by
    subst x6
    refine setHiveState_touches (Touches.inc hm rfl) ?_
    exact abandonChannels_touches (Touches.inc hm rfl) hT
  try clear_value x6
  have hx7 : Touches mm z0 x7 := by
    subst x7
    exact irqEvent_touches (Touches.inc hm rfl) (Touches.has hm rfl) hx6
  try clear_value x7
  have hx9 : Touches mm z0 x9 := by
    subst x9
    refine setQuality_touches (Touches.inc hm rfl) ?_
    exact Touches.hive (Touches.has hm rfl) hx7
  try clear_value x9
  refine Touches.ite ?_ ?_
  · exact stopPeers_touches (Touches.inc hm rfl) hx9
  · exact hx9

theorem hiveStopped_touches {s : State} (hm : 0x980C28000061D90 &&& mm = 0x980C28000061D90) (hT : Touches mm z0 s) :
    Touches mm z0 (hiveStopped s) := by
  unfold hiveStopped
  refine Touches.ite ?_ ?_
  · exact leaveHive_touches (Touches.inc hm rfl) hT
  · exact hT

theorem stepTime_touches {s : State} {t : ℕ} (hm : 0x180800000060011 &&& mm = 0x180800000060011) (hT : Touches mm z0 s) :
    Touches mm z0 (stepTime s t) := by
  unfold stepTime
  refine Touches.ite ?_ ?_
  · exact hT
  · refine irqEvent_touches (Touches.inc hm rfl) (Touches.has hm rfl) ?_
    refine addSat_touches (Touches.has hm rfl) ?_
    exact Touches.now (Touches.has hm rfl) hT

theorem setBar_touches {s : State} {b : ℕ} {x : BarGen} (hm : 0x1000 &&& mm = 0x1000) (hT : Touches mm z0 s) :
    Touches mm z0 (setBar s b x) := by
  unfold setBar
  extract_lets -merge -underBinder src1
  exact Touches.hive (Touches.has hm rfl) hT

theorem takeVerdict_touches {s : State} {b : ℕ} {g : ℕ} {v : ℕ} (hm : 0x800428000040D80 &&& mm = 0x800428000040D80)
    (hT : Touches mm z0 s) :
    Touches mm z0 (takeVerdict s b g v) := by
  unfold takeVerdict
  refine Touches.ite ?_ ?_
  · exact signalUpdate_touches (Touches.inc hm rfl) hT
  · exact hT

theorem takeRelease_touches {s : State} {b : ℕ} {g : ℕ} (hm : 0x800428000040D80 &&& mm = 0x800428000040D80)
    (hT : Touches mm z0 s) :
    Touches mm z0 (takeRelease s b g) := by
  unfold takeRelease
  extract_lets -merge -underBinder x3 x4 x5
  have hx3 : Touches mm z0 x3 := by
    subst x3
    refine wr_touches (Touches.has hm rfl) ?_
    exact wr_touches (Touches.has hm rfl) hT
  try clear_value x3
  have hx4 : Touches mm z0 x4 := by
    subst x4
    refine wr_touches (Touches.has hm rfl) ?_
    exact wr_touches (Touches.has hm rfl) hx3
  try clear_value x4
  have hx5 : Touches mm z0 x5 := by
    subst x5
    exact signalUpdate_touches (Touches.inc hm rfl) hx4
  try clear_value x5
  refine Touches.ite ?_ ?_
  · exact arriveIf_touches (Touches.inc hm rfl) hx5
  · exact hx3

theorem takeBackup_touches {s : State} {b : ℕ} {shard : ℕ} (hm : 0x980428000060D90 &&& mm = 0x980428000060D90)
    (hT : Touches mm z0 s) :
    Touches mm z0 (takeBackup s b shard) := by
  unfold takeBackup
  extract_lets -merge -underBinder x2 x3
  have hx2 : Touches mm z0 x2 := by
    subst x2
    refine wr_touches (Touches.has hm rfl) ?_
    exact wr_touches (Touches.has hm rfl) hT
  try clear_value x2
  have hx3 : Touches mm z0 x3 := by
    subst x3
    refine Touches.ite ?_ ?_
    · exact signalUpdate_touches (Touches.inc hm rfl) hx2
    · exact hx2
  try clear_value x3
  exact irqEvent_touches (Touches.inc hm rfl) (Touches.has hm rfl) hx3

theorem toMember_touches {s : State} {m : ℕ} {here : State → State} {msg : Msg} (hm : 0x40800 &&& mm = 0x40800)
    (hk2 : ∀ z u0, Touches mm z u0 → Touches mm z (here u0)) (hT : Touches mm z0 s) :
    Touches mm z0 (toMember s m here msg) := by
  unfold toMember
  refine Touches.ite ?_ ?_
  · exact hT
  · refine Touches.ite ?_ ?_
    · exact hk2 _ _ hT
    · exact sendMsg_touches (Touches.inc hm rfl) hT

theorem sendBackup_touches {s : State} {b : ℕ} {shard : ℕ} {home : ℕ} {dst : ℕ}
    (hm : 0x980428000061D90 &&& mm = 0x980428000061D90) (hT : Touches mm z0 s) :
    Touches mm z0 (sendBackup s b shard home dst) := by
  unfold sendBackup
  extract_lets -merge -underBinder x2 x3
  try clear_value x2
  have hx3 : Touches mm z0 x3 := by
    subst x3
    exact setBar_touches (Touches.inc hm rfl) hT
  try clear_value x3
  refine Touches.ite ?_ ?_
  · exact hT
  · refine toMember_touches (Touches.inc hm rfl) (fun u0 u1 hu => ?_) ?_
    · revert hu u1 u0
      intro bu4 u4_0 hu4
      beta_reduce
      exact takeBackup_touches (Touches.inc hm rfl) hu4
    · exact hx3

theorem showRanks_touches {s : State} {m : ℕ} (hm : 0x400000000000 &&& mm = 0x400000000000) (hT : Touches mm z0 s) :
    Touches mm z0 (showRanks s m) := by
  unfold showRanks
  refine wr_touches (Touches.has hm rfl) ?_
  exact wr_touches (Touches.has hm rfl) hT

theorem countPlacing_touches {s : State} {m : ℕ} {last : Bool} (hm : 0x180400000061010 &&& mm = 0x180400000061010)
    (hT : Touches mm z0 s) :
    Touches mm z0 (countPlacing s m last) := by
  unfold countPlacing
  extract_lets -merge -underBinder x5 src6 x7 x8 x9
  try clear_value x5
  have hx7 : Touches mm z0 x7 := by
    subst x7
    exact Touches.hive (Touches.has hm rfl) hT
  try clear_value x7
  have hx8 : Touches mm z0 x8 := by
    subst x8
    exact showRanks_touches (Touches.inc hm rfl) hx7
  try clear_value x8
  try clear_value x9
  refine Touches.ite ?_ ?_
  · refine irqEvent_touches (Touches.inc hm rfl) (Touches.has hm rfl) ?_
    exact wr_touches (Touches.has hm rfl) hx8
  · refine Touches.ite ?_ ?_
    · exact wr_touches (Touches.has hm rfl) hx8
    · exact hx8

theorem showBudget_touches {s : State} (hm : 0x400000000000 &&& mm = 0x400000000000) (hT : Touches mm z0 s) :
    Touches mm z0 (showBudget s) := by
  unfold showBudget
  refine wr_touches (Touches.has hm rfl) ?_
  exact wr_touches (Touches.has hm rfl) hT

theorem moveShards_touches {s : State} {m : ℕ} (hm : 0x980428000061D90 &&& mm = 0x980428000061D90) (hT : Touches mm z0 s) :
    Touches mm z0 (moveShards s m) := by
  unfold moveShards
  refine Touches.foldl ?_ (fun u x => ?_)
  · exact hT
  · revert x u; intro u0 y
    beta_reduce
    split
    · extract_lets -merge -underBinder x8 x9 x10 x11 x12 x13 x14
      try clear_value x8
      try clear_value x9
      have hx10 : ∀ x10a0 x10a1 z, Touches mm z x10a0 → Touches mm z (x10 x10a0 x10a1) := by
        intro x10a0 x10a1 z hu
        subst x10
        beta_reduce
        extract_lets -merge -underBinder src16
        exact Touches.hive (Touches.has hm rfl) hu
      try clear_value x10
      have hx11 : Touches mm u0 x11 := by
        subst x11
        exact hx10 _ _ _ (Touches.refl mm _)
      try clear_value x11
      have hx12 : Touches mm u0 x12 := by
        subst x12
        exact hx10 _ _ _ (Touches.refl mm _)
      try clear_value x12
      try clear_value x13
      have hx14 : Touches mm u0 x14 := by
        subst x14
        exact setBar_touches (Touches.inc hm rfl) hx12
      try clear_value x14
      refine Touches.ite ?_ ?_
      · exact Touches.refl mm _
      · refine Touches.ite ?_ ?_
        · refine Touches.ite ?_ ?_
          · exact hx11
          · exact sendBackup_touches (Touches.inc hm rfl) hx11
        · exact irqEvent_touches (Touches.inc hm rfl) (Touches.has hm rfl) hx14
    · exact Touches.refl mm _

theorem removeMember_touches {s : State} {m : ℕ} {st : ℕ} {told : Bool} (hm : 0x980428000061D90 &&& mm = 0x980428000061D90)
    (hT : Touches mm z0 s) :
    Touches mm z0 (removeMember s m st told) := by
  unfold removeMember
  extract_lets -merge -underBinder x5 x6 x7 x8 x9
  try clear_value x5
  have hx6 : Touches mm z0 x6 := by
    subst x6
    refine wr_touches (Touches.has hm rfl) ?_
    exact setMember_touches (Touches.inc hm rfl) hT
  try clear_value x6
  have hx7 : Touches mm z0 x7 := by
    subst x7
    refine Touches.ite ?_ ?_
    · exact setDeputy_touches (Touches.inc hm rfl) hx6
    · exact hx6
  try clear_value x7
  try clear_value x8
  have hx9 : Touches mm z0 x9 := by
    subst x9
    refine Touches.foldl ?_ (fun u x => ?_)
    · exact hx7
    · revert x u; intro u10 y
      beta_reduce
      exact sendMsg_touches (Touches.inc hm rfl) (Touches.refl mm _)
  try clear_value x9
  exact moveShards_touches (Touches.inc hm rfl) hx9

theorem expelMember_touches {s : State} {m : ℕ} (hm : 0x980428000061D90 &&& mm = 0x980428000061D90) (hT : Touches mm z0 s) :
    Touches mm z0 (expelMember s m) := by
  unfold expelMember
  extract_lets -merge -underBinder src3 x4 x5
  have hx4 : Touches mm z0 x4 := by
    subst x4
    exact Touches.hive (Touches.has hm rfl) hT
  try clear_value x4
  have hx5 : Touches mm z0 x5 := by
    subst x5
    refine removeMember_touches (Touches.inc hm rfl) ?_
    exact showBudget_touches (Touches.inc hm rfl) hx4
  try clear_value x5
  exact irqEvent_touches (Touches.inc hm rfl) (Touches.has hm rfl) hx5

theorem loseMember_touches {s : State} {m : ℕ} (hm : 0x980428000061D90 &&& mm = 0x980428000061D90) (hT : Touches mm z0 s) :
    Touches mm z0 (loseMember s m) := by
  unfold loseMember
  refine Touches.ite ?_ ?_
  · refine irqEvent_touches (Touches.inc hm rfl) (Touches.has hm rfl) ?_
    exact removeMember_touches (Touches.inc hm rfl) hT
  · exact hT

theorem autoExpel_touches {s : State} (hm : 0x980428000061D90 &&& mm = 0x980428000061D90) (hT : Touches mm z0 s) :
    Touches mm z0 (autoExpel s) := by
  unfold autoExpel
  extract_lets -merge -underBinder src2 x3
  have hx3 : Touches mm z0 x3 := by
    subst x3
    refine showBudget_touches (Touches.inc hm rfl) ?_
    exact Touches.hive (Touches.has hm rfl) hT
  try clear_value x3
  refine Touches.ite ?_ ?_
  · exact hx3
  · split
    · exact hx3
    · refine Touches.ite ?_ ?_
      · exact expelMember_touches (Touches.inc hm rfl) hx3
      · refine Touches.foldl ?_ (fun u x => ?_)
        · exact hx3
        · revert x u; intro u4 y
          beta_reduce
          extract_lets -merge -underBinder src6
          refine raiseIrq_touches (Touches.has hm rfl) (Touches.has hm rfl) ?_
          refine statusEvent_touches (Touches.inc hm rfl) ?_
          exact Touches.hive (Touches.has hm rfl) (Touches.refl mm _)

theorem sendVerdicts_touches {s : State} {b : ℕ} (hm : 0x800428000040D80 &&& mm = 0x800428000040D80) (hT : Touches mm z0 s) :
    Touches mm z0 (sendVerdicts s b) := by
  unfold sendVerdicts
  extract_lets -merge -underBinder x1
  try clear_value x1
  refine Touches.foldl ?_ (fun u x => ?_)
  · exact hT
  · revert x u; intro u2 y
    beta_reduce
    split
    · extract_lets -merge -underBinder x4
      have hx4 : ∀ x4a0 x4a1 x4a2 z, Touches mm z x4a2 → Touches mm z (x4 x4a0 x4a1 x4a2) := by
        intro x4a0 x4a1 x4a2 z hu
        subst x4
        beta_reduce
        extract_lets -merge -underBinder x6
        try clear_value x6
        refine toMember_touches (Touches.inc hm rfl) (fun u0 u1 hu => ?_) ?_
        · revert hu u1 u0
          intro bu7 u7_0 hu7
          beta_reduce
          exact takeVerdict_touches (Touches.inc hm rfl) hu7
        · exact hu
      try clear_value x4
      refine hx4 _ _ _ _ ?_
      exact hx4 _ _ _ _ (Touches.refl mm _)
    · exact Touches.refl mm _

theorem creditRanks_touches {s : State} {b : ℕ} (hm : 0x180400000061010 &&& mm = 0x180400000061010) (hT : Touches mm z0 s) :
    Touches mm z0 (creditRanks s b) := by
  unfold creditRanks
  extract_lets -merge -underBinder x3 x4 x5
  try clear_value x3
  try clear_value x4
  have hx5 : Touches mm z0 x5 := by
    subst x5
    refine Touches.foldl ?_ (fun u x => ?_)
    · exact hT
    · revert x u; intro u6 y
      beta_reduce
      exact incSat_touches (show Nat.testBit _ (32 + 14 % 32) = true from Touches.has hm rfl) (Touches.refl mm _)
  try clear_value x5
  refine Touches.ite ?_ ?_
  · refine Touches.foldl ?_ (fun u x => ?_)
    · exact hx5
    · revert x u; intro u7 y
      beta_reduce
      exact countPlacing_touches (Touches.inc hm rfl) (Touches.refl mm _)
  · exact hx5

theorem finishGen_touches {s : State} {b : ℕ} (hm : 0x980428000061D90 &&& mm = 0x980428000061D90) (hT : Touches mm z0 s) :
    Touches mm z0 (finishGen s b) := by
  unfold finishGen
  extract_lets -merge -underBinder x8 x9 x10 x11 x12 x13 x14 x15
  try clear_value x8
  try clear_value x9
  have hx10 : Touches mm z0 x10 := by
    subst x10
    exact sendVerdicts_touches (Touches.inc hm rfl) hT
  try clear_value x10
  try clear_value x11
  try clear_value x12
  have hx13 : Touches mm z0 x13 := by
    subst x13
    exact creditRanks_touches (Touches.inc hm rfl) hx10
  try clear_value x13
  have hx14 : Touches mm z0 x14 := by
    subst x14
    exact setBar_touches (Touches.inc hm rfl) hx13
  try clear_value x14
  have hx15 : Touches mm z0 x15 := by
    subst x15
    refine Touches.foldl ?_ (fun u x => ?_)
    · exact hx14
    · revert x u; intro u16 y
      beta_reduce
      refine toMember_touches (Touches.inc hm rfl) (fun u0 u1 hu => ?_) ?_
      · revert hu u1 u0
        intro bu17 u17_0 hu17
        beta_reduce
        exact takeRelease_touches (Touches.inc hm rfl) hu17
      · exact Touches.refl mm _
  try clear_value x15
  refine Touches.ite ?_ ?_
  · exact hT
  · refine Touches.ite ?_ ?_
    · exact autoExpel_touches (Touches.inc hm rfl) hx15
    · exact hx15

theorem finishAll_touches {s : State} (hm : 0x980428000061D90 &&& mm = 0x980428000061D90) (hT : Touches mm z0 s) :
    Touches mm z0 (finishAll s) := by
  unfold finishAll
  refine Touches.foldl ?_ (fun u x => ?_)
  · exact hT
  · revert x u; intro u0 y
    beta_reduce
    exact finishGen_touches (Touches.inc hm rfl) (Touches.refl mm _)

theorem takeArrival_touches {s : State} {src : ℕ} {b : ℕ} {g : ℕ} {shard : ℕ} {time : ℕ}
    (hm : 0x400000001000 &&& mm = 0x400000001000) (hT : Touches mm z0 s) :
    Touches mm z0 (takeArrival s src b g shard time) := by
  unfold takeArrival
  extract_lets -merge -underBinder x1
  try clear_value x1
  refine Touches.ite ?_ ?_
  · exact hT
  · split
    · exact hT
    · extract_lets -merge -underBinder x4 x5
      try clear_value x4
      try clear_value x5
      refine Touches.ite ?_ ?_
      · exact incSat_touches (Touches.has hm rfl) hT
      · refine Touches.ite ?_ ?_
        · exact hT
        · refine Touches.ite ?_ ?_
          · exact hT
          · exact setBar_touches (Touches.inc hm rfl) hT

theorem loadShards_touches {s : State} (hm : 0x180400000061010 &&& mm = 0x180400000061010) (hT : Touches mm z0 s) :
    Touches mm z0 (loadShards s) := by
  unfold loadShards
  extract_lets -merge -underBinder src2 x3
  have hx3 : Touches mm z0 x3 := by
    subst x3
    exact Touches.hive (Touches.has hm rfl) hT
  try clear_value x3
  refine Touches.foldl ?_ (fun u x => ?_)
  · exact hx3
  · revert x u; intro u4 y
    beta_reduce
    split
    · extract_lets -merge -underBinder x8 src9 x10
      try clear_value x8
      have hx10 : Touches mm u4 x10 := by
        subst x10
        exact Touches.hive (Touches.has hm rfl) (Touches.refl mm _)
      try clear_value x10
      refine Touches.ite ?_ ?_
      · exact Touches.refl mm _
      · refine Touches.ite ?_ ?_
        · exact irqEvent_touches (Touches.inc hm rfl) (Touches.has hm rfl) hx10
        · exact hx10
    · exact Touches.refl mm _

theorem declareQueenLoss_touches {s : State} (hm : 0x980C28000061D90 &&& mm = 0x980C28000061D90) (hT : Touches mm z0 s) :
    Touches mm z0 (declareQueenLoss s) := by
  unfold declareQueenLoss
  extract_lets -merge -underBinder x2 src3
  have hx2 : Touches mm z0 x2 := by
    subst x2
    refine Touches.foldl ?_ (fun u x => ?_)
    · exact hT
    · revert x u; intro u4 y
      beta_reduce
      exact sendMsg_touches (Touches.inc hm rfl) (Touches.refl mm _)
  try clear_value x2
  refine Touches.ite ?_ ?_
  · refine leaveHive_touches (Touches.inc hm rfl) ?_
    exact Touches.hive (Touches.has hm rfl) hx2
  · exact hT

theorem tellLoss_touches {s : State} {m : ℕ} (hm : 0x980428000061D90 &&& mm = 0x980428000061D90) (hT : Touches mm z0 s) :
    Touches mm z0 (tellLoss s m) := by
  unfold tellLoss
  refine Touches.ite ?_ ?_
  · exact hT
  · refine Touches.ite ?_ ?_
    · refine finishAll_touches (Touches.inc hm rfl) ?_
      exact loseMember_touches (Touches.inc hm rfl) hT
    · refine Touches.ite ?_ ?_
      · exact hT
      · exact sendMsg_touches (Touches.inc hm rfl) hT

theorem hiveLeaving_touches {s : State} {p : ℕ} (hm : 0x980C28000061D90 &&& mm = 0x980C28000061D90) (hT : Touches mm z0 s) :
    Touches mm z0 (hiveLeaving s p) := by
  unfold hiveLeaving
  extract_lets -merge -underBinder x1
  try clear_value x1
  refine Touches.ite ?_ ?_
  · exact hT
  · refine Touches.ite ?_ ?_
    · exact declareQueenLoss_touches (Touches.inc hm rfl) hT
    · refine Touches.ite ?_ ?_
      · exact tellLoss_touches (Touches.inc hm rfl) hT
      · exact hT

theorem takeReport_touches {s : State} {m : ℕ} {l : List ℕ} (hm : 0x400000001000 &&& mm = 0x400000001000) (hT : Touches mm z0 s) :
    Touches mm z0 (takeReport s m l) := by
  unfold takeReport
  extract_lets -merge -underBinder src4 x5 x6 x7
  have hx5 : Touches mm z0 x5 := by
    subst x5
    exact Touches.hive (Touches.has hm rfl) hT
  try clear_value x5
  try clear_value x6
  have hx7 : Touches mm z0 x7 := by
    subst x7
    refine wr_touches (Touches.has hm rfl) ?_
    refine wr_touches (Touches.has hm rfl) ?_
    exact wr_touches (Touches.has hm rfl) hx5
  try clear_value x7
  exact wr_touches (Touches.has hm rfl) hx7

theorem sendGroupKey_touches {s : State} {l : List ℕ} (hm : 0x40800 &&& mm = 0x40800) (hT : Touches mm z0 s) :
    Touches mm z0 (sendGroupKey s l) := by
  unfold sendGroupKey
  split
  · refine Touches.ite ?_ ?_
    · exact hT
    · refine Touches.foldl ?_ (fun u x => ?_)
      · exact hT
      · revert x u; intro u0 y
        beta_reduce
        exact sendMsg_touches (Touches.inc hm rfl) (Touches.refl mm _)
  · exact hT

theorem setGroupKey_touches {s : State} {id : List ℕ} {key : ℕ} (hm : 0x182000000070010 &&& mm = 0x182000000070010)
    (hT : Touches mm z0 s) :
    Touches mm z0 (setGroupKey s id key) := by
  unfold setGroupKey
  extract_lets -merge -underBinder x2 src3
  have hx2 : Touches mm z0 x2 := by
    subst x2
    refine Touches.foldl ?_ (fun u x => ?_)
    · exact hT
    · revert x u; intro u4 y
      beta_reduce
      exact wr_touches (show Nat.testBit _ (32 + 17 % 32) = true from Touches.has hm rfl) (Touches.refl mm _)
  try clear_value x2
  refine irqEvent_touches (Touches.inc hm rfl) (Touches.has hm rfl) ?_
  refine wr_touches (Touches.has hm rfl) ?_
  exact Touches.security (Touches.has hm rfl) hx2

theorem modRetiring_touches {s : State} {t : ℕ} {f : Retiring → Retiring} (hm : 0x10000 &&& mm = 0x10000) (hT : Touches mm z0 s) :
    Touches mm z0 (modRetiring s t f) := by
  unfold modRetiring
  extract_lets -merge -underBinder src1
  exact Touches.security (Touches.has hm rfl) hT

theorem dropQueued_touches {s : State} {t : ℕ} {st : Status} (hm : 0x982438000060D90 &&& mm = 0x982438000060D90)
    (hT : Touches mm z0 s) :
    Touches mm z0 (dropQueued s t st) := by
  unfold dropQueued
  refine Touches.foldl ?_ (fun u x => ?_)
  · exact hT
  · revert x u; intro u0 y
    beta_reduce
    split
    · exact Touches.refl mm _
    · extract_lets -merge -underBinder x2
      try clear_value x2
      refine Touches.ite ?_ ?_
      · exact Touches.refl mm _
      · refine Touches.foldl ?_ (fun u x => ?_)
        · exact setEngine_touches (Touches.inc hm rfl) (Touches.refl mm _)
        · revert x u; intro u3 y
          beta_reduce
          exact endXfer_touches (Touches.inc hm rfl) (Touches.refl mm _)

theorem endRequests_touches {s : State} {t : ℕ} (hm : 0x9804E8000062F94 &&& mm = 0x9804E8000062F94) (hT : Touches mm z0 s) :
    Touches mm z0 (endRequests s t) := by
  unfold endRequests
  refine Touches.foldl ?_ (fun u x => ?_)
  · exact hT
  · revert x u; intro u0 y
    beta_reduce
    exact endReq_touches (Touches.inc hm rfl) (Touches.refl mm _)

theorem beginRetire_touches {s : State} {t : ℕ} {q : Option ℕ} {abandon : Bool}
    (hm : 0xFFFFFFFF0107AF94 &&& mm = 0xFFFFFFFF0107AF94) (hT : Touches mm z0 s) :
    Touches mm z0 (beginRetire s t q abandon) := by
  unfold beginRetire
  extract_lets -merge -underBinder x9 src10 x11 x12 x13 src14 x15 x16 x17
  have hx9 : Touches mm z0 x9 := by
    subst x9
    refine wr_touches (Touches.has hm rfl) ?_
    exact wr_touches (Touches.has hm rfl) hT
  try clear_value x9
  have hx11 : Touches mm z0 x11 := by
    subst x11
    exact Touches.security (Touches.has hm rfl) hx9
  try clear_value x11
  have hx12 : Touches mm z0 x12 := by
    subst x12
    refine endRequests_touches (Touches.inc hm rfl) ?_
    exact dropQueued_touches (Touches.inc hm rfl) hx11
  try clear_value x12
  have hx13 : Touches mm z0 x13 := by
    subst x13
    exact retireVideo_touches (Touches.inc hm rfl) hx12
  try clear_value x13
  have hx15 : Touches mm z0 x15 := by
    subst x15
    exact Touches.kv (Touches.has hm rfl) hx13
  try clear_value x15
  have hx16 : Touches mm z0 x16 := by
    subst x16
    exact wr_touches (Touches.has hm rfl) hx15
  try clear_value x16
  have hx17 : Touches mm z0 x17 := by
    subst x17
    refine Touches.ite ?_ ?_
    · exact abandonAll_touches (Touches.inc hm rfl) hx16
    · exact hx16
  try clear_value x17
  exact wr_touches (Touches.has hm rfl) hx17

theorem resetTenant_touches {s : State} {t : ℕ} (hm : 0xFFFFFFFF00002000 &&& mm = 0xFFFFFFFF00002000) (hT : Touches mm z0 s) :
    Touches mm z0 (resetTenant s t) := by
  unfold resetTenant
  extract_lets -merge -underBinder src1
  refine Touches.foldl ?_ (fun u x => ?_)
  · exact Touches.serving (Touches.has hm rfl) hT
  · revert x u; intro u2 y
    beta_reduce
    exact wr_touches (Touches.anyPage hm rfl _) (Touches.refl mm _)

theorem dropStreams_touches {s : State} {t : ℕ} (hm : 0x8000000400 &&& mm = 0x8000000400) (hT : Touches mm z0 s) :
    Touches mm z0 (dropStreams s t) := by
  unfold dropStreams
  extract_lets -merge -underBinder src1
  refine wr_touches (Touches.has hm rfl) ?_
  exact Touches.host (Touches.has hm rfl) hT

theorem dropTenantKeys_touches {s : State} {t : ℕ} (hm : 0x2008000000400 &&& mm = 0x2008000000400) (hT : Touches mm z0 s) :
    Touches mm z0 (dropTenantKeys s t) := by
  unfold dropTenantKeys
  refine Touches.foldl ?_ (fun u x => ?_)
  · refine dropStreams_touches (Touches.inc hm rfl) ?_
    exact wr_touches (Touches.has hm rfl) hT
  · revert x u; intro u0 y
    beta_reduce
    refine Touches.ite ?_ ?_
    · exact dropWeightKey_touches (Touches.inc hm rfl) (Touches.refl mm _)
    · exact Touches.refl mm _

theorem freeTenant_touches {s : State} {t : ℕ} (hm : 0x2000000000000 &&& mm = 0x2000000000000) (hT : Touches mm z0 s) :
    Touches mm z0 (freeTenant s t) := by
  unfold freeTenant
  extract_lets -merge -underBinder x1
  have hx1 : Touches mm z0 x1 := by
    subst x1
    refine wr_touches (Touches.has hm rfl) ?_
    refine wr_touches (Touches.has hm rfl) ?_
    exact wr_touches (Touches.has hm rfl) hT
  try clear_value x1
  exact wr_touches (Touches.has hm rfl) hx1

theorem wakeDomain_touches {s : State} {d : ℕ} (hm : 0x20 &&& mm = 0x20) (hT : Touches mm z0 s) :
    Touches mm z0 (wakeDomain s d) := by
  unfold wakeDomain
  refine Touches.ite ?_ ?_
  · exact setDom_touches (Touches.inc hm rfl) hT
  · exact hT

theorem showPower_touches {s : State} (hm : 0x8000000000004 &&& mm = 0x8000000000004) (hT : Touches mm z0 s) :
    Touches mm z0 (showPower s) := by
  unfold showPower
  refine useFree_touches (Touches.inc hm rfl) ?_
  refine wr_touches (Touches.has hm rfl) ?_
  refine wr_touches (Touches.has hm rfl) ?_
  exact wr_touches (Touches.has hm rfl) hT

theorem setEff_touches {s : State} {e : ℕ} (hm : 0x188000000060030 &&& mm = 0x188000000060030) (hT : Touches mm z0 s) :
    Touches mm z0 (setEff s e) := by
  unfold setEff
  extract_lets -merge -underBinder x3 src4 x5
  try clear_value x3
  have hx5 : Touches mm z0 x5 := by
    subst x5
    exact Touches.power (Touches.has hm rfl) hT
  try clear_value x5
  refine Touches.ite ?_ ?_
  · refine Touches.ite ?_ ?_
    · exact hx5
    · refine raiseIrq_touches (Touches.has hm rfl) (Touches.has hm rfl) ?_
      refine statusEvent_touches (Touches.inc hm rfl) ?_
      exact wr_touches (Touches.has hm rfl) hx5
  · exact wr_touches (Touches.has hm rfl) hx5

theorem unshaped_touches {s : State} (hm : 0x188000000060010 &&& mm = 0x188000000060010) (hT : Touches mm z0 s) :
    Touches mm z0 (unshaped s) := by
  unfold unshaped
  refine irqEvent_touches (Touches.inc hm rfl) (Touches.has hm rfl) ?_
  exact incSat_touches (Touches.has hm rfl) hT

theorem dropShaping_touches {s : State} (hm : 0x8000000000024 &&& mm = 0x8000000000024) (hT : Touches mm z0 s) :
    Touches mm z0 (dropShaping s) := by
  unfold dropShaping
  extract_lets -merge -underBinder src1
  refine showPower_touches (Touches.inc hm rfl) ?_
  exact Touches.power (Touches.has hm rfl) hT

theorem capWrite_touches {s : State} {v : ℕ} (hm : 0x188000000060034 &&& mm = 0x188000000060034) (hT : Touches mm z0 s) :
    Touches mm z0 (capWrite s v) := by
  unfold capWrite
  extract_lets -merge -underBinder x1
  have hx1 : Touches mm z0 x1 := by
    subst x1
    exact wr_touches (Touches.has hm rfl) hT
  try clear_value x1
  refine Touches.ite ?_ ?_
  · exact refuseWrite_touches (Touches.has hm rfl) hT
  · refine showPower_touches (Touches.inc hm rfl) ?_
    exact setEff_touches (Touches.inc hm rfl) hx1

theorem emergWrite_touches {s : State} {on : Bool} (hm : 0x188000000060034 &&& mm = 0x188000000060034) (hT : Touches mm z0 s) :
    Touches mm z0 (emergWrite s on) := by
  unfold emergWrite
  extract_lets -merge -underBinder x4 x5 x6 x7
  try clear_value x4
  have hx5 : Touches mm z0 x5 := by
    subst x5
    exact wr_touches (Touches.has hm rfl) hT
  try clear_value x5
  have hx6 : Touches mm z0 x6 := by
    subst x6
    refine dropShaping_touches (Touches.inc hm rfl) ?_
    exact wr_touches (Touches.has hm rfl) hx5
  try clear_value x6
  have hx7 : Touches mm z0 x7 := by
    subst x7
    refine Touches.foldl ?_ (fun u x => ?_)
    · exact hx6
    · revert x u; intro u8 y
      beta_reduce
      exact wr_touches (show Nat.testBit _ (32 + 19 % 32) = true from Touches.has hm rfl) (Touches.refl mm _)
  try clear_value x7
  refine Touches.ite ?_ ?_
  · exact irqEvent_touches (Touches.inc hm rfl) (Touches.has hm rfl) hx7
  · refine Touches.ite ?_ ?_
    · exact wr_touches (Touches.has hm rfl) hx5
    · exact hx5

theorem capWordWrite_touches {s : State} {v : ℕ} (hm : 0x188000000060034 &&& mm = 0x188000000060034) (hT : Touches mm z0 s) :
    Touches mm z0 (capWordWrite s v) := by
  unfold capWordWrite
  extract_lets -merge -underBinder x1
  have hx1 : Touches mm z0 x1 := by
    subst x1
    refine Touches.ite ?_ ?_
    · exact hT
    · exact capWrite_touches (Touches.inc hm rfl) hT
  try clear_value x1
  exact emergWrite_touches (Touches.inc hm rfl) hx1

theorem leaveStandby_touches {s : State} (hm : 0x188000000060030 &&& mm = 0x188000000060030) (hT : Touches mm z0 s) :
    Touches mm z0 (leaveStandby s) := by
  unfold leaveStandby
  extract_lets -merge -underBinder x2 x3
  have hx2 : Touches mm z0 x2 := by
    subst x2
    exact wr_touches (Touches.has hm rfl) hT
  try clear_value x2
  have hx3 : Touches mm z0 x3 := by
    subst x3
    refine Touches.foldl ?_ (fun u x => ?_)
    · exact hx2
    · revert x u; intro u4 y
      beta_reduce
      refine Touches.ite ?_ ?_
      · exact setDom_touches (Touches.inc hm rfl) (Touches.refl mm _)
      · exact Touches.refl mm _
  try clear_value x3
  refine Touches.ite ?_ ?_
  · exact irqEvent_touches (Touches.inc hm rfl) (Touches.has hm rfl) hx3
  · exact hT

theorem endAllRequests_touches {s : State} {st : Status} (hm : 0x9804E8000062F94 &&& mm = 0x9804E8000062F94)
    (hT : Touches mm z0 s) :
    Touches mm z0 (endAllRequests s st) := by
  unfold endAllRequests
  refine Touches.foldl ?_ (fun u x => ?_)
  · exact hT
  · revert x u; intro u0 y
    beta_reduce
    exact endReq_touches (Touches.inc hm rfl) (Touches.refl mm _)

theorem sendLeaving_touches {s : State} (hm : 0x800 &&& mm = 0x800) (hT : Touches mm z0 s) :
    Touches mm z0 (sendLeaving s) := by
  unfold sendLeaving
  refine Touches.foldl ?_ (fun u x => ?_)
  · exact hT
  · revert x u; intro u0 y
    beta_reduce
    refine Touches.ite ?_ ?_
    · exact sendOn_touches (Touches.inc hm rfl) (Touches.refl mm _)
    · exact Touches.refl mm _

theorem beginDusk_touches {s : State} (hm : 0x188000001060034 &&& mm = 0x188000001060034) (hT : Touches mm z0 s) :
    Touches mm z0 (beginDusk s) := by
  unfold beginDusk
  extract_lets -merge -underBinder x7 src8 x9 x10 x11 src12 x13
  have hx7 : Touches mm z0 x7 := by
    subst x7
    refine endFreeze_touches (Touches.inc hm rfl) ?_
    exact leaveStandby_touches (Touches.inc hm rfl) hT
  try clear_value x7
  have hx9 : Touches mm z0 x9 := by
    subst x9
    refine wr_touches (Touches.has hm rfl) ?_
    exact Touches.power (Touches.has hm rfl) hx7
  try clear_value x9
  have hx10 : Touches mm z0 x10 := by
    subst x10
    refine irqEvent_touches (Touches.inc hm rfl) (Touches.has hm rfl) ?_
    exact dropShaping_touches (Touches.inc hm rfl) hx9
  try clear_value x10
  try clear_value x11
  have hx13 : Touches mm z0 x13 := by
    subst x13
    exact Touches.comb_parts (Touches.has hm rfl) hx10
  try clear_value x13
  refine Touches.foldl ?_ (fun u x => ?_)
  · exact hx13
  · revert x u; intro u14 y
    beta_reduce
    split
    · extract_lets -merge -underBinder x16
      try clear_value x16
      refine Touches.ite ?_ ?_
      · exact Touches.refl mm _
      · exact abandonRunning_touches (Touches.inc hm rfl) (Touches.refl mm _)
    · exact Touches.refl mm _

theorem coolCheck_touches {s : State} (hm : 0x20 &&& mm = 0x20) (hT : Touches mm z0 s) :
    Touches mm z0 (coolCheck s) := by
  unfold coolCheck
  extract_lets -merge -underBinder src1
  refine Touches.ite ?_ ?_
  · exact Touches.power (Touches.has hm rfl) hT
  · exact hT

theorem setLoop_touches {s : State} {k : ℕ} {v : ℕ} (hm : 0x10000000000000 &&& mm = 0x10000000000000) (hT : Touches mm z0 s) :
    Touches mm z0 (setLoop s k v) := by
  unfold setLoop
  exact wr_touches (Touches.has hm rfl) hT

theorem showAwait_touches {s : State} (hm : 0x10000000000000 &&& mm = 0x10000000000000) (hT : Touches mm z0 s) :
    Touches mm z0 (showAwait s) := by
  unfold showAwait
  exact wr_touches (Touches.has hm rfl) hT

theorem coast_touches {s : State} {k : ℕ} {wait : Bool} {cut : Cut} (hm : 0x993EF8000067FD4 &&& mm = 0x993EF8000067FD4)
    (hT : Touches mm z0 s) :
    Touches mm z0 (coast s k wait cut) := by
  unfold coast
  extract_lets -merge -underBinder src3 x4 x5
  have hx4 : Touches mm z0 x4 := by
    subst x4
    exact Touches.clocks (Touches.has hm rfl) hT
  try clear_value x4
  have hx5 : Touches mm z0 x5 := by
    subst x5
    refine showAwait_touches (Touches.inc hm rfl) ?_
    exact setLoop_touches (Touches.inc hm rfl) hx4
  try clear_value x5
  refine Touches.ite ?_ ?_
  · refine Touches.ite ?_ ?_
    · exact hostPortReset_touches (Touches.inc hm rfl) hx5
    · exact hx5
  · refine Touches.ite ?_ ?_
    · exact portDown_touches (Touches.inc hm rfl) hx5
    · exact hx5

theorem meridHoldover_touches {s : State} (hm : 0x180800000060010 &&& mm = 0x180800000060010) (hT : Touches mm z0 s) :
    Touches mm z0 (meridHoldover s) := by
  unfold meridHoldover
  refine Touches.ite ?_ ?_
  · exact setQuality_touches (Touches.inc hm rfl) hT
  · exact hT

theorem loopTrip_touches {s : State} {k : ℕ} {cut : Cut} (hm : 0x993EF8000067FD4 &&& mm = 0x993EF8000067FD4)
    (hT : Touches mm z0 s) :
    Touches mm z0 (loopTrip s k cut) := by
  unfold loopTrip
  extract_lets -merge -underBinder x5 x6 x7 x8 x9
  try clear_value x5
  have hx6 : Touches mm z0 x6 := by
    subst x6
    refine irqEvent_touches (Touches.inc hm rfl) (Touches.has hm rfl) ?_
    refine incSat_touches (Touches.has hm rfl) ?_
    exact wr_touches (Touches.has hm rfl) hT
  try clear_value x6
  have hx7 : Touches mm z0 x7 := by
    subst x7
    refine Touches.ite ?_ ?_
    · exact meridHoldover_touches (Touches.inc hm rfl) hx6
    · exact hx6
  try clear_value x7
  have hx8 : Touches mm z0 x8 := by
    subst x8
    exact wr_touches (Touches.has hm rfl) hx7
  try clear_value x8
  have hx9 : Touches mm z0 x9 := by
    subst x9
    refine raiseIrq_touches (Touches.has hm rfl) (Touches.has hm rfl) ?_
    exact statusEvent_touches (Touches.inc hm rfl) hx8
  try clear_value x9
  refine Touches.ite ?_ ?_
  · exact hT
  · refine Touches.ite ?_ ?_
    · exact wr_touches (Touches.has hm rfl) hx7
    · refine Touches.ite ?_ ?_
      · exact coast_touches (Touches.inc hm rfl) hx9
      · exact coast_touches (Touches.inc hm rfl) hx7

theorem cutFlush_touches {s : State} (hm : 0x10 &&& mm = 0x10) (hT : Touches mm z0 s) :
    Touches mm z0 (cutFlush s) := by
  unfold cutFlush
  split
  · extract_lets -merge -underBinder src2 src3
    exact Touches.recorder (Touches.has hm rfl) hT
  · exact hT

theorem coldReset_touches {s : State} {cause : Nat} (hm : 0xFFFFFFFF07F7FFF7 &&& mm = 0xFFFFFFFF07F7FFF7)
    (hT : Touches mm z0 s) : Touches mm z0 (coldReset s cause) := by
  unfold coldReset
  extract_lets -merge -underBinder x1 x2 x3 x4
  have hx1 : Touches mm z0 x1 := garbleMemory_touches (Touches.has hm rfl) (Touches.has hm rfl) (Touches.has hm rfl)
    (cutFlush_touches (Touches.inc hm rfl) hT)
  have hx3 : Touches mm z0 x3 := all_touches (s := x1) (every hm) rfl id hx1
  have hx4 : Touches mm z0 x4 :=
    Touches.foldl hx3 (fun u f => wr_touches (Touches.anyPage hm rfl _) (Touches.refl mm _))
  exact wr_touches (Touches.has hm rfl) hx4

theorem losePower_touches {s : State} (hm : 0xFFFFFFFF07F7FFF7 &&& mm = 0xFFFFFFFF07F7FFF7) (hT : Touches mm z0 s) :
    Touches mm z0 (losePower s) := by
  unfold losePower
  extract_lets -merge -underBinder x2 src3
  have hx2 : Touches mm z0 x2 := by
    subst x2
    exact coldReset_touches (Touches.inc hm rfl) hT
  try clear_value x2
  exact Touches.power (Touches.has hm rfl) hx2

theorem fatalAction_touches {s : State} (hm : 0xFFFFFFFF07F7FFF7 &&& mm = 0xFFFFFFFF07F7FFF7) (hT : Touches mm z0 s) :
    Touches mm z0 (fatalAction s) := by
  unfold fatalAction
  extract_lets -merge -underBinder src2 x3
  have hx3 : Touches mm z0 x3 := by
    subst x3
    exact Touches.boot (Touches.has hm rfl) hT
  try clear_value x3
  refine Touches.ite ?_ ?_
  · split
    · exact beginWarm_touches (Touches.inc hm rfl) hx3
    · refine Touches.ite ?_ ?_
      · exact hx3
      · exact coldReset_touches (Touches.inc hm rfl) hx3
    · exact hx3
  · exact hT

end Sys2Proof.Laws
end

