-- ==== Sys2Proof/Laws/FrameCellOps.lean ====
section
/-!
SUPPORT. What each operation of `Machine/CellOps.lean` may touch: the mask names the parts of the state in which its result can
differ from the state it started from.
-/

set_option linter.unusedVariables false
set_option linter.unusedTactic false

namespace Sys2Proof.Laws

open Sys2Proof Sys2Proof.Machine Sys2Proof.Safety

variable {mm : Nat} {z0 : State}

theorem noteCause_touches {s : State} {p : ℕ} {cause : Cause} {ty : ℕ} {i : ℕ} {detail : List ℕ}
    (hm : 0x180000001060010 &&& mm = 0x180000001060010) (hT : Touches mm z0 s) :
    Touches mm z0 (noteCause s p cause ty i detail) := by
  unfold noteCause
  split
  · exact hT
  · extract_lets -merge -underBinder x1
    have hx1 : Touches mm z0 x1 := by
      subst x1
      exact modRunning_touches (Touches.inc hm rfl) hT
    try clear_value x1
    exact recordEvent_touches (Touches.inc hm rfl) hx1

theorem cellFault_touches {s : State} {c : ℕ} {cause : Cause} {addr : ℕ} (hm : 0x180000001060010 &&& mm = 0x180000001060010)
    (hT : Touches mm z0 s) :
    Touches mm z0 (cellFault s c cause addr) := by
  unfold cellFault
  extract_lets -merge -underBinder x2 x3
  try clear_value x2
  have hx3 : Touches mm z0 x3 := by
    subst x3
    exact modRunning_touches (Touches.inc hm rfl) hT
  try clear_value x3
  exact noteCause_touches (Touches.inc hm rfl) hx3

theorem planFaultAt_touches {s : State} {c : ℕ} {addr : ℕ} (hm : 0x180000101060010 &&& mm = 0x180000101060010)
    (hT : Touches mm z0 s) :
    Touches mm z0 (planFaultAt s c addr) := by
  unfold planFaultAt
  refine raiseIrq_touches (Touches.has hm rfl) (Touches.has hm rfl) ?_
  exact cellFault_touches (Touches.inc hm rfl) hT

theorem planFault_touches {s : State} {c : ℕ} (hm : 0x180000101060010 &&& mm = 0x180000101060010) (hT : Touches mm z0 s) :
    Touches mm z0 (planFault s c) := by
  unfold planFault
  exact planFaultAt_touches (Touches.inc hm rfl) hT

theorem issueInstr_touches {s : State} {c : ℕ} {unit : ℕ} {busy : ℕ} {ok : Bool} {k : State → Running → Cell → State}
    (hm : 0x180000101460010 &&& mm = 0x180000101460010) (hk5 : ∀ z u0 u1 u2, Touches mm z u0 → Touches mm z (k u0 u1 u2)) (hT : Touches mm z0 s) :
    Touches mm z0 (issueInstr s c unit busy ok k) := by
  unfold issueInstr
  split
  · exact hT
  · extract_lets -merge -underBinder x2 x3
    try clear_value x2
    try clear_value x3
    refine Touches.ite ?_ ?_
    · exact hT
    · refine Touches.ite ?_ ?_
      · refine hk5 _ _ _ _ ?_
        exact setCell_touches (Touches.inc hm rfl) hT
      · refine planFault_touches (Touches.inc hm rfl) ?_
        exact setCell_touches (Touches.inc hm rfl) hT

theorem vecInstr_touches {s : State} {c : ℕ} {a : VecArgs} {f : List ℕ → List ℕ → List ℕ → List ℕ}
    (hm : 0x180000101460014 &&& mm = 0x180000101460014) (hT : Touches mm z0 s) :
    Touches mm z0 (vecInstr s c a f) := by
  unfold vecInstr
  refine issueInstr_touches (Touches.inc hm rfl) (fun u0 u1 u2 u3 hu => ?_) ?_
  · revert hu u3 u2 u1 u0
    intro bu0 u0_0 u0_1 u0_2 hu0
    beta_reduce
    extract_lets -merge -underBinder x4 x5 x6
    try clear_value x4
    try clear_value x5
    try clear_value x6
    refine useFree_touches (Touches.inc hm rfl) ?_
    exact setCell_touches (Touches.inc hm rfl) hu0
  · exact hT

theorem execAdd_touches {c : ℕ} {a : VecArgs} {s : State} {d0 : State} (hm : 0x180000101460014 &&& mm = 0x180000101460014)
    (hd : Touches mm z0 d0) (hT : Touches mm z0 s) :
    Touches mm z0 (Touches.outS d0 (execAdd c a s)) := by
  unfold execAdd
  refine Touches.nextI ?_
  exact vecInstr_touches (Touches.inc hm rfl) hT

theorem execMul_touches {c : ℕ} {a : VecArgs} {s : State} {d0 : State} (hm : 0x180000101460014 &&& mm = 0x180000101460014)
    (hd : Touches mm z0 d0) (hT : Touches mm z0 s) :
    Touches mm z0 (Touches.outS d0 (execMul c a s)) := by
  unfold execMul
  refine Touches.nextI ?_
  exact vecInstr_touches (Touches.inc hm rfl) hT

theorem execFma_touches {c : ℕ} {a : VecArgs} {s : State} {d0 : State} (hm : 0x180000101460014 &&& mm = 0x180000101460014)
    (hd : Touches mm z0 d0) (hT : Touches mm z0 s) :
    Touches mm z0 (Touches.outS d0 (execFma c a s)) := by
  unfold execFma
  refine Touches.nextI ?_
  exact vecInstr_touches (Touches.inc hm rfl) hT

theorem execMax_touches {c : ℕ} {a : VecArgs} {s : State} {d0 : State} (hm : 0x180000101460014 &&& mm = 0x180000101460014)
    (hd : Touches mm z0 d0) (hT : Touches mm z0 s) :
    Touches mm z0 (Touches.outS d0 (execMax c a s)) := by
  unfold execMax
  refine Touches.nextI ?_
  exact vecInstr_touches (Touches.inc hm rfl) hT

theorem execMin_touches {c : ℕ} {a : VecArgs} {s : State} {d0 : State} (hm : 0x180000101460014 &&& mm = 0x180000101460014)
    (hd : Touches mm z0 d0) (hT : Touches mm z0 s) :
    Touches mm z0 (Touches.outS d0 (execMin c a s)) := by
  unfold execMin
  refine Touches.nextI ?_
  exact vecInstr_touches (Touches.inc hm rfl) hT

theorem execRsum_touches {c : ℕ} {a : VecArgs} {s : State} {d0 : State} (hm : 0x180000101460014 &&& mm = 0x180000101460014)
    (hd : Touches mm z0 d0) (hT : Touches mm z0 s) :
    Touches mm z0 (Touches.outS d0 (execRsum c a s)) := by
  unfold execRsum
  refine Touches.nextI ?_
  exact vecInstr_touches (Touches.inc hm rfl) hT

theorem execRmax_touches {c : ℕ} {a : VecArgs} {s : State} {d0 : State} (hm : 0x180000101460014 &&& mm = 0x180000101460014)
    (hd : Touches mm z0 d0) (hT : Touches mm z0 s) :
    Touches mm z0 (Touches.outS d0 (execRmax c a s)) := by
  unfold execRmax
  refine Touches.nextI ?_
  exact vecInstr_touches (Touches.inc hm rfl) hT

theorem execScale_touches {c : ℕ} {a : VecArgs} {s : State} {d0 : State} (hm : 0x180000101460014 &&& mm = 0x180000101460014)
    (hd : Touches mm z0 d0) (hT : Touches mm z0 s) :
    Touches mm z0 (Touches.outS d0 (execScale c a s)) := by
  unfold execScale
  refine Touches.nextI ?_
  exact vecInstr_touches (Touches.inc hm rfl) hT

theorem execCopy_touches {c : ℕ} {a : VecArgs} {s : State} {d0 : State} (hm : 0x180000101460014 &&& mm = 0x180000101460014)
    (hd : Touches mm z0 d0) (hT : Touches mm z0 s) :
    Touches mm z0 (Touches.outS d0 (execCopy c a s)) := by
  unfold execCopy
  refine Touches.nextI ?_
  exact vecInstr_touches (Touches.inc hm rfl) hT

theorem sfuInstr_touches {s : State} {c : ℕ} {op : ℕ} {a : VecArgs} (hm : 0x180000101460014 &&& mm = 0x180000101460014)
    (hT : Touches mm z0 s) :
    Touches mm z0 (sfuInstr s c op a) := by
  unfold sfuInstr
  refine issueInstr_touches (Touches.inc hm rfl) (fun u0 u1 u2 u3 hu => ?_) ?_
  · revert hu u3 u2 u1 u0
    intro bu0 u0_0 u0_1 u0_2 hu0
    beta_reduce
    extract_lets -merge -underBinder x3 x4
    try clear_value x3
    try clear_value x4
    refine useFree_touches (Touches.inc hm rfl) ?_
    exact setCell_touches (Touches.inc hm rfl) hu0
  · exact hT

theorem execExp_touches {c : ℕ} {a : VecArgs} {s : State} {d0 : State} (hm : 0x180000101460014 &&& mm = 0x180000101460014)
    (hd : Touches mm z0 d0) (hT : Touches mm z0 s) :
    Touches mm z0 (Touches.outS d0 (execExp c a s)) := by
  unfold execExp
  refine Touches.nextI ?_
  exact sfuInstr_touches (Touches.inc hm rfl) hT

theorem execLog_touches {c : ℕ} {a : VecArgs} {s : State} {d0 : State} (hm : 0x180000101460014 &&& mm = 0x180000101460014)
    (hd : Touches mm z0 d0) (hT : Touches mm z0 s) :
    Touches mm z0 (Touches.outS d0 (execLog c a s)) := by
  unfold execLog
  refine Touches.nextI ?_
  exact sfuInstr_touches (Touches.inc hm rfl) hT

theorem execRecip_touches {c : ℕ} {a : VecArgs} {s : State} {d0 : State} (hm : 0x180000101460014 &&& mm = 0x180000101460014)
    (hd : Touches mm z0 d0) (hT : Touches mm z0 s) :
    Touches mm z0 (Touches.outS d0 (execRecip c a s)) := by
  unfold execRecip
  refine Touches.nextI ?_
  exact sfuInstr_touches (Touches.inc hm rfl) hT

theorem execRsqrt_touches {c : ℕ} {a : VecArgs} {s : State} {d0 : State} (hm : 0x180000101460014 &&& mm = 0x180000101460014)
    (hd : Touches mm z0 d0) (hT : Touches mm z0 s) :
    Touches mm z0 (Touches.outS d0 (execRsqrt c a s)) := by
  unfold execRsqrt
  refine Touches.nextI ?_
  exact sfuInstr_touches (Touches.inc hm rfl) hT

theorem execMma_touches {c : ℕ} {a : MmaArgs} {s : State} {d0 : State} (hm : 0x180000101460014 &&& mm = 0x180000101460014)
    (hd : Touches mm z0 d0) (hT : Touches mm z0 s) :
    Touches mm z0 (Touches.outS d0 (execMma c a s)) := by
  unfold execMma
  extract_lets -merge -underBinder x1
  try clear_value x1
  refine Touches.nextI ?_
  refine issueInstr_touches (Touches.inc hm rfl) (fun u0 u1 u2 u3 hu => ?_) ?_
  · revert hu u3 u2 u1 u0
    intro bu2 u2_0 u2_1 u2_2 hu2
    beta_reduce
    extract_lets -merge -underBinder x7 x8 x9 x10
    try clear_value x7
    try clear_value x8
    try clear_value x9
    try clear_value x10
    split
    · extract_lets -merge -underBinder x12
      try clear_value x12
      refine useFree_touches (Touches.inc hm rfl) ?_
      exact setCell_touches (Touches.inc hm rfl) hu2
    · refine useFree_touches (Touches.inc hm rfl) ?_
      exact cellFault_touches (Touches.inc hm rfl) hu2
  · exact hT

theorem execCvt_touches {c : ℕ} {a : CvtArgs} {s : State} {d0 : State} (hm : 0x180000101460014 &&& mm = 0x180000101460014)
    (hd : Touches mm z0 d0) (hT : Touches mm z0 s) :
    Touches mm z0 (Touches.outS d0 (execCvt c a s)) := by
  unfold execCvt
  refine Touches.nextI ?_
  refine issueInstr_touches (Touches.inc hm rfl) (fun u0 u1 u2 u3 hu => ?_) ?_
  · revert hu u3 u2 u1 u0
    intro bu0 u0_0 u0_1 u0_2 hu0
    beta_reduce
    extract_lets -merge -underBinder x3 x4
    try clear_value x3
    try clear_value x4
    split
    · refine useFree_touches (Touches.inc hm rfl) ?_
      exact cellFault_touches (Touches.inc hm rfl) hu0
    · extract_lets -merge -underBinder x9 x10 x11 x12
      try clear_value x9
      try clear_value x10
      try clear_value x11
      try clear_value x12
      refine useFree_touches (Touches.inc hm rfl) ?_
      exact setCell_touches (Touches.inc hm rfl) hu0
  · exact hT

theorem execCtrlNop_touches {c : ℕ} {s : State} {d0 : State} (hm : 0x180000101460010 &&& mm = 0x180000101460010)
    (hd : Touches mm z0 d0) (hT : Touches mm z0 s) :
    Touches mm z0 (Touches.outS d0 (execCtrlNop c s)) := by
  unfold execCtrlNop
  refine Touches.nextI ?_
  refine issueInstr_touches (Touches.inc hm rfl) (fun u0 u1 u2 u3 hu => ?_) ?_
  · revert hu u3 u2 u1 u0
    intro bu0 u0_0 u0_1 u0_2 hu0
    beta_reduce
    exact hu0
  · exact hT

theorem execEnd_touches {c : ℕ} {s : State} {d0 : State} (hm : 0x180000101460010 &&& mm = 0x180000101460010)
    (hd : Touches mm z0 d0) (hT : Touches mm z0 s) :
    Touches mm z0 (Touches.outS d0 (execEnd c s)) := by
  unfold execEnd
  refine Touches.nextI ?_
  refine issueInstr_touches (Touches.inc hm rfl) (fun u0 u1 u2 u3 hu => ?_) ?_
  · revert hu u3 u2 u1 u0
    intro bu0 u0_0 u0_1 u0_2 hu0
    beta_reduce
    exact setCell_touches (Touches.inc hm rfl) hu0
  · exact hT

end Sys2Proof.Laws
end

