-- ==== Sys2Proof/Laws/FrameAttention.lean ====
section
/-!
SUPPORT. What each operation of `Machine/Attention.lean` may touch: the mask names the parts of the state in which its result can
differ from the state it started from.
-/

set_option linter.unusedVariables false
set_option linter.unusedTactic false

namespace Sys2Proof.Laws

open Sys2Proof Sys2Proof.Machine Sys2Proof.Safety

variable {mm : Nat} {z0 : State}

theorem attnPut_touches {s : State} {c : ℕ} {a : ℕ} {bs : List Byte} {ready : ℕ} (hm : 0x400000 &&& mm = 0x400000)
    (hT : Touches mm z0 s) :
    Touches mm z0 (attnPut s c a bs ready) := by
  unfold attnPut
  exact setCell_touches (Touches.inc hm rfl) hT

theorem attnFault_touches {s : State} {c : ℕ} {addr : ℕ} {st : Status} (hm : 0x180000101060010 &&& mm = 0x180000101060010)
    (hT : Touches mm z0 s) :
    Touches mm z0 (attnFault s c addr st) := by
  unfold attnFault
  extract_lets -merge -underBinder x2 x3
  try clear_value x2
  have hx3 : Touches mm z0 x3 := by
    subst x3
    exact modRunning_touches (Touches.inc hm rfl) hT
  try clear_value x3
  refine raiseIrq_touches (Touches.has hm rfl) (Touches.has hm rfl) ?_
  exact noteCause_touches (Touches.inc hm rfl) hx3

theorem addEmpty_touches {s : State} {p : ℕ} {n : ℕ} (hm : 0x1000000 &&& mm = 0x1000000) (hT : Touches mm z0 s) :
    Touches mm z0 (addEmpty s p n) := by
  unfold addEmpty
  exact modRunning_touches (Touches.inc hm rfl) hT

theorem backward_touches {s : State} {a : AttnCmd} {info : List Byte} {step : ℕ} {ready : ℕ} {ck : ℕ} {cv : ℕ} {co : ℕ}
    (hm : 0x400004 &&& mm = 0x400004) (hT : Touches mm z0 s) :
    Touches mm z0 (backward s a info step ready ck cv co) := by
  unfold backward
  extract_lets -merge -underBinder x10 x11 x12 x13 x14 x15 x16 x17 x18 x19
  try clear_value x10
  try clear_value x11
  try clear_value x12
  try clear_value x13
  try clear_value x14
  try clear_value x15
  try clear_value x16
  try clear_value x17
  have hx18 : Touches mm z0 x18 := by
    subst x18
    exact attnPut_touches (Touches.inc hm rfl) hT
  try clear_value x18
  have hx19 : Touches mm z0 x19 := by
    subst x19
    exact attnPut_touches (Touches.inc hm rfl) hx18
  try clear_value x19
  refine useFree_touches (Touches.inc hm rfl) ?_
  exact attnPut_touches (Touches.inc hm rfl) hx19

theorem attnCell_touches {s : State} {c : ℕ} {addr : ℕ} {back : Bool} (hm : 0x180000101460014 &&& mm = 0x180000101460014)
    (hT : Touches mm z0 s) :
    Touches mm z0 (attnCell s c addr back) := by
  unfold attnCell
  split
  · exact hT
  · extract_lets -merge -underBinder x3 x4 x5
    try clear_value x3
    try clear_value x4
    try clear_value x5
    refine Touches.ite ?_ ?_
    · exact hT
    · refine issueInstr_touches (Touches.inc hm rfl) (fun u0 u1 u2 u3 hu => ?_) ?_
      · revert hu u3 u2 u1 u0
        intro bu6 u6_0 u6_1 u6_2 hu6
        beta_reduce
        split
        · exact attnFault_touches (Touches.inc hm rfl) hu6
        · extract_lets -merge -underBinder x14 x15 x16 x17 x18 x19 x20
          try clear_value x14
          try clear_value x15
          try clear_value x16
          try clear_value x17
          try clear_value x18
          have hx19 : Touches mm bu6 x19 := by
            subst x19
            exact attnPut_touches (Touches.inc hm rfl) hu6
          try clear_value x19
          have hx20 : Touches mm bu6 x20 := by
            subst x20
            refine Touches.ite ?_ ?_
            · exact attnPut_touches (Touches.inc hm rfl) hx19
            · exact hx19
          try clear_value x20
          refine Touches.ite ?_ ?_
          · exact backward_touches (Touches.inc hm rfl) hu6
          · refine useFree_touches (Touches.inc hm rfl) ?_
            exact addEmpty_touches (Touches.inc hm rfl) hx20
      · exact hT

theorem execAttnCell_touches {c : ℕ} {addr : ℕ} {s : State} {d0 : State} (hm : 0x180000101460014 &&& mm = 0x180000101460014)
    (hd : Touches mm z0 d0) (hT : Touches mm z0 s) :
    Touches mm z0 (Touches.outS d0 (execAttnCell c addr s)) := by
  unfold execAttnCell
  refine Touches.nextI ?_
  exact attnCell_touches (Touches.inc hm rfl) hT

theorem execAttnCellBackward_touches {c : ℕ} {addr : ℕ} {s : State} {d0 : State}
    (hm : 0x180000101460014 &&& mm = 0x180000101460014) (hd : Touches mm z0 d0) (hT : Touches mm z0 s) :
    Touches mm z0 (Touches.outS d0 (execAttnCellBackward c addr s)) := by
  unfold execAttnCellBackward
  refine Touches.nextI ?_
  exact attnCell_touches (Touches.inc hm rfl) hT

theorem attnPipeFault_touches {s : State} {q : ℕ} {c : ℕ} {addr : ℕ} {st : Status}
    (hm : 0x180000301060010 &&& mm = 0x180000301060010) (hT : Touches mm z0 s) :
    Touches mm z0 (attnPipeFault s q c addr st) := by
  unfold attnPipeFault
  extract_lets -merge -underBinder x2 x3
  try clear_value x2
  have hx3 : Touches mm z0 x3 := by
    subst x3
    refine raiseIrq_touches (Touches.has hm rfl) (Touches.has hm rfl) ?_
    exact attnFault_touches (Touches.inc hm rfl) hT
  try clear_value x3
  refine wr_touches (Touches.has hm rfl) ?_
  refine wr_touches (Touches.has hm rfl) ?_
  exact wr_touches (Touches.has hm rfl) hx3

theorem attnPipe_touches {s : State} {c : ℕ} {addr : ℕ} {back : Bool} (hm : 0x180000301C60014 &&& mm = 0x180000301C60014)
    (hT : Touches mm z0 s) :
    Touches mm z0 (attnPipe s c addr back) := by
  unfold attnPipe
  split
  · exact hT
  · extract_lets -merge -underBinder x3 x4 x5
    try clear_value x3
    try clear_value x4
    try clear_value x5
    refine Touches.ite ?_ ?_
    · exact hT
    · refine issueInstr_touches (Touches.inc hm rfl) (fun u0 u1 u2 u3 hu => ?_) ?_
      · revert hu u3 u2 u1 u0
        intro bu6 u6_0 u6_1 u6_2 hu6
        beta_reduce
        split
        · exact attnPipeFault_touches (Touches.inc hm rfl) hu6
        · extract_lets -merge -underBinder x12 src13 x14 x15 x16
          try clear_value x12
          try clear_value x14
          have hx15 : Touches mm bu6 x15 := by
            subst x15
            exact wr_touches (Touches.has hm rfl) hu6
          try clear_value x15
          try clear_value x16
          refine Touches.ite ?_ ?_
          · refine backward_touches (Touches.inc hm rfl) ?_
            exact setPipe_touches (Touches.inc hm rfl) hx15
          · refine useFree_touches (Touches.inc hm rfl) ?_
            exact setPipe_touches (Touches.inc hm rfl) hx15
      · exact hT

theorem execAttnPipe_touches {c : ℕ} {addr : ℕ} {s : State} {d0 : State} (hm : 0x180000301C60014 &&& mm = 0x180000301C60014)
    (hd : Touches mm z0 d0) (hT : Touches mm z0 s) :
    Touches mm z0 (Touches.outS d0 (execAttnPipe c addr s)) := by
  unfold execAttnPipe
  refine Touches.nextI ?_
  exact attnPipe_touches (Touches.inc hm rfl) hT

theorem execAttnPipeBackward_touches {c : ℕ} {addr : ℕ} {s : State} {d0 : State}
    (hm : 0x180000301C60014 &&& mm = 0x180000301C60014) (hd : Touches mm z0 d0) (hT : Touches mm z0 s) :
    Touches mm z0 (Touches.outS d0 (execAttnPipeBackward c addr s)) := by
  unfold execAttnPipeBackward
  refine Touches.nextI ?_
  exact attnPipe_touches (Touches.inc hm rfl) hT

theorem takeWin_touches {s : State} {q : ℕ} {n : ℕ} {d0 : State} (hm : 0x800000 &&& mm = 0x800000) (hd : Touches mm z0 d0)
    (hT : Touches mm z0 s) :
    Touches mm z0 (Touches.optP d0 (takeWin s q n)) := by
  unfold takeWin
  extract_lets -merge -underBinder x1
  try clear_value x1
  refine Touches.iteV (Touches.optP d0) ?_ ?_
  · exact hd
  · refine Touches.someP ?_
    refine Touches.mkI ?_
    exact setPipe_touches (Touches.inc hm rfl) hT

theorem modJob_touches {s : State} {q : ℕ} {f : PipeJob → PipeJob} (hm : 0x800000 &&& mm = 0x800000) (hT : Touches mm z0 s) :
    Touches mm z0 (modJob s q f) := by
  unfold modJob
  extract_lets -merge -underBinder src1
  exact setPipe_touches (Touches.inc hm rfl) hT

theorem readBlock_touches {s : State} {q : ℕ} {step : ℕ} {i : ℕ} {a : AttnCmd} {j : PipeJob} {isV : Bool}
    (hm : 0x180000301860010 &&& mm = 0x180000301860010) (hT : Touches mm z0 s) :
    Touches mm z0 (readBlock s q step i a j isV) := by
  unfold readBlock
  extract_lets -merge -underBinder x2 x3
  try clear_value x2
  have hx3 : ∀ x3a0 x3a1 z, Touches mm z x3a0 → Touches mm z (x3 x3a0 x3a1) := by
    intro x3a0 x3a1 z hu
    subst x3
    beta_reduce
    exact modJob_touches (Touches.inc hm rfl) hu
  try clear_value x3
  refine Touches.ite ?_ ?_
  · split
    · rename_i p4 p5 e6
      have h7 : Touches mm z0 p4 := by
        have e := congrArg (Touches.optP z0) e6
        refine Eq.mp (congrArg (Touches mm z0) e) ?_
        clear e e6
        exact takeWin_touches (Touches.inc hm rfl) (Touches.refl mm _) hT
      exact hx3 _ _ _ h7
    · extract_lets -merge -underBinder x12 x13 x14 src15
      try clear_value x12
      have hx13 : Touches mm z0 x13 := by
        subst x13
        refine raiseIrq_touches (Touches.has hm rfl) (Touches.has hm rfl) ?_
        exact planFaultAt_touches (Touches.inc hm rfl) hT
      try clear_value x13
      have hx14 : Touches mm z0 x14 := by
        subst x14
        refine wr_touches (Touches.has hm rfl) ?_
        refine wr_touches (Touches.has hm rfl) ?_
        exact wr_touches (Touches.has hm rfl) hx13
      try clear_value x14
      exact setPipe_touches (Touches.inc hm rfl) hx14
  · exact hx3 _ _ _ hT

theorem finishPipe_touches {s : State} {p : ℕ} {q : ℕ} {step : ℕ} {a : AttnCmd} {j : PipeJob}
    (hm : 0x180000301C60014 &&& mm = 0x180000301C60014) (hT : Touches mm z0 s) :
    Touches mm z0 (finishPipe s p q step a j) := by
  unfold finishPipe
  extract_lets -merge -underBinder x16 x17 x18 x19 x20 src21 x22 x23 x24 x25 x26 x27 x28 x29 x30 x31
  try clear_value x16
  try clear_value x17
  try clear_value x18
  try clear_value x19
  try clear_value x20
  have hx22 : Touches mm z0 x22 := by
    subst x22
    exact setPipe_touches (Touches.inc hm rfl) hT
  try clear_value x22
  try clear_value x23
  have hx24 : Touches mm z0 x24 := by
    subst x24
    refine incWrap_touches (Touches.has hm rfl) ?_
    exact addEmpty_touches (Touches.inc hm rfl) hx22
  try clear_value x24
  try clear_value x25
  try clear_value x26
  try clear_value x27
  try clear_value x28
  try clear_value x29
  have hx30 : Touches mm z0 x30 := by
    subst x30
    refine raiseIrq_touches (Touches.has hm rfl) (Touches.has hm rfl) ?_
    exact planFaultAt_touches (Touches.inc hm rfl) hx24
  try clear_value x30
  have hx31 : Touches mm z0 x31 := by
    subst x31
    exact attnPut_touches (Touches.inc hm rfl) hx24
  try clear_value x31
  refine Touches.ite ?_ ?_
  · refine Touches.ite ?_ ?_
    · refine useFree_touches (Touches.inc hm rfl) ?_
      refine wr_touches (Touches.has hm rfl) ?_
      refine wr_touches (Touches.has hm rfl) ?_
      exact wr_touches (Touches.has hm rfl) hx30
    · refine useFree_touches (Touches.inc hm rfl) ?_
      exact setPipe_touches (Touches.inc hm rfl) hx24
  · refine useFree_touches (Touches.inc hm rfl) ?_
    refine Touches.ite ?_ ?_
    · exact attnPut_touches (Touches.inc hm rfl) hx31
    · exact hx31

theorem advancePipe_touches {p : ℕ} {step : ℕ} {s : State} {q : ℕ} (hm : 0x180000301C60014 &&& mm = 0x180000301C60014)
    (hT : Touches mm z0 s) :
    Touches mm z0 (advancePipe p step s q) := by
  unfold advancePipe
  split
  · exact hT
  · extract_lets -merge -underBinder x9 x10 x11 x12 x13 x14 x15 x16 x17
    try clear_value x9
    try clear_value x10
    try clear_value x11
    try clear_value x12
    try clear_value x13
    have hx14 : Touches mm z0 x14 := by
      subst x14
      refine Touches.ite ?_ ?_
      · exact modJob_touches (Touches.inc hm rfl) hT
      · exact hT
    try clear_value x14
    try clear_value x15
    have hx16 : Touches mm z0 x16 := by
      subst x16
      refine Touches.ite ?_ ?_
      · exact readBlock_touches (Touches.inc hm rfl) hx14
      · exact hx14
    try clear_value x16
    have hx17 : Touches mm z0 x17 := by
      subst x17
      refine Touches.ite ?_ ?_
      · refine Touches.ite ?_ ?_
        · exact readBlock_touches (Touches.inc hm rfl) hx16
        · exact hx16
      · exact hx14
    try clear_value x17
    split
    · refine Touches.ite ?_ ?_
      · exact finishPipe_touches (Touches.inc hm rfl) hx17
      · exact hx17
    · exact hx17

end Sys2Proof.Laws
end

