-- ==== Sys2Proof/Laws/FrameWaggle.lean ====
section
/-!
SUPPORT. What each operation of `Machine/Waggle.lean` may touch: the mask names the parts of the state in which its result can
differ from the state it started from.
-/

set_option linter.unusedVariables false
set_option linter.unusedTactic false

namespace Sys2Proof.Laws

open Sys2Proof Sys2Proof.Machine Sys2Proof.Safety

variable {mm : Nat} {z0 : State}

theorem wagControl_touches {s : State} {w : Writer} {p : ℕ} {v : ℕ} (hm : 0xFFFFFFFF00065F94 &&& mm = 0xFFFFFFFF00065F94)
    (hT : Touches mm z0 s) :
    Touches mm z0 (wagControl s w p v) := by
  unfold wagControl
  extract_lets -merge -underBinder x7 x8 x9 x10 x11 x12 x13
  try clear_value x7
  try clear_value x8
  have hx9 : Touches mm z0 x9 := by
    subst x9
    exact wordWrite_touches (Touches.inc hm rfl) hT
  try clear_value x9
  try clear_value x10
  have hx11 : Touches mm z0 x11 := by
    subst x11
    exact portDown_touches (Touches.inc hm rfl) hx9
  try clear_value x11
  have hx12 : Touches mm z0 x12 := by
    subst x12
    exact setPort_touches (Touches.inc hm rfl) hx11
  try clear_value x12
  have hx13 : Touches mm z0 x13 := by
    subst x13
    refine Touches.ite ?_ ?_
    · refine wr_touches (Touches.has hm rfl) ?_
      refine wr_touches (Touches.has hm rfl) ?_
      refine wr_touches (Touches.has hm rfl) ?_
      refine wr_touches (Touches.has hm rfl) ?_
      exact wr_touches (Touches.has hm rfl) hx12
    · refine Touches.ite ?_ ?_
      · exact startTraining_touches (Touches.inc hm rfl) hx9
      · exact hx9
  try clear_value x13
  refine Touches.ite ?_ ?_
  · exact hx9
  · refine Touches.ite ?_ ?_
    · refine startTraining_touches (Touches.inc hm rfl) ?_
      exact portDown_touches (Touches.inc hm rfl) hx13
    · exact hx13

theorem execPortEnable_touches {w : Writer} {p : ℕ} {v : ℕ} {s : State} {d0 : State}
    (hm : 0xFFFFFFFF00065F94 &&& mm = 0xFFFFFFFF00065F94) (hd : Touches mm z0 d0) (hT : Touches mm z0 s) :
    Touches mm z0 (Touches.outS d0 (execPortEnable w p v s)) := by
  unfold execPortEnable
  refine Touches.nextI ?_
  exact wagControl_touches (Touches.inc hm rfl) hT

theorem execPortDisable_touches {w : Writer} {p : ℕ} {v : ℕ} {s : State} {d0 : State}
    (hm : 0xFFFFFFFF00065F94 &&& mm = 0xFFFFFFFF00065F94) (hd : Touches mm z0 d0) (hT : Touches mm z0 s) :
    Touches mm z0 (Touches.outS d0 (execPortDisable w p v s)) := by
  unfold execPortDisable
  refine Touches.nextI ?_
  exact wagControl_touches (Touches.inc hm rfl) hT

theorem execWagRetrain_touches {w : Writer} {p : ℕ} {v : ℕ} {s : State} {d0 : State}
    (hm : 0xFFFFFFFF00065F94 &&& mm = 0xFFFFFFFF00065F94) (hd : Touches mm z0 d0) (hT : Touches mm z0 s) :
    Touches mm z0 (Touches.outS d0 (execWagRetrain w p v s)) := by
  unfold execWagRetrain
  refine Touches.nextI ?_
  exact wagControl_touches (Touches.inc hm rfl) hT

theorem execTrainingPhaseDone_touches {p : ℕ} {i : PhaseInfo} {s : State} {d0 : State}
    (hm : 0x200000000800 &&& mm = 0x200000000800) (hd : Touches mm z0 d0) (hT : Touches mm z0 s) :
    Touches mm z0 (Touches.outS d0 (execTrainingPhaseDone p i s)) := by
  unfold execTrainingPhaseDone
  extract_lets -merge -underBinder x1
  try clear_value x1
  refine Touches.nextI ?_
  refine Touches.ite ?_ ?_
  · exact hT
  · split
    · refine wr_touches (Touches.has hm rfl) ?_
      exact setPort_touches (Touches.inc hm rfl) hT
    · refine wr_touches (Touches.has hm rfl) ?_
      refine wr_touches (Touches.has hm rfl) ?_
      exact setPort_touches (Touches.inc hm rfl) hT
    · extract_lets -merge -underBinder x5 x6 x7
      try clear_value x5
      try clear_value x6
      have hx7 : Touches mm z0 x7 := by
        subst x7
        refine wr_touches (Touches.has hm rfl) ?_
        refine wr_touches (Touches.has hm rfl) ?_
        exact setPort_touches (Touches.inc hm rfl) hT
      try clear_value x7
      refine Touches.ite ?_ ?_
      · exact hT
      · refine wr_touches (Touches.has hm rfl) ?_
        exact wr_touches (Touches.has hm rfl) hx7
    · refine wr_touches (Touches.has hm rfl) ?_
      exact setPort_touches (Touches.inc hm rfl) hT
    · exact hT

theorem trainFail_touches {s : State} {p : ℕ} {cause : ℕ} (hm : 0x200000000800 &&& mm = 0x200000000800) (hT : Touches mm z0 s) :
    Touches mm z0 (trainFail s p cause) := by
  unfold trainFail
  extract_lets -merge -underBinder x2 x3
  try clear_value x2
  have hx3 : Touches mm z0 x3 := by
    subst x3
    exact setPort_touches (Touches.inc hm rfl) hT
  try clear_value x3
  refine wr_touches (Touches.has hm rfl) ?_
  exact wr_touches (Touches.has hm rfl) hx3

theorem execTrainingBoundExpiry_touches {p : ℕ} {s : State} {d0 : State} (hm : 0x200000000800 &&& mm = 0x200000000800)
    (hd : Touches mm z0 d0) (hT : Touches mm z0 s) :
    Touches mm z0 (Touches.outS d0 (execTrainingBoundExpiry p s)) := by
  unfold execTrainingBoundExpiry
  refine Touches.nextI ?_
  refine Touches.ite ?_ ?_
  · exact trainFail_touches (Touches.inc hm rfl) hT
  · refine Touches.ite ?_ ?_
    · exact trainFail_touches (Touches.inc hm rfl) hT
    · exact hT

theorem execLinkKeyExchange_touches {p : ℕ} {chainOk : Bool} {sigOk : Bool} {peerDebug : Bool} {s : State} {d0 : State}
    (hm : 0x180200000060810 &&& mm = 0x180200000060810) (hd : Touches mm z0 d0) (hT : Touches mm z0 s) :
    Touches mm z0 (Touches.outS d0 (execLinkKeyExchange p chainOk sigOk peerDebug s)) := by
  unfold execLinkKeyExchange
  extract_lets -merge -underBinder x2 src3
  try clear_value x2
  refine Touches.nextI ?_
  refine Touches.ite ?_ ?_
  · refine Touches.ite ?_ ?_
    · exact linkUp_touches (Touches.inc hm rfl) hT
    · exact trainFail_touches (Touches.inc hm rfl) hT
  · refine Touches.ite ?_ ?_
    · exact setPort_touches (Touches.inc hm rfl) hT
    · exact hT

theorem execRetrainWaitExpiry_touches {p : ℕ} {s : State} {d0 : State} (hm : 0x200000000801 &&& mm = 0x200000000801)
    (hd : Touches mm z0 d0) (hT : Touches mm z0 s) :
    Touches mm z0 (Touches.outS d0 (execRetrainWaitExpiry p s)) := by
  unfold execRetrainWaitExpiry
  extract_lets -merge -underBinder x1
  try clear_value x1
  refine Touches.nextI ?_
  refine Touches.ite ?_ ?_
  · refine startTraining_touches (Touches.inc hm rfl) ?_
    exact reachTime_touches (Touches.inc hm rfl) hT
  · exact hT

theorem stamp_touches {s : State} {p : ℕ} {f : WFrame} (hm : 0x180200000060810 &&& mm = 0x180200000060810)
    (hT : Touches mm z0 s) :
    Touches mm z0 (stamp s p f).1 := by
  unfold stamp
  extract_lets -merge -underBinder x7 x8 x9 x10 x11 x12 x13
  try clear_value x7
  try clear_value x8
  try clear_value x9
  try clear_value x10
  try clear_value x11
  try clear_value x12
  have hx13 : Touches mm z0 x13 := by
    subst x13
    refine wr_touches (Touches.has hm rfl) ?_
    exact setPort_touches (Touches.inc hm rfl) hT
  try clear_value x13
  refine Touches.mkI ?_
  refine Touches.ite ?_ ?_
  · refine irqEvent_touches (Touches.inc hm rfl) (Touches.has hm rfl) ?_
    exact incSat_touches (Touches.has hm rfl) hx13
  · exact hx13

theorem putFrame_touches {s : State} {p : ℕ} {f : WFrame} (hm : 0x180200000060810 &&& mm = 0x180200000060810)
    (hT : Touches mm z0 s) :
    Touches mm z0 (putFrame s p f) := by
  unfold putFrame
  split
  · rename_i p0 p1 e2
    have h3 : Touches mm z0 p0 := by
      have e := congrArg Prod.fst e2
      refine Eq.mp (congrArg (Touches mm z0) e) ?_
      clear e e2
      exact stamp_touches (Touches.inc hm rfl) hT
    exact emit_touches (Touches.has hm rfl) h3

theorem sendIdle_touches {s : State} {p : ℕ} (hm : 0x180200000060810 &&& mm = 0x180200000060810) (hT : Touches mm z0 s) :
    Touches mm z0 (sendIdle s p) := by
  unfold sendIdle
  exact putFrame_touches (Touches.inc hm rfl) hT

theorem freeBuffer_touches {s : State} {p : ℕ} {v : ℕ} (hm : 0x800 &&& mm = 0x800) (hT : Touches mm z0 s) :
    Touches mm z0 (freeBuffer s p v) := by
  unfold freeBuffer
  extract_lets -merge -underBinder x1
  try clear_value x1
  exact setPort_touches (Touches.inc hm rfl) hT

theorem sendNew_touches {s : State} {p : ℕ} {v : ℕ} (hm : 0x980628000060D90 &&& mm = 0x980628000060D90) (hT : Touches mm z0 s) :
    Touches mm z0 (sendNew s p v) := by
  unfold sendNew
  extract_lets -merge -underBinder x1
  try clear_value x1
  split
  · exact sendIdle_touches (Touches.inc hm rfl) hT
  · extract_lets -merge -underBinder x5 x6 x7
    try clear_value x5
    try clear_value x6
    try clear_value x7
    refine Touches.ite ?_ ?_
    · refine endPeer_touches (Touches.inc hm rfl) ?_
      exact abortCopy_touches (Touches.inc hm rfl) hT
    · split
      · extract_lets -merge -underBinder x13 x14 x15 x16 x17
        try clear_value x13
        try clear_value x14
        try clear_value x15
        have hx16 : Touches mm z0 x16 := by
          subst x16
          refine showReplay_touches (Touches.inc hm rfl) ?_
          exact setPort_touches (Touches.inc hm rfl) hT
        try clear_value x16
        have hx17 : Touches mm z0 x17 := by
          subst x17
          split
          · exact freeBuffer_touches (Touches.inc hm rfl) hx16
          · exact hx16
        try clear_value x17
        exact putFrame_touches (Touches.inc hm rfl) hx17

theorem sendAgain_touches {s : State} {p : ℕ} {f : WFrame} {rest : List WFrame}
    (hm : 0x180200000060810 &&& mm = 0x180200000060810) (hT : Touches mm z0 s) :
    Touches mm z0 (sendAgain s p f rest) := by
  unfold sendAgain
  extract_lets -merge -underBinder x2 x3
  try clear_value x2
  try clear_value x3
  refine putFrame_touches (Touches.inc hm rfl) ?_
  refine showReplay_touches (Touches.inc hm rfl) ?_
  exact setPort_touches (Touches.inc hm rfl) hT

theorem execFrameTransmit_touches {p : ℕ} {env : MemEnv} {s : State} {d0 : State}
    (hm : 0x981EA8800065F90 &&& mm = 0x981EA8800065F90) (hd : Touches mm z0 d0) (hT : Touches mm z0 s) :
    Touches mm z0 (Touches.outS d0 (execFrameTransmit p env s)) := by
  unfold execFrameTransmit
  extract_lets -merge -underBinder x1
  try clear_value x1
  refine Touches.nextI ?_
  refine Touches.ite ?_ ?_
  · exact hT
  · refine Touches.ite ?_ ?_
    · exact portDown_touches (Touches.inc hm rfl) hT
    · split
      · exact sendAgain_touches (Touches.inc hm rfl) hT
      · refine Touches.ite ?_ ?_
        · exact sendIdle_touches (Touches.inc hm rfl) hT
        · split
          · extract_lets -merge -underBinder x3
            have hx3 : Touches mm z0 x3 := by
              subst x3
              exact readFails_touches (Touches.inc hm rfl) hT
            try clear_value x3
            refine Touches.ite ?_ ?_
            · exact sendIdle_touches (Touches.inc hm rfl) hx3
            · exact sendNew_touches (Touches.inc hm rfl) hx3
          · split
            · exact sendNew_touches (Touches.inc hm rfl) hT
            · exact sendIdle_touches (Touches.inc hm rfl) hT

theorem discardFrame_touches {s : State} {p : ℕ} (hm : 0x800 &&& mm = 0x800) (hT : Touches mm z0 s) :
    Touches mm z0 (discardFrame s p) := by
  unfold discardFrame
  extract_lets -merge -underBinder x1
  try clear_value x1
  split
  · refine Touches.ite ?_ ?_
    · exact hT
    · exact setPort_touches (Touches.inc hm rfl) hT
  · exact setPort_touches (Touches.inc hm rfl) hT

theorem forwardFrame_touches {s : State} {p : ℕ} {f : WFrame} (hm : 0x40800 &&& mm = 0x40800) (hT : Touches mm z0 s) :
    Touches mm z0 (forwardFrame s p f) := by
  unfold forwardFrame
  extract_lets -merge -underBinder x5 x6 x7 x8 x9
  try clear_value x5
  try clear_value x6
  try clear_value x7
  have hx8 : Touches mm z0 x8 := by
    subst x8
    exact setPort_touches (Touches.inc hm rfl) hT
  try clear_value x8
  try clear_value x9
  split
  · exact freeBuffer_touches (Touches.inc hm rfl) hT
  · extract_lets -merge -underBinder x11
    have hx11 : Touches mm z0 x11 := by
      subst x11
      refine Touches.ite ?_ ?_
      · exact hx8
      · exact setPort_touches (Touches.inc hm rfl) hT
    try clear_value x11
    refine Touches.ite ?_ ?_
    · refine freeBuffer_touches (Touches.inc hm rfl) ?_
      refine Touches.ite ?_ ?_
      · exact hx8
      · exact hT
    · refine Touches.ite ?_ ?_
      · refine tellUnreachable_touches (Touches.inc hm rfl) ?_
        exact freeBuffer_touches (Touches.inc hm rfl) hx11
      · exact enqueue_touches (Touches.inc hm rfl) hx8

theorem reportCopy_touches {s : State} {c : InCopy} {st : Status} (hm : 0x40800 &&& mm = 0x40800) (hT : Touches mm z0 s) :
    Touches mm z0 (reportCopy s c st) := by
  unfold reportCopy
  exact sendMsg_touches (Touches.inc hm rfl) hT

theorem acceptCopy_touches {s : State} {c : InCopy} {data : List Byte} {last : Bool} {writeBad : List ℕ}
    (hm : 0x180000800060990 &&& mm = 0x180000800060990) (hT : Touches mm z0 s) :
    Touches mm z0 (acceptCopy s c data last writeBad) := by
  unfold acceptCopy
  extract_lets -merge -underBinder x7 x8 x9 x10 x11 x12 x13
  try clear_value x7
  have hx8 : ∀ x8a0 x8a1 z, Touches mm z x8a0 → Touches mm z (x8 x8a0 x8a1) := by
    intro x8a0 x8a1 z hu
    subst x8
    beta_reduce
    extract_lets -merge -underBinder src15
    exact Touches.links (Touches.has hm rfl) hu
  try clear_value x8
  try clear_value x9
  try clear_value x10
  have hx11 : Touches mm z0 x11 := by
    subst x11
    refine Touches.foldl ?_ (fun u x => ?_)
    · exact memWrite_touches (Touches.has hm rfl) (Touches.has hm rfl) hT
    · revert x u; intro u16 y
      beta_reduce
      exact writePathBad_touches (Touches.inc hm rfl) (Touches.refl mm _)
  try clear_value x11
  try clear_value x12
  have hx13 : Touches mm z0 x13 := by
    subst x13
    exact hx8 _ _ _ hx11
  try clear_value x13
  refine Touches.ite ?_ ?_
  · exact hx8 _ _ _ hT
  · refine Touches.ite ?_ ?_
    · refine reportCopy_touches (Touches.inc hm rfl) ?_
      exact hx8 _ _ _ hT
    · refine Touches.ite ?_ ?_
      · refine reportCopy_touches (Touches.inc hm rfl) ?_
        exact hx8 _ _ _ hx11
      · refine Touches.ite ?_ ?_
        · exact reportCopy_touches (Touches.inc hm rfl) hx13
        · refine Touches.ite ?_ ?_
          · exact reportCopy_touches (Touches.inc hm rfl) hx13
          · exact hx13

theorem acceptSignal_touches {s : State} {src : ℕ} {cmd : ℕ} {t : ℕ} {c : ℕ} {set : Bool} {v : ℕ}
    (hm : 0x800428000040D80 &&& mm = 0x800428000040D80) (hT : Touches mm z0 s) :
    Touches mm z0 (acceptSignal s src cmd t c set v) := by
  unfold acceptSignal
  refine Touches.ite ?_ ?_
  · exact sendMsg_touches (Touches.inc hm rfl) hT
  · refine sendMsg_touches (Touches.inc hm rfl) ?_
    exact signalUpdate_touches (Touches.inc hm rfl) hT

theorem deliverFrame_touches {s : State} {p : ℕ} {f : WFrame} {writeBad : List ℕ}
    (hm : 0x980428800060D90 &&& mm = 0x980428800060D90) (hT : Touches mm z0 s) :
    Touches mm z0 (deliverFrame s p f writeBad) := by
  unfold deliverFrame
  split
  · extract_lets -merge -underBinder x1
    try clear_value x1
    split
    · extract_lets -merge -underBinder src4 x5
      have hx5 : Touches mm z0 x5 := by
        subst x5
        refine Touches.ite ?_ ?_
        · exact hT
        · exact Touches.links (Touches.has hm rfl) hT
      try clear_value x5
      exact reportCopy_touches (Touches.inc hm rfl) hx5
    · exact acceptCopy_touches (Touches.inc hm rfl) hT
  · split
    · exact acceptCopy_touches (Touches.inc hm rfl) hT
    · exact hT
  · exact acceptSignal_touches (Touches.inc hm rfl) hT
  · exact endPeer_touches (Touches.inc hm rfl) hT
  · exact hT

theorem takeFrame_touches {s : State} {p : ℕ} {f : WFrame} {e : RxEnv} (hm : 0x981EA8800065F90 &&& mm = 0x981EA8800065F90)
    (hT : Touches mm z0 s) :
    Touches mm z0 (takeFrame s p f e) := by
  unfold takeFrame
  extract_lets -merge -underBinder x4 x5 x6 x7
  have hx4 : Touches mm z0 x4 := by
    subst x4
    exact applyAck_touches (Touches.inc hm rfl) hT
  try clear_value x4
  have hx5 : Touches mm z0 x5 := by
    subst x5
    refine Touches.ite ?_ ?_
    · exact startReplay_touches (Touches.inc hm rfl) hx4
    · exact hx4
  try clear_value x5
  try clear_value x6
  have hx7 : Touches mm z0 x7 := by
    subst x7
    exact setPort_touches (Touches.inc hm rfl) hx5
  try clear_value x7
  refine Touches.ite ?_ ?_
  · exact hx5
  · refine Touches.ite ?_ ?_
    · exact setPort_touches (Touches.inc hm rfl) hx5
    · refine Touches.ite ?_ ?_
      · exact discardFrame_touches (Touches.inc hm rfl) hx5
      · refine Touches.ite ?_ ?_
        · exact portDown_touches (Touches.inc hm rfl) hx7
        · refine Touches.ite ?_ ?_
          · refine freeBuffer_touches (Touches.inc hm rfl) ?_
            exact incSat_touches (Touches.has hm rfl) hx7
          · refine Touches.ite ?_ ?_
            · refine deliverFrame_touches (Touches.inc hm rfl) ?_
              exact freeBuffer_touches (Touches.inc hm rfl) hx7
            · exact forwardFrame_touches (Touches.inc hm rfl) hx7

theorem execFrameReceive_touches {p : ℕ} {f : WFrame} {e : RxEnv} {s : State} {d0 : State}
    (hm : 0x981EA8800065F90 &&& mm = 0x981EA8800065F90) (hd : Touches mm z0 d0) (hT : Touches mm z0 s) :
    Touches mm z0 (Touches.outS d0 (execFrameReceive p f e s)) := by
  unfold execFrameReceive
  extract_lets -merge -underBinder x2 x3
  have hx2 : Touches mm z0 x2 := by
    subst x2
    exact addSat_touches (Touches.has hm rfl) hT
  try clear_value x2
  try clear_value x3
  refine Touches.nextI ?_
  refine Touches.ite ?_ ?_
  · exact hT
  · refine Touches.ite ?_ ?_
    · refine discardFrame_touches (Touches.inc hm rfl) ?_
      exact incSat_touches (Touches.has hm rfl) hx2
    · refine Touches.ite ?_ ?_
      · refine discardFrame_touches (Touches.inc hm rfl) ?_
        exact incSat_touches (Touches.has hm rfl) hx2
      · refine Touches.ite ?_ ?_
        · refine takeFrame_touches (Touches.inc hm rfl) ?_
          exact setPort_touches (Touches.inc hm rfl) hx2
        · refine Touches.ite ?_ ?_
          · exact discardFrame_touches (Touches.inc hm rfl) hx2
          · exact takeFrame_touches (Touches.inc hm rfl) hx2

theorem execReplayTimerExpiry_touches {p : ℕ} {s : State} {d0 : State} (hm : 0x180200000060811 &&& mm = 0x180200000060811)
    (hd : Touches mm z0 d0) (hT : Touches mm z0 s) :
    Touches mm z0 (Touches.outS d0 (execReplayTimerExpiry p s)) := by
  unfold execReplayTimerExpiry
  refine Touches.nextI ?_
  split
  · refine Touches.ite ?_ ?_
    · refine startReplay_touches (Touches.inc hm rfl) ?_
      exact reachTime_touches (Touches.inc hm rfl) hT
    · exact hT
  · exact hT

theorem execReplayBudgetExpiry_touches {p : ℕ} {s : State} {d0 : State} (hm : 0x981EA8000065F91 &&& mm = 0x981EA8000065F91)
    (hd : Touches mm z0 d0) (hT : Touches mm z0 s) :
    Touches mm z0 (Touches.outS d0 (execReplayBudgetExpiry p s)) := by
  unfold execReplayBudgetExpiry
  refine Touches.nextI ?_
  split
  · split
    · refine Touches.ite ?_ ?_
      · refine portDown_touches (Touches.inc hm rfl) ?_
        exact reachTime_touches (Touches.inc hm rfl) hT
      · exact hT
    · exact hT
  · exact hT

theorem execLaneLockLoss_touches {p : ℕ} {mask : ℕ} {s : State} {d0 : State}
    (hm : 0x981EA8000065F90 &&& mm = 0x981EA8000065F90) (hd : Touches mm z0 d0) (hT : Touches mm z0 s) :
    Touches mm z0 (Touches.outS d0 (execLaneLockLoss p mask s)) := by
  unfold execLaneLockLoss
  extract_lets -merge -underBinder x2 x3
  try clear_value x2
  have hx3 : Touches mm z0 x3 := by
    subst x3
    exact wr_touches (Touches.has hm rfl) hT
  try clear_value x3
  refine Touches.nextI ?_
  refine Touches.ite ?_ ?_
  · exact portDown_touches (Touches.inc hm rfl) hx3
  · exact hx3

theorem twinPeerLeft_touches {s : State} (hm : 0x181080000064390 &&& mm = 0x181080000064390) (hT : Touches mm z0 s) :
    Touches mm z0 (twinPeerLeft s) := by
  unfold twinPeerLeft
  extract_lets -merge -underBinder x4 x5 src6 x7
  try clear_value x4
  try clear_value x5
  have hx7 : Touches mm z0 x7 := by
    subst x7
    refine twinCause_touches (Touches.inc hm rfl) ?_
    exact Touches.twin (Touches.has hm rfl) hT
  try clear_value x7
  refine Touches.ite ?_ ?_
  · refine Touches.ite ?_ ?_
    · exact becomeActive_touches (Touches.inc hm rfl) hx7
    · refine setTwinState_touches (Touches.inc hm rfl) ?_
      exact twinReset_touches (Touches.inc hm rfl) hx7
  · exact hT

theorem execLeavingNotice_touches {p : ℕ} {s : State} {d0 : State} (hm : 0x981EA8000065F90 &&& mm = 0x981EA8000065F90)
    (hd : Touches mm z0 d0) (hT : Touches mm z0 s) :
    Touches mm z0 (Touches.outS d0 (execLeavingNotice p s)) := by
  unfold execLeavingNotice
  extract_lets -merge -underBinder src3 x4 x5
  have hx4 : Touches mm z0 x4 := by
    subst x4
    exact setPort_touches (Touches.inc hm rfl) hT
  try clear_value x4
  have hx5 : Touches mm z0 x5 := by
    subst x5
    refine Touches.ite ?_ ?_
    · exact twinPeerLeft_touches (Touches.inc hm rfl) hx4
    · exact hiveLeaving_touches (Touches.inc hm rfl) hx4
  try clear_value x5
  refine Touches.nextI ?_
  refine Touches.ite ?_ ?_
  · exact hT
  · refine Touches.ite ?_ ?_
    · exact portDown_touches (Touches.inc hm rfl) hx5
    · exact hx5

theorem execLeavingWaitExpiry_touches {p : ℕ} {s : State} {d0 : State} (hm : 0x981EA8000065F91 &&& mm = 0x981EA8000065F91)
    (hd : Touches mm z0 d0) (hT : Touches mm z0 s) :
    Touches mm z0 (Touches.outS d0 (execLeavingWaitExpiry p s)) := by
  unfold execLeavingWaitExpiry
  refine Touches.nextI ?_
  split
  · refine portDown_touches (Touches.inc hm rfl) ?_
    exact reachTime_touches (Touches.inc hm rfl) hT
  · exact hT

theorem execRekeyStart_touches {p : ℕ} {s : State} {d0 : State} (hm : 0x800 &&& mm = 0x800) (hd : Touches mm z0 d0)
    (hT : Touches mm z0 s) :
    Touches mm z0 (Touches.outS d0 (execRekeyStart p s)) := by
  unfold execRekeyStart
  extract_lets -merge -underBinder x1
  try clear_value x1
  refine Touches.nextI ?_
  refine Touches.ite ?_ ?_
  · refine sendOn_touches (Touches.inc hm rfl) ?_
    exact setPort_touches (Touches.inc hm rfl) hT
  · exact hT

theorem execRekeyDeadline_touches {p : ℕ} {s : State} {d0 : State} (hm : 0x981EA8000065F90 &&& mm = 0x981EA8000065F90)
    (hd : Touches mm z0 d0) (hT : Touches mm z0 s) :
    Touches mm z0 (Touches.outS d0 (execRekeyDeadline p s)) := by
  unfold execRekeyDeadline
  extract_lets -merge -underBinder x1
  try clear_value x1
  refine Touches.nextI ?_
  refine Touches.ite ?_ ?_
  · exact portDown_touches (Touches.inc hm rfl) hT
  · exact hT

theorem execUnreachableReport_touches {cmd : Option ℕ} {s : State} {d0 : State}
    (hm : 0x800428000040D80 &&& mm = 0x800428000040D80) (hd : Touches mm z0 d0) (hT : Touches mm z0 s) :
    Touches mm z0 (Touches.outS d0 (execUnreachableReport cmd s)) := by
  unfold execUnreachableReport
  refine Touches.nextI ?_
  split
  · exact endPeer_touches (Touches.inc hm rfl) hT
  · exact hT

theorem execCopyAcceptReport_touches {cmd : ℕ} {bytes : ℕ} {st : Status} {s : State} {d0 : State}
    (hm : 0x800428000040D80 &&& mm = 0x800428000040D80) (hd : Touches mm z0 d0) (hT : Touches mm z0 s) :
    Touches mm z0 (Touches.outS d0 (execCopyAcceptReport cmd bytes st s)) := by
  unfold execCopyAcceptReport
  refine Touches.nextI ?_
  split
  · exact hT
  · extract_lets -merge -underBinder src2 x3
    have hx3 : Touches mm z0 x3 := by
      subst x3
      exact Touches.links (Touches.has hm rfl) hT
    try clear_value x3
    refine Touches.ite ?_ ?_
    · exact endPeer_touches (Touches.inc hm rfl) hx3
    · refine Touches.ite ?_ ?_
      · refine endPeer_touches (Touches.inc hm rfl) ?_
        exact abortCopy_touches (Touches.inc hm rfl) hx3
      · refine Touches.ite ?_ ?_
        · exact endPeer_touches (Touches.inc hm rfl) hx3
        · exact hx3

theorem execCopyAbort_touches {src : ℕ} {cmd : ℕ} {s : State} {d0 : State} (hm : 0x40800 &&& mm = 0x40800)
    (hd : Touches mm z0 d0) (hT : Touches mm z0 s) :
    Touches mm z0 (Touches.outS d0 (execCopyAbort src cmd s)) := by
  unfold execCopyAbort
  refine Touches.nextI ?_
  split
  · extract_lets -merge -underBinder src1
    refine reportCopy_touches (Touches.inc hm rfl) ?_
    exact Touches.links (Touches.has hm rfl) hT
  · exact hT

theorem execRefLost_touches {s : State} {d0 : State} (hm : 0x180A00000061010 &&& mm = 0x180A00000061010)
    (hd : Touches mm z0 d0) (hT : Touches mm z0 s) :
    Touches mm z0 (Touches.outS d0 (execRefLost s)) := by
  unfold execRefLost
  refine Touches.nextI ?_
  exact refLost_touches (Touches.inc hm rfl) hT

end Sys2Proof.Laws
end

