-- ==== Sys2Proof/Laws/FrameHive.lean ====
section
/-!
SUPPORT. What each operation of `Machine/Hive.lean` may touch: the mask names the parts of the state in which its result can
differ from the state it started from.
-/

set_option linter.unusedVariables false
set_option linter.unusedTactic false

namespace Sys2Proof.Laws

open Sys2Proof Sys2Proof.Machine Sys2Proof.Safety

variable {mm : Nat} {z0 : State}

theorem shapePorts_touches {s : State} {sh : List ℕ} (hm : 0xFFFFFFFF00065F94 &&& mm = 0xFFFFFFFF00065F94)
    (hT : Touches mm z0 s) :
    Touches mm z0 (shapePorts s sh) := by
  unfold shapePorts
  refine Touches.foldl ?_ (fun u x => ?_)
  · exact hT
  · revert x u; intro u0 y
    beta_reduce
    extract_lets -merge -underBinder x3 x4
    try clear_value x3
    try clear_value x4
    refine Touches.ite ?_ ?_
    · exact wagControl_touches (Touches.inc hm rfl) (Touches.refl mm _)
    · refine Touches.ite ?_ ?_
      · exact wagControl_touches (Touches.inc hm rfl) (Touches.refl mm _)
      · exact Touches.refl mm _

theorem bypassPort_touches {s : State} {on : Bool} (hm : 0xFFFFFFFF00065F94 &&& mm = 0xFFFFFFFF00065F94) (hT : Touches mm z0 s) :
    Touches mm z0 (bypassPort s on) := by
  unfold bypassPort
  extract_lets -merge -underBinder x1
  try clear_value x1
  refine Touches.ite ?_ ?_
  · exact wagControl_touches (Touches.inc hm rfl) hT
  · refine Touches.ite ?_ ?_
    · exact wagControl_touches (Touches.inc hm rfl) hT
    · exact hT

theorem noUpstream_touches {s : State} (hm : 0x180A00000060010 &&& mm = 0x180A00000060010) (hT : Touches mm z0 s) :
    Touches mm z0 (noUpstream s) := by
  unfold noUpstream
  refine setQuality_touches (Touches.inc hm rfl) ?_
  refine wr_touches (Touches.has hm rfl) ?_
  refine wr_touches (Touches.has hm rfl) ?_
  exact wr_touches (Touches.has hm rfl) hT

theorem clearGens_touches {s : State} (hm : 0x400000001000 &&& mm = 0x400000001000) (hT : Touches mm z0 s) :
    Touches mm z0 (clearGens s) := by
  unfold clearGens
  extract_lets -merge -underBinder src1
  refine Touches.foldl ?_ (fun u x => ?_)
  · exact Touches.hive (Touches.has hm rfl) hT
  · revert x u; intro u2 y
    beta_reduce
    exact wr_touches (Touches.has hm rfl) (Touches.refl mm _)

theorem firstTime_touches {s : State} (hm : 0x180800000061011 &&& mm = 0x180800000061011) (hT : Touches mm z0 s) :
    Touches mm z0 (firstTime s) := by
  unfold firstTime
  extract_lets -merge -underBinder x2 src3
  have hx2 : Touches mm z0 x2 := by
    subst x2
    refine Touches.ite ?_ ?_
    · exact hT
    · exact stepTime_touches (Touches.inc hm rfl) hT
  try clear_value x2
  exact Touches.hive (Touches.has hm rfl) hx2

theorem queenTime_touches {s : State} (hm : 0x180800000061011 &&& mm = 0x180800000061011) (hT : Touches mm z0 s) :
    Touches mm z0 (queenTime s) := by
  unfold queenTime
  refine stepTime_touches (Touches.inc hm rfl) ?_
  exact firstTime_touches (Touches.inc hm rfl) hT

theorem formAlone_touches {s : State} (hm : 0x180E00000061011 &&& mm = 0x180E00000061011) (hT : Touches mm z0 s) :
    Touches mm z0 (formAlone s) := by
  unfold formAlone
  extract_lets -merge -underBinder x4 x5 src6 x7
  have hx4 : Touches mm z0 x4 := by
    subst x4
    refine wr_touches (Touches.has hm rfl) ?_
    refine wr_touches (Touches.has hm rfl) ?_
    exact wr_touches (Touches.has hm rfl) hT
  try clear_value x4
  have hx5 : Touches mm z0 x5 := by
    subst x5
    refine setDeputy_touches (Touches.inc hm rfl) ?_
    refine setMembers_touches (Touches.inc hm rfl) ?_
    exact wr_touches (Touches.has hm rfl) hx4
  try clear_value x5
  have hx7 : Touches mm z0 x7 := by
    subst x7
    refine setHiveState_touches (Touches.inc hm rfl) ?_
    refine clearGens_touches (Touches.inc hm rfl) ?_
    refine noUpstream_touches (Touches.inc hm rfl) ?_
    exact Touches.hive (Touches.has hm rfl) hx5
  try clear_value x7
  refine irqEvent_touches (Touches.inc hm rfl) (Touches.has hm rfl) ?_
  exact firstTime_touches (Touches.inc hm rfl) hx7

theorem beginRestart_touches {s : State} (hm : 0xFFFFFFFF00065F94 &&& mm = 0xFFFFFFFF00065F94) (hT : Touches mm z0 s) :
    Touches mm z0 (beginRestart s) := by
  unfold beginRestart
  extract_lets -merge -underBinder src5 x6 x7 x8 src9
  have hx6 : Touches mm z0 x6 := by
    subst x6
    refine Touches.ite ?_ ?_
    · exact hT
    · exact Touches.hive (Touches.has hm rfl) hT
  try clear_value x6
  have hx7 : Touches mm z0 x7 := by
    subst x7
    exact wr_touches (Touches.has hm rfl) hx6
  try clear_value x7
  try clear_value x8
  refine shapePorts_touches (Touches.inc hm rfl) ?_
  exact Touches.hive (Touches.has hm rfl) hx7

theorem restartHive_touches {s : State} (hm : 0xFFFFFFFF00065F94 &&& mm = 0xFFFFFFFF00065F94) (hT : Touches mm z0 s) :
    Touches mm z0 (restartHive s) := by
  unfold restartHive
  extract_lets -merge -underBinder x1
  have hx1 : Touches mm z0 x1 := by
    subst x1
    refine Touches.ite ?_ ?_
    · refine leaveHive_touches (Touches.inc hm rfl) ?_
      refine Touches.foldl ?_ (fun u x => ?_)
      · exact hT
      · revert x u; intro u2 y
        beta_reduce
        exact sendMsg_touches (Touches.inc hm rfl) (Touches.refl mm _)
    · exact hT
  try clear_value x1
  refine beginRestart_touches (Touches.inc hm rfl) ?_
  refine wr_touches (Touches.has hm rfl) ?_
  exact wr_touches (Touches.has hm rfl) hx1

theorem execHiveRestart_touches {w : Writer} {auto : Bool} {s : State} {d0 : State}
    (hm : 0xFFFFFFFF00065F94 &&& mm = 0xFFFFFFFF00065F94) (hd : Touches mm z0 d0) (hT : Touches mm z0 s) :
    Touches mm z0 (Touches.outS d0 (execHiveRestart w auto s)) := by
  unfold execHiveRestart
  extract_lets -merge -underBinder x1
  have hx1 : Touches mm z0 x1 := by
    subst x1
    exact wordWrite_touches (Touches.inc hm rfl) hT
  try clear_value x1
  refine Touches.nextI ?_
  refine Touches.ite ?_ ?_
  · exact hx1
  · refine Touches.ite ?_ ?_
    · exact refuseWrite_touches (Touches.has hm rfl) hx1
    · exact restartHive_touches (Touches.inc hm rfl) hx1

theorem execFormationPortWaitEnd_touches {s : State} {d0 : State} (hm : 0x400000041801 &&& mm = 0x400000041801)
    (hd : Touches mm z0 d0) (hT : Touches mm z0 s) :
    Touches mm z0 (Touches.outS d0 (execFormationPortWaitEnd s)) := by
  unfold execFormationPortWaitEnd
  extract_lets -merge -underBinder x6 x7 x8 x9 src10 x11
  have hx6 : Touches mm z0 x6 := by
    subst x6
    exact reachTime_touches (Touches.inc hm rfl) hT
  try clear_value x6
  have hx7 : Touches mm z0 x7 := by
    subst x7
    exact wr_touches (Touches.has hm rfl) hx6
  try clear_value x7
  try clear_value x8
  try clear_value x9
  have hx11 : Touches mm z0 x11 := by
    subst x11
    exact Touches.hive (Touches.has hm rfl) hx7
  try clear_value x11
  refine Touches.nextI ?_
  refine Touches.ite ?_ ?_
  · exact hT
  · refine Touches.foldl ?_ (fun u x => ?_)
    · exact setHiveState_touches (Touches.inc hm rfl) hx11
    · revert x u; intro u12 y
      beta_reduce
      exact sendMsg_touches (Touches.inc hm rfl) (Touches.refl mm _)

theorem sendJoin_touches {s : State} {src : ℕ} {epoch : ℕ} {sh : List ℕ} (hm : 0xFFFFFFFF00065F94 &&& mm = 0xFFFFFFFF00065F94)
    (hT : Touches mm z0 s) :
    Touches mm z0 (sendJoin s src epoch sh) := by
  unfold sendJoin
  extract_lets -merge -underBinder x5 x6 x7 src8 x9
  have hx5 : Touches mm z0 x5 := by
    subst x5
    refine wr_touches (Touches.has hm rfl) ?_
    exact wr_touches (Touches.has hm rfl) hT
  try clear_value x5
  have hx6 : Touches mm z0 x6 := by
    subst x6
    refine wr_touches (Touches.has hm rfl) ?_
    refine wr_touches (Touches.has hm rfl) ?_
    exact wr_touches (Touches.has hm rfl) hx5
  try clear_value x6
  have hx7 : Touches mm z0 x7 := by
    subst x7
    refine wr_touches (Touches.has hm rfl) ?_
    refine wr_touches (Touches.has hm rfl) ?_
    exact wr_touches (Touches.has hm rfl) hx6
  try clear_value x7
  have hx9 : Touches mm z0 x9 := by
    subst x9
    exact Touches.hive (Touches.has hm rfl) hx7
  try clear_value x9
  refine sendMsg_touches (Touches.inc hm rfl) ?_
  refine setHiveState_touches (Touches.inc hm rfl) ?_
  exact shapePorts_touches (Touches.inc hm rfl) hx9

theorem execFormationCall_touches {src : ℕ} {epoch : ℕ} {shape : List ℕ} {s : State} {d0 : State}
    (hm : 0xFFFFFFFF00065F95 &&& mm = 0xFFFFFFFF00065F95) (hd : Touches mm z0 d0) (hT : Touches mm z0 s) :
    Touches mm z0 (Touches.outS d0 (execFormationCall src epoch shape s)) := by
  unfold execFormationCall
  extract_lets -merge -underBinder x4 x5 x6 src7
  try clear_value x4
  try clear_value x5
  have hx6 : Touches mm z0 x6 := by
    subst x6
    exact sendJoin_touches (Touches.inc hm rfl) hT
  try clear_value x6
  refine Touches.nextI ?_
  refine Touches.ite ?_ ?_
  · refine Touches.ite ?_ ?_
    · exact hT
    · exact formAlone_touches (Touches.inc hm rfl) hT
  · refine Touches.ite ?_ ?_
    · split
      · refine Touches.ite ?_ ?_
        · refine wr_touches (Touches.has hm rfl) ?_
          exact sendJoin_touches (Touches.inc hm rfl) hT
        · exact hT
      · exact hT
    · refine Touches.ite ?_ ?_
      · split
        · refine Touches.ite ?_ ?_
          · exact sendJoin_touches (Touches.inc hm rfl) hT
          · exact hT
        · exact hT
      · refine Touches.ite ?_ ?_
        · refine Touches.ite ?_ ?_
          · exact Touches.hive (Touches.has hm rfl) hx6
          · exact hx6
        · exact hT

theorem execJoin_touches {id : ℕ} {role : ℕ} {time : ℕ} {group : List ℕ} {s : State} {d0 : State}
    (hm : 0x1000 &&& mm = 0x1000) (hd : Touches mm z0 d0) (hT : Touches mm z0 s) :
    Touches mm z0 (Touches.outS d0 (execJoin id role time group s)) := by
  unfold execJoin
  extract_lets -merge -underBinder x2 src3
  try clear_value x2
  refine Touches.nextI ?_
  refine Touches.ite ?_ ?_
  · exact Touches.hive (Touches.has hm rfl) hT
  · exact hT

theorem recordConflicts_touches {s : State} (hm : 0x180000000060014 &&& mm = 0x180000000060014) (hT : Touches mm z0 s) :
    Touches mm z0 (recordConflicts s) := by
  unfold recordConflicts
  refine Touches.foldl ?_ (fun u x => ?_)
  · exact hT
  · revert x u; intro u0 y
    beta_reduce
    refine Touches.ite ?_ ?_
    · refine useFree_touches (Touches.inc hm rfl) ?_
      exact recordEvent_touches (Touches.inc hm rfl) (Touches.refl mm _)
    · exact Touches.refl mm _

theorem execJoinWindowEnd_touches {bypass : Bool} {s : State} {d0 : State}
    (hm : 0xFFFFFFFF00065F95 &&& mm = 0xFFFFFFFF00065F95) (hd : Touches mm z0 d0) (hT : Touches mm z0 s) :
    Touches mm z0 (Touches.outS d0 (execJoinWindowEnd bypass s)) := by
  unfold execJoinWindowEnd
  extract_lets -merge -underBinder x16 x17 x18 x19 x20 x21 x22 x23 x24 x25 x26 src27 x28 x29 x30 src31
  have hx16 : Touches mm z0 x16 := by
    subst x16
    exact reachTime_touches (Touches.inc hm rfl) hT
  try clear_value x16
  have hx17 : Touches mm z0 x17 := by
    subst x17
    exact recordConflicts_touches (Touches.inc hm rfl) hx16
  try clear_value x17
  try clear_value x18
  try clear_value x19
  try clear_value x20
  have hx21 : Touches mm z0 x21 := by
    subst x21
    exact queenTime_touches (Touches.inc hm rfl) hx17
  try clear_value x21
  try clear_value x22
  have hx23 : Touches mm z0 x23 := by
    subst x23
    refine setMembers_touches (Touches.inc hm rfl) ?_
    refine setDeputy_touches (Touches.inc hm rfl) ?_
    refine wr_touches (Touches.has hm rfl) ?_
    exact wr_touches (Touches.has hm rfl) hx21
  try clear_value x23
  have hx24 : Touches mm z0 x24 := by
    subst x24
    refine Touches.foldl ?_ (fun u x => ?_)
    · exact hx23
    · revert x u; intro u32 y
      beta_reduce
      exact wr_touches (Touches.has hm rfl) (Touches.refl mm _)
  try clear_value x24
  have hx25 : Touches mm z0 x25 := by
    subst x25
    refine setHiveState_touches (Touches.inc hm rfl) ?_
    refine loadShards_touches (Touches.inc hm rfl) ?_
    refine clearGens_touches (Touches.inc hm rfl) ?_
    exact noUpstream_touches (Touches.inc hm rfl) hx24
  try clear_value x25
  have hx26 : Touches mm z0 x26 := by
    subst x26
    exact bypassPort_touches (Touches.inc hm rfl) hx25
  try clear_value x26
  have hx28 : Touches mm z0 x28 := by
    subst x28
    exact Touches.hive (Touches.has hm rfl) hx26
  try clear_value x28
  have hx29 : Touches mm z0 x29 := by
    subst x29
    refine Touches.foldl ?_ (fun u x => ?_)
    · exact hx28
    · revert x u; intro u33 y
      beta_reduce
      exact sendMsg_touches (Touches.inc hm rfl) (Touches.refl mm _)
  try clear_value x29
  have hx30 : Touches mm z0 x30 := by
    subst x30
    exact sendGroupKey_touches (Touches.inc hm rfl) hx29
  try clear_value x30
  refine Touches.nextI ?_
  refine Touches.ite ?_ ?_
  · exact hT
  · refine Touches.ite ?_ ?_
    · refine irqEvent_touches (Touches.inc hm rfl) (Touches.has hm rfl) ?_
      exact Touches.hive (Touches.has hm rfl) hx30
    · exact hx30

theorem enterHive_touches {s : State} {src : ℕ} {epoch : ℕ} {l : List ℕ} {deputy : ℕ} {time : ℕ} {bypass : Bool}
    (hm : 0xFFFFFFFF00065F95 &&& mm = 0xFFFFFFFF00065F95) (hT : Touches mm z0 s) :
    Touches mm z0 (enterHive s src epoch l deputy time bypass) := by
  unfold enterHive
  extract_lets -merge -underBinder x12 x13 x14 x15 src16 x17 x18 x19 x20 src21 x22 x23
  try clear_value x12
  try clear_value x13
  have hx14 : Touches mm z0 x14 := by
    subst x14
    refine wr_touches (Touches.has hm rfl) ?_
    refine wr_touches (Touches.has hm rfl) ?_
    exact wr_touches (Touches.has hm rfl) hT
  try clear_value x14
  have hx15 : Touches mm z0 x15 := by
    subst x15
    exact wr_touches (Touches.has hm rfl) hx14
  try clear_value x15
  have hx17 : Touches mm z0 x17 := by
    subst x17
    exact Touches.hive (Touches.has hm rfl) hx15
  try clear_value x17
  have hx18 : Touches mm z0 x18 := by
    subst x18
    exact stepTime_touches (Touches.inc hm rfl) hx17
  try clear_value x18
  have hx19 : Touches mm z0 x19 := by
    subst x19
    refine wr_touches (Touches.has hm rfl) ?_
    refine wr_touches (Touches.has hm rfl) ?_
    exact wr_touches (Touches.has hm rfl) hx18
  try clear_value x19
  have hx20 : Touches mm z0 x20 := by
    subst x20
    refine clearGens_touches (Touches.inc hm rfl) ?_
    refine setMembers_touches (Touches.inc hm rfl) ?_
    exact setDeputy_touches (Touches.inc hm rfl) hx19
  try clear_value x20
  have hx22 : Touches mm z0 x22 := by
    subst x22
    refine bypassPort_touches (Touches.inc hm rfl) ?_
    exact Touches.hive (Touches.has hm rfl) hx20
  try clear_value x22
  have hx23 : Touches mm z0 x23 := by
    subst x23
    refine irqEvent_touches (Touches.inc hm rfl) (Touches.has hm rfl) ?_
    exact setHiveState_touches (Touches.inc hm rfl) hx22
  try clear_value x23
  exact sendMsg_touches (Touches.inc hm rfl) hx23

theorem execMemberList_touches {src : ℕ} {epoch : ℕ} {members : List ℕ} {deputy : ℕ} {time : ℕ} {bypass : Bool} {s : State}
    {d0 : State} (hm : 0xFFFFFFFF00065F95 &&& mm = 0xFFFFFFFF00065F95) (hd : Touches mm z0 d0) (hT : Touches mm z0 s) :
    Touches mm z0 (Touches.outS d0 (execMemberList src epoch members deputy time bypass s)) := by
  unfold execMemberList
  extract_lets -merge -underBinder src1
  refine Touches.nextI ?_
  refine Touches.ite ?_ ?_
  · refine Touches.ite ?_ ?_
    · exact enterHive_touches (Touches.inc hm rfl) hT
    · refine setQuality_touches (Touches.inc hm rfl) ?_
      refine setHiveState_touches (Touches.inc hm rfl) ?_
      exact Touches.hive (Touches.has hm rfl) hT
  · exact hT

theorem execMemberAck_touches {id : ℕ} {s : State} {d0 : State} (hm : 0x180400000061010 &&& mm = 0x180400000061010)
    (hd : Touches mm z0 d0) (hT : Touches mm z0 s) :
    Touches mm z0 (Touches.outS d0 (execMemberAck id s)) := by
  unfold execMemberAck
  extract_lets -merge -underBinder src3 x4 src5
  have hx4 : Touches mm z0 x4 := by
    subst x4
    exact Touches.hive (Touches.has hm rfl) hT
  try clear_value x4
  refine Touches.nextI ?_
  refine Touches.ite ?_ ?_
  · refine Touches.ite ?_ ?_
    · refine irqEvent_touches (Touches.inc hm rfl) (Touches.has hm rfl) ?_
      exact Touches.hive (Touches.has hm rfl) hx4
    · exact hx4
  · exact hT

theorem execFormationAckBound_touches {s : State} {d0 : State} (hm : 0x180400000061011 &&& mm = 0x180400000061011)
    (hd : Touches mm z0 d0) (hT : Touches mm z0 s) :
    Touches mm z0 (Touches.outS d0 (execFormationAckBound s)) := by
  unfold execFormationAckBound
  extract_lets -merge -underBinder x3 x4 src5
  have hx3 : Touches mm z0 x3 := by
    subst x3
    exact reachTime_touches (Touches.inc hm rfl) hT
  try clear_value x3
  have hx4 : Touches mm z0 x4 := by
    subst x4
    refine Touches.foldl ?_ (fun u x => ?_)
    · exact hx3
    · revert x u; intro u6 y
      beta_reduce
      refine Touches.ite ?_ ?_
      · exact Touches.refl mm _
      · exact wr_touches (Touches.has hm rfl) (Touches.refl mm _)
  try clear_value x4
  refine Touches.nextI ?_
  refine Touches.ite ?_ ?_
  · refine irqEvent_touches (Touches.inc hm rfl) (Touches.has hm rfl) ?_
    exact Touches.hive (Touches.has hm rfl) hx4
  · exact hT

theorem execFormingTimeout_touches {s : State} {d0 : State} (hm : 0x180C00000061011 &&& mm = 0x180C00000061011)
    (hd : Touches mm z0 d0) (hT : Touches mm z0 s) :
    Touches mm z0 (Touches.outS d0 (execFormingTimeout s)) := by
  unfold execFormingTimeout
  extract_lets -merge -underBinder x2 src3
  have hx2 : Touches mm z0 x2 := by
    subst x2
    exact reachTime_touches (Touches.inc hm rfl) hT
  try clear_value x2
  refine Touches.nextI ?_
  refine Touches.ite ?_ ?_
  · refine setQuality_touches (Touches.inc hm rfl) ?_
    refine setHiveState_touches (Touches.inc hm rfl) ?_
    exact Touches.hive (Touches.has hm rfl) hx2
  · exact hT

theorem execHiveStop_touches {s : State} {d0 : State} (hm : 0x980C28000061D90 &&& mm = 0x980C28000061D90)
    (hd : Touches mm z0 d0) (hT : Touches mm z0 s) :
    Touches mm z0 (Touches.outS d0 (execHiveStop s)) := by
  unfold execHiveStop
  refine Touches.nextI ?_
  refine Touches.ite ?_ ?_
  · exact hT
  · exact hiveStopped_touches (Touches.inc hm rfl) hT

theorem execWaitingNotice_touches {id : ℕ} {s : State} {d0 : State} (hm : 0x400000000000 &&& mm = 0x400000000000)
    (hd : Touches mm z0 d0) (hT : Touches mm z0 s) :
    Touches mm z0 (Touches.outS d0 (execWaitingNotice id s)) := by
  unfold execWaitingNotice
  refine Touches.nextI ?_
  refine Touches.ite ?_ ?_
  · exact wr_touches (Touches.has hm rfl) hT
  · exact hT

theorem execBeaconTimer_touches {s : State} {d0 : State} (hm : 0x40800 &&& mm = 0x40800) (hd : Touches mm z0 d0)
    (hT : Touches mm z0 s) :
    Touches mm z0 (Touches.outS d0 (execBeaconTimer s)) := by
  unfold execBeaconTimer
  extract_lets -merge -underBinder x1
  try clear_value x1
  refine Touches.nextI ?_
  refine Touches.ite ?_ ?_
  · refine sendOn_touches (Touches.inc hm rfl) ?_
    exact sendMsg_touches (Touches.inc hm rfl) hT
  · exact hT

theorem execQueenBeacon_touches {s : State} {d0 : State} (hm : 0x1000 &&& mm = 0x1000) (hd : Touches mm z0 d0)
    (hT : Touches mm z0 s) :
    Touches mm z0 (Touches.outS d0 (execQueenBeacon s)) := by
  unfold execQueenBeacon
  extract_lets -merge -underBinder src1
  refine Touches.nextI ?_
  refine Touches.ite ?_ ?_
  · exact Touches.hive (Touches.has hm rfl) hT
  · exact hT

theorem execQueenLossTimeout_touches {s : State} {d0 : State} (hm : 0x980C28000061D91 &&& mm = 0x980C28000061D91)
    (hd : Touches mm z0 d0) (hT : Touches mm z0 s) :
    Touches mm z0 (Touches.outS d0 (execQueenLossTimeout s)) := by
  unfold execQueenLossTimeout
  refine Touches.nextI ?_
  refine Touches.ite ?_ ?_
  · refine declareQueenLoss_touches (Touches.inc hm rfl) ?_
    exact reachTime_touches (Touches.inc hm rfl) hT
  · exact hT

theorem execQueenTakeover_touches {s : State} {d0 : State} (hm : 0xFFFFFFFF00065F95 &&& mm = 0xFFFFFFFF00065F95)
    (hd : Touches mm z0 d0) (hT : Touches mm z0 s) :
    Touches mm z0 (Touches.outS d0 (execQueenTakeover s)) := by
  unfold execQueenTakeover
  refine Touches.nextI ?_
  split
  · refine Touches.ite ?_ ?_
    · refine beginRestart_touches (Touches.inc hm rfl) ?_
      exact reachTime_touches (Touches.inc hm rfl) hT
    · exact hT
  · exact hT

theorem execTimeExchangeTimer_touches {s : State} {d0 : State} (hm : 0x800 &&& mm = 0x800) (hd : Touches mm z0 d0)
    (hT : Touches mm z0 s) :
    Touches mm z0 (Touches.outS d0 (execTimeExchangeTimer s)) := by
  unfold execTimeExchangeTimer
  extract_lets -merge -underBinder x1
  have hx1 : Touches mm z0 x1 := by
    subst x1
    refine Touches.foldl ?_ (fun u x => ?_)
    · exact hT
    · revert x u; intro u2 y
      beta_reduce
      exact sendOn_touches (Touches.inc hm rfl) (Touches.refl mm _)
  try clear_value x1
  refine Touches.nextI ?_
  refine Touches.ite ?_ ?_
  · exact hT
  · refine Touches.ite ?_ ?_
    · exact sendOn_touches (Touches.inc hm rfl) hx1
    · exact hx1

theorem execTimeExchange_touches {t1 : ℤ} {t2 : ℤ} {t3 : ℤ} {t4 : ℤ} {s : State} {d0 : State}
    (hm : 0x180800000061010 &&& mm = 0x180800000061010) (hd : Touches mm z0 d0) (hT : Touches mm z0 s) :
    Touches mm z0 (Touches.outS d0 (execTimeExchange t1 t2 t3 t4 s)) := by
  unfold execTimeExchange
  extract_lets -merge -underBinder x5 x6 x7 src8 x9
  try clear_value x5
  have hx6 : Touches mm z0 x6 := by
    subst x6
    refine wr_touches (Touches.has hm rfl) ?_
    exact wr_touches (Touches.has hm rfl) hT
  try clear_value x6
  try clear_value x7
  have hx9 : Touches mm z0 x9 := by
    subst x9
    exact Touches.hive (Touches.has hm rfl) hx6
  try clear_value x9
  refine Touches.nextI ?_
  refine Touches.ite ?_ ?_
  · exact hT
  · refine Touches.ite ?_ ?_
    · exact setQuality_touches (Touches.inc hm rfl) hx9
    · exact hx9

theorem execMeridSlewWrite_touches {w : Writer} {v : ℕ} {s : State} {d0 : State}
    (hm : 0xFFFFFFFF00060014 &&& mm = 0xFFFFFFFF00060014) (hd : Touches mm z0 d0) (hT : Touches mm z0 s) :
    Touches mm z0 (Touches.outS d0 (execMeridSlewWrite w v s)) := by
  unfold execMeridSlewWrite
  refine Touches.nextI ?_
  exact wordWrite_touches (Touches.inc hm rfl) hT

theorem execBarrierArrival_touches {l : List Arrival} {s : State} {d0 : State}
    (hm : 0x980428000061D90 &&& mm = 0x980428000061D90) (hd : Touches mm z0 d0) (hT : Touches mm z0 s) :
    Touches mm z0 (Touches.outS d0 (execBarrierArrival l s)) := by
  unfold execBarrierArrival
  extract_lets -merge -underBinder x2 x3
  try clear_value x2
  have hx3 : Touches mm z0 x3 := by
    subst x3
    refine Touches.foldl ?_ (fun u x => ?_)
    · exact hT
    · revert x u; intro u4 y
      beta_reduce
      exact takeArrival_touches (Touches.inc hm rfl) (Touches.refl mm _)
  try clear_value x3
  refine Touches.nextI ?_
  refine Touches.ite ?_ ?_
  · refine Touches.foldl ?_ (fun u x => ?_)
    · exact hx3
    · revert x u; intro u5 y
      beta_reduce
      exact finishGen_touches (Touches.inc hm rfl) (Touches.refl mm _)
  · exact hx3

theorem execBarrierVerdict_touches {b : ℕ} {g : ℕ} {v : ℕ} {s : State} {d0 : State}
    (hm : 0x800428000040D80 &&& mm = 0x800428000040D80) (hd : Touches mm z0 d0) (hT : Touches mm z0 s) :
    Touches mm z0 (Touches.outS d0 (execBarrierVerdict b g v s)) := by
  unfold execBarrierVerdict
  refine Touches.nextI ?_
  refine Touches.ite ?_ ?_
  · exact takeVerdict_touches (Touches.inc hm rfl) hT
  · exact hT

theorem execBarrierRelease_touches {b : ℕ} {g : ℕ} {s : State} {d0 : State}
    (hm : 0x800428000040D80 &&& mm = 0x800428000040D80) (hd : Touches mm z0 d0) (hT : Touches mm z0 s) :
    Touches mm z0 (Touches.outS d0 (execBarrierRelease b g s)) := by
  unfold execBarrierRelease
  refine Touches.nextI ?_
  refine Touches.ite ?_ ?_
  · exact takeRelease_touches (Touches.inc hm rfl) hT
  · exact hT

theorem execBackupDelayExpiry_touches {b : ℕ} {s : State} {d0 : State} (hm : 0x980428000061D91 &&& mm = 0x980428000061D91)
    (hd : Touches mm z0 d0) (hT : Touches mm z0 s) :
    Touches mm z0 (Touches.outS d0 (execBackupDelayExpiry b s)) := by
  unfold execBackupDelayExpiry
  extract_lets -merge -underBinder x3 x4 x5
  try clear_value x3
  try clear_value x4
  have hx5 : Touches mm z0 x5 := by
    subst x5
    exact reachTime_touches (Touches.inc hm rfl) hT
  try clear_value x5
  refine Touches.nextI ?_
  refine Touches.ite ?_ ?_
  · refine Touches.foldl ?_ (fun u x => ?_)
    · exact hx5
    · revert x u; intro u6 y
      beta_reduce
      refine Touches.ite ?_ ?_
      · exact sendBackup_touches (Touches.inc hm rfl) (Touches.refl mm _)
      · exact Touches.refl mm _
  · exact hT

theorem execBackupStart_touches {b : ℕ} {g : ℕ} {shard : ℕ} {s : State} {d0 : State}
    (hm : 0x980428000060D90 &&& mm = 0x980428000060D90) (hd : Touches mm z0 d0) (hT : Touches mm z0 s) :
    Touches mm z0 (Touches.outS d0 (execBackupStart b g shard s)) := by
  unfold execBackupStart
  refine Touches.nextI ?_
  refine Touches.ite ?_ ?_
  · exact takeBackup_touches (Touches.inc hm rfl) hT
  · exact hT

theorem execReloadShards_touches {w : Writer} {auto : Bool} {armed : Bool} {s : State} {d0 : State}
    (hm : 0xFFFFFFFF00061014 &&& mm = 0xFFFFFFFF00061014) (hd : Touches mm z0 d0) (hT : Touches mm z0 s) :
    Touches mm z0 (Touches.outS d0 (execReloadShards w auto armed s)) := by
  unfold execReloadShards
  extract_lets -merge -underBinder x1
  have hx1 : Touches mm z0 x1 := by
    subst x1
    exact wordWrite_touches (Touches.inc hm rfl) hT
  try clear_value x1
  refine Touches.nextI ?_
  refine Touches.ite ?_ ?_
  · exact hx1
  · refine Touches.ite ?_ ?_
    · exact refuseWrite_touches (Touches.has hm rfl) hx1
    · exact loadShards_touches (Touches.inc hm rfl) hx1

theorem execBarrierEnable_touches {w : Writer} {v : ℕ} {s : State} {d0 : State}
    (hm : 0xFFFFFFFF00060814 &&& mm = 0xFFFFFFFF00060814) (hd : Touches mm z0 d0) (hT : Touches mm z0 s) :
    Touches mm z0 (Touches.outS d0 (execBarrierEnable w v s)) := by
  unfold execBarrierEnable
  refine Touches.nextI ?_
  refine regWrite_touches (Touches.inc hm rfl) (fun u0 u1 hu => ?_) ?_
  · revert hu u1 u0
    intro bu0 u0_0 hu0
    beta_reduce
    extract_lets -merge -underBinder x11 x12 x13 x14 x15 x16 x17 x18 x19 x20
    try clear_value x11
    try clear_value x12
    try clear_value x13
    try clear_value x14
    try clear_value x15
    try clear_value x16
    try clear_value x17
    try clear_value x18
    have hx19 : Touches mm bu0 x19 := by
      subst x19
      refine wr_touches (Touches.has hm rfl) ?_
      refine wr_touches (Touches.has hm rfl) ?_
      exact wr_touches (Touches.has hm rfl) hu0
    try clear_value x19
    have hx20 : Touches mm bu0 x20 := by
      subst x20
      refine wr_touches (Touches.has hm rfl) ?_
      exact wr_touches (Touches.has hm rfl) hx19
    try clear_value x20
    refine Touches.ite ?_ ?_
    · refine Touches.ite ?_ ?_
      · exact refuseWrite_touches (Touches.has hm rfl) hu0
      · refine wr_touches (Touches.has hm rfl) ?_
        exact wr_touches (Touches.has hm rfl) hu0
    · refine Touches.ite ?_ ?_
      · exact refuseWrite_touches (Touches.has hm rfl) hu0
      · refine Touches.ite ?_ ?_
        · exact arriveIf_touches (Touches.inc hm rfl) hx20
        · exact hx19
  · exact hT

theorem execHiveExpel_touches {w : Writer} {s : State} {d0 : State} (hm : 0xFFFFFFFF00061D94 &&& mm = 0xFFFFFFFF00061D94)
    (hd : Touches mm z0 d0) (hT : Touches mm z0 s) :
    Touches mm z0 (Touches.outS d0 (execHiveExpel w s)) := by
  unfold execHiveExpel
  refine Touches.nextI ?_
  refine regWrite_touches (Touches.inc hm rfl) (fun u0 u1 hu => ?_) ?_
  · revert hu u1 u0
    intro bu0 u0_0 hu0
    beta_reduce
    extract_lets -merge -underBinder x2
    try clear_value x2
    refine Touches.ite ?_ ?_
    · exact hu0
    · refine Touches.ite ?_ ?_
      · refine refuseWrite_touches (Touches.has hm rfl) ?_
        exact showBudget_touches (Touches.inc hm rfl) hu0
      · refine finishAll_touches (Touches.inc hm rfl) ?_
        exact expelMember_touches (Touches.inc hm rfl) hu0
  · exact hT

theorem execClearSuspect_touches {w : Writer} {s : State} {d0 : State} (hm : 0xFFFFFFFF00061014 &&& mm = 0xFFFFFFFF00061014)
    (hd : Touches mm z0 d0) (hT : Touches mm z0 s) :
    Touches mm z0 (Touches.outS d0 (execClearSuspect w s)) := by
  unfold execClearSuspect
  refine Touches.nextI ?_
  refine regWrite_touches (Touches.inc hm rfl) (fun u0 u1 hu => ?_) ?_
  · revert hu u1 u0
    intro bu0 u0_0 hu0
    beta_reduce
    extract_lets -merge -underBinder x4 src5 x6
    try clear_value x4
    have hx6 : Touches mm bu0 x6 := by
      subst x6
      exact Touches.hive (Touches.has hm rfl) hu0
    try clear_value x6
    refine Touches.ite ?_ ?_
    · exact hu0
    · refine showRanks_touches (Touches.inc hm rfl) ?_
      exact wr_touches (Touches.has hm rfl) hx6
  · exact hT

theorem execMembershipUpdate_touches {members : List ℕ} {s : State} {d0 : State}
    (hm : 0x980C28000061D90 &&& mm = 0x980C28000061D90) (hd : Touches mm z0 d0) (hT : Touches mm z0 s) :
    Touches mm z0 (Touches.outS d0 (execMembershipUpdate members s)) := by
  unfold execMembershipUpdate
  extract_lets -merge -underBinder x2 x3
  try clear_value x2
  have hx3 : Touches mm z0 x3 := by
    subst x3
    refine setDeputy_touches (Touches.inc hm rfl) ?_
    exact setMembers_touches (Touches.inc hm rfl) hT
  try clear_value x3
  refine Touches.nextI ?_
  refine Touches.ite ?_ ?_
  · exact hT
  · refine Touches.ite ?_ ?_
    · exact hx3
    · exact leaveHive_touches (Touches.inc hm rfl) hx3

theorem execMemberLossTimeout_touches {p : ℕ} {s : State} {d0 : State} (hm : 0x980428000061D91 &&& mm = 0x980428000061D91)
    (hd : Touches mm z0 d0) (hT : Touches mm z0 s) :
    Touches mm z0 (Touches.outS d0 (execMemberLossTimeout p s)) := by
  unfold execMemberLossTimeout
  refine Touches.nextI ?_
  split
  · extract_lets -merge -underBinder src2 x3
    have hx3 : Touches mm z0 x3 := by
      subst x3
      exact setPort_touches (Touches.inc hm rfl) hT
    try clear_value x3
    refine Touches.ite ?_ ?_
    · refine tellLoss_touches (Touches.inc hm rfl) ?_
      exact reachTime_touches (Touches.inc hm rfl) hx3
    · exact hT
  · exact hT

theorem execMemberLossReport_touches {id : ℕ} {s : State} {d0 : State} (hm : 0x980428000061D90 &&& mm = 0x980428000061D90)
    (hd : Touches mm z0 d0) (hT : Touches mm z0 s) :
    Touches mm z0 (Touches.outS d0 (execMemberLossReport id s)) := by
  unfold execMemberLossReport
  refine Touches.nextI ?_
  refine Touches.ite ?_ ?_
  · refine finishAll_touches (Touches.inc hm rfl) ?_
    exact loseMember_touches (Touches.inc hm rfl) hT
  · exact hT

theorem execProgressReportTimer_touches {s : State} {d0 : State} (hm : 0x400000041801 &&& mm = 0x400000041801)
    (hd : Touches mm z0 d0) (hT : Touches mm z0 s) :
    Touches mm z0 (Touches.outS d0 (execProgressReportTimer s)) := by
  unfold execProgressReportTimer
  extract_lets -merge -underBinder x6 src7 x8 x9 x10 x11
  have hx6 : Touches mm z0 x6 := by
    subst x6
    exact reachTime_touches (Touches.inc hm rfl) hT
  try clear_value x6
  have hx8 : Touches mm z0 x8 := by
    subst x8
    exact Touches.hive (Touches.has hm rfl) hx6
  try clear_value x8
  try clear_value x9
  try clear_value x10
  try clear_value x11
  refine Touches.nextI ?_
  refine Touches.ite ?_ ?_
  · exact hT
  · refine Touches.ite ?_ ?_
    · exact takeReport_touches (Touches.inc hm rfl) hx8
    · refine Touches.ite ?_ ?_
      · exact hx8
      · exact sendMsg_touches (Touches.inc hm rfl) hx8

theorem execProgressReport_touches {id : ℕ} {useful : ℕ} {elapsed : ℕ} {wasted : ℕ} {s : State} {d0 : State}
    (hm : 0x400000001000 &&& mm = 0x400000001000) (hd : Touches mm z0 d0) (hT : Touches mm z0 s) :
    Touches mm z0 (Touches.outS d0 (execProgressReport id useful elapsed wasted s)) := by
  unfold execProgressReport
  refine Touches.nextI ?_
  refine Touches.ite ?_ ?_
  · exact takeReport_touches (Touches.inc hm rfl) hT
  · exact hT

end Sys2Proof.Laws
end

