-- ==== Sys2Proof/Laws/FrameHostPort.lean ====
section
/-!
SUPPORT. What each operation of `Machine/HostPort.lean` may touch: the mask names the parts of the state in which its result can
differ from the state it started from.
-/

set_option linter.unusedVariables false
set_option linter.unusedTactic false

namespace Sys2Proof.Laws

open Sys2Proof Sys2Proof.Machine Sys2Proof.Safety

variable {mm : Nat} {z0 : State}

theorem execFunctionLevelReset_touches {fn : ℕ} {cut : List (ℕ × List Byte)} {s : State} {d0 : State}
    (hm : 0x9824F8000062F94 &&& mm = 0x9824F8000062F94) (hd : Touches mm z0 d0) (hT : Touches mm z0 s) :
    Touches mm z0 (Touches.outS d0 (execFunctionLevelReset fn cut s)) := by
  unfold execFunctionLevelReset
  refine Touches.nextI ?_
  refine irqEvent_touches (Touches.inc hm rfl) (Touches.has hm rfl) ?_
  exact functionReset_touches (Touches.inc hm rfl) hT

theorem execHotReset_touches {cut : List (ℕ × List Byte)} {s : State} {d0 : State}
    (hm : 0x9824F8000062F94 &&& mm = 0x9824F8000062F94) (hd : Touches mm z0 d0) (hT : Touches mm z0 s) :
    Touches mm z0 (Touches.outS d0 (execHotReset cut s)) := by
  unfold execHotReset
  refine Touches.nextI ?_
  exact hostPortReset_touches (Touches.inc hm rfl) hT

theorem execHostLinkDown_touches {cut : List (ℕ × List Byte)} {s : State} {d0 : State}
    (hm : 0x9824F8000062F94 &&& mm = 0x9824F8000062F94) (hd : Touches mm z0 d0) (hT : Touches mm z0 s) :
    Touches mm z0 (Touches.outS d0 (execHostLinkDown cut s)) := by
  unfold execHostLinkDown
  refine Touches.nextI ?_
  refine Touches.ite ?_ ?_
  · exact hostPortReset_touches (Touches.inc hm rfl) hT
  · exact hT

theorem execRefclkLoss_touches {cut : List (ℕ × List Byte)} {s : State} {d0 : State}
    (hm : 0x9824F8000062F94 &&& mm = 0x9824F8000062F94) (hd : Touches mm z0 d0) (hT : Touches mm z0 s) :
    Touches mm z0 (Touches.outS d0 (execRefclkLoss cut s)) := by
  unfold execRefclkLoss
  extract_lets -merge -underBinder src2 x3
  have hx3 : Touches mm z0 x3 := by
    subst x3
    refine hostPortReset_touches (Touches.inc hm rfl) ?_
    exact Touches.host (Touches.has hm rfl) hT
  try clear_value x3
  refine Touches.nextI ?_
  refine Touches.ite ?_ ?_
  · refine irqEvent_touches (Touches.inc hm rfl) (Touches.has hm rfl) ?_
    exact wr_touches (Touches.has hm rfl) hx3
  · exact hT

theorem execRefclkReturn_touches {s : State} {d0 : State} (hm : 0x8000000400 &&& mm = 0x8000000400) (hd : Touches mm z0 d0)
    (hT : Touches mm z0 s) :
    Touches mm z0 (Touches.outS d0 (execRefclkReturn s)) := by
  unfold execRefclkReturn
  extract_lets -merge -underBinder src1
  refine Touches.nextI ?_
  refine wr_touches (Touches.has hm rfl) ?_
  exact Touches.host (Touches.has hm rfl) hT

theorem ideInsecure_touches {s : State} (hm : 0x180008000060410 &&& mm = 0x180008000060410) (hT : Touches mm z0 s) :
    Touches mm z0 (ideInsecure s) := by
  unfold ideInsecure
  extract_lets -merge -underBinder x4 x5 src6 x7
  try clear_value x4
  have hx5 : Touches mm z0 x5 := by
    subst x5
    refine wr_touches (Touches.has hm rfl) ?_
    exact wr_touches (Touches.has hm rfl) hT
  try clear_value x5
  have hx7 : Touches mm z0 x7 := by
    subst x7
    exact Touches.host (Touches.has hm rfl) hx5
  try clear_value x7
  refine Touches.ite ?_ ?_
  · exact hx7
  · exact irqEvent_touches (Touches.inc hm rfl) (Touches.has hm rfl) hx7

theorem execLinkTrained_touches {speed : ℕ} {width : ℕ} {flit : Bool} {s : State} {d0 : State}
    (hm : 0x180008000060410 &&& mm = 0x180008000060410) (hd : Touches mm z0 d0) (hT : Touches mm z0 s) :
    Touches mm z0 (Touches.outS d0 (execLinkTrained speed width flit s)) := by
  unfold execLinkTrained
  extract_lets -merge -underBinder x7 x8 x9 x10 src11 x12 x13
  try clear_value x7
  try clear_value x8
  have hx9 : Touches mm z0 x9 := by
    subst x9
    refine wr_touches (Touches.has hm rfl) ?_
    refine wr_touches (Touches.has hm rfl) ?_
    exact wr_touches (Touches.has hm rfl) hT
  try clear_value x9
  have hx10 : Touches mm z0 x10 := by
    subst x10
    refine wr_touches (Touches.has hm rfl) ?_
    exact wr_touches (Touches.has hm rfl) hx9
  try clear_value x10
  have hx12 : Touches mm z0 x12 := by
    subst x12
    exact Touches.host (Touches.has hm rfl) hx10
  try clear_value x12
  have hx13 : Touches mm z0 x13 := by
    subst x13
    refine Touches.ite ?_ ?_
    · exact hx12
    · exact irqEvent_touches (Touches.inc hm rfl) (Touches.has hm rfl) hx12
  try clear_value x13
  refine Touches.nextI ?_
  refine Touches.ite ?_ ?_
  · exact hT
  · refine Touches.ite ?_ ?_
    · exact ideInsecure_touches (Touches.inc hm rfl) hx13
    · exact hx13

theorem execLinkRetrain_touches {w : Writer} {v : ℕ} {s : State} {d0 : State}
    (hm : 0xFFFFFFFF00060414 &&& mm = 0xFFFFFFFF00060414) (hd : Touches mm z0 d0) (hT : Touches mm z0 s) :
    Touches mm z0 (Touches.outS d0 (execLinkRetrain w v s)) := by
  unfold execLinkRetrain
  refine Touches.nextI ?_
  refine regWrite_touches (Touches.inc hm rfl) (fun u0 u1 hu => ?_) ?_
  · revert hu u1 u0
    intro bu0 u0_0 hu0
    beta_reduce
    extract_lets -merge -underBinder x4 x5 src6
    try clear_value x4
    have hx5 : Touches mm bu0 x5 := by
      subst x5
      refine Touches.ite ?_ ?_
      · exact wr_touches (Touches.has hm rfl) hu0
      · exact refuseWrite_touches (Touches.has hm rfl) hu0
    try clear_value x5
    refine Touches.ite ?_ ?_
    · exact Touches.host (Touches.has hm rfl) hx5
    · exact hx5
  · exact hT

theorem execHostFnCfgWrite_touches {w : Writer} {v : ℕ} {s : State} {d0 : State}
    (hm : 0xFFFFFFFF00060014 &&& mm = 0xFFFFFFFF00060014) (hd : Touches mm z0 d0) (hT : Touches mm z0 s) :
    Touches mm z0 (Touches.outS d0 (execHostFnCfgWrite w v s)) := by
  unfold execHostFnCfgWrite
  extract_lets -merge -underBinder x1
  try clear_value x1
  refine Touches.nextI ?_
  refine Touches.ite ?_ ?_
  · exact hT
  · refine regWrite_touches (Touches.inc hm rfl) (fun u0 u1 hu => ?_) ?_
    · revert hu u1 u0
      intro bu2 u2_0 hu2
      beta_reduce
      refine Touches.ite ?_ ?_
      · exact refuseWrite_touches (Touches.has hm rfl) hu2
      · refine wr_touches (Touches.has hm rfl) ?_
        exact wr_touches (Touches.has hm rfl) hu2
    · exact hT

theorem execHostFnMsixWrite_touches {w : Writer} {v : ℕ} {enabled : Bool} {s : State} {d0 : State}
    (hm : 0xFFFFFFFF00060014 &&& mm = 0xFFFFFFFF00060014) (hd : Touches mm z0 d0) (hT : Touches mm z0 s) :
    Touches mm z0 (Touches.outS d0 (execHostFnMsixWrite w v enabled s)) := by
  unfold execHostFnMsixWrite
  refine Touches.nextI ?_
  refine regWrite_touches (Touches.inc hm rfl) (fun u0 u1 hu => ?_) ?_
  · revert hu u1 u0
    intro bu0 u0_0 hu0
    beta_reduce
    extract_lets -merge -underBinder x4 x5 x6
    try clear_value x4
    try clear_value x5
    try clear_value x6
    refine Touches.ite ?_ ?_
    · exact refuseWrite_touches (Touches.has hm rfl) hu0
    · refine Touches.ite ?_ ?_
      · exact refuseWrite_touches (Touches.has hm rfl) hu0
      · refine wr_touches (Touches.has hm rfl) ?_
        exact wr_touches (Touches.has hm rfl) hu0
  · exact hT

theorem execHostFnWinWrite_touches {w : Writer} {v : ℕ} {s : State} {d0 : State}
    (hm : 0xFFFFFFFF00060014 &&& mm = 0xFFFFFFFF00060014) (hd : Touches mm z0 d0) (hT : Touches mm z0 s) :
    Touches mm z0 (Touches.outS d0 (execHostFnWinWrite w v s)) := by
  unfold execHostFnWinWrite
  refine Touches.nextI ?_
  refine regWrite_touches (Touches.inc hm rfl) (fun u0 u1 hu => ?_) ?_
  · revert hu u1 u0
    intro bu0 u0_0 hu0
    beta_reduce
    exact wr_touches (Touches.has hm rfl) hu0
  · exact hT

theorem execBar4Resize_touches {fn : ℕ} {size : ℕ} {memEnable : Bool} {s : State} {d0 : State} (hm : 0x400 &&& mm = 0x400)
    (hd : Touches mm z0 d0) (hT : Touches mm z0 s) :
    Touches mm z0 (Touches.outS d0 (execBar4Resize fn size memEnable s)) := by
  unfold execBar4Resize
  extract_lets -merge -underBinder src1
  refine Touches.nextI ?_
  refine Touches.ite ?_ ?_
  · exact hT
  · exact Touches.host (Touches.has hm rfl) hT

theorem noteSeal_touches {s : State} {t : ℕ} {arg2 : Status} (hm : 0x180008000060010 &&& mm = 0x180008000060010)
    (hT : Touches mm z0 s) :
    Touches mm z0 (noteSeal s t arg2) := by
  unfold noteSeal
  split
  · exact sealFailed_touches (Touches.inc hm rfl) hT
  · exact sealExhausted_touches (Touches.inc hm rfl) hT
  · exact hT

theorem execDma_touches {q : ℕ} {s : State} {d0 : State} (hm : 0x980438000060D90 &&& mm = 0x980438000060D90)
    (hd : Touches mm z0 d0) (hT : Touches mm z0 s) :
    Touches mm z0 (Touches.outS d0 (execDma q s)) := by
  unfold execDma
  refine Touches.nextI ?_
  split
  · exact hT
  · extract_lets -merge -underBinder x1
    try clear_value x1
    split
    · refine finishCmd_touches (Touches.inc hm rfl) ?_
      exact noteSeal_touches (Touches.inc hm rfl) hT
    · refine pushXfer_touches (Touches.inc hm rfl) ?_
      exact setBusy_touches (Touches.inc hm rfl) hT

theorem execDmaGo_touches {w : Writer} {e : ℕ} {s : State} {d0 : State} (hm : 0xFFFFFFFF00060D94 &&& mm = 0xFFFFFFFF00060D94)
    (hd : Touches mm z0 d0) (hT : Touches mm z0 s) :
    Touches mm z0 (Touches.outS d0 (execDmaGo w e s)) := by
  unfold execDmaGo
  refine Touches.nextI ?_
  refine regWrite_touches (Touches.inc hm rfl) (fun u0 u1 hu => ?_) ?_
  · revert hu u1 u0
    intro bu0 u0_0 hu0
    beta_reduce
    extract_lets -merge -underBinder x4 x5 x6
    try clear_value x4
    try clear_value x5
    have hx6 : Touches mm bu0 x6 := by
      subst x6
      exact wr_touches (Touches.has hm rfl) hu0
    try clear_value x6
    refine Touches.ite ?_ ?_
    · exact refuseWrite_touches (Touches.has hm rfl) hu0
    · split
      · refine endXfer_touches (Touches.inc hm rfl) ?_
        exact noteSeal_touches (Touches.inc hm rfl) hx6
      · exact pushXfer_touches (Touches.inc hm rfl) hx6
  · exact hT

theorem authPart_touches {s : State} {x : Xfer} {bad : Option ℕ} (hm : 0x180008000060410 &&& mm = 0x180008000060410)
    (hT : Touches mm z0 s) :
    Touches mm z0 (authPart s x bad).1 := by
  unfold authPart
  refine Touches.iteV Prod.fst ?_ ?_
  · split
    · refine Touches.iteV Prod.fst ?_ ?_
      · refine Touches.mkI ?_
        exact sealFailed_touches (Touches.inc hm rfl) hT
      · exact Touches.mkI hT
    · exact Touches.mkI hT
  · refine Touches.iteV Prod.fst ?_ ?_
    · split
      · rename_i p0 e1
        have h2 : Touches mm z0 p0 := by
          have e := congrArg Prod.fst e1
          refine Eq.mp (congrArg (Touches mm z0) e) ?_
          clear e e1
          exact sealedIn_touches (Touches.inc hm rfl) hT
        exact Touches.mkI h2
      · rename_i p3 p4 o5 e6
        have h7 : Touches mm z0 p3 := by
          have e := congrArg Prod.fst e6
          refine Eq.mp (congrArg (Touches mm z0) e) ?_
          clear e e6
          exact sealedIn_touches (Touches.inc hm rfl) hT
        exact Touches.mkI h7
      · rename_i p8 e9
        have h10 : Touches mm z0 p8 := by
          have e := congrArg Prod.fst e9
          refine Eq.mp (congrArg (Touches mm z0) e) ?_
          clear e e9
          exact sealedIn_touches (Touches.inc hm rfl) hT
        exact Touches.mkI h10
    · exact Touches.mkI hT

theorem execDmaTransferDone_touches {e : ℕ} {data : List Byte} {bad : Option ℕ} {env : MemEnv} {s : State} {d0 : State}
    (hm : 0x982438800060D94 &&& mm = 0x982438800060D94) (hd : Touches mm z0 d0) (hT : Touches mm z0 s) :
    Touches mm z0 (Touches.outS d0 (execDmaTransferDone e data bad env s)) := by
  unfold execDmaTransferDone
  refine Touches.nextI ?_
  split
  · exact hT
  · extract_lets -merge -underBinder x1
    have hx1 : Touches mm z0 x1 := by
      subst x1
      exact readFails_touches (Touches.inc hm rfl) hT
    try clear_value x1
    refine Touches.ite ?_ ?_
    · exact hx1
    · split
      · rename_i p2 p3 p4 e5
        have h6 : Touches mm z0 p2 := by
          have e := congrArg Prod.fst e5
          refine Eq.mp (congrArg (Touches mm z0) e) ?_
          clear e e5
          exact authPart_touches (Touches.inc hm rfl) hx1
        split
        · rename_i p7 p8 e9
          have h10 : Touches mm z0 p7 := by
            have e := congrArg Prod.fst e9
            refine Eq.mp (congrArg (Touches mm z0) e) ?_
            clear e e9
            exact moveBytes_touches (Touches.inc hm rfl) h6
          extract_lets -merge -underBinder x12
          have hx12 : Touches mm z0 x12 := by
            subst x12
            refine Touches.foldl ?_ (fun u x => ?_)
            · exact h10
            · revert x u; intro u13 y
              beta_reduce
              exact writePathBad_touches (Touches.inc hm rfl) (Touches.refl mm _)
          try clear_value x12
          refine endXfer_touches (Touches.inc hm rfl) ?_
          exact setEngine_touches (Touches.inc hm rfl) hx12

theorem hostReadFailed_touches {s : State} {fn : ℕ} {detail : List ℕ} (hm : 0x180008000060010 &&& mm = 0x180008000060010)
    (hT : Touches mm z0 s) :
    Touches mm z0 (hostReadFailed s fn detail) := by
  unfold hostReadFailed
  extract_lets -merge -underBinder x1
  have hx1 : Touches mm z0 x1 := by
    subst x1
    refine raiseIrq_touches (Touches.has hm rfl) (Touches.has hm rfl) ?_
    exact incSat_touches (Touches.has hm rfl) hT
  try clear_value x1
  exact statusEvent_touches (Touches.inc hm rfl) hx1

theorem execHostReadError_touches {byEngine : Bool} {n : ℕ} {moved : List Byte} {s : State} {d0 : State}
    (hm : 0x982438000060D94 &&& mm = 0x982438000060D94) (hd : Touches mm z0 d0) (hT : Touches mm z0 s) :
    Touches mm z0 (Touches.outS d0 (execHostReadError byEngine n moved s)) := by
  unfold execHostReadError
  refine Touches.nextI ?_
  refine Touches.ite ?_ ?_
  · split
    · exact hT
    · extract_lets -merge -underBinder x1
      have hx1 : Touches mm z0 x1 := by
        subst x1
        exact hostReadFailed_touches (Touches.inc hm rfl) hT
      try clear_value x1
      refine Touches.ite ?_ ?_
      · exact hT
      · split
        · rename_i p2 p3 e4
          have h5 : Touches mm z0 p2 := by
            have e := congrArg Prod.fst e4
            refine Eq.mp (congrArg (Touches mm z0) e) ?_
            clear e e4
            exact moveCut_touches (Touches.inc hm rfl) hx1
          refine endXfer_touches (Touches.inc hm rfl) ?_
          exact setEngine_touches (Touches.inc hm rfl) h5
  · split
    · refine Touches.ite ?_ ?_
      · exact hT
      · refine finishCmd_touches (Touches.inc hm rfl) ?_
        exact hostReadFailed_touches (Touches.inc hm rfl) hT
    · exact hT

end Sys2Proof.Laws
end

