-- ==== Sys2Proof/Laws/FrameKv.lean ====
section
/-!
SUPPORT. What each operation of `Machine/Kv.lean` may touch: the mask names the parts of the state in which its result can
differ from the state it started from.
-/

set_option linter.unusedVariables false
set_option linter.unusedTactic false

namespace Sys2Proof.Laws

open Sys2Proof Sys2Proof.Machine Sys2Proof.Safety

variable {mm : Nat} {z0 : State}

theorem seqApply_touches {s : State} {q : ℕ} {r : RunCmd} (hm : 0x9804A8000060F94 &&& mm = 0x9804A8000060F94)
    (hT : Touches mm z0 s) :
    Touches mm z0 (seqApply s q r) := by
  unfold seqApply
  extract_lets -merge -underBinder x2 x3
  try clear_value x2
  try clear_value x3
  refine Touches.ite ?_ ?_
  · exact finishCmd_touches (Touches.inc hm rfl) hT
  · split
    · split
      · rename_i p4 e5
        have h6 : Touches mm z0 p4 := by
          have e := congrArg (growS z0) e5
          refine Eq.mp (congrArg (Touches mm z0) e) ?_
          clear e e5
          exact grow_touches (Touches.inc hm rfl) (Touches.refl mm _) hT
        exact finishCmd_touches (Touches.inc hm rfl) h6
      · exact finishCmd_touches (Touches.inc hm rfl) hT
      · exact finishCmd_touches (Touches.inc hm rfl) hT
    · split
      · rename_i p7 e8
        have h9 : Touches mm z0 p7 := by
          have e := congrArg (Touches.optS z0) e8
          refine Eq.mp (congrArg (Touches mm z0) e) ?_
          clear e e8
          exact commitSeq_touches (Touches.inc hm rfl) (Touches.refl mm _) hT
        exact finishCmd_touches (Touches.inc hm rfl) h9
      · exact finishCmd_touches (Touches.inc hm rfl) hT
    · split
      · rename_i p10 e11
        have h12 : Touches mm z0 p10 := by
          have e := congrArg (Touches.optS z0) e11
          refine Eq.mp (congrArg (Touches mm z0) e) ?_
          clear e e11
          exact rollbackSeq_touches (Touches.inc hm rfl) (Touches.refl mm _) hT
        exact finishCmd_touches (Touches.inc hm rfl) h12
      · exact finishCmd_touches (Touches.inc hm rfl) hT
    · refine finishCmd_touches (Touches.inc hm rfl) ?_
      exact releaseSeq_touches (Touches.inc hm rfl) hT

theorem seqOp_touches {s : State} {q : ℕ} {op : ℕ} (hm : 0x9804A8000060F94 &&& mm = 0x9804A8000060F94) (hT : Touches mm z0 s) :
    Touches mm z0 (seqOp s q op) := by
  unfold seqOp
  split
  · exact hT
  · extract_lets -merge -underBinder x2 x3
    try clear_value x2
    try clear_value x3
    split
    · exact finishCmd_touches (Touches.inc hm rfl) hT
    · refine Touches.ite ?_ ?_
      · refine setBusy_touches (Touches.inc hm rfl) ?_
        exact setSeq_touches (Touches.inc hm rfl) hT
      · exact seqApply_touches (Touches.inc hm rfl) hT

theorem execSeqOpen_touches {q : ℕ} {s : State} {d0 : State} (hm : 0x9804A8000060F94 &&& mm = 0x9804A8000060F94)
    (hd : Touches mm z0 d0) (hT : Touches mm z0 s) :
    Touches mm z0 (Touches.outS d0 (execSeqOpen q s)) := by
  unfold execSeqOpen
  refine Touches.nextI ?_
  split
  · exact hT
  · split
    · exact finishCmd_touches (Touches.inc hm rfl) hT
    · split
      · rename_i p0 e1
        have h2 : Touches mm z0 p0 := by
          have e := congrArg (Touches.okS d0) e1
          refine Eq.mp (congrArg (Touches mm z0) e) ?_
          clear e e1
          exact openSeq_touches (Touches.inc hm rfl) hd hT
        exact finishCmd_touches (Touches.inc hm rfl) h2
      · exact finishCmd_touches (Touches.inc hm rfl) hT

theorem execSeqGrow_touches {q : ℕ} {s : State} {d0 : State} (hm : 0x9804A8000060F94 &&& mm = 0x9804A8000060F94)
    (hd : Touches mm z0 d0) (hT : Touches mm z0 s) :
    Touches mm z0 (Touches.outS d0 (execSeqGrow q s)) := by
  unfold execSeqGrow
  refine Touches.nextI ?_
  exact seqOp_touches (Touches.inc hm rfl) hT

theorem execSeqCommit_touches {q : ℕ} {s : State} {d0 : State} (hm : 0x9804A8000060F94 &&& mm = 0x9804A8000060F94)
    (hd : Touches mm z0 d0) (hT : Touches mm z0 s) :
    Touches mm z0 (Touches.outS d0 (execSeqCommit q s)) := by
  unfold execSeqCommit
  refine Touches.nextI ?_
  exact seqOp_touches (Touches.inc hm rfl) hT

theorem execSeqRollback_touches {q : ℕ} {s : State} {d0 : State} (hm : 0x9804A8000060F94 &&& mm = 0x9804A8000060F94)
    (hd : Touches mm z0 d0) (hT : Touches mm z0 s) :
    Touches mm z0 (Touches.outS d0 (execSeqRollback q s)) := by
  unfold execSeqRollback
  refine Touches.nextI ?_
  exact seqOp_touches (Touches.inc hm rfl) hT

theorem execSeqClose_touches {q : ℕ} {s : State} {d0 : State} (hm : 0x9804A8000060F94 &&& mm = 0x9804A8000060F94)
    (hd : Touches mm z0 d0) (hT : Touches mm z0 s) :
    Touches mm z0 (Touches.outS d0 (execSeqClose q s)) := by
  unfold execSeqClose
  refine Touches.nextI ?_
  exact seqOp_touches (Touches.inc hm rfl) hT

theorem execHeldOpResume_touches {k : ℕ} {s : State} {d0 : State} (hm : 0x9804A8000060F94 &&& mm = 0x9804A8000060F94)
    (hd : Touches mm z0 d0) (hT : Touches mm z0 s) :
    Touches mm z0 (Touches.outS d0 (execHeldOpResume k s)) := by
  unfold execHeldOpResume
  extract_lets -merge -underBinder x1
  try clear_value x1
  refine Touches.nextI ?_
  split
  · exact hT
  · split
    · exact setSeq_touches (Touches.inc hm rfl) hT
    · refine Touches.ite ?_ ?_
      · exact hT
      · refine seqApply_touches (Touches.inc hm rfl) ?_
        exact setSeq_touches (Touches.inc hm rfl) hT

theorem grantPark_touches {s : State} {k : ℕ} {d0 : State} (hm : 0x180080000060B94 &&& mm = 0x180080000060B94)
    (hd : Touches mm z0 d0) (hT : Touches mm z0 s) :
    Touches mm z0 (Touches.optS d0 (grantPark s k)) := by
  unfold grantPark
  extract_lets -merge -underBinder x1
  try clear_value x1
  split
  · rename_i p2 e3
    have h4 : Touches mm z0 p2 := by
      have e := congrArg (growS d0) e3
      refine Eq.mp (congrArg (Touches mm z0) e) ?_
      clear e e3
      exact grow_touches (Touches.inc hm rfl) hd hT
    extract_lets -merge -underBinder src7 x8
    have hx8 : Touches mm z0 x8 := by
      subst x8
      exact setSeq_touches (Touches.inc hm rfl) h4
    try clear_value x8
    refine Touches.someI ?_
    refine servAction_touches (Touches.inc hm rfl) ?_
    exact kvSync_touches (Touches.inc hm rfl) hx8
  · exact hd

theorem execParkGrant_touches {s : State} {d0 : State} (hm : 0x180080000060B94 &&& mm = 0x180080000060B94)
    (hd : Touches mm z0 d0) (hT : Touches mm z0 s) :
    Touches mm z0 (Touches.outS d0 (execParkGrant s)) := by
  unfold execParkGrant
  refine Touches.nextI ?_
  refine Touches.foldl ?_ (fun u x => ?_)
  · exact hT
  · revert x u; intro u0 y
    beta_reduce
    refine Touches.getD ?_ (fun hd1 => ?_)
    · exact Touches.refl mm _
    · exact grantPark_touches (Touches.inc hm rfl) hd1 (Touches.refl mm _)

theorem execParkDeadline_touches {k : ℕ} {s : State} {d0 : State} (hm : 0x9804E8000062F95 &&& mm = 0x9804E8000062F95)
    (hd : Touches mm z0 d0) (hT : Touches mm z0 s) :
    Touches mm z0 (Touches.outS d0 (execParkDeadline k s)) := by
  unfold execParkDeadline
  extract_lets -merge -underBinder x2 x3
  try clear_value x2
  have hx3 : Touches mm z0 x3 := by
    subst x3
    exact reachTime_touches (Touches.inc hm rfl) hT
  try clear_value x3
  refine Touches.nextI ?_
  refine Touches.ite ?_ ?_
  · exact hT
  · split
    · rename_i p4 e5
      have h6 : Touches mm z0 p4 := by
        have e := congrArg (Touches.optS d0) e5
        refine Eq.mp (congrArg (Touches mm z0) e) ?_
        clear e e5
        refine Touches.iteV (Touches.optS d0) ?_ ?_
        · exact grantPark_touches (Touches.inc hm rfl) hd hx3
        · exact hd
      exact h6
    · extract_lets -merge -underBinder x8
      have hx8 : Touches mm z0 x8 := by
        subst x8
        refine irqEvent_touches (Touches.inc hm rfl) (Touches.has hm rfl) ?_
        exact incSat_touches (Touches.has hm rfl) hx3
      try clear_value x8
      split
      · exact endReq_touches (Touches.inc hm rfl) hx8
      · exact closeSeq_touches (Touches.inc hm rfl) hx8

theorem copyPages_touches {s : State} {c : KvCopy} (hm : 0x180 &&& mm = 0x180) (hT : Touches mm z0 s) :
    Touches mm z0 (copyPages s c) := by
  unfold copyPages
  extract_lets -merge -underBinder x2 x3
  try clear_value x2
  try clear_value x3
  refine Touches.foldl ?_ (fun u x => ?_)
  · exact hT
  · revert x u; intro u4 y
    beta_reduce
    refine Touches.foldl ?_ (fun u x => ?_)
    · exact Touches.refl mm _
    · revert x u; intro u5 y
      beta_reduce
      split
      · exact memWrite_touches (Touches.has hm rfl) (Touches.has hm rfl) (Touches.refl mm _)
      · exact Touches.refl mm _

theorem execPrefixCopyDone_touches {dst : ℕ} {s : State} {d0 : State} (hm : 0x180080000060390 &&& mm = 0x180080000060390)
    (hd : Touches mm z0 d0) (hT : Touches mm z0 s) :
    Touches mm z0 (Touches.outS d0 (execPrefixCopyDone dst s)) := by
  unfold execPrefixCopyDone
  refine Touches.nextI ?_
  split
  · exact hT
  · extract_lets -merge -underBinder src7 x8 x9 x10 x11 x12 x13
    have hx8 : Touches mm z0 x8 := by
      subst x8
      exact Touches.kv (Touches.has hm rfl) hT
    try clear_value x8
    try clear_value x9
    have hx10 : Touches mm z0 x10 := by
      subst x10
      exact copyPages_touches (Touches.inc hm rfl) hx8
    try clear_value x10
    have hx11 : Touches mm z0 x11 := by
      subst x11
      refine Touches.ite ?_ ?_
      · refine addSat_touches (Touches.has hm rfl) ?_
        exact setSeq_touches (Touches.inc hm rfl) hx10
      · exact hx8
    try clear_value x11
    try clear_value x12
    have hx13 : Touches mm z0 x13 := by
      subst x13
      exact setSeq_touches (Touches.inc hm rfl) hx11
    try clear_value x13
    refine Touches.ite ?_ ?_
    · exact releaseSeq_touches (Touches.inc hm rfl) hx13
    · exact hx13

theorem execFrameScrubDone_touches {f : ℕ} {s : State} {d0 : State} (hm : 0x180080000060390 &&& mm = 0x180080000060390)
    (hd : Touches mm z0 d0) (hT : Touches mm z0 s) :
    Touches mm z0 (Touches.outS d0 (execFrameScrubDone f s)) := by
  unfold execFrameScrubDone
  refine Touches.nextI ?_
  split
  · exact hT
  · extract_lets -merge -underBinder x3 x4 x5
    have hx3 : Touches mm z0 x3 := by
      subst x3
      refine setFrame_touches (Touches.inc hm rfl) ?_
      exact memZero_touches (Touches.has hm rfl) (Touches.has hm rfl) hT
    try clear_value x3
    try clear_value x4
    have hx5 : Touches mm z0 x5 := by
      subst x5
      refine Touches.ite ?_ ?_
      · exact setSeq_touches (Touches.inc hm rfl) hx3
      · exact hx3
    try clear_value x5
    refine Touches.ite ?_ ?_
    · exact hT
    · exact kvSync_touches (Touches.inc hm rfl) hx5

theorem execKvpgPoolWrite_touches {w : Writer} {pages : Bool} {v : ℕ} {s : State} {d0 : State}
    (hm : 0xFFFFFFFF00060214 &&& mm = 0xFFFFFFFF00060214) (hd : Touches mm z0 d0) (hT : Touches mm z0 s) :
    Touches mm z0 (Touches.outS d0 (execKvpgPoolWrite w pages v s)) := by
  unfold execKvpgPoolWrite
  extract_lets -merge -underBinder x1
  try clear_value x1
  refine Touches.nextI ?_
  refine regWrite_touches (Touches.inc hm rfl) (fun u0 u1 hu => ?_) ?_
  · revert hu u1 u0
    intro bu2 u2_0 hu2
    beta_reduce
    extract_lets -merge -underBinder x6 x7 src8
    try clear_value x6
    try clear_value x7
    refine Touches.ite ?_ ?_
    · exact refuseWrite_touches (Touches.has hm rfl) hu2
    · refine Touches.ite ?_ ?_
      · exact refuseWrite_touches (Touches.has hm rfl) hu2
      · refine kvSync_touches (Touches.inc hm rfl) ?_
        refine wr_touches (Touches.anyPage hm rfl _) ?_
        exact Touches.kv (Touches.has hm rfl) hu2
  · exact hT

theorem execKvpgSeqBaseWrite_touches {w : Writer} {v : ℕ} {s : State} {d0 : State}
    (hm : 0xFFFFFFFF00060014 &&& mm = 0xFFFFFFFF00060014) (hd : Touches mm z0 d0) (hT : Touches mm z0 s) :
    Touches mm z0 (Touches.outS d0 (execKvpgSeqBaseWrite w v s)) := by
  unfold execKvpgSeqBaseWrite
  refine Touches.nextI ?_
  refine regWrite_touches (Touches.inc hm rfl) (fun u0 u1 hu => ?_) ?_
  · revert hu u1 u0
    intro bu0 u0_0 hu0
    beta_reduce
    refine Touches.ite ?_ ?_
    · exact refuseWrite_touches (Touches.has hm rfl) hu0
    · refine Touches.ite ?_ ?_
      · exact refuseWrite_touches (Touches.has hm rfl) hu0
      · exact wr_touches (Touches.has hm rfl) hu0
  · exact hT

theorem execKvpgResvWrite_touches {w : Writer} {v : ℕ} {s : State} {d0 : State}
    (hm : 0xFFFFFFFF00060214 &&& mm = 0xFFFFFFFF00060214) (hd : Touches mm z0 d0) (hT : Touches mm z0 s) :
    Touches mm z0 (Touches.outS d0 (execKvpgResvWrite w v s)) := by
  unfold execKvpgResvWrite
  refine Touches.nextI ?_
  refine regWrite_touches (Touches.inc hm rfl) (fun u0 u1 hu => ?_) ?_
  · revert hu u1 u0
    intro bu0 u0_0 hu0
    beta_reduce
    extract_lets -merge -underBinder x2
    try clear_value x2
    refine Touches.ite ?_ ?_
    · exact refuseWrite_touches (Touches.has hm rfl) hu0
    · refine kvSync_touches (Touches.inc hm rfl) ?_
      exact wr_touches (Touches.has hm rfl) hu0
  · exact hT

end Sys2Proof.Laws
end

