-- ==== Sys2Proof/Laws/FrameMemory.lean ====
section
/-!
SUPPORT. What each operation of `Machine/Memory.lean` may touch: the mask names the parts of the state in which its result can
differ from the state it started from.
-/

set_option linter.unusedVariables false
set_option linter.unusedTactic false

namespace Sys2Proof.Laws

open Sys2Proof Sys2Proof.Machine Sys2Proof.Safety

variable {mm : Nat} {z0 : State}

theorem execMemSetMapWrite_touches {w : Writer} {v : ℕ} {s : State} {d0 : State}
    (hm : 0xFFFFFFFF00060014 &&& mm = 0xFFFFFFFF00060014) (hd : Touches mm z0 d0) (hT : Touches mm z0 s) :
    Touches mm z0 (Touches.outS d0 (execMemSetMapWrite w v s)) := by
  unfold execMemSetMapWrite
  refine Touches.nextI ?_
  refine regWrite_touches (Touches.inc hm rfl) (fun u0 u1 hu => ?_) ?_
  · revert hu u1 u0
    intro bu0 u0_0 hu0
    beta_reduce
    refine Touches.ite ?_ ?_
    · exact refuseWrite_touches (Touches.has hm rfl) hu0
    · exact wr_touches (Touches.has hm rfl) hu0
  · exact hT

theorem execExtentOwn_touches {w : Writer} {t : ℕ} {s : State} {d0 : State}
    (hm : 0xFFFFFFFF00060014 &&& mm = 0xFFFFFFFF00060014) (hd : Touches mm z0 d0) (hT : Touches mm z0 s) :
    Touches mm z0 (Touches.outS d0 (execExtentOwn w t s)) := by
  unfold execExtentOwn
  refine Touches.nextI ?_
  refine regWrite_touches (Touches.inc hm rfl) (fun u0 u1 hu => ?_) ?_
  · revert hu u1 u0
    intro bu0 u0_0 hu0
    beta_reduce
    extract_lets -merge -underBinder x2
    try clear_value x2
    refine Touches.ite ?_ ?_
    · refine wr_touches (Touches.has hm rfl) ?_
      exact wr_touches (Touches.has hm rfl) hu0
    · exact refuseWrite_touches (Touches.has hm rfl) hu0
  · exact hT

theorem execExtentRelease_touches {w : Writer} {s : State} {d0 : State} (hm : 0xFFFFFFFF00060014 &&& mm = 0xFFFFFFFF00060014)
    (hd : Touches mm z0 d0) (hT : Touches mm z0 s) :
    Touches mm z0 (Touches.outS d0 (execExtentRelease w s)) := by
  unfold execExtentRelease
  refine Touches.nextI ?_
  refine regWrite_touches (Touches.inc hm rfl) (fun u0 u1 hu => ?_) ?_
  · revert hu u1 u0
    intro bu0 u0_0 hu0
    beta_reduce
    extract_lets -merge -underBinder x2
    try clear_value x2
    refine Touches.ite ?_ ?_
    · exact wr_touches (Touches.has hm rfl) hu0
    · exact refuseWrite_touches (Touches.has hm rfl) hu0
  · exact hT

theorem execExtentScrubDone_touches {e : ℕ} {s : State} {d0 : State} (hm : 0x800000180 &&& mm = 0x800000180)
    (hd : Touches mm z0 d0) (hT : Touches mm z0 s) :
    Touches mm z0 (Touches.outS d0 (execExtentScrubDone e s)) := by
  unfold execExtentScrubDone
  refine Touches.nextI ?_
  refine Touches.ite ?_ ?_
  · refine wr_touches (Touches.has hm rfl) ?_
    refine wr_touches (Touches.has hm rfl) ?_
    exact memZero_touches (Touches.has hm rfl) (Touches.has hm rfl) hT
  · exact hT

theorem trainMemc_touches {failed : List ℕ} {micros : ℕ} {s : State} {m : ℕ}
    (hm : 0x180001800060030 &&& mm = 0x180001800060030) (hT : Touches mm z0 s) :
    Touches mm z0 (trainMemc failed micros s m) := by
  unfold trainMemc
  extract_lets -merge -underBinder x4 x5 x6 x7
  try clear_value x4
  have hx5 : Touches mm z0 x5 := by
    subst x5
    refine wr_touches (Touches.has hm rfl) ?_
    refine wr_touches (Touches.has hm rfl) ?_
    exact wr_touches (Touches.has hm rfl) hT
  try clear_value x5
  have hx6 : Touches mm z0 x6 := by
    subst x6
    refine raiseIrq_touches (Touches.has hm rfl) (Touches.has hm rfl) ?_
    exact wr_touches (Touches.has hm rfl) hx5
  try clear_value x6
  have hx7 : Touches mm z0 x7 := by
    subst x7
    refine setDom_touches (Touches.inc hm rfl) ?_
    refine wr_touches (Touches.has hm rfl) ?_
    exact wr_touches (Touches.has hm rfl) hx6
  try clear_value x7
  refine Touches.ite ?_ ?_
  · exact hx6
  · exact irqEvent_touches (Touches.inc hm rfl) (Touches.has hm rfl) hx7

theorem execMemoryTrainingDone_touches {failed : List ℕ} {micros : ℕ} {s : State} {d0 : State}
    (hm : 0x580001800060030 &&& mm = 0x580001800060030) (hd : Touches mm z0 d0) (hT : Touches mm z0 s) :
    Touches mm z0 (Touches.outS d0 (execMemoryTrainingDone failed micros s)) := by
  unfold execMemoryTrainingDone
  extract_lets -merge -underBinder x1
  have hx1 : Touches mm z0 x1 := by
    subst x1
    refine Touches.foldl ?_ (fun u x => ?_)
    · exact hT
    · revert x u; intro u2 y
      beta_reduce
      exact trainMemc_touches (Touches.inc hm rfl) (Touches.refl mm _)
  try clear_value x1
  refine Touches.nextI ?_
  refine Touches.ite ?_ ?_
  · refine wr_touches (Touches.has hm rfl) ?_
    exact wr_touches (Touches.has hm rfl) hx1
  · exact hT

theorem execEccReRead_touches {a : ℕ} {who : Consumer} {clean : Bool} {s : State} {d0 : State}
    (hm : 0x180000801060110 &&& mm = 0x180000801060110) (hd : Touches mm z0 d0) (hT : Touches mm z0 s) :
    Touches mm z0 (Touches.outS d0 (execEccReRead a who clean s)) := by
  unfold execEccReRead
  refine Touches.nextI ?_
  split
  · exact hT
  · extract_lets -merge -underBinder x10 x11 x12 x13 x14 src15 x16 src17 x18 src19
    try clear_value x10
    try clear_value x11
    have hx12 : Touches mm z0 x12 := by
      subst x12
      exact incSat_touches (Touches.has hm rfl) hT
    try clear_value x12
    have hx13 : Touches mm z0 x13 := by
      subst x13
      split
      · exact modRunning_touches (Touches.inc hm rfl) hx12
      · exact hx12
    try clear_value x13
    try clear_value x14
    have hx16 : Touches mm z0 x16 := by
      subst x16
      refine noteMemErr_touches (Touches.inc hm rfl) ?_
      exact Touches.memory (Touches.has hm rfl) rfl hx13
    try clear_value x16
    have hx18 : Touches mm z0 x18 := by
      subst x18
      refine recordEvent_touches (Touches.inc hm rfl) ?_
      exact Touches.memory (Touches.has hm rfl) rfl hx13
    try clear_value x18
    refine Touches.ite ?_ ?_
    · exact irqEvent_touches (Touches.inc hm rfl) (Touches.has hm rfl) hx16
    · refine Touches.ite ?_ ?_
      · exact poisonData_touches (Touches.inc hm rfl) hx18
      · exact Touches.memory (Touches.has hm rfl) rfl hx13

theorem execPoisonMarkWrite_touches {u : ℕ} {s : State} {d0 : State} (hm : 0x100 &&& mm = 0x100) (hd : Touches mm z0 d0)
    (hT : Touches mm z0 s) :
    Touches mm z0 (Touches.outS d0 (execPoisonMarkWrite u s)) := by
  unfold execPoisonMarkWrite
  extract_lets -merge -underBinder src1
  refine Touches.nextI ?_
  refine Touches.ite ?_ ?_
  · exact Touches.memory (Touches.has hm rfl) rfl hT
  · exact hT

theorem execRefreshDue_touches {m : ℕ} {c : ℕ} {s : State} {d0 : State} (hm : 0x800000100 &&& mm = 0x800000100)
    (hd : Touches mm z0 d0) (hT : Touches mm z0 s) :
    Touches mm z0 (Touches.outS d0 (execRefreshDue m c s)) := by
  unfold execRefreshDue
  extract_lets -merge -underBinder x1
  try clear_value x1
  refine Touches.nextI ?_
  refine Touches.ite ?_ ?_
  · exact setOwed_touches (Touches.inc hm rfl) hT
  · exact setOwed_touches (Touches.inc hm rfl) hT

theorem execPackageTempRead_touches {m : ℕ} {t : ℤ} {rate : ℕ} {s : State} {d0 : State}
    (hm : 0x180001800060030 &&& mm = 0x180001800060030) (hd : Touches mm z0 d0) (hT : Touches mm z0 s) :
    Touches mm z0 (Touches.outS d0 (execPackageTempRead m t rate s)) := by
  unfold execPackageTempRead
  extract_lets -merge -underBinder x2 x3
  have hx2 : Touches mm z0 x2 := by
    subst x2
    refine wr_touches (Touches.has hm rfl) ?_
    exact wr_touches (Touches.has hm rfl) hT
  try clear_value x2
  have hx3 : Touches mm z0 x3 := by
    subst x3
    refine coolCheck_touches (Touches.inc hm rfl) ?_
    exact metricSample_touches (Touches.inc hm rfl) hx2
  try clear_value x3
  refine Touches.nextI ?_
  refine Touches.ite ?_ ?_
  · refine Touches.ite ?_ ?_
    · exact hx3
    · refine irqEvent_touches (Touches.inc hm rfl) (Touches.has hm rfl) ?_
      exact wr_touches (Touches.has hm rfl) hx3
  · exact wr_touches (Touches.has hm rfl) hx3

theorem notePatrol_touches {s : State} {m : ℕ} (hm : 0x180000800060110 &&& mm = 0x180000800060110) (hT : Touches mm z0 s) :
    Touches mm z0 (notePatrol s m) := by
  unfold notePatrol
  extract_lets -merge -underBinder src1
  refine Touches.ite ?_ ?_
  · refine irqEvent_touches (Touches.inc hm rfl) (Touches.has hm rfl) ?_
    exact Touches.memory (Touches.has hm rfl) rfl hT
  · exact hT

theorem endPatrol_touches {s : State} {m : ℕ} (hm : 0x100 &&& mm = 0x100) (hT : Touches mm z0 s) :
    Touches mm z0 (endPatrol s m) := by
  unfold endPatrol
  extract_lets -merge -underBinder src1
  exact Touches.memory (Touches.has hm rfl) rfl hT

theorem execPatrolScrub_touches {m : ℕ} {e : MemEnv} {done : Bool} {s : State} {d0 : State}
    (hm : 0x180000800060110 &&& mm = 0x180000800060110) (hd : Touches mm z0 d0) (hT : Touches mm z0 s) :
    Touches mm z0 (Touches.outS d0 (execPatrolScrub m e done s)) := by
  unfold execPatrolScrub
  extract_lets -merge -underBinder x3 x4 x5
  have hx3 : Touches mm z0 x3 := by
    subst x3
    refine Touches.foldl ?_ (fun u x => ?_)
    · exact hT
    · revert x u; intro u6 y
      beta_reduce
      exact memCorrected_touches (Touches.inc hm rfl) (Touches.refl mm _)
  try clear_value x3
  have hx4 : Touches mm z0 x4 := by
    subst x4
    refine Touches.foldl ?_ (fun u x => ?_)
    · exact hx3
    · revert x u; intro u7 y
      beta_reduce
      refine poisonData_touches (Touches.inc hm rfl) ?_
      refine Touches.ite ?_ ?_
      · exact memPath_touches (Touches.inc hm rfl) (Touches.refl mm _)
      · exact Touches.refl mm _
  try clear_value x4
  have hx5 : Touches mm z0 x5 := by
    subst x5
    refine notePatrol_touches (Touches.inc hm rfl) ?_
    refine Touches.foldl ?_ (fun u x => ?_)
    · exact hx4
    · revert x u; intro u8 y
      beta_reduce
      exact writePathBad_touches (Touches.inc hm rfl) (Touches.refl mm _)
  try clear_value x5
  refine Touches.nextI ?_
  refine Touches.ite ?_ ?_
  · exact endPatrol_touches (Touches.inc hm rfl) hx5
  · exact hx5

theorem execHostWindowRead_touches {fn : ℕ} {off : ℕ} {n : ℕ} {e : MemEnv} {s : State} {d0 : State}
    (hm : 0x180000800060110 &&& mm = 0x180000800060110) (hd : Touches mm z0 d0) (hT : Touches mm z0 s) :
    Touches mm z0 (Touches.outS d0 (execHostWindowRead fn off n e s)) := by
  unfold execHostWindowRead
  extract_lets -merge -underBinder x1
  have hx1 : Touches mm z0 x1 := by
    subst x1
    exact readFails_touches (Touches.inc hm rfl) hT
  try clear_value x1
  refine Touches.nextI ?_
  refine Touches.ite ?_ ?_
  · exact hT
  · refine Touches.ite ?_ ?_
    · refine emit_touches (Touches.has hm rfl) ?_
      exact incSat_touches (Touches.has hm rfl) hT
    · refine Touches.ite ?_ ?_
      · exact hx1
      · exact emit_touches (Touches.has hm rfl) hx1

theorem execHostWindowWrite_touches {fn : ℕ} {off : ℕ} {data : List Byte} {e : MemEnv} {s : State} {d0 : State}
    (hm : 0x180000800060190 &&& mm = 0x180000800060190) (hd : Touches mm z0 d0) (hT : Touches mm z0 s) :
    Touches mm z0 (Touches.outS d0 (execHostWindowWrite fn off data e s)) := by
  unfold execHostWindowWrite
  extract_lets -merge -underBinder x3 x4 x5
  try clear_value x3
  try clear_value x4
  have hx5 : Touches mm z0 x5 := by
    subst x5
    exact readFails_touches (Touches.inc hm rfl) hT
  try clear_value x5
  refine Touches.nextI ?_
  refine Touches.ite ?_ ?_
  · exact hT
  · refine Touches.ite ?_ ?_
    · exact incSat_touches (Touches.has hm rfl) hT
    · refine Touches.ite ?_ ?_
      · exact hx5
      · refine Touches.foldl ?_ (fun u x => ?_)
        · exact memWrite_touches (Touches.has hm rfl) (Touches.has hm rfl) hx5
        · revert x u; intro u6 y
          beta_reduce
          exact writePathBad_touches (Touches.inc hm rfl) (Touches.refl mm _)

end Sys2Proof.Laws
end

