-- ==== Sys2Proof/Laws/FramePace.lean ====
section
/-!
SUPPORT. What each operation of `Machine/Pace.lean` may touch: the mask names the parts of the state in which its result can
differ from the state it started from.
-/

set_option linter.unusedVariables false
set_option linter.unusedTactic false

namespace Sys2Proof.Laws

open Sys2Proof Sys2Proof.Machine Sys2Proof.Safety

variable {mm : Nat} {z0 : State}

theorem markFaulty_touches {e : GovEnv} {die : ℕ} {s : State} {n : ℕ} (hm : 0x184000000060010 &&& mm = 0x184000000060010)
    (hT : Touches mm z0 s) :
    Touches mm z0 (markFaulty e die s n) := by
  unfold markFaulty
  extract_lets -merge -underBinder x1
  have hx1 : Touches mm z0 x1 := by
    subst x1
    refine wr_touches (Touches.has hm rfl) ?_
    exact wr_touches (Touches.has hm rfl) hT
  try clear_value x1
  refine raiseIrq_touches (Touches.has hm rfl) (Touches.has hm rfl) ?_
  exact recordEvent_touches (Touches.inc hm rfl) hx1

theorem showSensor_touches {e : GovEnv} {die : ℕ} {s : State} {n : ℕ} (hm : 0x4000000000000 &&& mm = 0x4000000000000)
    (hT : Touches mm z0 s) :
    Touches mm z0 (showSensor e die s n) := by
  unfold showSensor
  extract_lets -merge -underBinder x1
  try clear_value x1
  refine wr_touches (Touches.has hm rfl) ?_
  exact wr_touches (Touches.has hm rfl) hT

theorem setGov_touches {s : State} {die : ℕ} {g : Gov} (hm : 0x100000 &&& mm = 0x100000) (hT : Touches mm z0 s) :
    Touches mm z0 (setGov s die g) := by
  unfold setGov
  extract_lets -merge -underBinder src1
  exact Touches.comb_gov (Touches.has hm rfl) hT

theorem setProm_touches {s : State} {die : ℕ} {v : ℕ} (hm : 0x4000000002000 &&& mm = 0x4000000002000) (hT : Touches mm z0 s) :
    Touches mm z0 (setProm s die v) := by
  unfold setProm
  extract_lets -merge -underBinder x2 src3
  have hx2 : Touches mm z0 x2 := by
    subst x2
    exact wr_touches (Touches.has hm rfl) hT
  try clear_value x2
  refine Touches.ite ?_ ?_
  · exact hT
  · refine Touches.ite ?_ ?_
    · exact Touches.serving (Touches.has hm rfl) hx2
    · exact hx2

theorem effRow_touches {s : State} {die : ℕ} {eff : ℕ} {recent : List ℕ} (hm : 0x4000000102000 &&& mm = 0x4000000102000)
    (hT : Touches mm z0 s) :
    Touches mm z0 (effRow s die eff recent) := by
  unfold effRow
  extract_lets -merge -underBinder x1
  try clear_value x1
  refine Touches.ite ?_ ?_
  · exact hT
  · refine Touches.ite ?_ ?_
    · exact setProm_touches (Touches.inc hm rfl) hT
    · refine Touches.ite ?_ ?_
      · refine Touches.ite ?_ ?_
        · exact hT
        · refine setGov_touches (Touches.inc hm rfl) ?_
          refine wr_touches (Touches.has hm rfl) ?_
          exact setProm_touches (Touches.inc hm rfl) hT
      · refine Touches.ite ?_ ?_
        · refine wr_touches (Touches.has hm rfl) ?_
          exact setProm_touches (Touches.inc hm rfl) hT
        · refine setGov_touches (Touches.inc hm rfl) ?_
          exact setProm_touches (Touches.inc hm rfl) hT

theorem enterBreach_touches {s : State} {die : ℕ} {cause : ℕ} {eff : ℕ} {rate : ℕ} {low : Bool} {recent : List ℕ}
    (hm : 0x184000000162010 &&& mm = 0x184000000162010) (hT : Touches mm z0 s) :
    Touches mm z0 (enterBreach s die cause eff rate low recent) := by
  unfold enterBreach
  extract_lets -merge -underBinder x6 x7 x8 x9 src10 x11
  have hx6 : Touches mm z0 x6 := by
    subst x6
    refine wr_touches (Touches.has hm rfl) ?_
    refine wr_touches (Touches.has hm rfl) ?_
    exact wr_touches (Touches.has hm rfl) hT
  try clear_value x6
  have hx7 : Touches mm z0 x7 := by
    subst x7
    exact incSat_touches (Touches.has hm rfl) hx6
  try clear_value x7
  have hx8 : Touches mm z0 x8 := by
    subst x8
    refine Touches.ite ?_ ?_
    · exact incSat_touches (Touches.has hm rfl) hx7
    · exact hx7
  try clear_value x8
  have hx9 : Touches mm z0 x9 := by
    subst x9
    exact setProm_touches (Touches.inc hm rfl) hx8
  try clear_value x9
  have hx11 : Touches mm z0 x11 := by
    subst x11
    exact setGov_touches (Touches.inc hm rfl) hx9
  try clear_value x11
  refine raiseIrq_touches (Touches.has hm rfl) (Touches.has hm rfl) ?_
  exact recordEvent_touches (Touches.inc hm rfl) hx11

theorem intervalRow_touches {s : State} {die : ℕ} {eff : ℕ} {rate : ℕ} {cause : ℕ} {atCeil : Bool} {blind : Bool}
    {recent : List ℕ} (hm : 0x184000000162010 &&& mm = 0x184000000162010) (hT : Touches mm z0 s) :
    Touches mm z0 (intervalRow s die eff rate cause atCeil blind recent) := by
  unfold intervalRow
  extract_lets -merge -underBinder x7 x8 x9 x10 x11 x12 x13
  try clear_value x7
  try clear_value x8
  try clear_value x9
  try clear_value x10
  have hx11 : Touches mm z0 x11 := by
    subst x11
    refine Touches.ite ?_ ?_
    · exact incSat_touches (Touches.has hm rfl) hT
    · exact hT
  try clear_value x11
  have hx12 : Touches mm z0 x12 := by
    subst x12
    refine setProm_touches (Touches.inc hm rfl) ?_
    refine wr_touches (Touches.has hm rfl) ?_
    exact wr_touches (Touches.has hm rfl) hT
  try clear_value x12
  have hx13 : Touches mm z0 x13 := by
    subst x13
    exact setGov_touches (Touches.inc hm rfl) hx12
  try clear_value x13
  refine Touches.ite ?_ ?_
  · refine Touches.ite ?_ ?_
    · refine setProm_touches (Touches.inc hm rfl) ?_
      refine wr_touches (Touches.has hm rfl) ?_
      exact setGov_touches (Touches.inc hm rfl) hx11
    · refine Touches.ite ?_ ?_
      · refine setProm_touches (Touches.inc hm rfl) ?_
        refine wr_touches (Touches.has hm rfl) ?_
        exact setGov_touches (Touches.inc hm rfl) hT
      · refine Touches.ite ?_ ?_
        · refine setProm_touches (Touches.inc hm rfl) ?_
          refine wr_touches (Touches.has hm rfl) ?_
          exact setGov_touches (Touches.inc hm rfl) hT
        · refine raiseIrq_touches (Touches.has hm rfl) (Touches.has hm rfl) ?_
          exact recordEvent_touches (Touches.inc hm rfl) hx13
  · refine Touches.ite ?_ ?_
    · exact enterBreach_touches (Touches.inc hm rfl) hT
    · refine Touches.ite ?_ ?_
      · refine setGov_touches (Touches.inc hm rfl) ?_
        refine wr_touches (Touches.has hm rfl) ?_
        exact setProm_touches (Touches.inc hm rfl) hT
      · refine Touches.ite ?_ ?_
        · refine Touches.ite ?_ ?_
          · exact enterBreach_touches (Touches.inc hm rfl) hT
          · refine incSat_touches (Touches.has hm rfl) ?_
            exact setGov_touches (Touches.inc hm rfl) hT
        · refine Touches.ite ?_ ?_
          · exact enterBreach_touches (Touches.inc hm rfl) hT
          · exact setGov_touches (Touches.inc hm rfl) hT

theorem noteInterval_touches {die : ℕ} {low : Bool} {s : State} {p : ℕ} (hm : 0x1000000 &&& mm = 0x1000000)
    (hT : Touches mm z0 s) :
    Touches mm z0 (noteInterval die low s p) := by
  unfold noteInterval
  refine Touches.ite ?_ ?_
  · exact modRunning_touches (Touches.inc hm rfl) hT
  · exact hT

theorem requestRetire_touches {s : State} {isPipe : Bool} {n : ℕ} {why : RetireReason} (hm : 0x4000000 &&& mm = 0x4000000)
    (hT : Touches mm z0 s) :
    Touches mm z0 (requestRetire s isPipe n why) := by
  unfold requestRetire
  extract_lets -merge -underBinder src1
  refine Touches.ite ?_ ?_
  · exact hT
  · refine Touches.ite ?_ ?_
    · exact hT
    · exact Touches.comb_retire (Touches.has hm rfl) hT

theorem sampleGov_touches {s : State} {die : ℕ} {rate : ℕ} {temp : ℤ} (hm : 0x10 &&& mm = 0x10) (hT : Touches mm z0 s) :
    Touches mm z0 (sampleGov s die rate temp) := by
  unfold sampleGov
  refine metricSample_touches (Touches.inc hm rfl) ?_
  refine metricSample_touches (Touches.inc hm rfl) ?_
  exact metricSample_touches (Touches.inc hm rfl) hT

theorem countElapsed_touches {s : State} {die : ℕ} {rate : ℕ} (hm : 0x400000001000 &&& mm = 0x400000001000)
    (hT : Touches mm z0 s) :
    Touches mm z0 (countElapsed s die rate) := by
  unfold countElapsed
  extract_lets -merge -underBinder x2 src3
  try clear_value x2
  refine Touches.ite ?_ ?_
  · refine incWrap_touches (Touches.has hm rfl) ?_
    exact Touches.hive (Touches.has hm rfl) hT
  · exact hT

theorem execGovernorInterval_touches {die : ℕ} {e : GovEnv} {s : State} {d0 : State}
    (hm : 0x184400005163030 &&& mm = 0x184400005163030) (hd : Touches mm z0 d0) (hT : Touches mm z0 s) :
    Touches mm z0 (Touches.outS d0 (execGovernorInterval die e s)) := by
  unfold execGovernorInterval
  extract_lets -merge -underBinder src30 x31 x32 x33 x34 x35 x36 xi x37 x38 x39 x40 x41 x42 x43 x44 x45 x46 x47 x48 x49 x50 x51 x52 x53 x54 x55 x56 x57 x58 src59
  have hx31 : Touches mm z0 x31 := by
    subst x31
    refine coolCheck_touches (Touches.inc hm rfl) ?_
    exact Touches.power (Touches.has hm rfl) hT
  try clear_value x31
  have hx32 : Touches mm z0 x32 := by
    subst x32
    refine Touches.foldl ?_ (fun u x => ?_)
    · exact hx31
    · revert x u; intro u60 y
      beta_reduce
      exact markFaulty_touches (Touches.inc hm rfl) (Touches.refl mm _)
  try clear_value x32
  have hx33 : Touches mm z0 x33 := by
    subst x33
    refine Touches.foldl ?_ (fun u x => ?_)
    · exact hx32
    · revert x u; intro u61 y
      beta_reduce
      exact showSensor_touches (Touches.inc hm rfl) (Touches.refl mm _)
  try clear_value x33
  try clear_value x34
  try clear_value x35
  have hx36 : Touches mm z0 x36 := by
    subst x36
    refine wr_touches (Touches.has hm rfl) ?_
    exact wr_touches (Touches.has hm rfl) hx33
  try clear_value x36
  try clear_value xi
  try clear_value x37
  try clear_value x38
  try clear_value x39
  have hx40 : Touches mm z0 x40 := by
    subst x40
    refine wr_touches (Touches.has hm rfl) ?_
    exact wr_touches (Touches.has hm rfl) hx36
  try clear_value x40
  have hx41 : Touches mm z0 x41 := by
    subst x41
    exact wr_touches (Touches.has hm rfl) hx40
  try clear_value x41
  try clear_value x42
  have hx43 : Touches mm z0 x43 := by
    subst x43
    exact wr_touches (Touches.has hm rfl) hx41
  try clear_value x43
  try clear_value x44
  try clear_value x45
  try clear_value x46
  try clear_value x47
  try clear_value x48
  have hx49 : Touches mm z0 x49 := by
    subst x49
    refine wr_touches (Touches.has hm rfl) ?_
    exact wr_touches (Touches.has hm rfl) hx43
  try clear_value x49
  try clear_value x50
  have hx51 : Touches mm z0 x51 := by
    subst x51
    refine Touches.foldl ?_ (fun u x => ?_)
    · exact hx49
    · revert x u; intro u62 y
      beta_reduce
      exact requestRetire_touches (Touches.inc hm rfl) (Touches.refl mm _)
  try clear_value x51
  have hx52 : Touches mm z0 x52 := by
    subst x52
    refine countElapsed_touches (Touches.inc hm rfl) ?_
    exact sampleGov_touches (Touches.inc hm rfl) hx51
  try clear_value x52
  try clear_value x53
  try clear_value x54
  have hx55 : Touches mm z0 x55 := by
    subst x55
    exact effRow_touches (Touches.inc hm rfl) hx52
  try clear_value x55
  try clear_value x56
  have hx57 : Touches mm z0 x57 := by
    subst x57
    refine Touches.foldl ?_ (fun u x => ?_)
    · exact hx55
    · revert x u; intro u63 y
      beta_reduce
      exact noteInterval_touches (Touches.inc hm rfl) (Touches.refl mm _)
  try clear_value x57
  have hx58 : Touches mm z0 x58 := by
    subst x58
    exact intervalRow_touches (Touches.inc hm rfl) hx57
  try clear_value x58
  refine Touches.iteV (Touches.outS d0) ?_ ?_
  · exact Touches.nextI hT
  · refine Touches.iteV (Touches.outS d0) ?_ ?_
    · exact Touches.nextI hx52
    · refine Touches.nextI ?_
      exact setGov_touches (Touches.inc hm rfl) hx58

theorem setRaise_touches {s : State} {die : ℕ} {entry : ℕ} {v : ℕ} (hm : 0x184000000060010 &&& mm = 0x184000000060010)
    (hT : Touches mm z0 s) :
    Touches mm z0 (setRaise s die entry v) := by
  unfold setRaise
  refine Touches.ite ?_ ?_
  · exact hT
  · refine raiseIrq_touches (Touches.has hm rfl) (Touches.has hm rfl) ?_
    refine recordEvent_touches (Touches.inc hm rfl) ?_
    exact wr_touches (Touches.has hm rfl) hT

theorem execMarginUpdate_touches {die : ℕ} {entry : ℕ} {src : MarginSrc} {s : State} {d0 : State}
    (hm : 0x184000004260010 &&& mm = 0x184000004260010) (hd : Touches mm z0 d0) (hT : Touches mm z0 s) :
    Touches mm z0 (Touches.outS d0 (execMarginUpdate die entry src s)) := by
  unfold execMarginUpdate
  extract_lets -merge -underBinder x8 src9 x10 x11 x12 x13 x14 x15
  try clear_value x8
  have hx10 : Touches mm z0 x10 := by
    subst x10
    exact Touches.comb_margin (Touches.has hm rfl) hT
  try clear_value x10
  have hx11 : Touches mm z0 x11 := by
    subst x11
    exact wr_touches (Touches.has hm rfl) hx10
  try clear_value x11
  try clear_value x12
  try clear_value x13
  have hx14 : Touches mm z0 x14 := by
    subst x14
    exact wr_touches (Touches.has hm rfl) hx11
  try clear_value x14
  have hx15 : Touches mm z0 x15 := by
    subst x15
    refine Touches.ite ?_ ?_
    · split
      · exact requestRetire_touches (Touches.inc hm rfl) hx14
      · exact recordEvent_touches (Touches.inc hm rfl) hx14
    · refine Touches.ite ?_ ?_
      · exact setRaise_touches (Touches.inc hm rfl) hx11
      · exact hx11
  try clear_value x15
  split
  · extract_lets -merge -underBinder x17
    try clear_value x17
    refine Touches.nextI ?_
    refine Touches.ite ?_ ?_
    · exact requestRetire_touches (Touches.inc hm rfl) hx15
    · exact hx15
  · exact Touches.nextI hx15

theorem execPaceMarginWrite_touches {w : Writer} {die : ℕ} {raise : ℕ} {s : State} {d0 : State}
    (hm : 0xFFFFFFFF00060014 &&& mm = 0xFFFFFFFF00060014) (hd : Touches mm z0 d0) (hT : Touches mm z0 s) :
    Touches mm z0 (Touches.outS d0 (execPaceMarginWrite w die raise s)) := by
  unfold execPaceMarginWrite
  extract_lets -merge -underBinder x1
  try clear_value x1
  refine Touches.nextI ?_
  refine regWrite_touches (Touches.inc hm rfl) (fun u0 u1 hu => ?_) ?_
  · revert hu u1 u0
    intro bu2 u2_0 hu2
    beta_reduce
    refine Touches.ite ?_ ?_
    · exact setRaise_touches (Touches.inc hm rfl) hu2
    · exact refuseWrite_touches (Touches.has hm rfl) hu2
  · exact hT

theorem execClearAll_touches {w : Writer} {die : ℕ} {v : ℕ} {s : State} {d0 : State}
    (hm : 0xFFFFFFFF00260014 &&& mm = 0xFFFFFFFF00260014) (hd : Touches mm z0 d0) (hT : Touches mm z0 s) :
    Touches mm z0 (Touches.outS d0 (execClearAll w die v s)) := by
  unfold execClearAll
  refine Touches.nextI ?_
  refine regWrite_touches (Touches.inc hm rfl) (fun u0 u1 hu => ?_) ?_
  · revert hu u1 u0
    intro bu0 u0_0 hu0
    beta_reduce
    refine Touches.ite ?_ ?_
    · refine Touches.foldl ?_ (fun u x => ?_)
      · exact hu0
      · revert x u; intro u1 y
        beta_reduce
        extract_lets -merge -underBinder x5 x6 src7
        have hx5 : Touches mm u1 x5 := by
          subst x5
          exact setRaise_touches (Touches.inc hm rfl) (Touches.refl mm _)
        try clear_value x5
        have hx6 : Touches mm u1 x6 := by
          subst x6
          exact wr_touches (Touches.has hm rfl) hx5
        try clear_value x6
        exact Touches.comb_margin (Touches.has hm rfl) hx6
    · exact hu0
  · exact hT

theorem execPaceFloorWrite_touches {w : Writer} {die : ℕ} {v : ℕ} {s : State} {d0 : State}
    (hm : 0xFFFFFFFF00060014 &&& mm = 0xFFFFFFFF00060014) (hd : Touches mm z0 d0) (hT : Touches mm z0 s) :
    Touches mm z0 (Touches.outS d0 (execPaceFloorWrite w die v s)) := by
  unfold execPaceFloorWrite
  refine Touches.nextI ?_
  refine regWrite_touches (Touches.inc hm rfl) (fun u0 u1 hu => ?_) ?_
  · revert hu u1 u0
    intro bu0 u0_0 hu0
    beta_reduce
    refine Touches.ite ?_ ?_
    · exact wr_touches (Touches.has hm rfl) hu0
    · exact refuseWrite_touches (Touches.has hm rfl) hu0
  · exact hT

theorem execPaceVlimWrite_touches {w : Writer} {die : ℕ} {vmin : ℕ} {vmax : ℕ} {s : State} {d0 : State}
    (hm : 0xFFFFFFFF00060014 &&& mm = 0xFFFFFFFF00060014) (hd : Touches mm z0 d0) (hT : Touches mm z0 s) :
    Touches mm z0 (Touches.outS d0 (execPaceVlimWrite w die vmin vmax s)) := by
  unfold execPaceVlimWrite
  refine Touches.nextI ?_
  refine regWrite_touches (Touches.inc hm rfl) (fun u0 u1 hu => ?_) ?_
  · revert hu u1 u0
    intro bu0 u0_0 hu0
    beta_reduce
    refine Touches.ite ?_ ?_
    · refine wr_touches (Touches.has hm rfl) ?_
      exact wr_touches (Touches.has hm rfl) hu0
    · exact refuseWrite_touches (Touches.has hm rfl) hu0
  · exact hT

end Sys2Proof.Laws
end

