-- ==== Sys2Proof/Laws/FramePartition.lean ====
section
/-!
SUPPORT. What each operation of `Machine/Partition.lean` may touch: the mask names the parts of the state in which its result can
differ from the state it started from.
-/

set_option linter.unusedVariables false
set_option linter.unusedTactic false

namespace Sys2Proof.Laws

open Sys2Proof Sys2Proof.Machine Sys2Proof.Safety

variable {mm : Nat} {z0 : State}

theorem unitWrite_touches {s : State} {w : Writer} {isPipe : Bool} {ty : ℕ} {n : ℕ} {off : ℕ} {k : State → State}
    (hm : 0xFFFFFFFF00060014 &&& mm = 0xFFFFFFFF00060014) (hk6 : ∀ z u0, Touches mm z u0 → Touches mm z (k u0)) (hT : Touches mm z0 s) :
    Touches mm z0 (unitWrite s w isPipe ty n off k) := by
  unfold unitWrite
  refine Touches.ite ?_ ?_
  · refine Touches.ite ?_ ?_
    · refine addSat_touches (Touches.anyPage hm rfl _) ?_
      exact refuseWrite_touches (Touches.anyPage hm rfl _) hT
    · exact hk6 _ _ hT
  · refine regWrite_touches (Touches.inc hm rfl) (fun u0 u1 hu => ?_) ?_
    · revert hu u1 u0
      intro bu0 u0_0 hu0
      beta_reduce
      exact hk6 _ _ hu0
    · exact hT

theorem testRequest_touches {s : State} {w : Writer} {isPipe : Bool} {n : ℕ} {stress : ℕ}
    (hm : 0xFFFFFFFF01060014 &&& mm = 0xFFFFFFFF01060014) (hT : Touches mm z0 s) :
    Touches mm z0 (testRequest s w isPipe n stress) := by
  unfold testRequest
  extract_lets -merge -underBinder x3 x4 x5
  try clear_value x3
  try clear_value x4
  try clear_value x5
  refine unitWrite_touches (Touches.inc hm rfl) (fun u0 u1 hu => ?_) ?_
  · revert hu u1 u0
    intro bu6 u6_0 hu6
    beta_reduce
    refine Touches.ite ?_ ?_
    · exact refuseWrite_touches (Touches.anyPage hm rfl _) hu6
    · refine Touches.ite ?_ ?_
      · exact hu6
      · refine Touches.ite ?_ ?_
        · exact refuseWrite_touches (Touches.anyPage hm rfl _) hu6
        · refine Touches.ite ?_ ?_
          · exact refuseWrite_touches (Touches.anyPage hm rfl _) hu6
          · refine startTest_touches (Touches.inc hm rfl) ?_
            exact wr_touches (Touches.anyPage hm rfl _) hu6
  · exact hT

theorem execCellTestStart_touches {w : Writer} {c : ℕ} {stress : ℕ} {s : State} {d0 : State}
    (hm : 0xFFFFFFFF01060014 &&& mm = 0xFFFFFFFF01060014) (hd : Touches mm z0 d0) (hT : Touches mm z0 s) :
    Touches mm z0 (Touches.outS d0 (execCellTestStart w c stress s)) := by
  unfold execCellTestStart
  refine Touches.nextI ?_
  exact testRequest_touches (Touches.inc hm rfl) hT

theorem execPipeTestStart_touches {w : Writer} {n : ℕ} {stress : ℕ} {s : State} {d0 : State}
    (hm : 0xFFFFFFFF01060014 &&& mm = 0xFFFFFFFF01060014) (hd : Touches mm z0 d0) (hT : Touches mm z0 s) :
    Touches mm z0 (Touches.outS d0 (execPipeTestStart w n stress s)) := by
  unfold execPipeTestStart
  refine Touches.nextI ?_
  exact testRequest_touches (Touches.inc hm rfl) hT

theorem testDone_touches {s : State} {isPipe : Bool} {n : ℕ} {failUnit : ℕ}
    (hm : 0xFFFFFFFF05C66FB4 &&& mm = 0xFFFFFFFF05C66FB4) (hT : Touches mm z0 s) :
    Touches mm z0 (testDone s isPipe n failUnit) := by
  unfold testDone
  extract_lets -merge -underBinder x8 x9 x10 x11 x12 src13 x14 x15
  try clear_value x8
  have hx9 : Touches mm z0 x9 := by
    subst x9
    exact wr_touches (Touches.anyPage hm rfl _) hT
  try clear_value x9
  have hx10 : Touches mm z0 x10 := by
    subst x10
    refine Touches.ite ?_ ?_
    · refine raiseIrq_touches (Touches.has hm rfl) (Touches.has hm rfl) ?_
      refine wr_touches (Touches.has hm rfl) ?_
      refine wr_touches (Touches.has hm rfl) ?_
      exact wr_touches (Touches.has hm rfl) hx9
    · refine raiseIrq_touches (Touches.has hm rfl) (Touches.has hm rfl) ?_
      refine wr_touches (Touches.has hm rfl) ?_
      refine wr_touches (Touches.has hm rfl) ?_
      exact wr_touches (Touches.has hm rfl) hx9
  try clear_value x10
  have hx11 : Touches mm z0 x11 := by
    subst x11
    exact touchResident_touches (Touches.inc hm rfl) hx10
  try clear_value x11
  have hx12 : Touches mm z0 x12 := by
    subst x12
    split
    · refine Touches.ite ?_ ?_
      · exact setPipe_touches (Touches.inc hm rfl) hx11
      · exact setCell_touches (Touches.inc hm rfl) hx11
    · exact hx11
  try clear_value x12
  have hx14 : Touches mm z0 x14 := by
    subst x14
    refine Touches.ite ?_ ?_
    · refine showQuads_touches (Touches.inc hm rfl) ?_
      exact Touches.comb_routerBad (Touches.has hm rfl) hx12
    · exact hx12
  try clear_value x14
  have hx15 : Touches mm z0 x15 := by
    subst x15
    split
    · refine carryOut_touches (Touches.inc hm rfl) ?_
      refine Touches.ite ?_ ?_
      · exact hx14
      · exact askRetire_touches (Touches.inc hm rfl) hx14
    · refine Touches.ite ?_ ?_
      · exact hx14
      · exact askRetire_touches (Touches.inc hm rfl) hx14
  try clear_value x15
  refine Touches.ite ?_ ?_
  · exact hT
  · exact twinTestDone_touches (Touches.inc hm rfl) hx15

theorem execCellTestDone_touches {c : ℕ} {failUnit : ℕ} {s : State} {d0 : State}
    (hm : 0xFFFFFFFF05C66FB4 &&& mm = 0xFFFFFFFF05C66FB4) (hd : Touches mm z0 d0) (hT : Touches mm z0 s) :
    Touches mm z0 (Touches.outS d0 (execCellTestDone c failUnit s)) := by
  unfold execCellTestDone
  refine Touches.nextI ?_
  exact testDone_touches (Touches.inc hm rfl) hT

theorem execPipeTestDone_touches {n : ℕ} {failUnit : ℕ} {s : State} {d0 : State}
    (hm : 0xFFFFFFFF05C66FB4 &&& mm = 0xFFFFFFFF05C66FB4) (hd : Touches mm z0 d0) (hT : Touches mm z0 s) :
    Touches mm z0 (Touches.outS d0 (execPipeTestDone n failUnit s)) := by
  unfold execPipeTestDone
  refine Touches.nextI ?_
  exact testDone_touches (Touches.inc hm rfl) hT

theorem execCellRetire_touches {w : Writer} {c : ℕ} {v : ℕ} {s : State} {d0 : State}
    (hm : 0xFFFFFFFF04060034 &&& mm = 0xFFFFFFFF04060034) (hd : Touches mm z0 d0) (hT : Touches mm z0 s) :
    Touches mm z0 (Touches.outS d0 (execCellRetire w c v s)) := by
  unfold execCellRetire
  refine Touches.nextI ?_
  refine Touches.ite ?_ ?_
  · refine unitWrite_touches (Touches.inc hm rfl) (fun u0 u1 hu => ?_) ?_
    · revert hu u1 u0
      intro bu0 u0_0 hu0
      beta_reduce
      exact askRetire_touches (Touches.inc hm rfl) hu0
    · exact hT
  · exact hT

theorem execPipeRetire_touches {w : Writer} {q : ℕ} {v : ℕ} {s : State} {d0 : State}
    (hm : 0xFFFFFFFF04060034 &&& mm = 0xFFFFFFFF04060034) (hd : Touches mm z0 d0) (hT : Touches mm z0 s) :
    Touches mm z0 (Touches.outS d0 (execPipeRetire w q v s)) := by
  unfold execPipeRetire
  refine Touches.nextI ?_
  refine Touches.ite ?_ ?_
  · refine unitWrite_touches (Touches.inc hm rfl) (fun u0 u1 hu => ?_) ?_
    · revert hu u1 u0
      intro bu0 u0_0 hu0
      beta_reduce
      exact askRetire_touches (Touches.inc hm rfl) hu0
    · exact hT
  · exact hT

theorem setRetire_touches {s : State} {isPipe : Bool} {n : ℕ} {order : ℕ} (hm : 0x4000000 &&& mm = 0x4000000)
    (hT : Touches mm z0 s) :
    Touches mm z0 (setRetire s isPipe n order) := by
  unfold setRetire
  extract_lets -merge -underBinder src1
  exact Touches.comb_retire (Touches.has hm rfl) hT

theorem execRetirementBegin_touches {s : State} {d0 : State} (hm : 0x180000005060010 &&& mm = 0x180000005060010)
    (hd : Touches mm z0 d0) (hT : Touches mm z0 s) :
    Touches mm z0 (Touches.outS d0 (execRetirementBegin s)) := by
  unfold execRetirementBegin
  refine Touches.nextI ?_
  split
  · exact hT
  · extract_lets -merge -underBinder x1
    have hx1 : Touches mm z0 x1 := by
      subst x1
      split
      · extract_lets -merge -underBinder src3
        exact setPart_touches (Touches.inc hm rfl) hT
      · exact hT
    try clear_value x1
    refine Touches.ite ?_ ?_
    · exact hT
    · refine retireRecord_touches (Touches.inc hm rfl) ?_
      exact setRetire_touches (Touches.inc hm rfl) hx1

theorem execRetirementSpareTest_touches {s : State} {d0 : State} (hm : 0xFFFFFFFF05460030 &&& mm = 0xFFFFFFFF05460030)
    (hd : Touches mm z0 d0) (hT : Touches mm z0 s) :
    Touches mm z0 (Touches.outS d0 (execRetirementSpareTest s)) := by
  unfold execRetirementSpareTest
  refine Touches.nextI ?_
  split
  · exact hT
  · extract_lets -merge -underBinder x1
    try clear_value x1
    refine Touches.ite ?_ ?_
    · exact hT
    · refine Touches.ite ?_ ?_
      · refine startTest_touches (Touches.inc hm rfl) ?_
        exact setRetire_touches (Touches.inc hm rfl) hT
      · exact carryOut_touches (Touches.inc hm rfl) hT

theorem partitionWrite_touches {s : State} {f : Fld} {i : ℕ} {k : ℕ} {v : ℕ} {eff : State → State}
    (hm : 0xFFFFFFFF00000000 &&& mm = 0xFFFFFFFF00000000) (hp : mm.testBit (32 + f.ty % 32) = true) (hk5 : ∀ z u0, Touches mm z u0 → Touches mm z (eff u0)) (hT : Touches mm z0 s) :
    Touches mm z0 (partitionWrite s f i k v eff) := by
  unfold partitionWrite
  extract_lets -merge -underBinder x1
  try clear_value x1
  refine Touches.ite ?_ ?_
  · exact refuseWrite_touches (Touches.anyPage hm rfl _) hT
  · refine Touches.ite ?_ ?_
    · exact refuseWrite_touches (Touches.anyPage hm rfl _) hT
    · refine hk5 _ _ ?_
      exact wr_touches hp hT

theorem execQuadPartWrite_touches {w : Writer} {q : ℕ} {v : ℕ} {s : State} {d0 : State}
    (hm : 0xFFFFFFFF01060014 &&& mm = 0xFFFFFFFF01060014) (hd : Touches mm z0 d0) (hT : Touches mm z0 s) :
    Touches mm z0 (Touches.outS d0 (execQuadPartWrite w q v s)) := by
  unfold execQuadPartWrite
  refine Touches.nextI ?_
  refine regWrite_touches (Touches.inc hm rfl) (fun u0 u1 hu => ?_) ?_
  · revert hu u1 u0
    intro bu0 u0_0 hu0
    beta_reduce
    extract_lets -merge -underBinder x2
    try clear_value x2
    refine Touches.ite ?_ ?_
    · exact hu0
    · refine partitionWrite_touches (Touches.inc hm rfl) (Touches.has hm rfl) (fun u0 u1 hu => ?_) ?_
      · revert hu u1 u0
        intro bu3 u3_0 hu3
        beta_reduce
        extract_lets -merge -underBinder x5
        have hx5 : Touches mm bu3 x5 := by
          subst x5
          refine Touches.ite ?_ ?_
          · exact clearResident_touches (Touches.inc hm rfl) hu3
          · exact hu3
        try clear_value x5
        refine Touches.ite ?_ ?_
        · exact clearResident_touches (Touches.inc hm rfl) hx5
        · exact hx5
      · exact hu0
  · exact hT

theorem execMemcPartWrite_touches {w : Writer} {m : ℕ} {v : ℕ} {s : State} {d0 : State}
    (hm : 0xFFFFFFFF00060014 &&& mm = 0xFFFFFFFF00060014) (hd : Touches mm z0 d0) (hT : Touches mm z0 s) :
    Touches mm z0 (Touches.outS d0 (execMemcPartWrite w m v s)) := by
  unfold execMemcPartWrite
  refine Touches.nextI ?_
  refine regWrite_touches (Touches.inc hm rfl) (fun u0 u1 hu => ?_) ?_
  · revert hu u1 u0
    intro bu0 u0_0 hu0
    beta_reduce
    refine partitionWrite_touches (Touches.inc hm rfl) (Touches.has hm rfl) (fun u0 u1 hu => ?_) ?_
    · revert hu u1 u0
      intro bu1 u1_0 hu1
      beta_reduce
      exact hu1
    · exact hu0
  · exact hT

theorem execSeamLaneWrite_touches {w : Writer} {d : ℕ} {v : ℕ} {s : State} {d0 : State}
    (hm : 0xFFFFFFFF00060014 &&& mm = 0xFFFFFFFF00060014) (hd : Touches mm z0 d0) (hT : Touches mm z0 s) :
    Touches mm z0 (Touches.outS d0 (execSeamLaneWrite w d v s)) := by
  unfold execSeamLaneWrite
  refine Touches.nextI ?_
  refine regWrite_touches (Touches.inc hm rfl) (fun u0 u1 hu => ?_) ?_
  · revert hu u1 u0
    intro bu0 u0_0 hu0
    beta_reduce
    extract_lets -merge -underBinder x2
    try clear_value x2
    refine partitionWrite_touches (Touches.inc hm rfl) (Touches.has hm rfl) (fun u0 u1 hu => ?_) ?_
    · revert hu u1 u0
      intro bu3 u3_0 hu3
      beta_reduce
      extract_lets -merge -underBinder x5
      try clear_value x5
      exact wr_touches (Touches.has hm rfl) hu3
    · exact hu0
  · exact hT

theorem execFastlaneWrite_touches {w : Writer} {v : ℕ} {s : State} {d0 : State}
    (hm : 0xFFFFFFFF00060014 &&& mm = 0xFFFFFFFF00060014) (hd : Touches mm z0 d0) (hT : Touches mm z0 s) :
    Touches mm z0 (Touches.outS d0 (execFastlaneWrite w v s)) := by
  unfold execFastlaneWrite
  refine Touches.nextI ?_
  refine regWrite_touches (Touches.inc hm rfl) (fun u0 u1 hu => ?_) ?_
  · revert hu u1 u0
    intro bu0 u0_0 hu0
    beta_reduce
    extract_lets -merge -underBinder x2
    try clear_value x2
    refine Touches.ite ?_ ?_
    · exact refuseWrite_touches (Touches.has hm rfl) hu0
    · exact wr_touches (Touches.has hm rfl) hu0
  · exact hT

end Sys2Proof.Laws
end

