-- ==== Sys2Proof/Laws/FramePower.lean ====
section
/-!
SUPPORT. What each operation of `Machine/Power.lean` may touch: the mask names the parts of the state in which its result can
differ from the state it started from.
-/

set_option linter.unusedVariables false
set_option linter.unusedTactic false

namespace Sys2Proof.Laws

open Sys2Proof Sys2Proof.Machine Sys2Proof.Safety

variable {mm : Nat} {z0 : State}

theorem clampLimits_touches {s : State} (hm : 0x8000000000000 &&& mm = 0x8000000000000) (hT : Touches mm z0 s) :
    Touches mm z0 (clampLimits s) := by
  unfold clampLimits
  extract_lets -merge -underBinder x1
  have hx1 : Touches mm z0 x1 := by
    subst x1
    refine Touches.foldl ?_ (fun u x => ?_)
    · exact hT
    · revert x u; intro u2 y
      beta_reduce
      exact wr_touches (show Nat.testBit _ (32 + 19 % 32) = true from Touches.has hm rfl) (Touches.refl mm _)
  try clear_value x1
  exact wr_touches (Touches.has hm rfl) hx1

theorem countLag_touches {s : State} {p : ℕ} (hm : 0x8000000000020 &&& mm = 0x8000000000020) (hT : Touches mm z0 s) :
    Touches mm z0 (countLag s p) := by
  unfold countLag
  extract_lets -merge -underBinder x2 src3
  try clear_value x2
  refine addSat_touches (Touches.has hm rfl) ?_
  exact Touches.power (Touches.has hm rfl) hT

theorem moveLimits_touches {s : State} {p : ℕ} (hm : 0x8000000000024 &&& mm = 0x8000000000024) (hT : Touches mm z0 s) :
    Touches mm z0 (moveLimits s p) := by
  unfold moveLimits
  extract_lets -merge -underBinder x3 x4 x5
  try clear_value x3
  try clear_value x4
  have hx5 : Touches mm z0 x5 := by
    subst x5
    refine Touches.foldl ?_ (fun u x => ?_)
    · exact hT
    · revert x u; intro u6 y
      beta_reduce
      exact wr_touches (show Nat.testBit _ (32 + 19 % 32) = true from Touches.has hm rfl) (Touches.refl mm _)
  try clear_value x5
  refine Touches.ite ?_ ?_
  · exact Touches.power (Touches.has hm rfl) hx5
  · refine Touches.ite ?_ ?_
    · split
      · extract_lets -merge -underBinder x8
        have hx8 : Touches mm z0 x8 := by
          subst x8
          exact wr_touches (show Nat.testBit _ (32 + 19 % 32) = true from Touches.has hm rfl) hT
        try clear_value x8
        refine useFree_touches (Touches.inc hm rfl) ?_
        exact Touches.power (Touches.has hm rfl) hx8
      · exact hT
    · exact hT

theorem shapeLoad_touches {s : State} {p : ℕ} (hm : 0x188000000060030 &&& mm = 0x188000000060030) (hT : Touches mm z0 s) :
    Touches mm z0 (shapeLoad s p) := by
  unfold shapeLoad
  extract_lets -merge -underBinder x13 x14 x15 x16 x17 x18 x19 x20 x21 x22 x23 x24 x25
  try clear_value x13
  try clear_value x14
  try clear_value x15
  try clear_value x16
  try clear_value x17
  try clear_value x18
  try clear_value x19
  try clear_value x20
  try clear_value x21
  try clear_value x22
  try clear_value x23
  try clear_value x24
  have hx25 : Touches mm z0 x25 := by
    subst x25
    exact Touches.power (Touches.has hm rfl) hT
  try clear_value x25
  refine Touches.ite ?_ ?_
  · exact unshaped_touches (Touches.inc hm rfl) hx25
  · exact hx25

theorem execPowerInterval_touches {p : ℕ} {s : State} {d0 : State} (hm : 0x188000000060034 &&& mm = 0x188000000060034)
    (hd : Touches mm z0 d0) (hT : Touches mm z0 s) :
    Touches mm z0 (Touches.outS d0 (execPowerInterval p s)) := by
  unfold execPowerInterval
  extract_lets -merge -underBinder x11 x12 x13 x14 x15 x16 x17 x18 src19 x20 x21
  try clear_value x11
  try clear_value x12
  try clear_value x13
  have hx14 : Touches mm z0 x14 := by
    subst x14
    refine metricSample_touches (Touches.inc hm rfl) ?_
    exact wr_touches (Touches.has hm rfl) hT
  try clear_value x14
  have hx15 : Touches mm z0 x15 := by
    subst x15
    refine countLag_touches (Touches.inc hm rfl) ?_
    exact setEff_touches (Touches.inc hm rfl) hx14
  try clear_value x15
  have hx16 : Touches mm z0 x16 := by
    subst x16
    exact clampLimits_touches (Touches.inc hm rfl) hx15
  try clear_value x16
  have hx17 : Touches mm z0 x17 := by
    subst x17
    refine Touches.foldl ?_ (fun u x => ?_)
    · exact hx16
    · revert x u; intro u22 y
      beta_reduce
      exact wr_touches (show Nat.testBit _ (32 + 19 % 32) = true from Touches.has hm rfl) (Touches.refl mm _)
  try clear_value x17
  try clear_value x18
  have hx20 : Touches mm z0 x20 := by
    subst x20
    refine Touches.ite ?_ ?_
    · exact dropShaping_touches (Touches.inc hm rfl) hx17
    · refine Touches.ite ?_ ?_
      · exact dropShaping_touches (Touches.inc hm rfl) hx16
      · refine shapeLoad_touches (Touches.inc hm rfl) ?_
        refine moveLimits_touches (Touches.inc hm rfl) ?_
        exact Touches.power (Touches.has hm rfl) hx16
  try clear_value x20
  have hx21 : Touches mm z0 x21 := by
    subst x21
    exact showPower_touches (Touches.inc hm rfl) hx20
  try clear_value x21
  refine Touches.nextI ?_
  exact metricSample_touches (Touches.inc hm rfl) hx21

theorem execPwrCapWrite_touches {w : Writer} {v : ℕ} {s : State} {d0 : State}
    (hm : 0xFFFFFFFF00060034 &&& mm = 0xFFFFFFFF00060034) (hd : Touches mm z0 d0) (hT : Touches mm z0 s) :
    Touches mm z0 (Touches.outS d0 (execPwrCapWrite w v s)) := by
  unfold execPwrCapWrite
  refine Touches.nextI ?_
  refine regWrite_touches (Touches.inc hm rfl) (fun u0 u1 hu => ?_) ?_
  · revert hu u1 u0
    intro bu0 u0_0 hu0
    beta_reduce
    exact capWrite_touches (Touches.inc hm rfl) hu0
  · exact hT

theorem execEmergSet_touches {w : Writer} {s : State} {d0 : State} (hm : 0xFFFFFFFF00060034 &&& mm = 0xFFFFFFFF00060034)
    (hd : Touches mm z0 d0) (hT : Touches mm z0 s) :
    Touches mm z0 (Touches.outS d0 (execEmergSet w s)) := by
  unfold execEmergSet
  refine Touches.nextI ?_
  refine regWrite_touches (Touches.inc hm rfl) (fun u0 u1 hu => ?_) ?_
  · revert hu u1 u0
    intro bu0 u0_0 hu0
    beta_reduce
    exact emergWrite_touches (Touches.inc hm rfl) hu0
  · exact hT

theorem execEmergClear_touches {w : Writer} {s : State} {d0 : State} (hm : 0xFFFFFFFF00060034 &&& mm = 0xFFFFFFFF00060034)
    (hd : Touches mm z0 d0) (hT : Touches mm z0 s) :
    Touches mm z0 (Touches.outS d0 (execEmergClear w s)) := by
  unfold execEmergClear
  refine Touches.nextI ?_
  refine regWrite_touches (Touches.inc hm rfl) (fun u0 u1 hu => ?_) ?_
  · revert hu u1 u0
    intro bu0 u0_0 hu0
    beta_reduce
    exact emergWrite_touches (Touches.inc hm rfl) hu0
  · exact hT

theorem execLaunchGateHoldExpiry_touches {p : ℕ} {s : State} {d0 : State} (hm : 0x1000001 &&& mm = 0x1000001)
    (hd : Touches mm z0 d0) (hT : Touches mm z0 s) :
    Touches mm z0 (Touches.outS d0 (execLaunchGateHoldExpiry p s)) := by
  unfold execLaunchGateHoldExpiry
  refine Touches.nextI ?_
  split
  · split
    · extract_lets -merge -underBinder x2 src3
      have hx2 : Touches mm z0 x2 := by
        subst x2
        exact reachTime_touches (Touches.inc hm rfl) hT
      try clear_value x2
      exact setPart_touches (Touches.inc hm rfl) hx2
    · exact hT
  · exact hT

theorem execDomainIdle_touches {d : ℕ} {s : State} {d0 : State} (hm : 0x20 &&& mm = 0x20) (hd : Touches mm z0 d0)
    (hT : Touches mm z0 s) :
    Touches mm z0 (Touches.outS d0 (execDomainIdle d s)) := by
  unfold execDomainIdle
  refine Touches.nextI ?_
  refine Touches.ite ?_ ?_
  · exact setDom_touches (Touches.inc hm rfl) hT
  · exact hT

theorem execDomainWake_touches {d : ℕ} {s : State} {d0 : State} (hm : 0x20 &&& mm = 0x20) (hd : Touches mm z0 d0)
    (hT : Touches mm z0 s) :
    Touches mm z0 (Touches.outS d0 (execDomainWake d s)) := by
  unfold execDomainWake
  refine Touches.nextI ?_
  refine Touches.ite ?_ ?_
  · exact hT
  · exact wakeDomain_touches (Touches.inc hm rfl) hT

theorem execWakeDone_touches {d : ℕ} {s : State} {d0 : State} (hm : 0x820 &&& mm = 0x820) (hd : Touches mm z0 d0)
    (hT : Touches mm z0 s) :
    Touches mm z0 (Touches.outS d0 (execWakeDone d s)) := by
  unfold execWakeDone
  extract_lets -merge -underBinder x2 src3
  have hx2 : Touches mm z0 x2 := by
    subst x2
    exact setDom_touches (Touches.inc hm rfl) hT
  try clear_value x2
  refine Touches.nextI ?_
  refine Touches.ite ?_ ?_
  · refine Touches.ite ?_ ?_
    · exact setPort_touches (Touches.inc hm rfl) hx2
    · exact hx2
  · exact hT

theorem execHoldOnWrite_touches {ty : ℕ} {i : ℕ} {v : ℕ} {s : State} {d0 : State}
    (hm : 0xFFFFFFFF00000020 &&& mm = 0xFFFFFFFF00000020) (hd : Touches mm z0 d0) (hT : Touches mm z0 s) :
    Touches mm z0 (Touches.outS d0 (execHoldOnWrite ty i v s)) := by
  unfold execHoldOnWrite
  extract_lets -merge -underBinder x1
  have hx1 : Touches mm z0 x1 := by
    subst x1
    exact wr_touches (Touches.anyPage hm rfl _) hT
  try clear_value x1
  refine Touches.nextI ?_
  refine Touches.ite ?_ ?_
  · exact hT
  · refine Touches.ite ?_ ?_
    · exact wakeDomain_touches (Touches.inc hm rfl) hx1
    · exact hx1

theorem execLaneIdleAgreement_touches {p : ℕ} {accept : Bool} {s : State} {d0 : State} (hm : 0x820 &&& mm = 0x820)
    (hd : Touches mm z0 d0) (hT : Touches mm z0 s) :
    Touches mm z0 (Touches.outS d0 (execLaneIdleAgreement p accept s)) := by
  unfold execLaneIdleAgreement
  extract_lets -merge -underBinder src1
  refine Touches.nextI ?_
  refine Touches.ite ?_ ?_
  · refine setDom_touches (Touches.inc hm rfl) ?_
    exact setPort_touches (Touches.inc hm rfl) hT
  · exact hT

theorem execStandbyEntry_touches {s : State} {d0 : State} (hm : 0x8000000000020 &&& mm = 0x8000000000020)
    (hd : Touches mm z0 d0) (hT : Touches mm z0 s) :
    Touches mm z0 (Touches.outS d0 (execStandbyEntry s)) := by
  unfold execStandbyEntry
  refine Touches.nextI ?_
  refine Touches.ite ?_ ?_
  · refine Touches.foldl ?_ (fun u x => ?_)
    · exact wr_touches (Touches.has hm rfl) hT
    · revert x u; intro u0 y
      beta_reduce
      exact setDom_touches (Touches.inc hm rfl) (Touches.refl mm _)
  · exact hT

theorem execStandbyExit_touches {s : State} {d0 : State} (hm : 0x188000000060030 &&& mm = 0x188000000060030)
    (hd : Touches mm z0 d0) (hT : Touches mm z0 s) :
    Touches mm z0 (Touches.outS d0 (execStandbyExit s)) := by
  unfold execStandbyExit
  refine Touches.nextI ?_
  exact leaveStandby_touches (Touches.inc hm rfl) hT

theorem execDuskBegin_touches {s : State} {d0 : State} (hm : 0x188000001060034 &&& mm = 0x188000001060034)
    (hd : Touches mm z0 d0) (hT : Touches mm z0 s) :
    Touches mm z0 (Touches.outS d0 (execDuskBegin s)) := by
  unfold execDuskBegin
  refine Touches.nextI ?_
  refine Touches.ite ?_ ?_
  · exact hT
  · exact beginDusk_touches (Touches.inc hm rfl) hT

theorem duskAt_touches {s : State} {order : ℕ} {us : ℕ} {k : State → State} (hm : 0x21 &&& mm = 0x21)
    (hk3 : ∀ z u0, Touches mm z u0 → Touches mm z (k u0)) (hT : Touches mm z0 s) :
    Touches mm z0 (duskAt s order us k) := by
  unfold duskAt
  split
  · extract_lets -merge -underBinder x2 src3
    have hx2 : Touches mm z0 x2 := by
      subst x2
      refine hk3 _ _ ?_
      exact reachTime_touches (Touches.inc hm rfl) hT
    try clear_value x2
    refine Touches.ite ?_ ?_
    · exact Touches.power (Touches.has hm rfl) hx2
    · exact hT
  · exact hT

theorem execDuskFinishDeadline_touches {s : State} {d0 : State} (hm : 0xFFFFFFFF01068DB1 &&& mm = 0xFFFFFFFF01068DB1)
    (hd : Touches mm z0 d0) (hT : Touches mm z0 s) :
    Touches mm z0 (Touches.outS d0 (execDuskFinishDeadline s)) := by
  unfold execDuskFinishDeadline
  refine Touches.nextI ?_
  refine duskAt_touches (Touches.inc hm rfl) (fun u0 u1 hu => ?_) ?_
  · revert hu u1 u0
    intro bu0 u0_0 hu0
    beta_reduce
    refine triggerFlush_touches (Touches.inc hm rfl) ?_
    refine stopJobs_touches (Touches.inc hm rfl) ?_
    exact abandonAll_touches (Touches.inc hm rfl) hu0
  · exact hT

theorem execDuskLeaving_touches {s : State} {d0 : State} (hm : 0x821 &&& mm = 0x821) (hd : Touches mm z0 d0)
    (hT : Touches mm z0 s) :
    Touches mm z0 (Touches.outS d0 (execDuskLeaving s)) := by
  unfold execDuskLeaving
  refine Touches.nextI ?_
  refine duskAt_touches (Touches.inc hm rfl) (fun u0 u1 hu => ?_) ?_
  · revert hu u1 u0
    intro bu0 u0_0 hu0
    beta_reduce
    exact sendLeaving_touches (Touches.inc hm rfl) hu0
  · exact hT

theorem execDuskHostDown_touches {cut : List (ℕ × List Byte)} {s : State} {d0 : State}
    (hm : 0x9824F8000062FB5 &&& mm = 0x9824F8000062FB5) (hd : Touches mm z0 d0) (hT : Touches mm z0 s) :
    Touches mm z0 (Touches.outS d0 (execDuskHostDown cut s)) := by
  unfold execDuskHostDown
  refine Touches.nextI ?_
  refine duskAt_touches (Touches.inc hm rfl) (fun u0 u1 hu => ?_) ?_
  · revert hu u1 u0
    intro bu0 u0_0 hu0
    beta_reduce
    extract_lets -merge -underBinder x3 src4
    have hx3 : Touches mm bu0 x3 := by
      subst x3
      refine hostPortReset_touches (Touches.inc hm rfl) ?_
      exact endAllRequests_touches (Touches.inc hm rfl) hu0
    try clear_value x3
    exact Touches.host (Touches.has hm rfl) hx3
  · exact hT

theorem execDuskPowerOff_touches {s : State} {d0 : State} (hm : 0x200001C00D21 &&& mm = 0x200001C00D21)
    (hd : Touches mm z0 d0) (hT : Touches mm z0 s) :
    Touches mm z0 (Touches.outS d0 (execDuskPowerOff s)) := by
  unfold execDuskPowerOff
  refine Touches.nextI ?_
  refine duskAt_touches (Touches.inc hm rfl) (fun u0 u1 hu => ?_) ?_
  · revert hu u1 u0
    intro bu0 u0_0 hu0
    beta_reduce
    extract_lets -merge -underBinder x7 x8 src9 x10 src11 src12
    have hx7 : Touches mm bu0 x7 := by
      subst x7
      refine Touches.foldl ?_ (fun u x => ?_)
      · exact hu0
      · revert x u; intro u13 y
        beta_reduce
        exact setDom_touches (Touches.inc hm rfl) (Touches.refl mm _)
    try clear_value x7
    have hx8 : Touches mm bu0 x8 := by
      subst x8
      refine Touches.foldl ?_ (fun u x => ?_)
      · exact hx7
      · revert x u; intro u14 y
        beta_reduce
        exact wr_touches (Touches.has hm rfl) (Touches.refl mm _)
    try clear_value x8
    have hx10 : Touches mm bu0 x10 := by
      subst x10
      exact upd_comb_cells_comb_pipes_comb_parts_links (Touches.has hm rfl) (Touches.has hm rfl) (Touches.has hm rfl) (Touches.has hm rfl) hx8
    try clear_value x10
    exact upd_memory_host (Touches.has hm rfl) rfl (Touches.has hm rfl) hx10
  · exact hT

theorem execDuskEnd_touches {power : Bool} {s : State} {d0 : State} (hm : 0xFFFFFFFF07F7FFF7 &&& mm = 0xFFFFFFFF07F7FFF7)
    (hd : Touches mm z0 d0) (hT : Touches mm z0 s) :
    Touches mm z0 (Touches.outS d0 (execDuskEnd power s)) := by
  unfold execDuskEnd
  refine Touches.nextI ?_
  refine Touches.ite ?_ ?_
  · exact coldReset_touches (Touches.inc hm rfl) hT
  · exact hT

theorem execThermalAlarm_touches {place : ℕ} {temp : ℤ} {s : State} {d0 : State}
    (hm : 0x180000000060030 &&& mm = 0x180000000060030) (hd : Touches mm z0 d0) (hT : Touches mm z0 s) :
    Touches mm z0 (Touches.outS d0 (execThermalAlarm place temp s)) := by
  unfold execThermalAlarm
  extract_lets -merge -underBinder src1
  refine Touches.nextI ?_
  refine Touches.ite ?_ ?_
  · exact hT
  · refine recordEvent_touches (Touches.inc hm rfl) ?_
    exact Touches.power (Touches.has hm rfl) hT

theorem execThermalTrip_touches {place : ℕ} {temp : ℤ} {s : State} {d0 : State}
    (hm : 0x188000001060034 &&& mm = 0x188000001060034) (hd : Touches mm z0 d0) (hT : Touches mm z0 s) :
    Touches mm z0 (Touches.outS d0 (execThermalTrip place temp s)) := by
  unfold execThermalTrip
  extract_lets -merge -underBinder src3 x4 src5
  have hx4 : Touches mm z0 x4 := by
    subst x4
    refine recordEvent_touches (Touches.inc hm rfl) ?_
    exact Touches.power (Touches.has hm rfl) hT
  try clear_value x4
  refine Touches.nextI ?_
  refine Touches.ite ?_ ?_
  · exact hT
  · refine beginDusk_touches (Touches.inc hm rfl) ?_
    exact Touches.boot (Touches.has hm rfl) hx4

theorem execThermalTripCooled_touches {s : State} {d0 : State} (hm : 0xFFFFFFFF07F7FFF7 &&& mm = 0xFFFFFFFF07F7FFF7)
    (hd : Touches mm z0 d0) (hT : Touches mm z0 s) :
    Touches mm z0 (Touches.outS d0 (execThermalTripCooled s)) := by
  unfold execThermalTripCooled
  refine Touches.nextI ?_
  refine Touches.ite ?_ ?_
  · exact coldReset_touches (Touches.inc hm rfl) hT
  · exact hT

theorem execOvervoltageDisconnect_touches {s : State} {d0 : State} (hm : 0xFFFFFFFF07F7FFF7 &&& mm = 0xFFFFFFFF07F7FFF7)
    (hd : Touches mm z0 d0) (hT : Touches mm z0 s) :
    Touches mm z0 (Touches.outS d0 (execOvervoltageDisconnect s)) := by
  unfold execOvervoltageDisconnect
  extract_lets -merge -underBinder x2 src3
  have hx2 : Touches mm z0 x2 := by
    subst x2
    exact losePower_touches (Touches.inc hm rfl) hT
  try clear_value x2
  refine Touches.nextI ?_
  exact Touches.power (Touches.has hm rfl) hx2

theorem execInputPowerLoss_touches {s : State} {d0 : State} (hm : 0xFFFFFFFF07F7FFF7 &&& mm = 0xFFFFFFFF07F7FFF7)
    (hd : Touches mm z0 d0) (hT : Touches mm z0 s) :
    Touches mm z0 (Touches.outS d0 (execInputPowerLoss s)) := by
  unfold execInputPowerLoss
  refine Touches.nextI ?_
  exact losePower_touches (Touches.inc hm rfl) hT

theorem execClockSourceTrip_touches {k : ℕ} {cut : List (ℕ × List Byte)} {s : State} {d0 : State}
    (hm : 0x993EF8000067FD4 &&& mm = 0x993EF8000067FD4) (hd : Touches mm z0 d0) (hT : Touches mm z0 s) :
    Touches mm z0 (Touches.outS d0 (execClockSourceTrip k cut s)) := by
  unfold execClockSourceTrip
  refine Touches.nextI ?_
  refine Touches.ite ?_ ?_
  · exact loopTrip_touches (Touches.inc hm rfl) hT
  · exact hT

theorem relock_touches {s : State} {k : ℕ} (hm : 0x10000000000040 &&& mm = 0x10000000000040) (hT : Touches mm z0 s) :
    Touches mm z0 (relock s k) := by
  unfold relock
  extract_lets -merge -underBinder src1
  refine showAwait_touches (Touches.inc hm rfl) ?_
  refine setLoop_touches (Touches.inc hm rfl) ?_
  exact Touches.clocks (Touches.has hm rfl) hT

theorem execDividerStep_touches {k : ℕ} {s : State} {d0 : State} (hm : 0x10000000000040 &&& mm = 0x10000000000040)
    (hd : Touches mm z0 d0) (hT : Touches mm z0 s) :
    Touches mm z0 (Touches.outS d0 (execDividerStep k s)) := by
  unfold execDividerStep
  extract_lets -merge -underBinder x5 x6 src7 x8 src9
  try clear_value x5
  have hx6 : Touches mm z0 x6 := by
    subst x6
    exact wr_touches (Touches.has hm rfl) hT
  try clear_value x6
  have hx8 : Touches mm z0 x8 := by
    subst x8
    refine setLoop_touches (Touches.inc hm rfl) ?_
    refine wr_touches (Touches.has hm rfl) ?_
    exact Touches.clocks (Touches.has hm rfl) hT
  try clear_value x8
  refine Touches.nextI ?_
  refine Touches.ite ?_ ?_
  · refine Touches.ite ?_ ?_
    · exact hx6
    · refine Touches.ite ?_ ?_
      · exact relock_touches (Touches.inc hm rfl) hx6
      · exact setLoop_touches (Touches.inc hm rfl) hx6
  · refine Touches.ite ?_ ?_
    · refine Touches.ite ?_ ?_
      · exact hx8
      · refine setLoop_touches (Touches.inc hm rfl) ?_
        exact Touches.clocks (Touches.has hm rfl) hx8
    · exact hT

theorem execClockSourceGood_touches {k : ℕ} {s : State} {d0 : State} (hm : 0x10000000000040 &&& mm = 0x10000000000040)
    (hd : Touches mm z0 d0) (hT : Touches mm z0 s) :
    Touches mm z0 (Touches.outS d0 (execClockSourceGood k s)) := by
  unfold execClockSourceGood
  extract_lets -merge -underBinder x1
  try clear_value x1
  refine Touches.nextI ?_
  split
  · exact hT
  · extract_lets -merge -underBinder x4 src5
    have hx4 : Touches mm z0 x4 := by
      subst x4
      refine wr_touches (Touches.has hm rfl) ?_
      exact wr_touches (Touches.has hm rfl) hT
    try clear_value x4
    refine Touches.ite ?_ ?_
    · exact hT
    · refine Touches.ite ?_ ?_
      · refine Touches.ite ?_ ?_
        · refine wr_touches (Touches.has hm rfl) ?_
          exact wr_touches (Touches.has hm rfl) hT
        · exact hT
      · refine Touches.ite ?_ ?_
        · refine relock_touches (Touches.inc hm rfl) ?_
          refine wr_touches (Touches.has hm rfl) ?_
          exact wr_touches (Touches.has hm rfl) hT
        · refine Touches.ite ?_ ?_
          · exact Touches.clocks (Touches.has hm rfl) hx4
          · exact hT

theorem tcxoFor_touches {s : State} {k : ℕ} (hm : 0x10000000000040 &&& mm = 0x10000000000040) (hT : Touches mm z0 s) :
    Touches mm z0 (tcxoFor s k) := by
  unfold tcxoFor
  extract_lets -merge -underBinder x3 x4 src5
  try clear_value x3
  have hx4 : Touches mm z0 x4 := by
    subst x4
    exact wr_touches (Touches.has hm rfl) hT
  try clear_value x4
  refine Touches.ite ?_ ?_
  · refine Touches.ite ?_ ?_
    · exact hT
    · refine setLoop_touches (Touches.inc hm rfl) ?_
      exact wr_touches (Touches.has hm rfl) hT
  · refine Touches.ite ?_ ?_
    · refine Touches.ite ?_ ?_
      · exact relock_touches (Touches.inc hm rfl) hx4
      · exact Touches.clocks (Touches.has hm rfl) hx4
    · exact hT

theorem execTcxoStable_touches {s : State} {d0 : State} (hm : 0x10000000000040 &&& mm = 0x10000000000040)
    (hd : Touches mm z0 d0) (hT : Touches mm z0 s) :
    Touches mm z0 (Touches.outS d0 (execTcxoStable s)) := by
  unfold execTcxoStable
  refine Touches.nextI ?_
  refine showAwait_touches (Touches.inc hm rfl) ?_
  refine Touches.foldl ?_ (fun u x => ?_)
  · refine wr_touches (Touches.has hm rfl) ?_
    exact wr_touches (Touches.has hm rfl) hT
  · revert x u; intro u0 y
    beta_reduce
    exact tcxoFor_touches (Touches.inc hm rfl) (Touches.refl mm _)

theorem execTcxoFault_touches {s : State} {d0 : State} (hm : 0xFFFFFFFF07F7FFF7 &&& mm = 0xFFFFFFFF07F7FFF7)
    (hd : Touches mm z0 d0) (hT : Touches mm z0 s) :
    Touches mm z0 (Touches.outS d0 (execTcxoFault s)) := by
  unfold execTcxoFault
  extract_lets -merge -underBinder x2 x3
  have hx2 : Touches mm z0 x2 := by
    subst x2
    refine wr_touches (Touches.has hm rfl) ?_
    exact wr_touches (Touches.has hm rfl) hT
  try clear_value x2
  have hx3 : Touches mm z0 x3 := by
    subst x3
    refine raiseIrq_touches (Touches.has hm rfl) (Touches.has hm rfl) ?_
    exact recordEvent_touches (Touches.inc hm rfl) hx2
  try clear_value x3
  refine Touches.nextI ?_
  refine fatalAction_touches (Touches.inc hm rfl) ?_
  refine Touches.foldl ?_ (fun u x => ?_)
  · exact hx3
  · revert x u; intro u4 y
    beta_reduce
    refine Touches.ite ?_ ?_
    · exact Touches.refl mm _
    · refine Touches.ite ?_ ?_
      · exact coast_touches (Touches.inc hm rfl) (Touches.refl mm _)
      · refine Touches.ite ?_ ?_
        · exact loopTrip_touches (Touches.inc hm rfl) (Touches.refl mm _)
        · exact Touches.refl mm _

theorem execClockGateRequest_touches {k : ℕ} {access : Bool} {s : State} {d0 : State}
    (hm : 0x10000000000000 &&& mm = 0x10000000000000) (hd : Touches mm z0 d0) (hT : Touches mm z0 s) :
    Touches mm z0 (Touches.outS d0 (execClockGateRequest k access s)) := by
  unfold execClockGateRequest
  refine Touches.nextI ?_
  refine Touches.ite ?_ ?_
  · exact hT
  · refine Touches.ite ?_ ?_
    · exact wr_touches (Touches.has hm rfl) hT
    · refine Touches.ite ?_ ?_
      · exact hT
      · exact wr_touches (Touches.has hm rfl) hT

theorem execGateStuck_touches {k : ℕ} {s : State} {d0 : State} (hm : 0x190000000060010 &&& mm = 0x190000000060010)
    (hd : Touches mm z0 d0) (hT : Touches mm z0 s) :
    Touches mm z0 (Touches.outS d0 (execGateStuck k s)) := by
  unfold execGateStuck
  extract_lets -merge -underBinder x1
  have hx1 : Touches mm z0 x1 := by
    subst x1
    refine incSat_touches (Touches.has hm rfl) ?_
    refine wr_touches (Touches.has hm rfl) ?_
    exact wr_touches (Touches.has hm rfl) hT
  try clear_value x1
  refine Touches.nextI ?_
  refine Touches.ite ?_ ?_
  · exact hT
  · refine raiseIrq_touches (Touches.has hm rfl) (Touches.has hm rfl) ?_
    exact statusEvent_touches (Touches.inc hm rfl) hx1

theorem execClkObsSelect_touches {w : Writer} {v : ℕ} {hz : ℕ} {s : State} {d0 : State}
    (hm : 0xFFFFFFFF00060014 &&& mm = 0xFFFFFFFF00060014) (hd : Touches mm z0 d0) (hT : Touches mm z0 s) :
    Touches mm z0 (Touches.outS d0 (execClkObsSelect w v hz s)) := by
  unfold execClkObsSelect
  extract_lets -merge -underBinder x4 x5 x6 x7
  try clear_value x4
  try clear_value x5
  have hx6 : Touches mm z0 x6 := by
    subst x6
    exact wordWrite_touches (Touches.inc hm rfl) hT
  try clear_value x6
  try clear_value x7
  refine Touches.nextI ?_
  refine Touches.ite ?_ ?_
  · refine Touches.ite ?_ ?_
    · exact refuseWrite_touches (Touches.has hm rfl) hT
    · exact hT
  · exact wr_touches (Touches.has hm rfl) hx6

end Sys2Proof.Laws
end

