-- ==== Sys2Proof/Laws/FrameQueues.lean ====
section
/-!
SUPPORT. What each operation of `Machine/Queues.lean` may touch: the mask names the parts of the state in which its result can
differ from the state it started from.
-/

set_option linter.unusedVariables false
set_option linter.unusedTactic false

namespace Sys2Proof.Laws

open Sys2Proof Sys2Proof.Machine Sys2Proof.Safety

variable {mm : Nat} {z0 : State}

theorem createQueue_touches {s : State} {q : ℕ} (hm : 0x20000000400 &&& mm = 0x20000000400) (hT : Touches mm z0 s) :
    Touches mm z0 (createQueue s q) := by
  unfold createQueue
  extract_lets -merge -underBinder x2 x3
  have hx2 : Touches mm z0 x2 := by
    subst x2
    refine wr_touches (Touches.has hm rfl) ?_
    refine wr_touches (Touches.has hm rfl) ?_
    refine wr_touches (Touches.has hm rfl) ?_
    exact wr_touches (Touches.has hm rfl) hT
  try clear_value x2
  have hx3 : Touches mm z0 x3 := by
    subst x3
    refine wr_touches (Touches.has hm rfl) ?_
    refine wr_touches (Touches.has hm rfl) ?_
    exact wr_touches (Touches.has hm rfl) hx2
  try clear_value x3
  refine wr_touches (Touches.has hm rfl) ?_
  exact setQueue_touches (Touches.inc hm rfl) hx3

theorem countEntry_touches {s : State} {q : ℕ} (hm : 0x400 &&& mm = 0x400) (hT : Touches mm z0 s) :
    Touches mm z0 (countEntry s q) := by
  unfold countEntry
  extract_lets -merge -underBinder x1
  try clear_value x1
  refine Touches.ite ?_ ?_
  · exact setStream_touches (Touches.inc hm rfl) hT
  · exact hT

theorem fetchEntry_touches {s : State} {q : ℕ} {idx : ℕ} {ahead : ℕ} {b : List Byte} {res : FetchRes} {ctr : ℕ}
    (hm : 0x180008000060010 &&& mm = 0x180008000060010) (hT : Touches mm z0 s) :
    Touches mm z0 (fetchEntry s q idx ahead b res ctr).1 := by
  unfold fetchEntry
  extract_lets -merge -underBinder x2 x3
  try clear_value x2
  try clear_value x3
  split
  · refine Touches.mkI ?_
    exact hostReadFailed_touches (Touches.inc hm rfl) hT
  · refine Touches.iteV Prod.fst ?_ ?_
    · refine Touches.mkI ?_
      exact sealFailed_touches (Touches.inc hm rfl) hT
    · exact Touches.mkI hT

theorem flushOne_touches {s : State} {q : ℕ} {e : Sub} (hm : 0x800028000040400 &&& mm = 0x800028000040400)
    (hT : Touches mm z0 s) :
    Touches mm z0 (flushOne s q e) := by
  unfold flushOne
  refine postCpl_touches (Touches.inc hm rfl) ?_
  exact countEntry_touches (Touches.inc hm rfl) hT

theorem flushQueue_touches {s : State} {q : ℕ} {rest : List (List Byte × FetchRes × ℕ)}
    (hm : 0x980028000060410 &&& mm = 0x980028000060410) (hT : Touches mm z0 s) :
    Touches mm z0 (flushQueue s q rest) := by
  unfold flushQueue
  extract_lets -merge -underBinder x5 x6 x7 x8 x9
  try clear_value x5
  try clear_value x6
  have hx7 : Touches mm z0 x7 := by
    subst x7
    refine wr_touches (Touches.has hm rfl) ?_
    exact setQueue_touches (Touches.inc hm rfl) hT
  try clear_value x7
  have hx8 : Touches mm z0 x8 := by
    subst x8
    refine Touches.foldl ?_ (fun u x => ?_)
    · exact hx7
    · revert x u; intro u10 y
      beta_reduce
      exact flushOne_touches (Touches.inc hm rfl) (Touches.refl mm _)
  try clear_value x8
  have hx9 : Touches mm z0 x9 := by
    subst x9
    refine Touches.foldl ?_ (fun u x => ?_)
    · exact hx8
    · revert x u; intro u11 y
      beta_reduce
      extract_lets -merge -underBinder x13
      try clear_value x13
      split
      · rename_i p14 p15 e16
        have h17 : Touches mm u11 p14 := by
          have e := congrArg Prod.fst e16
          refine Eq.mp (congrArg (Touches mm u11) e) ?_
          clear e e16
          exact fetchEntry_touches (Touches.inc hm rfl) (Touches.refl mm _)
        exact flushOne_touches (Touches.inc hm rfl) h17
  try clear_value x9
  exact wr_touches (Touches.has hm rfl) hx9

theorem queueControl_touches {s : State} {fn : ℕ} {v : ℕ} {cut : List (ℕ × List Byte)} {rest : List
    (List Byte × FetchRes × ℕ)} (hm : 0xFFFFFFFF00060D94 &&& mm = 0xFFFFFFFF00060D94) (hT : Touches mm z0 s) :
    Touches mm z0 (queueControl s fn v cut rest) := by
  unfold queueControl
  extract_lets -merge -underBinder x4 x5 x6 x7
  try clear_value x4
  try clear_value x5
  try clear_value x6
  have hx7 : ∀ x7a0 x7a1 z, Touches mm z x7a0 → Touches mm z (x7 x7a0 x7a1) := by
    intro x7a0 x7a1 z hu
    subst x7
    beta_reduce
    exact refuseWrite_touches (Touches.anyPage hm rfl _) hu
  try clear_value x7
  refine regWrite_touches (Touches.inc hm rfl) (fun u0 u1 hu => ?_) ?_
  · revert hu u1 u0
    intro bu8 u8_0 hu8
    beta_reduce
    extract_lets -merge -underBinder x12 x13 x14
    have hx12 : Touches mm bu8 x12 := by
      subst x12
      refine Touches.ite ?_ ?_
      · exact hu8
      · refine Touches.ite ?_ ?_
        · exact hx7 _ _ _ hu8
        · refine Touches.ite ?_ ?_
          · exact createQueue_touches (Touches.inc hm rfl) hu8
          · exact hx7 _ _ _ hu8
    try clear_value x12
    have hx13 : Touches mm bu8 x13 := by
      subst x13
      refine Touches.ite ?_ ?_
      · exact hx12
      · refine Touches.ite ?_ ?_
        · exact deleteQueue_touches (Touches.inc hm rfl) hx12
        · exact hx7 _ _ _ hx12
    try clear_value x13
    have hx14 : Touches mm bu8 x14 := by
      subst x14
      refine Touches.ite ?_ ?_
      · exact hx13
      · refine Touches.ite ?_ ?_
        · exact wr_touches (Touches.has hm rfl) hx13
        · exact hx7 _ _ _ hx13
    try clear_value x14
    refine Touches.ite ?_ ?_
    · exact hx7 _ _ _ hu8
    · refine Touches.ite ?_ ?_
      · exact hx7 _ _ _ hu8
      · refine Touches.ite ?_ ?_
        · exact hx14
        · refine Touches.ite ?_ ?_
          · exact flushQueue_touches (Touches.inc hm rfl) hx14
          · exact hx7 _ _ _ hx14
  · exact hT

theorem execCreate_touches {fn : ℕ} {also : ℕ} {s : State} {d0 : State} (hm : 0xFFFFFFFF00060D94 &&& mm = 0xFFFFFFFF00060D94)
    (hd : Touches mm z0 d0) (hT : Touches mm z0 s) :
    Touches mm z0 (Touches.outS d0 (execCreate fn also s)) := by
  unfold execCreate
  refine Touches.nextI ?_
  exact queueControl_touches (Touches.inc hm rfl) hT

theorem execDelete_touches {fn : ℕ} {also : ℕ} {cut : List (ℕ × List Byte)} {s : State} {d0 : State}
    (hm : 0xFFFFFFFF00060D94 &&& mm = 0xFFFFFFFF00060D94) (hd : Touches mm z0 d0) (hT : Touches mm z0 s) :
    Touches mm z0 (Touches.outS d0 (execDelete fn also cut s)) := by
  unfold execDelete
  refine Touches.nextI ?_
  exact queueControl_touches (Touches.inc hm rfl) hT

theorem execResume_touches {fn : ℕ} {also : ℕ} {s : State} {d0 : State} (hm : 0xFFFFFFFF00060D94 &&& mm = 0xFFFFFFFF00060D94)
    (hd : Touches mm z0 d0) (hT : Touches mm z0 s) :
    Touches mm z0 (Touches.outS d0 (execResume fn also s)) := by
  unfold execResume
  refine Touches.nextI ?_
  exact queueControl_touches (Touches.inc hm rfl) hT

theorem execQueueFlush_touches {fn : ℕ} {also : ℕ} {rest : List (List Byte × FetchRes × ℕ)} {s : State} {d0 : State}
    (hm : 0xFFFFFFFF00060D94 &&& mm = 0xFFFFFFFF00060D94) (hd : Touches mm z0 d0) (hT : Touches mm z0 s) :
    Touches mm z0 (Touches.outS d0 (execQueueFlush fn also rest s)) := by
  unfold execQueueFlush
  refine Touches.nextI ?_
  exact queueControl_touches (Touches.inc hm rfl) hT

theorem doorbellError_touches {s : State} {fn : ℕ} (hm : 0xFFFFFFFF00040000 &&& mm = 0xFFFFFFFF00040000) (hT : Touches mm z0 s) :
    Touches mm z0 (doorbellError s fn) := by
  unfold doorbellError
  refine raiseIrq_touches (Touches.has hm rfl) (Touches.anyPage hm rfl _) ?_
  exact incSat_touches (Touches.has hm rfl) hT

theorem bellTail_touches {s : State} {fn : ℕ} {q : ℕ} {v : ℕ} (hm : 0xFFFFFFFF00040000 &&& mm = 0xFFFFFFFF00040000)
    (hT : Touches mm z0 s) :
    Touches mm z0 (bellTail s fn q v) := by
  unfold bellTail
  refine Touches.ite ?_ ?_
  · exact doorbellError_touches (Touches.inc hm rfl) hT
  · exact wr_touches (Touches.has hm rfl) hT

theorem bellHead_touches {s : State} {fn : ℕ} {q : ℕ} {v : ℕ} (hm : 0xFFFFFFFF00040400 &&& mm = 0xFFFFFFFF00040400)
    (hT : Touches mm z0 s) :
    Touches mm z0 (bellHead s fn q v) := by
  unfold bellHead
  extract_lets -merge -underBinder x3 x4 x5
  try clear_value x3
  try clear_value x4
  have hx5 : Touches mm z0 x5 := by
    subst x5
    exact wr_touches (Touches.has hm rfl) hT
  try clear_value x5
  refine Touches.ite ?_ ?_
  · exact doorbellError_touches (Touches.inc hm rfl) hT
  · exact postHeld_touches (Touches.inc hm rfl) hx5

theorem execDoorbell_touches {fn : ℕ} {off : ℕ} {n : ℕ} {v : ℕ} {s : State} {d0 : State}
    (hm : 0xFFFFFFFF00040400 &&& mm = 0xFFFFFFFF00040400) (hd : Touches mm z0 d0) (hT : Touches mm z0 s) :
    Touches mm z0 (Touches.outS d0 (execDoorbell fn off n v s)) := by
  unfold execDoorbell
  refine Touches.nextI ?_
  refine Touches.ite ?_ ?_
  · exact hT
  · refine Touches.ite ?_ ?_
    · exact doorbellError_touches (Touches.inc hm rfl) hT
    · split
      · exact doorbellError_touches (Touches.inc hm rfl) hT
      · refine Touches.ite ?_ ?_
        · exact doorbellError_touches (Touches.inc hm rfl) hT
        · refine Touches.ite ?_ ?_
          · refine Touches.ite ?_ ?_
            · exact bellTail_touches (Touches.inc hm rfl) hT
            · exact bellHead_touches (Touches.inc hm rfl) hT
          · refine bellHead_touches (Touches.inc hm rfl) ?_
            exact bellTail_touches (Touches.inc hm rfl) hT

theorem execEntryFetched_touches {q : ℕ} {bytes : List Byte} {res : FetchRes} {ctr : ℕ} {s : State} {d0 : State}
    (hm : 0x180008000060410 &&& mm = 0x180008000060410) (hd : Touches mm z0 d0) (hT : Touches mm z0 s) :
    Touches mm z0 (Touches.outS d0 (execEntryFetched q bytes res ctr s)) := by
  unfold execEntryFetched
  extract_lets -merge -underBinder x1
  try clear_value x1
  refine Touches.nextI ?_
  refine Touches.ite ?_ ?_
  · exact hT
  · split
    · rename_i p2 p3 e4
      have h5 : Touches mm z0 p2 := by
        have e := congrArg Prod.fst e4
        refine Eq.mp (congrArg (Touches mm z0) e) ?_
        clear e e4
        exact fetchEntry_touches (Touches.inc hm rfl) hT
      exact setQueue_touches (Touches.inc hm rfl) h5

theorem execCommandStart_touches {q : ℕ} {s : State} {d0 : State} (hm : 0x800428000040D80 &&& mm = 0x800428000040D80)
    (hd : Touches mm z0 d0) (hT : Touches mm z0 s) :
    Touches mm z0 (Touches.outS d0 (execCommandStart q s)) := by
  unfold execCommandStart
  extract_lets -merge -underBinder x1
  try clear_value x1
  refine Touches.nextI ?_
  split
  · exact hT
  · extract_lets -merge -underBinder x6 x7 x8 x9
    try clear_value x6
    try clear_value x7
    have hx8 : Touches mm z0 x8 := by
      subst x8
      refine wr_touches (Touches.has hm rfl) ?_
      exact setQueue_touches (Touches.inc hm rfl) hT
    try clear_value x8
    have hx9 : Touches mm z0 x9 := by
      subst x9
      exact countEntry_touches (Touches.inc hm rfl) hx8
    try clear_value x9
    refine Touches.ite ?_ ?_
    · exact hT
    · split
      · exact finishCmd_touches (Touches.inc hm rfl) hx9
      · refine Touches.ite ?_ ?_
        · exact hx9
        · refine Touches.ite ?_ ?_
          · exact finishCmd_touches (Touches.inc hm rfl) hx9
          · refine Touches.ite ?_ ?_
            · exact finishCmd_touches (Touches.inc hm rfl) hx9
            · refine Touches.ite ?_ ?_
              · exact finishCmd_touches (Touches.inc hm rfl) hx9
              · exact hx9

theorem execNop_touches {q : ℕ} {s : State} {d0 : State} (hm : 0x800428000040D80 &&& mm = 0x800428000040D80)
    (hd : Touches mm z0 d0) (hT : Touches mm z0 s) :
    Touches mm z0 (Touches.outS d0 (execNop q s)) := by
  unfold execNop
  refine Touches.nextI ?_
  split
  · exact finishCmd_touches (Touches.inc hm rfl) hT
  · exact hT

theorem execInvalidOpcode_touches {q : ℕ} {s : State} {d0 : State} (hm : 0x800428000040D80 &&& mm = 0x800428000040D80)
    (hd : Touches mm z0 d0) (hT : Touches mm z0 s) :
    Touches mm z0 (Touches.outS d0 (execInvalidOpcode q s)) := by
  unfold execInvalidOpcode
  refine Touches.nextI ?_
  split
  · refine Touches.ite ?_ ?_
    · exact finishCmd_touches (Touches.inc hm rfl) hT
    · exact hT
  · exact hT

theorem execWait_touches {q : ℕ} {s : State} {d0 : State} (hm : 0x800428000040D80 &&& mm = 0x800428000040D80)
    (hd : Touches mm z0 d0) (hT : Touches mm z0 s) :
    Touches mm z0 (Touches.outS d0 (execWait q s)) := by
  unfold execWait
  refine Touches.nextI ?_
  split
  · exact hT
  · extract_lets -merge -underBinder x1
    try clear_value x1
    refine Touches.ite ?_ ?_
    · exact finishCmd_touches (Touches.inc hm rfl) hT
    · refine Touches.ite ?_ ?_
      · exact finishCmd_touches (Touches.inc hm rfl) hT
      · exact setBusy_touches (Touches.inc hm rfl) hT

theorem sendPeer_touches {s : State} {q : ℕ} {dst : ℕ} {tenant : ℕ} {length : ℕ} {vc : ℕ} {copy : Option (ℕ × ℕ × ℕ)}
    {body : ℕ → Msg} (hm : 0x800428000040D80 &&& mm = 0x800428000040D80) (hT : Touches mm z0 s) :
    Touches mm z0 (sendPeer s q dst tenant length vc copy body) := by
  unfold sendPeer
  extract_lets -merge -underBinder x6 x7 x8 src9 x10 x11
  try clear_value x6
  try clear_value x7
  try clear_value x8
  have hx10 : Touches mm z0 x10 := by
    subst x10
    exact Touches.links (Touches.has hm rfl) hT
  try clear_value x10
  have hx11 : Touches mm z0 x11 := by
    subst x11
    refine modRun_touches (Touches.inc hm rfl) ?_
    exact setBusy_touches (Touches.inc hm rfl) hx10
  try clear_value x11
  refine Touches.ite ?_ ?_
  · exact finishCmd_touches (Touches.inc hm rfl) hT
  · refine Touches.ite ?_ ?_
    · exact emit_touches (Touches.has hm rfl) hx11
    · exact enqueue_touches (Touches.inc hm rfl) hx11

theorem execPeerCopy_touches {q : ℕ} {s : State} {d0 : State} (hm : 0x800428000040D80 &&& mm = 0x800428000040D80)
    (hd : Touches mm z0 d0) (hT : Touches mm z0 s) :
    Touches mm z0 (Touches.outS d0 (execPeerCopy q s)) := by
  unfold execPeerCopy
  refine Touches.nextI ?_
  split
  · exact hT
  · extract_lets -merge -underBinder x5 x6 x7 x8 x9
    try clear_value x5
    try clear_value x6
    try clear_value x7
    try clear_value x8
    try clear_value x9
    refine Touches.ite ?_ ?_
    · exact finishCmd_touches (Touches.inc hm rfl) hT
    · refine Touches.ite ?_ ?_
      · exact finishCmd_touches (Touches.inc hm rfl) hT
      · refine Touches.ite ?_ ?_
        · exact finishCmd_touches (Touches.inc hm rfl) hT
        · split
          · exact finishCmd_touches (Touches.inc hm rfl) hT
          · split
            · exact finishCmd_touches (Touches.inc hm rfl) hT
            · exact sendPeer_touches (Touches.inc hm rfl) hT

theorem execRemoteSignal_touches {q : ℕ} {s : State} {d0 : State} (hm : 0x800428000040D80 &&& mm = 0x800428000040D80)
    (hd : Touches mm z0 d0) (hT : Touches mm z0 s) :
    Touches mm z0 (Touches.outS d0 (execRemoteSignal q s)) := by
  unfold execRemoteSignal
  refine Touches.nextI ?_
  split
  · exact hT
  · extract_lets -merge -underBinder x1
    try clear_value x1
    split
    · exact finishCmd_touches (Touches.inc hm rfl) hT
    · exact sendPeer_touches (Touches.inc hm rfl) hT

theorem timeOut_touches {s : State} {q : ℕ} {r : RunCmd} {cut : List (ℕ × List Byte)}
    (hm : 0x982438000060D94 &&& mm = 0x982438000060D94) (hT : Touches mm z0 s) :
    Touches mm z0 (timeOut s q r cut) := by
  unfold timeOut
  extract_lets -merge -underBinder x1
  have hx1 : Touches mm z0 x1 := by
    subst x1
    exact incSat_touches (Touches.has hm rfl) hT
  try clear_value x1
  split
  · exact finishCmd_touches (Touches.inc hm rfl) hx1
  · refine Touches.ite ?_ ?_
    · exact stopXfers_touches (Touches.inc hm rfl) hx1
    · exact finishCmd_touches (Touches.inc hm rfl) hx1
  · refine Touches.ite ?_ ?_
    · exact stopXfers_touches (Touches.inc hm rfl) hx1
    · exact finishCmd_touches (Touches.inc hm rfl) hx1
  · split
    · refine endPeer_touches (Touches.inc hm rfl) ?_
      refine Touches.ite ?_ ?_
      · exact abortCopy_touches (Touches.inc hm rfl) hx1
      · exact hx1
    · exact finishCmd_touches (Touches.inc hm rfl) hx1

theorem execCommandTimeout_touches {q : ℕ} {cut : List (ℕ × List Byte)} {s : State} {d0 : State}
    (hm : 0x982438000060D95 &&& mm = 0x982438000060D95) (hd : Touches mm z0 d0) (hT : Touches mm z0 s) :
    Touches mm z0 (Touches.outS d0 (execCommandTimeout q cut s)) := by
  unfold execCommandTimeout
  refine Touches.nextI ?_
  split
  · exact hT
  · extract_lets -merge -underBinder x2 x3
    try clear_value x2
    have hx3 : Touches mm z0 x3 := by
      subst x3
      exact reachTime_touches (Touches.inc hm rfl) hT
    try clear_value x3
    refine Touches.ite ?_ ?_
    · exact hT
    · refine Touches.ite ?_ ?_
      · exact modRun_touches (Touches.inc hm rfl) hx3
      · exact timeOut_touches (Touches.inc hm rfl) hx3

theorem execQmgrSigBaseWrite_touches {w : Writer} {v : ℕ} {s : State} {d0 : State}
    (hm : 0xFFFFFFFF00060014 &&& mm = 0xFFFFFFFF00060014) (hd : Touches mm z0 d0) (hT : Touches mm z0 s) :
    Touches mm z0 (Touches.outS d0 (execQmgrSigBaseWrite w v s)) := by
  unfold execQmgrSigBaseWrite
  refine Touches.nextI ?_
  refine regWrite_touches (Touches.inc hm rfl) (fun u0 u1 hu => ?_) ?_
  · revert hu u1 u0
    intro bu0 u0_0 hu0
    beta_reduce
    refine Touches.ite ?_ ?_
    · exact refuseWrite_touches (Touches.has hm rfl) hu0
    · refine Touches.ite ?_ ?_
      · exact refuseWrite_touches (Touches.has hm rfl) hu0
      · exact wr_touches (Touches.has hm rfl) hu0
  · exact hT

theorem execDbpMapWrite_touches {w : Writer} {fn : ℕ} {s : State} {d0 : State}
    (hm : 0xFFFFFFFF00060014 &&& mm = 0xFFFFFFFF00060014) (hd : Touches mm z0 d0) (hT : Touches mm z0 s) :
    Touches mm z0 (Touches.outS d0 (execDbpMapWrite w fn s)) := by
  unfold execDbpMapWrite
  refine Touches.nextI ?_
  refine regWrite_touches (Touches.inc hm rfl) (fun u0 u1 hu => ?_) ?_
  · revert hu u1 u0
    intro bu0 u0_0 hu0
    beta_reduce
    extract_lets -merge -underBinder x2
    try clear_value x2
    refine Touches.ite ?_ ?_
    · exact refuseWrite_touches (Touches.has hm rfl) hu0
    · refine Touches.ite ?_ ?_
      · exact refuseWrite_touches (Touches.has hm rfl) hu0
      · exact wr_touches (Touches.has hm rfl) hu0
  · exact hT

end Sys2Proof.Laws
end

