-- ==== Sys2Proof/Laws/FrameRecorder.lean ====
section
/-!
SUPPORT. What each operation of `Machine/Recorder.lean` may touch: the mask names the parts of the state in which its result can
differ from the state it started from.
-/

set_option linter.unusedVariables false
set_option linter.unusedTactic false

namespace Sys2Proof.Laws

open Sys2Proof Sys2Proof.Machine Sys2Proof.Safety

variable {mm : Nat} {z0 : State}

theorem execEventRecord_touches {ty : ℕ} {i : ℕ} {code : ℕ} {sev : ℕ} {tenant : ℕ} {detail : List ℕ} {s : State} {d0 : State}
    (hm : 0xFFFFFFFF07F7FFF7 &&& mm = 0xFFFFFFFF07F7FFF7) (hd : Touches mm z0 d0) (hT : Touches mm z0 s) :
    Touches mm z0 (Touches.outS d0 (execEventRecord ty i code sev tenant detail s)) := by
  unfold execEventRecord
  refine Touches.nextI ?_
  refine Touches.ite ?_ ?_
  · refine fatalAction_touches (Touches.inc hm rfl) ?_
    exact recordEvent_touches (Touches.inc hm rfl) hT
  · exact hT

theorem execRtcSet_touches {w : Writer} {s : State} {d0 : State} (hm : 0xFFFFFFFF00060014 &&& mm = 0xFFFFFFFF00060014)
    (hd : Touches mm z0 d0) (hT : Touches mm z0 s) :
    Touches mm z0 (Touches.outS d0 (execRtcSet w s)) := by
  unfold execRtcSet
  refine Touches.nextI ?_
  refine regWrite_touches (Touches.inc hm rfl) (fun u0 u1 hu => ?_) ?_
  · revert hu u1 u0
    intro bu0 u0_0 hu0
    beta_reduce
    extract_lets -merge -underBinder src2
    exact Touches.recorder (Touches.has hm rfl) hu0
  · exact hT

theorem execFlushPeriodExpiry_touches {s : State} {d0 : State} (hm : 0x100000000000011 &&& mm = 0x100000000000011)
    (hd : Touches mm z0 d0) (hT : Touches mm z0 s) :
    Touches mm z0 (Touches.outS d0 (execFlushPeriodExpiry s)) := by
  unfold execFlushPeriodExpiry
  refine Touches.nextI ?_
  refine Touches.ite ?_ ?_
  · exact hT
  · refine triggerFlush_touches (Touches.inc hm rfl) ?_
    exact reachTime_touches (Touches.inc hm rfl) hT

theorem execRecorderFlush_touches {w : Writer} {s : State} {d0 : State} (hm : 0xFFFFFFFF00060014 &&& mm = 0xFFFFFFFF00060014)
    (hd : Touches mm z0 d0) (hT : Touches mm z0 s) :
    Touches mm z0 (Touches.outS d0 (execRecorderFlush w s)) := by
  unfold execRecorderFlush
  refine Touches.nextI ?_
  refine regWrite_touches (Touches.inc hm rfl) (fun u0 u1 hu => ?_) ?_
  · revert hu u1 u0
    intro bu0 u0_0 hu0
    beta_reduce
    exact triggerFlush_touches (Touches.inc hm rfl) hu0
  · exact hT

theorem execFlushEnd_touches {us : ℕ} {s : State} {d0 : State} (hm : 0x380000000060011 &&& mm = 0x380000000060011)
    (hd : Touches mm z0 d0) (hT : Touches mm z0 s) :
    Touches mm z0 (Touches.outS d0 (execFlushEnd us s)) := by
  unfold execFlushEnd
  refine Touches.nextI ?_
  exact commitFlush_touches (Touches.inc hm rfl) hT

theorem execMramWriteError_touches {s : State} {d0 : State} (hm : 0x180000000060010 &&& mm = 0x180000000060010)
    (hd : Touches mm z0 d0) (hT : Touches mm z0 s) :
    Touches mm z0 (Touches.outS d0 (execMramWriteError s)) := by
  unfold execMramWriteError
  refine Touches.nextI ?_
  split
  · exact hT
  · extract_lets -merge -underBinder x1
    have hx1 : Touches mm z0 x1 := by
      subst x1
      refine wr_touches (by rw [apply_ite Fld.ty]; split <;> exact Touches.has hm rfl) ?_
      exact cutFlush_touches (Touches.inc hm rfl) hT
    try clear_value x1
    refine flushOver_touches (Touches.inc hm rfl) ?_
    refine irqEvent_touches (Touches.inc hm rfl) (Touches.has hm rfl) ?_
    exact incSat_touches (Touches.has hm rfl) hx1

theorem startFreeze_touches {s : State} (hm : 0x80000000000010 &&& mm = 0x80000000000010) (hT : Touches mm z0 s) :
    Touches mm z0 (startFreeze s) := by
  unfold startFreeze
  extract_lets -merge -underBinder x4 src5 x6 src7
  have hx4 : Touches mm z0 x4 := by
    subst x4
    refine wr_touches (Touches.has hm rfl) ?_
    refine wr_touches (Touches.has hm rfl) ?_
    exact wr_touches (Touches.has hm rfl) hT
  try clear_value x4
  have hx6 : Touches mm z0 x6 := by
    subst x6
    exact Touches.recorder (Touches.has hm rfl) hx4
  try clear_value x6
  refine Touches.ite ?_ ?_
  · exact hT
  · refine Touches.ite ?_ ?_
    · exact Touches.recorder (Touches.has hm rfl) hx6
    · exact refuseWrite_touches (Touches.has hm rfl) hx6

theorem execFreeze_touches {w : Writer} {s : State} {d0 : State} (hm : 0xFFFFFFFF00060014 &&& mm = 0xFFFFFFFF00060014)
    (hd : Touches mm z0 d0) (hT : Touches mm z0 s) :
    Touches mm z0 (Touches.outS d0 (execFreeze w s)) := by
  unfold execFreeze
  refine Touches.nextI ?_
  refine regWrite_touches (Touches.inc hm rfl) (fun u0 u1 hu => ?_) ?_
  · revert hu u1 u0
    intro bu0 u0_0 hu0
    beta_reduce
    exact startFreeze_touches (Touches.inc hm rfl) hu0
  · exact hT

theorem execUnfreeze_touches {w : Writer} {s : State} {d0 : State} (hm : 0xFFFFFFFF00060014 &&& mm = 0xFFFFFFFF00060014)
    (hd : Touches mm z0 d0) (hT : Touches mm z0 s) :
    Touches mm z0 (Touches.outS d0 (execUnfreeze w s)) := by
  unfold execUnfreeze
  refine Touches.nextI ?_
  refine regWrite_touches (Touches.inc hm rfl) (fun u0 u1 hu => ?_) ?_
  · revert hu u1 u0
    intro bu0 u0_0 hu0
    beta_reduce
    exact endFreeze_touches (Touches.inc hm rfl) hu0
  · exact hT

theorem execFreezeExpiry_touches {s : State} {d0 : State} (hm : 0x180000000060011 &&& mm = 0x180000000060011)
    (hd : Touches mm z0 d0) (hT : Touches mm z0 s) :
    Touches mm z0 (Touches.outS d0 (execFreezeExpiry s)) := by
  unfold execFreezeExpiry
  refine Touches.nextI ?_
  refine Touches.ite ?_ ?_
  · refine irqEvent_touches (Touches.inc hm rfl) (Touches.has hm rfl) ?_
    refine endFreeze_touches (Touches.inc hm rfl) ?_
    exact reachTime_touches (Touches.inc hm rfl) hT
  · exact hT

theorem execFreezeCopyDone_touches {s : State} {d0 : State} (hm : 0x80000000040194 &&& mm = 0x80000000040194)
    (hd : Touches mm z0 d0) (hT : Touches mm z0 s) :
    Touches mm z0 (Touches.outS d0 (execFreezeCopyDone s)) := by
  unfold execFreezeCopyDone
  extract_lets -merge -underBinder x4 x5 src6 x7
  try clear_value x4
  try clear_value x5
  have hx7 : Touches mm z0 x7 := by
    subst x7
    refine useFree_touches (Touches.inc hm rfl) ?_
    exact Touches.recorder (Touches.has hm rfl) hT
  try clear_value x7
  refine Touches.nextI ?_
  refine Touches.ite ?_ ?_
  · refine wr_touches (Touches.has hm rfl) ?_
    refine Touches.ite ?_ ?_
    · exact emit_touches (Touches.has hm rfl) hx7
    · exact memWrite_touches (Touches.has hm rfl) (Touches.has hm rfl) hx7
  · exact hT

theorem clearAllMetrics_touches {s : State} (hm : 0x10 &&& mm = 0x10) (hT : Touches mm z0 s) :
    Touches mm z0 (clearAllMetrics s) := by
  unfold clearAllMetrics
  extract_lets -merge -underBinder x2 src3
  try clear_value x2
  refine Touches.ite ?_ ?_
  · exact hT
  · exact Touches.recorder (Touches.has hm rfl) hT

theorem execClearMetrics_touches {w : Writer} {s : State} {d0 : State} (hm : 0xFFFFFFFF00060014 &&& mm = 0xFFFFFFFF00060014)
    (hd : Touches mm z0 d0) (hT : Touches mm z0 s) :
    Touches mm z0 (Touches.outS d0 (execClearMetrics w s)) := by
  unfold execClearMetrics
  refine Touches.nextI ?_
  refine regWrite_touches (Touches.inc hm rfl) (fun u0 u1 hu => ?_) ?_
  · revert hu u1 u0
    intro bu0 u0_0 hu0
    beta_reduce
    exact clearAllMetrics_touches (Touches.inc hm rfl) hu0
  · exact hT

theorem metricConfig_touches {s : State} {w : Writer} {off : ℕ} {v : ℕ} (hm : 0xFFFFFFFF00060014 &&& mm = 0xFFFFFFFF00060014)
    (hT : Touches mm z0 s) :
    Touches mm z0 (metricConfig s w off v) := by
  unfold metricConfig
  extract_lets -merge -underBinder x3 x4 src5
  try clear_value x3
  have hx4 : Touches mm z0 x4 := by
    subst x4
    exact wordWrite_touches (Touches.inc hm rfl) hT
  try clear_value x4
  refine Touches.ite ?_ ?_
  · exact refuseWrite_touches (Touches.has hm rfl) hT
  · refine Touches.ite ?_ ?_
    · exact hx4
    · exact setMetric_touches (Touches.inc hm rfl) hx4

theorem execMetricConfigWrite_touches {w : Writer} {cfg : Bool} {v : ℕ} {s : State} {d0 : State}
    (hm : 0xFFFFFFFF00060014 &&& mm = 0xFFFFFFFF00060014) (hd : Touches mm z0 d0) (hT : Touches mm z0 s) :
    Touches mm z0 (Touches.outS d0 (execMetricConfigWrite w cfg v s)) := by
  unfold execMetricConfigWrite
  refine Touches.nextI ?_
  exact metricConfig_touches (Touches.inc hm rfl) hT

theorem execMetricIntervalEnd_touches {m : ℕ} {s : State} {d0 : State} (hm : 0x12 &&& mm = 0x12) (hd : Touches mm z0 d0)
    (hT : Touches mm z0 s) :
    Touches mm z0 (Touches.outS d0 (execMetricIntervalEnd m s)) := by
  unfold execMetricIntervalEnd
  extract_lets -merge -underBinder x2 x3
  try clear_value x2
  try clear_value x3
  refine Touches.nextI ?_
  refine Touches.ite ?_ ?_
  · exact hT
  · refine setMetric_touches (Touches.inc hm rfl) ?_
    exact Touches.rtc (Touches.has hm rfl) hT

theorem execMetricCountSecond_touches {s : State} {d0 : State} (hm : 0x10 &&& mm = 0x10) (hd : Touches mm z0 d0)
    (hT : Touches mm z0 s) :
    Touches mm z0 (Touches.outS d0 (execMetricCountSecond s)) := by
  unfold execMetricCountSecond
  extract_lets -merge -underBinder x1
  have hx1 : Touches mm z0 x1 := by
    subst x1
    refine Touches.foldl ?_ (fun u x => ?_)
    · exact hT
    · revert x u; intro u2 y
      beta_reduce
      exact countMetric_touches (Touches.inc hm rfl) (Touches.refl mm _)
  try clear_value x1
  refine Touches.nextI ?_
  refine Touches.foldl ?_ (fun u x => ?_)
  · exact hx1
  · revert x u; intro u3 y
    beta_reduce
    exact countMetric_touches (Touches.inc hm rfl) (Touches.refl mm _)

end Sys2Proof.Laws
end

