-- ==== Sys2Proof/Laws/FrameSecurity.lean ====
section
/-!
SUPPORT. What each operation of `Machine/Security.lean` may touch: the mask names the parts of the state in which its result can
differ from the state it started from.
-/

set_option linter.unusedVariables false
set_option linter.unusedTactic false

namespace Sys2Proof.Laws

open Sys2Proof Sys2Proof.Machine Sys2Proof.Safety

variable {mm : Nat} {z0 : State}

theorem keyEffect_touches {s : State} {q : ℕ} {r : RunCmd} {block : List Byte}
    (hm : 0x982428000060D94 &&& mm = 0x982428000060D94) (hT : Touches mm z0 s) :
    Touches mm z0 (keyEffect s q r block) := by
  unfold keyEffect
  extract_lets -merge -underBinder x7 x8 x9 x10 x11 x12 x13
  try clear_value x7
  try clear_value x8
  try clear_value x9
  have hx10 : Touches mm z0 x10 := by
    subst x10
    refine Touches.ite ?_ ?_
    · refine wr_touches (Touches.has hm rfl) ?_
      exact wr_touches (Touches.has hm rfl) hT
    · exact hT
  try clear_value x10
  have hx11 : Touches mm z0 x11 := by
    subst x11
    refine Touches.ite ?_ ?_
    · refine wr_touches (Touches.has hm rfl) ?_
      exact dropStreams_touches (Touches.inc hm rfl) hx10
    · exact hx10
  try clear_value x11
  have hx12 : Touches mm z0 x12 := by
    subst x12
    refine Touches.ite ?_ ?_
    · exact wr_touches (Touches.has hm rfl) hx11
    · exact hx11
  try clear_value x12
  have hx13 : Touches mm z0 x13 := by
    subst x13
    refine useFree_touches (Touches.inc hm rfl) ?_
    exact hostWrite_touches (Touches.inc hm rfl) hx12
  try clear_value x13
  refine finishCmd_touches (Touches.inc hm rfl) ?_
  exact irqEvent_touches (Touches.inc hm rfl) (Touches.has hm rfl) hx13

theorem keyInstall_touches {s : State} {q : ℕ} {replace : Bool} {block : List Byte} {hostOk : Bool}
    (hm : 0x982428000060D94 &&& mm = 0x982428000060D94) (hT : Touches mm z0 s) :
    Touches mm z0 (keyInstall s q replace block hostOk) := by
  unfold keyInstall
  split
  · exact hT
  · refine Touches.ite ?_ ?_
    · exact hT
    · refine Touches.ite ?_ ?_
      · exact finishCmd_touches (Touches.inc hm rfl) hT
      · split
        · exact finishCmd_touches (Touches.inc hm rfl) hT
        · refine Touches.ite ?_ ?_
          · refine finishCmd_touches (Touches.inc hm rfl) ?_
            exact hostReadFailed_touches (Touches.inc hm rfl) hT
          · exact keyEffect_touches (Touches.inc hm rfl) hT

theorem execKeyInstallActivate_touches {q : ℕ} {block : List Byte} {hostOk : Bool} {s : State} {d0 : State}
    (hm : 0x982428000060D94 &&& mm = 0x982428000060D94) (hd : Touches mm z0 d0) (hT : Touches mm z0 s) :
    Touches mm z0 (Touches.outS d0 (execKeyInstallActivate q block hostOk s)) := by
  unfold execKeyInstallActivate
  refine Touches.nextI ?_
  exact keyInstall_touches (Touches.inc hm rfl) hT

theorem execKeyInstallReplace_touches {q : ℕ} {block : List Byte} {hostOk : Bool} {s : State} {d0 : State}
    (hm : 0x982428000060D94 &&& mm = 0x982428000060D94) (hd : Touches mm z0 d0) (hT : Touches mm z0 s) :
    Touches mm z0 (Touches.outS d0 (execKeyInstallReplace q block hostOk s)) := by
  unfold execKeyInstallReplace
  refine Touches.nextI ?_
  exact keyInstall_touches (Touches.inc hm rfl) hT

theorem execWeightLoad_touches {q : ℕ} {count : ℕ} {opened : Bool} {s : State} {d0 : State}
    (hm : 0x802438000040D80 &&& mm = 0x802438000040D80) (hd : Touches mm z0 d0) (hT : Touches mm z0 s) :
    Touches mm z0 (Touches.outS d0 (execWeightLoad q count opened s)) := by
  unfold execWeightLoad
  refine Touches.nextI ?_
  split
  · exact hT
  · extract_lets -merge -underBinder x3 x4 x5
    try clear_value x3
    try clear_value x4
    try clear_value x5
    split
    · refine finishCmd_touches (Touches.inc hm rfl) ?_
      refine Touches.ite ?_ ?_
      · exact incSat_touches (Touches.has hm rfl) hT
      · exact hT
    · extract_lets -merge -underBinder x7
      have hx7 : Touches mm z0 x7 := by
        subst x7
        refine wr_touches (Touches.has hm rfl) ?_
        exact wr_touches (Touches.has hm rfl) hT
      try clear_value x7
      refine Touches.ite ?_ ?_
      · refine finishCmd_touches (Touches.inc hm rfl) ?_
        refine Touches.ite ?_ ?_
        · exact dropWeightKey_touches (Touches.inc hm rfl) hx7
        · exact hx7
      · refine pushXfer_touches (Touches.inc hm rfl) ?_
        exact setBusy_touches (Touches.inc hm rfl) hx7

theorem execGroupKeyGen_touches {w : Writer} {s : State} {d0 : State} (hm : 0xFFFFFFFF00070814 &&& mm = 0xFFFFFFFF00070814)
    (hd : Touches mm z0 d0) (hT : Touches mm z0 s) :
    Touches mm z0 (Touches.outS d0 (execGroupKeyGen w s)) := by
  unfold execGroupKeyGen
  refine Touches.nextI ?_
  refine regWrite_touches (Touches.inc hm rfl) (fun u0 u1 hu => ?_) ?_
  · revert hu u1 u0
    intro bu0 u0_0 hu0
    beta_reduce
    extract_lets -merge -underBinder x2
    have hx2 : Touches mm bu0 x2 := by
      subst x2
      refine useFree_touches (Touches.inc hm rfl) ?_
      exact setGroupKey_touches (Touches.inc hm rfl) hu0
    try clear_value x2
    refine Touches.ite ?_ ?_
    · exact refuseWrite_touches (Touches.has hm rfl) hu0
    · refine Touches.ite ?_ ?_
      · exact sendGroupKey_touches (Touches.inc hm rfl) hx2
      · exact hx2
  · exact hT

theorem execGroupKeyDistribution_touches {src : ℕ} {id : List ℕ} {key : ℕ} {opened : Bool} {s : State} {d0 : State}
    (hm : 0x182000000070010 &&& mm = 0x182000000070010) (hd : Touches mm z0 d0) (hT : Touches mm z0 s) :
    Touches mm z0 (Touches.outS d0 (execGroupKeyDistribution src id key opened s)) := by
  unfold execGroupKeyDistribution
  refine Touches.nextI ?_
  refine Touches.ite ?_ ?_
  · exact hT
  · exact setGroupKey_touches (Touches.inc hm rfl) hT

theorem execTenantRetire_touches {q : ℕ} {s : State} {d0 : State} (hm : 0xFFFFFFFF0107AF94 &&& mm = 0xFFFFFFFF0107AF94)
    (hd : Touches mm z0 d0) (hT : Touches mm z0 s) :
    Touches mm z0 (Touches.outS d0 (execTenantRetire q s)) := by
  unfold execTenantRetire
  refine Touches.nextI ?_
  split
  · exact hT
  · extract_lets -merge -underBinder x1
    try clear_value x1
    refine Touches.ite ?_ ?_
    · exact finishCmd_touches (Touches.inc hm rfl) hT
    · refine Touches.ite ?_ ?_
      · exact finishCmd_touches (Touches.inc hm rfl) hT
      · refine beginRetire_touches (Touches.inc hm rfl) ?_
        exact setBusy_touches (Touches.inc hm rfl) hT

theorem execDrainWaitExpiry_touches {t : ℕ} {cut : List (ℕ × List Byte)} {s : State} {d0 : State}
    (hm : 0xFFFFFFFF00078F95 &&& mm = 0xFFFFFFFF00078F95) (hd : Touches mm z0 d0) (hT : Touches mm z0 s) :
    Touches mm z0 (Touches.outS d0 (execDrainWaitExpiry t cut s)) := by
  unfold execDrainWaitExpiry
  refine Touches.nextI ?_
  split
  · exact hT
  · extract_lets -merge -underBinder x5 x6 x7 x8 src9
    have hx5 : Touches mm z0 x5 := by
      subst x5
      refine modRetiring_touches (Touches.inc hm rfl) ?_
      exact reachTime_touches (Touches.inc hm rfl) hT
    try clear_value x5
    have hx6 : Touches mm z0 x6 := by
      subst x6
      exact stopXfers_touches (Touches.inc hm rfl) hx5
    try clear_value x6
    have hx7 : Touches mm z0 x7 := by
      subst x7
      refine Touches.foldl ?_ (fun u x => ?_)
      · exact hx6
      · revert x u; intro u10 y
        beta_reduce
        split
        · extract_lets -merge -underBinder x13 src14
          have hx13 : Touches mm u10 x13 := by
            subst x13
            exact abortCopy_touches (Touches.inc hm rfl) (Touches.refl mm _)
          try clear_value x13
          refine Touches.ite ?_ ?_
          · exact Touches.links (Touches.has hm rfl) hx13
          · refine Touches.ite ?_ ?_
            · exact endPeer_touches (Touches.inc hm rfl) (Touches.refl mm _)
            · exact Touches.refl mm _
        · exact Touches.refl mm _
    try clear_value x7
    have hx8 : Touches mm z0 x8 := by
      subst x8
      exact stopVideo_touches (Touches.inc hm rfl) hx7
    try clear_value x8
    refine Touches.ite ?_ ?_
    · exact hT
    · exact Touches.kv (Touches.has hm rfl) hx8

theorem atFence_touches {s : State} {t : ℕ} (hm : 0xFFFFFFFF02078D94 &&& mm = 0xFFFFFFFF02078D94) (hT : Touches mm z0 s) :
    Touches mm z0 (atFence s t) := by
  unfold atFence
  extract_lets -merge -underBinder x6 x7 x8 x9 src10 x11
  have hx6 : Touches mm z0 x6 := by
    subst x6
    refine Touches.foldl ?_ (fun u x => ?_)
    · exact hT
    · revert x u; intro u12 y
      beta_reduce
      refine Touches.foldl ?_ (fun u x => ?_)
      · exact Touches.refl mm _
      · revert x u; intro u13 y
        beta_reduce
        exact deleteQueue_touches (Touches.inc hm rfl) (Touches.refl mm _)
  try clear_value x6
  have hx7 : Touches mm z0 x7 := by
    subst x7
    refine Touches.foldl ?_ (fun u x => ?_)
    · exact hx6
    · revert x u; intro u14 y
      beta_reduce
      refine Touches.ite ?_ ?_
      · refine Touches.foldl ?_ (fun u x => ?_)
        · exact setSlot_touches (Touches.inc hm rfl) (Touches.refl mm _)
        · revert x u; intro u15 y
          beta_reduce
          exact finishCmd_touches (Touches.inc hm rfl) (Touches.refl mm _)
      · exact Touches.refl mm _
  try clear_value x7
  have hx8 : Touches mm z0 x8 := by
    subst x8
    refine freeVideo_touches (Touches.inc hm rfl) ?_
    exact dropTenantKeys_touches (Touches.inc hm rfl) hx7
  try clear_value x8
  try clear_value x9
  have hx11 : Touches mm z0 x11 := by
    subst x11
    exact Touches.security (Touches.has hm rfl) hx8
  try clear_value x11
  refine wr_touches (Touches.has hm rfl) ?_
  exact modRetiring_touches (Touches.inc hm rfl) hx11

theorem execDrainFence_touches {t : ℕ} {s : State} {d0 : State} (hm : 0xFFFFFFFF02078D94 &&& mm = 0xFFFFFFFF02078D94)
    (hd : Touches mm z0 d0) (hT : Touches mm z0 s) :
    Touches mm z0 (Touches.outS d0 (execDrainFence t s)) := by
  unfold execDrainFence
  refine Touches.nextI ?_
  refine Touches.ite ?_ ?_
  · exact atFence_touches (Touches.inc hm rfl) hT
  · exact hT

theorem scrubPartition_touches {s : State} {p : ℕ} (hm : 0x1C10000 &&& mm = 0x1C10000) (hT : Touches mm z0 s) :
    Touches mm z0 (scrubPartition s p) := by
  unfold scrubPartition
  extract_lets -merge -underBinder x3 x4 src5
  have hx3 : Touches mm z0 x3 := by
    subst x3
    refine Touches.foldl ?_ (fun u x => ?_)
    · exact hT
    · revert x u; intro u6 y
      beta_reduce
      exact setCell_touches (Touches.inc hm rfl) (Touches.refl mm _)
  try clear_value x3
  have hx4 : Touches mm z0 x4 := by
    subst x4
    refine Touches.foldl ?_ (fun u x => ?_)
    · exact hx3
    · revert x u; intro u7 y
      beta_reduce
      exact setPipe_touches (Touches.inc hm rfl) (Touches.refl mm _)
  try clear_value x4
  refine clearResident_touches (Touches.inc hm rfl) ?_
  exact Touches.security (Touches.has hm rfl) hx4

theorem scrubFrames_touches {s : State} {t : ℕ} (hm : 0x380 &&& mm = 0x380) (hT : Touches mm z0 s) :
    Touches mm z0 (scrubFrames s t) := by
  unfold scrubFrames
  extract_lets -merge -underBinder x2 x3
  try clear_value x2
  have hx3 : Touches mm z0 x3 := by
    subst x3
    refine Touches.foldl ?_ (fun u x => ?_)
    · exact hT
    · revert x u; intro u4 y
      beta_reduce
      refine setFrame_touches (Touches.inc hm rfl) ?_
      exact memZero_touches (Touches.has hm rfl) (Touches.has hm rfl) (Touches.refl mm _)
  try clear_value x3
  refine Touches.foldl ?_ (fun u x => ?_)
  · exact hx3
  · revert x u; intro u5 y
    beta_reduce
    refine Touches.ite ?_ ?_
    · exact setSeq_touches (Touches.inc hm rfl) (Touches.refl mm _)
    · exact Touches.refl mm _

theorem execRetirementScrubDone_touches {t : ℕ} {s : State} {d0 : State} (hm : 0xFFFFFFFF01C72F90 &&& mm = 0xFFFFFFFF01C72F90)
    (hd : Touches mm z0 d0) (hT : Touches mm z0 s) :
    Touches mm z0 (Touches.outS d0 (execRetirementScrubDone t s)) := by
  unfold execRetirementScrubDone
  refine Touches.nextI ?_
  split
  · exact hT
  · extract_lets -merge -underBinder x8 x9 x10 src11 x12 x13 x14 x15
    try clear_value x8
    have hx9 : Touches mm z0 x9 := by
      subst x9
      refine scrubFrames_touches (Touches.inc hm rfl) ?_
      refine Touches.foldl ?_ (fun u x => ?_)
      · exact hT
      · revert x u; intro u16 y
        beta_reduce
        exact scrubPartition_touches (Touches.inc hm rfl) (Touches.refl mm _)
    try clear_value x9
    have hx10 : Touches mm z0 x10 := by
      subst x10
      refine Touches.foldl ?_ (fun u x => ?_)
      · exact hx9
      · revert x u; intro u17 y
        beta_reduce
        refine wr_touches (Touches.has hm rfl) ?_
        refine wr_touches (Touches.has hm rfl) ?_
        exact memZero_touches (Touches.has hm rfl) (Touches.has hm rfl) (Touches.refl mm _)
    try clear_value x10
    have hx12 : Touches mm z0 x12 := by
      subst x12
      exact Touches.security (Touches.has hm rfl) hx10
    try clear_value x12
    have hx13 : Touches mm z0 x13 := by
      subst x13
      exact memZero_touches (Touches.has hm rfl) (Touches.has hm rfl) hx12
    try clear_value x13
    have hx14 : Touches mm z0 x14 := by
      subst x14
      refine Touches.foldl ?_ (fun u x => ?_)
      · exact resetTenant_touches (Touches.inc hm rfl) hx13
      · revert x u; intro u18 y
        beta_reduce
        refine wr_touches (Touches.has hm rfl) ?_
        exact wr_touches (Touches.has hm rfl) (Touches.refl mm _)
    try clear_value x14
    have hx15 : Touches mm z0 x15 := by
      subst x15
      refine incSat_touches (Touches.has hm rfl) ?_
      refine irqEvent_touches (Touches.inc hm rfl) (Touches.has hm rfl) ?_
      exact freeTenant_touches (Touches.inc hm rfl) hx14
    try clear_value x15
    refine Touches.ite ?_ ?_
    · exact hT
    · split
      · exact finishCmd_touches (Touches.inc hm rfl) hx15
      · exact hx15

theorem answer_touches {s : State} {req : ℕ} {l : List ℕ} (hm : 0x40000 &&& mm = 0x40000) (hT : Touches mm z0 s) :
    Touches mm z0 (answer s req l) := by
  unfold answer
  exact emit_touches (Touches.has hm rfl) hT

theorem execGetVersion_touches {s : State} {d0 : State} (hm : 0x40000 &&& mm = 0x40000) (hd : Touches mm z0 d0)
    (hT : Touches mm z0 s) :
    Touches mm z0 (Touches.outS d0 (execGetVersion s)) := by
  unfold execGetVersion
  refine Touches.nextI ?_
  exact answer_touches (Touches.inc hm rfl) hT

theorem execGetCapabilities_touches {s : State} {d0 : State} (hm : 0x40000 &&& mm = 0x40000) (hd : Touches mm z0 d0)
    (hT : Touches mm z0 s) :
    Touches mm z0 (Touches.outS d0 (execGetCapabilities s)) := by
  unfold execGetCapabilities
  refine Touches.nextI ?_
  exact answer_touches (Touches.inc hm rfl) hT

theorem execNegotiateAlgorithms_touches {s : State} {d0 : State} (hm : 0x40000 &&& mm = 0x40000) (hd : Touches mm z0 d0)
    (hT : Touches mm z0 s) :
    Touches mm z0 (Touches.outS d0 (execNegotiateAlgorithms s)) := by
  unfold execNegotiateAlgorithms
  refine Touches.nextI ?_
  exact answer_touches (Touches.inc hm rfl) hT

theorem execGetDigests_touches {s : State} {d0 : State} (hm : 0x40004 &&& mm = 0x40004) (hd : Touches mm z0 d0)
    (hT : Touches mm z0 s) :
    Touches mm z0 (Touches.outS d0 (execGetDigests s)) := by
  unfold execGetDigests
  refine Touches.nextI ?_
  refine useFree_touches (Touches.inc hm rfl) ?_
  exact answer_touches (Touches.inc hm rfl) hT

theorem execGetCertificate_touches {certSlot : ℕ} {off : ℕ} {n : ℕ} {s : State} {d0 : State} (hm : 0x40004 &&& mm = 0x40004)
    (hd : Touches mm z0 d0) (hT : Touches mm z0 s) :
    Touches mm z0 (Touches.outS d0 (execGetCertificate certSlot off n s)) := by
  unfold execGetCertificate
  refine Touches.nextI ?_
  refine Touches.ite ?_ ?_
  · exact answer_touches (Touches.inc hm rfl) hT
  · refine useFree_touches (Touches.inc hm rfl) ?_
    exact answer_touches (Touches.inc hm rfl) hT

theorem execChallenge_touches {nonce : List Byte} {s : State} {d0 : State} (hm : 0x40004 &&& mm = 0x40004)
    (hd : Touches mm z0 d0) (hT : Touches mm z0 s) :
    Touches mm z0 (Touches.outS d0 (execChallenge nonce s)) := by
  unfold execChallenge
  refine Touches.nextI ?_
  refine useFree_touches (Touches.inc hm rfl) ?_
  exact answer_touches (Touches.inc hm rfl) hT

theorem execGetMeasurements_touches {index : ℕ} {signed : Bool} {s : State} {d0 : State} (hm : 0x40004 &&& mm = 0x40004)
    (hd : Touches mm z0 d0) (hT : Touches mm z0 s) :
    Touches mm z0 (Touches.outS d0 (execGetMeasurements index signed s)) := by
  unfold execGetMeasurements
  extract_lets -merge -underBinder x2 x3
  try clear_value x2
  try clear_value x3
  refine Touches.nextI ?_
  refine useFree_touches (Touches.inc hm rfl) ?_
  exact answer_touches (Touches.inc hm rfl) hT

theorem modSession_touches {s : State} {sid : ℕ} {f : Session → Session} (hm : 0x10000 &&& mm = 0x10000) (hT : Touches mm z0 s) :
    Touches mm z0 (modSession s sid f) := by
  unfold modSession
  extract_lets -merge -underBinder src1
  exact Touches.security (Touches.has hm rfl) hT

theorem execKeyExchange_touches {s : State} {d0 : State} (hm : 0x50000 &&& mm = 0x50000) (hd : Touches mm z0 d0)
    (hT : Touches mm z0 s) :
    Touches mm z0 (Touches.outS d0 (execKeyExchange s)) := by
  unfold execKeyExchange
  extract_lets -merge -underBinder x2 src3
  try clear_value x2
  refine Touches.nextI ?_
  refine Touches.ite ?_ ?_
  · exact answer_touches (Touches.inc hm rfl) hT
  · refine answer_touches (Touches.inc hm rfl) ?_
    exact Touches.security (Touches.has hm rfl) hT

theorem execFinish_touches {sid : ℕ} {verified : Bool} {s : State} {d0 : State}
    (hm : 0x2000000050000 &&& mm = 0x2000000050000) (hd : Touches mm z0 d0) (hT : Touches mm z0 s) :
    Touches mm z0 (Touches.outS d0 (execFinish sid verified s)) := by
  unfold execFinish
  extract_lets -merge -underBinder src1
  refine Touches.nextI ?_
  refine Touches.ite ?_ ?_
  · refine Touches.ite ?_ ?_
    · refine answer_touches (Touches.inc hm rfl) ?_
      refine incSat_touches (Touches.has hm rfl) ?_
      exact modSession_touches (Touches.inc hm rfl) hT
    · exact Touches.security (Touches.has hm rfl) hT
  · exact hT

theorem execHeartbeat_touches {sid : ℕ} {s : State} {d0 : State} (hm : 0x40000 &&& mm = 0x40000) (hd : Touches mm z0 d0)
    (hT : Touches mm z0 s) :
    Touches mm z0 (Touches.outS d0 (execHeartbeat sid s)) := by
  unfold execHeartbeat
  refine Touches.nextI ?_
  refine Touches.ite ?_ ?_
  · exact answer_touches (Touches.inc hm rfl) hT
  · exact hT

theorem execKeyUpdate_touches {sid : ℕ} {s : State} {d0 : State} (hm : 0x50000 &&& mm = 0x50000) (hd : Touches mm z0 d0)
    (hT : Touches mm z0 s) :
    Touches mm z0 (Touches.outS d0 (execKeyUpdate sid s)) := by
  unfold execKeyUpdate
  refine Touches.nextI ?_
  refine Touches.ite ?_ ?_
  · refine answer_touches (Touches.inc hm rfl) ?_
    exact modSession_touches (Touches.inc hm rfl) hT
  · exact hT

theorem execEndSession_touches {sid : ℕ} {s : State} {d0 : State} (hm : 0x50000 &&& mm = 0x50000) (hd : Touches mm z0 d0)
    (hT : Touches mm z0 s) :
    Touches mm z0 (Touches.outS d0 (execEndSession sid s)) := by
  unfold execEndSession
  extract_lets -merge -underBinder src1
  refine Touches.nextI ?_
  refine Touches.ite ?_ ?_
  · refine answer_touches (Touches.inc hm rfl) ?_
    exact Touches.security (Touches.has hm rfl) hT
  · exact hT

theorem execChunkSend_touches {bytes : List Byte} {last : Bool} {s : State} {d0 : State} (hm : 0x50000 &&& mm = 0x50000)
    (hd : Touches mm z0 d0) (hT : Touches mm z0 s) :
    Touches mm z0 (Touches.outS d0 (execChunkSend bytes last s)) := by
  unfold execChunkSend
  extract_lets -merge -underBinder src1
  refine Touches.nextI ?_
  refine answer_touches (Touches.inc hm rfl) ?_
  exact Touches.security (Touches.has hm rfl) hT

theorem execChunkGet_touches {n : ℕ} {last : Bool} {s : State} {d0 : State} (hm : 0x50000 &&& mm = 0x50000)
    (hd : Touches mm z0 d0) (hT : Touches mm z0 s) :
    Touches mm z0 (Touches.outS d0 (execChunkGet n last s)) := by
  unfold execChunkGet
  extract_lets -merge -underBinder src1
  refine Touches.nextI ?_
  refine answer_touches (Touches.inc hm rfl) ?_
  exact Touches.security (Touches.has hm rfl) hT

theorem setIde_touches {s : State} {i : ℕ} {x : IdeStream} (hm : 0x400 &&& mm = 0x400) (hT : Touches mm z0 s) :
    Touches mm z0 (setIde s i x) := by
  unfold setIde
  extract_lets -merge -underBinder src1
  exact Touches.host (Touches.has hm rfl) hT

theorem execQuery_touches {sid : ℕ} {s : State} {d0 : State} (hm : 0x40000 &&& mm = 0x40000) (hd : Touches mm z0 d0)
    (hT : Touches mm z0 s) :
    Touches mm z0 (Touches.outS d0 (execQuery sid s)) := by
  unfold execQuery
  refine Touches.nextI ?_
  refine Touches.ite ?_ ?_
  · exact answer_touches (Touches.inc hm rfl) hT
  · exact hT

theorem execKeyProg_touches {sid : ℕ} {stream : ℕ} {set : ℕ} {sub : ℕ} {dir : ℕ} {s : State} {d0 : State}
    (hm : 0x40400 &&& mm = 0x40400) (hd : Touches mm z0 d0) (hT : Touches mm z0 s) :
    Touches mm z0 (Touches.outS d0 (execKeyProg sid stream set sub dir s)) := by
  unfold execKeyProg
  extract_lets -merge -underBinder x1
  try clear_value x1
  refine Touches.nextI ?_
  refine Touches.ite ?_ ?_
  · refine answer_touches (Touches.inc hm rfl) ?_
    exact setIde_touches (Touches.inc hm rfl) hT
  · exact hT

theorem execKSetGo_touches {sid : ℕ} {stream : ℕ} {set : ℕ} {s : State} {d0 : State} (hm : 0x8000040400 &&& mm = 0x8000040400)
    (hd : Touches mm z0 d0) (hT : Touches mm z0 s) :
    Touches mm z0 (Touches.outS d0 (execKSetGo sid stream set s)) := by
  unfold execKSetGo
  extract_lets -merge -underBinder x4 x5 x6 x7
  try clear_value x4
  have hx5 : Touches mm z0 x5 := by
    subst x5
    exact setIde_touches (Touches.inc hm rfl) hT
  try clear_value x5
  try clear_value x6
  have hx7 : Touches mm z0 x7 := by
    subst x7
    exact wr_touches (Touches.has hm rfl) hx5
  try clear_value x7
  refine Touches.nextI ?_
  refine Touches.ite ?_ ?_
  · refine answer_touches (Touches.inc hm rfl) ?_
    exact wr_touches (Touches.has hm rfl) hx7
  · exact hT

theorem execKSetStop_touches {sid : ℕ} {stream : ℕ} {set : ℕ} {s : State} {d0 : State}
    (hm : 0x8000040400 &&& mm = 0x8000040400) (hd : Touches mm z0 d0) (hT : Touches mm z0 s) :
    Touches mm z0 (Touches.outS d0 (execKSetStop sid stream set s)) := by
  unfold execKSetStop
  extract_lets -merge -underBinder x3 x4 x5
  try clear_value x3
  have hx4 : Touches mm z0 x4 := by
    subst x4
    exact setIde_touches (Touches.inc hm rfl) hT
  try clear_value x4
  have hx5 : Touches mm z0 x5 := by
    subst x5
    refine Touches.ite ?_ ?_
    · exact wr_touches (Touches.has hm rfl) hx4
    · exact hx4
  try clear_value x5
  refine Touches.nextI ?_
  refine Touches.ite ?_ ?_
  · exact answer_touches (Touches.inc hm rfl) hx5
  · exact hT

theorem clearNonce_touches {s : State} (hm : 0x2000000010000 &&& mm = 0x2000000010000) (hT : Touches mm z0 s) :
    Touches mm z0 (clearNonce s) := by
  unfold clearNonce
  extract_lets -merge -underBinder src1
  refine Touches.foldl ?_ (fun u x => ?_)
  · exact Touches.security (Touches.has hm rfl) hT
  · revert x u; intro u2 y
    beta_reduce
    exact wr_touches (show Nat.testBit _ (32 + 17 % 32) = true from Touches.has hm rfl) (Touches.refl mm _)

theorem execNewNonce_touches {w : Writer} {s : State} {d0 : State} (hm : 0xFFFFFFFF00070014 &&& mm = 0xFFFFFFFF00070014)
    (hd : Touches mm z0 d0) (hT : Touches mm z0 s) :
    Touches mm z0 (Touches.outS d0 (execNewNonce w s)) := by
  unfold execNewNonce
  refine Touches.nextI ?_
  refine regWrite_touches (Touches.inc hm rfl) (fun u0 u1 hu => ?_) ?_
  · revert hu u1 u0
    intro bu0 u0_0 hu0
    beta_reduce
    extract_lets -merge -underBinder x3 src4
    have hx3 : Touches mm bu0 x3 := by
      subst x3
      refine Touches.foldl ?_ (fun u x => ?_)
      · exact hu0
      · revert x u; intro u5 y
        beta_reduce
        exact wr_touches (show Nat.testBit _ (32 + 17 % 32) = true from Touches.has hm rfl) (Touches.refl mm _)
    try clear_value x3
    refine useFree_touches (Touches.inc hm rfl) ?_
    exact Touches.security (Touches.has hm rfl) hx3
  · exact hT

theorem execNonceExpiry_touches {s : State} {d0 : State} (hm : 0x2000000010001 &&& mm = 0x2000000010001)
    (hd : Touches mm z0 d0) (hT : Touches mm z0 s) :
    Touches mm z0 (Touches.outS d0 (execNonceExpiry s)) := by
  unfold execNonceExpiry
  refine Touches.nextI ?_
  split
  · refine clearNonce_touches (Touches.inc hm rfl) ?_
    exact reachTime_touches (Touches.inc hm rfl) hT
  · exact hT

theorem beginUnlock_touches {s : State} {scope : ℕ} (hm : 0xFFFFFFFF0107AF94 &&& mm = 0xFFFFFFFF0107AF94) (hT : Touches mm z0 s) :
    Touches mm z0 (beginUnlock s scope) := by
  unfold beginUnlock
  extract_lets -merge -underBinder src2 x3
  have hx3 : Touches mm z0 x3 := by
    subst x3
    refine wr_touches (Touches.has hm rfl) ?_
    exact Touches.security (Touches.has hm rfl) hT
  try clear_value x3
  refine Touches.foldl ?_ (fun u x => ?_)
  · exact hx3
  · revert x u; intro u4 y
    beta_reduce
    exact beginRetire_touches (Touches.inc hm rfl) (Touches.refl mm _)

theorem execUnlockSubmit_touches {token : Option (List Byte)} {digest : List ℕ} {sigOk : Bool} {s : State} {d0 : State}
    (hm : 0xFFFFFFFF0107AF94 &&& mm = 0xFFFFFFFF0107AF94) (hd : Touches mm z0 d0) (hT : Touches mm z0 s) :
    Touches mm z0 (Touches.outS d0 (execUnlockSubmit token digest sigOk s)) := by
  unfold execUnlockSubmit
  extract_lets -merge -underBinder x5 x6 x7 x8 x9
  try clear_value x5
  try clear_value x6
  have hx7 : Touches mm z0 x7 := by
    subst x7
    exact clearNonce_touches (Touches.inc hm rfl) hT
  try clear_value x7
  have hx8 : Touches mm z0 x8 := by
    subst x8
    exact wr_touches (Touches.has hm rfl) hx7
  try clear_value x8
  have hx9 : Touches mm z0 x9 := by
    subst x9
    exact wr_touches (Touches.has hm rfl) hx7
  try clear_value x9
  refine Touches.nextI ?_
  refine Touches.ite ?_ ?_
  · refine Touches.ite ?_ ?_
    · exact hx8
    · exact beginUnlock_touches (Touches.inc hm rfl) hx8
  · refine raiseIrq_touches (Touches.has hm rfl) (Touches.has hm rfl) ?_
    refine incSat_touches (Touches.has hm rfl) ?_
    exact statusEvent_touches (Touches.inc hm rfl) hx9

theorem destroyKeys_touches {s : State} (hm : 0x983EA8000075F90 &&& mm = 0x983EA8000075F90) (hT : Touches mm z0 s) :
    Touches mm z0 (destroyKeys s) := by
  unfold destroyKeys
  extract_lets -merge -underBinder x4 x5 x6 src7
  have hx4 : Touches mm z0 x4 := by
    subst x4
    refine Touches.foldl ?_ (fun u x => ?_)
    · exact hT
    · revert x u; intro u8 y
      beta_reduce
      exact dropTenantKeys_touches (Touches.inc hm rfl) (Touches.refl mm _)
  try clear_value x4
  have hx5 : Touches mm z0 x5 := by
    subst x5
    refine Touches.foldl ?_ (fun u x => ?_)
    · exact hx4
    · revert x u; intro u9 y
      beta_reduce
      exact portDown_touches (Touches.inc hm rfl) (Touches.refl mm _)
  try clear_value x5
  have hx6 : Touches mm z0 x6 := by
    subst x6
    refine Touches.foldl ?_ (fun u x => ?_)
    · exact wr_touches (Touches.has hm rfl) hx5
    · revert x u; intro u10 y
      beta_reduce
      exact wr_touches (show Nat.testBit _ (32 + 17 % 32) = true from Touches.has hm rfl) (Touches.refl mm _)
  try clear_value x6
  refine ideInsecure_touches (Touches.inc hm rfl) ?_
  exact Touches.security (Touches.has hm rfl) hx6

theorem eraseStores_touches {s : State} (hm : 0x182080800C70394 &&& mm = 0x182080800C70394) (hT : Touches mm z0 s) :
    Touches mm z0 (eraseStores s) := by
  unfold eraseStores
  extract_lets -merge -underBinder src6 x7 x8 src9 src10 x11
  have hx7 : Touches mm z0 x7 := by
    subst x7
    refine garbleMemory_touches (Touches.has hm rfl) (Touches.has hm rfl) (Touches.has hm rfl) ?_
    exact upd_comb_cells_comb_pipes (Touches.has hm rfl) (Touches.has hm rfl) hT
  try clear_value x7
  have hx8 : Touches mm z0 x8 := by
    subst x8
    refine Touches.foldl ?_ (fun u x => ?_)
    · exact hx7
    · revert x u; intro u12 y
      beta_reduce
      refine wr_touches (Touches.has hm rfl) ?_
      exact wr_touches (Touches.has hm rfl) (Touches.refl mm _)
  try clear_value x8
  have hx11 : Touches mm z0 x11 := by
    subst x11
    exact upd_kv_security (Touches.has hm rfl) (Touches.has hm rfl) hx8
  try clear_value x11
  refine Touches.foldl ?_ (fun u x => ?_)
  · exact hx11
  · revert x u; intro u13 y
    beta_reduce
    refine kvSync_touches (Touches.inc hm rfl) ?_
    refine Touches.ite ?_ ?_
    · exact freeTenant_touches (Touches.inc hm rfl) (Touches.refl mm _)
    · exact Touches.refl mm _

theorem execUnlockEraseDone_touches {s : State} {d0 : State} (hm : 0x983EA8800C75FB4 &&& mm = 0x983EA8800C75FB4)
    (hd : Touches mm z0 d0) (hT : Touches mm z0 s) :
    Touches mm z0 (Touches.outS d0 (execUnlockEraseDone s)) := by
  unfold execUnlockEraseDone
  extract_lets -merge -underBinder x6 x7 src8 x9 x10 x11
  try clear_value x6
  have hx7 : Touches mm z0 x7 := by
    subst x7
    refine eraseStores_touches (Touches.inc hm rfl) ?_
    exact destroyKeys_touches (Touches.inc hm rfl) hT
  try clear_value x7
  have hx9 : Touches mm z0 x9 := by
    subst x9
    exact Touches.security (Touches.has hm rfl) hx7
  try clear_value x9
  have hx10 : Touches mm z0 x10 := by
    subst x10
    refine wr_touches (Touches.has hm rfl) ?_
    refine wr_touches (Touches.has hm rfl) ?_
    exact wr_touches (Touches.has hm rfl) hx9
  try clear_value x10
  have hx11 : Touches mm z0 x11 := by
    subst x11
    refine setDom_touches (Touches.inc hm rfl) ?_
    exact irqEvent_touches (Touches.inc hm rfl) (Touches.has hm rfl) hx10
  try clear_value x11
  refine Touches.nextI ?_
  refine Touches.ite ?_ ?_
  · exact hT
  · refine Touches.foldl ?_ (fun u x => ?_)
    · exact hx11
    · revert x u; intro u12 y
      beta_reduce
      exact finishCmd_touches (Touches.inc hm rfl) (Touches.refl mm _)

theorem execOpkeyCommit_touches {w : Writer} {s : State} {d0 : State} (hm : 0xFFFFFFFF00070014 &&& mm = 0xFFFFFFFF00070014)
    (hd : Touches mm z0 d0) (hT : Touches mm z0 s) :
    Touches mm z0 (Touches.outS d0 (execOpkeyCommit w s)) := by
  unfold execOpkeyCommit
  refine Touches.nextI ?_
  refine regWrite_touches (Touches.inc hm rfl) (fun u0 u1 hu => ?_) ?_
  · revert hu u1 u0
    intro bu0 u0_0 hu0
    beta_reduce
    extract_lets -merge -underBinder x4 src5 x6
    try clear_value x4
    have hx6 : Touches mm bu0 x6 := by
      subst x6
      exact Touches.security (Touches.has hm rfl) hu0
    try clear_value x6
    refine incSat_touches (Touches.has hm rfl) ?_
    exact wr_touches (Touches.has hm rfl) hx6
  · exact hT

theorem execDebugOperation_touches {kind : ℕ} {a : ℕ} {n : ℕ} {s : State} {d0 : State} (hm : 0x40000 &&& mm = 0x40000)
    (hd : Touches mm z0 d0) (hT : Touches mm z0 s) :
    Touches mm z0 (Touches.outS d0 (execDebugOperation kind a n s)) := by
  unfold execDebugOperation
  refine Touches.nextI ?_
  refine Touches.ite ?_ ?_
  · exact hT
  · refine Touches.ite ?_ ?_
    · exact emit_touches (Touches.has hm rfl) hT
    · exact hT

end Sys2Proof.Laws
end

