-- ==== Sys2Proof/Laws/FrameServing.lean ====
section
/-!
SUPPORT. What each operation of `Machine/Serving.lean` may touch: the mask names the parts of the state in which its result can
differ from the state it started from.
-/

set_option linter.unusedVariables false
set_option linter.unusedTactic false

namespace Sys2Proof.Laws

open Sys2Proof Sys2Proof.Machine Sys2Proof.Safety

variable {mm : Nat} {z0 : State}

theorem repredict_touches {s : State} {i : ℕ} (hm : 0x9804E8000062F94 &&& mm = 0x9804E8000062F94) (hT : Touches mm z0 s) :
    Touches mm z0 (repredict s i) := by
  unfold repredict
  split
  · exact hT
  · refine Touches.ite ?_ ?_
    · exact hT
    · refine Touches.ite ?_ ?_
      · exact hT
      · refine Touches.ite ?_ ?_
        · refine chargeBudget_touches (Touches.inc hm rfl) ?_
          exact endReq_touches (Touches.inc hm rfl) hT
        · refine Touches.ite ?_ ?_
          · exact hT
          · refine irqEvent_touches (Touches.inc hm rfl) (Touches.has hm rfl) ?_
            refine incSat_touches (Touches.has hm rfl) ?_
            exact setReq_touches (Touches.inc hm rfl) hT

theorem recompute_touches {s : State} {die : ℕ} (hm : 0x9804E8000066F94 &&& mm = 0x9804E8000066F94) (hT : Touches mm z0 s) :
    Touches mm z0 (recompute s die) := by
  unfold recompute
  extract_lets -merge -underBinder src4 x5 x6 x7
  have hx5 : Touches mm z0 x5 := by
    subst x5
    refine tellPace_touches (Touches.inc hm rfl) ?_
    exact Touches.serving (Touches.has hm rfl) hT
  try clear_value x5
  try clear_value x6
  have hx7 : Touches mm z0 x7 := by
    subst x7
    refine Touches.foldl ?_ (fun u x => ?_)
    · exact hx5
    · revert x u; intro u8 y
      beta_reduce
      exact showCycle_touches (Touches.inc hm rfl) (Touches.refl mm _)
  try clear_value x7
  refine Touches.foldl ?_ (fun u x => ?_)
  · exact hx7
  · revert x u; intro u9 y
    beta_reduce
    exact repredict_touches (Touches.inc hm rfl) (Touches.refl mm _)

theorem execRecomputePredictions_touches {die : ℕ} {s : State} {d0 : State}
    (hm : 0x9804E8000066F94 &&& mm = 0x9804E8000066F94) (hd : Touches mm z0 d0) (hT : Touches mm z0 s) :
    Touches mm z0 (Touches.outS d0 (execRecomputePredictions die s)) := by
  unfold execRecomputePredictions
  refine Touches.nextI ?_
  exact recompute_touches (Touches.inc hm rfl) hT

theorem openContexts_touches {s : State} {x : Req} {d0 : State} (hm : 0x180080000060394 &&& mm = 0x180080000060394)
    (hd : Touches mm z0 d0) (hT : Touches mm z0 s) :
    Touches mm z0 (Touches.okS d0 (openContexts s x)) := by
  unfold openContexts
  split
  · exact hd
  · rename_i p0 e1
    have h2 : Touches mm z0 p0 := by
      have e := congrArg (Touches.okS d0) e1
      refine Eq.mp (congrArg (Touches mm z0) e) ?_
      clear e e1
      exact openSeq_touches (Touches.inc hm rfl) hd hT
    refine Touches.iteV (Touches.okS d0) ?_ ?_
    · split
      · exact hd
      · rename_i p3 e4
        have h5 : Touches mm z0 p3 := by
          have e := congrArg (Touches.okS d0) e4
          refine Eq.mp (congrArg (Touches mm z0) e) ?_
          clear e e4
          exact openSeq_touches (Touches.inc hm rfl) hd h2
        exact Touches.okI h5
    · exact Touches.okI h2

theorem refuseReq_touches {s : State} {q : ℕ} {st : Status} (hm : 0x800468000040D80 &&& mm = 0x800468000040D80)
    (hT : Touches mm z0 s) :
    Touches mm z0 (refuseReq s q st) := by
  unfold refuseReq
  refine finishCmd_touches (Touches.inc hm rfl) ?_
  exact incSat_touches (Touches.has hm rfl) hT

theorem admitReq_touches {s : State} {i : ℕ} {x : Req} (hm : 0x9804E8000062F94 &&& mm = 0x9804E8000062F94)
    (hT : Touches mm z0 s) :
    Touches mm z0 (admitReq s i x) := by
  unfold admitReq
  extract_lets -merge -underBinder x1
  have hx1 : Touches mm z0 x1 := by
    subst x1
    exact hT
  try clear_value x1
  refine Touches.ite ?_ ?_
  · exact refuseReq_touches (Touches.inc hm rfl) hT
  · split
    · exact refuseReq_touches (Touches.inc hm rfl) hT
    · rename_i p2 e3
      have h4 : Touches mm z0 p2 := by
        have e := congrArg (Touches.okS z0) e3
        refine Eq.mp (congrArg (Touches mm z0) e) ?_
        clear e e3
        exact openContexts_touches (Touches.inc hm rfl) (Touches.refl mm _) hT
      extract_lets -merge -underBinder x12 x13 x14 x15 src16 x17 x18
      try clear_value x12
      try clear_value x13
      have hx14 : Touches mm z0 x14 := by
        subst x14
        exact chargeBudget_touches (Touches.inc hm rfl) h4
      try clear_value x14
      have hx15 : Touches mm z0 x15 := by
        subst x15
        exact setReq_touches (Touches.inc hm rfl) hx14
      try clear_value x15
      have hx17 : Touches mm z0 x17 := by
        subst x17
        exact Touches.serving (Touches.has hm rfl) hx15
      try clear_value x17
      have hx18 : Touches mm z0 x18 := by
        subst x18
        refine servAction_touches (Touches.inc hm rfl) ?_
        exact incSat_touches (Touches.has hm rfl) hx17
      try clear_value x18
      exact finishCmd_touches (Touches.inc hm rfl) hx18

theorem execRequest_touches {q : ℕ} {desc : List Byte} {prompt : List ℕ} {bad : Option ℕ} {s : State} {d0 : State}
    (hm : 0x9804E8000062F94 &&& mm = 0x9804E8000062F94) (hd : Touches mm z0 d0) (hT : Touches mm z0 s) :
    Touches mm z0 (Touches.outS d0 (execRequest q desc prompt bad s)) := by
  unfold execRequest
  refine Touches.nextI ?_
  split
  · exact hT
  · extract_lets -merge -underBinder x2 x3
    try clear_value x2
    try clear_value x3
    refine Touches.ite ?_ ?_
    · exact hT
    · refine Touches.ite ?_ ?_
      · exact refuseReq_touches (Touches.inc hm rfl) hT
      · split
        · rename_i p4 p5 e6
          have h7 : Touches mm z0 p4 := by
            have e := congrArg Prod.fst e6
            refine Eq.mp (congrArg (Touches mm z0) e) ?_
            clear e e6
            exact sealedRead_touches (Touches.inc hm rfl) hT
          exact finishCmd_touches (Touches.inc hm rfl) h7
        · rename_i p8 e9
          have h10 : Touches mm z0 p8 := by
            have e := congrArg Prod.fst e9
            refine Eq.mp (congrArg (Touches mm z0) e) ?_
            clear e e9
            exact sealedRead_touches (Touches.inc hm rfl) hT
          refine Touches.ite ?_ ?_
          · exact refuseReq_touches (Touches.inc hm rfl) h10
          · refine Touches.ite ?_ ?_
            · exact refuseReq_touches (Touches.inc hm rfl) h10
            · split
              · exact refuseReq_touches (Touches.inc hm rfl) h10
              · extract_lets -merge -underBinder x14 src15 x16
                try clear_value x14
                have hx16 : Touches mm z0 x16 := by
                  subst x16
                  exact Touches.serving (Touches.has hm rfl) h10
                try clear_value x16
                refine Touches.ite ?_ ?_
                · exact admitReq_touches (Touches.inc hm rfl) hx16
                · refine setBusy_touches (Touches.inc hm rfl) ?_
                  exact setReq_touches (Touches.inc hm rfl) hx16

theorem execAdmissionAfterWake_touches {i : ℕ} {s : State} {d0 : State} (hm : 0x9804E8000062F94 &&& mm = 0x9804E8000062F94)
    (hd : Touches mm z0 d0) (hT : Touches mm z0 s) :
    Touches mm z0 (Touches.outS d0 (execAdmissionAfterWake i s)) := by
  unfold execAdmissionAfterWake
  refine Touches.nextI ?_
  split
  · exact hT
  · refine Touches.ite ?_ ?_
    · refine admitReq_touches (Touches.inc hm rfl) ?_
      exact setReq_touches (Touches.inc hm rfl) hT
    · exact hT

theorem execSlotEnable_touches {w : Writer} {v : ℕ} {s : State} {d0 : State}
    (hm : 0xFFFFFFFF00060014 &&& mm = 0xFFFFFFFF00060014) (hd : Touches mm z0 d0) (hT : Touches mm z0 s) :
    Touches mm z0 (Touches.outS d0 (execSlotEnable w v s)) := by
  unfold execSlotEnable
  extract_lets -merge -underBinder x7 x8 x9 x10 x11 x12 x13
  try clear_value x7
  try clear_value x8
  try clear_value x9
  try clear_value x10
  try clear_value x11
  try clear_value x12
  try clear_value x13
  refine Touches.nextI ?_
  refine regWrite_touches (Touches.inc hm rfl) (fun u0 u1 hu => ?_) ?_
  · revert hu u1 u0
    intro bu14 u14_0 hu14
    beta_reduce
    extract_lets -merge -underBinder x16
    have hx16 : Touches mm bu14 x16 := by
      subst x16
      refine wr_touches (Touches.has hm rfl) ?_
      refine wr_touches (Touches.has hm rfl) ?_
      refine wr_touches (Touches.has hm rfl) ?_
      refine wr_touches (Touches.has hm rfl) ?_
      exact wr_touches (Touches.has hm rfl) hu14
    try clear_value x16
    refine Touches.ite ?_ ?_
    · refine Touches.ite ?_ ?_
      · exact refuseWrite_touches (Touches.has hm rfl) hu14
      · exact wr_touches (Touches.has hm rfl) hu14
    · refine Touches.ite ?_ ?_
      · exact refuseWrite_touches (Touches.has hm rfl) hu14
      · refine Touches.ite ?_ ?_
        · exact refuseWrite_touches (Touches.has hm rfl) hu14
        · refine Touches.ite ?_ ?_
          · refine showCycle_touches (Touches.inc hm rfl) ?_
            exact wr_touches (Touches.has hm rfl) hx16
          · exact hx16
  · exact hT

theorem deadlineCheck_touches {s : State} {e : ℕ × Req} (hm : 0x9804E8000062F94 &&& mm = 0x9804E8000062F94)
    (hT : Touches mm z0 s) :
    Touches mm z0 (deadlineCheck s e) := by
  unfold deadlineCheck
  extract_lets -merge -underBinder src1
  refine Touches.ite ?_ ?_
  · exact hT
  · refine Touches.ite ?_ ?_
    · exact endReq_touches (Touches.inc hm rfl) hT
    · exact setReq_touches (Touches.inc hm rfl) hT

theorem growRows_touches {s : State} {k : ℕ} {arg2 : List ℕ} (hm : 0x9804E8000062F94 &&& mm = 0x9804E8000062F94)
    (hT : Touches mm z0 s) :
    Touches mm z0 (growRows s k arg2).1 := by
  unfold growRows
  split
  · exact Touches.mkI hT
  · split
    · exact growRows_touches (Touches.inc hm rfl) hT
    · extract_lets -merge -underBinder x1
      try clear_value x1
      split
      · rename_i p2 e3
        have h4 : Touches mm z0 p2 := by
          have e := congrArg (growS z0) e3
          refine Eq.mp (congrArg (Touches mm z0) e) ?_
          clear e e3
          exact grow_touches (Touches.inc hm rfl) (Touches.refl mm _) hT
        split
        · rename_i p5 p6 e7
          have h8 : Touches mm z0 p5 := by
            have e := congrArg Prod.fst e7
            refine Eq.mp (congrArg (Touches mm z0) e) ?_
            clear e e7
            refine growRows_touches (Touches.inc hm rfl) ?_
            exact servAction_touches (Touches.inc hm rfl) h4
          exact Touches.mkI h8
      · refine growRows_touches (Touches.inc hm rfl) ?_
        refine servAction_touches (Touches.inc hm rfl) ?_
        exact parkSeq_touches (Touches.inc hm rfl) hT
      · refine growRows_touches (Touches.inc hm rfl) ?_
        exact endReq_touches (Touches.inc hm rfl) hT

theorem issueServing_touches {s : State} {wn : ℕ} {x : Work} {ctxs : List ℕ} (hm : 0x1002000 &&& mm = 0x1002000)
    (hT : Touches mm z0 s) :
    Touches mm z0 (issueServing s wn x ctxs) := by
  unfold issueServing
  extract_lets -merge -underBinder x3 src4 x5
  have hx3 : Touches mm z0 x3 := by
    subst x3
    exact setWork_touches (Touches.inc hm rfl) hT
  try clear_value x3
  have hx5 : Touches mm z0 x5 := by
    subst x5
    exact setServSlot_touches (Touches.inc hm rfl) hx3
  try clear_value x5
  exact issueLaunch_touches (Touches.inc hm rfl) hx5

theorem writeRows_touches {s : State} {n : ℕ} {k : ℕ} {io : ℕ} {rows : List ℕ} (hm : 0x180 &&& mm = 0x180)
    (hT : Touches mm z0 s) :
    Touches mm z0 (writeRows s n k io rows) := by
  unfold writeRows
  extract_lets -merge -underBinder x3 x4 x5
  try clear_value x3
  try clear_value x4
  have hx5 : Touches mm z0 x5 := by
    subst x5
    refine Touches.foldl ?_ (fun u x => ?_)
    · exact hT
    · revert x u; intro u6 y
      beta_reduce
      split
      · exact Touches.refl mm _
      · extract_lets -merge -underBinder x9 x10
        try clear_value x9
        try clear_value x10
        refine memWrite_touches (Touches.has hm rfl) (Touches.has hm rfl) ?_
        exact memWrite_touches (Touches.has hm rfl) (Touches.has hm rfl) (Touches.refl mm _)
  try clear_value x5
  refine Touches.foldl ?_ (fun u x => ?_)
  · exact hx5
  · revert x u; intro u11 y
    beta_reduce
    exact memWrite_touches (Touches.has hm rfl) (Touches.has hm rfl) (Touches.refl mm _)

theorem prepareAt_touches {s : State} {n : ℕ} {c : ℕ} (hm : 0x9804E8001062F94 &&& mm = 0x9804E8001062F94) (hT : Touches mm z0 s) :
    Touches mm z0 (prepareAt s n c) := by
  unfold prepareAt
  extract_lets -merge -underBinder x5 x6 src7 x8 x9
  try clear_value x5
  try clear_value x6
  have hx8 : Touches mm z0 x8 := by
    subst x8
    exact setServSlot_touches (Touches.inc hm rfl) hT
  try clear_value x8
  have hx9 : Touches mm z0 x9 := by
    subst x9
    refine Touches.foldl ?_ (fun u x => ?_)
    · exact hx8
    · revert x u; intro u10 y
      beta_reduce
      exact deadlineCheck_touches (Touches.inc hm rfl) (Touches.refl mm _)
  try clear_value x9
  split
  · rename_i p11 p12 e13
    have h14 : Touches mm z0 p11 := by
      have e := congrArg Prod.fst e13
      refine Eq.mp (congrArg (Touches mm z0) e) ?_
      clear e e13
      exact growRows_touches (Touches.inc hm rfl) hx9
    extract_lets -merge -underBinder x18 x19 x20
    try clear_value x18
    try clear_value x19
    try clear_value x20
    split
    · exact h14
    · exact h14
    · extract_lets -merge -underBinder x35 x36 x37 x38 x39 x40 x41 x42 x43 x44 x45 x46 x47 src48
      try clear_value x35
      try clear_value x36
      try clear_value x37
      try clear_value x38
      try clear_value x39
      try clear_value x40
      try clear_value x41
      have hx42 : Touches mm z0 x42 := by
        subst x42
        exact writeRows_touches (Touches.inc hm rfl) h14
      try clear_value x42
      try clear_value x43
      try clear_value x44
      try clear_value x45
      have hx46 : Touches mm z0 x46 := by
        subst x46
        refine Touches.foldl ?_ (fun u x => ?_)
        · exact hx42
        · revert x u; intro u49 y
          beta_reduce
          exact modReq_touches (Touches.inc hm rfl) (Touches.refl mm _)
      try clear_value x46
      have hx47 : Touches mm z0 x47 := by
        subst x47
        exact setServSlot_touches (Touches.inc hm rfl) hx46
      try clear_value x47
      refine issueServing_touches (Touches.inc hm rfl) ?_
      exact Touches.serving (Touches.has hm rfl) hx47

theorem prepareReload_touches {s : State} {n : ℕ} {wn : ℕ} (hm : 0x9804E8001062F94 &&& mm = 0x9804E8001062F94)
    (hT : Touches mm z0 s) :
    Touches mm z0 (prepareReload s n wn) := by
  unfold prepareReload
  split
  · extract_lets -merge -underBinder src1
    exact setServSlot_touches (Touches.inc hm rfl) hT
  · extract_lets -merge -underBinder src3
    refine Touches.ite ?_ ?_
    · refine issueServing_touches (Touches.inc hm rfl) ?_
      exact setServSlot_touches (Touches.inc hm rfl) hT
    · split
      · extract_lets -merge -underBinder src5
        refine faultSlot_touches (Touches.inc hm rfl) ?_
        refine setServSlot_touches (Touches.inc hm rfl) ?_
        exact setWork_touches (Touches.inc hm rfl) hT
      · extract_lets -merge -underBinder x11 x12 src13 x14 src15
        try clear_value x11
        try clear_value x12
        have hx14 : Touches mm z0 x14 := by
          subst x14
          exact setServSlot_touches (Touches.inc hm rfl) hT
        try clear_value x14
        refine issueServing_touches (Touches.inc hm rfl) ?_
        exact Touches.serving (Touches.has hm rfl) hx14

theorem execServingLaunchPrepare_touches {n : ℕ} {s : State} {d0 : State} (hm : 0x9804E8001066F94 &&& mm = 0x9804E8001066F94)
    (hd : Touches mm z0 d0) (hT : Touches mm z0 s) :
    Touches mm z0 (Touches.outS d0 (execServingLaunchPrepare n s)) := by
  unfold execServingLaunchPrepare
  extract_lets -merge -underBinder x2 x3
  have hx2 : Touches mm z0 x2 := by
    subst x2
    refine Touches.foldl ?_ (fun u x => ?_)
    · exact hT
    · revert x u; intro u4 y
      beta_reduce
      exact recompute_touches (Touches.inc hm rfl) (Touches.refl mm _)
  try clear_value x2
  try clear_value x3
  refine Touches.nextI ?_
  refine Touches.ite ?_ ?_
  · exact hx2
  · split
    · exact prepareReload_touches (Touches.inc hm rfl) hx2
    · split
      · exact prepareAt_touches (Touches.inc hm rfl) hx2
      · extract_lets -merge -underBinder x6
        have hx6 : Touches mm z0 x6 := by
          subst x6
          exact setServSlot_touches (Touches.inc hm rfl) hx2
        try clear_value x6
        split
        · exact prepareAt_touches (Touches.inc hm rfl) hx6
        · exact hx6

theorem insertPrompt_touches {s : State} {x : Req} (hm : 0x180100000060190 &&& mm = 0x180100000060190) (hT : Touches mm z0 s) :
    Touches mm z0 (insertPrompt s x) := by
  unfold insertPrompt
  extract_lets -merge -underBinder x1
  try clear_value x1
  refine Touches.ite ?_ ?_
  · exact pfxInsert_touches (Touches.inc hm rfl) hT
  · exact hT

theorem deliverRow_touches {s : State} {w : Work} {i : ℕ} {toks : List (ℕ × Bool)}
    (hm : 0x9804E8000062F94 &&& mm = 0x9804E8000062F94) (hT : Touches mm z0 s) :
    Touches mm z0 (deliverRow s w i toks) := by
  unfold deliverRow
  split
  · exact hT
  · extract_lets -merge -underBinder x2 x3
    try clear_value x2
    try clear_value x3
    exact deliver_touches (Touches.inc hm rfl) hT

theorem rowResult_touches {w : Work} {s : State} {e : ℕ × ℕ} (hm : 0x9805E8000062F94 &&& mm = 0x9805E8000062F94)
    (hT : Touches mm z0 s) :
    Touches mm z0 (rowResult w s e) := by
  unfold rowResult
  split
  · split
    · exact hT
    · extract_lets -merge -underBinder x5 x6 x7 x8 x9
      try clear_value x5
      try clear_value x6
      try clear_value x7
      have hx8 : Touches mm z0 x8 := by
        subst x8
        refine Touches.getD ?_ (fun hd10 => ?_)
        · exact hT
        · exact commitSeq_touches (Touches.inc hm rfl) hd10 hT
      try clear_value x8
      have hx9 : Touches mm z0 x9 := by
        subst x9
        exact setReq_touches (Touches.inc hm rfl) hx8
      try clear_value x9
      split
      · refine Touches.ite ?_ ?_
        · refine deliverRow_touches (Touches.inc hm rfl) ?_
          exact insertPrompt_touches (Touches.inc hm rfl) hx9
        · exact deliverRow_touches (Touches.inc hm rfl) hx9
      · exact deliverRow_touches (Touches.inc hm rfl) hx9
      · exact deliverRow_touches (Touches.inc hm rfl) hx9
      · refine deliverRow_touches (Touches.inc hm rfl) ?_
        exact modReq_touches (Touches.inc hm rfl) hx9
      · split
        · extract_lets -merge -underBinder x15 x16 x17 x18
          have hx15 : Touches mm z0 x15 := by
            subst x15
            refine Touches.getD ?_ (fun hd19 => ?_)
            · exact hx9
            · exact rollbackSeq_touches (Touches.inc hm rfl) hd19 hx9
          try clear_value x15
          have hx16 : Touches mm z0 x16 := by
            subst x16
            refine Touches.getD ?_ (fun hd20 => ?_)
            · exact hx15
            · exact rollbackSeq_touches (Touches.inc hm rfl) hd20 hx15
          try clear_value x16
          have hx17 : Touches mm z0 x17 := by
            subst x17
            refine servAction_touches (Touches.inc hm rfl) ?_
            exact servAction_touches (Touches.inc hm rfl) hx16
          try clear_value x17
          have hx18 : Touches mm z0 x18 := by
            subst x18
            refine addSat_touches (Touches.has hm rfl) ?_
            exact addSat_touches (Touches.has hm rfl) hx17
          try clear_value x18
          refine deliverRow_touches (Touches.inc hm rfl) ?_
          exact modReq_touches (Touches.inc hm rfl) hx18

theorem rowAbandoned_touches {w : Work} {st : Status} {s : State} {e : ℕ × ℕ}
    (hm : 0x9804E8000062F94 &&& mm = 0x9804E8000062F94) (hT : Touches mm z0 s) :
    Touches mm z0 (rowAbandoned w st s e) := by
  unfold rowAbandoned
  split
  · split
    · exact hT
    · extract_lets -merge -underBinder x3 x4 x5
      have hx3 : Touches mm z0 x3 := by
        subst x3
        refine Touches.ite ?_ ?_
        · refine Touches.getD ?_ (fun hd6 => ?_)
          · exact hT
          · exact rollbackSeq_touches (Touches.inc hm rfl) hd6 hT
        · exact hT
      try clear_value x3
      have hx4 : Touches mm z0 x4 := by
        subst x4
        exact servAction_touches (Touches.inc hm rfl) hx3
      try clear_value x4
      have hx5 : Touches mm z0 x5 := by
        subst x5
        exact setReq_touches (Touches.inc hm rfl) hx4
      try clear_value x5
      refine Touches.ite ?_ ?_
      · exact endReq_touches (Touches.inc hm rfl) hx5
      · refine Touches.ite ?_ ?_
        · exact endReq_touches (Touches.inc hm rfl) hx5
        · exact hx5

theorem execServingLaunchResult_touches {wn : ℕ} {s : State} {d0 : State} (hm : 0x9805E8000062F94 &&& mm = 0x9805E8000062F94)
    (hd : Touches mm z0 d0) (hT : Touches mm z0 s) :
    Touches mm z0 (Touches.outS d0 (execServingLaunchResult wn s)) := by
  unfold execServingLaunchResult
  refine Touches.nextI ?_
  split
  · exact hT
  · extract_lets -merge -underBinder src2 x3
    have hx3 : Touches mm z0 x3 := by
      subst x3
      exact setServSlot_touches (Touches.inc hm rfl) hT
    try clear_value x3
    refine Touches.ite ?_ ?_
    · exact hT
    · split
      · extract_lets -merge -underBinder src5
        refine setServSlot_touches (Touches.inc hm rfl) ?_
        exact setWork_touches (Touches.inc hm rfl) hx3
      · extract_lets -merge -underBinder x7
        have hx7 : Touches mm z0 x7 := by
          subst x7
          exact setWork_touches (Touches.inc hm rfl) hx3
        try clear_value x7
        split
        · exact faultSlot_touches (Touches.inc hm rfl) hx7
        · refine Touches.foldl ?_ (fun u x => ?_)
          · exact hx7
          · revert x u; intro u8 y
            beta_reduce
            exact endReq_touches (Touches.inc hm rfl) (Touches.refl mm _)
        · extract_lets -merge -underBinder x10
          have hx10 : Touches mm z0 x10 := by
            subst x10
            refine Touches.foldl ?_ (fun u x => ?_)
            · exact hx7
            · revert x u; intro u11 y
              beta_reduce
              exact modReq_touches (Touches.inc hm rfl) (Touches.refl mm _)
          try clear_value x10
          refine Touches.foldl ?_ (fun u x => ?_)
          · exact hx10
          · revert x u; intro u12 y
            beta_reduce
            split
            · refine Touches.ite ?_ ?_
              · exact endReq_touches (Touches.inc hm rfl) (Touches.refl mm _)
              · exact Touches.refl mm _
            · exact Touches.refl mm _
        · extract_lets -merge -underBinder x14
          have hx14 : Touches mm z0 x14 := by
            subst x14
            refine Touches.foldl ?_ (fun u x => ?_)
            · exact hx7
            · revert x u; intro u15 y
              beta_reduce
              exact modReq_touches (Touches.inc hm rfl) (Touches.refl mm _)
          try clear_value x14
          refine Touches.foldl ?_ (fun u x => ?_)
          · exact hx14
          · revert x u; intro u16 y
            beta_reduce
            split
            · refine Touches.ite ?_ ?_
              · exact endReq_touches (Touches.inc hm rfl) (Touches.refl mm _)
              · exact Touches.refl mm _
            · exact Touches.refl mm _
        · extract_lets -merge -underBinder x18
          have hx18 : Touches mm z0 x18 := by
            subst x18
            refine irqEvent_touches (Touches.inc hm rfl) (Touches.has hm rfl) ?_
            exact incSat_touches (Touches.has hm rfl) hx7
          try clear_value x18
          refine Touches.foldl ?_ (fun u x => ?_)
          · exact hx18
          · revert x u; intro u19 y
            beta_reduce
            exact rowAbandoned_touches (Touches.inc hm rfl) (Touches.refl mm _)
      · refine Touches.foldl ?_ (fun u x => ?_)
        · exact setWork_touches (Touches.inc hm rfl) hx3
        · revert x u; intro u20 y
          beta_reduce
          exact rowResult_touches (Touches.inc hm rfl) (Touches.refl mm _)

theorem execPrefixLookup_touches {i : ℕ} {s : State} {d0 : State} (hm : 0x180180000062B94 &&& mm = 0x180180000062B94)
    (hd : Touches mm z0 d0) (hT : Touches mm z0 s) :
    Touches mm z0 (Touches.outS d0 (execPrefixLookup i s)) := by
  unfold execPrefixLookup
  refine Touches.nextI ?_
  split
  · exact hT
  · extract_lets -merge -underBinder x5 x6 x7 x8 x9
    try clear_value x5
    try clear_value x6
    try clear_value x7
    try clear_value x8
    try clear_value x9
    refine Touches.ite ?_ ?_
    · exact hT
    · refine Touches.ite ?_ ?_
      · refine setReq_touches (Touches.inc hm rfl) ?_
        exact incSat_touches (Touches.has hm rfl) hT
      · split
        · refine servAction_touches (Touches.inc hm rfl) ?_
          exact parkSeq_touches (Touches.inc hm rfl) hT
        · refine setReq_touches (Touches.inc hm rfl) ?_
          exact incSat_touches (Touches.has hm rfl) hT
        · rename_i p10 e11
          have h12 : Touches mm z0 p10 := by
            have e := congrArg (growS d0) e11
            refine Eq.mp (congrArg (Touches mm z0) e) ?_
            clear e e11
            exact grow_touches (Touches.inc hm rfl) hd hT
          extract_lets -merge -underBinder x20 x21 src22 x23 src24 x25 x26
          have hx20 : Touches mm z0 x20 := by
            subst x20
            refine addSat_touches (Touches.has hm rfl) ?_
            refine incSat_touches (Touches.has hm rfl) ?_
            exact incSat_touches (Touches.has hm rfl) h12
          try clear_value x20
          have hx21 : Touches mm z0 x21 := by
            subst x21
            refine Touches.foldl ?_ (fun u x => ?_)
            · exact hx20
            · revert x u; intro u27 y
              beta_reduce
              exact pfxSet_touches (Touches.inc hm rfl) (Touches.refl mm _)
          try clear_value x21
          have hx23 : Touches mm z0 x23 := by
            subst x23
            exact setSeq_touches (Touches.inc hm rfl) hx21
          try clear_value x23
          have hx25 : Touches mm z0 x25 := by
            subst x25
            exact Touches.kv (Touches.has hm rfl) hx23
          try clear_value x25
          have hx26 : Touches mm z0 x26 := by
            subst x26
            exact servAction_touches (Touches.inc hm rfl) hx25
          try clear_value x26
          exact setReq_touches (Touches.inc hm rfl) hx26

theorem execCancel_touches {q : ℕ} {s : State} {d0 : State} (hm : 0x9804E8000062F94 &&& mm = 0x9804E8000062F94)
    (hd : Touches mm z0 d0) (hT : Touches mm z0 s) :
    Touches mm z0 (Touches.outS d0 (execCancel q s)) := by
  unfold execCancel
  refine Touches.nextI ?_
  split
  · exact hT
  · extract_lets -merge -underBinder x3 x4 x5
    try clear_value x3
    try clear_value x4
    try clear_value x5
    refine Touches.ite ?_ ?_
    · exact finishCmd_touches (Touches.inc hm rfl) hT
    · split
      · extract_lets -merge -underBinder x7
        have hx7 : Touches mm z0 x7 := by
          subst x7
          refine setBusy_touches (Touches.inc hm rfl) ?_
          exact setReq_touches (Touches.inc hm rfl) hT
        try clear_value x7
        refine Touches.ite ?_ ?_
        · exact finishCmd_touches (Touches.inc hm rfl) hT
        · refine Touches.ite ?_ ?_
          · exact finishCmd_touches (Touches.inc hm rfl) hT
          · refine Touches.ite ?_ ?_
            · exact endReq_touches (Touches.inc hm rfl) hx7
            · exact hx7
      · refine Touches.ite ?_ ?_
        · exact finishCmd_touches (Touches.inc hm rfl) hT
        · split
          · refine Touches.ite ?_ ?_
            · exact finishCmd_touches (Touches.inc hm rfl) hT
            · exact finishCmd_touches (Touches.inc hm rfl) hT
          · exact finishCmd_touches (Touches.inc hm rfl) hT

theorem execBurstWrite_touches {w : Writer} {v : ℕ} {s : State} {d0 : State}
    (hm : 0xFFFFFFFF00062014 &&& mm = 0xFFFFFFFF00062014) (hd : Touches mm z0 d0) (hT : Touches mm z0 s) :
    Touches mm z0 (Touches.outS d0 (execBurstWrite w v s)) := by
  unfold execBurstWrite
  refine Touches.nextI ?_
  refine regWrite_touches (Touches.inc hm rfl) (fun u0 u1 hu => ?_) ?_
  · revert hu u1 u0
    intro bu0 u0_0 hu0
    beta_reduce
    extract_lets -merge -underBinder x3 x4
    try clear_value x3
    have hx4 : Touches mm bu0 x4 := by
      subst x4
      exact wr_touches (Touches.has hm rfl) hu0
    try clear_value x4
    exact setBudget_touches (Touches.inc hm rfl) hx4
  · exact hT

theorem execPfxTenWrite_touches {w : Writer} {nodes : Bool} {v : ℕ} {s : State} {d0 : State}
    (hm : 0xFFFFFFFF00060194 &&& mm = 0xFFFFFFFF00060194) (hd : Touches mm z0 d0) (hT : Touches mm z0 s) :
    Touches mm z0 (Touches.outS d0 (execPfxTenWrite w nodes v s)) := by
  unfold execPfxTenWrite
  extract_lets -merge -underBinder x1
  try clear_value x1
  refine Touches.nextI ?_
  refine regWrite_touches (Touches.inc hm rfl) (fun u0 u1 hu => ?_) ?_
  · revert hu u1 u0
    intro bu2 u2_0 hu2
    beta_reduce
    extract_lets -merge -underBinder x4
    try clear_value x4
    refine Touches.ite ?_ ?_
    · exact refuseWrite_touches (Touches.has hm rfl) hu2
    · refine Touches.ite ?_ ?_
      · exact refuseWrite_touches (Touches.has hm rfl) hu2
      · refine pfxClear_touches (Touches.inc hm rfl) ?_
        exact wr_touches (Touches.anyPage hm rfl _) hu2
  · exact hT

end Sys2Proof.Laws
end

