-- ==== Sys2Proof/Laws/FrameTwin.lean ====
section
/-!
SUPPORT. What each operation of `Machine/Twin.lean` may touch: the mask names the parts of the state in which its result can
differ from the state it started from.
-/

set_option linter.unusedVariables false
set_option linter.unusedTactic false

namespace Sys2Proof.Laws

open Sys2Proof Sys2Proof.Machine Sys2Proof.Safety

variable {mm : Nat} {z0 : State}

theorem endAttempt_touches {s : State} (hm : 0x4000 &&& mm = 0x4000) (hT : Touches mm z0 s) :
    Touches mm z0 (endAttempt s) := by
  unfold endAttempt
  extract_lets -merge -underBinder src1
  exact Touches.twin (Touches.has hm rfl) hT

theorem refusePair_touches {s : State} {st : Status} (hm : 0x1000000004000 &&& mm = 0x1000000004000) (hT : Touches mm z0 s) :
    Touches mm z0 (refusePair s st) := by
  unfold refusePair
  refine refuseWrite_touches (Touches.has hm rfl) ?_
  exact endAttempt_touches (Touches.inc hm rfl) hT

theorem formPair_touches {s : State} {role : ℕ} (hm : 0x181000000064810 &&& mm = 0x181000000064810) (hT : Touches mm z0 s) :
    Touches mm z0 (formPair s role) := by
  unfold formPair
  extract_lets -merge -underBinder x5 x6 src7 x8 x9
  have hx5 : Touches mm z0 x5 := by
    subst x5
    refine wr_touches (Touches.has hm rfl) ?_
    refine wr_touches (Touches.has hm rfl) ?_
    refine endAttempt_touches (Touches.inc hm rfl) ?_
    exact twinReset_touches (Touches.inc hm rfl) hT
  try clear_value x5
  have hx6 : Touches mm z0 x6 := by
    subst x6
    refine wr_touches (Touches.has hm rfl) ?_
    refine twinCause_touches (Touches.inc hm rfl) ?_
    exact setTwinState_touches (Touches.inc hm rfl) hx5
  try clear_value x6
  have hx8 : Touches mm z0 x8 := by
    subst x8
    refine irqEvent_touches (Touches.inc hm rfl) (Touches.has hm rfl) ?_
    exact Touches.twin (Touches.has hm rfl) hx6
  try clear_value x8
  have hx9 : Touches mm z0 x9 := by
    subst x9
    refine Touches.ite ?_ ?_
    · exact sendTwin_touches (Touches.inc hm rfl) hx8
    · exact hx8
  try clear_value x9
  exact tellPace_touches (Touches.inc hm rfl) hx9

theorem tryPair_touches {s : State} (hm : 0x181000000064810 &&& mm = 0x181000000064810) (hT : Touches mm z0 s) :
    Touches mm z0 (tryPair s) := by
  unfold tryPair
  split
  · extract_lets -merge -underBinder x1
    try clear_value x1
    refine Touches.ite ?_ ?_
    · exact refusePair_touches (Touches.inc hm rfl) hT
    · refine Touches.ite ?_ ?_
      · exact refusePair_touches (Touches.inc hm rfl) hT
      · refine Touches.ite ?_ ?_
        · exact refusePair_touches (Touches.inc hm rfl) hT
        · exact formPair_touches (Touches.inc hm rfl) hT
  · exact hT

theorem freshAsk_touches {s : State} (hm : 0x4000 &&& mm = 0x4000) (hT : Touches mm z0 s) :
    Touches mm z0 (freshAsk s) := by
  unfold freshAsk
  split
  · extract_lets -merge -underBinder src1
    refine Touches.ite ?_ ?_
    · exact Touches.twin (Touches.has hm rfl) hT
    · exact hT
  · exact hT

theorem execTwinPair_touches {w : Writer} {s : State} {d0 : State} (hm : 0xFFFFFFFF00064814 &&& mm = 0xFFFFFFFF00064814)
    (hd : Touches mm z0 d0) (hT : Touches mm z0 s) :
    Touches mm z0 (Touches.outS d0 (execTwinPair w s)) := by
  unfold execTwinPair
  refine Touches.nextI ?_
  refine regWrite_touches (Touches.inc hm rfl) (fun u0 u1 hu => ?_) ?_
  · revert hu u1 u0
    intro bu0 u0_0 hu0
    beta_reduce
    extract_lets -merge -underBinder src3 x4
    have hx4 : Touches mm bu0 x4 := by
      subst x4
      refine freshAsk_touches (Touches.inc hm rfl) ?_
      exact Touches.twin (Touches.has hm rfl) hu0
    try clear_value x4
    refine Touches.ite ?_ ?_
    · exact hu0
    · refine Touches.ite ?_ ?_
      · exact refusePair_touches (Touches.inc hm rfl) hu0
      · refine tryPair_touches (Touches.inc hm rfl) ?_
        exact sendTwin_touches (Touches.inc hm rfl) hx4
  · exact hT

theorem execPairWindowExpiry_touches {s : State} {d0 : State} (hm : 0x4001 &&& mm = 0x4001) (hd : Touches mm z0 d0)
    (hT : Touches mm z0 s) :
    Touches mm z0 (Touches.outS d0 (execPairWindowExpiry s)) := by
  unfold execPairWindowExpiry
  refine Touches.nextI ?_
  split
  · refine endAttempt_touches (Touches.inc hm rfl) ?_
    exact reachTime_touches (Touches.inc hm rfl) hT
  · exact hT

theorem followOpen_touches {s : State} {slotNo : ℕ} {tenant : ℕ} {lc : ℕ} {seq : ℕ}
    (hm : 0x180080000064394 &&& mm = 0x180080000064394) (hT : Touches mm z0 s) :
    Touches mm z0 (followOpen s slotNo tenant lc seq) := by
  unfold followOpen
  split
  · rename_i p0 e1
    have h2 : Touches mm z0 p0 := by
      have e := congrArg (Touches.okS z0) e1
      refine Eq.mp (congrArg (Touches mm z0) e) ?_
      clear e e1
      exact openSeq_touches (Touches.inc hm rfl) (Touches.refl mm _) hT
    extract_lets -merge -underBinder src4
    exact Touches.twin (Touches.has hm rfl) h2
  · exact hT

theorem followClose_touches {s : State} {seq : ℕ} (hm : 0x180080000064390 &&& mm = 0x180080000064390) (hT : Touches mm z0 s) :
    Touches mm z0 (followClose s seq) := by
  unfold followClose
  extract_lets -merge -underBinder src1
  refine Touches.ite ?_ ?_
  · refine closeSeq_touches (Touches.inc hm rfl) ?_
    exact Touches.twin (Touches.has hm rfl) hT
  · exact hT

theorem followCopy_touches {s : State} {src : ℕ} {dst : ℕ} {h : ℕ} (hm : 0x380 &&& mm = 0x380) (hT : Touches mm z0 s) :
    Touches mm z0 (followCopy s src dst h) := by
  unfold followCopy
  extract_lets -merge -underBinder x4 x5 x6 src7
  try clear_value x4
  try clear_value x5
  have hx6 : Touches mm z0 x6 := by
    subst x6
    refine Touches.foldl ?_ (fun u x => ?_)
    · exact hT
    · revert x u; intro u8 y
      beta_reduce
      refine Touches.foldl ?_ (fun u x => ?_)
      · exact Touches.refl mm _
      · revert x u; intro u9 y
        beta_reduce
        split
        · exact memWrite_touches (Touches.has hm rfl) (Touches.has hm rfl) (Touches.refl mm _)
        · exact Touches.refl mm _
  try clear_value x6
  exact setSeq_touches (Touches.inc hm rfl) hx6

theorem followGrow_touches {s : State} {k : ℕ} {n : ℕ} {wp : ℕ} {hit : Option (ℕ × ℕ)}
    (hm : 0x180080000060394 &&& mm = 0x180080000060394) (hT : Touches mm z0 s) :
    Touches mm z0 (followGrow s k n wp hit) := by
  unfold followGrow
  extract_lets -merge -underBinder src2 x3
  have hx3 : Touches mm z0 x3 := by
    subst x3
    exact setSeq_touches (Touches.inc hm rfl) hT
  try clear_value x3
  refine Touches.ite ?_ ?_
  · exact hT
  · split
    · rename_i p4 e5
      have h6 : Touches mm z0 p4 := by
        have e := congrArg (growS z0) e5
        refine Eq.mp (congrArg (Touches mm z0) e) ?_
        clear e e5
        exact grow_touches (Touches.inc hm rfl) (Touches.refl mm _) hx3
      split
      · exact followCopy_touches (Touches.inc hm rfl) h6
      · exact h6
    · exact hx3

theorem execServAction_touches {what : List ℕ} {s : State} {d0 : State} (hm : 0x180080000064394 &&& mm = 0x180080000064394)
    (hd : Touches mm z0 d0) (hT : Touches mm z0 s) :
    Touches mm z0 (Touches.outS d0 (execServAction what s)) := by
  unfold execServAction
  refine Touches.nextI ?_
  refine Touches.ite ?_ ?_
  · exact hT
  · split
    · extract_lets -merge -underBinder x1
      have hx1 : Touches mm z0 x1 := by
        subst x1
        exact followOpen_touches (Touches.inc hm rfl) hT
      try clear_value x1
      refine Touches.ite ?_ ?_
      · exact hT
      · refine Touches.ite ?_ ?_
        · exact followOpen_touches (Touches.inc hm rfl) hx1
        · exact hx1
    · refine Touches.ite ?_ ?_
      · exact hT
      · exact followGrow_touches (Touches.inc hm rfl) hT
    · refine Touches.ite ?_ ?_
      · exact hT
      · exact followGrow_touches (Touches.inc hm rfl) hT
    · refine Touches.ite ?_ ?_
      · refine Touches.getD ?_ (fun hd2 => ?_)
        · exact hT
        · exact rollbackSeq_touches (Touches.inc hm rfl) hd2 hT
      · exact hT
    · extract_lets -merge -underBinder src4
      refine Touches.ite ?_ ?_
      · exact setSeq_touches (Touches.inc hm rfl) hT
      · exact hT
    · exact followClose_touches (Touches.inc hm rfl) hT
    · extract_lets -merge -underBinder x6
      have hx6 : Touches mm z0 x6 := by
        subst x6
        exact followClose_touches (Touches.inc hm rfl) hT
      try clear_value x6
      refine Touches.ite ?_ ?_
      · exact followClose_touches (Touches.inc hm rfl) hx6
      · exact hx6
    · exact hT

theorem execMirrorLaunch_touches {serial : ℕ} {d : LaunchDesc} {ctxs : List ℕ} {io : List Byte} {s : State} {d0 : State}
    (hm : 0x1004000 &&& mm = 0x1004000) (hd : Touches mm z0 d0) (hT : Touches mm z0 s) :
    Touches mm z0 (Touches.outS d0 (execMirrorLaunch serial d ctxs io s)) := by
  unfold execMirrorLaunch
  extract_lets -merge -underBinder x1
  try clear_value x1
  refine Touches.nextI ?_
  refine Touches.ite ?_ ?_
  · exact hT
  · refine issueLaunch_touches (Touches.inc hm rfl) ?_
    exact setTwinPart_touches (Touches.inc hm rfl) hT

theorem execLaunchAck_touches {serial : ℕ} {s : State} {d0 : State} (hm : 0x4000 &&& mm = 0x4000) (hd : Touches mm z0 d0)
    (hT : Touches mm z0 s) :
    Touches mm z0 (Touches.outS d0 (execLaunchAck serial s)) := by
  unfold execLaunchAck
  refine Touches.nextI ?_
  refine Touches.foldl ?_ (fun u x => ?_)
  · exact hT
  · revert x u; intro u0 y
    beta_reduce
    extract_lets -merge -underBinder src2
    refine Touches.ite ?_ ?_
    · exact setTwinPart_touches (Touches.inc hm rfl) (Touches.refl mm _)
    · exact Touches.refl mm _

theorem execPaceReport_touches {pairs : List (ℕ × ℕ)} {s : State} {d0 : State} (hm : 0x6000 &&& mm = 0x6000)
    (hd : Touches mm z0 d0) (hT : Touches mm z0 s) :
    Touches mm z0 (Touches.outS d0 (execPaceReport pairs s)) := by
  unfold execPaceReport
  refine Touches.nextI ?_
  refine Touches.ite ?_ ?_
  · exact hT
  · refine Touches.foldl ?_ (fun u x => ?_)
    · exact hT
    · revert x u; intro u0 y
      beta_reduce
      extract_lets -merge -underBinder x5 src6 x7 src8
      try clear_value x5
      have hx7 : Touches mm u0 x7 := by
        subst x7
        exact setTwinPart_touches (Touches.inc hm rfl) (Touches.refl mm _)
      try clear_value x7
      refine Touches.ite ?_ ?_
      · exact Touches.refl mm _
      · exact Touches.serving (Touches.has hm rfl) hx7

theorem execCompareData_touches {serial : ℕ} {mark : ℕ} {bytes : List Byte} {s : State} {d0 : State}
    (hm : 0xFFFFFFFF01064810 &&& mm = 0xFFFFFFFF01064810) (hd : Touches mm z0 d0) (hT : Touches mm z0 s) :
    Touches mm z0 (Touches.outS d0 (execCompareData serial mark bytes s)) := by
  unfold execCompareData
  refine Touches.nextI ?_
  refine Touches.ite ?_ ?_
  · exact hT
  · split
    · exact hT
    · extract_lets -merge -underBinder x3 x4 x5
      try clear_value x3
      try clear_value x4
      have hx5 : Touches mm z0 x5 := by
        subst x5
        exact setTwinPart_touches (Touches.inc hm rfl) hT
      try clear_value x5
      refine Touches.ite ?_ ?_
      · exact hx5
      · split
        · extract_lets -merge -underBinder x7
          have hx7 : Touches mm z0 x7 := by
            subst x7
            exact setTwinPart_touches (Touches.inc hm rfl) hT
          try clear_value x7
          exact evaluatePoint_touches (Touches.inc hm rfl) hx7
        · exact hT

theorem execTwinVerdict_touches {serial : ℕ} {what : List ℕ} {s : State} {d0 : State}
    (hm : 0xFFFFFFFF01066F94 &&& mm = 0xFFFFFFFF01066F94) (hd : Touches mm z0 d0) (hT : Touches mm z0 s) :
    Touches mm z0 (Touches.outS d0 (execTwinVerdict serial what s)) := by
  unfold execTwinVerdict
  extract_lets -merge -underBinder x1
  try clear_value x1
  refine Touches.nextI ?_
  refine Touches.ite ?_ ?_
  · refine Touches.ite ?_ ?_
    · exact applyVerdict_touches (Touches.inc hm rfl) hT
    · split
      · extract_lets -merge -underBinder src3
        refine twinResults_touches (Touches.inc hm rfl) ?_
        exact Touches.twin (Touches.has hm rfl) hT
      · exact hT
  · refine Touches.ite ?_ ?_
    · exact declareDivergence_touches (Touches.inc hm rfl) hT
    · exact hT

theorem dissolve_touches {s : State} (hm : 0x181080000064390 &&& mm = 0x181080000064390) (hT : Touches mm z0 s) :
    Touches mm z0 (dissolve s) := by
  unfold dissolve
  extract_lets -merge -underBinder x1
  have hx1 : Touches mm z0 x1 := by
    subst x1
    refine Touches.ite ?_ ?_
    · exact closeFollowed_touches (Touches.inc hm rfl) hT
    · exact hT
  try clear_value x1
  refine setTwinState_touches (Touches.inc hm rfl) ?_
  refine endAttempt_touches (Touches.inc hm rfl) ?_
  exact twinReset_touches (Touches.inc hm rfl) hx1

theorem swapRole_touches {s : State} (hm : 0x181080000064390 &&& mm = 0x181080000064390) (hT : Touches mm z0 s) :
    Touches mm z0 (swapRole s) := by
  unfold swapRole
  extract_lets -merge -underBinder x3 x4 src5
  try clear_value x3
  have hx4 : Touches mm z0 x4 := by
    subst x4
    refine Touches.ite ?_ ?_
    · exact closeFollowed_touches (Touches.inc hm rfl) hT
    · exact hT
  try clear_value x4
  refine setTwinState_touches (Touches.inc hm rfl) ?_
  exact Touches.twin (Touches.has hm rfl) hx4

theorem takeProfiles_touches {s : State} {l : List ℕ} (hm : 0x1000000000000 &&& mm = 0x1000000000000) (hT : Touches mm z0 s) :
    Touches mm z0 (takeProfiles s l) := by
  unfold takeProfiles
  refine Touches.foldl ?_ (fun u x => ?_)
  · exact hT
  · revert x u; intro u0 y
    beta_reduce
    refine wr_touches (Touches.has hm rfl) ?_
    refine wr_touches (Touches.has hm rfl) ?_
    refine wr_touches (Touches.has hm rfl) ?_
    exact wr_touches (Touches.has hm rfl) (Touches.refl mm _)

theorem execTwinControl_touches {op : ℕ} {what : List ℕ} {s : State} {d0 : State}
    (hm : 0x181080000064B90 &&& mm = 0x181080000064B90) (hd : Touches mm z0 d0) (hT : Touches mm z0 s) :
    Touches mm z0 (Touches.outS d0 (execTwinControl op what s)) := by
  unfold execTwinControl
  refine Touches.nextI ?_
  split
  · extract_lets -merge -underBinder src1
    refine Touches.ite ?_ ?_
    · refine tryPair_touches (Touches.inc hm rfl) ?_
      exact Touches.twin (Touches.has hm rfl) hT
    · exact hT
  · refine Touches.ite ?_ ?_
    · exact hT
    · exact dissolve_touches (Touches.inc hm rfl) hT
  · refine Touches.ite ?_ ?_
    · exact swapRole_touches (Touches.inc hm rfl) hT
    · exact hT
  · refine Touches.ite ?_ ?_
    · refine setTwinState_touches (Touches.inc hm rfl) ?_
      refine twinReset_touches (Touches.inc hm rfl) ?_
      exact twinCause_touches (Touches.inc hm rfl) hT
    · exact hT
  · refine Touches.ite ?_ ?_
    · exact takeProfiles_touches (Touches.inc hm rfl) hT
    · exact hT
  · exact hT

theorem execTwinUnpair_touches {w : Writer} {s : State} {d0 : State} (hm : 0xFFFFFFFF00064B94 &&& mm = 0xFFFFFFFF00064B94)
    (hd : Touches mm z0 d0) (hT : Touches mm z0 s) :
    Touches mm z0 (Touches.outS d0 (execTwinUnpair w s)) := by
  unfold execTwinUnpair
  refine Touches.nextI ?_
  refine regWrite_touches (Touches.inc hm rfl) (fun u0 u1 hu => ?_) ?_
  · revert hu u1 u0
    intro bu0 u0_0 hu0
    beta_reduce
    refine Touches.ite ?_ ?_
    · exact hu0
    · refine dissolve_touches (Touches.inc hm rfl) ?_
      exact sendTwin_touches (Touches.inc hm rfl) hu0
  · exact hT

theorem execTwinSwap_touches {w : Writer} {s : State} {d0 : State} (hm : 0xFFFFFFFF00064B94 &&& mm = 0xFFFFFFFF00064B94)
    (hd : Touches mm z0 d0) (hT : Touches mm z0 s) :
    Touches mm z0 (Touches.outS d0 (execTwinSwap w s)) := by
  unfold execTwinSwap
  refine Touches.nextI ?_
  refine regWrite_touches (Touches.inc hm rfl) (fun u0 u1 hu => ?_) ?_
  · revert hu u1 u0
    intro bu0 u0_0 hu0
    beta_reduce
    refine Touches.ite ?_ ?_
    · exact hu0
    · refine Touches.ite ?_ ?_
      · exact refuseWrite_touches (Touches.has hm rfl) hu0
      · refine swapRole_touches (Touches.inc hm rfl) ?_
        exact sendTwin_touches (Touches.inc hm rfl) hu0
  · exact hT

theorem execTwinTakeover_touches {w : Writer} {s : State} {d0 : State} (hm : 0xFFFFFFFF00060014 &&& mm = 0xFFFFFFFF00060014)
    (hd : Touches mm z0 d0) (hT : Touches mm z0 s) :
    Touches mm z0 (Touches.outS d0 (execTwinTakeover w s)) := by
  unfold execTwinTakeover
  refine Touches.nextI ?_
  refine regWrite_touches (Touches.inc hm rfl) (fun u0 u1 hu => ?_) ?_
  · revert hu u1 u0
    intro bu0 u0_0 hu0
    beta_reduce
    refine Touches.ite ?_ ?_
    · exact hu0
    · refine Touches.ite ?_ ?_
      · exact refuseWrite_touches (Touches.has hm rfl) hu0
      · refine setTwinState_touches (Touches.inc hm rfl) ?_
        exact irqEvent_touches (Touches.inc hm rfl) (Touches.has hm rfl) hu0
  · exact hT

end Sys2Proof.Laws
end

