-- ==== Sys2Proof/Laws/FrameRegRules.lean ====
section
/-!
SUPPORT. What each operation of `Machine/RegRules.lean` may touch: the mask names the parts of the state in which its result can
differ from the state it started from.
-/

set_option linter.unusedVariables false
set_option linter.unusedTactic false

namespace Sys2Proof.Laws

open Sys2Proof Sys2Proof.Machine Sys2Proof.Safety

variable {mm : Nat} {z0 : State}

theorem combWrite_touches {s : State} {w : Writer} {ty : ℕ} {i : ℕ} {off : ℕ} {v : ℕ} {d0 : State}
    (hm : 0xFFFFFFFF05260034 &&& mm = 0xFFFFFFFF05260034) (hd : Touches mm z0 d0) (hT : Touches mm z0 s) :
    Touches mm z0 (Touches.optS d0 (combWrite s w ty i off v)) := by
  unfold combWrite
  split
  · refine Touches.someI ?_
    refine after_touches ?_ (fun hd0 => ?_)
    · exact hT
    · exact execPaceFloorWrite_touches (Touches.inc hm rfl) hd0 hT
  · refine Touches.someI ?_
    refine after_touches ?_ (fun hd1 => ?_)
    · exact hT
    · exact execPaceVlimWrite_touches (Touches.inc hm rfl) hd1 hT
  · refine Touches.iteV (Touches.optS d0) ?_ ?_
    · refine Touches.someI ?_
      refine after_touches ?_ (fun hd2 => ?_)
      · exact hT
      · exact execPaceMarginWrite_touches (Touches.inc hm rfl) hd2 hT
    · exact hd
  · refine Touches.iteV (Touches.optS d0) ?_ ?_
    · refine Touches.someI ?_
      refine after_touches ?_ (fun hd3 => ?_)
      · exact hT
      · exact execClearAll_touches (Touches.inc hm rfl) hd3 hT
    · exact hd
  · refine Touches.iteV (Touches.optS d0) ?_ ?_
    · refine Touches.someI ?_
      refine after_touches ?_ (fun hd4 => ?_)
      · exact hT
      · exact execCellTestStart_touches (Touches.inc hm rfl) hd4 hT
    · exact hd
  · refine Touches.someI ?_
    refine after_touches ?_ (fun hd5 => ?_)
    · exact hT
    · exact execCellRetire_touches (Touches.inc hm rfl) hd5 hT
  · refine Touches.iteV (Touches.optS d0) ?_ ?_
    · refine Touches.someI ?_
      refine after_touches ?_ (fun hd6 => ?_)
      · exact hT
      · exact execPipeTestStart_touches (Touches.inc hm rfl) hd6 hT
    · exact hd
  · refine Touches.someI ?_
    refine after_touches ?_ (fun hd7 => ?_)
    · exact hT
    · exact execQuadPartWrite_touches (Touches.inc hm rfl) hd7 hT
  · refine Touches.someI ?_
    refine after_touches ?_ (fun hd8 => ?_)
    · exact hT
    · exact execPipeRetire_touches (Touches.inc hm rfl) hd8 hT
  · refine Touches.someI ?_
    refine after_touches ?_ (fun hd9 => ?_)
    · exact hT
    · exact execMemcPartWrite_touches (Touches.inc hm rfl) hd9 hT
  · refine Touches.iteV (Touches.optS d0) ?_ ?_
    · refine Touches.someI ?_
      refine after_touches ?_ (fun hd10 => ?_)
      · exact hT
      · exact execMemSetMapWrite_touches (Touches.inc hm rfl) hd10 hT
    · exact hd
  · refine Touches.iteV (Touches.optS d0) ?_ ?_
    · refine Touches.someI ?_
      refine Touches.ite ?_ ?_
      · refine after_touches ?_ (fun hd11 => ?_)
        · exact hT
        · exact execExtentOwn_touches (Touches.inc hm rfl) hd11 hT
      · refine after_touches ?_ (fun hd12 => ?_)
        · exact hT
        · exact execExtentRelease_touches (Touches.inc hm rfl) hd12 hT
    · exact hd
  · refine Touches.someI ?_
    refine after_touches ?_ (fun hd13 => ?_)
    · exact hT
    · exact execSeamLaneWrite_touches (Touches.inc hm rfl) hd13 hT
  · refine Touches.iteV (Touches.optS d0) ?_ ?_
    · refine Touches.someI ?_
      refine after_touches ?_ (fun hd14 => ?_)
      · exact hT
      · exact execFastlaneWrite_touches (Touches.inc hm rfl) hd14 hT
    · exact hd
  · refine Touches.iteV (Touches.optS d0) ?_ ?_
    · refine Touches.someI ?_
      refine after_touches ?_ (fun hd15 => ?_)
      · exact hT
      · exact execFastlaneWrite_touches (Touches.inc hm rfl) hd15 hT
    · exact hd
  · exact hd

theorem kvWrite_touches {s : State} {w : Writer} {off : ℕ} {v : ℕ} {d0 : State}
    (hm : 0xFFFFFFFF00060214 &&& mm = 0xFFFFFFFF00060214) (hd : Touches mm z0 d0) (hT : Touches mm z0 s) :
    Touches mm z0 (Touches.optS d0 (kvWrite s w off v)) := by
  unfold kvWrite
  refine Touches.iteV (Touches.optS d0) ?_ ?_
  · refine Touches.someI ?_
    refine after_touches ?_ (fun hd0 => ?_)
    · exact hT
    · exact execKvpgPoolWrite_touches (Touches.inc hm rfl) hd0 hT
  · refine Touches.iteV (Touches.optS d0) ?_ ?_
    · refine Touches.someI ?_
      refine after_touches ?_ (fun hd1 => ?_)
      · exact hT
      · exact execKvpgPoolWrite_touches (Touches.inc hm rfl) hd1 hT
    · refine Touches.iteV (Touches.optS d0) ?_ ?_
      · refine Touches.someI ?_
        refine after_touches ?_ (fun hd2 => ?_)
        · exact hT
        · exact execKvpgSeqBaseWrite_touches (Touches.inc hm rfl) hd2 hT
      · refine Touches.iteV (Touches.optS d0) ?_ ?_
        · refine Touches.someI ?_
          refine after_touches ?_ (fun hd3 => ?_)
          · exact hT
          · exact execKvpgResvWrite_touches (Touches.inc hm rfl) hd3 hT
        · exact hd

theorem hostRegWrite_touches {s : State} {w : Writer} {ty : ℕ} {i : ℕ} {off : ℕ} {v : ℕ} {e : WriteEnv} {d0 : State}
    (hm : 0xFFFFFFFF00062F94 &&& mm = 0xFFFFFFFF00062F94) (hd : Touches mm z0 d0) (hT : Touches mm z0 s) :
    Touches mm z0 (Touches.optS d0 (hostRegWrite s w ty i off v e)) := by
  unfold hostRegWrite
  split
  · refine Touches.someI ?_
    refine after_touches ?_ (fun hd0 => ?_)
    · exact hT
    · exact execLinkRetrain_touches (Touches.inc hm rfl) hd0 hT
  · refine Touches.someI ?_
    refine after_touches ?_ (fun hd1 => ?_)
    · exact hT
    · exact execHostFnCfgWrite_touches (Touches.inc hm rfl) hd1 hT
  · refine Touches.someI ?_
    refine after_touches ?_ (fun hd2 => ?_)
    · exact hT
    · exact execHostFnMsixWrite_touches (Touches.inc hm rfl) hd2 hT
  · refine Touches.someI ?_
    refine after_touches ?_ (fun hd3 => ?_)
    · exact hT
    · exact execHostFnWinWrite_touches (Touches.inc hm rfl) hd3 hT
  · refine Touches.someI ?_
    refine Touches.ite ?_ ?_
    · refine after_touches ?_ (fun hd4 => ?_)
      · exact hT
      · exact execDmaGo_touches (Touches.inc hm rfl) hd4 hT
    · exact hT
  · refine Touches.someI ?_
    refine after_touches ?_ (fun hd5 => ?_)
    · exact hT
    · exact execQmgrSigBaseWrite_touches (Touches.inc hm rfl) hd5 hT
  · refine Touches.someI ?_
    refine after_touches ?_ (fun hd6 => ?_)
    · exact hT
    · exact execQmgrSigBaseWrite_touches (Touches.inc hm rfl) hd6 hT
  · refine Touches.someI ?_
    refine after_touches ?_ (fun hd7 => ?_)
    · exact hT
    · exact execDbpMapWrite_touches (Touches.inc hm rfl) hd7 hT
  · refine Touches.someI ?_
    exact queueControl_touches (Touches.inc hm rfl) hT
  · refine Touches.someI ?_
    exact queueControl_touches (Touches.inc hm rfl) hT
  · refine Touches.someI ?_
    refine after_touches ?_ (fun hd8 => ?_)
    · exact hT
    · exact execSlotEnable_touches (Touches.inc hm rfl) hd8 hT
  · refine Touches.someI ?_
    refine after_touches ?_ (fun hd9 => ?_)
    · exact hT
    · exact execBurstWrite_touches (Touches.inc hm rfl) hd9 hT
  · exact kvWrite_touches (Touches.inc hm rfl) hd hT
  · refine Touches.someI ?_
    refine after_touches ?_ (fun hd10 => ?_)
    · exact hT
    · exact execPfxTenWrite_touches (Touches.inc hm rfl) hd10 hT
  · refine Touches.someI ?_
    refine after_touches ?_ (fun hd11 => ?_)
    · exact hT
    · exact execPfxTenWrite_touches (Touches.inc hm rfl) hd11 hT
  · refine Touches.someI ?_
    refine after_touches ?_ (fun hd12 => ?_)
    · exact hT
    · exact execPfxTenWrite_touches (Touches.inc hm rfl) hd12 hT
  · exact hd

theorem onBit_touches {v : ℕ} {n : ℕ} {k : State → State} {s : State} (hk2 : ∀ z u0, Touches mm z u0 → Touches mm z (k u0))
    (hT : Touches mm z0 s) :
    Touches mm z0 (onBit v n k s) := by
  unfold onBit
  refine Touches.ite ?_ ?_
  · exact hk2 _ _ hT
  · exact hT

theorem moduleWrite_touches {s : State} {w : Writer} {ty : ℕ} {i : ℕ} {off : ℕ} {v : ℕ} {e : WriteEnv} {d0 : State}
    (hm : 0xFFFFFFFF0107FFB4 &&& mm = 0xFFFFFFFF0107FFB4) (hd : Touches mm z0 d0) (hT : Touches mm z0 s) :
    Touches mm z0 (Touches.optS d0 (moduleWrite s w ty i off v e)) := by
  unfold moduleWrite
  split
  · refine Touches.someI ?_
    exact wagControl_touches (Touches.inc hm rfl) hT
  · extract_lets -merge -underBinder x1
    try clear_value x1
    refine Touches.iteV (Touches.optS d0) ?_ ?_
    · exact hd
    · refine Touches.someI ?_
      refine onBit_touches (fun u0 u1 hu => ?_) ?_
      · revert hu u1 u0
        intro bu2 u2_0 hu2
        beta_reduce
        refine after_touches ?_ (fun hd3 => ?_)
        · exact hu2
        · exact execReloadShards_touches (Touches.inc hm rfl) hd3 hu2
      · refine onBit_touches (fun u0 u1 hu => ?_) ?_
        · revert hu u1 u0
          intro bu4 u4_0 hu4
          beta_reduce
          refine after_touches ?_ (fun hd5 => ?_)
          · exact hu4
          · exact execHiveRestart_touches (Touches.inc hm rfl) hd5 hu4
        · exact hT
  · refine Touches.someI ?_
    refine onBit_touches (fun u0 u1 hu => ?_) ?_
    · revert hu u1 u0
      intro bu6 u6_0 hu6
      beta_reduce
      refine after_touches ?_ (fun hd7 => ?_)
      · exact hu6
      · exact execClearSuspect_touches (Touches.inc hm rfl) hd7 hu6
    · refine onBit_touches (fun u0 u1 hu => ?_) ?_
      · revert hu u1 u0
        intro bu8 u8_0 hu8
        beta_reduce
        refine after_touches ?_ (fun hd9 => ?_)
        · exact hu8
        · exact execHiveExpel_touches (Touches.inc hm rfl) hd9 hu8
      · exact hT
  · refine Touches.someI ?_
    refine after_touches ?_ (fun hd10 => ?_)
    · exact hT
    · exact execBarrierEnable_touches (Touches.inc hm rfl) hd10 hT
  · refine Touches.someI ?_
    refine after_touches ?_ (fun hd11 => ?_)
    · exact hT
    · exact execMeridSlewWrite_touches (Touches.inc hm rfl) hd11 hT
  · refine Touches.someI ?_
    refine onBit_touches (fun u0 u1 hu => ?_) ?_
    · revert hu u1 u0
      intro bu12 u12_0 hu12
      beta_reduce
      refine after_touches ?_ (fun hd13 => ?_)
      · exact hu12
      · exact execTwinTakeover_touches (Touches.inc hm rfl) hd13 hu12
    · refine onBit_touches (fun u0 u1 hu => ?_) ?_
      · revert hu u1 u0
        intro bu14 u14_0 hu14
        beta_reduce
        refine after_touches ?_ (fun hd15 => ?_)
        · exact hu14
        · exact execTwinSwap_touches (Touches.inc hm rfl) hd15 hu14
      · refine onBit_touches (fun u0 u1 hu => ?_) ?_
        · revert hu u1 u0
          intro bu16 u16_0 hu16
          beta_reduce
          refine after_touches ?_ (fun hd17 => ?_)
          · exact hu16
          · exact execTwinUnpair_touches (Touches.inc hm rfl) hd17 hu16
        · refine onBit_touches (fun u0 u1 hu => ?_) ?_
          · revert hu u1 u0
            intro bu18 u18_0 hu18
            beta_reduce
            refine after_touches ?_ (fun hd19 => ?_)
            · exact hu18
            · exact execTwinPair_touches (Touches.inc hm rfl) hd19 hu18
          · exact hT
  · refine Touches.someI ?_
    refine onBit_touches (fun u0 u1 hu => ?_) ?_
    · revert hu u1 u0
      intro bu20 u20_0 hu20
      beta_reduce
      refine after_touches ?_ (fun hd21 => ?_)
      · exact hu20
      · exact execGroupKeyGen_touches (Touches.inc hm rfl) hd21 hu20
    · exact hT
  · refine Touches.someI ?_
    refine onBit_touches (fun u0 u1 hu => ?_) ?_
    · revert hu u1 u0
      intro bu22 u22_0 hu22
      beta_reduce
      refine after_touches ?_ (fun hd23 => ?_)
      · exact hu22
      · exact execOpkeyCommit_touches (Touches.inc hm rfl) hd23 hu22
    · exact hT
  · refine Touches.someI ?_
    refine onBit_touches (fun u0 u1 hu => ?_) ?_
    · revert hu u1 u0
      intro bu24 u24_0 hu24
      beta_reduce
      refine after_touches ?_ (fun hd25 => ?_)
      · exact hu24
      · exact execUnlockSubmit_touches (Touches.inc hm rfl) hd25 hu24
    · refine onBit_touches (fun u0 u1 hu => ?_) ?_
      · revert hu u1 u0
        intro bu26 u26_0 hu26
        beta_reduce
        refine after_touches ?_ (fun hd27 => ?_)
        · exact hu26
        · exact execNewNonce_touches (Touches.inc hm rfl) hd27 hu26
      · exact hT
  · refine Touches.someI ?_
    refine regWrite_touches (Touches.inc hm rfl) (fun u0 u1 hu => ?_) ?_
    · revert hu u1 u0
      intro bu28 u28_0 hu28
      beta_reduce
      exact capWordWrite_touches (Touches.inc hm rfl) hu28
    · exact hT
  · refine Touches.someI ?_
    refine after_touches ?_ (fun hd29 => ?_)
    · exact hT
    · exact execClkObsSelect_touches (Touches.inc hm rfl) hd29 hT
  · extract_lets -merge -underBinder x32 x33
    have hx32 : Touches mm z0 x32 := by
      subst x32
      refine onBit_touches (fun u0 u1 hu => ?_) ?_
      · revert hu u1 u0
        intro bu34 u34_0 hu34
        beta_reduce
        refine after_touches ?_ (fun hd35 => ?_)
        · exact hu34
        · exact execClearMetrics_touches (Touches.inc hm rfl) hd35 hu34
      · exact hT
    try clear_value x32
    have hx33 : Touches mm z0 x33 := by
      subst x33
      refine Touches.ite ?_ ?_
      · refine after_touches ?_ (fun hd36 => ?_)
        · exact hx32
        · exact execFreeze_touches (Touches.inc hm rfl) hd36 hx32
      · refine after_touches ?_ (fun hd37 => ?_)
        · exact hx32
        · exact execUnfreeze_touches (Touches.inc hm rfl) hd37 hx32
    try clear_value x33
    refine Touches.someI ?_
    refine onBit_touches (fun u0 u1 hu => ?_) ?_
    · revert hu u1 u0
      intro bu38 u38_0 hu38
      beta_reduce
      refine after_touches ?_ (fun hd39 => ?_)
      · exact hu38
      · exact execRecorderFlush_touches (Touches.inc hm rfl) hd39 hu38
    · exact hx33
  · refine Touches.someI ?_
    refine onBit_touches (fun u0 u1 hu => ?_) ?_
    · revert hu u1 u0
      intro bu40 u40_0 hu40
      beta_reduce
      refine after_touches ?_ (fun hd41 => ?_)
      · exact hu40
      · exact execRtcSet_touches (Touches.inc hm rfl) hd41 hu40
    · exact hT
  · refine Touches.someI ?_
    exact metricConfig_touches (Touches.inc hm rfl) hT
  · refine Touches.someI ?_
    exact metricConfig_touches (Touches.inc hm rfl) hT
  · exact hd

theorem headerWrite_touches {s : State} {ty : ℕ} {i : ℕ} {off : ℕ} {v : ℕ}
    (hm : 0xFFFFFFFF00040020 &&& mm = 0xFFFFFFFF00040020) (hT : Touches mm z0 s) :
    Touches mm z0 (headerWrite s ty i off v) := by
  unfold headerWrite
  split
  · exact irqEnable_touches (Touches.inc hm rfl) (Touches.anyPage hm rfl _) hT
  · exact irqClear_touches (Touches.anyPage hm rfl _) hT
  · refine after_touches ?_ (fun hd0 => ?_)
    · exact hT
    · exact execHoldOnWrite_touches (Touches.inc hm rfl) hd0 hT
  · exact lockWrite_touches (Touches.inc hm rfl) (Touches.anyPage hm rfl _) hT
  · exact hT

theorem blockWrite_touches {s : State} {w : Writer} {ty : ℕ} {i : ℕ} {off : ℕ} {v : ℕ} {e : WriteEnv}
    (hm : 0xFFFFFFFF0527FFB4 &&& mm = 0xFFFFFFFF0527FFB4) (hT : Touches mm z0 s) :
    Touches mm z0 (blockWrite s w ty i off v e) := by
  unfold blockWrite
  refine Touches.ite ?_ ?_
  · exact hT
  · refine Touches.ite ?_ ?_
    · exact headerWrite_touches (Touches.inc hm rfl) hT
    · split
      · rename_i p0 e1
        have h2 : Touches mm z0 p0 := by
          have e := congrArg (Touches.optS z0) e1
          refine Eq.mp (congrArg (Touches mm z0) e) ?_
          clear e e1
          exact combWrite_touches (Touches.inc hm rfl) (Touches.refl mm _) hT
        exact h2
      · split
        · rename_i p3 e4
          have h5 : Touches mm z0 p3 := by
            have e := congrArg (Touches.optS z0) e4
            refine Eq.mp (congrArg (Touches mm z0) e) ?_
            clear e e4
            exact hostRegWrite_touches (Touches.inc hm rfl) (Touches.refl mm _) hT
          exact h5
        · split
          · rename_i p6 e7
            have h8 : Touches mm z0 p6 := by
              have e := congrArg (Touches.optS z0) e7
              refine Eq.mp (congrArg (Touches mm z0) e) ?_
              clear e e7
              exact moduleWrite_touches (Touches.inc hm rfl) (Touches.refl mm _) hT
            exact h8
          · refine Touches.ite ?_ ?_
            · exact hT
            · exact wordWrite_touches (Touches.inc hm rfl) hT

end Sys2Proof.Laws
end

