-- ==== Sys2Proof/Laws/FrameBoot.lean ====
section
/-!
SUPPORT. What each operation of `Machine/Boot.lean` may touch: the mask names the parts of the state in which its result can
differ from the state it started from.
-/

set_option linter.unusedVariables false
set_option linter.unusedTactic false

namespace Sys2Proof.Laws

open Sys2Proof Sys2Proof.Machine Sys2Proof.Safety

variable {mm : Nat} {z0 : State}

theorem norProgram_touches {s : State} {slot : ℕ} {sector : ℕ} {bs : List Byte} (hm : 0x20000 &&& mm = 0x20000)
    (hT : Touches mm z0 s) :
    Touches mm z0 (norProgram s slot sector bs) := by
  unfold norProgram
  extract_lets -merge -underBinder x6 x7 x8 x9 x10 src11
  try clear_value x6
  try clear_value x7
  try clear_value x8
  try clear_value x9
  try clear_value x10
  exact Touches.boot (Touches.has hm rfl) hT

theorem startRecord_touches {s : State} {code : ℕ} {sev : ℕ} (hm : 0x180000000060010 &&& mm = 0x180000000060010)
    (hT : Touches mm z0 s) :
    Touches mm z0 (startRecord s code sev) := by
  unfold startRecord
  refine Touches.ite ?_ ?_
  · exact holdRec_touches (Touches.inc hm rfl) hT
  · exact recordEvent_touches (Touches.inc hm rfl) hT

theorem startStatus_touches {s : State} {st : Status} (hm : 0x180000000060010 &&& mm = 0x180000000060010) (hT : Touches mm z0 s) :
    Touches mm z0 (startStatus s st) := by
  unfold startStatus
  exact startRecord_touches (Touches.inc hm rfl) hT

theorem startIrq_touches {s : State} {n : ℕ} (hm : 0x580000000060010 &&& mm = 0x580000000060010) (hT : Touches mm z0 s) :
    Touches mm z0 (startIrq s n) := by
  unfold startIrq
  refine raiseIrq_touches (Touches.has hm rfl) (Touches.has hm rfl) ?_
  exact startRecord_touches (Touches.inc hm rfl) hT

theorem enterRecovery_touches {s : State} {cause : ℕ} (hm : 0x580008000060010 &&& mm = 0x580008000060010) (hT : Touches mm z0 s) :
    Touches mm z0 (enterRecovery s cause) := by
  unfold enterRecovery
  refine startIrq_touches (Touches.inc hm rfl) ?_
  refine wr_touches (Touches.has hm rfl) ?_
  refine wr_touches (Touches.has hm rfl) ?_
  exact wr_touches (Touches.has hm rfl) hT

theorem runSlot_touches {s : State} {slot : ℕ} (hm : 0x400000000000000 &&& mm = 0x400000000000000) (hT : Touches mm z0 s) :
    Touches mm z0 (runSlot s slot) := by
  unfold runSlot
  extract_lets -merge -underBinder x1
  try clear_value x1
  refine Touches.foldl ?_ (fun u x => ?_)
  · exact wr_touches (Touches.has hm rfl) hT
  · revert x u; intro u2 y
    beta_reduce
    exact wr_touches (show Nat.testBit _ (32 + 26 % 32) = true from Touches.has hm rfl) (Touches.refl mm _)

theorem commitStart_touches {s : State} (hm : 0x100000000040010 &&& mm = 0x100000000040010) (hT : Touches mm z0 s) :
    Touches mm z0 (commitStart s) := by
  unfold commitStart
  extract_lets -merge -underBinder x4 x5 x6 x7
  try clear_value x4
  try clear_value x5
  try clear_value x6
  try clear_value x7
  refine Touches.ite ?_ ?_
  · exact wr_touches (Touches.has hm rfl) hT
  · refine raiseIrq_touches (Touches.has hm rfl) (Touches.has hm rfl) ?_
    exact commitBank_touches (Touches.inc hm rfl) hT

theorem dropTrial_touches {s : State} {st : Status} (hm : 0x580000000060010 &&& mm = 0x580000000060010) (hT : Touches mm z0 s) :
    Touches mm z0 (dropTrial s st) := by
  unfold dropTrial
  extract_lets -merge -underBinder x2 src3
  have hx2 : Touches mm z0 x2 := by
    subst x2
    refine wr_touches (Touches.has hm rfl) ?_
    exact wr_touches (Touches.has hm rfl) hT
  try clear_value x2
  refine startIrq_touches (Touches.inc hm rfl) ?_
  refine incSat_touches (Touches.has hm rfl) ?_
  refine startStatus_touches (Touches.inc hm rfl) ?_
  exact Touches.boot (Touches.has hm rfl) hx2

theorem tryTrial_touches {s : State} {e : StartEnv} (hm : 0x580000000060010 &&& mm = 0x580000000060010) (hT : Touches mm z0 s) :
    Touches mm z0 (tryTrial s e).1 := by
  unfold tryTrial
  extract_lets -merge -underBinder x1
  try clear_value x1
  refine Touches.iteV Prod.fst ?_ ?_
  · exact Touches.mkI hT
  · refine Touches.iteV Prod.fst ?_ ?_
    · split
      · extract_lets -merge -underBinder x3
        have hx3 : Touches mm z0 x3 := by
          subst x3
          refine wr_touches (Touches.has hm rfl) ?_
          refine wr_touches (Touches.has hm rfl) ?_
          exact incSat_touches (Touches.has hm rfl) hT
        try clear_value x3
        refine Touches.mkI ?_
        refine commitStart_touches (Touches.inc hm rfl) ?_
        exact runSlot_touches (Touches.inc hm rfl) hx3
      · refine Touches.mkI ?_
        exact dropTrial_touches (Touches.inc hm rfl) hT
    · refine Touches.mkI ?_
      exact dropTrial_touches (Touches.inc hm rfl) hT

theorem tryRecovery_touches {s : State} {e : StartEnv} {cause : ℕ} (hm : 0x580008000060010 &&& mm = 0x580008000060010)
    (hT : Touches mm z0 s) :
    Touches mm z0 (tryRecovery s e cause).1 := by
  unfold tryRecovery
  split
  · refine Touches.mkI ?_
    refine enterRecovery_touches (Touches.inc hm rfl) ?_
    exact runSlot_touches (Touches.inc hm rfl) hT
  · refine Touches.mkI ?_
    exact startStatus_touches (Touches.inc hm rfl) hT

theorem tryActive_touches {s : State} {e : StartEnv} (hm : 0x580000000060010 &&& mm = 0x580000000060010) (hT : Touches mm z0 s) :
    Touches mm z0 (tryActive s e).1 := by
  unfold tryActive
  extract_lets -merge -underBinder x2 x3
  try clear_value x2
  try clear_value x3
  split
  · refine Touches.mkI ?_
    exact runSlot_touches (Touches.inc hm rfl) hT
  · extract_lets -merge -underBinder x5
    have hx5 : Touches mm z0 x5 := by
      subst x5
      split
      · exact startStatus_touches (Touches.inc hm rfl) hT
      · exact hT
    try clear_value x5
    refine Touches.iteV Prod.fst ?_ ?_
    · split
      · extract_lets -merge -underBinder x8 src9
        have hx8 : Touches mm z0 x8 := by
          subst x8
          exact wr_touches (Touches.has hm rfl) hx5
        try clear_value x8
        refine Touches.mkI ?_
        refine runSlot_touches (Touches.inc hm rfl) ?_
        exact Touches.boot (Touches.has hm rfl) hx8
      · refine Touches.mkI ?_
        exact startStatus_touches (Touches.inc hm rfl) hx5
    · exact Touches.mkI hx5

theorem chooseImage_touches {s : State} {e : StartEnv} (hm : 0x580008000060010 &&& mm = 0x580008000060010)
    (hT : Touches mm z0 s) :
    Touches mm z0 (chooseImage s e).1 := by
  unfold chooseImage
  refine Touches.iteV Prod.fst ?_ ?_
  · exact tryRecovery_touches (Touches.inc hm rfl) hT
  · split
    · rename_i p0 e1
      have h2 : Touches mm z0 p0 := by
        have e := congrArg Prod.fst e1
        refine Eq.mp (congrArg (Touches mm z0) e) ?_
        clear e e1
        exact tryTrial_touches (Touches.inc hm rfl) hT
      exact Touches.mkI h2
    · rename_i p3 e4
      have h5 : Touches mm z0 p3 := by
        have e := congrArg Prod.fst e4
        refine Eq.mp (congrArg (Touches mm z0) e) ?_
        clear e e4
        exact tryTrial_touches (Touches.inc hm rfl) hT
      split
      · rename_i p6 e7
        have h8 : Touches mm z0 p6 := by
          have e := congrArg Prod.fst e7
          refine Eq.mp (congrArg (Touches mm z0) e) ?_
          clear e e7
          exact tryActive_touches (Touches.inc hm rfl) h5
        exact Touches.mkI h8
      · rename_i p9 e10
        have h11 : Touches mm z0 p9 := by
          have e := congrArg Prod.fst e10
          refine Eq.mp (congrArg (Touches mm z0) e) ?_
          clear e e10
          exact tryActive_touches (Touches.inc hm rfl) h5
        exact tryRecovery_touches (Touches.inc hm rfl) h11

theorem checkBanks_touches {s : State} {e : StartEnv} (hm : 0x100000000000010 &&& mm = 0x100000000000010) (hT : Touches mm z0 s) :
    Touches mm z0 (checkBanks s e) := by
  unfold checkBanks
  extract_lets -merge -underBinder x4 x5 src6 x7
  try clear_value x4
  try clear_value x5
  have hx7 : Touches mm z0 x7 := by
    subst x7
    exact Touches.recorder (Touches.has hm rfl) hT
  try clear_value x7
  refine addSat_touches (Touches.has hm rfl) ?_
  refine wr_touches (Touches.has hm rfl) ?_
  exact wr_touches (Touches.has hm rfl) hx7

theorem loadBoot_touches {s : State} {b : BootPage} (hm : 0x400000000020000 &&& mm = 0x400000000020000) (hT : Touches mm z0 s) :
    Touches mm z0 (loadBoot s b) := by
  unfold loadBoot
  extract_lets -merge -underBinder x4 x5 x6 src7
  have hx4 : Touches mm z0 x4 := by
    subst x4
    refine wr_touches (Touches.has hm rfl) ?_
    exact wr_touches (Touches.has hm rfl) hT
  try clear_value x4
  have hx5 : Touches mm z0 x5 := by
    subst x5
    refine wr_touches (Touches.has hm rfl) ?_
    exact wr_touches (Touches.has hm rfl) hx4
  try clear_value x5
  have hx6 : Touches mm z0 x6 := by
    subst x6
    refine wr_touches (Touches.has hm rfl) ?_
    refine wr_touches (Touches.has hm rfl) ?_
    exact wr_touches (Touches.has hm rfl) hx5
  try clear_value x6
  exact Touches.boot (Touches.has hm rfl) hx6

theorem setBitmap_touches {s : State} {bits : List ℕ} (hm : 0x200000000000000 &&& mm = 0x200000000000000) (hT : Touches mm z0 s) :
    Touches mm z0 (setBitmap s bits) := by
  unfold setBitmap
  refine wr_touches (Touches.has hm rfl) ?_
  refine Touches.foldl ?_ (fun u x => ?_)
  · exact hT
  · revert x u; intro u0 y
    beta_reduce
    exact wr_touches (show Nat.testBit _ (32 + 25 % 32) = true from Touches.has hm rfl) (Touches.refl mm _)

theorem loadStaging_touches {s : State} {g : Staging} (hm : 0x200000000020000 &&& mm = 0x200000000020000) (hT : Touches mm z0 s) :
    Touches mm z0 (loadStaging s g) := by
  unfold loadStaging
  extract_lets -merge -underBinder x2 src3
  have hx2 : Touches mm z0 x2 := by
    subst x2
    refine wr_touches (Touches.has hm rfl) ?_
    refine wr_touches (Touches.has hm rfl) ?_
    exact wr_touches (Touches.has hm rfl) hT
  try clear_value x2
  refine setBitmap_touches (Touches.inc hm rfl) ?_
  exact Touches.boot (Touches.has hm rfl) hx2

theorem loadPages_touches {s : State} {e : StartEnv} (hm : 0x700000000020010 &&& mm = 0x700000000020010) (hT : Touches mm z0 s) :
    Touches mm z0 (loadPages s e) := by
  unfold loadPages
  extract_lets -merge -underBinder x1
  have hx1 : Touches mm z0 x1 := by
    subst x1
    exact checkBanks_touches (Touches.inc hm rfl) hT
  try clear_value x1
  split
  · extract_lets -merge -underBinder x4 src5
    have hx4 : Touches mm z0 x4 := by
      subst x4
      refine wr_touches (Touches.has hm rfl) ?_
      refine wr_touches (Touches.has hm rfl) ?_
      exact wr_touches (Touches.has hm rfl) hx1
    try clear_value x4
    refine loadStaging_touches (Touches.inc hm rfl) ?_
    refine loadBoot_touches (Touches.inc hm rfl) ?_
    exact Touches.boot (Touches.has hm rfl) hx4
  · extract_lets -merge -underBinder x9 x10 src11
    try clear_value x9
    try clear_value x10
    refine loadStaging_touches (Touches.inc hm rfl) ?_
    refine loadBoot_touches (Touches.inc hm rfl) ?_
    exact Touches.boot (Touches.has hm rfl) hx1

theorem effectiveRelease_touches {s : State} (hm : 0x400 &&& mm = 0x400) (hT : Touches mm z0 s) :
    Touches mm z0 (effectiveRelease s) := by
  unfold effectiveRelease
  extract_lets -merge -underBinder src1
  refine Touches.ite ?_ ?_
  · exact Touches.host (Touches.has hm rfl) hT
  · exact hT

theorem startIsland_touches {s : State} {e : StartEnv} (hm : 0x782008000060410 &&& mm = 0x782008000060410)
    (hT : Touches mm z0 s) :
    Touches mm z0 (startIsland s e) := by
  unfold startIsland
  extract_lets -merge -underBinder x3 x4 x5
  have hx3 : Touches mm z0 x3 := by
    subst x3
    exact loadPages_touches (Touches.inc hm rfl) hT
  try clear_value x3
  have hx4 : Touches mm z0 x4 := by
    subst x4
    exact incSat_touches (by rw [apply_ite Fld.ty]; split <;> exact Touches.has hm rfl) hx3
  try clear_value x4
  have hx5 : Touches mm z0 x5 := by
    subst x5
    refine wr_touches (Touches.has hm rfl) ?_
    exact wr_touches (Touches.has hm rfl) hx4
  try clear_value x5
  split
  · rename_i p6 e7
    have h8 : Touches mm z0 p6 := by
      have e := congrArg Prod.fst e7
      refine Eq.mp (congrArg (Touches mm z0) e) ?_
      clear e e7
      exact chooseImage_touches (Touches.inc hm rfl) hx5
    refine effectiveRelease_touches (Touches.inc hm rfl) ?_
    refine wr_touches (Touches.has hm rfl) ?_
    exact wr_touches (Touches.has hm rfl) h8
  · rename_i p9 e10
    have h11 : Touches mm z0 p9 := by
      have e := congrArg Prod.fst e10
      refine Eq.mp (congrArg (Touches mm z0) e) ?_
      clear e e10
      exact chooseImage_touches (Touches.inc hm rfl) hx5
    extract_lets -merge -underBinder src13
    refine wr_touches (Touches.has hm rfl) ?_
    exact Touches.host (Touches.has hm rfl) h11

theorem execPowerGood_touches {e : StartEnv} {clock : Bool} {s : State} {d0 : State}
    (hm : 0x782008000060432 &&& mm = 0x782008000060432) (hd : Touches mm z0 d0) (hT : Touches mm z0 s) :
    Touches mm z0 (Touches.outS d0 (execPowerGood e clock s)) := by
  unfold execPowerGood
  extract_lets -merge -underBinder x3 src4 src5
  have hx3 : Touches mm z0 x3 := by
    subst x3
    refine Touches.ite ?_ ?_
    · exact hT
    · refine wr_touches (Touches.has hm rfl) ?_
      exact Touches.rtc (Touches.has hm rfl) hT
  try clear_value x3
  refine Touches.nextI ?_
  refine Touches.ite ?_ ?_
  · exact hT
  · refine startIsland_touches (Touches.inc hm rfl) ?_
    exact upd_power_boot (Touches.has hm rfl) (Touches.has hm rfl) hx3

theorem execStrapSample_touches {id : ℕ} {role : ℕ} {s : State} {d0 : State} (hm : 0x400000020000 &&& mm = 0x400000020000)
    (hd : Touches mm z0 d0) (hT : Touches mm z0 s) :
    Touches mm z0 (Touches.outS d0 (execStrapSample id role s)) := by
  unfold execStrapSample
  extract_lets -merge -underBinder src2 x3
  have hx3 : Touches mm z0 x3 := by
    subst x3
    exact Touches.boot (Touches.has hm rfl) hT
  try clear_value x3
  refine Touches.nextI ?_
  refine Touches.ite ?_ ?_
  · exact hT
  · refine wr_touches (Touches.has hm rfl) ?_
    refine wr_touches (Touches.has hm rfl) ?_
    exact wr_touches (Touches.has hm rfl) hx3

theorem restoreBank_touches {s : State} {b : BankData} (hm : 0xFFFFFFFF00230010 &&& mm = 0xFFFFFFFF00230010)
    (hT : Touches mm z0 s) :
    Touches mm z0 (restoreBank s b) := by
  unfold restoreBank
  extract_lets -merge -underBinder x7 x8 src9 src10 src11 x12 x13
  try clear_value x7
  try clear_value x8
  have hx12 : Touches mm z0 x12 := by
    subst x12
    exact upd_comb_margin_recorder_boot (Touches.has hm rfl) (Touches.has hm rfl) (Touches.has hm rfl) hT
  try clear_value x12
  have hx13 : Touches mm z0 x13 := by
    subst x13
    refine restoreRegs_touches (Touches.inc hm rfl) ?_
    exact wr_touches (Touches.has hm rfl) hx12
  try clear_value x13
  split
  · extract_lets -merge -underBinder x16 src17
    have hx16 : Touches mm z0 x16 := by
      subst x16
      refine Touches.foldl ?_ (fun u x => ?_)
      · exact hx13
      · revert x u; intro u18 y
        beta_reduce
        exact wr_touches (show Nat.testBit _ (32 + 17 % 32) = true from Touches.has hm rfl) (Touches.refl mm _)
    try clear_value x16
    refine wr_touches (Touches.has hm rfl) ?_
    exact Touches.security (Touches.has hm rfl) hx16
  · exact hx13

theorem restoreLost_touches {s : State} {remapOk : Bool} (hm : 0xFFFFFFFF00060014 &&& mm = 0xFFFFFFFF00060014)
    (hT : Touches mm z0 s) :
    Touches mm z0 (restoreLost s remapOk) := by
  unfold restoreLost
  extract_lets -merge -underBinder x3 x4 x5
  have hx3 : Touches mm z0 x3 := by
    subst x3
    exact wr_touches (Touches.has hm rfl) hT
  try clear_value x3
  have hx4 : Touches mm z0 x4 := by
    subst x4
    refine raiseIrq_touches (Touches.has hm rfl) (Touches.has hm rfl) ?_
    exact recordEvent_touches (Touches.inc hm rfl) hx3
  try clear_value x4
  have hx5 : Touches mm z0 x5 := by
    subst x5
    exact firmwareRecord_touches (Touches.inc hm rfl) hx4
  try clear_value x5
  refine Touches.ite ?_ ?_
  · exact hx4
  · refine Touches.ite ?_ ?_
    · exact restoreOf_touches (Touches.inc hm rfl) hx5
    · exact firmwareRecord_touches (Touches.inc hm rfl) hx5

theorem replayWrite_touches {s : State} {ty : ℕ} {i : ℕ} {off : ℕ} {v : ℕ}
    (hm : 0xFFFFFFFF0527FFB4 &&& mm = 0xFFFFFFFF0527FFB4) (hT : Touches mm z0 s) :
    Touches mm z0 (replayWrite s ty i off v).1 := by
  unfold replayWrite
  extract_lets -merge -underBinder x1
  have hx1 : Touches mm z0 x1 := by
    subst x1
    exact blockWrite_touches (Touches.inc hm rfl) hT
  try clear_value x1
  exact Touches.mkI hx1

theorem replayEntries_touches {ty : ℕ} {i : ℕ} {arg2 : List (ℕ × ℕ)} {arg3 : State}
    (hm : 0xFFFFFFFF0527FFB4 &&& mm = 0xFFFFFFFF0527FFB4) (hT : Touches mm z0 arg3) :
    Touches mm z0 (replayEntries ty i arg2 arg3) := by
  unfold replayEntries
  split
  · exact hT
  · split
    · rename_i p0 e1
      have h2 : Touches mm z0 p0 := by
        have e := congrArg Prod.fst e1
        refine Eq.mp (congrArg (Touches mm z0) e) ?_
        clear e e1
        exact replayWrite_touches (Touches.inc hm rfl) hT
      exact replayEntries_touches (Touches.inc hm rfl) h2
    · rename_i p3 e4
      have h5 : Touches mm z0 p3 := by
        have e := congrArg Prod.fst e4
        refine Eq.mp (congrArg (Touches mm z0) e) ?_
        clear e e4
        exact replayWrite_touches (Touches.inc hm rfl) hT
      refine recordEvent_touches (Touches.inc hm rfl) ?_
      exact useFree_touches (Touches.inc hm rfl) h5

theorem resetSelectors_touches {s : State} (hm : 0xFFFFFFFF00000000 &&& mm = 0xFFFFFFFF00000000) (hT : Touches mm z0 s) :
    Touches mm z0 (resetSelectors s) := by
  unfold resetSelectors
  refine Touches.foldl ?_ (fun u x => ?_)
  · exact hT
  · revert x u; intro u0 y
    beta_reduce
    extract_lets -merge -underBinder x2
    try clear_value x2
    refine Touches.foldl ?_ (fun u x => ?_)
    · exact Touches.refl mm _
    · revert x u; intro u3 y
      beta_reduce
      split
      · refine Touches.foldl ?_ (fun u x => ?_)
        · exact Touches.refl mm _
        · revert x u; intro u4 y
          beta_reduce
          exact wr_touches (Touches.anyPage hm rfl _) (Touches.refl mm _)
      · exact Touches.refl mm _

theorem replaySettings_touches {s : State} (hm : 0xFFFFFFFF0527FFB4 &&& mm = 0xFFFFFFFF0527FFB4) (hT : Touches mm z0 s) :
    Touches mm z0 (replaySettings s) := by
  unfold replaySettings
  extract_lets -merge -underBinder x3 x4 src5
  try clear_value x3
  have hx4 : Touches mm z0 x4 := by
    subst x4
    refine resetSelectors_touches (Touches.inc hm rfl) ?_
    refine Touches.foldl ?_ (fun u x => ?_)
    · exact hT
    · revert x u; intro u6 y
      beta_reduce
      exact replayEntries_touches (Touches.inc hm rfl) (Touches.refl mm _)
  try clear_value x4
  exact Touches.boot (Touches.has hm rfl) hx4

theorem powerDomains_touches {s : State} (hm : 0x20 &&& mm = 0x20) (hT : Touches mm z0 s) :
    Touches mm z0 (powerDomains s) := by
  unfold powerDomains
  refine Touches.foldl ?_ (fun u x => ?_)
  · exact hT
  · revert x u; intro u0 y
    beta_reduce
    refine Touches.ite ?_ ?_
    · exact Touches.refl mm _
    · exact setDom_touches (Touches.inc hm rfl) (Touches.refl mm _)

theorem showHops_touches {s : State} (hm : 0x4400000000 &&& mm = 0x4400000000) (hT : Touches mm z0 s) :
    Touches mm z0 (showHops s) := by
  unfold showHops
  refine Touches.foldl ?_ (fun u x => ?_)
  · exact hT
  · revert x u; intro u0 y
    beta_reduce
    extract_lets -merge -underBinder x2
    try clear_value x2
    refine wr_touches (Touches.has hm rfl) ?_
    refine wr_touches (Touches.has hm rfl) ?_
    exact showQuads_touches (Touches.inc hm rfl) (Touches.refl mm _)

theorem execCoresReleased_touches {remapOk : Bool} {s : State} {d0 : State}
    (hm : 0xFFFFFFFF07F7FFF7 &&& mm = 0xFFFFFFFF07F7FFF7) (hd : Touches mm z0 d0) (hT : Touches mm z0 s) :
    Touches mm z0 (Touches.outS d0 (execCoresReleased remapOk s)) := by
  unfold execCoresReleased
  extract_lets -merge -underBinder x9 x10 x11 x12 src13 x14 src15 x16 x17
  have hx9 : Touches mm z0 x9 := by
    subst x9
    split
    · refine Touches.ite ?_ ?_
      · exact restoreBank_touches (Touches.inc hm rfl) hT
      · exact hT
    · exact restoreLost_touches (Touches.inc hm rfl) hT
  try clear_value x9
  have hx10 : Touches mm z0 x10 := by
    subst x10
    refine showHops_touches (Touches.inc hm rfl) ?_
    exact powerDomains_touches (Touches.inc hm rfl) hx9
  try clear_value x10
  have hx11 : Touches mm z0 x11 := by
    subst x11
    refine Touches.ite ?_ ?_
    · exact applyHeld_touches (Touches.inc hm rfl) hx10
    · exact hx10
  try clear_value x11
  try clear_value x12
  have hx14 : Touches mm z0 x14 := by
    subst x14
    refine Touches.ite ?_ ?_
    · refine firmwareRecord_touches (Touches.inc hm rfl) ?_
      exact Touches.power (Touches.has hm rfl) hx11
    · exact hx11
  try clear_value x14
  have hx16 : Touches mm z0 x16 := by
    subst x16
    refine replaySettings_touches (Touches.inc hm rfl) ?_
    exact Touches.boot (Touches.has hm rfl) hx14
  try clear_value x16
  have hx17 : Touches mm z0 x17 := by
    subst x17
    refine Touches.ite ?_ ?_
    · exact hx16
    · exact wr_touches (Touches.has hm rfl) hx16
  try clear_value x17
  refine Touches.nextI ?_
  refine Touches.ite ?_ ?_
  · exact hT
  · refine fatalAction_touches (Touches.inc hm rfl) ?_
    exact wr_touches (Touches.has hm rfl) hx17

theorem execEccInitDone_touches {s : State} {d0 : State} (hm : 0x400000000000180 &&& mm = 0x400000000000180)
    (hd : Touches mm z0 d0) (hT : Touches mm z0 s) :
    Touches mm z0 (Touches.outS d0 (execEccInitDone s)) := by
  unfold execEccInitDone
  extract_lets -merge -underBinder src1
  subst src1
  refine Touches.nextI ?_
  refine Touches.ite ?_ ?_
  · exact wr_touches (Touches.has hm rfl) (Touches.bytes (Touches.has hm rfl) (Touches.has hm rfl) (fun _ => rfl) hT)
  · exact hT

theorem postTest_touches {s : State} {isPipe : Bool} {n : ℕ} {failUnit : ℕ} (hm : 0x300040000 &&& mm = 0x300040000)
    (hT : Touches mm z0 s) :
    Touches mm z0 (postTest s isPipe n failUnit) := by
  unfold postTest
  extract_lets -merge -underBinder x1
  try clear_value x1
  refine Touches.ite ?_ ?_
  · refine raiseIrq_touches (Touches.has hm rfl) (Touches.has hm rfl) ?_
    refine wr_touches (Touches.has hm rfl) ?_
    refine wr_touches (Touches.has hm rfl) ?_
    exact wr_touches (Touches.has hm rfl) hT
  · refine raiseIrq_touches (Touches.has hm rfl) (Touches.has hm rfl) ?_
    refine wr_touches (Touches.has hm rfl) ?_
    refine wr_touches (Touches.has hm rfl) ?_
    exact wr_touches (Touches.has hm rfl) hT

theorem startFailure_touches {s : State} {isPipe : Bool} {bad : List (ℕ × ℕ)} {x : ℕ × ℕ}
    (hm : 0xFFFFFFFF05460030 &&& mm = 0xFFFFFFFF05460030) (hT : Touches mm z0 s) :
    Touches mm z0 (startFailure s isPipe bad x) := by
  unfold startFailure
  extract_lets -merge -underBinder src2 x3
  have hx3 : Touches mm z0 x3 := by
    subst x3
    refine Touches.ite ?_ ?_
    · refine showQuads_touches (Touches.inc hm rfl) ?_
      exact Touches.comb_routerBad (Touches.has hm rfl) hT
    · exact hT
  try clear_value x3
  refine Touches.ite ?_ ?_
  · exact hx3
  · refine Touches.ite ?_ ?_
    · exact askRetire_touches (Touches.inc hm rfl) hx3
    · refine carryOut_touches (Touches.inc hm rfl) ?_
      exact retireRecord_touches (Touches.inc hm rfl) hx3

theorem startTests_touches {s : State} {isPipe : Bool} {bad : List (ℕ × ℕ)}
    (hm : 0xFFFFFFFF05460030 &&& mm = 0xFFFFFFFF05460030) (hT : Touches mm z0 s) :
    Touches mm z0 (startTests s isPipe bad) := by
  unfold startTests
  extract_lets -merge -underBinder x3 x4 x5
  try clear_value x3
  try clear_value x4
  have hx5 : Touches mm z0 x5 := by
    subst x5
    refine Touches.foldl ?_ (fun u x => ?_)
    · exact hT
    · revert x u; intro u6 y
      beta_reduce
      exact postTest_touches (Touches.inc hm rfl) (Touches.refl mm _)
  try clear_value x5
  refine Touches.foldl ?_ (fun u x => ?_)
  · exact hx5
  · revert x u; intro u7 y
    beta_reduce
    exact startFailure_touches (Touches.inc hm rfl) (Touches.refl mm _)

theorem execStartupSelfTestDone_touches {cells : List (ℕ × ℕ)} {pipes : List (ℕ × ℕ)} {s : State} {d0 : State}
    (hm : 0xFFFFFFFF05460030 &&& mm = 0xFFFFFFFF05460030) (hd : Touches mm z0 d0) (hT : Touches mm z0 s) :
    Touches mm z0 (Touches.outS d0 (execStartupSelfTestDone cells pipes s)) := by
  unfold execStartupSelfTestDone
  extract_lets -merge -underBinder x2 x3
  have hx2 : Touches mm z0 x2 := by
    subst x2
    refine startTests_touches (Touches.inc hm rfl) ?_
    exact startTests_touches (Touches.inc hm rfl) hT
  try clear_value x2
  have hx3 : Touches mm z0 x3 := by
    subst x3
    refine Touches.foldl ?_ (fun u x => ?_)
    · exact hx2
    · revert x u; intro u4 y
      beta_reduce
      exact recomputeClass_touches (Touches.inc hm rfl) (Touches.refl mm _)
  try clear_value x3
  refine Touches.nextI ?_
  refine Touches.ite ?_ ?_
  · exact hT
  · exact wr_touches (Touches.has hm rfl) hx3

theorem firstReady_touches {s : State} {t : ℕ} (hm : 0xFFFFFFFF00065F95 &&& mm = 0xFFFFFFFF00065F95) (hT : Touches mm z0 s) :
    Touches mm z0 (firstReady s t) := by
  unfold firstReady
  extract_lets -merge -underBinder x3 x4 x5
  have hx3 : Touches mm z0 x3 := by
    subst x3
    refine wr_touches (Touches.has hm rfl) ?_
    exact wr_touches (Touches.has hm rfl) hT
  try clear_value x3
  have hx4 : Touches mm z0 x4 := by
    subst x4
    refine irqEvent_touches (Touches.inc hm rfl) (Touches.has hm rfl) ?_
    exact useFree_touches (Touches.inc hm rfl) hx3
  try clear_value x4
  have hx5 : Touches mm z0 x5 := by
    subst x5
    exact setQuality_touches (Touches.inc hm rfl) hx4
  try clear_value x5
  refine Touches.ite ?_ ?_
  · exact formAlone_touches (Touches.inc hm rfl) hx4
  · refine Touches.ite ?_ ?_
    · exact beginRestart_touches (Touches.inc hm rfl) hx5
    · exact hx5

theorem execStartupReady_touches {s : State} {d0 : State} (hm : 0xFFFFFFFF00065F95 &&& mm = 0xFFFFFFFF00065F95)
    (hd : Touches mm z0 d0) (hT : Touches mm z0 s) :
    Touches mm z0 (Touches.outS d0 (execStartupReady s)) := by
  unfold execStartupReady
  refine Touches.nextI ?_
  split
  · exact hT
  · extract_lets -merge -underBinder src2 x3
    have hx3 : Touches mm z0 x3 := by
      subst x3
      refine wr_touches (Touches.has hm rfl) ?_
      exact Touches.host (Touches.has hm rfl) hT
    try clear_value x3
    refine Touches.ite ?_ ?_
    · exact hT
    · refine Touches.ite ?_ ?_
      · exact hx3
      · exact firstReady_touches (Touches.inc hm rfl) hx3

theorem fallBack_touches {s : State} (hm : 0x580000000060010 &&& mm = 0x580000000060010) (hT : Touches mm z0 s) :
    Touches mm z0 (fallBack s) := by
  unfold fallBack
  extract_lets -merge -underBinder src2 x3
  have hx3 : Touches mm z0 x3 := by
    subst x3
    refine statusEvent_touches (Touches.inc hm rfl) ?_
    exact Touches.boot (Touches.has hm rfl) hT
  try clear_value x3
  refine beginWarm_touches (Touches.inc hm rfl) ?_
  exact wr_touches (Touches.has hm rfl) hx3

theorem execPerstNRelease_touches {s : State} {d0 : State} (hm : 0x400 &&& mm = 0x400) (hd : Touches mm z0 d0)
    (hT : Touches mm z0 s) :
    Touches mm z0 (Touches.outS d0 (execPerstNRelease s)) := by
  unfold execPerstNRelease
  extract_lets -merge -underBinder src3 x4 src5
  have hx4 : Touches mm z0 x4 := by
    subst x4
    exact Touches.host (Touches.has hm rfl) hT
  try clear_value x4
  refine Touches.nextI ?_
  refine Touches.ite ?_ ?_
  · exact Touches.host (Touches.has hm rfl) hx4
  · exact hx4

theorem execPerstNAssert_touches {cut : List (ℕ × List Byte)} {s : State} {d0 : State}
    (hm : 0xFFFFFFFF07F7FFF7 &&& mm = 0xFFFFFFFF07F7FFF7) (hd : Touches mm z0 d0) (hT : Touches mm z0 s) :
    Touches mm z0 (Touches.outS d0 (execPerstNAssert cut s)) := by
  unfold execPerstNAssert
  extract_lets -merge -underBinder src4 x5 src6 x7
  have hx5 : Touches mm z0 x5 := by
    subst x5
    exact hostPortReset_touches (Touches.inc hm rfl) hT
  try clear_value x5
  have hx7 : Touches mm z0 x7 := by
    subst x7
    exact Touches.host (Touches.has hm rfl) hx5
  try clear_value x7
  refine Touches.nextI ?_
  refine Touches.ite ?_ ?_
  · exact Touches.host (Touches.has hm rfl) hT
  · split
    · exact beginWarm_touches (Touches.inc hm rfl) hx7
    · refine Touches.ite ?_ ?_
      · exact coldReset_touches (Touches.inc hm rfl) hx7
      · exact hx7
    · exact hx7

theorem execReadinessTimeout_touches {s : State} {d0 : State} (hm : 0x580008000060011 &&& mm = 0x580008000060011)
    (hd : Touches mm z0 d0) (hT : Touches mm z0 s) :
    Touches mm z0 (Touches.outS d0 (execReadinessTimeout s)) := by
  unfold execReadinessTimeout
  refine Touches.nextI ?_
  split
  · exact hT
  · extract_lets -merge -underBinder x2 x3
    have hx2 : Touches mm z0 x2 := by
      subst x2
      exact reachTime_touches (Touches.inc hm rfl) hT
    try clear_value x2
    have hx3 : Touches mm z0 x3 := by
      subst x3
      refine wr_touches (Touches.has hm rfl) ?_
      refine wr_touches (Touches.has hm rfl) ?_
      exact wr_touches (Touches.has hm rfl) hx2
    try clear_value x3
    refine Touches.ite ?_ ?_
    · exact hT
    · refine Touches.ite ?_ ?_
      · exact fallBack_touches (Touches.inc hm rfl) hx2
      · exact irqEvent_touches (Touches.inc hm rfl) (Touches.has hm rfl) hx3

theorem askCold_touches {s : State} {cause : ℕ} (hm : 0xFFFFFFFF07F7FFF7 &&& mm = 0xFFFFFFFF07F7FFF7) (hT : Touches mm z0 s) :
    Touches mm z0 (askCold s cause) := by
  unfold askCold
  refine Touches.ite ?_ ?_
  · exact hT
  · exact coldReset_touches (Touches.inc hm rfl) hT

theorem bootActions_touches {s : State} {v : ℕ} (hm : 0xFFFFFFFF07F7FFF7 &&& mm = 0xFFFFFFFF07F7FFF7) (hT : Touches mm z0 s) :
    Touches mm z0 (bootActions s v) := by
  unfold bootActions
  refine Touches.ite ?_ ?_
  · exact askCold_touches (Touches.inc hm rfl) hT
  · refine Touches.ite ?_ ?_
    · exact beginWarm_touches (Touches.inc hm rfl) hT
    · refine Touches.ite ?_ ?_
      · exact beginWarm_touches (Touches.inc hm rfl) hT
      · exact hT

theorem execCold_touches {w : Writer} {s : State} {d0 : State} (hm : 0xFFFFFFFF07F7FFF7 &&& mm = 0xFFFFFFFF07F7FFF7)
    (hd : Touches mm z0 d0) (hT : Touches mm z0 s) :
    Touches mm z0 (Touches.outS d0 (execCold w s)) := by
  unfold execCold
  refine Touches.nextI ?_
  refine regWrite_touches (Touches.inc hm rfl) (fun u0 u1 hu => ?_) ?_
  · revert hu u1 u0
    intro bu0 u0_0 hu0
    beta_reduce
    exact bootActions_touches (Touches.inc hm rfl) hu0
  · exact hT

theorem execWarm_touches {w : Writer} {s : State} {d0 : State} (hm : 0xFFFFFFFF07F7FFF7 &&& mm = 0xFFFFFFFF07F7FFF7)
    (hd : Touches mm z0 d0) (hT : Touches mm z0 s) :
    Touches mm z0 (Touches.outS d0 (execWarm w s)) := by
  unfold execWarm
  refine Touches.nextI ?_
  refine regWrite_touches (Touches.inc hm rfl) (fun u0 u1 hu => ?_) ?_
  · revert hu u1 u0
    intro bu0 u0_0 hu0
    beta_reduce
    exact bootActions_touches (Touches.inc hm rfl) hu0
  · exact hT

theorem execRecoveryRequest_touches {w : Writer} {s : State} {d0 : State}
    (hm : 0xFFFFFFFF07F7FFF7 &&& mm = 0xFFFFFFFF07F7FFF7) (hd : Touches mm z0 d0) (hT : Touches mm z0 s) :
    Touches mm z0 (Touches.outS d0 (execRecoveryRequest w s)) := by
  unfold execRecoveryRequest
  refine Touches.nextI ?_
  refine regWrite_touches (Touches.inc hm rfl) (fun u0 u1 hu => ?_) ?_
  · revert hu u1 u0
    intro bu0 u0_0 hu0
    beta_reduce
    exact bootActions_touches (Touches.inc hm rfl) hu0
  · exact hT

theorem execWatchdogExpiry_touches {s : State} {d0 : State} (hm : 0x20000 &&& mm = 0x20000) (hd : Touches mm z0 d0)
    (hT : Touches mm z0 s) :
    Touches mm z0 (Touches.outS d0 (execWatchdogExpiry s)) := by
  unfold execWatchdogExpiry
  refine Touches.nextI ?_
  exact beginWarm_touches (Touches.inc hm rfl) hT

theorem execWarmWaitExpiry_touches {s : State} {d0 : State} (hm : 0xFFFFFFFF07F7FFF7 &&& mm = 0xFFFFFFFF07F7FFF7)
    (hd : Touches mm z0 d0) (hT : Touches mm z0 s) :
    Touches mm z0 (Touches.outS d0 (execWarmWaitExpiry s)) := by
  unfold execWarmWaitExpiry
  refine Touches.nextI ?_
  split
  · refine Touches.ite ?_ ?_
    · refine coldReset_touches (Touches.inc hm rfl) ?_
      exact reachTime_touches (Touches.inc hm rfl) hT
    · exact hT
  · exact hT

theorem scrubPool_touches {s : State} (hm : 0x180 &&& mm = 0x180) (hT : Touches mm z0 s) :
    Touches mm z0 (scrubPool s) := by
  unfold scrubPool
  refine Touches.foldl ?_ (fun u x => ?_)
  · exact hT
  · revert x u; intro u0 y
    beta_reduce
    refine Touches.ite ?_ ?_
    · exact memZero_touches (Touches.has hm rfl) (Touches.has hm rfl) (Touches.refl mm _)
    · exact Touches.refl mm _

theorem warmState_touches {s : State} (hm : 0xFFFFFFFF07F7FFF7 &&& mm = 0xFFFFFFFF07F7FFF7)
    (hT : Touches mm z0 s) : Touches mm z0 (warmState s) := by
  unfold warmState
  extract_lets -merge -underBinder x1 x2 x3 x4 x5 x6 src1 src2 x7 x8 x9
  have hx1 : Touches mm z0 x1 := scrubPool_touches (Touches.inc hm rfl) hT
  have hx7 : Touches mm z0 x7 := all_touches (s := x1) (every hm) rfl id hx1
  have hx8 : Touches mm z0 x8 := by
    subst x8
    split
    · exact wr_touches (Touches.has hm rfl) (wr_touches (Touches.has hm rfl) hx7)
    · exact hx7
  have hx9 : Touches mm z0 x9 :=
    Touches.foldl (powerDomains_touches (Touches.inc hm rfl) hx8) (fun u m =>
      setDom_touches (Touches.inc hm rfl) (wr_touches (Touches.has hm rfl) (Touches.refl mm _)))
  exact showHops_touches (Touches.inc hm rfl) (setQuality_touches (Touches.inc hm rfl)
    (wr_touches (Touches.has hm rfl) hx9))

theorem flushNow_touches {s : State} {us : ℕ} (hm : 0x380000000060011 &&& mm = 0x380000000060011) (hT : Touches mm z0 s) :
    Touches mm z0 (flushNow s us) := by
  unfold flushNow
  refine commitFlush_touches (Touches.inc hm rfl) ?_
  refine commitFlush_touches (Touches.inc hm rfl) ?_
  refine triggerFlush_touches (Touches.inc hm rfl) ?_
  exact commitFlush_touches (Touches.inc hm rfl) hT

theorem execWarmResetProceed_touches {e : StartEnv} {us : ℕ} {cut : List (ℕ × List Byte)} {s : State} {d0 : State}
    (hm : 0xFFFFFFFF07F7FFF7 &&& mm = 0xFFFFFFFF07F7FFF7) (hd : Touches mm z0 d0) (hT : Touches mm z0 s) :
    Touches mm z0 (Touches.outS d0 (execWarmResetProceed e us cut s)) := by
  unfold execWarmResetProceed
  extract_lets -merge -underBinder x7 x8 x9 x10 x11 src12 x13
  try clear_value x7
  have hx8 : Touches mm z0 x8 := by
    subst x8
    refine hostPortReset_touches (Touches.inc hm rfl) ?_
    exact endAllRequests_touches (Touches.inc hm rfl) hT
  try clear_value x8
  have hx9 : Touches mm z0 x9 := by
    subst x9
    exact sendLeaving_touches (Touches.inc hm rfl) hx8
  try clear_value x9
  have hx10 : Touches mm z0 x10 := by
    subst x10
    exact reachTime_touches (Touches.inc hm rfl) hx9
  try clear_value x10
  have hx11 : Touches mm z0 x11 := by
    subst x11
    refine Touches.ite ?_ ?_
    · exact twinLinkDown_touches (Touches.inc hm rfl) hx10
    · exact hx10
  try clear_value x11
  have hx13 : Touches mm z0 x13 := by
    subst x13
    exact Touches.host (Touches.has hm rfl) hx11
  try clear_value x13
  refine Touches.nextI ?_
  refine Touches.ite ?_ ?_
  · exact hT
  · refine startIsland_touches (Touches.inc hm rfl) ?_
    refine warmState_touches (Touches.inc hm rfl) ?_
    exact flushNow_touches (Touches.inc hm rfl) hx13

theorem beginPreset_touches {s : State} {d : ℕ} (hm : 0xD81EA8000065FB0 &&& mm = 0xD81EA8000065FB0) (hT : Touches mm z0 s) :
    Touches mm z0 (beginPreset s d) := by
  unfold beginPreset
  extract_lets -merge -underBinder src4 x5 x6 x7
  have hx5 : Touches mm z0 x5 := by
    subst x5
    refine wr_touches (Touches.has hm rfl) ?_
    exact Touches.boot (Touches.has hm rfl) hT
  try clear_value x5
  have hx6 : Touches mm z0 x6 := by
    subst x6
    refine Touches.ite ?_ ?_
    · exact hx5
    · exact setDom_touches (Touches.inc hm rfl) hx5
  try clear_value x6
  try clear_value x7
  refine Touches.ite ?_ ?_
  · refine Touches.ite ?_ ?_
    · exact portDown_touches (Touches.inc hm rfl) hx6
    · refine Touches.ite ?_ ?_
      · exact hx6
      · refine wr_touches (Touches.has hm rfl) ?_
        refine wr_touches (Touches.has hm rfl) ?_
        exact setPort_touches (Touches.inc hm rfl) hx6
  · exact hx6

theorem presetGo_touches {s : State} (hm : 0xD81EA8000065FB0 &&& mm = 0xD81EA8000065FB0) (hT : Touches mm z0 s) :
    Touches mm z0 (presetGo s) := by
  unfold presetGo
  extract_lets -merge -underBinder x1
  try clear_value x1
  refine Touches.ite ?_ ?_
  · exact refuseWrite_touches (Touches.has hm rfl) hT
  · split
    · exact refuseWrite_touches (Touches.has hm rfl) hT
    · refine Touches.ite ?_ ?_
      · exact hT
      · exact beginPreset_touches (Touches.inc hm rfl) hT

theorem presetWrite_touches {s : State} {w : Writer} {v : ℕ} (hm : 0xFFFFFFFF00065FB4 &&& mm = 0xFFFFFFFF00065FB4)
    (hT : Touches mm z0 s) :
    Touches mm z0 (presetWrite s w v) := by
  unfold presetWrite
  extract_lets -merge -underBinder x1
  have hx1 : Touches mm z0 x1 := by
    subst x1
    exact wordWrite_touches (Touches.inc hm rfl) hT
  try clear_value x1
  refine Touches.ite ?_ ?_
  · exact presetGo_touches (Touches.inc hm rfl) hx1
  · exact hx1

theorem execPartialReset_touches {w : Writer} {d : ℕ} {s : State} {d0 : State}
    (hm : 0xFFFFFFFF00065FB4 &&& mm = 0xFFFFFFFF00065FB4) (hd : Touches mm z0 d0) (hT : Touches mm z0 s) :
    Touches mm z0 (Touches.outS d0 (execPartialReset w d s)) := by
  unfold execPartialReset
  refine Touches.nextI ?_
  exact presetWrite_touches (Touches.inc hm rfl) hT

theorem resetPage_touches {also : List Fld} {s : State} {ty i : Nat} (hm : 0xFFFFFFFF00000000 &&& mm = 0xFFFFFFFF00000000)
    (hT : Touches mm z0 s) : Touches mm z0 (resetPage also s ty i) :=
  Touches.allRegs (Touches.anyPage hm rfl) hT

theorem presetEffect_touches {s : State} {d : ℕ} (hm : 0xFFFFFFFF01C00000 &&& mm = 0xFFFFFFFF01C00000) (hT : Touches mm z0 s) :
    Touches mm z0 (presetEffect s d) := by
  unfold presetEffect
  extract_lets -merge -underBinder x4 x5 x6 x7
  try clear_value x4
  try clear_value x5
  have hx6 : Touches mm z0 x6 := by
    subst x6
    split
    · exact clearResident_touches (Touches.inc hm rfl) hT
    · exact hT
  try clear_value x6
  have hx7 : Touches mm z0 x7 := by
    subst x7
    split
    · refine Touches.ite ?_ ?_
      · exact setPipe_touches (Touches.inc hm rfl) hx6
      · exact setCell_touches (Touches.inc hm rfl) hx6
    · exact hx6
  try clear_value x7
  refine Touches.ite ?_ ?_
  · exact resetPage_touches (Touches.inc hm rfl) hx7
  · refine Touches.ite ?_ ?_
    · exact resetPage_touches (Touches.inc hm rfl) hT
    · refine Touches.ite ?_ ?_
      · exact resetPage_touches (Touches.inc hm rfl) hT
      · refine Touches.ite ?_ ?_
        · exact resetPage_touches (Touches.inc hm rfl) hT
        · exact hT

theorem execPartialResetDone_touches {s : State} {d0 : State} (hm : 0xFFFFFFFF01C60830 &&& mm = 0xFFFFFFFF01C60830)
    (hd : Touches mm z0 d0) (hT : Touches mm z0 s) :
    Touches mm z0 (Touches.outS d0 (execPartialResetDone s)) := by
  unfold execPartialResetDone
  refine Touches.nextI ?_
  split
  · exact hT
  · extract_lets -merge -underBinder src5 x6 x7 x8 x9
    have hx6 : Touches mm z0 x6 := by
      subst x6
      refine presetEffect_touches (Touches.inc hm rfl) ?_
      exact Touches.boot (Touches.has hm rfl) hT
    try clear_value x6
    have hx7 : Touches mm z0 x7 := by
      subst x7
      exact setDom_touches (Touches.inc hm rfl) hx6
    try clear_value x7
    have hx8 : Touches mm z0 x8 := by
      subst x8
      refine wr_touches (Touches.has hm rfl) ?_
      exact wr_touches (Touches.has hm rfl) hx7
    try clear_value x8
    have hx9 : Touches mm z0 x9 := by
      subst x9
      exact irqEvent_touches (Touches.inc hm rfl) (Touches.has hm rfl) hx8
    try clear_value x9
    refine Touches.ite ?_ ?_
    · exact hT
    · refine Touches.ite ?_ ?_
      · exact startTraining_touches (Touches.inc hm rfl) hx9
      · exact hx9

end Sys2Proof.Laws
end

