-- ==== Sys2Proof/Laws/FrameFirmware.lean ====
section
/-!
SUPPORT. What each operation of `Machine/Firmware.lean` may touch: the mask names the parts of the state in which its result can
differ from the state it started from.
-/

set_option linter.unusedVariables false
set_option linter.unusedTactic false

namespace Sys2Proof.Laws

open Sys2Proof Sys2Proof.Machine Sys2Proof.Safety

variable {mm : Nat} {z0 : State}

theorem fwuAction_touches {s : State} {w : Writer} {k : State → State} (hm : 0xFFFFFFFF00060014 &&& mm = 0xFFFFFFFF00060014)
    (hk2 : ∀ z u0, Touches mm z u0 → Touches mm z (k u0)) (hT : Touches mm z0 s) :
    Touches mm z0 (fwuAction s w k) := by
  unfold fwuAction
  refine regWrite_touches (Touches.inc hm rfl) (fun u0 u1 hu => ?_) ?_
  · revert hu u1 u0
    intro bu0 u0_0 hu0
    beta_reduce
    exact hk2 _ _ hu0
  · exact hT

theorem postResult_touches {s : State} {index : ℕ} {st : Status} (hm : 0x380000000060010 &&& mm = 0x380000000060010)
    (hT : Touches mm z0 s) :
    Touches mm z0 (postResult s index st) := by
  unfold postResult
  extract_lets -merge -underBinder x2 x3
  have hx2 : Touches mm z0 x2 := by
    subst x2
    refine wr_touches (Touches.has hm rfl) ?_
    refine wr_touches (Touches.has hm rfl) ?_
    exact wr_touches (Touches.has hm rfl) hT
  try clear_value x2
  have hx3 : Touches mm z0 x3 := by
    subst x3
    refine Touches.ite ?_ ?_
    · exact incSat_touches (Touches.has hm rfl) hx2
    · exact hx2
  try clear_value x3
  refine Touches.ite ?_ ?_
  · exact irqEvent_touches (Touches.inc hm rfl) (Touches.has hm rfl) hx2
  · refine raiseIrq_touches (Touches.has hm rfl) (Touches.has hm rfl) ?_
    exact statusEvent_touches (Touches.inc hm rfl) hx3

theorem beginStaging_touches {s : State} {e : StartEnv} {m : List Byte} {chain : Bool}
    (hm : 0x600000000020000 &&& mm = 0x600000000020000) (hT : Touches mm z0 s) :
    Touches mm z0 (beginStaging s e m chain) := by
  unfold beginStaging
  extract_lets -merge -underBinder x7 x8 x9 x10 src11 x12 x13
  try clear_value x7
  try clear_value x8
  have hx9 : Touches mm z0 x9 := by
    subst x9
    refine Touches.ite ?_ ?_
    · exact wr_touches (Touches.has hm rfl) hT
    · exact hT
  try clear_value x9
  have hx10 : Touches mm z0 x10 := by
    subst x10
    exact norProgram_touches (Touches.inc hm rfl) hx9
  try clear_value x10
  have hx12 : Touches mm z0 x12 := by
    subst x12
    exact Touches.boot (Touches.has hm rfl) hx10
  try clear_value x12
  have hx13 : Touches mm z0 x13 := by
    subst x13
    refine wr_touches (Touches.has hm rfl) ?_
    refine wr_touches (Touches.has hm rfl) ?_
    exact wr_touches (Touches.has hm rfl) hx12
  try clear_value x13
  refine Touches.ite ?_ ?_
  · exact hT
  · refine wr_touches (Touches.has hm rfl) ?_
    exact setBitmap_touches (Touches.inc hm rfl) hx13

theorem doBegin_touches {s : State} {data : Option (List Byte)} {e : StartEnv}
    (hm : 0x780000000060010 &&& mm = 0x780000000060010) (hT : Touches mm z0 s) :
    Touches mm z0 (doBegin s data e) := by
  unfold doBegin
  extract_lets -merge -underBinder x1
  try clear_value x1
  split
  · exact postResult_touches (Touches.inc hm rfl) hT
  · refine Touches.ite ?_ ?_
    · exact postResult_touches (Touches.inc hm rfl) hT
    · split
      · exact postResult_touches (Touches.inc hm rfl) hT
      · refine postResult_touches (Touches.inc hm rfl) ?_
        exact beginStaging_touches (Touches.inc hm rfl) hT

theorem execFwuBegin_touches {w : Writer} {data : Option (List Byte)} {e : StartEnv} {s : State} {d0 : State}
    (hm : 0xFFFFFFFF00060014 &&& mm = 0xFFFFFFFF00060014) (hd : Touches mm z0 d0) (hT : Touches mm z0 s) :
    Touches mm z0 (Touches.outS d0 (execFwuBegin w data e s)) := by
  unfold execFwuBegin
  refine Touches.nextI ?_
  refine fwuAction_touches (Touches.inc hm rfl) (fun u0 u1 hu => ?_) ?_
  · revert hu u1 u0
    intro bu0 u0_0 hu0
    beta_reduce
    exact doBegin_touches (Touches.inc hm rfl) hu0
  · exact hT

theorem takeChunk_touches {s : State} {i : ℕ} {bs : List Byte} {chain : Bool}
    (hm : 0x380000000060010 &&& mm = 0x380000000060010) (hT : Touches mm z0 s) :
    Touches mm z0 (takeChunk s i bs chain) := by
  unfold takeChunk
  extract_lets -merge -underBinder src1
  refine Touches.ite ?_ ?_
  · exact postResult_touches (Touches.inc hm rfl) hT
  · refine Touches.ite ?_ ?_
    · exact postResult_touches (Touches.inc hm rfl) hT
    · exact Touches.boot (Touches.has hm rfl) hT

theorem doChunk_touches {s : State} {data : Option (List Byte)} (hm : 0x380000000060010 &&& mm = 0x380000000060010)
    (hT : Touches mm z0 s) :
    Touches mm z0 (doChunk s data) := by
  unfold doChunk
  extract_lets -merge -underBinder x1
  try clear_value x1
  refine Touches.ite ?_ ?_
  · exact refuseWrite_touches (Touches.has hm rfl) hT
  · split
    · exact postResult_touches (Touches.inc hm rfl) hT
    · split
      · exact postResult_touches (Touches.inc hm rfl) hT
      · exact takeChunk_touches (Touches.inc hm rfl) hT

theorem execChunkGo_touches {w : Writer} {data : Option (List Byte)} {s : State} {d0 : State}
    (hm : 0xFFFFFFFF00060014 &&& mm = 0xFFFFFFFF00060014) (hd : Touches mm z0 d0) (hT : Touches mm z0 s) :
    Touches mm z0 (Touches.outS d0 (execChunkGo w data s)) := by
  unfold execChunkGo
  refine Touches.nextI ?_
  refine fwuAction_touches (Touches.inc hm rfl) (fun u0 u1 hu => ?_) ?_
  · revert hu u1 u0
    intro bu0 u0_0 hu0
    beta_reduce
    exact doChunk_touches (Touches.inc hm rfl) hu0
  · exact hT

theorem chunkStaged_touches {s : State} {i : ℕ} (hm : 0xFFFFFFFF00060010 &&& mm = 0xFFFFFFFF00060010) (hT : Touches mm z0 s) :
    Touches mm z0 (chunkStaged s i) := by
  unfold chunkStaged
  extract_lets -merge -underBinder x4 x5 x6 x7
  try clear_value x4
  have hx5 : Touches mm z0 x5 := by
    subst x5
    exact wr_touches (Touches.anyPage hm rfl _) hT
  try clear_value x5
  have hx6 : Touches mm z0 x6 := by
    subst x6
    refine incSat_touches (Touches.has hm rfl) ?_
    exact wr_touches (Touches.has hm rfl) hx5
  try clear_value x6
  have hx7 : Touches mm z0 x7 := by
    subst x7
    exact postResult_touches (Touches.inc hm rfl) hx6
  try clear_value x7
  refine Touches.ite ?_ ?_
  · refine triggerFlush_touches (Touches.inc hm rfl) ?_
    refine irqEvent_touches (Touches.inc hm rfl) (Touches.has hm rfl) ?_
    exact wr_touches (Touches.has hm rfl) hx7
  · exact hx7

theorem execChunkProgramDone_touches {ok : Bool} {s : State} {d0 : State}
    (hm : 0xFFFFFFFF00060014 &&& mm = 0xFFFFFFFF00060014) (hd : Touches mm z0 d0) (hT : Touches mm z0 s) :
    Touches mm z0 (Touches.outS d0 (execChunkProgramDone ok s)) := by
  unfold execChunkProgramDone
  refine Touches.nextI ?_
  split
  · exact hT
  · extract_lets -merge -underBinder src3 x4 x5
    have hx4 : Touches mm z0 x4 := by
      subst x4
      exact Touches.boot (Touches.has hm rfl) hT
    try clear_value x4
    try clear_value x5
    refine Touches.ite ?_ ?_
    · refine chunkStaged_touches (Touches.inc hm rfl) ?_
      exact norProgram_touches (Touches.inc hm rfl) hx4
    · refine postResult_touches (Touches.inc hm rfl) ?_
      refine useFree_touches (Touches.inc hm rfl) ?_
      exact norProgram_touches (Touches.inc hm rfl) hx4

theorem doActivate_touches {s : State} (hm : 0x700000000020010 &&& mm = 0x700000000020010) (hT : Touches mm z0 s) :
    Touches mm z0 (doActivate s) := by
  unfold doActivate
  extract_lets -merge -underBinder x2 src3
  have hx2 : Touches mm z0 x2 := by
    subst x2
    refine wr_touches (Touches.has hm rfl) ?_
    exact wr_touches (Touches.has hm rfl) hT
  try clear_value x2
  refine Touches.ite ?_ ?_
  · exact refuseWrite_touches (Touches.has hm rfl) hT
  · refine triggerFlush_touches (Touches.inc hm rfl) ?_
    refine wr_touches (Touches.has hm rfl) ?_
    exact Touches.boot (Touches.has hm rfl) hx2

theorem execActivate_touches {w : Writer} {s : State} {d0 : State} (hm : 0xFFFFFFFF00060014 &&& mm = 0xFFFFFFFF00060014)
    (hd : Touches mm z0 d0) (hT : Touches mm z0 s) :
    Touches mm z0 (Touches.outS d0 (execActivate w s)) := by
  unfold execActivate
  refine Touches.nextI ?_
  refine fwuAction_touches (Touches.inc hm rfl) (fun u0 u1 hu => ?_) ?_
  · revert hu u1 u0
    intro bu0 u0_0 hu0
    beta_reduce
    exact doActivate_touches (Touches.inc hm rfl) hu0
  · exact hT

theorem clearStaging_touches {s : State} (hm : 0x200000000020000 &&& mm = 0x200000000020000) (hT : Touches mm z0 s) :
    Touches mm z0 (clearStaging s) := by
  unfold clearStaging
  extract_lets -merge -underBinder src2 x3
  have hx3 : Touches mm z0 x3 := by
    subst x3
    exact Touches.boot (Touches.has hm rfl) hT
  try clear_value x3
  refine setBitmap_touches (Touches.inc hm rfl) ?_
  refine wr_touches (Touches.has hm rfl) ?_
  exact wr_touches (Touches.has hm rfl) hx3

theorem doAbort_touches {s : State} (hm : 0x600000000020000 &&& mm = 0x600000000020000) (hT : Touches mm z0 s) :
    Touches mm z0 (doAbort s) := by
  unfold doAbort
  extract_lets -merge -underBinder x1
  have hx1 : Touches mm z0 x1 := by
    subst x1
    refine Touches.ite ?_ ?_
    · exact wr_touches (Touches.has hm rfl) hT
    · exact hT
  try clear_value x1
  refine Touches.ite ?_ ?_
  · exact hT
  · refine clearStaging_touches (Touches.inc hm rfl) ?_
    exact norProgram_touches (Touches.inc hm rfl) hx1

theorem execAbort_touches {w : Writer} {s : State} {d0 : State} (hm : 0xFFFFFFFF00060014 &&& mm = 0xFFFFFFFF00060014)
    (hd : Touches mm z0 d0) (hT : Touches mm z0 s) :
    Touches mm z0 (Touches.outS d0 (execAbort w s)) := by
  unfold execAbort
  refine Touches.nextI ?_
  refine fwuAction_touches (Touches.inc hm rfl) (fun u0 u1 hu => ?_) ?_
  · revert hu u1 u0
    intro bu0 u0_0 hu0
    beta_reduce
    exact doAbort_touches (Touches.inc hm rfl) hu0
  · exact hT

theorem doHealth_touches {s : State} (hm : 0x700000000020010 &&& mm = 0x700000000020010) (hT : Touches mm z0 s) :
    Touches mm z0 (doHealth s) := by
  unfold doHealth
  extract_lets -merge -underBinder x6 x7 x8 x9 src10 x11
  try clear_value x6
  have hx7 : Touches mm z0 x7 := by
    subst x7
    refine wr_touches (Touches.has hm rfl) ?_
    refine wr_touches (Touches.has hm rfl) ?_
    exact wr_touches (Touches.has hm rfl) hT
  try clear_value x7
  have hx8 : Touches mm z0 x8 := by
    subst x8
    refine wr_touches (Touches.has hm rfl) ?_
    refine wr_touches (Touches.has hm rfl) ?_
    exact wr_touches (Touches.has hm rfl) hx7
  try clear_value x8
  try clear_value x9
  have hx11 : Touches mm z0 x11 := by
    subst x11
    exact Touches.boot (Touches.has hm rfl) hx8
  try clear_value x11
  refine Touches.ite ?_ ?_
  · exact refuseWrite_touches (Touches.has hm rfl) hT
  · refine triggerFlush_touches (Touches.inc hm rfl) ?_
    exact clearStaging_touches (Touches.inc hm rfl) hx11

theorem execHealth_touches {w : Writer} {s : State} {d0 : State} (hm : 0xFFFFFFFF00060014 &&& mm = 0xFFFFFFFF00060014)
    (hd : Touches mm z0 d0) (hT : Touches mm z0 s) :
    Touches mm z0 (Touches.outS d0 (execHealth w s)) := by
  unfold execHealth
  refine Touches.nextI ?_
  refine fwuAction_touches (Touches.inc hm rfl) (fun u0 u1 hu => ?_) ?_
  · revert hu u1 u0
    intro bu0 u0_0 hu0
    beta_reduce
    exact doHealth_touches (Touches.inc hm rfl) hu0
  · exact hT

theorem execTrialExpiry_touches {s : State} {d0 : State} (hm : 0x580000000060010 &&& mm = 0x580000000060010)
    (hd : Touches mm z0 d0) (hT : Touches mm z0 s) :
    Touches mm z0 (Touches.outS d0 (execTrialExpiry s)) := by
  unfold execTrialExpiry
  refine Touches.nextI ?_
  refine Touches.ite ?_ ?_
  · exact fallBack_touches (Touches.inc hm rfl) hT
  · exact hT

theorem execTrialFlushTimer_touches {s : State} {d0 : State} (hm : 0x500000000020010 &&& mm = 0x500000000020010)
    (hd : Touches mm z0 d0) (hT : Touches mm z0 s) :
    Touches mm z0 (Touches.outS d0 (execTrialFlushTimer s)) := by
  unfold execTrialFlushTimer
  extract_lets -merge -underBinder x2 src3
  try clear_value x2
  refine Touches.nextI ?_
  refine Touches.ite ?_ ?_
  · refine triggerFlush_touches (Touches.inc hm rfl) ?_
    refine wr_touches (Touches.has hm rfl) ?_
    exact Touches.boot (Touches.has hm rfl) hT
  · exact hT

theorem sendParent_touches {s : State} {m : Msg} (hm : 0x800 &&& mm = 0x800) (hT : Touches mm z0 s) :
    Touches mm z0 (sendParent s m) := by
  unfold sendParent
  refine Touches.ite ?_ ?_
  · exact hT
  · exact sendOn_touches (Touches.inc hm rfl) hT

theorem refuseChain_touches {s : State} (hm : 0x380000000060810 &&& mm = 0x380000000060810) (hT : Touches mm z0 s) :
    Touches mm z0 (refuseChain s) := by
  unfold refuseChain
  refine irqEvent_touches (Touches.inc hm rfl) (Touches.has hm rfl) ?_
  exact sendParent_touches (Touches.inc hm rfl) hT

theorem execChainManifest_touches {m : List Byte} {e : StartEnv} {s : State} {d0 : State}
    (hm : 0x780000000060810 &&& mm = 0x780000000060810) (hd : Touches mm z0 d0) (hT : Touches mm z0 s) :
    Touches mm z0 (Touches.outS d0 (execChainManifest m e s)) := by
  unfold execChainManifest
  refine Touches.nextI ?_
  refine Touches.ite ?_ ?_
  · exact hT
  · refine Touches.ite ?_ ?_
    · exact refuseChain_touches (Touches.inc hm rfl) hT
    · split
      · refine refuseChain_touches (Touches.inc hm rfl) ?_
        exact postResult_touches (Touches.inc hm rfl) hT
      · refine postResult_touches (Touches.inc hm rfl) ?_
        exact beginStaging_touches (Touches.inc hm rfl) hT

theorem execChainChunk_touches {i : ℕ} {bs : List Byte} {s : State} {d0 : State}
    (hm : 0x380000000060010 &&& mm = 0x380000000060010) (hd : Touches mm z0 d0) (hT : Touches mm z0 s) :
    Touches mm z0 (Touches.outS d0 (execChainChunk i bs s)) := by
  unfold execChainChunk
  refine Touches.nextI ?_
  refine Touches.ite ?_ ?_
  · exact hT
  · split
    · exact postResult_touches (Touches.inc hm rfl) hT
    · exact takeChunk_touches (Touches.inc hm rfl) hT

theorem setChild_touches {s : State} {p : ℕ} {c : Child} (hm : 0x20000 &&& mm = 0x20000) (hT : Touches mm z0 s) :
    Touches mm z0 (setChild s p c) := by
  unfold setChild
  extract_lets -merge -underBinder src1
  exact Touches.boot (Touches.has hm rfl) hT

theorem execChainForward_touches {p : ℕ} {s : State} {d0 : State} (hm : 0x20800 &&& mm = 0x20800) (hd : Touches mm z0 d0)
    (hT : Touches mm z0 s) :
    Touches mm z0 (Touches.outS d0 (execChainForward p s)) := by
  unfold execChainForward
  extract_lets -merge -underBinder x1
  try clear_value x1
  refine Touches.nextI ?_
  refine Touches.ite ?_ ?_
  · exact hT
  · refine Touches.ite ?_ ?_
    · refine setChild_touches (Touches.inc hm rfl) ?_
      exact sendOn_touches (Touches.inc hm rfl) hT
    · split
      · extract_lets -merge -underBinder x4 x5
        try clear_value x4
        try clear_value x5
        refine setChild_touches (Touches.inc hm rfl) ?_
        exact sendOn_touches (Touches.inc hm rfl) hT
      · exact hT

theorem execBitmapReportTimer_touches {s : State} {d0 : State} (hm : 0x20800 &&& mm = 0x20800) (hd : Touches mm z0 d0)
    (hT : Touches mm z0 s) :
    Touches mm z0 (Touches.outS d0 (execBitmapReportTimer s)) := by
  unfold execBitmapReportTimer
  extract_lets -merge -underBinder x2 x3
  try clear_value x2
  have hx3 : Touches mm z0 x3 := by
    subst x3
    refine Touches.ite ?_ ?_
    · exact hT
    · exact sendParent_touches (Touches.inc hm rfl) hT
  try clear_value x3
  refine Touches.nextI ?_
  refine Touches.ite ?_ ?_
  · exact hT
  · refine Touches.foldl ?_ (fun u x => ?_)
    · exact hx3
    · revert x u; intro u4 y
      beta_reduce
      extract_lets -merge -underBinder x6
      try clear_value x6
      exact setChild_touches (Touches.inc hm rfl) (Touches.refl mm _)

theorem execBitmapReport_touches {p : ℕ} {id : ℕ} {digest : List Byte} {bits : List ℕ} {s : State} {d0 : State}
    (hm : 0x200000000020800 &&& mm = 0x200000000020800) (hd : Touches mm z0 d0) (hT : Touches mm z0 s) :
    Touches mm z0 (Touches.outS d0 (execBitmapReport p id digest bits s)) := by
  unfold execBitmapReport
  extract_lets -merge -underBinder x4 x5 x6 src7
  try clear_value x4
  have hx5 : Touches mm z0 x5 := by
    subst x5
    refine Touches.ite ?_ ?_
    · exact hT
    · refine Touches.ite ?_ ?_
      · exact setChild_touches (Touches.inc hm rfl) hT
      · exact setChild_touches (Touches.inc hm rfl) hT
  try clear_value x5
  try clear_value x6
  refine Touches.nextI ?_
  refine Touches.ite ?_ ?_
  · exact hT
  · refine Touches.ite ?_ ?_
    · exact sendParent_touches (Touches.inc hm rfl) hx5
    · refine Touches.ite ?_ ?_
      · refine wr_touches (Touches.has hm rfl) ?_
        exact Touches.boot (Touches.has hm rfl) hx5
      · exact hx5

theorem fwuActions_touches {s : State} {v : ℕ} {data : Option (List Byte)} {e : StartEnv}
    (hm : 0x780000000060010 &&& mm = 0x780000000060010) (hT : Touches mm z0 s) :
    Touches mm z0 (fwuActions s v data e) := by
  unfold fwuActions
  refine onBit_touches (fun u0 u1 hu => ?_) ?_
  · revert hu u1 u0
    intro bu0 u0_0 hu0
    beta_reduce
    exact doHealth_touches (Touches.inc hm rfl) hu0
  · refine onBit_touches (fun u0 u1 hu => ?_) ?_
    · revert hu u1 u0
      intro bu1 u1_0 hu1
      beta_reduce
      exact doAbort_touches (Touches.inc hm rfl) hu1
    · refine onBit_touches (fun u0 u1 hu => ?_) ?_
      · revert hu u1 u0
        intro bu2 u2_0 hu2
        beta_reduce
        exact doActivate_touches (Touches.inc hm rfl) hu2
      · refine onBit_touches (fun u0 u1 hu => ?_) ?_
        · revert hu u1 u0
          intro bu3 u3_0 hu3
          beta_reduce
          exact doChunk_touches (Touches.inc hm rfl) hu3
        · refine onBit_touches (fun u0 u1 hu => ?_) ?_
          · revert hu u1 u0
            intro bu4 u4_0 hu4
            beta_reduce
            exact doBegin_touches (Touches.inc hm rfl) hu4
          · exact hT

end Sys2Proof.Laws
end

