-- ==== Sys2Proof/Laws/FrameLaunch.lean ====
section
/-!
SUPPORT. What each operation of `Machine/Launch.lean` may touch: the mask names the parts of the state in which its result can
differ from the state it started from.
-/

set_option linter.unusedVariables false
set_option linter.unusedTactic false

namespace Sys2Proof.Laws

open Sys2Proof Sys2Proof.Machine Sys2Proof.Safety

variable {mm : Nat} {z0 : State}

theorem fillBuffer_touches {img : List Byte} {v : ℕ} {s : State} {c : ℕ} (hm : 0x400000 &&& mm = 0x400000)
    (hT : Touches mm z0 s) :
    Touches mm z0 (fillBuffer img v s c) := by
  unfold fillBuffer
  extract_lets -merge -underBinder x2 src3
  try clear_value x2
  exact setCell_touches (Touches.inc hm rfl) hT

theorem wakeForLaunch_touches {s : State} {p : ℕ} {img : List Byte} (hm : 0x20 &&& mm = 0x20) (hT : Touches mm z0 s) :
    Touches mm z0 (wakeForLaunch s p img) := by
  unfold wakeForLaunch
  refine Touches.foldl ?_ (fun u x => ?_)
  · exact hT
  · revert x u; intro u0 y
    beta_reduce
    exact wakeDomain_touches (Touches.inc hm rfl) (Touches.refl mm _)

theorem mirrorSend_touches {s : State} {p : ℕ} {q : QLaunch} (hm : 0x4800 &&& mm = 0x4800) (hT : Touches mm z0 s) :
    Touches mm z0 (mirrorSend s p q).1 := by
  unfold mirrorSend
  extract_lets -merge -underBinder x7 x8 x9 x10 src11 src12 x13
  try clear_value x7
  try clear_value x8
  try clear_value x9
  try clear_value x10
  have hx13 : Touches mm z0 x13 := by
    subst x13
    refine setTwinPart_touches (Touches.inc hm rfl) ?_
    exact Touches.twin (Touches.has hm rfl) hT
  try clear_value x13
  refine Touches.mkI ?_
  exact sendTwin_touches (Touches.inc hm rfl) hx13

theorem takeStep_touches {s : State} {x : ℕ} (hm : 0x8000000000024 &&& mm = 0x8000000000024) (hT : Touches mm z0 s) :
    Touches mm z0 (takeStep s x) := by
  unfold takeStep
  extract_lets -merge -underBinder x2 src3
  try clear_value x2
  refine showPower_touches (Touches.inc hm rfl) ?_
  exact Touches.power (Touches.has hm rfl) hT

theorem beginLaunch_touches {s : State} {p : ℕ} {q : QLaunch} (hm : 0x80901C10B80 &&& mm = 0x80901C10B80) (hT : Touches mm z0 s) :
    Touches mm z0 (beginLaunch s p q) := by
  unfold beginLaunch
  split
  · refine sendTwin_touches (Touches.inc hm rfl) ?_
    refine startLaunch_touches (Touches.inc hm rfl) ?_
    exact memWrite_touches (Touches.has hm rfl) (Touches.has hm rfl) hT
  · exact startLaunch_touches (Touches.inc hm rfl) hT

theorem gateLaunch_touches {s : State} {p : ℕ} {q : QLaunch} {rest : List QLaunch}
    (hm : 0x188080901C70BB4 &&& mm = 0x188080901C70BB4) (hT : Touches mm z0 s) :
    Touches mm z0 (gateLaunch s p q rest) := by
  unfold gateLaunch
  extract_lets -merge -underBinder x5 src6 x7 src8 src9
  try clear_value x5
  have hx7 : Touches mm z0 x7 := by
    subst x7
    refine beginLaunch_touches (Touches.inc hm rfl) ?_
    exact setPart_touches (Touches.inc hm rfl) hT
  try clear_value x7
  refine Touches.ite ?_ ?_
  · exact hx7
  · refine Touches.ite ?_ ?_
    · exact takeStep_touches (Touches.inc hm rfl) hx7
    · refine Touches.ite ?_ ?_
      · refine unshaped_touches (Touches.inc hm rfl) ?_
        exact takeStep_touches (Touches.inc hm rfl) hx7
      · refine Touches.ite ?_ ?_
        · exact setPart_touches (Touches.inc hm rfl) hT
        · refine setPart_touches (Touches.inc hm rfl) ?_
          exact incSat_touches (Touches.has hm rfl) hT

theorem execLaunchStart_touches {p : ℕ} {s : State} {d0 : State} (hm : 0x9894E8901C76FB4 &&& mm = 0x9894E8901C76FB4)
    (hd : Touches mm z0 d0) (hT : Touches mm z0 s) :
    Touches mm z0 (Touches.outS d0 (execLaunchStart p s)) := by
  unfold execLaunchStart
  refine Touches.nextI ?_
  split
  · extract_lets -merge -underBinder x3 x4 x5
    have hx3 : Touches mm z0 x3 := by
      subst x3
      exact wakeForLaunch_touches (Touches.inc hm rfl) hT
    try clear_value x3
    try clear_value x4
    have hx5 : Touches mm z0 x5.1 := by
      subst x5
      refine Touches.iteV Prod.fst ?_ ?_
      · exact mirrorSend_touches (Touches.inc hm rfl) hx3
      · exact Touches.mkI hx3
    try clear_value x5
    refine Touches.ite ?_ ?_
    · exact hT
    · refine Touches.ite ?_ ?_
      · exact hx3
      · refine Touches.ite ?_ ?_
        · exact hx3
        · split
          · extract_lets -merge -underBinder src7
            refine refuseLaunch_touches (Touches.inc hm rfl) ?_
            exact setPart_touches (Touches.inc hm rfl) hx5
          · exact gateLaunch_touches (Touches.inc hm rfl) hx5
  · exact hT

theorem execPreloadDone_touches {p : ℕ} {s : State} {d0 : State} (hm : 0x1400000 &&& mm = 0x1400000) (hd : Touches mm z0 d0)
    (hT : Touches mm z0 s) :
    Touches mm z0 (Touches.outS d0 (execPreloadDone p s)) := by
  unfold execPreloadDone
  refine Touches.nextI ?_
  split
  · exact hT
  · extract_lets -merge -underBinder x2 x3
    try clear_value x2
    have hx3 : Touches mm z0 x3 := by
      subst x3
      refine Touches.foldl ?_ (fun u x => ?_)
      · exact hT
      · revert x u; intro u4 y
        beta_reduce
        exact fillBuffer_touches (Touches.inc hm rfl) (Touches.refl mm _)
    try clear_value x3
    refine Touches.ite ?_ ?_
    · exact hT
    · exact modRunning_touches (Touches.inc hm rfl) hx3

theorem beginEntry_touches {s : State} {p : ℕ} {i : ℕ} {kind : ℕ} {k : State → Running → MemEntry → State}
    (hm : 0x1000000 &&& mm = 0x1000000) (hk4 : ∀ z u0 u1 u2, Touches mm z u0 → Touches mm z (k u0 u1 u2)) (hT : Touches mm z0 s) :
    Touches mm z0 (beginEntry s p i kind k) := by
  unfold beginEntry
  split
  · exact hT
  · refine Touches.ite ?_ ?_
    · refine hk4 _ _ _ _ ?_
      exact modRunning_touches (Touches.inc hm rfl) hT
    · exact hT

theorem takeData_touches {s : State} {p : ℕ} {i : ℕ} {r : Running} {e : MemEntry} (hm : 0x1000000 &&& mm = 0x1000000)
    (hT : Touches mm z0 s) :
    Touches mm z0 (takeData s p i r e) := by
  unfold takeData
  extract_lets -merge -underBinder x1
  try clear_value x1
  exact modRunning_touches (Touches.inc hm rfl) hT

theorem execMemRead_touches {p : ℕ} {i : ℕ} {s : State} {d0 : State} (hm : 0x1000000 &&& mm = 0x1000000)
    (hd : Touches mm z0 d0) (hT : Touches mm z0 s) :
    Touches mm z0 (Touches.outS d0 (execMemRead p i s)) := by
  unfold execMemRead
  refine Touches.nextI ?_
  refine beginEntry_touches (Touches.inc hm rfl) (fun u0 u1 u2 u3 hu => ?_) ?_
  · revert hu u3 u2 u1 u0
    intro bu0 u0_0 u0_1 u0_2 hu0
    beta_reduce
    exact hu0
  · exact hT

theorem execMemWrite_touches {p : ℕ} {i : ℕ} {s : State} {d0 : State} (hm : 0x1000000 &&& mm = 0x1000000)
    (hd : Touches mm z0 d0) (hT : Touches mm z0 s) :
    Touches mm z0 (Touches.outS d0 (execMemWrite p i s)) := by
  unfold execMemWrite
  refine Touches.nextI ?_
  refine beginEntry_touches (Touches.inc hm rfl) (fun u0 u1 u2 u3 hu => ?_) ?_
  · revert hu u3 u2 u1 u0
    intro bu0 u0_0 u0_1 u0_2 hu0
    beta_reduce
    exact takeData_touches (Touches.inc hm rfl) hu0
  · exact hT

theorem execStreamRefill_touches {p : ℕ} {i : ℕ} {s : State} {d0 : State} (hm : 0x1000000 &&& mm = 0x1000000)
    (hd : Touches mm z0 d0) (hT : Touches mm z0 s) :
    Touches mm z0 (Touches.outS d0 (execStreamRefill p i s)) := by
  unfold execStreamRefill
  refine Touches.nextI ?_
  refine beginEntry_touches (Touches.inc hm rfl) (fun u0 u1 u2 u3 hu => ?_) ?_
  · revert hu u3 u2 u1 u0
    intro bu0 u0_0 u0_1 u0_2 hu0
    beta_reduce
    exact hu0
  · exact hT

theorem execKvRead_touches {p : ℕ} {i : ℕ} {s : State} {d0 : State} (hm : 0x1000000 &&& mm = 0x1000000)
    (hd : Touches mm z0 d0) (hT : Touches mm z0 s) :
    Touches mm z0 (Touches.outS d0 (execKvRead p i s)) := by
  unfold execKvRead
  refine Touches.nextI ?_
  refine beginEntry_touches (Touches.inc hm rfl) (fun u0 u1 u2 u3 hu => ?_) ?_
  · revert hu u3 u2 u1 u0
    intro bu0 u0_0 u0_1 u0_2 hu0
    beta_reduce
    exact hu0
  · exact hT

theorem execKvWrite_touches {p : ℕ} {i : ℕ} {s : State} {d0 : State} (hm : 0x180080001060010 &&& mm = 0x180080001060010)
    (hd : Touches mm z0 d0) (hT : Touches mm z0 s) :
    Touches mm z0 (Touches.outS d0 (execKvWrite p i s)) := by
  unfold execKvWrite
  refine Touches.nextI ?_
  refine beginEntry_touches (Touches.inc hm rfl) (fun u0 u1 u2 u3 hu => ?_) ?_
  · revert hu u3 u2 u1 u0
    intro bu0 u0_0 u0_1 u0_2 hu0
    beta_reduce
    extract_lets -merge -underBinder x2
    have hx2 : Touches mm bu0 x2 := by
      subst x2
      exact takeData_touches (Touches.inc hm rfl) hu0
    try clear_value x2
    refine Touches.ite ?_ ?_
    · refine irqEvent_touches (Touches.inc hm rfl) (Touches.has hm rfl) ?_
      exact incSat_touches (Touches.has hm rfl) hx2
    · exact hx2
  · exact hT

theorem execRefreshEntry_touches {p : ℕ} {i : ℕ} {s : State} {d0 : State} (hm : 0x801000100 &&& mm = 0x801000100)
    (hd : Touches mm z0 d0) (hT : Touches mm z0 s) :
    Touches mm z0 (Touches.outS d0 (execRefreshEntry p i s)) := by
  unfold execRefreshEntry
  refine Touches.nextI ?_
  refine beginEntry_touches (Touches.inc hm rfl) (fun u0 u1 u2 u3 hu => ?_) ?_
  · revert hu u3 u2 u1 u0
    intro bu0 u0_0 u0_1 u0_2 hu0
    beta_reduce
    split
    · extract_lets -merge -underBinder x2
      try clear_value x2
      exact setOwed_touches (Touches.inc hm rfl) hu0
  · exact hT

theorem execOpenEntry_touches {p : ℕ} {i : ℕ} {s : State} {d0 : State} (hm : 0x801000100 &&& mm = 0x801000100)
    (hd : Touches mm z0 d0) (hT : Touches mm z0 s) :
    Touches mm z0 (Touches.outS d0 (execOpenEntry p i s)) := by
  unfold execOpenEntry
  refine Touches.nextI ?_
  refine beginEntry_touches (Touches.inc hm rfl) (fun u0 u1 u2 u3 hu => ?_) ?_
  · revert hu u3 u2 u1 u0
    intro bu0 u0_0 u0_1 u0_2 hu0
    beta_reduce
    split
    · extract_lets -merge -underBinder x2
      try clear_value x2
      exact setOwed_touches (Touches.inc hm rfl) hu0
  · exact hT

theorem deliverEntry_touches {s : State} {r : Running} {i : ℕ} {e : MemEntry} (hm : 0x400000 &&& mm = 0x400000)
    (hT : Touches mm z0 s) :
    Touches mm z0 (deliverEntry s r i e) := by
  unfold deliverEntry
  extract_lets -merge -underBinder x2 x3
  try clear_value x2
  try clear_value x3
  refine Touches.ite ?_ ?_
  · split
    · extract_lets -merge -underBinder x5
      try clear_value x5
      exact setCell_touches (Touches.inc hm rfl) hT
    · exact hT
  · exact setCell_touches (Touches.inc hm rfl) hT

theorem storeEntry_touches {s : State} {r : Running} {i : ℕ} {e : MemEntry} (hm : 0x180 &&& mm = 0x180) (hT : Touches mm z0 s) :
    Touches mm z0 (storeEntry s r i e) := by
  unfold storeEntry
  split
  · refine Touches.foldl ?_ (fun u x => ?_)
    · exact hT
    · revert x u; intro u0 y
      beta_reduce
      exact memWrite_touches (Touches.has hm rfl) (Touches.has hm rfl) (Touches.refl mm _)
  · exact hT

theorem execMemEntryDone_touches {p : ℕ} {i : ℕ} {env : MemEnv} {s : State} {d0 : State}
    (hm : 0x180000801460194 &&& mm = 0x180000801460194) (hd : Touches mm z0 d0) (hT : Touches mm z0 s) :
    Touches mm z0 (Touches.outS d0 (execMemEntryDone p i env s)) := by
  unfold execMemEntryDone
  refine Touches.nextI ?_
  split
  · exact hT
  · extract_lets -merge -underBinder x7 x8 x9 x10 x11 x12 x13
    try clear_value x7
    try clear_value x8
    try clear_value x9
    have hx10 : Touches mm z0 x10 := by
      subst x10
      refine Touches.ite ?_ ?_
      · exact readFails_touches (Touches.inc hm rfl) hT
      · exact hT
    try clear_value x10
    try clear_value x11
    have hx12 : Touches mm z0 x12 := by
      subst x12
      refine useFree_touches (Touches.inc hm rfl) ?_
      exact deliverEntry_touches (Touches.inc hm rfl) hx10
    try clear_value x12
    have hx13 : Touches mm z0 x13 := by
      subst x13
      refine Touches.ite ?_ ?_
      · refine Touches.ite ?_ ?_
        · exact hx10
        · exact modRunning_touches (Touches.inc hm rfl) hx12
      · refine Touches.ite ?_ ?_
        · refine Touches.foldl ?_ (fun u x => ?_)
          · exact storeEntry_touches (Touches.inc hm rfl) hx10
          · revert x u; intro u14 y
            beta_reduce
            exact writePathBad_touches (Touches.inc hm rfl) (Touches.refl mm _)
        · exact hx10
    try clear_value x13
    refine Touches.ite ?_ ?_
    · exact hT
    · refine Touches.ite ?_ ?_
      · exact hx10
      · exact modRunning_touches (Touches.inc hm rfl) hx13

theorem execRouteTransfer_touches {p : ℕ} {i : ℕ} {s : State} {d0 : State} (hm : 0x2001400004 &&& mm = 0x2001400004)
    (hd : Touches mm z0 d0) (hT : Touches mm z0 s) :
    Touches mm z0 (Touches.outS d0 (execRouteTransfer p i s)) := by
  unfold execRouteTransfer
  refine Touches.nextI ?_
  split
  · exact hT
  · extract_lets -merge -underBinder x4 x5 x6 x7
    try clear_value x4
    try clear_value x5
    have hx6 : Touches mm z0 x6 := by
      subst x6
      exact modRunning_touches (Touches.inc hm rfl) hT
    try clear_value x6
    have hx7 : Touches mm z0 x7 := by
      subst x7
      refine Touches.ite ?_ ?_
      · exact incWrap_touches (Touches.has hm rfl) hx6
      · exact hx6
    try clear_value x7
    refine Touches.ite ?_ ?_
    · exact hT
    · split
      · extract_lets -merge -underBinder x11 x12 x13
        try clear_value x11
        try clear_value x12
        try clear_value x13
        refine Touches.ite ?_ ?_
        · refine useFree_touches (Touches.inc hm rfl) ?_
          exact setCell_touches (Touches.inc hm rfl) hx7
        · exact hx7
      · exact hx7

theorem moveInstr_touches {s : State} {c : ℕ} {a : MoveArgs} {ok : Running → Bool} {k : State → Running → Cell → State}
    (hm : 0x180000101460010 &&& mm = 0x180000101460010) (hk4 : ∀ z u0 u1 u2, Touches mm z u0 → Touches mm z (k u0 u1 u2)) (hT : Touches mm z0 s) :
    Touches mm z0 (moveInstr s c a ok k) := by
  unfold moveInstr
  split
  · exact hT
  · refine issueInstr_touches (Touches.inc hm rfl) (fun u0 u1 u2 u3 hu => ?_) ?_
    · revert hu u3 u2 u1 u0
      intro bu0 u0_0 u0_1 u0_2 hu0
      beta_reduce
      exact hk4 _ _ _ _ hu0
    · exact hT

theorem moveMem_touches {s : State} {c : ℕ} {a : MoveArgs} (hm : 0x180000101460010 &&& mm = 0x180000101460010)
    (hT : Touches mm z0 s) :
    Touches mm z0 (moveMem s c a) := by
  unfold moveMem
  refine moveInstr_touches (Touches.inc hm rfl) (fun u0 u1 u2 u3 hu => ?_) ?_
  · revert hu u3 u2 u1 u0
    intro bu0 u0_0 u0_1 u0_2 hu0
    beta_reduce
    exact modRunning_touches (Touches.inc hm rfl) hu0
  · exact hT

theorem execMoveMemToStore_touches {c : ℕ} {a : MoveArgs} {s : State} {d0 : State}
    (hm : 0x180000101460010 &&& mm = 0x180000101460010) (hd : Touches mm z0 d0) (hT : Touches mm z0 s) :
    Touches mm z0 (Touches.outS d0 (execMoveMemToStore c a s)) := by
  unfold execMoveMemToStore
  refine Touches.nextI ?_
  exact moveMem_touches (Touches.inc hm rfl) hT

theorem execMoveStoreToMem_touches {c : ℕ} {a : MoveArgs} {s : State} {d0 : State}
    (hm : 0x180000101460010 &&& mm = 0x180000101460010) (hd : Touches mm z0 d0) (hT : Touches mm z0 s) :
    Touches mm z0 (Touches.outS d0 (execMoveStoreToMem c a s)) := by
  unfold execMoveStoreToMem
  refine Touches.nextI ?_
  exact moveMem_touches (Touches.inc hm rfl) hT

theorem execMoveLocal_touches {c : ℕ} {a : MoveArgs} {s : State} {d0 : State}
    (hm : 0x180000101460014 &&& mm = 0x180000101460014) (hd : Touches mm z0 d0) (hT : Touches mm z0 s) :
    Touches mm z0 (Touches.outS d0 (execMoveLocal c a s)) := by
  unfold execMoveLocal
  refine Touches.nextI ?_
  refine moveInstr_touches (Touches.inc hm rfl) (fun u0 u1 u2 u3 hu => ?_) ?_
  · revert hu u3 u2 u1 u0
    intro bu0 u0_0 u0_1 u0_2 hu0
    beta_reduce
    extract_lets -merge -underBinder x2
    try clear_value x2
    refine useFree_touches (Touches.inc hm rfl) ?_
    exact setCell_touches (Touches.inc hm rfl) hu0
  · exact hT

theorem execMoveCellToCell_touches {c : ℕ} {a : MoveArgs} {s : State} {d0 : State}
    (hm : 0x180000101460010 &&& mm = 0x180000101460010) (hd : Touches mm z0 d0) (hT : Touches mm z0 s) :
    Touches mm z0 (Touches.outS d0 (execMoveCellToCell c a s)) := by
  unfold execMoveCellToCell
  refine Touches.nextI ?_
  refine moveInstr_touches (Touches.inc hm rfl) (fun u0 u1 u2 u3 hu => ?_) ?_
  · revert hu u3 u2 u1 u0
    intro bu0 u0_0 u0_1 u0_2 hu0
    beta_reduce
    exact modRunning_touches (Touches.inc hm rfl) hu0
  · exact hT

theorem pipeFault_touches {s : State} {q : ℕ} {c : ℕ} {addr : ℕ} {kind : ℕ}
    (hm : 0x180000301060010 &&& mm = 0x180000301060010) (hT : Touches mm z0 s) :
    Touches mm z0 (pipeFault s q c addr kind) := by
  unfold pipeFault
  extract_lets -merge -underBinder x2 x3
  try clear_value x2
  have hx3 : Touches mm z0 x3 := by
    subst x3
    refine raiseIrq_touches (Touches.has hm rfl) (Touches.has hm rfl) ?_
    exact planFaultAt_touches (Touches.inc hm rfl) hT
  try clear_value x3
  refine wr_touches (Touches.has hm rfl) ?_
  refine wr_touches (Touches.has hm rfl) ?_
  exact wr_touches (Touches.has hm rfl) hx3

theorem execMoveToPipe_touches {c : ℕ} {a : MoveArgs} {s : State} {d0 : State}
    (hm : 0x180000301C60014 &&& mm = 0x180000301C60014) (hd : Touches mm z0 d0) (hT : Touches mm z0 s) :
    Touches mm z0 (Touches.outS d0 (execMoveToPipe c a s)) := by
  unfold execMoveToPipe
  refine Touches.nextI ?_
  refine moveInstr_touches (Touches.inc hm rfl) (fun u0 u1 u2 u3 hu => ?_) ?_
  · revert hu u3 u2 u1 u0
    intro bu0 u0_0 u0_1 u0_2 hu0
    beta_reduce
    extract_lets -merge -underBinder x6 x7 x8 x9 x10
    try clear_value x6
    try clear_value x7
    try clear_value x8
    try clear_value x9
    have hx10 : Touches mm bu0 x10 := by
      subst x10
      exact useFree_touches (Touches.inc hm rfl) hu0
    try clear_value x10
    refine Touches.ite ?_ ?_
    · exact planFault_touches (Touches.inc hm rfl) hx10
    · refine Touches.ite ?_ ?_
      · exact pipeFault_touches (Touches.inc hm rfl) hx10
      · exact setPipe_touches (Touches.inc hm rfl) hx10
  · exact hT

theorem execMoveFromPipe_touches {c : ℕ} {a : MoveArgs} {s : State} {d0 : State}
    (hm : 0x180000301C60010 &&& mm = 0x180000301C60010) (hd : Touches mm z0 d0) (hT : Touches mm z0 s) :
    Touches mm z0 (Touches.outS d0 (execMoveFromPipe c a s)) := by
  unfold execMoveFromPipe
  refine Touches.nextI ?_
  refine moveInstr_touches (Touches.inc hm rfl) (fun u0 u1 u2 u3 hu => ?_) ?_
  · revert hu u3 u2 u1 u0
    intro bu0 u0_0 u0_1 u0_2 hu0
    beta_reduce
    extract_lets -merge -underBinder x5 x6 x7 x8
    try clear_value x5
    try clear_value x6
    try clear_value x7
    try clear_value x8
    refine Touches.ite ?_ ?_
    · exact planFault_touches (Touches.inc hm rfl) hu0
    · refine Touches.ite ?_ ?_
      · exact pipeFault_touches (Touches.inc hm rfl) hu0
      · refine setCell_touches (Touches.inc hm rfl) ?_
        exact setPipe_touches (Touches.inc hm rfl) hu0
  · exact hT

theorem execMark_touches {c : ℕ} {m : ℕ} {s : State} {d0 : State} (hm : 0x180000101464010 &&& mm = 0x180000101464010)
    (hd : Touches mm z0 d0) (hT : Touches mm z0 s) :
    Touches mm z0 (Touches.outS d0 (execMark c m s)) := by
  unfold execMark
  refine Touches.nextI ?_
  refine issueInstr_touches (Touches.inc hm rfl) (fun u0 u1 u2 u3 hu => ?_) ?_
  · revert hu u3 u2 u1 u0
    intro bu0 u0_0 u0_1 u0_2 hu0
    beta_reduce
    extract_lets -merge -underBinder x2
    try clear_value x2
    refine Touches.ite ?_ ?_
    · split
      · extract_lets -merge -underBinder x4
        try clear_value x4
        exact setTwinPart_touches (Touches.inc hm rfl) hu0
      · exact hu0
    · exact hu0
  · exact hT

theorem cellResidue_touches {s : State} {c : ℕ} (hm : 0x180000101060010 &&& mm = 0x180000101060010) (hT : Touches mm z0 s) :
    Touches mm z0 (cellResidue s c) := by
  unfold cellResidue
  extract_lets -merge -underBinder x1
  try clear_value x1
  refine cellFault_touches (Touches.inc hm rfl) ?_
  refine raiseIrq_touches (Touches.has hm rfl) (Touches.has hm rfl) ?_
  exact incSat_touches (Touches.has hm rfl) hT

theorem pipeResidue_touches {p : ℕ} {s : State} {q : ℕ} (hm : 0xFFFFFFFF05060030 &&& mm = 0xFFFFFFFF05060030)
    (hT : Touches mm z0 s) :
    Touches mm z0 (pipeResidue p s q) := by
  unfold pipeResidue
  extract_lets -merge -underBinder x9 x10 x11 x12 x13 x14 x15 src16 x17
  try clear_value x9
  try clear_value x10
  have hx11 : Touches mm z0 x11 := by
    subst x11
    refine raiseIrq_touches (Touches.has hm rfl) (Touches.has hm rfl) ?_
    exact incSat_touches (Touches.has hm rfl) hT
  try clear_value x11
  have hx12 : Touches mm z0 x12 := by
    subst x12
    refine wr_touches (Touches.has hm rfl) ?_
    refine wr_touches (Touches.has hm rfl) ?_
    exact wr_touches (Touches.has hm rfl) hx11
  try clear_value x12
  have hx13 : Touches mm z0 x13 := by
    subst x13
    exact modRunning_touches (Touches.inc hm rfl) hx12
  try clear_value x13
  have hx14 : Touches mm z0 x14 := by
    subst x14
    exact noteCause_touches (Touches.inc hm rfl) hx13
  try clear_value x14
  try clear_value x15
  have hx17 : Touches mm z0 x17 := by
    subst x17
    exact Touches.comb_resTimes (Touches.has hm rfl) hx14
  try clear_value x17
  refine Touches.ite ?_ ?_
  · exact askRetire_touches (Touches.inc hm rfl) hx17
  · exact hx17

theorem storeCorrected_touches {s : State} {c : ℕ} (hm : 0x180000100060010 &&& mm = 0x180000100060010) (hT : Touches mm z0 s) :
    Touches mm z0 (storeCorrected s c) := by
  unfold storeCorrected
  extract_lets -merge -underBinder x1
  try clear_value x1
  refine irqEvent_touches (Touches.inc hm rfl) (Touches.has hm rfl) ?_
  exact incSat_touches (Touches.has hm rfl) hT

theorem storeBad_touches {s : State} {e : ℕ × ℕ} (hm : 0xFFFFFFFF05060030 &&& mm = 0xFFFFFFFF05060030) (hT : Touches mm z0 s) :
    Touches mm z0 (storeBad s e) := by
  unfold storeBad
  extract_lets -merge -underBinder x5 x6 x7 src8 x9
  try clear_value x5
  have hx6 : Touches mm z0 x6 := by
    subst x6
    refine cellFault_touches (Touches.inc hm rfl) ?_
    refine raiseIrq_touches (Touches.has hm rfl) (Touches.has hm rfl) ?_
    exact incSat_touches (Touches.has hm rfl) hT
  try clear_value x6
  try clear_value x7
  have hx9 : Touches mm z0 x9 := by
    subst x9
    exact Touches.comb_ueTimes (Touches.has hm rfl) hx6
  try clear_value x9
  refine Touches.ite ?_ ?_
  · exact askRetire_touches (Touches.inc hm rfl) hx9
  · exact hx9

theorem countSteps_touches {s : State} {r : Running} (hm : 0x300000000 &&& mm = 0x300000000) (hT : Touches mm z0 s) :
    Touches mm z0 (countSteps s r) := by
  unfold countSteps
  extract_lets -merge -underBinder x2 x3
  try clear_value x2
  have hx3 : Touches mm z0 x3 := by
    subst x3
    refine Touches.foldl ?_ (fun u x => ?_)
    · exact hT
    · revert x u; intro u4 y
      beta_reduce
      exact incWrap_touches (Touches.has hm rfl) (Touches.refl mm _)
  try clear_value x3
  refine Touches.foldl ?_ (fun u x => ?_)
  · exact hx3
  · revert x u; intro u5 y
    beta_reduce
    extract_lets -merge -underBinder x7
    have hx7 : Touches mm u5 x7 := by
      subst x7
      exact incWrap_touches (Touches.has hm rfl) (Touches.refl mm _)
    try clear_value x7
    refine Touches.ite ?_ ?_
    · refine Touches.ite ?_ ?_
      · refine incSat_touches (Touches.has hm rfl) ?_
        exact wr_touches (Touches.has hm rfl) hx7
      · exact hx7
    · exact Touches.refl mm _

theorem execStepComplete_touches {p : ℕ} {e : StepEnv} {s : State} {d0 : State}
    (hm : 0xFFFFFFFF05C60034 &&& mm = 0xFFFFFFFF05C60034) (hd : Touches mm z0 d0) (hT : Touches mm z0 s) :
    Touches mm z0 (Touches.outS d0 (execStepComplete p e s)) := by
  unfold execStepComplete
  refine Touches.nextI ?_
  split
  · exact hT
  · extract_lets -merge -underBinder x10 x11 x12 x13 x14 x15 x16 x17 x18 x19
    have hx10 : Touches mm z0 x10 := by
      subst x10
      refine Touches.foldl ?_ (fun u x => ?_)
      · exact hT
      · revert x u; intro u20 y
        beta_reduce
        exact advancePipe_touches (Touches.inc hm rfl) (Touches.refl mm _)
    try clear_value x10
    have hx11 : Touches mm z0 x11 := by
      subst x11
      refine Touches.foldl ?_ (fun u x => ?_)
      · exact hx10
      · revert x u; intro u21 y
        beta_reduce
        exact cellResidue_touches (Touches.inc hm rfl) (Touches.refl mm _)
    try clear_value x11
    have hx12 : Touches mm z0 x12 := by
      subst x12
      refine Touches.foldl ?_ (fun u x => ?_)
      · exact hx11
      · revert x u; intro u22 y
        beta_reduce
        exact storeBad_touches (Touches.inc hm rfl) (Touches.refl mm _)
    try clear_value x12
    have hx13 : Touches mm z0 x13 := by
      subst x13
      refine Touches.foldl ?_ (fun u x => ?_)
      · exact hx12
      · revert x u; intro u23 y
        beta_reduce
        exact storeCorrected_touches (Touches.inc hm rfl) (Touches.refl mm _)
    try clear_value x13
    have hx14 : Touches mm z0 x14 := by
      subst x14
      refine Touches.foldl ?_ (fun u x => ?_)
      · exact hx13
      · revert x u; intro u24 y
        beta_reduce
        exact pipeResidue_touches (Touches.inc hm rfl) (Touches.refl mm _)
    try clear_value x14
    have hx15 : Touches mm z0 x15 := by
      subst x15
      refine Touches.foldl ?_ (fun u x => ?_)
      · exact hx14
      · revert x u; intro u25 y
        beta_reduce
        exact planFault_touches (Touches.inc hm rfl) (Touches.refl mm _)
    try clear_value x15
    have hx16 : Touches mm z0 x16 := by
      subst x16
      refine Touches.foldl ?_ (fun u x => ?_)
      · exact hx15
      · revert x u; intro u26 y
        beta_reduce
        exact noteCause_touches (Touches.inc hm rfl) (Touches.refl mm _)
    try clear_value x16
    have hx17 : Touches mm z0 x17 := by
      subst x17
      exact countSteps_touches (Touches.inc hm rfl) hx16
    try clear_value x17
    try clear_value x18
    have hx19 : Touches mm z0 x19 := by
      subst x19
      exact modRunning_touches (Touches.inc hm rfl) hx17
    try clear_value x19
    refine Touches.ite ?_ ?_
    · exact hT
    · refine Touches.ite ?_ ?_
      · exact modRunning_touches (Touches.inc hm rfl) hT
      · split
        · refine Touches.ite ?_ ?_
          · exact clearResident_touches (Touches.inc hm rfl) hx19
          · exact hx19
        · exact hx19

theorem countUseful_touches {s : State} {bad : Bool} {n : ℕ} (hm : 0x400000001000 &&& mm = 0x400000001000)
    (hT : Touches mm z0 s) :
    Touches mm z0 (countUseful s bad n) := by
  unfold countUseful
  extract_lets -merge -underBinder x4 src5 x6 src7
  try clear_value x4
  try clear_value x6
  refine Touches.ite ?_ ?_
  · refine incWrap_touches (Touches.has hm rfl) ?_
    exact Touches.hive (Touches.has hm rfl) hT
  · refine incWrap_touches (Touches.has hm rfl) ?_
    exact Touches.hive (Touches.has hm rfl) hT

theorem freeRow_touches {bad : Bool} {s : State} {x : CapRow} (hm : 0x180080000060390 &&& mm = 0x180080000060390)
    (hT : Touches mm z0 s) :
    Touches mm z0 (freeRow bad s x) := by
  unfold freeRow
  extract_lets -merge -underBinder x2 x3
  try clear_value x2
  have hx3 : Touches mm z0 x3 := by
    subst x3
    exact setSeq_touches (Touches.inc hm rfl) hT
  try clear_value x3
  refine Touches.ite ?_ ?_
  · exact hT
  · refine Touches.ite ?_ ?_
    · exact releaseSeq_touches (Touches.inc hm rfl) hx3
    · exact hx3

theorem twinEnd_touches {s : State} {p : ℕ} {r : Running} {st : Status} (hm : 0xFFFFFFFF01064810 &&& mm = 0xFFFFFFFF01064810)
    (hT : Touches mm z0 s) :
    Touches mm z0 (twinEnd s p r st) := by
  unfold twinEnd
  extract_lets -merge -underBinder x6 x7 x8 x9 src10 x11
  try clear_value x6
  try clear_value x7
  try clear_value x8
  have hx9 : Touches mm z0 x9 := by
    subst x9
    exact setTwinPart_touches (Touches.inc hm rfl) hT
  try clear_value x9
  have hx11 : Touches mm z0 x11 := by
    subst x11
    exact setTwinPart_touches (Touches.inc hm rfl) hT
  try clear_value x11
  refine Touches.ite ?_ ?_
  · exact hT
  · refine Touches.ite ?_ ?_
    · refine Touches.ite ?_ ?_
      · exact declareDivergence_touches (Touches.inc hm rfl) hx9
      · refine Touches.ite ?_ ?_
        · exact Touches.twin (Touches.has hm rfl) hx9
        · exact hx9
    · refine Touches.ite ?_ ?_
      · refine Touches.foldl ?_ (fun u x => ?_)
        · exact setTwinPart_touches (Touches.inc hm rfl) hT
        · revert x u; intro u12 y
          beta_reduce
          exact sendTwin_touches (Touches.inc hm rfl) (Touches.refl mm _)
      · refine Touches.foldl ?_ (fun u x => ?_)
        · exact hx11
        · revert x u; intro u13 y
          beta_reduce
          split
          · exact evaluatePoint_touches (Touches.inc hm rfl) (Touches.refl mm _)
          · exact Touches.refl mm _

theorem tellIssuer_touches {s : State} {r : Running} {st : Status} {done : ℕ}
    (hm : 0x800428000042D80 &&& mm = 0x800428000042D80) (hT : Touches mm z0 s) :
    Touches mm z0 (tellIssuer s r st done) := by
  unfold tellIssuer
  split
  · refine Touches.ite ?_ ?_
    · exact finishCmd_touches (Touches.inc hm rfl) hT
    · exact hT
  · exact modWork_touches (Touches.inc hm rfl) hT
  · exact hT

theorem execLaunchEnd_touches {p : ℕ} {s : State} {d0 : State} (hm : 0xFFFFFFFF03867F94 &&& mm = 0xFFFFFFFF03867F94)
    (hd : Touches mm z0 d0) (hT : Touches mm z0 s) :
    Touches mm z0 (Touches.outS d0 (execLaunchEnd p s)) := by
  unfold execLaunchEnd
  refine Touches.nextI ?_
  split
  · exact hT
  · extract_lets -merge -underBinder x22 x23 x24 x25 x26 x27 x28 x29 src30 x31 x32 x33 x34 x35 x36 src37 x38 x39 x40 x41 x42 x43
    try clear_value x22
    try clear_value x23
    try clear_value x24
    try clear_value x25
    try clear_value x26
    try clear_value x27
    try clear_value x28
    try clear_value x29
    have hx31 : Touches mm z0 x31 := by
      subst x31
      exact setPart_touches (Touches.inc hm rfl) hT
    try clear_value x31
    have hx32 : Touches mm z0 x32 := by
      subst x32
      refine Touches.ite ?_ ?_
      · refine Touches.foldl ?_ (fun u x => ?_)
        · exact hx31
        · revert x u; intro u44 y
          beta_reduce
          extract_lets -merge -underBinder src46
          refine Touches.ite ?_ ?_
          · exact Touches.refl mm _
          · exact setSeq_touches (Touches.inc hm rfl) (Touches.refl mm _)
      · exact hx31
    try clear_value x32
    have hx33 : Touches mm z0 x33 := by
      subst x33
      exact memWrite_touches (Touches.has hm rfl) (Touches.has hm rfl) hx32
    try clear_value x33
    have hx34 : Touches mm z0 x34 := by
      subst x34
      refine Touches.foldl ?_ (fun u x => ?_)
      · exact hx33
      · revert x u; intro u47 y
        beta_reduce
        exact freeRow_touches (Touches.inc hm rfl) (Touches.refl mm _)
    try clear_value x34
    have hx35 : Touches mm z0 x35 := by
      subst x35
      refine holdMemcs_touches (Touches.inc hm rfl) ?_
      exact busyCells_touches (Touches.inc hm rfl) hx34
    try clear_value x35
    have hx36 : Touches mm z0 x36 := by
      subst x36
      refine Touches.foldl ?_ (fun u x => ?_)
      · exact hx35
      · revert x u; intro u48 y
        beta_reduce
        refine setPipe_touches (Touches.inc hm rfl) ?_
        exact wr_touches (Touches.has hm rfl) (Touches.refl mm _)
    try clear_value x36
    have hx38 : Touches mm z0 x38 := by
      subst x38
      exact setPart_touches (Touches.inc hm rfl) hx36
    try clear_value x38
    have hx39 : Touches mm z0 x39 := by
      subst x39
      refine Touches.ite ?_ ?_
      · exact countUseful_touches (Touches.inc hm rfl) hx38
      · exact hx38
    try clear_value x39
    have hx40 : Touches mm z0 x40 := by
      subst x40
      refine Touches.ite ?_ ?_
      · refine metricSample_touches (Touches.inc hm rfl) ?_
        exact useFree_touches (Touches.inc hm rfl) hx39
      · exact hx39
    try clear_value x40
    have hx41 : Touches mm z0 x41 := by
      subst x41
      exact twinEnd_touches (Touches.inc hm rfl) hx40
    try clear_value x41
    have hx42 : Touches mm z0 x42 := by
      subst x42
      exact tellIssuer_touches (Touches.inc hm rfl) hx41
    try clear_value x42
    have hx43 : Touches mm z0 x43 := by
      subst x43
      refine Touches.ite ?_ ?_
      · exact emptySlot_touches (Touches.inc hm rfl) hx42
      · exact hx42
    try clear_value x43
    refine Touches.ite ?_ ?_
    · exact hT
    · exact beginTwinTests_touches (Touches.inc hm rfl) hx43

end Sys2Proof.Laws
end

