-- ==== Sys2Proof/Laws/FramePlan.lean ====
section
/-!
SUPPORT. What each operation of `Machine/Plan.lean` may touch: the mask names the parts of the state in which its result can
differ from the state it started from.
-/

set_option linter.unusedVariables false
set_option linter.unusedTactic false

namespace Sys2Proof.Laws

open Sys2Proof Sys2Proof.Machine Sys2Proof.Safety

variable {mm : Nat} {z0 : State}

theorem execLoadPlan_touches {q : ℕ} {image : List Byte} {bad : Option ℕ} {s : State} {d0 : State}
    (hm : 0x980428002060D90 &&& mm = 0x980428002060D90) (hd : Touches mm z0 d0) (hT : Touches mm z0 s) :
    Touches mm z0 (Touches.outS d0 (execLoadPlan q image bad s)) := by
  unfold execLoadPlan
  refine Touches.nextI ?_
  split
  · exact hT
  · extract_lets -merge -underBinder x7 x8 x9 x10 x11 x12 x13
    try clear_value x7
    try clear_value x8
    try clear_value x9
    try clear_value x10
    try clear_value x11
    try clear_value x12
    try clear_value x13
    refine Touches.ite ?_ ?_
    · exact finishCmd_touches (Touches.inc hm rfl) hT
    · refine Touches.ite ?_ ?_
      · exact finishCmd_touches (Touches.inc hm rfl) hT
      · split
        · rename_i p14 p15 e16
          have h17 : Touches mm z0 p14 := by
            have e := congrArg Prod.fst e16
            refine Eq.mp (congrArg (Touches mm z0) e) ?_
            clear e e16
            refine Touches.iteV Prod.fst ?_ ?_
            · exact Touches.mkI hT
            · exact sealedRead_touches (Touches.inc hm rfl) hT
          split
          · exact finishCmd_touches (Touches.inc hm rfl) h17
          · refine Touches.ite ?_ ?_
            · exact finishCmd_touches (Touches.inc hm rfl) h17
            · refine Touches.ite ?_ ?_
              · exact finishCmd_touches (Touches.inc hm rfl) h17
              · refine setBusy_touches (Touches.inc hm rfl) ?_
                exact setSlot_touches (Touches.inc hm rfl) h17

theorem unloadHeld_touches {s : State} {n : ℕ} {arg2 : List ℕ} (hm : 0x9814E8003066F94 &&& mm = 0x9814E8003066F94)
    (hT : Touches mm z0 s) :
    Touches mm z0 (unloadHeld s n arg2) := by
  unfold unloadHeld
  split
  · exact hT
  · split
    · refine unloadHeld_touches (Touches.inc hm rfl) ?_
      exact unloadReady_touches (Touches.inc hm rfl) hT
    · refine unloadHeld_touches (Touches.inc hm rfl) ?_
      exact finishCmd_touches (Touches.inc hm rfl) hT
    · refine unloadHeld_touches (Touches.inc hm rfl) ?_
      exact finishCmd_touches (Touches.inc hm rfl) hT

theorem execPlanChecksDone_touches {n : ℕ} {s : State} {d0 : State} (hm : 0x9814E8003066F94 &&& mm = 0x9814E8003066F94)
    (hd : Touches mm z0 d0) (hT : Touches mm z0 s) :
    Touches mm z0 (Touches.outS d0 (execPlanChecksDone n s)) := by
  unfold execPlanChecksDone
  extract_lets -merge -underBinder x4 x5 x6 x7
  try clear_value x4
  try clear_value x5
  have hx6 : Touches mm z0 x6 := by
    subst x6
    split
    · exact setSlot_touches (Touches.inc hm rfl) hT
    · refine memWrite_touches (Touches.has hm rfl) (Touches.has hm rfl) ?_
      exact setSlot_touches (Touches.inc hm rfl) hT
  try clear_value x6
  have hx7 : Touches mm z0 x7 := by
    subst x7
    split
    · exact finishCmd_touches (Touches.inc hm rfl) hx6
    · exact hx6
  try clear_value x7
  refine Touches.nextI ?_
  refine Touches.ite ?_ ?_
  · exact hT
  · exact unloadHeld_touches (Touches.inc hm rfl) hx7

theorem execUnloadPlan_touches {q : ℕ} {s : State} {d0 : State} (hm : 0x9834E8003066F94 &&& mm = 0x9834E8003066F94)
    (hd : Touches mm z0 d0) (hT : Touches mm z0 s) :
    Touches mm z0 (Touches.outS d0 (execUnloadPlan q s)) := by
  unfold execUnloadPlan
  refine Touches.nextI ?_
  split
  · exact hT
  · extract_lets -merge -underBinder x4 x5 x6 x7
    try clear_value x4
    try clear_value x5
    try clear_value x6
    have hx7 : Touches mm z0 x7 := by
      subst x7
      refine wr_touches (Touches.has hm rfl) ?_
      exact wr_touches (Touches.has hm rfl) hT
    try clear_value x7
    refine Touches.ite ?_ ?_
    · exact finishCmd_touches (Touches.inc hm rfl) hT
    · refine Touches.ite ?_ ?_
      · exact finishCmd_touches (Touches.inc hm rfl) hT
      · refine Touches.ite ?_ ?_
        · exact finishCmd_touches (Touches.inc hm rfl) hT
        · split
          · exact finishCmd_touches (Touches.inc hm rfl) hx7
          · refine setBusy_touches (Touches.inc hm rfl) ?_
            exact setSlot_touches (Touches.inc hm rfl) hx7
          · refine unloadReady_touches (Touches.inc hm rfl) ?_
            exact setBusy_touches (Touches.inc hm rfl) hx7

theorem execLaunch_touches {q : ℕ} {s : State} {d0 : State} (hm : 0x800428001040D80 &&& mm = 0x800428001040D80)
    (hd : Touches mm z0 d0) (hT : Touches mm z0 s) :
    Touches mm z0 (Touches.outS d0 (execLaunch q s)) := by
  unfold execLaunch
  refine Touches.nextI ?_
  split
  · exact hT
  · extract_lets -merge -underBinder x2 x3
    try clear_value x2
    try clear_value x3
    refine Touches.ite ?_ ?_
    · exact finishCmd_touches (Touches.inc hm rfl) hT
    · split
      · exact finishCmd_touches (Touches.inc hm rfl) hT
      · refine Touches.ite ?_ ?_
        · exact finishCmd_touches (Touches.inc hm rfl) hT
        · refine Touches.ite ?_ ?_
          · exact finishCmd_touches (Touches.inc hm rfl) hT
          · refine Touches.ite ?_ ?_
            · exact finishCmd_touches (Touches.inc hm rfl) hT
            · refine issueLaunch_touches (Touches.inc hm rfl) ?_
              exact setBusy_touches (Touches.inc hm rfl) hT

end Sys2Proof.Laws
end

