-- ==== Sys2Proof/Laws/FrameRegWrite.lean ====
section
/-!
SUPPORT. What each operation of `Machine/RegWrite.lean` may touch: the mask names the parts of the state in which its result can
differ from the state it started from.
-/

set_option linter.unusedVariables false
set_option linter.unusedTactic false

namespace Sys2Proof.Laws

open Sys2Proof Sys2Proof.Machine Sys2Proof.Safety

variable {mm : Nat} {z0 : State}

theorem execLock_touches {ty : ℕ} {i : ℕ} {v : ℕ} {s : State} {d0 : State}
    (hm : 0xFFFFFFFF00000000 &&& mm = 0xFFFFFFFF00000000) (hd : Touches mm z0 d0) (hT : Touches mm z0 s) :
    Touches mm z0 (Touches.outS d0 (execLock ty i v s)) := by
  unfold execLock
  refine Touches.nextI ?_
  exact lockWrite_touches (Touches.inc hm rfl) (Touches.anyPage hm rfl _) hT

theorem execLockAll_touches {s : State} {d0 : State} (hm : 0xFFFFFFFF00000000 &&& mm = 0xFFFFFFFF00000000)
    (hd : Touches mm z0 d0) (hT : Touches mm z0 s) :
    Touches mm z0 (Touches.outS d0 (execLockAll s)) := by
  unfold execLockAll
  refine Touches.nextI ?_
  exact lockWrite_touches (Touches.inc hm rfl) (Touches.has hm rfl) hT

theorem execIrqEnWrite_touches {ty : ℕ} {i : ℕ} {v : ℕ} {s : State} {d0 : State}
    (hm : 0xFFFFFFFF00040000 &&& mm = 0xFFFFFFFF00040000) (hd : Touches mm z0 d0) (hT : Touches mm z0 s) :
    Touches mm z0 (Touches.outS d0 (execIrqEnWrite ty i v s)) := by
  unfold execIrqEnWrite
  refine Touches.nextI ?_
  exact irqEnable_touches (Touches.inc hm rfl) (Touches.anyPage hm rfl _) hT

theorem anyWrite_touches {s : State} {w : Writer} {ty : ℕ} {i : ℕ} {off : ℕ} {v : ℕ} {e : WriteEnv}
    (hm : 0xFFFFFFFF07F7FFF7 &&& mm = 0xFFFFFFFF07F7FFF7) (hT : Touches mm z0 s) :
    Touches mm z0 (anyWrite s w ty i off v e) := by
  unfold anyWrite
  refine Touches.ite ?_ ?_
  · refine Touches.ite ?_ ?_
    · exact hT
    · refine regWrite_touches (Touches.inc hm rfl) (fun u0 u1 hu => ?_) ?_
      · revert hu u1 u0
        intro bu0 u0_0 hu0
        beta_reduce
        exact bootActions_touches (Touches.inc hm rfl) hu0
      · exact hT
  · refine Touches.ite ?_ ?_
    · exact presetWrite_touches (Touches.inc hm rfl) hT
    · refine Touches.ite ?_ ?_
      · refine Touches.ite ?_ ?_
        · exact hT
        · refine fwuAction_touches (Touches.inc hm rfl) (fun u0 u1 hu => ?_) ?_
          · revert hu u1 u0
            intro bu1 u1_0 hu1
            beta_reduce
            exact fwuActions_touches (Touches.inc hm rfl) hu1
          · exact hT
      · exact blockWrite_touches (Touches.inc hm rfl) hT

theorem execRegisterWrite_touches {w : Writer} {ty : ℕ} {i : ℕ} {off : ℕ} {bytes : ℕ} {v : ℕ} {e : WriteEnv} {s : State}
    {d0 : State} (hm : 0xFFFFFFFF07F7FFF7 &&& mm = 0xFFFFFFFF07F7FFF7) (hd : Touches mm z0 d0) (hT : Touches mm z0 s) :
    Touches mm z0 (Touches.outS d0 (execRegisterWrite w ty i off bytes v e s)) := by
  unfold execRegisterWrite
  refine Touches.nextI ?_
  refine Touches.ite ?_ ?_
  · exact anyWrite_touches (Touches.inc hm rfl) hT
  · refine Touches.ite ?_ ?_
    · refine anyWrite_touches (Touches.inc hm rfl) ?_
      exact anyWrite_touches (Touches.inc hm rfl) hT
    · exact hT

end Sys2Proof.Laws
end

