-- ==== Sys2Proof/Laws/FrameTime.lean ====
section
/-!
SUPPORT. What each operation of `Machine/Time.lean` may touch: the mask names the parts of the state in which its result can
differ from the state it started from.
-/

set_option linter.unusedVariables false
set_option linter.unusedTactic false

namespace Sys2Proof.Laws

open Sys2Proof Sys2Proof.Machine Sys2Proof.Safety

variable {mm : Nat} {z0 : State}

theorem passMerid_touches {s : State} {d : ℕ} (hm : 0x800000001001 &&& mm = 0x800000001001) (hT : Touches mm z0 s) :
    Touches mm z0 (passMerid s d) := by
  unfold passMerid
  extract_lets -merge -underBinder x4 x5 x6 src7
  try clear_value x4
  try clear_value x5
  have hx6 : Touches mm z0 x6 := by
    subst x6
    exact wr_touches (Touches.has hm rfl) hT
  try clear_value x6
  exact upd_now_hive (Touches.has hm rfl) (Touches.has hm rfl) hx6

theorem passCalendar_touches {s : State} {n : ℕ} (hm : 0x80000000000012 &&& mm = 0x80000000000012) (hT : Touches mm z0 s) :
    Touches mm z0 (passCalendar s n) := by
  unfold passCalendar
  refine Touches.ite ?_ ?_
  · exact hT
  · split
    · extract_lets -merge -underBinder src1
      refine wr_touches (Touches.has hm rfl) ?_
      exact upd_rtc_recorder (Touches.has hm rfl) (Touches.has hm rfl) hT
    · exact Touches.rtc (Touches.has hm rfl) hT

theorem passTime_touches {s : State} (hm : 0x80800000001017 &&& mm = 0x80800000001017) (hT : Touches mm z0 s) :
    Touches mm z0 (passTime s) := by
  unfold passTime
  refine useFree_touches (Touches.inc hm rfl) ?_
  refine passCalendar_touches (Touches.inc hm rfl) ?_
  exact passMerid_touches (Touches.inc hm rfl) hT

end Sys2Proof.Laws
end

