-- ==== Sys2Proof/Laws/FrameVideo.lean ====
section
/-!
SUPPORT. What each operation of `Machine/Video.lean` may touch: the mask names the parts of the state in which its result can
differ from the state it started from.
-/

set_option linter.unusedVariables false
set_option linter.unusedTactic false

namespace Sys2Proof.Laws

open Sys2Proof Sys2Proof.Machine Sys2Proof.Safety

variable {mm : Nat} {z0 : State}

theorem ownRead_touches {s : State} {q : ℕ} {r : RunCmd} {n : ℕ} {hostOk : Bool} {bad : Option ℕ}
    (hm : 0x180008000060410 &&& mm = 0x180008000060410) (hT : Touches mm z0 s) :
    Touches mm z0 (ownRead s q r n hostOk bad).1 := by
  unfold ownRead
  refine Touches.iteV Prod.fst ?_ ?_
  · refine Touches.mkI ?_
    exact hostReadFailed_touches (Touches.inc hm rfl) hT
  · refine Touches.iteV Prod.fst ?_ ?_
    · exact Touches.mkI hT
    · exact sealedRead_touches (Touches.inc hm rfl) hT

theorem openVideo_touches {s : State} {q : ℕ} {enc : Bool} {block : List Byte} {hostOk : Bool} {bad : Option ℕ}
    (hm : 0x9A0428000068D90 &&& mm = 0x9A0428000068D90) (hT : Touches mm z0 s) :
    Touches mm z0 (openVideo s q enc block hostOk bad) := by
  unfold openVideo
  split
  · exact hT
  · refine Touches.ite ?_ ?_
    · exact hT
    · split
      · rename_i p0 p1 e2
        have h3 : Touches mm z0 p0 := by
          have e := congrArg Prod.fst e2
          refine Eq.mp (congrArg (Touches mm z0) e) ?_
          clear e e2
          exact ownRead_touches (Touches.inc hm rfl) hT
        exact finishCmd_touches (Touches.inc hm rfl) h3
      · rename_i p4 e5
        have h6 : Touches mm z0 p4 := by
          have e := congrArg Prod.fst e5
          refine Eq.mp (congrArg (Touches mm z0) e) ?_
          clear e e5
          exact ownRead_touches (Touches.inc hm rfl) hT
        extract_lets -merge -underBinder x8
        try clear_value x8
        split
        · exact finishCmd_touches (Touches.inc hm rfl) h6
        · extract_lets -merge -underBinder x15 x16 x17 x18 src19 x20
          try clear_value x15
          have hx16 : Touches mm z0 x16 := by
            subst x16
            exact setVctx_touches (Touches.inc hm rfl) h6
          try clear_value x16
          have hx17 : Touches mm z0 x17 := by
            subst x17
            refine wr_touches (Touches.has hm rfl) ?_
            refine wr_touches (Touches.has hm rfl) ?_
            exact wr_touches (Touches.has hm rfl) hx16
          try clear_value x17
          have hx18 : Touches mm z0 x18 := by
            subst x18
            refine wr_touches (Touches.has hm rfl) ?_
            refine wr_touches (Touches.has hm rfl) ?_
            exact wr_touches (Touches.has hm rfl) hx17
          try clear_value x18
          have hx20 : Touches mm z0 x20 := by
            subst x20
            exact Touches.video (Touches.has hm rfl) hx18
          try clear_value x20
          exact finishCmd_touches (Touches.inc hm rfl) hx20

theorem execDecodeOpen_touches {q : ℕ} {block : List Byte} {hostOk : Bool} {bad : Option ℕ} {s : State} {d0 : State}
    (hm : 0x9A0428000068D90 &&& mm = 0x9A0428000068D90) (hd : Touches mm z0 d0) (hT : Touches mm z0 s) :
    Touches mm z0 (Touches.outS d0 (execDecodeOpen q block hostOk bad s)) := by
  unfold execDecodeOpen
  refine Touches.nextI ?_
  exact openVideo_touches (Touches.inc hm rfl) hT

theorem execEncodeOpen_touches {q : ℕ} {block : List Byte} {hostOk : Bool} {bad : Option ℕ} {s : State} {d0 : State}
    (hm : 0x9A0428000068D90 &&& mm = 0x9A0428000068D90) (hd : Touches mm z0 d0) (hT : Touches mm z0 s) :
    Touches mm z0 (Touches.outS d0 (execEncodeOpen q block hostOk bad s)) := by
  unfold execEncodeOpen
  refine Touches.nextI ?_
  exact openVideo_touches (Touches.inc hm rfl) hT

theorem workVideo_touches {s : State} {q : ℕ} {enc : Bool} {op : ℕ} {k : State → RunCmd → State}
    (hm : 0x800428000040D80 &&& mm = 0x800428000040D80) (hk4 : ∀ z u0 u1, Touches mm z u0 → Touches mm z (k u0 u1)) (hT : Touches mm z0 s) :
    Touches mm z0 (workVideo s q enc op k) := by
  unfold workVideo
  split
  · exact hT
  · refine Touches.ite ?_ ?_
    · exact hT
    · split
      · exact endVideo_touches (Touches.inc hm rfl) hT
      · exact hk4 _ _ _ hT

theorem addJob_touches {s : State} {q : ℕ} {r : RunCmd} {enc : Bool} {inSegs : ℕ} (hm : 0x8400 &&& mm = 0x8400)
    (hT : Touches mm z0 s) :
    Touches mm z0 (addJob s q r enc inSegs) := by
  unfold addJob
  extract_lets -merge -underBinder x3 x4 src5
  try clear_value x3
  try clear_value x4
  refine setBusy_touches (Touches.inc hm rfl) ?_
  exact Touches.video (Touches.has hm rfl) hT

theorem execDecodePicture_touches {q : ℕ} {au : List Byte} {hostOk : Bool} {bad : Option ℕ} {s : State} {d0 : State}
    (hm : 0x980428000068D90 &&& mm = 0x980428000068D90) (hd : Touches mm z0 d0) (hT : Touches mm z0 s) :
    Touches mm z0 (Touches.outS d0 (execDecodePicture q au hostOk bad s)) := by
  unfold execDecodePicture
  refine Touches.nextI ?_
  refine workVideo_touches (Touches.inc hm rfl) (fun u0 u1 u2 hu => ?_) ?_
  · revert hu u2 u1 u0
    intro bu0 u0_0 u0_1 hu0
    beta_reduce
    extract_lets -merge -underBinder x2
    try clear_value x2
    split
    · rename_i p3 p4 e5
      have h6 : Touches mm bu0 p3 := by
        have e := congrArg Prod.fst e5
        refine Eq.mp (congrArg (Touches mm bu0) e) ?_
        clear e e5
        exact ownRead_touches (Touches.inc hm rfl) hu0
      exact endVideo_touches (Touches.inc hm rfl) h6
    · rename_i p7 e8
      have h9 : Touches mm bu0 p7 := by
        have e := congrArg Prod.fst e8
        refine Eq.mp (congrArg (Touches mm bu0) e) ?_
        clear e e8
        exact ownRead_touches (Touches.inc hm rfl) hu0
      extract_lets -merge -underBinder x11
      have hx11 : Touches mm bu0 x11 := by
        subst x11
        exact memWrite_touches (Touches.has hm rfl) (Touches.has hm rfl) h9
      try clear_value x11
      exact addJob_touches (Touches.inc hm rfl) hx11
  · exact hT

theorem execDecodeFlush_touches {q : ℕ} {s : State} {d0 : State} (hm : 0x800428000048D80 &&& mm = 0x800428000048D80)
    (hd : Touches mm z0 d0) (hT : Touches mm z0 s) :
    Touches mm z0 (Touches.outS d0 (execDecodeFlush q s)) := by
  unfold execDecodeFlush
  refine Touches.nextI ?_
  refine workVideo_touches (Touches.inc hm rfl) (fun u0 u1 u2 hu => ?_) ?_
  · revert hu u2 u1 u0
    intro bu0 u0_0 u0_1 hu0
    beta_reduce
    exact addJob_touches (Touches.inc hm rfl) hu0
  · exact hT

theorem execEncodePicture_touches {q : ℕ} {s : State} {d0 : State} (hm : 0x800428000048D80 &&& mm = 0x800428000048D80)
    (hd : Touches mm z0 d0) (hT : Touches mm z0 s) :
    Touches mm z0 (Touches.outS d0 (execEncodePicture q s)) := by
  unfold execEncodePicture
  refine Touches.nextI ?_
  refine workVideo_touches (Touches.inc hm rfl) (fun u0 u1 u2 hu => ?_) ?_
  · revert hu u2 u1 u0
    intro bu0 u0_0 u0_1 hu0
    beta_reduce
    exact addJob_touches (Touches.inc hm rfl) hu0
  · exact hT

theorem execEncodeFlush_touches {q : ℕ} {s : State} {d0 : State} (hm : 0x800428000048D80 &&& mm = 0x800428000048D80)
    (hd : Touches mm z0 d0) (hT : Touches mm z0 s) :
    Touches mm z0 (Touches.outS d0 (execEncodeFlush q s)) := by
  unfold execEncodeFlush
  refine Touches.nextI ?_
  refine workVideo_touches (Touches.inc hm rfl) (fun u0 u1 u2 hu => ?_) ?_
  · revert hu u2 u1 u0
    intro bu0 u0_0 u0_1 hu0
    beta_reduce
    exact addJob_touches (Touches.inc hm rfl) hu0
  · exact hT

theorem closeVideo_touches {s : State} {q : ℕ} {enc : Bool} (hm : 0xFFFFFFFF00048D80 &&& mm = 0xFFFFFFFF00048D80)
    (hT : Touches mm z0 s) :
    Touches mm z0 (closeVideo s q enc) := by
  unfold closeVideo
  refine workVideo_touches (Touches.inc hm rfl) (fun u0 u1 u2 hu => ?_) ?_
  · revert hu u2 u1 u0
    intro bu0 u0_0 u0_1 hu0
    beta_reduce
    extract_lets -merge -underBinder x4 src5 x6
    try clear_value x4
    have hx6 : Touches mm bu0 x6 := by
      subst x6
      refine wr_touches (Touches.has hm rfl) ?_
      refine setVctx_touches (Touches.inc hm rfl) ?_
      exact setBusy_touches (Touches.inc hm rfl) hu0
    try clear_value x6
    refine finishClose_touches (Touches.inc hm rfl) ?_
    exact endJobs_touches (Touches.inc hm rfl) hx6
  · exact hT

theorem execDecodeClose_touches {q : ℕ} {s : State} {d0 : State} (hm : 0xFFFFFFFF00048D80 &&& mm = 0xFFFFFFFF00048D80)
    (hd : Touches mm z0 d0) (hT : Touches mm z0 s) :
    Touches mm z0 (Touches.outS d0 (execDecodeClose q s)) := by
  unfold execDecodeClose
  refine Touches.nextI ?_
  exact closeVideo_touches (Touches.inc hm rfl) hT

theorem execEncodeClose_touches {q : ℕ} {s : State} {d0 : State} (hm : 0xFFFFFFFF00048D80 &&& mm = 0xFFFFFFFF00048D80)
    (hd : Touches mm z0 d0) (hT : Touches mm z0 s) :
    Touches mm z0 (Touches.outS d0 (execEncodeClose q s)) := by
  unfold execEncodeClose
  refine Touches.nextI ?_
  exact closeVideo_touches (Touches.inc hm rfl) hT

theorem releaseBufs_touches {s : State} {c : ℕ} {m : ℕ} (hm : 0x20000000008000 &&& mm = 0x20000000008000) (hT : Touches mm z0 s) :
    Touches mm z0 (releaseBufs s c m) := by
  unfold releaseBufs
  extract_lets -merge -underBinder x3 x4 src5
  try clear_value x3
  have hx4 : Touches mm z0 x4 := by
    subst x4
    exact wr_touches (Touches.has hm rfl) hT
  try clear_value x4
  exact setVctx_touches (Touches.inc hm rfl) hx4

theorem execVideoJobStart_touches {units : ℕ} {s : State} {d0 : State} (hm : 0x20000000008000 &&& mm = 0x20000000008000)
    (hd : Touches mm z0 d0) (hT : Touches mm z0 s) :
    Touches mm z0 (Touches.outS d0 (execVideoJobStart units s)) := by
  unfold execVideoJobStart
  refine Touches.nextI ?_
  refine Touches.ite ?_ ?_
  · exact hT
  · split
    · exact hT
    · extract_lets -merge -underBinder x4 x5 src6 x7
      try clear_value x4
      have hx5 : Touches mm z0 x5 := by
        subst x5
        refine Touches.ite ?_ ?_
        · exact releaseBufs_touches (Touches.inc hm rfl) hT
        · exact hT
      try clear_value x5
      have hx7 : Touches mm z0 x7 := by
        subst x7
        exact Touches.video (Touches.has hm rfl) hx5
      try clear_value x7
      refine Touches.foldl ?_ (fun u x => ?_)
      · exact hx7
      · revert x u; intro u8 y
        beta_reduce
        refine wr_touches (Touches.has hm rfl) ?_
        refine wr_touches (Touches.has hm rfl) ?_
        refine wr_touches (Touches.has hm rfl) ?_
        exact wr_touches (Touches.has hm rfl) (Touches.refl mm _)

theorem execPreemption_touches {c : ℕ} {s : State} {d0 : State} (hm : 0x20000000008184 &&& mm = 0x20000000008184)
    (hd : Touches mm z0 d0) (hT : Touches mm z0 s) :
    Touches mm z0 (Touches.outS d0 (execPreemption c s)) := by
  unfold execPreemption
  refine Touches.nextI ?_
  split
  · exact hT
  · extract_lets -merge -underBinder x4 src5 x6 x7
    have hx4 : Touches mm z0 x4 := by
      subst x4
      refine useFree_touches (Touches.inc hm rfl) ?_
      exact memWrite_touches (Touches.has hm rfl) (Touches.has hm rfl) hT
    try clear_value x4
    have hx6 : Touches mm z0 x6 := by
      subst x6
      exact Touches.video (Touches.has hm rfl) hx4
    try clear_value x6
    have hx7 : Touches mm z0 x7 := by
      subst x7
      refine Touches.foldl ?_ (fun u x => ?_)
      · exact hx6
      · revert x u; intro u8 y
        beta_reduce
        refine wr_touches (Touches.has hm rfl) ?_
        exact freeEngine_touches (Touches.inc hm rfl) (Touches.refl mm _)
    try clear_value x7
    refine Touches.ite ?_ ?_
    · exact hT
    · exact incSat_touches (Touches.has hm rfl) hx7

theorem outputBuf_touches {c : ℕ} {s : State} {b : ℕ} (hm : 0x20000000008000 &&& mm = 0x20000000008000) (hT : Touches mm z0 s) :
    Touches mm z0 (outputBuf c s b) := by
  unfold outputBuf
  extract_lets -merge -underBinder x2 x3
  try clear_value x2
  have hx3 : Touches mm z0 x3 := by
    subst x3
    exact wr_touches (Touches.has hm rfl) hT
  try clear_value x3
  exact setVctx_touches (Touches.inc hm rfl) hx3

theorem unrefBuf_touches {c : ℕ} {later : List ℕ} {s : State} {b : ℕ} (hm : 0x20000000008000 &&& mm = 0x20000000008000)
    (hT : Touches mm z0 s) :
    Touches mm z0 (unrefBuf c later s b) := by
  unfold unrefBuf
  extract_lets -merge -underBinder x2 src3
  have hx2 : Touches mm z0 x2 := by
    subst x2
    exact wr_touches (Touches.has hm rfl) hT
  try clear_value x2
  refine Touches.ite ?_ ?_
  · refine Touches.ite ?_ ?_
    · exact setVctx_touches (Touches.inc hm rfl) hx2
    · exact hx2
  · exact hT

theorem codecEvent_touches {s : State} {v : ℕ} {bit : ℕ} {f : Fld} {tenant : ℕ}
    (hm : 0x1A0000000060010 &&& mm = 0x1A0000000060010) (hp : mm.testBit (32 + f.ty % 32) = true) (hT : Touches mm z0 s) :
    Touches mm z0 (codecEvent s v bit f tenant) := by
  unfold codecEvent
  refine irqEvent_touches (Touches.inc hm rfl) (Touches.has hm rfl) ?_
  exact incSat_touches hp hT

theorem decodePic_touches {v : ℕ} {c : ℕ} {tenant : ℕ} {later : List ℕ} {a : State × DecAcc} {p : DecPic}
    (hm : 0x1A0000000068190 &&& mm = 0x1A0000000068190) (hT : Touches mm z0 a.1) :
    Touches mm z0 (decodePic v c tenant later a p).1 := by
  unfold decodePic
  split
  · exact hT
  · extract_lets -merge -underBinder x12 x13 src14 x15 x16 x17 x18 x19 x20 x21 x22 x23
    have hx12 : Touches mm z0 x12 := by
      subst x12
      exact codecEvent_touches (Touches.inc hm rfl) (Touches.has hm rfl) hT
    try clear_value x12
    have hx13 : Touches mm z0 x13 := by
      subst x13
      exact wr_touches (Touches.has hm rfl) hx12
    try clear_value x13
    have hx15 : Touches mm z0 x15 := by
      subst x15
      refine Touches.ite ?_ ?_
      · exact setVctx_touches (Touches.inc hm rfl) hx13
      · exact hT
    try clear_value x15
    have hx16 : Touches mm z0 x16 := by
      subst x16
      exact memWrite_touches (Touches.has hm rfl) (Touches.has hm rfl) hx15
    try clear_value x16
    have hx17 : Touches mm z0 x17 := by
      subst x17
      refine Touches.ite ?_ ?_
      · exact hx16
      · exact codecEvent_touches (Touches.inc hm rfl) (Touches.has hm rfl) hx16
    try clear_value x17
    have hx18 : Touches mm z0 x18 := by
      subst x18
      refine wr_touches (Touches.has hm rfl) ?_
      exact incSat_touches (Touches.has hm rfl) hx17
    try clear_value x18
    try clear_value x19
    try clear_value x20
    have hx21 : Touches mm z0 x21 := by
      subst x21
      refine Touches.foldl ?_ (fun u x => ?_)
      · exact hx18
      · revert x u; intro u24 y
        beta_reduce
        exact outputBuf_touches (Touches.inc hm rfl) (Touches.refl mm _)
    try clear_value x21
    have hx22 : Touches mm z0 x22 := by
      subst x22
      refine Touches.foldl ?_ (fun u x => ?_)
      · exact hx21
      · revert x u; intro u25 y
        beta_reduce
        exact unrefBuf_touches (Touches.inc hm rfl) (Touches.refl mm _)
    try clear_value x22
    have hx23 : Touches mm z0 x23 := by
      subst x23
      refine Touches.ite ?_ ?_
      · exact hx22
      · exact unrefBuf_touches (Touches.inc hm rfl) hx22
    try clear_value x23
    exact Touches.mkI hx23

theorem countBusy_touches {s : State} {j : VJob} {steps : List ℕ} (hm : 0x20000000000000 &&& mm = 0x20000000000000)
    (hT : Touches mm z0 s) :
    Touches mm z0 (countBusy s j steps) := by
  unfold countBusy
  refine Touches.foldl ?_ (fun u x => ?_)
  · exact hT
  · revert x u; intro u0 y
    beta_reduce
    exact incWrap_touches (Touches.has hm rfl) (Touches.refl mm _)

theorem endDecode_touches {s : State} {j : VJob} {r : VidRes} (hm : 0xFFFFFFFF00068D90 &&& mm = 0xFFFFFFFF00068D90)
    (hT : Touches mm z0 s) :
    Touches mm z0 (endDecode s j r) := by
  unfold endDecode
  extract_lets -merge -underBinder x6 x7 x8 x9 x10 x11
  try clear_value x6
  try clear_value x7
  try clear_value x8
  have hx9 : ∀ x9a0 x9a1 z, Touches mm z x9a0 → Touches mm z (x9 x9a0 x9a1) := by
    intro x9a0 x9a1 z hu
    subst x9
    beta_reduce
    exact endJob_touches (Touches.inc hm rfl) hu
  try clear_value x9
  try clear_value x10
  try clear_value x11
  refine Touches.ite ?_ ?_
  · exact hx9 _ _ _ hT
  · refine Touches.ite ?_ ?_
    · refine hx9 _ _ _ ?_
      refine raiseIrq_touches (Touches.has hm rfl) (Touches.has hm rfl) ?_
      refine statusEvent_touches (Touches.inc hm rfl) ?_
      exact incSat_touches (Touches.has hm rfl) hT
    · refine Touches.ite ?_ ?_
      · exact hx9 _ _ _ hT
      · split
        · rename_i p12 p13 e14
          have h15 : Touches mm z0 p12 := by
            have e := congrArg Prod.fst e14
            refine Eq.mp (congrArg (Touches mm z0) e) ?_
            clear e e14
            refine Touches.foldlV ?_ (fun u c x => ?_)
            · refine Touches.mkI ?_
              exact setVctx_touches (Touches.inc hm rfl) hT
            · revert x c u; intro u16 c y
              beta_reduce
              refine decodePic_touches (Touches.inc hm rfl) ?_
              exact Touches.mkI (Touches.refl mm _)
          extract_lets -merge -underBinder x18
          try clear_value x18
          exact endJob_touches (Touches.inc hm rfl) h15

theorem endDecodeFlush_touches {s : State} {j : VJob} {r : VidRes} (hm : 0xFFFFFFFF00048D80 &&& mm = 0xFFFFFFFF00048D80)
    (hT : Touches mm z0 s) :
    Touches mm z0 (endDecodeFlush s j r) := by
  unfold endDecodeFlush
  extract_lets -merge -underBinder x6 x7 x8 x9 src10 x11
  try clear_value x6
  try clear_value x7
  have hx8 : Touches mm z0 x8 := by
    subst x8
    refine Touches.foldl ?_ (fun u x => ?_)
    · exact hT
    · revert x u; intro u12 y
      beta_reduce
      exact outputBuf_touches (Touches.inc hm rfl) (Touches.refl mm _)
  try clear_value x8
  have hx9 : Touches mm z0 x9 := by
    subst x9
    refine Touches.foldl ?_ (fun u x => ?_)
    · exact hx8
    · revert x u; intro u13 y
      beta_reduce
      exact unrefBuf_touches (Touches.inc hm rfl) (Touches.refl mm _)
  try clear_value x9
  have hx11 : Touches mm z0 x11 := by
    subst x11
    exact setVctx_touches (Touches.inc hm rfl) hx9
  try clear_value x11
  exact endJob_touches (Touches.inc hm rfl) hx11

theorem encodePic_touches {j : VJob} {first : Bool} {a : State × EncAcc} {p : EncPic}
    (hm : 0x20000000008004 &&& mm = 0x20000000008004) (hT : Touches mm z0 a.1) :
    Touches mm z0 (encodePic j first a p).1 := by
  unfold encodePic
  extract_lets -merge -underBinder x13 x14 x15 x16 x17 x18 x19 x20 x21 x22 x23 x24 x25
  have hx13 : Touches mm z0 x13 := by
    subst x13
    exact hT
  try clear_value x13
  try clear_value x14
  try clear_value x15
  try clear_value x16
  try clear_value x17
  try clear_value x18
  try clear_value x19
  try clear_value x20
  try clear_value x21
  try clear_value x22
  try clear_value x23
  try clear_value x24
  have hx25 : Touches mm z0 x25 := by
    subst x25
    exact setVctx_touches (Touches.inc hm rfl) hx13
  try clear_value x25
  refine Touches.mkI ?_
  refine useFree_touches (Touches.inc hm rfl) ?_
  exact incSat_touches (Touches.has hm rfl) hx25

theorem writeStream_touches {s : State} {j : VJob} {tagged : ℕ} {bs : List Byte} (hm : 0x8000040400 &&& mm = 0x8000040400)
    (hT : Touches mm z0 s) :
    Touches mm z0 (writeStream s j tagged bs) := by
  unfold writeStream
  refine Touches.ite ?_ ?_
  · refine Touches.foldl ?_ (fun u x => ?_)
    · exact hT
    · revert x u; intro u0 y
      beta_reduce
      exact towardsHost_touches (Touches.inc hm rfl) (Touches.refl mm _)
  · refine Touches.ite ?_ ?_
    · exact hT
    · exact towardsHost_touches (Touches.inc hm rfl) hT

theorem endEncode_touches {s : State} {j : VJob} {r : VidRes} (hm : 0xFFFFFFFF00048D84 &&& mm = 0xFFFFFFFF00048D84)
    (hT : Touches mm z0 s) :
    Touches mm z0 (endEncode s j r) := by
  unfold endEncode
  extract_lets -merge -underBinder x3 x4 x5
  try clear_value x3
  try clear_value x4
  have hx5 : ∀ x5a0, Touches mm z0 (x5 x5a0) := by
    intro x5a0
    subst x5
    beta_reduce
    exact endJob_touches (Touches.inc hm rfl) hT
  try clear_value x5
  split
  · exact hx5 _
  · refine Touches.ite ?_ ?_
    · exact hx5 _
    · split
      · rename_i p6 p7 e8
        have h9 : Touches mm z0 p6 := by
          have e := congrArg Prod.fst e8
          refine Eq.mp (congrArg (Touches mm z0) e) ?_
          clear e e8
          refine Touches.foldlV ?_ (fun u c x => ?_)
          · exact Touches.mkI hT
          · revert x c u; intro u10 c y
            beta_reduce
            refine encodePic_touches (Touches.inc hm rfl) ?_
            exact Touches.mkI (Touches.refl mm _)
        extract_lets -merge -underBinder x13 x14
        try clear_value x13
        have hx14 : Touches mm z0 x14 := by
          subst x14
          refine useFree_touches (Touches.inc hm rfl) ?_
          exact writeStream_touches (Touches.inc hm rfl) h9
        try clear_value x14
        exact endJob_touches (Touches.inc hm rfl) hx14

theorem execVideoJobEnd_touches {c : ℕ} {r : VidRes} {s : State} {d0 : State}
    (hm : 0xFFFFFFFF00068D94 &&& mm = 0xFFFFFFFF00068D94) (hd : Touches mm z0 d0) (hT : Touches mm z0 s) :
    Touches mm z0 (Touches.outS d0 (execVideoJobEnd c r s)) := by
  unfold execVideoJobEnd
  refine Touches.nextI ?_
  split
  · exact hT
  · extract_lets -merge -underBinder x3 x4 x5
    have hx3 : Touches mm z0 x3 := by
      subst x3
      exact readFails_touches (Touches.inc hm rfl) hT
    try clear_value x3
    have hx4 : Touches mm z0 x4 := by
      subst x4
      exact countBusy_touches (Touches.inc hm rfl) hx3
    try clear_value x4
    have hx5 : Touches mm z0 x5 := by
      subst x5
      refine Touches.ite ?_ ?_
      · exact endEncode_touches (Touches.inc hm rfl) hx4
      · refine Touches.ite ?_ ?_
        · exact endDecodeFlush_touches (Touches.inc hm rfl) hx4
        · exact endDecode_touches (Touches.inc hm rfl) hx4
    try clear_value x5
    refine Touches.ite ?_ ?_
    · exact hx3
    · refine Touches.foldl ?_ (fun u x => ?_)
      · exact hx5
      · revert x u; intro u6 y
        beta_reduce
        exact writePathBad_touches (Touches.inc hm rfl) (Touches.refl mm _)

theorem execVidPre_touches {q : ℕ} {s : State} {d0 : State} (hm : 0x9C0428000068D90 &&& mm = 0x9C0428000068D90)
    (hd : Touches mm z0 d0) (hT : Touches mm z0 s) :
    Touches mm z0 (Touches.outS d0 (execVidPre q s)) := by
  unfold execVidPre
  refine Touches.nextI ?_
  split
  · exact hT
  · split
    · refine finishCmd_touches (Touches.inc hm rfl) ?_
      refine irqEvent_touches (Touches.inc hm rfl) (Touches.has hm rfl) ?_
      exact incSat_touches (Touches.has hm rfl) hT
    · extract_lets -merge -underBinder x4 x5 x6 src7
      try clear_value x4
      try clear_value x5
      try clear_value x6
      refine setBusy_touches (Touches.inc hm rfl) ?_
      exact Touches.video (Touches.has hm rfl) hT

theorem execVpreJobStart_touches {s : State} {d0 : State} (hm : 0x40000000008000 &&& mm = 0x40000000008000)
    (hd : Touches mm z0 d0) (hT : Touches mm z0 s) :
    Touches mm z0 (Touches.outS d0 (execVpreJobStart s)) := by
  unfold execVpreJobStart
  refine Touches.nextI ?_
  refine Touches.ite ?_ ?_
  · exact hT
  · split
    · exact hT
    · extract_lets -merge -underBinder src1
      refine wr_touches (Touches.has hm rfl) ?_
      refine wr_touches (Touches.has hm rfl) ?_
      exact Touches.video (Touches.has hm rfl) hT

theorem execVpreJobEnd_touches {steps : ℕ} {env : MemEnv} {s : State} {d0 : State}
    (hm : 0x9C0428800068D90 &&& mm = 0x9C0428800068D90) (hd : Touches mm z0 d0) (hT : Touches mm z0 s) :
    Touches mm z0 (Touches.outS d0 (execVpreJobEnd steps env s)) := by
  unfold execVpreJobEnd
  refine Touches.nextI ?_
  split
  · exact hT
  · extract_lets -merge -underBinder x8 x9 x10 x11 x12 x13 x14 x15
    have hx8 : Touches mm z0 x8 := by
      subst x8
      exact readFails_touches (Touches.inc hm rfl) hT
    try clear_value x8
    try clear_value x9
    try clear_value x10
    have hx11 : Touches mm z0 x11 := by
      subst x11
      exact incWrap_touches (Touches.has hm rfl) hx8
    try clear_value x11
    try clear_value x12
    have hx13 : Touches mm z0 x13 := by
      subst x13
      exact dropPre_touches (Touches.inc hm rfl) hx11
    try clear_value x13
    have hx14 : Touches mm z0 x14 := by
      subst x14
      refine Touches.foldl ?_ (fun u x => ?_)
      · exact hx13
      · revert x u; intro u16 y
        beta_reduce
        exact memWrite_touches (Touches.has hm rfl) (Touches.has hm rfl) (Touches.refl mm _)
    try clear_value x14
    have hx15 : Touches mm z0 x15 := by
      subst x15
      refine Touches.foldl ?_ (fun u x => ?_)
      · exact hx14
      · revert x u; intro u17 y
        beta_reduce
        exact writePathBad_touches (Touches.inc hm rfl) (Touches.refl mm _)
    try clear_value x15
    refine Touches.ite ?_ ?_
    · exact hx8
    · refine Touches.ite ?_ ?_
      · exact finishCmd_touches (Touches.inc hm rfl) hx13
      · refine finishCmd_touches (Touches.inc hm rfl) ?_
        exact incSat_touches (Touches.has hm rfl) hx15

end Sys2Proof.Laws
end

