-- ==== Sys2Proof/Laws/State.lean ====
section
/-!
SUPPORT. Reads after writes: the register file, device memory and the parts of the state that each primitive write leaves alone.
-/

namespace Sys2Proof.Machine

/-! ### The register file -/

/-- The place of a field in its page, with the page's block type: two fields with different places never share a key. -/
def fldCode (f : Fld) : Nat := f.ty % 32 * 2 ^ 15 + (f.off * 8 + f.lo) % 2 ^ 15

theorem fldKey_code (f : Fld) (i k : Nat) : fldKey f i k % 2 ^ 20 = fldCode f := by
  unfold fldKey fldCode
  omega

theorem fldKey_ne {f g : Fld} (h : fldCode g ≠ fldCode f) (i k j l : Nat) : fldKey g j l ≠ fldKey f i k := by
  intro he
  apply h
  rw [← fldKey_code g j l, ← fldKey_code f i k, he]

theorem fldKey_inst_ne (f : Fld) {i k j l : Nat} (h : j % 2 ^ 16 ≠ i % 2 ^ 16 ∨ l ≠ k) : fldKey f j l ≠ fldKey f i k := by
  unfold fldKey
  omega

/-- A field reads as the value last written to it, cut to its width. -/
@[simp] theorem rd_wr (s : State) (f : Fld) (v i k : Nat) : rd (wr s f v i k) f i k = v % 2 ^ f.w :=
  tget_tset_same _ _ _ _

/-- A write of a field leaves every field at another place alone, whatever its instance. -/
theorem rd_wr_ne {f g : Fld} (h : fldCode g ≠ fldCode f) (s : State) (v i k j l : Nat) :
    rd (wr s f v i k) g j l = rd s g j l := tget_tset_ne _ _ (fldKey_ne h i k j l) _ _

/-- A write of a field leaves the field of another instance, or under another selector, alone. -/
theorem rd_wr_inst (f : Fld) {i k j l : Nat} (h : j % 2 ^ 16 ≠ i % 2 ^ 16 ∨ l ≠ k) (s : State) (v : Nat) :
    rd (wr s f v i k) f j l = rd s f j l := tget_tset_ne _ _ (fldKey_inst_ne f h) _ _

/-- A value that fits its field reads back as it was written. -/
theorem rd_wr_fit (s : State) (f : Fld) {v : Nat} (i k : Nat) (h : v < 2 ^ f.w) : rd (wr s f v i k) f i k = v := by
  rw [rd_wr, Nat.mod_eq_of_lt h]

@[simp] theorem wr_now (s : State) (f : Fld) (v i k : Nat) : (wr s f v i k).now = s.now := rfl
@[simp] theorem wr_rtc (s : State) (f : Fld) (v i k : Nat) : (wr s f v i k).rtc = s.rtc := rfl
@[simp] theorem wr_free (s : State) (f : Fld) (v i k : Nat) : (wr s f v i k).free = s.free := rfl
@[simp] theorem wr_comb (s : State) (f : Fld) (v i k : Nat) : (wr s f v i k).comb = s.comb := rfl
@[simp] theorem wr_evr (s : State) (f : Fld) (v i k : Nat) : (wr s f v i k).evr = s.evr := rfl
@[simp] theorem wr_pwr (s : State) (f : Fld) (v i k : Nat) : (wr s f v i k).pwr = s.pwr := rfl
@[simp] theorem wr_clk (s : State) (f : Fld) (v i k : Nat) : (wr s f v i k).clk = s.clk := rfl
@[simp] theorem wr_mem (s : State) (f : Fld) (v i k : Nat) : (wr s f v i k).mem = s.mem := rfl
@[simp] theorem wr_kv (s : State) (f : Fld) (v i k : Nat) : (wr s f v i k).kv = s.kv := rfl
@[simp] theorem wr_host (s : State) (f : Fld) (v i k : Nat) : (wr s f v i k).host = s.host := rfl
@[simp] theorem wr_wag (s : State) (f : Fld) (v i k : Nat) : (wr s f v i k).wag = s.wag := rfl
@[simp] theorem wr_hive (s : State) (f : Fld) (v i k : Nat) : (wr s f v i k).hive = s.hive := rfl
@[simp] theorem wr_serv (s : State) (f : Fld) (v i k : Nat) : (wr s f v i k).serv = s.serv := rfl
@[simp] theorem wr_twin (s : State) (f : Fld) (v i k : Nat) : (wr s f v i k).twin = s.twin := rfl
@[simp] theorem wr_vid (s : State) (f : Fld) (v i k : Nat) : (wr s f v i k).vid = s.vid := rfl
@[simp] theorem wr_sec (s : State) (f : Fld) (v i k : Nat) : (wr s f v i k).sec = s.sec := rfl
@[simp] theorem wr_boot (s : State) (f : Fld) (v i k : Nat) : (wr s f v i k).boot = s.boot := rfl
@[simp] theorem wr_out (s : State) (f : Fld) (v i k : Nat) : (wr s f v i k).out = s.out := rfl
@[simp] theorem wr_pending (s : State) (f : Fld) (v i k : Nat) : (wr s f v i k).pending = s.pending := rfl
@[simp] theorem rd_set_now (s : State) (x : Nat) (f : Fld) (i k : Nat) :
    rd { s with now := x } f i k = rd s f i k := rfl
@[simp] theorem rd_set_rtc (s : State) (x : Nat) (f : Fld) (i k : Nat) :
    rd { s with rtc := x } f i k = rd s f i k := rfl
@[simp] theorem rd_set_free (s : State) (x : Nat) (f : Fld) (i k : Nat) :
    rd { s with free := x } f i k = rd s f i k := rfl
@[simp] theorem rd_set_comb (s : State) (x : Comb) (f : Fld) (i k : Nat) :
    rd { s with comb := x } f i k = rd s f i k := rfl
@[simp] theorem rd_set_evr (s : State) (x : Evr) (f : Fld) (i k : Nat) :
    rd { s with evr := x } f i k = rd s f i k := rfl
@[simp] theorem rd_set_pwr (s : State) (x : Pwr) (f : Fld) (i k : Nat) :
    rd { s with pwr := x } f i k = rd s f i k := rfl
@[simp] theorem rd_set_clk (s : State) (x : Clk) (f : Fld) (i k : Nat) :
    rd { s with clk := x } f i k = rd s f i k := rfl
@[simp] theorem rd_set_mem (s : State) (x : Mem) (f : Fld) (i k : Nat) :
    rd { s with mem := x } f i k = rd s f i k := rfl
@[simp] theorem rd_set_kv (s : State) (x : Kv) (f : Fld) (i k : Nat) :
    rd { s with kv := x } f i k = rd s f i k := rfl
@[simp] theorem rd_set_host (s : State) (x : HostPort) (f : Fld) (i k : Nat) :
    rd { s with host := x } f i k = rd s f i k := rfl
@[simp] theorem rd_set_wag (s : State) (x : Wag) (f : Fld) (i k : Nat) :
    rd { s with wag := x } f i k = rd s f i k := rfl
@[simp] theorem rd_set_hive (s : State) (x : Hive) (f : Fld) (i k : Nat) :
    rd { s with hive := x } f i k = rd s f i k := rfl
@[simp] theorem rd_set_serv (s : State) (x : Serv) (f : Fld) (i k : Nat) :
    rd { s with serv := x } f i k = rd s f i k := rfl
@[simp] theorem rd_set_twin (s : State) (x : Twin) (f : Fld) (i k : Nat) :
    rd { s with twin := x } f i k = rd s f i k := rfl
@[simp] theorem rd_set_vid (s : State) (x : Video) (f : Fld) (i k : Nat) :
    rd { s with vid := x } f i k = rd s f i k := rfl
@[simp] theorem rd_set_sec (s : State) (x : Sec) (f : Fld) (i k : Nat) :
    rd { s with sec := x } f i k = rd s f i k := rfl
@[simp] theorem rd_set_boot (s : State) (x : Boot) (f : Fld) (i k : Nat) :
    rd { s with boot := x } f i k = rd s f i k := rfl
@[simp] theorem rd_set_out (s : State) (x : List OutEv) (f : Fld) (i k : Nat) :
    rd { s with out := x } f i k = rd s f i k := rfl
@[simp] theorem rd_set_pending (s : State) (x : List Instr) (f : Fld) (i k : Nat) :
    rd { s with pending := x } f i k = rd s f i k := rfl

/-! ### `emit` -/

@[simp] theorem rd_emit (s : State) (e : OutEv) (f : Fld) (i k : Nat) : rd (emit s e) f i k = rd s f i k := rfl
@[simp] theorem emit_regs (s : State) (e : OutEv) : (emit s e).regs = s.regs := rfl
@[simp] theorem emit_now (s : State) (e : OutEv) : (emit s e).now = s.now := rfl
@[simp] theorem emit_rtc (s : State) (e : OutEv) : (emit s e).rtc = s.rtc := rfl
@[simp] theorem emit_free (s : State) (e : OutEv) : (emit s e).free = s.free := rfl
@[simp] theorem emit_comb (s : State) (e : OutEv) : (emit s e).comb = s.comb := rfl
@[simp] theorem emit_evr (s : State) (e : OutEv) : (emit s e).evr = s.evr := rfl
@[simp] theorem emit_pwr (s : State) (e : OutEv) : (emit s e).pwr = s.pwr := rfl
@[simp] theorem emit_clk (s : State) (e : OutEv) : (emit s e).clk = s.clk := rfl
@[simp] theorem emit_mem (s : State) (e : OutEv) : (emit s e).mem = s.mem := rfl
@[simp] theorem emit_kv (s : State) (e : OutEv) : (emit s e).kv = s.kv := rfl
@[simp] theorem emit_host (s : State) (e : OutEv) : (emit s e).host = s.host := rfl
@[simp] theorem emit_wag (s : State) (e : OutEv) : (emit s e).wag = s.wag := rfl
@[simp] theorem emit_hive (s : State) (e : OutEv) : (emit s e).hive = s.hive := rfl
@[simp] theorem emit_serv (s : State) (e : OutEv) : (emit s e).serv = s.serv := rfl
@[simp] theorem emit_twin (s : State) (e : OutEv) : (emit s e).twin = s.twin := rfl
@[simp] theorem emit_vid (s : State) (e : OutEv) : (emit s e).vid = s.vid := rfl
@[simp] theorem emit_sec (s : State) (e : OutEv) : (emit s e).sec = s.sec := rfl
@[simp] theorem emit_boot (s : State) (e : OutEv) : (emit s e).boot = s.boot := rfl
@[simp] theorem emit_pending (s : State) (e : OutEv) : (emit s e).pending = s.pending := rfl

/-! ### `useFree` -/

@[simp] theorem rd_useFree (s : State) (f : Fld) (i k : Nat) : rd (useFree s) f i k = rd s f i k := rfl
@[simp] theorem useFree_regs (s : State) : (useFree s).regs = s.regs := rfl
@[simp] theorem useFree_now (s : State) : (useFree s).now = s.now := rfl
@[simp] theorem useFree_rtc (s : State) : (useFree s).rtc = s.rtc := rfl
@[simp] theorem useFree_comb (s : State) : (useFree s).comb = s.comb := rfl
@[simp] theorem useFree_evr (s : State) : (useFree s).evr = s.evr := rfl
@[simp] theorem useFree_pwr (s : State) : (useFree s).pwr = s.pwr := rfl
@[simp] theorem useFree_clk (s : State) : (useFree s).clk = s.clk := rfl
@[simp] theorem useFree_mem (s : State) : (useFree s).mem = s.mem := rfl
@[simp] theorem useFree_kv (s : State) : (useFree s).kv = s.kv := rfl
@[simp] theorem useFree_host (s : State) : (useFree s).host = s.host := rfl
@[simp] theorem useFree_wag (s : State) : (useFree s).wag = s.wag := rfl
@[simp] theorem useFree_hive (s : State) : (useFree s).hive = s.hive := rfl
@[simp] theorem useFree_serv (s : State) : (useFree s).serv = s.serv := rfl
@[simp] theorem useFree_twin (s : State) : (useFree s).twin = s.twin := rfl
@[simp] theorem useFree_vid (s : State) : (useFree s).vid = s.vid := rfl
@[simp] theorem useFree_sec (s : State) : (useFree s).sec = s.sec := rfl
@[simp] theorem useFree_boot (s : State) : (useFree s).boot = s.boot := rfl
@[simp] theorem useFree_out (s : State) : (useFree s).out = s.out := rfl
@[simp] theorem useFree_pending (s : State) : (useFree s).pending = s.pending := rfl

/-! ### `setDom` -/

@[simp] theorem rd_setDom (s : State) (d v : Nat) (f : Fld) (i k : Nat) : rd (setDom s d v) f i k = rd s f i k := rfl
@[simp] theorem setDom_regs (s : State) (d v : Nat) : (setDom s d v).regs = s.regs := rfl
@[simp] theorem setDom_now (s : State) (d v : Nat) : (setDom s d v).now = s.now := rfl
@[simp] theorem setDom_rtc (s : State) (d v : Nat) : (setDom s d v).rtc = s.rtc := rfl
@[simp] theorem setDom_free (s : State) (d v : Nat) : (setDom s d v).free = s.free := rfl
@[simp] theorem setDom_comb (s : State) (d v : Nat) : (setDom s d v).comb = s.comb := rfl
@[simp] theorem setDom_evr (s : State) (d v : Nat) : (setDom s d v).evr = s.evr := rfl
@[simp] theorem setDom_clk (s : State) (d v : Nat) : (setDom s d v).clk = s.clk := rfl
@[simp] theorem setDom_mem (s : State) (d v : Nat) : (setDom s d v).mem = s.mem := rfl
@[simp] theorem setDom_kv (s : State) (d v : Nat) : (setDom s d v).kv = s.kv := rfl
@[simp] theorem setDom_host (s : State) (d v : Nat) : (setDom s d v).host = s.host := rfl
@[simp] theorem setDom_wag (s : State) (d v : Nat) : (setDom s d v).wag = s.wag := rfl
@[simp] theorem setDom_hive (s : State) (d v : Nat) : (setDom s d v).hive = s.hive := rfl
@[simp] theorem setDom_serv (s : State) (d v : Nat) : (setDom s d v).serv = s.serv := rfl
@[simp] theorem setDom_twin (s : State) (d v : Nat) : (setDom s d v).twin = s.twin := rfl
@[simp] theorem setDom_vid (s : State) (d v : Nat) : (setDom s d v).vid = s.vid := rfl
@[simp] theorem setDom_sec (s : State) (d v : Nat) : (setDom s d v).sec = s.sec := rfl
@[simp] theorem setDom_boot (s : State) (d v : Nat) : (setDom s d v).boot = s.boot := rfl
@[simp] theorem setDom_out (s : State) (d v : Nat) : (setDom s d v).out = s.out := rfl
@[simp] theorem setDom_pending (s : State) (d v : Nat) : (setDom s d v).pending = s.pending := rfl

/-! ### `setCell` -/

@[simp] theorem rd_setCell (s : State) (c : Nat) (x : Cell) (f : Fld) (i k : Nat) : rd (setCell s c x) f i k = rd s f i k := rfl
@[simp] theorem setCell_regs (s : State) (c : Nat) (x : Cell) : (setCell s c x).regs = s.regs := rfl
@[simp] theorem setCell_now (s : State) (c : Nat) (x : Cell) : (setCell s c x).now = s.now := rfl
@[simp] theorem setCell_rtc (s : State) (c : Nat) (x : Cell) : (setCell s c x).rtc = s.rtc := rfl
@[simp] theorem setCell_free (s : State) (c : Nat) (x : Cell) : (setCell s c x).free = s.free := rfl
@[simp] theorem setCell_evr (s : State) (c : Nat) (x : Cell) : (setCell s c x).evr = s.evr := rfl
@[simp] theorem setCell_pwr (s : State) (c : Nat) (x : Cell) : (setCell s c x).pwr = s.pwr := rfl
@[simp] theorem setCell_clk (s : State) (c : Nat) (x : Cell) : (setCell s c x).clk = s.clk := rfl
@[simp] theorem setCell_mem (s : State) (c : Nat) (x : Cell) : (setCell s c x).mem = s.mem := rfl
@[simp] theorem setCell_kv (s : State) (c : Nat) (x : Cell) : (setCell s c x).kv = s.kv := rfl
@[simp] theorem setCell_host (s : State) (c : Nat) (x : Cell) : (setCell s c x).host = s.host := rfl
@[simp] theorem setCell_wag (s : State) (c : Nat) (x : Cell) : (setCell s c x).wag = s.wag := rfl
@[simp] theorem setCell_hive (s : State) (c : Nat) (x : Cell) : (setCell s c x).hive = s.hive := rfl
@[simp] theorem setCell_serv (s : State) (c : Nat) (x : Cell) : (setCell s c x).serv = s.serv := rfl
@[simp] theorem setCell_twin (s : State) (c : Nat) (x : Cell) : (setCell s c x).twin = s.twin := rfl
@[simp] theorem setCell_vid (s : State) (c : Nat) (x : Cell) : (setCell s c x).vid = s.vid := rfl
@[simp] theorem setCell_sec (s : State) (c : Nat) (x : Cell) : (setCell s c x).sec = s.sec := rfl
@[simp] theorem setCell_boot (s : State) (c : Nat) (x : Cell) : (setCell s c x).boot = s.boot := rfl
@[simp] theorem setCell_out (s : State) (c : Nat) (x : Cell) : (setCell s c x).out = s.out := rfl
@[simp] theorem setCell_pending (s : State) (c : Nat) (x : Cell) : (setCell s c x).pending = s.pending := rfl

/-! ### `setPipe` -/

@[simp] theorem rd_setPipe (s : State) (p : Nat) (x : Pipe) (f : Fld) (i k : Nat) : rd (setPipe s p x) f i k = rd s f i k := rfl
@[simp] theorem setPipe_regs (s : State) (p : Nat) (x : Pipe) : (setPipe s p x).regs = s.regs := rfl
@[simp] theorem setPipe_now (s : State) (p : Nat) (x : Pipe) : (setPipe s p x).now = s.now := rfl
@[simp] theorem setPipe_rtc (s : State) (p : Nat) (x : Pipe) : (setPipe s p x).rtc = s.rtc := rfl
@[simp] theorem setPipe_free (s : State) (p : Nat) (x : Pipe) : (setPipe s p x).free = s.free := rfl
@[simp] theorem setPipe_evr (s : State) (p : Nat) (x : Pipe) : (setPipe s p x).evr = s.evr := rfl
@[simp] theorem setPipe_pwr (s : State) (p : Nat) (x : Pipe) : (setPipe s p x).pwr = s.pwr := rfl
@[simp] theorem setPipe_clk (s : State) (p : Nat) (x : Pipe) : (setPipe s p x).clk = s.clk := rfl
@[simp] theorem setPipe_mem (s : State) (p : Nat) (x : Pipe) : (setPipe s p x).mem = s.mem := rfl
@[simp] theorem setPipe_kv (s : State) (p : Nat) (x : Pipe) : (setPipe s p x).kv = s.kv := rfl
@[simp] theorem setPipe_host (s : State) (p : Nat) (x : Pipe) : (setPipe s p x).host = s.host := rfl
@[simp] theorem setPipe_wag (s : State) (p : Nat) (x : Pipe) : (setPipe s p x).wag = s.wag := rfl
@[simp] theorem setPipe_hive (s : State) (p : Nat) (x : Pipe) : (setPipe s p x).hive = s.hive := rfl
@[simp] theorem setPipe_serv (s : State) (p : Nat) (x : Pipe) : (setPipe s p x).serv = s.serv := rfl
@[simp] theorem setPipe_twin (s : State) (p : Nat) (x : Pipe) : (setPipe s p x).twin = s.twin := rfl
@[simp] theorem setPipe_vid (s : State) (p : Nat) (x : Pipe) : (setPipe s p x).vid = s.vid := rfl
@[simp] theorem setPipe_sec (s : State) (p : Nat) (x : Pipe) : (setPipe s p x).sec = s.sec := rfl
@[simp] theorem setPipe_boot (s : State) (p : Nat) (x : Pipe) : (setPipe s p x).boot = s.boot := rfl
@[simp] theorem setPipe_out (s : State) (p : Nat) (x : Pipe) : (setPipe s p x).out = s.out := rfl
@[simp] theorem setPipe_pending (s : State) (p : Nat) (x : Pipe) : (setPipe s p x).pending = s.pending := rfl

/-! ### `setPart` -/

@[simp] theorem rd_setPart (s : State) (p : Nat) (x : Part) (f : Fld) (i k : Nat) : rd (setPart s p x) f i k = rd s f i k := rfl
@[simp] theorem setPart_regs (s : State) (p : Nat) (x : Part) : (setPart s p x).regs = s.regs := rfl
@[simp] theorem setPart_now (s : State) (p : Nat) (x : Part) : (setPart s p x).now = s.now := rfl
@[simp] theorem setPart_rtc (s : State) (p : Nat) (x : Part) : (setPart s p x).rtc = s.rtc := rfl
@[simp] theorem setPart_free (s : State) (p : Nat) (x : Part) : (setPart s p x).free = s.free := rfl
@[simp] theorem setPart_evr (s : State) (p : Nat) (x : Part) : (setPart s p x).evr = s.evr := rfl
@[simp] theorem setPart_pwr (s : State) (p : Nat) (x : Part) : (setPart s p x).pwr = s.pwr := rfl
@[simp] theorem setPart_clk (s : State) (p : Nat) (x : Part) : (setPart s p x).clk = s.clk := rfl
@[simp] theorem setPart_mem (s : State) (p : Nat) (x : Part) : (setPart s p x).mem = s.mem := rfl
@[simp] theorem setPart_kv (s : State) (p : Nat) (x : Part) : (setPart s p x).kv = s.kv := rfl
@[simp] theorem setPart_host (s : State) (p : Nat) (x : Part) : (setPart s p x).host = s.host := rfl
@[simp] theorem setPart_wag (s : State) (p : Nat) (x : Part) : (setPart s p x).wag = s.wag := rfl
@[simp] theorem setPart_hive (s : State) (p : Nat) (x : Part) : (setPart s p x).hive = s.hive := rfl
@[simp] theorem setPart_serv (s : State) (p : Nat) (x : Part) : (setPart s p x).serv = s.serv := rfl
@[simp] theorem setPart_twin (s : State) (p : Nat) (x : Part) : (setPart s p x).twin = s.twin := rfl
@[simp] theorem setPart_vid (s : State) (p : Nat) (x : Part) : (setPart s p x).vid = s.vid := rfl
@[simp] theorem setPart_sec (s : State) (p : Nat) (x : Part) : (setPart s p x).sec = s.sec := rfl
@[simp] theorem setPart_boot (s : State) (p : Nat) (x : Part) : (setPart s p x).boot = s.boot := rfl
@[simp] theorem setPart_out (s : State) (p : Nat) (x : Part) : (setPart s p x).out = s.out := rfl
@[simp] theorem setPart_pending (s : State) (p : Nat) (x : Part) : (setPart s p x).pending = s.pending := rfl

/-! ### `setSlot` -/

@[simp] theorem rd_setSlot (s : State) (n : Nat) (x : Slot) (f : Fld) (i k : Nat) : rd (setSlot s n x) f i k = rd s f i k := rfl
@[simp] theorem setSlot_regs (s : State) (n : Nat) (x : Slot) : (setSlot s n x).regs = s.regs := rfl
@[simp] theorem setSlot_now (s : State) (n : Nat) (x : Slot) : (setSlot s n x).now = s.now := rfl
@[simp] theorem setSlot_rtc (s : State) (n : Nat) (x : Slot) : (setSlot s n x).rtc = s.rtc := rfl
@[simp] theorem setSlot_free (s : State) (n : Nat) (x : Slot) : (setSlot s n x).free = s.free := rfl
@[simp] theorem setSlot_evr (s : State) (n : Nat) (x : Slot) : (setSlot s n x).evr = s.evr := rfl
@[simp] theorem setSlot_pwr (s : State) (n : Nat) (x : Slot) : (setSlot s n x).pwr = s.pwr := rfl
@[simp] theorem setSlot_clk (s : State) (n : Nat) (x : Slot) : (setSlot s n x).clk = s.clk := rfl
@[simp] theorem setSlot_mem (s : State) (n : Nat) (x : Slot) : (setSlot s n x).mem = s.mem := rfl
@[simp] theorem setSlot_kv (s : State) (n : Nat) (x : Slot) : (setSlot s n x).kv = s.kv := rfl
@[simp] theorem setSlot_host (s : State) (n : Nat) (x : Slot) : (setSlot s n x).host = s.host := rfl
@[simp] theorem setSlot_wag (s : State) (n : Nat) (x : Slot) : (setSlot s n x).wag = s.wag := rfl
@[simp] theorem setSlot_hive (s : State) (n : Nat) (x : Slot) : (setSlot s n x).hive = s.hive := rfl
@[simp] theorem setSlot_serv (s : State) (n : Nat) (x : Slot) : (setSlot s n x).serv = s.serv := rfl
@[simp] theorem setSlot_twin (s : State) (n : Nat) (x : Slot) : (setSlot s n x).twin = s.twin := rfl
@[simp] theorem setSlot_vid (s : State) (n : Nat) (x : Slot) : (setSlot s n x).vid = s.vid := rfl
@[simp] theorem setSlot_sec (s : State) (n : Nat) (x : Slot) : (setSlot s n x).sec = s.sec := rfl
@[simp] theorem setSlot_boot (s : State) (n : Nat) (x : Slot) : (setSlot s n x).boot = s.boot := rfl
@[simp] theorem setSlot_out (s : State) (n : Nat) (x : Slot) : (setSlot s n x).out = s.out := rfl
@[simp] theorem setSlot_pending (s : State) (n : Nat) (x : Slot) : (setSlot s n x).pending = s.pending := rfl

/-! ### `memWrite` -/

@[simp] theorem rd_memWrite (s : State) (a : Nat) (bs : List Byte) (f : Fld) (i k : Nat) : rd (memWrite s a bs) f i k = rd s f i k := rfl
@[simp] theorem memWrite_regs (s : State) (a : Nat) (bs : List Byte) : (memWrite s a bs).regs = s.regs := rfl
@[simp] theorem memWrite_now (s : State) (a : Nat) (bs : List Byte) : (memWrite s a bs).now = s.now := rfl
@[simp] theorem memWrite_rtc (s : State) (a : Nat) (bs : List Byte) : (memWrite s a bs).rtc = s.rtc := rfl
@[simp] theorem memWrite_free (s : State) (a : Nat) (bs : List Byte) : (memWrite s a bs).free = s.free := rfl
@[simp] theorem memWrite_comb (s : State) (a : Nat) (bs : List Byte) : (memWrite s a bs).comb = s.comb := rfl
@[simp] theorem memWrite_evr (s : State) (a : Nat) (bs : List Byte) : (memWrite s a bs).evr = s.evr := rfl
@[simp] theorem memWrite_pwr (s : State) (a : Nat) (bs : List Byte) : (memWrite s a bs).pwr = s.pwr := rfl
@[simp] theorem memWrite_clk (s : State) (a : Nat) (bs : List Byte) : (memWrite s a bs).clk = s.clk := rfl
@[simp] theorem memWrite_kv (s : State) (a : Nat) (bs : List Byte) : (memWrite s a bs).kv = s.kv := rfl
@[simp] theorem memWrite_host (s : State) (a : Nat) (bs : List Byte) : (memWrite s a bs).host = s.host := rfl
@[simp] theorem memWrite_wag (s : State) (a : Nat) (bs : List Byte) : (memWrite s a bs).wag = s.wag := rfl
@[simp] theorem memWrite_hive (s : State) (a : Nat) (bs : List Byte) : (memWrite s a bs).hive = s.hive := rfl
@[simp] theorem memWrite_serv (s : State) (a : Nat) (bs : List Byte) : (memWrite s a bs).serv = s.serv := rfl
@[simp] theorem memWrite_twin (s : State) (a : Nat) (bs : List Byte) : (memWrite s a bs).twin = s.twin := rfl
@[simp] theorem memWrite_vid (s : State) (a : Nat) (bs : List Byte) : (memWrite s a bs).vid = s.vid := rfl
@[simp] theorem memWrite_sec (s : State) (a : Nat) (bs : List Byte) : (memWrite s a bs).sec = s.sec := rfl
@[simp] theorem memWrite_boot (s : State) (a : Nat) (bs : List Byte) : (memWrite s a bs).boot = s.boot := rfl
@[simp] theorem memWrite_out (s : State) (a : Nat) (bs : List Byte) : (memWrite s a bs).out = s.out := rfl
@[simp] theorem memWrite_pending (s : State) (a : Nat) (bs : List Byte) : (memWrite s a bs).pending = s.pending := rfl

/-! ### `memZero` -/

@[simp] theorem rd_memZero (s : State) (a n : Nat) (f : Fld) (i k : Nat) : rd (memZero s a n) f i k = rd s f i k := rfl
@[simp] theorem memZero_regs (s : State) (a n : Nat) : (memZero s a n).regs = s.regs := rfl
@[simp] theorem memZero_now (s : State) (a n : Nat) : (memZero s a n).now = s.now := rfl
@[simp] theorem memZero_rtc (s : State) (a n : Nat) : (memZero s a n).rtc = s.rtc := rfl
@[simp] theorem memZero_free (s : State) (a n : Nat) : (memZero s a n).free = s.free := rfl
@[simp] theorem memZero_comb (s : State) (a n : Nat) : (memZero s a n).comb = s.comb := rfl
@[simp] theorem memZero_evr (s : State) (a n : Nat) : (memZero s a n).evr = s.evr := rfl
@[simp] theorem memZero_pwr (s : State) (a n : Nat) : (memZero s a n).pwr = s.pwr := rfl
@[simp] theorem memZero_clk (s : State) (a n : Nat) : (memZero s a n).clk = s.clk := rfl
@[simp] theorem memZero_kv (s : State) (a n : Nat) : (memZero s a n).kv = s.kv := rfl
@[simp] theorem memZero_host (s : State) (a n : Nat) : (memZero s a n).host = s.host := rfl
@[simp] theorem memZero_wag (s : State) (a n : Nat) : (memZero s a n).wag = s.wag := rfl
@[simp] theorem memZero_hive (s : State) (a n : Nat) : (memZero s a n).hive = s.hive := rfl
@[simp] theorem memZero_serv (s : State) (a n : Nat) : (memZero s a n).serv = s.serv := rfl
@[simp] theorem memZero_twin (s : State) (a n : Nat) : (memZero s a n).twin = s.twin := rfl
@[simp] theorem memZero_vid (s : State) (a n : Nat) : (memZero s a n).vid = s.vid := rfl
@[simp] theorem memZero_sec (s : State) (a n : Nat) : (memZero s a n).sec = s.sec := rfl
@[simp] theorem memZero_boot (s : State) (a n : Nat) : (memZero s a n).boot = s.boot := rfl
@[simp] theorem memZero_out (s : State) (a n : Nat) : (memZero s a n).out = s.out := rfl
@[simp] theorem memZero_pending (s : State) (a n : Nat) : (memZero s a n).pending = s.pending := rfl

/-! ### `hostWrite` -/

@[simp] theorem rd_hostWrite (s : State) (a : Nat) (bs : List Byte) (f : Fld) (i k : Nat) : rd (hostWrite s a bs) f i k = rd s f i k := rfl
@[simp] theorem hostWrite_regs (s : State) (a : Nat) (bs : List Byte) : (hostWrite s a bs).regs = s.regs := rfl
@[simp] theorem hostWrite_now (s : State) (a : Nat) (bs : List Byte) : (hostWrite s a bs).now = s.now := rfl
@[simp] theorem hostWrite_rtc (s : State) (a : Nat) (bs : List Byte) : (hostWrite s a bs).rtc = s.rtc := rfl
@[simp] theorem hostWrite_free (s : State) (a : Nat) (bs : List Byte) : (hostWrite s a bs).free = s.free := rfl
@[simp] theorem hostWrite_comb (s : State) (a : Nat) (bs : List Byte) : (hostWrite s a bs).comb = s.comb := rfl
@[simp] theorem hostWrite_evr (s : State) (a : Nat) (bs : List Byte) : (hostWrite s a bs).evr = s.evr := rfl
@[simp] theorem hostWrite_pwr (s : State) (a : Nat) (bs : List Byte) : (hostWrite s a bs).pwr = s.pwr := rfl
@[simp] theorem hostWrite_clk (s : State) (a : Nat) (bs : List Byte) : (hostWrite s a bs).clk = s.clk := rfl
@[simp] theorem hostWrite_mem (s : State) (a : Nat) (bs : List Byte) : (hostWrite s a bs).mem = s.mem := rfl
@[simp] theorem hostWrite_kv (s : State) (a : Nat) (bs : List Byte) : (hostWrite s a bs).kv = s.kv := rfl
@[simp] theorem hostWrite_host (s : State) (a : Nat) (bs : List Byte) : (hostWrite s a bs).host = s.host := rfl
@[simp] theorem hostWrite_wag (s : State) (a : Nat) (bs : List Byte) : (hostWrite s a bs).wag = s.wag := rfl
@[simp] theorem hostWrite_hive (s : State) (a : Nat) (bs : List Byte) : (hostWrite s a bs).hive = s.hive := rfl
@[simp] theorem hostWrite_serv (s : State) (a : Nat) (bs : List Byte) : (hostWrite s a bs).serv = s.serv := rfl
@[simp] theorem hostWrite_twin (s : State) (a : Nat) (bs : List Byte) : (hostWrite s a bs).twin = s.twin := rfl
@[simp] theorem hostWrite_vid (s : State) (a : Nat) (bs : List Byte) : (hostWrite s a bs).vid = s.vid := rfl
@[simp] theorem hostWrite_sec (s : State) (a : Nat) (bs : List Byte) : (hostWrite s a bs).sec = s.sec := rfl
@[simp] theorem hostWrite_boot (s : State) (a : Nat) (bs : List Byte) : (hostWrite s a bs).boot = s.boot := rfl
@[simp] theorem hostWrite_pending (s : State) (a : Nat) (bs : List Byte) : (hostWrite s a bs).pending = s.pending := rfl

/-! ### `reachTime` -/

@[simp] theorem rd_reachTime (s : State) (t : Nat) (f : Fld) (i k : Nat) : rd (reachTime s t) f i k = rd s f i k := rfl
@[simp] theorem reachTime_regs (s : State) (t : Nat) : (reachTime s t).regs = s.regs := rfl
@[simp] theorem reachTime_rtc (s : State) (t : Nat) : (reachTime s t).rtc = s.rtc := rfl
@[simp] theorem reachTime_free (s : State) (t : Nat) : (reachTime s t).free = s.free := rfl
@[simp] theorem reachTime_comb (s : State) (t : Nat) : (reachTime s t).comb = s.comb := rfl
@[simp] theorem reachTime_evr (s : State) (t : Nat) : (reachTime s t).evr = s.evr := rfl
@[simp] theorem reachTime_pwr (s : State) (t : Nat) : (reachTime s t).pwr = s.pwr := rfl
@[simp] theorem reachTime_clk (s : State) (t : Nat) : (reachTime s t).clk = s.clk := rfl
@[simp] theorem reachTime_mem (s : State) (t : Nat) : (reachTime s t).mem = s.mem := rfl
@[simp] theorem reachTime_kv (s : State) (t : Nat) : (reachTime s t).kv = s.kv := rfl
@[simp] theorem reachTime_host (s : State) (t : Nat) : (reachTime s t).host = s.host := rfl
@[simp] theorem reachTime_wag (s : State) (t : Nat) : (reachTime s t).wag = s.wag := rfl
@[simp] theorem reachTime_hive (s : State) (t : Nat) : (reachTime s t).hive = s.hive := rfl
@[simp] theorem reachTime_serv (s : State) (t : Nat) : (reachTime s t).serv = s.serv := rfl
@[simp] theorem reachTime_twin (s : State) (t : Nat) : (reachTime s t).twin = s.twin := rfl
@[simp] theorem reachTime_vid (s : State) (t : Nat) : (reachTime s t).vid = s.vid := rfl
@[simp] theorem reachTime_sec (s : State) (t : Nat) : (reachTime s t).sec = s.sec := rfl
@[simp] theorem reachTime_boot (s : State) (t : Nat) : (reachTime s t).boot = s.boot := rfl
@[simp] theorem reachTime_out (s : State) (t : Nat) : (reachTime s t).out = s.out := rfl
@[simp] theorem reachTime_pending (s : State) (t : Nat) : (reachTime s t).pending = s.pending := rfl

/-! ### The tables of the comb -/

@[simp] theorem cell_setCell (s : State) (c : Nat) (x : Cell) : cell (setCell s c x) c = x := tget_tset_same _ _ _ _
theorem cell_setCell_ne (s : State) {c d : Nat} (x : Cell) (h : d ≠ c) : cell (setCell s c x) d = cell s d :=
  tget_tset_ne _ _ h _ _
@[simp] theorem pipe_setPipe (s : State) (c : Nat) (x : Pipe) : pipe (setPipe s c x) c = x := tget_tset_same _ _ _ _
theorem pipe_setPipe_ne (s : State) {c d : Nat} (x : Pipe) (h : d ≠ c) : pipe (setPipe s c x) d = pipe s d :=
  tget_tset_ne _ _ h _ _
@[simp] theorem part_setPart (s : State) (c : Nat) (x : Part) : part (setPart s c x) c = x := tget_tset_same _ _ _ _
theorem part_setPart_ne (s : State) {c d : Nat} (x : Part) (h : d ≠ c) : part (setPart s c x) d = part s d :=
  tget_tset_ne _ _ h _ _
@[simp] theorem slot_setSlot (s : State) (c : Nat) (x : Slot) : slot (setSlot s c x) c = x := tget_tset_same _ _ _ _
theorem slot_setSlot_ne (s : State) {c d : Nat} (x : Slot) (h : d ≠ c) : slot (setSlot s c x) d = slot s d :=
  tget_tset_ne _ _ h _ _
@[simp] theorem dom_setDom (s : State) (d v : Nat) : dom (setDom s d v) d = v := tget_tset_same _ _ _ _
theorem dom_setDom_ne (s : State) {d e : Nat} (v : Nat) (h : e ≠ d) : dom (setDom s d v) e = dom s e :=
  tget_tset_ne _ _ h _ _

/-! ### Device memory -/

/-- A write of bytes leaves every byte outside its range alone. -/
theorem writeBytes_outside (s : State) (a0 n : Nat) (bs : List Byte) (a x : Nat) (t : Tbl Byte)
    (h : x < a ∨ a + bs.length ≤ x) : tget 0 (writeBytes s a0 n a bs t) x = tget 0 t x := by
  induction bs generalizing a t with
  | nil => rfl
  | cons b bs ih =>
    simp only [List.length_cons] at h
    simp only [writeBytes]
    rw [ih _ _ (by omega)]
    split
    · rfl
    · exact tget_tset_ne _ _ (by omega) _ _

theorem memByte_memWrite_outside (s : State) (a x : Nat) (bs : List Byte) (h : x < a ∨ a + bs.length ≤ x) :
    memByte (memWrite s a bs) x = memByte s x := writeBytes_outside s _ _ bs a x _ h

/-- A write of bytes into units without a poison mark, read back. -/
theorem writeBytes_inside (s : State) (a0 n : Nat) (bs : List Byte) (a : Nat) (t : Tbl Byte)
    (hp : ∀ u, poisonUnit s u = false) (j : Nat) (hj : j < bs.length) :
    tget 0 (writeBytes s a0 n a bs t) (a + j) = bs.getD j 0 := by
  induction bs generalizing a t j with
  | nil => simp at hj
  | cons b bs ih =>
    simp only [writeBytes, hp, Bool.false_and, Bool.false_eq_true, if_false]
    cases j with
    | zero =>
      rw [writeBytes_outside _ _ _ _ _ _ _ (by omega)]
      simp
    | succ j =>
      have h := ih (a + 1) (tset 0 a b t) j (by simpa using hj)
      rw [show a + (j + 1) = a + 1 + j by omega, h]
      simp

theorem memByte_memWrite_inside (s : State) (a : Nat) (bs : List Byte) (hp : ∀ u, poisonUnit s u = false) (j : Nat)
    (hj : j < bs.length) : memByte (memWrite s a bs) (a + j) = bs.getD j 0 := writeBytes_inside s _ _ bs a _ hp j hj

theorem memByte_memZero (s : State) (a n x : Nat) :
    memByte (memZero s a n) x = if a ≤ x ∧ x < a + n then 0 else memByte s x := tget_tclear _ _ _ _ _

end Sys2Proof.Machine
end

