-- ==== Sys2Proof/Laws/Regs.lean ====
section
/-!
SUPPORT. What a register write does, once for every command that is one (R480, R485, R490, R491).
-/

namespace Sys2Proof.Laws

open Sys2Proof Sys2Proof.Machine Sys2Proof.Safety

/-- A write that a served page takes: its effect, and then the note of a setting. -/
theorem regWrite_taken {s : State} {w : Writer} {ty i off : Nat} {touches : Bool} {k : State → State}
    (hs : pageServed s ty i = true) (hl : ¬(touches = true ∧ w = .host ∧ rd s (hLocked ty) i = 1)) :
    regWrite s w ty i off touches k = noteSetting s (k s) ty i off := by
  unfold regWrite
  rw [if_pos hs, if_neg]
  simp only [Bool.and_eq_true, decide_eq_true_eq, not_and]
  intro h1 h2
  exact hl ⟨h1.1, h1.2, h2⟩

/-- A write that LOCK refuses: it is recorded and counted, and nothing else changes. -/
theorem regWrite_locked {s : State} {ty i off : Nat} {k : State → State} (hs : pageServed s ty i = true)
    (hl : rd s (hLocked ty) i = 1) :
    regWrite s .host ty i off true k = addSat (refuseWrite s ty i off .fieldReserved) (hLockRefused ty) 1 i := by
  unfold regWrite
  rw [if_pos hs, if_pos]
  simp [hl]

/-- A page that is not served ignores the write. -/
theorem regWrite_unserved {s : State} {w : Writer} {ty i off : Nat} {touches : Bool} {k : State → State}
    (hs : pageServed s ty i = false) : regWrite s w ty i off touches k = s := by
  unfold regWrite
  rw [if_neg (by rw [hs]; exact Bool.false_ne_true)]

/-- The note of a setting touches the settings list, and the recorder where the list has no room. -/
theorem noteSetting_after (b s : State) (ty i off : Nat) :
    Touches 0x180000000060014 s (noteSetting b s ty i off) := noteSetting_touches (by decide) (Touches.refl _ s)

/-- Outside the EVR and NVS pages a field reads after the note as before it. -/
theorem rd_noteSetting (b s : State) (ty i off : Nat) (f : Fld) (j k : Nat)
    (h : Nat.testBit 0x180000000060014 (32 + f.ty % 32) = false) : rd (noteSetting b s ty i off) f j k = rd s f j k :=
  (noteSetting_after b s ty i off).reads h

end Sys2Proof.Laws
end

