-- ==== Sys2Proof/WellFormed.lean ====
section
/-!
DEFINITION. Which terms are commands of this module: numbers of blocks, domains, tenants and queues in their ranges, and the
operand fields of cell instructions within their widths.
-/

namespace Sys2Proof

/-- Operand fields of an MMA fit their widths (R69, R71). -/
def mmaOk (a : MmaArgs) : Bool :=
  a.aAddr < 65536 && a.bAddr < 65536 && 1 ≤ a.k && a.k < 65535 && a.bFmt < 16 && a.aFmt < 16 && 1 ≤ a.m && a.m ≤ 64 &&
  a.acc < 2 && 1 ≤ a.n && a.n ≤ 32 && a.scale < 65536
/-- Operand fields of a VEC or SFU instruction. -/
def vecOk (a : VecArgs) : Bool :=
  a.src1 < 65536 && a.src2 < 65536 && a.dst < 65536 && 1 ≤ a.l && a.l < 65535 && a.s1 < 4 && a.s2 < 4 && a.inFmt < 4
/-- Operand fields of a CVT instruction. -/
def cvtOk (a : CvtArgs) : Bool :=
  a.src1 < 65536 && a.dst < 65536 && 1 ≤ a.l && a.l < 65535 && a.fromF < 16 && a.toF < 16
/-- Operand fields of a MOVE instruction. -/
def moveOk (a : MoveArgs) : Bool := a.loc < 65536 && 1 ≤ a.units && a.units < 65535 && a.chan < 2 && a.entry < 2 ^ 24

/-- Instances of a block type, with the VF function pages as type 27 (R482, R492). -/
def instances : Nat → Nat
  | 0 => 272 | 1 => 68 | 2 => 68 | 3 => 32 | 4 => 32 | 5 => 4 | 6 => 5 | 7 => 1 | 8 => 16 | 13 => 8 | 18 => 5 | 21 => 8 | 27 => 64
  | n => if n < 27 then 1 else 0

/-- The command's operands are in range. -/
def Instr.wf : Instr → Bool
  | .governorInterval die _ => die < 5
  | .marginUpdate die entry _ => die < 4 && entry < 64
  | .paceMarginWrite _ die raise => die < 4 && raise < 65536
  | .clearAll _ die v => die < 4 && v < 2 ^ 32
  | .paceFloorWrite _ die v => die < 5 && v < 2 ^ 32
  | .paceVlimWrite _ die vmin vmax => die < 5 && vmin < 4096 && vmax < 4096
  | .recomputePredictions die => die < 4
  | .ctrlNop cell => cell < 256
  | .end_ cell => cell < 256
  | .mark cell markId => cell < 256 && markId < 65536
  | .mma cell a => cell < 256 && mmaOk a
  | .add cell a => cell < 256 && vecOk a
  | .mul cell a => cell < 256 && vecOk a
  | .fma cell a => cell < 256 && vecOk a
  | .max_ cell a => cell < 256 && vecOk a
  | .min_ cell a => cell < 256 && vecOk a
  | .rsum cell a => cell < 256 && vecOk a
  | .rmax cell a => cell < 256 && vecOk a
  | .scale cell a => cell < 256 && vecOk a
  | .copy cell a => cell < 256 && vecOk a
  | .exp cell a => cell < 256 && vecOk a
  | .log cell a => cell < 256 && vecOk a
  | .recip cell a => cell < 256 && vecOk a
  | .rsqrt cell a => cell < 256 && vecOk a
  | .cvt cell a => cell < 256 && cvtOk a
  | .moveMemToStore cell a => cell < 256 && moveOk a
  | .moveStoreToMem cell a => cell < 256 && moveOk a
  | .moveLocal cell a => cell < 256 && moveOk a
  | .moveCellToCell cell a => cell < 256 && moveOk a
  | .moveToPipe cell a => cell < 256 && moveOk a
  | .moveFromPipe cell a => cell < 256 && moveOk a
  | .attnCell cell cmdAddr => cell < 256 && cmdAddr < 65536
  | .attnCellBackward cell cmdAddr => cell < 256 && cmdAddr < 65536
  | .attnPipe cell cmdAddr => cell < 256 && cmdAddr < 65536
  | .attnPipeBackward cell cmdAddr => cell < 256 && cmdAddr < 65536
  | .stepComplete part _ => part < 64
  | .memRead part _ => part < 64
  | .memWrite part _ => part < 64
  | .streamRefill part _ => part < 64
  | .refreshEntry part _ => part < 64
  | .kvRead part _ => part < 64
  | .kvWrite part _ => part < 64
  | .openEntry part _ => part < 64
  | .memEntryDone part _ _ => part < 64
  | .routeTransfer part _ => part < 64
  | .cellTestStart _ cell stress => cell < 272 && stress < 64
  | .cellTestDone cell failUnit => cell < 272 && failUnit < 16
  | .pipeTestStart _ pipe stress => pipe < 68 && stress < 64
  | .pipeTestDone pipe failUnit => pipe < 68 && failUnit < 16
  | .cellRetire _ cell v => cell < 272 && v < 2 ^ 32
  | .pipeRetire _ quad v => quad < 68 && v < 2 ^ 32
  | .retirementBegin => true
  | .retirementSpareTest => true
  | .quadPartWrite _ quad v => quad < 68 && v < 2 ^ 32
  | .memcPartWrite _ memc v => memc < 32 && v < 2 ^ 32
  | .seamLaneWrite _ die v => die < 4 && v < 2 ^ 32
  | .fastlaneWrite _ v => v < 2 ^ 64
  | .loadPlan queue _ _ => queue < 65536
  | .planChecksDone slot => slot < 64
  | .unloadPlan queue => queue < 65536
  | .launch queue => queue < 65536
  | .launchStart part => part < 64
  | .preloadDone part => part < 64
  | .launchEnd part => part < 64
  | .seqOpen queue => queue < 65536
  | .seqGrow queue => queue < 65536
  | .seqCommit queue => queue < 65536
  | .seqRollback queue => queue < 65536
  | .seqClose queue => queue < 65536
  | .heldOpResume seq => seq < 65536
  | .parkGrant => true
  | .parkDeadline seq => seq < 65536
  | .prefixCopyDone _ => true
  | .frameScrubDone _ => true
  | .kvpgPoolWrite _ _ v => v < 2 ^ 64
  | .kvpgSeqBaseWrite _ v => v < 2 ^ 64
  | .kvpgResvWrite _ v => v < 2 ^ 32
  | .request queue _ _ _ => queue < 65536
  | .admissionAfterWake _ => true
  | .slotEnable _ v => v < 2 ^ 32
  | .servingLaunchPrepare slot => slot < 64
  | .servingLaunchResult _ => true
  | .prefixLookup _ => true
  | .cancel queue => queue < 65536
  | .burstWrite _ v => v < 2 ^ 32
  | .pfxTenWrite _ _ v => v < 2 ^ 64
  | .memSetMapWrite _ v => v < 2 ^ 32
  | .extentOwn _ tenant => tenant < 256
  | .extentRelease _ => true
  | .extentScrubDone extent => extent < 15360
  | .memoryTrainingDone _ _ => true
  | .eccReRead _ _ _ => true
  | .poisonMarkWrite unit => unit < 2 ^ 34
  | .refreshDue memc chan => memc < 32 && chan < 4
  | .packageTempRead memc _ _ => memc < 32
  | .patrolScrub memc _ _ => memc < 32
  | .hostWindowRead fn off _ _ => fn < 64 && off < 2 ^ 40
  | .hostWindowWrite fn off _ _ => fn < 64 && off < 2 ^ 40
  | .perstNRelease => true
  | .perstNAssert _ => true
  | .readinessTimeout => true
  | .startupReady => true
  | .functionLevelReset fn _ => fn < 64
  | .hotReset _ => true
  | .hostLinkDown _ => true
  | .refclkLoss _ => true
  | .refclkReturn => true
  | .linkTrained _ _ _ => true
  | .linkRetrain _ v => v < 2 ^ 32
  | .hostFnCfgWrite _ v => v < 2 ^ 32
  | .hostFnMsixWrite _ v _ => v < 2 ^ 32
  | .hostFnWinWrite _ v => v < 2 ^ 32
  | .bar4Resize fn _ _ => fn < 64
  | .dma queue => queue < 65536
  | .dmaGo _ eng => eng < 16
  | .dmaTransferDone eng _ _ _ => eng < 16
  | .hostReadError _ _ _ => true
  | .query sid => sid < 65536
  | .keyProg sid stream set _ _ => sid < 65536 && stream < 8 && set < 2
  | .kSetGo sid stream set => sid < 65536 && stream < 8 && set < 2
  | .kSetStop sid stream set => sid < 65536 && stream < 8 && set < 2
  | .create fn also => fn < 64 && also < 16
  | .delete fn also _ => fn < 64 && also < 16
  | .resume fn also => fn < 64 && also < 16
  | .queueFlush fn also _ => fn < 64 && also < 16
  | .doorbell fn off _ v => fn < 64 && off < 65536 && v < 2 ^ 64
  | .entryFetched queue _ _ _ => queue < 65536
  | .commandStart queue => queue < 65536
  | .nop queue => queue < 65536
  | .wait queue => queue < 65536
  | .peerCopy queue => queue < 65536
  | .remoteSignal queue => queue < 65536
  | .invalidOpcode queue => queue < 65536
  | .commandTimeout queue _ => queue < 65536
  | .qmgrSigBaseWrite _ v => v < 2 ^ 64
  | .dbpMapWrite _ fn => fn < 64
  | .portEnable _ p v => p < 8 && v < 2 ^ 32
  | .portDisable _ p v => p < 8 && v < 2 ^ 32
  | .trainingPhaseDone p _ => p < 8
  | .trainingBoundExpiry p => p < 8
  | .linkKeyExchange p _ _ _ => p < 8
  | .retrainWaitExpiry p => p < 8
  | .wagRetrain _ p v => p < 8 && v < 2 ^ 32
  | .frameReceive p _ _ => p < 8
  | .frameTransmit p _ => p < 8
  | .replayTimerExpiry p => p < 8
  | .replayBudgetExpiry p => p < 8
  | .laneLockLoss p _ => p < 8
  | .leavingNotice p => p < 8
  | .leavingWaitExpiry p => p < 8
  | .rekeyStart p => p < 8
  | .rekeyDeadline p => p < 8
  | .unreachableReport _ => true
  | .copyAcceptReport _ _ _ => true
  | .copyAbort src _ => src < 512
  | .refLost => true
  | .hiveRestart _ _ => true
  | .formationPortWaitEnd => true
  | .formationCall src _ _ => src < 512
  | .join id role _ _ => id < 512 && role < 4
  | .joinWindowEnd _ => true
  | .memberList src _ _ _ _ _ => src < 512
  | .memberAck id => id < 512
  | .formationAckBound => true
  | .formingTimeout => true
  | .hiveStop => true
  | .waitingNotice id => id < 512
  | .beaconTimer => true
  | .queenBeacon => true
  | .queenLossTimeout => true
  | .queenTakeover => true
  | .timeExchangeTimer => true
  | .timeExchange _ _ _ _ => true
  | .meridSlewWrite _ v => v < 2 ^ 32
  | .barrierArrival _ => true
  | .barrierVerdict b _ v => b < 64 && v < 4
  | .barrierRelease b _ => b < 64
  | .backupDelayExpiry b => b < 64
  | .backupStart b _ shard => b < 64 && shard < 512
  | .hiveExpel _ => true
  | .clearSuspect _ => true
  | .membershipUpdate _ => true
  | .memberLossTimeout p => p < 8
  | .reloadShards _ _ _ => true
  | .barrierEnable _ v => v < 2 ^ 32
  | .progressReportTimer => true
  | .progressReport id _ _ _ => id < 512
  | .groupKeyGen _ => true
  | .groupKeyDistribution src _ _ _ => src < 512
  | .twinPair _ => true
  | .pairWindowExpiry => true
  | .servAction _ => true
  | .mirrorLaunch _ _ _ _ => true
  | .launchAck _ => true
  | .compareData _ _ _ => true
  | .twinVerdict _ _ => true
  | .paceReport _ => true
  | .twinControl _ _ => true
  | .twinUnpair _ => true
  | .twinSwap _ => true
  | .twinTakeover _ => true
  | .keyInstallActivate q _ _ => q < 65536
  | .keyInstallReplace q _ _ => q < 65536
  | .weightLoad q _ _ => q < 65536
  | .tenantRetire q => q < 65536
  | .drainWaitExpiry t _ => t < 256
  | .drainFence t => t < 256
  | .retirementScrubDone t => t < 256
  | .getVersion => true
  | .getCapabilities => true
  | .negotiateAlgorithms => true
  | .getDigests => true
  | .getCertificate _ off _ => off < 65536
  | .challenge _ => true
  | .getMeasurements _ _ => true
  | .keyExchange => true
  | .finish sid _ => sid < 65536
  | .heartbeat sid => sid < 65536
  | .keyUpdate sid => sid < 65536
  | .endSession sid => sid < 65536
  | .chunkSend _ _ => true
  | .chunkGet _ _ => true
  | .newNonce _ => true
  | .nonceExpiry => true
  | .unlockSubmit _ _ _ => true
  | .unlockEraseDone => true
  | .opkeyCommit _ => true
  | .debugOperation _ _ _ => true
  | .powerInterval p => p < 65536
  | .pwrCapWrite _ v => v < 2 ^ 32
  | .emergSet _ => true
  | .emergClear _ => true
  | .launchGateHoldExpiry p => p < 64
  | .domainIdle d => d < 402
  | .domainWake d => d < 402
  | .wakeDone d => d < 402
  | .holdOnWrite ty inst v => inst < instances ty && v < 2 ^ 32
  | .laneIdleAgreement p _ => p < 8
  | .standbyEntry => true
  | .standbyExit => true
  | .duskBegin => true
  | .duskFinishDeadline => true
  | .duskLeaving => true
  | .duskHostDown _ => true
  | .duskPowerOff => true
  | .duskEnd _ => true
  | .clockSourceTrip k _ => k < 42
  | .dividerStep k => k < 42
  | .clockSourceGood k => k < 42
  | .tcxoStable => true
  | .tcxoFault => true
  | .clockGateRequest k _ => k < 42
  | .gateStuck k => k < 42
  | .clkObsSelect _ v _ => v < 2 ^ 32
  | .thermalAlarm place _ => place < 32
  | .thermalTrip place _ => place < 32
  | .thermalTripCooled => true
  | .overvoltageDisconnect => true
  | .powerGood _ _ => true
  | .strapSample id role => id < 512 && role < 4
  | .coresReleased _ => true
  | .eccInitDone => true
  | .startupSelfTestDone _ _ => true
  | .decodeOpen q _ _ _ => q < 65536
  | .decodePicture q _ _ _ => q < 65536
  | .decodeFlush q => q < 65536
  | .decodeClose q => q < 65536
  | .encodeOpen q _ _ _ => q < 65536
  | .encodePicture q => q < 65536
  | .encodeFlush q => q < 65536
  | .encodeClose q => q < 65536
  | .vidPre q => q < 65536
  | .videoJobStart _ => true
  | .preemption c => c < 128
  | .videoJobEnd c _ => c < 128
  | .vpreJobStart => true
  | .vpreJobEnd _ _ => true
  | .eventRecord ty inst code sev tenant _ => (inst < instances ty || ty = 63) && sev < 5 && code < 65536 && tenant < 256
  | .rtcSet _ => true
  | .flushPeriodExpiry => true
  | .recorderFlush _ => true
  | .flushEnd us => us < 6201
  | .mramWriteError => true
  | .freeze _ => true
  | .unfreeze _ => true
  | .freezeExpiry => true
  | .freezeCopyDone => true
  | .clearMetrics _ => true
  | .metricConfigWrite _ _ v => v < 2 ^ 32
  | .metricIntervalEnd m => m < 1024
  | .cold _ => true
  | .warm _ => true
  | .recoveryRequest _ => true
  | .watchdogExpiry => true
  | .warmWaitExpiry => true
  | .warmResetProceed _ us _ => us < 6201
  | .partialReset _ d => d < 512
  | .partialResetDone => true
  | .fwuBegin _ _ _ => true
  | .chunkGo _ _ => true
  | .chunkProgramDone _ => true
  | .activate _ => true
  | .abort _ => true
  | .health _ => true
  | .trialExpiry => true
  | .trialFlushTimer => true
  | .chainManifest _ _ => true
  | .chainChunk index _ => index < 511
  | .chainForward p => p < 8
  | .bitmapReportTimer => true
  | .bitmapReport p id _ _ => p < 8 && id < 512
  | .lock ty inst v => inst < instances ty && v < 2 ^ 32
  | .lockAll => true
  | .irqEnWrite ty inst v => inst < instances ty && v < 2 ^ 32
  | .registerWrite _ ty inst off _ v _ => inst < instances ty && off < 4096 && v < 2 ^ 64
  | .inputPowerLoss => true
  | .metricCountSecond => true
  | .memberLossReport id => id < 512

end Sys2Proof
end

