-- ==== Sys2Proof/Tests/Slice0.lean ====
section
/-!
SUPPORT. Tests of the model. First, terms that `Instr.wf` refuses, one for each check. Then the spec's own worked examples. Then, for
every obligation that has premises, inputs that meet the premises of each of its clauses together.
-/

set_option linter.unusedVariables false
set_option maxRecDepth 100000
set_option Elab.async false

open Sys2Proof Sys2Proof.Machine Sys2Proof.Safety Sys2Proof.Certificates

namespace Sys2Proof.Tests

/-! ## Ill-formed terms -/

/-- A well-formed operand set of that shape. -/
def mma0 : MmaArgs :=
  { aAddr := 0, bAddr := 0, k := 1, bFmt := 0, aFmt := 0, m := 1, acc := 0, n := 1, zero := false, scale := 0 }

/-- A well-formed operand set of that shape. -/
def vec0 : VecArgs :=
  { src1 := 0, src2 := 0, dst := 0, l := 1, s1 := 0, s2 := 0, inFmt := 0 }

/-- A well-formed operand set of that shape. -/
def cvt0 : CvtArgs :=
  { src1 := 0, dst := 0, l := 1, fromF := 0, toF := 0, round := false }

/-- A well-formed operand set of that shape. -/
def move0 : MoveArgs :=
  { loc := 0, units := 1, chan := 0, entry := 0 }

theorem test_mmaOk_refuses :
    Sys2Proof.mmaOk mma0 = true ∧ ([{ mma0 with aAddr := 65536 }, { mma0 with bAddr := 65536 }, { mma0 with k := 0 },
    { mma0 with k := 65535 }, { mma0 with bFmt := 16 }, { mma0 with aFmt := 16 }, { mma0 with m := 0 }, { mma0 with m := 65 },
    { mma0 with acc := 2 }, { mma0 with n := 0 }, { mma0 with n := 33 }, { mma0 with scale := 65536 }].all (fun a =>
    !Sys2Proof.mmaOk a)) = true := by decide

theorem test_vecOk_refuses :
    Sys2Proof.vecOk vec0 = true ∧ ([{ vec0 with src1 := 65536 }, { vec0 with src2 := 65536 }, { vec0 with dst := 65536 },
    { vec0 with l := 0 }, { vec0 with l := 65535 }, { vec0 with s1 := 4 }, { vec0 with s2 := 4 },
    { vec0 with inFmt := 4 }].all (fun a => !Sys2Proof.vecOk a)) = true := by decide

theorem test_cvtOk_refuses :
    Sys2Proof.cvtOk cvt0 = true ∧ ([{ cvt0 with src1 := 65536 }, { cvt0 with dst := 65536 }, { cvt0 with l := 0 },
    { cvt0 with l := 65535 }, { cvt0 with fromF := 16 }, { cvt0 with toF := 16 }].all (fun a => !Sys2Proof.cvtOk a)) = true :=
    by decide

theorem test_moveOk_refuses :
    Sys2Proof.moveOk move0 = true ∧ ([{ move0 with loc := 65536 }, { move0 with units := 0 }, { move0 with units := 65535 },
    { move0 with chan := 2 }, { move0 with entry := 2 ^ 24 }].all (fun a => !Sys2Proof.moveOk a)) = true := by decide

/-- One operand past its range, in each of these commands. -/
theorem test_wf_refuses_1 :
    (∀ a0, (Instr.governorInterval 5 a0).wf = false) ∧
    (∀ a0, (Instr.marginUpdate 4 0 a0).wf = false) ∧
    (∀ a0, (Instr.marginUpdate 0 64 a0).wf = false) ∧
    (∀ a0, (Instr.paceMarginWrite a0 4 0).wf = false) ∧
    (∀ a0, (Instr.paceMarginWrite a0 0 65536).wf = false) ∧
    (∀ a0, (Instr.clearAll a0 4 0).wf = false) ∧
    (∀ a0, (Instr.clearAll a0 0 (2 ^ 32)).wf = false) ∧
    (∀ a0, (Instr.paceFloorWrite a0 5 0).wf = false) ∧
    (∀ a0, (Instr.paceFloorWrite a0 0 (2 ^ 32)).wf = false) ∧
    (∀ a0, (Instr.paceVlimWrite a0 5 0 0).wf = false) ∧
    (∀ a0, (Instr.paceVlimWrite a0 0 4096 0).wf = false) ∧
    (∀ a0, (Instr.paceVlimWrite a0 0 0 4096).wf = false) ∧
    (Instr.recomputePredictions 4).wf = false ∧
    (Instr.ctrlNop 256).wf = false ∧
    (Instr.end_ 256).wf = false ∧
    (Instr.mark 256 0).wf = false ∧
    (Instr.mark 0 65536).wf = false ∧
    (Instr.mma 256 mma0).wf = false ∧
    (Instr.mma 0 { mma0 with aAddr := 65536 }).wf = false ∧
    (Instr.add 256 vec0).wf = false ∧
    (Instr.add 0 { vec0 with src1 := 65536 }).wf = false ∧
    (Instr.mul 256 vec0).wf = false ∧
    (Instr.mul 0 { vec0 with src1 := 65536 }).wf = false ∧
    (Instr.fma 256 vec0).wf = false ∧
    (Instr.fma 0 { vec0 with src1 := 65536 }).wf = false ∧
    (Instr.max_ 256 vec0).wf = false ∧
    (Instr.max_ 0 { vec0 with src1 := 65536 }).wf = false ∧
    (Instr.min_ 256 vec0).wf = false ∧
    (Instr.min_ 0 { vec0 with src1 := 65536 }).wf = false ∧
    (Instr.rsum 256 vec0).wf = false ∧
    (Instr.rsum 0 { vec0 with src1 := 65536 }).wf = false ∧
    (Instr.rmax 256 vec0).wf = false ∧
    (Instr.rmax 0 { vec0 with src1 := 65536 }).wf = false ∧
    (Instr.scale 256 vec0).wf = false ∧
    (Instr.scale 0 { vec0 with src1 := 65536 }).wf = false ∧
    (Instr.copy 256 vec0).wf = false ∧
    (Instr.copy 0 { vec0 with src1 := 65536 }).wf = false ∧
    (Instr.exp 256 vec0).wf = false ∧
    (Instr.exp 0 { vec0 with src1 := 65536 }).wf = false ∧
    (Instr.log 256 vec0).wf = false :=
  ⟨fun _ => rfl, fun _ => rfl, fun _ => rfl, fun _ => rfl, fun _ => rfl, fun _ => rfl, fun _ => rfl, fun _ => rfl, fun _ =>
  rfl, fun _ => rfl, fun _ => rfl, fun _ => rfl, rfl, rfl, rfl, rfl, rfl, rfl, rfl, rfl, rfl, rfl, rfl, rfl, rfl, rfl, rfl,
  rfl, rfl, rfl, rfl, rfl, rfl, rfl, rfl, rfl, rfl, rfl, rfl, rfl⟩

/-- One operand past its range, in each of these commands. -/
theorem test_wf_refuses_2 :
    (Instr.log 0 { vec0 with src1 := 65536 }).wf = false ∧
    (Instr.recip 256 vec0).wf = false ∧
    (Instr.recip 0 { vec0 with src1 := 65536 }).wf = false ∧
    (Instr.rsqrt 256 vec0).wf = false ∧
    (Instr.rsqrt 0 { vec0 with src1 := 65536 }).wf = false ∧
    (Instr.cvt 256 cvt0).wf = false ∧
    (Instr.cvt 0 { cvt0 with src1 := 65536 }).wf = false ∧
    (Instr.moveMemToStore 256 move0).wf = false ∧
    (Instr.moveMemToStore 0 { move0 with loc := 65536 }).wf = false ∧
    (Instr.moveStoreToMem 256 move0).wf = false ∧
    (Instr.moveStoreToMem 0 { move0 with loc := 65536 }).wf = false ∧
    (Instr.moveLocal 256 move0).wf = false ∧
    (Instr.moveLocal 0 { move0 with loc := 65536 }).wf = false ∧
    (Instr.moveCellToCell 256 move0).wf = false ∧
    (Instr.moveCellToCell 0 { move0 with loc := 65536 }).wf = false ∧
    (Instr.moveToPipe 256 move0).wf = false ∧
    (Instr.moveToPipe 0 { move0 with loc := 65536 }).wf = false ∧
    (Instr.moveFromPipe 256 move0).wf = false ∧
    (Instr.moveFromPipe 0 { move0 with loc := 65536 }).wf = false ∧
    (Instr.attnCell 256 0).wf = false ∧
    (Instr.attnCell 0 65536).wf = false ∧
    (Instr.attnCellBackward 256 0).wf = false ∧
    (Instr.attnCellBackward 0 65536).wf = false ∧
    (Instr.attnPipe 256 0).wf = false ∧
    (Instr.attnPipe 0 65536).wf = false ∧
    (Instr.attnPipeBackward 256 0).wf = false ∧
    (Instr.attnPipeBackward 0 65536).wf = false ∧
    (∀ a0, (Instr.stepComplete 64 a0).wf = false) ∧
    (∀ a0, (Instr.memRead 64 a0).wf = false) ∧
    (∀ a0, (Instr.memWrite 64 a0).wf = false) ∧
    (∀ a0, (Instr.streamRefill 64 a0).wf = false) ∧
    (∀ a0, (Instr.refreshEntry 64 a0).wf = false) ∧
    (∀ a0, (Instr.kvRead 64 a0).wf = false) ∧
    (∀ a0, (Instr.kvWrite 64 a0).wf = false) ∧
    (∀ a0, (Instr.openEntry 64 a0).wf = false) ∧
    (∀ a0 a1, (Instr.memEntryDone 64 a0 a1).wf = false) ∧
    (∀ a0, (Instr.routeTransfer 64 a0).wf = false) ∧
    (∀ a0, (Instr.cellTestStart a0 272 0).wf = false) ∧
    (∀ a0, (Instr.cellTestStart a0 0 64).wf = false) ∧
    (Instr.cellTestDone 272 0).wf = false :=
  ⟨rfl, rfl, rfl, rfl, rfl, rfl, rfl, rfl, rfl, rfl, rfl, rfl, rfl, rfl, rfl, rfl, rfl, rfl, rfl, rfl, rfl, rfl, rfl, rfl,
  rfl, rfl, rfl, fun _ => rfl, fun _ => rfl, fun _ => rfl, fun _ => rfl, fun _ => rfl, fun _ => rfl, fun _ => rfl, fun _ =>
  rfl, fun _ _ => rfl, fun _ => rfl, fun _ => rfl, fun _ => rfl, rfl⟩

/-- One operand past its range, in each of these commands. -/
theorem test_wf_refuses_3 :
    (Instr.cellTestDone 0 16).wf = false ∧
    (∀ a0, (Instr.pipeTestStart a0 68 0).wf = false) ∧
    (∀ a0, (Instr.pipeTestStart a0 0 64).wf = false) ∧
    (Instr.pipeTestDone 68 0).wf = false ∧
    (Instr.pipeTestDone 0 16).wf = false ∧
    (∀ a0, (Instr.cellRetire a0 272 0).wf = false) ∧
    (∀ a0, (Instr.cellRetire a0 0 (2 ^ 32)).wf = false) ∧
    (∀ a0, (Instr.pipeRetire a0 68 0).wf = false) ∧
    (∀ a0, (Instr.pipeRetire a0 0 (2 ^ 32)).wf = false) ∧
    (∀ a0, (Instr.quadPartWrite a0 68 0).wf = false) ∧
    (∀ a0, (Instr.quadPartWrite a0 0 (2 ^ 32)).wf = false) ∧
    (∀ a0, (Instr.memcPartWrite a0 32 0).wf = false) ∧
    (∀ a0, (Instr.memcPartWrite a0 0 (2 ^ 32)).wf = false) ∧
    (∀ a0, (Instr.seamLaneWrite a0 4 0).wf = false) ∧
    (∀ a0, (Instr.seamLaneWrite a0 0 (2 ^ 32)).wf = false) ∧
    (∀ a0, (Instr.fastlaneWrite a0 (2 ^ 64)).wf = false) ∧
    (∀ a0 a1, (Instr.loadPlan 65536 a0 a1).wf = false) ∧
    (Instr.planChecksDone 64).wf = false ∧
    (Instr.unloadPlan 65536).wf = false ∧
    (Instr.launch 65536).wf = false ∧
    (Instr.launchStart 64).wf = false ∧
    (Instr.preloadDone 64).wf = false ∧
    (Instr.launchEnd 64).wf = false ∧
    (Instr.seqOpen 65536).wf = false ∧
    (Instr.seqGrow 65536).wf = false ∧
    (Instr.seqCommit 65536).wf = false ∧
    (Instr.seqRollback 65536).wf = false ∧
    (Instr.seqClose 65536).wf = false ∧
    (Instr.heldOpResume 65536).wf = false ∧
    (Instr.parkDeadline 65536).wf = false ∧
    (∀ a0 a1, (Instr.kvpgPoolWrite a0 a1 (2 ^ 64)).wf = false) ∧
    (∀ a0, (Instr.kvpgSeqBaseWrite a0 (2 ^ 64)).wf = false) ∧
    (∀ a0, (Instr.kvpgResvWrite a0 (2 ^ 32)).wf = false) ∧
    (∀ a0 a1 a2, (Instr.request 65536 a0 a1 a2).wf = false) ∧
    (∀ a0, (Instr.slotEnable a0 (2 ^ 32)).wf = false) ∧
    (Instr.servingLaunchPrepare 64).wf = false ∧
    (Instr.cancel 65536).wf = false ∧
    (∀ a0, (Instr.burstWrite a0 (2 ^ 32)).wf = false) ∧
    (∀ a0 a1, (Instr.pfxTenWrite a0 a1 (2 ^ 64)).wf = false) ∧
    (∀ a0, (Instr.memSetMapWrite a0 (2 ^ 32)).wf = false) :=
  ⟨rfl, fun _ => rfl, fun _ => rfl, rfl, rfl, fun _ => rfl, fun _ => rfl, fun _ => rfl, fun _ => rfl, fun _ => rfl, fun _ =>
  rfl, fun _ => rfl, fun _ => rfl, fun _ => rfl, fun _ => rfl, fun _ => rfl, fun _ _ => rfl, rfl, rfl, rfl, rfl, rfl, rfl,
  rfl, rfl, rfl, rfl, rfl, rfl, rfl, fun _ _ => rfl, fun _ => rfl, fun _ => rfl, fun _ _ _ => rfl, fun _ => rfl, rfl, rfl, fun
  _ => rfl, fun _ _ => rfl, fun _ => rfl⟩

/-- One operand past its range, in each of these commands. -/
theorem test_wf_refuses_4 :
    (∀ a0, (Instr.extentOwn a0 256).wf = false) ∧
    (Instr.extentScrubDone 15360).wf = false ∧
    (Instr.poisonMarkWrite (2 ^ 34)).wf = false ∧
    (Instr.refreshDue 32 0).wf = false ∧
    (Instr.refreshDue 0 4).wf = false ∧
    (∀ a0 a1, (Instr.packageTempRead 32 a0 a1).wf = false) ∧
    (∀ a0 a1, (Instr.patrolScrub 32 a0 a1).wf = false) ∧
    (∀ a0 a1, (Instr.hostWindowRead 64 0 a0 a1).wf = false) ∧
    (∀ a0 a1, (Instr.hostWindowRead 0 (2 ^ 40) a0 a1).wf = false) ∧
    (∀ a0 a1, (Instr.hostWindowWrite 64 0 a0 a1).wf = false) ∧
    (∀ a0 a1, (Instr.hostWindowWrite 0 (2 ^ 40) a0 a1).wf = false) ∧
    (∀ a0, (Instr.functionLevelReset 64 a0).wf = false) ∧
    (∀ a0, (Instr.linkRetrain a0 (2 ^ 32)).wf = false) ∧
    (∀ a0, (Instr.hostFnCfgWrite a0 (2 ^ 32)).wf = false) ∧
    (∀ a0 a1, (Instr.hostFnMsixWrite a0 (2 ^ 32) a1).wf = false) ∧
    (∀ a0, (Instr.hostFnWinWrite a0 (2 ^ 32)).wf = false) ∧
    (∀ a0 a1, (Instr.bar4Resize 64 a0 a1).wf = false) ∧
    (Instr.dma 65536).wf = false ∧
    (∀ a0, (Instr.dmaGo a0 16).wf = false) ∧
    (∀ a0 a1 a2, (Instr.dmaTransferDone 16 a0 a1 a2).wf = false) ∧
    (Instr.query 65536).wf = false ∧
    (∀ a0 a1, (Instr.keyProg 65536 0 0 a0 a1).wf = false) ∧
    (∀ a0 a1, (Instr.keyProg 0 8 0 a0 a1).wf = false) ∧
    (∀ a0 a1, (Instr.keyProg 0 0 2 a0 a1).wf = false) ∧
    (Instr.kSetGo 65536 0 0).wf = false ∧
    (Instr.kSetGo 0 8 0).wf = false ∧
    (Instr.kSetGo 0 0 2).wf = false ∧
    (Instr.kSetStop 65536 0 0).wf = false ∧
    (Instr.kSetStop 0 8 0).wf = false ∧
    (Instr.kSetStop 0 0 2).wf = false ∧
    (Instr.create 64 0).wf = false ∧
    (Instr.create 0 16).wf = false ∧
    (∀ a0, (Instr.delete 64 0 a0).wf = false) ∧
    (∀ a0, (Instr.delete 0 16 a0).wf = false) ∧
    (Instr.resume 64 0).wf = false ∧
    (Instr.resume 0 16).wf = false ∧
    (∀ a0, (Instr.queueFlush 64 0 a0).wf = false) ∧
    (∀ a0, (Instr.queueFlush 0 16 a0).wf = false) ∧
    (∀ a0, (Instr.doorbell 64 0 a0 0).wf = false) ∧
    (∀ a0, (Instr.doorbell 0 65536 a0 0).wf = false) :=
  ⟨fun _ => rfl, rfl, rfl, rfl, rfl, fun _ _ => rfl, fun _ _ => rfl, fun _ _ => rfl, fun _ _ => rfl, fun _ _ => rfl, fun _ _
  => rfl, fun _ => rfl, fun _ => rfl, fun _ => rfl, fun _ _ => rfl, fun _ => rfl, fun _ _ => rfl, rfl, fun _ => rfl, fun _ _ _
  => rfl, rfl, fun _ _ => rfl, fun _ _ => rfl, fun _ _ => rfl, rfl, rfl, rfl, rfl, rfl, rfl, rfl, rfl, fun _ => rfl, fun _ =>
  rfl, rfl, rfl, fun _ => rfl, fun _ => rfl, fun _ => rfl, fun _ => rfl⟩

/-- One operand past its range, in each of these commands. -/
theorem test_wf_refuses_5 :
    (∀ a0, (Instr.doorbell 0 0 a0 (2 ^ 64)).wf = false) ∧
    (∀ a0 a1 a2, (Instr.entryFetched 65536 a0 a1 a2).wf = false) ∧
    (Instr.commandStart 65536).wf = false ∧
    (Instr.nop 65536).wf = false ∧
    (Instr.wait 65536).wf = false ∧
    (Instr.peerCopy 65536).wf = false ∧
    (Instr.remoteSignal 65536).wf = false ∧
    (Instr.invalidOpcode 65536).wf = false ∧
    (∀ a0, (Instr.commandTimeout 65536 a0).wf = false) ∧
    (∀ a0, (Instr.qmgrSigBaseWrite a0 (2 ^ 64)).wf = false) ∧
    (∀ a0, (Instr.dbpMapWrite a0 64).wf = false) ∧
    (∀ a0, (Instr.portEnable a0 8 0).wf = false) ∧
    (∀ a0, (Instr.portEnable a0 0 (2 ^ 32)).wf = false) ∧
    (∀ a0, (Instr.portDisable a0 8 0).wf = false) ∧
    (∀ a0, (Instr.portDisable a0 0 (2 ^ 32)).wf = false) ∧
    (∀ a0, (Instr.trainingPhaseDone 8 a0).wf = false) ∧
    (Instr.trainingBoundExpiry 8).wf = false ∧
    (∀ a0 a1 a2, (Instr.linkKeyExchange 8 a0 a1 a2).wf = false) ∧
    (Instr.retrainWaitExpiry 8).wf = false ∧
    (∀ a0, (Instr.wagRetrain a0 8 0).wf = false) ∧
    (∀ a0, (Instr.wagRetrain a0 0 (2 ^ 32)).wf = false) ∧
    (∀ a0 a1, (Instr.frameReceive 8 a0 a1).wf = false) ∧
    (∀ a0, (Instr.frameTransmit 8 a0).wf = false) ∧
    (Instr.replayTimerExpiry 8).wf = false ∧
    (Instr.replayBudgetExpiry 8).wf = false ∧
    (∀ a0, (Instr.laneLockLoss 8 a0).wf = false) ∧
    (Instr.leavingNotice 8).wf = false ∧
    (Instr.leavingWaitExpiry 8).wf = false ∧
    (Instr.rekeyStart 8).wf = false ∧
    (Instr.rekeyDeadline 8).wf = false ∧
    (∀ a0, (Instr.copyAbort 512 a0).wf = false) ∧
    (∀ a0 a1, (Instr.formationCall 512 a0 a1).wf = false) ∧
    (∀ a0 a1, (Instr.join 512 0 a0 a1).wf = false) ∧
    (∀ a0 a1, (Instr.join 0 4 a0 a1).wf = false) ∧
    (∀ a0 a1 a2 a3 a4, (Instr.memberList 512 a0 a1 a2 a3 a4).wf = false) ∧
    (Instr.memberAck 512).wf = false ∧
    (Instr.waitingNotice 512).wf = false ∧
    (∀ a0, (Instr.meridSlewWrite a0 (2 ^ 32)).wf = false) ∧
    (∀ a0, (Instr.barrierVerdict 64 a0 0).wf = false) ∧
    (∀ a0, (Instr.barrierVerdict 0 a0 4).wf = false) :=
  ⟨fun _ => rfl, fun _ _ _ => rfl, rfl, rfl, rfl, rfl, rfl, rfl, fun _ => rfl, fun _ => rfl, fun _ => rfl, fun _ => rfl, fun _
  => rfl, fun _ => rfl, fun _ => rfl, fun _ => rfl, rfl, fun _ _ _ => rfl, rfl, fun _ => rfl, fun _ => rfl, fun _ _ => rfl,
  fun _ => rfl, rfl, rfl, fun _ => rfl, rfl, rfl, rfl, rfl, fun _ => rfl, fun _ _ => rfl, fun _ _ => rfl, fun _ _ => rfl, fun
  _ _ _ _ _ => rfl, rfl, rfl, fun _ => rfl, fun _ => rfl, fun _ => rfl⟩

/-- One operand past its range, in each of these commands. -/
theorem test_wf_refuses_6 :
    (∀ a0, (Instr.barrierRelease 64 a0).wf = false) ∧
    (Instr.backupDelayExpiry 64).wf = false ∧
    (∀ a0, (Instr.backupStart 64 a0 0).wf = false) ∧
    (∀ a0, (Instr.backupStart 0 a0 512).wf = false) ∧
    (Instr.memberLossTimeout 8).wf = false ∧
    (∀ a0, (Instr.barrierEnable a0 (2 ^ 32)).wf = false) ∧
    (∀ a0 a1 a2, (Instr.progressReport 512 a0 a1 a2).wf = false) ∧
    (∀ a0 a1 a2, (Instr.groupKeyDistribution 512 a0 a1 a2).wf = false) ∧
    (∀ a0 a1, (Instr.keyInstallActivate 65536 a0 a1).wf = false) ∧
    (∀ a0 a1, (Instr.keyInstallReplace 65536 a0 a1).wf = false) ∧
    (∀ a0 a1, (Instr.weightLoad 65536 a0 a1).wf = false) ∧
    (Instr.tenantRetire 65536).wf = false ∧
    (∀ a0, (Instr.drainWaitExpiry 256 a0).wf = false) ∧
    (Instr.drainFence 256).wf = false ∧
    (Instr.retirementScrubDone 256).wf = false ∧
    (∀ a0 a1, (Instr.getCertificate a0 65536 a1).wf = false) ∧
    (∀ a0, (Instr.finish 65536 a0).wf = false) ∧
    (Instr.heartbeat 65536).wf = false ∧
    (Instr.keyUpdate 65536).wf = false ∧
    (Instr.endSession 65536).wf = false ∧
    (Instr.powerInterval 65536).wf = false ∧
    (∀ a0, (Instr.pwrCapWrite a0 (2 ^ 32)).wf = false) ∧
    (Instr.launchGateHoldExpiry 64).wf = false ∧
    (Instr.domainIdle 402).wf = false ∧
    (Instr.domainWake 402).wf = false ∧
    (Instr.wakeDone 402).wf = false ∧
    (Instr.holdOnWrite 0 272 0).wf = false ∧
    (Instr.holdOnWrite 0 0 (2 ^ 32)).wf = false ∧
    (∀ a0, (Instr.laneIdleAgreement 8 a0).wf = false) ∧
    (∀ a0, (Instr.clockSourceTrip 42 a0).wf = false) ∧
    (Instr.dividerStep 42).wf = false ∧
    (Instr.clockSourceGood 42).wf = false ∧
    (∀ a0, (Instr.clockGateRequest 42 a0).wf = false) ∧
    (Instr.gateStuck 42).wf = false ∧
    (∀ a0 a1, (Instr.clkObsSelect a0 (2 ^ 32) a1).wf = false) ∧
    (∀ a0, (Instr.thermalAlarm 32 a0).wf = false) ∧
    (∀ a0, (Instr.thermalTrip 32 a0).wf = false) ∧
    (Instr.strapSample 512 0).wf = false ∧
    (Instr.strapSample 0 4).wf = false ∧
    (∀ a0 a1 a2, (Instr.decodeOpen 65536 a0 a1 a2).wf = false) :=
  ⟨fun _ => rfl, rfl, fun _ => rfl, fun _ => rfl, rfl, fun _ => rfl, fun _ _ _ => rfl, fun _ _ _ => rfl, fun _ _ => rfl, fun _
  _ => rfl, fun _ _ => rfl, rfl, fun _ => rfl, rfl, rfl, fun _ _ => rfl, fun _ => rfl, rfl, rfl, rfl, rfl, fun _ => rfl, rfl,
  rfl, rfl, rfl, rfl, rfl, fun _ => rfl, fun _ => rfl, rfl, rfl, fun _ => rfl, rfl, fun _ _ => rfl, fun _ => rfl, fun _ =>
  rfl, rfl, rfl, fun _ _ _ => rfl⟩

/-- One operand past its range, in each of these commands. -/
theorem test_wf_refuses_7 :
    (∀ a0 a1 a2, (Instr.decodePicture 65536 a0 a1 a2).wf = false) ∧
    (Instr.decodeFlush 65536).wf = false ∧
    (Instr.decodeClose 65536).wf = false ∧
    (∀ a0 a1 a2, (Instr.encodeOpen 65536 a0 a1 a2).wf = false) ∧
    (Instr.encodePicture 65536).wf = false ∧
    (Instr.encodeFlush 65536).wf = false ∧
    (Instr.encodeClose 65536).wf = false ∧
    (Instr.vidPre 65536).wf = false ∧
    (Instr.preemption 128).wf = false ∧
    (∀ a0, (Instr.videoJobEnd 128 a0).wf = false) ∧
    (∀ a0, (Instr.eventRecord 0 272 0 0 0 a0).wf = false) ∧
    (∀ a0, (Instr.eventRecord 0 0 0 5 0 a0).wf = false) ∧
    (∀ a0, (Instr.eventRecord 0 0 65536 0 0 a0).wf = false) ∧
    (∀ a0, (Instr.eventRecord 0 0 0 0 256 a0).wf = false) ∧
    (Instr.flushEnd 6201).wf = false ∧
    (∀ a0 a1, (Instr.metricConfigWrite a0 a1 (2 ^ 32)).wf = false) ∧
    (Instr.metricIntervalEnd 1024).wf = false ∧
    (∀ a0 a1, (Instr.warmResetProceed a0 6201 a1).wf = false) ∧
    (∀ a0, (Instr.partialReset a0 512).wf = false) ∧
    (∀ a0, (Instr.chainChunk 511 a0).wf = false) ∧
    (Instr.chainForward 8).wf = false ∧
    (∀ a0 a1, (Instr.bitmapReport 8 0 a0 a1).wf = false) ∧
    (∀ a0 a1, (Instr.bitmapReport 0 512 a0 a1).wf = false) ∧
    (Instr.lock 0 272 0).wf = false ∧
    (Instr.lock 0 0 (2 ^ 32)).wf = false ∧
    (Instr.irqEnWrite 0 272 0).wf = false ∧
    (Instr.irqEnWrite 0 0 (2 ^ 32)).wf = false ∧
    (∀ a0 a1 a2, (Instr.registerWrite a0 0 272 0 a1 0 a2).wf = false) ∧
    (∀ a0 a1 a2, (Instr.registerWrite a0 0 0 4096 a1 0 a2).wf = false) ∧
    (∀ a0 a1 a2, (Instr.registerWrite a0 0 0 0 a1 (2 ^ 64) a2).wf = false) ∧
    (Instr.memberLossReport 512).wf = false :=
  ⟨fun _ _ _ => rfl, rfl, rfl, fun _ _ _ => rfl, rfl, rfl, rfl, rfl, rfl, fun _ => rfl, fun _ => rfl, fun _ => rfl, fun _ =>
  rfl, fun _ => rfl, rfl, fun _ _ => rfl, rfl, fun _ _ => rfl, fun _ => rfl, fun _ => rfl, rfl, fun _ _ => rfl, fun _ _ =>
  rfl, rfl, rfl, rfl, rfl, fun _ _ _ => rfl, fun _ _ _ => rfl, fun _ _ _ => rfl, rfl⟩

/-! ## The spec's worked examples -/

/-- R111, R114: the FP32 value 0x3E99_999A in BF16, E4M3 and E5M2, to the nearest. -/
theorem test_cvt_three_tenths :
    encodeFloat fBF16 none (fp32 0x3E99999A) = 0x3E9A ∧ encodeFloat fE4M3 none (fp32 0x3E99999A) = 0x2A ∧
    encodeFloat fE5M2 none (fp32 0x3E99999A) = 0x35 := by decide +kernel

/-- R119: with the generator's output on either side of 419,430 the stochastic rounding of that value to E4M3 goes up or down. -/
theorem test_cvt_stochastic_edge :
    encodeFloat fE4M3 (some (419430 * 2 ^ 44)) (fp32 0x3E99999A) = 0x2A ∧
    encodeFloat fE4M3 (some (419429 * 2 ^ 44)) (fp32 0x3E99999A) = 0x29 := by decide +kernel

/-- 500.0 saturates in E4M3 and INT8 and rounds to 512 in E5M2. -/
theorem test_cvt_saturates :
    encodeFloat fE4M3 none (fp32 0x43FA0000) = 0x7E ∧ encodeFloat fE5M2 none (fp32 0x43FA0000) = 0x60 ∧
    encodeInt (-128) 127 none (fp32 0x43FA0000) = 127 := by decide +kernel

/-- A block of 20.0, 7.0 and -0.9 in MXFP4: the scale byte and the three codes. -/
theorem test_mxfp4_block :
    mxBlock 8 (fun _ => none) 0 [fp32 0x41A00000, fp32 0x40E00000, fp32 0xBF666666] = (0x81, [6, 4, 8]) := by decide +kernel

/-- The T5 byte 0xB7 holds the weights -1, 0, 1, -1, 1, and 0xF5 holds none (R105, R107). -/
theorem test_t5_byte :
    (List.range 5).map (t5Weight [0xB7]) = [some (-1), some 0, some 1, some (-1), some 1] ∧ t5Weight [0xF5] 0 = none := by
  decide +kernel

/-- An E4M3 by MXFP4 product of K = 4,096 keeps the matrix unit busy for 4,096 steps (R64). -/
theorem test_mma_busy : mmaBusy 3 8 4096 = 4096 := by decide +kernel

/-- Logical cell 173 lies in physical cell 185 of quad 46, and its logical quad is 43. -/
theorem test_cell_173 : cellHome 173 = 185 ∧ quadHome 43 = 46 := by decide +kernel

/-- MEM_SET_MAP 0x0100_0101 gives the sets 0-7, 8-23 and 24-31; the address of the example lies in the second. -/
theorem test_set_map :
    setList 0x01000101 = [(0, 8), (8, 16), (24, 8)] ∧
    setOf (wr State.reset R.MEM_SET_MAP 0x01000101) 0x3C00046A80 = some (8, 16) := by decide +kernel

/-- From module 300 to module 37 the route takes WAG[0], then WAG[3], then WAG[4] (R301). -/
theorem test_route_300_37 : routePort 300 37 = some 0 ∧ routePort 301 37 = some 3 ∧ routePort 293 37 = some 4 := by decide +kernel

/-- Module 301 sits at (5, 5, 4), and from the queen at module 0 the way goes out of WAG[1]. -/
theorem test_coordinates_301 :
    coord 301 0 = 5 ∧ coord 301 1 = 5 ∧ coord 301 2 = 4 ∧ routePort 0 301 = some 1 := by decide +kernel

/-- KV_BYTES 2,048 gives 8 tokens a page, and 3,000 gives 4. -/
theorem test_tokens_per_page : 2 ^ tppLog2Of 2048 = 8 ∧ 2 ^ tppLog2Of 3000 = 4 := by decide +kernel

/-! ## Inputs that meet the premises of the obligations -/

abbrev S0 : State := State.reset

/-- `n` bytes with fields (offset, bytes, value) in them. -/
def bytesOf (n : Nat) (l : List (Nat × Nat × Nat)) : List Byte :=
  (List.range n).map (fun k => match l.find? (fun f => f.1 ≤ k && k < f.1 + f.2.1) with
    | some f => BitVec.ofNat 8 (f.2.2 / 256 ^ (k - f.1))
    | none => 0)

/-- A running command of a function with its fields. -/
def cmdOf (fn tenant : Nat) (l : List (Nat × Nat × Nat)) : RunCmd :=
  { sub := { idx := 0, bytes := bytesOf 64 l }, fn := fn, tenant := tenant, start := 0 }

/-- Queue `q` runs a command. -/
def withRun (s : State) (q : Nat) (r : RunCmd) : State := setQueue s q { run := some r }

/-- Fields (field, value, instance, bank) written into a state. -/
def regs (s : State) (l : List (Fld × Nat × Nat × Nat)) : State := l.foldl (fun s x => wr s x.1 x.2.1 x.2.2.1 x.2.2.2) s

/-- A plan image: fields of its header, and sections (type, variant, item, bytes). -/
def imgOf (hdr : List (Nat × Nat × Nat)) (secs : List (Nat × Nat × Nat × List Byte)) : List Byte :=
  let base := (256 + 16 * secs.length + 63) / 64
  let pad := fun (b : List Byte) => b ++ List.replicate ((64 - b.length % 64) % 64) 0
  let f := secs.foldl (fun (a : List Byte × List Byte) x =>
    let d := pad x.2.2.2
    (a.1 ++ bytesOf 16 [(0, 2, x.1), (2, 2, x.2.1), (4, 2, x.2.2.1), (8, 4, base + a.2.length / 64), (12, 4, d.length / 64)], a.2 ++ d)) ([], [])
  let hd := bytesOf 256 ((12, 2, secs.length) :: hdr) ++ f.1
  hd ++ List.replicate (64 * base - hd.length) 0 ++ f.2

def variantRec (kind batch steps routes mems compares : Nat) : List Byte :=
  bytesOf 32 [(0, 1, kind), (2, 2, batch), (8, 8, steps), (20, 4, routes), (24, 4, mems), (28, 2, compares)]

def memRec (kind pchan cell units addr issue arrive : Nat) : List Byte :=
  bytesOf 32 [(0, 1, kind), (1, 1, pchan), (2, 1, cell), (3, 1, 1), (6, 2, units), (8, 8, addr), (16, 6, issue), (22, 6, arrive)]

/-- An image of one quad and one controller with one memory entry, one route and one compare point. -/
def image1 (mem route : List Byte) : List Byte :=
  imgOf [(14, 2, 1), (24, 8, 1), (20, 4, 1)]
    [(1, 0xFFFF, 0, variantRec 0 1 8 1 1 1), (3, 0, 0, route), (4, 0, 0, mem), (5, 0, 0, bytesOf 32 [(0, 2, 7), (16, 4, 1)])]

def desc1 : LaunchDesc :=
  { slot := 0, partition := 0, variant := 0, tenant := 0, batch := 1, stochKey := 0, scratchBase := 0, ioBase := 0, seqList := 0,
    recordAddr := 0, tag := 0 }

def run1 : Running := { desc := desc1, src := .direct 0 0, begun := true }

/-- Quad 0 lies in partition 0, which runs a launch of slot 0's image; cell 0 has its next instruction in its buffer. -/
def comb1 (r : Running) (img : List Byte) (c : Cell) : State :=
  let s := setCell (wr S0 R.QUAD_PART_PARTITION 0 (quadHome 0)) 0 { c with ringIdx := [(0, 1)] }
  setPart (setSlot s 0 { st := .ready, image := img }) 0 { running := some r }

/-- With no result pending, a read of the cell's store sees one value whatever is free. -/
theorem cellBytes_quiet (x : Cell) (step : Nat) (old : Bool) (a n : Nat) (h : x.pend = []) :
    cellBytes x step old a n = (List.range n).map (fun i => tget 0 x.store (a + i)) := by
  unfold cellBytes pendOld
  simp [h]

theorem readCodes_quiet (s : State) (x : Cell) (step fmt a n : Nat) (h : x.pend = []) :
    readCodes s x step fmt a n =
      (List.range n).map (fun i => unpackElem fmt ((List.range (packedLen fmt n)).map (fun j => tget 0 x.store (a + j))) i) := by
  unfold readCodes
  simp only [cellBytes_quiet _ _ _ _ _ h, ite_self]

/-- The bytes of an attention command of one row, one head and one key. -/
def attnStore (back : Bool) : Tbl Byte :=
  (if back then [(0, 1)] else []) ++ [(1, 0x11), (2, 1), (5, 1), (6, 1), (8, 16), (10, 1), (12, 1), (36, 1)]

/-- Extent 0 belongs to tenant 0. -/
def owns0 (s : State) : State := wr s R.MEM_OWN_VALID 1 0 0

/-- Partition 0 holds quad 0 and the controllers of the first interleave set; slot 0's plan runs there. -/
def ready1 : State :=
  let s := regs (owns0 S0) ((R.QUAD_PART_PARTITION, 0, quadHome 0, 0) ::
    (List.range 8).map (fun m => (R.MEMC_PART_PARTITION, 0, m, 0)))
  setSlot (wr s R.PWR_BALLAST_BALLAST_EN 0) 0
    { st := .ready, image := imgOf [(14, 2, 1), (18, 2, 0xFFFF), (24, 8, 1), (20, 4, 0xFF)] [(1, 0xFFFF, 0, variantRec 0 1 8 0 0 0)] }

theorem ok_of (e : Except Status State) (h : (match e with | .ok _ => true | .error _ => false) = true) : ∃ u, e = .ok u := by
  cases e with
  | ok u => exact ⟨u, rfl⟩
  | error _ => cases h

/-- A pool of 16 pages, open to tenant 0, at the start of the first interleave set. -/
def pool1 : State := regs S0 [(R.KVPG_POOL_PAGES, 16, 0, 0), (R.KVPG_TEN_SHARED_SHARED_MAX, 16, 0, 0)]

def seq1 : Seq := { st := 1, host := true, mapped := 1, writePos := 4 }

/-- Sequence 0 is open. -/
def seqS (x : Seq) : State := { pool1 with kv := { pool1.kv with seqs := [(0, x)] } }

def seqRun (op n : Nat) : RunCmd := cmdOf 0 0 [(0, 1, 0x0A), (17, 1, op), (24, 4, n)]

def req1 : Req :=
  { queue := 0, fn := 0, tenant := 0, slot := 0, cls := 0, sampled := false, spec := false, lookup := false, insert := false,
    seq := 0, draftSeq := 0, prompt := [1], maxLen := 1, tag := 0, eos := 0, temp := 0, deadline := noDeadline, outAddr := 0,
    outCap := 1, signal := 0, signalEn := false, seed := 0 }

def work1 : Work :=
  { slot := 0, runSlot := 0, part := 0, kind := 0, draft := false, bucket := 0, variant := 0, rows := [], ns := [], starts := [],
    io := 0, record := 0, serial := 1, desc := desc1 }

/-- Serving slot 0 is enabled with one seat and one bucket. -/
def serv1 : State :=
  let s := regs S0 [(R.SERV_CTL_ENABLE, 1, 0, 0), (R.SERV_SLOT_CFG_ENABLE, 1, 0, 0), (R.SERV_SLOT_SIZE_SEATS, 1, 0, 0),
    (R.SERV_SLOT_SIZE_CHUNK, 1, 0, 0), (R.SERV_BUCKET_BOUND, 128, 0, 0)]
  setSlot { s with serv := { s.serv with budget := [(0, { level := 1000 })] } } 0 { st := .ready }

def xfer1 : Xfer :=
  { queue := none, kind := 0, op := 0, sealed := false, tenant := 0, sealQ := 0, length := 1, src := 0, dst := 0, tagAddr := 0, ctr := 0 }

/-- Queue 0 is enabled, with 16 places. -/
def queue1 : State := regs S0 [(R.Q_STAT_STATE, 1, 0, 0), (R.Q_CFG_DEPTH_LOG2, 4, 0, 0), (R.HOST_LINK_UP, 1, 0, 0)]

/-- The unit at address 0 is being read again for a consumer. -/
def reread1 (s : State) (who : Consumer) (tries : Nat) : State :=
  { s with mem := { s.mem with rereads := [{ addr := 0, who := who, tries := tries, path := false }] } }

/-- A member of a hive in state 2, with modules 0 and 1 in it. -/
def hive1 : State := regs S0 [(R.HIVE_STAT_STATE, 2, 0, 0), (R.HIVE_MEMBER 0, 3, 0, 0)]

/-- Port `p` is in a state, with what the model keeps for it. -/
def portIn (st p : Nat) (x : WPort) : State := setPort (wr S0 R.WAG_STAT_STATE st p) p x

/-- The queen of a hive in state 2, with modules 0 and 1 in it. -/
def queen1 : State := wr hive1 R.HIVE_ROLE_ROLE 3

/-- A member of a hive that forms itself over its links. -/
def member1 : State := wr hive1 R.HIVE_ROLE_ROLE_CFG 1

def frame1 : WFrame := { seq := 1, ctr := 1, body := .rekey }

def out1 : OutMsg := { vc := 1, src := 0, dst := 1, tenant := 0, body := .beacon }

/-- A unit of a pair in a state of its pair, with partition 0 mirrored. -/
def twinIn (st : Nat) (x : Twin) : State := { regs S0 [(R.TWIN_STAT_STATE, st, 0, 0), (R.TWIN_PARTS, 1, 0, 0), (R.WAG_STAT_STATE, 3, 6, 0)] with twin := x }

/-- Slot 0 holds an image with one compare point of one token. -/
def tokens1 (s : State) : State :=
  setSlot s 0 { st := .ready, image := imgOf [(14, 2, 1)] [(1, 0xFFFF, 0, variantRec 0 1 8 0 0 1), (5, 0, 0, bytesOf 32 [(0, 2, 7), (3, 1, 1), (16, 4, 1)])] }

def point1 : ComparePoint := compareOf (bytesOf 32 [(0, 2, 7), (3, 1, 1), (16, 4, 1)])

/-- A parameter block of a codec context that both codecs take: 16 by 16 pictures. -/
def block1 : List Byte :=
  bytesOf 128 [(0, 1, 1), (1, 1, 1), (2, 1, 1), (3, 1, 2), (4, 2, 16), (6, 2, 16), (16, 4, 65536), (20, 4, 65536), (44, 4, 1),
    (57, 1, 1), (60, 2, 1), (62, 1, 8), (64, 1, 1), (65, 1, 1)]

/-- Codec context 0 is open, for decoding or encoding, with a running command and its jobs. -/
def video1 (enc : Nat) (r : RunCmd) (jobs : List VJob) : State :=
  let s := regs (withRun (owns0 S0) 0 r)
    [(R.VID_CTX_STAT_STATE, 1, 0, 0), (R.VID_CTX_STAT_ENCODE, enc, 0, 0), (R.VID_CTX_STAT_ENGINES, 1, 0, 0)]
  { s with vid := { s.vid with ctxs := [(0, { block := block1 })], jobs := jobs } }

def job1 (enc : Bool) (op st : Nat) : VJob :=
  { serial := 1, queue := 0, tenant := 0, ctx := 0, encode := enc, op := op, key := false, length := 8, src := 0, release := 0,
    out := 0, cap := 4096, result := 0, inSegs := 0, st := st }

/-- A preprocessing command of one 16 by 16 crop. -/
def pre1 : List (Nat × Nat × Nat) := [(0, 1, 0x12), (19, 1, 1), (20, 2, 16), (22, 2, 16), (28, 2, 1), (30, 2, 1), (40, 8, 65536)]

def rec1 : Rec := mkRec S0 0 0 0 0 0 []

/-- A store of `n` equal records. -/
def fullN (n : Nat) (r : Rec) : State := { S0 with evr := { S0.evr with store := List.replicate n r } }

theorem fullN_length (n : Nat) (r : Rec) : n ≤ (fullN n r).evr.store.length := by
  simp [fullN]

theorem fullN_eq (n : Nat) (r x : Rec) (h : x ∈ (fullN n r).evr.store) : x = r :=
  List.eq_of_mem_replicate h

theorem fullN_mem (n : Nat) (r : Rec) (h : n ≠ 0) : r ∈ (fullN n r).evr.store :=
  List.mem_replicate.2 ⟨h, rfl⟩

/-- No record of that store is the latest of its source. -/
theorem fullN_latest (n k : Nat) (r x : Rec) : ¬x.serial + 1 = tget 0 (fullN n r).evr.latest k := by
  exact Nat.succ_ne_zero _

/-- The manifest of an image of one byte, 0, with that byte's SHAKE256 digest (taken from an implementation of FIPS 202). -/
def man1 : List Byte :=
  bytesOf 210 [(0, 4, 0x57464E4C), (4, 2, 1), (6, 2, 0x7200), (8, 4, 1), (12, 2, 1), (64, 32, 0x540d60b8f4366ea8f02e0430bf0bdee541cfeaddf636c6825807f755f81dd0b8)]

/-- A slot of the NOR holds that manifest and that image. -/
def norIn (s : State) (slot : Nat) : State :=
  { s with boot := { s.boot with chunks := 1,
                                 nor := man1.zipIdx.map (fun e => (norAddr slot 0 + e.2, some e.1)) ++ [(norAddr slot 65536, some 0)] } }

/-- An image whose signature does not verify is not started. -/
theorem verifies_unsigned (s : State) (e : StartEnv) (slot : Nat) (h : e.sigs.contains slot = false) : verifies s e slot ≠ none := by
  unfold verifies
  dsimp only
  split
  · simp
  · rw [h]
    simp

/-- A member that takes its image from the chain, with a member behind port 0. -/
def chain1 : State :=
  regs hive1 [(R.FWU_STAT_STATE, 1, 0, 0), (R.FWU_STAT_CHAIN_SOURCE, 1, 0, 0), (R.WAG_STAT_STATE, 3, 0, 0), (R.WAG_PEER_MODULE, 1, 0, 0)]

/-- Inputs that meet the premises of each clause of `Obligations.GovernorInterval`. -/
theorem witness_GovernorInterval :
    (∃ die, ∃ s : State, (die < 4 → rd s R.PWR_STAT_STANDBY ≠ 1) ∧ die < 5 ∧ rd s R.PACE_VLIM_VMAX die < 2 ^ 12) ∧
    (∃ die, ∃ s : State, die < 4 ∧ rd s R.PWR_STAT_STANDBY = 1) :=
  ⟨⟨0, State.reset, by decide +kernel⟩,
    ⟨0, regs S0 [(R.PWR_STAT_STANDBY, 1, 0, 0)], by decide +kernel⟩⟩

/-- Inputs that meet the premises of each clause of `Obligations.MarginsAndPredictions`. -/
theorem witness_MarginsAndPredictions :
    (∃ die, ∃ entry, ∃ s : State, die < 4 ∧ entry < 64 ∧ recentErrs s die entry = [] ∧ rd s R.PACE_MARGIN_RAISE die entry <
    200) ∧
    (∃ die, ∃ entry, ∃ s : State, ∃ e, die < 4 ∧ entry < 64 ∧ recentErrs s die entry = [e] ∧ rd s R.PACE_MARGIN_RAISE die
    entry < 200 ∧ rd s R.PACE_FLOOR_MIN_RATE die + min (rd s R.PACE_MARGIN_RAISE die entry + 25) 200 ≤ 1800) ∧
    (∃ s : State, (∀ e ∈ openReqs s, e.2.started = true ∨ e.2.deadline = noDeadline)) :=
  ⟨⟨0, 0, State.reset, by decide +kernel⟩,
    ⟨0, 0, { S0 with comb := { S0.comb with margin := [(0, [({ time := 0, src := .memc 0 })])] } },
    { time := 0, src := .memc 0 }, by decide +kernel⟩,
    ⟨State.reset, by decide +kernel⟩⟩

/-- Inputs that meet the premises of each clause of `Obligations.PaceWrites`. -/
theorem witness_PaceWrites :
    (∃ die, ∃ v, ∃ s : State, die < 5 ∧ pageServed s 18 die = true ∧ 500 ≤ v ∧ v ≤ 1800) ∧
    (∃ die, ∃ v, ∃ s : State, die < 5 ∧ pageServed s 18 die = true ∧ (v < 500 ∨ 1800 < v)) ∧
    (∃ die, ∃ a, ∃ b, ∃ s : State, die < 5 ∧ pageServed s 18 die = true ∧ 600 ≤ a ∧ a + 50 ≤ b ∧ b ≤ 900) ∧
    (∃ die, ∃ a, ∃ b, ∃ s : State, die < 5 ∧ pageServed s 18 die = true ∧ (a < 600 ∨ 900 < a ∨ b < 600 ∨ 900 < b ∨ b < a +
    50)) ∧
    (∃ w : Writer, ∃ die, ∃ v, ∃ s : State, die < 4 ∧ Writable s w 18 die ∧ v ≤ 200) ∧
    (∃ w : Writer, ∃ die, ∃ v, ∃ s : State, die < 4 ∧ Writable s w 18 die ∧ 200 < v) ∧
    (∃ w : Writer, ∃ die, ∃ s : State, die < 4 ∧ Writable s w 18 die) :=
  ⟨⟨4, 1800, State.reset, by decide +kernel⟩,
    ⟨0, 1801, State.reset, by decide +kernel⟩,
    ⟨0, 850, 900, State.reset, by decide +kernel⟩,
    ⟨0, 600, 649, State.reset, by decide +kernel⟩,
    ⟨.host, 0, 200, State.reset, by dsimp only [Writable]; decide +kernel⟩,
    ⟨.host, 0, 201, State.reset, by dsimp only [Writable]; decide +kernel⟩,
    ⟨.host, 0, State.reset, by dsimp only [Writable]; decide +kernel⟩⟩

/-- Inputs that meet the premises of `Obligations.SpecialFunctionOps`. -/
theorem witness_SpecialFunctionOps :
    ∃ op, ∃ x, ∃ v, sfuSpecial op x = some v :=
  ⟨0, 0x7F800000, 0x7F800000, by decide +kernel⟩

/-- Inputs that meet the premises of each clause of `Obligations.MatrixAndConvert`. -/
theorem witness_MatrixAndConvert :
    (∃ c, ∃ a, ∃ r, ∃ s : State, ∃ as, ∃ bs, Issuing s c 1 r ∧ mmaOk a = true ∧ (List.range a.k).mapM (fun k => mmaRun s (cell
    s c) r.step a.aFmt (64 * a.aAddr) a.m k (64 * a.scale)) = some as ∧ (List.range a.k).mapM (fun k => mmaRun s (cell s c)
    r.step a.bFmt (64 * a.bAddr) a.n k (if fmtIsMx a.aFmt then 64 * a.scale + (a.m * ((a.k + 31) / 32) + 63) / 64 * 64 else 64
    * a.scale)) = some bs) ∧
    (∃ c, ∃ a, ∃ r, ∃ s : State, Issuing s c 1 r ∧ mmaOk a = true ∧ (List.range a.k).mapM (fun k => mmaRun s (cell s c) r.step
    a.bFmt (64 * a.bAddr) a.n k (if fmtIsMx a.aFmt then 64 * a.scale + (a.m * ((a.k + 31) / 32) + 63) / 64 * 64 else 64 *
    a.scale)) = none) ∧
    (∃ c, ∃ a, ∃ r, ∃ s : State, ∃ vs, Issuing s c 2 r ∧ 1 ≤ a.l ∧ a.l ≤ 65534 ∧ cvtPair a.fromF a.toF = true ∧ fmtIsMx a.toF
    = false ∧ cvtSource s (cell s c) r.step a = some vs) :=
  ⟨⟨0, { aAddr := 0, bAddr := 0, k := 1, bFmt := 0, aFmt := 0, m := 1, acc := 0, n := 1, zero := true, scale := 0 }, run1,
    comb1 run1 (image1 [] []) {}, [[decodeElem 0 0]], [[decodeElem 0 0]],
    by dsimp only [Issuing, mmaRun]; simp (disch := decide) only [readCodes_quiet, cellBytes_quiet]; decide +kernel⟩,
    ⟨0, { aAddr := 1, bAddr := 0, k := 1, bFmt := 14, aFmt := 10, m := 1, acc := 0, n := 1, zero := true, scale := 0 }, run1,
    comb1 run1 (image1 [] []) { store := [(0, 0xFF)] },
    by dsimp only [Issuing, mmaRun]; simp (disch := decide) only [readCodes_quiet, cellBytes_quiet]; decide +kernel⟩,
    ⟨0, { src1 := 0, dst := 0, l := 1, fromF := 0, toF := 1, round := false }, run1, comb1 run1 (image1 [] []) {}, [decodeElem
    0 0], by dsimp only [Issuing, cvtSource]; simp (disch := decide) only [readCodes_quiet, cellBytes_quiet]; decide +kernel⟩⟩

/-- Inputs that meet the premises of each clause of `Obligations.ControlInstructions`. -/
theorem witness_ControlInstructions :
    (∃ c, ∃ r, ∃ s : State, Issuing s c 0 r) ∧
    (∃ c, ∃ r, ∃ s : State, Issuing s c 0 r ∧ twinRole s = 0) ∧
    (∃ c, ∃ m, ∃ r, ∃ s : State, ∃ x, Issuing s c 0 r ∧ twinRole s ≠ 0 ∧ mirrored s (cellPart s c) = true ∧ (comparesOf
    (runImage s r) r.desc.variant).find? (fun x => x.mark = m && x.cell = c) = some x) ∧
    (∃ c, ∃ r, ∃ s : State, cellLaunch s c = some r ∧ (cell s c).ended = false ∧ inBuffer (cell s c) = false) ∧
    (∃ i, ∃ c, ∃ s : State, cellOf i = some c ∧ cellLaunch s c = none) :=
  ⟨⟨0, run1, comb1 run1 (image1 [] []) {}, by dsimp only [Issuing]; decide +kernel⟩,
    ⟨0, run1, comb1 run1 (image1 [] []) {}, by dsimp only [Issuing]; decide +kernel⟩,
    ⟨0, 7, run1, regs (comb1 run1 (image1 [] []) {}) [(R.TWIN_STAT_STATE, 1, 0, 0), (R.TWIN_PARTS, 1, 0, 0)], compareOf
    (bytesOf 32 [(0, 2, 7), (16, 4, 1)]), by dsimp only [Issuing]; decide +kernel⟩,
    ⟨0, run1, setCell (comb1 run1 (image1 [] []) {}) 0 {}, by decide +kernel⟩,
    ⟨.ctrlNop 0, 0, S0, by decide +kernel⟩⟩

/-- Inputs that meet the premises of each clause of `Obligations.Moves`. -/
theorem witness_Moves :
    (∃ c, ∃ a : MoveArgs, ∃ r, ∃ s : State, Issuing s c (4 + a.chan % 2) r ∧ 1 ≤ a.units ∧ a.units ≤ 65534 ∧ inStore a.loc (64
    * a.units) = true ∧ hasMem s a.entry r = true) ∧
    (∃ c, ∃ a : MoveArgs, ∃ r, ∃ s : State, Issuing s c (4 + a.chan % 2) r ∧ 1 ≤ a.units ∧ a.units ≤ 65534 ∧ inStore a.loc (64
    * a.units) = true ∧ inStore (a.entry % 65536) (64 * a.units) = true) ∧
    (∃ c, ∃ a : MoveArgs, ∃ r, ∃ s : State, Issuing s c (4 + a.chan % 2) r ∧ 1 ≤ a.units ∧ a.units ≤ 65534 ∧ inStore a.loc (64
    * a.units) = true ∧ hasRoute s a.entry r = true) ∧
    (∃ c, ∃ a : MoveArgs, ∃ r, ∃ s : State, Issuing s c (4 + a.chan % 2) r ∧ 1 ≤ a.units ∧ a.units ≤ 65534 ∧ inStore a.loc (64
    * a.units) = true ∧ hasRoute s a.entry r = true ∧ epKind (routeAt (runImage s r) r.desc.variant a.entry).dst = 1 ∧
    quadPart s (epIndex (routeAt (runImage s r) r.desc.variant a.entry).dst) = cellPart s c ∧ (pipe s (epIndex (routeAt
    (runImage s r) r.desc.variant a.entry).dst)).win.length + 64 * a.units ≤ 131072) ∧
    (∃ c, ∃ a : MoveArgs, ∃ r, ∃ s : State, Issuing s c (4 + a.chan % 2) r ∧ 1 ≤ a.units ∧ a.units ≤ 65534 ∧ inStore a.loc (64
    * a.units) = true ∧ hasRoute s a.entry r = true ∧ epKind (routeAt (runImage s r) r.desc.variant a.entry).src = 1 ∧
    quadPart s (epIndex (routeAt (runImage s r) r.desc.variant a.entry).src) = cellPart s c ∧ 64 * a.units ≤ (pipe s (epIndex
    (routeAt (runImage s r) r.desc.variant a.entry).src)).out.length) :=
  ⟨⟨0, { loc := 0, units := 1, chan := 0, entry := 0 }, run1, comb1 run1 (image1 [] (bytesOf 32 [(0, 2, 0x1000), (2, 2,
    0x1000)])) {}, by dsimp only [Issuing]; decide +kernel⟩,
    ⟨0, { loc := 0, units := 1, chan := 0, entry := 0 }, run1, comb1 run1 (image1 [] (bytesOf 32 [(0, 2, 0x1000), (2, 2,
    0x1000)])) {}, by dsimp only [Issuing]; decide +kernel⟩,
    ⟨0, { loc := 0, units := 1, chan := 0, entry := 0 }, run1, comb1 run1 (image1 [] (bytesOf 32 [(0, 2, 0x1000), (2, 2,
    0x1000)])) {}, by dsimp only [Issuing]; decide +kernel⟩,
    ⟨0, { loc := 0, units := 2048, chan := 1, entry := 0 }, run1, comb1 run1 (image1 [] (bytesOf 32 [(0, 2, 0x1000), (2, 2,
    0x1000)])) {}, by dsimp only [Issuing]; decide +kernel⟩,
    ⟨0, { loc := 0, units := 1, chan := 0, entry := 0 }, run1, setPipe (comb1 run1 (image1 [] (bytesOf 32 [(0, 2, 0x1000), (2,
    2, 0x1000)])) {}) 0 { out := List.replicate 64 0 }, by dsimp only [Issuing]; decide +kernel⟩⟩

/-- Inputs that meet the premises of each clause of `Obligations.AttentionCommands`. -/
theorem witness_AttentionCommands :
    (∃ c, ∃ addr, ∃ r, ∃ s : State, Issuing s c 6 r ∧ let a := attnCmdOf (cmdBytes s c r.step addr);
    let info := attnRead s c r.step a.info 16; a.back = false ∧ attnCheck a false info = none) ∧
    (∃ c, ∃ addr, ∃ r, ∃ s : State, Issuing s c 6 r ∧ let a := attnCmdOf (cmdBytes s c r.step addr); a.back = true ∧ attnCheck
    a false (attnRead s c r.step a.info 16) = none) ∧
    (∃ c, ∃ addr, ∃ r, ∃ s : State, Issuing s c 0 r ∧ (pipe s (c / 4)).free ≤ r.step ∧
    let a := attnCmdOf (cmdBytes s c r.step addr); let info := attnRead s (quadCell (c / 4) a.rowsQ) r.step a.info 16; a.back
    = false ∧ attnCheck a true info = none) ∧
    (∃ c, ∃ addr, ∃ r, ∃ s : State, Issuing s c 0 r ∧ (pipe s (c / 4)).free ≤ r.step ∧
    let a := attnCmdOf (cmdBytes s c r.step addr); a.back = true ∧ attnCheck a true (attnRead s (quadCell (c / 4) a.rowsQ)
    r.step a.info 16) = none) ∧
    (∃ c, ∃ addr, ∃ r, ∃ s : State, ∃ st, Issuing s c 6 r ∧ let a := attnCmdOf (cmdBytes s c r.step addr); a.back = false ∧
    attnCheck a false (attnRead s c r.step a.info 16) = some st) :=
  ⟨⟨0, 0, run1, comb1 run1 (image1 [] []) { store := attnStore false },
    by dsimp only [Issuing, cmdBytes, attnRead]; simp (disch := decide) only [readCodes_quiet]; decide +kernel⟩,
    ⟨0, 0, run1, comb1 run1 (image1 [] []) { store := attnStore true },
    by dsimp only [Issuing, cmdBytes, attnRead]; simp (disch := decide) only [readCodes_quiet]; decide +kernel⟩,
    ⟨0, 0, run1, comb1 run1 (image1 [] []) { store := attnStore false },
    by dsimp only [Issuing, cmdBytes, attnRead]; simp (disch := decide) only [readCodes_quiet]; decide +kernel⟩,
    ⟨0, 0, run1, comb1 run1 (image1 [] []) { store := attnStore true },
    by dsimp only [Issuing, cmdBytes, attnRead]; simp (disch := decide) only [readCodes_quiet]; decide +kernel⟩,
    ⟨0, 0, run1, comb1 run1 (image1 [] []) {}, .formatFault,
    by dsimp only [Issuing, cmdBytes, attnRead]; simp (disch := decide) only [readCodes_quiet]; decide +kernel⟩⟩

/-- Inputs that meet the premises of each clause of `Obligations.EntriesBegin`. -/
theorem witness_EntriesBegin :
    (∃ p, ∃ i, ∃ r, ∃ s : State, (part s p).running = some r ∧ entryBegins s r i 0 = true) ∧
    (∃ p, ∃ i, ∃ r, ∃ s : State, (part s p).running = some r ∧ entryBegins s r i 2 = true) ∧
    (∃ p, ∃ i, ∃ r, ∃ s : State, (part s p).running = some r ∧ entryBegins s r i 4 = true) ∧
    (∃ p, ∃ i, ∃ r, ∃ s : State, (part s p).running = some r ∧ let e := memEntryAt (runImage s r) r.desc.variant i;
    let d := cellBytes (cell s e.cell) r.step false (64 * nearAddr r i e) (64 * e.units); entryBegins s r i 1 = true) ∧
    (∃ p, ∃ i, ∃ r, ∃ s : State, (part s p).running = some r ∧ let e := memEntryAt (runImage s r) r.desc.variant i;
    let d := cellBytes (cell s e.cell) r.step false (64 * nearAddr r i e) (64 * e.units); entryBegins s r i 5 = true ∧
    ((kvCapture r e).isSome = false ∨ (kvAddrs s r e).isSome = true)) ∧
    (∃ p, ∃ i, ∃ r, ∃ s : State, (part s p).running = some r ∧ let e := memEntryAt (runImage s r) r.desc.variant i;
    let d := cellBytes (cell s e.cell) r.step false (64 * nearAddr r i e) (64 * e.units); entryBegins s r i 5 = true ∧
    (kvCapture r e).isSome = true ∧ kvAddrs s r e = none ∧ rd s R.KVPG_WRITE_DROP < 2 ^ 32 - 1) ∧
    (∃ p, ∃ i, ∃ r, ∃ s : State, (part s p).running = some r ∧ let e := memEntryAt (runImage s r) r.desc.variant i;
    let m := pchanMemc (runImage s r) e.pchan; let o := owedOf s m (e.pchan % 4); entryBegins s r i 3 = true) ∧
    (∃ p, ∃ i, ∃ r, ∃ s : State, (part s p).running = some r ∧ let e := memEntryAt (runImage s r) r.desc.variant i;
    let m := pchanMemc (runImage s r) e.pchan; let o := owedOf s m (e.pchan % 4); entryBegins s r i 6 = true) ∧
    (∃ p, ∃ i, ∃ r, ∃ s : State, (part s p).running = some r ∧ (∀ k, entryBegins s r i k = false)) ∧
    (∃ p, ∃ i, ∃ r, ∃ s : State, (part s p).running = some r ∧ let e := routeAt (runImage s r) r.desc.variant i; r.begun =
    true ∧ r.stopped = none ∧ r.ended = false ∧ r.rtBegun.contains i = false ∧ i < (variantAt (runImage s r)
    r.desc.variant).routes ∧ e.start ≤ r.step ∧ tget [] r.sends i = []) :=
  ⟨⟨0, 0, run1, comb1 run1 (image1 (memRec 0 0 0 1 0 0 4) []) {}, by decide +kernel⟩,
    ⟨0, 0, run1, comb1 run1 (image1 (memRec 2 0 0 1 0 0 4) []) {}, by decide +kernel⟩,
    ⟨0, 0, run1, comb1 run1 (image1 (memRec 4 0 0 1 0 0 4) []) {}, by decide +kernel⟩,
    ⟨0, 0, run1, comb1 run1 (image1 (memRec 1 0 0 1 0 0 4) []) {}, by (try dsimp only) <;> decide +kernel⟩,
    ⟨0, 0, run1, comb1 run1 (image1 (memRec 5 0 0 1 0 0 4) []) {}, by (try dsimp only) <;> decide +kernel⟩,
    ⟨0, 0, { run1 with rows := [{ seq := 0, writePos := 0, tppLog2 := 4, pad := false, map := [] }] }, comb1
    ({ run1 with rows := [{ seq := 0, writePos := 0, tppLog2 := 4, pad := false, map := [] }] }) (image1 (memRec 5 0 0 1 0 0
    4) []) {}, by (try dsimp only) <;> decide +kernel⟩,
    ⟨0, 0, run1, comb1 run1 (image1 (memRec 3 0 0 1 0 0 4) []) {}, by (try dsimp only) <;> decide +kernel⟩,
    ⟨0, 0, run1, comb1 run1 (image1 (memRec 6 0 0 1 0 0 4) []) {}, by (try dsimp only) <;> decide +kernel⟩,
    ⟨0, 0, { run1 with ended := true }, comb1 ({ run1 with ended := true }) (image1 [] []) {}, by decide +kernel,
    by intro k; exact rfl⟩,
    ⟨0, 0, run1, comb1 run1 (image1 [] []) {}, by (try dsimp only) <;> decide +kernel⟩⟩

/-- Inputs that meet the premises of each clause of `Obligations.EntriesEndAndSteps`. -/
theorem witness_EntriesEndAndSteps :
    (∃ p, ∃ i, ∃ r, ∃ s : State, (part s p).running = some r ∧ r.memBegun.contains i = true ∧ r.memDone.contains i = false ∧
    r.stopped = none ∧ waitsReRead s (.launch p i) = false ∧ let e := memEntryAt (runImage s r) r.desc.variant i; (e.kind = 0
    ∨ e.kind = 4) ∧ (∀ a ∈ (entryAddrs s r e).getD [], poisonUnit s (a / 64) = false)) ∧
    (∃ p, ∃ i, ∃ r, ∃ s : State, (part s p).running = some r ∧ r.memBegun.contains i = true ∧ r.memDone.contains i = false ∧
    waitsReRead s (.launch p i) = false ∧ let e := memEntryAt (runImage s r) r.desc.variant i; (e.kind = 1 ∨ e.kind = 5)) ∧
    (∃ p, ∃ e : StepEnv, ∃ r, ∃ s : State, (part s p).running = some r ∧ r.begun = true ∧ r.stopped = none ∧ r.ended = false ∧
    r.causes = [] ∧ stepWaits s r = false ∧ e.residue = [] ∧ e.storeUE = [] ∧ e.storeCE = [] ∧ e.pipeResidue = [] ∧ e.ports =
    [] ∧ (∀ x ∈ r.poison, r.step < x.1) ∧ (∀ q ∈ imgQuads (runImage s r), (pipe s q).job = none)) ∧
    (∃ p, ∃ r, ∃ s : State, (part s p).running = some r ∧ r.begun = true ∧ r.stopped = none ∧ r.ended = false ∧ stepWaits s r
    = true ∧ launchRetries s p = false) :=
  ⟨⟨0, 0, { run1 with memBegun := [0] }, comb1 ({ run1 with memBegun := [0] }) (image1 (memRec 0 0 0 1 0 0 4) []) {},
    by (try dsimp only) <;> decide +kernel⟩,
    ⟨0, 0, { run1 with memBegun := [0] }, comb1 ({ run1 with memBegun := [0] }) (image1 (memRec 1 0 0 1 0 0 4) []) {},
    by (try dsimp only) <;> decide +kernel⟩,
    ⟨0, { residue := [], pipeResidue := [], storeCE := [], storeUE := [], ports := [], retryWait := false },
    { run1 with memDone := [0], rtDone := [0] }, comb1 ({ run1 with memDone := [0], rtDone := [0] }) (image1 (memRec 0 0 0 1 0
    0 4) []) {}, by decide +kernel⟩,
    ⟨0, { run1 with memBegun := [0] }, comb1 ({ run1 with memBegun := [0] }) (image1 (memRec 0 0 0 1 0 0 0) []) {},
    by decide +kernel⟩⟩

/-- Inputs that meet the premises of each clause of `Obligations.SelfTests`. -/
theorem witness_SelfTests :
    (∃ w : Writer, ∃ n, ∃ stress, ∃ s : State, UnitWritable s w false 0 n ∧ rd s (mapState false) n ≠ 3 ∧ stress ≤ 50 ∧
    underTest s false n = false ∧ unitIdle s false n) ∧
    (∃ w : Writer, ∃ n, ∃ stress, ∃ s : State, UnitWritable s w true 1 n ∧ rd s (mapState true) n ≠ 3 ∧ stress ≤ 50 ∧
    underTest s true n = false ∧ unitIdle s true n) ∧
    (∃ w : Writer, ∃ n, ∃ stress, ∃ s : State, UnitWritable s w false 0 n ∧ rd s (mapState false) n ≠ 3 ∧ stress ≤ 50 ∧
    underTest s false n = true) ∧
    (∃ n, ∃ s : State, underTest s false n = true ∧ spareTested s false n = none ∧ s.twin.test = none) ∧
    (∃ n, ∃ s : State, underTest s true n = true ∧ spareTested s true n = none ∧ s.twin.test = none) ∧
    (∃ n, ∃ u, ∃ s : State, underTest s false n = true ∧ 0 < u ∧ u < 7 ∧ spareTested s false n = none ∧ s.twin.test = none ∧
    rd s (mapState false) n ≠ 1 ∧ rd s (mapState false) n ≠ 3 ∧ (s.comb.retire.any (fun r => r.pipe = false && r.num = n)) =
    false) :=
  ⟨⟨.host, 271, 50, State.reset, by dsimp only [UnitWritable]; decide +kernel, by decide +kernel, by decide +kernel,
    by decide +kernel, fun _ _ => rfl⟩,
    ⟨.host, 67, 50, State.reset, by dsimp only [UnitWritable]; decide +kernel, by decide +kernel, by decide +kernel,
    by decide +kernel, fun _ _ => rfl⟩,
    ⟨.host, 0, 50, wr S0 R.CELL_STAT_TESTING 1 0 0, by dsimp only [UnitWritable]; decide +kernel⟩,
    ⟨0, wr S0 R.CELL_STAT_TESTING 1 0 0, by decide +kernel⟩,
    ⟨0, wr S0 R.APIPE_STAT_TESTING 1 0 0, by decide +kernel⟩,
    ⟨0, 6, wr S0 R.CELL_STAT_TESTING 1 0 0, by decide +kernel⟩⟩

/-- Inputs that meet the premises of each clause of `Obligations.Retirement`. -/
theorem witness_Retirement :
    (∃ w : Writer, ∃ n, ∃ v, ∃ s : State, v % 2 = 1 ∧ UnitWritable s w false 0 n ∧ rd s (mapState false) n ≠ 1 ∧ rd s
    (mapState false) n ≠ 3 ∧ s.comb.retire.any (fun r => r.pipe = false && r.num = n) = false) ∧
    (∃ w : Writer, ∃ n, ∃ v, ∃ s : State, v % 2 = 1 ∧ pageServed s 2 n = true ∧ ¬(w = .host ∧ rd s (hLocked 2) n = 1) ∧ rd s
    (mapState true) n ≠ 1 ∧ rd s (mapState true) n ≠ 3 ∧ s.comb.retire.any (fun r => r.pipe = true && r.num = n) = false) ∧
    (∃ v, v % 2 = 0) ∧
    (∃ r, ∃ rest, ∃ s : State, s.comb.retire = r :: rest ∧ (∀ x ∈ s.comb.retire, x.order = 0)) ∧
    (∃ s : State, s.comb.retire = []) ∧
    (∃ r, ∃ s : State, s.comb.retire.find? (fun r => r.order = 2) = some r ∧ unitIdle s r.pipe r.num ∧ spareOf r.pipe r.num ≠
    r.num ∧ rd s (mapState r.pipe) (spareOf r.pipe r.num) = 1) ∧
    (∃ r, ∃ s : State, s.comb.retire.find? (fun r => r.order = 2) = some r ∧ unitIdle s r.pipe r.num ∧ (spareOf r.pipe r.num =
    r.num ∨ rd s (mapState r.pipe) (spareOf r.pipe r.num) ≠ 1)) :=
  ⟨⟨.host, 0, 1, State.reset, by dsimp only [UnitWritable]; decide +kernel⟩,
    ⟨.host, 0, 1, State.reset, by decide +kernel⟩,
    ⟨0, by decide +kernel⟩,
    ⟨{ pipe := false, num := 0, reason := .operator }, [],
    { S0 with comb := { S0.comb with retire := [({ pipe := false, num := 0, reason := .operator })] } }, by decide +kernel⟩,
    ⟨State.reset, by decide +kernel⟩,
    ⟨{ pipe := false, num := 0, reason := .operator, order := 2 },
    { S0 with comb := { S0.comb with retire := [({ pipe := false, num := 0, reason := .operator, order := 2 })] } },
    by decide +kernel, fun _ _ => rfl, by decide +kernel⟩,
    ⟨{ pipe := false, num := 0, reason := .operator, order := 2 }, wr
    { S0 with comb := { S0.comb with retire := [({ pipe := false, num := 0, reason := .operator, order := 2 })] } }
    R.CELL_MAP_STATE 3 (cellSpare 0) 0, by decide +kernel, fun _ _ => rfl, by decide +kernel⟩⟩

/-- Inputs that meet the premises of each clause of `Obligations.PartitionRegisters`. -/
theorem witness_PartitionRegisters :
    (∃ q, ∃ v, ∃ s : State, pageServed s 2 q = true ∧ q % 17 ≠ 8 ∧ legalValue R.QUAD_PART_PARTITION v = true ∧ (∀ p, p = rd s
    R.QUAD_PART_PARTITION q ∨ p = v → p < 64 → partRunning s p = false)) ∧
    (∃ q, ∃ v, ∃ s : State, pageServed s 2 q = true ∧ q % 17 ≠ 8 ∧ legalValue R.QUAD_PART_PARTITION v = true ∧ (∃ p, (p = rd s
    R.QUAD_PART_PARTITION q ∨ p = v) ∧ p < 64 ∧ partRunning s p = true)) ∧
    (∃ m, ∃ v, ∃ s : State, pageServed s 3 m = true ∧ legalValue R.MEMC_PART_PARTITION v = true ∧ (∀ p, p = rd s
    R.MEMC_PART_PARTITION m ∨ p = v → p < 64 → partRunning s p = false)) ∧
    (∃ d, ∃ v, ∃ s : State, pageServed s 5 d = true ∧ legalValue R.SEAM_LANE v = true ∧ (∀ p, p = rd s R.SEAM_LANE d (rd s
    R.SEAM_LANE_SEL d) ∨ p = v → p < 64 → partRunning s p = false)) ∧
    (∃ v, ∃ s : State, pageServed s 6 4 = true ∧ v < 2 ^ 64 ∧ (∀ p < 64, rd s R.DIE_FASTLANE 4 / 2 ^ p % 2 ≠ v / 2 ^ p % 2 →
    partRunning s p = false)) ∧
    (∃ v, ∃ s : State, ∃ p, pageServed s 6 4 = true ∧ p < 64 ∧ rd s R.DIE_FASTLANE 4 / 2 ^ p % 2 ≠ v / 2 ^ p % 2 ∧ partRunning
    s p = true) :=
  ⟨⟨0, 63, State.reset, by decide +kernel, by decide +kernel, by decide +kernel, fun _ _ _ => rfl⟩,
    ⟨0, 63, setPart S0 63 { running := some run1 }, by decide +kernel, by decide +kernel, by decide +kernel, ⟨63,
    by decide +kernel⟩⟩,
    ⟨31, 127, State.reset, by decide +kernel, by decide +kernel, fun _ _ _ => rfl⟩,
    ⟨3, 63, State.reset, by decide +kernel, by decide +kernel, fun _ _ _ => rfl⟩,
    ⟨2 ^ 64 - 1, State.reset, by decide +kernel, by decide +kernel, fun _ _ _ => rfl⟩,
    ⟨2 ^ 63, setPart S0 63 { running := some run1 }, 63, by decide +kernel⟩⟩

/-- Inputs that meet the premises of each clause of `Obligations.PlansAndLaunches`. -/
theorem witness_PlansAndLaunches :
    (∃ q, ∃ image, ∃ r, ∃ s : State, running s q 5 = some r ∧ let n := arg r 16 1 % 64; let t := arg r 17 1;
    let len := arg r 20 4; let dev := arg r 18 1 % 2 = 1;
    let b := if dev then memBytes s (arg r 24 8) len else (image ++ List.replicate len 0).take len; tenantOk r true t = true ∧
    len % 64 = 0 ∧ 512 ≤ len ∧ len ≤ 0xFFFFFFC0 ∧ (dev → accessFail s t (arg r 24 8) len = none ∧ rangePoison s (arg r 24 8)
    len = false) ∧ (¬dev → tenSeals s t = false) ∧ imgLen b = len ∧ (slot s n).st = .empty ∧ slotKeyOther s n t = false) ∧
    (∃ q, ∃ r, ∃ s : State, running s q 5 = some r ∧ tenantOk r true (arg r 17 1) = false) ∧
    (∃ n, ∃ q, ∃ s : State, (slot s n).st = .loading ∧ (slot s n).unloads = [] ∧ (slot s n).loadBy = some q ∧ (slot s
    n).verdict = none) ∧
    (∃ n, ∃ q, ∃ s : State, (slot s n).st = .loading ∧ (slot s n).unloads = [] ∧ (slot s n).loadBy = some q ∧ ∃ e, (slot s
    n).verdict = some e) ∧
    (∃ q, ∃ r, ∃ s : State, running s q 6 = some r ∧ let n := arg r 16 1 % 64; let t := arg r 17 1;
    let k := wr (wr s R.SEC_WKEY_HELD 0 0 n) R.SEC_WKEY_TENANT 0 0 n; tenantOk r true t = true ∧ (slot s n).st = .empty ∧
    slotKeyOther s n t = false) ∧
    (∃ q, ∃ r, ∃ s : State, running s q 6 = some r ∧ let n := arg r 16 1 % 64; let t := arg r 17 1;
    let k := wr (wr s R.SEC_WKEY_HELD 0 0 n) R.SEC_WKEY_TENANT 0 0 n; tenantOk r true t = true ∧ (slot s n).st = .loading ∧
    (slot s n).tenant = t) ∧
    (∃ q, ∃ r, ∃ s : State, running s q 6 = some r ∧ let n := arg r 16 1 % 64; let t := arg r 17 1;
    let k := wr (wr s R.SEC_WKEY_HELD 0 0 n) R.SEC_WKEY_TENANT 0 0 n; tenantOk r true t = true ∧ (slot s n).st = .ready ∧
    (slot s n).tenant = t) ∧
    (∃ q, ∃ r, ∃ s : State, running s q 6 = some r ∧ let n := arg r 16 1 % 64; let t := arg r 17 1;
    let k := wr (wr s R.SEC_WKEY_HELD 0 0 n) R.SEC_WKEY_TENANT 0 0 n; tenantOk r true t = true ∧ (slot s n).st = .draining ∧
    (slot s n).tenant = t) ∧
    (∃ q, ∃ r, ∃ s : State, running s q 6 = some r ∧ let n := arg r 16 1 % 64; let t := arg r 17 1;
    let k := wr (wr s R.SEC_WKEY_HELD 0 0 n) R.SEC_WKEY_TENANT 0 0 n; tenantOk r true t = true ∧ (slot s n).st ≠ .empty ∧
    (slot s n).tenant ≠ t) ∧
    (∃ q, ∃ r, ∃ s : State, running s q 7 = some r ∧ let a := arg r 16 8; let d := descOf (memBytes s a 64); a % 64 = 0 ∧
    tenantOk r false d.tenant = true ∧ accessFail s r.tenant a 64 = none ∧ rangePoison s a 64 = false ∧ ¬(twinRole s = 2 ∧
    mirrored s d.partition = true)) :=
  ⟨⟨0, bytesOf 512 [(8, 4, 512)], cmdOf 0 0 [(0, 1, 5), (20, 4, 512)], withRun S0 0 (cmdOf 0 0 [(0, 1, 5), (20, 4, 512)]),
    by (try dsimp only) <;> decide +kernel⟩,
    ⟨0, cmdOf 1 2 [(0, 1, 5), (17, 1, 1)], withRun S0 0 (cmdOf 1 2 [(0, 1, 5), (17, 1, 1)]), by decide +kernel⟩,
    ⟨0, 0, setSlot S0 0 { st := .loading, loadBy := some 0 }, by decide +kernel⟩,
    ⟨0, 0, setSlot S0 0 { st := .loading, loadBy := some 0, verdict := some .planFault }, by decide +kernel,
    by decide +kernel, by decide +kernel, .planFault, by decide +kernel⟩,
    ⟨0, cmdOf 0 0 [(0, 1, 6), (16, 1, 63)], withRun S0 0 (cmdOf 0 0 [(0, 1, 6), (16, 1, 63)]),
    by (try dsimp only) <;> decide +kernel⟩,
    ⟨0, cmdOf 0 0 [(0, 1, 6), (16, 1, 63)], setSlot (withRun S0 0 (cmdOf 0 0 [(0, 1, 6), (16, 1, 63)])) 63 { st := .loading },
    by (try dsimp only) <;> decide +kernel⟩,
    ⟨0, cmdOf 0 0 [(0, 1, 6), (16, 1, 63)], setSlot (withRun S0 0 (cmdOf 0 0 [(0, 1, 6), (16, 1, 63)])) 63 { st := .ready },
    by (try dsimp only) <;> decide +kernel⟩,
    ⟨0, cmdOf 0 0 [(0, 1, 6), (16, 1, 63)], setSlot (withRun S0 0 (cmdOf 0 0 [(0, 1, 6), (16, 1, 63)])) 63
    { st := .draining }, by (try dsimp only) <;> decide +kernel⟩,
    ⟨0, cmdOf 0 0 [(0, 1, 6), (16, 1, 63)], setSlot (withRun S0 0 (cmdOf 0 0 [(0, 1, 6), (16, 1, 63)])) 63
    { st := .ready, tenant := 1 }, by (try dsimp only) <;> decide +kernel⟩,
    ⟨0, cmdOf 0 0 [(0, 1, 7)], withRun (owns0 S0) 0 (cmdOf 0 0 [(0, 1, 7)]), by (try dsimp only) <;> decide +kernel⟩⟩

/-- Inputs that meet the premises of each clause of `Obligations.LaunchLife`. -/
theorem witness_LaunchLife :
    (∃ p, ∃ q, ∃ rest, ∃ s : State, (part s p).running = none ∧ (part s p).queue = q :: rest ∧ launchHeld s p = false ∧ (∀ d ∈
    partDomains s p ++ (imgMemcs (slot s q.desc.slot).image).map (· + 340), dom s d = 0) ∧ twinRole s = 0 ∧ q.src ≠ .mirror ∧
    startCheck s p q.desc q.src = none ∧ rd s R.PWR_BALLAST_BALLAST_EN = 0) ∧
    (∃ p, ∃ q, ∃ rest, ∃ s : State, ∃ e, (part s p).running = none ∧ (part s p).queue = q :: rest ∧ launchHeld s p = false ∧
    (∀ d ∈ partDomains s p ++ (imgMemcs (slot s q.desc.slot).image).map (· + 340), dom s d = 0) ∧ twinRole s = 0 ∧ startCheck
    s p q.desc q.src = some e) ∧
    (∃ p, ∃ s : State, (part s p).queue = []) ∧
    (∃ p, ∃ r, ∃ s : State, (part s p).running = some r ∧ r.begun = false ∧ r.stopped = none) ∧
    (∃ p, ∃ r, ∃ s : State, (part s p).running = some r ∧ (r.ended = true ∨ r.stopped ≠ none) ∧ r.memBegun.all
    r.memDone.contains = true ∧ launchRetries s p = false ∧ twinRole s = 0 ∧ s.twin.test = none) ∧
    (∃ p, ∃ r, ∃ w, ∃ s : State, (part s p).running = some r ∧ r.ended = true ∧ r.stopped = none ∧ r.memBegun.all
    r.memDone.contains = true ∧ launchRetries s p = false ∧ twinRole s = 0 ∧ s.twin.test = none ∧ r.src = .serving w ∧ r.rows
    = [] ∧ (slot s r.desc.slot).st ≠ .draining ∧ r.desc.recordAddr % 64 = 0) :=
  ⟨⟨0, { desc := desc1, src := .direct 0 0 }, [], setPart ready1 0 { queue := [({ desc := desc1, src := .direct 0 0 })] },
    by decide +kernel⟩,
    ⟨0, { desc := { desc1 with recordAddr := 1 }, src := .direct 0 0 }, [], setPart ready1 0
    { queue := [({ desc := { desc1 with recordAddr := 1 }, src := .direct 0 0 })] }, (.lengthRange, false), by decide +kernel⟩,
    ⟨0, State.reset, by decide +kernel⟩,
    ⟨0, { run1 with begun := false }, setPart S0 0 { running := some ({ run1 with begun := false }) }, by decide +kernel⟩,
    ⟨0, { run1 with ended := true }, setPart S0 0 { running := some ({ run1 with ended := true }) }, by decide +kernel⟩,
    ⟨0, { run1 with ended := true, src := .serving 0 }, 0, setPart S0 0
    { running := some ({ run1 with ended := true, src := .serving 0 }) }, by decide +kernel⟩⟩

/-- Inputs that meet the premises of each clause of `Obligations.SequenceOperations`. -/
theorem witness_SequenceOperations :
    (∃ q, ∃ r, ∃ s : State, ∃ u, seqCmd s q 0 = some r ∧ seqCheck s r 0 = none ∧ openSeq s (arg r 18 2) (arg r 16 1) (arg r 20
    1 % 64) (arg r 24 4) (2 ^ 64 - 1) true = .ok u) ∧
    (∃ q, ∃ r, ∃ s : State, ∃ u, seqCmd s q 0 = some r ∧ seqCheck s r 0 = none ∧ openSeq s (arg r 18 2) (arg r 16 1) (arg r 20
    1 % 64) (arg r 24 4) (2 ^ 64 - 1) true = .ok u ∧ ∃ j, j ≠ arg r 18 2) ∧
    (∃ q, ∃ r, ∃ s : State, ∃ e, seqCmd s q 0 = some r ∧ seqCheck s r 0 = some e) ∧
    (∃ q, ∃ r, ∃ s : State, ∃ u, let k := arg r 18 2; let x := seqOf s k; x.held = false ∧ x.ops = [] ∧ seqCmd s q 1 = some r
    ∧ seqCheck s r 1 = none ∧ grow s k (arg r 24 4) = .done u) ∧
    (∃ q, ∃ r, ∃ s : State, let k := arg r 18 2; let x := seqOf s k; x.held = false ∧ x.ops = [] ∧ ∃ n, seqCmd s q 1 = some r
    ∧ seqCheck s r 1 = none ∧ grow s k (arg r 24 4) = .lacks n) ∧
    (∃ q, ∃ r, ∃ s : State, ∃ u, let k := arg r 18 2; let x := seqOf s k; x.held = false ∧ x.ops = [] ∧ seqCmd s q 2 = some r
    ∧ seqCheck s r 2 = none ∧ commitSeq s k (arg r 24 4) = some u) ∧
    (∃ q, ∃ r, ∃ s : State, let k := arg r 18 2; let x := seqOf s k; x.held = false ∧ x.ops = [] ∧ seqCmd s q 2 = some r ∧
    seqCheck s r 2 = none ∧ commitSeq s k (arg r 24 4) = none) ∧
    (∃ q, ∃ r, ∃ s : State, ∃ u, let k := arg r 18 2; let x := seqOf s k; x.held = false ∧ x.ops = [] ∧ seqCmd s q 3 = some r
    ∧ seqCheck s r 3 = none ∧ rollbackSeq s k (arg r 24 4) = some u) ∧
    (∃ q, ∃ r, ∃ s : State, let k := arg r 18 2; let x := seqOf s k; x.held = false ∧ x.ops = [] ∧ seqCmd s q 4 = some r ∧
    seqCheck s r 4 = none ∧ x.pins = 0) ∧
    (∃ q, ∃ r, ∃ s : State, let x := seqOf s (arg r 18 2); x.held = true ∧ seqCmd s q 1 = some r ∧ seqCheck s r 1 = none) ∧
    (∃ k, ∃ q, ∃ rest, ∃ r, ∃ s : State, (seqOf s k).ops = q :: rest ∧ (queue s q).run = some r ∧ (seqOf s k).held = false ∧
    (arg r 17 1 % 8 = 4 → (seqOf s k).pins = 0)) ∧
    (∃ k, ∃ s : State, (seqOf s k).ops = []) ∧
    (∃ s : State, ∃ k, ∃ n, ∃ u, commitSeq s k n = some u) ∧
    (∃ s : State, ∃ k, ∃ n, ∃ u, commitSeq s k n = some u ∧ ∃ j, j ≠ k) ∧
    (∃ s : State, ∃ k, ∃ n, ∃ u, commitSeq s k n = some u ∧ ∃ b, (b < rd s R.KVPG_SEQ_BASE + 64 * k ∨ rd s R.KVPG_SEQ_BASE +
    64 * k + 64 ≤ b)) ∧
    (∃ s : State, ∃ k, ∃ p, ∃ u, rollbackSeq s k p = some u) ∧
    (∃ s : State, ∃ k, ∃ p, ∃ u, rollbackSeq s k p = some u ∧ ∃ j, j ≠ k) ∧
    (∃ s : State, ∃ k, ∃ p, ∃ u, rollbackSeq s k p = some u ∧ ∃ b, (b < rd s R.KVPG_SEQ_BASE + 64 * k ∨ rd s R.KVPG_SEQ_BASE +
    64 * k + 64 ≤ b)) :=
  ⟨let s := withRun (setSlot pool1 0 { st := .ready }) 0 (seqRun 0 1);
    let ⟨u, h⟩ := ok_of (openSeq s 0 0 0 1 (2 ^ 64 - 1) true) (by decide +kernel); ⟨0, seqRun 0 1, s, u, by decide +kernel,
    by decide +kernel, h⟩,
    let s := withRun (setSlot pool1 0 { st := .ready }) 0 (seqRun 0 1);
    let ⟨u, h⟩ := ok_of (openSeq s 0 0 0 1 (2 ^ 64 - 1) true) (by decide +kernel); ⟨0, seqRun 0 1, s, u, by decide +kernel,
    by decide +kernel, h, 1, by decide⟩,
    ⟨0, seqRun 0 0, withRun S0 0 (seqRun 0 0), .lengthRange, by decide +kernel⟩,
    ⟨0, seqRun 1 1, withRun (seqS seq1) 0 (seqRun 1 1), (withRun (seqS seq1) 0 (seqRun 1 1)), by decide +kernel,
    by decide +kernel, by decide +kernel, by decide +kernel, by rfl⟩,
    ⟨0, seqRun 1 200, withRun (seqS { seq1 with layers := 1, tppLog2 := 0 }) 0 (seqRun 1 200), by decide +kernel,
    by decide +kernel, 203, by (try dsimp only) <;> decide +kernel⟩,
    ⟨0, seqRun 2 5, withRun (seqS seq1) 0 (seqRun 2 5), setSeq (withRun (seqS seq1) 0 (seqRun 2 5)) 0
    { seqOf (withRun (seqS seq1) 0 (seqRun 2 5)) 0 with writePos := 9 }, by (try dsimp only) <;> decide +kernel⟩,
    ⟨0, seqRun 2 50, withRun (seqS { seq1 with layers := 1 }) 0 (seqRun 2 50), by (try dsimp only) <;> decide +kernel⟩,
    ⟨0, seqRun 3 4, withRun (seqS seq1) 0 (seqRun 3 4), setSeq (withRun (seqS seq1) 0 (seqRun 3 4)) 0
    { seqOf (withRun (seqS seq1) 0 (seqRun 3 4)) 0 with writePos := 4 }, by (try dsimp only) <;> decide +kernel⟩,
    ⟨0, seqRun 4 0, withRun (seqS seq1) 0 (seqRun 4 0), by (try dsimp only) <;> decide +kernel⟩,
    ⟨0, seqRun 1 1, withRun (seqS { seq1 with held := true }) 0 (seqRun 1 1), by (try dsimp only) <;> decide +kernel⟩,
    ⟨0, 0, [], seqRun 1 1, withRun (seqS { seq1 with ops := [0] }) 0 (seqRun 1 1), by decide +kernel⟩,
    ⟨0, State.reset, by decide +kernel⟩,
    ⟨seqS seq1, 0, 1, setSeq (seqS seq1) 0 { seqOf (seqS seq1) 0 with writePos := 5 }, by decide +kernel⟩,
    ⟨seqS seq1, 0, 1, setSeq (seqS seq1) 0 { seqOf (seqS seq1) 0 with writePos := 5 }, by decide +kernel, 1,
    by decide +kernel⟩,
    ⟨seqS seq1, 0, 1, setSeq (seqS seq1) 0 { seqOf (seqS seq1) 0 with writePos := 5 }, by decide +kernel, 64,
    by decide +kernel⟩,
    ⟨seqS seq1, 0, 0, setSeq (seqS seq1) 0 { seqOf (seqS seq1) 0 with writePos := 0 }, by decide +kernel⟩,
    ⟨seqS seq1, 0, 0, setSeq (seqS seq1) 0 { seqOf (seqS seq1) 0 with writePos := 0 }, by decide +kernel, 1,
    by decide +kernel⟩,
    ⟨seqS seq1, 0, 0, setSeq (seqS seq1) 0 { seqOf (seqS seq1) 0 with writePos := 0 }, by decide +kernel, 64,
    by decide +kernel⟩⟩

/-- Inputs that meet the premises of each clause of `Obligations.PoolAndParking`. -/
theorem witness_PoolAndParking :
    (∃ k, ∃ s : State, ∃ u, parkHeads (parkQueue s) [] = [k] ∧ grow s k (seqOf s k).growN = .done u) ∧
    (∃ s : State, parkQueue s = []) ∧
    (∃ k, ∃ s : State, (seqOf s k).st = 2 ∧ (seqOf s k).deadline + 1 < 2 ^ 64 ∧ (seqOf s k).pins = 0 ∧ (seqOf s k).held =
    false ∧ (parkHeads (parkQueue s) []).contains k = false ∧ (openReqs s).find? (fun e => e.2.seq = k || (e.2.spec &&
    e.2.draftSeq = k)) = none) ∧
    (∃ dst, ∃ c, ∃ s : State, s.kv.copies.find? (fun c => c.dst = dst) = some c ∧ (seqOf s dst).st = 1 ∧ c.src ≠ dst ∧ (seqOf
    s c.src).closeOwed = false) ∧
    (∃ f, ∃ x, ∃ s : State, frameOf s f = some x ∧ x.scrub = true ∧ x.handed = false ∧ (seqOf s x.seq).st ≠ 3) ∧
    (∃ f, ∃ x, ∃ s : State, frameOf s f = some x ∧ x.scrub = false) ∧
    (∃ w : Writer, ∃ v, ∃ s : State, Writable s w 11 0 ∧ allFree s = true ∧ 1 ≤ v ∧ v ≤ 2 ^ 26 ∧ rd s R.KVPG_POOL_BASE % 16384
    = 0 ∧ resvSum s ≤ v ∧ (extentsOf (rd s R.KVPG_POOL_BASE) (16384 * v)).all (extentPresent s) = true) ∧
    (∃ w : Writer, ∃ v, ∃ s : State, Writable s w 11 0 ∧ allFree s = true ∧ v < 2 ^ 64 ∧ v % 16384 = 0 ∧ resvSum s ≤ rd s
    R.KVPG_POOL_PAGES ∧ (extentsOf v (16384 * rd s R.KVPG_POOL_PAGES)).all (extentPresent s) = true) ∧
    (∃ w : Writer, ∃ s : State, Writable s w 11 0 ∧ allFree s = false) ∧
    (∃ w : Writer, ∃ v, ∃ s : State, Writable s w 11 0 ∧ allFree s = true ∧ v < 2 ^ 64 ∧ v % 2 ^ 22 = 0) ∧
    (∃ w : Writer, ∃ v, ∃ s : State, Writable s w 11 0 ∧ v < 2 ^ 27 ∧ resvSum s - rd s R.KVPG_TEN_RESV 0 (rd s R.KVPG_TEN_SEL)
    + v ≤ rd s R.KVPG_POOL_PAGES ∧ heldPages s (rd s R.KVPG_TEN_SEL) false ≤ v) :=
  ⟨⟨0, seqS { seq1 with st := 2 }, (seqS { seq1 with st := 2 }), by decide +kernel, by rfl⟩,
    ⟨State.reset, by decide +kernel⟩,
    ⟨1,
    { S0 with kv := { S0.kv with seqs := [(0, { seq1 with st := 2, deadline := 5 }), (1, { seq1 with st := 2, deadline := 5, parkNo := 1 })] } },
    by decide +kernel⟩,
    ⟨0, { src := 1, dst := 0, h := 0 },
    { seqS seq1 with kv := { (seqS seq1).kv with copies := [({ src := 1, dst := 0, h := 0 })] } }, by decide +kernel⟩,
    ⟨0, { tenant := 0, seq := 0, shared := true, scrub := true },
    { S0 with kv := { S0.kv with frames := [(0, some ({ tenant := 0, seq := 0, shared := true, scrub := true }))] } },
    by decide +kernel⟩,
    ⟨0, { tenant := 0, seq := 0, shared := true },
    { S0 with kv := { S0.kv with frames := [(0, some ({ tenant := 0, seq := 0, shared := true }))] } }, by decide +kernel⟩,
    ⟨.host, 2 ^ 20, State.reset, by dsimp only [Writable]; decide +kernel⟩,
    ⟨.host, 2 ^ 39, State.reset, by dsimp only [Writable]; decide +kernel⟩,
    ⟨.host, seqS seq1, by dsimp only [Writable]; decide +kernel⟩,
    ⟨.host, 2 ^ 64 - 2 ^ 22, State.reset, by dsimp only [Writable]; decide +kernel⟩,
    ⟨.host, 16, pool1, by dsimp only [Writable]; decide +kernel⟩⟩

/-- Inputs that meet the premises of each clause of `Obligations.Admission`. -/
theorem witness_Admission :
    (∃ q, ∃ desc, ∃ prompt, ∃ r, ∃ s : State, running s q 3 = some r ∧ admissionsStopped s = false ∧ arg r 16 8 % 64 = 0 ∧
    tenSeals s (fnTenant s r.fn) = false ∧ let plen := fieldAt desc 8 4;
    let x := reqOf q r.fn desc ((prompt ++ List.replicate plen 0).take plen); tenantOk r false x.tenant = true ∧ twinRole s =
    0 ∧ ∃ st, admitEarly s x plen = some st) ∧
    (∃ q, ∃ desc, ∃ prompt, ∃ r, ∃ s : State, running s q 3 = some r ∧ admissionsStopped s = false ∧ arg r 16 8 % 64 = 0 ∧
    tenSeals s (fnTenant s r.fn) = false ∧ let plen := fieldAt desc 8 4;
    let x := reqOf q r.fn desc ((prompt ++ List.replicate plen 0).take plen); tenantOk r false x.tenant = true ∧ twinRole s =
    0 ∧ admitEarly s x plen = none ∧ partAwake s (servPart s x.slot) = true ∧ slotPaired s x.slot = false) ∧
    (∃ q, ∃ r, ∃ s : State, running s q 3 = some r ∧ admissionsStopped s = true) ∧
    (∃ i, ∃ x, ∃ s : State, req s i = some x ∧ x.st = .waking ∧ slotPaired s x.slot = false ∧ partAwake s (servPart s x.slot)
    = true) ∧
    (∃ i, ∃ x, ∃ s : State, req s i = some x ∧ x.st = .waking ∧ slotPaired s x.slot = false ∧ partAwake s (servPart s x.slot)
    = false) ∧
    (∃ s : State, ∃ x, ∃ u, admitDeadline s x = true ∧ openContexts s x = .ok u) ∧
    (∃ s : State, ∃ x, admitDeadline s x = false) ∧
    (∃ q, ∃ r, ∃ s : State, running s q 4 = some r ∧ tenantOk r true (arg r 16 1) = true ∧ let t := arg r 16 1;
    let k := arg r 18 2; let found := (openReqs s).find? (fun e => e.2.seq = k); ∃ i, ∃ x, found = some (i, x) ∧ x.tenant = t
    ∧ x.tag = arg r 20 2 ∧ x.inWork = none) ∧
    (∃ q, ∃ r, ∃ s : State, running s q 4 = some r ∧ tenantOk r true (arg r 16 1) = true ∧ let t := arg r 16 1;
    let k := arg r 18 2; let found := (openReqs s).find? (fun e => e.2.seq = k); ∃ i, ∃ x, ∃ w, found = some (i, x) ∧ x.tenant
    = t ∧ x.tag = arg r 20 2 ∧ x.inWork = some w) ∧
    (∃ q, ∃ r, ∃ s : State, running s q 4 = some r ∧ tenantOk r true (arg r 16 1) = true ∧ let t := arg r 16 1;
    let k := arg r 18 2; let found := (openReqs s).find? (fun e => e.2.seq = k); found = none ∧ (seqOf s k).st = 0 ∧ tget none
    s.serv.tags k = some (t, arg r 20 2)) ∧
    (∃ q, ∃ r, ∃ s : State, running s q 4 = some r ∧ tenantOk r true (arg r 16 1) = true ∧ let t := arg r 16 1;
    let k := arg r 18 2; let found := (openReqs s).find? (fun e => e.2.seq = k); found = none ∧ (seqOf s k).st = 0 ∧ tget none
    s.serv.tags k = none) :=
  ⟨⟨0, [], [], cmdOf 0 0 [(0, 1, 3)], withRun S0 0 (cmdOf 0 0 [(0, 1, 3)]), by decide +kernel, by decide +kernel,
    by decide +kernel, by decide +kernel, by decide +kernel, by decide +kernel, .lengthRange,
    by (try dsimp only) <;> decide +kernel⟩,
    ⟨0, bytesOf 64 [(8, 4, 1), (12, 2, 1), (48, 4, 1)], [], cmdOf 0 0 [(0, 1, 3)], withRun serv1 0 (cmdOf 0 0 [(0, 1, 3)]),
    by (try dsimp only) <;> decide +kernel⟩,
    ⟨0, cmdOf 0 0 [(0, 1, 3)], wr (withRun S0 0 (cmdOf 0 0 [(0, 1, 3)])) R.PWR_STAT_DUSK 1, by decide +kernel⟩,
    ⟨0, { req1 with st := .waking }, setReq S0 0 (some ({ req1 with st := .waking })), by decide +kernel⟩,
    ⟨0, { req1 with st := .waking },
    { regs (setReq S0 0 (some ({ req1 with st := .waking }))) [(R.QUAD_PART_PARTITION, 0, quadHome 0, 0)] with pwr := { S0.pwr with dom := [(0, 2)] } },
    by decide +kernel⟩,
    let s := setSlot pool1 0 { st := .ready }; let ⟨u, h⟩ := ok_of (openContexts s req1) (by decide +kernel); ⟨s, req1, u,
    by decide +kernel, h⟩,
    ⟨State.reset, { req1 with deadline := 0 }, by decide +kernel⟩,
    ⟨0, cmdOf 0 0 [(0, 1, 4)], setReq (withRun S0 0 (cmdOf 0 0 [(0, 1, 4)])) 0 (some (req1)), by decide +kernel,
    by decide +kernel, 0, req1, by (try dsimp only) <;> decide +kernel⟩,
    ⟨0, cmdOf 0 0 [(0, 1, 4)], setReq (withRun S0 0 (cmdOf 0 0 [(0, 1, 4)])) 0 (some ({ req1 with inWork := some 0 })),
    by decide +kernel, by decide +kernel, 0, { req1 with inWork := some 0 }, 0, by (try dsimp only) <;> decide +kernel⟩,
    ⟨0, cmdOf 0 0 [(0, 1, 4)],
    { withRun S0 0 (cmdOf 0 0 [(0, 1, 4)]) with serv := { S0.serv with tags := [(0, some (0, 0))] } },
    by (try dsimp only) <;> decide +kernel⟩,
    ⟨0, cmdOf 0 0 [(0, 1, 4)], withRun S0 0 (cmdOf 0 0 [(0, 1, 4)]), by (try dsimp only) <;> decide +kernel⟩⟩

/-- Inputs that meet the premises of each clause of `Obligations.SequencerWork`. -/
theorem witness_SequencerWork :
    (∃ v, ∃ s : State, pageServed s 10 0 = true ∧ let n := rd s R.SERV_SLOT_SEL; slotEnabled s n = false ∧ v % 2 = 1 ∧ bitsOf
    v 1 1 = 0 ∧ enableOk s n (bitsOf v 16 6) false (bitsOf v 8 4) (bitsOf v 24 6) = true) ∧
    (∃ v, ∃ s : State, pageServed s 10 0 = true ∧ let n := rd s R.SERV_SLOT_SEL; slotEnabled s n = false ∧ v % 2 = 1 ∧ bitsOf
    v 1 1 = 0 ∧ enableOk s n (bitsOf v 16 6) false (bitsOf v 8 4) (bitsOf v 24 6) = false) ∧
    (∃ v, ∃ s : State, pageServed s 10 0 = true ∧ let n := rd s R.SERV_SLOT_SEL; slotEnabled s n = true ∧ v % 2 = 0 ∧ bitsOf v
    1 1 = rd s R.SERV_SLOT_CFG_SPEC_EN 0 n ∧ bitsOf v 8 4 = specLen s n ∧ bitsOf v 16 6 = servPart s n ∧ bitsOf v 24 6 =
    draftSlotOf s n) ∧
    (∃ n, ∃ c, ∃ s : State, s.serv.dirty = [] ∧ (servSlot s n).flight = none ∧ (servSlot s n).reload = none ∧ slotFaulted s n
    = false ∧ (slot s n).st = .ready ∧ rd s R.SERV_CTL_ENABLE ≠ 0 ∧ admissionsStopped s = false ∧ launchStopped s (servPart s
    n) = false ∧ slotPaired s n = false ∧ nextPlace s n 80 (servSlot s n).cycle = some c) ∧
    (∃ n, ∃ w, ∃ s : State, s.serv.dirty = [] ∧ (servSlot s n).flight = some w) ∧
    (∃ wn, ∃ w : Work, ∃ s : State, work s wn = some w ∧ w.done = true ∧ w.refused = none ∧ w.stopped = none) ∧
    (∃ wn, ∃ w : Work, ∃ s : State, work s wn = some w ∧ w.done = false) ∧
    (∃ i, ∃ x, ∃ s : State, req s i = some x ∧ x.lookup = true ∧ x.looked = false ∧ x.st = .prefill ∧ rd s
    (R.SERV_CLASS_PFX_EN x.cls) ≠ 0 ∧ (seqOf s x.seq).st = 1 ∧ rd s R.PFX_TEN_NODES 0 x.tenant = 0) ∧
    (∃ w : Writer, ∃ v, ∃ s : State, Writable s w 10 0 ∧ v < 2 ^ 31) ∧
    (∃ w : Writer, ∃ v, ∃ s : State, Writable s w 12 0 ∧ (openReqs s).any (fun e => e.2.tenant = rd s R.PFX_TEN_SEL) = false ∧
    v < 2 ^ 24) ∧
    (∃ w : Writer, ∃ v, ∃ s : State, Writable s w 12 0 ∧ (openReqs s).any (fun e => e.2.tenant = rd s R.PFX_TEN_SEL) = false ∧
    v < 2 ^ 64 ∧ v % 64 = 0) ∧
    (∃ w : Writer, ∃ s : State, Writable s w 12 0 ∧ (openReqs s).any (fun e => e.2.tenant = rd s R.PFX_TEN_SEL) = true) :=
  ⟨⟨1, setSlot S0 0 { st := .ready, image := imgOf [(48, 8, 2 ^ 20)] [] }, by (try dsimp only) <;> decide +kernel⟩,
    ⟨1, State.reset, by (try dsimp only) <;> decide +kernel⟩,
    ⟨0, serv1, by (try dsimp only) <;> decide +kernel⟩,
    ⟨0, 0, setReq (setSlot { serv1 with kv := { S0.kv with seqs := [(0, { st := 1 })] } } 0
    { st := .ready, image := imgOf [(14, 2, 1)] [(1, 0xFFFF, 0, variantRec 0 1 8 0 0 0)] }) 0 (some req1), by decide +kernel⟩,
    ⟨0, 1, setServSlot S0 0 { flight := some 1 }, by decide +kernel⟩,
    ⟨0, { work1 with done := true }, { S0 with serv := { S0.serv with works := [(0, some ({ work1 with done := true }))] } },
    by decide +kernel⟩,
    ⟨0, work1, { S0 with serv := { S0.serv with works := [(0, some (work1))] } }, by decide +kernel⟩,
    ⟨0, { req1 with lookup := true }, wr (setReq (seqS seq1) 0 (some ({ req1 with lookup := true }))) (R.SERV_CLASS_PFX_EN 0)
    1, by decide +kernel⟩,
    ⟨.host, 2 ^ 31 - 1, State.reset, by dsimp only [Writable]; decide +kernel⟩,
    ⟨.host, 2 ^ 24 - 1, State.reset, by dsimp only [Writable]; decide +kernel⟩,
    ⟨.host, 2 ^ 64 - 64, State.reset, by dsimp only [Writable]; decide +kernel⟩,
    ⟨.host, setReq S0 0 (some req1), by dsimp only [Writable]; decide +kernel⟩⟩

/-- Inputs that meet the premises of each clause of `Obligations.Extents`. -/
theorem witness_Extents :
    (∃ w : Writer, ∃ v, ∃ s : State, Writable s w 3 0 ∧ v < 2 ^ 32 ∧ (∀ p ∈ setList v, p.2 ∈ [1, 2, 4, 8, 16, 32]) ∧ rd s
    R.KVPG_POOL_PAGES = 0 ∧ (∀ e < extentCount s, rd s R.MEM_OWN_VALID 0 e ≠ 1 ∧ rd s R.MEM_OWN_SCRUBBING 0 e ≠ 1)) ∧
    (∃ w : Writer, ∃ s : State, ∃ e, Writable s w 3 0 ∧ e < extentCount s ∧ rd s R.MEM_OWN_VALID 0 e = 1) ∧
    (∃ w : Writer, ∃ v, ∃ s : State, Writable s w 3 0 ∧ let e := rd s R.MEM_OWN_SEL; rd s R.MEM_OWN_VALID 0 e = 0 ∧ rd s
    R.MEM_OWN_SCRUBBING 0 e = 0 ∧ extentPresent s e = true ∧ tenActive s v = true ∧ v < 256) ∧
    (∃ w : Writer, ∃ s : State, Writable s w 3 0 ∧ let e := rd s R.MEM_OWN_SEL; rd s R.MEM_OWN_VALID 0 e = 1) ∧
    (∃ w : Writer, ∃ s : State, Writable s w 3 0 ∧ let e := rd s R.MEM_OWN_SEL; rd s R.MEM_OWN_VALID 0 e = 1 ∧ rd s
    R.MEM_OWN_SCRUBBING 0 e = 0 ∧ extentUsed s e = false) ∧
    (∃ e, ∃ s : State, rd s R.MEM_OWN_SCRUBBING 0 e = 1 ∧ s.sec.handedExtents.contains e = false) ∧
    (∃ e, ∃ s : State, rd s R.MEM_OWN_SCRUBBING 0 e = 0) :=
  ⟨⟨.host, 0x01010101, State.reset, by dsimp only [Writable]; decide +kernel, by decide +kernel, by decide +kernel,
    by decide +kernel, fun e _ => ⟨by show (0 : Nat) ≠ 1; decide, by show (0 : Nat) ≠ 1; decide⟩⟩,
    ⟨.host, owns0 S0, 0, by dsimp only [Writable]; decide +kernel⟩,
    ⟨.host, 0, State.reset, by dsimp only [Writable]; decide +kernel⟩,
    ⟨.host, owns0 S0, by dsimp only [Writable]; decide +kernel⟩,
    ⟨.host, owns0 S0, by dsimp only [Writable]; decide +kernel⟩,
    ⟨0, wr S0 R.MEM_OWN_SCRUBBING 1, by decide +kernel⟩,
    ⟨0, State.reset, by decide +kernel⟩⟩

/-- Inputs that meet the premises of each clause of `Obligations.MemoryUpkeep`. -/
theorem witness_MemoryUpkeep :
    (∃ s : State, rd s R.BOOT_STAT_STAGE = 6 ∧ s.boot.cold = true) ∧
    (∃ a, ∃ who, ∃ r : ReRead, ∃ s : State, s.mem.rereads.find? (fun r => r.addr = a && r.who = who) = some r) ∧
    (∃ a, ∃ who, ∃ r : ReRead, ∃ s : State, s.mem.rereads.find? (fun r => r.addr = a && r.who = who) = some r ∧ rd s
    R.MEMC_ECC_CTL (memcOf s a) ≤ r.tries + 1) ∧
    (∃ a, ∃ who, ∃ r : ReRead, ∃ s : State, s.mem.rereads.find? (fun r => r.addr = a && r.who = who) = some r ∧ r.tries + 1 <
    rd s R.MEMC_ECC_CTL (memcOf s a)) ∧
    (∃ u, ∃ s : State, s.mem.awaiting.contains u = true) ∧
    (∃ m, ∃ c, ∃ s : State, c < 4 ∧ rd s R.MEMC_STAT_HELD m = 0) ∧
    (∃ m, ∃ c, ∃ s : State, c < 4 ∧ rd s R.MEMC_STAT_HELD m ≠ 0 ∧ heldGap s m c < 360) ∧
    (∃ rate, rate < 8) ∧
    (∃ m, ∃ s : State, patrolLate s m = false) :=
  ⟨⟨{ wr S0 R.BOOT_STAT_STAGE 6 with boot := { S0.boot with cold := true } }, by decide +kernel⟩,
    ⟨0, .window 0, { addr := 0, who := .window 0, tries := 1, path := false }, reread1 S0 (.window 0) 1, by decide +kernel⟩,
    ⟨0, .window 0, { addr := 0, who := .window 0, tries := 1, path := false }, reread1 S0 (.window 0) 1, by decide +kernel⟩,
    ⟨0, .window 0, { addr := 0, who := .window 0, tries := 0, path := false }, reread1 S0 (.window 0) 0, by decide +kernel⟩,
    ⟨0, { S0 with mem := { S0.mem with awaiting := [0] } }, by decide +kernel⟩,
    ⟨0, 3, State.reset, by decide +kernel⟩,
    ⟨0, 3, wr S0 R.MEMC_STAT_HELD 1, by decide +kernel⟩,
    ⟨7, by decide +kernel⟩,
    ⟨0, State.reset, by decide +kernel⟩⟩

/-- Inputs that meet the premises of each clause of `Obligations.HostWindow`. -/
theorem witness_HostWindow :
    (∃ fn, ∃ off, ∃ data : List Byte, ∃ s : State, windowHit s fn off data.length = true ∧ windowServed s fn off data.length =
    true ∧ meets (windowAddr s fn off) data.length (rd s R.KVPG_SEQ_BASE) (2 ^ 22) = false ∧ waitsReRead s (.window fn) =
    false ∧ rangePoison s (windowAddr s fn off) data.length = false) ∧
    (∃ fn, ∃ off, ∃ data : List Byte, ∃ s : State, windowHit s fn off data.length = true ∧ (windowServed s fn off data.length
    = false ∨ meets (windowAddr s fn off) data.length (rd s R.KVPG_SEQ_BASE) (2 ^ 22) = true)) ∧
    (∃ fn, ∃ off, ∃ n, ∃ s : State, windowHit s fn off n = true ∧ windowServed s fn off n = true ∧ waitsReRead s (.window fn)
    = false) ∧
    (∃ fn, ∃ off, ∃ n, ∃ s : State, windowHit s fn off n = true ∧ windowServed s fn off n = false) ∧
    (∃ fn, ∃ off, ∃ data : List Byte, ∃ s : State, windowHit s fn off data.length = false) :=
  ⟨⟨0, 2 ^ 22, [1], owns0 queue1, by decide +kernel⟩,
    ⟨0, 0, [1], queue1, by decide +kernel⟩,
    ⟨0, 0, 1, owns0 queue1, by decide +kernel⟩,
    ⟨0, 0, 1, queue1, by decide +kernel⟩,
    ⟨0, 0, [], State.reset, by decide +kernel⟩⟩

/-- Inputs that meet the premises of each clause of `Obligations.HostLink`. -/
theorem witness_HostLink :
    (∃ s : State, rd s R.HOST_LINK_UP = 1) ∧
    (∃ s : State, rd s R.HOST_LINK_UP ≠ 1) ∧
    (∃ s : State, s.host.refclk = true) ∧
    (∃ s : State, s.host.refclk = false) ∧
    (∃ speed, ∃ width, ∃ s : State, s.host.refclk = true ∧ s.host.inReset = false ∧ 1 ≤ speed ∧ speed ≤ rd s
    R.HOST_LINK_CTL_MAX_SPEED ∧ speed < 16 ∧ width ∈ [1, 2, 4, 8, 16]) ∧
    (∃ speed, ∃ width, ∃ s : State, (s.host.refclk = false ∨ s.host.inReset = true ∨ speed = 0 ∨ rd s
    R.HOST_LINK_CTL_MAX_SPEED < speed ∨ width ∉ [1, 2, 4, 8, 16])) ∧
    (∃ v, ∃ s : State, pageServed s 7 0 = true ∧ 3 ≤ v % 16 ∧ v % 16 ≤ 6) ∧
    (∃ v, ∃ s : State, pageServed s 7 0 = true ∧ (v % 16 < 3 ∨ 6 < v % 16)) :=
  ⟨⟨queue1, by decide +kernel⟩,
    ⟨State.reset, by decide +kernel⟩,
    ⟨State.reset, by decide +kernel⟩,
    ⟨{ S0 with host := { S0.host with refclk := false } }, by decide +kernel⟩,
    ⟨6, 16, { S0 with host := { S0.host with inReset := false } }, by decide +kernel⟩,
    ⟨0, 0, State.reset, by decide +kernel⟩,
    ⟨6, State.reset, by decide +kernel⟩,
    ⟨7, State.reset, by decide +kernel⟩⟩

/-- Inputs that meet the premises of each clause of `Obligations.FunctionRegisters`. -/
theorem witness_FunctionRegisters :
    (∃ w : Writer, ∃ s : State, Writable s w 7 0 ∧ let f := rd s R.HOST_FN_SEL; f ≠ 0 ∧ fnQueues s f = []) ∧
    (∃ w : Writer, ∃ s : State, Writable s w 7 0 ∧ let f := rd s R.HOST_FN_SEL; f ≠ 0 ∧ fnQueues s f ≠ []) ∧
    (∃ s : State, rd s R.HOST_FN_SEL = 0) ∧
    (∃ w : Writer, ∃ v, ∃ s : State, Writable s w 7 0 ∧ let f := rd s R.HOST_FN_SEL; 1 ≤ v ∧ v ≤ 2048 ∧ msixSum s - rd s
    R.HOST_FN_MSIX 0 f + v ≤ 16384) ∧
    (∃ w : Writer, ∃ v, ∃ s : State, Writable s w 7 0 ∧ v < 2 ^ 10) ∧
    (∃ fn, ∃ size, fn < 64 ∧ 30 ≤ size ∧ size ≤ (if fn = 0 then 40 else 36)) :=
  ⟨⟨.host, wr S0 R.HOST_FN_SEL 63, by dsimp only [Writable]; decide +kernel⟩,
    ⟨.host, regs S0 [(R.HOST_FN_SEL, 1, 0, 0), (R.QMGR_DBP_MAP, 1, 0, 0), (R.Q_STAT_STATE, 1, 0, 0)],
    by dsimp only [Writable]; decide +kernel⟩,
    ⟨State.reset, by decide +kernel⟩,
    ⟨.host, 2048, State.reset, by dsimp only [Writable]; decide +kernel⟩,
    ⟨.host, 1023, State.reset, by dsimp only [Writable]; decide +kernel⟩,
    ⟨63, 36, by decide +kernel⟩⟩

/-- Inputs that meet the premises of each clause of `Obligations.BulkTransfers`. -/
theorem witness_BulkTransfers :
    (∃ q, ∃ r, ∃ s : State, running s q 1 = some r ∧
    let x : Xfer := { queue := some q, kind := 0, op := arg r 16 1 % 4, sealed := bitsOf (arg r 16 1) 2 1 = 1, tenant := arg r 17 1, sealQ := q, length := arg r 20 4, src := arg r 24 8, dst := arg r 32 8, tagAddr := arg r 40 8, ctr := arg r 48 8 };
    descCheck s x (tenantOk r false x.tenant) = none) ∧
    (∃ q, ∃ r, ∃ s : State, running s q 1 = some r ∧
    let x : Xfer := { queue := some q, kind := 0, op := arg r 16 1 % 4, sealed := bitsOf (arg r 16 1) 2 1 = 1, tenant := arg r 17 1, sealQ := q, length := arg r 20 4, src := arg r 24 8, dst := arg r 32 8, tagAddr := arg r 40 8, ctr := arg r 48 8 };
    ∃ st, descCheck s x (tenantOk r false x.tenant) = some st) ∧
    (∃ w : Writer, ∃ e, ∃ s : State, Writable s w 8 e ∧ 4 ≤ e ∧ programmedBusy s e = false ∧
    let d := (List.range 16).flatMap (fun j => leBytes 4 (rd s (R.DMA_DESC j) e));
    let x : Xfer := { queue := none, kind := 0, op := fieldAt d 0 1 % 4, sealed := bitsOf (fieldAt d 0 1) 2 1 = 1, tenant := fieldAt d 1 1, sealQ := fieldAt d 2 2, length := fieldAt d 4 4, src := fieldAt d 8 8, dst := fieldAt d 16 8, tagAddr := fieldAt d 24 8, ctr := fieldAt d 32 8 };
    descCheck s x (x.tenant = 0) = none) ∧
    (∃ w : Writer, ∃ e, ∃ s : State, Writable s w 8 e ∧ 4 ≤ e ∧ programmedBusy s e = false ∧
    let d := (List.range 16).flatMap (fun j => leBytes 4 (rd s (R.DMA_DESC j) e));
    let x : Xfer := { queue := none, kind := 0, op := fieldAt d 0 1 % 4, sealed := bitsOf (fieldAt d 0 1) 2 1 = 1, tenant := fieldAt d 1 1, sealQ := fieldAt d 2 2, length := fieldAt d 4 4, src := fieldAt d 8 8, dst := fieldAt d 16 8, tagAddr := fieldAt d 24 8, ctr := fieldAt d 32 8 };
    ∃ st, descRange x = some st) ∧
    (∃ w : Writer, ∃ e, ∃ s : State, Writable s w 8 e ∧ (e < 4 ∨ programmedBusy s e = true)) ∧
    (∃ e, ∃ x, ∃ rest, ∃ data : List Byte, ∃ s : State, engine s e = x :: rest ∧ x.queue = none ∧ x.kind = 0 ∧ x.op = 0 ∧
    x.sealed = false ∧ data.length = x.length ∧ waitsReRead s (.dma e) = false ∧ rangePoison s x.dst x.length = false) ∧
    (∃ e, ∃ s : State, engine s e = []) ∧
    (∃ e, ∃ x, ∃ rest, ∃ s : State, engine s e = x :: rest ∧ x.queue = none ∧ x.kind = 0 ∧ x.op = 0) ∧
    (∃ q, ∃ r, ∃ s : State, (queue s q).run = some r ∧ r.busy = false ∧ runOp r ∈ [3, 5, 0x20]) :=
  ⟨⟨0, cmdOf 0 0 [(0, 1, 1), (20, 4, 1)], withRun (owns0 S0) 0 (cmdOf 0 0 [(0, 1, 1), (20, 4, 1)]),
    by (try dsimp only) <;> decide +kernel⟩,
    ⟨0, cmdOf 0 0 [(0, 1, 1)], withRun S0 0 (cmdOf 0 0 [(0, 1, 1)]), by decide +kernel, .lengthRange,
    by (try dsimp only) <;> decide +kernel⟩,
    ⟨.host, 15, wr (owns0 S0) (R.DMA_DESC 1) 1 15, by dsimp only [Writable]; decide +kernel⟩,
    ⟨.host, 4, State.reset, by dsimp only [Writable]; decide +kernel, by decide +kernel, by decide +kernel, .lengthRange,
    by (try dsimp only) <;> decide +kernel⟩,
    ⟨.host, 3, State.reset, by dsimp only [Writable]; decide +kernel⟩,
    ⟨0, xfer1, [], [1], { S0 with host := { S0.host with engines := [(0, [xfer1])] } }, by decide +kernel⟩,
    ⟨0, State.reset, by decide +kernel⟩,
    ⟨0, xfer1, [], { S0 with host := { S0.host with engines := [(0, [xfer1])] } }, by decide +kernel⟩,
    ⟨0, cmdOf 0 0 [(0, 1, 0x20)], withRun S0 0 (cmdOf 0 0 [(0, 1, 0x20)]), by decide +kernel⟩⟩

/-- Inputs that meet the premises of each clause of `Obligations.QueueControl`. -/
theorem witness_QueueControl :
    (∃ fn, ∃ s : State, let q := qSel s fn; pageServed s (fnPage fn) fn = true ∧ queueFn s q = fn ∧ qState s q = 0 ∧ createOk
    s fn q = true) ∧
    (∃ fn, ∃ s : State, let q := qSel s fn; pageServed s (fnPage fn) fn = true ∧ queueFn s q = fn ∧ qState s q ≠ 0) ∧
    (∃ fn, ∃ s : State, let q := qSel s fn; pageServed s (fnPage fn) fn = true ∧ queueFn s q = fn ∧ (qState s q = 1 ∨ qState s
    q = 2) ∧ (queue s q).run = none) ∧
    (∃ fn, ∃ s : State, let q := qSel s fn; pageServed s (fnPage fn) fn = true ∧ queueFn s q = fn ∧ qState s q = 2) ∧
    (∃ fn, ∃ s : State, let q := qSel s fn; pageServed s (fnPage fn) fn = true ∧ queueFn s q = fn ∧ qState s q ≠ 2) ∧
    (∃ fn, ∃ s : State, let q := qSel s fn; pageServed s (fnPage fn) fn = true ∧ queueFn s q = fn ∧ qState s q = 2) ∧
    (∃ fn, ∃ off, ∃ v, ∃ q, ∃ s : State, hostUp s = true ∧ fn < 64 ∧ off % 8 = 0 ∧ doorbellQueue s fn off = some q ∧ (qState s
    q = 1 ∨ qState s q = 2) ∧ v < ringN s q ∧ v < 2 ^ 16) ∧
    (∃ fn, ∃ off, ∃ v, ∃ q, ∃ s : State, hostUp s = true ∧ fn < 64 ∧ off % 8 = 0 ∧ doorbellQueue s fn off = some q ∧ (qState s
    q = 1 ∨ qState s q = 2) ∧ ringN s q ≤ v ∧ v < 2 ^ 16) ∧
    (∃ s : State, hostUp s = false) :=
  ⟨⟨0, wr S0 R.Q_CFG_DEPTH_LOG2 16, by (try dsimp only) <;> decide +kernel⟩,
    ⟨0, wr S0 R.Q_STAT_STATE 1, by (try dsimp only) <;> decide +kernel⟩,
    ⟨0, wr S0 R.Q_STAT_STATE 2, by (try dsimp only) <;> decide +kernel⟩,
    ⟨0, wr S0 R.Q_STAT_STATE 2, by (try dsimp only) <;> decide +kernel⟩,
    ⟨0, State.reset, by (try dsimp only) <;> decide +kernel⟩,
    ⟨0, wr S0 R.Q_STAT_STATE 2, by (try dsimp only) <;> decide +kernel⟩,
    ⟨0, 0, 15, 0, queue1, by decide +kernel⟩,
    ⟨0, 0, 16, 0, queue1, by decide +kernel⟩,
    ⟨State.reset, by decide +kernel⟩⟩

/-- Inputs that meet the premises of each clause of `Obligations.CommandsRun`. -/
theorem witness_CommandsRun :
    (∃ q, ∃ s : State, qState s q = 1 ∧ admissionsStopped s = false ∧ (queue s q).fetched.length < 8 ∧ (queue s q).next ≠ rd s
    R.Q_SQ_PTR_TAIL 0 q ∧ tenSeals s (fnTenant s (queueFn s q)) = false) ∧
    (∃ q, ∃ s : State, 8 ≤ (queue s q).fetched.length) ∧
    (∃ q, ∃ e : Sub, ∃ rest, ∃ s : State, (queue s q).fetched = e :: rest ∧ qState s q = 1 ∧ (queue s q).run = none ∧ (queue s
    q).held = [] ∧ let fn := queueFn s q; let r : RunCmd := { sub := e, fn := fn, tenant := fnTenant s fn, start := s.now };
    e.bad = none ∧ opForbidden r = false ∧ fnBound s fn = true ∧ (fn = 0 ∨ tenState s r.tenant ≠ 2) ∧ (runOp r = 0x0A → arg r
    17 1 % 8 ≤ 4)) ∧
    (∃ q, ∃ e : Sub, ∃ rest, ∃ s : State, (queue s q).fetched = e :: rest ∧ qState s q = 1 ∧ (queue s q).run = none ∧ (queue s
    q).held = [] ∧ let fn := queueFn s q; let r : RunCmd := { sub := e, fn := fn, tenant := fnTenant s fn, start := s.now }; ∃
    st, e.bad = some st) ∧
    (∃ q, ∃ r, ∃ s : State, running s q 0 = some r) ∧
    (∃ q, ∃ r, ∃ s : State, (queue s q).run = some r ∧ opForbidden r = true ∧ r.busy = false) ∧
    (∃ q, ∃ r, ∃ s : State, running s q 2 = some r ∧ let c := waitCounter r; c / 4096 ≠ r.tenant) ∧
    (∃ q, ∃ r, ∃ s : State, running s q 2 = some r ∧ let c := waitCounter r; c / 4096 = r.tenant ∧ arg r 24 8 ≤ sigValue s c) ∧
    (∃ q, ∃ r, ∃ s : State, running s q 2 = some r ∧ let c := waitCounter r; c / 4096 = r.tenant ∧ sigValue s c < arg r 24 8) ∧
    (∃ q, ∃ r, ∃ s : State, (queue s q).run = some r ∧ rd s R.Q_TIMEOUT 0 q ≠ 0 ∧ timerRuns r = true ∧ qState s q = 1 ∧
    let u := { s with now := max s.now (r.start + 1000 * rd s R.Q_TIMEOUT 0 q) }; retryBelow u q = false) ∧
    (∃ q, ∃ r, ∃ s : State, (queue s q).run = some r ∧ rd s R.Q_TIMEOUT 0 q ≠ 0 ∧ timerRuns r = true ∧ qState s q = 1 ∧
    let u := { s with now := max s.now (r.start + 1000 * rd s R.Q_TIMEOUT 0 q) }; retryBelow u q = true) ∧
    (∃ q, ∃ s : State, rd s R.Q_TIMEOUT 0 q = 0) ∧
    (∃ q, ∃ r, ∃ s : State, (queue s q).run = some r ∧ qState s q = 1 ∧ r.near = false ∧ fieldAt r.sub.bytes 1 1 % 2 = 0 ∧
    cqFull s q = false ∧ (queue s q).held = [] ∧ rd s R.Q_CFG_DEPTH_LOG2 0 q ≤ 16 ∧ tenSeals s (fnTenant s (queueFn s q)) =
    false) :=
  ⟨⟨0, wr queue1 R.Q_SQ_PTR_TAIL 1, by decide +kernel⟩,
    ⟨0, setQueue S0 0 { fetched := List.replicate 8 { idx := 0, bytes := [] } }, by decide +kernel⟩,
    ⟨0, { idx := 0, bytes := bytesOf 64 [(0, 1, 0x0A), (17, 1, 4)] }, [], setQueue queue1 0
    { fetched := [({ idx := 0, bytes := bytesOf 64 [(0, 1, 0x0A), (17, 1, 4)] })] }, by (try dsimp only) <;> decide +kernel⟩,
    ⟨0, { idx := 0, bytes := [], bad := some .memPoison }, [], setQueue queue1 0
    { fetched := [({ idx := 0, bytes := [], bad := some .memPoison })] }, by decide +kernel, by decide +kernel,
    by decide +kernel, by decide +kernel, .memPoison, by (try dsimp only) <;> decide +kernel⟩,
    ⟨0, cmdOf 0 0 [], withRun S0 0 (cmdOf 0 0 []), by decide +kernel⟩,
    ⟨0, cmdOf 1 1 [(0, 1, 0x22)], withRun S0 0 (cmdOf 1 1 [(0, 1, 0x22)]), by decide +kernel⟩,
    ⟨0, cmdOf 0 0 [(0, 1, 2), (16, 4, 4096)], withRun S0 0 (cmdOf 0 0 [(0, 1, 2), (16, 4, 4096)]),
    by (try dsimp only) <;> decide +kernel⟩,
    ⟨0, cmdOf 0 0 [(0, 1, 2), (16, 4, 4095)], withRun S0 0 (cmdOf 0 0 [(0, 1, 2), (16, 4, 4095)]),
    by (try dsimp only) <;> decide +kernel⟩,
    ⟨0, cmdOf 0 0 [(0, 1, 2), (16, 4, 4095), (24, 8, 1)], withRun S0 0 (cmdOf 0 0 [(0, 1, 2), (16, 4, 4095), (24, 8, 1)]),
    by (try dsimp only) <;> decide +kernel⟩,
    ⟨0, cmdOf 0 0 [(0, 1, 2)], withRun (wr queue1 R.Q_TIMEOUT 80) 0 (cmdOf 0 0 [(0, 1, 2)]),
    by (try dsimp only) <;> decide +kernel⟩,
    ⟨0, cmdOf 0 0 [(0, 1, 1)], reread1
    { withRun (wr queue1 R.Q_TIMEOUT 80) 0 (cmdOf 0 0 [(0, 1, 1)]) with host := { (withRun S0 0 (cmdOf 0 0 [(0, 1, 1)])).host with engines := [(queueEngine 0, [{ xfer1 with queue := some 0 }])] } }
    (.dma (queueEngine 0)) 0, by (try dsimp only) <;> decide +kernel⟩,
    ⟨0, State.reset, by decide +kernel⟩,
    ⟨0, cmdOf 0 0 [(0, 1, 2)], withRun queue1 0 (cmdOf 0 0 [(0, 1, 2)]), by decide +kernel⟩⟩

/-- Inputs that meet the premises of each clause of `Obligations.PeersAndQueueRegisters`. -/
theorem witness_PeersAndQueueRegisters :
    (∃ q, ∃ r, ∃ s : State, running s q 8 = some r ∧ let m := arg r 16 2 % 512; let t := arg r 18 1; let n := arg r 20 4; 1 ≤
    n ∧ n ≤ 0xFFFFFFFE ∧ arg r 24 8 + n ≤ 2 ^ 64 ∧ arg r 32 8 + n ≤ 2 ^ 64 ∧ tenantOk r false t = false) ∧
    (∃ q, ∃ r, ∃ s : State, running s q 8 = some r ∧ let m := arg r 16 2 % 512; let t := arg r 18 1; let n := arg r 20 4; 1 ≤
    n ∧ n ≤ 0xFFFFFFFE ∧ arg r 24 8 + n ≤ 2 ^ 64 ∧ arg r 32 8 + n ≤ 2 ^ 64 ∧ tenantOk r false t = true ∧ tenActive s t = true
    ∧ peerCheck s m = none ∧ accessFail s t (arg r 24 8) n = none) ∧
    (∃ q, ∃ r, ∃ s : State, running s q 8 = some r ∧ let m := arg r 16 2 % 512; let t := arg r 18 1; let n := arg r 20 4; 1 ≤
    n ∧ n ≤ 0xFFFFFFFE ∧ arg r 24 8 + n ≤ 2 ^ 64 ∧ arg r 32 8 + n ≤ 2 ^ 64 ∧ ∃ st, tenantOk r false t = true ∧ tenActive s t =
    true ∧ peerCheck s m = some st) ∧
    (∃ q, ∃ r, ∃ s : State, running s q 9 = some r ∧ let m := arg r 16 2 % 512; ∃ st, peerCheck s m = some st) ∧
    (∃ q, ∃ r, ∃ s : State, running s q 9 = some r ∧ let m := arg r 16 2 % 512; peerCheck s m = none) ∧
    (∃ s : State, ∃ q, ∃ dst, ∃ r, (queue s q).run = some r ∧ let p := (routePort (hiveId s) dst).getD 0; dst ≠ hiveId s ∧
    portUp s p = true) ∧
    (∃ s : State, ∃ q, ∃ dst, ∃ r, (queue s q).run = some r ∧ let p := (routePort (hiveId s) dst).getD 0; dst ≠ hiveId s ∧
    portUp s p = false) ∧
    (∃ w : Writer, ∃ v, ∃ s : State, Writable s w 9 0 ∧ liveQueues s = [] ∧ v < 2 ^ 64 ∧ v % 2 ^ 23 = 0) ∧
    (∃ w : Writer, ∃ s : State, Writable s w 9 0 ∧ liveQueues s ≠ []) ∧
    (∃ w : Writer, ∃ fn, ∃ s : State, Writable s w 9 0 ∧ fn < 64 ∧ let g := rd s R.QMGR_DBP_SEL; (liveQueues s).any (fun q =>
    q / 512 = g) = false ∧ (fn = 0 ∨ rd s R.QMGR_DBP_MAP 0 ((g + 64) % 128) ≠ fn)) :=
  ⟨⟨0, cmdOf 1 1 [(0, 1, 8), (18, 1, 2), (20, 4, 0xFFFFFFFE)], withRun S0 0 (cmdOf 1 1 [(0, 1, 8), (18, 1, 2), (20, 4,
    0xFFFFFFFE)]), by (try dsimp only) <;> decide +kernel⟩,
    ⟨0, cmdOf 0 0 [(0, 1, 8), (16, 2, 1), (20, 4, 1)], withRun (owns0 hive1) 0 (cmdOf 0 0 [(0, 1, 8), (16, 2, 1), (20, 4,
    1)]), by (try dsimp only) <;> decide +kernel⟩,
    ⟨0, cmdOf 0 0 [(0, 1, 8), (16, 2, 2), (20, 4, 1)], withRun (owns0 hive1) 0 (cmdOf 0 0 [(0, 1, 8), (16, 2, 2), (20, 4,
    1)]), by decide +kernel, by decide +kernel, by decide +kernel, by decide +kernel, by decide +kernel, .peerAbsent,
    by (try dsimp only) <;> decide +kernel⟩,
    ⟨0, cmdOf 0 0 [(0, 1, 9), (16, 2, 2)], withRun hive1 0 (cmdOf 0 0 [(0, 1, 9), (16, 2, 2)]), by decide +kernel,
    .peerAbsent, by (try dsimp only) <;> decide +kernel⟩,
    ⟨0, cmdOf 0 0 [(0, 1, 9), (16, 2, 1)], withRun hive1 0 (cmdOf 0 0 [(0, 1, 9), (16, 2, 1)]),
    by (try dsimp only) <;> decide +kernel⟩,
    ⟨withRun (wr S0 R.WAG_STAT_STATE 3) 0 (cmdOf 0 0 [(0, 1, 9)]), 0, 1, cmdOf 0 0 [(0, 1, 9)],
    by (try dsimp only) <;> decide +kernel⟩,
    ⟨withRun S0 0 (cmdOf 0 0 [(0, 1, 9)]), 0, 1, cmdOf 0 0 [(0, 1, 9)], by (try dsimp only) <;> decide +kernel⟩,
    ⟨.host, 2 ^ 64 - 2 ^ 23, State.reset, by dsimp only [Writable]; decide +kernel⟩,
    ⟨.host, queue1, by dsimp only [Writable]; decide +kernel⟩,
    ⟨.host, 0, State.reset, by dsimp only [Writable]; decide +kernel⟩⟩

/-- Inputs that meet the premises of each clause of `Obligations.LinkStates`. -/
theorem witness_LinkStates :
    (∃ w : Writer, ∃ p, ∃ s : State, p < 8 ∧ Writable s w 13 p ∧ rd s R.BOOT_STAT_RECOVERY = 0 ∧ rd s R.WAG_CTL_ENABLE p = 0 ∧
    portState s p = 0) ∧
    (∃ w : Writer, ∃ p, ∃ s : State, p < 8 ∧ Writable s w 13 p ∧ rd s R.BOOT_STAT_RECOVERY = 0 ∧ rd s R.WAG_CTL_ENABLE p = 1) ∧
    (∃ w : Writer, ∃ p, ∃ v, ∃ s : State, p < 8 ∧ Writable s w 13 p ∧ rd s R.BOOT_STAT_RECOVERY = 0 ∧ rd s R.WAG_CTL_ENABLE p
    = 1 ∧ v % 2 = 1 ∧ portUp s p = true) ∧
    (∃ p, ∃ i : PhaseInfo, ∃ s : State, portState s p = 1 ∧ i.lanes < 16 ∧ i.module < 512 ∧ i.peerPort < 8 ∧ (port s p).order
    = 1) ∧
    (∃ p, ∃ i : PhaseInfo, ∃ s : State, portState s p = 1 ∧ i.lanes < 16 ∧ i.module < 512 ∧ i.peerPort < 8 ∧ (port s p).order
    = 2) ∧
    (∃ p, ∃ i : PhaseInfo, ∃ s : State, portState s p = 1 ∧ i.lanes < 16 ∧ i.module < 512 ∧ i.peerPort < 8 ∧ (port s p).order
    = 3 ∧ maskCount i.lanes ∈ [1, 2, 4] ∧ 2 ^ rd s R.WAG_CTL_MIN_WIDTH p ≤ maskCount i.lanes) ∧
    (∃ p, ∃ i : PhaseInfo, ∃ s : State, portState s p = 1 ∧ i.lanes < 16 ∧ i.module < 512 ∧ i.peerPort < 8 ∧ (port s p).order
    = 3 ∧ (maskCount i.lanes ∉ [1, 2, 4] ∨ maskCount i.lanes < 2 ^ rd s R.WAG_CTL_MIN_WIDTH p)) ∧
    (∃ p, ∃ i : PhaseInfo, ∃ s : State, portState s p = 1 ∧ i.lanes < 16 ∧ i.module < 512 ∧ i.peerPort < 8 ∧ (port s p).order
    = 4) ∧
    (∃ p, ∃ s : State, (portState s p = 1 ∨ portState s p = 2)) ∧
    (∃ p, ∃ c, ∃ g, ∃ d, ∃ s : State, portState s p = 2 ∧ c = true ∧ g = true ∧ d = false ∧ debugOpen s = false) ∧
    (∃ p, ∃ c, ∃ g, ∃ d, ∃ s : State, portState s p = 2 ∧ (c = false ∨ g = false ∨ d = true ∨ debugOpen s = true)) ∧
    (∃ p, ∃ s : State, portState s p = 4 ∧ rd s R.WAG_CTL_ENABLE p = 1 ∧ rd s R.WAG_STAT_DOWN_CAUSE p ≠ 7) ∧
    (∃ p, ∃ mask, ∃ s : State, mask < 16 ∧ portUp s p = true ∧ rd s R.WAG_LANES_KEPT p &&& mask ≠ 0) ∧
    (∃ p, ∃ mask, ∃ s : State, mask < 16 ∧ rd s R.WAG_LANES_KEPT p &&& mask = 0) ∧
    (∃ p, ∃ x, ∃ s : State, portUp s p = true ∧ (port s p).leaving = some x) ∧
    (∃ p, ∃ s : State, portUp s p = true ∧ 2 ^ 48 - 2 ^ 20 ≤ (port s p).txCtr ∧ (port s p).newTx = false) ∧
    (∃ p, ∃ s : State, (port s p).txCtr < 2 ^ 48 - 2 ^ 20) ∧
    (∃ s : State, rd s R.WAG_REF_LOCKED = 1) ∧
    (∃ s : State, rd s R.WAG_REF_LOCKED = 0) :=
  ⟨⟨.host, 7, State.reset, by dsimp only [Writable]; decide +kernel⟩,
    ⟨.host, 0, wr S0 R.WAG_CTL_ENABLE 1, by dsimp only [Writable]; decide +kernel⟩,
    ⟨.host, 0, 1, wr (portIn 3 0 {}) R.WAG_CTL_ENABLE 1, by dsimp only [Writable]; decide +kernel⟩,
    ⟨0, { lanes := 15, module := 511, peerPort := 7 }, portIn 1 0 { order := 1 }, by decide +kernel⟩,
    ⟨0, { lanes := 15, module := 511, peerPort := 7 }, portIn 1 0 { order := 2 }, by decide +kernel⟩,
    ⟨0, { lanes := 15, module := 511, peerPort := 7 }, portIn 1 0 { order := 3 }, by decide +kernel⟩,
    ⟨0, { lanes := 7, module := 511, peerPort := 7 }, portIn 1 0 { order := 3 }, by decide +kernel⟩,
    ⟨0, { lanes := 15, module := 511, peerPort := 7 }, portIn 1 0 { order := 4 }, by decide +kernel⟩,
    ⟨0, portIn 2 0 {}, by decide +kernel⟩,
    ⟨0, true, true, false, portIn 2 0 {}, by decide +kernel⟩,
    ⟨0, true, true, true, portIn 2 0 {}, by decide +kernel⟩,
    ⟨0, wr (portIn 4 0 {}) R.WAG_CTL_ENABLE 1, by decide +kernel⟩,
    ⟨0, 15, wr (portIn 3 0 {}) R.WAG_LANES_KEPT 15, by decide +kernel⟩,
    ⟨0, 15, State.reset, by decide +kernel⟩,
    ⟨0, 5, portIn 3 0 { leaving := some 5 }, by decide +kernel⟩,
    ⟨0, portIn 3 0 { txCtr := 2 ^ 48 - 2 ^ 20 }, by decide +kernel⟩,
    ⟨0, State.reset, by decide +kernel⟩,
    ⟨wr S0 R.WAG_REF_LOCKED 1, by decide +kernel⟩,
    ⟨State.reset, by decide +kernel⟩⟩

/-- Inputs that meet the premises of each clause of `Obligations.Frames`. -/
theorem witness_Frames :
    (∃ p, ∃ f, ∃ rest, ∃ s : State, portUp s p = true ∧ (port s p).idle = false ∧ (port s p).txCtr < 2 ^ 48 - 2 ^ 20 ∧ (port s
    p).newTx = false ∧ (port s p).resend = f :: rest) ∧
    (∃ p, ∃ s : State, portUp s p = true ∧ (port s p).idle = false ∧ (port s p).txCtr < 2 ^ 48 - 2 ^ 20 ∧ (port s p).newTx =
    false ∧ (port s p).resend = [] ∧ (∀ v, tget [] (port s p).txq v = [])) ∧
    (∃ p, ∃ v, ∃ m, ∃ rest, ∃ s : State, portUp s p = true ∧ (port s p).idle = false ∧ (port s p).txCtr < 2 ^ 48 - 2 ^ 20 ∧
    (port s p).newTx = false ∧ (port s p).resend = [] ∧ (port s p).leaving = none ∧ (port s p).replay.length < 409 ∧ pickVc s
    p (port s p) = some v ∧ tget [] (port s p).txq v = m :: rest ∧ m.copy = none) ∧
    (∃ p, ∃ s : State, portUp s p = false) ∧
    (∃ p, ∃ e : RxEnv, ∃ s : State, portUp s p = true ∧ e.fecOk = false) ∧
    (∃ p, ∃ f : WFrame, ∃ e : RxEnv, ∃ s : State, portUp s p = true ∧ e.fecOk = true ∧ e.tagOk = true ∧ e.reserved = false ∧
    f.epoch = (port s p).rxEpoch ∧ (port s p).newRx = false ∧ (port s p).rxCtr < f.ctr ∧ f.nak = false ∧ (port s p).leaving =
    none ∧ f.idle = false ∧ f.seq = ((port s p).rxSeq + 1) % 65536 ∧ f.len ≤ 576 ∧ f.hops ≤ 12 ∧ portCarries p f.vc = true ∧
    f.dst = hiveId s ∧ f.body = .rekey) ∧
    (∃ p, ∃ s : State, portUp s p = false) ∧
    (∃ p, ∃ h : Held, ∃ l, ∃ s : State, portUp s p = true ∧ (port s p).replay = h :: l ∧ (port s p).resend = []) ∧
    (∃ p, ∃ h : Held, ∃ l, ∃ x, ∃ s : State, portUp s p = true ∧ (port s p).replay = h :: l ∧ h.since = some x) ∧
    (∃ p, ∃ s : State, (port s p).replay = []) ∧
    (∃ p, ∃ s : State, portUp s p = true ∧ 2 ^ 47 ≤ (port s p).txCtr ∧ (port s p).rekeying = false ∧ (port s p).newTx = false) ∧
    (∃ p, ∃ s : State, portUp s p = true ∧ p ≠ 6 ∧ hiveState s ≠ 2 ∧ (port s p).replay ≠ []) ∧
    (∃ p, ∃ s : State, portUp s p = false) :=
  ⟨⟨0, frame1, [], portIn 3 0 { resend := [frame1] }, by decide +kernel⟩,
    ⟨0, portIn 3 0 {}, by decide +kernel, by decide +kernel, by decide +kernel, by decide +kernel, by decide +kernel, fun _ =>
    rfl⟩,
    ⟨0, 1, out1, [], portIn 3 0 { txq := [(1, [out1])], credits := [(2, 1), (3, 1)] }, by decide +kernel⟩,
    ⟨0, State.reset, by decide +kernel⟩,
    ⟨0, { fecOk := false, fixed := 0, tagOk := true, reserved := false }, portIn 3 0 {}, by decide +kernel⟩,
    ⟨0, frame1, { fecOk := true, fixed := 0, tagOk := true, reserved := false }, portIn 3 0 {}, by decide +kernel⟩,
    ⟨0, State.reset, by decide +kernel⟩,
    ⟨0, { frame := frame1, sent := 0 }, [], portIn 3 0 { replay := [({ frame := frame1, sent := 0 })] }, by decide +kernel⟩,
    ⟨0, { frame := frame1, sent := 0, since := some 3 }, [], 3, portIn 3 0
    { replay := [({ frame := frame1, sent := 0, since := some 3 })] }, by decide +kernel⟩,
    ⟨0, State.reset, by decide +kernel⟩,
    ⟨0, portIn 3 0 { txCtr := 2 ^ 47 }, by decide +kernel⟩,
    ⟨0, portIn 3 0 { replay := [{ frame := frame1, sent := 0 }] }, by decide +kernel⟩,
    ⟨0, State.reset, by decide +kernel⟩⟩

/-- Inputs that meet the premises of each clause of `Obligations.PeerReports`. -/
theorem witness_PeerReports :
    (∃ cmd, ∃ n, ∃ c : PeerCmd, ∃ s : State, tget none s.wag.cmds cmd = some c ∧ c.ending = none ∧
    let u := { s with wag := { s.wag with cmds := tset none cmd (some { c with done := min n c.length }) s.wag.cmds } }; n <
    c.length) ∧
    (∃ cmd, ∃ n, ∃ c : PeerCmd, ∃ s : State, tget none s.wag.cmds cmd = some c ∧ c.ending = none ∧
    let u := { s with wag := { s.wag with cmds := tset none cmd (some { c with done := min n c.length }) s.wag.cmds } };
    c.length ≤ n) ∧
    (∃ cmd, ∃ n, ∃ c : PeerCmd, ∃ s : State, tget none s.wag.cmds cmd = some c ∧ c.ending = none ∧
    let u := { s with wag := { s.wag with cmds := tset none cmd (some { c with done := min n c.length }) s.wag.cmds } }; ∃ st
    : Status, st ≠ .ok) ∧
    (∃ s : State, ∃ n, ∃ c : PeerCmd, tget none s.wag.cmds n = some c) ∧
    (∃ src, ∃ cmd, ∃ c : InCopy, ∃ s : State, s.wag.copies.find? (fun c => c.src = src && c.cmd = cmd) = some c) ∧
    (∃ src, ∃ cmd, ∃ s : State, s.wag.copies.find? (fun c => c.src = src && c.cmd = cmd) = none) :=
  ⟨⟨0, 7, { queue := 0, dst := 1, port := 0, tenant := 0, length := 8 },
    { S0 with wag := { S0.wag with cmds := [(0, some ({ queue := 0, dst := 1, port := 0, tenant := 0, length := 8 }))] } },
    by (try dsimp only) <;> decide +kernel⟩,
    ⟨0, 8, { queue := 0, dst := 1, port := 0, tenant := 0, length := 8 },
    { S0 with wag := { S0.wag with cmds := [(0, some ({ queue := 0, dst := 1, port := 0, tenant := 0, length := 8 }))] } },
    by (try dsimp only) <;> decide +kernel⟩,
    ⟨0, 0, { queue := 0, dst := 1, port := 0, tenant := 0, length := 8 },
    { S0 with wag := { S0.wag with cmds := [(0, some ({ queue := 0, dst := 1, port := 0, tenant := 0, length := 8 }))] } },
    by decide +kernel, by decide +kernel, .memUnowned, by (try dsimp only) <;> decide +kernel⟩,
    ⟨{ S0 with wag := { S0.wag with cmds := [(0, some ({ queue := 0, dst := 1, port := 0, tenant := 0, length := 8 }))] } },
    0, { queue := 0, dst := 1, port := 0, tenant := 0, length := 8 }, by decide +kernel⟩,
    ⟨1, 0, { src := 1, cmd := 0, tenant := 0, addr := 0, left := 8 },
    { S0 with wag := { S0.wag with copies := [({ src := 1, cmd := 0, tenant := 0, addr := 0, left := 8 })] } },
    by decide +kernel⟩,
    ⟨0, 0, S0, by decide +kernel⟩⟩

/-- Inputs that meet the premises of each clause of `Obligations.Formation`. -/
theorem witness_Formation :
    (∃ w : Writer, ∃ s : State, Writable s w 14 0 ∧ rd s R.BOOT_STAT_RECOVERY = 0 ∧ rd s R.HIVE_ROLE_ROLE_CFG = 3 ∧ hiveState
    s ≠ 2 ∧ PortsFit s (rd s R.HIVE_ID_ID_CFG % 2 ^ 9) (shapeRegs s)) ∧
    (∃ w : Writer, ∃ s : State, Writable s w 14 0 ∧ rd s R.BOOT_STAT_RECOVERY = 0 ∧ rd s R.HIVE_ROLE_ROLE_CFG ≠ 3) ∧
    (∃ s : State, s.hive.order = 2) ∧
    (∃ s : State, s.hive.order ≠ 2) ∧
    (∃ s : State, s.hive.order = 4) ∧
    (∃ s : State, s.hive.order ≠ 4) ∧
    (∃ s : State, s.hive.order = 4 ∧ s.hive.joins = [] ∧ s.hive.timed = true ∧ rd s R.WAG_CTL_ENABLE 7 = 0) ∧
    (∃ s : State, s.hive.order ≠ 4) ∧
    (∃ epoch, ∃ shape, ∃ s : State, hiveOfOne s = false ∧ s.hive.order = 0 ∧ hiveState s ≠ 1 ∧ hiveState s ≠ 2 ∧ rd s
    R.HIVE_EPOCH < epoch ∧ PortsFit s (rd s R.HIVE_ID_ID_CFG % 2 ^ 9) shape) ∧
    (∃ s : State, hiveOfOne s = false ∧ s.hive.order = 0 ∧ hiveState s = 2) ∧
    (∃ src, ∃ epoch, ∃ l : List Nat, ∃ deputy, ∃ s : State, hiveState s = 1 ∧ s.hive.order = 0 ∧ s.hive.claimed = some (epoch,
    src) ∧ l.contains (hiveId s) = true ∧ src < 512 ∧ epoch < 2 ^ 32 ∧ rd s R.WAG_CTL_ENABLE 7 = 0 ∧ deputy ≠ hiveId s) ∧
    (∃ src, ∃ epoch, ∃ l : List Nat, ∃ s : State, hiveState s = 1 ∧ s.hive.order = 0 ∧ s.hive.claimed = some (epoch, src) ∧
    l.contains (hiveId s) = false) ∧
    (∃ id, ∃ s : State, s.hive.order = 5 ∧ queenActs s = true ∧ isMember s id = true) ∧
    (∃ s : State, s.hive.order = 5 ∧ queenActs s = true) ∧
    (∃ s : State, hiveState s = 1 ∧ s.hive.order = 0) ∧
    (∃ s : State, hiveOfOne s = false ∧ hiveState s = 3) ∧
    (∃ s : State, hiveState s ≠ 2 ∧ hiveState s ≠ 3) ∧
    (∃ x, ∃ s : State, s.hive.stopAt = some x ∧ hiveState s = 4 ∧ PortsFit s (hiveId s) (shapeRegs s)) ∧
    (∃ s : State, s.hive.stopAt = none) :=
  ⟨⟨.host, wr S0 R.HIVE_ROLE_ROLE_CFG 3, by dsimp only [Writable, PortsFit]; decide +kernel⟩,
    ⟨.host, State.reset, by dsimp only [Writable]; decide +kernel⟩,
    ⟨{ S0 with hive := { S0.hive with order := 2 } }, by decide +kernel⟩,
    ⟨State.reset, by decide +kernel⟩,
    ⟨{ S0 with hive := { S0.hive with order := 4 } }, by decide +kernel⟩,
    ⟨State.reset, by decide +kernel⟩,
    ⟨{ S0 with hive := { S0.hive with order := 4, timed := true } }, by decide +kernel⟩,
    ⟨State.reset, by decide +kernel⟩,
    ⟨1, [1, 1, 1, 0, 0, 0], wr S0 R.HIVE_ROLE_ROLE_CFG 1, by dsimp only [PortsFit]; decide +kernel⟩,
    ⟨member1, by decide +kernel⟩,
    ⟨511, 1, [0], 1, { wr S0 R.HIVE_STAT_STATE 1 with hive := { S0.hive with claimed := some (1, 511) } }, by decide +kernel⟩,
    ⟨511, 1, [1], { wr S0 R.HIVE_STAT_STATE 1 with hive := { S0.hive with claimed := some (1, 511) } }, by decide +kernel⟩,
    ⟨1, { queen1 with hive := { S0.hive with order := 5 } }, by decide +kernel⟩,
    ⟨{ queen1 with hive := { S0.hive with order := 5 } }, by decide +kernel⟩,
    ⟨wr S0 R.HIVE_STAT_STATE 1, by decide +kernel⟩,
    ⟨regs S0 [(R.HIVE_STAT_STATE, 3, 0, 0), (R.HIVE_ROLE_ROLE_CFG, 1, 0, 0)], by decide +kernel⟩,
    ⟨State.reset, by decide +kernel⟩,
    ⟨5, { wr S0 R.HIVE_STAT_STATE 4 with hive := { S0.hive with stopAt := some 5 } },
    by dsimp only [PortsFit]; decide +kernel⟩,
    ⟨State.reset, by decide +kernel⟩⟩

/-- Inputs that meet the premises of each clause of `Obligations.HiveUpkeep`. -/
theorem witness_HiveUpkeep :
    (∃ id, ∃ s : State, queenActs s = true ∧ isMember s id = false) ∧
    (∃ s : State, queenActs s = false) ∧
    (∃ s : State, queenActs s = true ∧ rd s R.HIVE_DEPUTY_DEPUTY ≠ 0x1FF) ∧
    (∃ s : State, queenActs s = false) ∧
    (∃ s : State, hiveState s = 2) ∧
    (∃ s : State, hiveState s = 2 ∧ rd s R.HIVE_ROLE_ROLE = 2 ∧ s.wag.cmds = []) ∧
    (∃ s : State, hiveState s = 2 ∧ rd s R.HIVE_ROLE_ROLE ≠ 2) ∧
    (∃ s : State, hiveState s = 2 ∧ hiveOfOne s = false) ∧
    (∃ s : State, hiveState s ≠ 2) ∧
    (∃ s : State, hiveState s = 2 ∧ hiveOfOne s = false ∧ isQueen s = false) ∧
    (∃ w : Writer, ∃ v, ∃ s : State, Writable s w 15 0 ∧ rd s R.BOOT_STAT_RECOVERY = 0 ∧ v < 2 ^ 32) ∧
    (∃ l : List Nat, ∃ s : State, hiveState s = 2 ∧ isQueen s = false ∧ hiveOfOne s = false ∧ l.contains (hiveId s) = true) ∧
    (∃ p, ∃ x, ∃ s : State, p < 6 ∧ portUp s p = false ∧ (port s p).downAt = some x ∧ hiveState s ≠ 2) ∧
    (∃ p, ∃ s : State, (port s p).downAt = none) ∧
    (∃ s : State, queenActs s = true) ∧
    (∃ s : State, hiveState s = 2 ∧ isQueen s = true) ∧
    (∃ id, ∃ s : State, queenActs s = true ∧ isMember s id = true) :=
  ⟨⟨2, queen1, by decide +kernel⟩,
    ⟨State.reset, by decide +kernel⟩,
    ⟨wr queen1 R.HIVE_DEPUTY_DEPUTY 1, by decide +kernel⟩,
    ⟨State.reset, by decide +kernel⟩,
    ⟨hive1, by decide +kernel⟩,
    ⟨wr hive1 R.HIVE_ROLE_ROLE 2, by decide +kernel⟩,
    ⟨hive1, by decide +kernel⟩,
    ⟨member1, by decide +kernel⟩,
    ⟨State.reset, by decide +kernel⟩,
    ⟨member1, by decide +kernel⟩,
    ⟨.host, 2 ^ 32 - 1, State.reset, by dsimp only [Writable]; decide +kernel⟩,
    ⟨[0], member1, by decide +kernel⟩,
    ⟨5, 3, portIn 0 5 { downAt := some 3 }, by decide +kernel⟩,
    ⟨0, State.reset, by decide +kernel⟩,
    ⟨queen1, by decide +kernel⟩,
    ⟨queen1, by decide +kernel⟩,
    ⟨1, queen1, by decide +kernel⟩⟩

/-- Inputs that meet the premises of each clause of `Obligations.Barriers`. -/
theorem witness_Barriers :
    (∃ a : Arrival, ∃ y : Shard, ∃ s : State, queenActs s = true ∧ isMember s a.src = true ∧ tget none s.hive.shards (512 *
    a.b + a.shard) = some y ∧ y.home = a.src ∧ a.g = (barGen s a.b).gen ∧ tget none (barGen s a.b).commits a.shard = none ∧
    (barGen s a.b).started = [] ∧ (∃ e ∈ barShards s a.b, e.1 ≠ a.shard ∧ tget none (barGen s a.b).commits e.1 = none)) ∧
    (∃ s : State, queenActs s = false) ∧
    (∃ b, ∃ s : State, hiveState s = 2 ∧ rd s R.HIVE_BAR_CFG_ENABLE 0 b = 1) ∧
    (∃ b, ∃ s : State, hiveState s = 2 ∧ rd s R.HIVE_BAR_CFG_ENABLE 0 b = 0) ∧
    (∃ b, ∃ s : State, hiveState s = 2 ∧ rd s R.HIVE_BAR_CFG_ENABLE 0 b = 0) ∧
    (∃ s : State, hiveState s = 2) ∧
    (∃ s : State, hiveState s ≠ 2) ∧
    (∃ b, ∃ e : Nat × Shard, ∃ s : State, queenActs s = true ∧ (barShards s b).filter (fun e => (tget none (barGen s
    b).commits e.1).isNone) = [e] ∧ 1 ≤ rd s R.HIVE_BACKUP_CFG_MAX_MISSING ∧ (barGen s b).commits ≠ [] ∧ e.2.spareEn = true ∧
    (barGen s b).started.any (fun x => x.1 = e.1) = false) ∧
    (∃ s : State, queenActs s = false) ∧
    (∃ b, ∃ shard, ∃ s : State, hiveState s = 2 ∧ rd s R.HIVE_BAR_CFG_ENABLE 0 b = 0 ∧ shard < 512) ∧
    (∃ s : State, pageServed s 14 0 = true ∧ isQueen s = true ∧ (∀ b < 64, rd s R.HIVE_BAR_STAT 0 b ≠ 1)) ∧
    (∃ s : State, pageServed s 14 0 = true ∧ isQueen s = true) ∧
    (∃ v, ∃ s : State, pageServed s 14 0 = true ∧ let b := rd s R.HIVE_BAR_SEL; rd s R.HIVE_BAR_CFG_ENABLE 0 b = 0 ∧ v / 2 ^
    31 % 2 = 1 ∧ (∀ f ∈ [R.HIVE_BAR_ARRIVE, R.HIVE_BAR_RELEASE, R.HIVE_BAR_VERDICT], rd s f 0 b / 4096 = v / 2 ^ 16 % 256) ∧
    sigValue s (rd s R.HIVE_BAR_ARRIVE 0 b) < rd s R.HIVE_BAR_THRESH 0 b) ∧
    (∃ v, ∃ s : State, pageServed s 14 0 = true ∧ let b := rd s R.HIVE_BAR_SEL; rd s R.HIVE_BAR_CFG_ENABLE 0 b = 1 ∧ v / 2 ^
    31 % 2 = 0 ∧ v / 2 ^ 30 % 2 = rd s R.HIVE_BAR_CFG_SPARE 0 b ∧ v / 2 ^ 16 % 256 = rd s R.HIVE_BAR_CFG_TENANT 0 b ∧ v % 512
    = rd s R.HIVE_BAR_CFG_SHARD 0 b) ∧
    (∃ w : Writer, ∃ s : State, Writable s w 14 0 ∧ let m := rd s R.HIVE_MOD_SEL; queenActs s = true ∧ isMember s m = true ∧ m
    ≠ hiveId s ∧ budgetSpent s = false) ∧
    (∃ w : Writer, ∃ s : State, Writable s w 14 0 ∧ let m := rd s R.HIVE_MOD_SEL; queenActs s = true ∧ isMember s m = true ∧ m
    ≠ hiveId s ∧ budgetSpent s = true) ∧
    (∃ w : Writer, ∃ s : State, Writable s w 14 0 ∧ isQueen s = true) :=
  ⟨⟨{ src := 1, b := 0, g := 0, shard := 0, time := 5 }, { home := 1, spare := 0, spareEn := false },
    { queen1 with hive := { S0.hive with shards := [(0, some ({ home := 1, spare := 0, spareEn := false })), (1, some ({ home := 1, spare := 0, spareEn := false }))] } },
    by decide +kernel⟩,
    ⟨State.reset, by decide +kernel⟩,
    ⟨0, wr hive1 R.HIVE_BAR_CFG_ENABLE 1, by decide +kernel⟩,
    ⟨0, hive1, by decide +kernel⟩,
    ⟨0, hive1, by decide +kernel⟩,
    ⟨hive1, by decide +kernel⟩,
    ⟨State.reset, by decide +kernel⟩,
    ⟨0, (0, { home := 1, spare := 0, spareEn := true }),
    { queen1 with hive := { S0.hive with shards := [(0, some { home := 1, spare := 0, spareEn := true }), (1, some { home := 1, spare := 0, spareEn := true })], bars := [(0, { commits := [(1, some (0, false))] })] } },
    by decide +kernel⟩,
    ⟨State.reset, by decide +kernel⟩,
    ⟨0, 511, hive1, by decide +kernel⟩,
    ⟨queen1, by decide +kernel⟩,
    ⟨wr queen1 R.HIVE_BAR_STAT 1, by decide +kernel⟩,
    ⟨2 ^ 31, wr S0 R.HIVE_BAR_THRESH 1, by (try dsimp only) <;> decide +kernel⟩,
    ⟨0, wr S0 R.HIVE_BAR_CFG_ENABLE 1, by (try dsimp only) <;> decide +kernel⟩,
    ⟨.host, wr queen1 R.HIVE_MOD_SEL 1, by dsimp only [Writable]; decide +kernel⟩,
    ⟨.host, regs queen1 [(R.HIVE_MOD_SEL, 1, 0, 0), (R.HIVE_EXPEL_CFG_BUDGET, 0, 0, 0)],
    by dsimp only [Writable]; decide +kernel⟩,
    ⟨.host, queen1, by dsimp only [Writable]; decide +kernel⟩⟩

/-- Inputs that meet the premises of each clause of `Obligations.TwinPairs`. -/
theorem witness_TwinPairs :
    (∃ w : Writer, ∃ s : State, Writable s w 16 0 ∧ twinState s ≠ 0) ∧
    (∃ w : Writer, ∃ s : State, Writable s w 16 0 ∧ twinState s = 0 ∧ portUp s 6 = false) ∧
    (∃ w : Writer, ∃ s : State, Writable s w 16 0 ∧ twinState s = 0 ∧ portUp s 6 = true ∧ s.twin.peerAsk = none) ∧
    (∃ w : Writer, ∃ s : State, Writable s w 16 0 ∧ twinState s = 0 ∧ ∃ x, ∃ m, portUp s 6 = true ∧ s.twin.peerAsk = some (x,
    m) ∧ s.now ≤ x + 1000000000 ∧ let role := rd s R.TWIN_CFG_ROLE_CFG;
    let fits := m.getD 0 0 + role = 3 ∧ (role = 1 ∨ role = 2) ∧ m.getD 1 0 = rd s R.TWIN_PARTS ∧ m.getD 2 0 = rd s R.TWIN_CFG_PEER ∧ m.getD 3 0 = hiveId s;
    fits ∧ mirrorBusy s = false ∧ m.getD 4 0 ≠ 1) ∧
    (∃ w : Writer, ∃ s : State, Writable s w 16 0 ∧ twinState s = 0 ∧ ∃ x, ∃ m, portUp s 6 = true ∧ s.twin.peerAsk = some (x,
    m) ∧ s.now ≤ x + 1000000000 ∧ let role := rd s R.TWIN_CFG_ROLE_CFG;
    let fits := m.getD 0 0 + role = 3 ∧ (role = 1 ∨ role = 2) ∧ m.getD 1 0 = rd s R.TWIN_PARTS ∧ m.getD 2 0 = rd s R.TWIN_CFG_PEER ∧ m.getD 3 0 = hiveId s;
    fits ∧ (mirrorBusy s = true ∨ m.getD 4 0 = 1)) ∧
    (∃ w : Writer, ∃ s : State, Writable s w 16 0 ∧ twinState s = 0 ∧ ∃ x, ∃ m, portUp s 6 = true ∧ s.twin.peerAsk = some (x,
    m) ∧ s.now ≤ x + 1000000000 ∧ let role := rd s R.TWIN_CFG_ROLE_CFG;
    let fits := m.getD 0 0 + role = 3 ∧ (role = 1 ∨ role = 2) ∧ m.getD 1 0 = rd s R.TWIN_PARTS ∧ m.getD 2 0 = rd s R.TWIN_CFG_PEER ∧ m.getD 3 0 = hiveId s;
    ¬fits) ∧
    (∃ s : State, ∃ x, s.twin.asked = some x) ∧
    (∃ s : State, s.twin.asked = none) ∧
    (∃ w : Writer, ∃ s : State, Writable s w 16 0 ∧ twinState s = 0) ∧
    (∃ w : Writer, ∃ s : State, Writable s w 16 0 ∧ twinState s = 1 ∧ mirrorBusy s = false) ∧
    (∃ w : Writer, ∃ s : State, Writable s w 16 0 ∧ twinState s = 1 ∧ mirrorBusy s = true) ∧
    (∃ w : Writer, ∃ s : State, Writable s w 16 0 ∧ twinState s = 3 ∧ s.twin.role = 1) ∧
    (∃ w : Writer, ∃ s : State, Writable s w 16 0 ∧ twinRole s ≠ 1) ∧
    (∃ w : Writer, ∃ s : State, Writable s w 16 0 ∧ twinState s = 4 ∧ portUp s 6 = false) ∧
    (∃ w : Writer, ∃ s : State, Writable s w 16 0 ∧ twinState s = 4 ∧ portUp s 6 = true) ∧
    (∃ w : Writer, ∃ s : State, Writable s w 16 0 ∧ twinState s ≠ 4) ∧
    (∃ s : State, twinState s ≠ 0) ∧
    (∃ s : State, twinState s = 2) ∧
    (∃ s : State, twinState s ≠ 2) ∧
    (∃ s : State, 1 ≤ twinState s ∧ twinState s ≤ 3) ∧
    (∃ op, 7 ≤ op) :=
  ⟨⟨.host, twinIn 1 {}, by dsimp only [Writable]; decide +kernel⟩,
    ⟨.host, State.reset, by dsimp only [Writable]; decide +kernel⟩,
    ⟨.host, twinIn 0 {}, by dsimp only [Writable]; decide +kernel⟩,
    ⟨.host, wr (twinIn 0 { peerAsk := some (0, [1, 1, 0, 0, 0]) }) R.TWIN_CFG_ROLE_CFG 2,
    by dsimp only [Writable]; decide +kernel, by decide +kernel, 0, [1, 1, 0, 0, 0], by (try dsimp only) <;> decide +kernel⟩,
    ⟨.host, wr (twinIn 0 { peerAsk := some (0, [1, 1, 0, 0, 1]) }) R.TWIN_CFG_ROLE_CFG 2,
    by dsimp only [Writable]; decide +kernel, by decide +kernel, 0, [1, 1, 0, 0, 1], by (try dsimp only) <;> decide +kernel⟩,
    ⟨.host, wr (twinIn 0 { peerAsk := some (0, [2, 1, 0, 0, 0]) }) R.TWIN_CFG_ROLE_CFG 2,
    by dsimp only [Writable]; decide +kernel, by decide +kernel, 0, [2, 1, 0, 0, 0], by (try dsimp only) <;> decide +kernel⟩,
    ⟨twinIn 0 { asked := some 5 }, 5, by decide +kernel⟩,
    ⟨State.reset, by decide +kernel⟩,
    ⟨.host, State.reset, by dsimp only [Writable]; decide +kernel⟩,
    ⟨.host, twinIn 1 {}, by dsimp only [Writable]; decide +kernel⟩,
    ⟨.host, setPart (twinIn 1 {}) 0 { running := some run1 }, by dsimp only [Writable]; decide +kernel⟩,
    ⟨.host, twinIn 3 { role := 1 }, by dsimp only [Writable]; decide +kernel⟩,
    ⟨.host, State.reset, by dsimp only [Writable]; decide +kernel⟩,
    ⟨.host, wr (twinIn 4 {}) R.WAG_STAT_STATE 4 6, by dsimp only [Writable]; decide +kernel⟩,
    ⟨.host, twinIn 4 {}, by dsimp only [Writable]; decide +kernel⟩,
    ⟨.host, State.reset, by dsimp only [Writable]; decide +kernel⟩,
    ⟨twinIn 1 {}, by decide +kernel⟩,
    ⟨twinIn 2 {}, by decide +kernel⟩,
    ⟨State.reset, by decide +kernel⟩,
    ⟨twinIn 3 { role := 1 }, by decide +kernel⟩,
    ⟨7, by decide +kernel⟩⟩

/-- Inputs that meet the premises of each clause of `Obligations.MirrorStream`. -/
theorem witness_MirrorStream :
    (∃ s : State, twinRole s ≠ 2) ∧
    (∃ k, ∃ p, ∃ s : State, twinRole s = 2 ∧ s.twin.follow.contains k = true ∧ s.twin.drop.contains (seqOf s k).tenant = false
    ∧ (seqOf s k).st = 1 ∧ p ≤ (seqOf s k).writePos) ∧
    (∃ k, ∃ s : State, twinRole s = 2 ∧ s.twin.follow.contains k = true ∧ s.twin.drop.contains (seqOf s k).tenant = false) ∧
    (∃ k, ∃ s : State, twinRole s = 2 ∧ s.twin.drop.contains (seqOf s k).tenant = false) ∧
    (∃ k, ∃ s : State, twinRole s = 2 ∧ s.twin.drop.contains (seqOf s k).tenant = false ∧ s.twin.follow.contains k = false) ∧
    (∃ k, ∃ n, ∃ wp, ∃ s : State, twinRole s = 2 ∧ s.twin.drop.contains (seqOf s k).tenant = false ∧ s.twin.follow.contains k
    = true ∧ (seqOf s k).layers ≠ 0 ∧ n ≠ 0 ∧ wp + n ≤ 2 ^ (seqOf s k).tppLog2 * (seqOf s k).mapped) ∧
    (∃ k, ∃ s : State, twinRole s = 2 ∧ s.twin.follow.contains k = true) ∧
    (∃ k, ∃ s : State, twinRole s = 2 ∧ s.twin.follow.contains k = false) ∧
    (∃ n, ∃ tn, ∃ lc, ∃ k, ∃ u, ∃ s : State, twinRole s = 2 ∧ s.twin.drop.contains tn = false ∧ openSeq s k tn n lc (2 ^ 64 -
    1) false = .ok u) ∧
    (∃ d : LaunchDesc, ∃ s : State, twinRole s = 2 ∧ mirrored s d.partition = true ∧ s.twin.drop.contains d.tenant = false) ∧
    (∃ d : LaunchDesc, ∃ s : State, (twinRole s ≠ 2 ∨ mirrored s d.partition = false ∨ s.twin.drop.contains d.tenant = true)) ∧
    (∃ s : State, twf {} s.twin.parts = true) ∧
    (∃ p, ∃ v, ∃ s : State, twinRole s ≠ 0 ∧ mirrored s p = true ∧ (twinPart s p).peerPace ≠ v) ∧
    (∃ p, ∃ v, ∃ s : State, twinRole s ≠ 0 ∧ mirrored s p = true ∧ (twinPart s p).peerPace = v) ∧
    (∃ s : State, twinRole s = 0) ∧
    (∃ serial, ∃ s : State, (twinRole s ≠ 2 ∨ serialPart s serial = none)) ∧
    (∃ serial, ∃ p, ∃ s : State, twinRole s = 2 ∧ serialPart s serial = some p ∧ ∃ r, (part s p).running = some r ∧ r.serial =
    serial) ∧
    (∃ serial, ∃ mark, ∃ p, ∃ s : State, twinRole s = 2 ∧ serialPart s serial = some p ∧ ∃ x, ∃ m, ∃ n, ∃ v, (part s
    p).running = none ∧ (part s p).queue = [] ∧ (twinPart s p).own.find? (fun x => x.1 = serial && x.2.1 = mark) = some x ∧
    (twinPart s p).ends.find? (fun e => e.1 = serial) = some (m, n, v)) ∧
    (∃ mark, ∃ n, ∃ v, ∃ own, ∃ peer, ∃ c, ∃ mis, ∃ ex, ∃ cause, ∃ s : State, (comparesOf (slot s n).image v).find? (fun c =>
    c.mark = mark) = some c ∧ comparePoint s c own peer = (mis, ex, cause)) ∧
    (∃ p, ∃ serial, ∃ mark, ∃ n, ∃ v, ∃ own, ∃ peer, ∃ c, ∃ mis, ∃ ex, ∃ cause, ∃ s : State, (comparesOf (slot s n).image
    v).find? (fun c => c.mark = mark) = some c ∧ comparePoint s c own peer = (mis, ex, cause) ∧
    let t := evaluatePoint s p serial mark n v own peer; mis ≤ rd s R.TWIN_PROF_MAXMIS 0 c.profile) ∧
    (∃ p, ∃ serial, ∃ mark, ∃ n, ∃ v, ∃ own, ∃ peer, ∃ c, ∃ mis, ∃ ex, ∃ cause, ∃ s : State, (comparesOf (slot s n).image
    v).find? (fun c => c.mark = mark) = some c ∧ comparePoint s c own peer = (mis, ex, cause) ∧
    let t := evaluatePoint s p serial mark n v own peer; rd s R.TWIN_PROF_MAXMIS 0 c.profile < mis ∧ (twinState s = 1 ∨
    twinState s = 2)) ∧
    (∃ v, ∃ s : State, twinState s = 3 ∧ v ≠ 4) ∧
    (∃ v, ∃ s : State, twinState s = 3 ∧ v = 4) ∧
    (∃ s : State, twinState s ≠ 3) ∧
    (∃ s : State, ∃ x : TwinTest, s.twin.test = some x ∧ s.twin.role = 1 ∧ x.ownRes.isSome = true) ∧
    (∃ serial, ∃ s : State, serial ≠ 0 ∧ twinState s = 1) ∧
    (∃ serial, ∃ s : State, serial ≠ 0 ∧ twinState s ≠ 1) :=
  ⟨⟨twinIn 1 {}, by decide +kernel⟩,
    ⟨0, 4, { twinIn 2 { follow := [0] } with kv := (seqS seq1).kv }, by decide +kernel⟩,
    ⟨0, { twinIn 2 { follow := [0] } with kv := (seqS seq1).kv }, by decide +kernel⟩,
    ⟨0, twinIn 2 {}, by decide +kernel⟩,
    ⟨0, twinIn 2 {}, by decide +kernel⟩,
    ⟨0, 8, 8, { twinIn 2 { follow := [0] } with kv := (seqS { seq1 with layers := 1, tppLog2 := 4 }).kv }, by decide +kernel⟩,
    ⟨0, twinIn 2 { follow := [0] }, by decide +kernel⟩,
    ⟨0, twinIn 2 {}, by decide +kernel⟩,
    let s := wr (setSlot pool1 0 { st := .ready }) R.TWIN_STAT_STATE 2;
    let ⟨u, h⟩ := ok_of (openSeq s 0 0 0 1 (2 ^ 64 - 1) false) (by decide +kernel); ⟨0, 0, 1, 0, u, s, by decide +kernel,
    by decide +kernel, h⟩,
    ⟨desc1, twinIn 2 {}, by decide +kernel⟩,
    ⟨{ desc1 with partition := 1 }, twinIn 2 {}, by decide +kernel⟩,
    ⟨twinIn 2 {}, by decide +kernel⟩,
    ⟨0, 1, twinIn 2 {}, by decide +kernel⟩,
    ⟨0, 0, twinIn 2 {}, by decide +kernel⟩,
    ⟨S0, by decide +kernel⟩,
    ⟨0, S0, by decide +kernel⟩,
    ⟨5, 0, setPart (twinIn 2 {}) 0 { running := some ({ run1 with serial := 5, src := .mirror }) }, by decide +kernel,
    by decide +kernel, { run1 with serial := 5, src := .mirror }, by decide +kernel⟩,
    ⟨5, 7, 0, twinIn 2 { parts := [(0, { own := [(5, 7, [])], ends := [(5, 0, 0)] })] }, by decide +kernel, by decide +kernel,
    (5, 7, []), 5, 0, 0, by decide +kernel⟩,
    ⟨7, 0, 0, [1, 0, 0, 0], [], point1, 1, 0, 2, tokens1 S0, by decide +kernel⟩,
    ⟨0, 0, 7, 0, 0, [], [], point1, 0, 0, 2, tokens1 S0, by (try dsimp only) <;> decide +kernel⟩,
    ⟨0, 0, 7, 0, 0, [1, 0, 0, 0], [], point1, 1, 0, 2, tokens1 (twinIn 1 {}), by (try dsimp only) <;> decide +kernel⟩,
    ⟨3, twinIn 3 { role := 1 }, by decide +kernel⟩,
    ⟨4, twinIn 3 { role := 1 }, by decide +kernel⟩,
    ⟨twinIn 2 {}, by decide +kernel⟩,
    ⟨twinIn 3 { role := 1, test := some ({ part := 0, ownRes := some true }) }, { part := 0, ownRes := some true },
    by decide +kernel⟩,
    ⟨1, twinIn 1 {}, by decide +kernel⟩,
    ⟨1, twinIn 2 {}, by decide +kernel⟩⟩

/-- Inputs that meet the premises of each clause of `Obligations.KeysAndWeights`. -/
theorem witness_KeysAndWeights :
    (∃ q, ∃ r, ∃ s : State, running s q 0x21 = some r ∧ arg r 17 1 % 4 ≠ 1 ∧ r.fn ≠ 0 ∧ arg r 17 1 % 4 = 0) ∧
    (∃ q, ∃ r, ∃ st, ∃ s : State, running s q 0x21 = some r ∧ keyCheck s r = some st ∧ arg r 17 1 % 4 ≠ 1 ∧ (r.fn = 0 ∨ arg r
    17 1 % 4 ≠ 0)) ∧
    (∃ q, ∃ r, ∃ st, ∃ s : State, running s q 0x21 = some r ∧ keyCheck s r = some st ∧ arg r 17 1 % 4 = 1) ∧
    (∃ q, ∃ r, ∃ s : State, running s q 0x21 = some r ∧ keyCheck s r = none ∧ arg r 24 8 ≠ 0 ∧ r.fn = 0 ∧ arg r 17 1 % 4 = 0) ∧
    (∃ q, ∃ r, ∃ s : State, running s q 0x21 = some r ∧ keyCheck s r = none ∧ arg r 24 8 ≠ 0 ∧ r.fn = 0 ∧ arg r 17 1 % 4 = 1) ∧
    (∃ q, ∃ r, ∃ s : State, running s q 0x21 = some r ∧ keyCheck s r = none ∧ r.fn = 0 ∧ let n := arg r 16 1; arg r 17 1 % 4 =
    0) ∧
    (∃ q, ∃ r, ∃ s : State, running s q 0x21 = some r ∧ keyCheck s r = none ∧ r.fn = 0 ∧ let n := arg r 16 1; arg r 17 1 % 4 =
    1) ∧
    (∃ r, let n := arg r 16 1; n ≠ 0 ∧ arg r 24 8 % 64 = 0 ∧ arg r 32 8 % 64 = 0 ∧ arg r 17 1 = 0 ∧ tenantOk r true n = true) ∧
    (∃ q, ∃ count, ∃ opened, ∃ r, ∃ s : State, running s q 0x20 = some r ∧ let n := arg r 17 1 % 64; let tn := arg r 16 1; ∃
    st, weightCheck s r count opened = some st ∧ st ≠ .bindingDenied) ∧
    (∃ q, ∃ count, ∃ opened, ∃ r, ∃ s : State, running s q 0x20 = some r ∧ let n := arg r 17 1 % 64; let tn := arg r 16 1;
    weightCheck s r count opened = some .bindingDenied) ∧
    (∃ q, ∃ count, ∃ opened, ∃ r, ∃ s : State, running s q 0x20 = some r ∧ let n := arg r 17 1 % 64; let tn := arg r 16 1;
    weightCheck s r count opened = none ∧ arg r 20 4 = 0) ∧
    (∃ q, ∃ count, ∃ opened, ∃ r, ∃ s : State, running s q 0x20 = some r ∧ let n := arg r 17 1 % 64; let tn := arg r 16 1;
    weightCheck s r count opened = none ∧ arg r 20 4 ≠ 0) ∧
    (∃ w : Writer, ∃ s : State, Writable s w 17 0 ∧ isQueen s = true) ∧
    (∃ w : Writer, ∃ s : State, Writable s w 17 0 ∧ isQueen s = false) ∧
    (∃ src, ∃ id : List Nat, ∃ opened, ∃ s : State, let l := (List.range 4).map (fun j => id.getD j 0); hiveState s = 2 ∧ src
    = rd s R.HIVE_STAT_QUEEN ∧ opened = true ∧ groupId s ≠ l) ∧
    (∃ src, ∃ id : List Nat, ∃ opened, ∃ s : State, let l := (List.range 4).map (fun j => id.getD j 0); (hiveState s ≠ 2 ∨ src
    ≠ rd s R.HIVE_STAT_QUEEN ∨ opened = false ∨ groupId s = l)) :=
  ⟨⟨0, cmdOf 1 1 [(0, 1, 0x21)], withRun S0 0 (cmdOf 1 1 [(0, 1, 0x21)]), by decide +kernel⟩,
    ⟨0, cmdOf 0 0 [(0, 1, 0x21), (17, 1, 2)], .lengthRange, withRun S0 0 (cmdOf 0 0 [(0, 1, 0x21), (17, 1, 2)]),
    by decide +kernel⟩,
    ⟨0, cmdOf 0 0 [(0, 1, 0x21), (17, 1, 1)], .lengthRange, withRun S0 0 (cmdOf 0 0 [(0, 1, 0x21), (17, 1, 1)]),
    by decide +kernel⟩,
    ⟨0, cmdOf 0 0 [(0, 1, 0x21), (16, 1, 255), (24, 8, 64)], withRun S0 0 (cmdOf 0 0 [(0, 1, 0x21), (16, 1, 255), (24, 8,
    64)]), by decide +kernel⟩,
    ⟨0, cmdOf 0 0 [(0, 1, 0x21), (16, 1, 255), (17, 1, 1), (24, 8, 64)], withRun (wr S0 R.SEC_TEN_STATE_STATE 1 0 255) 0
    (cmdOf 0 0 [(0, 1, 0x21), (16, 1, 255), (17, 1, 1), (24, 8, 64)]), by decide +kernel⟩,
    ⟨0, cmdOf 0 0 [(0, 1, 0x21), (16, 1, 255)], withRun S0 0 (cmdOf 0 0 [(0, 1, 0x21), (16, 1, 255)]),
    by (try dsimp only) <;> decide +kernel⟩,
    ⟨0, cmdOf 0 0 [(0, 1, 0x21), (16, 1, 255), (17, 1, 1), (24, 8, 64)], withRun (wr S0 R.SEC_TEN_STATE_STATE 1 0 255) 0
    (cmdOf 0 0 [(0, 1, 0x21), (16, 1, 255), (17, 1, 1), (24, 8, 64)]), by (try dsimp only) <;> decide +kernel⟩,
    ⟨cmdOf 0 0 [(0, 1, 0x21), (16, 1, 255)], by (try dsimp only) <;> decide +kernel⟩,
    ⟨0, 0, true, cmdOf 0 0 [(0, 1, 0x20)], withRun S0 0 (cmdOf 0 0 [(0, 1, 0x20)]), by decide +kernel, .lengthRange,
    by (try dsimp only) <;> decide +kernel⟩,
    ⟨0, 512, false, cmdOf 0 0 [(0, 1, 0x20), (18, 1, 1)], withRun S0 0 (cmdOf 0 0 [(0, 1, 0x20), (18, 1, 1)]),
    by (try dsimp only) <;> decide +kernel⟩,
    ⟨0, 512, true, cmdOf 0 0 [(0, 1, 0x20), (18, 1, 1)], withRun S0 0 (cmdOf 0 0 [(0, 1, 0x20), (18, 1, 1)]),
    by (try dsimp only) <;> decide +kernel⟩,
    ⟨0, 1, true, cmdOf 0 0 [(0, 1, 0x20), (18, 1, 1), (20, 4, 64)], withRun (owns0 S0) 0 (cmdOf 0 0 [(0, 1, 0x20), (18, 1, 1),
    (20, 4, 64)]), by (try dsimp only) <;> decide +kernel⟩,
    ⟨.host, queen1, by dsimp only [Writable]; decide +kernel⟩,
    ⟨.host, State.reset, by dsimp only [Writable]; decide +kernel⟩,
    ⟨0, [1, 2, 3, 4], true, hive1, by (try dsimp only) <;> decide +kernel⟩,
    ⟨0, [], false, State.reset, by (try dsimp only) <;> decide +kernel⟩⟩

/-- Inputs that meet the premises of each clause of `Obligations.Retirements`. -/
theorem witness_Retirements :
    (∃ q, ∃ r, ∃ s : State, running s q 0x22 = some r ∧ r.fn ≠ 0) ∧
    (∃ q, ∃ r, ∃ s : State, running s q 0x22 = some r ∧ r.fn = 0 ∧ let n := arg r 16 1; (n = 0 ∨ tenState s n ≠ 1)) ∧
    (∃ q, ∃ r, ∃ s : State, running s q 0x22 = some r ∧ r.fn = 0 ∧ let n := arg r 16 1; n ≠ 0 ∧ tenState s n = 1) ∧
    (∃ n, ∃ x, ∃ s : State, s.sec.retiring.find? (fun r => r.tenant = n) = some x ∧ x.expired = false) ∧
    (∃ n, ∃ s : State, (∀ x, s.sec.retiring.find? (fun r => r.tenant = n) = some x → x.expired = true)) ∧
    (∃ n, ∃ s : State, tenState s n = 2 ∧ rd s R.SEC_TEN_STATE_STAGE 0 n = 3 ∧ rd s R.SEC_STAT_UNLOCK_PENDING = 0 ∧ drained s
    n = true) ∧
    (∃ n, ∃ s : State, tenState s n = 2 ∧ rd s R.SEC_TEN_STATE_STAGE 0 n = 3 ∧ rd s R.SEC_STAT_UNLOCK_PENDING = 0 ∧ drained s
    n = false) ∧
    (∃ n, ∃ s : State, (tenState s n ≠ 2 ∨ rd s R.SEC_TEN_STATE_STAGE 0 n ≠ 3 ∨ rd s R.SEC_STAT_UNLOCK_PENDING ≠ 0)) ∧
    (∃ n, ∃ x, ∃ s : State, s.sec.retiring.find? (fun r => r.tenant = n) = some x ∧ rd s R.SEC_TEN_STATE_STAGE 0 n = 5) ∧
    (∃ n, ∃ s : State, rd s R.SEC_TEN_STATE_STAGE 0 n ≠ 5) :=
  ⟨⟨0, cmdOf 1 0 [(0, 1, 0x22)], withRun S0 0 (cmdOf 1 0 [(0, 1, 0x22)]), by decide +kernel⟩,
    ⟨0, cmdOf 0 0 [(0, 1, 0x22)], withRun S0 0 (cmdOf 0 0 [(0, 1, 0x22)]), by (try dsimp only) <;> decide +kernel⟩,
    ⟨0, cmdOf 0 0 [(0, 1, 0x22), (16, 1, 255)], withRun (wr S0 R.SEC_TEN_STATE_STATE 1 0 255) 0 (cmdOf 0 0 [(0, 1, 0x22), (16,
    1, 255)]), by (try dsimp only) <;> decide +kernel⟩,
    ⟨255, { tenant := 255, queue := some 0, since := 0 },
    { S0 with sec := { S0.sec with retiring := [({ tenant := 255, queue := some 0, since := 0 })] } }, by decide +kernel⟩,
    ⟨0, State.reset, fun _ h => by cases h⟩,
    ⟨255, regs S0 [(R.SEC_TEN_STATE_STATE, 2, 0, 255), (R.SEC_TEN_STATE_STAGE, 3, 0, 255)], by decide +kernel⟩,
    ⟨0, setPart (regs S0 [(R.SEC_TEN_STATE_STATE, 2, 0, 0), (R.SEC_TEN_STATE_STAGE, 3, 0, 0)]) 0 { running := some run1 },
    by decide +kernel⟩,
    ⟨0, State.reset, by decide +kernel⟩,
    ⟨255, { tenant := 255, queue := some 0, since := 0 },
    { wr S0 R.SEC_TEN_STATE_STAGE 5 0 255 with sec := { S0.sec with retiring := [({ tenant := 255, queue := some 0, since := 0 })] } },
    by decide +kernel⟩,
    ⟨0, State.reset, by decide +kernel⟩⟩

/-- Inputs that meet the premises of each clause of `Obligations.Attestation`. -/
theorem witness_Attestation :
    (∃ k, k ≠ 0) ∧
    (∃ s : State, s.sec.sessions.length < 4) ∧
    (∃ s : State, 4 ≤ s.sec.sessions.length) ∧
    (∃ sid, ∃ s : State, s.sec.sessions.any (fun x => x.id = sid && !x.open_) = true) ∧
    (∃ sid, ∃ s : State, sessionOpen s sid = true) ∧
    (∃ sid, ∃ s : State, sessionOpen s sid = false) ∧
    (∃ sid, ∃ s : State, sessionOpen s sid = false) ∧
    (∃ sid, ∃ i, ∃ set, ∃ s : State, sessionOpen s sid = true ∧ debugOpen s = false ∧ i < 8 ∧ set < 2) ∧
    (∃ sid, ∃ i, ∃ set, ∃ s : State, sessionOpen s sid = true ∧ debugOpen s = false ∧ i < 8 ∧ set < 2 ∧ ∃ sub, ∃ dir, sub < 3
    ∧ dir < 2) ∧
    (∃ sid, ∃ i, ∃ set, ∃ s : State, sessionOpen s sid = true ∧ debugOpen s = false ∧ i < 8 ∧ set < 2 ∧ (∀ j < 6, 6 * set + j
    ∈ (ideStream s i).keys) ∧ 5 ≤ rd s R.HOST_LINK_SPEED) ∧
    (∃ sid, ∃ i, ∃ set, ∃ s : State, sessionOpen s sid = true ∧ debugOpen s = false ∧ i < 8 ∧ set < 2 ∧ (ideStream s i).active
    = some set) :=
  ⟨⟨1, by decide +kernel⟩,
    ⟨State.reset, by decide +kernel⟩,
    ⟨{ S0 with sec := { S0.sec with sessions := List.replicate 4 { id := 0 } } }, by decide +kernel⟩,
    ⟨0, { S0 with sec := { S0.sec with sessions := [{ id := 0 }] } }, by decide +kernel⟩,
    ⟨0, { S0 with sec := { S0.sec with sessions := [{ id := 0, open_ := true }] } }, by decide +kernel⟩,
    ⟨0, State.reset, by decide +kernel⟩,
    ⟨0, State.reset, by decide +kernel⟩,
    ⟨0, 7, 1, { S0 with sec := { S0.sec with sessions := [{ id := 0, open_ := true }] } }, by decide +kernel⟩,
    ⟨0, 7, 1, { S0 with sec := { S0.sec with sessions := [{ id := 0, open_ := true }] } }, by decide +kernel,
    by decide +kernel, by decide +kernel, by decide +kernel, 2, 1, by decide +kernel⟩,
    ⟨0, 7, 1,
    { wr S0 R.HOST_LINK_SPEED 6 with sec := { S0.sec with sessions := [{ id := 0, open_ := true }] }, host := { S0.host with ide := [(7, { keys := [6, 7, 8, 9, 10, 11] })] } },
    by decide +kernel⟩,
    ⟨0, 7, 1,
    { S0 with sec := { S0.sec with sessions := [{ id := 0, open_ := true }] }, host := { S0.host with ide := [(7, { active := some 1 })] } },
    by decide +kernel⟩⟩

/-- Inputs that meet the premises of each clause of `Obligations.DebugUnlock`. -/
theorem witness_DebugUnlock :
    (∃ s : State, pageServed s 17 0 = true) ∧
    (∃ x, ∃ s : State, s.sec.nonce = some x) ∧
    (∃ s : State, s.sec.nonce = none) ∧
    (∃ token : Option (List Byte), ∃ digest, ∃ sigOk, ∃ s : State, tokenOk s (token.getD (unlockBuf s)) digest sigOk = false) ∧
    (∃ token : Option (List Byte), ∃ digest, ∃ sigOk, ∃ s : State, let b := token.getD (unlockBuf s); tokenOk s b digest sigOk
    = true) ∧
    (∃ s : State, ∃ b, ∃ digest, ∃ sigOk, (s.sec.nonce = none ∨ sigOk = false ∨ digest ≠ s.sec.opkey ∨ fieldAt b 0 4 ≠
    0x4B4E4C55 ∨ fieldAt b 6 1 % 8 = 0 ∨ (∃ j < 4, fieldAt b (8 + 4 * j) 4 ≠ rd s (R.SEC_DEVID j)) ∨ (∃ x, s.sec.nonce = some
    x ∧ x + 600 * 10 ^ 9 ≤ s.now) ∨ (∃ j < 4, fieldAt b (24 + 4 * j) 4 ≠ rd s (R.SEC_UNLOCK_NONCE j)) ∨ (∀ d ∈ digest, d =
    0))) ∧
    (∃ s : State, rd s R.SEC_STAT_UNLOCK_PENDING = 1 ∧ (∀ r ∈ s.sec.retiring, drained s r.tenant = true)) ∧
    (∃ s : State, (rd s R.SEC_STAT_UNLOCK_PENDING = 0 ∨ (∃ r ∈ s.sec.retiring, drained s r.tenant = false))) ∧
    (∃ w : Writer, ∃ s : State, Writable s w 17 0) ∧
    (∃ s : State, debugOpen s = true ∧ rd s R.SEC_UNLOCK_STAT_SCOPE % 2 = 1) ∧
    (∃ k, ∃ s : State, (debugOpen s = false ∨ rd s R.SEC_UNLOCK_STAT_SCOPE / 2 ^ k % 2 = 0 ∨ k ≠ 0)) :=
  ⟨⟨State.reset, by decide +kernel⟩,
    ⟨5, { S0 with sec := { S0.sec with nonce := some 5 } }, by decide +kernel⟩,
    ⟨State.reset, by decide +kernel⟩,
    ⟨none, [], true, State.reset, by decide +kernel⟩,
    ⟨some (bytesOf 256 [(0, 4, 0x4B4E4C55), (4, 2, 1), (6, 1, 7)]), [1], true,
    { S0 with sec := { S0.sec with nonce := some 0, opkey := [1] } }, by (try dsimp only) <;> decide +kernel⟩,
    ⟨State.reset, [], [], false, by decide +kernel⟩,
    ⟨wr S0 R.SEC_STAT_UNLOCK_PENDING 1, by decide +kernel⟩,
    ⟨State.reset, by decide +kernel⟩,
    ⟨.host, State.reset, by dsimp only [Writable]; decide +kernel⟩,
    ⟨regs S0 [(R.SEC_STAT_DEBUG_OPEN, 1, 0, 0), (R.SEC_UNLOCK_STAT_SCOPE, 1, 0, 0)], by decide +kernel⟩,
    ⟨0, State.reset, by decide +kernel⟩⟩

/-- Inputs that meet the premises of each clause of `Obligations.PowerIntervals`. -/
theorem witness_PowerIntervals :
    (∃ w : Writer, ∃ v, ∃ s : State, Writable s w 19 0 ∧ 120 ≤ v % 512 ∧ v % 512 ≤ 450) ∧
    (∃ w : Writer, ∃ v, ∃ s : State, Writable s w 19 0 ∧ (v % 512 < 120 ∨ 450 < v % 512)) ∧
    (∃ w : Writer, ∃ s : State, Writable s w 19 0 ∧ rd s R.PWR_CAP_EMERG = 0 ∧ s.pwr.dusk = none) ∧
    (∃ w : Writer, ∃ s : State, Writable s w 19 0 ∧ s.pwr.dusk ≠ none) ∧
    (∃ w : Writer, ∃ s : State, Writable s w 19 0) ∧
    (∃ p, ∃ q, ∃ rest, ∃ x, ∃ s : State, (part s p).queue = q :: rest ∧ q.held = some x) ∧
    (∃ p, ∃ s : State, (∀ q ∈ (part s p).queue.head?, q.held = none)) :=
  ⟨⟨.host, 450, State.reset, by dsimp only [Writable]; decide +kernel⟩,
    ⟨.host, 451, State.reset, by dsimp only [Writable]; decide +kernel⟩,
    ⟨.host, State.reset, by dsimp only [Writable]; decide +kernel⟩,
    ⟨.host, { S0 with pwr := { S0.pwr with dusk := some 0 } }, by dsimp only [Writable]; decide +kernel⟩,
    ⟨.host, State.reset, by dsimp only [Writable]; decide +kernel⟩,
    ⟨63, { desc := desc1, src := .direct 0 0, held := some 9 }, [], 9, setPart S0 63
    { queue := [({ desc := desc1, src := .direct 0 0, held := some 9 })] }, by decide +kernel⟩,
    ⟨0, State.reset, fun _ h => by cases h⟩⟩

/-- Inputs that meet the premises of each clause of `Obligations.Domains`. -/
theorem witness_Domains :
    (∃ d, ∃ s : State, dom s d = 0 ∧ heldOn s d = false ∧ mayIdle s d = true) ∧
    (∃ d, ∃ s : State, (dom s d ≠ 0 ∨ heldOn s d = true ∨ mayIdle s d = false)) ∧
    (∃ d, (372 ≤ d ∧ d < 384 ∨ 392 ≤ d)) ∧
    (∃ d, ∃ s : State, dom s d = 2 ∧ alwaysOff s d = false ∧ s.pwr.dusk = none ∧ rd s R.PWR_STAT_STANDBY ≠ 1) ∧
    (∃ d, ∃ s : State, (dom s d ≠ 2 ∨ alwaysOff s d = true ∨ rd s R.PWR_STAT_STANDBY = 1 ∧ d < 376)) ∧
    (∃ d, ∃ s : State, dom s d = 1) ∧
    (∃ d, ∃ s : State, dom s d ≠ 1) ∧
    (∃ ty, ∃ i, ∃ s : State, ty < 27 ∧ i < pageCount ty ∧ rd s R.BOOT_STAT_RECOVERY ≠ 1) ∧
    (∃ ty, ∃ i, (27 ≤ ty ∨ pageCount ty ≤ i)) ∧
    (∃ p, ∃ s : State, lanesMayIdle s p = true ∧ dom s (376 + p) = 0) ∧
    (∃ p, ∃ s : State, lanesMayIdle s p = false) ∧
    (∃ s : State, rd s R.PWR_STAT_STANDBY = 0 ∧ mayStandby s = true) ∧
    (∃ s : State, (rd s R.PWR_STAT_STANDBY ≠ 0 ∨ mayStandby s = false)) ∧
    (∃ s : State, rd s R.PWR_STAT_STANDBY = 1) ∧
    (∃ s : State, rd s R.PWR_STAT_STANDBY ≠ 1) :=
  ⟨⟨0, State.reset, by decide +kernel⟩,
    ⟨1, { S0 with pwr := { S0.pwr with dom := [(1, 2)] } }, by decide +kernel⟩,
    ⟨383, by decide +kernel⟩,
    ⟨0, { S0 with pwr := { S0.pwr with dom := [(0, 2)] } }, by decide +kernel⟩,
    ⟨0, State.reset, by decide +kernel⟩,
    ⟨0, { S0 with pwr := { S0.pwr with dom := [(0, 1)] } }, by decide +kernel⟩,
    ⟨0, State.reset, by decide +kernel⟩,
    ⟨26, 0, State.reset, by decide +kernel⟩,
    ⟨27, 0, by decide +kernel⟩,
    ⟨7, wr (portIn 3 7 {}) R.PWR_WAG_TOL 10, by decide +kernel⟩,
    ⟨0, State.reset, by decide +kernel⟩,
    ⟨regs S0 [(R.PWR_MODULE_TOL_STANDBY_EN, 1, 0, 0), (R.PWR_CLASS_TOL 0, 3000, 0, 0), (R.PWR_CLASS_TOL 1, 3000, 0, 0),
    (R.PWR_VID_TOL, 3000, 0, 0), (R.PWR_WAG_TOL, 3000, 0, 0)], by decide +kernel⟩,
    ⟨State.reset, by decide +kernel⟩,
    ⟨wr S0 R.PWR_STAT_STANDBY 1, by decide +kernel⟩,
    ⟨State.reset, by decide +kernel⟩⟩

/-- Inputs that meet the premises of each clause of `Obligations.DuskAndTrips`. -/
theorem witness_DuskAndTrips :
    (∃ s : State, s.pwr.dusk = none ∧ s.pwr.good = true) ∧
    (∃ s : State, (s.pwr.dusk ≠ none ∨ s.pwr.good = false)) ∧
    (∃ x, ∃ s : State, s.pwr.dusk = some x ∧ s.pwr.order = 1) ∧
    (∃ x, ∃ s : State, s.pwr.dusk = some x ∧ s.pwr.order = 2) ∧
    (∃ x, ∃ s : State, s.pwr.dusk = some x ∧ s.pwr.order = 3) ∧
    (∃ x, ∃ s : State, s.pwr.dusk = some x ∧ s.pwr.order = 4) ∧
    (∃ s : State, (s.pwr.dusk = none ∨ s.pwr.order = 5)) ∧
    (∃ x, ∃ s : State, s.pwr.dusk = some x ∧ s.pwr.order = 5 ∧ s.pwr.trip = false) ∧
    (∃ b, ∃ s : State, (s.pwr.dusk = none ∨ s.pwr.order ≠ 5 ∨ b = false ∨ s.pwr.trip = true)) ∧
    (∃ s : State, s.pwr.therm = false) ∧
    (∃ s : State, s.pwr.therm = true) ∧
    (∃ s : State, s.pwr.dusk = none) ∧
    (∃ s : State, s.pwr.dusk ≠ none) ∧
    (∃ s : State, s.pwr.trip = true ∧ s.pwr.order = 5) ∧
    (∃ s : State, (s.pwr.trip = false ∨ s.pwr.order ≠ 5)) :=
  ⟨⟨{ S0 with pwr := { S0.pwr with good := true } }, by decide +kernel⟩,
    ⟨State.reset, by decide +kernel⟩,
    ⟨5, { S0 with pwr := { S0.pwr with dusk := some 5, order := 1 } }, by decide +kernel⟩,
    ⟨5, { S0 with pwr := { S0.pwr with dusk := some 5, order := 2 } }, by decide +kernel⟩,
    ⟨5, { S0 with pwr := { S0.pwr with dusk := some 5, order := 3 } }, by decide +kernel⟩,
    ⟨5, { S0 with pwr := { S0.pwr with dusk := some 5, order := 4 } }, by decide +kernel⟩,
    ⟨State.reset, by decide +kernel⟩,
    ⟨5, { S0 with pwr := { S0.pwr with dusk := some 5, order := 5 } }, by decide +kernel⟩,
    ⟨false, State.reset, by decide +kernel⟩,
    ⟨State.reset, by decide +kernel⟩,
    ⟨{ S0 with pwr := { S0.pwr with therm := true } }, by decide +kernel⟩,
    ⟨State.reset, by decide +kernel⟩,
    ⟨{ S0 with pwr := { S0.pwr with dusk := some 5 } }, by decide +kernel⟩,
    ⟨{ S0 with pwr := { S0.pwr with trip := true, order := 5 } }, by decide +kernel⟩,
    ⟨State.reset, by decide +kernel⟩⟩

/-- Inputs that meet the premises of each clause of `Obligations.Clocks`. -/
theorem witness_Clocks :
    (∃ k, ∃ s : State, 33 ≤ k ∧ k < 42 ∧ loopState s k = 1 ∧ rd s R.CLK_LOOP_STAT_SOURCE 0 k = 2 ∧ tcxoStable s = true) ∧
    (∃ k, ∃ s : State, k < 33 ∧ loopState s k = 1 ∧ rd s R.CLK_LOOP_STAT_SRC_LOST 0 k = 0) ∧
    (∃ k, ∃ s : State, (42 ≤ k ∨ loopState s k = 0)) ∧
    (∃ k, ∃ s : State, let d := rd s R.CLK_LOOP_STAT_DIVIDER 0 k; loopState s k = 3 ∧ s.clk.up.contains k = false ∧ d < 4) ∧
    (∃ k, ∃ s : State, let d := rd s R.CLK_LOOP_STAT_DIVIDER 0 k; loopState s k = 3 ∧ s.clk.up.contains k = false ∧ d = 4 ∧
    s.clk.come.contains k = false) ∧
    (∃ k, ∃ s : State, let d := rd s R.CLK_LOOP_STAT_DIVIDER 0 k; loopState s k = 4 ∧ 1 < d) ∧
    (∃ k, ∃ s : State, let d := rd s R.CLK_LOOP_STAT_DIVIDER 0 k; (loopState s k = 4 ∨ loopState s k = 3 ∧ s.clk.up.contains k
    = true) ∧ d ≤ 1) ∧
    (∃ k, ∃ s : State, let d := rd s R.CLK_LOOP_STAT_DIVIDER 0 k; (loopState s k < 3 ∨ 4 < loopState s k)) ∧
    (∃ k, ∃ s : State, k < 32 ∧ loopState s k = 2 ∧ tcxoStable s = true) ∧
    (∃ k, ∃ s : State, 33 ≤ k ∧ k < 42 ∧ loopState s k = 1 ∧ hiveRef s = true) ∧
    (∃ k, ∃ s : State, (k < 32 ∧ tcxoStable s = false ∨ k = 32 ∧ s.host.refclk = false ∨ 42 ≤ k)) ∧
    (∃ s : State, rd s R.BOOT_CFG_FATAL_ACTION = 0) ∧
    (∃ k, k < 42) ∧
    (∃ k, ∃ s : State, k < 42 ∧ (32 ≤ k ∨ rd s R.MEMC_STAT_HELD k ≠ 1 ∧ dom s (340 + k) = 2)) ∧
    (∃ k, ∃ s : State, k < 42 ∧ k < 32 ∧ (rd s R.MEMC_STAT_HELD k = 1 ∨ dom s (340 + k) ≠ 2)) ∧
    (∃ k, 42 ≤ k) ∧
    (∃ v, ∃ s : State, pageServed s 20 0 = true ∧ v < 2 ^ 32 ∧ v / 2 ^ 30 ≠ 3 ∧ bitsOf v 27 3 < 5 ∧ let kind := v / 2 ^ 30;
    let n := bitsOf v 16 11; obsIndexOk kind (bitsOf v 27 3) n = true) ∧
    (∃ v, ∃ s : State, pageServed s 20 0 = true ∧ v < 2 ^ 32 ∧ v / 2 ^ 30 ≠ 3 ∧ bitsOf v 27 3 < 5 ∧ let kind := v / 2 ^ 30;
    let n := bitsOf v 16 11; obsIndexOk kind (bitsOf v 27 3) n = false) :=
  ⟨⟨41, regs S0 [(R.CLK_LOOP_STAT_STATE, 1, 0, 41), (R.CLK_LOOP_STAT_SOURCE, 2, 0, 41), (R.CLK_STAT_TCXO_STABLE, 1, 0, 0)],
    by decide +kernel⟩,
    ⟨32, wr S0 R.CLK_LOOP_STAT_STATE 1 0 32, by decide +kernel⟩,
    ⟨42, State.reset, by decide +kernel⟩,
    ⟨41, regs S0 [(R.CLK_LOOP_STAT_STATE, 3, 0, 41), (R.CLK_LOOP_STAT_DIVIDER, 3, 0, 41)],
    by (try dsimp only) <;> decide +kernel⟩,
    ⟨41, regs S0 [(R.CLK_LOOP_STAT_STATE, 3, 0, 41), (R.CLK_LOOP_STAT_DIVIDER, 4, 0, 41)],
    by (try dsimp only) <;> decide +kernel⟩,
    ⟨41, regs S0 [(R.CLK_LOOP_STAT_STATE, 4, 0, 41), (R.CLK_LOOP_STAT_DIVIDER, 2, 0, 41)],
    by (try dsimp only) <;> decide +kernel⟩,
    ⟨41, regs S0 [(R.CLK_LOOP_STAT_STATE, 4, 0, 41), (R.CLK_LOOP_STAT_DIVIDER, 1, 0, 41)],
    by (try dsimp only) <;> decide +kernel⟩,
    ⟨0, State.reset, by (try dsimp only) <;> decide +kernel⟩,
    ⟨31, regs S0 [(R.CLK_LOOP_STAT_STATE, 2, 0, 31), (R.CLK_STAT_TCXO_STABLE, 1, 0, 0)], by decide +kernel⟩,
    ⟨33, regs S0 [(R.CLK_LOOP_STAT_STATE, 1, 0, 33), (R.WAG_REF_NONE, 0, 0, 0), (R.WAG_REF_LOCKED, 1, 0, 0)],
    by decide +kernel⟩,
    ⟨42, State.reset, by decide +kernel⟩,
    ⟨wr S0 R.BOOT_CFG_FATAL_ACTION 0, by decide +kernel⟩,
    ⟨41, by decide +kernel⟩,
    ⟨41, State.reset, by decide +kernel⟩,
    ⟨31, State.reset, by decide +kernel⟩,
    ⟨42, by decide +kernel⟩,
    ⟨41 * 2 ^ 16, State.reset, by (try dsimp only) <;> decide +kernel⟩,
    ⟨42 * 2 ^ 16, State.reset, by (try dsimp only) <;> decide +kernel⟩⟩

/-- Inputs that meet the premises of each clause of `Obligations.VideoContexts`. -/
theorem witness_VideoContexts :
    (∃ q, ∃ block, ∃ r, ∃ s : State, tenSeals s r.tenant = false ∧ arg r 16 1 % 4 = 0 ∧
    let b := (block ++ List.replicate 128 0).take 128; let c := arg r 17 1; running s q 0x10 = some r) ∧
    (∃ q, ∃ block, ∃ r, ∃ s : State, tenSeals s r.tenant = false ∧ arg r 16 1 % 4 = 0 ∧
    let b := (block ++ List.replicate 128 0).take 128; let c := arg r 17 1; running s q 0x10 = some r ∧ ∃ st, openCheck s r b
    false = some st) ∧
    (∃ q, ∃ block, ∃ r, ∃ s : State, tenSeals s r.tenant = false ∧ arg r 16 1 % 4 = 0 ∧
    let b := (block ++ List.replicate 128 0).take 128; let c := arg r 17 1; running s q 0x10 = some r ∧ openCheck s r b false
    = none) ∧
    (∃ q, ∃ block, ∃ r, ∃ s : State, tenSeals s r.tenant = false ∧ arg r 16 1 % 4 = 0 ∧
    let b := (block ++ List.replicate 128 0).take 128; let c := arg r 17 1; running s q 0x11 = some r) ∧
    (∃ q, ∃ block, ∃ r, ∃ s : State, tenSeals s r.tenant = false ∧ arg r 16 1 % 4 = 0 ∧
    let b := (block ++ List.replicate 128 0).take 128; let c := arg r 17 1; running s q 0x11 = some r ∧ ∃ st, openCheck s r b
    true = some st) ∧
    (∃ q, ∃ block, ∃ r, ∃ s : State, tenSeals s r.tenant = false ∧ arg r 16 1 % 4 = 0 ∧
    let b := (block ++ List.replicate 128 0).take 128; let c := arg r 17 1; running s q 0x11 = some r ∧ openCheck s r b true =
    none) ∧
    (∃ q, ∃ r, ∃ s : State, running s q 0x10 = some r ∧ arg r 16 1 % 4 = 0 ∧ tenSeals s r.tenant = true ∧ rd s
    R.SEC_TEN_STATE_TRANSPORT 0 r.tenant = 0) ∧
    (∃ q, ∃ r, ∃ st, ∃ s : State, running s q 0x10 = some r ∧ workCheck s r false = some st ∧
    let e := endVideo s q r.tenant (arg r 48 8) 0 st {}; arg r 16 1 % 4 = 1) ∧
    (∃ q, ∃ r, ∃ st, ∃ s : State, running s q 0x10 = some r ∧ workCheck s r false = some st ∧
    let e := endVideo s q r.tenant (arg r 48 8) 0 st {}; arg r 16 1 % 4 = 2) ∧
    (∃ q, ∃ r, ∃ st, ∃ s : State, running s q 0x10 = some r ∧ workCheck s r false = some st ∧
    let e := endVideo s q r.tenant (arg r 48 8) 0 st {}; arg r 16 1 % 4 = 3) ∧
    (∃ q, ∃ r, ∃ st, ∃ s : State, running s q 0x11 = some r ∧ workCheck s r true = some st ∧
    let e := endVideo s q r.tenant (arg r 48 8) 0 st {}; arg r 16 1 % 4 = 1) ∧
    (∃ q, ∃ r, ∃ st, ∃ s : State, running s q 0x11 = some r ∧ workCheck s r true = some st ∧
    let e := endVideo s q r.tenant (arg r 48 8) 0 st {}; arg r 16 1 % 4 = 2) ∧
    (∃ q, ∃ r, ∃ st, ∃ s : State, running s q 0x11 = some r ∧ workCheck s r true = some st ∧
    let e := endVideo s q r.tenant (arg r 48 8) 0 st {}; arg r 16 1 % 4 = 3) ∧
    (∃ q, ∃ r, ∃ s : State, running s q 0x10 = some r ∧ workCheck s r false = none ∧ arg r 16 1 % 4 = 1 ∧ tenSeals s r.tenant
    = false) ∧
    (∃ q, ∃ r, ∃ s : State, running s q 0x10 = some r ∧ workCheck s r false = none ∧ arg r 16 1 % 4 = 2) ∧
    (∃ q, ∃ r, ∃ s : State, running s q 0x11 = some r ∧ workCheck s r true = none ∧ arg r 16 1 % 4 = 1) ∧
    (∃ q, ∃ r, ∃ s : State, running s q 0x11 = some r ∧ workCheck s r true = none ∧ arg r 16 1 % 4 = 2) ∧
    (∃ q, ∃ r, ∃ s : State, running s q 0x10 = some r ∧ workCheck s r false = none ∧ arg r 16 1 % 4 = 3 ∧ let c := arg r 17 1;
    (∀ j ∈ s.vid.jobs, j.ctx ≠ c)) ∧
    (∃ q, ∃ r, ∃ s : State, running s q 0x10 = some r ∧ workCheck s r false = none ∧ arg r 16 1 % 4 = 3 ∧ let c := arg r 17 1;
    (∀ j ∈ s.vid.jobs, j.ctx = c → j.st ≠ 0) ∧ (∃ j ∈ s.vid.jobs, j.ctx = c)) ∧
    (∃ q, ∃ r, ∃ s : State, running s q 0x11 = some r ∧ workCheck s r true = none ∧ arg r 16 1 % 4 = 3 ∧ let c := arg r 17 1;
    (∀ j ∈ s.vid.jobs, j.ctx ≠ c)) :=
  ⟨⟨0, [], cmdOf 0 0 [(0, 1, 0x10)], withRun S0 0 (cmdOf 0 0 [(0, 1, 0x10)]), by (try dsimp only) <;> decide +kernel⟩,
    ⟨0, [], cmdOf 0 0 [(0, 1, 0x10)], withRun S0 0 (cmdOf 0 0 [(0, 1, 0x10)]), by decide +kernel, by decide +kernel,
    by decide +kernel, .lengthRange, by (try dsimp only) <;> decide +kernel⟩,
    ⟨0, block1, cmdOf 0 0 [(0, 1, 0x10), (17, 1, 127)], withRun (owns0 S0) 0 (cmdOf 0 0 [(0, 1, 0x10), (17, 1, 127)]),
    by (try dsimp only) <;> decide +kernel⟩,
    ⟨0, [], cmdOf 0 0 [(0, 1, 0x11)], withRun S0 0 (cmdOf 0 0 [(0, 1, 0x11)]), by (try dsimp only) <;> decide +kernel⟩,
    ⟨0, [], cmdOf 0 0 [(0, 1, 0x11)], withRun S0 0 (cmdOf 0 0 [(0, 1, 0x11)]), by decide +kernel, by decide +kernel,
    by decide +kernel, .lengthRange, by (try dsimp only) <;> decide +kernel⟩,
    ⟨0, block1, cmdOf 0 0 [(0, 1, 0x11), (17, 1, 127)], withRun (owns0 S0) 0 (cmdOf 0 0 [(0, 1, 0x11), (17, 1, 127)]),
    by (try dsimp only) <;> decide +kernel⟩,
    ⟨0, cmdOf 0 0 [(0, 1, 0x10)], withRun (wr S0 R.SEC_TEN_STATE_SEAL_REQ 1) 0 (cmdOf 0 0 [(0, 1, 0x10)]), by decide +kernel⟩,
    ⟨0, cmdOf 0 0 [(0, 1, 0x10), (16, 1, 1)], .slotState, withRun S0 0 (cmdOf 0 0 [(0, 1, 0x10), (16, 1, 1)]),
    by (try dsimp only) <;> decide +kernel⟩,
    ⟨0, cmdOf 0 0 [(0, 1, 0x10), (16, 1, 2)], .slotState, withRun S0 0 (cmdOf 0 0 [(0, 1, 0x10), (16, 1, 2)]),
    by (try dsimp only) <;> decide +kernel⟩,
    ⟨0, cmdOf 0 0 [(0, 1, 0x10), (16, 1, 3)], .slotState, withRun S0 0 (cmdOf 0 0 [(0, 1, 0x10), (16, 1, 3)]),
    by (try dsimp only) <;> decide +kernel⟩,
    ⟨0, cmdOf 0 0 [(0, 1, 0x11), (16, 1, 1)], .slotState, withRun S0 0 (cmdOf 0 0 [(0, 1, 0x11), (16, 1, 1)]),
    by (try dsimp only) <;> decide +kernel⟩,
    ⟨0, cmdOf 0 0 [(0, 1, 0x11), (16, 1, 2)], .slotState, withRun S0 0 (cmdOf 0 0 [(0, 1, 0x11), (16, 1, 2)]),
    by (try dsimp only) <;> decide +kernel⟩,
    ⟨0, cmdOf 0 0 [(0, 1, 0x11), (16, 1, 3)], .slotState, withRun S0 0 (cmdOf 0 0 [(0, 1, 0x11), (16, 1, 3)]),
    by (try dsimp only) <;> decide +kernel⟩,
    ⟨0, cmdOf 0 0 [(0, 1, 0x10), (16, 1, 1), (20, 4, 65536)], video1 0 (cmdOf 0 0 [(0, 1, 0x10), (16, 1, 1), (20, 4, 65536)])
    [], by decide +kernel⟩,
    ⟨0, cmdOf 0 0 [(0, 1, 0x10), (16, 1, 2)], video1 0 (cmdOf 0 0 [(0, 1, 0x10), (16, 1, 2)]) [], by decide +kernel⟩,
    ⟨0, cmdOf 0 0 [(0, 1, 0x11), (16, 1, 1), (40, 4, 8192)], video1 1 (cmdOf 0 0 [(0, 1, 0x11), (16, 1, 1), (40, 4, 8192)])
    [], by decide +kernel⟩,
    ⟨0, cmdOf 0 0 [(0, 1, 0x11), (16, 1, 2), (40, 4, 8192)], video1 1 (cmdOf 0 0 [(0, 1, 0x11), (16, 1, 2), (40, 4, 8192)])
    [], by decide +kernel⟩,
    ⟨0, cmdOf 0 0 [(0, 1, 0x10), (16, 1, 3)], video1 0 (cmdOf 0 0 [(0, 1, 0x10), (16, 1, 3)]) [],
    by (try dsimp only) <;> decide +kernel⟩,
    ⟨0, cmdOf 0 0 [(0, 1, 0x10), (16, 1, 3)], video1 0 (cmdOf 0 0 [(0, 1, 0x10), (16, 1, 3)]) [job1 false 1 1],
    by (try dsimp only) <;> decide +kernel⟩,
    ⟨0, cmdOf 0 0 [(0, 1, 0x11), (16, 1, 3)], video1 1 (cmdOf 0 0 [(0, 1, 0x11), (16, 1, 3)]) [],
    by (try dsimp only) <;> decide +kernel⟩⟩

/-- Inputs that meet the premises of each clause of `Obligations.VideoJobs`. -/
theorem witness_VideoJobs :
    (∃ s : State, (rd s R.PWR_STAT_EMERG_ACTIVE = 1 ∨ admissionsStopped s = true ∨ nextJob s ((List.range 8).filter
    (engineFree s)) (jobOrder s) = none)) ∧
    (∃ j, ∃ l, ∃ s : State, rd s R.PWR_STAT_EMERG_ACTIVE ≠ 1 ∧ admissionsStopped s = false ∧ nextJob s ((List.range 8).filter
    (engineFree s)) (jobOrder s) = some (j, l)) ∧
    (∃ c, ∃ j, ∃ s : State, s.vid.jobs.find? (fun j => j.ctx = c && j.st = 1) = some j ∧ (vctxLive s c = true ∨ liveWants s j
    = false)) ∧
    (∃ c, ∃ j, ∃ s : State, s.vid.jobs.find? (fun j => j.ctx = c && j.st = 1) = some j ∧ vctxLive s c = false ∧ liveWants s j
    = true) ∧
    (∃ c, ∃ s : State, s.vid.jobs.find? (fun j => j.ctx = c && j.st = 1) = none) ∧
    (∃ c, ∃ j, ∃ r : VidRes, ∃ s : State, s.vid.jobs.find? (fun j => j.ctx = c && j.st = 1) = some j ∧ r.env = {} ∧
    waitsReRead s (.codec c) = false ∧ let v := j.engines.headD 0; j.encode = false ∧ j.op = 1 ∧ rangePoison s (vpar s c 24 8)
    j.length = true) ∧
    (∃ c, ∃ j, ∃ r : VidRes, ∃ s : State, s.vid.jobs.find? (fun j => j.ctx = c && j.st = 1) = some j ∧ r.env = {} ∧
    waitsReRead s (.codec c) = false ∧ let v := j.engines.headD 0; j.encode = false ∧ j.op = 1 ∧ rangePoison s (vpar s c 24 8)
    j.length = false ∧ (r.parses = false ∨ (vctx s c).fresh = true ∧ r.newSeq = false)) ∧
    (∃ c, ∃ j, ∃ r : VidRes, ∃ s : State, s.vid.jobs.find? (fun j => j.ctx = c && j.st = 1) = some j ∧ r.env = {} ∧
    waitsReRead s (.codec c) = false ∧ let v := j.engines.headD 0; j.encode = false ∧ j.op = 1 ∧ ∃ p : DecPic, ∃ b,
    rangePoison s (vpar s c 24 8) j.length = false ∧ r.parses = true ∧ r.newSeq = true ∧ r.unsupported = false ∧ (if vpar s c
    0 1 % 4 = 2 then 8 else r.dpb) + 1 ≤ vpar s c 3 1 ∧ r.pics = [p] ∧ p.width ≤ vpar s c 4 2 ∧ p.height ≤ vpar s c 6 2 ∧
    p.lost = [] ∧ p.outs = [] ∧ p.drop = [] ∧ p.ref = true ∧ chooseBuf s c = some (b, false) ∧ b < 64) ∧
    (∃ c, ∃ j, ∃ r : VidRes, ∃ s : State, s.vid.jobs.find? (fun j => j.ctx = c && j.st = 1) = some j ∧ r.env = {} ∧
    waitsReRead s (.codec c) = false ∧ let v := j.engines.headD 0; j.encode = false ∧ j.op = 2) ∧
    (∃ c, ∃ j, ∃ r : VidRes, ∃ s : State, s.vid.jobs.find? (fun j => j.ctx = c && j.st = 1) = some j ∧ r.env = {} ∧
    waitsReRead s (.codec c) = false ∧ let v := j.engines.headD 0; j.encode = true ∧ j.op = 1 ∧ j.ctx = c ∧
    let n := planeBytes (vpar s c 4 2) (vpar s c 6 2) (bitsOf (vpar s c 0 1) 5 1 = 1) (bitsOf (vpar s c 0 1) 4 1 = 1); ∃ st,
    accessFail s j.tenant j.src n = some st) ∧
    (∃ c, ∃ j, ∃ r : VidRes, ∃ s : State, s.vid.jobs.find? (fun j => j.ctx = c && j.st = 1) = some j ∧ r.env = {} ∧
    waitsReRead s (.codec c) = false ∧ let v := j.engines.headD 0; j.encode = true ∧ j.op = 1 ∧ j.ctx = c ∧
    let n := planeBytes (vpar s c 4 2) (vpar s c 6 2) (bitsOf (vpar s c 0 1) 5 1 = 1) (bitsOf (vpar s c 0 1) 4 1 = 1);
    accessFail s j.tenant j.src n = none ∧ rangePoison s j.src n = true) ∧
    (∃ c, ∃ j, ∃ r : VidRes, ∃ s : State, s.vid.jobs.find? (fun j => j.ctx = c && j.st = 1) = some j ∧ r.env = {} ∧
    waitsReRead s (.codec c) = false ∧ let v := j.engines.headD 0; j.encode = true ∧ j.op = 1 ∧ j.ctx = c ∧
    let n := planeBytes (vpar s c 4 2) (vpar s c 6 2) (bitsOf (vpar s c 0 1) 5 1 = 1) (bitsOf (vpar s c 0 1) 4 1 = 1); ∃ p :
    EncPic, accessFail s j.tenant j.src n = none ∧ rangePoison s j.src n = false ∧ r.coded = [p] ∧ tenSeals s j.tenant = false
    ∧ let bs := (p.bytes.take (outBound (vpar s c 4 2) (vpar s c 6 2) (bitsOf (vpar s c 0 1) 5 1 = 1))).take j.cap; bs ≠ []) ∧
    (∃ j : VJob, ∃ n, ∃ st, ∃ d, ∃ s : State, let t := endJob s j n st d; j.st = 1) ∧
    (∃ q, ∃ r : RunCmd, ∃ s : State, running s q 0x12 = some r ∧ ∃ st, preCheck s r = some st) ∧
    (∃ q, ∃ r : RunCmd, ∃ s : State, running s q 0x12 = some r ∧ preCheck s r = none) ∧
    (∃ s : State, (s.vid.preRun.isSome = true ∨ dom s 392 ≠ 0 ∨ admissionsStopped s = true ∨ s.vid.pre = [])) ∧
    (∃ j : PreJob, ∃ l, ∃ s : State, s.vid.preRun = none ∧ dom s 392 = 0 ∧ s.boot.preset ≠ some 392 ∧ admissionsStopped s =
    false ∧ s.vid.pre = j :: l ∧ (j.live = true ∨ ∀ x ∈ l, x.live = false)) ∧
    (∃ j : PreJob, ∃ s : State, s.vid.pre.find? (fun j => s.vid.preRun = some j.serial) = some j ∧ waitsReRead s .vpre = false
    ∧ fieldAt j.entry 19 1 = 1 ∧
    let bad := [(fieldAt j.entry 32 8, preSource j.entry), (fieldAt j.entry 40 8, 8), (fieldAt j.entry 56 8, 24)].any (fun x => rangePoison s x.1 x.2);
    bad = true) ∧
    (∃ j : PreJob, ∃ s : State, s.vid.pre.find? (fun j => s.vid.preRun = some j.serial) = some j ∧ waitsReRead s .vpre = false
    ∧ fieldAt j.entry 19 1 = 1 ∧
    let bad := [(fieldAt j.entry 32 8, preSource j.entry), (fieldAt j.entry 40 8, 8), (fieldAt j.entry 56 8, 24)].any (fun x => rangePoison s x.1 x.2);
    bad = false) ∧
    (∃ s : State, s.vid.preRun = none) :=
  ⟨⟨wr S0 R.PWR_STAT_EMERG_ACTIVE 1, by decide +kernel⟩,
    ⟨job1 false 1 0, [0], video1 0 (cmdOf 0 0 []) [job1 false 1 0], by decide +kernel⟩,
    ⟨0, job1 false 1 1, video1 0 (cmdOf 0 0 []) [(job1 false 1 1)], by decide +kernel⟩,
    ⟨0, { job1 false 1 1 with engines := [0] }, wr (wr (video1 0 (cmdOf 0 0 []) [({ job1 false 1 1 with engines := [0] }),
    { job1 false 1 0 with ctx := 1 }]) R.VID_CTX_STAT_ENGINES 1 0 1) R.VID_CTX_STAT_LIVE 1 0 1, by decide +kernel⟩,
    ⟨0, State.reset, by decide +kernel⟩,
    ⟨0, job1 false 1 1, {}, { video1 0 (cmdOf 0 0 []) [(job1 false 1 1)] with mem := { S0.mem with poison := [0] } },
    by (try dsimp only) <;> decide +kernel⟩,
    ⟨0, job1 false 1 1, { parses := false }, video1 0 (cmdOf 0 0 []) [(job1 false 1 1)],
    by (try dsimp only) <;> decide +kernel⟩,
    ⟨0, job1 false 1 1, { newSeq := true, dpb := 1, pics := [({ width := 16, height := 16, data := [], ref := true })] },
    video1 0 (cmdOf 0 0 []) [(job1 false 1 1)], by decide +kernel, by decide +kernel, by decide +kernel, by decide +kernel,
    by decide +kernel, { width := 16, height := 16, data := [], ref := true }, 0, by (try dsimp only) <;> decide +kernel⟩,
    ⟨0, job1 false 2 1, {}, video1 0 (cmdOf 0 0 []) [(job1 false 2 1)], by (try dsimp only) <;> decide +kernel⟩,
    ⟨0, { job1 true 1 1 with src := 2 ^ 26 }, {}, video1 1 (cmdOf 0 0 []) [({ job1 true 1 1 with src := 2 ^ 26 })],
    by decide +kernel, by decide +kernel, by decide +kernel, by decide +kernel, by decide +kernel, by decide +kernel,
    .memUnowned, by (try dsimp only) <;> decide +kernel⟩,
    ⟨0, job1 true 1 1, {}, { video1 1 (cmdOf 0 0 []) [(job1 true 1 1)] with mem := { S0.mem with poison := [0] } },
    by (try dsimp only) <;> decide +kernel⟩,
    ⟨0, job1 true 1 1, { coded := [({ kind := 0, units := [], bytes := [1] })] }, video1 1 (cmdOf 0 0 []) [(job1 true 1 1)],
    by decide +kernel, by decide +kernel, by decide +kernel, by decide +kernel, by decide +kernel, by decide +kernel,
    { kind := 0, units := [], bytes := [1] }, by (try dsimp only) <;> decide +kernel⟩,
    ⟨job1 false 1 1, 0, .ok, {}, State.reset, by (try dsimp only) <;> decide +kernel⟩,
    ⟨0, cmdOf 0 0 [(0, 1, 0x12)], withRun S0 0 (cmdOf 0 0 [(0, 1, 0x12)]), by decide +kernel, .lengthRange, by decide +kernel⟩,
    ⟨0, cmdOf 0 0 pre1, memWrite (withRun (owns0 S0) 0 (cmdOf 0 0 pre1)) 65536 [0, 0, 0, 0, 16, 0, 16, 0], by decide +kernel⟩,
    ⟨State.reset, by decide +kernel⟩,
    ⟨{ serial := 1, queue := 0, tenant := 0, entry := [], live := false }, [],
    { S0 with vid := { S0.vid with pre := [({ serial := 1, queue := 0, tenant := 0, entry := [], live := false })] } },
    by decide +kernel⟩,
    ⟨{ serial := 1, queue := 0, tenant := 0, entry := bytesOf 64 pre1, live := false },
    { S0 with vid := { S0.vid with pre := [({ serial := 1, queue := 0, tenant := 0, entry := bytesOf 64 pre1, live := false })], preRun := some 1 }, mem := { S0.mem with poison := [0] } },
    by (try dsimp only) <;> decide +kernel⟩,
    ⟨{ serial := 1, queue := 0, tenant := 0, entry := bytesOf 64 pre1, live := false },
    { S0 with vid := { S0.vid with pre := [({ serial := 1, queue := 0, tenant := 0, entry := bytesOf 64 pre1, live := false })], preRun := some 1 } },
    by (try dsimp only) <;> decide +kernel⟩,
    ⟨State.reset, by decide +kernel⟩⟩

/-- Inputs that meet the premises of each clause of `Obligations.EventRecorder`. -/
theorem witness_EventRecorder :
    (∃ ty, ∃ i, ∃ code, ∃ sev, ∃ tenant, ∃ s : State, (i < pageCount ty ∨ ty = 63) ∧ sev ≤ 3 ∧ code < 65536 ∧ tenant < 256 ∧
    s.boot.fatal = false) ∧
    (∃ ty, ∃ i, ∃ code, ∃ sev, ∃ tenant, ∃ detail, ∃ s : State, (i < pageCount ty ∨ ty = 63) ∧ sev ≤ 3 ∧ code < 65536 ∧ tenant
    < 256 ∧ s.boot.fatal = false ∧ let e := mkRec s ty i code sev tenant detail;
    let c := Instr.eventRecord ty i code sev tenant detail; (isFrozen s = true ∨ isFlushing s = true) ∧ s.evr.hold.length <
    1024) ∧
    (∃ ty, ∃ i, ∃ code, ∃ sev, ∃ tenant, ∃ detail, ∃ s : State, (i < pageCount ty ∨ ty = 63) ∧ sev ≤ 3 ∧ code < 65536 ∧ tenant
    < 256 ∧ s.boot.fatal = false ∧ let e := mkRec s ty i code sev tenant detail;
    let c := Instr.eventRecord ty i code sev tenant detail; (isFrozen s = true ∨ isFlushing s = true) ∧ 1024 ≤
    s.evr.hold.length) ∧
    (∃ ty, ∃ i, ∃ code, ∃ sev, ∃ tenant, (¬(i < pageCount ty ∨ ty = 63) ∨ 4 < sev ∨ 65536 ≤ code ∨ 256 ≤ tenant)) ∧
    (∃ ty, ∃ i, ∃ code, ∃ tenant, ∃ s : State, (i < pageCount ty ∨ ty = 63) ∧ code < 65536 ∧ tenant < 256 ∧ rd s
    R.BOOT_CFG_FATAL_ACTION = 0) ∧
    (∃ w : Writer, ∃ s : State, Writable s w 23 0) ∧
    (∃ s : State, pageServed s 23 0 = true ∧ isFrozen s = false) ∧
    (∃ s : State, pageServed s 23 0 = true ∧ isFrozen s = true) ∧
    (∃ s : State, pageServed s 23 0 = true) ∧
    (∃ s : State, isFrozen s = true) ∧
    (∃ s : State, isFrozen s = false) ∧
    (∃ s : State, s.evr.copying = true ∧ rd s R.BOOT_STAT_RECOVERY = 0) ∧
    (∃ s : State, s.evr.copying = false) ∧
    (∃ w : Writer, ∃ s : State, Writable s w 23 0 ∧ isFrozen s = false) ∧
    (∃ w : Writer, ∃ s : State, Writable s w 23 0 ∧ isFrozen s = true) ∧
    (∃ s : State, pageServed s 23 0 = true ∧ let m := rd s R.EVR_MET_SEL; isFrozen s = false) ∧
    (∃ s : State, pageServed s 23 0 = true ∧ let m := rd s R.EVR_MET_SEL; isFrozen s = true) ∧
    (∃ m, ∃ s : State, isFrozen s = false ∧ m < 1024) ∧
    (∃ m, ∃ s : State, (isFrozen s = true ∨ 1024 ≤ m)) :=
  ⟨⟨26, 0, 65535, 3, 255, State.reset, by decide +kernel⟩,
    ⟨63, 0, 65535, 3, 255, [], wr S0 R.EVR_STAT_FROZEN 1, by (try dsimp only) <;> decide +kernel⟩,
    ⟨0, 0, 0, 0, 0, [], { wr S0 R.EVR_STAT_FROZEN 1 with evr := { S0.evr with hold := List.replicate 1024 rec1 } },
    by (try dsimp only) <;> decide +kernel⟩,
    ⟨0, 0, 0, 5, 0, by decide +kernel⟩,
    ⟨0, 0, 0, 0, wr S0 R.BOOT_CFG_FATAL_ACTION 0, by decide +kernel⟩,
    ⟨.host, State.reset, by dsimp only [Writable]; decide +kernel⟩,
    ⟨State.reset, by decide +kernel⟩,
    ⟨wr S0 R.EVR_STAT_FROZEN 1, by decide +kernel⟩,
    ⟨State.reset, by decide +kernel⟩,
    ⟨wr S0 R.EVR_STAT_FROZEN 1, by decide +kernel⟩,
    ⟨State.reset, by decide +kernel⟩,
    ⟨{ S0 with evr := { S0.evr with copying := true } }, by decide +kernel⟩,
    ⟨State.reset, by decide +kernel⟩,
    ⟨.host, State.reset, by dsimp only [Writable]; decide +kernel⟩,
    ⟨.host, wr S0 R.EVR_STAT_FROZEN 1, by dsimp only [Writable]; decide +kernel⟩,
    ⟨State.reset, by (try dsimp only) <;> decide +kernel⟩,
    ⟨wr S0 R.EVR_STAT_FROZEN 1, by (try dsimp only) <;> decide +kernel⟩,
    ⟨1023, State.reset, by decide +kernel⟩,
    ⟨0, wr S0 R.EVR_STAT_FROZEN 1, by decide +kernel⟩⟩

/-- Inputs that meet the premises of each clause of `Obligations.EventStore`. -/
theorem witness_EventStore :
    (∃ ty, ∃ i, ∃ code, ∃ sev, ∃ tenant, ∃ detail : List Nat, ∃ s : State, (i < pageCount ty ∨ ty = 63) ∧ sev ≤ 4 ∧ code <
    65536 ∧ tenant < 256 ∧ ((sev ≤ 3 ∧ s.boot.fatal = false) ∨ rd s R.BOOT_CFG_FATAL_ACTION = 0) ∧ isFrozen s = false ∧
    isFlushing s = false ∧ let e := mkRec s ty i code sev tenant detail;
    let latest := fun (r : Rec) => r.serial + 1 = tget 0 s.evr.latest (1024 * ty + i);
    let lower := fun (r : Rec) => r.severity ≤ sev ∧ r.severity ≠ 4; (∃ r ∈ s.evr.store, latest r ∧ isRepeat r e = true)) ∧
    (∃ ty, ∃ i, ∃ code, ∃ sev, ∃ tenant, ∃ detail : List Nat, ∃ s : State, (i < pageCount ty ∨ ty = 63) ∧ sev ≤ 4 ∧ code <
    65536 ∧ tenant < 256 ∧ ((sev ≤ 3 ∧ s.boot.fatal = false) ∨ rd s R.BOOT_CFG_FATAL_ACTION = 0) ∧ isFrozen s = false ∧
    isFlushing s = false ∧ let e := mkRec s ty i code sev tenant detail;
    let latest := fun (r : Rec) => r.serial + 1 = tget 0 s.evr.latest (1024 * ty + i);
    let lower := fun (r : Rec) => r.severity ≤ sev ∧ r.severity ≠ 4; (∀ r ∈ s.evr.store, latest r → isRepeat r e = false) ∧
    s.evr.store.length < 65536) ∧
    (∃ ty, ∃ i, ∃ code, ∃ sev, ∃ tenant, ∃ detail : List Nat, ∃ s : State, (i < pageCount ty ∨ ty = 63) ∧ sev ≤ 4 ∧ code <
    65536 ∧ tenant < 256 ∧ ((sev ≤ 3 ∧ s.boot.fatal = false) ∨ rd s R.BOOT_CFG_FATAL_ACTION = 0) ∧ isFrozen s = false ∧
    isFlushing s = false ∧ let e := mkRec s ty i code sev tenant detail;
    let latest := fun (r : Rec) => r.serial + 1 = tget 0 s.evr.latest (1024 * ty + i);
    let lower := fun (r : Rec) => r.severity ≤ sev ∧ r.severity ≠ 4; (∀ r ∈ s.evr.store, latest r → isRepeat r e = false) ∧
    65536 ≤ s.evr.store.length ∧ (∃ r ∈ s.evr.store, lower r)) ∧
    (∃ ty, ∃ i, ∃ code, ∃ sev, ∃ tenant, ∃ detail : List Nat, ∃ s : State, (i < pageCount ty ∨ ty = 63) ∧ sev ≤ 4 ∧ code <
    65536 ∧ tenant < 256 ∧ ((sev ≤ 3 ∧ s.boot.fatal = false) ∨ rd s R.BOOT_CFG_FATAL_ACTION = 0) ∧ isFrozen s = false ∧
    isFlushing s = false ∧ let e := mkRec s ty i code sev tenant detail;
    let latest := fun (r : Rec) => r.serial + 1 = tget 0 s.evr.latest (1024 * ty + i);
    let lower := fun (r : Rec) => r.severity ≤ sev ∧ r.severity ≠ 4; (∀ r ∈ s.evr.store, latest r → isRepeat r e = false) ∧
    65536 ≤ s.evr.store.length ∧ (∀ r ∈ s.evr.store, ¬lower r)) :=
  ⟨⟨0, 0, 0, 0, 0, [], { S0 with evr := { S0.evr with store := [mkRec S0 0 0 0 0 0 []], latest := [(0, 1)] } },
    by (try dsimp only) <;> decide +kernel⟩,
    ⟨0, 0, 0, 4, 0, [], wr S0 R.BOOT_CFG_FATAL_ACTION 0, by (try dsimp only) <;> decide +kernel⟩,
    ⟨0, 0, 0, 0, 0, [], fullN 65536 rec1, by decide, by decide, by decide, by decide, by decide +kernel, by decide +kernel,
    by decide +kernel, fun _ _ h => absurd h (fullN_latest _ _ _ _), fullN_length .., rec1, fullN_mem _ _ (by decide),
    by decide +kernel⟩,
    ⟨0, 0, 0, 3, 0, [], fullN 65536 { rec1 with severity := 4 }, by decide, by decide, by decide, by decide,
    by decide +kernel, by decide +kernel, by decide +kernel, fun _ _ h => absurd h (fullN_latest _ _ _ _), fullN_length ..,
    fun r hr => by rw [fullN_eq _ _ _ hr]; decide +kernel⟩⟩

/-- Inputs that meet the premises of each clause of `Obligations.Flushes`. -/
theorem witness_Flushes :
    (∃ s : State, pageServed s 23 0 = true ∧ max (bankSeq s.evr.bank0) (bankSeq s.evr.bank1) + 1 < 2 ^ 64 ∧ s.evr.flush =
    none) ∧
    (∃ f, ∃ s : State, pageServed s 23 0 = true ∧ s.evr.flush = some f) ∧
    (∃ s : State, s.evr.flush = none ∧ max (bankSeq s.evr.bank0) (bankSeq s.evr.bank1) + 1 < 2 ^ 64) ∧
    (∃ s : State, isFlushing s = true) ∧
    (∃ f, ∃ s : State, s.evr.flush = some f) ∧
    (∃ f, ∃ s : State, s.evr.flush = some f ∧ f.bank ≤ 1) ∧
    (∃ s : State, s.evr.flush = none) :=
  ⟨⟨State.reset, by decide +kernel⟩,
    ⟨{ bank := 1, data := bankOf S0 3 1 },
    { S0 with evr := { S0.evr with flush := some { bank := 1, data := bankOf S0 3 1 } } }, by decide +kernel⟩,
    ⟨State.reset, by decide +kernel⟩,
    ⟨{ S0 with evr := { S0.evr with flush := some { bank := 1, data := bankOf S0 3 1 } } }, by decide +kernel⟩,
    ⟨{ bank := 1, data := bankOf S0 3 1 },
    { S0 with evr := { S0.evr with flush := some { bank := 1, data := bankOf S0 3 1 } } }, by decide +kernel⟩,
    ⟨{ bank := 1, data := bankOf S0 3 1 },
    { S0 with evr := { S0.evr with flush := some { bank := 1, data := bankOf S0 3 1 } } }, by decide +kernel⟩,
    ⟨State.reset, by decide +kernel⟩⟩

/-- Inputs that meet the premises of each clause of `Obligations.StartUp`. -/
theorem witness_StartUp :
    (∃ s : State, (s.pwr.good = true ∨ s.pwr.fed = false)) ∧
    (∃ e : StartEnv, ∃ s : State, s.pwr.good = false ∧ s.pwr.fed = true ∧ e.bad0 ≠ 0 ∧ e.bad1 ≠ 0 ∧ s.boot.toRecovery = false
    ∧ verifies s e 0 = none) ∧
    (∃ e : StartEnv, ∃ s : State, s.pwr.good = false ∧ s.pwr.fed = true ∧ e.bad0 ≠ 0 ∧ e.bad1 ≠ 0 ∧ s.boot.toRecovery = false
    ∧ verifies s e 0 ≠ none ∧ verifies s e 1 ≠ none ∧ verifies s e 2 = none) ∧
    (∃ e : StartEnv, ∃ s : State, s.pwr.good = false ∧ s.pwr.fed = true ∧ e.bad0 ≠ 0 ∧ e.bad1 ≠ 0 ∧ s.boot.toRecovery = false
    ∧ verifies s e 0 ≠ none ∧ verifies s e 1 ≠ none ∧ verifies s e 2 ≠ none) ∧
    (∃ s : State, s.pwr.good = true ∧ s.boot.straps = none) ∧
    (∃ s : State, (s.pwr.good = false ∨ s.boot.straps ≠ none)) ∧
    (∃ s : State, (rd s R.BOOT_STAT_STAGE ≠ 4 ∨ s.pwr.dusk ≠ none)) ∧
    (∃ k, ∃ b, ∃ s : State, rd s R.BOOT_STAT_STAGE = 4 ∧ s.pwr.dusk = none ∧ selectedBank s = some (k, b) ∧ s.boot.fatal =
    false ∧ s.pwr.overvolt = false ∧ s.boot.cold = true ∧ b.settings = [] ∧ s.evr.hold = []) ∧
    (∃ k, ∃ b, ∃ s : State, rd s R.BOOT_STAT_STAGE = 4 ∧ s.pwr.dusk = none ∧ selectedBank s = some (k, b) ∧ s.boot.fatal =
    false ∧ s.pwr.overvolt = false ∧ s.boot.cold = false ∧ s.boot.settings = []) ∧
    (∃ s : State, rd s R.BOOT_STAT_STAGE = 7) ∧
    (∃ s : State, rd s R.BOOT_STAT_STAGE ≠ 7) ∧
    (∃ s : State, rd s R.BOOT_STAT_STAGE = 8) ∧
    (∃ s : State, rd s R.BOOT_STAT_STAGE ≠ 8) ∧
    (∃ x, ∃ s : State, s.host.perst = some x ∧ rd s R.BOOT_STAT_STAGE = 9 ∧ rd s R.BOOT_STAT_RECOVERY ≠ 1 ∧ s.boot.warm = none
    ∧ s.pwr.dusk = none) ∧
    (∃ s : State, (s.host.perst = none ∨ rd s R.BOOT_STAT_STAGE ≠ 9 ∨ rd s R.BOOT_STAT_RECOVERY = 1)) ∧
    (∃ s : State, (s.pwr.dusk ≠ none ∨ s.host.inReset = true)) ∧
    (∃ s : State, s.pwr.dusk = none ∧ s.host.inReset = false ∧ rd s R.BOOT_CFG_PERST_SCOPE = 0) ∧
    (∃ s : State, s.pwr.dusk = none ∧ s.host.inReset = false ∧ rd s R.BOOT_CFG_PERST_SCOPE = 1 ∧ s.pwr.good = true ∧
    s.boot.warm = none) ∧
    (∃ s : State, s.pwr.dusk = none ∧ s.host.inReset = false ∧ rd s R.BOOT_CFG_PERST_SCOPE = 2 ∧ s.pwr.good = true) ∧
    (∃ x, ∃ s : State, s.host.perst = some x ∧ rd s R.HOST_STAT_READY ≠ 1 ∧ rd s R.BOOT_STAT_RECOVERY ≠ 1 ∧ s.boot.warm = none
    ∧ s.pwr.dusk = none ∧ rd s R.BOOT_STAT_TRIAL ≠ 1) ∧
    (∃ x, ∃ s : State, s.host.perst = some x ∧ rd s R.HOST_STAT_READY ≠ 1 ∧ rd s R.BOOT_STAT_RECOVERY ≠ 1 ∧ s.boot.warm = none
    ∧ s.pwr.dusk = none ∧ rd s R.BOOT_STAT_TRIAL = 1 ∧ rd s R.BOOT_STAT_READY = 0 ∧ s.pwr.good = true) ∧
    (∃ s : State, (s.host.perst = none ∨ rd s R.HOST_STAT_READY = 1)) :=
  ⟨⟨{ S0 with pwr := { S0.pwr with good := true } }, by decide +kernel⟩,
    ⟨{ sigs := [0], opSigs := [], bad0 := 1, bad1 := 1 }, norIn S0 0, by decide +kernel⟩,
    ⟨{ sigs := [2], opSigs := [], bad0 := 1, bad1 := 1 }, norIn S0 2, by decide +kernel, by decide +kernel, by decide +kernel,
    by decide +kernel, by decide +kernel, verifies_unsigned _ _ _ rfl, verifies_unsigned _ _ _ rfl, by decide +kernel⟩,
    ⟨{ sigs := [], opSigs := [], bad0 := 1, bad1 := 1 }, State.reset, by decide +kernel, by decide +kernel, by decide +kernel,
    by decide +kernel, by decide +kernel, verifies_unsigned _ _ _ rfl, verifies_unsigned _ _ _ rfl, verifies_unsigned _ _ _
    rfl⟩,
    ⟨{ S0 with pwr := { S0.pwr with good := true } }, by decide +kernel⟩,
    ⟨State.reset, by decide +kernel⟩,
    ⟨State.reset, by decide +kernel⟩,
    ⟨0, bankOf S0 3 1,
    { wr S0 R.BOOT_STAT_STAGE 4 with evr := { S0.evr with bank0 := some (bankOf S0 3 1) }, boot := { S0.boot with cold := true } },
    by decide +kernel⟩,
    ⟨0, bankOf S0 3 1,
    { wr S0 R.BOOT_STAT_STAGE 4 with evr := { S0.evr with bank0 := some (bankOf S0 3 1) }, boot := { S0.boot with cold := false } },
    by decide +kernel⟩,
    ⟨wr S0 R.BOOT_STAT_STAGE 7, by decide +kernel⟩,
    ⟨State.reset, by decide +kernel⟩,
    ⟨wr S0 R.BOOT_STAT_STAGE 8, by decide +kernel⟩,
    ⟨State.reset, by decide +kernel⟩,
    ⟨5, { wr S0 R.BOOT_STAT_STAGE 9 with host := { S0.host with perst := some 5 } }, by decide +kernel⟩,
    ⟨State.reset, by decide +kernel⟩,
    ⟨State.reset, by decide +kernel⟩,
    ⟨{ wr S0 R.BOOT_CFG_PERST_SCOPE 0 with host := { S0.host with inReset := false } }, by decide +kernel⟩,
    ⟨{ wr S0 R.BOOT_CFG_PERST_SCOPE 1 with host := { S0.host with inReset := false }, pwr := { S0.pwr with good := true } },
    by decide +kernel⟩,
    ⟨{ wr S0 R.BOOT_CFG_PERST_SCOPE 2 with host := { S0.host with inReset := false }, pwr := { S0.pwr with good := true } },
    by decide +kernel⟩,
    ⟨5, { S0 with host := { S0.host with perst := some 5 } }, by decide +kernel⟩,
    ⟨5, { wr S0 R.BOOT_STAT_TRIAL 1 with host := { S0.host with perst := some 5 }, pwr := { S0.pwr with good := true } },
    by decide +kernel⟩,
    ⟨State.reset, by decide +kernel⟩⟩

/-- Inputs that meet the premises of each clause of `Obligations.Resets`. -/
theorem witness_Resets :
    (∃ w : Writer, ∃ s : State, Writable s w 26 0 ∧ s.pwr.good = true ∧ s.pwr.dusk = none) ∧
    (∃ w : Writer, ∃ s : State, Writable s w 26 0 ∧ (s.pwr.good = false ∨ s.pwr.dusk ≠ none)) ∧
    (∃ w : Writer, ∃ s : State, Writable s w 26 0 ∧ s.pwr.good = true ∧ s.pwr.dusk = none ∧ s.boot.warm = none) ∧
    (∃ w : Writer, ∃ x, ∃ s : State, Writable s w 26 0 ∧ s.boot.warm = some x) ∧
    (∃ s : State, s.pwr.good = true ∧ s.pwr.dusk = none ∧ s.boot.warm = none) ∧
    (∃ s : State, s.boot.warm ≠ none) ∧
    (∃ x, ∃ s : State, s.boot.warm = some x ∧ s.pwr.dusk = none ∧ launchRuns s = true) ∧
    (∃ s : State, (s.boot.warm = none ∨ launchRuns s = false)) ∧
    (∃ s : State, s.boot.warm ≠ none ∧ launchRuns s = false ∧ s.pwr.dusk = none) ∧
    (∃ s : State, (s.boot.warm = none ∨ launchRuns s = true ∨ s.pwr.dusk ≠ none)) ∧
    (∃ w : Writer, ∃ d, ∃ s : State, Writable s w 26 0 ∧ d ≤ 401 ∧ rd s R.BOOT_PRESET_STAT_BUSY = 1) ∧
    (∃ w : Writer, ∃ d, ∃ s : State, Writable s w 26 0 ∧ d ≤ 401 ∧ ∃ st, rd s R.BOOT_PRESET_STAT_BUSY ≠ 1 ∧ presetRefusal s d
    = some st) ∧
    (∃ w : Writer, ∃ d, ∃ s : State, Writable s w 26 0 ∧ d ≤ 401 ∧ rd s R.BOOT_PRESET_STAT_BUSY ≠ 1 ∧ presetRefusal s d = none
    ∧ s.pwr.dusk = none ∧ s.boot.warm = none) ∧
    (∃ d, (d = 372 ∨ d = 398 ∨ d = 400 ∨ d = 401)) ∧
    (∃ d, 376 ≤ d ∧ d < 393) ∧
    (∃ d, ∃ s : State, s.boot.preset = some d ∧ presetWaits s d = false ∧ d < 393) ∧
    (∃ s : State, (s.boot.preset = none ∨ ∃ d, s.boot.preset = some d ∧ presetWaits s d = true)) :=
  ⟨⟨.host, { S0 with pwr := { S0.pwr with good := true } }, by dsimp only [Writable]; decide +kernel⟩,
    ⟨.host, State.reset, by dsimp only [Writable]; decide +kernel⟩,
    ⟨.host, { S0 with pwr := { S0.pwr with good := true } }, by dsimp only [Writable]; decide +kernel⟩,
    ⟨.host, 5, { S0 with boot := { S0.boot with warm := some 5 } }, by dsimp only [Writable]; decide +kernel⟩,
    ⟨{ S0 with pwr := { S0.pwr with good := true } }, by decide +kernel⟩,
    ⟨{ S0 with boot := { S0.boot with warm := some 5 } }, by decide +kernel⟩,
    ⟨5, setPart { S0 with boot := { S0.boot with warm := some 5 } } 0 { running := some run1 }, by decide +kernel⟩,
    ⟨State.reset, by decide +kernel⟩,
    ⟨{ S0 with boot := { S0.boot with warm := some 5 } }, by decide +kernel⟩,
    ⟨State.reset, by decide +kernel⟩,
    ⟨.host, 401, wr S0 R.BOOT_PRESET_STAT_BUSY 1, by dsimp only [Writable]; decide +kernel⟩,
    ⟨.host, 401, State.reset, by dsimp only [Writable]; decide +kernel, by decide +kernel, .fieldReserved, by decide +kernel⟩,
    ⟨.host, 392, State.reset, by dsimp only [Writable]; decide +kernel⟩,
    ⟨401, by decide +kernel⟩,
    ⟨392, by decide +kernel⟩,
    ⟨391, { S0 with boot := { S0.boot with preset := some 391 } }, by decide +kernel⟩,
    ⟨State.reset, by decide +kernel⟩⟩

/-- Inputs that meet the premises of each clause of `Obligations.FirmwareStaging`. -/
theorem witness_FirmwareStaging :
    (∃ w : Writer, ∃ s : State, Writable s w 25 0 ∧ rd s R.FWU_CHUNK_SEL_DEVICE = 0) ∧
    (∃ w : Writer, ∃ m : List Byte, ∃ s : State, Writable s w 25 0 ∧ rd s R.FWU_CHUNK_SEL_DEVICE = 0 ∧ m.length = rd s
    R.FWU_MAN_LEN ∧ manLen m = m.length ∧ manRanges m = true ∧ ∃ st, beginCheck s m = some st) ∧
    (∃ w : Writer, ∃ m : List Byte, ∃ s : State, Writable s w 25 0 ∧ rd s R.FWU_CHUNK_SEL_DEVICE = 0 ∧ m.length = rd s
    R.FWU_MAN_LEN ∧ manLen m = m.length ∧ manRanges m = true ∧ beginCheck s m = none ∧ rd s R.FWU_STAT_STATE = 0) ∧
    (∃ w : Writer, ∃ s : State, Writable s w 25 0 ∧ s.boot.chunk.isSome = true) ∧
    (∃ w : Writer, ∃ s : State, Writable s w 25 0 ∧ ∃ st, s.boot.chunk = none ∧ chunkCheck s (rd s R.FWU_CHUNK_SEL_INDEX) =
    some st) ∧
    (∃ w : Writer, ∃ bs : List Byte, ∃ s : State, Writable s w 25 0 ∧ s.boot.chunk = none ∧ rd s R.FWU_CHUNK_SEL_DEVICE = 0 ∧
    let i := rd s R.FWU_CHUNK_SEL_INDEX; chunkCheck s i = none ∧ bs.length = chunkLen (stagedMan s) i ∧ chunkGood (stagedMan
    s) i bs = false) ∧
    (∃ w : Writer, ∃ bs : List Byte, ∃ s : State, Writable s w 25 0 ∧ s.boot.chunk = none ∧ rd s R.FWU_CHUNK_SEL_DEVICE = 0 ∧
    let i := rd s R.FWU_CHUNK_SEL_INDEX; chunkCheck s i = none ∧ bs.length = chunkLen (stagedMan s) i ∧ chunkGood (stagedMan
    s) i bs = true ∧ bitSet s i = false) ∧
    (∃ i, ∃ bs, ∃ c, ∃ s : State, s.boot.chunk = some (i, bs, c) ∧ i < 511 ∧ bitSet s i = false) ∧
    (∃ i, ∃ bs, ∃ c, ∃ s : State, s.boot.chunk = some (i, bs, c) ∧ i < 511) ∧
    (∃ s : State, s.boot.chunk = none) ∧
    (∃ w : Writer, ∃ s : State, Writable s w 25 0 ∧ rd s R.FWU_STAT_STATE = 2) ∧
    (∃ w : Writer, ∃ s : State, Writable s w 25 0 ∧ rd s R.FWU_STAT_STATE ≠ 2) ∧
    (∃ w : Writer, ∃ s : State, Writable s w 25 0 ∧ rd s R.FWU_STAT_STATE ≠ 0) ∧
    (∃ w : Writer, ∃ s : State, Writable s w 25 0 ∧ rd s R.FWU_STAT_STATE = 0) ∧
    (∃ w : Writer, ∃ s : State, Writable s w 25 0 ∧ onTrial s = true ∧ s.boot.warm = none) ∧
    (∃ w : Writer, ∃ s : State, Writable s w 25 0 ∧ onTrial s = false) ∧
    (∃ s : State, onTrial s = true ∧ s.boot.warm = none ∧ s.pwr.dusk = none ∧ s.pwr.good = true) ∧
    (∃ s : State, onTrial s = true) ∧
    (∃ s : State, onTrial s = false) :=
  ⟨⟨.host, State.reset, by dsimp only [Writable]; decide +kernel⟩,
    ⟨.host, man1, regs S0 [(R.FWU_MAN_LEN, 210, 0, 0), (R.FWU_STAT_STATE, 3, 0, 0)], by dsimp only [Writable]; decide +kernel,
    by decide +kernel, by decide +kernel, by decide +kernel, by decide +kernel, .slotState, by decide +kernel⟩,
    ⟨.host, man1, wr S0 R.FWU_MAN_LEN 210, by dsimp only [Writable]; decide +kernel⟩,
    ⟨.host, { S0 with boot := { S0.boot with chunk := some (0, [], false) } }, by dsimp only [Writable]; decide +kernel⟩,
    ⟨.host, State.reset, by dsimp only [Writable]; decide +kernel, .slotState, by decide +kernel⟩,
    ⟨.host, [1], wr (norIn S0 0) R.FWU_STAT_STATE 1, by dsimp only [Writable]; decide +kernel⟩,
    ⟨.host, [0], wr (norIn S0 0) R.FWU_STAT_STATE 1, by dsimp only [Writable]; decide +kernel⟩,
    ⟨510, [], false, { S0 with boot := { S0.boot with chunk := some (510, [], false) } }, by decide +kernel⟩,
    ⟨510, [], false, { S0 with boot := { S0.boot with chunk := some (510, [], false) } }, by decide +kernel⟩,
    ⟨State.reset, by decide +kernel⟩,
    ⟨.host, wr S0 R.FWU_STAT_STATE 2, by dsimp only [Writable]; decide +kernel⟩,
    ⟨.host, State.reset, by dsimp only [Writable]; decide +kernel⟩,
    ⟨.host, wr S0 R.FWU_STAT_STATE 1, by dsimp only [Writable]; decide +kernel⟩,
    ⟨.host, State.reset, by dsimp only [Writable]; decide +kernel⟩,
    ⟨.host, wr S0 R.BOOT_STAT_TRIAL 1, by dsimp only [Writable]; decide +kernel⟩,
    ⟨.host, State.reset, by dsimp only [Writable]; decide +kernel⟩,
    ⟨{ wr S0 R.BOOT_STAT_TRIAL 1 with pwr := { S0.pwr with good := true } }, by decide +kernel⟩,
    ⟨wr S0 R.BOOT_STAT_TRIAL 1, by decide +kernel⟩,
    ⟨State.reset, by decide +kernel⟩⟩

/-- Inputs that meet the premises of each clause of `Obligations.FirmwareChain`. -/
theorem witness_FirmwareChain :
    (∃ s : State, hiveState s ≠ 2) ∧
    (∃ s : State, hiveState s = 2 ∧ rd s R.FWU_CFG_CHAIN_ACCEPT = 0) ∧
    (∃ m : List Byte, ∃ s : State, hiveState s = 2 ∧ rd s R.FWU_CFG_CHAIN_ACCEPT ≠ 0 ∧ manRanges m = true ∧ manLen m =
    m.length ∧ ∃ st, beginCheck s m = some st) ∧
    (∃ m : List Byte, ∃ s : State, hiveState s = 2 ∧ rd s R.FWU_CFG_CHAIN_ACCEPT ≠ 0 ∧ manRanges m = true ∧ manLen m =
    m.length ∧ beginCheck s m = none ∧ rd s R.FWU_STAT_STATE = 0) ∧
    (∃ s : State, hiveState s = 2 ∧ s.boot.chunk.isSome = true) ∧
    (∃ i, ∃ bs : List Byte, ∃ s : State, hiveState s = 2 ∧ s.boot.chunk = none ∧ chunkCheck s i = none ∧ bs.length = chunkLen
    (stagedMan s) i ∧ chunkGood (stagedMan s) i bs = true ∧ bitSet s i = false) ∧
    (∃ p, ∃ s : State, forwards s = true ∧ p ∈ childPorts s ∧ (child s p).sentMan = false) ∧
    (∃ p, ∃ s : State, forwards s = true ∧ p ∈ childPorts s ∧ ∃ i, (child s p).sentMan = true ∧ nextChunk s (child s p) = some
    i) ∧
    (∃ p, ∃ s : State, forwards s = true ∧ p ∈ childPorts s ∧ (child s p).sentMan = true ∧ nextChunk s (child s p) = none) ∧
    (∃ p, ∃ s : State, (forwards s = false ∨ p ∉ childPorts s)) ∧
    (∃ s : State, hiveState s = 2 ∧ rd s R.FWU_STAT_STATE ≠ 0 ∧ isQueen s = false ∧ rd s R.WAG_REF_NONE = 0 ∧ portUp s (rd s
    R.WAG_REF_UPSTREAM) = true) ∧
    (∃ id, ∃ bits, ∃ s : State, hiveState s = 2 ∧ isQueen s = true ∧ rd s R.FWU_STAT_STATE ≠ 0 ∧ bitmapFull s bits = true ∧
    s.boot.complete.contains id = false) ∧
    (∃ id, ∃ bits, ∃ s : State, hiveState s = 2 ∧ isQueen s = true ∧ rd s R.FWU_STAT_STATE ≠ 0 ∧ bitmapFull s bits = true ∧
    s.boot.complete.contains id = true) ∧
    (∃ s : State, hiveState s = 2 ∧ isQueen s = false ∧ rd s R.WAG_REF_NONE = 0 ∧ portUp s (rd s R.WAG_REF_UPSTREAM) = true) :=
  ⟨⟨State.reset, by decide +kernel⟩,
    ⟨wr hive1 R.FWU_CFG_CHAIN_ACCEPT 0, by decide +kernel⟩,
    ⟨man1, wr hive1 R.FWU_STAT_STATE 3, by decide +kernel, by decide +kernel, by decide +kernel, by decide +kernel,
    .slotState, by decide +kernel⟩,
    ⟨man1, hive1, by decide +kernel⟩,
    ⟨{ hive1 with boot := { S0.boot with chunk := some (0, [], false) } }, by decide +kernel⟩,
    ⟨0, [0], wr (norIn hive1 0) R.FWU_STAT_STATE 1, by decide +kernel⟩,
    ⟨0, chain1, by decide +kernel⟩,
    ⟨0, { wr chain1 (R.FWU_BITMAP 0) 1 with boot := { S0.boot with chunks := 1, children := [(0, { sentMan := true })] } },
    by decide +kernel, by decide +kernel, 0, by decide +kernel⟩,
    ⟨0, { chain1 with boot := { S0.boot with chunks := 1, children := [(0, { sentMan := true })] } }, by decide +kernel⟩,
    ⟨0, State.reset, by decide +kernel⟩,
    ⟨regs hive1 [(R.FWU_STAT_STATE, 1, 0, 0), (R.WAG_REF_NONE, 0, 0, 0), (R.WAG_STAT_STATE, 3, 0, 0)], by decide +kernel⟩,
    ⟨1, [], wr queen1 R.FWU_STAT_STATE 1, by decide +kernel⟩,
    ⟨1, [], { wr queen1 R.FWU_STAT_STATE 1 with boot := { S0.boot with complete := [1] } }, by decide +kernel⟩,
    ⟨regs hive1 [(R.WAG_REF_NONE, 0, 0, 0), (R.WAG_STAT_STATE, 3, 0, 0)], by decide +kernel⟩⟩

/-- Inputs that meet the premises of each clause of `Obligations.Registers`. -/
theorem witness_Registers :
    (∃ ty, ∃ i, ∃ v, ∃ s : State, ty ≠ 27 ∧ pageThere s ty i = true ∧ v % 2 = 1 ∧ (ty = 26 → bitsOf v 1 1 = 0)) ∧
    (∃ ty, ∃ i, ∃ v, ∃ s : State, (pageThere s ty i = false ∨ (v % 2 = 0 ∧ (ty = 26 → bitsOf v 1 1 = 0)))) ∧
    (∃ ty, ∃ i, ∃ s : State, pageThere s ty i = true) ∧
    (∃ ty, ∃ i, ∃ s : State, pageThere s ty i = false) ∧
    (∃ off, ∃ bytes, ((bytes ≠ 4 ∨ off % 4 ≠ 0) ∧ (bytes ≠ 8 ∨ off % 8 ≠ 0))) ∧
    (∃ ty, ∃ i, ∃ off, ∃ s : State, (pageThere s ty i = false ∨ 4096 ≤ off)) ∧
    (∃ w : Writer, ∃ ty, ∃ i, ∃ off, ∃ v, ∃ e, ∃ s : State, ∃ t, off % 8 = 0 ∧ v < 2 ^ 64 ∧ exec (.registerWrite w ty i off 4
    (v % 2 ^ 32) e) s = .next t) ∧
    (∃ v, v < 2 ^ 32) ∧
    (∃ i, ∃ s : State, pageThere s 18 i = true) ∧
    (∃ i, ∃ s : State, pageThere s 8 i = true) ∧
    (∃ w : Writer, ∃ x, ∃ b, ∃ s : State, Writable s w 14 0 ∧ 1 ≤ x ∧ x < 2 ^ 24 ∧ b < 256) ∧
    (∃ w : Writer, ∃ b, ∃ s : State, Writable s w 14 0 ∧ b < 256 ∧ rd s R.HIVE_EXPEL_CFG_WINDOW ≠ 0) ∧
    (∃ x, ∃ b, ∃ s : State, pageServed s 14 0 = true ∧ rd s (hLocked 14) = 1 ∧ x < 2 ^ 24 ∧ b < 256 ∧ (x ≠ rd s
    R.HIVE_EXPEL_CFG_WINDOW ∨ b ≠ rd s R.HIVE_EXPEL_CFG_BUDGET)) ∧
    (∃ x, ∃ b, ∃ s : State, pageServed s 14 0 = true ∧ rd s (hLocked 14) = 1 ∧ x < 2 ^ 24 ∧ b < 256 ∧ x = rd s
    R.HIVE_EXPEL_CFG_WINDOW ∧ b = rd s R.HIVE_EXPEL_CFG_BUDGET) ∧
    (∃ s : State, dom s (pageDomain 14 0) ≠ 0) ∧
    (∃ v, ∃ s : State, pageServed s 19 0 = true ∧ v ≤ 10000) :=
  ⟨⟨25, 0, 1, State.reset, by decide +kernel⟩,
    ⟨28, 0, 0, State.reset, by decide +kernel⟩,
    ⟨0, 0, State.reset, by decide +kernel⟩,
    ⟨27, 0, State.reset, by decide +kernel⟩,
    ⟨0, 0, by decide +kernel⟩,
    ⟨0, 0, 4096, State.reset, by decide +kernel⟩,
    ⟨.host, 0, 0, 0, 0, {}, S0, S0, by decide +kernel, by decide +kernel, rfl⟩,
    ⟨2 ^ 32 - 1, by decide +kernel⟩,
    ⟨4, State.reset, by decide +kernel⟩,
    ⟨15, State.reset, by decide +kernel⟩,
    ⟨.host, 2 ^ 24 - 1, 255, State.reset, by dsimp only [Writable]; decide +kernel⟩,
    ⟨.host, 255, State.reset, by dsimp only [Writable]; decide +kernel⟩,
    ⟨0, 0, wr S0 (hLocked 14) 1, by decide +kernel⟩,
    ⟨86400, 1, wr S0 (hLocked 14) 1, by decide +kernel⟩,
    ⟨{ S0 with pwr := { S0.pwr with dom := [(pageDomain 14 0, 2)] } }, by decide +kernel⟩,
    ⟨10000, State.reset, by decide +kernel⟩⟩

/-- Inputs that meet the premises of `Obligations.IdleStep`. -/
theorem witness_IdleStep :
    ∃ s : State, s.pending = [] :=
  ⟨State.reset, by decide +kernel⟩

/-- Inputs that meet the premises of `Obligations.MemoryKept`. -/
theorem witness_MemoryKept :
    ∃ s : State, ∃ t, memoryOk s = true ∧ step s = .next t :=
  ⟨S0, passTime S0, by decide +kernel, rfl⟩

end Sys2Proof.Tests
end

section
/-!
Proofs for chapter 02: what a refused write, a changed margin raise and a taken write of a `PACE` page leave to read, and with
them the writes of the floor, the voltage limits and the margin table (R45, R47, R57).
-/

namespace Sys2Proof.Proofs

open Sys2Proof Sys2Proof.Machine Sys2Proof.Safety Sys2Proof.Certificates Sys2Proof.Laws

/-! ### A refused write (R485) -/

/-- A register of a page's own part never shares its place with one of the common header. -/
theorem fldCode_ne_of_header {f g : Fld} (hlo : 0x100 ≤ f.off) (hhi : f.off * 8 + f.lo < 2 ^ 15)
    (hg : g.off * 8 + g.lo < 0x800) : fldCode f ≠ fldCode g := by
  unfold fldCode
  omega

theorem rd_refuseWrite_of_body (s : State) (ty i off : Nat) (st : Status) {f : Fld} (hlo : 0x100 ≤ f.off)
    (hhi : f.off * 8 + f.lo < 2 ^ 15) (j k : Nat) : rd (refuseWrite s ty i off st) f j k = rd s f j k := by
  have hne : ∀ g : Fld, g.off * 8 + g.lo < 0x800 → fldCode f ≠ fldCode g := fun g => fldCode_ne_of_header hlo hhi
  unfold refuseWrite incWrap
  rw [rd_wr_ne (hne (hErrSeq ty) (by simp [hErrSeq])), rd_wr_ne (hne (hErrStatus ty) (by simp [hErrStatus])),
    rd_wr_ne (hne (hErrOffset ty) (by simp [hErrOffset]))]

theorem statusValue_lt (st : Status) : statusValue st < 2 ^ 16 := by
  cases st <;> decide

theorem rd_refuseWrite_hErrStatus (s : State) (ty i off : Nat) (st : Status) :
    rd (refuseWrite s ty i off st) (hErrStatus ty) i = statusValue st := by
  have hseq : fldCode (hErrStatus ty) ≠ fldCode (hErrSeq ty) := by simp [fldCode, hErrStatus, hErrSeq]
  unfold refuseWrite incWrap
  rw [rd_wr_ne hseq]
  exact rd_wr_fit _ _ _ _ (statusValue_lt st)

theorem rd_refuseWrite_hErrOffset (s : State) (ty i : Nat) {off : Nat} (st : Status) (hoff : off < 2 ^ 12) :
    rd (refuseWrite s ty i off st) (hErrOffset ty) i = off := by
  have hseq : fldCode (hErrOffset ty) ≠ fldCode (hErrSeq ty) := by simp [fldCode, hErrOffset, hErrSeq]
  have hst : fldCode (hErrOffset ty) ≠ fldCode (hErrStatus ty) := by simp [fldCode, hErrOffset, hErrStatus]
  unfold refuseWrite incWrap
  rw [rd_wr_ne hseq, rd_wr_ne hst]
  exact rd_wr_fit _ _ _ _ hoff

/-! ### A changed raise (R519) -/

theorem rd_raiseIrq {ty n : Nat} {f : Fld} (h : fldCode f ≠ fldCode (hIrqRaw ty n)) (s : State) (i j k : Nat) :
    rd (raiseIrq s ty i n) f j k = rd s f j k := by
  unfold raiseIrq
  split
  · rfl
  · dsimp only
    split
    · rw [rd_emit, rd_wr_ne h]
    · rw [rd_wr_ne h]

/-- The record and the interrupt of a changed raise leave the registers of the `PACE` page's own part. -/
theorem rd_raiseIrq_recordEvent {f : Fld} (hty : f.ty = 18) (hf : fldCode f ≠ fldCode (hIrqRaw 18 Irq.PACE_MARGIN_CHANGE))
    (s : State) (die code sev tenant : Nat) (detail : List Nat) (i k : Nat) :
    rd (raiseIrq (recordEvent s 18 die code sev tenant detail) 18 die Irq.PACE_MARGIN_CHANGE) f i k = rd s f i k := by
  rw [rd_raiseIrq hf]
  have hrec : Touches 0x180000000060010 s (recordEvent s 18 die code sev tenant detail) :=
    recordEvent_touches rfl (Touches.refl _ s)
  exact hrec.reads (by rw [hty]; rfl)

theorem rd_setRaise_same (s : State) (die entry : Nat) {v : Nat} (hv : v < 2 ^ 16) :
    rd (setRaise s die entry v) R.PACE_MARGIN_RAISE die entry = v := by
  unfold setRaise
  split
  · assumption
  · rw [rd_raiseIrq_recordEvent rfl (by decide)]
    exact rd_wr_fit _ _ _ _ hv

theorem rd_setRaise_ne {f : Fld} (hty : f.ty = 18) (hf : fldCode f ≠ fldCode (hIrqRaw 18 Irq.PACE_MARGIN_CHANGE))
    {die entry i k : Nat} (hkey : fldKey f i k ≠ fldKey R.PACE_MARGIN_RAISE die entry) (s : State) (v : Nat) :
    rd (setRaise s die entry v) f i k = rd s f i k := by
  unfold setRaise
  split
  · rfl
  · rw [rd_raiseIrq_recordEvent hty hf]
    exact tget_tset_ne _ _ hkey _ _

theorem setRaise_margin (s : State) (die entry v : Nat) : (setRaise s die entry v).comb.margin = s.comb.margin := by
  have h : Touches 0x184000000060010 s (setRaise s die entry v) := setRaise_touches rfl (Touches.refl _ s)
  exact h.same (c := .margins) rfl

/-! ### A cleared margin table (R57) -/

/-- Entry `n` of a die's margin table has no raise, no count and no errors. -/
def Cleared (die n : Nat) (s : State) : Prop :=
  rd s R.PACE_MARGIN_RAISE die n = 0 ∧ rd s R.PACE_MARGIN_ERRORS die n = 0 ∧ tget [] s.comb.margin (die * 64 + n) = []

/-- What CLEAR_ALL does to one entry. -/
def clearEntry (die : Nat) (s : State) (n : Nat) : State :=
  let t := wr (setRaise s die n 0) R.PACE_MARGIN_ERRORS 0 die n
  { t with comb := { t.comb with margin := tset [] (die * 64 + n) [] t.comb.margin } }

theorem clearEntry_clears (s : State) (die n : Nat) : Cleared die n (clearEntry die s n) := by
  refine ⟨?_, ?_, ?_⟩
  · calc rd (wr (setRaise s die n 0) R.PACE_MARGIN_ERRORS 0 die n) R.PACE_MARGIN_RAISE die n
        = rd (setRaise s die n 0) R.PACE_MARGIN_RAISE die n := rd_wr_ne (by decide) _ _ _ _ _ _
      _ = 0 := rd_setRaise_same s die n (by decide)
  · exact rd_wr_fit (setRaise s die n 0) R.PACE_MARGIN_ERRORS die n (v := 0) (by decide)
  · exact tget_tset_same [] (die * 64 + n) [] _

theorem clearEntry_keeps_cleared {s : State} {die n : Nat} (m : Nat) (h : Cleared die n s) :
    Cleared die n (clearEntry die s m) := by
  by_cases hnm : n = m
  · subst hnm
    exact clearEntry_clears s die n
  obtain ⟨hraise, herrors, hmargin⟩ := h
  refine ⟨?_, ?_, ?_⟩
  · calc rd (wr (setRaise s die m 0) R.PACE_MARGIN_ERRORS 0 die m) R.PACE_MARGIN_RAISE die n
        = rd (setRaise s die m 0) R.PACE_MARGIN_RAISE die n := rd_wr_ne (by decide) _ _ _ _ _ _
      _ = rd s R.PACE_MARGIN_RAISE die n := rd_setRaise_ne rfl (by decide) (fldKey_inst_ne _ (.inr hnm)) _ _
      _ = 0 := hraise
  · calc rd (wr (setRaise s die m 0) R.PACE_MARGIN_ERRORS 0 die m) R.PACE_MARGIN_ERRORS die n
        = rd (setRaise s die m 0) R.PACE_MARGIN_ERRORS die n := rd_wr_inst _ (.inr hnm) _ _
      _ = rd s R.PACE_MARGIN_ERRORS die n := rd_setRaise_ne rfl (by decide) (fldKey_ne (by decide) _ _ _ _) _ _
      _ = 0 := herrors
  · calc tget [] (tset [] (die * 64 + m) [] (setRaise s die m 0).comb.margin) (die * 64 + n)
        = tget [] (setRaise s die m 0).comb.margin (die * 64 + n) := tget_tset_ne _ _ (by omega) _ _
      _ = tget [] s.comb.margin (die * 64 + n) := by rw [setRaise_margin]
      _ = [] := hmargin

theorem foldl_clearEntry_clears (die n : Nat) (l : List Nat) (s : State) (h : Cleared die n s ∨ n ∈ l) :
    Cleared die n (l.foldl (clearEntry die) s) := by
  induction l generalizing s with
  | nil => exact h.resolve_right List.not_mem_nil
  | cons m l ih =>
    refine ih _ ?_
    rcases h with h | h
    · exact .inl (clearEntry_keeps_cleared m h)
    rcases List.mem_cons.1 h with rfl | h
    · exact .inl (clearEntry_clears s die n)
    · exact .inr h

theorem clearEntry_touches (die : Nat) (s : State) (n : Nat) : Touches 0x184000000260010 s (clearEntry die s n) :=
  Touches.comb_margin rfl (wr_touches rfl (setRaise_touches rfl (Touches.refl _ s)))

/-! ### A taken write of a `PACE` page -/

/-- The parts that a write of a `PACE` page may touch: its page and what a setting and a record leave behind. -/
def paceMask : Nat := 0x184000000060014

theorem sameBut_written_of_touches {s t : State} (h : Touches paceMask s t) : SameBut (written 18) s t :=
  h.sameBut (by decide) (by decide)

/-- A command that is a taken write ends in its effect `x`, followed by the note of a setting. -/
theorem exec_write_taken {c : Instr} {s x : State} {w : Writer} {ty i off : Nat} {touches : Bool} {k : State → State}
    {m : Nat} (hc : exec c s = .next (regWrite s w ty i off touches k)) (hs : pageServed s ty i = true)
    (hl : ¬(touches = true ∧ w = .host ∧ rd s (hLocked ty) i = 1)) (hk : k s = x)
    (hm : 0x180000000060014 &&& m = 0x180000000060014) (hx : Touches m s x) :
    ∃ t, exec c s = .next t ∧ Touches 0x180000000060014 x t ∧ Touches m s t := by
  have hn := noteSetting_after s x ty i off
  refine ⟨noteSetting s x ty i off, ?_, hn, hx.trans (hn.mono hm)⟩
  rw [hc, regWrite_taken hs hl, hk]

/-- A write of a `PACE` page that its values refuse: the page's own registers stay, and ERR_CODE names the register (R13). -/
theorem exec_write_refused {c : Instr} {s : State} {w : Writer} {i off : Nat} {touches : Bool} {k : State → State}
    (hc : exec c s = .next (regWrite s w 18 i off touches k)) (hs : pageServed s 18 i = true)
    (hl : ¬(touches = true ∧ w = .host ∧ rd s (hLocked 18) i = 1)) (hk : k s = refuseWrite s 18 i off .fieldReserved)
    (hoff : off < 2 ^ 12) :
    Ends c s (fun t =>
      (∀ f : Fld, f.ty = 18 → 0x100 ≤ f.off → f.off * 8 + f.lo < 2 ^ 15 → ∀ j k, rd t f j k = rd s f j k) ∧
      rd t (hErrStatus 18) i = statusValue .fieldReserved ∧ rd t (hErrOffset 18) i = off ∧
      SameBut (written 18) s t) := by
  obtain ⟨t, ht, hnote, htouch⟩ :=
    exec_write_taken (m := paceMask) hc hs hl hk rfl (refuseWrite_touches rfl (Touches.refl _ s))
  refine ⟨t, ht, fun f hty hlo hhi j k => ?_, ?_, ?_, sameBut_written_of_touches htouch⟩
  · rw [hnote.reads (by rw [hty]; rfl), rd_refuseWrite_of_body _ _ _ _ _ hlo hhi]
  · rw [hnote.reads rfl, rd_refuseWrite_hErrStatus]
  · rw [hnote.reads rfl, rd_refuseWrite_hErrOffset _ _ _ _ hoff]

/-! ### The writes -/

theorem paceFloorWrite_in_range {w : Writer} {die v : Nat} {s : State} (hs : pageServed s 18 die = true) (h1 : 500 ≤ v)
    (h2 : v ≤ 1800) :
    Ends (.paceFloorWrite w die v) s (fun t => rd t R.PACE_FLOOR_MIN_RATE die = v ∧ SameBut (written 18) s t) := by
  obtain ⟨t, ht, hnote, htouch⟩ := exec_write_taken (c := .paceFloorWrite w die v) (m := paceMask) rfl hs (by simp)
    (if_pos (by simp [h1, h2])) rfl (wr_touches rfl (Touches.refl _ s))
  refine ⟨t, ht, ?_, sameBut_written_of_touches htouch⟩
  rw [hnote.reads rfl]
  exact rd_wr_fit _ _ _ _ (show v < 2 ^ 16 by omega)

theorem paceFloorWrite_out_of_range {w : Writer} {die v : Nat} {s : State} (hs : pageServed s 18 die = true)
    (h : v < 500 ∨ 1800 < v) :
    Ends (.paceFloorWrite w die v) s (fun t =>
      (∀ i, rd t R.PACE_FLOOR_MIN_RATE i = rd s R.PACE_FLOOR_MIN_RATE i) ∧
      rd t (hErrStatus 18) die = statusValue .fieldReserved ∧ rd t (hErrOffset 18) die = 0x100 ∧
      SameBut (written 18) s t) := by
  obtain ⟨t, ht, hkeep, herr⟩ := exec_write_refused (c := .paceFloorWrite w die v) rfl hs (by simp)
    (if_neg (by simp only [Bool.and_eq_true, decide_eq_true_eq]; omega)) (by decide)
  exact ⟨t, ht, fun i => hkeep _ rfl (by decide) (by decide) i 0, herr⟩

theorem paceVlimWrite_in_range {w : Writer} {die a b : Nat} {s : State} (hs : pageServed s 18 die = true) (h1 : 600 ≤ a)
    (h2 : a + 50 ≤ b) (h3 : b ≤ 900) :
    Ends (.paceVlimWrite w die a b) s (fun t => rd t R.PACE_VLIM_VMIN die = a ∧ rd t R.PACE_VLIM_VMAX die = b ∧
      SameBut (written 18) s t) := by
  obtain ⟨t, ht, hnote, htouch⟩ := exec_write_taken (c := .paceVlimWrite w die a b) (m := paceMask) rfl hs (by simp)
    (if_pos (by simp only [Bool.and_eq_true, decide_eq_true_eq]; omega)) rfl
    (wr_touches rfl (wr_touches rfl (Touches.refl _ s)))
  refine ⟨t, ht, ?_, ?_, sameBut_written_of_touches htouch⟩
  · rw [hnote.reads rfl, rd_wr_ne (by decide)]
    exact rd_wr_fit _ _ _ _ (show a < 2 ^ 12 by omega)
  · rw [hnote.reads rfl]
    exact rd_wr_fit _ _ _ _ (show b < 2 ^ 12 by omega)

theorem paceVlimWrite_out_of_range {w : Writer} {die a b : Nat} {s : State} (hs : pageServed s 18 die = true)
    (h : a < 600 ∨ 900 < a ∨ b < 600 ∨ 900 < b ∨ b < a + 50) :
    Ends (.paceVlimWrite w die a b) s (fun t => (∀ i, rd t R.PACE_VLIM_VMIN i = rd s R.PACE_VLIM_VMIN i) ∧
      (∀ i, rd t R.PACE_VLIM_VMAX i = rd s R.PACE_VLIM_VMAX i) ∧
      rd t (hErrStatus 18) die = statusValue .fieldReserved ∧ rd t (hErrOffset 18) die = 0x10C ∧
      SameBut (written 18) s t) := by
  obtain ⟨t, ht, hkeep, herr⟩ := exec_write_refused (c := .paceVlimWrite w die a b) rfl hs (by simp)
    (if_neg (by simp only [Bool.and_eq_true, decide_eq_true_eq]; omega)) (by decide)
  exact ⟨t, ht, fun i => hkeep _ rfl (by decide) (by decide) i 0, fun i => hkeep _ rfl (by decide) (by decide) i 0, herr⟩

theorem paceMarginWrite_in_range {w : Writer} {die v : Nat} {s : State} (hw : Writable s w 18 die) (hv : v ≤ 200) :
    Ends (.paceMarginWrite w die v) s (fun t =>
      rd t R.PACE_MARGIN_RAISE die (rd s R.PACE_MARGIN_SEL die) = v ∧ SameBut (written 18) s t) := by
  obtain ⟨hs, hl⟩ := hw
  obtain ⟨t, ht, hnote, htouch⟩ := exec_write_taken (c := .paceMarginWrite w die v) (m := paceMask) rfl hs
    (fun h => hl h.2) (if_pos hv) rfl (setRaise_touches rfl (Touches.refl _ s))
  refine ⟨t, ht, ?_, sameBut_written_of_touches htouch⟩
  rw [hnote.reads rfl, rd_setRaise_same _ _ _ (by omega)]

theorem paceMarginWrite_out_of_range {w : Writer} {die v : Nat} {s : State} (hw : Writable s w 18 die) (hv : 200 < v) :
    Ends (.paceMarginWrite w die v) s (fun t =>
      (∀ i k, rd t R.PACE_MARGIN_RAISE i k = rd s R.PACE_MARGIN_RAISE i k) ∧
      rd t (hErrStatus 18) die = statusValue .fieldReserved ∧ SameBut (written 18) s t) := by
  obtain ⟨hs, hl⟩ := hw
  obtain ⟨t, ht, hkeep, hstatus, -, hsame⟩ := exec_write_refused (c := .paceMarginWrite w die v) rfl hs
    (fun h => hl h.2) (if_neg (by omega)) (by decide)
  exact ⟨t, ht, hkeep _ rfl (by decide) (by decide), hstatus, hsame⟩

theorem clearAll_clears {w : Writer} {die : Nat} {s : State} (hw : Writable s w 18 die) :
    Ends (.clearAll w die 1) s (fun t => (∀ n < 64, Cleared die n t) ∧ SameBut (.margins :: written 18) s t) := by
  obtain ⟨hs, hl⟩ := hw
  obtain ⟨t, ht, hnote, htouch⟩ := exec_write_taken (c := .clearAll w die 1) (m := 0x184000000260014)
    (x := (List.range 64).foldl (clearEntry die) s) rfl hs (fun h => hl h.2) (if_pos rfl) rfl
    (Touches.foldl (Touches.refl _ s) (fun u n => (clearEntry_touches die u n).mono rfl))
  refine ⟨t, ht, fun n hn => ?_, htouch.sameBut (by decide) (by decide)⟩
  obtain ⟨hraise, herrors, hmargin⟩ := foldl_clearEntry_clears die n (List.range 64) s (.inr (List.mem_range.2 hn))
  refine ⟨?_, ?_, ?_⟩
  · rw [hnote.reads rfl, hraise]
  · rw [hnote.reads rfl, herrors]
  · have hsame : t.comb.margin = ((List.range 64).foldl (clearEntry die) s).comb.margin := hnote.same (c := .margins) rfl
    rw [hsame, hmargin]

/-- Settles O3: each write of a `PACE` page that its values and LOCK allow takes effect, any other is refused and recorded, and
CLEAR_ALL passes over the 64 entries. -/
theorem paceWrites : Obligations.PaceWrites :=
  ⟨rfl,
    fun _ _ _ _ _ hs h1 h2 => paceFloorWrite_in_range hs h1 h2,
    fun _ _ _ _ _ hs h => paceFloorWrite_out_of_range hs h,
    fun _ _ _ _ _ _ hs h1 h2 h3 => paceVlimWrite_in_range hs h1 h2 h3,
    fun _ _ _ _ _ _ hs h => paceVlimWrite_out_of_range hs h,
    fun _ _ _ _ _ hw hv => paceMarginWrite_in_range hw hv,
    fun _ _ _ _ _ hw hv => paceMarginWrite_out_of_range hw hv,
    fun _ _ _ _ hw => clearAll_clears hw⟩

end Sys2Proof.Proofs
end

section
/-!
Proofs for chapter 18: what an event makes of the record store while no freeze and no flush keeps it waiting (R442, R444), and
that what a fatal event does beside it leaves the records alone (R451, R456).
-/

namespace Sys2Proof.Proofs

open Sys2Proof Sys2Proof.Machine Sys2Proof.Safety Sys2Proof.Certificates Sys2Proof.Laws

/-! ### Records -/

theorem srcOf_eq (ty i : Nat) : srcOf ty i = 1024 * ty + i := by
  unfold srcOf
  omega

@[simp] theorem mkRec_source (s : State) (ty i code sev tenant : Nat) (detail : List Nat) :
    (mkRec s ty i code sev tenant detail).source = 1024 * ty + i := srcOf_eq ty i

theorem isRepeat_iff (r e : Rec) : isRepeat r e = true ↔ (r.source = e.source ∧ r.code = e.code ∧ r.tenant = e.tenant ∧
    r.tagged = e.tagged ∧ r.tempBand = e.tempBand ∧ r.paceBand = e.paceBand ∧ r.loadPat = e.loadPat ∧
    r.detail = e.detail) := by
  simp only [isRepeat, Bool.and_eq_true, decide_eq_true_eq, and_assoc]

/-- Whether an event is a repeat depends on nothing of the state but the `PACE` pages that tag it (R443). -/
theorem isRepeat_mkRec_of_touches {m : Nat} {s t : State} (h : Touches m s t) (hm : m.testBit (32 + 18) = false) (r : Rec)
    (ty i code sev tenant : Nat) (detail : List Nat) :
    isRepeat r (mkRec t ty i code sev tenant detail) = isRepeat r (mkRec s ty i code sev tenant detail) := by
  have hpace : ∀ f : Fld, f.ty = 18 → ∀ d, rd t f d = rd s f d := fun f hf d => h.reads (by rw [hf]; exact hm)
  rw [Bool.eq_iff_iff, isRepeat_iff, isRepeat_iff]
  simp only [mkRec, hpace R.PACE_STAT_TEMP_BAND rfl, hpace R.PACE_MEAS_RATE rfl, hpace R.PACE_STAT_LOAD_PATTERN rfl]

/-- The record is the latest one of its source. -/
def Latest (s : State) (source : Nat) (r : Rec) : Prop := r.serial + 1 = tget 0 s.evr.latest source

/-- A record that an event of severity `sev` may overwrite (R444). -/
def Lower (sev : Nat) (r : Rec) : Prop := r.severity ≤ sev ∧ r.severity ≠ 4

theorem victim_cons_of_lower {sev : Nat} {r : Rec} (h : Lower sev r) (i : Nat) (l : List Rec) :
    victim sev i (r :: l) = match victim sev (i + 1) l with
      | some (j, ser) => if ser < r.serial then some (j, ser) else some (i, r.serial)
      | none => some (i, r.serial) := by
  have hb : (decide (r.severity ≤ sev) && decide (r.severity ≠ 4)) = true := by simpa [Lower] using h
  exact if_pos hb

theorem victim_cons_of_not_lower {sev : Nat} {r : Rec} (h : ¬Lower sev r) (i : Nat) (l : List Rec) :
    victim sev i (r :: l) = victim sev (i + 1) l := by
  have hb : ¬(decide (r.severity ≤ sev) && decide (r.severity ≠ 4)) = true := by simpa [Lower] using h
  exact if_neg hb

theorem victim_eq_none {sev i : Nat} {l : List Rec} (h : ∀ r ∈ l, ¬Lower sev r) : victim sev i l = none := by
  induction l generalizing i with
  | nil => rfl
  | cons r l ih =>
    rw [victim_cons_of_not_lower (h r List.mem_cons_self)]
    exact ih fun q hq => h q (List.mem_cons_of_mem _ hq)

/-- The record at place `n` has the lowest serial among those that an event of severity `sev` may overwrite. -/
def Oldest (sev n : Nat) (l : List Rec) (r : Rec) : Prop :=
  l[n]? = some r ∧ Lower sev r ∧ ∀ q ∈ l, Lower sev q → r.serial ≤ q.serial

theorem oldest_head {sev : Nat} {r : Rec} {l : List Rec} (hr : Lower sev r)
    (h : ∀ q ∈ l, Lower sev q → r.serial ≤ q.serial) : Oldest sev 0 (r :: l) r :=
  ⟨rfl, hr, List.forall_mem_cons.2 ⟨fun _ => le_rfl, h⟩⟩

theorem oldest_tail {sev n : Nat} {q r : Rec} {l : List Rec} (h : Oldest sev n l r)
    (hq : Lower sev q → r.serial ≤ q.serial) : Oldest sev (n + 1) (q :: l) r := by
  obtain ⟨hget, hr, hmin⟩ := h
  exact ⟨hget, hr, List.forall_mem_cons.2 ⟨hq, hmin⟩⟩

/-- Where a record may be overwritten, the search from place `i` finds the oldest such one, with its serial. -/
theorem exists_victim {sev : Nat} {l : List Rec} (h : ∃ r ∈ l, Lower sev r) (i : Nat) :
    ∃ n r, victim sev i l = some (i + n, r.serial) ∧ Oldest sev n l r := by
  induction l generalizing i with
  | nil => exact absurd h (by simp)
  | cons q l ih =>
    by_cases hl : ∃ r ∈ l, Lower sev r
    · obtain ⟨n, r, hv, hold⟩ := ih hl (i + 1)
      have hplace : i + (n + 1) = i + 1 + n := by omega
      by_cases hq : Lower sev q
      · rw [victim_cons_of_lower hq, hv]
        dsimp only
        by_cases hser : r.serial < q.serial
        · exact ⟨n + 1, r, by rw [if_pos hser, hplace], oldest_tail hold fun _ => hser.le⟩
        · refine ⟨0, q, by rw [if_neg hser]; rfl, oldest_head hq fun x hx hlow => ?_⟩
          obtain ⟨-, -, hmin⟩ := hold
          exact (not_lt.1 hser).trans (hmin x hx hlow)
      · rw [victim_cons_of_not_lower hq, hv]
        exact ⟨n + 1, r, by rw [hplace], oldest_tail hold fun hlow => absurd hlow hq⟩
    · have hnone : ∀ r ∈ l, ¬Lower sev r := fun r hr hlow => hl ⟨r, hr, hlow⟩
      have hq : Lower sev q := by
        obtain ⟨r, hr, hlow⟩ := h
        rcases List.mem_cons.1 hr with rfl | hr
        · exact hlow
        · exact absurd hlow (hnone r hr)
      rw [victim_cons_of_lower hq, victim_eq_none hnone]
      exact ⟨0, q, rfl, oldest_head hq fun x hx hlow => absurd hlow (hnone x hx)⟩

/-! ### An event applied to the store (R442, R444) -/

@[simp] theorem raiseIrq_evr (s : State) (ty i n : Nat) : (raiseIrq s ty i n).evr = s.evr := by
  unfold raiseIrq
  split
  · rfl
  · dsimp only
    split <;> rfl

/-- The latest record of a source, with one more repeat of it at calendar time `time`. -/
def countRepeat (s : State) (source time : Nat) (r : Rec) : Rec :=
  if r.serial + 1 = tget 0 s.evr.latest source then { r with last := time, count := min (r.count + 1) (2 ^ 32 - 1) } else r

/-- A new record takes the next serial: `place` puts it into the store. -/
def writeRec (s : State) (e : Rec) (place : Rec → List Rec) : State :=
  let n := s.evr.serial
  let t := setStore { s with evr := { s.evr with serial := n + 1, latest := tset 0 e.source (n + 1) s.evr.latest } }
    (place { e with serial := n })
  if e.severity = 4 then raiseIrq t 23 0 Irq.EVR_FATAL else t

theorem writeRec_evr (s : State) (e : Rec) (place : Rec → List Rec) : (writeRec s e place).evr =
    { s.evr with store := place { e with serial := s.evr.serial }, serial := s.evr.serial + 1,
                 latest := tset 0 e.source (s.evr.serial + 1) s.evr.latest } := by
  unfold writeRec
  dsimp only
  split
  · rw [raiseIrq_evr]; rfl
  · rfl

theorem rd_writeRec_records (s : State) (e : Rec) (place : Rec → List Rec)
    (h : (place { e with serial := s.evr.serial }).length < 2 ^ 17) :
    rd (writeRec s e place) R.EVR_STAT_RECORDS = (place { e with serial := s.evr.serial }).length := by
  unfold writeRec
  dsimp only
  split
  · rw [rd_raiseIrq (by decide)]
    exact rd_wr_fit _ _ _ _ h
  · exact rd_wr_fit _ _ _ _ h

theorem applyRec_of_repeat {s : State} {e : Rec} (h : ∃ r ∈ s.evr.store, Latest s e.source r ∧ isRepeat r e = true) :
    applyRec s e = setStore s (s.evr.store.map (countRepeat s e.source e.last)) := by
  obtain ⟨r, hr, hlatest, hrep⟩ := h
  have hany : s.evr.store.any (fun r => decide (r.serial + 1 = tget 0 s.evr.latest e.source) && isRepeat r e) = true :=
    List.any_eq_true.2 ⟨r, hr, by simp [hrep, show r.serial + 1 = _ from hlatest]⟩
  exact if_pos hany

section
variable {s : State} {e : Rec} (hnew : ∀ r ∈ s.evr.store, Latest s e.source r → isRepeat r e = false)
include hnew

theorem store_any_repeat_eq_false :
    ¬s.evr.store.any (fun r => decide (r.serial + 1 = tget 0 s.evr.latest e.source) && isRepeat r e) = true := by
  simpa [Latest] using hnew

theorem applyRec_of_room (hroom : s.evr.store.length < 65536) :
    applyRec s e = writeRec s e (fun x => s.evr.store ++ [x]) :=
  (if_neg (store_any_repeat_eq_false hnew)).trans (if_pos hroom)

theorem applyRec_of_full (hfull : 65536 ≤ s.evr.store.length) :
    applyRec s e = match victim e.severity 0 s.evr.store with
      | some (j, _) => writeRec s e (fun x => s.evr.store.set j x)
      | none => raiseIrq (incSat s (R.EVR_DROP_CNT e.severity)) 23 0 Irq.EVR_DROP := by
  refine ((if_neg (store_any_repeat_eq_false hnew)).trans (if_neg (not_lt.2 hfull))).trans ?_
  dsimp only
  cases victim e.severity 0 s.evr.store with
  | none => rfl
  | some p => rfl

theorem applyRec_of_victim (hfull : 65536 ≤ s.evr.store.length) (hlower : ∃ r ∈ s.evr.store, Lower e.severity r) :
    ∃ n r, Oldest e.severity n s.evr.store r ∧ applyRec s e = writeRec s e (fun x => s.evr.store.set n x) := by
  obtain ⟨n, r, hv, hold⟩ := exists_victim hlower 0
  refine ⟨n, r, hold, ?_⟩
  rw [applyRec_of_full hnew hfull, hv, Nat.zero_add]

theorem applyRec_of_drop (hfull : 65536 ≤ s.evr.store.length) (hnone : ∀ r ∈ s.evr.store, ¬Lower e.severity r) :
    applyRec s e = raiseIrq (incSat s (R.EVR_DROP_CNT e.severity)) 23 0 Irq.EVR_DROP := by
  rw [applyRec_of_full hnew hfull, victim_eq_none hnone]

end

theorem fldCode_dropCount_ne {k sev : Nat} (hk : k < 5) (hsev : sev < 5) (h : k ≠ sev) :
    fldCode (R.EVR_DROP_CNT k) ≠ fldCode (R.EVR_DROP_CNT sev) := by
  simp only [fldCode, R.EVR_DROP_CNT]
  omega

theorem fldCode_dropCount_ne_irq {k : Nat} (hk : k < 5) :
    fldCode (R.EVR_DROP_CNT k) ≠ fldCode (hIrqRaw 23 Irq.EVR_DROP) :=
  fldCode_ne_of_header (Nat.le_add_right_of_le (by decide)) (by simp only [R.EVR_DROP_CNT]; omega) (by decide)

/-- A dropped event counts in the drop count of its severity alone. -/
theorem rd_drop (s : State) {k sev : Nat} (hk : k < 5) (hsev : sev < 5) :
    rd (raiseIrq (incSat s (R.EVR_DROP_CNT sev)) 23 0 Irq.EVR_DROP) (R.EVR_DROP_CNT k) =
      if k = sev then min (rd s (R.EVR_DROP_CNT k) + 1) (2 ^ 32 - 1) else rd s (R.EVR_DROP_CNT k) := by
  rw [rd_raiseIrq (fldCode_dropCount_ne_irq hk)]
  split
  · next h =>
    subst h
    exact rd_wr_fit _ _ _ _ (show min _ (2 ^ 32 - 1) < 2 ^ 32 by omega)
  · next h => exact rd_wr_ne (fldCode_dropCount_ne hk hsev h) _ _ _ _ _ _

/-! ### What follows a record (R451, R456) -/

/-- `t` has the records, the serials and the `EVR` page of `u`, and differs from it in the flush, the `NVS` page and the boot state
alone. -/
structure KeepsRecords (u t : State) : Prop where
  store : t.evr.store = u.evr.store
  serial : t.evr.serial = u.evr.serial
  latest : t.evr.latest = u.evr.latest
  touches : Touches 0x100000000020010 u t

theorem KeepsRecords.refl (u : State) : KeepsRecords u u := ⟨rfl, rfl, rfl, Touches.refl _ u⟩

theorem KeepsRecords.trans {u v t : State} (h : KeepsRecords u v) (k : KeepsRecords v t) : KeepsRecords u t :=
  ⟨k.store.trans h.store, k.serial.trans h.serial, k.latest.trans h.latest, h.touches.trans k.touches⟩

theorem keepsRecords_boot (u : State) (b : Boot) : KeepsRecords u { u with boot := b } :=
  ⟨rfl, rfl, rfl, Touches.boot rfl (Touches.refl _ u)⟩

/-- A trigger changes nothing of the recorder but the flush that runs and the trigger kept for the next (R448). -/
theorem triggerFlush_evr (u : State) (cause : Nat) :
    ∃ f k, (triggerFlush u cause).evr = { u.evr with flush := f, kept := k } := by
  unfold triggerFlush
  split
  · exact ⟨_, _, rfl⟩
  · dsimp only
    split <;> exact ⟨_, _, rfl⟩

theorem triggerFlush_keepsRecords (u : State) (cause : Nat) : KeepsRecords u (triggerFlush u cause) := by
  obtain ⟨f, k, hevr⟩ := triggerFlush_evr u cause
  exact ⟨by rw [hevr], by rw [hevr], by rw [hevr], triggerFlush_touches rfl (Touches.refl _ u)⟩

theorem KeepsRecords.of_writeRec {s t : State} {e : Rec} {place : Rec → List Rec}
    (h : KeepsRecords (writeRec s e place) t) : t.evr.store = place { e with serial := s.evr.serial } ∧
      t.evr.serial = s.evr.serial + 1 ∧ tget 0 t.evr.latest e.source = s.evr.serial + 1 := by
  obtain ⟨hstore, hserial, hlatest, -⟩ := h
  rw [writeRec_evr] at hstore hserial hlatest
  exact ⟨hstore, hserial, by rw [hlatest, tget_tset_same]⟩

theorem fatalAction_keepsRecords {u : State} (h : u.boot.fatal = false ∨ rd u R.BOOT_CFG_FATAL_ACTION = 0) :
    KeepsRecords u (fatalAction u) := by
  unfold fatalAction
  split
  · next hfatal =>
    have hact : rd u R.BOOT_CFG_FATAL_ACTION = 0 := h.resolve_left (by simp [hfatal])
    simp only [rd_set_boot, hact]
    exact keepsRecords_boot u _
  · exact KeepsRecords.refl u

section
variable {s : State} (hfrozen : isFrozen s = false) (hflush : isFlushing s = false)
include hfrozen hflush

/-- Outside a freeze and a flush an event is applied at once, a fatal one before it triggers its flush (R449, R451). -/
theorem recordEvent_of_open (ty i code sev tenant : Nat) (detail : List Nat) :
    recordEvent s ty i code sev tenant detail =
      let u := applyRec s (mkRec s ty i code sev tenant detail)
      if sev = 4 then { triggerFlush u 1 with boot := { (triggerFlush u 1).boot with fatal := true } } else u := by
  simp [recordEvent, endFreeze, hfrozen, hflush]

theorem recordEvent_keepsRecords (ty i code sev tenant : Nat) (detail : List Nat) :
    KeepsRecords (applyRec s (mkRec s ty i code sev tenant detail)) (recordEvent s ty i code sev tenant detail) := by
  rw [recordEvent_of_open hfrozen hflush]
  dsimp only
  split
  · exact (triggerFlush_keepsRecords _ 1).trans (keepsRecords_boot _ _)
  · exact KeepsRecords.refl _

/-- EVENT_RECORD ends with the records that applying its event leaves, where no fatal event leads to a restart. -/
theorem eventRecord_applies {ty i code sev tenant : Nat} (detail : List Nat) (hdefined : i < pageCount ty ∨ ty = 63)
    (hsev : sev ≤ 4) (hcode : code < 65536) (htenant : tenant < 256)
    (hfatal : (sev ≤ 3 ∧ s.boot.fatal = false) ∨ rd s R.BOOT_CFG_FATAL_ACTION = 0) :
    ∃ t, exec (.eventRecord ty i code sev tenant detail) s = .next t ∧
      KeepsRecords (applyRec s (mkRec s ty i code sev tenant detail)) t ∧ Touches 0x180000000060010 s t := by
  have hrecord : Touches 0x180000000060010 s (recordEvent s ty i code sev tenant detail) :=
    recordEvent_touches rfl (Touches.refl _ s)
  have haction : KeepsRecords (recordEvent s ty i code sev tenant detail)
      (fatalAction (recordEvent s ty i code sev tenant detail)) := by
    refine fatalAction_keepsRecords (hfatal.imp ?_ fun h => (hrecord.reads rfl).trans h)
    rintro ⟨hmild, hclear⟩
    have hboot : Same .boot s (applyRec s (mkRec s ty i code sev tenant detail)) :=
      (applyRec_touches (mm := 0x80000000040010) rfl (Touches.refl _ s)).same rfl
    rw [recordEvent_of_open hfrozen hflush]
    dsimp only
    rw [if_neg (by omega), show _ = s.boot from hboot, hclear]
  refine ⟨fatalAction (recordEvent s ty i code sev tenant detail), ?_,
    (recordEvent_keepsRecords hfrozen hflush ..).trans haction, hrecord.trans (haction.touches.mono rfl)⟩
  exact congrArg Host.Outcome.next (if_pos (by simp [hdefined, hsev, hcode, htenant]))

end

/-! ### The statement -/

/-- Settles O49: an event is applied at once, as one of four things: a repeat, a new record at the end, one in the place of the
oldest lower one, or a drop; a fatal event's flush and action leave the records. -/
theorem eventStore : Obligations.EventStore := by
  refine ⟨isRepeat_iff, ?_⟩
  intro ty i code sev tenant detail s hdefined hsev hcode htenant hfatal hfrozen hflush e latest lower
  obtain ⟨t, ht, hkept, htouch⟩ :=
    eventRecord_applies hfrozen hflush detail hdefined hsev hcode htenant hfatal
  have hsame : SameBut recorded s t := htouch.sameBut (by decide) (by decide)
  have hsource : e.source = 1024 * ty + i := mkRec_source ..
  refine ⟨fun hrep => ⟨t, ht, ?_⟩, fun hnew => ?_⟩
  · rw [applyRec_of_repeat (hsource ▸ hrep)] at hkept
    obtain ⟨hstore, hserial, hlatest, -⟩ := hkept
    refine ⟨by rw [hstore]; exact List.length_map _, hserial, hlatest, fun n r hr => ?_, hsame⟩
    rw [hstore]
    show (s.evr.store.map _)[n]? = _
    rw [List.getElem?_map, hr, hsource]
    rfl
  replace hnew : ∀ r ∈ s.evr.store, Latest s e.source r → isRepeat r e = false := hsource ▸ hnew
  refine ⟨fun hroom => ⟨t, ht, ?_⟩, fun hfull hlower => ⟨t, ht, ?_⟩, fun hfull hnone => ⟨t, ht, ?_⟩⟩
  · rw [applyRec_of_room hnew hroom] at hkept
    obtain ⟨hstore, hserial, hlatest⟩ := hkept.of_writeRec
    refine ⟨hstore, hserial, hsource ▸ hlatest, ?_, hsame⟩
    rw [hkept.touches.reads rfl, rd_writeRec_records _ _ _ (by simp only [List.length_append, List.length_singleton]; omega)]
    simp
  · obtain ⟨n, r, ⟨hget, hr, hmin⟩, happly⟩ := applyRec_of_victim hnew hfull hlower
    rw [happly] at hkept
    obtain ⟨hstore, hserial, hlatest⟩ := hkept.of_writeRec
    exact ⟨n, r, hget, hr, hmin, hstore, hserial, hsource ▸ hlatest, hsame⟩
  · rw [applyRec_of_drop hnew hfull hnone] at hkept
    obtain ⟨hstore, hserial, hlatest, htouches⟩ := hkept
    rw [raiseIrq_evr] at hstore hserial hlatest
    refine ⟨hstore, hserial, hlatest, fun k hk => ?_, fun r hr hlast => ?_, hsame⟩
    · rw [htouches.reads (show Nat.testBit _ (32 + 23 % 32) = false from rfl)]
      exact rd_drop s hk (Nat.lt_succ_of_le hsev)
    · rw [isRepeat_mkRec_of_touches htouch rfl]
      rw [hstore] at hr
      rw [hlatest] at hlast
      exact hnew r hr (hsource ▸ hlast)

end Sys2Proof.Proofs
end

section
/-!
Proofs for the module's steps: what every command keeps, from the frames of `Laws/Frame….lean`, and with it that a step keeps the
canonical form of device memory (log entry 6), that every command answers a next state (log entry 79), that a step runs the command
at the front (log entry 2), and what the state after reset holds (log entries 4 to 6).
-/

namespace Sys2Proof.Proofs

open Sys2Proof Sys2Proof.Machine Sys2Proof.Safety Sys2Proof.Certificates Sys2Proof.Laws

/-- The mask of every part of the state. -/
abbrev anyPart : Nat := 0xFFFFFFFFFFFFFFFF

/-- Whatever it touches, a command keeps the queue and the canonical form of device memory: one frame for each command. -/
theorem exec_touches (c : Instr) (s : State) : Touches anyPart s (Touches.outS s (exec c s)) := by
  have h : Touches anyPart s s := Touches.refl _ s
  cases c with
  | governorInterval _ _ => exact execGovernorInterval_touches rfl h h
  | marginUpdate _ _ _ => exact execMarginUpdate_touches rfl h h
  | paceMarginWrite _ _ _ => exact execPaceMarginWrite_touches rfl h h
  | clearAll _ _ _ => exact execClearAll_touches rfl h h
  | paceFloorWrite _ _ _ => exact execPaceFloorWrite_touches rfl h h
  | paceVlimWrite _ _ _ _ => exact execPaceVlimWrite_touches rfl h h
  | recomputePredictions _ => exact execRecomputePredictions_touches rfl h h
  | ctrlNop _ => exact execCtrlNop_touches rfl h h
  | end_ _ => exact execEnd_touches rfl h h
  | mark _ _ => exact execMark_touches rfl h h
  | mma _ _ => exact execMma_touches rfl h h
  | add _ _ => exact execAdd_touches rfl h h
  | mul _ _ => exact execMul_touches rfl h h
  | fma _ _ => exact execFma_touches rfl h h
  | max_ _ _ => exact execMax_touches rfl h h
  | min_ _ _ => exact execMin_touches rfl h h
  | rsum _ _ => exact execRsum_touches rfl h h
  | rmax _ _ => exact execRmax_touches rfl h h
  | scale _ _ => exact execScale_touches rfl h h
  | copy _ _ => exact execCopy_touches rfl h h
  | exp _ _ => exact execExp_touches rfl h h
  | log _ _ => exact execLog_touches rfl h h
  | recip _ _ => exact execRecip_touches rfl h h
  | rsqrt _ _ => exact execRsqrt_touches rfl h h
  | cvt _ _ => exact execCvt_touches rfl h h
  | moveMemToStore _ _ => exact execMoveMemToStore_touches rfl h h
  | moveStoreToMem _ _ => exact execMoveStoreToMem_touches rfl h h
  | moveLocal _ _ => exact execMoveLocal_touches rfl h h
  | moveCellToCell _ _ => exact execMoveCellToCell_touches rfl h h
  | moveToPipe _ _ => exact execMoveToPipe_touches rfl h h
  | moveFromPipe _ _ => exact execMoveFromPipe_touches rfl h h
  | attnCell _ _ => exact execAttnCell_touches rfl h h
  | attnCellBackward _ _ => exact execAttnCellBackward_touches rfl h h
  | attnPipe _ _ => exact execAttnPipe_touches rfl h h
  | attnPipeBackward _ _ => exact execAttnPipeBackward_touches rfl h h
  | stepComplete _ _ => exact execStepComplete_touches rfl h h
  | memRead _ _ => exact execMemRead_touches rfl h h
  | memWrite _ _ => exact execMemWrite_touches rfl h h
  | streamRefill _ _ => exact execStreamRefill_touches rfl h h
  | refreshEntry _ _ => exact execRefreshEntry_touches rfl h h
  | kvRead _ _ => exact execKvRead_touches rfl h h
  | kvWrite _ _ => exact execKvWrite_touches rfl h h
  | openEntry _ _ => exact execOpenEntry_touches rfl h h
  | memEntryDone _ _ _ => exact execMemEntryDone_touches rfl h h
  | routeTransfer _ _ => exact execRouteTransfer_touches rfl h h
  | cellTestStart _ _ _ => exact execCellTestStart_touches rfl h h
  | cellTestDone _ _ => exact execCellTestDone_touches rfl h h
  | pipeTestStart _ _ _ => exact execPipeTestStart_touches rfl h h
  | pipeTestDone _ _ => exact execPipeTestDone_touches rfl h h
  | cellRetire _ _ _ => exact execCellRetire_touches rfl h h
  | pipeRetire _ _ _ => exact execPipeRetire_touches rfl h h
  | retirementBegin => exact execRetirementBegin_touches rfl h h
  | retirementSpareTest => exact execRetirementSpareTest_touches rfl h h
  | quadPartWrite _ _ _ => exact execQuadPartWrite_touches rfl h h
  | memcPartWrite _ _ _ => exact execMemcPartWrite_touches rfl h h
  | seamLaneWrite _ _ _ => exact execSeamLaneWrite_touches rfl h h
  | fastlaneWrite _ _ => exact execFastlaneWrite_touches rfl h h
  | loadPlan _ _ _ => exact execLoadPlan_touches rfl h h
  | planChecksDone _ => exact execPlanChecksDone_touches rfl h h
  | unloadPlan _ => exact execUnloadPlan_touches rfl h h
  | launch _ => exact execLaunch_touches rfl h h
  | launchStart _ => exact execLaunchStart_touches rfl h h
  | preloadDone _ => exact execPreloadDone_touches rfl h h
  | launchEnd _ => exact execLaunchEnd_touches rfl h h
  | seqOpen _ => exact execSeqOpen_touches rfl h h
  | seqGrow _ => exact execSeqGrow_touches rfl h h
  | seqCommit _ => exact execSeqCommit_touches rfl h h
  | seqRollback _ => exact execSeqRollback_touches rfl h h
  | seqClose _ => exact execSeqClose_touches rfl h h
  | heldOpResume _ => exact execHeldOpResume_touches rfl h h
  | parkGrant => exact execParkGrant_touches rfl h h
  | parkDeadline _ => exact execParkDeadline_touches rfl h h
  | prefixCopyDone _ => exact execPrefixCopyDone_touches rfl h h
  | frameScrubDone _ => exact execFrameScrubDone_touches rfl h h
  | kvpgPoolWrite _ _ _ => exact execKvpgPoolWrite_touches rfl h h
  | kvpgSeqBaseWrite _ _ => exact execKvpgSeqBaseWrite_touches rfl h h
  | kvpgResvWrite _ _ => exact execKvpgResvWrite_touches rfl h h
  | request _ _ _ _ => exact execRequest_touches rfl h h
  | admissionAfterWake _ => exact execAdmissionAfterWake_touches rfl h h
  | slotEnable _ _ => exact execSlotEnable_touches rfl h h
  | servingLaunchPrepare _ => exact execServingLaunchPrepare_touches rfl h h
  | servingLaunchResult _ => exact execServingLaunchResult_touches rfl h h
  | prefixLookup _ => exact execPrefixLookup_touches rfl h h
  | cancel _ => exact execCancel_touches rfl h h
  | burstWrite _ _ => exact execBurstWrite_touches rfl h h
  | pfxTenWrite _ _ _ => exact execPfxTenWrite_touches rfl h h
  | memSetMapWrite _ _ => exact execMemSetMapWrite_touches rfl h h
  | extentOwn _ _ => exact execExtentOwn_touches rfl h h
  | extentRelease _ => exact execExtentRelease_touches rfl h h
  | extentScrubDone _ => exact execExtentScrubDone_touches rfl h h
  | memoryTrainingDone _ _ => exact execMemoryTrainingDone_touches rfl h h
  | eccReRead _ _ _ => exact execEccReRead_touches rfl h h
  | poisonMarkWrite _ => exact execPoisonMarkWrite_touches rfl h h
  | refreshDue _ _ => exact execRefreshDue_touches rfl h h
  | packageTempRead _ _ _ => exact execPackageTempRead_touches rfl h h
  | patrolScrub _ _ _ => exact execPatrolScrub_touches rfl h h
  | hostWindowRead _ _ _ _ => exact execHostWindowRead_touches rfl h h
  | hostWindowWrite _ _ _ _ => exact execHostWindowWrite_touches rfl h h
  | perstNRelease => exact execPerstNRelease_touches rfl h h
  | perstNAssert cut =>
    unfold exec
    exact execPerstNAssert_touches rfl h h
  | readinessTimeout => exact execReadinessTimeout_touches rfl h h
  | startupReady => exact execStartupReady_touches rfl h h
  | functionLevelReset _ _ => exact execFunctionLevelReset_touches rfl h h
  | hotReset _ => exact execHotReset_touches rfl h h
  | hostLinkDown _ => exact execHostLinkDown_touches rfl h h
  | refclkLoss _ => exact execRefclkLoss_touches rfl h h
  | refclkReturn => exact execRefclkReturn_touches rfl h h
  | linkTrained _ _ _ => exact execLinkTrained_touches rfl h h
  | linkRetrain _ _ => exact execLinkRetrain_touches rfl h h
  | hostFnCfgWrite _ _ => exact execHostFnCfgWrite_touches rfl h h
  | hostFnMsixWrite _ _ _ => exact execHostFnMsixWrite_touches rfl h h
  | hostFnWinWrite _ _ => exact execHostFnWinWrite_touches rfl h h
  | bar4Resize _ _ _ => exact execBar4Resize_touches rfl h h
  | dma _ => exact execDma_touches rfl h h
  | dmaGo _ _ => exact execDmaGo_touches rfl h h
  | dmaTransferDone _ _ _ _ => exact execDmaTransferDone_touches rfl h h
  | hostReadError _ _ _ => exact execHostReadError_touches rfl h h
  | query _ => exact execQuery_touches rfl h h
  | keyProg _ _ _ _ _ => exact execKeyProg_touches rfl h h
  | kSetGo _ _ _ => exact execKSetGo_touches rfl h h
  | kSetStop _ _ _ => exact execKSetStop_touches rfl h h
  | create _ _ => exact execCreate_touches rfl h h
  | delete _ _ _ => exact execDelete_touches rfl h h
  | resume _ _ => exact execResume_touches rfl h h
  | queueFlush _ _ _ => exact execQueueFlush_touches rfl h h
  | doorbell _ _ _ _ => exact execDoorbell_touches rfl h h
  | entryFetched _ _ _ _ => exact execEntryFetched_touches rfl h h
  | commandStart _ => exact execCommandStart_touches rfl h h
  | nop _ => exact execNop_touches rfl h h
  | wait _ => exact execWait_touches rfl h h
  | peerCopy _ => exact execPeerCopy_touches rfl h h
  | remoteSignal _ => exact execRemoteSignal_touches rfl h h
  | invalidOpcode _ => exact execInvalidOpcode_touches rfl h h
  | commandTimeout _ _ => exact execCommandTimeout_touches rfl h h
  | qmgrSigBaseWrite _ _ => exact execQmgrSigBaseWrite_touches rfl h h
  | dbpMapWrite _ _ => exact execDbpMapWrite_touches rfl h h
  | portEnable _ _ _ => exact execPortEnable_touches rfl h h
  | portDisable _ _ _ => exact execPortDisable_touches rfl h h
  | trainingPhaseDone _ _ => exact execTrainingPhaseDone_touches rfl h h
  | trainingBoundExpiry _ => exact execTrainingBoundExpiry_touches rfl h h
  | linkKeyExchange _ _ _ _ => exact execLinkKeyExchange_touches rfl h h
  | retrainWaitExpiry _ => exact execRetrainWaitExpiry_touches rfl h h
  | wagRetrain _ _ _ => exact execWagRetrain_touches rfl h h
  | frameReceive _ _ _ => exact execFrameReceive_touches rfl h h
  | frameTransmit _ _ => exact execFrameTransmit_touches rfl h h
  | replayTimerExpiry _ => exact execReplayTimerExpiry_touches rfl h h
  | replayBudgetExpiry _ => exact execReplayBudgetExpiry_touches rfl h h
  | laneLockLoss _ _ => exact execLaneLockLoss_touches rfl h h
  | leavingNotice _ => exact execLeavingNotice_touches rfl h h
  | leavingWaitExpiry _ => exact execLeavingWaitExpiry_touches rfl h h
  | rekeyStart _ => exact execRekeyStart_touches rfl h h
  | rekeyDeadline _ => exact execRekeyDeadline_touches rfl h h
  | unreachableReport _ => exact execUnreachableReport_touches rfl h h
  | copyAcceptReport _ _ _ => exact execCopyAcceptReport_touches rfl h h
  | copyAbort _ _ => exact execCopyAbort_touches rfl h h
  | refLost => exact execRefLost_touches rfl h h
  | hiveRestart _ _ => exact execHiveRestart_touches rfl h h
  | formationPortWaitEnd => exact execFormationPortWaitEnd_touches rfl h h
  | formationCall _ _ _ => exact execFormationCall_touches rfl h h
  | join _ _ _ _ => exact execJoin_touches rfl h h
  | joinWindowEnd _ => exact execJoinWindowEnd_touches rfl h h
  | memberList _ _ _ _ _ _ => exact execMemberList_touches rfl h h
  | memberAck _ => exact execMemberAck_touches rfl h h
  | formationAckBound => exact execFormationAckBound_touches rfl h h
  | formingTimeout => exact execFormingTimeout_touches rfl h h
  | hiveStop => exact execHiveStop_touches rfl h h
  | waitingNotice _ => exact execWaitingNotice_touches rfl h h
  | beaconTimer => exact execBeaconTimer_touches rfl h h
  | queenBeacon => exact execQueenBeacon_touches rfl h h
  | queenLossTimeout => exact execQueenLossTimeout_touches rfl h h
  | queenTakeover => exact execQueenTakeover_touches rfl h h
  | timeExchangeTimer => exact execTimeExchangeTimer_touches rfl h h
  | timeExchange _ _ _ _ => exact execTimeExchange_touches rfl h h
  | meridSlewWrite _ _ => exact execMeridSlewWrite_touches rfl h h
  | barrierArrival _ => exact execBarrierArrival_touches rfl h h
  | barrierVerdict _ _ _ => exact execBarrierVerdict_touches rfl h h
  | barrierRelease _ _ => exact execBarrierRelease_touches rfl h h
  | backupDelayExpiry _ => exact execBackupDelayExpiry_touches rfl h h
  | backupStart _ _ _ => exact execBackupStart_touches rfl h h
  | hiveExpel _ => exact execHiveExpel_touches rfl h h
  | clearSuspect _ => exact execClearSuspect_touches rfl h h
  | membershipUpdate _ => exact execMembershipUpdate_touches rfl h h
  | memberLossTimeout _ => exact execMemberLossTimeout_touches rfl h h
  | reloadShards _ _ _ => exact execReloadShards_touches rfl h h
  | barrierEnable _ _ => exact execBarrierEnable_touches rfl h h
  | progressReportTimer => exact execProgressReportTimer_touches rfl h h
  | progressReport _ _ _ _ => exact execProgressReport_touches rfl h h
  | groupKeyGen _ => exact execGroupKeyGen_touches rfl h h
  | groupKeyDistribution _ _ _ _ => exact execGroupKeyDistribution_touches rfl h h
  | twinPair _ => exact execTwinPair_touches rfl h h
  | pairWindowExpiry => exact execPairWindowExpiry_touches rfl h h
  | servAction _ => exact execServAction_touches rfl h h
  | mirrorLaunch _ _ _ _ => exact execMirrorLaunch_touches rfl h h
  | launchAck _ => exact execLaunchAck_touches rfl h h
  | compareData _ _ _ => exact execCompareData_touches rfl h h
  | twinVerdict _ _ => exact execTwinVerdict_touches rfl h h
  | paceReport _ => exact execPaceReport_touches rfl h h
  | twinControl _ _ => exact execTwinControl_touches rfl h h
  | twinUnpair _ => exact execTwinUnpair_touches rfl h h
  | twinSwap _ => exact execTwinSwap_touches rfl h h
  | twinTakeover _ => exact execTwinTakeover_touches rfl h h
  | keyInstallActivate _ _ _ => exact execKeyInstallActivate_touches rfl h h
  | keyInstallReplace _ _ _ => exact execKeyInstallReplace_touches rfl h h
  | weightLoad _ _ _ => exact execWeightLoad_touches rfl h h
  | tenantRetire _ => exact execTenantRetire_touches rfl h h
  | drainWaitExpiry _ _ => exact execDrainWaitExpiry_touches rfl h h
  | drainFence _ => exact execDrainFence_touches rfl h h
  | retirementScrubDone _ => exact execRetirementScrubDone_touches rfl h h
  | getVersion => exact execGetVersion_touches rfl h h
  | getCapabilities => exact execGetCapabilities_touches rfl h h
  | negotiateAlgorithms => exact execNegotiateAlgorithms_touches rfl h h
  | getDigests => exact execGetDigests_touches rfl h h
  | getCertificate _ _ _ => exact execGetCertificate_touches rfl h h
  | challenge _ => exact execChallenge_touches rfl h h
  | getMeasurements _ _ => exact execGetMeasurements_touches rfl h h
  | keyExchange => exact execKeyExchange_touches rfl h h
  | finish _ _ => exact execFinish_touches rfl h h
  | heartbeat _ => exact execHeartbeat_touches rfl h h
  | keyUpdate _ => exact execKeyUpdate_touches rfl h h
  | endSession _ => exact execEndSession_touches rfl h h
  | chunkSend _ _ => exact execChunkSend_touches rfl h h
  | chunkGet _ _ => exact execChunkGet_touches rfl h h
  | newNonce _ => exact execNewNonce_touches rfl h h
  | nonceExpiry => exact execNonceExpiry_touches rfl h h
  | unlockSubmit _ _ _ => exact execUnlockSubmit_touches rfl h h
  | unlockEraseDone => exact execUnlockEraseDone_touches rfl h h
  | opkeyCommit _ => exact execOpkeyCommit_touches rfl h h
  | debugOperation _ _ _ => exact execDebugOperation_touches rfl h h
  | powerInterval _ => exact execPowerInterval_touches rfl h h
  | pwrCapWrite _ _ => exact execPwrCapWrite_touches rfl h h
  | emergSet _ => exact execEmergSet_touches rfl h h
  | emergClear _ => exact execEmergClear_touches rfl h h
  | launchGateHoldExpiry _ => exact execLaunchGateHoldExpiry_touches rfl h h
  | domainIdle _ => exact execDomainIdle_touches rfl h h
  | domainWake _ => exact execDomainWake_touches rfl h h
  | wakeDone _ => exact execWakeDone_touches rfl h h
  | holdOnWrite _ _ _ => exact execHoldOnWrite_touches rfl h h
  | laneIdleAgreement _ _ => exact execLaneIdleAgreement_touches rfl h h
  | standbyEntry => exact execStandbyEntry_touches rfl h h
  | standbyExit => exact execStandbyExit_touches rfl h h
  | duskBegin => exact execDuskBegin_touches rfl h h
  | duskFinishDeadline => exact execDuskFinishDeadline_touches rfl h h
  | duskLeaving => exact execDuskLeaving_touches rfl h h
  | duskHostDown _ => exact execDuskHostDown_touches rfl h h
  | duskPowerOff => exact execDuskPowerOff_touches rfl h h
  | duskEnd _ => exact execDuskEnd_touches rfl h h
  | clockSourceTrip _ _ => exact execClockSourceTrip_touches rfl h h
  | dividerStep _ => exact execDividerStep_touches rfl h h
  | clockSourceGood _ => exact execClockSourceGood_touches rfl h h
  | tcxoStable => exact execTcxoStable_touches rfl h h
  | tcxoFault => exact execTcxoFault_touches rfl h h
  | clockGateRequest _ _ => exact execClockGateRequest_touches rfl h h
  | gateStuck _ => exact execGateStuck_touches rfl h h
  | clkObsSelect _ _ _ => exact execClkObsSelect_touches rfl h h
  | thermalAlarm _ _ => exact execThermalAlarm_touches rfl h h
  | thermalTrip _ _ => exact execThermalTrip_touches rfl h h
  | thermalTripCooled => exact execThermalTripCooled_touches rfl h h
  | overvoltageDisconnect => exact execOvervoltageDisconnect_touches rfl h h
  | powerGood _ _ => exact execPowerGood_touches rfl h h
  | strapSample _ _ => exact execStrapSample_touches rfl h h
  | coresReleased _ => exact execCoresReleased_touches rfl h h
  | eccInitDone => exact execEccInitDone_touches rfl h h
  | startupSelfTestDone _ _ => exact execStartupSelfTestDone_touches rfl h h
  | decodeOpen _ _ _ _ => exact execDecodeOpen_touches rfl h h
  | decodePicture _ _ _ _ => exact execDecodePicture_touches rfl h h
  | decodeFlush _ => exact execDecodeFlush_touches rfl h h
  | decodeClose _ => exact execDecodeClose_touches rfl h h
  | encodeOpen _ _ _ _ => exact execEncodeOpen_touches rfl h h
  | encodePicture _ => exact execEncodePicture_touches rfl h h
  | encodeFlush _ => exact execEncodeFlush_touches rfl h h
  | encodeClose _ => exact execEncodeClose_touches rfl h h
  | vidPre _ => exact execVidPre_touches rfl h h
  | videoJobStart _ => exact execVideoJobStart_touches rfl h h
  | preemption _ => exact execPreemption_touches rfl h h
  | videoJobEnd _ _ => exact execVideoJobEnd_touches rfl h h
  | vpreJobStart => exact execVpreJobStart_touches rfl h h
  | vpreJobEnd _ _ => exact execVpreJobEnd_touches rfl h h
  | eventRecord _ _ _ _ _ _ => exact execEventRecord_touches rfl h h
  | rtcSet _ => exact execRtcSet_touches rfl h h
  | flushPeriodExpiry => exact execFlushPeriodExpiry_touches rfl h h
  | recorderFlush _ => exact execRecorderFlush_touches rfl h h
  | flushEnd _ => exact execFlushEnd_touches rfl h h
  | mramWriteError => exact execMramWriteError_touches rfl h h
  | freeze _ => exact execFreeze_touches rfl h h
  | unfreeze _ => exact execUnfreeze_touches rfl h h
  | freezeExpiry => exact execFreezeExpiry_touches rfl h h
  | freezeCopyDone => exact execFreezeCopyDone_touches rfl h h
  | clearMetrics _ => exact execClearMetrics_touches rfl h h
  | metricConfigWrite _ _ _ => exact execMetricConfigWrite_touches rfl h h
  | metricIntervalEnd _ => exact execMetricIntervalEnd_touches rfl h h
  | cold _ => exact execCold_touches rfl h h
  | warm _ => exact execWarm_touches rfl h h
  | recoveryRequest _ => exact execRecoveryRequest_touches rfl h h
  | watchdogExpiry => exact execWatchdogExpiry_touches rfl h h
  | warmWaitExpiry => exact execWarmWaitExpiry_touches rfl h h
  | warmResetProceed _ _ _ => exact execWarmResetProceed_touches rfl h h
  | partialReset _ _ => exact execPartialReset_touches rfl h h
  | partialResetDone => exact execPartialResetDone_touches rfl h h
  | fwuBegin _ _ _ => exact execFwuBegin_touches rfl h h
  | chunkGo _ _ => exact execChunkGo_touches rfl h h
  | chunkProgramDone _ => exact execChunkProgramDone_touches rfl h h
  | activate _ => exact execActivate_touches rfl h h
  | abort _ => exact execAbort_touches rfl h h
  | health _ => exact execHealth_touches rfl h h
  | trialExpiry => exact execTrialExpiry_touches rfl h h
  | trialFlushTimer => exact execTrialFlushTimer_touches rfl h h
  | chainManifest _ _ => exact execChainManifest_touches rfl h h
  | chainChunk _ _ => exact execChainChunk_touches rfl h h
  | chainForward _ => exact execChainForward_touches rfl h h
  | bitmapReportTimer => exact execBitmapReportTimer_touches rfl h h
  | bitmapReport _ _ _ _ => exact execBitmapReport_touches rfl h h
  | lock _ _ _ => exact execLock_touches rfl h h
  | lockAll => exact execLockAll_touches rfl h h
  | irqEnWrite _ _ _ => exact execIrqEnWrite_touches rfl h h
  | registerWrite _ _ _ _ _ _ _ => exact execRegisterWrite_touches rfl h h
  | inputPowerLoss => exact execInputPowerLoss_touches rfl h h
  | metricCountSecond => exact execMetricCountSecond_touches rfl h h
  | memberLossReport _ => exact execMemberLossReport_touches rfl h h

theorem exec_next_touches {c : Instr} {s t : State} (h : exec c s = .next t) : Touches anyPart s t := by
  have hc := exec_touches c s
  rwa [h] at hc

theorem passTime_memoryOk {s : State} (h : memoryOk s = true) : memoryOk (passTime s) = true := by
  obtain ⟨-, hmem, -⟩ := passTime_touches (mm := anyPart) rfl (Touches.refl _ s)
  exact hmem h

/-- Settles O60: time that passes touches no memory, and every command's frame keeps the canonical form. -/
theorem memoryKept : Obligations.MemoryKept := by
  intro s t hs hstep
  unfold step at hstep
  split at hstep
  · cases hstep
    exact passTime_memoryOk hs
  · obtain ⟨-, hmem, -⟩ := exec_next_touches hstep
    exact hmem hs

/-! ### Every command answers -/

/-- A governor's interval ends early in standby and on a die whose cells are all off, and at its end otherwise. -/
theorem execGovernorInterval_next (die : Nat) (e : GovEnv) (s : State) : ∃ t, execGovernorInterval die e s = .next t := by
  unfold execGovernorInterval
  split
  · exact ⟨_, rfl⟩
  · dsimp only
    split <;> exact ⟨_, rfl⟩

theorem execMarginUpdate_next (die entry : Nat) (src : MarginSrc) (s : State) :
    ∃ t, execMarginUpdate die entry src s = .next t := by
  cases src with
  | cell p => exact ⟨_, rfl⟩
  | memc p => exact ⟨_, rfl⟩

/-- Every meaning but two is written as one next state. -/
theorem exec_next (c : Instr) (s : State) : ∃ t, exec c s = .next t := by
  cases c
  case governorInterval die e => exact execGovernorInterval_next die e s
  case marginUpdate die entry src => exact execMarginUpdate_next die entry src s
  all_goals exact ⟨_, rfl⟩

/-- Settles O59. -/
theorem everyCommandAnswers : Obligations.EveryCommandAnswers := by
  intro c s
  obtain ⟨t, ht⟩ := exec_next c s
  obtain ⟨hpending, -, -⟩ := exec_next_touches ht
  exact ⟨t, ht, hpending⟩

/-- Settles O56: by the definition of a step. -/
theorem stepRunsFront : Obligations.StepRunsFront := fun _ _ _ => rfl

/-! ### The state after reset -/

/-- At reset every field reads the value its table gives, cut to the field's width. -/
theorem rd_reset (f : Fld) (i k : Nat) : rd State.reset f i k = fldReset f i k := rfl

/-- The tables of reset values by position lie beyond the common header: a header field resets to the value of its own table. -/
theorem fldReset_of_header {f : Fld} (h : f.off < 0x100) (i k : Nat) : fldReset f i k = f.rst := by
  unfold fldReset
  split
  case h_16 => rw [if_neg (by omega)]
  all_goals omega

theorem rd_reset_header {f : Fld} (h : f.off < 0x100) (i : Nat) : rd State.reset f i = f.rst := fldReset_of_header h i 0

/-- Settles O58. -/
theorem resetState : Obligations.ResetState :=
  ⟨rfl, rfl, memoryOk_reset, rfl, rfl, rd_reset, rfl, rfl, rfl, rfl, fun _ => rfl, rfl, fun _ => rfl, rfl, rfl, fun _ => rfl,
    fun ty i n => ⟨rd_reset_header (f := hLocked ty) (by simp [hLocked]) i, rd_reset_header (f := hIrqRaw ty n) (by simp [hIrqRaw]) i,
      rd_reset_header (f := hIrqEn ty n) (by simp [hIrqEn]) i⟩⟩

end Sys2Proof.Proofs
end

section
/-!
Proofs, the shared layer: frames over a list of parts, what an interrupt and a recorded event leave alone, the running launch of a
partition, and reads of a table after a run of writes.
-/

namespace Sys2Proof.Proofs

open Sys2Proof Sys2Proof.Machine Sys2Proof.Safety Sys2Proof.Certificates Sys2Proof.Laws

/-! ### Frames over a list of parts -/

/-- The mask of the parts that a list names. -/
def maskOf : List Comp → Nat
  | [] => 0
  | c :: l => 2 ^ bit c ||| maskOf l

theorem testBit_maskOf {l : List Comp} {c : Comp} (h : (maskOf l).testBit (bit c) = true) : c ∈ l := by
  induction l with
  | nil => simp [maskOf] at h
  | cons d l ih =>
    rw [maskOf, Nat.testBit_or, Bool.or_eq_true, Nat.testBit_two_pow, decide_eq_true_eq] at h
    rcases h with h | h
    · exact bit_inj h ▸ List.mem_cons_self
    · exact List.mem_cons_of_mem _ (ih h)

/-- A state that differs within the mask of a list differs in the parts of the list alone. -/
theorem sameBut_of_touches {l : List Comp} {s t : State} (h : Touches (maskOf l) s t) : SameBut l s t := by
  obtain ⟨hpending, -, hsame⟩ := h
  refine ⟨hpending, fun c hc => hsame c ?_⟩
  by_contra hk
  exact hc (testBit_maskOf (Bool.not_eq_false _ ▸ hk))

/-- A frame of a meaning, for the state in which the command ends. -/
theorem touches_of_next {m : Nat} {r : Host.Outcome State Fault Refusal} {s t : State} (h : r = .next t)
    (hr : Touches m s (Touches.outS s r)) : Touches m s t := by
  rwa [h] at hr

/-! ### Parts of the state behind a frame -/

section
variable {m : Nat} {s t : State} (h : Touches m s t)
include h

theorem cell_of_touches (hb : m.testBit 22 = false) (c : Nat) : cell t c = cell s c := by
  unfold cell; rw [show t.comb.cells = s.comb.cells from h.same (c := .cells) hb]

theorem pipe_of_touches (hb : m.testBit 23 = false) (p : Nat) : pipe t p = pipe s p := by
  unfold pipe; rw [show t.comb.pipes = s.comb.pipes from h.same (c := .pipes) hb]

theorem part_of_touches (hb : m.testBit 24 = false) (p : Nat) : part t p = part s p := by
  unfold part; rw [show t.comb.parts = s.comb.parts from h.same (c := .parts) hb]

theorem slot_of_touches (hb : m.testBit 25 = false) (n : Nat) : slot t n = slot s n := by
  unfold slot; rw [show t.comb.slots = s.comb.slots from h.same (c := .slots) hb]

theorem dom_of_touches (hb : m.testBit 5 = false) (d : Nat) : dom t d = dom s d := by
  unfold dom; rw [show t.pwr = s.pwr from h.same (c := .power) hb]

theorem memByte_of_touches (hb : m.testBit 7 = false) (a : Nat) : memByte t a = memByte s a :=
  congrArg (tget 0 · a) (h.same (c := .bytes) hb)

theorem mem_of_touches (h7 : m.testBit 7 = false) (h8 : m.testBit 8 = false) : t.mem = s.mem := by
  have hcells : t.mem.cells = s.mem.cells := h.same (c := .bytes) h7
  have hrest : ({ t.mem with cells := [] } : Mem) = { s.mem with cells := [] } := h.same (c := .memory) h8
  cases ht : t.mem
  cases hs : s.mem
  simp_all

theorem comb_of_touches (hb : m >>> 20 &&& 0x7F = 0) : t.comb = s.comb := by
  have hbit : ∀ i < 7, m.testBit (20 + i) = false := fun i hi => by
    have := congrArg (·.testBit i) hb
    rw [Nat.testBit_and, Nat.testBit_shiftRight, Nat.zero_testBit, show (0x7F : Nat) = 2 ^ 7 - 1 from rfl,
      Nat.testBit_two_pow_sub_one] at this
    simpa [hi] using this
  obtain ⟨hretire, hue, hres, hrouter⟩ := h.same (c := .retiring) (hbit 6 (by decide))
  have hext : ∀ a b : Comb, a.gov = b.gov → a.margin = b.margin → a.cells = b.cells → a.pipes = b.pipes → a.parts = b.parts →
      a.slots = b.slots → a.retire = b.retire → a.ueTimes = b.ueTimes → a.resTimes = b.resTimes → a.routerBad = b.routerBad →
      a = b := fun a b => by cases a; cases b; simp_all
  exact hext _ _ (h.same (c := .governors) (hbit 0 (by decide))) (h.same (c := .margins) (hbit 1 (by decide)))
    (h.same (c := .cells) (hbit 2 (by decide))) (h.same (c := .pipes) (hbit 3 (by decide)))
    (h.same (c := .parts) (hbit 4 (by decide))) (h.same (c := .slots) (hbit 5 (by decide))) hretire hue hres hrouter

end

/-! ### A raised interrupt (R489) -/

/-- An interrupt changes registers and what leaves the module. -/
theorem raiseIrq_eq (s : State) (ty i n : Nat) : ∃ g o, raiseIrq s ty i n = { s with regs := g, out := o } := by
  unfold raiseIrq
  split
  · exact ⟨_, _, rfl⟩
  · dsimp only
    split <;> exact ⟨_, _, rfl⟩

section
variable (s : State) (ty i n : Nat)

@[simp] theorem raiseIrq_now : (raiseIrq s ty i n).now = s.now := by obtain ⟨g, o, h⟩ := raiseIrq_eq s ty i n; rw [h]
@[simp] theorem raiseIrq_rtc : (raiseIrq s ty i n).rtc = s.rtc := by obtain ⟨g, o, h⟩ := raiseIrq_eq s ty i n; rw [h]
@[simp] theorem raiseIrq_free : (raiseIrq s ty i n).free = s.free := by obtain ⟨g, o, h⟩ := raiseIrq_eq s ty i n; rw [h]
@[simp] theorem raiseIrq_comb : (raiseIrq s ty i n).comb = s.comb := by obtain ⟨g, o, h⟩ := raiseIrq_eq s ty i n; rw [h]
@[simp] theorem raiseIrq_pwr : (raiseIrq s ty i n).pwr = s.pwr := by obtain ⟨g, o, h⟩ := raiseIrq_eq s ty i n; rw [h]
@[simp] theorem raiseIrq_clk : (raiseIrq s ty i n).clk = s.clk := by obtain ⟨g, o, h⟩ := raiseIrq_eq s ty i n; rw [h]
@[simp] theorem raiseIrq_mem : (raiseIrq s ty i n).mem = s.mem := by obtain ⟨g, o, h⟩ := raiseIrq_eq s ty i n; rw [h]
@[simp] theorem raiseIrq_kv : (raiseIrq s ty i n).kv = s.kv := by obtain ⟨g, o, h⟩ := raiseIrq_eq s ty i n; rw [h]
@[simp] theorem raiseIrq_host : (raiseIrq s ty i n).host = s.host := by obtain ⟨g, o, h⟩ := raiseIrq_eq s ty i n; rw [h]
@[simp] theorem raiseIrq_wag : (raiseIrq s ty i n).wag = s.wag := by obtain ⟨g, o, h⟩ := raiseIrq_eq s ty i n; rw [h]
@[simp] theorem raiseIrq_hive : (raiseIrq s ty i n).hive = s.hive := by obtain ⟨g, o, h⟩ := raiseIrq_eq s ty i n; rw [h]
@[simp] theorem raiseIrq_serv : (raiseIrq s ty i n).serv = s.serv := by obtain ⟨g, o, h⟩ := raiseIrq_eq s ty i n; rw [h]
@[simp] theorem raiseIrq_twin : (raiseIrq s ty i n).twin = s.twin := by obtain ⟨g, o, h⟩ := raiseIrq_eq s ty i n; rw [h]
@[simp] theorem raiseIrq_vid : (raiseIrq s ty i n).vid = s.vid := by obtain ⟨g, o, h⟩ := raiseIrq_eq s ty i n; rw [h]
@[simp] theorem raiseIrq_sec : (raiseIrq s ty i n).sec = s.sec := by obtain ⟨g, o, h⟩ := raiseIrq_eq s ty i n; rw [h]
@[simp] theorem raiseIrq_boot : (raiseIrq s ty i n).boot = s.boot := by obtain ⟨g, o, h⟩ := raiseIrq_eq s ty i n; rw [h]

/-- The bit that is raised reads 1, whether or not it stood already. -/
@[simp] theorem rd_raiseIrq_same : rd (raiseIrq s ty i n) (hIrqRaw ty n) i = 1 := by
  unfold raiseIrq
  split
  · assumption
  · dsimp only
    split
    · rw [rd_emit]; exact rd_wr_fit _ _ _ _ (by simp [hIrqRaw])
    · exact rd_wr_fit _ _ _ _ (by simp [hIrqRaw])

end

/-! ### A recorded event (R442) -/

section
variable (s : State) (ty i code sev tenant : Nat) (detail : List Nat)

theorem recordEvent_after : Touches 0x180000000060010 s (recordEvent s ty i code sev tenant detail) :=
  recordEvent_touches rfl (Touches.refl _ s)

/-- A record leaves the registers of every page but the recorder's two. -/
theorem rd_recordEvent {f : Fld} (h : Nat.testBit 0x180000000060010 (32 + f.ty % 32) = false) (j k : Nat) :
    rd (recordEvent s ty i code sev tenant detail) f j k = rd s f j k :=
  (recordEvent_after s ty i code sev tenant detail).reads h

@[simp] theorem recordEvent_now : (recordEvent s ty i code sev tenant detail).now = s.now :=
  (recordEvent_after s ty i code sev tenant detail).same (c := .now) rfl
@[simp] theorem recordEvent_rtc : (recordEvent s ty i code sev tenant detail).rtc = s.rtc :=
  (recordEvent_after s ty i code sev tenant detail).same (c := .rtc) rfl
@[simp] theorem recordEvent_free : (recordEvent s ty i code sev tenant detail).free = s.free :=
  (recordEvent_after s ty i code sev tenant detail).same (c := .free) rfl
@[simp] theorem recordEvent_comb : (recordEvent s ty i code sev tenant detail).comb = s.comb :=
  comb_of_touches (recordEvent_after s ty i code sev tenant detail) rfl
@[simp] theorem recordEvent_pwr : (recordEvent s ty i code sev tenant detail).pwr = s.pwr :=
  (recordEvent_after s ty i code sev tenant detail).same (c := .power) rfl
@[simp] theorem recordEvent_clk : (recordEvent s ty i code sev tenant detail).clk = s.clk :=
  (recordEvent_after s ty i code sev tenant detail).same (c := .clocks) rfl
@[simp] theorem recordEvent_mem : (recordEvent s ty i code sev tenant detail).mem = s.mem :=
  mem_of_touches (recordEvent_after s ty i code sev tenant detail) rfl rfl
@[simp] theorem recordEvent_kv : (recordEvent s ty i code sev tenant detail).kv = s.kv :=
  (recordEvent_after s ty i code sev tenant detail).same (c := .kv) rfl
@[simp] theorem recordEvent_host : (recordEvent s ty i code sev tenant detail).host = s.host :=
  (recordEvent_after s ty i code sev tenant detail).same (c := .host) rfl
@[simp] theorem recordEvent_wag : (recordEvent s ty i code sev tenant detail).wag = s.wag :=
  (recordEvent_after s ty i code sev tenant detail).same (c := .links) rfl
@[simp] theorem recordEvent_hive : (recordEvent s ty i code sev tenant detail).hive = s.hive :=
  (recordEvent_after s ty i code sev tenant detail).same (c := .hive) rfl
@[simp] theorem recordEvent_serv : (recordEvent s ty i code sev tenant detail).serv = s.serv :=
  (recordEvent_after s ty i code sev tenant detail).same (c := .serving) rfl
@[simp] theorem recordEvent_twin : (recordEvent s ty i code sev tenant detail).twin = s.twin :=
  (recordEvent_after s ty i code sev tenant detail).same (c := .twin) rfl
@[simp] theorem recordEvent_vid : (recordEvent s ty i code sev tenant detail).vid = s.vid :=
  (recordEvent_after s ty i code sev tenant detail).same (c := .video) rfl
@[simp] theorem recordEvent_sec : (recordEvent s ty i code sev tenant detail).sec = s.sec :=
  (recordEvent_after s ty i code sev tenant detail).same (c := .security) rfl

end

/-! ### The running launch of a partition -/

@[simp] theorem part_modRunning (s : State) (p : Nat) (f : Running → Running) :
    part (modRunning s p f) p = { part s p with running := (part s p).running.map f } := part_setPart ..

theorem part_modRunning_ne (s : State) {p q : Nat} (f : Running → Running) (h : q ≠ p) :
    part (modRunning s p f) q = part s q := part_setPart_ne _ _ h

theorem modRunning_eq (s : State) (p : Nat) (f : Running → Running) :
    ∃ t, modRunning s p f = { s with comb := { s.comb with parts := t } } := ⟨_, rfl⟩

@[simp] theorem rd_modRunning (s : State) (p : Nat) (f : Running → Running) (g : Fld) (i k : Nat) :
    rd (modRunning s p f) g i k = rd s g i k := rfl
@[simp] theorem cell_modRunning (s : State) (p : Nat) (f : Running → Running) (c : Nat) :
    cell (modRunning s p f) c = cell s c := rfl
@[simp] theorem pipe_modRunning (s : State) (p : Nat) (f : Running → Running) (q : Nat) :
    pipe (modRunning s p f) q = pipe s q := rfl

/-! ### Runs of writes to a table -/

section
variable {α : Type} [DecidableEq α]

theorem tget_tsets_outside (d : α) (vs : List α) (a k : Nat) (t : Tbl α) (h : k < a ∨ a + vs.length ≤ k) :
    tget d (tsets d a vs t) k = tget d t k := by
  induction vs generalizing a t with
  | nil => rfl
  | cons v vs ih =>
    rw [List.length_cons] at h
    rw [tsets, ih _ _ (by omega), tget_tset_ne _ _ (by omega)]

theorem tget_tsets_inside (d : α) (vs : List α) (a j : Nat) (t : Tbl α) (h : j < vs.length) :
    tget d (tsets d a vs t) (a + j) = vs[j] := by
  induction vs generalizing a j t with
  | nil => simp at h
  | cons v vs ih =>
    rw [tsets]
    cases j with
    | zero => rw [tget_tsets_outside _ _ _ _ _ (by omega)]; exact tget_tset_same _ _ _ _
    | succ j =>
      rw [show a + (j + 1) = a + 1 + j by omega, ih]
      rfl

end

theorem tgets_eq_of_tget (d : α) (t : Tbl α) (a : Nat) (l : List α) (h : ∀ j < l.length, tget d t (a + j) = l.getD j d) :
    tgets d t a l.length = l := by
  induction l generalizing a with
  | nil => rfl
  | cons v l ih =>
    rw [List.length_cons, tgets, show tget d t a = v from h 0 (Nat.zero_lt_succ _), ih]
    intro j hj
    rw [Nat.add_right_comm]
    exact h (j + 1) (Nat.succ_lt_succ hj)

/-! ### Bytes of device memory -/

/-- The write of bytes from `a` on takes the byte at `a + j`: its unit is not poisoned, or the write covers it whole (R246). -/
def TakesByte (s : State) (a n j : Nat) : Prop := (poisonUnit s ((a + j) / 64) && !wholeUnit a n ((a + j) / 64)) = false

theorem writeBytes_taken (s : State) (a0 n : Nat) (bs : List Byte) (a : Nat) (t : Tbl Byte)
    (h : ∀ j < bs.length, (poisonUnit s ((a + j) / 64) && !wholeUnit a0 n ((a + j) / 64)) = false) (j : Nat)
    (hj : j < bs.length) : tget 0 (writeBytes s a0 n a bs t) (a + j) = bs.getD j 0 := by
  induction bs generalizing a t j with
  | nil => simp at hj
  | cons b bs ih =>
    rw [writeBytes, show a = a + 0 from rfl, h 0 (Nat.zero_lt_succ _), if_neg Bool.false_ne_true]
    cases j with
    | zero =>
      rw [writeBytes_outside _ _ _ _ _ _ _ (by omega)]
      exact tget_tset_same _ _ _ _
    | succ j =>
      rw [show a + 0 + (j + 1) = a + 1 + j by omega]
      exact ih (a + 1) _ (fun i hi => by
        rw [show a + 1 + i = a + (i + 1) by omega]
        exact h (i + 1) (Nat.succ_lt_succ hi)) j (Nat.lt_of_succ_lt_succ hj)

theorem memBytes_memWrite (s : State) (a : Nat) (bs : List Byte) (h : ∀ j < bs.length, TakesByte s a bs.length j) :
    memBytes (memWrite s a bs) a bs.length = bs :=
  tgets_eq_of_tget 0 _ a bs fun j hj => writeBytes_taken s a bs.length bs a _ h j hj

/-- A write of whole units takes every byte, poisoned or not. -/
theorem takesByte_of_whole (s : State) {a n j : Nat} (ha : a % 64 = 0) (hn : n % 64 = 0) (hj : j < n) : TakesByte s a n j := by
  have h : wholeUnit a n ((a + j) / 64) = true := by
    unfold wholeUnit
    simp only [Bool.and_eq_true, decide_eq_true_eq]
    omega
  unfold TakesByte
  rw [h, Bool.not_true, Bool.and_false]

/-! ### Queues and their running commands -/

@[simp] theorem queue_setQueue (s : State) (q : Nat) (x : Queue) : queue (setQueue s q x) q = x := tget_tset_same _ _ _ _

theorem queue_setQueue_ne (s : State) {q p : Nat} (x : Queue) (h : p ≠ q) : queue (setQueue s q x) p = queue s p :=
  tget_tset_ne _ _ h _ _

theorem queue_of_touches {m : Nat} {s t : State} (h : Touches m s t) (hb : m.testBit 10 = false) (q : Nat) :
    queue t q = queue s q := by
  unfold queue
  rw [show t.host = s.host from h.same (c := .host) hb]

/-- A command that `running` finds is the queue's, has its opcode, and is not at work elsewhere. -/
theorem run_of_running {s : State} {q op : Nat} {r : RunCmd} (h : running s q op = some r) :
    (queue s q).run = some r ∧ runOp r = op ∧ r.busy = false := by
  unfold running at h
  split at h
  · next x hx =>
    split at h
    · next hc =>
      obtain rfl : x = r := Option.some.inj h
      rw [Bool.and_eq_true, decide_eq_true_eq, Bool.not_eq_true'] at hc
      exact ⟨hx, hc⟩
    · cases h
  · cases h

/-- A command that is marked as working elsewhere stays its queue's. -/
theorem run_setBusy {s : State} {q : Nat} {r : RunCmd} (h : (queue s q).run = some r) :
    (queue (setBusy s q) q).run = some { r with busy := true } := by
  unfold setBusy
  rw [queue_setQueue, h]
  rfl

end Sys2Proof.Proofs
end

section
/-!
Proofs for chapters 03 and 04: what an instruction that issues leaves of its cell (R72, R73), and with it the vector, special-function,
matrix, conversion and control instructions.
-/

namespace Sys2Proof.Proofs

open Sys2Proof Sys2Proof.Machine Sys2Proof.Safety Sys2Proof.Certificates Sys2Proof.Laws

/-! ### Issue (R72) -/

/-- The cell as issue leaves it: one place on in its stream, the results that are readable no longer pending, its unit taken. -/
def issued (x : Cell) (unit step busy : Nat) : Cell :=
  takeUnit { x with next := x.next + 1, pend := x.pend.filter (fun d => step < d.ready) } unit (step + busy)

section
variable (x : Cell) (u t step busy : Nat)

@[simp] theorem takeUnit_store : (takeUnit x u t).store = x.store := by unfold takeUnit; split <;> rfl
@[simp] theorem takeUnit_acc : (takeUnit x u t).acc = x.acc := by unfold takeUnit; split <;> rfl
@[simp] theorem takeUnit_pend : (takeUnit x u t).pend = x.pend := by unfold takeUnit; split <;> rfl
@[simp] theorem takeUnit_next : (takeUnit x u t).next = x.next := by unfold takeUnit; split <;> rfl
@[simp] theorem takeUnit_ended : (takeUnit x u t).ended = x.ended := by unfold takeUnit; split <;> rfl

@[simp] theorem issued_store : (issued x u step busy).store = x.store := takeUnit_store _ _ _
@[simp] theorem issued_acc : (issued x u step busy).acc = x.acc := takeUnit_acc _ _ _
@[simp] theorem issued_next : (issued x u step busy).next = x.next + 1 := takeUnit_next _ _ _
@[simp] theorem issued_ended : (issued x u step busy).ended = x.ended := takeUnit_ended _ _ _

/-- What issue forgets was readable already: a read in the same step meets what it met before (R73). -/
@[simp] theorem pendOld_issued (space a : Nat) : pendOld (issued x u step busy) step space a = pendOld x step space a := by
  have hpend : (issued x u step busy).pend = x.pend.filter (fun d => step < d.ready) := takeUnit_pend _ _ _
  unfold pendOld
  rw [hpend, ← List.filter_reverse, List.find?_filter]
  congr 2
  funext d
  by_cases h : step < d.ready <;> simp [h]

@[simp] theorem cellBytes_issued (old : Bool) (a n : Nat) :
    cellBytes (issued x u step busy) step old a n = cellBytes x step old a n := by
  simp only [cellBytes, pendOld_issued, issued_store]

end

section
variable (s : State) (c : Nat) (y x : Cell) (u step busy : Nat)

@[simp] theorem readCodes_issued (fmt a n : Nat) :
    readCodes (setCell s c y) (issued x u step busy) step fmt a n = readCodes s x step fmt a n := by
  simp only [readCodes, cellBytes_issued]
  rfl

@[simp] theorem accElem_issued (a i j : Nat) :
    accElem (setCell s c y) (issued x u step busy) step a i j = accElem s x step a i j := by
  simp only [accElem, pendOld_issued, issued_acc]
  rfl

@[simp] theorem vecSource_issued (space inFmt src n : Nat) :
    vecSource (setCell s c y) (issued x u step busy) step space inFmt src n = vecSource s x step space inFmt src n := by
  simp only [vecSource, readCodes_issued, accElem_issued]

@[simp] theorem mmaRun_issued (fmt base n k scBase : Nat) :
    mmaRun (setCell s c y) (issued x u step busy) step fmt base n k scBase = mmaRun s x step fmt base n k scBase := by
  simp only [mmaRun, readCodes_issued, cellBytes_issued, issued_store]
  rfl

@[simp] theorem cvtSource_issued (a : CvtArgs) :
    cvtSource (setCell s c y) (issued x u step busy) step a = cvtSource s x step a := by
  simp only [cvtSource, readCodes_issued, cellBytes_issued, issued_store]
  rfl

end

/-- An instruction with legal fields whose unit is free issues: its effect starts from the cell that issue leaves. -/
theorem issueInstr_of_issuing {s : State} {c unit : Nat} {r : Running} (h : Issuing s c unit r) (busy : Nat) {ok : Bool}
    (hok : ok = true) (k : State → Running → Cell → State) :
    issueInstr s c unit busy ok k =
      k (setCell s c (issued (cell s c) unit r.step busy)) r (issued (cell s c) unit r.step busy) := by
  obtain ⟨hlaunch, hended, hbuf, hfree⟩ := h
  unfold issueInstr
  rw [hlaunch]
  simp [hended, hbuf, hok, hfree, issued]

/-- An instruction that is not in the buffer is a stream fault, and the stream moves on (R74). -/
theorem issueInstr_of_not_inBuffer {s : State} {c : Nat} {r : Running} (hl : cellLaunch s c = some r)
    (he : (cell s c).ended = false) (hb : inBuffer (cell s c) = false) (unit busy : Nat) (ok : Bool)
    (k : State → Running → Cell → State) :
    issueInstr s c unit busy ok k = planFault (setCell s c { cell s c with next := (cell s c).next + 1 }) c := by
  unfold issueInstr
  rw [hl]
  simp [he, hb]

/-- A cell without a launch issues nothing. -/
theorem issueInstr_of_no_launch {s : State} {c : Nat} (hl : cellLaunch s c = none) (unit busy : Nat) (ok : Bool)
    (k : State → Running → Cell → State) : issueInstr s c unit busy ok k = s := by
  unfold issueInstr
  rw [hl]

/-- The launch that a cell's stream belongs to is the one that runs in its partition. -/
theorem running_of_cellLaunch {s : State} {c : Nat} {r : Running} (h : cellLaunch s c = some r) :
    (part s (cellPart s c)).running = some r := by
  unfold cellLaunch at h
  split at h
  · next hr =>
    split at h
    · rw [hr]; exact h
    · cases h
  · cases h

/-! ### Results that go to a store -/

section
variable (s : State) (c : Nat) (x y : Cell)

/-- The state after an instruction that takes free values and leaves `x` of its cell. -/
theorem cell_useFree_setCell : cell (useFree (setCell s c x)) c = x := cell_setCell s c x

theorem cell_setCell_setCell_ne {d : Nat} (h : d ≠ c) : cell (setCell (setCell s c x) c y) d = cell s d := by
  rw [cell_setCell_ne _ _ h, cell_setCell_ne _ _ h]

theorem sameBut_setCell_setCell : SameBut [.free, .cells] s (useFree (setCell (setCell s c x) c y)) :=
  sameBut_of_touches (useFree_touches rfl (setCell_touches rfl (setCell_touches rfl (Touches.refl _ s))))

end

/-- A VEC instruction that issues ends with its results at DST. -/
theorem vecInstr_writes {mk : Nat → VecArgs → Instr} {f : List Nat → List Nat → List Nat → List Nat}
    (hmk : ∀ c a s, exec (mk c a) s = .next (vecInstr s c a f)) : VectorOp mk f := by
  intro c a r s hi hok
  refine ⟨vecInstr s c a f, hmk c a s, ?_⟩
  unfold vecInstr
  rw [issueInstr_of_issuing hi _ hok]
  simp only [vecSource_issued, readCodes_issued, cell_useFree_setCell]
  refine ⟨by simp [putStore], by simp [putStore], rfl, rfl, fun d hd => cell_setCell_setCell_ne s c _ _ hd,
    sameBut_setCell_setCell s c _ _⟩

/-- Settles O4. -/
theorem vectorOps : Obligations.VectorOps :=
  ⟨vecInstr_writes fun _ _ _ => rfl, vecInstr_writes fun _ _ _ => rfl, vecInstr_writes fun _ _ _ => rfl,
    vecInstr_writes fun _ _ _ => rfl, vecInstr_writes fun _ _ _ => rfl, vecInstr_writes fun _ _ _ => rfl,
    vecInstr_writes fun _ _ _ => rfl, vecInstr_writes fun _ _ _ => rfl, vecInstr_writes fun _ _ _ => rfl⟩

/-- A result of the special-function unit depends on the state through its free values alone. -/
theorem sfuResult_setCell (s : State) (c : Nat) (x : Cell) (op i v : Nat) :
    sfuResult (setCell s c x) op i v = sfuResult s op i v := rfl

/-- An SFU instruction that issues ends with its results at DST. -/
theorem sfuInstr_writes {mk : Nat → VecArgs → Instr} {op : Nat} (hmk : ∀ c a s, exec (mk c a) s = .next (sfuInstr s c op a)) :
    SfuOp mk op := by
  intro c a r s hi hl hl' hs1 hfmt
  refine ⟨sfuInstr s c op a, hmk c a s, ?_⟩
  unfold sfuInstr
  rw [issueInstr_of_issuing hi _ (by simp [hl, hl', hs1, hfmt])]
  simp only [vecSource_issued, sfuResult_setCell, cell_useFree_setCell]
  refine ⟨by simp [putStore], by simp [putStore], rfl, rfl, fun d hd => cell_setCell_setCell_ne s c _ _ hd,
    sameBut_setCell_setCell s c _ _⟩

/-- Settles O5: each instruction through the one shape they share, the special values by the table of R112. -/
theorem specialFunctionOps : Obligations.SpecialFunctionOps :=
  ⟨sfuInstr_writes fun _ _ _ => rfl, sfuInstr_writes fun _ _ _ => rfl, sfuInstr_writes fun _ _ _ => rfl,
    sfuInstr_writes fun _ _ _ => rfl, fun s op i x v h => by unfold sfuResult; rw [h]⟩

/-! ### Faults of a cell (R74, R147) -/

/-- A cause that the step in progress meets joins the launch's list. -/
theorem part_noteCause {s : State} {p : Nat} {r : Running} (h : (part s p).running = some r) (cause : Cause) (ty i : Nat)
    (detail : List Nat) :
    part (noteCause s p cause ty i detail) p = { part s p with running := some { r with causes := r.causes ++ [cause] } } := by
  unfold noteCause
  rw [h]
  dsimp only
  rw [part_of_touches (recordEvent_after _ _ _ _ _ _ _) rfl, part_modRunning, h]
  rfl

theorem causes_cellFault {s : State} {c : Nat} {r : Running} (h : (part s (cellPart s c)).running = some r) (cause : Cause)
    (addr : Nat) :
    (part (cellFault s c cause addr) (cellPart s c)).running.map Running.causes = some (r.causes ++ [cause]) := by
  unfold cellFault
  rw [part_noteCause (by rw [part_modRunning, h]; rfl)]
  dsimp only [Option.map]
  split <;> rfl

theorem cellFault_after (s : State) (c : Nat) (cause : Cause) (addr : Nat) :
    Touches 0x180000001060010 s (cellFault s c cause addr) := cellFault_touches rfl (Touches.refl _ s)

/-- A stream fault joins the launch's causes and raises the cell's interrupt. -/
theorem planFault_notes {s : State} {c : Nat} {r : Running} (h : (part s (cellPart s c)).running = some r) :
    (part (planFault s c) (cellPart s c)).running.map Running.causes = some (r.causes ++ [.planFault]) ∧
      rd (planFault s c) (hIrqRaw 0 Irq.CELL_PLAN_FAULT) (cellPage s c) = 1 := by
  unfold planFault planFaultAt
  refine ⟨?_, rd_raiseIrq_same ..⟩
  rw [← causes_cellFault h .planFault 0]
  unfold part
  rw [raiseIrq_comb]

/-! ### Matrix and conversion (R105, R107 to R120) -/

/-- Element (m, n) of a written accumulator is the one that the list of its 2,048 elements gives. -/
theorem acc_putAcc (x : Cell) (a ready : Nat) (f : Nat → Nat) {m n : Nat} (hm : m < 64) (hn : n < 32) :
    tget 0 (putAcc x a ((List.range 2048).map f) ready).acc (2048 * a + 32 * m + n) = f (32 * m + n) := by
  have h : 32 * m + n < ((List.range 2048).map f).length := by simp; omega
  have := tget_tsets_inside 0 ((List.range 2048).map f) (2048 * a) (32 * m + n) x.acc h
  rw [← Nat.add_assoc] at this
  simpa [putAcc] using this

theorem mma_writes {c : Nat} {a : MmaArgs} {r : Running} {s : State} {as bs : List (List Val)} (hi : Issuing s c 1 r)
    (hok : Machine.mmaOk a = true)
    (has : (List.range a.k).mapM (fun k => mmaRun s (cell s c) r.step a.aFmt (64 * a.aAddr) a.m k (64 * a.scale)) = some as)
    (hbs : (List.range a.k).mapM (fun k => mmaRun s (cell s c) r.step a.bFmt (64 * a.bAddr) a.n k
      (if fmtIsMx a.aFmt then 64 * a.scale + (a.m * ((a.k + 31) / 32) + 63) / 64 * 64 else 64 * a.scale)) = some bs) :
    Ends (.mma c a) s (fun t =>
      (∀ m n, m < 64 → n < 32 →
        tget 0 (cell t c).acc (2048 * a.acc + 32 * m + n) =
          let old := if a.zero then 0 else tget 0 (cell s c).acc (2048 * a.acc + 32 * m + n)
          if m < a.m ∧ n < a.n then
            mmaElem old ((List.range a.k).map (fun k => ((as.getD k []).getD m .nan, (bs.getD k []).getD n .nan)))
          else old) ∧
      (cell t c).store = (cell s c).store ∧ (cell t c).matFree = r.step + mmaBusy a.aFmt a.bFmt a.k ∧
      (∀ d, d ≠ c → cell t d = cell s d) ∧ SameBut [.free, .cells] s t) := by
  refine ⟨_, congrArg Host.Outcome.next (issueInstr_of_issuing hi _ hok _), ?_⟩
  simp only [mmaRun_issued, has, hbs, cell_useFree_setCell]
  refine ⟨fun m n hm hn => ?_, by simp [putAcc], rfl, fun d hd => cell_setCell_setCell_ne s c _ _ hd,
    sameBut_setCell_setCell s c _ _⟩
  have hdiv : (32 * m + n) / 32 = m := by omega
  have hmod : (32 * m + n) % 32 = n := by omega
  rw [acc_putAcc _ _ _ _ hm hn]
  simp [hdiv, hmod, ← Nat.add_assoc]

theorem mma_format_fault {c : Nat} {a : MmaArgs} {r : Running} {s : State} (hi : Issuing s c 1 r)
    (hok : Machine.mmaOk a = true)
    (hbs : (List.range a.k).mapM (fun k => mmaRun s (cell s c) r.step a.bFmt (64 * a.bAddr) a.n k
      (if fmtIsMx a.aFmt then 64 * a.scale + (a.m * ((a.k + 31) / 32) + 63) / 64 * 64 else 64 * a.scale)) = none) :
    Ends (.mma c a) s (fun t =>
      (cell t c).acc = (cell s c).acc ∧ (cell t c).store = (cell s c).store ∧
      (part t (cellPart s c)).running.map Running.causes = some (r.causes ++ [.format])) := by
  refine ⟨_, congrArg Host.Outcome.next (issueInstr_of_issuing hi _ hok _), ?_⟩
  have hrun : (part s (cellPart s c)).running = some r := running_of_cellLaunch hi.1
  set u := setCell s c (issued (cell s c) 1 r.step (mmaBusy a.aFmt a.bFmt a.k)) with hu
  have hcell : cell (useFree (cellFault u c .format a.bAddr)) c = issued (cell s c) 1 r.step (mmaBusy a.aFmt a.bFmt a.k) :=
    (cell_of_touches (cellFault_after u c .format a.bAddr) rfl c).trans (cell_setCell s c _)
  have hcauses : (part (useFree (cellFault u c .format a.bAddr)) (cellPart s c)).running.map Running.causes =
      some (r.causes ++ [.format]) := causes_cellFault (s := u) hrun .format a.bAddr
  simp only [hu, mmaRun_issued, hbs]
  rw [← hu]
  generalize (List.range a.k).mapM (fun k => mmaRun s (cell s c) r.step a.aFmt (64 * a.aAddr) a.m k (64 * a.scale)) = o
  cases o <;> exact ⟨by rw [hcell]; exact issued_acc .., by rw [hcell]; exact issued_store .., hcauses⟩

theorem cvt_writes {c : Nat} {a : CvtArgs} {r : Running} {s : State} {vs : List Val} (hi : Issuing s c 2 r) (hl : 1 ≤ a.l)
    (hl' : a.l ≤ 65534) (hpair : cvtPair a.fromF a.toF = true) (hmx : fmtIsMx a.toF = false)
    (hvs : cvtSource s (cell s c) r.step a = some vs) :
    Ends (.cvt c a) s (fun t =>
      (cell t c).store = tsets 0 (64 * a.dst)
        (if a.toF = 14 then packT5 (vs.map (fun v => max (-1) (min 1 (encodeInt (-128) 127 none v))))
          else packCodes (fmtBits a.toF) (vs.mapIdx (fun i v => encodeElem a.toF
            (if a.round then some (generator r.desc.stochKey (roundCounter r.step c i)) else none) v))) (cell s c).store ∧
      (cell t c).acc = (cell s c).acc ∧ (∀ d, d ≠ c → cell t d = cell s d) ∧ SameBut [.free, .cells] s t) := by
  refine ⟨_, congrArg Host.Outcome.next (issueInstr_of_issuing hi _ (by simp [hl, hl', hpair]) _), ?_⟩
  simp only [cvtSource_issued, hvs, hmx, Bool.false_eq_true, if_false, cell_useFree_setCell]
  refine ⟨?_, ?_, fun d hd => cell_setCell_setCell_ne s c _ _ hd, sameBut_setCell_setCell s c _ _⟩
  · split <;> simp [putStore]
  · split <;> simp [putStore]

/-- Settles O6. -/
theorem matrixAndConvert : Obligations.MatrixAndConvert :=
  ⟨fun _ _ _ _ _ _ hi hok has hbs => mma_writes hi hok has hbs, fun _ _ _ _ hi hok hbs => mma_format_fault hi hok hbs,
    fun _ _ _ _ _ hi hl hl' hpair hmx hvs => cvt_writes hi hl hl' hpair hmx hvs⟩

/-! ### Control instructions (R70, R74, R137) -/

/-- MARK on a unit that is no twin unit has no effect but its issue. -/
theorem mark_single {c m : Nat} {r : Running} {s : State} (hi : Issuing s c 0 r) (htwin : twinRole s = 0) :
    exec (.mark c m) s = .next (setCell s c (issued (cell s c) 0 r.step 0)) := by
  refine congrArg Host.Outcome.next ((issueInstr_of_issuing hi 0 rfl _).trans ?_)
  exact if_neg (by simp [show twinRole (setCell s c _) = twinRole s from rfl, htwin])

theorem mark_compares {c m : Nat} {r : Running} {s : State} {x : ComparePoint} (hi : Issuing s c 0 r) (htwin : twinRole s ≠ 0)
    (hmirrored : mirrored s (cellPart s c) = true)
    (hfind : (comparesOf (runImage s r) r.desc.variant).find? (fun x => x.mark = m && x.cell = c) = some x) :
    Ends (.mark c m) s (fun t => (twinPart t (cellPart s c)).own = (twinPart s (cellPart s c)).own ++
      [(r.serial, m, memBytes s (regionBase s r x.region + x.addr) (compareBytes x))] ∧ SameBut [.cells, .twin] s t) := by
  refine ⟨_, congrArg Host.Outcome.next (issueInstr_of_issuing hi 0 rfl _), ?_⟩
  set u := setCell s c (issued (cell s c) 0 r.step 0)
  have hcond : (twinRole u ≠ 0 && mirrored u (cellPart u c)) = true := by
    simpa using ⟨htwin, hmirrored⟩
  have hpoint : (comparesOf (runImage u r) r.desc.variant).find? (fun x => x.mark = m && x.cell = c) = some x := hfind
  simp only [hcond, if_true, hpoint]
  refine ⟨?_, sameBut_of_touches (setTwinPart_touches rfl (setCell_touches rfl (Touches.refl _ s)))⟩
  exact congrArg TwinPart.own (tget_tset_same _ (cellPart s c) _ _)

/-- A cell without a launch ignores every instruction of its stream. -/
theorem exec_of_no_launch {i : Instr} {c : Nat} {s : State} (h : cellOf i = some c) (hl : cellLaunch s c = none) :
    exec i s = .next s := by
  have hissue : ∀ unit busy ok k, issueInstr s c unit busy ok k = s := issueInstr_of_no_launch hl
  have hmove : ∀ a ok k, moveInstr s c a ok k = s := fun a ok k => by unfold moveInstr; rw [hl]
  have hattn : ∀ addr back, attnCell s c addr back = s := fun addr back => by unfold attnCell; rw [hl]
  have hpipe : ∀ addr back, attnPipe s c addr back = s := fun addr back => by unfold attnPipe; rw [hl]
  cases i <;> simp only [cellOf, Option.some.injEq, reduceCtorEq] at h <;> subst h <;>
    simp only [exec, execCtrlNop, execEnd, execMark, execMma, execAdd, execMul, execFma, execMax, execMin, execRsum, execRmax,
      execScale, execCopy, execExp, execLog, execRecip, execRsqrt, execCvt, execMoveMemToStore, execMoveStoreToMem, execMoveLocal,
      execMoveCellToCell, execMoveToPipe, execMoveFromPipe, execAttnCell, execAttnCellBackward, execAttnPipe,
      execAttnPipeBackward, vecInstr, sfuInstr, moveMem, hissue, hmove, hattn, hpipe]

/-- Settles O7. -/
theorem controlInstructions : Obligations.ControlInstructions := by
  refine ⟨fun c r s hi => ?_, fun c r s hi => ?_, fun c m r s hi htwin => ?_,
    fun c m r s x hi htwin hmirrored hfind => mark_compares hi htwin hmirrored hfind, fun c r s hl he hb => ?_,
    fun i c s h hl => exec_of_no_launch h hl⟩
  · refine ⟨_, congrArg Host.Outcome.next (issueInstr_of_issuing hi 0 rfl _), ?_⟩
    obtain ⟨-, hended, -⟩ := hi
    refine ⟨by simp, by simpa using hended, by simp, fun d hd => cell_setCell_ne _ _ hd,
      sameBut_of_touches (setCell_touches rfl (Touches.refl _ s))⟩
  · refine ⟨_, congrArg Host.Outcome.next (issueInstr_of_issuing hi 0 rfl _), ?_⟩
    refine ⟨by simp, by simp, fun d hd => cell_setCell_setCell_ne s c _ _ hd,
      sameBut_of_touches (setCell_touches rfl (setCell_touches rfl (Touches.refl _ s)))⟩
  · exact ⟨_, mark_single hi htwin, by simp, fun d hd => cell_setCell_ne _ _ hd,
      sameBut_of_touches (setCell_touches rfl (Touches.refl _ s))⟩
  · refine ⟨_, congrArg Host.Outcome.next (issueInstr_of_not_inBuffer hl he hb 0 0 true _), ?_⟩
    exact planFault_notes (s := setCell s c _) (running_of_cellLaunch hl)

end Sys2Proof.Proofs
end

section
/-!
Proofs for chapters 03 and 05: what a MOVE that issues names, moves or trades with a pipe (R71, R72, R165).
-/

namespace Sys2Proof.Proofs

open Sys2Proof Sys2Proof.Machine Sys2Proof.Safety Sys2Proof.Certificates Sys2Proof.Laws

/-- A MOVE with legal fields on a free channel issues. -/
theorem moveInstr_of_issuing {s : State} {c : Nat} {a : MoveArgs} {r : Running} {ok : Running → Bool}
    (hi : Issuing s c (4 + a.chan % 2) r) (h1 : 1 ≤ a.units) (h2 : a.units ≤ 65534)
    (hstore : inStore a.loc (64 * a.units) = true) (hok : ok r = true) (k : State → Running → Cell → State) :
    moveInstr s c a ok k =
      k (setCell s c (issued (cell s c) (4 + a.chan % 2) r.step ((64 * a.units + 255) / 256))) r
        (issued (cell s c) (4 + a.chan % 2) r.step ((64 * a.units + 255) / 256)) := by
  unfold moveInstr
  rw [hi.1]
  exact issueInstr_of_issuing hi _ (by simp [h1, h2, hstore, hok]) k

/-- A MOVE that changes its launch alone leaves the store and the other cells, and the launch as `f` has it. -/
theorem modRunning_of_issued {s : State} {c : Nat} {r : Running} {y : Cell} (hi : cellLaunch s c = some r)
    (hy : y.store = (cell s c).store) (f : Running → Running) :
    (part (modRunning (setCell s c y) (cellPart s c) f) (cellPart s c)).running = some (f r) ∧
      (cell (modRunning (setCell s c y) (cellPart s c) f) c).store = (cell s c).store ∧
      (∀ d, d ≠ c → cell (modRunning (setCell s c y) (cellPart s c) f) d = cell s d) ∧
      SameBut [.cells, .parts] s (modRunning (setCell s c y) (cellPart s c) f) := by
  have hrun : (part (setCell s c y) (cellPart s c)).running = some r := running_of_cellLaunch hi
  refine ⟨by rw [part_modRunning, hrun]; rfl, by rw [cell_modRunning, cell_setCell, hy], fun d hd => ?_,
    sameBut_of_touches (modRunning_touches rfl (setCell_touches rfl (Touches.refl _ s)))⟩
  rw [cell_modRunning, cell_setCell_ne _ _ hd]

@[simp] theorem length_readCodes (s : State) (x : Cell) (step fmt a n : Nat) : (readCodes s x step fmt a n).length = n := by
  simp [readCodes]

theorem moveLocal_writes {c : Nat} {a : MoveArgs} {r : Running} {s : State} (hi : Issuing s c (4 + a.chan % 2) r)
    (h1 : 1 ≤ a.units) (h2 : a.units ≤ 65534) (hstore : inStore a.loc (64 * a.units) = true)
    (hdst : inStore (a.entry % 65536) (64 * a.units) = true) :
    Ends (.moveLocal c a) s (fun t =>
      (cell t c).store = tsets 0 (64 * (a.entry % 65536))
        ((readCodes s (cell s c) r.step 3 (64 * a.loc) (64 * a.units)).map (BitVec.ofNat 8)) (cell s c).store ∧
      (∀ d, d ≠ c → cell t d = cell s d) ∧ SameBut [.free, .cells] s t) := by
  refine ⟨_, congrArg Host.Outcome.next
    (moveInstr_of_issuing (ok := fun _ => inStore (a.entry % 65536) (64 * a.units)) hi h1 h2 hstore hdst _), ?_⟩
  simp only [readCodes_issued, cell_useFree_setCell]
  exact ⟨by simp [putStore], fun d hd => cell_setCell_setCell_ne s c _ _ hd, sameBut_setCell_setCell s c _ _⟩

section
variable {c : Nat} {a : MoveArgs} {r : Running} {s : State} (hi : Issuing s c (4 + a.chan % 2) r) (h1 : 1 ≤ a.units)
  (h2 : a.units ≤ 65534) (hstore : inStore a.loc (64 * a.units) = true) (hroute : hasRoute s a.entry r = true)
include hi h1 h2 hstore hroute

theorem moveToPipe_appends {q : Nat} (hq : epIndex (routeAt (runImage s r) r.desc.variant a.entry).dst = q)
    (hkind : epKind (routeAt (runImage s r) r.desc.variant a.entry).dst = 1) (hpart : quadPart s q = cellPart s c)
    (hroom : (pipe s q).win.length + 64 * a.units ≤ 131072) :
    Ends (.moveToPipe c a) s (fun t =>
      (pipe t q).win = (pipe s q).win ++ (readCodes s (cell s c) r.step 3 (64 * a.loc) (64 * a.units)).map (BitVec.ofNat 8) ∧
      (cell t c).store = (cell s c).store ∧ (∀ d, d ≠ c → cell t d = cell s d) ∧ SameBut [.free, .cells, .pipes] s t) := by
  refine ⟨_, congrArg Host.Outcome.next (moveInstr_of_issuing hi h1 h2 hstore hroute _), ?_⟩
  set x := issued (cell s c) (4 + a.chan % 2) r.step ((64 * a.units + 255) / 256)
  have himg : runImage (setCell s c x) r = runImage s r := rfl
  have hpart' : ∀ u : State, u.regs = s.regs → quadPart u q = cellPart u c := by
    intro u hu
    unfold quadPart cellPart quadPart rd at *
    rw [hu]
    exact hpart
  have hpipe : pipe (setCell s c x) q = pipe s q := rfl
  have hread : readCodes (setCell s c x) x r.step 3 (64 * a.loc) (64 * a.units) =
      readCodes s (cell s c) r.step 3 (64 * a.loc) (64 * a.units) := readCodes_issued ..
  simp only [himg, hq, hkind, hpart' (useFree (setCell s c x)) rfl, hpipe, hread]
  rw [if_neg (by simp), if_neg]
  · refine ⟨congrArg Pipe.win (pipe_setPipe ..), ?_, fun d hd => cell_setCell_ne s _ hd,
      sameBut_of_touches (setPipe_touches rfl (useFree_touches rfl (setCell_touches rfl (Touches.refl _ s))))⟩
    exact (congrArg Cell.store (cell_setCell s c x)).trans (issued_store ..)
  · rw [List.length_map, length_readCodes]
    exact not_lt.2 hroom

theorem moveFromPipe_removes {q : Nat} (hq : epIndex (routeAt (runImage s r) r.desc.variant a.entry).src = q)
    (hkind : epKind (routeAt (runImage s r) r.desc.variant a.entry).src = 1) (hpart : quadPart s q = cellPart s c)
    (hout : 64 * a.units ≤ (pipe s q).out.length) :
    Ends (.moveFromPipe c a) s (fun t =>
      (pipe t q).out = (pipe s q).out.drop (64 * a.units) ∧
      (cell t c).store = tsets 0 (64 * a.loc) ((pipe s q).out.take (64 * a.units)) (cell s c).store ∧
      (∀ d, d ≠ c → cell t d = cell s d) ∧ SameBut [.cells, .pipes] s t) := by
  refine ⟨_, congrArg Host.Outcome.next (moveInstr_of_issuing hi h1 h2 hstore hroute _), ?_⟩
  set x := issued (cell s c) (4 + a.chan % 2) r.step ((64 * a.units + 255) / 256)
  have himg : runImage (setCell s c x) r = runImage s r := rfl
  have hpart' : quadPart (setCell s c x) q = cellPart (setCell s c x) c := hpart
  have hpipe : pipe (setCell s c x) q = pipe s q := rfl
  simp only [himg, hq, hkind, hpart', hpipe]
  rw [if_neg (by simp), if_neg (not_lt.2 hout)]
  refine ⟨congrArg Pipe.out (pipe_setPipe ..), ?_, fun d hd => ?_,
    sameBut_of_touches (setCell_touches rfl (setPipe_touches rfl (setCell_touches rfl (Touches.refl _ s))))⟩
  · rw [cell_setCell]
    exact congrArg (tsets 0 _ _) (issued_store ..)
  · rw [cell_setCell_ne _ _ hd]
    exact cell_setCell_ne s _ hd

end

/-- Settles O8. -/
theorem moves : Obligations.Moves := by
  refine ⟨fun c a r s hi h1 h2 hstore hmem =>
      ⟨⟨_, congrArg Host.Outcome.next (moveInstr_of_issuing hi h1 h2 hstore hmem _), ?_⟩,
        ⟨_, congrArg Host.Outcome.next (moveInstr_of_issuing hi h1 h2 hstore hmem _), ?_⟩⟩,
    fun _ _ _ _ hi h1 h2 hstore hdst => moveLocal_writes hi h1 h2 hstore hdst,
    fun c a r s hi h1 h2 hstore hroute =>
      ⟨_, congrArg Host.Outcome.next (moveInstr_of_issuing hi h1 h2 hstore hroute _), ?_⟩,
    fun _ _ _ _ hi h1 h2 hstore hroute hkind hpart hroom => moveToPipe_appends hi h1 h2 hstore hroute rfl hkind hpart hroom,
    fun _ _ _ _ hi h1 h2 hstore hroute hkind hpart hout => moveFromPipe_removes hi h1 h2 hstore hroute rfl hkind hpart hout⟩
  · exact modRunning_of_issued hi.1 (issued_store ..) _
  · exact modRunning_of_issued hi.1 (issued_store ..) _
  · exact modRunning_of_issued hi.1 (issued_store ..) _

end Sys2Proof.Proofs
end

section
/-!
Proofs for chapters 05, 07 and 09: memory entries as they begin and end, routes, and the end of a step (R130 to R137, R146, R184).
-/

namespace Sys2Proof.Proofs

open Sys2Proof Sys2Proof.Machine Sys2Proof.Safety Sys2Proof.Certificates Sys2Proof.Laws

/-! ### Entries begin (R133) -/

section
variable {s : State} {p i : Nat} {r : Running} (hr : (part s p).running = some r)
include hr

theorem beginEntry_of_begins {kind : Nat} (hb : entryBegins s r i kind = true) (k : State → Running → MemEntry → State) :
    beginEntry s p i kind k =
      k (modRunning s p (fun r => { r with memBegun := i :: r.memBegun })) r (memEntryAt (runImage s r) r.desc.variant i) := by
  unfold beginEntry
  rw [hr]
  exact if_pos hb

theorem beginEntry_of_not_begins {kind : Nat} (hb : entryBegins s r i kind = false)
    (k : State → Running → MemEntry → State) : beginEntry s p i kind k = s := by
  unfold beginEntry
  rw [hr]
  exact if_neg (by rw [hb]; exact Bool.false_ne_true)

theorem running_modRunning (f : Running → Running) : (part (modRunning s p f) p).running = some (f r) := by
  rw [part_modRunning, hr]
  rfl

/-- Reading entries only note that they have begun. -/
theorem beginEntry_notes {kind : Nat} (hb : entryBegins s r i kind = true) :
    (part (beginEntry s p i kind (fun s _ _ => s)) p).running = some { r with memBegun := i :: r.memBegun } ∧
      SameBut [.parts] s (beginEntry s p i kind (fun s _ _ => s)) := by
  rw [beginEntry_of_begins hr hb]
  exact ⟨running_modRunning hr _, sameBut_of_touches (modRunning_touches rfl (Touches.refl _ s))⟩

/-- The state in which entry `i` has begun and its data is taken. -/
def begunWithData (s : State) (p i : Nat) (r : Running) : State :=
  takeData (modRunning s p (fun r => { r with memBegun := i :: r.memBegun })) p i r (memEntryAt (runImage s r) r.desc.variant i)

omit hr in
theorem begunWithData_touches : Touches 0x1000000 s (begunWithData s p i r) :=
  takeData_touches rfl (modRunning_touches rfl (Touches.refl _ s))

theorem running_begunWithData :
    let e := memEntryAt (runImage s r) r.desc.variant i
    (part (begunWithData s p i r) p).running = some { r with
      memBegun := i :: r.memBegun
      wbuf := tset [] i (cellBytes (cell s e.cell) r.step false (64 * nearAddr r i e) (64 * e.units)) r.wbuf } :=
  running_modRunning (running_modRunning hr _) _

theorem kvWrite_keeps (hb : entryBegins s r i 5 = true)
    (hk : let e := memEntryAt (runImage s r) r.desc.variant i; (kvCapture r e).isSome = false ∨ (kvAddrs s r e).isSome = true) :
    exec (.kvWrite p i) s = .next (begunWithData s p i r) := by
  refine congrArg Host.Outcome.next ((beginEntry_of_begins hr hb _).trans (if_neg ?_))
  change ¬((kvCapture r _).isSome && (kvAddrs s r _).isNone) = true
  rcases hk with hk | hk
  · simp [hk]
  · simp [Option.isSome_iff_ne_none.1 hk]

theorem kvWrite_drops (hb : entryBegins s r i 5 = true)
    (hc : (kvCapture r (memEntryAt (runImage s r) r.desc.variant i)).isSome = true)
    (ha : kvAddrs s r (memEntryAt (runImage s r) r.desc.variant i) = none) :
    exec (.kvWrite p i) s = .next (irqEvent (incSat (begunWithData s p i r) R.KVPG_WRITE_DROP) 11 0 Irq.KVPG_WRITE_DROP
      r.desc.tenant [p, i]) := by
  refine congrArg Host.Outcome.next ((beginEntry_of_begins hr hb _).trans (if_pos ?_))
  change ((kvCapture r _).isSome && (kvAddrs s r _).isNone) = true
  rw [hc, ha]
  rfl

theorem refreshEntry_pays (hb : entryBegins s r i 3 = true) :
    let e := memEntryAt (runImage s r) r.desc.variant i
    let m := pchanMemc (runImage s r) e.pchan
    let o := owedOf s m (e.pchan % 4)
    exec (.refreshEntry p i) s = .next (setOwed (modRunning s p (fun r => { r with memBegun := i :: r.memBegun })) m (e.pchan % 4)
      (max (-8) (o - 1 - min (max (o - 1) 0) (gapAfter s r i e / 360 : Nat)))) :=
  congrArg Host.Outcome.next (beginEntry_of_begins hr hb _)

theorem openEntry_pays (hb : entryBegins s r i 6 = true) :
    let e := memEntryAt (runImage s r) r.desc.variant i
    let m := pchanMemc (runImage s r) e.pchan
    let o := owedOf s m (e.pchan % 4)
    exec (.openEntry p i) s = .next (setOwed (modRunning s p (fun r => { r with memBegun := i :: r.memBegun })) m (e.pchan % 4)
      (o - min (max o 0) (3 * e.units / 180 : Nat))) :=
  congrArg Host.Outcome.next (beginEntry_of_begins hr hb _)

/-- A route whose step has come moves once: no MOVE of KIND 3 waits for it (R130). -/
theorem routeTransfer_moves (hbegun : r.begun = true) (hstop : r.stopped = none) (hend : r.ended = false)
    (hfirst : r.rtBegun.contains i = false) (hi : i < (variantAt (runImage s r) r.desc.variant).routes)
    (hstart : (routeAt (runImage s r) r.desc.variant i).start ≤ r.step) (hsend : tget [] r.sends i = []) :
    let e := routeAt (runImage s r) r.desc.variant i
    let t := modRunning s p (fun r => { r with rtBegun := i :: r.rtBegun, rtDone := i :: r.rtDone })
    exec (.routeTransfer p i) s =
      .next (if e.lane1 < 240 then incWrap t R.SEAM_UNITS ((e.bytes + 63) / 64) (e.lane1 / 60) else t) := by
  refine congrArg Host.Outcome.next ?_
  rw [hr]
  refine (if_neg ?_).trans ?_
  · simpa [hbegun, hstop, hend, hi, hstart] using hfirst
  · dsimp only
    rw [hsend]

end

theorem owedOf_setOwed (s : State) (m c : Nat) (v : Int) : owedOf (setOwed s m c v) m c = v := tget_tset_same _ _ _ _

/-- Settles O10. -/
theorem entriesBegin : Obligations.EntriesBegin := by
  refine ⟨fun p i r s hr => ⟨fun hb => ⟨_, rfl, beginEntry_notes hr hb⟩, fun hb => ⟨_, rfl, beginEntry_notes hr hb⟩,
      fun hb => ⟨_, rfl, beginEntry_notes hr hb⟩⟩,
    fun p i r s hr => ⟨fun hb => ⟨_, congrArg Host.Outcome.next (beginEntry_of_begins hr hb _), running_begunWithData hr,
        sameBut_of_touches begunWithData_touches⟩,
      fun hb hk => ⟨_, kvWrite_keeps hr hb hk, running_begunWithData hr, sameBut_of_touches begunWithData_touches⟩,
      fun hb hc ha hlow => ⟨_, kvWrite_drops hr hb hc ha, ?_, ?_, ?_⟩⟩,
    fun p i r s hr => ⟨fun hb => ⟨_, refreshEntry_pays hr hb, owedOf_setOwed .., ?_⟩,
      fun hb => ⟨_, openEntry_pays hr hb, owedOf_setOwed .., ?_⟩⟩,
    fun p i r s hr hb => ?_, fun p i r s hr hbegun hstop hend hfirst hi hstart hsend =>
      ⟨_, routeTransfer_moves hr hbegun hstop hend hfirst hi hstart hsend, ?_, fun hlane => ?_, ?_⟩⟩
  · unfold irqEvent
    rw [rd_raiseIrq (by decide), rd_recordEvent _ _ _ _ _ _ _ rfl]
    refine (rd_wr _ _ _ _ _).trans ?_
    change min (rd s R.KVPG_WRITE_DROP + 1) (2 ^ 32 - 1) % 2 ^ 32 = _
    omega
  · unfold part irqEvent
    rw [raiseIrq_comb, recordEvent_comb]
    exact running_begunWithData hr
  · exact sameBut_of_touches (irqEvent_touches rfl rfl (incSat_touches rfl (begunWithData_touches.mono rfl)))
  · exact sameBut_of_touches (setOwed_touches rfl (modRunning_touches rfl (Touches.refl _ s)))
  · exact sameBut_of_touches (setOwed_touches rfl (modRunning_touches rfl (Touches.refl _ s)))
  · have hnone : ∀ kind k, beginEntry s p i kind k = s := fun kind k => beginEntry_of_not_begins hr (hb kind) k
    exact ⟨congrArg Host.Outcome.next (hnone _ _), congrArg Host.Outcome.next (hnone _ _),
      congrArg Host.Outcome.next (hnone _ _), congrArg Host.Outcome.next (hnone _ _), congrArg Host.Outcome.next (hnone _ _),
      congrArg Host.Outcome.next (hnone _ _), congrArg Host.Outcome.next (hnone _ _)⟩
  · split
    · exact running_modRunning hr _
    · exact running_modRunning hr _
  · rw [if_pos hlane]
    exact rd_wr _ _ _ _ _
  · have ht : Touches (maskOf [.page 5, .parts]) s
        (modRunning s p (fun r => { r with rtBegun := i :: r.rtBegun, rtDone := i :: r.rtDone })) :=
      modRunning_touches rfl (Touches.refl _ s)
    exact sameBut_of_touches (Touches.ite (incWrap_touches rfl ht) ht)

/-! ### A memory entry's end (R132, R133, R246) -/

/-- Where the hardware meets nothing, a read leaves the state as it is. -/
theorem readFails_clean (s : State) (who : Consumer) : readFails s who {} = s := rfl

/-- What a clean read's end leaves: its data in the store, and the entry done. -/
theorem memEntryDone_read {s : State} {p i : Nat} {r : Running} (hr : (part s p).running = some r)
    (hbegun : r.memBegun.contains i = true) (hdone : r.memDone.contains i = false) (hstop : r.stopped = none)
    (hwait : waitsReRead s (.launch p i) = false)
    (hkind : (memEntryAt (runImage s r) r.desc.variant i).kind = 0 ∨ (memEntryAt (runImage s r) r.desc.variant i).kind = 4) :
    let e := memEntryAt (runImage s r) r.desc.variant i
    let bad := ((entryAddrs s r e).getD []).filter (fun a => poisonUnit s (a / 64))
    exec (.memEntryDone p i {}) s = .next
      (modRunning (modRunning (useFree (setCell s e.cell (putStore (cell s e.cell) (64 * nearAddr r i e) (entryData s r e) e.arrive)))
        p (fun r => { r with poison := r.poison ++ bad.map (fun a => (e.arrive, a)) }))
        p (fun r => { r with memDone := i :: r.memDone, wbuf := tset [] i [] r.wbuf })) := by
  refine congrArg Host.Outcome.next ?_
  rw [hr]
  have hreads : decide ((memEntryAt (runImage s r) r.desc.variant i).kind = 0 ∨ (memEntryAt (runImage s r) r.desc.variant i).kind = 2 ∨
      (memEntryAt (runImage s r) r.desc.variant i).kind = 4) = true := by
    rcases hkind with h | h <;> simp [h]
  have hne : (memEntryAt (runImage s r) r.desc.variant i).kind ≠ 2 := by omega
  dsimp only
  rw [if_neg (by rw [hbegun, hdone]; decide)]
  simp only [hreads, if_true, readFails_clean, hwait, hstop, Option.isSome_none, Bool.false_eq_true, if_false, deliverEntry,
    if_neg hne]

/-- The units of an entry, each written with its part of the data. -/
def writeUnits (s : State) (d : List Byte) (l : List (Nat × Nat)) : State :=
  l.foldl (fun s x => memWrite s x.1 ((d.drop (64 * x.2)).take 64)) s

theorem memByte_writeUnits (s : State) (d : List Byte) (l : List (Nat × Nat)) (b : Nat)
    (h : ∀ x ∈ l, b < x.1 ∨ x.1 + 64 ≤ b) : memByte (writeUnits s d l) b = memByte s b := by
  induction l generalizing s with
  | nil => rfl
  | cons x l ih =>
    refine (ih _ fun y hy => h y (List.mem_cons_of_mem _ hy)).trans (memByte_memWrite_outside _ _ _ _ ?_)
    have hlen : ((d.drop (64 * x.2)).take 64).length ≤ 64 := List.length_take_le _ _
    have := h x List.mem_cons_self
    omega

theorem memByte_storeEntry (s : State) (r : Running) (i : Nat) (e : MemEntry) (b : Nat)
    (h : ∀ a ∈ (entryAddrs s r e).getD [], b < a ∨ a + 64 ≤ b) : memByte (storeEntry s r i e) b = memByte s b := by
  unfold storeEntry
  split
  · next l hl =>
    refine memByte_writeUnits _ _ _ _ fun x hx => h x.1 ?_
    rw [hl, Option.getD_some]
    exact (List.mem_zipIdx' hx).2 ▸ List.getElem_mem _
  · rfl

theorem memBytes_storeEntry_single (s : State) {r : Running} {i : Nat} {e : MemEntry} {a : Nat}
    (ha : entryAddrs s r e = some [a]) (halign : a % 64 = 0) (hlen : (tget [] r.wbuf i).length = 64) :
    memBytes (storeEntry s r i e) a 64 = tget [] r.wbuf i := by
  have hdata : ((tget [] r.wbuf i).drop (64 * 0)).take 64 = tget [] r.wbuf i := by
    rw [Nat.mul_zero, List.drop_zero, List.take_of_length_le hlen.le]
  have hstore : storeEntry s r i e = memWrite s a (tget [] r.wbuf i) := by
    unfold storeEntry
    rw [ha]
    exact congrArg (memWrite s a) hdata
  rw [hstore, ← hlen]
  exact memBytes_memWrite s a _ fun j hj => takesByte_of_whole s halign (by omega) hj

/-- The ends of writes whose path check mismatches change no byte, no cell and no partition. -/
theorem writePathBad_after (l : List Nat) (s : State) : Touches 0x180000800060110 s (l.foldl writePathBad s) :=
  Touches.foldl (Touches.refl _ s) fun u _ => writePathBad_touches rfl (Touches.refl _ u)

theorem memEntryDone_write {s : State} {p i : Nat} {r : Running} (env : MemEnv) (hr : (part s p).running = some r)
    (hbegun : r.memBegun.contains i = true) (hdone : r.memDone.contains i = false) (hwait : waitsReRead s (.launch p i) = false)
    (hkind : (memEntryAt (runImage s r) r.desc.variant i).kind = 1 ∨ (memEntryAt (runImage s r) r.desc.variant i).kind = 5) :
    exec (.memEntryDone p i env) s = .next
      (modRunning (env.writeBad.foldl writePathBad (storeEntry s r i (memEntryAt (runImage s r) r.desc.variant i)))
        p (fun r => { r with memDone := i :: r.memDone, wbuf := tset [] i [] r.wbuf })) := by
  refine congrArg Host.Outcome.next ?_
  rw [hr]
  have hreads : decide ((memEntryAt (runImage s r) r.desc.variant i).kind = 0 ∨ (memEntryAt (runImage s r) r.desc.variant i).kind = 2 ∨
      (memEntryAt (runImage s r) r.desc.variant i).kind = 4) = false := by
    rcases hkind with h | h <;> simp [h]
  dsimp only
  rw [if_neg (by rw [hbegun, hdone]; decide)]
  simp only [hreads, hwait, Bool.false_eq_true, if_false, decide_eq_true hkind, if_true]

/-! ### The end of a step (R36, R37, R146) -/

theorem advancePipe_of_idle {s : State} {q : Nat} (h : (pipe s q).job = none) (p step : Nat) : advancePipe p step s q = s := by
  unfold advancePipe
  rw [h]

theorem foldl_advancePipe_of_idle {s : State} {l : List Nat} (h : ∀ q ∈ l, (pipe s q).job = none) (p step : Nat) :
    l.foldl (advancePipe p step) s = s := by
  induction l with
  | nil => rfl
  | cons q l ih =>
    rw [List.foldl_cons, advancePipe_of_idle (h q List.mem_cons_self)]
    exact ih fun x hx => h x (List.mem_cons_of_mem _ hx)

theorem countSteps_after (s : State) (r : Running) : Touches 0x300000000 s (countSteps s r) :=
  countSteps_touches rfl (Touches.refl _ s)

section
variable {p : Nat} {r : Running} {s : State} (hr : (part s p).running = some r) (hbegun : r.begun = true) (hstop : r.stopped = none)
  (hend : r.ended = false)
include hr hbegun hstop hend

/-- A step in which nothing fails counts itself and is over. -/
theorem stepComplete_counts {e : StepEnv} (hcauses : r.causes = []) (hwaits : stepWaits s r = false) (hres : e.residue = [])
    (hue : e.storeUE = []) (hce : e.storeCE = []) (hpr : e.pipeResidue = []) (hports : e.ports = [])
    (hpoison : ∀ x ∈ r.poison, r.step < x.1) (hidle : ∀ q ∈ imgQuads (runImage s r), (pipe s q).job = none) :
    let t := modRunning (countSteps s r) p (fun x =>
      { x with step := x.step + 1, waited := false, retried := false,
               schedWaits := x.schedWaits + b2n (x.waited && !x.retried && !e.retryWait),
               retrySteps := x.retrySteps + b2n (x.retried || e.retryWait),
               stopped := (firstCause x.causes).map causeStatus,
               ended := x.causes.isEmpty && decide (x.step + 1 = (variantAt (runImage s r) r.desc.variant).steps) })
    exec (.stepComplete p e) s = .next t ∧
      (part t p).running = some
        { r with step := r.step + 1, waited := false, retried := false,
                 schedWaits := r.schedWaits + b2n (r.waited && !r.retried && !e.retryWait),
                 retrySteps := r.retrySteps + b2n (r.retried || e.retryWait), stopped := none,
                 ended := decide (r.step + 1 = (variantAt (runImage s r) r.desc.variant).steps) } := by
  have hcount : (part (countSteps s r) p).running = some r := by
    rw [part_of_touches (countSteps_after s r) rfl]
    exact hr
  have himg : runImage (countSteps s r) r = runImage s r := by
    unfold runImage
    rw [slot_of_touches (countSteps_after s r) rfl]
  have hmod := fun f => running_modRunning hcount f
  have hnone : r.poison.filter (fun x => x.1 ≤ r.step) = [] :=
    List.filter_eq_nil_iff.2 fun x hx => by simpa using hpoison x hx
  intro t
  have ht : (part t p).running = some
        { r with step := r.step + 1, waited := false, retried := false,
                 schedWaits := r.schedWaits + b2n (r.waited && !r.retried && !e.retryWait),
                 retrySteps := r.retrySteps + b2n (r.retried || e.retryWait), stopped := none,
                 ended := decide (r.step + 1 = (variantAt (runImage s r) r.desc.variant).steps) } := by
    refine (hmod _).trans ?_
    simp [hcauses, firstCause]
  refine ⟨congrArg Host.Outcome.next ?_, ht⟩
  rw [hr]
  dsimp only
  rw [if_neg (by simp [hbegun, hstop, hend]), if_neg (by simp [hwaits])]
  simp only [foldl_advancePipe_of_idle hidle, hres, hue, hce, hpr, hports, hnone, List.foldl_nil, himg]
  split
  · next r' hr' =>
    have hstopped : r'.stopped = none := by
      exact congrArg Running.stopped (Option.some.inj (Eq.trans (Eq.symm hr') ht))
    rw [hstopped]
    rfl
  · rfl

theorem stepComplete_waits (e : StepEnv) (hwaits : stepWaits s r = true) (hretry : launchRetries s p = false) :
    Ends (.stepComplete p e) s (fun t => (part t p).running = some { r with waited := true } ∧ SameBut [.parts] s t) := by
  refine ⟨modRunning s p (fun r => { r with waited := true }), congrArg Host.Outcome.next ?_, running_modRunning hr _,
    sameBut_of_touches (modRunning_touches rfl (Touches.refl _ s))⟩
  rw [hr]
  dsimp only
  rw [if_neg (by simp [hbegun, hstop, hend]), if_pos hwaits, hretry]
  rfl

end

/-- Settles O11. -/
theorem entriesEndAndSteps : Obligations.EntriesEndAndSteps := by
  refine ⟨fun p i r s hr hbegun hdone hstop hwait => fun hkind _ =>
      ⟨_, memEntryDone_read hr hbegun hdone hstop hwait hkind, ?_, fun d hd => ?_, ?_, ?_⟩,
    fun p i r s env hr hbegun hdone hwait => fun hkind =>
      ⟨_, memEntryDone_write env hr hbegun hdone hwait hkind, fun b hb => ?_, fun a ha halign hlen => ?_, ?_, fun d => ?_⟩,
    fun p e r s hr hbegun hstop hend hcauses hwaits hres hue hce hpr hports hpoison hidle => ?_,
    fun p e r s hr hbegun hstop hend hwaits hretry => stepComplete_waits hr hbegun hstop hend e hwaits hretry⟩
  · rw [cell_modRunning, cell_modRunning, cell_useFree_setCell]
    rfl
  · rw [cell_modRunning, cell_modRunning]
    exact cell_setCell_ne s _ hd
  · rw [running_modRunning (running_modRunning (s := useFree (setCell s _ _)) hr _) _]
    rfl
  · exact sameBut_of_touches (modRunning_touches rfl (modRunning_touches rfl (useFree_touches rfl (setCell_touches rfl (Touches.refl _ s)))))
  · have hpath := memByte_of_touches (writePathBad_after env.writeBad (storeEntry s r i (memEntryAt (runImage s r) r.desc.variant i))) rfl b
    exact hpath.trans (memByte_storeEntry s r i _ b hb)
  · have hpath : _ = (storeEntry s r i (memEntryAt (runImage s r) r.desc.variant i)).mem.cells :=
      (writePathBad_after env.writeBad (storeEntry s r i (memEntryAt (runImage s r) r.desc.variant i))).same (c := .bytes) rfl
    refine Eq.trans ?_ (memBytes_storeEntry_single s ha halign hlen)
    exact congrArg (tgets 0 · a 64) hpath
  · have hstore : Touches 0x180 s (storeEntry s r i (memEntryAt (runImage s r) r.desc.variant i)) :=
      storeEntry_touches rfl (Touches.refl _ s)
    have hrun : (part (env.writeBad.foldl writePathBad (storeEntry s r i (memEntryAt (runImage s r) r.desc.variant i))) p).running =
        some r := by
      rw [part_of_touches (writePathBad_after _ _) rfl, part_of_touches hstore rfl, hr]
    rw [running_modRunning hrun]
    rfl
  · have hstore : Touches 0x180 s (storeEntry s r i (memEntryAt (runImage s r) r.desc.variant i)) :=
      storeEntry_touches rfl (Touches.refl _ s)
    rw [cell_modRunning, cell_of_touches (writePathBad_after _ _) rfl, cell_of_touches hstore rfl]
  · obtain ⟨hexec, hrun⟩ :=
      stepComplete_counts (e := e) hr hbegun hstop hend hcauses hwaits hres hue hce hpr hports hpoison hidle
    refine ⟨_, hexec, hrun, fun c => ?_, sameBut_of_touches (modRunning_touches rfl ((countSteps_after s r).mono rfl))⟩
    rw [cell_modRunning, cell_of_touches (countSteps_after s r) rfl]

end Sys2Proof.Proofs
end

section
/-!
Proofs for chapter 02: what a governor's interval leaves of the floor, the ceiling, the set point and the band (R42 to R44, R54).
-/

namespace Sys2Proof.Proofs

open Sys2Proof Sys2Proof.Machine Sys2Proof.Safety Sys2Proof.Certificates Sys2Proof.Laws

/-- The fields of a `PACE` page that an interval reads, or leaves as its result: the breach state table writes none of them. -/
def steadyFields : List Fld :=
  [R.PACE_FLOOR_MIN_RATE, R.PACE_FLOOR_EFFECTIVE, R.PACE_VOLT_CEILING, R.PACE_VOLT_VSET, R.PACE_VLIM_VMAX, R.PACE_MARGIN_RAISE,
    R.PACE_STAT_TEMP_BAND]

/-- The steady fields of every die read the same in both states. -/
def KeepsSteady (s t : State) : Prop := ∀ f ∈ steadyFields, ∀ i k, rd t f i k = rd s f i k

namespace KeepsSteady

variable {s t u : State}

theorem refl (s : State) : KeepsSteady s s := fun _ _ _ _ => rfl

theorem trans (h : KeepsSteady s t) (k : KeepsSteady t u) : KeepsSteady s u := fun f hf i j => (k f hf i j).trans (h f hf i j)

theorem ite {c : Prop} [Decidable c] (ht : KeepsSteady s t) (hu : KeepsSteady s u) : KeepsSteady s (if c then t else u) := by
  split <;> assumption

theorem of_regs (h : KeepsSteady s t) (hu : u.regs = t.regs) : KeepsSteady s u := fun f hf i k => by
  rw [← h f hf i k]
  unfold rd
  rw [hu]

theorem of_touches {m : Nat} (h : Touches m s t) (hb : m.testBit (32 + 18) = false) : KeepsSteady s t := fun f hf i k =>
  h.reads (by
    have hty : ∀ g ∈ steadyFields, g.ty % 32 = 18 := by decide
    rw [hty f hf]
    exact hb)

theorem foldl {α : Type} {f : State → α → State} (hf : ∀ u x, KeepsSteady u (f u x)) (l : List α) (s : State) :
    KeepsSteady s (l.foldl f s) := by
  induction l generalizing s with
  | nil => exact refl s
  | cons x l ih => exact (hf s x).trans (ih _)

/-- A write of another field. -/
theorem wr {g : Fld} (hg : fldCode g ∉ steadyFields.map fldCode) (h : KeepsSteady s t) (v i k : Nat) :
    KeepsSteady s (Machine.wr t g v i k) := fun f hf j l => by
  rw [rd_wr_ne (fun he => hg (he ▸ List.mem_map_of_mem hf)), h f hf j l]

theorem incSat {g : Fld} (hg : fldCode g ∉ steadyFields.map fldCode) (h : KeepsSteady s t) (i : Nat) :
    KeepsSteady s (Machine.incSat t g i) := h.wr hg _ _ _

/-- A recorded event with an interrupt of the page. -/
theorem event {n : Nat} (hn : n < 1024) (h : KeepsSteady s t) (die code sev : Nat) (detail : List Nat) :
    KeepsSteady s (raiseIrq (recordEvent t 18 die code sev 0 detail) 18 die n) := fun f hf i k => by
  have hoff : ∀ g ∈ steadyFields, 0x100 ≤ g.off ∧ g.off * 8 + g.lo < 2 ^ 15 := by decide
  have hty : ∀ g ∈ steadyFields, g.ty = 18 := by decide
  rw [rd_raiseIrq (fldCode_ne_of_header (hoff f hf).1 (hoff f hf).2 (by simp only [hIrqRaw]; omega)),
    rd_recordEvent _ _ _ _ _ _ _ (by rw [hty f hf]; rfl), h f hf i k]

end KeepsSteady

/-! ### The parts of an interval -/

section
variable (s : State) (die : Nat)

theorem markFaulty_keepsSteady (e : GovEnv) (n : Nat) : KeepsSteady s (markFaulty e die s n) :=
  (((KeepsSteady.refl s).wr (by decide) _ _ _).wr (by decide) _ _ _).event (by decide) _ _ _ _

theorem showSensor_keepsSteady (e : GovEnv) (n : Nat) : KeepsSteady s (showSensor e die s n) :=
  ((KeepsSteady.refl s).wr (by decide) _ _ _).wr (by decide) _ _ _

theorem setProm_keepsSteady (v : Nat) : KeepsSteady s (setProm s die v) := by
  have h := (KeepsSteady.refl s).wr (g := R.PACE_PROMISE_PROM_RATE) (by decide) v die 0
  exact KeepsSteady.ite (.refl s) (KeepsSteady.ite (h.of_regs rfl) h)

theorem setGov_keepsSteady (g : Gov) : KeepsSteady s (setGov s die g) := (KeepsSteady.refl s).of_regs rfl

theorem enterBreach_keepsSteady (cause eff rate : Nat) (low : Bool) (recent : List Nat) :
    KeepsSteady s (enterBreach s die cause eff rate low recent) := by
  unfold enterBreach
  extract_lets s1 s2 s3 s4 g s5
  have h2 : KeepsSteady s s2 :=
    KeepsSteady.incSat (by decide) ((((KeepsSteady.refl s).wr (by decide) _ _ _).wr (by decide) _ _ _).wr (by decide) _ _ _) _
  have h3 : KeepsSteady s s3 := KeepsSteady.ite (h2.incSat (by decide) _) h2
  have h5 : KeepsSteady s s5 := (h3.trans (setProm_keepsSteady _ _ _)).trans (setGov_keepsSteady _ _ _)
  exact h5.event (by decide) _ _ _ _

theorem effRow_keepsSteady (eff : Nat) (recent : List Nat) : KeepsSteady s (effRow s die eff recent) := by
  have hprom := setProm_keepsSteady s die
  unfold effRow
  extract_lets g
  refine .ite (.refl s) (.ite (hprom _) (.ite (.ite (.refl s) ?_) (.ite ?_ ?_)))
  · exact ((hprom _).wr (by decide) _ _ _).trans (setGov_keepsSteady _ _ _)
  · exact (hprom _).wr (by decide) _ _ _
  · exact (hprom _).trans (setGov_keepsSteady _ _ _)

theorem intervalRow_keepsSteady (eff rate cause : Nat) (atCeil blind : Bool) (recent : List Nat) :
    KeepsSteady s (intervalRow s die eff rate cause atCeil blind recent) := by
  have hbreach := enterBreach_keepsSteady s die cause eff rate
  have hcause : ∀ u g, KeepsSteady s u →
      KeepsSteady s (setProm (Machine.wr (setGov u die g) R.PACE_STAT_CAUSE cause die) die (promBreach eff recent)) := fun u g hu =>
    ((hu.trans (setGov_keepsSteady u die g)).wr (by decide) _ _ _).trans (setProm_keepsSteady _ _ _)
  unfold intervalRow
  extract_lets g prom low cnt s1 s2 s3
  have h1 : KeepsSteady s s1 := .ite ((KeepsSteady.refl s).incSat (by decide) _) (.refl s)
  have h2 : KeepsSteady s s2 :=
    (((KeepsSteady.refl s).wr (by decide) _ _ _).wr (by decide) _ _ _).trans (setProm_keepsSteady _ _ _)
  refine .ite (.ite (hcause _ _ h1) (.ite (hcause _ _ (.refl s)) (.ite (hcause _ _ (.refl s)) ?_)))
    (.ite (hbreach _ _) (.ite ?_ (.ite (.ite (hbreach _ _) ?_) (.ite (hbreach _ _) (setGov_keepsSteady _ _ _)))))
  · exact (h2.trans (setGov_keepsSteady _ _ _)).event (by decide) _ _ _ _
  · exact ((setProm_keepsSteady _ _ _).wr (by decide) _ _ _).trans (setGov_keepsSteady _ _ _)
  · exact (setGov_keepsSteady _ _ _).incSat (by decide) _

/-- Counting cells by their state depends on the `CELL` pages alone, so does the load pattern (R443). -/
theorem loadPattern_of_touches {m : Nat} {t : State} (h : Touches m s t) (hm : m.testBit 32 = false) (xs : List GovSample) :
    loadPattern t die xs = loadPattern s die xs := by
  unfold loadPattern activeCells
  simp only [h.reads (f := R.CELL_MAP_STATE) hm]

end

/-- The set point never lies above the ceiling (R43). -/
theorem newSetPoint_le (vset vmin ceil eff : Nat) (rate : Option Nat) : newSetPoint vset vmin ceil eff rate ≤ ceil :=
  (min_le_left _ _).trans (by omega)

/-- What an interval's effective floor, ceiling, set point and band are, beside the floor that it reads. -/
structure IntervalShows (s : State) (die : Nat) (e : GovEnv) (t : State) : Prop where
  effective : rd t R.PACE_FLOOR_EFFECTIVE die = min (rd s R.PACE_FLOOR_MIN_RATE die +
    (if die < 4 then rd s R.PACE_MARGIN_RAISE die (tempBand e.temp * 8 + loadPattern s die e.samples) else 0)) 1800
  ceiling : rd t R.PACE_VOLT_CEILING die =
    min (min (rd s R.PACE_VLIM_VMAX die) (thermalCeiling (rd s R.PACE_VLIM_VMAX die) e.temp))
      (min (rd s (R.PWR_DIE_VLIM die)) e.supply)
  setPoint : rd t R.PACE_VOLT_VSET die ≤ rd t R.PACE_VOLT_CEILING die
  band : rd t R.PACE_STAT_TEMP_BAND die = tempBand e.temp % 8
  floor : rd t R.PACE_FLOOR_MIN_RATE die = rd s R.PACE_FLOOR_MIN_RATE die

theorem IntervalShows.of_keepsSteady {s t u : State} {die : Nat} {e : GovEnv} (h : IntervalShows s die e t) (hk : KeepsSteady t u) :
    IntervalShows s die e u := by
  obtain ⟨heff, hceil, hset, hband, hfloor⟩ := h
  have hsame : ∀ f ∈ steadyFields, rd u f die = rd t f die := fun f hf => hk f hf die 0
  constructor
  · rw [hsame _ (by decide), heff]
  · rw [hsame _ (by decide), hceil]
  · rw [hsame _ (by decide), hsame _ (by decide)]
    exact hset
  · rw [hsame _ (by decide), hband]
  · rw [hsame _ (by decide), hfloor]

theorem governorInterval_shows {die : Nat} {e : GovEnv} {s : State} (hst : die < 4 → rd s R.PWR_STAT_STANDBY ≠ 1)
    (hvmax : rd s R.PACE_VLIM_VMAX die < 2 ^ 12) :
    ∃ t, execGovernorInterval die e s = .next t ∧ IntervalShows s die e t := by
  unfold execGovernorInterval
  rw [if_neg (by simpa using hst)]
  extract_lets pwr s1 s2 s3 m rate s4 idle band pat raise s5 s6 eff s7 vmax therm vlim ceil vset s8 blind s9 s10 recent atCeil
    s11 low s12 s13 g
  have h4 : KeepsSteady s s4 := by
    have h1 : KeepsSteady s s1 := .of_touches (m := 0x20) (coolCheck_touches rfl (Touches.power rfl (Touches.refl _ s))) rfl
    have h3 : KeepsSteady s s3 := (h1.trans (.foldl (markFaulty_keepsSteady · die e) _ _)).trans
      (.foldl (showSensor_keepsSteady · die e) _ _)
    exact (h3.wr (by decide) _ _ _).wr (by decide) _ _ _
  have ht4 : Touches 0x184000000060030 s s4 := by
    have ht1 : Touches 0x184000000060030 s s1 := coolCheck_touches rfl (Touches.power rfl (Touches.refl _ s))
    have ht3 : Touches 0x184000000060030 s s3 := Touches.foldl
      (Touches.foldl ht1 fun u n => markFaulty_touches rfl (Touches.refl _ u)) fun u n => showSensor_touches rfl (Touches.refl _ u)
    exact wr_touches rfl (wr_touches rfl ht3)
  have hpat : pat = loadPattern s die e.samples := loadPattern_of_touches s die ht4 rfl _
  have hraise : raise = if die < 4 then rd s R.PACE_MARGIN_RAISE die (band * 8 + loadPattern s die e.samples) else 0 := by
    rw [← hpat]
    exact congrArg (ite _ · _) (h4 _ (by decide) _ _)
  have heff : eff = min (rd s R.PACE_FLOOR_MIN_RATE die + raise) 1800 := by
    have : rd s6 R.PACE_FLOOR_MIN_RATE die = rd s R.PACE_FLOOR_MIN_RATE die := by
      simp (disch := decide) only [s6, s5, rd_wr_ne]
      exact h4 _ (by decide) _ _
    rw [← this]
  have hvmax7 : vmax = rd s R.PACE_VLIM_VMAX die := by
    simp (disch := decide) only [vmax, s7, s6, s5, rd_wr_ne]
    exact h4 _ (by decide) _ _
  have hvlim : vlim = rd s (R.PWR_DIE_VLIM die) := by
    have ht7 : Touches 0x184000000060030 s s7 := wr_touches rfl (wr_touches rfl (wr_touches rfl (wr_touches rfl ht4)))
    exact ht7.reads (show Nat.testBit 0x184000000060030 (32 + 19 % 32) = false from rfl)
  have hceil : ceil < 2 ^ R.PACE_VOLT_CEILING.w := by
    change ceil < 2 ^ 12
    rw [← hvmax7] at hvmax
    omega
  have hshow : IntervalShows s die e s8 := by
    have hset : vset ≤ ceil := newSetPoint_le ..
    constructor
    · simp (disch := decide) only [s8, s7, rd_wr_ne, rd_wr]
      rw [heff, hraise]
      exact Nat.mod_eq_of_lt (show min _ 1800 < 2 ^ 16 by omega)
    · simp (disch := decide) only [s8, rd_wr_ne, rd_wr]
      rw [Nat.mod_eq_of_lt hceil, ← hvmax7, ← hvlim]
    · simp (disch := decide) only [s8, rd_wr_ne, rd_wr]
      rw [Nat.mod_eq_of_lt hceil]
      exact (Nat.mod_le _ _).trans hset
    · simp (disch := decide) only [s8, s7, s6, s5, rd_wr_ne, rd_wr]
      rfl
    · simp (disch := decide) only [s8, s7, s6, s5, rd_wr_ne]
      exact h4 _ (by decide) _ _
  have h10 : KeepsSteady s8 s10 := by
    have ht : Touches 0x400004001010 s8 s10 := countElapsed_touches rfl (sampleGov_touches rfl
      (Touches.foldl (Touches.refl _ s8) fun u p => requestRetire_touches rfl (Touches.refl _ u)))
    exact .of_touches ht rfl
  split
  · exact ⟨_, rfl, hshow.of_keepsSteady h10⟩
  · refine ⟨_, rfl, hshow.of_keepsSteady ?_⟩
    have h12 : KeepsSteady s8 s12 := (h10.trans (effRow_keepsSteady _ _ _ _)).trans
      (.of_touches (m := 0x1000000) (Touches.foldl (Touches.refl _ _) fun u p => noteInterval_touches rfl (Touches.refl _ u)) rfl)
    exact (h12.trans (intervalRow_keepsSteady _ _ _ _ _ _ _ _)).trans (setGov_keepsSteady _ _ _)

/-- Settles O1. -/
theorem governorInterval : Obligations.GovernorInterval := by
  refine ⟨fun die e s hst _ hvmax => ?_, fun die e s hdie hst => if_pos (by simp [hdie, hst])⟩
  obtain ⟨t, ht, heff, hceil, hset, hband, hfloor⟩ := governorInterval_shows (e := e) hst hvmax
  refine ⟨t, ht, heff, hceil, hset, hband, hfloor, sameBut_of_touches (touches_of_next ht ?_)⟩
  exact execGovernorInterval_touches rfl (Touches.refl _ s) (Touches.refl _ s)

end Sys2Proof.Proofs
end

section
/-!
Proofs for chapters 02 and 08: new promises form the predictions of open requests again by their numbers, so a table of requests that
lists a number twice has another request judged than the one that is open (R62).
-/

namespace Sys2Proof.Proofs

open Sys2Proof Sys2Proof.Machine Sys2Proof.Safety Sys2Proof.Certificates Sys2Proof.Laws

/-- A request of slot 0, with the deadline 0. -/
def dueRequest : Req :=
  { queue := 0, fn := 0, tenant := 0, slot := 0, cls := 0, sampled := false, spec := false, lookup := false, insert := false,
    seq := 0, draftSeq := 0, prompt := [], maxLen := 0, tag := 0, eos := 0, temp := 0, deadline := 0, outAddr := 0, outCap := 0,
    signal := 0, signalEn := false, seed := 0 }

/-- Number 0 is listed twice: first by a request that waits for a wake, behind it by an open one that has started. -/
def twiceListed : State :=
  { wr State.reset R.QUAD_PART_PARTITION 0 (quadHome 0) with
    now := 1
    serv := { reqs := [(0, some { dueRequest with st := .waking }), (0, some { dueRequest with started := true })] } }

theorem openReqs_twiceListed : ∀ e ∈ openReqs twiceListed, e.2.started = true ∨ e.2.deadline = noDeadline := by
  decide +kernel

/-- The open request's number leads to the waiting one, which is marked as at risk. -/
theorem recompute_twiceListed : (recompute twiceListed 0).serv.reqs ≠ twiceListed.serv.reqs := by
  decide +kernel

/-- Refutes O2: the requests are a table of any form, and in one that lists a number twice RECOMPUTE_PREDICTIONS changes a request
that is not open, although every open one has started. -/
theorem not_marginsAndPredictions : ¬ Obligations.MarginsAndPredictions := by
  rintro ⟨-, -, h⟩
  obtain ⟨t, ht, -, hreqs, -⟩ := h 0 twiceListed openReqs_twiceListed
  have hend : recompute twiceListed 0 = t := Host.Outcome.next.inj ht
  exact recompute_twiceListed (hend ▸ hreqs)

end Sys2Proof.Proofs
end

section
/-!
Proofs for chapter 03: retirement requests as they queue, begin and are carried out (R90, R91).
-/

namespace Sys2Proof.Proofs

open Sys2Proof Sys2Proof.Machine Sys2Proof.Safety Sys2Proof.Certificates Sys2Proof.Laws

/-- A request for a unit that serves and is not queued goes to the end of the queue (R90). -/
theorem askRetire_queues {s : State} {isPipe : Bool} {n : Nat} (h1 : rd s (mapState isPipe) n ≠ 1)
    (h3 : rd s (mapState isPipe) n ≠ 3) (hnew : s.comb.retire.any (fun r => r.pipe = isPipe && r.num = n) = false)
    (why : RetireReason) :
    askRetire s isPipe n why =
      { s with comb := { s.comb with retire := s.comb.retire ++ [{ pipe := isPipe, num := n, reason := why }] } } := by
  unfold askRetire
  rw [if_neg h3, if_neg h1, if_neg (by rw [hnew]; exact Bool.false_ne_true)]

/-- The operator's request on a unit's page: the queue grows, and the write is noted. -/
theorem retire_asks {c : Instr} {s : State} {w : Writer} {isPipe : Bool} {ty n off m : Nat}
    (hc : exec c s = .next (unitWrite s w isPipe ty n off (fun s => askRetire s isPipe n .operator)))
    (hs : pageServed s ty n = true) (hl : ¬(w = .host ∧ rd s (hLocked ty) n = 1)) (h1 : rd s (mapState isPipe) n ≠ 1)
    (h3 : rd s (mapState isPipe) n ≠ 3) (hnew : s.comb.retire.any (fun r => r.pipe = isPipe && r.num = n) = false)
    (hm : 0x180000004060014 &&& m = 0x180000004060014) :
    ∃ t, exec c s = .next t ∧ t.comb.retire = s.comb.retire ++ [{ pipe := isPipe, num := n, reason := .operator }] ∧
      Touches m s t := by
  have hwrite : exec c s = .next (regWrite s w ty n off true (fun s => askRetire s isPipe n .operator)) := by
    rw [hc]
    exact congrArg Host.Outcome.next (if_neg h1)
  obtain ⟨t, ht, hnote, htouch⟩ := exec_write_taken (m := m) hwrite hs (fun h => hl h.2) (askRetire_queues h1 h3 hnew _)
    (Touches.inc hm rfl) (Touches.comb_retire (Touches.has hm rfl) (Touches.refl _ s))
  refine ⟨t, ht, ?_, htouch⟩
  rw [comb_of_touches hnote rfl]

theorem cellRetire_ignores (w : Writer) (n : Nat) {v : Nat} (s : State) (hv : v % 2 = 0) : exec (.cellRetire w n v) s = .next s :=
  congrArg Host.Outcome.next (if_neg (by omega))

theorem pipeRetire_ignores (w : Writer) (n : Nat) {v : Nat} (s : State) (hv : v % 2 = 0) : exec (.pipeRetire w n v) s = .next s :=
  congrArg Host.Outcome.next (if_neg (by omega))

theorem setRetire_touches (s : State) (isPipe : Bool) (n order : Nat) : Touches 0x4000000 s (setRetire s isPipe n order) :=
  Touches.comb_retire rfl (Touches.refl _ s)

/-- The first request goes to its next order, and its partition's launches are held (R90). -/
theorem retirementBegin_takes {r : Retirement} {rest : List Retirement} {s : State} (hq : s.comb.retire = r :: rest)
    (horder : ∀ x ∈ s.comb.retire, x.order = 0) :
    Ends .retirementBegin s (fun t =>
      t.comb.retire = s.comb.retire.map (fun x => if x.pipe = r.pipe && x.num = r.num then { x with order := 2 } else x) ∧
      (∀ p, unitPart s r.pipe r.num = some p → (part t p).held = true ∧ (part t p).queue = (part s p).queue) ∧
      SameBut (recorded ++ [.parts, .retiring]) s t) := by
  have hnone : ¬s.comb.retire.any (fun x => x.order ≠ 0) = true := by simpa using horder
  have hexec : exec .retirementBegin s = .next (retireRecord (setRetire (match unitPart s r.pipe r.num with
      | some p => setPart s p { part s p with held := true }
      | none => s) r.pipe r.num 2) r.pipe r.num 0 (reasonCode r.reason)) := by
    refine congrArg Host.Outcome.next ?_
    rw [hq] at hnone ⊢
    exact if_neg hnone
  refine ⟨_, hexec, ?_⟩
  cases hp : unitPart s r.pipe r.num with
  | some p =>
    refine ⟨?_, ?_, ?_⟩
    · unfold retireRecord
      rw [recordEvent_comb]
      rfl
    · rintro _ ⟨⟩
      have hpart : part (retireRecord (setRetire (setPart s p { part s p with held := true }) r.pipe r.num 2) r.pipe r.num 0
          (reasonCode r.reason)) p = { part s p with held := true } := by
        unfold retireRecord
        rw [part_of_touches (recordEvent_after ..) rfl]
        exact part_setPart ..
      exact ⟨congrArg Part.held hpart, (congrArg Part.queue hpart).trans rfl⟩
    · exact sameBut_of_touches (retireRecord_touches rfl
        (((setPart_touches rfl (Touches.refl _ s)).trans ((setRetire_touches _ _ _ _).mono rfl))))
  | none =>
    refine ⟨?_, fun _ h => (nomatch h), sameBut_of_touches (retireRecord_touches rfl ((setRetire_touches _ _ _ _).mono rfl))⟩
    unfold retireRecord
    rw [recordEvent_comb]
    rfl

/-- With the partition idle the retirement of order 2 comes to its spare (R90). -/
theorem retirementSpareTest_of_idle {r : Retirement} {s : State} (hr : s.comb.retire.find? (fun r => r.order = 2) = some r)
    (hidle : unitIdle s r.pipe r.num) :
    exec .retirementSpareTest s = .next
      (if spareOf r.pipe r.num ≠ r.num && rd s (mapState r.pipe) (spareOf r.pipe r.num) = 1 then
        startTest (setRetire s r.pipe r.num 3) r.pipe (spareOf r.pipe r.num)
      else carryOut s r.pipe r.num false) := by
  refine congrArg Host.Outcome.next ?_
  rw [hr]
  refine if_neg ?_
  cases hp : unitPart s r.pipe r.num with
  | some p => simp [hidle p hp]
  | none => simp

/-- The test of a FREE spare begins: a unit that holds no logical number has no partition to mark. -/
theorem startTest_of_free {s : State} {isPipe : Bool} {n : Nat} (h : rd s (mapState isPipe) n = 1) :
    startTest s isPipe n = wr s (testBit isPipe) 1 n := by
  have hstate : rd (wr s (testBit isPipe) 1 n) (mapState isPipe) n = 1 := by
    rw [rd_wr_ne (by cases isPipe <;> decide), h]
  unfold startTest touchResident unitPart logicalOf
  rw [if_neg (by omega), hstate]
  rfl

theorem retirementSpareTest_tests {r : Retirement} {s : State} (hr : s.comb.retire.find? (fun r => r.order = 2) = some r)
    (hidle : unitIdle s r.pipe r.num) (hspare : spareOf r.pipe r.num ≠ r.num)
    (hfree : rd s (mapState r.pipe) (spareOf r.pipe r.num) = 1) :
    Ends .retirementSpareTest s (fun t =>
      rd t (testBit r.pipe) (spareOf r.pipe r.num) = 1 ∧
      t.comb.retire = s.comb.retire.map (fun x => if x.pipe = r.pipe && x.num = r.num then { x with order := 3 } else x) ∧
      SameBut [.page 0, .page 1, .parts, .retiring] s t) := by
  have hexec := retirementSpareTest_of_idle hr hidle
  rw [if_pos (by simp [hspare, hfree]), startTest_of_free (s := setRetire s r.pipe r.num 3) hfree] at hexec
  have hset := (setRetire_touches s r.pipe r.num 3).mono (m := maskOf [.page 0, .page 1, .parts, .retiring]) rfl
  refine ⟨_, hexec, rd_wr_fit _ _ _ _ ?_, rfl, sameBut_of_touches (wr_touches ?_ hset)⟩
  · cases r.pipe <;> decide
  · cases r.pipe <;> rfl

/-- A unit that becomes RETIRED shows it, and its domain is low (R91). -/
theorem retireUnit_retires (s : State) (isPipe : Bool) (n : Nat) :
    rd (retireUnit s isPipe n) (mapState isPipe) n = 3 ∧ dom (retireUnit s isPipe n) (unitDomain isPipe n) = 2 := by
  refine ⟨?_, dom_setDom ..⟩
  unfold retireUnit
  rw [rd_setDom, rd_wr_ne (by cases isPipe <;> decide)]
  exact rd_wr_fit _ _ _ _ (by cases isPipe <;> decide)

theorem carryOut_retires (s : State) (isPipe : Bool) (n : Nat) :
    rd (carryOut s isPipe n false) (mapState isPipe) n = 3 ∧ dom (carryOut s isPipe n false) (unitDomain isPipe n) = 2 ∧
      (carryOut s isPipe n false).comb.retire = s.comb.retire.filter (fun x => !(x.pipe = isPipe && x.num = n)) := by
  unfold carryOut
  extract_lets sp l p s1 s2 took s3 s4 s5 s6
  obtain ⟨hmap, hdom⟩ := retireUnit_retires s1 isPipe n
  have h1 : s1.comb.retire = s.comb.retire :=
    ((touchResident_touches (mm := 0x1000000) rfl (Touches.refl _ s)).same (c := .retiring) rfl).1
  have htook : took = false := rfl
  have h3 : s3 = s2 := by
    simp only [s3, htook, Bool.false_eq_true, if_false]
    cases l <;> rfl
  have h4 : Touches 0x180004400060010 s2 s4 := by
    rw [← h3]
    exact Touches.boot rfl (recomputeClass_touches rfl (Touches.refl _ s3))
  have h5 : Touches 0x180004401060010 s2 s5 := by
    cases hp : p with
    | some p => simp only [s5, hp]; exact setPart_touches rfl (h4.mono rfl)
    | none => simp only [s5, hp]; exact h4.mono rfl
  have hpage : ∀ i : Nat, Nat.testBit 0x180004401060010 (32 + (mapState isPipe).ty % 32) = false := fun _ => by
    cases isPipe <;> rfl
  have hret : s5.comb.retire = s.comb.retire := by
    rw [(h5.same (c := .retiring) rfl).1, ← h1]
    rfl
  refine ⟨?_, ?_, ?_⟩
  · unfold retireRecord
    rw [rd_raiseIrq (by cases isPipe <;> decide), rd_recordEvent _ _ _ _ _ _ _ (by cases isPipe <;> rfl), ← hmap]
    exact h5.reads (hpage 0)
  · unfold retireRecord dom
    rw [raiseIrq_pwr, recordEvent_pwr]
    exact (dom_of_touches h5 rfl _).trans hdom
  · unfold retireRecord
    rw [raiseIrq_comb, recordEvent_comb]
    exact congrArg (List.filter _) hret

/-- Settles O13. -/
theorem retirement : Obligations.Retirement := by
  refine ⟨fun w n v s hv hw h1 h3 hnew => ?_, fun w n v s hv hs hl h1 h3 hnew => ?_,
    fun w n v s hv => ⟨cellRetire_ignores w n s hv, pipeRetire_ignores w n s hv⟩,
    fun r rest s hq horder => retirementBegin_takes hq horder, fun s hnone => ?_,
    fun r s hr hidle hspare hfree => retirementSpareTest_tests hr hidle hspare hfree,
    fun r s hr hidle hnone => ⟨_, retirementSpareTest_of_idle hr hidle, ?_⟩⟩
  · obtain ⟨hs, hl⟩ := hw
    obtain ⟨t, ht, hret, htouch⟩ := retire_asks (m := maskOf (.retiring :: written 0)) (c := .cellRetire w n v)
      (congrArg Host.Outcome.next (if_pos hv)) (hs.resolve_right h1) hl h1 h3 hnew rfl
    exact ⟨t, ht, hret, sameBut_of_touches htouch⟩
  · obtain ⟨t, ht, hret, htouch⟩ := retire_asks (m := maskOf (.retiring :: written 2)) (c := .pipeRetire w n v)
      (congrArg Host.Outcome.next (if_pos hv)) hs hl h1 h3 hnew rfl
    exact ⟨t, ht, hret, sameBut_of_touches htouch⟩
  · refine congrArg Host.Outcome.next ?_
    rw [hnone]
  · rw [if_neg (by simpa [imp_iff_not_or] using hnone)]
    exact carryOut_retires s r.pipe r.num

end Sys2Proof.Proofs
end

section
/-!
Proofs for chapter 05: plans as they are loaded and unloaded, and launches as they are issued (R138 to R141, R278, R375).
-/

namespace Sys2Proof.Proofs

open Sys2Proof Sys2Proof.Machine Sys2Proof.Safety Sys2Proof.Certificates Sys2Proof.Laws

/-- The image that LOAD_PLAN reads: in device memory, or what the host memory named holds. -/
def planBytes (s : State) (r : RunCmd) (image : List Byte) : List Byte :=
  if arg r 18 1 % 2 = 1 then memBytes s (arg r 24 8) (arg r 20 4) else (image ++ List.replicate (arg r 20 4) 0).take (arg r 20 4)

/-- A plan whose length is legal and whose image can be read and repeats it begins to load into an EMPTY slot (R139, R140). -/
theorem loadPlan_loads {q : Nat} (image : List Byte) (bad : Option Nat) {r : RunCmd} {s : State} (hr : running s q 5 = some r)
    (htenant : tenantOk r true (arg r 17 1) = true) (halign : arg r 20 4 % 64 = 0) (hmin : 512 ≤ arg r 20 4)
    (hmax : arg r 20 4 ≤ 0xFFFFFFC0)
    (hdev : arg r 18 1 % 2 = 1 →
      accessFail s (arg r 17 1) (arg r 24 8) (arg r 20 4) = none ∧ rangePoison s (arg r 24 8) (arg r 20 4) = false)
    (hhost : ¬arg r 18 1 % 2 = 1 → tenSeals s (arg r 17 1) = false) (hlen : imgLen (planBytes s r image) = arg r 20 4)
    (hempty : (slot s (arg r 16 1 % 64)).st = .empty) (hkey : slotKeyOther s (arg r 16 1 % 64) (arg r 17 1) = false) :
    exec (.loadPlan q image bad) s = .next (setBusy (setSlot s (arg r 16 1 % 64)
      { st := .loading, tenant := arg r 17 1, weightBase := arg r 32 8, image := planBytes s r image, loadBy := some q,
        verdict := if tenActive s (arg r 17 1) then planVerdict s (arg r 17 1) (arg r 32 8) (planBytes s r image)
          else some .tenantRetiring }) q) := by
  refine congrArg Host.Outcome.next ?_
  rw [hr]
  dsimp only
  rw [if_neg (by simp [htenant]), if_neg (by simp [halign, hmin, hmax])]
  by_cases hd : arg r 18 1 % 2 = 1
  · obtain ⟨haccess, hpoison⟩ := hdev hd
    have hb : planBytes s r image = memBytes s (arg r 24 8) (arg r 20 4) := if_pos hd
    rw [hb] at hlen ⊢
    simp only [if_pos hd, haccess, hpoison, Bool.false_eq_true, if_false, hlen, ne_eq, not_true_eq_false, hempty, hkey,
      decide_false, Bool.or_self]
  · have hb : planBytes s r image = (image ++ List.replicate (arg r 20 4) 0).take (arg r 20 4) := if_neg hd
    have hread : sealedRead s (arg r 17 1) q (arg r 40 8) (segCount (arg r 20 4)) bad = (s, none) :=
      if_neg (by rw [hhost hd]; exact Bool.false_ne_true)
    rw [hb] at hlen ⊢
    simp only [if_neg hd, hread, Bool.false_eq_true, if_false, hlen, ne_eq, not_true_eq_false, hempty, hkey, decide_false,
      Bool.or_self]

/-- The end of the load checks, where no UNLOAD_PLAN waits for it (R140). -/
theorem planChecksDone_ends {n q : Nat} {s : State} (hst : (slot s n).st = .loading) (hunloads : (slot s n).unloads = [])
    (hby : (slot s n).loadBy = some q) :
    exec (.planChecksDone n) s = .next (finishCmd (match (slot s n).verdict with
        | some _ => setSlot s n {}
        | none => memWrite (setSlot s n { slot s n with st := .ready, loadBy := none, unloads := [] })
            (imageBase (slot s n).image (slot s n).weightBase) (slot s n).image) q ((slot s n).verdict.getD .ok) 0) := by
  refine congrArg Host.Outcome.next ?_
  dsimp only
  rw [if_neg (by simp [hst]), hby, hunloads]
  rfl

section
variable {q : Nat} {r : RunCmd} {s : State} (hr : running s q 6 = some r) (htenant : tenantOk r true (arg r 17 1) = true)
include hr htenant

theorem unloadPlan_refuses (h : (slot s (arg r 16 1 % 64)).st ≠ .empty) (ht : (slot s (arg r 16 1 % 64)).tenant ≠ arg r 17 1) :
    exec (.unloadPlan q) s = .next (finishCmd s q .tenantMismatch 0) := by
  refine congrArg Host.Outcome.next ?_
  rw [hr]
  dsimp only
  rw [if_neg (by simp [htenant]), if_pos (by simp [h, ht])]

/-- An UNLOAD_PLAN of the slot's owner, or of an EMPTY slot without another tenant's key, is decided by the slot's state. -/
theorem unloadPlan_decides (h : (slot s (arg r 16 1 % 64)).st = .empty ∧ slotKeyOther s (arg r 16 1 % 64) (arg r 17 1) = false ∨
      (slot s (arg r 16 1 % 64)).st ≠ .empty ∧ (slot s (arg r 16 1 % 64)).tenant = arg r 17 1) :
    exec (.unloadPlan q) s = .next
      (if (slot s (arg r 16 1 % 64)).st = .draining then finishCmd s q .slotBusy 0
      else
        let k := wr (wr s R.SEC_WKEY_HELD 0 0 (arg r 16 1 % 64)) R.SEC_WKEY_TENANT 0 0 (arg r 16 1 % 64)
        match (slot s (arg r 16 1 % 64)).st with
        | .empty => finishCmd k q .ok 0
        | .loading => setBusy (setSlot k (arg r 16 1 % 64)
            { slot s (arg r 16 1 % 64) with unloads := (slot s (arg r 16 1 % 64)).unloads ++ [q] }) q
        | _ => unloadReady (setBusy k q) (arg r 16 1 % 64) q) := by
  refine congrArg Host.Outcome.next ?_
  rw [hr]
  dsimp only
  rw [if_neg (by simp [htenant])]
  rcases h with ⟨hst, hkey⟩ | ⟨hst, ht⟩
  · exact if_neg (by simp [hst, hkey])
  · exact if_neg (by simp [hst, ht])

end

theorem launch_issues {q : Nat} {r : RunCmd} {s : State} (hr : running s q 7 = some r) :
    let a := arg r 16 8
    let d := descOf (memBytes s a 64)
    a % 64 = 0 → tenantOk r false d.tenant = true → accessFail s r.tenant a 64 = none → rangePoison s a 64 = false →
    ¬(twinRole s = 2 ∧ mirrored s d.partition = true) →
    Ends (.launch q) s (fun t =>
      (part t d.partition).queue = (part s d.partition).queue ++ [{ desc := d, src := .direct q (runCid r) }] ∧
      (part t d.partition).running = (part s d.partition).running ∧
      (queue t q).run = some { r with busy := true } ∧ SameBut [.host, .parts] s t) := by
  intro a d halign htenant haccess hpoison htwin
  obtain ⟨hrun, -⟩ := run_of_running hr
  have hpart : part (issueLaunch (setBusy s q) d.partition { desc := d, src := .direct q (runCid r) }) d.partition =
      { part s d.partition with queue := (part s d.partition).queue ++ [{ desc := d, src := .direct q (runCid r) }] } :=
    part_setPart ..
  refine ⟨issueLaunch (setBusy s q) d.partition { desc := d, src := .direct q (runCid r) }, congrArg Host.Outcome.next ?_,
    by rw [hpart], by rw [hpart], run_setBusy hrun, sameBut_of_touches
      ((setBusy_touches rfl (Touches.refl _ s)).trans (setPart_touches rfl (Touches.refl _ _)))⟩
  rw [hr]
  dsimp only
  rw [if_neg (by simpa using halign), haccess]
  dsimp only
  rw [if_neg (by rw [hpoison]; exact Bool.false_ne_true), if_neg (by rw [htenant]; exact Bool.false_ne_true),
    if_neg (by simpa using htwin)]

/-- Settles O15. -/
theorem plansAndLaunches : Obligations.PlansAndLaunches := by
  refine ⟨fun q image bad r s hr => fun htenant halign hmin hmax hdev hhost hlen hempty hkey =>
      loadPlan_loads image bad hr htenant halign hmin hmax hdev hhost hlen hempty hkey,
    fun q image bad r s hr htenant => ?_,
    fun n q s hst hunloads hby => ⟨fun hv => ?_, fun e hv => ?_⟩,
    fun q r s hr => fun htenant => ⟨fun hst hkey => ?_, fun hst ht => ?_, fun hst ht => ?_, fun hst ht => ?_,
      fun hst ht => unloadPlan_refuses hr htenant hst ht⟩,
    fun q r s hr => launch_issues hr⟩
  · refine congrArg Host.Outcome.next ?_
    rw [hr]
    exact if_pos (by simp [htenant])
  · rw [planChecksDone_ends hst hunloads hby, hv]
    rfl
  · rw [planChecksDone_ends hst hunloads hby, hv]
    rfl
  · rw [unloadPlan_decides hr htenant (.inl ⟨hst, hkey⟩), hst]
    rfl
  · rw [unloadPlan_decides hr htenant (.inr ⟨by simp [hst], ht⟩), hst]
    rfl
  · rw [unloadPlan_decides hr htenant (.inr ⟨by simp [hst], ht⟩), hst]
    rfl
  · rw [unloadPlan_decides hr htenant (.inr ⟨by simp [hst], ht⟩), hst]
    rfl

end Sys2Proof.Proofs
end

section
/-!
Proofs, the shared layer continued: what an event with an interrupt leaves alone, a register write that its rules refuse, and the end of
a write that a page takes.
-/

namespace Sys2Proof.Proofs

open Sys2Proof Sys2Proof.Machine Sys2Proof.Safety Sys2Proof.Certificates Sys2Proof.Laws

/-! ### An event with its interrupt (R441, R489) -/

section
variable (s : State) (ty i n tenant : Nat) (detail : List Nat)

@[simp] theorem irqEvent_now : (irqEvent s ty i n tenant detail).now = s.now := by simp [irqEvent]
@[simp] theorem irqEvent_rtc : (irqEvent s ty i n tenant detail).rtc = s.rtc := by simp [irqEvent]
@[simp] theorem irqEvent_free : (irqEvent s ty i n tenant detail).free = s.free := by simp [irqEvent]
@[simp] theorem irqEvent_comb : (irqEvent s ty i n tenant detail).comb = s.comb := by simp [irqEvent]
@[simp] theorem irqEvent_pwr : (irqEvent s ty i n tenant detail).pwr = s.pwr := by simp [irqEvent]
@[simp] theorem irqEvent_clk : (irqEvent s ty i n tenant detail).clk = s.clk := by simp [irqEvent]
@[simp] theorem irqEvent_mem : (irqEvent s ty i n tenant detail).mem = s.mem := by simp [irqEvent]
@[simp] theorem irqEvent_kv : (irqEvent s ty i n tenant detail).kv = s.kv := by simp [irqEvent]
@[simp] theorem irqEvent_host : (irqEvent s ty i n tenant detail).host = s.host := by simp [irqEvent]
@[simp] theorem irqEvent_wag : (irqEvent s ty i n tenant detail).wag = s.wag := by simp [irqEvent]
@[simp] theorem irqEvent_hive : (irqEvent s ty i n tenant detail).hive = s.hive := by simp [irqEvent]
@[simp] theorem irqEvent_serv : (irqEvent s ty i n tenant detail).serv = s.serv := by simp [irqEvent]
@[simp] theorem irqEvent_twin : (irqEvent s ty i n tenant detail).twin = s.twin := by simp [irqEvent]
@[simp] theorem irqEvent_vid : (irqEvent s ty i n tenant detail).vid = s.vid := by simp [irqEvent]
@[simp] theorem irqEvent_sec : (irqEvent s ty i n tenant detail).sec = s.sec := by simp [irqEvent]

/-- The interrupt bit of the event reads 1. -/
@[simp] theorem rd_irqEvent_same : rd (irqEvent s ty i n tenant detail) (hIrqRaw ty n) i = 1 := by simp [irqEvent]

/-- An event leaves the registers of every page's own part but the recorder's. -/
theorem rd_irqEvent {f : Fld} (hpage : Nat.testBit 0x180000000060010 (32 + f.ty % 32) = false)
    (hf : fldCode f ≠ fldCode (hIrqRaw ty n)) (j k : Nat) : rd (irqEvent s ty i n tenant detail) f j k = rd s f j k := by
  unfold irqEvent
  rw [rd_raiseIrq hf, rd_recordEvent _ _ _ _ _ _ _ hpage]

end

/-! ### Counts that stop at their largest value -/

theorem min_lt_two_pow (n w : Nat) : min n (2 ^ w - 1) < 2 ^ w :=
  Nat.lt_of_le_of_lt (Nat.min_le_right _ _) (Nat.sub_lt (Nat.two_pow_pos w) Nat.one_pos)

@[simp] theorem rd_incSat (s : State) (f : Fld) (i k : Nat) :
    rd (incSat s f i k) f i k = min (rd s f i k + 1) (2 ^ f.w - 1) := rd_wr_fit _ _ _ _ (min_lt_two_pow _ _)

@[simp] theorem rd_addSat (s : State) (f : Fld) (n i k : Nat) :
    rd (addSat s f n i k) f i k = min (rd s f i k + n) (2 ^ f.w - 1) := rd_wr_fit _ _ _ _ (min_lt_two_pow _ _)

theorem rd_incSat_ne {f g : Fld} (h : fldCode g ≠ fldCode f) (s : State) (i k j l : Nat) :
    rd (incSat s f i k) g j l = rd s g j l := rd_wr_ne h _ _ _ _ _ _

theorem rd_addSat_ne {f g : Fld} (h : fldCode g ≠ fldCode f) (s : State) (n i k j l : Nat) :
    rd (addSat s f n i k) g j l = rd s g j l := rd_wr_ne h _ _ _ _ _ _

/-! ### Registers of another unit -/

theorem fldKey_ne_of_inst (f g : Fld) {i j : Nat} (h : j % 2 ^ 16 ≠ i % 2 ^ 16) (k l : Nat) : fldKey g j l ≠ fldKey f i k := by
  unfold fldKey
  omega

/-- A write to one unit of a block leaves every register of another alone. -/
theorem rd_wr_other {i j : Nat} (h : j % 2 ^ 16 ≠ i % 2 ^ 16) (s : State) (f g : Fld) (v k l : Nat) :
    rd (wr s f v i k) g j l = rd s g j l := tget_tset_ne _ _ (fldKey_ne_of_inst f g h k l) _ _

theorem rd_raiseIrq_other {i j : Nat} (h : j % 2 ^ 16 ≠ i % 2 ^ 16) (s : State) (ty n : Nat) (g : Fld) (l : Nat) :
    rd (raiseIrq s ty i n) g j l = rd s g j l := by
  unfold raiseIrq
  split
  · rfl
  · dsimp only
    split
    · rw [rd_emit, rd_wr_other h]
    · rw [rd_wr_other h]

theorem rd_irqEvent_other {i j : Nat} (h : j % 2 ^ 16 ≠ i % 2 ^ 16) (s : State) (ty n tenant : Nat) (detail : List Nat) {g : Fld}
    (hpage : Nat.testBit 0x180000000060010 (32 + g.ty % 32) = false) (l : Nat) :
    rd (irqEvent s ty i n tenant detail) g j l = rd s g j l := by
  unfold irqEvent
  rw [rd_raiseIrq_other h, rd_recordEvent _ _ _ _ _ _ _ hpage]

/-! ### What one step of a run brings about -/

/-- What the step for one element brings about, and every step keeps, holds after a run over a list with that element. -/
theorem foldl_reaches {σ α : Type} {P : σ → Prop} {g : σ → α → σ} {a : α} {l : List α} (ha : a ∈ l) (hset : ∀ s, P (g s a))
    (hkeep : ∀ s, ∀ b ∈ l, P s → P (g s b)) (s : σ) : P (l.foldl g s) := by
  induction l generalizing s with
  | nil => cases ha
  | cons b l ih =>
    have hrest : ∀ u, P u → P (l.foldl g u) := fun u hu => by
      refine List.foldlRecOn l g hu fun t ht c hc => hkeep t c (List.mem_cons_of_mem _ hc) ht
    rcases List.mem_cons.mp ha with rfl | ha
    · exact hrest _ (hset s)
    · exact ih ha (fun t c hc => hkeep t c (List.mem_cons_of_mem _ hc)) _

/-! ### Register writes -/

section
variable {c : Instr} {s x : State} {w : Writer} {ty i off : Nat} {touches : Bool} {k : State → State} {m : Nat} {st : Status}
  {P : State → Prop}

/-- A write that a page takes ends in its effect and the note of a setting; what that note keeps holds at the end. -/
theorem ends_of_served_write (hc : exec c s = .next (regWrite s w ty i off touches k)) (hs : pageServed s ty i = true)
    (hl : ¬(touches = true ∧ w = .host ∧ rd s (hLocked ty) i = 1)) (hk : k s = x)
    (hm : 0x180000000060014 &&& m = 0x180000000060014) (hx : Touches m s x)
    (hP : ∀ t, Touches 0x180000000060014 x t → Touches m s t → P t) : Ends c s P := by
  obtain ⟨t, ht, hnote, htouch⟩ := exec_write_taken hc hs hl hk hm hx
  exact ⟨t, ht, hP t hnote htouch⟩

/-- A write that its rules refuse: the page's own registers stay, and ERR_CODE shows the status and the register (R485). -/
theorem ends_of_refusal (hc : exec c s = .next (regWrite s w ty i off touches k)) (hs : pageServed s ty i = true)
    (hl : ¬(touches = true ∧ w = .host ∧ rd s (hLocked ty) i = 1)) (hk : k s = refuseWrite s ty i off st)
    (hm : 0x180000000060014 &&& m = 0x180000000060014) (hp : m.testBit (32 + ty % 32) = true)
    (hty : Nat.testBit 0x180000000060014 (32 + ty % 32) = false)
    (hP : ∀ t, (∀ f : Fld, f.ty = ty → 0x100 ≤ f.off → f.off * 8 + f.lo < 2 ^ 15 → ∀ j k, rd t f j k = rd s f j k) →
      rd t (hErrStatus ty) i = statusValue st → Touches m s t → P t) : Ends c s P := by
  refine ends_of_served_write hc hs hl hk hm (refuseWrite_touches hp (Touches.refl _ s)) fun t hnote htouch => hP t ?_ ?_ htouch
  · intro f hf hlo hhi j k
    rw [hnote.reads (by rw [hf]; exact hty), rd_refuseWrite_of_body _ _ _ _ _ hlo hhi]
  · rw [hnote.reads hty, rd_refuseWrite_hErrStatus]

theorem ends_of_taken (hc : exec c s = .next (regWrite s w ty i off touches k)) (hw : Writable s w ty i) (hk : k s = x)
    (hm : 0x180000000060014 &&& m = 0x180000000060014) (hx : Touches m s x)
    (hP : ∀ t, Touches 0x180000000060014 x t → Touches m s t → P t) : Ends c s P :=
  ends_of_served_write hc hw.1 (fun h => hw.2 h.2) hk hm hx hP

theorem ends_of_refused (hc : exec c s = .next (regWrite s w ty i off touches k)) (hw : Writable s w ty i)
    (hk : k s = refuseWrite s ty i off st) (hm : 0x180000000060014 &&& m = 0x180000000060014)
    (hp : m.testBit (32 + ty % 32) = true) (hty : Nat.testBit 0x180000000060014 (32 + ty % 32) = false)
    (hP : ∀ t, (∀ f : Fld, f.ty = ty → 0x100 ≤ f.off → f.off * 8 + f.lo < 2 ^ 15 → ∀ j k, rd t f j k = rd s f j k) →
      rd t (hErrStatus ty) i = statusValue st → Touches m s t → P t) : Ends c s P :=
  ends_of_refusal hc hw.1 (fun h => hw.2 h.2) hk hm hp hty hP

end

end Sys2Proof.Proofs
end

section
/-!
Proofs for chapter 07: park grants and deadlines, copies of shared blocks, frame scrubs and the pool's registers (R185, R186, R190, R191, R196,
R197).
-/

namespace Sys2Proof.Proofs

open Sys2Proof Sys2Proof.Machine Sys2Proof.Safety Sys2Proof.Certificates Sys2Proof.Laws

/-! ### Sequence contexts and the pool's counts -/

@[simp] theorem seqOf_setSeq (s : State) (k : Nat) (x : Seq) : seqOf (setSeq s k x) k = x := tget_tset_same _ _ _ _

@[simp] theorem rd_setSeq (s : State) (n : Nat) (x : Seq) (f : Fld) (i k : Nat) : rd (setSeq s n x) f i k = rd s f i k := rfl

theorem seqOf_setSeq_ne (s : State) {k j : Nat} (x : Seq) (h : j ≠ k) : seqOf (setSeq s k x) j = seqOf s j :=
  tget_tset_ne _ _ h _ _

theorem seqOf_of_kv {s t : State} (h : t.kv = s.kv) (k : Nat) : seqOf t k = seqOf s k := by unfold seqOf; rw [h]

/-- The counts that `kvSync` shows are registers; the pool's contexts and frames stay. -/
@[simp] theorem kvSync_kv (s : State) (t : Nat) : (kvSync s t).kv = s.kv := by
  unfold kvSync
  extract_lets f was s1 s2
  split
  · rw [irqEvent_kv]; rfl
  · rfl

@[simp] theorem seqOf_kvSync (s : State) (t k : Nat) : seqOf (kvSync s t) k = seqOf s k := seqOf_of_kv (kvSync_kv s t) k

/-- `kvSync` leaves every register of the pool's page but the four counts that it shows. -/
theorem rd_kvSync {f : Fld} (hty : f.ty = 11) (hlo : 0x100 ≤ f.off) (hhi : f.off * 8 + f.lo < 2 ^ 15)
    (hf : fldCode f ∉ [R.KVPG_FREE, R.KVPG_SCRUB, R.KVPG_TEN_USED, R.KVPG_TEN_PARKED].map fldCode) (s : State) (t j k : Nat) :
    rd (kvSync s t) f j k = rd s f j k := by
  simp only [List.map_cons, List.map_nil, List.mem_cons, List.not_mem_nil, or_false, not_or] at hf
  obtain ⟨hfree, hscrub, hused, hparked⟩ := hf
  unfold kvSync
  extract_lets f was s1 s2
  have h2 : rd s2 _ j k = rd s _ j k :=
    (rd_wr_ne hparked _ _ _ _ _ _).trans ((rd_wr_ne hused _ _ _ _ _ _).trans
      ((rd_wr_ne hscrub _ _ _ _ _ _).trans (rd_wr_ne hfree _ _ _ _ _ _)))
  split
  · rw [rd_irqEvent _ _ _ _ _ _ (by rw [hty]; rfl) (fldCode_ne_of_header hlo hhi (by decide)), h2]
  · exact h2

/-- A released context is CLOSING. -/
theorem seqOf_releaseSeq_st (s : State) (k : Nat) : (seqOf (releaseSeq s k) k).st = 3 := by
  unfold releaseSeq
  extract_lets x hand fs s0 s1 s2
  have hkv : (pfxOrphan s2 x.tenant k).kv = s2.kv :=
    (pfxOrphan_touches (mm := 0x180) rfl (Touches.refl _ s2)).same (c := .kv) rfl
  rw [seqOf_kvSync, seqOf_of_kv hkv, seqOf_setSeq]

theorem rd_releaseSeq {f : Fld} (hty : f.ty = 11) (hlo : 0x100 ≤ f.off) (hhi : f.off * 8 + f.lo < 2 ^ 15)
    (hf : fldCode f ∉ [R.KVPG_FREE, R.KVPG_SCRUB, R.KVPG_TEN_USED, R.KVPG_TEN_PARKED].map fldCode) (s : State) (n j k : Nat) :
    rd (releaseSeq s n) f j k = rd s f j k := by
  unfold releaseSeq
  extract_lets x hand fs s0 s1 s2
  rw [rd_kvSync hty hlo hhi hf, (pfxOrphan_touches (mm := 0x180) rfl (Touches.refl _ s2)).reads (by rw [hty]; rfl)]
  rfl

/-- Without a copy or a launch that reads it, an open or parked context is released by its close (R197). -/
theorem closeSeq_releases {s : State} {k : Nat} (hst : (seqOf s k).st = 1 ∨ (seqOf s k).st = 2) (hpins : (seqOf s k).pins = 0)
    (hheld : (seqOf s k).held = false) : closeSeq s k = releaseSeq s k := by
  have hgo : ¬((seqOf s k).st ≠ 1 && (seqOf s k).st ≠ 2) = true := by
    rcases hst with h | h <;> simp [h]
  have hfree : ¬(0 < (seqOf s k).pins || (seqOf s k).held) = true := by simp [hpins, hheld]
  exact (if_neg hgo).trans (if_neg hfree)

/-! ### Parking (R190, R191) -/

theorem parkGrant_opens {k : Nat} {s u : State} (hq : parkHeads (parkQueue s) [] = [k])
    (hgrow : grow s k (seqOf s k).growN = .done u) :
    Ends .parkGrant s (fun t => (seqOf t k).st = 1 ∧ (seqOf t k).growNeed = 0 ∧ (seqOf t k).parkTime = 0) := by
  let x : Seq := { seqOf u k with st := 1, growNeed := 0, growN := 0, parkTime := 0 }
  let u1 : State := kvSync (setSeq u k x) (seqOf s k).tenant
  let u2 : State := servAction u1 (seqOf s k).slot [2, k, (seqOf s k).growN, (seqOf s k).writePos]
  have hgrant : grantPark s k = some u2 := by
    unfold grantPark
    dsimp only
    rw [hgrow]
  have hexec : exec .parkGrant s = .next u2 := by
    refine congrArg Host.Outcome.next ?_
    rw [hq, List.foldl_cons, List.foldl_nil, hgrant]
    rfl
  have hkv : u2.kv = u1.kv := (servAction_touches (mm := 0x800) rfl (Touches.refl _ u1)).same (c := .kv) rfl
  have hseq : seqOf u2 k = x := by rw [seqOf_of_kv hkv, seqOf_kvSync, seqOf_setSeq]
  exact ⟨u2, hexec, by rw [hseq], by rw [hseq], by rw [hseq]⟩

theorem parkGrant_of_empty {s : State} (hq : parkQueue s = []) : exec .parkGrant s = .next s := by
  refine congrArg Host.Outcome.next ?_
  rw [hq]
  rfl

theorem parkDeadline_releases {k : Nat} {s : State} (hst : (seqOf s k).st = 2) (hdl : (seqOf s k).deadline + 1 < 2 ^ 64)
    (hpins : (seqOf s k).pins = 0) (hheld : (seqOf s k).held = false) (hhead : (parkHeads (parkQueue s) []).contains k = false)
    (hreq : (openReqs s).find? (fun e => e.2.seq = k || (e.2.spec && e.2.draftSeq = k)) = none) :
    Ends (.parkDeadline k) s (fun t => (seqOf t k).st = 3 ∧ t.now = max s.now ((seqOf s k).deadline + 1) ∧
      rd t R.KVPG_EXHAUST_CNT = min (rd s R.KVPG_EXHAUST_CNT + 1) (2 ^ 32 - 1)) := by
  let s1 : State := reachTime s ((seqOf s k).deadline + 1)
  let s2 : State := irqEvent (incSat s1 R.KVPG_EXHAUST_CNT) 11 0 Irq.KVPG_EXHAUSTED (seqOf s k).tenant [k]
  have hseq : seqOf s2 k = seqOf s k := seqOf_of_kv (by simp only [s2, irqEvent_kv]; rfl) k
  have hserv : openReqs s2 = openReqs s := by
    unfold openReqs
    rw [show s2.serv = s.serv by simp only [s2, irqEvent_serv]; rfl]
  have hexec : exec (.parkDeadline k) s = .next (releaseSeq s2 k) := by
    refine congrArg Host.Outcome.next ?_
    have hgo : ¬((seqOf s k).st ≠ 2 || 2 ^ 64 ≤ (seqOf s k).deadline + 1) = true := by simp [hst]; omega
    have hno : ¬(parkHeads (parkQueue s1) []).contains k = true := by
      rw [show parkQueue s1 = parkQueue s from rfl, hhead]; exact Bool.false_ne_true
    dsimp only
    rw [if_neg hgo, if_neg hno]
    dsimp only
    rw [show (openReqs s2).find? (fun e => e.2.seq = k || (e.2.spec && e.2.draftSeq = k)) = none from hserv ▸ hreq]
    exact closeSeq_releases (.inr (by rw [hseq, hst])) (by rw [hseq, hpins]) (by rw [hseq, hheld])
  refine ⟨_, hexec, seqOf_releaseSeq_st _ _, ?_, ?_⟩
  · rw [(releaseSeq_touches (mm := 0x180080000060390) rfl (Touches.refl _ s2)).same (c := .now) rfl]
    simp only [s2, irqEvent_now]
    rfl
  · rw [rd_releaseSeq rfl (by decide) (by decide) (by decide), rd_irqEvent _ _ _ _ _ _ rfl (by decide)]
    exact rd_incSat s1 R.KVPG_EXHAUST_CNT 0 0

/-! ### Prefix copies (R196) -/

theorem prefixCopyDone_lands {dst : Nat} {c : KvCopy} {s : State}
    (hc : s.kv.copies.find? (fun c => c.dst = dst) = some c) (hst : (seqOf s dst).st = 1) (hne : c.src ≠ dst)
    (howed : (seqOf s c.src).closeOwed = false) :
    Ends (.prefixCopyDone dst) s (fun t =>
      (seqOf t dst).writePos = c.h * 2 ^ (seqOf s dst).tppLog2 ∧ (seqOf t c.src).pins = (seqOf s c.src).pins - 1 ∧
      t.kv.copies = s.kv.copies.filter (fun c => c.dst ≠ dst) ∧
      rd t R.KVPG_COPY_CNT = min (rd s R.KVPG_COPY_CNT + (seqOf s dst).layers * c.h) (2 ^ 32 - 1)) := by
  let s1 : State := { s with kv := { s.kv with copies := s.kv.copies.filter (fun c => c.dst ≠ dst) } }
  let y : Seq := { seqOf s dst with writePos := c.h * 2 ^ (seqOf s dst).tppLog2 }
  let s2 : State := addSat (setSeq (copyPages s1 c) dst y) R.KVPG_COPY_CNT ((seqOf s dst).layers * c.h)
  have hcopy : Touches 0x180 s1 (copyPages s1 c) := copyPages_touches rfl (Touches.refl _ s1)
  have hsrc : seqOf s2 c.src = seqOf s c.src :=
    (seqOf_setSeq_ne _ y hne).trans (seqOf_of_kv (hcopy.same (c := .kv) rfl) c.src)
  let x : Seq := { seqOf s c.src with pins := (seqOf s c.src).pins - 1 }
  have hexec : exec (.prefixCopyDone dst) s = .next (setSeq s2 c.src x) := by
    refine congrArg Host.Outcome.next ?_
    rw [hc]
    dsimp only
    rw [if_pos (show ((seqOf s1 dst).st = 1 || (seqOf s1 dst).st = 2) = true by
      rw [show seqOf s1 dst = seqOf s dst from rfl, hst]; rfl)]
    change (if ((seqOf s2 c.src).closeOwed && decide ((seqOf s2 c.src).pins ≤ 1) && !(seqOf s2 c.src).held) = true then
      releaseSeq (setSeq s2 c.src { seqOf s2 c.src with pins := (seqOf s2 c.src).pins - 1 }) c.src
      else setSeq s2 c.src { seqOf s2 c.src with pins := (seqOf s2 c.src).pins - 1 }) = setSeq s2 c.src x
    rw [hsrc, howed, Bool.false_and, Bool.false_and, if_neg Bool.false_ne_true]
  refine ⟨_, hexec, ?_, ?_, ?_, ?_⟩
  · rw [seqOf_setSeq_ne _ _ (Ne.symm hne), show seqOf s2 dst = y from seqOf_setSeq _ _ _]
  · rw [seqOf_setSeq]
  · exact (congrArg Kv.copies (hcopy.same (c := .kv) rfl)).trans rfl
  · have hcnt : rd (copyPages s1 c) R.KVPG_COPY_CNT = rd s1 R.KVPG_COPY_CNT := hcopy.reads rfl
    rw [rd_setSeq, rd_addSat, rd_setSeq, hcnt]
    rfl

/-! ### Frame scrubs (R197) -/

theorem frameScrubDone_frees {f : Nat} {x : Frame} {s : State} (hf : frameOf s f = some x) (hscrub : x.scrub = true)
    (hhand : x.handed = false) (hst : (seqOf s x.seq).st ≠ 3) :
    Ends (.frameScrubDone f) s (fun t => frameOf t f = none ∧ (∀ g, g ≠ f → frameOf t g = frameOf s g) ∧
      (∀ b, frameAddr s f ≤ b → b < frameAddr s f + 16384 → memByte t b = 0) ∧
      (∀ b, (b < frameAddr s f ∨ frameAddr s f + 16384 ≤ b) → memByte t b = memByte s b) ∧
      SameBut (recorded ++ pages [11] ++ [.bytes, .memory, .kv]) s t) := by
  let s1 : State := setFrame (memZero s (frameAddr s f) 16384) f none
  have hst1 : ¬(seqOf s1 x.seq).st = 3 := hst
  have hexec : exec (.frameScrubDone f) s = .next (kvSync s1 x.tenant) := by
    refine congrArg Host.Outcome.next ?_
    rw [hf]
    dsimp only
    rw [if_neg (by rw [hscrub, hhand]; exact Bool.false_ne_true)]
    refine congrArg (kvSync · x.tenant) (if_neg ?_)
    rw [show decide ((seqOf s1 x.seq).st = 3) = false from decide_eq_false hst1, Bool.and_false]
    exact Bool.false_ne_true
  have hsync : Touches 0x180080000060210 s1 (kvSync s1 x.tenant) := kvSync_touches rfl (Touches.refl _ s1)
  have hmem : ∀ b, memByte (kvSync s1 x.tenant) b = memByte (memZero s (frameAddr s f) 16384) b := fun b =>
    memByte_of_touches hsync rfl b
  have hframe : ∀ g, frameOf (kvSync s1 x.tenant) g = frameOf s1 g := fun g => by unfold frameOf; rw [kvSync_kv]
  refine ⟨_, hexec, ?_, fun g hg => ?_, fun b hlo hhi => ?_, fun b hb => ?_, ?_⟩
  · rw [hframe]; exact tget_tset_same none f none s.kv.frames
  · rw [hframe]; exact tget_tset_ne none _ hg none s.kv.frames
  · rw [hmem, memByte_memZero, if_pos ⟨hlo, hhi⟩]
  · rw [hmem, memByte_memZero, if_neg (by omega)]
  · exact sameBut_of_touches (touches_of_next hexec
      (execFrameScrubDone_touches rfl (Touches.refl _ s) (Touches.refl _ s)))

theorem frameScrubDone_ignores {f : Nat} {x : Frame} {s : State} (hf : frameOf s f = some x) (hscrub : x.scrub = false) :
    exec (.frameScrubDone f) s = .next s := by
  refine congrArg Host.Outcome.next ?_
  rw [hf]
  exact if_pos (by rw [hscrub]; rfl)

/-! ### The pool's registers (R180, R185, R186) -/

/-- The frames go and the counts are shown again around a write of a field. -/
theorem poolWrite_touches (s : State) (f : Fld) (hf : f.ty = 11) (v : Nat) :
    Touches (maskOf (.kv :: written 11)) s (kvSync (wr { s with kv := { s.kv with frames := [] } } f v) 0) :=
  kvSync_touches rfl (wr_touches (by rw [hf]; rfl) (Touches.kv rfl (Touches.refl _ s)))

theorem kvpgPoolWrite_pages {w : Writer} {v : Nat} {s : State} (hw : Writable s w 11 0) (hfree : allFree s = true) (hpos : 1 ≤ v)
    (hmax : v ≤ 2 ^ 26) (hbase : rd s R.KVPG_POOL_BASE % 16384 = 0) (hresv : resvSum s ≤ v)
    (hext : (extentsOf (rd s R.KVPG_POOL_BASE) (16384 * v)).all (extentPresent s) = true) :
    Ends (.kvpgPoolWrite w true v) s (fun t => rd t R.KVPG_POOL_PAGES = v ∧ t.kv.frames = [] ∧
      t.kv.seqs = s.kv.seqs ∧ SameBut (.kv :: written 11) s t) := by
  refine ends_of_taken (x := kvSync (wr { s with kv := { s.kv with frames := [] } } R.KVPG_POOL_PAGES v) 0) rfl hw ?_ rfl
    (poolWrite_touches s _ rfl v) fun t hnote htouch => ⟨?_, ?_, ?_, sameBut_of_touches htouch⟩
  · dsimp only
    rw [if_neg (by rw [hfree]; exact Bool.false_ne_true), if_neg]
    · rfl
    · have hv : ¬(v = 0 ∨ 2 ^ 26 < v) := by omega
      simp only [if_true, hbase, hext]
      simp only [ne_eq, Bool.or_eq_true, Bool.and_eq_true, decide_eq_true_eq, Bool.not_true, Bool.false_eq_true,
        not_true_eq_false, true_and, false_or, or_false]
      omega
  · rw [hnote.reads rfl, rd_kvSync rfl (by decide) (by decide) (by decide)]
    exact rd_wr_fit _ _ _ _ (show v < 2 ^ 27 by omega)
  · rw [hnote.same (c := .kv) rfl, kvSync_kv]; rfl
  · rw [hnote.same (c := .kv) rfl, kvSync_kv]; rfl

theorem kvpgPoolWrite_base {w : Writer} {v : Nat} {s : State} (hw : Writable s w 11 0) (hfree : allFree s = true) (hv : v < 2 ^ 64)
    (halign : v % 16384 = 0) (hresv : resvSum s ≤ rd s R.KVPG_POOL_PAGES)
    (hext : (extentsOf v (16384 * rd s R.KVPG_POOL_PAGES)).all (extentPresent s) = true) :
    Ends (.kvpgPoolWrite w false v) s (fun t => rd t R.KVPG_POOL_BASE = v ∧ t.kv.frames = [] ∧
      t.kv.seqs = s.kv.seqs ∧ SameBut (.kv :: written 11) s t) := by
  refine ends_of_taken (x := kvSync (wr { s with kv := { s.kv with frames := [] } } R.KVPG_POOL_BASE v) 0) rfl hw ?_ rfl
    (poolWrite_touches s _ rfl v) fun t hnote htouch => ⟨?_, ?_, ?_, sameBut_of_touches htouch⟩
  · dsimp only
    rw [if_neg (by rw [hfree]; exact Bool.false_ne_true), if_neg]
    · rfl
    · simp only [Bool.false_eq_true, if_false, hext]
      simp only [halign, ne_eq, Bool.or_eq_true, decide_eq_true_eq, Bool.not_true, Bool.false_eq_true, Bool.false_and,
        not_true_eq_false, decide_false, Bool.false_or, or_false]
      omega
  · rw [hnote.reads rfl, rd_kvSync rfl (by decide) (by decide) (by decide)]
    exact rd_wr_fit _ _ _ _ hv
  · rw [hnote.same (c := .kv) rfl, kvSync_kv]; rfl
  · rw [hnote.same (c := .kv) rfl, kvSync_kv]; rfl

/-- While a context is in use the pool stays where it is (R185). -/
theorem kvpgPoolWrite_busy {w : Writer} {pages : Bool} {v : Nat} {s : State} (hw : Writable s w 11 0) (hbusy : allFree s = false) :
    Ends (.kvpgPoolWrite w pages v) s (fun t => rd t R.KVPG_POOL_PAGES = rd s R.KVPG_POOL_PAGES ∧
      rd t R.KVPG_POOL_BASE = rd s R.KVPG_POOL_BASE ∧ rd t (hErrStatus 11) 0 = statusValue .poolBusy ∧
      SameBut (written 11) s t) := by
  refine ends_of_refused (m := maskOf (written 11)) (st := .poolBusy) rfl hw ?_ rfl rfl rfl
    fun t hbody herr htouch => ⟨?_, ?_, herr, sameBut_of_touches htouch⟩
  · exact if_pos (by rw [hbusy]; rfl)
  · exact hbody _ rfl (by decide) (by decide) 0 0
  · exact hbody _ rfl (by decide) (by decide) 0 0

theorem kvpgSeqBaseWrite_takes {w : Writer} {v : Nat} {s : State} (hw : Writable s w 11 0) (hfree : allFree s = true)
    (hv : v < 2 ^ 64) (halign : v % 2 ^ 22 = 0) :
    Ends (.kvpgSeqBaseWrite w v) s (fun t => rd t R.KVPG_SEQ_BASE = v ∧ SameBut (written 11) s t) := by
  refine ends_of_taken (m := maskOf (written 11)) (x := wr s R.KVPG_SEQ_BASE v) rfl hw ?_ rfl (wr_touches rfl (Touches.refl _ s))
    fun t hnote htouch => ⟨?_, sameBut_of_touches htouch⟩
  · rw [if_neg (by rw [hfree]; exact Bool.false_ne_true), if_neg (by omega)]
  · rw [hnote.reads rfl]
    exact rd_wr_fit _ _ _ _ hv

theorem kvpgResvWrite_takes {w : Writer} {v : Nat} {s : State} (hw : Writable s w 11 0) (hv : v < 2 ^ 27)
    (hfits : resvSum s - rd s R.KVPG_TEN_RESV 0 (rd s R.KVPG_TEN_SEL) + v ≤ rd s R.KVPG_POOL_PAGES)
    (hheld : heldPages s (rd s R.KVPG_TEN_SEL) false ≤ v) :
    Ends (.kvpgResvWrite w v) s (fun t => rd t R.KVPG_TEN_RESV 0 (rd s R.KVPG_TEN_SEL) = v ∧
      (∀ k, k ≠ rd s R.KVPG_TEN_SEL → rd t R.KVPG_TEN_RESV 0 k = rd s R.KVPG_TEN_RESV 0 k) ∧
      t.kv.seqs = s.kv.seqs ∧ SameBut (.kv :: written 11) s t) := by
  let x : State := kvSync (wr s R.KVPG_TEN_RESV v 0 (rd s R.KVPG_TEN_SEL)) (rd s R.KVPG_TEN_SEL)
  have hx : Touches (maskOf (.kv :: written 11)) s x := kvSync_touches rfl (wr_touches rfl (Touches.refl _ s))
  refine ends_of_taken (x := x) rfl hw ?_ rfl hx fun t hnote htouch => ⟨?_, fun k hk => ?_, ?_, sameBut_of_touches htouch⟩
  · refine if_neg ?_
    rw [Bool.or_eq_true, decide_eq_true_eq, decide_eq_true_eq]
    omega
  · rw [hnote.reads rfl, rd_kvSync rfl (by decide) (by decide) (by decide)]
    exact rd_wr_fit _ _ _ _ hv
  · rw [hnote.reads rfl, rd_kvSync rfl (by decide) (by decide) (by decide), rd_wr_inst _ (.inr hk)]
  · rw [hnote.same (c := .kv) rfl, kvSync_kv]; rfl

/-- Settles O18, from the case of each command and write. -/
theorem poolAndParking : Obligations.PoolAndParking :=
  ⟨fun _ _ _ => parkGrant_opens, fun _ => parkGrant_of_empty, fun _ _ => parkDeadline_releases, fun _ _ _ => prefixCopyDone_lands,
    fun _ _ _ => frameScrubDone_frees, fun _ _ _ => frameScrubDone_ignores, fun _ _ _ => kvpgPoolWrite_pages,
    fun _ _ _ => kvpgPoolWrite_base, fun _ _ _ _ => kvpgPoolWrite_busy, fun _ _ _ => kvpgSeqBaseWrite_takes,
    fun _ _ _ => kvpgResvWrite_takes⟩

end Sys2Proof.Proofs
end

section
/-!
Proofs for chapter 08: the admission of a request, and its cancellation by its owner (R201, R202, R207, R228, R396).
-/

namespace Sys2Proof.Proofs

open Sys2Proof Sys2Proof.Machine Sys2Proof.Safety Sys2Proof.Certificates Sys2Proof.Laws

@[simp] theorem req_setReq (s : State) (i : Nat) (x : Option Req) : req (setReq s i x) i = x := by
  unfold req setReq
  exact tget_tset_same none i x s.serv.reqs

/-- Without a draft partition to wait for, a slot is awake when its own partition is. -/
theorem awake_of_unpaired {s : State} {n : Nat} (h : slotPaired s n = false) :
    (partAwake s (servPart s n) && (!slotPaired s n || partAwake s (servPart s (draftSlotOf s n)))) =
      partAwake s (servPart s n) := by
  rw [h, Bool.not_false, Bool.true_or, Bool.and_true]

/-! ### Admission (R201, R207) -/

section
variable {q : Nat} {desc : List Byte} {prompt : List Nat} {bad : Option Nat} {r : RunCmd} {s : State}

theorem request_of_stopped (hrun : running s q 3 = some r) (hstop : admissionsStopped s = true) :
    exec (.request q desc prompt bad) s = .next s := by
  refine congrArg Host.Outcome.next ?_
  rw [hrun]
  exact if_pos hstop

/-- A tenant's own request, with admissions open and nothing sealed, comes to the early orders. -/
theorem request_comes_to_orders (hrun : running s q 3 = some r) (hopen : admissionsStopped s = false)
    (hlen : arg r 16 8 % 64 = 0) (hseal : tenSeals s (fnTenant s r.fn) = false) {plen : Nat} (hplen : plen = fieldAt desc 8 4)
    {x : Req} (hx : x = reqOf q r.fn desc ((prompt ++ List.replicate plen 0).take plen)) (hten : tenantOk r false x.tenant = true)
    (hrole : twinRole s = 0) :
    exec (.request q desc prompt bad) s = .next (match admitEarly s x plen with
      | some st => refuseReq s q st
      | none =>
        let u := { s with serv := { s.serv with nextReq := s.serv.nextReq + 1 } }
        if partAwake u (servPart u x.slot) && (!slotPaired u x.slot || partAwake u (servPart u (draftSlotOf u x.slot))) then
          admitReq u s.serv.nextReq x
        else setBusy (setReq u s.serv.nextReq (some { x with st := .waking })) q) := by
  subst hplen
  subst hx
  refine congrArg Host.Outcome.next ?_
  rw [hrun]
  dsimp only
  rw [if_neg (by rw [hopen]; exact Bool.false_ne_true), if_neg (not_not_intro hlen), sealedRead, hseal,
    if_neg Bool.false_ne_true]
  dsimp only
  rw [if_neg (by rw [hten]; exact Bool.false_ne_true)]
  exact if_neg (by simp [hrole])

theorem request_decided (hrun : running s q 3 = some r) (hopen : admissionsStopped s = false) (hlen : arg r 16 8 % 64 = 0)
    (hseal : tenSeals s (fnTenant s r.fn) = false) {plen : Nat} (hplen : plen = fieldAt desc 8 4) {x : Req}
    (hx : x = reqOf q r.fn desc ((prompt ++ List.replicate plen 0).take plen)) (hten : tenantOk r false x.tenant = true)
    (hrole : twinRole s = 0) :
    (∀ st, admitEarly s x plen = some st → exec (.request q desc prompt bad) s = .next (refuseReq s q st)) ∧
    (admitEarly s x plen = none → partAwake s (servPart s x.slot) = true → slotPaired s x.slot = false →
      exec (.request q desc prompt bad) s =
        .next (admitReq { s with serv := { s.serv with nextReq := s.serv.nextReq + 1 } } s.serv.nextReq x)) := by
  have hgo := request_comes_to_orders (bad := bad) hrun hopen hlen hseal hplen hx hten hrole
  refine ⟨fun st hst => ?_, fun hnone hawake hpair => ?_⟩
  · rw [hgo, hst]
  · rw [hgo, hnone]
    exact congrArg Host.Outcome.next (if_pos ((awake_of_unpaired hpair).trans hawake))

end

theorem admissionAfterWake_decides {i : Nat} {x : Req} {s : State} (hreq : req s i = some x) (hst : x.st = .waking)
    (hpair : slotPaired s x.slot = false) :
    (partAwake s (servPart s x.slot) = true →
      exec (.admissionAfterWake i) s = .next (admitReq (setReq s i none) i { x with st := .prefill })) ∧
    (partAwake s (servPart s x.slot) = false → exec (.admissionAfterWake i) s = .next s) := by
  have hgo : exec (.admissionAfterWake i) s = .next (if partAwake s (servPart s x.slot) = true then
      admitReq (setReq s i none) i { x with st := .prefill } else s) := by
    refine congrArg Host.Outcome.next ?_
    rw [hreq]
    dsimp only
    rw [hst, decide_eq_true rfl, Bool.true_and, awake_of_unpaired hpair]
  exact ⟨fun h => hgo.trans (congrArg _ (if_pos h)), fun h => hgo.trans (congrArg _ (if_neg (by rw [h]; exact Bool.false_ne_true)))⟩

/-- An admitted request is open with its charge and the time of its admission (R202). -/
theorem admitReq_opens {s u : State} {i : Nat} {x : Req} (hdl : admitDeadline s x = true) (hopen : openContexts s x = .ok u) :
    ∃ f, req (admitReq s i x) i =
      some { x with charge := promptCharge u x.tenant x.prompt.length, admitted := u.now, finish := f } := by
  let c := promptCharge u x.tenant x.prompt.length
  let f := predict u x.slot x.prompt.length x.maxLen
  let u1 := chargeBudget u x.tenant (-(16 * c))
  let u2 := setReq u1 i (some { x with charge := c, admitted := u1.now, finish := (f.num + f.den - 1) / f.den })
  let u3 := { u2 with serv := { u2.serv with tags := tset none x.seq (some (x.tenant, x.tag)) u2.serv.tags } }
  have hgo : ∃ what, admitReq s i x = finishCmd (servAction (incSat u3 R.SERV_ADMIT_CNT) x.slot what) x.queue .ok 0 := by
    unfold admitReq
    rw [if_neg (by rw [hdl]; exact Bool.false_ne_true), hopen]
    exact ⟨_, rfl⟩
  obtain ⟨what, hgo⟩ := hgo
  have htail : Touches 0x800468000040D80 u3 (admitReq s i x) := by
    rw [hgo]
    exact finishCmd_touches rfl (servAction_touches rfl (wr_touches rfl (Touches.refl _ u3)))
  have hnow : u1.now = u.now :=
    (chargeBudget_touches (mm := 0x40000002000) rfl (Touches.refl _ u)).same (c := .now) rfl
  refine ⟨(f.num + f.den - 1) / f.den, ?_⟩
  calc req (admitReq s i x) i = req u2 i := by unfold req; rw [htail.same (c := .serving) rfl]
    _ = some { x with charge := c, admitted := u1.now, finish := (f.num + f.den - 1) / f.den } :=
        req_setReq ..
    _ = _ := by rw [hnow]

theorem admitReq_refuses {s : State} {i : Nat} {x : Req} (h : admitDeadline s x = false) :
    admitReq s i x = refuseReq s x.queue .admitDeadline := if_pos (by rw [h]; rfl)

/-! ### CANCEL (R228) -/

section
variable {q : Nat} {r : RunCmd} {s : State} (hrun : running s q 4 = some r) (hten : tenantOk r true (arg r 16 1) = true)
include hrun hten

/-- The owner's CANCEL of an open request joins those that wait for its end; outside a launch the request ends at once. -/
theorem cancel_of_open {i : Nat} {x : Req} (hfound : (openReqs s).find? (fun e => e.2.seq = arg r 18 2) = some (i, x))
    (hx : x.tenant = arg r 16 1) (htag : x.tag = arg r 20 2) :
    exec (.cancel q) s = .next (
      let u := setBusy (setReq s i (some { x with cancels := x.cancels ++ [q] })) q
      if x.inWork.isNone then endReq u i .cancelled else u) := by
  refine congrArg Host.Outcome.next ?_
  rw [hrun]
  dsimp only
  rw [if_neg (by rw [hten]; exact Bool.false_ne_true), hfound]
  dsimp only
  rw [if_neg (not_not_intro hx), if_neg (not_not_intro htag)]

theorem cancel_in_launch {i : Nat} {x : Req} {w : Nat}
    (hfound : (openReqs s).find? (fun e => e.2.seq = arg r 18 2) = some (i, x)) (hx : x.tenant = arg r 16 1)
    (htag : x.tag = arg r 20 2) (hw : x.inWork = some w) :
    Ends (.cancel q) s (fun u => req u i = some { x with cancels := x.cancels ++ [q] } ∧
      (queue u q).run = some { r with busy := true } ∧ SameBut [.serving, .host] s u) := by
  have hexec := (cancel_of_open hrun hten hfound hx htag).trans
    (congrArg Host.Outcome.next (if_neg (by rw [hw]; exact Bool.false_ne_true)))
  refine ⟨_, hexec, req_setReq .., run_setBusy (run_of_running hrun).1, ?_⟩
  exact sameBut_of_touches (setBusy_touches rfl (setReq_touches rfl (Touches.refl _ s)))

/-- Of a request that has ended, the CANCEL completes by its tag. -/
theorem cancel_of_ended (hfound : (openReqs s).find? (fun e => e.2.seq = arg r 18 2) = none) (hst : (seqOf s (arg r 18 2)).st = 0) :
    exec (.cancel q) s = .next (match tget none s.serv.tags (arg r 18 2) with
      | some (t', tag') =>
        if t' = arg r 16 1 && tag' = arg r 20 2 then finishCmd s q .ok 0 4 else finishCmd s q .seqState 0
      | none => finishCmd s q .seqState 0) := by
  refine congrArg Host.Outcome.next ?_
  rw [hrun]
  dsimp only
  rw [if_neg (by rw [hten]; exact Bool.false_ne_true), hfound]
  dsimp only
  exact if_neg (by simp [hst])

end

theorem cancel_answers {q : Nat} {r : RunCmd} {s : State} (hrun : running s q 4 = some r)
    (hten : tenantOk r true (arg r 16 1) = true) :
    let t := arg r 16 1
    let k := arg r 18 2
    let found := (openReqs s).find? (fun e => e.2.seq = k)
    (∀ i x, found = some (i, x) → x.tenant = t → x.tag = arg r 20 2 → x.inWork = none →
      exec (.cancel q) s =
        .next (endReq (setBusy (setReq s i (some { x with cancels := x.cancels ++ [q] })) q) i .cancelled)) ∧
    (∀ i x w, found = some (i, x) → x.tenant = t → x.tag = arg r 20 2 → x.inWork = some w →
      Ends (.cancel q) s (fun u => req u i = some { x with cancels := x.cancels ++ [q] } ∧
        (queue u q).run = some { r with busy := true } ∧ SameBut [.serving, .host] s u)) ∧
    (found = none → (seqOf s k).st = 0 → tget none s.serv.tags k = some (t, arg r 20 2) →
      exec (.cancel q) s = .next (finishCmd s q .ok 0 4)) ∧
    (found = none → (seqOf s k).st = 0 → tget none s.serv.tags k = none →
      exec (.cancel q) s = .next (finishCmd s q .seqState 0)) := by
  refine ⟨fun i x hfound hx htag hw => ?_, fun i x w => cancel_in_launch hrun hten, fun hfound hst htags => ?_,
    fun hfound hst htags => ?_⟩
  · exact (cancel_of_open hrun hten hfound hx htag).trans (congrArg Host.Outcome.next (if_pos (by rw [hw]; rfl)))
  · rw [cancel_of_ended hrun hten hfound hst, htags]
    exact congrArg Host.Outcome.next (if_pos (by simp))
  · rw [cancel_of_ended hrun hten hfound hst, htags]

/-- Settles O19, by the orders of admission and the branches of CANCEL. -/
theorem admission : Obligations.Admission :=
  ⟨fun _ _ _ _ _ _ hrun hopen hlen hseal => request_decided hrun hopen hlen hseal rfl rfl, fun _ _ _ _ _ _ => request_of_stopped,
    fun _ _ _ => admissionAfterWake_decides, fun _ _ _ _ => admitReq_opens, fun _ _ _ => admitReq_refuses,
    fun _ _ _ => cancel_answers⟩

end Sys2Proof.Proofs
end

section
/-!
Proofs for chapter 08: the serving slots, the sequencer's launches, lookup of shared blocks and the tenants' registers (R205, R211 to R214, R221,
R222, R227).
-/

namespace Sys2Proof.Proofs

open Sys2Proof Sys2Proof.Machine Sys2Proof.Safety Sys2Proof.Certificates Sys2Proof.Laws

/-! ### Slots (R205) -/

theorem bitsOf_lt (x lo w : Nat) : bitsOf x lo w < 2 ^ w := Nat.mod_lt _ (Nat.two_pow_pos w)

theorem slotEnable_enables {w : Writer} {v : Nat} {s : State} (hs : pageServed s 10 0 = true)
    (hoff : slotEnabled s (rd s R.SERV_SLOT_SEL) = false) (hv : v % 2 = 1) (hspec : bitsOf v 1 1 = 0)
    (hok : enableOk s (rd s R.SERV_SLOT_SEL) (bitsOf v 16 6) false (bitsOf v 8 4) (bitsOf v 24 6) = true) :
    Ends (.slotEnable w v) s (fun t => slotEnabled t (rd s R.SERV_SLOT_SEL) = true ∧
      servPart t (rd s R.SERV_SLOT_SEL) = bitsOf v 16 6 ∧ rd t R.SERV_SLOT_CFG_FAULTED 0 (rd s R.SERV_SLOT_SEL) = 0 ∧
      SameBut (written 10) s t) := by
  let n := rd s R.SERV_SLOT_SEL
  let x := wr (wr (wr (wr (wr (wr s R.SERV_SLOT_CFG_SPEC_EN (bitsOf v 1 1) 0 n) R.SERV_SLOT_CFG_SPEC_LEN (bitsOf v 8 4) 0 n)
    R.SERV_SLOT_CFG_PARTITION (bitsOf v 16 6) 0 n) R.SERV_SLOT_CFG_DRAFT_SLOT (bitsOf v 24 6) 0 n)
    R.SERV_SLOT_CFG_ENABLE (v % 2) 0 n) R.SERV_SLOT_CFG_FAULTED 0 0 n
  have hx : Touches (maskOf (written 10)) s (showCycle x n) := showCycle_touches rfl (wr_touches rfl (wr_touches rfl
    (wr_touches rfl (wr_touches rfl (wr_touches rfl (wr_touches rfl (Touches.refl _ s)))))))
  have hshow : ∀ f : Fld, fldCode f ≠ fldCode R.SERV_SLOT_CYCLE → rd (showCycle x n) f 0 n = rd x f 0 n := fun f hf =>
    rd_wr_ne hf _ _ _ _ _ _
  refine ends_of_served_write (x := showCycle x n) rfl hs (fun h => Bool.false_ne_true h.1) ?_ rfl hx
    fun t hnote htouch => ⟨?_, ?_, ?_, sameBut_of_touches htouch⟩
  · dsimp only
    rw [if_neg (by rw [hoff]; exact Bool.false_ne_true), hspec, if_neg (by simp),
      if_neg (by rw [show decide ((0 : Nat) = 1) = false from rfl, hok]; simp), if_pos hv]
    simp only [x, n, hspec]
  · unfold slotEnabled
    rw [hnote.reads rfl, hshow _ (by decide), rd_wr_ne (by decide), rd_wr, hv]
    rfl
  · unfold servPart
    rw [hnote.reads rfl, hshow _ (by decide), rd_wr_ne (by decide), rd_wr_ne (by decide), rd_wr_ne (by decide)]
    exact rd_wr_fit _ _ _ _ (bitsOf_lt _ _ _)
  · rw [hnote.reads rfl, hshow _ (by decide), rd_wr]
    rfl

theorem slotEnable_refuses {w : Writer} {v : Nat} {s : State} (hs : pageServed s 10 0 = true)
    (hoff : slotEnabled s (rd s R.SERV_SLOT_SEL) = false) (hv : v % 2 = 1) (hspec : bitsOf v 1 1 = 0)
    (hbad : enableOk s (rd s R.SERV_SLOT_SEL) (bitsOf v 16 6) false (bitsOf v 8 4) (bitsOf v 24 6) = false) :
    Ends (.slotEnable w v) s (fun t => slotEnabled t (rd s R.SERV_SLOT_SEL) = false ∧
      rd t (hErrStatus 10) 0 = statusValue .servConfig ∧ SameBut (written 10) s t) := by
  refine ends_of_refusal (m := maskOf (written 10)) (st := .servConfig) rfl hs (fun h => Bool.false_ne_true h.1) ?_ rfl rfl rfl
    fun t hbody herr htouch => ⟨?_, herr, sameBut_of_touches htouch⟩
  · dsimp only
    rw [if_neg (by rw [hoff]; exact Bool.false_ne_true), hspec, if_neg (by simp),
      if_pos (by rw [show decide ((0 : Nat) = 1) = false from rfl, hbad, hv]; rfl)]
  · unfold slotEnabled
    rw [hbody _ rfl (by decide) (by decide)]
    exact hoff

theorem slotEnable_disables {w : Writer} {v : Nat} {s : State} (hs : pageServed s 10 0 = true)
    (hon : slotEnabled s (rd s R.SERV_SLOT_SEL) = true) (hv : v % 2 = 0)
    (hspec : bitsOf v 1 1 = rd s R.SERV_SLOT_CFG_SPEC_EN 0 (rd s R.SERV_SLOT_SEL))
    (hlen : bitsOf v 8 4 = specLen s (rd s R.SERV_SLOT_SEL)) (hpart : bitsOf v 16 6 = servPart s (rd s R.SERV_SLOT_SEL))
    (hdraft : bitsOf v 24 6 = draftSlotOf s (rd s R.SERV_SLOT_SEL)) :
    Ends (.slotEnable w v) s (fun t => slotEnabled t (rd s R.SERV_SLOT_SEL) = false ∧
      servPart t (rd s R.SERV_SLOT_SEL) = servPart s (rd s R.SERV_SLOT_SEL) ∧ SameBut (written 10) s t) := by
  refine ends_of_served_write (m := maskOf (written 10)) (x := wr s R.SERV_SLOT_CFG_ENABLE 0 0 (rd s R.SERV_SLOT_SEL)) rfl hs
    (fun h => Bool.false_ne_true h.1) ?_ rfl (wr_touches rfl (Touches.refl _ s))
    fun t hnote htouch => ⟨?_, ?_, sameBut_of_touches htouch⟩
  · dsimp only
    rw [if_pos hon, if_neg (by simp [hspec, hlen, hpart, hdraft]), hv]
  · unfold slotEnabled
    rw [hnote.reads rfl, rd_wr]
    rfl
  · unfold servPart
    rw [hnote.reads rfl, rd_wr_ne (by decide)]

/-! ### The sequencer's launches (R213, R214, R227) -/

theorem servingLaunchPrepare_prepares {n c : Nat} {s : State} (hdirty : s.serv.dirty = []) (hfree : (servSlot s n).flight = none)
    (hreload : (servSlot s n).reload = none) (hfault : slotFaulted s n = false) (hready : (slot s n).st = .ready)
    (hctl : rd s R.SERV_CTL_ENABLE ≠ 0) (hopen : admissionsStopped s = false) (hpart : launchStopped s (servPart s n) = false)
    (hpair : slotPaired s n = false) (hplace : nextPlace s n 80 (servSlot s n).cycle = some c) :
    exec (.servingLaunchPrepare n) s = .next (prepareAt s n c) := by
  refine congrArg Host.Outcome.next ?_
  rw [hdirty, List.foldl_nil]
  dsimp only
  rw [if_neg (by simp [hfree, hfault, hready, hctl, hopen, hpart, hpair]), hreload]
  dsimp only
  rw [hplace]

theorem servingLaunchPrepare_of_flight {n w : Nat} {s : State} (hdirty : s.serv.dirty = [])
    (hflight : (servSlot s n).flight = some w) : exec (.servingLaunchPrepare n) s = .next s := by
  refine congrArg Host.Outcome.next ?_
  rw [hdirty, List.foldl_nil]
  exact if_pos (by simp [hflight])

theorem servingLaunchResult_acts {wn : Nat} {w : Work} {s : State} (hw : work s wn = some w) (hdone : w.done = true)
    (href : w.refused = none) (hstop : w.stopped = none) :
    exec (.servingLaunchResult wn) s = .next ((w.rows.zipIdx).foldl (rowResult w)
      (setWork (setServSlot s w.slot { servSlot s w.slot with flight := none }) wn none)) := by
  refine congrArg Host.Outcome.next ?_
  rw [hw]
  dsimp only
  rw [if_neg (by rw [hdone]; exact Bool.false_ne_true), href, hstop]

theorem servingLaunchResult_waits {wn : Nat} {w : Work} {s : State} (hw : work s wn = some w) (hdone : w.done = false) :
    exec (.servingLaunchResult wn) s = .next s := by
  refine congrArg Host.Outcome.next ?_
  rw [hw]
  exact if_pos (by rw [hdone]; rfl)

/-! ### Prefix lookup (R222) -/

/-- A tenant without a tree has no hit: the request is marked and the lookup counted. -/
theorem prefixLookup_misses {i : Nat} {x : Req} {s : State} (hreq : req s i = some x) (hlookup : x.lookup = true)
    (hlooked : x.looked = false) (hst : x.st = .prefill) (hclass : rd s (R.SERV_CLASS_PFX_EN x.cls) ≠ 0)
    (hseq : (seqOf s x.seq).st = 1) (hnodes : rd s R.PFX_TEN_NODES 0 x.tenant = 0) :
    Ends (.prefixLookup i) s (fun t => req t i = some { x with looked := true } ∧
      rd t R.PFX_LOOKUP_CNT = min (rd s R.PFX_LOOKUP_CNT + 1) (2 ^ 32 - 1) ∧ SameBut [.page 12, .serving] s t) := by
  have hexec : exec (.prefixLookup i) s =
      .next (setReq (incSat s R.PFX_LOOKUP_CNT) i (some { x with looked := true })) := by
    refine congrArg Host.Outcome.next ?_
    rw [hreq]
    dsimp only
    rw [if_neg (by simp [hlookup, hlooked, hst, hclass, hseq]), if_pos hnodes]
    rfl
  exact ⟨_, hexec, req_setReq .., rd_incSat s R.PFX_LOOKUP_CNT 0 0,
    sameBut_of_touches (setReq_touches rfl (incSat_touches rfl (Touches.refl _ s)))⟩

/-! ### The tenants' registers (R211, R221) -/

theorem burstWrite_fills {w : Writer} {v : Nat} {s : State} (hw : Writable s w 10 0) (hv : v < 2 ^ 31) :
    Ends (.burstWrite w v) s (fun t => rd t R.SERV_TEN_BURST 0 (rd s R.SERV_TEN_SEL) = v ∧
      (tget {} t.serv.budget (rd s R.SERV_TEN_SEL)).level = 16 * v ∧
      (tget {} t.serv.budget (rd s R.SERV_TEN_SEL)).time = s.now ∧ SameBut (.serving :: written 10) s t) := by
  let n := rd s R.SERV_TEN_SEL
  let s1 := wr s R.SERV_TEN_BURST v 0 n
  have hburst : rd s1 R.SERV_TEN_BURST 0 n = v := rd_wr_fit _ _ _ _ hv
  let b : Budget := { level := 16 * v, time := s.now, rest := 0 }
  have hx : Touches (maskOf (.serving :: written 10)) s (setBudget s1 n b) :=
    setBudget_touches rfl (wr_touches rfl (Touches.refl _ s))
  have hbudget : tget {} (setBudget s1 n b).serv.budget n = b := by
    have hmax : max (-(2 ^ 35)) b.level = b.level := by simp only [b]; omega
    unfold setBudget
    rw [hmax]
    exact tget_tset_same ..
  refine ends_of_taken (x := setBudget s1 n b) rfl hw ?_ rfl hx fun t hnote htouch => ⟨?_, ?_, ?_, sameBut_of_touches htouch⟩
  · dsimp only
    rw [show rd (wr s R.SERV_TEN_BURST v 0 (rd s R.SERV_TEN_SEL)) R.SERV_TEN_BURST 0 (rd s R.SERV_TEN_SEL) = v from hburst]
    rfl
  · rw [hnote.reads rfl]
    exact (rd_wr_ne (by decide) _ _ _ _ _ _).trans hburst
  · rw [hnote.same (c := .serving) rfl, hbudget]
  · rw [hnote.same (c := .serving) rfl, hbudget]

/-- A cleared tree leaves every register but the count of its nodes in use. -/
theorem rd_pfxClear {f : Fld} (hf : fldCode f ≠ fldCode R.PFX_TEN_USED) (s : State) (n j k : Nat) :
    rd (pfxClear s n) f j k = rd s f j k := by
  unfold pfxClear
  split
  · exact rd_wr_ne hf _ _ _ _ _ _
  · rw [rd_wr_ne hf, rd_memWrite]

/-- While the tenant has no open request its tree takes a base or a size, and is cleared (R221). -/
theorem pfxTenWrite_takes {w : Writer} {nodes : Bool} {f : Fld} (hf : f = if nodes then R.PFX_TEN_NODES else R.PFX_TEN_BASE)
    {v : Nat} {s : State} (hw : Writable s w 12 0)
    (hnone : (openReqs s).any (fun e => e.2.tenant = rd s R.PFX_TEN_SEL) = false) (hv : v < 2 ^ f.w)
    (halign : nodes = true ∨ v % 64 = 0) :
    Ends (.pfxTenWrite w nodes v) s (fun t => rd t f 0 (rd s R.PFX_TEN_SEL) = v ∧ t.serv = s.serv ∧ t.kv = s.kv) := by
  have hty : f.ty = 12 := by subst hf; cases nodes <;> rfl
  have hcode : fldCode f ≠ fldCode R.PFX_TEN_USED := by subst hf; cases nodes <;> decide
  have hx : Touches (maskOf (.bytes :: .memory :: written 12)) s
      (pfxClear (wr s f v 0 (rd s R.PFX_TEN_SEL)) (rd s R.PFX_TEN_SEL)) :=
    pfxClear_touches rfl (wr_touches (by rw [hty]; rfl) (Touches.refl _ s))
  refine ends_of_taken (x := pfxClear (wr s f v 0 (rd s R.PFX_TEN_SEL)) (rd s R.PFX_TEN_SEL)) rfl hw ?_ rfl hx
    fun t hnote htouch => ⟨?_, htouch.same (c := .serving) rfl, htouch.same (c := .kv) rfl⟩
  · dsimp only
    rw [if_neg (by rw [hnone]; exact Bool.false_ne_true), if_neg (by rcases halign with h | h <;> simp [h]), ← hf]
  · rw [hnote.reads (by rw [hty]; rfl), rd_pfxClear hcode]
    exact rd_wr_fit _ _ _ _ hv

theorem pfxTenWrite_busy {w : Writer} {v : Nat} {s : State} (hw : Writable s w 12 0)
    (hbusy : (openReqs s).any (fun e => e.2.tenant = rd s R.PFX_TEN_SEL) = true) :
    Ends (.pfxTenWrite w true v) s (fun t =>
      rd t R.PFX_TEN_NODES 0 (rd s R.PFX_TEN_SEL) = rd s R.PFX_TEN_NODES 0 (rd s R.PFX_TEN_SEL) ∧
      rd t (hErrStatus 12) 0 = statusValue .poolBusy ∧ SameBut (written 12) s t) :=
  ends_of_refused (m := maskOf (written 12)) (st := .poolBusy) rfl hw (if_pos hbusy) rfl rfl rfl
    fun _ hbody herr htouch => ⟨hbody _ rfl (by decide) (by decide) _ _, herr, sameBut_of_touches htouch⟩

/-- Settles O20, from the case of each command and write. -/
theorem sequencerWork : Obligations.SequencerWork :=
  ⟨fun _ _ _ hs hoff hv hspec => ⟨slotEnable_enables hs hoff hv hspec, slotEnable_refuses hs hoff hv hspec⟩,
    fun _ _ _ => slotEnable_disables, fun _ _ _ => servingLaunchPrepare_prepares, fun _ _ _ => servingLaunchPrepare_of_flight,
    fun _ _ _ => servingLaunchResult_acts, fun _ _ _ => servingLaunchResult_waits, fun _ _ _ => prefixLookup_misses,
    fun _ _ _ => burstWrite_fills,
    fun _ _ _ hw hnone => ⟨fun hv => pfxTenWrite_takes rfl hw hnone hv (.inl rfl),
      fun hv halign => pfxTenWrite_takes rfl hw hnone hv (.inr halign)⟩,
    fun _ _ _ => pfxTenWrite_busy⟩

end Sys2Proof.Proofs
end

section
/-!
Proofs for chapter 09: the set map, and extents as they are owned, released and scrubbed (R232, R238).
-/

namespace Sys2Proof.Proofs

open Sys2Proof Sys2Proof.Machine Sys2Proof.Safety Sys2Proof.Certificates Sys2Proof.Laws

/-! ### The set map (R232) -/

theorem memSetMapWrite_takes {w : Writer} {v : Nat} {s : State} (hw : Writable s w 3 0) (hv : v < 2 ^ 32)
    (hsets : ∀ p ∈ setList v, p.2 ∈ [1, 2, 4, 8, 16, 32]) (hpool : rd s R.KVPG_POOL_PAGES = 0)
    (hfree : ∀ e < extentCount s, rd s R.MEM_OWN_VALID 0 e ≠ 1 ∧ rd s R.MEM_OWN_SCRUBBING 0 e ≠ 1) :
    Ends (.memSetMapWrite w v) s (fun t => rd t R.MEM_SET_MAP = v ∧ SameBut (written 3) s t) := by
  have hlen : (setList v).any (fun p => !([1, 2, 4, 8, 16, 32].contains p.2)) = false := by
    rw [List.any_eq_false]
    intro p hp
    rw [List.contains_iff_mem.mpr (hsets p hp)]
    exact Bool.false_ne_true
  have hown : (List.range (extentCount s)).any (fun e => rd s R.MEM_OWN_VALID 0 e = 1 || rd s R.MEM_OWN_SCRUBBING 0 e = 1) =
      false := by
    rw [List.any_eq_false]
    intro e he
    obtain ⟨hvalid, hscrub⟩ := hfree e (List.mem_range.mp he)
    simp [hvalid, hscrub]
  refine ends_of_taken (m := maskOf (written 3)) (x := wr s R.MEM_SET_MAP v) rfl hw ?_ rfl (wr_touches rfl (Touches.refl _ s))
    fun t hnote htouch => ⟨?_, sameBut_of_touches htouch⟩
  · rw [hlen, hown, hpool, if_neg (by decide)]
  · rw [hnote.reads rfl]
    exact rd_wr_fit _ _ _ _ hv

theorem memSetMapWrite_refuses {w : Writer} {v : Nat} {s : State} {e : Nat} (hw : Writable s w 3 0) (he : e < extentCount s)
    (hvalid : rd s R.MEM_OWN_VALID 0 e = 1) :
    Ends (.memSetMapWrite w v) s (fun t => rd t R.MEM_SET_MAP = rd s R.MEM_SET_MAP ∧
      rd t (hErrStatus 3) 0 = statusValue .memConfig ∧ SameBut (written 3) s t) := by
  have hown : (List.range (extentCount s)).any (fun e => rd s R.MEM_OWN_VALID 0 e = 1 || rd s R.MEM_OWN_SCRUBBING 0 e = 1) =
      true := List.any_eq_true.mpr ⟨e, List.mem_range.mpr he, by simp [hvalid]⟩
  exact ends_of_refused (m := maskOf (written 3)) (st := .memConfig) rfl hw (if_pos (by rw [hown, Bool.or_true])) rfl rfl rfl
    fun t hbody herr htouch => ⟨hbody _ rfl (by decide) (by decide) 0 0, herr, sameBut_of_touches htouch⟩

/-! ### Extents (R238) -/

theorem extentOwn_takes {w : Writer} {v : Nat} {s : State} (hw : Writable s w 3 0)
    (hvalid : rd s R.MEM_OWN_VALID 0 (rd s R.MEM_OWN_SEL) = 0) (hscrub : rd s R.MEM_OWN_SCRUBBING 0 (rd s R.MEM_OWN_SEL) = 0)
    (hpresent : extentPresent s (rd s R.MEM_OWN_SEL) = true) (hten : tenActive s v = true) (hv : v < 256) :
    Ends (.extentOwn w v) s (fun t => rd t R.MEM_OWN_VALID 0 (rd s R.MEM_OWN_SEL) = 1 ∧
      rd t R.MEM_OWN_TENANT 0 (rd s R.MEM_OWN_SEL) = v ∧
      (∀ k, k ≠ rd s R.MEM_OWN_SEL → rd t R.MEM_OWN_VALID 0 k = rd s R.MEM_OWN_VALID 0 k) ∧ SameBut (written 3) s t) := by
  refine ends_of_taken (m := maskOf (written 3))
    (x := wr (wr s R.MEM_OWN_VALID 1 0 (rd s R.MEM_OWN_SEL)) R.MEM_OWN_TENANT v 0 (rd s R.MEM_OWN_SEL)) rfl hw ?_ rfl
    (wr_touches rfl (wr_touches rfl (Touches.refl _ s))) fun t hnote htouch => ⟨?_, ?_, fun k hk => ?_, sameBut_of_touches htouch⟩
  · exact if_pos (by simp [hvalid, hscrub, hpresent, hten])
  · rw [hnote.reads rfl, rd_wr_ne (by decide), rd_wr]
    rfl
  · rw [hnote.reads rfl]
    exact rd_wr_fit _ _ _ _ hv
  · rw [hnote.reads rfl, rd_wr_ne (by decide), rd_wr_inst _ (.inr hk)]

theorem extentOwn_refuses {w : Writer} {v : Nat} {s : State} (hw : Writable s w 3 0)
    (hvalid : rd s R.MEM_OWN_VALID 0 (rd s R.MEM_OWN_SEL) = 1) :
    Ends (.extentOwn w v) s (fun t =>
      rd t R.MEM_OWN_TENANT 0 (rd s R.MEM_OWN_SEL) = rd s R.MEM_OWN_TENANT 0 (rd s R.MEM_OWN_SEL) ∧
      rd t (hErrStatus 3) 0 = statusValue .memConfig ∧ SameBut (written 3) s t) :=
  ends_of_refused (m := maskOf (written 3)) (st := .memConfig) rfl hw (if_neg (by simp [hvalid])) rfl rfl rfl
    fun _ hbody herr htouch => ⟨hbody _ rfl (by decide) (by decide) _ _, herr, sameBut_of_touches htouch⟩

theorem extentRelease_scrubs {w : Writer} {s : State} (hw : Writable s w 3 0)
    (hvalid : rd s R.MEM_OWN_VALID 0 (rd s R.MEM_OWN_SEL) = 1) (hscrub : rd s R.MEM_OWN_SCRUBBING 0 (rd s R.MEM_OWN_SEL) = 0)
    (hused : extentUsed s (rd s R.MEM_OWN_SEL) = false) :
    Ends (.extentRelease w) s (fun t => rd t R.MEM_OWN_SCRUBBING 0 (rd s R.MEM_OWN_SEL) = 1 ∧
      rd t R.MEM_OWN_VALID 0 (rd s R.MEM_OWN_SEL) = 1 ∧ SameBut (written 3) s t) := by
  refine ends_of_taken (m := maskOf (written 3)) (x := wr s R.MEM_OWN_SCRUBBING 1 0 (rd s R.MEM_OWN_SEL)) rfl hw ?_ rfl
    (wr_touches rfl (Touches.refl _ s)) fun t hnote htouch => ⟨?_, ?_, sameBut_of_touches htouch⟩
  · exact if_pos (by simp [hvalid, hscrub, hused])
  · rw [hnote.reads rfl, rd_wr]
    rfl
  · rw [hnote.reads rfl, rd_wr_ne (by decide), hvalid]

theorem extentScrubDone_frees {e : Nat} {s : State} (hscrub : rd s R.MEM_OWN_SCRUBBING 0 e = 1)
    (hhand : s.sec.handedExtents.contains e = false) :
    Ends (.extentScrubDone e) s (fun t => rd t R.MEM_OWN_VALID 0 e = 0 ∧ rd t R.MEM_OWN_SCRUBBING 0 e = 0 ∧
      (∀ b, e * 2 ^ 26 ≤ b → b < (e + 1) * 2 ^ 26 → memByte t b = 0) ∧
      (∀ b, (b < e * 2 ^ 26 ∨ (e + 1) * 2 ^ 26 ≤ b) → memByte t b = memByte s b) ∧
      SameBut (pages [3] ++ [.bytes, .memory]) s t) := by
  have hexec : exec (.extentScrubDone e) s =
      .next (wr (wr (memZero s (e * 2 ^ 26) (2 ^ 26)) R.MEM_OWN_VALID 0 0 e) R.MEM_OWN_SCRUBBING 0 0 e) :=
    congrArg Host.Outcome.next (if_pos (by rw [hscrub, hhand]; rfl))
  have hbyte := memByte_memZero s (e * 2 ^ 26) (2 ^ 26)
  refine ⟨_, hexec, ?_, ?_, fun b hlo hhi => ?_, fun b hb => ?_, ?_⟩
  · rw [rd_wr_ne (by decide), rd_wr]
    rfl
  · rw [rd_wr]
    rfl
  · exact (hbyte b).trans (if_pos (by omega))
  · exact (hbyte b).trans (if_neg (by omega))
  · exact sameBut_of_touches (touches_of_next hexec
      (execExtentScrubDone_touches rfl (Touches.refl _ s) (Touches.refl _ s)))

theorem extentScrubDone_ignores {e : Nat} {s : State} (hscrub : rd s R.MEM_OWN_SCRUBBING 0 e = 0) :
    exec (.extentScrubDone e) s = .next s := congrArg Host.Outcome.next (if_neg (by simp [hscrub]))

/-- Settles O21, from the case of each write and of a scrub's end. -/
theorem extents : Obligations.Extents :=
  ⟨fun _ _ _ => memSetMapWrite_takes, fun _ _ _ _ => memSetMapWrite_refuses, fun _ _ _ => extentOwn_takes,
    fun _ _ _ => extentOwn_refuses, fun _ _ => extentRelease_scrubs, fun _ _ => extentScrubDone_frees,
    fun _ _ => extentScrubDone_ignores⟩

end Sys2Proof.Proofs
end

section
/-!
Proofs for chapter 09: training, re-reads, poison marks, refresh, package temperature and patrol (R234, R242 to R248).
-/

namespace Sys2Proof.Proofs

open Sys2Proof Sys2Proof.Machine Sys2Proof.Safety Sys2Proof.Certificates Sys2Proof.Laws

/-! ### Training (R234, R244) -/

/-- The failed channels of a controller, a bit for each. -/
def failedChannels (failed : List Nat) (m : Nat) : Nat :=
  (List.range 4).foldl (fun b c => b + (if failed.contains (4 * m + c) then 2 ^ c else 0)) 0

theorem failedChannels_eq (failed : List Nat) (m : Nat) : failedChannels failed m =
    0 + (if failed.contains (4 * m + 0) then 2 ^ 0 else 0) + (if failed.contains (4 * m + 1) then 2 ^ 1 else 0) +
      (if failed.contains (4 * m + 2) then 2 ^ 2 else 0) + (if failed.contains (4 * m + 3) then 2 ^ 3 else 0) := rfl

theorem failedChannels_lt (failed : List Nat) (m : Nat) : failedChannels failed m < 16 := by
  rw [failedChannels_eq]
  split <;> split <;> split <;> split <;> decide

theorem failedChannels_zero {failed : List Nat} {m : Nat} (h : ∀ c < 4, failed.contains (4 * m + c) = false) :
    failedChannels failed m = 0 := by
  rw [failedChannels_eq, h 0 (by decide), h 1 (by decide), h 2 (by decide), h 3 (by decide)]
  rfl

theorem failedChannels_ne_zero {failed : List Nat} {m c : Nat} (hc : c < 4) (h : failed.contains (4 * m + c) = true) :
    failedChannels failed m ≠ 0 := by
  intro h0
  rw [failedChannels_eq] at h0
  interval_cases c <;> rw [if_pos h] at h0 <;> omega

/-- The result of a controller's training stands in its registers, and a controller with a failed channel is off. -/
def ShowsTraining (failed : List Nat) (m : Nat) (s : State) : Prop :=
  rd s R.MEMC_STAT_TRAINED m = b2n (failedChannels failed m = 0) ∧ rd s R.MPHY_STAT_TRAINED m = 15 - failedChannels failed m ∧
  rd s R.MPHY_STAT_FAILED m = failedChannels failed m ∧
  (failedChannels failed m ≠ 0 → rd s R.MEMC_PART_DISABLED m = 1 ∧ dom s (340 + m) = 2)

theorem trainMemc_shows (failed : List Nat) (micros : Nat) (s : State) (m : Nat) :
    ShowsTraining failed m (trainMemc failed micros s m) := by
  have hlt := failedChannels_lt failed m
  unfold trainMemc
  rw [show ((List.range 4).foldl (fun b c => b + (if failed.contains (4 * m + c) then 2 ^ c else 0)) 0) =
    failedChannels failed m from rfl]
  extract_lets b s1 s2 s3
  have htrained : rd s2 R.MEMC_STAT_TRAINED m = b2n (failedChannels failed m = 0) := by
    simp only [s2]
    rw [rd_raiseIrq (by decide), rd_wr]
    cases decide (failedChannels failed m = 0) <;> rfl
  have hphy : rd s2 R.MPHY_STAT_TRAINED m = 15 - failedChannels failed m := by
    simp only [s2, s1]
    rw [rd_raiseIrq (by decide), rd_wr_ne (by decide), rd_wr_ne (by decide)]
    exact rd_wr_fit _ _ _ _ (show _ < 2 ^ 4 by omega)
  have hfailed : rd s2 R.MPHY_STAT_FAILED m = failedChannels failed m := by
    simp only [s2, s1]
    rw [rd_raiseIrq (by decide), rd_wr_ne (by decide), rd_wr_ne (by decide), rd_wr_ne (by decide)]
    exact rd_wr_fit _ _ _ _ (show _ < 2 ^ 4 from hlt)
  split
  · next h0 => exact ⟨htrained, hphy, hfailed, fun hne => absurd h0 hne⟩
  · refine ⟨?_, ?_, ?_, fun _ => ⟨?_, ?_⟩⟩
    · rw [rd_irqEvent _ _ _ _ _ _ rfl (by decide)]
      simp only [s3]
      rw [rd_setDom, rd_wr_ne (by decide), rd_wr_ne (by decide), htrained]
    · rw [rd_irqEvent _ _ _ _ _ _ rfl (by decide)]
      simp only [s3]
      rw [rd_setDom, rd_wr_ne (by decide), rd_wr_ne (by decide), hphy]
    · rw [rd_irqEvent _ _ _ _ _ _ rfl (by decide)]
      simp only [s3]
      rw [rd_setDom, rd_wr_ne (by decide), rd_wr_ne (by decide), hfailed]
    · rw [rd_irqEvent _ _ _ _ _ _ rfl (by decide)]
      simp only [s3]
      rw [rd_setDom, rd_wr_ne (by decide), rd_wr]
      rfl
    · unfold dom
      rw [irqEvent_pwr]
      exact dom_setDom ..

/-- The training of one controller leaves the registers and the domain of every other. -/
theorem trainMemc_keeps {failed : List Nat} {micros : Nat} {s : State} {m n : Nat} (h : m % 2 ^ 16 ≠ n % 2 ^ 16) :
    (∀ f : Fld, Nat.testBit 0x180000000060010 (32 + f.ty % 32) = false →
      rd (trainMemc failed micros s n) f m = rd s f m) ∧
    dom (trainMemc failed micros s n) (340 + m) = dom s (340 + m) := by
  unfold trainMemc
  extract_lets bad s1 s2 s3
  have hread : ∀ f : Fld, rd s2 f m = rd s f m := fun f => by
    simp only [s2, s1]
    rw [rd_raiseIrq_other h, rd_wr_other h, rd_wr_other h, rd_wr_other h, rd_wr_other h]
  have hdom : s2.pwr = s.pwr := by simp only [s2, raiseIrq_pwr]; rfl
  split
  · exact ⟨fun f _ => hread f, by unfold dom; rw [hdom]⟩
  · refine ⟨fun f hf => ?_, ?_⟩
    · rw [rd_irqEvent_other h _ _ _ _ _ hf]
      simp only [s3]
      rw [rd_setDom, rd_wr_other h, rd_wr_other h, hread f]
    · have hne : 340 + m ≠ 340 + n := by omega
      calc dom (irqEvent s3 3 n Irq.MEMC_TRAIN_FAIL 0 [bad]) (340 + m) = dom s3 (340 + m) := by unfold dom; rw [irqEvent_pwr]
        _ = dom s2 (340 + m) := dom_setDom_ne _ _ hne
        _ = dom s (340 + m) := by unfold dom; rw [hdom]

theorem ShowsTraining.of_keeps {failed : List Nat} {m : Nat} {s t : State} (h : ShowsTraining failed m s)
    (hrd : ∀ f : Fld, f.ty = 3 ∨ f.ty = 4 → rd t f m = rd s f m) (hdom : dom t (340 + m) = dom s (340 + m)) :
    ShowsTraining failed m t := by
  obtain ⟨htrained, hphy, hfailed, hoff⟩ := h
  refine ⟨?_, ?_, ?_, fun hne => ⟨?_, ?_⟩⟩
  · rw [hrd _ (.inl rfl), htrained]
  · rw [hrd _ (.inr rfl), hphy]
  · rw [hrd _ (.inr rfl), hfailed]
  · rw [hrd _ (.inl rfl), (hoff hne).1]
  · rw [hdom, (hoff hne).2]

theorem memoryTrainingDone_shows {failed : List Nat} {micros : Nat} {s : State} (hstage : rd s R.BOOT_STAT_STAGE = 6)
    (hcold : s.boot.cold = true) :
    Ends (.memoryTrainingDone failed micros) s (fun t => rd t R.BOOT_STAT_STAGE = 7 ∧
      (∀ m < 32, (∀ c < 4, failed.contains (4 * m + c) = false) →
        rd t R.MEMC_STAT_TRAINED m = 1 ∧ rd t R.MPHY_STAT_TRAINED m = 15 ∧ rd t R.MPHY_STAT_FAILED m = 0) ∧
      (∀ m < 32, ∀ c < 4, failed.contains (4 * m + c) = true →
        rd t R.MEMC_STAT_TRAINED m = 0 ∧ rd t R.MEMC_PART_DISABLED m = 1 ∧ dom t (340 + m) = 2) ∧
      SameBut (recorded ++ pages [3, 4, 26] ++ [.power]) s t) := by
  let s1 := (List.range 32).foldl (trainMemc failed micros) s
  let t := wr (wr s1 R.BOOT_VARIANT_USABLE_GIB (usableGib s1)) R.BOOT_STAT_STAGE 7
  have hexec : exec (.memoryTrainingDone failed micros) s = .next t :=
    congrArg Host.Outcome.next (if_pos (by rw [hstage, hcold]; rfl))
  have hshows : ∀ m < 32, ShowsTraining failed m t := fun m hm => by
    have h1 : ShowsTraining failed m s1 :=
      foldl_reaches (P := ShowsTraining failed m) (List.mem_range.mpr hm) (fun u => trainMemc_shows failed micros u m)
        (fun u n hn hu => by
          by_cases hmn : n = m
          · subst hmn
            exact trainMemc_shows failed micros u n
          · have hne : m % 2 ^ 16 ≠ n % 2 ^ 16 := by
              have := List.mem_range.mp hn
              omega
            obtain ⟨hrd, hdom⟩ := trainMemc_keeps (failed := failed) (micros := micros) (s := u) hne
            exact hu.of_keeps (fun f hf => hrd f (by rcases hf with h | h <;> rw [h] <;> rfl)) hdom) s
    refine h1.of_keeps (fun f hf => ?_) rfl
    have hcode : ∀ g : Fld, g.ty = 26 → fldCode f ≠ fldCode g := fun g hg => by
      unfold fldCode
      omega
    simp only [t]
    rw [rd_wr_ne (hcode _ rfl), rd_wr_ne (hcode _ rfl)]
  refine ⟨t, hexec, ?_, fun m hm hgood => ?_, fun m hm c hc hbad => ?_, ?_⟩
  · simp only [t]
    rw [rd_wr]
    rfl
  · obtain ⟨htrained, hphy, hfailed, -⟩ := hshows m hm
    rw [failedChannels_zero hgood] at htrained hphy hfailed
    exact ⟨htrained, hphy, hfailed⟩
  · have hne := failedChannels_ne_zero hc hbad
    obtain ⟨htrained, -, -, hoff⟩ := hshows m hm
    rw [decide_eq_false hne] at htrained
    exact ⟨htrained, hoff hne⟩
  · exact sameBut_of_touches (touches_of_next hexec
      (execMemoryTrainingDone_touches rfl (Touches.refl _ s) (Touches.refl _ s)))

/-! ### Re-reads (R246, R247) -/

/-- What a launch has retried is its own note: the registers and the memory controllers stay. -/
def noteRetry (s : State) (who : Consumer) : State :=
  match who with
  | .launch p _ => modRunning s p (fun x => { x with retries := x.retries + 1 })
  | _ => s

theorem noteRetry_mem (s : State) (who : Consumer) : (noteRetry s who).mem = s.mem := by
  cases who <;> rfl

theorem rd_noteRetry (s : State) (who : Consumer) (f : Fld) (i k : Nat) : rd (noteRetry s who) f i k = rd s f i k := by
  cases who <;> rfl

/-- Poisoned data leaves the awaited re-reads, and its unit carries a mark or awaits one (R246). -/
theorem poisonData_mem (s : State) (a : Nat) : (poisonData s a).mem =
    if poisonUnit s (a / 64) then s.mem else { s.mem with awaiting := s.mem.awaiting ++ [a / 64] } := by
  unfold poisonData
  extract_lets m s1 s2 s3
  have hmem : s3.mem = s.mem := by
    simp only [s3, s2, s1, statusEvent, recordEvent_mem, raiseIrq_mem]
    rfl
  have hunit : poisonUnit s3 (a / 64) = poisonUnit s (a / 64) := by unfold poisonUnit; rw [hmem]
  rw [hunit]
  split
  · exact hmem
  · exact congrArg (fun x : Mem => { x with awaiting := x.awaiting ++ [a / 64] }) hmem

theorem poisonData_rereads (s : State) (a : Nat) : (poisonData s a).mem.rereads = s.mem.rereads := by
  rw [poisonData_mem]
  split <;> rfl

theorem poisonData_poisons (s : State) (a : Nat) : poisonUnit (poisonData s a) (a / 64) = true := by
  unfold poisonUnit
  rw [poisonData_mem]
  split
  · assumption
  · simp

/-- The memory controllers' own state with an awaited re-read taken away. -/
def dropReRead (s : State) (a : Nat) (who : Consumer) : State :=
  { s with mem := { s.mem with rereads := s.mem.rereads.filter (fun x => !(x.addr = a && x.who = who)) } }

/-- A re-read counts its try, and then goes by what it brought. -/
theorem eccReRead_of_found {a : Nat} {who : Consumer} {clean : Bool} {r : ReRead} {s : State}
    (hr : s.mem.rereads.find? (fun r => r.addr = a && r.who = who) = some r) :
    ∃ o o', exec (.eccReRead a who clean) s = .next (
      let m := memcOf s a
      let u := noteRetry (incSat s R.MEMC_RETRY_CNT m) who
      if clean then
        irqEvent (noteMemErr (dropReRead u a who) a o 1) 3 m Irq.MEMC_RETRIED o' [a, r.tries + 1]
      else if rd u R.MEMC_ECC_CTL m ≤ r.tries + 1 then
        poisonData (recordEvent (dropReRead u a who) 3 m (0x8000 + Irq.MEMC_RETRIED) 1 o [a, r.tries + 1]) a
      else
        let v := dropReRead u a who
        { v with mem := { v.mem with rereads := { r with tries := r.tries + 1 } :: v.mem.rereads } }) := by
  let u := noteRetry (incSat s R.MEMC_RETRY_CNT (memcOf s a)) who
  refine ⟨unitOwner u a, unitOwner (noteMemErr (dropReRead u a who) a (unitOwner u a) 1) a, congrArg Host.Outcome.next ?_⟩
  rw [hr]
  rfl

section
variable {a : Nat} {who : Consumer} {r : ReRead} {s : State}
  (hr : s.mem.rereads.find? (fun r => r.addr = a && r.who = who) = some r)

theorem eccReRead_sameBut {clean : Bool} {t : State} (h : exec (.eccReRead a who clean) s = .next t) :
    SameBut (recorded ++ pages [3] ++ [.memory, .parts]) s t :=
  sameBut_of_touches (touches_of_next h (execEccReRead_touches rfl (Touches.refl _ s) (Touches.refl _ s)))

include hr

theorem eccReRead_clean :
    Ends (.eccReRead a who true) s (fun t =>
      t.mem.rereads = s.mem.rereads.filter (fun x => !(x.addr = a && x.who = who)) ∧ t.mem.poison = s.mem.poison ∧
      rd t R.MEMC_RETRY_CNT (memcOf s a) = min (rd s R.MEMC_RETRY_CNT (memcOf s a) + 1) (2 ^ 32 - 1) ∧
      SameBut (recorded ++ pages [3] ++ [.memory, .parts]) s t) := by
  obtain ⟨o, o', hexec⟩ := eccReRead_of_found (clean := true) hr
  replace hexec := hexec.trans (congrArg Host.Outcome.next (if_pos rfl))
  let u := noteRetry (incSat s R.MEMC_RETRY_CNT (memcOf s a)) who
  have hmem : (noteMemErr (dropReRead u a who) a o 1).mem = (dropReRead s a who).mem := by
    change (dropReRead u a who).mem = _
    unfold dropReRead
    rw [noteRetry_mem]
    rfl
  refine ⟨_, hexec, ?_, ?_, ?_, eccReRead_sameBut hexec⟩
  · rw [irqEvent_mem, hmem]
    rfl
  · rw [irqEvent_mem, hmem]
    rfl
  · rw [rd_irqEvent _ _ _ _ _ _ rfl (by decide)]
    unfold noteMemErr
    rw [rd_wr_ne (by decide), rd_wr_ne (by decide), rd_wr_ne (by decide), rd_wr_ne (by decide)]
    exact (rd_noteRetry _ _ _ _ _).trans (rd_incSat s R.MEMC_RETRY_CNT _ 0)

theorem eccReRead_poisons (hlast : rd s R.MEMC_ECC_CTL (memcOf s a) ≤ r.tries + 1) :
    Ends (.eccReRead a who false) s (fun t =>
      t.mem.rereads = s.mem.rereads.filter (fun x => !(x.addr = a && x.who = who)) ∧ poisonUnit t (a / 64) = true ∧
      SameBut (recorded ++ pages [3] ++ [.memory, .parts]) s t) := by
  obtain ⟨o, o', hexec⟩ := eccReRead_of_found (clean := false) hr
  let u := noteRetry (incSat s R.MEMC_RETRY_CNT (memcOf s a)) who
  have hctl : rd u R.MEMC_ECC_CTL (memcOf s a) = rd s R.MEMC_ECC_CTL (memcOf s a) :=
    (rd_noteRetry _ _ _ _ _).trans (rd_incSat_ne (by decide) _ _ _ _ _)
  replace hexec := hexec.trans (congrArg Host.Outcome.next ((if_neg Bool.false_ne_true).trans (if_pos (by rw [hctl]; exact hlast))))
  refine ⟨_, hexec, ?_, poisonData_poisons _ _, eccReRead_sameBut hexec⟩
  rw [poisonData_rereads, recordEvent_mem]
  unfold dropReRead
  rw [noteRetry_mem]
  rfl

theorem eccReRead_tries (hmore : r.tries + 1 < rd s R.MEMC_ECC_CTL (memcOf s a)) :
    Ends (.eccReRead a who false) s (fun t =>
      t.mem.rereads = { r with tries := r.tries + 1 } :: s.mem.rereads.filter (fun x => !(x.addr = a && x.who = who)) ∧
      t.mem.poison = s.mem.poison ∧ t.mem.awaiting = s.mem.awaiting) := by
  obtain ⟨o, o', hexec⟩ := eccReRead_of_found (clean := false) hr
  let u := noteRetry (incSat s R.MEMC_RETRY_CNT (memcOf s a)) who
  have hctl : rd u R.MEMC_ECC_CTL (memcOf s a) = rd s R.MEMC_ECC_CTL (memcOf s a) :=
    (rd_noteRetry _ _ _ _ _).trans (rd_incSat_ne (by decide) _ _ _ _ _)
  replace hexec := hexec.trans
    (congrArg Host.Outcome.next ((if_neg Bool.false_ne_true).trans (if_neg (by rw [hctl]; omega))))
  have hmem : (dropReRead u a who).mem = (dropReRead s a who).mem := by
    unfold dropReRead
    rw [noteRetry_mem]
    rfl
  have hrest := congrArg (fun x : Mem => { r with tries := r.tries + 1 } :: x.rereads) hmem
  have hpoison := congrArg Mem.poison hmem
  have hawait := congrArg Mem.awaiting hmem
  exact ⟨_, hexec, hrest, hpoison, hawait⟩

end

/-! ### Poison marks, refresh, temperature and patrol (R242, R243, R246, R248) -/

theorem poisonMarkWrite_marks {n : Nat} {s : State} (h : s.mem.awaiting.contains n = true) :
    Ends (.poisonMarkWrite n) s (fun t => n ∈ t.mem.poison ∧ t.mem.awaiting = s.mem.awaiting.erase n ∧
      SameBut [.memory] s t) := by
  have hexec : exec (.poisonMarkWrite n) s = .next { s with mem := { s.mem with
      awaiting := s.mem.awaiting.erase n, poison := (n :: s.mem.poison).eraseDups } } := congrArg Host.Outcome.next (if_pos h)
  refine ⟨_, hexec, List.mem_eraseDups.mpr List.mem_cons_self, rfl, sameBut_of_touches (touches_of_next hexec
    (execPoisonMarkWrite_touches rfl (Touches.refl _ s) (Touches.refl _ s)))⟩

theorem owedOf_setOwed_ne (s : State) {m c d : Nat} (v : Int) (h : d ≠ c) : owedOf (setOwed s m c v) m d = owedOf s m d :=
  tget_tset_ne _ _ (by omega) _ _

theorem refreshDue_of_free {m c : Nat} {s : State} (hfree : rd s R.MEMC_STAT_HELD m = 0) :
    Ends (.refreshDue m c) s (fun t => owedOf t m c = min (min 8 (owedOf s m c + 1)) 0 ∧
      (∀ d, d < 4 → d ≠ c → owedOf t m d = owedOf s m d) ∧ SameBut (pages [3] ++ [.memory]) s t) :=
  ⟨_, congrArg Host.Outcome.next (if_pos hfree), owedOf_setOwed .., fun _ _ hd => owedOf_setOwed_ne _ _ hd,
    sameBut_of_touches (setOwed_touches rfl (Touches.refl _ s))⟩

/-- Without room for a refresh before the next plan entry a held channel owes one more. -/
theorem refreshDue_of_held {m c : Nat} {s : State} (hheld : rd s R.MEMC_STAT_HELD m ≠ 0) (hgap : heldGap s m c < 360) :
    Ends (.refreshDue m c) s (fun t => owedOf t m c = min 8 (owedOf s m c + 1) ∧ SameBut (pages [3] ++ [.memory]) s t) := by
  refine ⟨_, congrArg Host.Outcome.next (if_neg hheld), ?_, sameBut_of_touches (setOwed_touches rfl (Touches.refl _ s))⟩
  rw [owedOf_setOwed, Nat.div_eq_of_lt hgap]
  omega

theorem packageTempRead_shows {m : Nat} {x : Int} {rate : Nat} {s : State} (hrate : rate < 8) :
    Ends (.packageTempRead m x rate) s (fun t => rd t R.MPHY_TEMP_RATE_CLASS m = rate ∧
      rd t R.MPHY_TEMP_TEMP m = codeInt 8 x % 2 ^ 8 ∧ rd t R.MEMC_STAT_HOT m = (if 0 < rate then 1 else 0) ∧
      SameBut (recorded ++ pages [3, 4] ++ [.power]) s t) := by
  let s1 := wr (wr s R.MPHY_TEMP_TEMP (codeInt 8 x) m) R.MPHY_TEMP_RATE_CLASS rate m
  let s2 := coolCheck (metricSample s1 (17 + m) x)
  have h2 : Touches 0x30 s1 s2 := coolCheck_touches rfl (metricSample_touches rfl (Touches.refl _ s1))
  have hclass : rd s2 R.MPHY_TEMP_RATE_CLASS m = rate :=
    (h2.reads rfl).trans (rd_wr_fit _ R.MPHY_TEMP_RATE_CLASS m 0 (show rate < 2 ^ 3 from hrate))
  have htemp : rd s2 R.MPHY_TEMP_TEMP m = codeInt 8 x % 2 ^ 8 :=
    (h2.reads rfl).trans ((rd_wr_ne (by decide) _ _ _ _ _ _).trans (rd_wr ..))
  have hexec : ∃ t, exec (.packageTempRead m x rate) s = .next t ∧ rd t R.MPHY_TEMP_RATE_CLASS m = rate ∧
      rd t R.MPHY_TEMP_TEMP m = codeInt 8 x % 2 ^ 8 ∧ rd t R.MEMC_STAT_HOT m = (if 0 < rate then 1 else 0) := by
    by_cases hpos : 0 < rate
    · by_cases hhot : rd s2 R.MEMC_STAT_HOT m = 1
      · exact ⟨s2, congrArg Host.Outcome.next ((if_pos hpos).trans (if_pos hhot)), hclass, htemp, hhot.trans (if_pos hpos).symm⟩
      · refine ⟨_, congrArg Host.Outcome.next ((if_pos hpos).trans (if_neg hhot)), ?_, ?_, ?_⟩
        · rw [rd_irqEvent _ _ _ _ _ _ rfl (by decide), rd_wr_ne (by decide)]
          exact hclass
        · rw [rd_irqEvent _ _ _ _ _ _ rfl (by decide), rd_wr_ne (by decide)]
          exact htemp
        · rw [rd_irqEvent _ _ _ _ _ _ rfl (by decide), rd_wr, if_pos hpos]
          rfl
    · refine ⟨_, congrArg Host.Outcome.next (if_neg hpos), ?_, ?_, ?_⟩
      · rw [rd_wr_ne (by decide)]
        exact hclass
      · rw [rd_wr_ne (by decide)]
        exact htemp
      · rw [rd_wr, if_neg hpos]
        rfl
  obtain ⟨t, ht, hshow⟩ := hexec
  exact ⟨t, ht, hshow.1, hshow.2.1, hshow.2.2, sameBut_of_touches (touches_of_next ht
    (execPackageTempRead_touches rfl (Touches.refl _ s) (Touches.refl _ s)))⟩

/-- A clean pass that is not late restarts its clock at its end. -/
theorem patrolScrub_of_clean {m : Nat} {s : State} (h : patrolLate s m = false) :
    exec (.patrolScrub m {} false) s = .next s ∧
    Ends (.patrolScrub m {} true) s (fun t => tget 0 t.mem.patrol m = s.now ∧ t.mem.lagged = s.mem.lagged.erase m ∧
      SameBut [.memory] s t) := by
  have hnote : notePatrol s m = s := by
    unfold notePatrol
    rw [h, if_neg Bool.false_ne_true]
  have hgo : ∀ done, exec (.patrolScrub m {} done) s = .next (if done then endPatrol (notePatrol s m) m else notePatrol s m) :=
    fun _ => rfl
  have hend := hgo true
  rw [hnote, if_pos rfl] at hend
  refine ⟨?_, _, hend, tget_tset_same 0 m s.now s.mem.patrol, rfl, sameBut_of_touches (endPatrol_touches rfl (Touches.refl _ s))⟩
  rw [hgo, hnote, if_neg Bool.false_ne_true]

/-- Settles O22, from the case of each command. -/
theorem memoryUpkeep : Obligations.MemoryUpkeep :=
  ⟨fun _ _ _ => memoryTrainingDone_shows, fun _ _ _ _ => eccReRead_clean, fun _ _ _ _ => eccReRead_poisons,
    fun _ _ _ _ => eccReRead_tries, fun _ _ => poisonMarkWrite_marks, fun _ _ _ _ => refreshDue_of_free,
    fun _ _ _ _ => refreshDue_of_held, fun _ _ _ _ => packageTempRead_shows, fun _ _ => patrolScrub_of_clean⟩

end Sys2Proof.Proofs
end

section
/-!
Proofs for chapter 09: the host window (R230, R246, R249, R254).
-/

namespace Sys2Proof.Proofs

open Sys2Proof Sys2Proof.Machine Sys2Proof.Safety Sys2Proof.Certificates Sys2Proof.Laws

/-- A range without poison takes every byte of a write. -/
theorem takesByte_of_clean {s : State} {a n j : Nat} (h : rangePoison s a n = false) (hj : j < n) : TakesByte s a n j := by
  have hunit : poisonUnit s ((a + j) / 64) = false := by
    by_contra hp
    rw [Bool.not_eq_false, poisonUnit, Bool.or_eq_true, List.contains_iff_mem, List.contains_iff_mem, ← List.mem_append] at hp
    have hin : (decide (0 < n) && decide (a / 64 ≤ (a + j) / 64) && decide (64 * ((a + j) / 64) < a + n)) = true := by
      simp only [Bool.and_eq_true, decide_eq_true_eq]
      omega
    unfold rangePoison at h
    rw [List.any_eq_false] at h
    exact h _ hp hin
  unfold TakesByte
  rw [hunit, Bool.false_and]

theorem hostWindowWrite_writes {fn off : Nat} {data : List Byte} {s : State} (hhit : windowHit s fn off data.length = true)
    (hserved : windowServed s fn off data.length = true)
    (hrec : meets (windowAddr s fn off) data.length (rd s R.KVPG_SEQ_BASE) (2 ^ 22) = false)
    (hwait : waitsReRead s (.window fn) = false) (hclean : rangePoison s (windowAddr s fn off) data.length = false) :
    Ends (.hostWindowWrite fn off data {}) s (fun t =>
      memBytes t (windowAddr s fn off) data.length = data ∧
      (∀ b, (b < windowAddr s fn off ∨ windowAddr s fn off + data.length ≤ b) → memByte t b = memByte s b) ∧
      SameBut [.bytes, .memory] s t) := by
  have hexec : exec (.hostWindowWrite fn off data {}) s = .next (memWrite s (windowAddr s fn off) data) := by
    refine congrArg Host.Outcome.next ?_
    dsimp only
    rw [if_neg (by rw [hhit]; exact Bool.false_ne_true), if_neg (by rw [hserved, hrec]; exact Bool.false_ne_true)]
    exact if_neg (by rw [show readFails s (.window fn) {} = s from rfl, hwait]; exact Bool.false_ne_true)
  exact ⟨_, hexec, memBytes_memWrite s _ data fun j hj => takesByte_of_clean hclean hj,
    fun b hb => memByte_memWrite_outside s _ b data hb, sameBut_of_touches (memWrite_touches rfl rfl (Touches.refl _ s))⟩

theorem hostWindowWrite_denied {fn off : Nat} {data : List Byte} {e : MemEnv} {s : State}
    (hhit : windowHit s fn off data.length = true)
    (hdeny : windowServed s fn off data.length = false ∨
      meets (windowAddr s fn off) data.length (rd s R.KVPG_SEQ_BASE) (2 ^ 22) = true) :
    Ends (.hostWindowWrite fn off data e) s (fun t => rd t R.MEM_WIN_DENY = min (rd s R.MEM_WIN_DENY + 1) (2 ^ 32 - 1) ∧
      t.out = s.out ∧ SameBut [.page 3] s t) := by
  have hexec : exec (.hostWindowWrite fn off data e) s = .next (incSat s R.MEM_WIN_DENY) := by
    refine congrArg Host.Outcome.next ?_
    dsimp only
    rw [if_neg (by rw [hhit]; exact Bool.false_ne_true), if_pos (by rcases hdeny with h | h <;> rw [h] <;> simp)]
  exact ⟨_, hexec, rd_incSat s R.MEM_WIN_DENY 0 0, rfl, sameBut_of_touches (incSat_touches rfl (Touches.refl _ s))⟩

theorem hostWindowRead_answers {fn off n : Nat} {s : State} (hhit : windowHit s fn off n = true)
    (hserved : windowServed s fn off n = true) (hwait : waitsReRead s (.window fn) = false) :
    Ends (.hostWindowRead fn off n {}) s (fun t =>
      t.out = .window fn (memBytes s (windowAddr s fn off) n) (rangePoison s (windowAddr s fn off) n) :: s.out ∧
      SameBut [.out] s t) := by
  have hexec : exec (.hostWindowRead fn off n {}) s =
      .next (emit s (.window fn (memBytes s (windowAddr s fn off) n) (rangePoison s (windowAddr s fn off) n))) := by
    refine congrArg Host.Outcome.next ?_
    rw [if_neg (by rw [hhit]; exact Bool.false_ne_true), if_neg (by rw [hserved]; exact Bool.false_ne_true)]
    exact if_neg (by rw [show readFails s (.window fn) {} = s from rfl, hwait]; exact Bool.false_ne_true)
  exact ⟨_, hexec, rfl, sameBut_of_touches (emit_touches rfl (Touches.refl _ s))⟩

theorem hostWindowRead_denied {fn off n : Nat} {e : MemEnv} {s : State} (hhit : windowHit s fn off n = true)
    (hserved : windowServed s fn off n = false) :
    Ends (.hostWindowRead fn off n e) s (fun t => t.out = .window fn (List.replicate n 0xFF) false :: s.out ∧
      rd t R.MEM_WIN_DENY = min (rd s R.MEM_WIN_DENY + 1) (2 ^ 32 - 1) ∧ SameBut [.page 3, .out] s t) := by
  have hexec : exec (.hostWindowRead fn off n e) s =
      .next (emit (incSat s R.MEM_WIN_DENY) (.window fn (List.replicate n 0xFF) false)) := by
    refine congrArg Host.Outcome.next ?_
    rw [if_neg (by rw [hhit]; exact Bool.false_ne_true), if_pos (by rw [hserved]; rfl)]
  exact ⟨_, hexec, rfl, rd_incSat s R.MEM_WIN_DENY 0 0,
    sameBut_of_touches (emit_touches rfl (incSat_touches rfl (Touches.refl _ s)))⟩

theorem hostWindow_missed {fn off : Nat} {data : List Byte} {e : MemEnv} {s : State}
    (h : windowHit s fn off data.length = false) :
    exec (.hostWindowWrite fn off data e) s = .next s ∧ exec (.hostWindowRead fn off data.length e) s = .next s :=
  ⟨congrArg Host.Outcome.next (if_pos (by rw [h]; rfl)), congrArg Host.Outcome.next (if_pos (by rw [h]; rfl))⟩

/-- Settles O23, by the branches of the two accesses. -/
theorem hostWindow : Obligations.HostWindow :=
  ⟨fun _ _ _ _ => hostWindowWrite_writes, fun _ _ _ _ _ => hostWindowWrite_denied, fun _ _ _ _ => hostWindowRead_answers,
    fun _ _ _ _ _ => hostWindowRead_denied, fun _ _ _ _ _ => hostWindow_missed⟩

end Sys2Proof.Proofs
end

section
/-!
Proofs for chapter 10, a layer: what commands, completions and transfers leave alone of the host port. They change its queues, its
engines and its streams; the functions, the IDE streams and the link's own state stay.
-/

namespace Sys2Proof.Proofs

open Sys2Proof Sys2Proof.Machine Sys2Proof.Safety Sys2Proof.Certificates Sys2Proof.Laws

/-- The host port beside its queues, engines and streams is the same in both. -/
def KeepsPort (s t : State) : Prop :=
  ({ t.host with queues := [], engines := [], streams := [] } : HostPort) = { s.host with queues := [], engines := [], streams := [] }

namespace KeepsPort

variable {s t u : State}

theorem refl (s : State) : KeepsPort s s := rfl

theorem trans (h : KeepsPort s t) (k : KeepsPort t u) : KeepsPort s u := Eq.trans k h

theorem of_host (h : t.host = s.host) : KeepsPort s t := by
  unfold KeepsPort
  rw [h]

theorem of_touches {m : Nat} (h : Touches m s t) (hb : m.testBit 10 = false) : KeepsPort s t := of_host (h.same (c := .host) hb)

theorem ite {c : Prop} [Decidable c] (ht : KeepsPort s t) (hu : KeepsPort s u) : KeepsPort s (if c then t else u) := by
  split <;> assumption

theorem foldl {α : Type} {f : State → α → State} (hf : ∀ u x, KeepsPort u (f u x)) (l : List α) (s : State) :
    KeepsPort s (l.foldl f s) :=
  List.foldlRecOn l f (motive := KeepsPort s) (refl s) fun _ h x _ => h.trans (hf _ x)

theorem beside (h : KeepsPort s t) : ({ t.host with queues := [], engines := [], streams := [] } : HostPort) =
    { s.host with queues := [], engines := [], streams := [] } := h
theorem fns (h : KeepsPort s t) : t.host.fns = s.host.fns := by
  have hf := congrArg HostPort.fns h.beside
  exact hf
theorem ide (h : KeepsPort s t) : t.host.ide = s.host.ide := by
  have hf := congrArg HostPort.ide h.beside
  exact hf
theorem perst (h : KeepsPort s t) : t.host.perst = s.host.perst := by
  have hf := congrArg HostPort.perst h.beside
  exact hf
theorem inReset (h : KeepsPort s t) : t.host.inReset = s.host.inReset := by
  have hf := congrArg HostPort.inReset h.beside
  exact hf
theorem refclk (h : KeepsPort s t) : t.host.refclk = s.host.refclk := by
  have hf := congrArg HostPort.refclk h.beside
  exact hf

end KeepsPort

/-! ### Queues and completions (R275, R284, R288) -/

theorem setQueue_keepsPort (s : State) (q : Nat) (x : Queue) : KeepsPort s (setQueue s q x) := rfl

theorem setEngine_keepsPort (s : State) (e : Nat) (l : List Xfer) : KeepsPort s (setEngine s e l) := rfl

theorem towardsHost_keepsPort (s : State) (tenant kind q a tagAddr : Nat) (bs : List Byte) :
    KeepsPort s (towardsHost s tenant kind q a tagAddr bs) := by
  unfold towardsHost
  extract_lets w c
  exact .ite (.ite (.of_host rfl) rfl) (.of_host rfl)

theorem postNow_keepsPort (s : State) (q : Nat) (c : Cpl) : KeepsPort s (postNow s q c) := by
  unfold postNow
  extract_lets t n x s1 t' s2 s3
  have h2 : KeepsPort s s2 := (towardsHost_keepsPort ..).trans (.of_host rfl)
  have h3 : KeepsPort s s3 := .ite (h2.trans (setQueue_keepsPort ..)) h2
  exact .ite (h3.trans (.of_host rfl)) h3

theorem postCpl_keepsPort (s : State) (q : Nat) (c : Cpl) : KeepsPort s (postCpl s q c) := by
  unfold postCpl
  refine .ite ?_ (postNow_keepsPort ..)
  exact (KeepsPort.trans (t := setQueue s q { queue s q with held := (queue s q).held ++ [c] }) rfl
    (.of_touches (queueIrq_touches (mm := 0x800020000040000) rfl (wr_touches rfl (Touches.refl _ _))) rfl))

theorem haltIf_keepsPort (s : State) (q : Nat) (st : Status) (cid : Nat) : KeepsPort s (haltIf s q st cid) :=
  .of_touches (haltIf_touches (mm := 0x800020000040000) rfl (Touches.refl _ _)) rfl

theorem settle_keepsPort (n : Nat) (s : State) (w : List SigWork) : KeepsPort s (settle n s w) := by
  induction n generalizing s w with
  | zero => exact .refl s
  | succ n ih =>
    rcases w with _ | ⟨⟨t, c, set, v⟩ | ⟨q, c⟩, w⟩
    · exact .refl s
    · rw [settle]
      split
      · exact KeepsPort.trans (.of_host (by rw [raiseIrq_host]; rfl)) (ih _ _)
      · extract_lets old s1 s2 met done s3
        have h1 : KeepsPort s s1 := .of_host rfl
        have hbar : Touches 0x400000040800 s1 s2 := barrierThreshold_touches rfl (Touches.refl _ s1)
        have h2 : KeepsPort s s2 := h1.trans (.of_touches hbar rfl)
        have h3 : KeepsPort s s3 := h2.trans (.foldl (f := fun s (e : Nat × Queue) => setQueue s e.1 { queue s e.1 with run := none })
          (fun u e => setQueue_keepsPort ..) met s2)
        exact h3.trans (ih s3 (done ++ w))
    · rw [settle]
      exact ((postCpl_keepsPort s q c).trans (haltIf_keepsPort ..)).trans (ih _ _)

theorem settleAll_keepsPort (s : State) (w : List SigWork) : KeepsPort s (settleAll s w) := settle_keepsPort ..

theorem disableQueue_keepsPort (s : State) (q : Nat) : KeepsPort s (disableQueue s q) := rfl

theorem finishCmd_keepsPort (s : State) (q : Nat) (st : Status) (result flags : Nat) :
    KeepsPort s (finishCmd s q st result flags) := by
  unfold finishCmd
  split
  · exact .refl s
  · refine .ite (disableQueue_keepsPort ..) ?_
    extract_lets s1 near s2
    have h1 : KeepsPort s s1 := .ite (.of_host rfl) (.refl s)
    exact (h1.trans (setQueue_keepsPort ..)).trans (settleAll_keepsPort ..)

/-! ### Transfers (R260 to R268) -/

theorem hostWrite_keepsPort (s : State) (a : Nat) (bs : List Byte) : KeepsPort s (hostWrite s a bs) := .of_host rfl

theorem memWrite_keepsPort (s : State) (a : Nat) (bs : List Byte) : KeepsPort s (memWrite s a bs) := .of_host rfl

theorem setStream_keepsPort (s : State) (tenant word c : Nat) : KeepsPort s (setStream s tenant word c) := rfl

theorem sealedOut_keepsPort (x : Xfer) (s : State) (i : Nat) : KeepsPort s (sealedOut s x i) := by
  unfold sealedOut
  extract_lets w c n
  exact .ite (.refl s) rfl

theorem moveBytes_keepsPort (s : State) (e : Nat) (x : Xfer) (n : Nat) (data : List Byte) : KeepsPort s (moveBytes s e x n data).1 := by
  unfold moveBytes
  split
  · exact .of_host rfl
  · split
    · extract_lets ps s1
      have h1 : KeepsPort s s1 := .ite (.foldl (fun u i => sealedOut_keepsPort _ u i) _ s) (.foldl (fun u p => hostWrite_keepsPort u _ _) ps s)
      exact h1.trans (.of_host rfl)
    · extract_lets ps s1
      have h1 : KeepsPort s s1 := .foldl (fun u p => memWrite_keepsPort u _ _) ps s
      exact h1.trans (.of_host rfl)

theorem moveCut_keepsPort (s : State) (e : Nat) (x : Xfer) (d : List Byte) : KeepsPort s (moveCut s e x d).1 := by
  unfold moveCut
  split
  · extract_lets k
    exact KeepsPort.trans (.ite (.refl s) (setStream_keepsPort ..)) (moveBytes_keepsPort ..)
  · exact moveBytes_keepsPort ..

theorem endXfer_keepsPort (s : State) (e : Nat) (x : Xfer) (st : Status) (bytes : Nat) : KeepsPort s (endXfer s e x st bytes) := by
  unfold endXfer
  extract_lets s1 s2
  have h1 : KeepsPort s s1 := .ite (.refl s) (.of_host rfl)
  have h2 : KeepsPort s s2 := .ite (h1.trans (.of_host rfl)) h1
  split
  · exact h2.trans (finishCmd_keepsPort ..)
  · exact h2.trans (.of_host (by rw [irqEvent_host]; rfl))

theorem stopXfers_keepsPort (s : State) (p : Xfer → Bool) (st : Status) (cut : Cut) : KeepsPort s (stopXfers s p st cut) := by
  unfold stopXfers
  refine .foldl (fun u e => ?_) _ s
  split
  · exact .refl u
  · next x r _ =>
    extract_lets stop
    refine .ite (.refl u) ?_
    generalize hm : (if p x = true then moveCut u e x (List.take (x.length - 1) (cutOf cut e)) else (u, 0)) = m
    have hcut : KeepsPort u m.1 := by
      rw [← hm]
      split
      · exact moveCut_keepsPort ..
      · exact .refl u
    exact (hcut.trans (setEngine_keepsPort ..)).trans (.foldl (fun v y => endXfer_keepsPort v e y st _) _ _)

/-! ### Queues that are deleted and requests that end (R224, R258, R290) -/

theorem endPeer_keepsPort (s : State) (cmd : Nat) (st : Status) : KeepsPort s (endPeer s cmd st) := by
  unfold endPeer
  split
  · exact .refl s
  · exact KeepsPort.trans (.of_host rfl) (finishCmd_keepsPort ..)

theorem deleteQueue_keepsPort (s : State) (q : Nat) (cut : Cut) : KeepsPort s (deleteQueue s q cut) := by
  unfold deleteQueue
  extract_lets x s1
  have h1 : KeepsPort s s1 := rfl
  split
  · exact h1.trans (disableQueue_keepsPort ..)
  · refine .ite (h1.trans (disableQueue_keepsPort ..)) ?_
    split
    · exact h1.trans (stopXfers_keepsPort ..)
    · exact h1.trans (disableQueue_keepsPort ..)
    · split
      · exact (h1.trans (.of_touches (abortCopy_touches (mm := 0x800) rfl (Touches.refl _ _)) rfl)).trans (endPeer_keepsPort ..)
      · exact h1.trans (disableQueue_keepsPort ..)
    · exact h1

theorem deliver_keepsPort (s : State) (i : Nat) (toks : List (Nat × Bool)) (late : Bool) (endSt : Option Status) (quiet : Bool) :
    KeepsPort s (deliver s i toks late endSt quiet) := by
  unfold deliver
  split
  · exact .refl s
  rename_i x _
  split
  rename_i l fin _
  extract_lets ended x' z s1 s2 s3 s4 s5 s6 s7 s8 s9 s10 s11
  clear_value ended
  have h1 : KeepsPort s s1 := .ite (.refl s) (.foldl (fun u e => towardsHost_keepsPort ..) _ s)
  have h2 : KeepsPort s s2 := .ite h1 (h1.trans (towardsHost_keepsPort ..))
  have h3 : KeepsPort s s3 := .ite (h2.trans (.of_host (by rw [irqEvent_host]; rfl))) h2
  have h4 : KeepsPort s s4 := by
    simp only [s4]
    split
    · exact .ite h3 (.ite (h3.trans (towardsHost_keepsPort ..)) (h3.trans (towardsHost_keepsPort ..)))
    · exact h3
  have h5 : KeepsPort s s5 := .ite (h4.trans (settleAll_keepsPort ..)) h4
  have h6 : KeepsPort s s6 := .ite h5 (h5.trans (.of_host rfl))
  have h7 : KeepsPort s s7 :=
    .ite (h6.trans (.of_touches (metricSample_touches (mm := 0x14) rfl (Touches.free rfl (Touches.refl _ s6))) rfl)) h6
  have hclose : ∀ (u : State) (k : Nat), KeepsPort u (closeSeq u k) := fun u k =>
    .of_touches (closeSeq_touches (mm := 0x180080000060390) rfl (Touches.refl _ u)) rfl
  have h9 : KeepsPort s s9 := .ite ((h7.trans (hclose ..)).trans (hclose ..)) (h7.trans (hclose ..))
  have h11 : KeepsPort s s11 :=
    (h9.trans (.of_host rfl)).trans (.foldl (fun u q => finishCmd_keepsPort u q _ _ _) _ s10)
  split
  · exact h7.trans (.of_host rfl)
  · exact h11.trans (.of_touches (servAction_touches (mm := 0x800) rfl (Touches.refl _ s11)) rfl)

theorem endReq_keepsPort (s : State) (i : Nat) (st : Status) (quiet : Bool) : KeepsPort s (endReq s i st quiet) :=
  deliver_keepsPort ..

theorem dropWaking_keepsPort (s : State) (i : Nat) : KeepsPort s (dropWaking s i) := by
  unfold dropWaking
  split
  · exact .ite (KeepsPort.trans (.of_host rfl) (finishCmd_keepsPort ..)) (.refl s)
  · exact .refl s

end Sys2Proof.Proofs
end

section
/-!
Proofs for chapter 10: resets of functions and of the host port, the reference clock, and the link's training (R250, R251, R258, R259,
R269).
-/

namespace Sys2Proof.Proofs

open Sys2Proof Sys2Proof.Machine Sys2Proof.Safety Sys2Proof.Certificates Sys2Proof.Laws

/-! ### Resets (R258, R259) -/

/-- A function's reset ends the function's commands, transfers and requests, and then clears the function itself. -/
theorem functionReset_ends (s : State) (fn : Nat) (cut : Cut) : ∃ u, KeepsPort s u ∧
    functionReset s fn cut = { u with host := { u.host with fns := tset {} fn {} u.host.fns } } := by
  unfold functionReset
  extract_lets qs s1 s2 s3
  have h1 : KeepsPort s s1 := .foldl (fun u q => deleteQueue_keepsPort u q cut) _ s
  have h2 : KeepsPort s s2 := h1.trans (stopXfers_keepsPort ..)
  refine ⟨s3, h2.trans (.foldl (fun u i => ?_) _ s2), rfl⟩
  split
  · exact .ite (dropWaking_keepsPort ..) (endReq_keepsPort ..)
  · exact .refl u

/-- A function's reset clears its own state and leaves every other function's. -/
theorem functionReset_fns (s : State) (fn : Nat) (cut : Cut) : (functionReset s fn cut).host.fns = tset {} fn {} s.host.fns := by
  obtain ⟨u, hu, h⟩ := functionReset_ends s fn cut
  rw [h, ← hu.fns]

theorem functionReset_refclk (s : State) (fn : Nat) (cut : Cut) : (functionReset s fn cut).host.refclk = s.host.refclk := by
  obtain ⟨u, hu, h⟩ := functionReset_ends s fn cut
  rw [h, ← hu.refclk]

/-- The link is down, READY and the IDE streams' ACTIVE are 0, and the readiness sequence runs from `now` on; the reference clock is
as `clk` says (R259). -/
def PortReset (now : Nat) (clk : Bool) (t : State) : Prop :=
  rd t R.HOST_LINK_UP = 0 ∧ rd t R.HOST_STAT_READY = 0 ∧ rd t R.HOST_IDE_STAT_ACTIVE = 0 ∧ t.host.perst = some now ∧
    (∀ fn < 64, tget {} t.host.fns fn = {}) ∧ t.host.refclk = clk

theorem PortReset.of_keeps {now : Nat} {clk : Bool} {s t : State} (h : PortReset now clk s) (hhost : t.host = s.host)
    (hrd : ∀ f ∈ [R.HOST_LINK_UP, R.HOST_STAT_READY, R.HOST_IDE_STAT_ACTIVE], rd t f = rd s f) : PortReset now clk t := by
  unfold PortReset
  rw [hrd _ (by simp), hrd _ (by simp), hrd _ (by simp), hhost]
  exact h

theorem PortReset.of_parts {now : Nat} {clk : Bool} {s : State} {y : HostPort} (hup : rd s R.HOST_LINK_UP = 0)
    (hready : rd s R.HOST_STAT_READY = 0) (hide : rd s R.HOST_IDE_STAT_ACTIVE = 0) (hfns : ∀ fn < 64, tget {} y.fns fn = {})
    (hclk : y.refclk = clk) : PortReset now clk { s with host := { y with perst := some now, retrain := false } } :=
  ⟨hup, hready, hide, rfl, hfns, hclk⟩

/-- An event of the host port leaves the registers of the page's own part. -/
theorem rd_hostEvent (s : State) (i : Nat) {n : Nat} (hn : n < 1024) (tenant : Nat) (detail : List Nat) {f : Fld} (hty : f.ty = 7)
    (hlo : 0x100 ≤ f.off) (hhi : f.off * 8 + f.lo < 2 ^ 15) (j k : Nat) : rd (irqEvent s 7 i n tenant detail) f j k = rd s f j k :=
  rd_irqEvent _ _ _ _ _ _ (by rw [hty]; rfl) (fldCode_ne_of_header hlo hhi (by simp only [hIrqRaw]; omega)) _ _

/-- A run of functions' resets clears each of them, and leaves the time and the reference clock. -/
theorem foldl_functionReset (l : List Nat) (cut : Cut) (s : State) :
    (l.foldl (fun s f => functionReset s f cut) s).now = s.now ∧
    (l.foldl (fun s f => functionReset s f cut) s).host.refclk = s.host.refclk ∧
    ∀ fn ∈ l, tget {} (l.foldl (fun s f => functionReset s f cut) s).host.fns fn = {} := by
  refine ⟨?_, ?_, fun fn hfn => ?_⟩
  · have htouch : Touches 0x9824F8000062F94 s (l.foldl (fun s f => functionReset s f cut) s) :=
      Touches.foldl (Touches.refl _ s) fun u f => functionReset_touches rfl (Touches.refl _ u)
    exact htouch.same (c := .now) rfl
  · exact List.foldlRecOn l _ (motive := fun u : State => u.host.refclk = s.host.refclk) rfl
      fun u hu f _ => (functionReset_refclk u f cut).trans hu
  · exact foldl_reaches (P := fun u : State => tget {} u.host.fns fn = {}) hfn
      (fun u => by rw [functionReset_fns, tget_tset_same])
      (fun u g _ hu => by
        rw [functionReset_fns]
        by_cases hg : fn = g
        · rw [hg, tget_tset_same]
        · rw [tget_tset_ne _ _ hg, hu]) s

theorem PortReset.event {now : Nat} {clk : Bool} {s : State} (h : PortReset now clk s) {n : Nat} (hn : n < 1024) (d : List Nat) :
    PortReset now clk (irqEvent s 7 0 n 0 d) :=
  h.of_keeps (irqEvent_host ..) fun f hf => by
    have hbody : f.ty = 7 ∧ 0x100 ≤ f.off ∧ f.off * 8 + f.lo < 2 ^ 15 := by fin_cases hf <;> decide
    exact rd_hostEvent s 0 hn 0 d hbody.1 hbody.2.1 hbody.2.2 0 0

theorem hostPortReset_resets (s : State) (cut : Cut) : PortReset s.now s.host.refclk (hostPortReset s cut) := by
  obtain ⟨hnow, hclk, hcleared⟩ := foldl_functionReset (List.range 64) cut s
  unfold hostPortReset
  generalize (List.range 64).foldl (fun s f => functionReset s f cut) s = s1 at hnow hclk hcleared ⊢
  extract_lets s0 was s2 s3 s4 h s5 s6
  have htail : Touches 0x8000000000 s1 s4 := wr_touches rfl (wr_touches rfl (wr_touches rfl (wr_touches rfl (wr_touches rfl
    (wr_touches rfl (wr_touches rfl (Touches.refl _ s1)))))))
  have hthen : s4.now = s.now := (htail.same (c := .now) rfl).trans hnow
  have hhost : h = s1.host := htail.same (c := .host) rfl
  have h5 : PortReset s4.now s.host.refclk s5 := by
    refine PortReset.of_parts ?_ ?_ ?_ (fun fn hfn => ?_) ?_
    · simp only [s4, s3, s2]
      simp (disch := decide) only [rd_wr_ne, rd_wr]
      rfl
    · simp only [s4, s3, s2]
      simp (disch := decide) only [rd_wr_ne, rd_wr]
      rfl
    · simp only [s4]
      rw [rd_wr]
      rfl
    · rw [hhost]
      exact hcleared fn (List.mem_range.mpr hfn)
    · rw [hhost, hclk]
  rw [hthen] at h5
  have h6 : PortReset s.now s.host.refclk s6 := by
    simp only [s6]
    split
    · exact h5.event (by decide) _
    · exact h5
  exact h6.event (by decide) _

theorem functionLevelReset_resets (fn : Nat) (cut : List (Nat × List Byte)) (s : State) :
    Ends (.functionLevelReset fn cut) s (fun t => tget {} t.host.fns fn = {} ∧ rd t (hIrqRaw 7 Irq.HOST_FLR) 0 = 1 ∧
      SameBut (recorded ++ completed ++ pages [8, 10, 11, 17] ++ [.free, .kv, .serving]) s t) := by
  have hexec : exec (.functionLevelReset fn cut) s = .next (irqEvent (functionReset s fn cut) 7 0 Irq.HOST_FLR 0 [fn]) := rfl
  refine ⟨_, hexec, ?_, rd_irqEvent_same .., sameBut_of_touches (touches_of_next hexec
    (execFunctionLevelReset_touches rfl (Touches.refl _ s) (Touches.refl _ s)))⟩
  rw [irqEvent_host, functionReset_fns, tget_tset_same]

theorem hotReset_resets (cut : List (Nat × List Byte)) (s : State) :
    Ends (.hotReset cut) s (fun t => rd t R.HOST_LINK_UP = 0 ∧ rd t R.HOST_STAT_READY = 0 ∧
      rd t R.HOST_IDE_STAT_ACTIVE = 0 ∧ t.host.perst = some s.now ∧ (∀ fn < 64, tget {} t.host.fns fn = {}) ∧
      SameBut (recorded ++ completed ++ pages [8, 10, 11, 17] ++ [.free, .kv, .serving]) s t) := by
  obtain ⟨hup, hready, hide, hperst, hfns, -⟩ := hostPortReset_resets s cut
  have hexec : exec (.hotReset cut) s = .next (hostPortReset s cut) := rfl
  exact ⟨_, hexec, hup, hready, hide, hperst, hfns, sameBut_of_touches (hostPortReset_touches rfl (Touches.refl _ s))⟩

theorem hostLinkDown_resets {cut : List (Nat × List Byte)} {s : State} (hlink : rd s R.HOST_LINK_UP = 1) :
    Ends (.hostLinkDown cut) s (fun t => rd t R.HOST_LINK_UP = 0 ∧ rd t R.HOST_STAT_READY = 0 ∧
      (∀ fn < 64, tget {} t.host.fns fn = {}) ∧
      SameBut (recorded ++ completed ++ pages [8, 10, 11, 17] ++ [.free, .kv, .serving]) s t) := by
  obtain ⟨hup, hready, -, -, hfns, -⟩ := hostPortReset_resets s cut
  exact ⟨_, congrArg Host.Outcome.next (if_pos hlink), hup, hready, hfns,
    sameBut_of_touches (hostPortReset_touches rfl (Touches.refl _ s))⟩

theorem refclkLoss_resets {cut : List (Nat × List Byte)} {s : State} (hclk : s.host.refclk = true) :
    Ends (.refclkLoss cut) s (fun t => t.host.refclk = false ∧ rd t R.HOST_LINK_UP = 0 ∧ rd t R.HOST_STAT_REFCLK_LOST = 1 ∧
      SameBut (recorded ++ completed ++ pages [8, 10, 11, 17] ++ [.free, .kv, .serving]) s t) := by
  let s1 : State := { s with host := { s.host with refclk := false } }
  have hexec : exec (.refclkLoss cut) s =
      .next (irqEvent (wr (hostPortReset s1 cut) R.HOST_STAT_REFCLK_LOST 1) 7 0 Irq.HOST_REFCLK_LOST 0 []) :=
    congrArg Host.Outcome.next (if_pos hclk)
  obtain ⟨hup, -, -, -, -, hlost⟩ := hostPortReset_resets s1 cut
  refine ⟨_, hexec, ?_, ?_, ?_, sameBut_of_touches (touches_of_next hexec
    (execRefclkLoss_touches rfl (Touches.refl _ s) (Touches.refl _ s)))⟩
  · rw [irqEvent_host, wr_host, hlost]
  · rw [rd_irqEvent _ _ _ _ _ _ rfl (by decide), rd_wr_ne (by decide), hup]
  · rw [rd_irqEvent _ _ _ _ _ _ rfl (by decide), rd_wr]
    rfl

theorem refclkReturn_returns (s : State) :
    Ends .refclkReturn s (fun t => t.host.refclk = true ∧ rd t R.HOST_STAT_REFCLK_LOST = 0 ∧
      SameBut (pages [7] ++ [.host]) s t) :=
  ⟨_, rfl, rfl, rd_wr _ R.HOST_STAT_REFCLK_LOST 0 0 0, sameBut_of_touches (wr_touches rfl (Touches.host rfl (Touches.refl _ s)))⟩

/-! ### The link (R250, R251, R269) -/

theorem ideInsecure_shows (s : State) :
    rd (ideInsecure s) R.HOST_IDE_STAT_INSECURE = 0xFF ∧ rd (ideInsecure s) R.HOST_IDE_STAT_ACTIVE = 0 ∧
    (∀ f : Fld, f.ty = 7 → 0x100 ≤ f.off → f.off * 8 + f.lo < 2 ^ 15 → fldCode f ≠ fldCode R.HOST_IDE_STAT_INSECURE →
      fldCode f ≠ fldCode R.HOST_IDE_STAT_ACTIVE → ∀ j k, rd (ideInsecure s) f j k = rd s f j k) := by
  unfold ideInsecure
  extract_lets was s1 h s2
  have hread : ∀ f : Fld, f.ty = 7 → 0x100 ≤ f.off → f.off * 8 + f.lo < 2 ^ 15 → ∀ j k,
      rd (if was = 0xFF then s2 else irqEvent s2 7 0 Irq.HOST_IDE_INSECURE 0 []) f j k = rd s1 f j k := fun f hty hlo hhi j k => by
    split
    · rfl
    · exact rd_hostEvent s2 0 (by decide) 0 [] hty hlo hhi j k
  refine ⟨?_, ?_, fun f hty hlo hhi hins hact j k => ?_⟩
  · rw [hread _ rfl (by decide) (by decide)]
    simp only [s1]
    rw [rd_wr_ne (by decide), rd_wr]
    rfl
  · rw [hread _ rfl (by decide) (by decide)]
    simp only [s1]
    rw [rd_wr]
    rfl
  · rw [hread f hty hlo hhi]
    simp only [s1]
    rw [rd_wr_ne hact, rd_wr_ne hins]

/-- What the link shows once it has trained at a rate and a width (R250). -/
def ShowsLink (speed width : Nat) (t : State) : Prop :=
  rd t R.HOST_LINK_UP = 1 ∧ rd t R.HOST_LINK_SPEED = speed ∧ rd t R.HOST_LINK_WIDTH = width ∧
    rd t R.HOST_LINK_DEGRADED = (if speed < 3 ∨ width < 4 then 1 else 0)

theorem ShowsLink.of_keeps {speed width : Nat} {s t : State} (h : ShowsLink speed width s)
    (hrd : ∀ f ∈ [R.HOST_LINK_UP, R.HOST_LINK_SPEED, R.HOST_LINK_WIDTH, R.HOST_LINK_DEGRADED], rd t f = rd s f) :
    ShowsLink speed width t := by
  unfold ShowsLink
  rw [hrd _ (by simp), hrd _ (by simp), hrd _ (by simp), hrd _ (by simp)]
  exact h

theorem linkFields_body {f : Fld} (hf : f ∈ [R.HOST_LINK_UP, R.HOST_LINK_SPEED, R.HOST_LINK_WIDTH, R.HOST_LINK_DEGRADED]) :
    f.ty = 7 ∧ 0x100 ≤ f.off ∧ f.off * 8 + f.lo < 2 ^ 15 ∧ fldCode f ≠ fldCode R.HOST_IDE_STAT_INSECURE ∧
      fldCode f ≠ fldCode R.HOST_IDE_STAT_ACTIVE := by
  fin_cases hf <;> decide

theorem linkTrained_shows {speed width : Nat} {flit : Bool} {s : State} (hclk : s.host.refclk = true)
    (hreset : s.host.inReset = false) (hpos : 1 ≤ speed) (hmax : speed ≤ rd s R.HOST_LINK_CTL_MAX_SPEED) (hspeed : speed < 16)
    (hwidth : width ∈ [1, 2, 4, 8, 16]) :
    Ends (.linkTrained speed width flit) s (fun t => rd t R.HOST_LINK_UP = 1 ∧ rd t R.HOST_LINK_SPEED = speed ∧
      rd t R.HOST_LINK_WIDTH = width ∧ rd t R.HOST_LINK_DEGRADED = (if speed < 3 ∨ width < 4 then 1 else 0) ∧
      (speed < 5 → rd t R.HOST_IDE_STAT_INSECURE = 0xFF ∧ rd t R.HOST_IDE_STAT_ACTIVE = 0) ∧
      SameBut (recorded ++ pages [7] ++ [.host]) s t) := by
  have hw : width < 2 ^ 5 := by fin_cases hwidth <;> decide
  let same := rd s R.HOST_LINK_UP = 1 && rd s R.HOST_LINK_SPEED = speed && rd s R.HOST_LINK_WIDTH = width
  let fl := rd s R.HOST_LINK_FLIT = 1 || flit || speed = 6
  let s1 := wr (wr (wr s R.HOST_LINK_UP 1) R.HOST_LINK_SPEED speed) R.HOST_LINK_WIDTH width
  let s2 := wr (wr s1 R.HOST_LINK_FLIT (b2n fl)) R.HOST_LINK_DEGRADED (b2n (speed < 3 || width < 4))
  let s3 : State := { s2 with host := { s2.host with retrain := false } }
  let s4 := if same then s3 else irqEvent s3 7 0 Irq.HOST_LINK_CHANGE 0 [speed, width]
  have hexec : exec (.linkTrained speed width flit) s = .next (if speed < 5 then ideInsecure s4 else s4) := by
    refine congrArg Host.Outcome.next (if_neg ?_)
    have hcontains : [1, 2, 4, 8, 16].contains width = true := List.contains_iff_mem.mpr hwidth
    have hmin : ¬speed < 1 := by omega
    have hle : ¬rd s R.HOST_LINK_CTL_MAX_SPEED < speed := by omega
    rw [hclk, hreset, hcontains, decide_eq_false hmin, decide_eq_false hle]
    exact Bool.false_ne_true
  have h3 : ShowsLink speed width s3 := by
    change ShowsLink speed width s2
    simp only [s2, s1]
    refine ⟨?_, ?_, ?_, ?_⟩
    · simp (disch := decide) only [rd_wr_ne, rd_wr]
      rfl
    · simp (disch := decide) only [rd_wr_ne]
      exact rd_wr_fit _ R.HOST_LINK_SPEED 0 0 (show speed < 2 ^ 4 from hspeed)
    · simp (disch := decide) only [rd_wr_ne]
      exact rd_wr_fit _ R.HOST_LINK_WIDTH 0 0 hw
    · rw [rd_wr]
      by_cases h : speed < 3 ∨ width < 4
      · rw [if_pos h, show (decide (speed < 3) || decide (width < 4)) = true by simpa using h]
        rfl
      · rw [if_neg h, show (decide (speed < 3) || decide (width < 4)) = false by simpa using h]
        rfl
  have h4 : ShowsLink speed width s4 := by
    simp only [s4]
    split
    · exact h3
    · exact h3.of_keeps fun f hf => by
        obtain ⟨hty, hlo, hhi, -⟩ := linkFields_body hf
        exact rd_hostEvent s3 0 (by decide) 0 _ hty hlo hhi 0 0
  have hsame : ∀ t, exec (.linkTrained speed width flit) s = .next t → SameBut (recorded ++ pages [7] ++ [.host]) s t := fun t ht =>
    sameBut_of_touches (touches_of_next ht (execLinkTrained_touches rfl (Touches.refl _ s) (Touches.refl _ s)))
  by_cases h5 : speed < 5
  · rw [if_pos h5] at hexec
    obtain ⟨hins, hact, hkeep⟩ := ideInsecure_shows s4
    obtain ⟨hup, hsp, hwd, hdg⟩ := h4.of_keeps (t := ideInsecure s4) fun f hf => by
      obtain ⟨hty, hlo, hhi, hi, ha⟩ := linkFields_body hf
      exact hkeep f hty hlo hhi hi ha 0 0
    exact ⟨_, hexec, hup, hsp, hwd, hdg, fun _ => ⟨hins, hact⟩, hsame _ hexec⟩
  · rw [if_neg h5] at hexec
    obtain ⟨hup, hsp, hwd, hdg⟩ := h4
    exact ⟨_, hexec, hup, hsp, hwd, hdg, fun h => absurd h h5, hsame _ hexec⟩

theorem linkTrained_ignores {speed width : Nat} {flit : Bool} {s : State}
    (h : s.host.refclk = false ∨ s.host.inReset = true ∨ speed = 0 ∨ rd s R.HOST_LINK_CTL_MAX_SPEED < speed ∨
      width ∉ [1, 2, 4, 8, 16]) : exec (.linkTrained speed width flit) s = .next s := by
  refine congrArg Host.Outcome.next (if_pos ?_)
  simp only [Bool.or_eq_true, decide_eq_true_eq, Bool.not_eq_true']
  rcases h with h | h | h | h | h
  · exact .inl (.inl (.inl (.inl h)))
  · exact .inl (.inl (.inl (.inr h)))
  · exact .inl (.inl (.inr (by omega)))
  · exact .inl (.inr h)
  · exact .inr (by rw [← Bool.not_eq_true, List.contains_iff_mem]; exact h)

/-- The rate limits that the link takes (R251). -/
theorem legalValue_maxSpeed {m : Nat} (hm : m < 16) : legalValue R.HOST_LINK_CTL_MAX_SPEED m = decide (3 ≤ m ∧ m ≤ 6) := by
  interval_cases m <;> rfl

/-- A request to train again is noted, whatever the rate limit's write came to. -/
def noteRetrain (v : Nat) (s : State) : State :=
  if bitsOf v 4 1 = 1 then { s with host := { s.host with retrain := true } } else s

theorem rd_noteRetrain (v : Nat) (s : State) (f : Fld) (i k : Nat) : rd (noteRetrain v s) f i k = rd s f i k := by
  unfold noteRetrain
  split <;> rfl

theorem noteRetrain_touches (v : Nat) {m : Nat} {b s : State} (hm : m.testBit 10 = true) (h : Touches m b s) :
    Touches m b (noteRetrain v s) := Touches.ite (Touches.host hm h) h

theorem linkRetrain_takes {w : Writer} {v : Nat} {s : State} (hs : pageServed s 7 0 = true) (hlo : 3 ≤ v % 16) (hhi : v % 16 ≤ 6) :
    Ends (.linkRetrain w v) s (fun t => rd t R.HOST_LINK_CTL_MAX_SPEED = v % 16 ∧
      t.host.retrain = (if bitsOf v 4 1 = 1 then true else s.host.retrain) ∧ SameBut (.host :: written 7) s t) := by
  have hlegal : legalValue R.HOST_LINK_CTL_MAX_SPEED (v % 16) = true := by
    rw [legalValue_maxSpeed (Nat.mod_lt _ (by decide)), decide_eq_true_eq]
    exact ⟨hlo, hhi⟩
  refine ends_of_served_write (m := maskOf (.host :: written 7)) (x := noteRetrain v (wr s R.HOST_LINK_CTL_MAX_SPEED (v % 16))) rfl
    hs (fun h => Bool.false_ne_true h.1) ?_ rfl (noteRetrain_touches v rfl (wr_touches rfl (Touches.refl _ s)))
    fun t hnote htouch => ⟨?_, ?_, sameBut_of_touches htouch⟩
  · dsimp only
    rw [if_pos hlegal]
    rfl
  · rw [hnote.reads rfl, rd_noteRetrain]
    exact rd_wr_fit _ _ _ _ (show v % 16 < 2 ^ 4 by omega)
  · rw [hnote.same (c := .host) rfl]
    unfold noteRetrain
    split <;> rfl

theorem linkRetrain_refuses {w : Writer} {v : Nat} {s : State} (hs : pageServed s 7 0 = true) (h : v % 16 < 3 ∨ 6 < v % 16) :
    Ends (.linkRetrain w v) s (fun t => rd t R.HOST_LINK_CTL_MAX_SPEED = rd s R.HOST_LINK_CTL_MAX_SPEED ∧
      rd t (hErrStatus 7) 0 = statusValue .fieldReserved ∧ SameBut (.host :: written 7) s t) := by
  have hlegal : ¬legalValue R.HOST_LINK_CTL_MAX_SPEED (v % 16) = true := by
    rw [legalValue_maxSpeed (Nat.mod_lt _ (by decide)), decide_eq_true_eq]
    omega
  refine ends_of_served_write (m := maskOf (.host :: written 7))
    (x := noteRetrain v (refuseWrite s 7 0 R.HOST_LINK_CTL_MAX_SPEED.off .fieldReserved)) rfl
    hs (fun h => Bool.false_ne_true h.1) ?_ rfl (noteRetrain_touches v rfl (refuseWrite_touches rfl (Touches.refl _ s)))
    fun t hnote htouch => ⟨?_, ?_, sameBut_of_touches htouch⟩
  · dsimp only
    rw [if_neg hlegal]
    rfl
  · rw [hnote.reads rfl, rd_noteRetrain, rd_refuseWrite_of_body _ _ _ _ _ (by decide) (by decide)]
  · rw [hnote.reads rfl, rd_noteRetrain, rd_refuseWrite_hErrStatus]

/-- Settles O24, from the resets' layer and the branches of the link's commands. -/
theorem hostLink : Obligations.HostLink :=
  ⟨functionLevelReset_resets, hotReset_resets, fun _ _ => hostLinkDown_resets,
    fun _ _ h => congrArg Host.Outcome.next (if_neg h), fun _ _ => refclkLoss_resets,
    fun _ _ h => congrArg Host.Outcome.next (if_neg (by rw [h]; exact Bool.false_ne_true)), refclkReturn_returns,
    fun _ _ _ _ => linkTrained_shows, fun _ _ _ _ => linkTrained_ignores, fun _ _ _ => linkRetrain_takes,
    fun _ _ _ => linkRetrain_refuses⟩

end Sys2Proof.Proofs
end

section
/-!
Proofs for chapter 10: the registers of the functions (R252 to R255).
-/

namespace Sys2Proof.Proofs

open Sys2Proof Sys2Proof.Machine Sys2Proof.Safety Sys2Proof.Certificates Sys2Proof.Laws

/-- The binding of a VF is a plain write of its page. -/
theorem exec_hostFnCfgWrite {w : Writer} {v : Nat} {s : State} (hf : rd s R.HOST_FN_SEL ≠ 0) :
    exec (.hostFnCfgWrite w v) s = .next (regWrite s w 7 0 R.HOST_FN_CFG_BOUND.off
      (chg s R.HOST_FN_CFG_BOUND (bitsOf v 31 1) 0 (rd s R.HOST_FN_SEL) || chg s R.HOST_FN_CFG_TENANT v 0 (rd s R.HOST_FN_SEL))
      (fun s' => if !(fnQueues s' (rd s R.HOST_FN_SEL)).isEmpty then refuseWrite s' 7 0 R.HOST_FN_CFG_BOUND.off .fnBusy
        else wr (wr s' R.HOST_FN_CFG_BOUND (bitsOf v 31 1) 0 (rd s R.HOST_FN_SEL)) R.HOST_FN_CFG_TENANT (v % 256) 0
          (rd s R.HOST_FN_SEL))) := congrArg Host.Outcome.next (if_neg hf)

theorem hostFnCfgWrite_binds {w : Writer} {v : Nat} {s : State} (hw : Writable s w 7 0) (hf : rd s R.HOST_FN_SEL ≠ 0)
    (hq : fnQueues s (rd s R.HOST_FN_SEL) = []) :
    Ends (.hostFnCfgWrite w v) s (fun t => rd t R.HOST_FN_CFG_BOUND 0 (rd s R.HOST_FN_SEL) = bitsOf v 31 1 ∧
      rd t R.HOST_FN_CFG_TENANT 0 (rd s R.HOST_FN_SEL) = v % 256 ∧ SameBut (written 7) s t) := by
  refine ends_of_taken (m := maskOf (written 7)) (exec_hostFnCfgWrite hf) hw (if_neg (by rw [hq]; exact Bool.false_ne_true)) rfl
    (wr_touches rfl (wr_touches rfl (Touches.refl _ s))) fun t hnote htouch => ⟨?_, ?_, sameBut_of_touches htouch⟩
  · rw [hnote.reads rfl, rd_wr_ne (by decide)]
    exact rd_wr_fit _ _ _ _ (bitsOf_lt _ _ _)
  · rw [hnote.reads rfl]
    exact rd_wr_fit _ _ _ _ (Nat.mod_lt _ (by decide))

theorem hostFnCfgWrite_refuses {w : Writer} {v : Nat} {s : State} (hw : Writable s w 7 0) (hf : rd s R.HOST_FN_SEL ≠ 0)
    (hq : fnQueues s (rd s R.HOST_FN_SEL) ≠ []) :
    Ends (.hostFnCfgWrite w v) s (fun t =>
      rd t R.HOST_FN_CFG_BOUND 0 (rd s R.HOST_FN_SEL) = rd s R.HOST_FN_CFG_BOUND 0 (rd s R.HOST_FN_SEL) ∧
      rd t R.HOST_FN_CFG_TENANT 0 (rd s R.HOST_FN_SEL) = rd s R.HOST_FN_CFG_TENANT 0 (rd s R.HOST_FN_SEL) ∧
      rd t (hErrStatus 7) 0 = statusValue .fnBusy ∧ SameBut (written 7) s t) :=
  ends_of_refused (m := maskOf (written 7)) (st := .fnBusy) (exec_hostFnCfgWrite hf) hw (if_pos (by simpa using hq)) rfl rfl rfl
    fun _ hbody herr htouch => ⟨hbody _ rfl (by decide) (by decide) _ _, hbody _ rfl (by decide) (by decide) _ _, herr,
      sameBut_of_touches htouch⟩

section
variable {w : Writer} {v : Nat} {s : State} (hw : Writable s w 7 0) (hpos : 1 ≤ v) (hmax : v ≤ 2048)
  (hsum : msixSum s - rd s R.HOST_FN_MSIX 0 (rd s R.HOST_FN_SEL) + v ≤ 16384)
include hpos hmax hsum

/-- A legal vector count passes the limits. -/
theorem msix_legal : ¬(v % 4096 = 0 || 2048 < v % 4096 ||
    16384 < msixSum s - rd s R.HOST_FN_MSIX 0 (rd s R.HOST_FN_SEL) + v % 4096) = true := by
  rw [Nat.mod_eq_of_lt (by omega), Bool.or_eq_true, Bool.or_eq_true, decide_eq_true_eq, decide_eq_true_eq, decide_eq_true_eq]
  omega

include hw

theorem hostFnMsixWrite_takes :
    Ends (.hostFnMsixWrite w v false) s (fun t => rd t R.HOST_FN_MSIX 0 (rd s R.HOST_FN_SEL) = v ∧
      rd t R.HOST_MSIX_FREE = 16384 - (msixSum s - rd s R.HOST_FN_MSIX 0 (rd s R.HOST_FN_SEL) + v) ∧ SameBut (written 7) s t) := by
  have hv : v % 4096 = v := Nat.mod_eq_of_lt (by omega)
  refine ends_of_taken (m := maskOf (written 7)) (x := wr (wr s R.HOST_FN_MSIX v 0 (rd s R.HOST_FN_SEL)) R.HOST_MSIX_FREE
    (16384 - (msixSum s - rd s R.HOST_FN_MSIX 0 (rd s R.HOST_FN_SEL) + v))) rfl hw ?_ rfl
    (wr_touches rfl (wr_touches rfl (Touches.refl _ s))) fun t hnote htouch => ⟨?_, ?_, sameBut_of_touches htouch⟩
  · refine (if_neg (msix_legal hpos hmax hsum)).trans ((if_neg Bool.false_ne_true).trans ?_)
    rw [hv]
  · rw [hnote.reads rfl, rd_wr_ne (by decide)]
    exact rd_wr_fit _ _ _ _ (show v < 2 ^ 12 by omega)
  · rw [hnote.reads rfl]
    exact rd_wr_fit _ _ _ _ (show _ < 2 ^ 15 by omega)

theorem hostFnMsixWrite_refuses :
    Ends (.hostFnMsixWrite w v true) s (fun t =>
      rd t R.HOST_FN_MSIX 0 (rd s R.HOST_FN_SEL) = rd s R.HOST_FN_MSIX 0 (rd s R.HOST_FN_SEL) ∧
      rd t (hErrStatus 7) 0 = statusValue .fnBusy ∧ SameBut (written 7) s t) :=
  ends_of_refused (m := maskOf (written 7)) (st := .fnBusy) rfl hw
    ((if_neg (msix_legal hpos hmax hsum)).trans (if_pos rfl)) rfl rfl rfl
    fun _ hbody herr htouch => ⟨hbody _ rfl (by decide) (by decide) _ _, herr, sameBut_of_touches htouch⟩

end

theorem hostFnWinWrite_takes {w : Writer} {v : Nat} {s : State} (hw : Writable s w 7 0) (hv : v < 2 ^ 10) :
    Ends (.hostFnWinWrite w v) s (fun t => rd t R.HOST_FN_WIN 0 (rd s R.HOST_FN_SEL) = v ∧
      (∀ k, k ≠ rd s R.HOST_FN_SEL → rd t R.HOST_FN_WIN 0 k = rd s R.HOST_FN_WIN 0 k) ∧ SameBut (written 7) s t) := by
  refine ends_of_taken (m := maskOf (written 7)) (x := wr s R.HOST_FN_WIN v 0 (rd s R.HOST_FN_SEL)) rfl hw rfl rfl
    (wr_touches rfl (Touches.refl _ s)) fun t hnote htouch => ⟨?_, fun k hk => ?_, sameBut_of_touches htouch⟩
  · rw [hnote.reads rfl]
    exact rd_wr_fit _ _ _ _ hv
  · rw [hnote.reads rfl, rd_wr_inst _ (.inr hk)]

theorem bar4Resize_takes {fn size : Nat} {s : State} (hfn : fn < 64) (hmin : 30 ≤ size) (hmax : size ≤ (if fn = 0 then 40 else 36)) :
    Ends (.bar4Resize fn size false) s (fun t => barBits t fn = size ∧ (∀ g, g ≠ fn → barBits t g = barBits s g) ∧
      SameBut [.host] s t) ∧
    exec (.bar4Resize fn size true) s = .next s := by
  have hexec : exec (.bar4Resize fn size false) s =
      .next { s with host := { s.host with fns := tset {} fn { bar4 := size } s.host.fns } } := by
    refine congrArg Host.Outcome.next (if_neg ?_)
    simp only [Bool.false_or, Bool.or_eq_true, decide_eq_true_eq]
    omega
  refine ⟨⟨_, hexec, ?_, fun g hg => ?_, ?_⟩, rfl⟩
  · unfold barBits
    rw [tget_tset_same]
    exact if_neg (by simp only; omega)
  · unfold barBits
    rw [tget_tset_ne _ _ hg]
  · exact sameBut_of_touches (touches_of_next hexec (execBar4Resize_touches rfl (Touches.refl _ s) (Touches.refl _ s)))

/-- Settles O25, from the case of each write. -/
theorem functionRegisters : Obligations.FunctionRegisters :=
  ⟨fun _ _ _ => hostFnCfgWrite_binds, fun _ _ _ => hostFnCfgWrite_refuses, fun _ _ _ h => congrArg Host.Outcome.next (if_pos h),
    fun _ _ _ hw hpos hmax hsum => ⟨hostFnMsixWrite_takes hw hpos hmax hsum, hostFnMsixWrite_refuses hw hpos hmax hsum⟩,
    fun _ _ _ => hostFnWinWrite_takes, fun _ _ _ => bar4Resize_takes⟩

end Sys2Proof.Proofs
end

section
/-!
Proofs for chapter 10: bulk transfers as they are checked, queued, carried out and ended (R260 to R264, R277).
-/

namespace Sys2Proof.Proofs

open Sys2Proof Sys2Proof.Machine Sys2Proof.Safety Sys2Proof.Certificates Sys2Proof.Laws

/-! ### Engines -/

@[simp] theorem engine_setEngine (s : State) (e : Nat) (l : List Xfer) : engine (setEngine s e l) e = l :=
  tget_tset_same [] e l s.host.engines

theorem engine_of_host {s t : State} (h : t.host = s.host) (e : Nat) : engine t e = engine s e := by unfold engine; rw [h]

/-- An engine with a transfer shows that it is busy. -/
theorem pushXfer_busy (s : State) (e : Nat) (x : Xfer) : rd (pushXfer s e x) R.DMA_STAT_BUSY e = 1 := by
  unfold pushXfer setEngine
  rw [rd_wr_ne (by decide), rd_wr]
  cases engine s e <;> rfl

/-! ### Checks of an access (R234, R238, R240) -/

/-- Whether a tenant may reach some bytes depends on the set map, the controllers, the extents' owners and the pool. -/
theorem accessFail_congr {s u : State} (h : ∀ f : Fld, f.ty = 3 ∨ f.ty = 11 ∨ f.ty = 26 → ∀ i k, rd u f i k = rd s f i k)
    (t a n : Nat) : accessFail u t a n = accessFail s t a n := by
  have hmap := h R.MEM_SET_MAP (.inl rfl)
  have hdis := h R.MEMC_PART_DISABLED (.inl rfl)
  have hvalid := h R.MEM_OWN_VALID (.inl rfl)
  have hscrub := h R.MEM_OWN_SCRUBBING (.inl rfl)
  have hten := h R.MEM_OWN_TENANT (.inl rfl)
  have hbase := h R.KVPG_POOL_BASE (.inr (.inl rfl))
  have hpages := h R.KVPG_POOL_PAGES (.inr (.inl rfl))
  have hvar := h R.BOOT_VARIANT_VARIANT (.inr (.inr rfl))
  unfold accessFail meetsPool poolBytes extentOwner extentPresent Machine.setOf setPresent memPer
  simp only [hmap, hdis, hvalid, hscrub, hten, hbase, hpages, hvar]

/-- The checks of a descriptor do not look at the engine's own registers. -/
theorem descCheck_wr {f : Fld} (hf : f.ty = 8) (s : State) (v i k : Nat) (x : Xfer) (mine : Bool) :
    descCheck (wr s f v i k) x mine = descCheck s x mine := by
  have hrd : ∀ g : Fld, g.ty = 3 ∨ g.ty = 11 ∨ g.ty = 26 ∨ g.ty = 7 ∨ g.ty = 17 → ∀ j l, rd (wr s f v i k) g j l = rd s g j l :=
    fun g hg j l => rd_wr_ne (by unfold fldCode; omega) _ _ _ _ _ _
  have haccess : ∀ t a n, accessFail (wr s f v i k) t a n = accessFail s t a n :=
    accessFail_congr fun g hg => hrd g (by omega)
  have hseals : tenSeals (wr s f v i k) x.tenant = tenSeals s x.tenant := by unfold tenSeals; rw [hrd _ (by decide)]
  have hactive : tenActive (wr s f v i k) x.tenant = tenActive s x.tenant := by
    unfold tenActive tenState
    rw [hrd _ (by decide)]
  have hdesc : descAccess (wr s f v i k) x = descAccess s x := by
    unfold descAccess
    rw [hactive, hseals, hrd R.HOST_TEN_SEAL_KEY (by decide)]
    simp only [haccess]
  have hseal : descSeal (wr s f v i k) x = descSeal s x := rfl
  unfold descCheck
  rw [hdesc, hseal]

/-! ### DMA and DMA_GO (R260 to R262) -/

theorem dma_goes {q : Nat} {r : RunCmd} {s : State} (hrun : running s q 1 = some r) {x : Xfer}
    (hx : x = { queue := some q, kind := 0, op := arg r 16 1 % 4, sealed := bitsOf (arg r 16 1) 2 1 = 1, tenant := arg r 17 1,
                sealQ := q, length := arg r 20 4, src := arg r 24 8, dst := arg r 32 8, tagAddr := arg r 40 8, ctr := arg r 48 8 }) :
    (descCheck s x (tenantOk r false x.tenant) = none →
      Ends (.dma q) s (fun t => engine t (queueEngine q) = engine s (queueEngine q) ++ [x] ∧
        (queue t q).run = some { r with busy := true } ∧ SameBut [.page 8, .host] s t)) ∧
    (∀ st, descCheck s x (tenantOk r false x.tenant) = some st →
      exec (.dma q) s = .next (finishCmd (noteSeal s x.tenant st) q st 0)) := by
  have hexec : exec (.dma q) s = .next (match descCheck s x (tenantOk r false x.tenant) with
      | some st => finishCmd (noteSeal s x.tenant st) q st 0
      | none => pushXfer (setBusy s q) (queueEngine q) x) := by
    refine congrArg Host.Outcome.next ?_
    rw [hrun, hx] <;> rfl
  refine ⟨fun h => ?_, fun st h => by rw [hexec, h]⟩
  rw [h] at hexec
  exact ⟨_, hexec, engine_setEngine .., run_setBusy (run_of_running hrun).1,
    sameBut_of_touches (pushXfer_touches rfl (setBusy_touches rfl (Touches.refl _ s)))⟩

/-- A transfer of the register program that ends without success: its status is the result, and its engine stays (R263). -/
theorem endXfer_program {s : State} {e : Nat} {x : Xfer} {st : Status} (hq : x.queue = none) (hkind : x.kind = 0) (n : Nat) :
    rd (endXfer s e x st n) R.DMA_RESULT_VALID e = 1 ∧
    rd (endXfer s e x st n) R.DMA_RESULT_STATUS e = statusValue st % 2 ^ R.DMA_RESULT_STATUS.w ∧
    (endXfer s e x st n).host = s.host ∧ (endXfer s e x st n).mem = s.mem := by
  have hend : ∃ u d, endXfer s e x st n = irqEvent (wr (wr u R.DMA_RESULT_STATUS (statusValue st) e) R.DMA_RESULT_VALID 1 e) 8 e
      (if st = .ok then Irq.DMA_DONE else Irq.DMA_ERROR) 0 d ∧ u.host = s.host ∧ u.mem = s.mem := by
    unfold endXfer
    rw [hq, hkind]
    by_cases hst : st = .ok
    · subst hst
      exact ⟨_, _, rfl, rfl, rfl⟩
    · exact ⟨_, _, rfl, by rw [if_neg hst]; rfl, by rw [if_neg hst]; rfl⟩
  obtain ⟨u, d, hend, hhost, hmem⟩ := hend
  have hbody : ∀ f : Fld, f.ty = 8 → 0x100 ≤ f.off → f.off * 8 + f.lo < 2 ^ 15 →
      fldCode f ≠ fldCode (hIrqRaw 8 (if st = .ok then Irq.DMA_DONE else Irq.DMA_ERROR)) := fun f hty hlo hhi =>
    fldCode_ne_of_header hlo hhi (by split <;> decide)
  rw [hend]
  refine ⟨?_, ?_, ?_, ?_⟩
  · rw [rd_irqEvent _ _ _ _ _ _ rfl (hbody _ rfl (by decide) (by decide)), rd_wr]
    rfl
  · rw [rd_irqEvent _ _ _ _ _ _ rfl (hbody _ rfl (by decide) (by decide)), rd_wr_ne (by decide), rd_wr]
  · rw [irqEvent_host, wr_host, wr_host, hhost]
  · rw [irqEvent_mem, wr_mem, wr_mem, hmem]

/-- A descriptor that fails order 1 fails with a status of its ranges, and counts no seal. -/
theorem noteSeal_of_range {s : State} {x : Xfer} {st : Status} (h : descRange x = some st) (t : Nat) : noteSeal s t st = s := by
  unfold descRange at h
  split at h
  · obtain rfl := Option.some.inj h
    rfl
  · split at h
    · obtain rfl := Option.some.inj h
      rfl
    · cases h

theorem dmaGo_goes {w : Writer} {e : Nat} {s : State} (hw : Writable s w 8 e) (he : 4 ≤ e) (hfree : programmedBusy s e = false)
    {d : List Byte} (hd : d = (List.range 16).flatMap (fun j => leBytes 4 (rd s (R.DMA_DESC j) e))) {x : Xfer}
    (hx : x = { queue := none, kind := 0, op := fieldAt d 0 1 % 4, sealed := bitsOf (fieldAt d 0 1) 2 1 = 1,
                tenant := fieldAt d 1 1, sealQ := fieldAt d 2 2, length := fieldAt d 4 4, src := fieldAt d 8 8,
                dst := fieldAt d 16 8, tagAddr := fieldAt d 24 8, ctr := fieldAt d 32 8 }) :
    (descCheck s x (x.tenant = 0) = none →
      Ends (.dmaGo w e) s (fun t => engine t e = engine s e ++ [x] ∧ rd t R.DMA_RESULT_VALID e = 0 ∧
        rd t R.DMA_STAT_BUSY e = 1 ∧ SameBut (.host :: written 8) s t)) ∧
    (∀ st, descRange x = some st →
      Ends (.dmaGo w e) s (fun t => engine t e = engine s e ∧ rd t R.DMA_RESULT_VALID e = 1 ∧
        rd t R.DMA_RESULT_STATUS e = statusValue st % 2 ^ R.DMA_RESULT_STATUS.w)) := by
  let s1 := wr s R.DMA_RESULT_VALID 0 e
  have hk : (if (e < 4 || programmedBusy s e) = true then refuseWrite s 8 e R.DMA_GO.off .dmaBusy else
      match descCheck s1 x (x.tenant = 0) with
      | some st => endXfer (noteSeal s1 x.tenant st) e x st 0
      | none => pushXfer s1 e x) = match descCheck s x (x.tenant = 0) with
      | some st => endXfer (noteSeal s1 x.tenant st) e x st 0
      | none => pushXfer s1 e x := by
    rw [if_neg (by rw [hfree]; simpa using he), show descCheck s1 x _ = descCheck s x _ from descCheck_wr rfl s 0 e 0 x _]
  refine ⟨fun h => ?_, fun st h => ?_⟩
  · rw [h] at hk
    subst hx
    subst hd
    refine ends_of_taken (m := maskOf (.host :: written 8)) rfl hw hk rfl
      (pushXfer_touches rfl (wr_touches rfl (Touches.refl _ s))) fun t hnote htouch => ⟨?_, ?_, ?_, sameBut_of_touches htouch⟩
    · rw [engine_of_host (hnote.same (c := .host) rfl)]
      exact engine_setEngine ..
    · rw [hnote.reads rfl]
      unfold pushXfer setEngine
      rw [rd_wr_ne (by decide), rd_wr_ne (by decide)]
      exact rd_wr s R.DMA_RESULT_VALID 0 e 0
    · rw [hnote.reads rfl, pushXfer_busy]
  · have hcheck : descCheck s x (x.tenant = 0) = some st := by unfold descCheck; rw [h]
    rw [hcheck] at hk
    change _ = endXfer (noteSeal s1 x.tenant st) e x st 0 at hk
    rw [noteSeal_of_range h] at hk
    obtain ⟨hvalid, hstatus, hhost, -⟩ := endXfer_program (s := s1) (e := e) (x := x) (st := st) (by rw [hx]) (by rw [hx]) 0
    subst hx
    subst hd
    refine ends_of_taken (m := 0x982438000060D94) rfl hw hk rfl
      (endXfer_touches rfl (wr_touches rfl (Touches.refl _ s))) fun t hnote htouch => ⟨?_, ?_, ?_⟩
    · rw [engine_of_host (hnote.same (c := .host) rfl), engine_of_host hhost]
      rfl
    · rw [hnote.reads rfl, hvalid]
    · rw [hnote.reads rfl, hstatus]

theorem dmaGo_busy {w : Writer} {e : Nat} {s : State} (hw : Writable s w 8 e) (h : e < 4 ∨ programmedBusy s e = true) :
    Ends (.dmaGo w e) s (fun t => rd t (hErrStatus 8) e = statusValue .dmaBusy ∧ SameBut (written 8) s t) :=
  ends_of_refused (m := maskOf (written 8)) (st := .dmaBusy) rfl hw (if_pos (by simpa using h)) rfl rfl rfl
    fun _ _ herr htouch => ⟨herr, sameBut_of_touches htouch⟩

/-! ### The end of a transfer (R263, R264) -/

theorem mergePoison_of_clean {s : State} {a n : Nat} (h : rangePoison s a n = false) : mergePoison s a n = false := by
  rcases Nat.eq_zero_or_pos n with rfl | hn
  · rfl
  · have hfirst := takesByte_of_clean h hn
    have hlast := takesByte_of_clean (j := n - 1) h (by omega)
    unfold TakesByte at hfirst hlast
    rw [Nat.add_zero] at hfirst
    rw [show a + (n - 1) = a + n - 1 by omega] at hlast
    unfold mergePoison
    rw [hfirst, hlast, Bool.false_or, Bool.and_false]

theorem dmaTransferDone_writes {e : Nat} {x : Xfer} {rest : List Xfer} {data : List Byte} {s : State}
    (he : engine s e = x :: rest) (hq : x.queue = none) (hkind : x.kind = 0) (hop : x.op = 0) (hseal : x.sealed = false)
    (hlen : data.length = x.length) (hwait : waitsReRead s (.dma e) = false) (hclean : rangePoison s x.dst x.length = false) :
    Ends (.dmaTransferDone e data none {}) s (fun t =>
      memBytes t x.dst x.length = data ∧
      (∀ b, (b < x.dst ∨ x.dst + x.length ≤ b) → memByte t b = memByte s b) ∧
      engine t e = rest ∧ rd t R.DMA_RESULT_VALID e = 1 ∧ rd t R.DMA_RESULT_STATUS e = statusValue .ok) := by
  let s1 := incWrap (memWrite s x.dst data) R.DMA_RD_UNITS (unitCount x.length) e
  have hauth : authPart s x none = (s, x.length, none) := by
    unfold authPart
    rw [if_neg (by omega), if_neg (by rw [hop, hseal]; decide)]
  have hmove : moveBytes s e x x.length data = (s1, x.length) := by
    unfold moveBytes
    rw [if_pos hop, mergePoison_of_clean hclean, if_neg Bool.false_ne_true, ← hlen, List.take_left']
    · simp only [s1, hlen]
    · rfl
  have hexec : exec (.dmaTransferDone e data none {}) s = .next (endXfer (setEngine s1 e rest) e x .ok x.length) := by
    refine congrArg Host.Outcome.next ?_
    rw [he]
    dsimp only
    rw [show readFails s (.dma e) {} = s from rfl, hwait, if_neg Bool.false_ne_true, hauth]
    dsimp only
    rw [hmove]
    dsimp only
    rw [if_neg (Nat.lt_irrefl _)]
    rfl
  obtain ⟨hvalid, hstatus, hhost, hmem⟩ := endXfer_program (s := setEngine s1 e rest) (e := e) (st := .ok) hq hkind x.length
  have hbytes : ∀ b, memByte (endXfer (setEngine s1 e rest) e x .ok x.length) b = memByte (memWrite s x.dst data) b := fun b => by
    unfold memByte
    rw [hmem]
    rfl
  refine ⟨_, hexec, ?_, fun b hb => ?_, ?_, hvalid, hstatus⟩
  · unfold memBytes
    rw [hmem, ← hlen]
    exact memBytes_memWrite s _ data fun j hj => takesByte_of_clean (by rw [hlen]; exact hclean) hj
  · rw [hbytes]
    exact memByte_memWrite_outside s _ b data (by rw [hlen]; exact hb)
  · rw [engine_of_host hhost, engine_setEngine]

theorem dmaTransferDone_of_empty {e : Nat} {data : List Byte} {bad : Option Nat} {env : MemEnv} {s : State} (he : engine s e = []) :
    exec (.dmaTransferDone e data bad env) s = .next s := by
  refine congrArg Host.Outcome.next ?_
  rw [he]

/-- A transfer from the host that was cut before its first byte has written nothing. -/
theorem moveCut_of_nothing {s : State} {e : Nat} {x : Xfer} (hop : x.op = 0) :
    (moveCut s e x []).1 = incWrap (memWrite s x.dst []) R.DMA_RD_UNITS 0 e := by
  unfold moveCut moveBytes
  rw [hop]
  split <;> rfl

theorem memWrite_nil_cells (s : State) (a : Nat) : (memWrite s a []).mem.cells = s.mem.cells := rfl

theorem hostReadError_of_engine {e : Nat} {x : Xfer} {rest : List Xfer} {s : State} (he : engine s e = x :: rest)
    (hq : x.queue = none) (hkind : x.kind = 0) (hop : x.op = 0) :
    Ends (.hostReadError true e []) s (fun t => engine t e = rest ∧ rd t R.DMA_RESULT_VALID e = 1 ∧
      rd t R.DMA_RESULT_STATUS e = statusValue .dmaHostError % 2 ^ R.DMA_RESULT_STATUS.w ∧
      (∀ b, memByte t b = memByte s b)) := by
  let s1 := hostReadFailed s ((x.queue.map (queueFn s)).getD 0) [e]
  have hexec : exec (.hostReadError true e []) s =
      .next (endXfer (setEngine (moveCut s1 e x []).1 e rest) e x .dmaHostError (moveCut s1 e x []).2) := by
    refine congrArg Host.Outcome.next ((if_pos rfl).trans ?_)
    rw [he]
    dsimp only
    rw [if_neg (not_not_intro hop), List.take_nil]
  obtain ⟨hvalid, hstatus, hhost, hmem⟩ := endXfer_program (s := setEngine (moveCut s1 e x []).1 e rest) (e := e)
    (st := .dmaHostError) hq hkind (moveCut s1 e x []).2
  have hs1 : s1.mem = s.mem := by
    simp only [s1, hostReadFailed, statusEvent, recordEvent_mem, raiseIrq_mem, incSat, wr_mem]
  refine ⟨_, hexec, ?_, hvalid, hstatus, fun b => ?_⟩
  · rw [engine_of_host hhost, engine_setEngine]
  · have hcells : (setEngine (moveCut s1 e x []).1 e rest).mem.cells = s1.mem.cells := by
      rw [moveCut_of_nothing hop]
      exact memWrite_nil_cells s1 x.dst
    unfold memByte
    rw [hmem, hcells, hs1]

theorem hostReadError_of_queue {q : Nat} {r : RunCmd} {s : State} (hrun : (queue s q).run = some r) (hbusy : r.busy = false)
    (hop : runOp r ∈ [3, 5, 0x20]) :
    exec (.hostReadError false q []) s = .next (finishCmd (hostReadFailed s r.fn [q]) q .dmaHostError 0) := by
  refine congrArg Host.Outcome.next ((if_neg Bool.false_ne_true).trans ?_)
  rw [hrun]
  exact if_neg (by rw [hbusy, List.contains_iff_mem.mpr hop]; exact Bool.false_ne_true)

/-- Settles O26, by the checks of a descriptor and the branches of a transfer's end. -/
theorem bulkTransfers : Obligations.BulkTransfers :=
  ⟨fun _ _ _ hrun => dma_goes hrun rfl, fun _ _ _ hw he hfree => dmaGo_goes hw he hfree rfl rfl, fun _ _ _ => dmaGo_busy,
    fun _ _ _ _ _ => dmaTransferDone_writes, fun _ _ _ _ _ => dmaTransferDone_of_empty, fun _ _ _ _ => hostReadError_of_engine,
    fun _ _ _ => hostReadError_of_queue⟩

end Sys2Proof.Proofs
end

section
/-!
Proofs for chapter 11, a layer: what a queue's registers and its own state show after a completion is posted, an interrupt is raised or
an entry is counted (R275, R276, R282).
-/

namespace Sys2Proof.Proofs

open Sys2Proof Sys2Proof.Machine Sys2Proof.Safety Sys2Proof.Certificates Sys2Proof.Laws

@[simp] theorem setQueue_regs (s : State) (q : Nat) (x : Queue) : (setQueue s q x).regs = s.regs := rfl

@[simp] theorem rd_setQueue (s : State) (q : Nat) (x : Queue) (f : Fld) (i k : Nat) : rd (setQueue s q x) f i k = rd s f i k := rfl

theorem queue_of_host {s t : State} (h : t.host = s.host) (q : Nat) : queue t q = queue s q := by
  unfold queue
  rw [h]

@[simp] theorem queue_wr (s : State) (f : Fld) (v i k q : Nat) : queue (wr s f v i k) q = queue s q := rfl

/-- A queue's interrupt leaves every register of a page's own part. -/
theorem rd_queueIrq (s : State) (q : Nat) {n : Nat} (hn : n < 1024) {f : Fld} (hlo : 0x100 ≤ f.off) (hhi : f.off * 8 + f.lo < 2 ^ 15)
    (i k : Nat) : rd (queueIrq s q n) f i k = rd s f i k := by
  unfold queueIrq
  extract_lets fn
  split <;> exact rd_raiseIrq (fldCode_ne_of_header hlo hhi (by simp only [hIrqRaw]; omega)) _ _ _ _

@[simp] theorem queueIrq_host (s : State) (q n : Nat) : (queueIrq s q n).host = s.host := by
  unfold queueIrq
  extract_lets fn
  split <;> exact raiseIrq_host ..

@[simp] theorem queueIrq_mem (s : State) (q n : Nat) : (queueIrq s q n).mem = s.mem := by
  unfold queueIrq
  extract_lets fn
  split <;> exact raiseIrq_mem ..

/-- What has left the module stays in the record of it when an interrupt is raised. -/
theorem mem_out_raiseIrq {s : State} {o : OutEv} (h : o ∈ s.out) (ty i n : Nat) : o ∈ (raiseIrq s ty i n).out := by
  unfold raiseIrq
  split
  · exact h
  · dsimp only
    split
    · exact List.mem_cons_of_mem _ h
    · exact h

theorem mem_out_queueIrq {s : State} {o : OutEv} (h : o ∈ s.out) (q n : Nat) : o ∈ (queueIrq s q n).out := by
  unfold queueIrq
  extract_lets fn
  split <;> exact mem_out_raiseIrq h _ _ _

/-! ### A completion that is posted (R275) -/

/-- A write towards the host leaves the queues and every page but the host port's. -/
theorem queue_towardsHost (s : State) (tenant kind w a tagAddr : Nat) (bs : List Byte) (q : Nat) :
    queue (towardsHost s tenant kind w a tagAddr bs) q = queue s q := by
  unfold towardsHost
  extract_lets word c
  split
  · split <;> rfl
  · rfl

theorem rd_towardsHost (s : State) (tenant kind w a tagAddr : Nat) (bs : List Byte) {f : Fld} (hf : f.ty = 9) (i k : Nat) :
    rd (towardsHost s tenant kind w a tagAddr bs) f i k = rd s f i k :=
  (towardsHost_touches (mm := 0x8000040400) rfl (Touches.refl _ s)).reads (by rw [hf]; rfl)

/-- Posting writes CQ_TAIL alone of the queues' registers. -/
theorem rd_postNow (s : State) (q : Nat) (c : Cpl) {f : Fld} (hf : f.ty = 9) (hcode : fldCode f ≠ fldCode R.Q_CQ_PTR_TAIL)
    (i k : Nat) : rd (postNow s q c) f i k = rd s f i k := by
  unfold postNow
  extract_lets t n x s1 t' s2 s3
  have h2 : rd s2 f i k = rd s f i k := (rd_wr_ne hcode _ _ _ _ _ _).trans (rd_towardsHost _ _ _ _ _ _ _ hf _ _)
  have h3 : rd s3 f i k = rd s f i k := by
    simp only [s3]
    split
    · rw [rd_setQueue, h2]
    · exact h2
  split
  · rw [rd_emit, h3]
  · exact h3

/-- Posting changes the queue's phase at most. -/
theorem queue_postNow (s : State) (q : Nat) (c : Cpl) : ∃ p, queue (postNow s q c) q = { queue s q with phase := p } := by
  unfold postNow
  extract_lets t n x s1 t' s2 s3
  have h2 : queue s2 q = queue s q := queue_towardsHost ..
  have h3 : ∃ p, queue s3 q = { queue s q with phase := p } := by
    simp only [s3]
    split
    · exact ⟨1 - x.phase, queue_setQueue ..⟩
    · exact ⟨_, h2⟩
  split
  · exact h3
  · exact h3

/-! ### Entries of a sealed stream (R282) -/

theorem queue_countEntry (s : State) (q p : Nat) : queue (countEntry s q) p = queue s p := by
  unfold countEntry
  extract_lets t
  split <;> rfl

theorem rd_countEntry (s : State) (q : Nat) (f : Fld) (i k : Nat) : rd (countEntry s q) f i k = rd s f i k := by
  unfold countEntry
  extract_lets t
  split <;> rfl

end Sys2Proof.Proofs
end

section
/-!
Proofs for chapter 11: a flush sets SQ_HEAD to SQ_TAIL, cut to the pointer's sixteen bits, so a register file that holds a wider SQ_TAIL
shows another SQ_HEAD (R288).
-/

namespace Sys2Proof.Proofs

open Sys2Proof Sys2Proof.Machine Sys2Proof.Safety Sys2Proof.Certificates Sys2Proof.Laws

/-- Queue 0 is HALTED, and its SQ_TAIL holds a value of seventeen bits. -/
def wideTail : State :=
  let s := wr State.reset R.Q_STAT_STATE 2
  { s with regs := tset (fldReset R.Q_SQ_PTR_TAIL 0 0) (fldKey R.Q_SQ_PTR_TAIL 0 0) (2 ^ 16) s.regs }

theorem wideTail_control : pageServed wideTail (fnPage 0) 0 = true ∧ queueFn wideTail (qSel wideTail 0) = 0 ∧
    qState wideTail (qSel wideTail 0) = 2 := by
  decide +kernel

/-- After the flush SQ_HEAD holds the lower sixteen bits. -/
theorem flush_wideTail : rd (Machine.queueControl wideTail 0 8 [] []) R.Q_SQ_PTR_HEAD 0 (qSel wideTail 0) ≠
    rd wideTail R.Q_SQ_PTR_TAIL 0 (qSel wideTail 0) := by
  decide +kernel

/-- Refutes O27: the registers are a table of any values, and where SQ_TAIL holds more than its sixteen bits QUEUE_FLUSH leaves SQ_HEAD
at another value than SQ_TAIL's. -/
theorem not_queueControl : ¬ Obligations.QueueControl := by
  rintro ⟨-, -, -, -, h, -⟩
  obtain ⟨hserved, hfn, hst⟩ := wideTail_control
  obtain ⟨t, ht, -, -, hhead, -⟩ := h 0 [] wideTail hserved hfn hst
  have hend : Machine.queueControl wideTail 0 8 [] [] = t := Host.Outcome.next.inj ht
  exact flush_wideTail (hend ▸ hhead)

end Sys2Proof.Proofs
end

section
/-!
Proofs for chapter 11: entries as they are fetched and started, and commands as they end (R272, R276, R277, R284, R285, R288, R292, R293).
-/

namespace Sys2Proof.Proofs

open Sys2Proof Sys2Proof.Machine Sys2Proof.Safety Sys2Proof.Certificates Sys2Proof.Laws

/-! ### Fetching (R272) -/

theorem entryFetched_appends {q : Nat} {bytes : List Byte} {ctr : Nat} {s : State} (hst : qState s q = 1)
    (hopen : admissionsStopped s = false) (hroom : (queue s q).fetched.length < 8)
    (hnext : (queue s q).next ≠ rd s R.Q_SQ_PTR_TAIL 0 q) (hseal : tenSeals s (fnTenant s (queueFn s q)) = false) :
    Ends (.entryFetched q bytes .good ctr) s (fun t =>
      (queue t q).fetched = (queue s q).fetched ++
        [{ idx := (queue s q).next, bytes := (bytes ++ List.replicate 64 0).take 64 }] ∧
      (queue t q).next = ((queue s q).next + 1) % ringN s q ∧ (queue t q).run = (queue s q).run ∧ SameBut [.host] s t) := by
  let e : Sub := { idx := (queue s q).next, bytes := (bytes ++ List.replicate 64 0).take 64 }
  have hfetch : fetchEntry s q (queue s q).next (queue s q).fetched.length bytes .good ctr = (s, e) := by
    unfold fetchEntry
    dsimp only
    rw [hseal, Bool.false_and, if_neg Bool.false_ne_true]
  let y : Queue := { queue s q with fetched := (queue s q).fetched ++ [e], next := ((queue s q).next + 1) % ringN s q }
  have hexec : exec (.entryFetched q bytes .good ctr) s = .next (setQueue s q y) := by
    refine congrArg Host.Outcome.next ((if_neg ?_).trans ?_)
    · simp [hst, hopen, hroom, hnext]
    · rw [hfetch]
  have hq : queue (setQueue s q y) q = y := queue_setQueue ..
  exact ⟨_, hexec, by rw [hq], by rw [hq], by rw [hq], sameBut_of_touches (Touches.host rfl (Touches.refl _ s))⟩

theorem entryFetched_of_full {q : Nat} {bytes : List Byte} {res : FetchRes} {ctr : Nat} {s : State}
    (hfull : 8 ≤ (queue s q).fetched.length) : exec (.entryFetched q bytes res ctr) s = .next s :=
  congrArg Host.Outcome.next (if_pos (by simp [Nat.not_lt.mpr hfull]))

/-! ### Starting (R272, R282, R383) -/

/-- The state in which the first fetched entry has become the running command. -/
def started (s : State) (q : Nat) (e : Sub) (rest : List Sub) (r : RunCmd) : State :=
  countEntry (wr (setQueue s q { queue s q with fetched := rest, run := some r }) R.Q_SQ_PTR_HEAD ((e.idx + 1) % ringN s q) 0 q) q

theorem started_shows (s : State) (q : Nat) (e : Sub) (rest : List Sub) (r : RunCmd) :
    (queue (started s q e rest r) q).run = some r ∧ (queue (started s q e rest r) q).fetched = rest ∧
    rd (started s q e rest r) R.Q_SQ_PTR_HEAD 0 q = (e.idx + 1) % ringN s q % 2 ^ 16 ∧ (started s q e rest r).mem = s.mem ∧
    (started s q e rest r).out = s.out := by
  have hq : queue (started s q e rest r) q = { queue s q with fetched := rest, run := some r } := by
    unfold started
    rw [queue_countEntry, queue_wr, queue_setQueue]
  have htouch : Touches 0x20000000400 s (started s q e rest r) :=
    countEntry_touches rfl (wr_touches rfl (Touches.host rfl (Touches.refl _ s)))
  refine ⟨by rw [hq], by rw [hq], ?_, mem_of_touches htouch rfl rfl, htouch.same (c := .out) rfl⟩
  unfold started
  rw [rd_countEntry, rd_wr]
  rfl

/-- The registers of other pages than the queues' read as before the start. -/
theorem rd_started (s : State) (q : Nat) (e : Sub) (rest : List Sub) (r : RunCmd) {f : Fld}
    (hf : Nat.testBit 0x20000000400 (32 + f.ty % 32) = false) (i k : Nat) : rd (started s q e rest r) f i k = rd s f i k := by
  have htouch : Touches 0x20000000400 s (started s q e rest r) :=
    countEntry_touches rfl (wr_touches rfl (Touches.host rfl (Touches.refl _ s)))
  exact htouch.reads hf

theorem commandStart_starts {q : Nat} {e : Sub} {rest : List Sub} {s : State} (hf : (queue s q).fetched = e :: rest)
    (hst : qState s q = 1) (hrun : (queue s q).run = none) (hheld : (queue s q).held = []) {fn : Nat} (hfn : fn = queueFn s q)
    {r : RunCmd} (hr : r = { sub := e, fn := fn, tenant := fnTenant s fn, start := s.now }) :
    exec (.commandStart q) s = .next (match e.bad with
      | some st => finishCmd (started s q e rest r) q st 0
      | none =>
        if opForbidden r then started s q e rest r
        else if !fnBound s fn then finishCmd (started s q e rest r) q .tenantMismatch 0
        else if fn ≠ 0 && tenState s r.tenant = 2 then finishCmd (started s q e rest r) q .tenantRetiring 0
        else if runOp r = 0x0A && 4 < arg r 17 1 % 8 then finishCmd (started s q e rest r) q .fieldReserved 0
        else started s q e rest r) := by
  subst hfn
  have hbound : fnBound (started s q e rest r) (queueFn s q) = fnBound s (queueFn s q) := by
    unfold fnBound
    rw [rd_started _ _ _ _ _ rfl]
  have hten : tenState (started s q e rest r) r.tenant = tenState s r.tenant := rd_started _ _ _ _ _ rfl _ _
  subst hr
  rw [← hbound, ← hten]
  refine congrArg Host.Outcome.next ?_
  dsimp only
  rw [hf]
  dsimp only
  rw [if_neg (by simp [hst, hrun, hheld])]
  rfl

theorem commandStart_runs {q : Nat} {e : Sub} {rest : List Sub} {s : State} (hf : (queue s q).fetched = e :: rest)
    (hst : qState s q = 1) (hrun : (queue s q).run = none) (hheld : (queue s q).held = []) {fn : Nat} (hfn : fn = queueFn s q)
    {r : RunCmd} (hr : r = { sub := e, fn := fn, tenant := fnTenant s fn, start := s.now }) :
    (e.bad = none → opForbidden r = false → fnBound s fn = true → (fn = 0 ∨ tenState s r.tenant ≠ 2) →
      (runOp r = 0x0A → arg r 17 1 % 8 ≤ 4) →
      Ends (.commandStart q) s (fun t => (queue t q).run = some r ∧ (queue t q).fetched = rest ∧
        rd t R.Q_SQ_PTR_HEAD 0 q = (e.idx + 1) % ringN s q % 2 ^ 16 ∧ t.mem = s.mem ∧ t.out = s.out)) ∧
    (∀ st, e.bad = some st → ∃ u, exec (.commandStart q) s = .next (finishCmd u q st 0) ∧ (queue u q).run = some r ∧
      u.mem = s.mem ∧ u.out = s.out) := by
  have hexec := commandStart_starts hf hst hrun hheld hfn hr
  obtain ⟨hqrun, hfetched, hhead, hmem, hout⟩ := started_shows s q e rest r
  refine ⟨fun hgood hop hbound hten hseq => ⟨_, hexec.trans ?_, hqrun, hfetched, hhead, hmem, hout⟩, fun st hbad =>
    ⟨started s q e rest r, ?_, hqrun, hmem, hout⟩⟩
  · rw [hgood]
    dsimp only
    rw [if_neg (by rw [hop]; exact Bool.false_ne_true), if_neg (by rw [hbound]; exact Bool.false_ne_true), if_neg, if_neg]
    · rw [Bool.and_eq_true, decide_eq_true_eq, decide_eq_true_eq]
      rintro ⟨h, hlt⟩
      exact absurd (hseq h) (by omega)
    · rw [Bool.and_eq_true, decide_eq_true_eq, decide_eq_true_eq]
      rintro ⟨h0, h2⟩
      exact hten.elim h0 fun h => h h2
  · rw [hexec, hbad]

/-! ### Commands that end at once (R277, R285) -/

theorem nop_ends {q : Nat} {r : RunCmd} {s : State} (hrun : running s q 0 = some r) :
    exec (.nop q) s = .next (finishCmd s q .ok 0) := by
  refine congrArg Host.Outcome.next ?_
  rw [hrun]

theorem invalidOpcode_ends {q : Nat} {r : RunCmd} {s : State} (hrun : (queue s q).run = some r) (hop : opForbidden r = true)
    (hbusy : r.busy = false) : exec (.invalidOpcode q) s = .next (finishCmd s q .invalidOpcode 0) := by
  refine congrArg Host.Outcome.next ?_
  rw [hrun]
  exact if_pos (by rw [hop, hbusy]; rfl)

theorem wait_answers {q : Nat} {r : RunCmd} {s : State} (hrun : running s q 2 = some r) :
    (waitCounter r / 4096 ≠ r.tenant → exec (.wait q) s = .next (finishCmd s q .tenantMismatch 0)) ∧
    (waitCounter r / 4096 = r.tenant → arg r 24 8 ≤ sigValue s (waitCounter r) →
      exec (.wait q) s = .next (finishCmd s q .ok (sigValue s (waitCounter r)))) ∧
    (waitCounter r / 4096 = r.tenant → sigValue s (waitCounter r) < arg r 24 8 → exec (.wait q) s = .next (setBusy s q)) := by
  have hexec : exec (.wait q) s = .next (if waitCounter r / 4096 ≠ r.tenant then finishCmd s q .tenantMismatch 0
      else if arg r 24 8 ≤ sigValue s (waitCounter r) then finishCmd s q .ok (sigValue s (waitCounter r)) else setBusy s q) := by
    refine congrArg Host.Outcome.next ?_
    rw [hrun]
  refine ⟨fun h => ?_, fun h hle => ?_, fun h hlt => ?_⟩
  · rw [hexec, if_pos h]
  · rw [hexec, if_neg (not_not_intro h), if_pos hle]
  · rw [hexec, if_neg (not_not_intro h), if_neg (by omega)]

/-! ### Timeouts (R292, R293) -/

theorem commandTimeout_expires {q : Nat} {cut : List (Nat × List Byte)} {r : RunCmd} {s : State} (hrun : (queue s q).run = some r)
    (htmo : rd s R.Q_TIMEOUT 0 q ≠ 0) (htimer : timerRuns r = true) (hst : qState s q = 1) {u : State}
    (hu : u = { s with now := max s.now (r.start + 1000 * rd s R.Q_TIMEOUT 0 q) }) :
    (retryBelow u q = false → exec (.commandTimeout q cut) s = .next (timeOut u q r cut)) ∧
    (retryBelow u q = true → Ends (.commandTimeout q cut) s (fun t => (queue t q).run = some { r with near := true } ∧
      t.now = u.now ∧ SameBut [.now, .host] s t)) := by
  have hexec : exec (.commandTimeout q cut) s = .next (if retryBelow u q then modRun u q (fun r => { r with near := true })
      else timeOut u q r cut) := by
    refine congrArg Host.Outcome.next ?_
    rw [hrun, hu]
    exact if_neg (by simp [htmo, htimer, hst])
  refine ⟨fun h => ?_, fun h => ?_⟩
  · rw [hexec, h]
    rfl
  · rw [if_pos h] at hexec
    refine ⟨_, hexec, ?_, rfl, ?_⟩
    · unfold modRun
      rw [queue_setQueue, hu]
      exact congrArg (Option.map _) hrun
    · rw [hu]
      exact sameBut_of_touches (Touches.host rfl (Touches.now rfl (Touches.refl _ s)))

theorem commandTimeout_of_none {q : Nat} {cut : List (Nat × List Byte)} {s : State} (htmo : rd s R.Q_TIMEOUT 0 q = 0) :
    exec (.commandTimeout q cut) s = .next s := by
  refine congrArg Host.Outcome.next ?_
  split
  · rfl
  · exact if_pos (by rw [htmo]; rfl)

/-! ### The end of a command (R275, R284, R288) -/

/-- With room in the ring, a plain completion goes to host memory at CQ_TAIL, which moves on (R275). -/
theorem postNow_plain {s : State} {q : Nat} (c : Cpl) (hseal : tenSeals s (fnTenant s (queueFn s q)) = false)
    (hdepth : rd s R.Q_CFG_DEPTH_LOG2 0 q ≤ 16) :
    rd (postNow s q c) R.Q_CQ_PTR_TAIL 0 q = (rd s R.Q_CQ_PTR_TAIL 0 q + 1) % ringN s q ∧
    (postNow s q c).mem = s.mem ∧
    OutEv.hostWrite (rd s R.Q_CQ_BASE 0 q + 32 * rd s R.Q_CQ_PTR_TAIL 0 q) (cplBytes c q (queue s q).phase s.now) ∈
      (postNow s q c).out := by
  have hring : (rd s R.Q_CQ_PTR_TAIL 0 q + 1) % ringN s q < 2 ^ 16 :=
    Nat.lt_of_lt_of_le (Nat.mod_lt _ (Nat.two_pow_pos _)) (Nat.pow_le_pow_right (by decide) hdepth)
  unfold postNow
  extract_lets t n x s1 t' s2 s3
  have h1 : s1 = hostWrite s (rd s R.Q_CQ_BASE 0 q + 32 * t) (cplBytes c q x.phase s.now) :=
    if_neg (by rw [hseal]; exact Bool.false_ne_true)
  have h3 : s3.regs = s2.regs ∧ s3.mem = s1.mem ∧ s3.out = s1.out := by
    simp only [s3]
    split <;> exact ⟨rfl, rfl, rfl⟩
  obtain ⟨hregs, hmem, hout⟩ := h3
  have htail : rd s3 R.Q_CQ_PTR_TAIL 0 q = t' := by
    unfold rd
    rw [hregs]
    exact rd_wr_fit s1 R.Q_CQ_PTR_TAIL 0 q hring
  have hin : OutEv.hostWrite (rd s R.Q_CQ_BASE 0 q + 32 * t) (cplBytes c q x.phase s.now) ∈ s3.out := by
    rw [hout, h1]
    exact List.mem_cons_self
  rw [h1] at hmem
  split
  · exact ⟨htail, hmem, List.mem_cons_of_mem _ hin⟩
  · exact ⟨htail, hmem, hin⟩

/-- A halting status takes an ACTIVE queue to HALTED, and another leaves it (R288). -/
theorem haltIf_shows {s : State} {q : Nat} (st : Status) (cid : Nat) (hst : qState s q = 1) :
    qState (haltIf s q st cid) q = (if statusHalts st then 2 else 1) ∧ queue (haltIf s q st cid) q = queue s q ∧
    rd (haltIf s q st cid) R.Q_CQ_PTR_TAIL 0 q = rd s R.Q_CQ_PTR_TAIL 0 q ∧ (haltIf s q st cid).mem = s.mem ∧
    ∀ o ∈ s.out, o ∈ (haltIf s q st cid).out := by
  unfold haltIf
  rw [hst, decide_eq_true rfl, Bool.and_true]
  split
  · refine ⟨?_, ?_, ?_, ?_, fun o ho => ?_⟩
    · unfold qState
      rw [rd_queueIrq _ _ (by decide) (by decide) (by decide), rd_incSat_ne (by decide), rd_wr_ne (by decide),
        rd_wr_ne (by decide), rd_wr]
      rfl
    · rw [queue_of_host (queueIrq_host ..)]
      rfl
    · rw [rd_queueIrq _ _ (by decide) (by decide) (by decide), rd_incSat_ne (by decide), rd_wr_ne (by decide),
        rd_wr_ne (by decide), rd_wr_ne (by decide)]
    · rw [queueIrq_mem]
      rfl
    · have hin : ∀ (v : State), v.out = s.out → o ∈ (queueIrq v q Irq.QMGR_HALT).out := fun v hv =>
        mem_out_queueIrq (hv ▸ ho) _ _
      exact hin _ rfl
  · exact ⟨hst, rfl, rfl, rfl, fun o ho => ho⟩

theorem settle_nil (n : Nat) (s : State) : settle n s [] = s := by
  cases n <;> rfl

/-- One completion is posted, and its status acts on the queue. -/
theorem settleAll_post (s : State) (q : Nat) (c : Cpl) :
    settleAll s [.post q c] = haltIf (postCpl s q c) q c.status c.cid := by
  unfold settleAll
  rw [show 4 * s.host.queues.length + [SigWork.post q c].length + 4 = 4 * s.host.queues.length + 4 + 1 by
    rw [List.length_singleton], settle, settle_nil]

/-- Without a signal to give and a retry below, a command's end is its completion alone. -/
theorem finishCmd_posts {s : State} {q : Nat} {r : RunCmd} (st : Status) (res : Nat) (hrun : (queue s q).run = some r)
    (hst : qState s q = 1) (hnear : r.near = false) (hsig : fieldAt r.sub.bytes 1 1 % 2 = 0) :
    finishCmd s q st res =
      haltIf (postCpl (setQueue s q { queue s q with run := none }) q (runCpl s q r st 0 res)) q st (runCpl s q r st 0 res).cid := by
  have hnone : runSignal r st = [] := if_neg (by rw [hsig]; simp)
  unfold finishCmd
  rw [hrun]
  dsimp only
  rw [if_neg (by omega), hnear, hnone, List.nil_append, settleAll_post, if_neg Bool.false_ne_true, Bool.false_and,
    if_neg Bool.false_ne_true, Nat.or_zero]
  rfl

theorem finishCmd_ends {q : Nat} {r : RunCmd} {st : Status} {res : Nat} {s : State} (hrun : (queue s q).run = some r)
    (hst : qState s q = 1) (hnear : r.near = false) (hsig : fieldAt r.sub.bytes 1 1 % 2 = 0) (hroom : cqFull s q = false)
    (hheld : (queue s q).held = []) (hdepth : rd s R.Q_CFG_DEPTH_LOG2 0 q ≤ 16)
    (hseal : tenSeals s (fnTenant s (queueFn s q)) = false) :
    (queue (finishCmd s q st res) q).run = none ∧
    rd (finishCmd s q st res) R.Q_CQ_PTR_TAIL 0 q = (rd s R.Q_CQ_PTR_TAIL 0 q + 1) % ringN s q ∧
    qState (finishCmd s q st res) q = (if statusHalts st then 2 else 1) ∧ (finishCmd s q st res).mem = s.mem ∧
    OutEv.hostWrite (rd s R.Q_CQ_BASE 0 q + 32 * rd s R.Q_CQ_PTR_TAIL 0 q)
      (cplBytes (runCpl s q r st 0 res) q (queue s q).phase s.now) ∈ (finishCmd s q st res).out := by
  let s1 := setQueue s q { queue s q with run := none }
  let c := runCpl s q r st 0 res
  have hq1 : queue s1 q = { queue s q with run := none } := queue_setQueue ..
  have hpost : postCpl s1 q c = postNow s1 q c := by
    unfold postCpl
    rw [hq1]
    exact if_neg (by rw [show cqFull s1 q = false from hroom, hheld]; simp)
  obtain ⟨htail, hmem, hin⟩ := postNow_plain (s := s1) (q := q) c hseal hdepth
  obtain ⟨p, hqueue⟩ := queue_postNow s1 q c
  have hst1 : qState (postNow s1 q c) q = 1 := (rd_postNow _ _ _ rfl (by decide) _ _).trans hst
  obtain ⟨hstate, hsame, htail2, hmem2, hkeep⟩ := haltIf_shows st c.cid hst1
  rw [hq1] at hin
  rw [finishCmd_posts st res hrun hst hnear hsig, hpost]
  refine ⟨?_, htail2.trans htail, hstate, hmem2.trans hmem, hkeep _ hin⟩
  rw [hsame, hqueue, hq1]

/-- Settles O28, by the branches of the fetch, the start and the end of a command. -/
theorem commandsRun : Obligations.CommandsRun :=
  ⟨fun _ _ _ _ => entryFetched_appends, fun _ _ _ _ _ => entryFetched_of_full,
    fun _ _ _ _ hf hst hrun hheld => commandStart_runs hf hst hrun hheld rfl rfl, fun _ _ _ => nop_ends,
    fun _ _ _ => invalidOpcode_ends, fun _ _ _ => wait_answers,
    fun _ _ _ _ hrun htmo htimer hst => commandTimeout_expires hrun htmo htimer hst rfl, fun _ _ _ => commandTimeout_of_none,
    fun _ _ _ _ _ => finishCmd_ends⟩

end Sys2Proof.Proofs
end

section
/-!
Proofs for chapters 11 to 13: commands to other modules, and the queue manager's registers (R278, R279, R283, R309, R312, R327, R494).
-/

namespace Sys2Proof.Proofs

open Sys2Proof Sys2Proof.Machine Sys2Proof.Safety Sys2Proof.Certificates Sys2Proof.Laws

@[simp] theorem port_setPort (s : State) (p : Nat) (x : WPort) : port (setPort s p x) p = x := tget_tset_same _ _ _ _

theorem port_setPort_ne (s : State) {p q : Nat} (x : WPort) (h : q ≠ p) : port (setPort s p x) q = port s q :=
  tget_tset_ne _ _ h _ _

@[simp] theorem queue_setPort (s : State) (p : Nat) (x : WPort) (q : Nat) : queue (setPort s p x) q = queue s q := rfl

section
variable {q : Nat} {r : RunCmd} {s : State}

theorem peerCopy_answers (hrun : running s q 8 = some r) (hpos : 1 ≤ arg r 20 4) (hmax : arg r 20 4 ≤ 0xFFFFFFFE)
    (hsrc : arg r 24 8 + arg r 20 4 ≤ 2 ^ 64) (hdst : arg r 32 8 + arg r 20 4 ≤ 2 ^ 64) :
    (tenantOk r false (arg r 18 1) = false → exec (.peerCopy q) s = .next (finishCmd s q .tenantMismatch 0)) ∧
    (tenantOk r false (arg r 18 1) = true → tenActive s (arg r 18 1) = true → peerCheck s (arg r 16 2 % 512) = none →
      accessFail s (arg r 18 1) (arg r 24 8) (arg r 20 4) = none →
      exec (.peerCopy q) s = .next (sendPeer s q (arg r 16 2 % 512) (arg r 18 1) (arg r 20 4) 0
        (some (arg r 24 8, arg r 32 8, arg r 20 4)) (fun c => .copyPart c (some (arg r 18 1, arg r 32 8, arg r 20 4)) []))) ∧
    (∀ st, tenantOk r false (arg r 18 1) = true → tenActive s (arg r 18 1) = true →
      peerCheck s (arg r 16 2 % 512) = some st → exec (.peerCopy q) s = .next (finishCmd s q st 0)) := by
  have hlen : ¬(arg r 20 4 < 1 || 0xFFFFFFFE < arg r 20 4 || 2 ^ 64 < arg r 24 8 + arg r 20 4 ||
      2 ^ 64 < arg r 32 8 + arg r 20 4) = true := by
    simp only [Bool.or_eq_true, decide_eq_true_eq]
    omega
  have hexec : exec (.peerCopy q) s = .next (if !tenantOk r false (arg r 18 1) then finishCmd s q .tenantMismatch 0
      else if !tenActive s (arg r 18 1) then finishCmd s q .tenantRetiring 0
      else
        match peerCheck s (arg r 16 2 % 512) with
        | some st => finishCmd s q st 0
        | none =>
          match accessFail s (arg r 18 1) (arg r 24 8) (arg r 20 4) with
          | some st => finishCmd s q st 0
          | none => sendPeer s q (arg r 16 2 % 512) (arg r 18 1) (arg r 20 4) 0 (some (arg r 24 8, arg r 32 8, arg r 20 4))
              (fun c => .copyPart c (some (arg r 18 1, arg r 32 8, arg r 20 4)) [])) := by
    refine congrArg Host.Outcome.next ?_
    rw [hrun]
    exact if_neg hlen
  refine ⟨fun hten => ?_, fun hten hact hpeer hacc => ?_, fun st hten hact hpeer => ?_⟩
  · rw [hexec, hten]
    rfl
  · rw [hexec, hten, hact, hpeer, hacc]
    rfl
  · rw [hexec, hten, hact, hpeer]
    rfl

theorem remoteSignal_answers (hrun : running s q 9 = some r) :
    (∀ st, peerCheck s (arg r 16 2 % 512) = some st → exec (.remoteSignal q) s = .next (finishCmd s q st 0)) ∧
    (peerCheck s (arg r 16 2 % 512) = none → exec (.remoteSignal q) s =
      .next (sendPeer s q (arg r 16 2 % 512) r.tenant 0 1 none
        (fun c => .remoteSignal c r.tenant (arg r 20 4 % 2 ^ 20) (arg r 18 1 % 2 = 1) (arg r 24 8)))) := by
  have hexec : exec (.remoteSignal q) s = .next (match peerCheck s (arg r 16 2 % 512) with
      | some st => finishCmd s q st 0
      | none => sendPeer s q (arg r 16 2 % 512) r.tenant 0 1 none
          (fun c => .remoteSignal c r.tenant (arg r 20 4 % 2 ^ 20) (arg r 18 1 % 2 = 1) (arg r 24 8))) := by
    refine congrArg Host.Outcome.next ?_
    rw [hrun] <;> rfl
  refine ⟨fun st h => ?_, fun h => ?_⟩ <;> rw [hexec, h]

end

/-- A command to another module joins its port's channel where the port is up, and fails at once where it is not (R312). -/
theorem sendPeer_leaves {s : State} {q dst tenant length vc : Nat} {copy : Option (Nat × Nat × Nat)} {body : Nat → Msg}
    {r : RunCmd} (hrun : (queue s q).run = some r) {p : Nat} (hp : p = (routePort (hiveId s) dst).getD 0) :
    (dst ≠ hiveId s → portUp s p = true →
      (sendPeer s q dst tenant length vc copy body).wag.nextCmd = s.wag.nextCmd + 1 ∧
      (queue (sendPeer s q dst tenant length vc copy body) q).run = some { r with busy := true, msg := some s.wag.nextCmd } ∧
      tget [] (port (sendPeer s q dst tenant length vc copy body) p).txq vc = tget [] (port s p).txq vc ++
        [{ vc := vc, src := hiveId s, dst := dst, tenant := tenant, body := body s.wag.nextCmd, copy := copy }] ∧
      SameBut [.host, .links] s (sendPeer s q dst tenant length vc copy body)) ∧
    (dst ≠ hiveId s → portUp s p = false →
      sendPeer s q dst tenant length vc copy body = finishCmd s q .linkDown 0) := by
  subst hp
  refine ⟨fun hdst hup => ?_, fun hdst hdown => if_pos (by simp [hdst, hdown])⟩
  have hgo : ¬(dst ≠ hiveId s && !portUp s ((routePort (hiveId s) dst).getD 0)) = true := by simp [hup]
  have hsend : sendPeer s q dst tenant length vc copy body =
      enqueue (modRun (setBusy { s with wag := { s.wag with
        nextCmd := s.wag.nextCmd + 1,
        cmds := tset none s.wag.nextCmd (some { queue := q, dst := dst, port := (routePort (hiveId s) dst).getD 0, tenant := tenant,
                                                length := length }) s.wag.cmds } } q) q
          (fun r => { r with msg := some s.wag.nextCmd })) ((routePort (hiveId s) dst).getD 0)
        { vc := vc, src := hiveId s, dst := dst, tenant := tenant, body := body s.wag.nextCmd, copy := copy } :=
    (if_neg hgo).trans (if_neg hdst)
  rw [hsend]
  refine ⟨rfl, ?_, ?_, sameBut_of_touches (enqueue_touches rfl (modRun_touches rfl (setBusy_touches rfl
    (Touches.links rfl (Touches.refl _ s)))))⟩
  · unfold enqueue modRun setBusy
    rw [queue_setPort, queue_setQueue, queue_setQueue]
    exact congrArg (Option.map _ ∘ Option.map _) hrun
  · unfold enqueue
    rw [port_setPort]
    exact tget_tset_same _ _ _ _

theorem qmgrSigBaseWrite_answers {w : Writer} {v : Nat} {s : State} (hw : Writable s w 9 0) :
    (liveQueues s = [] → v < 2 ^ 64 → v % 2 ^ 23 = 0 →
      Ends (.qmgrSigBaseWrite w v) s (fun t => rd t R.QMGR_SIG_BASE = v ∧ SameBut (written 9) s t)) ∧
    (liveQueues s ≠ [] → Ends (.qmgrSigBaseWrite w v) s (fun t => rd t R.QMGR_SIG_BASE = rd s R.QMGR_SIG_BASE ∧
      rd t (hErrStatus 9) 0 = statusValue .queueState ∧ SameBut (written 9) s t)) := by
  refine ⟨fun hlive hv halign => ?_, fun hlive => ?_⟩
  · refine ends_of_taken (m := maskOf (written 9)) (x := wr s R.QMGR_SIG_BASE v) rfl hw ?_ rfl
      (wr_touches rfl (Touches.refl _ s)) fun t hnote htouch => ⟨?_, sameBut_of_touches htouch⟩
    · exact (if_neg (by simp [hlive])).trans (if_neg (not_not_intro halign))
    · rw [hnote.reads rfl]
      exact rd_wr_fit _ _ _ _ hv
  · exact ends_of_refused (m := maskOf (written 9)) (st := .queueState) rfl hw (if_pos (by simpa using hlive)) rfl rfl rfl
      fun t hbody herr htouch => ⟨hbody _ rfl (by decide) (by decide) _ _, herr, sameBut_of_touches htouch⟩

theorem dbpMapWrite_moves {w : Writer} {fn : Nat} {s : State} (hw : Writable s w 9 0) (hfn : fn < 64)
    (hlive : (liveQueues s).any (fun q => q / 512 = rd s R.QMGR_DBP_SEL) = false)
    (hpair : fn = 0 ∨ rd s R.QMGR_DBP_MAP 0 ((rd s R.QMGR_DBP_SEL + 64) % 128) ≠ fn) :
    Ends (.dbpMapWrite w fn) s (fun t => rd t R.QMGR_DBP_MAP 0 (rd s R.QMGR_DBP_SEL) = fn ∧
      (∀ k, k ≠ rd s R.QMGR_DBP_SEL → rd t R.QMGR_DBP_MAP 0 k = rd s R.QMGR_DBP_MAP 0 k) ∧ SameBut (written 9) s t) := by
  have hfit : fn % 64 = fn := Nat.mod_eq_of_lt hfn
  refine ends_of_taken (m := maskOf (written 9)) (x := wr s R.QMGR_DBP_MAP fn 0 (rd s R.QMGR_DBP_SEL)) rfl hw ?_ rfl
    (wr_touches rfl (Touches.refl _ s)) fun t hnote htouch => ⟨?_, fun k hk => ?_, sameBut_of_touches htouch⟩
  · refine (if_neg (by rw [hlive]; exact Bool.false_ne_true)).trans (if_neg ?_)
    rw [hfit, Bool.and_eq_true, decide_eq_true_eq, decide_eq_true_eq]
    exact fun h => hpair.elim h.1 fun hne => hne h.2
  · rw [hnote.reads rfl]
    exact rd_wr_fit _ _ _ _ hfn
  · rw [hnote.reads rfl]
    exact rd_wr_inst _ (.inr hk) _ _

/-- Settles O29, by the checks of the commands to peers and the rules of the registers. -/
theorem peersAndQueueRegisters : Obligations.PeersAndQueueRegisters :=
  ⟨fun _ _ _ => peerCopy_answers, fun _ _ _ => remoteSignal_answers, fun _ _ _ _ _ _ _ _ _ hrun => sendPeer_leaves hrun rfl,
    fun _ _ _ => qmgrSigBaseWrite_answers, fun _ _ _ => dbpMapWrite_moves⟩

end Sys2Proof.Proofs
end

section
/-!
Word writes (R13, R485): what a 32-bit write of a register leaves in its fields and in the page's other registers.
-/

namespace Sys2Proof.Proofs

open Sys2Proof Sys2Proof.Machine Sys2Proof.Safety Sys2Proof.Certificates Sys2Proof.Laws

section
variable {w : Writer} {ty i off v : Nat} {low : Bool} {x : State × Option Status × Bool} {f g : Fld}

/-- A field of a written word leaves the state, or is written itself. -/
theorem writeField_effect (w : Writer) (ty i off v : Nat) (low : Bool) (x : State × Option Status × Bool) (f : Fld) :
    (writeField w ty i off v low x f).1 = x.1 ∨
    ∃ n j k, (writeField w ty i off v low x f).1 = wr x.1 (homeFld ty f) n j k := by
  unfold writeField
  extract_lets s f' j k cur new locked
  split
  · exact .inl rfl
  · exact .inr ⟨_, _, _, rfl⟩
  · split
    · exact .inl rfl
    · split
      · exact .inr ⟨_, _, _, rfl⟩
      · exact .inl rfl
  · split
    · exact .inl rfl
    · split
      · split <;> exact .inl rfl
      · split
        · exact .inl rfl
        · split
          · exact .inr ⟨_, _, _, rfl⟩
          · exact .inl rfl

theorem homeFld_of_ne (h : ty ≠ 27) (f : Fld) : homeFld ty f = f := if_neg (by simp [h])

theorem rd_writeField_ne (hty : ty ≠ 27) (h : fldCode g ≠ fldCode f) (j k : Nat) :
    rd (writeField w ty i off v low x f).1 g j k = rd x.1 g j k := by
  obtain he | ⟨n, j', k', he⟩ := writeField_effect w ty i off v low x f
  · rw [he]
  · rw [he, homeFld_of_ne hty, rd_wr_ne h]

theorem rd_foldl_writeField_ne (hty : ty ≠ 27) (fs : List Fld) (h : ∀ f ∈ fs, fldCode g ≠ fldCode f)
    (x : State × Option Status × Bool) (j k : Nat) : rd (fs.foldl (writeField w ty i off v low) x).1 g j k = rd x.1 g j k := by
  induction fs generalizing x with
  | nil => rfl
  | cons f fs ih =>
    rw [List.foldl_cons, ih (fun f hf => h f (List.mem_cons_of_mem _ hf)), rd_writeField_ne hty (h f List.mem_cons_self)]

/-- A writable field that is not locked takes a value that it admits. -/
theorem writeField_takes (hty : ty ≠ 27) (hacc : f.acc = .rw ∨ f.acc = .rws) (hclass : f ≠ R.DIE_PLAN_CLASS_CHANGES)
    (hbank : f.bank = 0) (hlock : f.lock = false ∨ ¬(w = .host ∧ rd x.1 (hLocked ty) i = 1)) {n : Nat}
    (hnew : carried f off v (rd x.1 f i 0) = n) (hfit : n < 2 ^ f.w) (hok : fieldRefuses x.1 ty i v f n = none) :
    rd (writeField w ty i off v false x f).1 f i 0 = n := by
  have hinst : homeInst ty i f = i := if_neg (by simp [hty])
  have hk : bankIdx x.1 ty i f = 0 := if_pos hbank
  have hlk : (f.lock && w = .host && rd x.1 (hLocked ty) i = 1) = false := by
    rw [Bool.and_assoc]
    simp only [Bool.and_eq_false_iff, decide_eq_false_iff_not]
    exact hlock.imp_right fun h => by rwa [← not_and_or]
  have hcase : (writeField w ty i off v false x f).1 = if n = rd x.1 f i 0 then x.1 else wr x.1 f n i 0 := by
    unfold writeField
    rw [homeFld_of_ne hty, hinst]
    dsimp only
    rw [hk, hnew, hlk, hok]
    rcases hacc with h | h <;> rw [h]
    all_goals
      dsimp only
      rw [if_neg (by simp [hclass])]
      split
      · split <;> rfl
      · rfl
  rw [hcase]
  split
  · next h => exact h.symm
  · exact rd_wr_fit _ _ _ _ hfit

end

section
variable {s : State} {w : Writer} {ty i off v : Nat} {f g : Fld}

/-- Outside recovery and where nothing shuts it, a written register holds what its fields have taken. -/
theorem rd_wordWrite (hs : pageServed s ty i = true) (hshut : registerShut s ty i off = none)
    (hpage : Nat.testBit 0x180000000060014 (32 + g.ty % 32) = false) (hlo : 0x100 ≤ g.off) (hhi : g.off * 8 + g.lo < 2 ^ 15)
    (j k : Nat) : rd (wordWrite s w ty i off v) g j k =
      rd ((fieldsAt ty i off).foldl (writeField w ty i off v false) (s, none, false)).1 g j k := by
  obtain ⟨hdom, hrec⟩ := Bool.and_eq_true_iff.mp hs
  have hlow : decide (dom s (pageDomain ty i) ≠ 0) = false := decide_eq_false (not_not_intro (of_decide_eq_true hdom))
  have hgo : ¬(rd s R.BOOT_STAT_RECOVERY = 1 && !recoveryPage ty) = true := by
    rw [Bool.or_eq_true, decide_eq_true_eq] at hrec
    rcases hrec with h | h <;> simp [h]
  unfold wordWrite
  rw [if_neg hgo, hshut]
  dsimp only
  rw [hlow]
  generalize (fieldsAt ty i off).foldl (writeField w ty i off v false) (s, none, false) = r
  have hin : ∀ st, rd (refuseWrite r.1 ty i off st) g j k = rd r.1 g j k := fun st =>
    rd_refuseWrite_of_body _ _ _ _ _ hlo hhi _ _
  split
  · rw [addSat, rd_wr_ne (fldCode_ne_of_header hlo hhi (show 0x02C * 8 + 16 < 0x800 by decide))]
    exact hin .fieldReserved
  · rw [rd_noteSetting _ _ _ _ _ _ _ _ hpage]
    cases r.2.1 with
    | none => rfl
    | some st => exact hin st

/-- A word write leaves the page's other registers. -/
theorem rd_wordWrite_ne (hs : pageServed s ty i = true) (hshut : registerShut s ty i off = none) (hty : ty ≠ 27)
    (hpage : Nat.testBit 0x180000000060014 (32 + g.ty % 32) = false) (hlo : 0x100 ≤ g.off) (hhi : g.off * 8 + g.lo < 2 ^ 15)
    (h : ∀ f ∈ fieldsAt ty i off, fldCode g ≠ fldCode f) (j k : Nat) : rd (wordWrite s w ty i off v) g j k = rd s g j k := by
  rw [rd_wordWrite hs hshut hpage hlo hhi, rd_foldl_writeField_ne hty _ h]

/-- A field of the written register that no lock keeps and that admits the value holds it. -/
theorem rd_wordWrite_unlocked (hs : pageServed s ty i = true) (hshut : registerShut s ty i off = none) (hty : ty ≠ 27)
    (hpage : Nat.testBit 0x180000000060014 (32 + f.ty % 32) = false) (hlo : 0x100 ≤ f.off) (hhi : f.off * 8 + f.lo < 2 ^ 15)
    {a b : List Fld} (hfs : fieldsAt ty i off = a ++ f :: b) (ha : ∀ g ∈ a, fldCode f ≠ fldCode g)
    (hlk : f.lock = false ∨ ¬(w = .host ∧ rd s (hLocked ty) i = 1) ∧ ∀ g ∈ a, fldCode (hLocked ty) ≠ fldCode g)
    (hb : ∀ g ∈ b, fldCode f ≠ fldCode g)
    (hacc : f.acc = .rw ∨ f.acc = .rws) (hclass : f ≠ R.DIE_PLAN_CLASS_CHANGES) (hbank : f.bank = 0) {n : Nat}
    (hnew : carried f off v (rd s f i 0) = n) (hfit : n < 2 ^ f.w) (hok : ∀ u, fieldRefuses u ty i v f n = none) :
    rd (wordWrite s w ty i off v) f i 0 = n := by
  rw [rd_wordWrite hs hshut hpage hlo hhi, hfs, List.foldl_append, List.foldl_cons, rd_foldl_writeField_ne hty b hb]
  refine writeField_takes hty hacc hclass hbank (hlk.imp_right fun h => ?_) ?_ hfit (hok _)
  · rw [rd_foldl_writeField_ne hty a h.2]
    exact h.1
  · rw [rd_foldl_writeField_ne hty a ha]
    exact hnew

/-- A field of a written register that is writable and admits the value holds it. -/
theorem rd_wordWrite_takes (hw : Writable s w ty i) (hshut : registerShut s ty i off = none) (hty : ty ≠ 27)
    (hpage : Nat.testBit 0x180000000060014 (32 + f.ty % 32) = false) (hlo : 0x100 ≤ f.off) (hhi : f.off * 8 + f.lo < 2 ^ 15)
    {a b : List Fld} (hfs : fieldsAt ty i off = a ++ f :: b) (ha : ∀ g ∈ a, fldCode f ≠ fldCode g)
    (hlk : ∀ g ∈ a, fldCode (hLocked ty) ≠ fldCode g) (hb : ∀ g ∈ b, fldCode f ≠ fldCode g)
    (hacc : f.acc = .rw ∨ f.acc = .rws) (hclass : f ≠ R.DIE_PLAN_CLASS_CHANGES) (hbank : f.bank = 0) {n : Nat}
    (hnew : carried f off v (rd s f i 0) = n) (hfit : n < 2 ^ f.w) (hok : ∀ u, fieldRefuses u ty i v f n = none) :
    rd (wordWrite s w ty i off v) f i 0 = n :=
  rd_wordWrite_unlocked hw.1 hshut hty hpage hlo hhi hfs ha (.inr ⟨hw.2, hlk⟩) hb hacc hclass hbank hnew hfit hok

/-- A word write of a page touches the page, the settings list and the recorder. -/
theorem wordWrite_after {m : Nat} (hty : ty ≠ 27) (hfields : ∀ f ∈ fieldsAt ty i off, f.ty % 32 = ty % 32)
    (hp : m.testBit (32 + ty % 32) = true) (hm : 0x180000000060014 &&& m = 0x180000000060014) :
    Touches m s (wordWrite s w ty i off v) := by
  have hfold : ∀ (fs : List Fld), (∀ f ∈ fs, f.ty % 32 = ty % 32) → ∀ (low : Bool) (x : State × Option Status × Bool),
      Touches m s x.1 → Touches m s (fs.foldl (writeField w ty i off v low) x).1 := by
    intro fs
    induction fs with
    | nil => exact fun _ _ _ h => h
    | cons f fs ih =>
      intro hfs low x hx
      refine ih (fun g hg => hfs g (List.mem_cons_of_mem _ hg)) low _ ?_
      obtain he | ⟨n, j', k', he⟩ := writeField_effect w ty i off v low x f
      · rwa [he]
      · rw [he, homeFld_of_ne hty]
        exact wr_touches (by rw [hfs f List.mem_cons_self]; exact hp) hx
  unfold wordWrite
  split
  · exact Touches.refl _ s
  · split
    · exact refuseWrite_touches hp (Touches.refl _ s)
    · extract_lets low r t
      have hr : Touches m s r.1 := hfold _ hfields low _ (Touches.refl _ s)
      have ht : Touches m s t := by
        simp only [t]
        split
        · exact refuseWrite_touches hp hr
        · split
          · exact refuseWrite_touches hp hr
          · exact hr
      split
      · exact addSat_touches hp ht
      · exact noteSetting_touches hm ht

end

end Sys2Proof.Proofs
end

section
/-!
Proofs for chapter 12: a port's states, and the reference (R298, R300, R301, R314, R315, R317, R366, R390).
-/

namespace Sys2Proof.Proofs

open Sys2Proof Sys2Proof.Machine Sys2Proof.Safety Sys2Proof.Certificates Sys2Proof.Laws

/-! ### A port that goes down (R315, R316) -/

section
variable {s : State} {p cause : Nat}

@[simp] theorem rd_setPort (s : State) (p : Nat) (x : WPort) (f : Fld) (i k : Nat) : rd (setPort s p x) f i k = rd s f i k := rfl

@[simp] theorem port_wr (s : State) (f : Fld) (v i k p : Nat) : port (wr s f v i k) p = port s p := rfl

theorem port_of_wag {s t : State} (h : t.wag = s.wag) (p : Nat) : port t p = port s p := by unfold port; rw [h]

theorem rd_links (s : State) (x : Wag) (f : Fld) (i k : Nat) : rd { s with wag := x } f i k = rd s f i k := rfl

theorem rd_refLost {g : Fld} (hty : g.ty = 13) (hlo : 0x100 ≤ g.off) (hhi : g.off * 8 + g.lo < 2 ^ 15)
    (href : fldCode g ≠ fldCode R.WAG_REF_LOCKED) (s : State) (j k : Nat) : rd (refLost s) g j k = rd s g j k := by
  have hq : ∀ u : State, rd (setQuality u 2) g j k = rd u g j k := fun u =>
    Touches.reads (m := 0x180800000060010) (setQuality_touches rfl (Touches.refl _ u)) (by rw [hty]; rfl)
  have hirq : rd (irqEvent (wr s R.WAG_REF_LOCKED 0) 13 0 Irq.WAG_REF_LOST 0 []) g j k = rd s g j k := by
    rw [rd_irqEvent _ _ _ _ _ _ (by rw [hty]; rfl) (fldCode_ne_of_header (g := hIrqRaw 13 Irq.WAG_REF_LOST) hlo hhi (by decide)), rd_wr_ne href]
  unfold refLost
  split
  · dsimp only
    split
    · exact (hq _).trans hirq
    · exact hirq
  · rfl

/-- Ending commands, telling sources and breaking the pair leave the port's registers. -/
theorem rd_afterDown {g : Fld} (hty : g.ty = 13) {u t : State} (lost : List Nat) (fwd : List (Nat × Msg)) (d : Bool)
    (ht : t = fwd.foldl (fun s m => tellUnreachable s m.1 m.2) (lost.foldl (fun s c => endPeer s c .linkDown) u)) (j k : Nat) :
    rd (if d then twinLinkDown t else t) g j k = rd u g j k := by
  have hpage : ∀ {m : Nat} {u t : State}, Touches m u t → m.testBit 45 = false → rd t g j k = rd u g j k := fun h hb =>
    h.reads (by rw [hty]; exact hb)
  have hends : Touches 0x800428000040D80 u (lost.foldl (fun s c => endPeer s c .linkDown) u) :=
    Touches.foldl (Touches.refl _ u) fun _ _ => endPeer_touches rfl (Touches.refl _ _)
  have htells : Touches 0x40800 (lost.foldl (fun s c => endPeer s c .linkDown) u) t := by
    rw [ht]
    exact Touches.foldl (Touches.refl _ _) fun _ _ => tellUnreachable_touches rfl (Touches.refl _ _)
  have hread := (hpage htells rfl).trans (hpage hends rfl)
  clear ht htells
  cases d
  · exact hread
  · exact (hpage (twinLinkDown_touches (mm := 0x181080000064390) rfl (Touches.refl _ t)) rfl).trans hread

/-- Of the port's registers, a port that goes down sets its state, its cause, its replay and its count, and the reference's lock. -/
theorem rd_portDown {g : Fld} (hty : g.ty = 13) (hlo : 0x100 ≤ g.off) (hhi : g.off * 8 + g.lo < 2 ^ 15)
    (hcnt : fldCode g ≠ fldCode R.WAG_DOWN_CNT) (href : fldCode g ≠ fldCode R.WAG_REF_LOCKED) (hup : portUp s p = true)
    (j k : Nat) : rd (portDown s p cause) g j k =
      rd (wr (wr (wr (wr (setPort s p { wait := (port s p).wait, since := s.now, downAt := some s.now }) R.WAG_STAT_STATE 4 p)
        R.WAG_STAT_DOWN_CAUSE cause p) R.WAG_REPLAY_ACTIVE 0 p) R.WAG_REPLAY_HELD 0 p) g j k := by
  have hirq : fldCode g ≠ fldCode (hIrqRaw 13 Irq.WAG_LINK_DOWN) :=
    fldCode_ne_of_header (g := hIrqRaw 13 Irq.WAG_LINK_DOWN) hlo hhi (by decide)
  unfold portDown
  rw [if_neg (by simp [hup])]
  extract_lets x left own queued lost fwd s1 s2 s3 w4 s4 s5 s6 s7
  refine (rd_afterDown hty lost fwd.eraseDups _ (show s7 = _ from rfl) j k).trans ?_
  have h3 : rd s3 g j k = rd (wr s2 R.WAG_REPLAY_HELD 0 p) g j k := by
    simp only [s3]
    rw [rd_irqEvent _ _ _ _ _ _ (by rw [hty]; rfl) hirq, rd_incSat_ne hcnt]
  have h4 : rd s4 g j k = rd s3 g j k := rd_links _ _ _ _ _
  have h5 : rd s5 g j k = rd s4 g j k := by
    simp only [s5]
    split
    · exact rd_refLost hty hlo hhi href ..
    · rfl
  exact h5.trans (h4.trans h3)

theorem portDown_shows (hcause : cause < 16) (hup : portUp s p = true) :
    portState (portDown s p cause) p = 4 ∧ rd (portDown s p cause) R.WAG_STAT_DOWN_CAUSE p = cause := by
  unfold portState
  refine ⟨?_, ?_⟩
  · rw [rd_portDown rfl (by decide) (by decide) (by decide) (by decide) hup, rd_wr_ne (by decide), rd_wr_ne (by decide),
      rd_wr_ne (by decide), rd_wr]
    rfl
  · rw [rd_portDown rfl (by decide) (by decide) (by decide) (by decide) hup, rd_wr_ne (by decide), rd_wr_ne (by decide)]
    exact rd_wr_fit _ _ _ _ hcause

theorem enable_portDown : rd (portDown s p cause) R.WAG_CTL_ENABLE p = rd s R.WAG_CTL_ENABLE p := by
  by_cases hup : portUp s p = true
  · rw [rd_portDown rfl (by decide) (by decide) (by decide) (by decide) hup, rd_wr_ne (by decide), rd_wr_ne (by decide),
      rd_wr_ne (by decide), rd_wr_ne (by decide), rd_setPort]
  · unfold portDown
    rw [if_pos (by simp [hup])]

end

theorem startTraining_shows (s : State) (p : Nat) :
    portState (startTraining s p) p = 1 ∧ (port (startTraining s p) p).order = 1 ∧ (port (startTraining s p) p).since = s.now := by
  have hport : port (startTraining s p) p = { port s p with order := 1, since := s.now } := port_setPort s p _
  exact ⟨rd_wr _ _ _ _ _, by rw [hport], by rw [hport]⟩

theorem rd_startTraining {f : Fld} (h : fldCode f ≠ fldCode R.WAG_STAT_STATE) (s : State) (p j k : Nat) :
    rd (startTraining s p) f j k = rd s f j k := rd_wr_ne h ..

/-! ### Writes of a port's control register (R301, R315) -/

section
variable {w : Writer} {p v : Nat} {s : State}

/-- A served write of WAG_CTL sets ENABLE, and leaves the port's state and what is kept of it. -/
theorem wagWord_shows (hw : Writable s w 13 p) :
    rd (wordWrite s w 13 p 0x100 v) R.WAG_CTL_ENABLE p = v % 2 ∧
    portState (wordWrite s w 13 p 0x100 v) p = portState s p ∧ (wordWrite s w 13 p 0x100 v).now = s.now := by
  have hfs : fieldsAt 13 p 0x100 = [R.WAG_CTL_RETRAIN, R.WAG_CTL_MIN_WIDTH, R.WAG_CTL_MAX_GEN] ++ R.WAG_CTL_ENABLE :: [] := rfl
  have htouch : Touches 0xFFFFFFFF00060014 s (wordWrite s w 13 p 0x100 v) := wordWrite_touches rfl (Touches.refl _ s)
  refine ⟨rd_wordWrite_takes hw rfl (by decide) rfl (by decide) (by decide) hfs (by decide) (by decide) (by decide) (.inl rfl)
    (by decide) rfl ?_ (Nat.mod_lt _ (by decide)) fun u => ?_, ?_, htouch.same (c := .now) rfl⟩
  · exact congrArg (· % 2) (Nat.div_one v)
  · obtain h | h := Nat.mod_two_eq_zero_or_one v <;> rw [h] <;> rfl
  · exact rd_wordWrite_ne hw.1 rfl (by decide) rfl (by decide) (by decide) (by rw [hfs]; decide) _ _

/-- The write of WAG_CTL, with what stopping, starting and retraining do behind it. -/
theorem wagControl_served (hw : Writable s w 13 p) {u : State} (hu : u = wordWrite s w 13 p 0x100 v) {t : State}
    (ht : t = if rd s R.WAG_CTL_ENABLE p = 1 && v % 2 = 0 then
        wr (wr (wr (wr (wr (setPort (portDown u p 7) p {}) R.WAG_STAT_STATE 0 p) R.WAG_STAT_WIDTH 0 p) R.WAG_STAT_DEGRADED 0 p)
          R.WAG_LANES_KEPT 0 p) R.WAG_LANES_LOCKED 0 p
      else if rd s R.WAG_CTL_ENABLE p = 0 && v % 2 = 1 && portState u p = 0 then startTraining u p else u) :
    wagControl s w p v = if bitsOf v 5 1 = 1 && portUp t p then startTraining (portDown t p 7) p else t := by
  subst hu
  unfold wagControl
  dsimp only
  rw [hw.1, (wagWord_shows hw).1, ht]
  exact if_neg Bool.false_ne_true

theorem portEnable_starts (hw : Writable s w 13 p) (hoff : rd s R.WAG_CTL_ENABLE p = 0) (hst : portState s p = 0) :
    Ends (.portEnable w p v) s (fun t => rd t R.WAG_CTL_ENABLE p = 1 ∧ portState t p = 1 ∧ (port t p).order = 1 ∧
      (port t p).since = s.now) := by
  obtain ⟨hen, hstate, hnow⟩ := wagWord_shows (v := v % 32 / 2 * 2 + 1) hw
  have hodd : (v % 32 / 2 * 2 + 1) % 2 = 1 := by omega
  have hbit : bitsOf (v % 32 / 2 * 2 + 1) 5 1 ≠ 1 := by unfold bitsOf; omega
  obtain ⟨h1, h2, h3⟩ := startTraining_shows (wordWrite s w 13 p 0x100 (v % 32 / 2 * 2 + 1)) p
  refine ⟨startTraining (wordWrite s w 13 p 0x100 (v % 32 / 2 * 2 + 1)) p, congrArg Host.Outcome.next ?_, ?_, h1, h2, h3.trans hnow⟩
  · exact (wagControl_served hw rfl ((if_neg (by simp [hoff])).trans (if_pos (by simp [hoff, hodd, hstate, hst]))).symm).trans
      (if_neg (by simp [hbit]))
  · rw [rd_startTraining (by decide), hen, hodd]

theorem portDisable_stops (hw : Writable s w 13 p) (hon : rd s R.WAG_CTL_ENABLE p = 1) :
    Ends (.portDisable w p v) s (fun t => rd t R.WAG_CTL_ENABLE p = 0 ∧ portState t p = 0 ∧ port t p = {}) := by
  have heven : v % 32 / 2 * 2 % 2 = 0 := by omega
  have hbit : bitsOf (v % 32 / 2 * 2) 5 1 ≠ 1 := by unfold bitsOf; omega
  have hstop : wagControl s w p (v % 32 / 2 * 2) = wr (wr (wr (wr (wr (setPort (portDown (wordWrite s w 13 p 0x100
      (v % 32 / 2 * 2)) p 7) p {}) R.WAG_STAT_STATE 0 p) R.WAG_STAT_WIDTH 0 p) R.WAG_STAT_DEGRADED 0 p) R.WAG_LANES_KEPT 0 p)
      R.WAG_LANES_LOCKED 0 p :=
    (wagControl_served hw rfl (if_pos (by simp [hon, heven])).symm).trans (if_neg (by simp [hbit]))
  refine ⟨_, congrArg Host.Outcome.next hstop, ?_, ?_, ?_⟩
  · rw [rd_wr_ne (by decide), rd_wr_ne (by decide), rd_wr_ne (by decide), rd_wr_ne (by decide), rd_wr_ne (by decide), rd_setPort,
      enable_portDown, (wagWord_shows hw).1, heven]
  · unfold portState
    rw [rd_wr_ne (by decide), rd_wr_ne (by decide), rd_wr_ne (by decide), rd_wr_ne (by decide), rd_wr]
    rfl
  · exact port_setPort _ _ _

theorem wagRetrain_retrains (hw : Writable s w 13 p) (hon : rd s R.WAG_CTL_ENABLE p = 1) (hv : v % 2 = 1)
    (hup : portUp s p = true) :
    Ends (.wagRetrain w p v) s (fun t => rd t R.WAG_CTL_ENABLE p = 1 ∧ portState t p = 1 ∧ (port t p).order = 1 ∧
      rd t R.WAG_STAT_DOWN_CAUSE p = 7) := by
  obtain ⟨hen, hstate, hnow⟩ := wagWord_shows (v := v % 32 + 32) hw
  have hodd : (v % 32 + 32) % 2 = 1 := by omega
  have hbit : bitsOf (v % 32 + 32) 5 1 = 1 := by unfold bitsOf; omega
  have hup' : portUp (wordWrite s w 13 p 0x100 (v % 32 + 32)) p = true := by
    unfold portUp at hup ⊢
    rwa [hstate]
  obtain ⟨h1, h2, -⟩ := startTraining_shows (portDown (wordWrite s w 13 p 0x100 (v % 32 + 32)) p 7) p
  refine ⟨startTraining (portDown (wordWrite s w 13 p 0x100 (v % 32 + 32)) p 7) p, congrArg Host.Outcome.next ?_, ?_, h1, h2, ?_⟩
  · exact (wagControl_served hw rfl ((if_neg (by simp [hodd])).trans (if_neg (by simp [hon]))).symm).trans
      (if_pos (by rw [hbit, hup']; rfl))
  · rw [rd_startTraining (by decide), enable_portDown, hen, hodd]
  · rw [rd_startTraining (by decide), (portDown_shows (by decide) hup').2]

end

/-! ### Training and keying (R298, R300, R314, R366, R390) -/

section
variable {p : Nat} {i : PhaseInfo} {s : State} (hst : portState s p = 1) (hl : i.lanes < 16) (hm : i.module < 512)
  (hpp : i.peerPort < 8)
include hst

theorem trainingPhaseDone_takes :
    (i.lanes < 16 → (port s p).order = 1 → Ends (.trainingPhaseDone p i) s (fun t => (port t p).order = 2 ∧
      rd t R.WAG_LANES_LOCKED p = i.lanes ∧ portState t p = 1 ∧ SameBut (pages [13] ++ [.links]) s t)) ∧
    (i.module < 512 → i.peerPort < 8 → (port s p).order = 2 → Ends (.trainingPhaseDone p i) s (fun t => (port t p).order = 3 ∧
      (port t p).peerGen = i.gen ∧ rd t R.WAG_PEER_MODULE p = i.module ∧ rd t R.WAG_PEER_PORT p = i.peerPort ∧
      SameBut (pages [13] ++ [.links]) s t)) ∧
    ((port s p).order = 4 → Ends (.trainingPhaseDone p i) s (fun t => (port t p).order = 5 ∧ portState t p = 2 ∧
      SameBut (pages [13] ++ [.links]) s t)) := by
  have hgo : ∀ {t : State}, _ = t → exec (.trainingPhaseDone p i) s = .next t := fun h =>
    congrArg Host.Outcome.next ((if_neg (not_not_intro hst)).trans h)
  refine ⟨fun hl ho => ⟨wr (setPort s p { port s p with order := 2 }) R.WAG_LANES_LOCKED i.lanes p, hgo (by rw [ho]; rfl), ?_,
      rd_wr_fit _ _ _ _ hl, ?_, ?_⟩,
    fun hm hpp ho => ⟨wr (wr (setPort s p { port s p with order := 3, peerGen := i.gen }) R.WAG_PEER_MODULE i.module p)
      R.WAG_PEER_PORT i.peerPort p, hgo (by rw [ho]; rfl), ?_, ?_, ?_, rd_wr_fit _ _ _ _ hpp, ?_⟩,
    fun ho => ⟨wr (setPort s p { port s p with order := 5 }) R.WAG_STAT_STATE 2 p, hgo (by rw [ho]; rfl), ?_, rd_wr _ _ _ _ _, ?_⟩⟩
  · rw [port_wr, port_setPort]
  · unfold portState
    rw [rd_wr_ne (by decide), rd_setPort]
    exact hst
  · exact sameBut_of_touches (wr_touches rfl (Touches.links rfl (Touches.refl _ s)))
  · rw [port_wr, port_wr, port_setPort]
  · rw [port_wr, port_wr, port_setPort]
  · rw [rd_wr_ne (by decide)]
    exact rd_wr_fit _ _ _ _ hm
  · exact sameBut_of_touches (wr_touches rfl (wr_touches rfl (Touches.links rfl (Touches.refl _ s))))
  · rw [port_wr, port_setPort]
  · exact sameBut_of_touches (wr_touches rfl (Touches.links rfl (Touches.refl _ s)))

/-- Order 3 keeps 4, 2 or 1 lanes, no fewer than MIN_WIDTH, and otherwise stays in hand. -/
theorem trainingPhaseDone_width (hl : i.lanes < 16) (ho : (port s p).order = 3) :
    (maskCount i.lanes ∈ [1, 2, 4] → 2 ^ rd s R.WAG_CTL_MIN_WIDTH p ≤ maskCount i.lanes →
      Ends (.trainingPhaseDone p i) s (fun t => (port t p).order = 4 ∧ rd t R.WAG_LANES_KEPT p = i.lanes ∧
        rd t R.WAG_STAT_WIDTH p = maskCount i.lanes ∧ rd t R.WAG_STAT_DEGRADED p = (if maskCount i.lanes < 4 then 1 else 0) ∧
        SameBut (pages [13] ++ [.links]) s t)) ∧
    ((maskCount i.lanes ∉ [1, 2, 4] ∨ maskCount i.lanes < 2 ^ rd s R.WAG_CTL_MIN_WIDTH p) →
      exec (.trainingPhaseDone p i) s = .next s) := by
  have hexec : exec (.trainingPhaseDone p i) s = .next (
      if !([1, 2, 4].contains (maskCount i.lanes)) || maskCount i.lanes < 2 ^ rd s R.WAG_CTL_MIN_WIDTH p then s
      else wr (wr (wr (wr (setPort s p { port s p with order := 4 }) R.WAG_LANES_KEPT i.lanes p) R.WAG_STAT_WIDTH
        (maskCount i.lanes) p) R.WAG_STAT_GEN (b2n (2 ≤ min (port s p).peerGen (rd s R.WAG_CTL_MAX_GEN p))) p)
        R.WAG_STAT_DEGRADED (b2n (maskCount i.lanes < 4)) p) := by
    refine congrArg Host.Outcome.next ((if_neg (not_not_intro hst)).trans ?_)
    rw [ho]
    rfl
  refine ⟨fun hin hmin => ?_, fun hbad => ?_⟩
  · have hcount : maskCount i.lanes < 8 := by
      simp only [List.mem_cons, List.not_mem_nil, or_false] at hin
      omega
    rw [if_neg (by simp [List.contains_eq_mem, hin, Nat.not_lt.mpr hmin])] at hexec
    refine ⟨_, hexec, ?_, ?_, ?_, ?_, ?_⟩
    · rw [port_wr, port_wr, port_wr, port_wr, port_setPort]
    · rw [rd_wr_ne (by decide), rd_wr_ne (by decide), rd_wr_ne (by decide)]
      exact rd_wr_fit _ _ _ _ hl
    · rw [rd_wr_ne (by decide), rd_wr_ne (by decide)]
      exact rd_wr_fit _ _ _ _ hcount
    · rw [rd_wr]
      unfold b2n
      rcases Nat.lt_or_ge (maskCount i.lanes) 4 with h | h
      · rw [if_pos (decide_eq_true h), if_pos h]; rfl
      · rw [if_neg (by simpa using h), if_neg (Nat.not_lt.mpr h)]; rfl
    · exact sameBut_of_touches (wr_touches rfl (wr_touches rfl (wr_touches rfl (wr_touches rfl (Touches.links rfl
        (Touches.refl _ s))))))
  · rw [hexec, if_pos]
    rw [Bool.or_eq_true, decide_eq_true_eq, Bool.not_eq_true', List.contains_eq_mem, decide_eq_false_iff_not]
    exact hbad

end

theorem trainFail_shows {p cause : Nat} {s : State} (hcause : cause < 16) :
    portState (trainFail s p cause) p = 4 ∧ rd (trainFail s p cause) R.WAG_STAT_DOWN_CAUSE p = cause ∧
    (port (trainFail s p cause) p).wait = min 1000 (2 * (port s p).wait) := by
  unfold trainFail portState
  refine ⟨?_, rd_wr_fit _ _ _ _ hcause, ?_⟩
  · rw [rd_wr_ne (by decide), rd_wr]
    rfl
  · rw [port_wr, port_wr, port_setPort]

theorem trainingBoundExpiry_fails {p : Nat} {s : State} (hst : portState s p = 1 ∨ portState s p = 2) :
    Ends (.trainingBoundExpiry p) s (fun t => portState t p = 4 ∧
      rd t R.WAG_STAT_DOWN_CAUSE p = (if portState s p = 1 then 8 else 5) ∧
      (port t p).wait = min 1000 (2 * (port s p).wait) ∧ SameBut (pages [13] ++ [.links]) s t) := by
  have hexec : exec (.trainingBoundExpiry p) s = .next (trainFail s p (if portState s p = 1 then 8 else 5)) := by
    refine congrArg Host.Outcome.next ?_
    rcases hst with h | h <;> simp [h]
  obtain ⟨h1, h2, h3⟩ := trainFail_shows (p := p) (s := s) (cause := if portState s p = 1 then 8 else 5) (by split <;> decide)
  exact ⟨_, hexec, h1, h2, h3, sameBut_of_touches (trainFail_touches rfl (Touches.refl _ s))⟩

theorem linkUp_shows (s : State) (p : Nat) :
    portState (linkUp s p) p = 3 ∧ (port (linkUp s p) p).txCtr = 1 ∧ (port (linkUp s p) p).since = s.now := by
  unfold linkUp
  extract_lets cr s1 s2 s3
  have hwag : (irqEvent s3 13 p Irq.WAG_LINK_UP 0 []).wag = s1.wag := by
    rw [irqEvent_wag]
    simp only [s3]
    split <;> rfl
  have hport : port (irqEvent s3 13 p Irq.WAG_LINK_UP 0 []) p = { peerGen := (port s p).peerGen, since := s.now, credits := cr } := by
    rw [port_of_wag hwag]
    exact port_setPort _ _ _
  refine ⟨?_, by rw [hport], by rw [hport]⟩
  have hstate : portState s2 p = 3 := by
    unfold portState
    rw [show s2 = wr (wr s1 R.WAG_STAT_STATE 3 p) R.WAG_TX_CTR 1 p from rfl, rd_wr_ne (by decide), rd_wr]
    rfl
  unfold portState
  rw [rd_irqEvent _ _ _ _ _ _ rfl (by decide)]
  simp only [s3]
  split
  · rw [rd_wr_ne (by decide)]
    exact hstate
  · exact hstate

theorem linkKeyExchange_ends {p : Nat} {c g d : Bool} {s : State} (hst : portState s p = 2) :
    (c = true → g = true → d = false → debugOpen s = false →
      Ends (.linkKeyExchange p c g d) s (fun t => portState t p = 3 ∧ (port t p).txCtr = 1 ∧ (port t p).since = s.now ∧
        SameBut (recorded ++ pages [13] ++ [.links]) s t)) ∧
    ((c = false ∨ g = false ∨ d = true ∨ debugOpen s = true) →
      Ends (.linkKeyExchange p c g d) s (fun t => portState t p = 4 ∧ rd t R.WAG_STAT_DOWN_CAUSE p = 5)) := by
  have hexec : exec (.linkKeyExchange p c g d) s =
      .next (if c && g && !d && !debugOpen s then linkUp s p else trainFail s p 5) :=
    congrArg Host.Outcome.next (if_pos hst)
  refine ⟨fun hc hg hd hopen => ?_, fun hbad => ?_⟩
  · rw [if_pos (by rw [hc, hg, hd, hopen]; rfl)] at hexec
    obtain ⟨h1, h2, h3⟩ := linkUp_shows s p
    exact ⟨_, hexec, h1, h2, h3, sameBut_of_touches (linkUp_touches rfl (Touches.refl _ s))⟩
  · rw [if_neg] at hexec
    · obtain ⟨h1, h2, -⟩ := trainFail_shows (p := p) (s := s) (cause := 5) (by decide)
      exact ⟨_, hexec, h1, h2⟩
    · simp only [Bool.and_eq_true, Bool.not_eq_true']
      rintro ⟨⟨⟨rfl, rfl⟩, rfl⟩, h⟩
      simp [h] at hbad

theorem retrainWaitExpiry_trains {p : Nat} {s : State} (hst : portState s p = 4) (hon : rd s R.WAG_CTL_ENABLE p = 1)
    (hcause : rd s R.WAG_STAT_DOWN_CAUSE p ≠ 7) :
    Ends (.retrainWaitExpiry p) s (fun t => portState t p = 1 ∧ (port t p).order = 1 ∧
      t.now = max s.now ((port s p).since + 1000000 * (port s p).wait) ∧ SameBut (pages [13] ++ [.now, .links]) s t) := by
  obtain ⟨h1, h2, -⟩ := startTraining_shows (reachTime s ((port s p).since + 1000000 * (port s p).wait)) p
  exact ⟨_, congrArg Host.Outcome.next (if_pos (by simp [hst, hon, hcause])), h1, h2, rfl,
    sameBut_of_touches (startTraining_touches rfl (Touches.now rfl (Touches.refl _ s)))⟩

/-! ### Ports that leave UP, and the reference (R314, R315, R317) -/

section
variable {p mask : Nat} {s : State} (hmask : mask < 16)
include hmask

theorem laneLockLoss_takes_down (hup : portUp s p = true) (hkept : rd s R.WAG_LANES_KEPT p &&& mask ≠ 0) :
    Ends (.laneLockLoss p mask) s (fun t => portState t p = 4 ∧ rd t R.WAG_STAT_DOWN_CAUSE p = 2) := by
  have hfit : mask % 16 = mask := Nat.mod_eq_of_lt hmask
  have hup' : portUp (wr s R.WAG_LANES_LOCKED (rd s R.WAG_LANES_LOCKED p &&& (15 - mask % 16)) p) p = true := by
    unfold portUp portState
    rw [rd_wr_ne (by decide)]
    exact hup
  obtain ⟨h1, h2⟩ := portDown_shows (cause := 2) (by decide) hup'
  refine ⟨_, congrArg Host.Outcome.next (if_pos ?_), h1, h2⟩
  rw [hup', rd_wr_ne (by decide), hfit]
  simpa using hkept

theorem laneLockLoss_keeps (hkept : rd s R.WAG_LANES_KEPT p &&& mask = 0) :
    Ends (.laneLockLoss p mask) s (fun t => portState t p = portState s p ∧
      rd t R.WAG_LANES_LOCKED p = rd s R.WAG_LANES_LOCKED p &&& (15 - mask) ∧ SameBut [.page 13] s t) := by
  have hfit : mask % 16 = mask := Nat.mod_eq_of_lt hmask
  refine ⟨wr s R.WAG_LANES_LOCKED (rd s R.WAG_LANES_LOCKED p &&& (15 - mask % 16)) p, congrArg Host.Outcome.next (if_neg ?_), ?_, ?_,
    sameBut_of_touches (wr_touches rfl (Touches.refl _ s))⟩
  · rw [rd_wr_ne (by decide), hfit, hkept]
    simp
  · exact rd_wr_ne (by decide) ..
  · rw [hfit]
    exact rd_wr_fit _ _ _ _ (Nat.lt_of_le_of_lt Nat.and_le_right (show 15 - mask < 2 ^ 4 by omega))

end

theorem leavingWaitExpiry_leaves {p x : Nat} {s : State} (hup : portUp s p = true) (hl : (port s p).leaving = some x) :
    Ends (.leavingWaitExpiry p) s (fun t => portState t p = 4 ∧ rd t R.WAG_STAT_DOWN_CAUSE p = 6 ∧ t.now = max s.now (x + 100000)) := by
  have hexec : exec (.leavingWaitExpiry p) s = .next (portDown (reachTime s (x + 100000)) p 6) := by
    refine congrArg Host.Outcome.next ?_
    rw [hl]
  obtain ⟨h1, h2⟩ := portDown_shows (s := reachTime s (x + 100000)) (p := p) (cause := 6) (by decide) hup
  have htouch : Touches 0x981EA8000065F90 (reachTime s (x + 100000)) (portDown (reachTime s (x + 100000)) p 6) :=
    portDown_touches rfl (Touches.refl _ _)
  exact ⟨_, hexec, h1, h2, htouch.same (c := .now) rfl⟩

theorem rekeyDeadline_takes_down {p : Nat} {s : State} (hup : portUp s p = true) (hctr : 2 ^ 48 - 2 ^ 20 ≤ (port s p).txCtr)
    (hnew : (port s p).newTx = false) :
    Ends (.rekeyDeadline p) s (fun t => portState t p = 4 ∧ rd t R.WAG_STAT_DOWN_CAUSE p = 4) := by
  obtain ⟨h1, h2⟩ := portDown_shows (s := s) (p := p) (cause := 4) (by decide) hup
  exact ⟨_, congrArg Host.Outcome.next (if_pos (by rw [hup, hnew, decide_eq_true hctr]; rfl)), h1, h2⟩

theorem rekeyDeadline_of_early {p : Nat} {s : State} (hctr : (port s p).txCtr < 2 ^ 48 - 2 ^ 20) :
    exec (.rekeyDeadline p) s = .next s := by
  refine congrArg Host.Outcome.next (if_neg ?_)
  rw [decide_eq_false (Nat.not_le.mpr hctr), Bool.and_false]
  exact Bool.false_ne_true

theorem refLost_unlocks {s : State} (hlocked : rd s R.WAG_REF_LOCKED = 1) :
    Ends .refLost s (fun t => rd t R.WAG_REF_LOCKED = 0 ∧ t.hive.clean = 0 ∧ SameBut (recorded ++ pages [13, 15] ++ [.hive]) s t) := by
  refine ⟨refLost s, rfl, ?_, ?_, sameBut_of_touches (refLost_touches rfl (Touches.refl _ s))⟩
  all_goals
    unfold refLost
    rw [if_pos hlocked]
    dsimp only
  · have hread : ∀ u : State, rd u R.WAG_REF_LOCKED = 0 → rd (setQuality u 2) R.WAG_REF_LOCKED = 0 := fun u h =>
      ((setQuality_touches (mm := 0x180800000060010) rfl (Touches.refl _ u)).reads rfl).trans h
    have hirq : rd (irqEvent (wr s R.WAG_REF_LOCKED 0) 13 0 Irq.WAG_REF_LOST 0 []) R.WAG_REF_LOCKED = 0 := by
      rw [rd_irqEvent _ _ _ _ _ _ rfl (by decide), rd_wr]
      rfl
    split
    · exact hread _ hirq
    · exact hirq
  · split
    · exact congrArg Hive.clean ((setQuality_touches (mm := 0x180800000060010) rfl (Touches.refl _ _)).same (c := .hive) rfl)
    · rfl

/-- Settles O30, by the control register's writes, the orders of training and the ways down. -/
theorem linkStates : Obligations.LinkStates :=
  ⟨fun _ _ _ _ _ hw _ => portEnable_starts hw, fun _ _ _ _ _ hw _ => portDisable_stops hw,
    fun _ _ _ _ _ hw _ => wagRetrain_retrains hw, fun p i s hst hl hm hpp =>
      have htakes := trainingPhaseDone_takes (i := i) hst
      ⟨htakes.1 hl, htakes.2.1 hm hpp, fun ho => (trainingPhaseDone_width hst hl ho).1,
        fun ho => (trainingPhaseDone_width hst hl ho).2, htakes.2.2⟩,
    fun _ _ => trainingBoundExpiry_fails, fun _ _ _ _ _ => linkKeyExchange_ends, fun _ _ => retrainWaitExpiry_trains,
    fun _ _ _ => laneLockLoss_takes_down, fun _ _ _ => laneLockLoss_keeps, fun _ _ _ => leavingWaitExpiry_leaves,
    fun _ _ => rekeyDeadline_takes_down, fun _ _ => rekeyDeadline_of_early, fun _ => refLost_unlocks,
    fun _ h => congrArg Host.Outcome.next (if_neg (by rw [h]; decide))⟩

end Sys2Proof.Proofs
end

section
/-!
Proofs for chapters 11 and 12: what a peer reports of a command (R278, R309, R312, R327, R382).
-/

namespace Sys2Proof.Proofs

open Sys2Proof Sys2Proof.Machine Sys2Proof.Safety Sys2Proof.Certificates Sys2Proof.Laws

/-- Sending a message leaves the incoming copies. -/
@[simp] theorem copies_sendMsg (s : State) (dst vc tenant : Nat) (m : Msg) :
    (sendMsg s dst vc tenant m).wag.copies = s.wag.copies := by
  unfold sendMsg
  split
  · rfl
  · split
    · split <;> rfl
    · rfl

theorem copyAcceptReport_answers {cmd n : Nat} {c : PeerCmd} {s : State} (hc : tget none s.wag.cmds cmd = some c)
    (hend : c.ending = none) {u : State}
    (hu : u = { s with wag := { s.wag with cmds := tset none cmd (some { c with done := min n c.length }) s.wag.cmds } }) :
    (n < c.length → exec (.copyAcceptReport cmd n .ok) s = .next u) ∧
    (c.length ≤ n → exec (.copyAcceptReport cmd n .ok) s = .next (endPeer u cmd .ok)) ∧
    (∀ st, st ≠ .ok → exec (.copyAcceptReport cmd n st) s = .next (endPeer (abortCopy u cmd) cmd st)) := by
  have hexec : ∀ st, exec (.copyAcceptReport cmd n st) s = .next (if st ≠ .ok then endPeer (abortCopy u cmd) cmd st
      else if c.length ≤ n then endPeer u cmd .ok else u) := fun st => by
    refine congrArg Host.Outcome.next ?_
    rw [hc, hu]
    exact if_neg (by simp [hend])
  refine ⟨fun h => ?_, fun h => ?_, fun st h => ?_⟩
  · rw [hexec, if_neg (not_not_intro rfl), if_neg (Nat.not_le.mpr h)]
  · rw [hexec, if_neg (not_not_intro rfl), if_pos h]
  · rw [hexec, if_pos h]

/-- A command that ends is forgotten, and completes on its queue. -/
theorem endPeer_finishes {s : State} {n : Nat} {st : Status} {c : PeerCmd} (hc : tget none s.wag.cmds n = some c) :
    ∃ u, endPeer s n st = finishCmd u c.queue (if c.stop = true ∧ st = .ok then .hiveStopped else st) c.done ∧
      tget none u.wag.cmds n = none ∧ SameBut [.links] s u := by
  refine ⟨{ s with wag := { s.wag with cmds := tset none n none s.wag.cmds } }, ?_,
    show tget none (tset none n none s.wag.cmds) n = none from tget_tset_same _ _ _ _, sameBut_of_touches (Touches.links rfl (Touches.refl _ s))⟩
  unfold endPeer
  rw [hc]
  simp only [Bool.and_eq_true, decide_eq_true_eq]

theorem copyAbort_forgets {src cmd : Nat} {c : InCopy} {s : State}
    (hc : s.wag.copies.find? (fun c => c.src = src && c.cmd = cmd) = some c) :
    Ends (.copyAbort src cmd) s (fun t => t.wag.copies = s.wag.copies.filter (fun c => !(c.src = src && c.cmd = cmd)) ∧
      t.mem = s.mem ∧ SameBut [.links, .out] s t) := by
  let u : State := { s with wag := { s.wag with copies := s.wag.copies.filter (fun c => !(c.src = src && c.cmd = cmd)) } }
  have hexec : exec (.copyAbort src cmd) s = .next (reportCopy u c .ok) := by
    refine congrArg Host.Outcome.next ?_
    rw [hc]
  have htouch : Touches 0x40800 s (reportCopy u c .ok) := reportCopy_touches rfl (Touches.links rfl (Touches.refl _ s))
  exact ⟨_, hexec, copies_sendMsg .., mem_of_touches htouch rfl rfl, sameBut_of_touches htouch⟩

/-- Settles O32, by the branches of the reports. -/
theorem peerReports : Obligations.PeerReports :=
  ⟨fun _ _ => rfl, fun _ => rfl, fun _ _ _ _ hc hend => copyAcceptReport_answers hc hend rfl, fun _ _ _ _ => endPeer_finishes,
    fun _ _ _ _ => copyAbort_forgets, fun _ _ _ hc => congrArg Host.Outcome.next (by rw [hc])⟩

end Sys2Proof.Proofs
end

section
/-!
Chapter 13, formation (R323): the member list of a formation may name an identity that lies outside the hive's 512.
-/

namespace Sys2Proof.Proofs

open Sys2Proof Sys2Proof.Machine Sys2Proof.Safety Sys2Proof.Certificates Sys2Proof.Laws

/-- A module that has answered the call of epoch 0 from module 0 and waits for the list of members. -/
def formingModule : State :=
  let s := setHiveState State.reset 1
  { s with hive := { s.hive with claimed := some (0, 0) } }

theorem formingModule_waits : hiveState formingModule = 1 ∧ formingModule.hive.order = 0 ∧
    formingModule.hive.claimed = some (0, 0) ∧ [0, 32704].contains (hiveId formingModule) = true ∧
    rd formingModule R.WAG_CTL_ENABLE 7 = 0 ∧ 511 ≠ hiveId formingModule := by
  decide +kernel

/-- The bit of identity 32704 in the map of members is the lowest bit of HIVE_EPOCH. -/
theorem epoch_enterHive_formingModule : rd (enterHive formingModule 0 0 [0, 32704] 511 0 false) R.HIVE_EPOCH = 1 := by
  decide +kernel

theorem memberList_enters {src epoch : Nat} {l : List Nat} {deputy time : Nat} {bypass : Bool} {s : State}
    (hst : hiveState s = 1) (hord : s.hive.order = 0) (hclaim : s.hive.claimed = some (epoch, src))
    (hin : l.contains (hiveId s) = true) :
    exec (.memberList src epoch l deputy time bypass) s = .next (enterHive s src epoch l deputy time bypass) :=
  congrArg Host.Outcome.next ((if_pos (by simp [hst, hord, hclaim])).trans (if_pos hin))

/-- Refutes O33: MEMBER_LIST of epoch 0 whose list names identity 32704 beside the module's own leaves HIVE_EPOCH at 1. -/
theorem not_formation : ¬ Obligations.Formation := by
  rintro ⟨-, -, -, -, -, -, -, -, -, h, -⟩
  obtain ⟨hst, hord, hclaim, hin, hport, hdep⟩ := formingModule_waits
  obtain ⟨t, ht, -, -, hepoch, -⟩ :=
    (h 0 0 [0, 32704] 511 0 false formingModule hst hord hclaim).1 hin (by decide) (by decide) hport hdep
  have hend : enterHive formingModule 0 0 [0, 32704] 511 0 false = t :=
    Host.Outcome.next.inj ((memberList_enters hst hord hclaim hin).symm.trans ht)
  exact absurd (hend ▸ hepoch) (by rw [epoch_enterHive_formingModule]; decide)

end Sys2Proof.Proofs
end

section
/-!
Chapter 13, upkeep of the hive (R339): an update of the members may name an identity that lies outside the hive's 512.
-/

namespace Sys2Proof.Proofs

open Sys2Proof Sys2Proof.Machine Sys2Proof.Safety Sys2Proof.Certificates Sys2Proof.Laws

/-- Module 0 as a member of a running hive that is not a hive of one. -/
def runningMember : State := wr (wr (setHiveState State.reset 2) R.HIVE_ROLE_ROLE_CFG 1) R.HIVE_ROLE_ROLE 1

theorem runningMember_follows : hiveState runningMember = 2 ∧ isQueen runningMember = false ∧ hiveOfOne runningMember = false ∧
    [0, 32640].contains (hiveId runningMember) = true := by
  decide +kernel

/-- The members' map and the deputy after an update, as MEMBERSHIP_UPDATE writes them before it asks for the module's own bit. -/
def updatedMember : State := setDeputy (setMembers runningMember [0, 32640]) 0x1FF

/-- The bit of identity 32640 in the map of members is the lowest bit of the hive's state. -/
theorem updatedMember_shows : hiveState updatedMember = 3 ∧ [0, 32640].contains (hiveId updatedMember) = true ∧
    [0, 32640].contains (rd runningMember R.HIVE_DEPUTY_DEPUTY) = false := by
  decide +kernel

theorem membershipUpdate_takes {l : List Nat} {s u : State} (hst : hiveState s = 2) (hq : isQueen s = false)
    (hone : hiveOfOne s = false) (hdep : l.contains (rd s R.HIVE_DEPUTY_DEPUTY) = false)
    (hu : u = setDeputy (setMembers s l) 0x1FF) (hin : l.contains (hiveId u) = true) :
    exec (.membershipUpdate l) s = .next u := by
  subst hu
  have hnone : (if l.contains (rd s R.HIVE_DEPUTY_DEPUTY) then rd s R.HIVE_DEPUTY_DEPUTY else 0x1FF) = 0x1FF :=
    if_neg (by rw [hdep]; exact Bool.false_ne_true)
  refine congrArg Host.Outcome.next ((if_neg (by simp [hst, hq, hone])).trans ?_)
  dsimp only
  rw [hnone]
  exact if_pos hin

/-- Refutes O34: MEMBERSHIP_UPDATE whose list names identity 32640 beside the module's own takes a member's state from 2 to 3. -/
theorem not_hiveUpkeep : ¬ Obligations.HiveUpkeep := by
  rintro ⟨-, -, -, -, -, -, -, -, -, -, -, h, -⟩
  obtain ⟨hst, hq, hone, hin⟩ := runningMember_follows
  obtain ⟨hstate, hstill, hdep⟩ := updatedMember_shows
  obtain ⟨t, ht, hkept, -⟩ := h [0, 32640] runningMember hst hq hone hin
  have hend : updatedMember = t :=
    Host.Outcome.next.inj ((membershipUpdate_takes hst hq hone hdep rfl hstill).symm.trans ht)
  exact absurd (hend ▸ hkept) (by rw [hstate]; decide)

end Sys2Proof.Proofs
end

section
/-!
Chapter 13, barriers (R338): HIVE_MOD_SEL of an arbitrary state may name an identity that lies outside the hive's 512.
-/

namespace Sys2Proof.Proofs

open Sys2Proof Sys2Proof.Machine Sys2Proof.Safety Sys2Proof.Certificates Sys2Proof.Laws

/-- The queen of a running hive with a budget of 0, whose register shows one expulsion; HIVE_MOD_SEL holds 576. -/
def selectedBeyond : State :=
  let s := wr (wr (wr (setHiveState State.reset 2) R.HIVE_ROLE_ROLE 3) R.HIVE_EXPEL_CFG_BUDGET 0) R.HIVE_EXPEL_STAT_USED 1
  { s with regs := tset (fldReset R.HIVE_MOD_SEL 0 0) (fldKey R.HIVE_MOD_SEL 0 0) 576 s.regs }

theorem selectedBeyond_acts : pageServed selectedBeyond 14 0 = true ∧ queenActs selectedBeyond = true ∧
    isMember selectedBeyond (rd selectedBeyond R.HIVE_MOD_SEL) = true ∧
    rd selectedBeyond R.HIVE_MOD_SEL ≠ hiveId selectedBeyond ∧ budgetSpent selectedBeyond = true := by
  decide +kernel

/-- The bit of identity 576 in the map of members is the lowest bit of the count of expulsions, which the refusal shows anew. -/
theorem hiveExpel_selectedBeyond : (match exec (.hiveExpel .firmware) selectedBeyond with
    | .next t => isMember t (rd selectedBeyond R.HIVE_MOD_SEL)
    | _ => true) = false := by
  decide +kernel

/-- Refutes O35: HIVE_EXPEL beyond the budget, of the identity 576 that HIVE_MOD_SEL holds, takes its bit off the map of members. -/
theorem not_barriers : ¬ Obligations.Barriers := by
  rintro ⟨-, -, -, -, -, -, -, -, -, -, -, -, h, -⟩
  obtain ⟨hserved, hacts, hmember, hother, hspent⟩ := selectedBeyond_acts
  obtain ⟨t, ht, hstays, -⟩ :=
    (h .firmware selectedBeyond ⟨hserved, fun hlock => Writer.noConfusion hlock.1⟩ hacts hmember hother).2 hspent
  have hgone := hiveExpel_selectedBeyond
  rw [ht] at hgone
  exact Bool.false_ne_true (hgone.symm.trans hstays)

end Sys2Proof.Proofs
end

section
/-!
Proofs for chapter 14: pairs of twin modules (R346, R357, R358).
-/

namespace Sys2Proof.Proofs

open Sys2Proof Sys2Proof.Machine Sys2Proof.Safety Sys2Proof.Certificates Sys2Proof.Laws

/-- A write that a page takes ends in its effect and the note of a setting. -/
theorem ends_of_effect {c : Instr} {s x : State} {w : Writer} {ty i off : Nat} {touches : Bool} {k : State → State}
    {P : State → Prop} (hc : exec c s = .next (regWrite s w ty i off touches k)) (hw : Writable s w ty i) (hk : k s = x)
    (hP : ∀ t, Touches 0x180000000060014 x t → P t) : Ends c s P := by
  rw [regWrite_taken hw.1 fun h => hw.2 h.2, hk] at hc
  exact ⟨_, hc, hP _ (noteSetting_after ..)⟩

/-! ### Messages to the twin (R348) -/

/-- The messages that wait for the twin. -/
def twinBodies (s : State) : List Msg := (tget [] (port s 6).txq 3).map OutMsg.body

theorem twinBodies_of_wag {s t : State} (h : t.wag = s.wag) : twinBodies t = twinBodies s := by
  unfold twinBodies
  rw [port_of_wag h]

theorem twinBodies_sendTwin {s : State} (hup : portUp s 6 = true) (m : Msg) : twinBodies (sendTwin s m) = twinBodies s ++ [m] := by
  have hsend : sendTwin s m = enqueue s 6 { vc := 3, src := hiveId s, dst := rd s R.WAG_PEER_MODULE 6, tenant := 0, body := m } :=
    if_pos hup
  rw [hsend]
  unfold enqueue twinBodies
  rw [port_setPort, show ∀ l : List OutMsg, tget [] (tset [] 3 l (port s 6).txq) 3 = l from fun l => tget_tset_same _ _ _ _,
    List.map_append]
  rfl

theorem mem_twinBodies_sendTwin {s : State} {b : Msg} (h : b ∈ twinBodies s) (m : Msg) : b ∈ twinBodies (sendTwin s m) := by
  by_cases hup : portUp s 6 = true
  · rw [twinBodies_sendTwin hup]
    exact List.mem_append_left _ h
  · rwa [show sendTwin s m = s from if_neg hup]

theorem twin_foldl_setTwinPart (l : List (Nat × Nat)) (s : State) :
    ∃ x, l.foldl (fun s e => setTwinPart s e.1 { twinPart s e.1 with toldPace := e.2 }) s =
      { s with twin := { s.twin with parts := x } } := by
  induction l generalizing s with
  | nil => exact ⟨_, rfl⟩
  | cons e l ih => exact ih _

/-- Telling the twin of paces keeps what asks for a pair, and the messages that wait. -/
theorem tellPace_keeps (s : State) : (tellPace s).twin.asked = s.twin.asked ∧ (tellPace s).twin.peerAsk = s.twin.peerAsk ∧
    ∀ b ∈ twinBodies s, b ∈ twinBodies (tellPace s) := by
  unfold tellPace
  split
  · exact ⟨rfl, rfl, fun _ h => h⟩
  · dsimp only
    split
    · exact ⟨rfl, rfl, fun _ h => h⟩
    · obtain ⟨x, hx⟩ := twin_foldl_setTwinPart (((List.range 64).filter (fun p => mirrored s p &&
        (twinPart s p).toldPace ≠ promisePace s p)).map (fun p => (p, promisePace s p))) s
      rw [hx]
      have htwin : ∀ (u : State) (m : Msg), (sendTwin u m).twin = u.twin := fun u m =>
        Touches.same (m := 0x800) (c := .twin) (sendTwin_touches rfl (Touches.refl _ u)) rfl
      exact ⟨by rw [htwin], by rw [htwin], fun b h => mem_twinBodies_sendTwin (by exact h) _⟩

/-! ### Pairing (R346) -/

theorem formPair_shows {s : State} {role : Nat} (hrole : role < 8) :
    twinState (formPair s role) = role ∧ (formPair s role).twin.asked = none ∧ (formPair s role).twin.peerAsk = none ∧
    rd (formPair s role) R.TWIN_SKEW = 0 ∧ rd (formPair s role) R.TWIN_STAT_CAUSE = 0 ∧
    rd (formPair s role) (hIrqRaw 16 Irq.TWIN_PAIRED) 0 = 1 ∧
    (role = 1 → portUp s 6 = true → Msg.twinControl 6 (profileWords s) ∈ twinBodies (formPair s role)) := by
  unfold formPair
  extract_lets s1 s2 w3 s3 s4
  obtain ⟨hasked, hpeer, hbodies⟩ := tellPace_keeps s4
  have hsent : Touches 0x800 s3 s4 := by
    simp only [s4]
    split
    · exact sendTwin_touches rfl (Touches.refl _ _)
    · exact Touches.refl _ _
  have hregs : ∀ (f : Fld) (i k : Nat), f.ty = 16 → rd (tellPace s4) f i k = rd s3 f i k := fun f i k hf =>
    (Touches.reads (m := 0x4800) (tellPace_touches rfl (Touches.refl _ s4)) (by rw [hf]; rfl)).trans
      (hsent.reads (by rw [hf]; rfl))
  have hirq : ∀ {f : Fld}, Nat.testBit 0x180000000060010 (32 + f.ty % 32) = false →
      fldCode f ≠ fldCode (hIrqRaw 16 Irq.TWIN_PAIRED) → ∀ i k, rd s3 f i k = rd (wr (wr (wr (wr (wr (endAttempt (twinReset s)) R.TWIN_SKEW 0) R.TWIN_SKEW_MAX 0) R.TWIN_STAT_STATE role)
        R.TWIN_STAT_CAUSE 0) R.TWIN_STAT_VERDICT 0) f i k := fun hf hcode i k =>
    rd_irqEvent _ _ _ _ _ _ hf hcode i k
  have htwin : s3.twin = { s2.twin with serial := 0 } := irqEvent_twin ..
  have htwin4 : s4.twin = s3.twin := hsent.same (c := .twin) rfl
  refine ⟨?_, ?_, ?_, ?_, ?_, ?_, fun h1 hup => hbodies _ ?_⟩
  · unfold twinState
    rw [hregs _ _ _ rfl, hirq rfl (by decide), rd_wr_ne (by decide), rd_wr_ne (by decide)]
    exact rd_wr_fit _ _ _ _ hrole
  · rw [hasked, htwin4, htwin]
    rfl
  · rw [hpeer, htwin4, htwin]
    rfl
  · rw [hregs _ _ _ rfl, hirq rfl (by decide), rd_wr_ne (by decide), rd_wr_ne (by decide), rd_wr_ne (by decide),
      rd_wr_ne (by decide), rd_wr]
    rfl
  · rw [hregs _ _ _ rfl, hirq rfl (by decide), rd_wr_ne (by decide), rd_wr]
    rfl
  · rw [hregs _ _ _ rfl]
    exact rd_irqEvent_same ..
  · have hread : ∀ {f : Fld}, Nat.testBit 0x180000000060010 (32 + f.ty % 32) = false →
        fldCode f ≠ fldCode (hIrqRaw 16 Irq.TWIN_PAIRED) →
        fldCode f ∉ [R.TWIN_SKEW, R.TWIN_SKEW_MAX, R.TWIN_STAT_STATE, R.TWIN_STAT_CAUSE, R.TWIN_STAT_VERDICT].map fldCode →
        ∀ i k, rd s3 f i k = rd s f i k := fun hf hne hcodes i k => by
      simp only [List.map_cons, List.map_nil, List.mem_cons, List.not_mem_nil, or_false, not_or] at hcodes
      obtain ⟨h1, h2, h3, h4, h5⟩ := hcodes
      rw [hirq hf hne, rd_wr_ne h5, rd_wr_ne h4, rd_wr_ne h3, rd_wr_ne h2, rd_wr_ne h1]
      rfl
    have hprof : profileWords s3 = profileWords s := by
      unfold profileWords
      refine congrArg (fun g => (List.range 16).flatMap g) (funext fun k => ?_)
      rw [hread rfl (by decide) (by decide), hread rfl (by decide) (by decide), hread rfl (by decide) (by decide),
        hread rfl (by decide) (by decide)]
    have hup3 : portUp s3 6 = true := by
      unfold portUp portState
      rw [hread rfl (by decide) (by decide)]
      exact hup
    have hs4 : s4 = sendTwin s3 (.twinControl 6 (profileWords s3)) := if_pos h1
    rw [hs4, twinBodies_sendTwin hup3, hprof]
    exact List.mem_append_right _ List.mem_cons_self

/-- PAIR has been written here, and the peer is told. -/
def asking (s : State) : State :=
  sendTwin { s with twin := { s.twin with asked := some s.now } } (.twinControl 1 (pairWords s))

theorem asking_eq (s : State) : ∃ x, asking s = { s with twin := { s.twin with asked := some s.now }, wag := x } := by
  unfold asking sendTwin sendOn
  split
  · exact ⟨_, rfl⟩
  · exact ⟨_, rfl⟩

/-- The checks on a pair whose two messages are there, in their order. -/
theorem tryPair_decides {s : State} {a x : Nat} {m : List Nat} (hasked : s.twin.asked = some a) (hpeer : s.twin.peerAsk = some (x, m))
    (hup : portUp s 6 = true) :
    tryPair s = if m.getD 1 0 ≠ rd s R.TWIN_PARTS || rd s R.TWIN_CFG_ROLE_CFG + m.getD 0 0 ≠ 3 || rd s R.TWIN_CFG_ROLE_CFG = 0 ||
        m.getD 0 0 = 0 || m.getD 2 0 ≠ rd s R.TWIN_CFG_PEER || m.getD 3 0 ≠ hiveId s then refusePair s .fieldReserved
      else if mirrorBusy s || m.getD 4 0 = 1 then refusePair s .partitionBusy
      else formPair s (rd s R.TWIN_CFG_ROLE_CFG) := by
  unfold tryPair
  rw [hasked, hpeer]
  exact if_neg (by simp [hup])

section
variable {w : Writer} {s : State} (hw : Writable s w 16 0)
include hw

theorem twinPair_of_paired (hst : twinState s ≠ 0) :
    Ends (.twinPair w) s (fun t => twinState t = twinState s ∧ t.twin = s.twin ∧ t.wag = s.wag) :=
  ends_of_effect (x := s) rfl hw (if_pos hst) fun _ h => ⟨h.reads rfl, h.same (c := .twin) rfl, h.same (c := .links) rfl⟩

theorem twinPair_of_down (hst : twinState s = 0) (hdown : portUp s 6 = false) :
    Ends (.twinPair w) s (fun t => twinState t = 0 ∧ t.twin.asked = none ∧ rd t (hErrStatus 16) 0 = statusValue .linkDown) := by
  refine ends_of_effect (x := refusePair s .linkDown) rfl hw ((if_neg (not_not_intro hst)).trans (if_pos (by simp [hdown])))
    fun t h => ⟨?_, ?_, ?_⟩
  · exact (h.reads rfl).trans ((rd_refuseWrite_of_body _ _ _ _ _ (by decide) (by decide) _ _).trans hst)
  · rw [show t.twin = (refusePair s .linkDown).twin from h.same (c := .twin) rfl]
    rfl
  · rw [h.reads rfl]
    exact rd_refuseWrite_hErrStatus ..

/-- A first write of PAIR over a link that is UP tells the peer, and looks at the peer's message where it has not lapsed. -/
theorem twinPair_asks (hst : twinState s = 0) (hup : portUp s 6 = true)
    (hfresh : ∀ x m, s.twin.peerAsk = some (x, m) → s.now ≤ x + 1000000000) {P : State → Prop}
    (hP : ∀ t, Touches 0x180000000060014 (tryPair (asking s)) t → P t) : Ends (.twinPair w) s P := by
  refine ends_of_effect (x := tryPair (asking s)) rfl hw ((if_neg (not_not_intro hst)).trans ((if_neg (by simp [hup])).trans ?_)) hP
  have hkept : freshAsk { s with twin := { s.twin with asked := some s.now } } = { s with twin := { s.twin with asked := some s.now } } := by
    unfold freshAsk
    split
    · next x m h => exact if_neg (Nat.not_lt.mpr (hfresh x m h))
    · rfl
  dsimp only
  rw [hkept]
  rfl

theorem twinPair_waits (hst : twinState s = 0) (hup : portUp s 6 = true) (hpeer : s.twin.peerAsk = none) :
    Ends (.twinPair w) s (fun t => twinState t = 0 ∧ t.twin.asked = some s.now ∧
      twinBodies t = twinBodies s ++ [.twinControl 1 (pairWords s)]) := by
  refine twinPair_asks hw hst hup (fun x m h => by rw [hpeer] at h; cases h) fun t h => ?_
  obtain ⟨y, hy⟩ := asking_eq s
  have hwait : tryPair (asking s) = asking s := by
    rw [hy]
    unfold tryPair
    dsimp only
    rw [hpeer]
  rw [hwait] at h
  refine ⟨(h.reads rfl).trans ?_, ?_, ?_⟩
  · rw [hy]
    exact hst
  · rw [show t.twin = (asking s).twin from h.same (c := .twin) rfl, hy]
  · rw [twinBodies_of_wag (h.same (c := .links) rfl)]
    exact twinBodies_sendTwin (s := { s with twin := { s.twin with asked := some s.now } }) hup _

theorem twinPair_decides (hst : twinState s = 0) (hup : portUp s 6 = true) {x : Nat} {m : List Nat}
    (hpeer : s.twin.peerAsk = some (x, m)) (hfresh : s.now ≤ x + 1000000000) {role : Nat} (hrole : role = rd s R.TWIN_CFG_ROLE_CFG)
    {fits : Prop} (hfits : fits ↔ (m.getD 0 0 + role = 3 ∧ (role = 1 ∨ role = 2) ∧ m.getD 1 0 = rd s R.TWIN_PARTS ∧
      m.getD 2 0 = rd s R.TWIN_CFG_PEER ∧ m.getD 3 0 = hiveId s)) :
    (fits → mirrorBusy s = false → m.getD 4 0 ≠ 1 →
      Ends (.twinPair w) s (fun t => twinState t = role ∧ t.twin.asked = none ∧ t.twin.peerAsk = none ∧ rd t R.TWIN_SKEW = 0 ∧
        rd t R.TWIN_STAT_CAUSE = 0 ∧ rd t (hIrqRaw 16 Irq.TWIN_PAIRED) 0 = 1 ∧
        (role = 1 → (Msg.twinControl 6 (profileWords s)) ∈ (tget [] (port t 6).txq 3).map OutMsg.body))) ∧
    (fits → (mirrorBusy s = true ∨ m.getD 4 0 = 1) →
      Ends (.twinPair w) s (fun t => twinState t = 0 ∧ rd t (hErrStatus 16) 0 = statusValue .partitionBusy)) ∧
    (¬fits → Ends (.twinPair w) s (fun t => twinState t = 0 ∧ rd t (hErrStatus 16) 0 = statusValue .fieldReserved)) := by
  subst hrole
  have hends : ∀ {P : State → Prop} {u : State}, tryPair (asking s) = u → (∀ t, Touches 0x180000000060014 u t → P t) →
      Ends (.twinPair w) s P := fun hu hP => twinPair_asks hw hst hup
    (fun x' m' h => by rw [hpeer] at h; cases h; exact hfresh) fun t h => hP t (hu ▸ h)
  obtain ⟨y, hy⟩ := asking_eq s
  have hrefuse : ∀ st, tryPair (asking s) = refusePair (asking s) st →
      Ends (.twinPair w) s (fun t => twinState t = 0 ∧ rd t (hErrStatus 16) 0 = statusValue st) := fun st hu => by
    refine hends hu fun t h => ⟨(h.reads rfl).trans ((rd_refuseWrite_of_body _ _ _ _ _ (by decide) (by decide) _ _).trans ?_),
      (h.reads rfl).trans (rd_refuseWrite_hErrStatus ..)⟩
    rw [hy]
    exact hst
  have hup' : portUp (asking s) 6 = true := by
    rw [hy]
    exact hup
  have htry := tryPair_decides (s := asking s) (a := s.now) (x := x) (m := m) (by rw [hy]) (by rw [hy]; exact hpeer) hup'
  have hchecks : (m.getD 1 0 ≠ rd (asking s) R.TWIN_PARTS || rd (asking s) R.TWIN_CFG_ROLE_CFG + m.getD 0 0 ≠ 3 ||
      rd (asking s) R.TWIN_CFG_ROLE_CFG = 0 || m.getD 0 0 = 0 || m.getD 2 0 ≠ rd (asking s) R.TWIN_CFG_PEER ||
      m.getD 3 0 ≠ hiveId (asking s)) = true ↔ ¬fits := by
    rw [hfits, hy]
    simp only [Bool.or_eq_true, decide_eq_true_eq]
    change (((((m.getD 1 0 ≠ rd s R.TWIN_PARTS ∨ rd s R.TWIN_CFG_ROLE_CFG + m.getD 0 0 ≠ 3) ∨ rd s R.TWIN_CFG_ROLE_CFG = 0) ∨
      m.getD 0 0 = 0) ∨ m.getD 2 0 ≠ rd s R.TWIN_CFG_PEER) ∨ m.getD 3 0 ≠ hiveId s) ↔ _
    omega
  have hbusy : mirrorBusy (asking s) = mirrorBusy s := by rw [hy]; rfl
  refine ⟨fun hf hidle hpeerIdle => ?_, fun hf hb => ?_, fun hf => ?_⟩
  · have hform : tryPair (asking s) = formPair (asking s) (rd s R.TWIN_CFG_ROLE_CFG) := by
      rw [htry, if_neg fun h => hchecks.mp h hf, hbusy, hidle, if_neg (by simpa using hpeerIdle), hy]
      rfl
    have hrole : rd s R.TWIN_CFG_ROLE_CFG < 8 := by
      obtain ⟨-, h, -⟩ := hfits.mp hf
      omega
    obtain ⟨h1, h2, h3, h4, h5, h6, h7⟩ := formPair_shows (s := asking s) hrole
    refine hends hform fun t h => ?_
    have htwin : t.twin = (formPair (asking s) (rd s R.TWIN_CFG_ROLE_CFG)).twin := h.same (c := .twin) rfl
    have hwords : profileWords (asking s) = profileWords s := by rw [hy]; rfl
    refine ⟨(h.reads rfl).trans h1, by rw [htwin, h2], by rw [htwin, h3], (h.reads rfl).trans h4, (h.reads rfl).trans h5,
      (h.reads rfl).trans h6, fun hone => ?_⟩
    have hin := h7 hone hup'
    rw [hwords, ← twinBodies_of_wag (h.same (c := .links) rfl)] at hin
    exact hin
  · exact hrefuse _ (by rw [htry, if_neg fun h => hchecks.mp h hf, hbusy, if_pos (by simpa using hb)])
  · exact hrefuse _ (by rw [htry, if_pos (hchecks.mpr hf)])

end

theorem pairWindowExpiry_ends (s : State) :
    (∀ x, s.twin.asked = some x → Ends .pairWindowExpiry s (fun t => t.twin = { s.twin with asked := none, peerAsk := none } ∧
      t.now = max s.now (x + 1000000000) ∧ SameBut [.now, .twin] s t)) ∧
    (s.twin.asked = none → exec .pairWindowExpiry s = .next s) := by
  refine ⟨fun x hx => ⟨endAttempt (reachTime s (x + 1000000000)), ?_, rfl, rfl,
    sameBut_of_touches (Touches.twin rfl (Touches.now rfl (Touches.refl _ s)))⟩, fun h => ?_⟩
  all_goals refine congrArg Host.Outcome.next ?_
  · rw [hx]
  · rw [h]

end Sys2Proof.Proofs
end

section
/-!
Proofs for chapter 14: how a pair is dissolved, swaps its roles, and takes what its peer says (R346, R357, R358).
-/

namespace Sys2Proof.Proofs

open Sys2Proof Sys2Proof.Machine Sys2Proof.Safety Sys2Proof.Certificates Sys2Proof.Laws

theorem twin_closeFollowed (s : State) : (closeFollowed s).twin = { s.twin with follow := [] } := by
  have h : Touches 0x180080000060390 { s with twin := { s.twin with follow := [] } } (closeFollowed s) :=
    Touches.foldl (Touches.refl _ _) fun _ _ => closeSeq_touches rfl (Touches.refl _ _)
  exact h.same (c := .twin) rfl

theorem rd_setTwinState_same (s : State) {v : Nat} (hv : v < 8) : twinState (setTwinState s v) = v := rd_wr_fit _ _ _ _ hv

/-- A unit whose pair is dissolved is UNPAIRED, and keeps nothing of it. -/
theorem dissolve_shows (s : State) :
    twinState (dissolve s) = 0 ∧ (dissolve s).twin.parts = [] ∧ (dissolve s).twin.follow = [] ∧ (dissolve s).twin.test = none ∧
    (dissolve s).twin.asked = none ∧ (twinState s = 1 → (dissolve s).mem = s.mem ∧ (dissolve s).kv = s.kv) := by
  refine ⟨rd_setTwinState_same _ (by decide), rfl, rfl, rfl, rfl, fun h => ?_⟩
  have hrole : twinRole s ≠ 2 := by
    unfold twinRole
    rw [show rd s R.TWIN_STAT_STATE = 1 from h]
    exact (by decide : (1 : Nat) ≠ 2)
  unfold dissolve
  rw [if_neg hrole]
  exact ⟨rfl, rfl⟩

/-- The roles exchange: an active becomes the standby, and the other way round. -/
theorem swapRole_of_active {s : State} (h : twinState s = 1) :
    twinState (swapRole s) = 2 ∧ (swapRole s).twin.parts = [] ∧ (swapRole s).mem = s.mem ∧ (swapRole s).kv = s.kv := by
  unfold swapRole
  rw [h]
  exact ⟨rd_setTwinState_same _ (by decide), rfl, rfl, rfl⟩

theorem swapRole_of_standby {s : State} (h : twinState s = 2) :
    twinState (swapRole s) = 1 ∧ (swapRole s).twin.follow = [] := by
  unfold swapRole
  rw [h]
  refine ⟨rd_setTwinState_same _ (by decide), ?_⟩
  dsimp only
  rw [if_pos rfl]
  exact congrArg Twin.follow (twin_closeFollowed s)

section
variable {w : Writer} {s : State} (hw : Writable s w 16 0)
include hw

theorem twinUnpair_answers :
    (twinState s ≠ 0 → Ends (.twinUnpair w) s (fun t => twinState t = 0 ∧ t.twin.parts = [] ∧ t.twin.follow = [] ∧
      t.twin.test = none ∧ t.twin.asked = none ∧ (twinState s = 1 → t.mem = s.mem ∧ t.kv = s.kv))) ∧
    (twinState s = 0 → Ends (.twinUnpair w) s (fun t => twinState t = 0 ∧ t.twin = s.twin ∧ t.wag = s.wag)) := by
  refine ⟨fun hst => ?_, fun hst => ?_⟩
  · refine ends_of_effect (x := dissolve (sendTwin s (.twinControl 2 []))) rfl hw (if_neg hst) fun t h => ?_
    obtain ⟨h1, h2, h3, h4, h5, h6⟩ := dissolve_shows (sendTwin s (.twinControl 2 []))
    have htwin : t.twin = (dissolve (sendTwin s (.twinControl 2 []))).twin := h.same (c := .twin) rfl
    have hsent : Touches 0x800 s (sendTwin s (.twinControl 2 [])) := sendTwin_touches rfl (Touches.refl _ s)
    rw [htwin]
    refine ⟨(h.reads rfl).trans h1, h2, h3, h4, h5, fun hact => ?_⟩
    obtain ⟨hmem, hkv⟩ := h6 ((hsent.reads rfl).trans hact)
    exact ⟨(mem_of_touches h rfl rfl).trans (hmem.trans (mem_of_touches hsent rfl rfl)),
      (h.same (c := .kv) rfl).trans (hkv.trans (hsent.same (c := .kv) rfl))⟩
  · exact ends_of_effect (x := s) rfl hw (if_pos hst) fun t h =>
      ⟨(h.reads rfl).trans hst, h.same (c := .twin) rfl, h.same (c := .links) rfl⟩

theorem twinSwap_answers :
    (twinState s = 1 → mirrorBusy s = false → Ends (.twinSwap w) s (fun t => twinState t = 2 ∧ t.twin.parts = [] ∧
      t.mem = s.mem ∧ t.kv = s.kv)) ∧
    (twinState s = 1 → mirrorBusy s = true → Ends (.twinSwap w) s (fun t => twinState t = 1 ∧ t.twin = s.twin ∧ t.wag = s.wag ∧
      rd t (hErrStatus 16) 0 = statusValue .partitionBusy)) ∧
    (twinState s = 3 → s.twin.role = 1 → Ends (.twinSwap w) s (fun t => twinState t = 3 ∧ t.twin = s.twin ∧
      rd t (hErrStatus 16) 0 = statusValue .partitionBusy)) ∧
    (twinRole s ≠ 1 → Ends (.twinSwap w) s (fun t => twinState t = twinState s ∧ t.twin = s.twin ∧ t.wag = s.wag)) := by
  have hactive : twinState s = 1 → twinRole s = 1 := fun h => by
    unfold twinRole
    rw [show rd s R.TWIN_STAT_STATE = 1 from h]
    rfl
  have hrefuse : twinRole s = 1 → (twinState s = 3 || mirrorBusy s) = true → Ends (.twinSwap w) s (fun t =>
      twinState t = twinState s ∧ t.twin = s.twin ∧ t.wag = s.wag ∧ rd t (hErrStatus 16) 0 = statusValue .partitionBusy) :=
    fun hrole hbusy => ends_of_effect (x := refuseWrite s 16 0 0x10C .partitionBusy) rfl hw
      ((if_neg (not_not_intro hrole)).trans (if_pos hbusy)) fun t h =>
      ⟨(h.reads rfl).trans (rd_refuseWrite_of_body _ _ _ _ _ (by decide) (by decide) _ _), h.same (c := .twin) rfl,
        h.same (c := .links) rfl, (h.reads rfl).trans (rd_refuseWrite_hErrStatus ..)⟩
  refine ⟨fun hst hidle => ?_, fun hst hbusy => ?_, fun hst hrole => ?_, fun hrole => ?_⟩
  · refine ends_of_effect (x := swapRole (sendTwin s (.twinControl 3 []))) rfl hw
      ((if_neg (not_not_intro (hactive hst))).trans (if_neg (by simp [hst, hidle]))) fun t h => ?_
    have hsent : Touches 0x800 s (sendTwin s (.twinControl 3 [])) := sendTwin_touches rfl (Touches.refl _ s)
    obtain ⟨h1, h2, h3, h4⟩ := swapRole_of_active (s := sendTwin s (.twinControl 3 [])) ((hsent.reads rfl).trans hst)
    refine ⟨(h.reads rfl).trans h1, ?_, (mem_of_touches h rfl rfl).trans (h3.trans (mem_of_touches hsent rfl rfl)),
      (h.same (c := .kv) rfl).trans (h4.trans (hsent.same (c := .kv) rfl))⟩
    rw [show t.twin = (swapRole (sendTwin s (.twinControl 3 []))).twin from h.same (c := .twin) rfl]
    exact h2
  · obtain ⟨t, ht, h1, hrest⟩ := hrefuse (hactive hst) (by rw [hbusy, Bool.or_true])
    exact ⟨t, ht, h1.trans hst, hrest⟩
  · have h1 : twinRole s = 1 := by
      unfold twinRole
      rw [show rd s R.TWIN_STAT_STATE = 3 from hst]
      exact hrole
    obtain ⟨t, ht, hstate, htwin, -, herr⟩ := hrefuse h1 (by rw [decide_eq_true hst, Bool.true_or])
    exact ⟨t, ht, hstate.trans hst, htwin, herr⟩
  · exact ends_of_effect (x := s) rfl hw (if_pos hrole) fun t h =>
      ⟨h.reads rfl, h.same (c := .twin) rfl, h.same (c := .links) rfl⟩

theorem twinTakeover_answers :
    (twinState s = 4 → portUp s 6 = false → Ends (.twinTakeover w) s (fun t => twinState t = 1 ∧
      rd t (hIrqRaw 16 Irq.TWIN_FAILOVER) 0 = 1 ∧ SameBut (written 16) s t)) ∧
    (twinState s = 4 → portUp s 6 = true → Ends (.twinTakeover w) s (fun t => twinState t = 4 ∧
      rd t (hErrStatus 16) 0 = statusValue .fieldReserved ∧ SameBut (written 16) s t)) ∧
    (twinState s ≠ 4 → Ends (.twinTakeover w) s (fun t => twinState t = twinState s ∧ SameBut (written 16) s t)) := by
  refine ⟨fun hst hdown => ?_, fun hst hup => ?_, fun hst => ?_⟩
  · refine ends_of_taken (m := maskOf (written 16)) (x := setTwinState (irqEvent s 16 0 Irq.TWIN_FAILOVER 0 []) 1) rfl hw
      ((if_neg (not_not_intro hst)).trans (if_neg (by rw [hdown]; exact Bool.false_ne_true))) rfl
      (wr_touches rfl (irqEvent_touches rfl rfl (Touches.refl _ s))) fun t hnote htouch =>
      ⟨(hnote.reads rfl).trans (rd_setTwinState_same _ (by decide)), (hnote.reads rfl).trans ?_, sameBut_of_touches htouch⟩
    exact (rd_wr_ne (by decide) _ _ _ _ _ _).trans (rd_irqEvent_same ..)
  · exact ends_of_refused (m := maskOf (written 16)) (st := .fieldReserved) rfl hw
      ((if_neg (not_not_intro hst)).trans (if_pos hup)) rfl rfl rfl fun t hbody herr htouch =>
      ⟨(hbody R.TWIN_STAT_STATE rfl (by decide) (by decide) 0 0).trans hst, herr, sameBut_of_touches htouch⟩
  · exact ends_of_taken (m := maskOf (written 16)) (x := s) rfl hw (if_pos hst) rfl (Touches.refl _ s) fun t hnote htouch =>
      ⟨hnote.reads rfl, sameBut_of_touches htouch⟩

end

/-! ### The peer's messages (R346, R358) -/

/-- Profile `k` reads as the four words that the list holds for it. -/
def ProfileReads (l : List Nat) (k : Nat) (t : State) : Prop :=
  rd t R.TWIN_PROF_ABS 0 k = l.getD (4 * k) 0 % 2 ^ 32 ∧ rd t R.TWIN_PROF_REL 0 k = l.getD (4 * k + 1) 0 % 2 ^ 32 ∧
  rd t R.TWIN_PROF_EPS 0 k = l.getD (4 * k + 2) 0 % 2 ^ 32 ∧ rd t R.TWIN_PROF_MAXMIS 0 k = l.getD (4 * k + 3) 0 % 2 ^ 32

theorem takeProfiles_shows (s : State) (l : List Nat) {k : Nat} (hk : k < 16) : ProfileReads l k (takeProfiles s l) := by
  have hset : ∀ u : State, ProfileReads l k (wr (wr (wr (wr u R.TWIN_PROF_ABS (l.getD (4 * k) 0) 0 k) R.TWIN_PROF_REL
      (l.getD (4 * k + 1) 0) 0 k) R.TWIN_PROF_EPS (l.getD (4 * k + 2) 0) 0 k) R.TWIN_PROF_MAXMIS (l.getD (4 * k + 3) 0) 0 k) := fun u => by
    refine ⟨?_, ?_, ?_, rd_wr _ _ _ _ _⟩
    · rw [rd_wr_ne (by decide), rd_wr_ne (by decide), rd_wr_ne (by decide), rd_wr]
      rfl
    · rw [rd_wr_ne (by decide), rd_wr_ne (by decide), rd_wr]
      rfl
    · rw [rd_wr_ne (by decide), rd_wr]
      rfl
  have hin : k ∈ List.range 16 := List.mem_range.mpr hk
  unfold takeProfiles
  generalize List.range 16 = r at hin ⊢
  refine foldl_reaches (P := ProfileReads l k) hin ?_ (fun u j _ hu => ?_) s
  · exact hset
  obtain rfl | h := eq_or_ne k j
  · exact hset u
  · obtain ⟨h1, h2, h3, h4⟩ := hu
    refine ⟨?_, ?_, ?_, ?_⟩
    · rw [rd_wr_ne (by decide), rd_wr_ne (by decide), rd_wr_ne (by decide), rd_wr_inst _ (.inr h), h1]
    · rw [rd_wr_ne (by decide), rd_wr_ne (by decide), rd_wr_inst _ (.inr h), rd_wr_ne (by decide), h2]
    · rw [rd_wr_ne (by decide), rd_wr_inst _ (.inr h), rd_wr_ne (by decide), rd_wr_ne (by decide), h3]
    · rw [rd_wr_inst _ (.inr h), rd_wr_ne (by decide), rd_wr_ne (by decide), rd_wr_ne (by decide), h4]

theorem twinControl_answers (l : List Nat) (s : State) :
    (twinState s ≠ 0 → exec (.twinControl 1 l) s = .next s ∧
      Ends (.twinControl 2 l) s (fun t => twinState t = 0 ∧ t.twin.follow = [])) ∧
    (twinState s = 2 → Ends (.twinControl 3 l) s (fun t => twinState t = 1 ∧ t.twin.follow = [])) ∧
    (twinState s ≠ 2 → exec (.twinControl 3 l) s = .next s ∧ exec (.twinControl 6 l) s = .next s) ∧
    (1 ≤ twinState s → twinState s ≤ 3 → Ends (.twinControl 5 l) s (fun t => twinState t = 0 ∧ rd t R.TWIN_STAT_CAUSE = 4 ∧
      t.twin = { s.twin with parts := [], follow := [], test := none, left := false, drop := [] } ∧ SameBut [.page 16, .twin] s t)) ∧
    (twinState s = 2 → Ends (.twinControl 6 l) s (fun t => (∀ k < 16, ProfileReads l k t) ∧ SameBut [.page 16] s t)) ∧
    (∀ op, 7 ≤ op → exec (.twinControl op l) s = .next s) := by
  refine ⟨fun hst => ⟨congrArg Host.Outcome.next (if_neg hst), ?_⟩, fun hst => ?_, fun hst =>
    ⟨congrArg Host.Outcome.next (if_neg hst), congrArg Host.Outcome.next (if_neg hst)⟩, fun hlo hhi => ?_, fun hst => ?_, fun op hop => ?_⟩
  · obtain ⟨h1, -, h3, -⟩ := dissolve_shows s
    exact ⟨dissolve s, congrArg Host.Outcome.next (if_neg hst), h1, h3⟩
  · obtain ⟨h1, h2⟩ := swapRole_of_standby hst
    exact ⟨swapRole s, congrArg Host.Outcome.next (if_pos hst), h1, h2⟩
  · refine ⟨setTwinState (twinReset (twinCause s 4)) 0, congrArg Host.Outcome.next (if_pos (by simp [hlo, hhi])),
      rd_setTwinState_same _ (by decide), ?_, rfl,
      sameBut_of_touches (wr_touches rfl (twinReset_touches rfl (wr_touches rfl (Touches.refl _ s))))⟩
    exact (rd_wr_ne (by decide) _ _ _ _ _ _).trans (show rd (twinCause s 4) R.TWIN_STAT_CAUSE = 4 from rd_wr _ _ _ _ _)
  · refine ⟨takeProfiles s l, congrArg Host.Outcome.next (if_pos hst), fun k hk => takeProfiles_shows s l hk, ?_⟩
    exact sameBut_of_touches (takeProfiles_touches rfl (Touches.refl _ s))
  · obtain ⟨n, rfl⟩ := Nat.exists_eq_add_of_le' hop
    rfl

/-- Settles O36, by the checks of a pairing and the branches of the commands and messages of a pair. -/
theorem twinPairs : Obligations.TwinPairs :=
  ⟨fun _ _ => twinPair_of_paired, fun _ _ hw hst => ⟨twinPair_of_down hw hst, twinPair_waits hw hst,
      fun _ _ hup hpeer hfresh => twinPair_decides hw hst hup hpeer hfresh rfl Iff.rfl⟩,
    pairWindowExpiry_ends, fun _ _ => twinUnpair_answers, fun _ _ => twinSwap_answers, fun _ _ => twinTakeover_answers,
    twinControl_answers⟩

end Sys2Proof.Proofs
end

section
/-!
Proofs for chapter 14: what the standby follows, runs and compares, and how verdicts move the pair (R348 to R358).
-/

namespace Sys2Proof.Proofs

open Sys2Proof Sys2Proof.Machine Sys2Proof.Safety Sys2Proof.Certificates Sys2Proof.Laws

@[simp] theorem twinPart_setTwinPart (s : State) (p : Nat) (x : TwinPart) : twinPart (setTwinPart s p x) p = x :=
  tget_tset_same _ _ _ _

theorem twinPart_setTwinPart_ne (s : State) {p q : Nat} (x : TwinPart) (h : q ≠ p) :
    twinPart (setTwinPart s p x) q = twinPart s q := tget_tset_ne _ _ h _ _

theorem rd_twin (s : State) (x : Twin) (f : Fld) (i k : Nat) : rd { s with twin := x } f i k = rd s f i k := rfl

/-- A table whose keys rise holds each entry's value under its key. -/
theorem tget_of_mem {α : Type} (d : α) {l : Tbl α} (h : l.Pairwise (fun a b => a.1 < b.1)) {e : Nat × α} (he : e ∈ l) :
    tget d l e.1 = e.2 := by
  induction l with
  | nil => cases he
  | cons b l ih =>
    obtain ⟨hb, hl⟩ := List.pairwise_cons.mp h
    rcases List.mem_cons.mp he with rfl | he
    · exact if_pos rfl
    · exact (if_neg (Nat.ne_of_gt (hb e he))).trans (ih hl he)

/-! ### Actions that the standby follows (R348, R354) -/

section
variable {s : State} (hrole : twinRole s = 2)

theorem servAction_of_other {what : List Nat} (h : twinRole s ≠ 2) : exec (.servAction what) s = .next s :=
  congrArg Host.Outcome.next (if_pos h)

include hrole

theorem servAction_rolls_back {k p : Nat} (hf : s.twin.follow.contains k = true) (hd : s.twin.drop.contains (seqOf s k).tenant = false)
    (hst : (seqOf s k).st = 1) (hp : p ≤ (seqOf s k).writePos) :
    Ends (.servAction [3, k, p]) s (fun t => seqOf t k = { seqOf s k with writePos := p } ∧ (∀ j, j ≠ k → seqOf t j = seqOf s j) ∧
      t.twin = s.twin ∧ SameBut (recorded ++ pages [11] ++ [.free, .bytes, .memory, .kv, .twin]) s t) := by
  have hroll : rollbackSeq s k p = some (setSeq s k { seqOf s k with writePos := p }) := if_pos (by simp [hst, hp])
  have hexec : exec (.servAction [3, k, p]) s = .next (setSeq s k { seqOf s k with writePos := p }) := by
    refine congrArg Host.Outcome.next ((if_neg (not_not_intro hrole)).trans ((if_pos (by simp only [hf, hd]; rfl)).trans ?_))
    rw [hroll]
    rfl
  exact ⟨_, hexec, seqOf_setSeq .., fun j h => seqOf_setSeq_ne _ _ h, rfl, sameBut_of_touches (setSeq_touches rfl (Touches.refl _ s))⟩

theorem servAction_parks {k : Nat} (hf : s.twin.follow.contains k = true) (hd : s.twin.drop.contains (seqOf s k).tenant = false) :
    Ends (.servAction [4, k]) s (fun t => seqOf t k = { seqOf s k with st := 2 } ∧ (∀ j, j ≠ k → seqOf t j = seqOf s j) ∧
      t.twin = s.twin) :=
  ⟨setSeq s k { seqOf s k with st := 2 },
    congrArg Host.Outcome.next ((if_neg (not_not_intro hrole)).trans (if_pos (by simp only [hf, hd]; rfl))),
    seqOf_setSeq .., fun _ h => seqOf_setSeq_ne _ _ h, rfl⟩

theorem servAction_grows {k n wp : Nat} (hd : s.twin.drop.contains (seqOf s k).tenant = false) :
    exec (.servAction [2, k, n, wp]) s = .next (followGrow s k n wp none) :=
  congrArg Host.Outcome.next ((if_neg (not_not_intro hrole)).trans (if_neg (by rw [hd]; exact Bool.false_ne_true)))

theorem servAction_closes {k : Nat} :
    (s.twin.follow.contains k = true → exec (.servAction [5, k]) s =
      .next (closeSeq { s with twin := { s.twin with follow := s.twin.follow.filter (· ≠ k) } } k)) ∧
    (s.twin.follow.contains k = false → exec (.servAction [5, k]) s = .next s) := by
  have hexec : exec (.servAction [5, k]) s = .next (followClose s k) :=
    congrArg Host.Outcome.next (if_neg (not_not_intro hrole))
  refine ⟨fun h => ?_, fun h => ?_⟩ <;> rw [hexec] <;> refine congrArg Host.Outcome.next ?_
  · exact if_pos h
  · exact if_neg (by rw [h]; exact Bool.false_ne_true)

theorem servAction_opens {n tn lc k : Nat} {u : State} (hd : s.twin.drop.contains tn = false)
    (hopen : openSeq s k tn n lc (2 ^ 64 - 1) false = .ok u) :
    Ends (.servAction [1, n, tn, lc, k, 0, 0, 0, 0]) s (fun t =>
      t = { u with twin := { u.twin with follow := u.twin.follow ++ [k] } }) := by
  have hfollow : followOpen s n tn lc k = { u with twin := { u.twin with follow := u.twin.follow ++ [k] } } := by
    unfold followOpen
    rw [hopen]
  refine ⟨_, congrArg Host.Outcome.next ((if_neg (not_not_intro hrole)).trans
    ((if_neg (by rw [hd]; exact Bool.false_ne_true)).trans ?_)), rfl⟩
  exact (if_neg (by decide)).trans hfollow

end

/-- A mirrored growth within the mapped blocks sets the write position and opens a parked context again. -/
theorem followGrow_mapped {s : State} {k n wp : Nat} (hf : s.twin.follow.contains k = true)
    (hn : n ≠ 0) (hfit : wp + n ≤ 2 ^ (seqOf s k).tppLog2 * (seqOf s k).mapped) {x : Seq}
    (hx : x = { seqOf s k with
      writePos := wp, st := if (seqOf s k).st = 2 then 1 else (seqOf s k).st, growNeed := 0, growN := 0, parkTime := 0 }) :
    seqOf (followGrow s k n wp none) k = x := by
  have hlast : (wp + n - 1) / 2 ^ (seqOf s k).tppLog2 < (seqOf s k).mapped :=
    Nat.div_lt_of_lt_mul (Nat.lt_of_lt_of_le (by omega) hfit)
  have hgrow : grow (setSeq s k x) k n = .done (setSeq s k x) := by
    unfold grow
    rw [seqOf_setSeq, hx]
    exact if_pos (by rw [Bool.or_eq_true, decide_eq_true_eq, decide_eq_true_eq]; exact .inr hlast)
  unfold followGrow
  rw [if_neg (by rw [hf]; decide), ← hx]
  dsimp only
  rw [hgrow]
  exact seqOf_setSeq ..

theorem followGrow_of_other {s : State} {k n wp : Nat} (h : s.twin.follow.contains k = false) : followGrow s k n wp none = s :=
  if_pos (by rw [h]; rfl)

/-! ### Launches, acknowledgements and paces (R348 to R350) -/

theorem mirrorLaunch_joins {serial : Nat} {d : LaunchDesc} {ctxs : List Nat} {io : List Byte} {s : State} (hrole : twinRole s = 2)
    (hm : mirrored s d.partition = true) (hd : s.twin.drop.contains d.tenant = false) :
    Ends (.mirrorLaunch serial d ctxs io) s (fun t => (part t d.partition).queue = (part s d.partition).queue ++
        [{ desc := d, src := .mirror, ctxs := ctxs, serial := serial, snap := some io }] ∧
      (∀ p, p ≠ d.partition → part t p = part s p) ∧ (twinPart t d.partition).serial = serial ∧ SameBut [.twin, .parts] s t) := by
  refine ⟨issueLaunch (setTwinPart s d.partition { twinPart s d.partition with serial := serial }) d.partition
    { desc := d, src := .mirror, ctxs := ctxs, serial := serial, snap := some io }, congrArg Host.Outcome.next (if_neg ?_), ?_,
    fun p h => part_setPart_ne _ _ h, ?_,
    sameBut_of_touches (setPart_touches rfl (setTwinPart_touches rfl (Touches.refl _ s)))⟩
  · rw [hrole, hm, hd]
    decide
  · unfold issueLaunch
    rw [part_setPart]
    rfl
  · exact congrArg TwinPart.serial (twinPart_setTwinPart s _ _)

theorem mirrorLaunch_of_other {serial : Nat} {d : LaunchDesc} {ctxs : List Nat} {io : List Byte} {s : State}
    (h : twinRole s ≠ 2 ∨ mirrored s d.partition = false ∨ s.twin.drop.contains d.tenant = true) :
    exec (.mirrorLaunch serial d ctxs io) s = .next s := by
  refine congrArg Host.Outcome.next (if_pos ?_)
  rw [Bool.or_eq_true, Bool.or_eq_true, decide_eq_true_eq, Bool.not_eq_true']
  exact or_assoc.mpr h

theorem launchAck_marks {serial : Nat} {s : State} (hwf : twf {} s.twin.parts = true) :
    Ends (.launchAck serial) s (fun t => (∀ e ∈ s.twin.parts, e.2.serial = serial → twinPart t e.1 = { e.2 with acked := true }) ∧
      (∀ p, (twinPart s p).serial ≠ serial → twinPart t p = twinPart s p) ∧ SameBut [.twin] s t) := by
  obtain ⟨hsorted, -⟩ := (twf_iff _ _).mp hwf
  refine ⟨_, rfl, fun e he hserial => ?_, fun p hp => ?_, ?_⟩
  · refine foldl_reaches (P := fun t => twinPart t e.1 = { e.2 with acked := true }) he (fun u => ?_) (fun u b hb hu => ?_) s
    · rw [if_pos hserial, twinPart_setTwinPart]
    · split
      · obtain h | h := eq_or_ne e.1 b.1
        · have heq : e.2 = b.2 := by rw [← tget_of_mem {} hsorted he, ← tget_of_mem {} hsorted hb, h]
          rw [h, heq, twinPart_setTwinPart]
        · rw [twinPart_setTwinPart_ne _ _ h, hu]
      · exact hu
  · refine List.foldlRecOn (motive := fun t => twinPart t p = twinPart s p) s.twin.parts _ rfl fun u hu b hb => ?_
    split
    · next h =>
      have hne : p ≠ b.1 := fun heq => hp (by
        rw [heq]
        exact (congrArg TwinPart.serial (tget_of_mem {} hsorted hb)).trans h)
      rw [twinPart_setTwinPart_ne _ _ hne, hu]
    · exact hu
  · refine sameBut_of_touches (Touches.foldl (Touches.refl _ s) fun u b => ?_)
    split
    · exact setTwinPart_touches rfl (Touches.refl _ u)
    · exact Touches.refl _ u

theorem paceReport_takes {p v : Nat} {s : State} (hrole : twinRole s ≠ 0) (hm : mirrored s p = true) :
    ((twinPart s p).peerPace ≠ v → Ends (.paceReport [(p, v)]) s (fun t => (twinPart t p).peerPace = v ∧
      (∀ k, k ≠ p → twinPart t k = twinPart s k) ∧ t.serv.dirty = (partDies s p ++ s.serv.dirty).eraseDups ∧
      SameBut [.serving, .twin] s t)) ∧
    ((twinPart s p).peerPace = v → exec (.paceReport [(p, v)]) s = .next s) := by
  refine ⟨fun hv => ?_, fun hv => congrArg Host.Outcome.next ((if_neg hrole).trans (if_pos (by simp [hv])))⟩
  let u := setTwinPart s p { twinPart s p with peerPace := v }
  refine ⟨{ u with serv := { u.serv with dirty := (partDies u p ++ u.serv.dirty).eraseDups } },
    congrArg Host.Outcome.next ((if_neg hrole).trans (if_neg (by simp [hv, hm]))), ?_, fun k h => twinPart_setTwinPart_ne s _ h, rfl,
    sameBut_of_touches (Touches.serving rfl (Touches.twin rfl (Touches.refl _ s)))⟩
  exact congrArg TwinPart.peerPace (twinPart_setTwinPart s p _)

/-! ### Comparisons (R351 to R353) -/

theorem compareData_of_other {serial mark : Nat} {bytes : List Byte} {s : State} (h : twinRole s ≠ 2 ∨ serialPart s serial = none) :
    exec (.compareData serial mark bytes) s = .next s := by
  refine congrArg Host.Outcome.next ?_
  by_cases hrole : twinRole s ≠ 2
  · exact if_pos hrole
  · refine (if_neg hrole).trans ?_
    rw [h.resolve_left hrole]

section
variable {serial mark p : Nat} {bytes : List Byte} {s : State} (hrole : twinRole s = 2) (hp : serialPart s serial = some p)
include hrole hp

theorem compareData_keeps {r : Running} (hr : (part s p).running = some r) (hserial : r.serial = serial) :
    Ends (.compareData serial mark bytes) s (fun t => twinPart t p =
      { twinPart s p with peer := (twinPart s p).peer ++ [(serial, mark, bytes)] } ∧ SameBut [.twin] s t) := by
  refine ⟨setTwinPart s p { twinPart s p with peer := (twinPart s p).peer ++ [(serial, mark, bytes)] },
    congrArg Host.Outcome.next ((if_neg (not_not_intro hrole)).trans ?_), twinPart_setTwinPart .., sameBut_of_touches
      (setTwinPart_touches rfl (Touches.refl _ s))⟩
  rw [hp]
  dsimp only
  rw [hr]
  exact if_pos (by simp [hserial])

theorem compareData_compares {x : Nat × Nat × List Byte} {m n v : Nat} (hrun : (part s p).running = none)
    (hqueue : (part s p).queue = []) (hown : (twinPart s p).own.find? (fun x => x.1 = serial && x.2.1 = mark) = some x)
    (hends : (twinPart s p).ends.find? (fun e => e.1 = serial) = some (m, n, v)) :
    ∃ u, exec (.compareData serial mark bytes) s = .next (evaluatePoint u p serial mark n v x.2.2 bytes) ∧
      (twinPart u p).own = (twinPart s p).own.filter (fun y => !(y.1 = serial && y.2.1 = mark)) ∧ SameBut [.twin] s u := by
  refine ⟨setTwinPart s p { twinPart s p with own := (twinPart s p).own.filter (fun y => !(y.1 = serial && y.2.1 = mark)) },
    congrArg Host.Outcome.next ((if_neg (not_not_intro hrole)).trans ?_), ?_, sameBut_of_touches
      (setTwinPart_touches rfl (Touches.refl _ s))⟩
  · rw [hp]
    dsimp only
    rw [hrun, hqueue, hown, hends]
    rfl
  · exact congrArg TwinPart.own (twinPart_setTwinPart s p _)

end

end Sys2Proof.Proofs
end

section
/-!
Proofs for chapter 14: divergences and verdicts (R351 to R357).
-/

namespace Sys2Proof.Proofs

open Sys2Proof Sys2Proof.Machine Sys2Proof.Safety Sys2Proof.Certificates Sys2Proof.Laws

/-! ### A divergence is declared (R355) -/

/-- Fields of different pages never share a place. -/
theorem fldCode_ne_of_page {f g : Fld} (h : f.ty % 32 ≠ g.ty % 32) : fldCode f ≠ fldCode g := by
  unfold fldCode
  omega

theorem rd_startTest {f : Fld} (hty : f.ty = 16) (s : State) (pipe : Bool) (n i k : Nat) :
    rd (startTest s pipe n) f i k = rd s f i k := by
  have hcode : fldCode f ≠ fldCode (testBit pipe) := fldCode_ne_of_page (by cases pipe <;> rw [hty] <;> decide)
  unfold startTest
  split
  · rfl
  · rw [Touches.reads (m := 0x1000000) (touchResident_touches rfl (Touches.refl _ _)) (by rw [hty]; rfl), rd_wr_ne hcode]

theorem rd_foldl_startTest {f : Fld} (hty : f.ty = 16) (pipe : Bool) (l : List Nat) (s : State) (i k : Nat) :
    rd (l.foldl (fun s n => startTest s pipe n) s) f i k = rd s f i k :=
  List.foldlRecOn (motive := fun t => rd t f i k = rd s f i k) l _ rfl fun _ hu _ _ => (rd_startTest hty ..).trans hu

theorem rd_beginTwinTests {f : Fld} (hty : f.ty = 16) (s : State) (i k : Nat) : rd (beginTwinTests s) f i k = rd s f i k := by
  unfold beginTwinTests
  split
  · split
    · rfl
    · exact (rd_foldl_startTest hty ..).trans ((rd_foldl_startTest hty ..).trans (rd_twin ..))
  · rfl

/-- The registers of the pair beside its state, once a divergence is declared: what it was, and the count. -/
theorem rd_declareDivergence {f : Fld} (hty : f.ty = 16) (hne : fldCode f ≠ fldCode R.TWIN_STAT_STATE) {s : State}
    {p serial mark n mis cause : Nat} (hst : twinState s = 1 ∨ twinState s = 2) (i k : Nat) :
    rd (declareDivergence s p serial mark n mis cause) f i k = rd (incSat (wr (wr (wr (wr (wr (wr (raiseIrq (statusEvent s 16 0
      .twinDivergence 0 [p, serial, mark]) 16 0 Irq.TWIN_DIVERGENCE) R.TWIN_LAST_DIV_MARK_ID mark) R.TWIN_LAST_DIV_PARTITION p)
      R.TWIN_LAST_DIV_SLOT n) R.TWIN_LAST_MIS mis) R.TWIN_STAT_CAUSE cause) R.TWIN_STAT_VERDICT 1) R.TWIN_DIV_CNT) f i k := by
  unfold declareDivergence
  rw [if_pos (by simpa using hst)]
  extract_lets role s1 s2 s3 p4 s4 s5 img t w6
  have h5 : rd s5 f i k = rd s4 f i k := by
    simp only [s5]
    split
    · exact Touches.reads (m := 0x800) (sendTwin_touches rfl (Touches.refl _ _)) (by rw [hty]; rfl)
    · rfl
  have h4 : rd s4 f i k = rd s3 f i k := rd_twin ..
  rw [rd_beginTwinTests hty]
  exact (rd_wr_ne hne _ _ _ _ _ _).trans ((rd_twin ..).trans (h5.trans h4))

section
variable {s : State} {p serial mark n mis cause : Nat} (hst : twinState s = 1 ∨ twinState s = 2)
include hst

theorem declareDivergence_shows :
    rd (declareDivergence s p serial mark n mis cause) R.TWIN_LAST_MIS = mis % 2 ^ 32 ∧
    rd (declareDivergence s p serial mark n mis cause) R.TWIN_LAST_DIV_MARK_ID = mark % 2 ^ 16 ∧
    rd (declareDivergence s p serial mark n mis cause) R.TWIN_LAST_DIV_PARTITION = p % 2 ^ 6 ∧
    rd (declareDivergence s p serial mark n mis cause) R.TWIN_LAST_DIV_SLOT = n % 2 ^ 6 ∧
    rd (declareDivergence s p serial mark n mis cause) R.TWIN_DIV_CNT = min (rd s R.TWIN_DIV_CNT + 1) (2 ^ 32 - 1) := by
  refine ⟨?_, ?_, ?_, ?_, ?_⟩ <;> rw [rd_declareDivergence rfl (by decide) hst]
  · rw [rd_incSat_ne (by decide), rd_wr_ne (by decide), rd_wr_ne (by decide), rd_wr]
    rfl
  · rw [rd_incSat_ne (by decide), rd_wr_ne (by decide), rd_wr_ne (by decide), rd_wr_ne (by decide), rd_wr_ne (by decide),
      rd_wr_ne (by decide), rd_wr]
    rfl
  · rw [rd_incSat_ne (by decide), rd_wr_ne (by decide), rd_wr_ne (by decide), rd_wr_ne (by decide), rd_wr_ne (by decide), rd_wr]
    rfl
  · rw [rd_incSat_ne (by decide), rd_wr_ne (by decide), rd_wr_ne (by decide), rd_wr_ne (by decide), rd_wr]
    rfl
  · rw [rd_incSat, rd_wr_ne (by decide), rd_wr_ne (by decide), rd_wr_ne (by decide), rd_wr_ne (by decide), rd_wr_ne (by decide),
      rd_wr_ne (by decide), rd_raiseIrq (by decide), statusEvent, rd_recordEvent _ _ _ _ _ _ _ rfl]
    rfl

theorem declareDivergence_keeps :
    rd (declareDivergence s p serial mark n mis cause) R.TWIN_CMP_CNT = rd s R.TWIN_CMP_CNT ∧
    rd (declareDivergence s p serial mark n mis cause) R.TWIN_EXEMPT_CNT = rd s R.TWIN_EXEMPT_CNT := by
  refine ⟨?_, ?_⟩ <;>
  rw [rd_declareDivergence rfl (by decide) hst, rd_incSat_ne (by decide), rd_wr_ne (by decide), rd_wr_ne (by decide),
    rd_wr_ne (by decide), rd_wr_ne (by decide), rd_wr_ne (by decide), rd_wr_ne (by decide), rd_raiseIrq (by decide), statusEvent,
    rd_recordEvent _ _ _ _ _ _ _ rfl]

end

theorem declareDivergence_of_other {s : State} {p serial mark n mis cause : Nat} (h1 : twinState s ≠ 1) (h2 : twinState s ≠ 2) :
    declareDivergence s p serial mark n mis cause = s := if_neg (by simp [h1, h2])

/-- A comparison is counted; it leaves the pair's state within the profile's mismatches, and shows the divergence beyond. -/
theorem evaluatePoint_shows {p serial mark n v : Nat} {own peer : List Byte} {c : ComparePoint} {mis ex cause : Nat} {s : State}
    (hc : (comparesOf (slot s n).image v).find? (fun c => c.mark = mark) = some c) (hcmp : comparePoint s c own peer = (mis, ex, cause))
    {t : State} (ht : t = evaluatePoint s p serial mark n v own peer) :
    rd t R.TWIN_CMP_CNT = min (rd s R.TWIN_CMP_CNT + 1) (2 ^ 32 - 1) ∧
    rd t R.TWIN_EXEMPT_CNT = min (rd s R.TWIN_EXEMPT_CNT + ex) (2 ^ 32 - 1) ∧
    (mis ≤ rd s R.TWIN_PROF_MAXMIS 0 c.profile → SameBut [.page 16] s t ∧ twinState t = twinState s) ∧
    (rd s R.TWIN_PROF_MAXMIS 0 c.profile < mis → (twinState s = 1 ∨ twinState s = 2) → rd t R.TWIN_LAST_MIS = mis % 2 ^ 32 ∧
      rd t R.TWIN_LAST_DIV_MARK_ID = mark % 2 ^ 16 ∧ rd t R.TWIN_LAST_DIV_PARTITION = p % 2 ^ 6 ∧
      rd t R.TWIN_DIV_CNT = min (rd s R.TWIN_DIV_CNT + 1) (2 ^ 32 - 1)) := by
  subst ht
  let u := addSat (incSat s R.TWIN_CMP_CNT) R.TWIN_EXEMPT_CNT ex
  have heval : evaluatePoint s p serial mark n v own peer =
      if rd s R.TWIN_PROF_MAXMIS 0 c.profile < mis then declareDivergence u p serial mark n mis cause else u := by
    unfold evaluatePoint
    rw [hc]
    dsimp only
    rw [hcmp]
    dsimp only
    rw [rd_addSat_ne (by decide), rd_incSat_ne (by decide)]
  have hcnt : rd u R.TWIN_CMP_CNT = min (rd s R.TWIN_CMP_CNT + 1) (2 ^ 32 - 1) :=
    (rd_addSat_ne (by decide) _ _ _ _ _ _).trans (rd_incSat ..)
  have hex : rd u R.TWIN_EXEMPT_CNT = min (rd s R.TWIN_EXEMPT_CNT + ex) (2 ^ 32 - 1) := by
    refine (rd_addSat ..).trans ?_
    rw [rd_incSat_ne (by decide)]
    rfl
  have hstate : twinState u = twinState s := (rd_addSat_ne (by decide) _ _ _ _ _ _).trans (rd_incSat_ne (by decide) _ _ _ _ _)
  have hcounts : rd (declareDivergence u p serial mark n mis cause) R.TWIN_CMP_CNT = rd u R.TWIN_CMP_CNT ∧
      rd (declareDivergence u p serial mark n mis cause) R.TWIN_EXEMPT_CNT = rd u R.TWIN_EXEMPT_CNT := by
    by_cases h : twinState u = 1 ∨ twinState u = 2
    · exact declareDivergence_keeps h
    · rw [declareDivergence_of_other (fun h1 => h (.inl h1)) (fun h2 => h (.inr h2))]
      exact ⟨rfl, rfl⟩
  rw [heval]
  refine ⟨?_, ?_, fun hle => ?_, fun hlt hst => ?_⟩
  · split
    · rw [hcounts.1, hcnt]
    · exact hcnt
  · split
    · rw [hcounts.2, hex]
    · exact hex
  · rw [if_neg (Nat.not_lt.mpr hle)]
    exact ⟨sameBut_of_touches (addSat_touches rfl (addSat_touches rfl (Touches.refl _ s))), hstate⟩
  · rw [if_pos hlt]
    obtain ⟨h1, h2, h3, -, h5⟩ := declareDivergence_shows (p := p) (serial := serial) (mark := mark) (n := n) (mis := mis)
      (cause := cause) (show twinState u = 1 ∨ twinState u = 2 by rwa [hstate])
    refine ⟨h1, h2, h3, h5.trans ?_⟩
    rw [show rd u R.TWIN_DIV_CNT = rd s R.TWIN_DIV_CNT from
      (rd_addSat_ne (by decide) _ _ _ _ _ _).trans (rd_incSat_ne (by decide) _ _ _ _ _)]

/-! ### Verdicts (R355 to R357) -/

section
variable {s : State} {v : Nat}

theorem applyVerdict_of_other (hst : twinState s ≠ 3) : applyVerdict s v = s := if_pos hst

theorem twinVerdict_applies (s : State) (v : Nat) : exec (.twinVerdict 0 [32 + v]) s = .next (applyVerdict s v) := by
  refine congrArg Host.Outcome.next ((if_pos rfl).trans ((if_pos (Nat.le_add_right 32 v)).trans ?_))
  rw [show [32 + v].getD 0 0 - 32 = v from Nat.add_sub_cancel_left 32 v]

/-- A verdict takes the divergence off hand, and then moves the pair by what it says. -/
theorem applyVerdict_moves (hst : twinState s = 3) : ∃ u, u.twin.test = none ∧
    (v = 2 → applyVerdict s v = setTwinState (irqEvent u 16 0 Irq.TWIN_UNDETERMINED 0 []) s.twin.role) ∧
    (v = 4 → applyVerdict s v = if s.twin.role = 1 then
        setTwinState (incSat (irqEvent ((mirroredReqs u).foldl (fun s i => endReq s i .twinFailover) u) 16 0 Irq.TWIN_FAILOVER 0 [])
          R.TWIN_FAILOVER_CNT) 5
      else becomeActive u) ∧
    (v ≠ 2 → v ≠ 4 → applyVerdict s v = if s.twin.role = 1 then setTwinState u 0 else setTwinState u 5) := by
  unfold applyVerdict
  rw [if_neg (not_not_intro hst)]
  extract_lets role s1 s2 w3 s3
  refine ⟨s3, rfl, fun h => ?_, fun h => ?_, fun h2 h4 => ?_⟩
  · rw [h]
    rfl
  · rw [h]
    rfl
  · split
    · exact absurd rfl h2
    · exact absurd rfl h4
    · rfl

theorem applyVerdict_ends (hst : twinState s = 3) :
    (v ≠ 4 → (applyVerdict s v).twin.test = none ∧
      twinState (applyVerdict s v) = (if v = 2 then s.twin.role % 2 ^ 3 else if s.twin.role = 1 then 0 else 5)) ∧
    (v = 4 → twinState (applyVerdict s v) = (if s.twin.role = 1 then 5 else 1)) := by
  obtain ⟨u, htest, h2, h4, hrest⟩ := applyVerdict_moves (v := v) hst
  refine ⟨fun hv => ?_, fun hv => ?_⟩
  · by_cases hund : v = 2
    · rw [h2 hund, if_pos hund]
      refine ⟨?_, rd_wr _ _ _ _ _⟩
      exact (congrArg Twin.test (irqEvent_twin ..)).trans htest
    · rw [hrest hund hv, if_neg hund]
      split
      · exact ⟨htest, rd_setTwinState_same _ (by decide)⟩
      · exact ⟨htest, rd_setTwinState_same _ (by decide)⟩
  · rw [h4 hv]
    split
    · exact rd_setTwinState_same _ (by decide)
    · exact rd_setTwinState_same _ (by decide)

end

/-- The peer's self-test result waits beside this unit's own on the unit that was active. -/
theorem twinVerdict_passes {s : State} {x : TwinTest} (htest : s.twin.test = some x) (hrole : s.twin.role = 1)
    (hown : x.ownRes.isSome = true) :
    Ends (.twinVerdict 0 [17]) s (fun t => t.twin.test = some { x with peerRes := some true } ∧ SameBut [.twin] s t) := by
  obtain ⟨o, ho⟩ := Option.isSome_iff_exists.mp hown
  let u : State := { s with twin := { s.twin with test := some { x with peerRes := some true } } }
  have hres : twinResults u = u := by
    unfold twinResults
    dsimp only [u]
    rw [ho, if_neg (by simp)]
    exact if_neg (by rw [hrole]; decide)
  have hexec : exec (.twinVerdict 0 [17]) s = .next (twinResults u) := by
    refine congrArg Host.Outcome.next ((if_pos rfl).trans ((if_neg (by decide)).trans ?_))
    rw [htest]
    rfl
  rw [hres] at hexec
  exact ⟨u, hexec, rfl, sameBut_of_touches (Touches.twin rfl (Touches.refl _ s))⟩

theorem twinVerdict_diverges {serial p mark n mis cause : Nat} {s : State} (hserial : serial ≠ 0) :
    (twinState s = 1 → Ends (.twinVerdict serial [p, mark, n, mis, cause]) s (fun t => rd t R.TWIN_LAST_MIS = mis % 2 ^ 32 ∧
      rd t R.TWIN_LAST_DIV_SLOT = n % 2 ^ 6 ∧ rd t R.TWIN_LAST_DIV_PARTITION = p % 2 ^ 6)) ∧
    (twinState s ≠ 1 → exec (.twinVerdict serial [p, mark, n, mis, cause]) s = .next s) := by
  refine ⟨fun hst => ?_, fun hst => congrArg Host.Outcome.next ((if_neg hserial).trans (if_neg hst))⟩
  obtain ⟨h1, -, h3, h4, -⟩ := declareDivergence_shows (p := p) (serial := serial) (mark := mark) (n := n) (mis := mis)
    (cause := cause) (.inl hst)
  exact ⟨_, congrArg Host.Outcome.next ((if_neg hserial).trans (if_pos hst)), h1, h4, h3⟩

/-- Settles O37, by what the standby follows and compares and by the branches of a verdict. -/
theorem mirrorStream : Obligations.MirrorStream :=
  ⟨fun _ _ => servAction_of_other,
    fun _ _ _ hrole hf hd => ⟨servAction_rolls_back hrole hf hd, servAction_parks hrole hf hd⟩,
    fun _ _ _ _ hrole hd => ⟨servAction_grows hrole hd, followGrow_of_other, fun hf _ hn hfit => followGrow_mapped hf hn hfit rfl⟩,
    fun _ _ hrole => servAction_closes hrole, fun _ _ _ _ _ _ hrole hd hopen => servAction_opens hrole hd hopen,
    fun _ _ _ _ _ => mirrorLaunch_joins, fun _ _ _ _ _ => mirrorLaunch_of_other, fun _ _ => launchAck_marks,
    fun _ _ _ => paceReport_takes, fun _ _ h => congrArg Host.Outcome.next (if_pos h), fun _ _ _ _ => compareData_of_other,
    fun _ _ _ _ _ hrole hp => ⟨fun _ => compareData_keeps hrole hp, fun _ _ _ _ => compareData_compares hrole hp⟩,
    fun _ _ _ _ _ _ _ _ _ _ _ _ hc hcmp => evaluatePoint_shows hc hcmp rfl,
    fun v s hst => ⟨fun hv => ⟨_, twinVerdict_applies s v, (applyVerdict_ends hst).1 hv⟩,
      fun hv => ⟨_, twinVerdict_applies s v, (applyVerdict_ends hst).2 hv⟩⟩,
    fun v s hst => (twinVerdict_applies s v).trans (congrArg Host.Outcome.next (applyVerdict_of_other hst)),
    fun _ _ => twinVerdict_passes, fun _ _ _ _ _ _ _ => twinVerdict_diverges⟩

end Sys2Proof.Proofs
end

section
/-!
Chapter 15, weights (R375): a transfer that joins an engine shows on the engine's own page.
-/

namespace Sys2Proof.Proofs

open Sys2Proof Sys2Proof.Machine Sys2Proof.Safety Sys2Proof.Certificates Sys2Proof.Laws Sys2Proof.Tests

/-- Where a page stays the same, so do its registers. -/
theorem rd_of_same {ty : Nat} {s t : State} (h : Same (.page ty) s t) {f : Fld} (hf : f.ty % 32 = ty) (i k : Nat) :
    rd t f i k = rd s f i k := h _ _ ((Touches.fldKey_type f i k).trans hf)

/-- A WEIGHT_LOAD of 64 bytes by the PF that opens the key of slot 0. -/
def loadCommand : RunCmd := cmdOf 0 0 [(0, 1, 0x20), (18, 1, 1), (20, 4, 64)]

/-- Queue 0 runs it, and tenant 0 owns the first extent. -/
def loadingWeights : State := withRun (owns0 S0) 0 loadCommand

theorem loadingWeights_passes : running loadingWeights 0 0x20 = some loadCommand ∧
    weightCheck loadingWeights loadCommand 1 true = none ∧ arg loadCommand 20 4 ≠ 0 ∧ rd loadingWeights R.DMA_STAT_BUSY 4 = 0 := by
  decide +kernel

/-- The transfer joins engine 4, whose page then shows it as busy. -/
theorem weightLoad_loadingWeights : (match exec (.weightLoad 0 1 true) loadingWeights with
    | .next t => rd t R.DMA_STAT_BUSY 4
    | _ => 0) = 1 := by
  decide +kernel

/-- Refutes O38: WEIGHT_LOAD of 64 bytes takes DMA_STAT_BUSY of the queue's engine from 0 to 1, a register outside the SEC page and
the host port's own state. -/
theorem not_keysAndWeights : ¬ Obligations.KeysAndWeights := by
  rintro ⟨-, -, -, -, -, h, -⟩
  obtain ⟨hrun, hcheck, hlen, hidle⟩ := loadingWeights_passes
  obtain ⟨t, ht, -, -, -, -, hsame⟩ := (h 0 1 true loadCommand loadingWeights hrun).2.2.2 hcheck hlen
  have hbusy := weightLoad_loadingWeights
  rw [ht] at hbusy
  have hkept : rd t R.DMA_STAT_BUSY 4 = rd loadingWeights R.DMA_STAT_BUSY 4 := rd_of_same (hsame.2 (.page 8) (by decide)) rfl ..
  rw [hidle] at hkept
  exact absurd (hkept.symm.trans hbusy) (by decide)

end Sys2Proof.Proofs
end

section
/-!
Proofs for chapter 15: the answers of the security island, its sessions, and the keys of IDE streams (R269, R377 to R380).
-/

namespace Sys2Proof.Proofs

open Sys2Proof Sys2Proof.Machine Sys2Proof.Safety Sys2Proof.Certificates Sys2Proof.Laws

/-! ### Answers (R377, R378) -/

theorem answer_leaves (s : State) (req : Nat) (l : List Nat) :
    (answer s req l).out = .mctp (req :: l) :: s.out ∧ SameBut [.out] s (answer s req l) :=
  ⟨rfl, sameBut_of_touches (answer_touches rfl (Touches.refl _ s))⟩

/-- An answer whose content was drawn. -/
theorem drawnAnswer_leaves (s : State) (req : Nat) (l : List Nat) :
    (useFree (answer s req l)).out = .mctp (req :: l) :: s.out ∧ SameBut [.free, .out] s (useFree (answer s req l)) :=
  ⟨rfl, sameBut_of_touches (useFree_touches rfl (answer_touches rfl (Touches.refl _ s)))⟩

/-- The length of `n` drawn bytes. -/
theorem length_drawn (n : Nat) (f : Nat → Nat) : ((List.range n).map f).length = n := by
  rw [List.length_map, List.length_range]

theorem getMeasurements_answers (signed : Bool) (s : State) : Ends (.getMeasurements 3 signed) s (fun t =>
    (∃ l, l.length = (if signed then 114 else 0) ∧ t.out = .mctp (6 :: (measurement s 3 ++ l)) :: s.out) ∧
    SameBut [.free, .out] s t) := by
  obtain ⟨hout, hsame⟩ := drawnAnswer_leaves s 6
    ([3].flatMap (measurement s) ++ if signed then (List.range 114).map (fun j => freeVal s (1000 + j)) else [])
  rw [List.flatMap_singleton] at hout
  refine ⟨_, rfl, ⟨_, ?_, hout⟩, hsame⟩
  cases signed
  · rfl
  · exact length_drawn ..

theorem measurement_debug (s : State) :
    (measurement s 3).getD 0 0 = rd s R.SEC_STAT_DEBUG_OPEN ∧ (measurement s 3).length = 72 := ⟨rfl, rfl⟩

/-! ### Sessions (R379) -/

theorem keyExchange_opens {s : State} (h : s.sec.sessions.length < 4) : Ends .keyExchange s (fun t =>
    t.sec.sessions = s.sec.sessions ++ [{ id := s.sec.nextSession }] ∧ t.out = .mctp [7, s.sec.nextSession] :: s.out ∧
    SameBut [.security, .out] s t) := by
  have hexec := (congrArg Host.Outcome.next (if_neg (Nat.not_le.mpr h)) : exec .keyExchange s = _)
  exact ⟨_, hexec, rfl, rfl, sameBut_of_touches (touches_of_next hexec
    (execKeyExchange_touches rfl (Touches.refl _ s) (Touches.refl _ s)))⟩

theorem sessionOpen_modSession {s : State} {sid : Nat} (h : s.sec.sessions.any (fun x => x.id = sid && !x.open_) = true) :
    sessionOpen (modSession s sid (fun x => { x with open_ := true })) sid = true := by
  obtain ⟨x, hx, hid⟩ := List.any_eq_true.mp h
  rw [Bool.and_eq_true, decide_eq_true_eq] at hid
  refine List.any_eq_true.mpr ⟨_, List.mem_map_of_mem hx, ?_⟩
  rw [if_pos hid.1]
  simp [hid.1]

theorem finish_ends {sid : Nat} {s : State} (h : s.sec.sessions.any (fun x => x.id = sid && !x.open_) = true) :
    Ends (.finish sid true) s (fun t => sessionOpen t sid = true ∧ rd t R.SEC_SPDM_CNT = min (rd s R.SEC_SPDM_CNT + 1) (2 ^ 32 - 1) ∧
      t.out = .mctp [8, sid] :: s.out ∧ SameBut [.page 17, .security, .out] s t) ∧
    Ends (.finish sid false) s (fun t => (∀ x ∈ t.sec.sessions, x.id ≠ sid) ∧ SameBut [.security] s t) := by
  have hexec (b : Bool) := (congrArg Host.Outcome.next (if_pos h) : exec (.finish sid b) s = _)
  refine ⟨⟨_, hexec true, sessionOpen_modSession h, rd_incSat .., rfl, ?_⟩, _, hexec false, fun x hx => ?_, ?_⟩
  · exact sameBut_of_touches (answer_touches rfl (incSat_touches rfl (modSession_touches rfl (Touches.refl _ s))))
  · exact of_decide_eq_true (List.mem_filter.mp hx).2
  · exact sameBut_of_touches (Touches.security rfl (Touches.refl _ s))

section
variable {sid : Nat} {s : State}

/-- A request of an established session. -/
theorem sessionRequest_served (h : sessionOpen s sid = true) :
    Ends (.heartbeat sid) s (fun t => t.out = .mctp [9, sid] :: s.out ∧ SameBut [.out] s t) ∧
    Ends (.keyUpdate sid) s (fun t => t.sec.sessions = s.sec.sessions.map (fun x =>
      if x.id = sid then { x with updates := x.updates + 1 } else x) ∧ t.out = .mctp [10, sid] :: s.out ∧
      SameBut [.security, .out] s t) ∧
    Ends (.endSession sid) s (fun t => t.sec.sessions = s.sec.sessions.filter (fun x => x.id ≠ sid) ∧ sessionOpen t sid = false ∧
      t.out = .mctp [11, sid] :: s.out ∧ SameBut [.security, .out] s t) := by
  refine ⟨⟨_, congrArg Host.Outcome.next (if_pos h), answer_leaves ..⟩, ⟨_, congrArg Host.Outcome.next (if_pos h), rfl, rfl, sameBut_of_touches
    (answer_touches rfl (modSession_touches rfl (Touches.refl _ s)))⟩, _, congrArg Host.Outcome.next (if_pos h), rfl, ?_, rfl, sameBut_of_touches
    (answer_touches rfl (Touches.security rfl (Touches.refl _ s)))⟩
  refine List.any_eq_false.mpr fun x hx => ?_
  have hne : x.id ≠ sid := of_decide_eq_true (List.mem_filter.mp hx).2
  simp [hne]

/-- Without an established session the requests that need one change nothing. -/
theorem sessionRequest_ignored (h : sessionOpen s sid = false) : exec (.heartbeat sid) s = .next s ∧
    exec (.keyUpdate sid) s = .next s ∧ exec (.endSession sid) s = .next s ∧ exec (.query sid) s = .next s ∧
    (∀ i set sub dir, exec (.keyProg sid i set sub dir) s = .next s ∧ exec (.kSetGo sid i set) s = .next s ∧
      exec (.kSetStop sid i set) s = .next s) := by
  have hnot : ¬sessionOpen s sid = true := by rw [h]; exact Bool.false_ne_true
  have hide (i : Nat) : ideServed s sid i = false := by rw [ideServed, h]; rfl
  refine ⟨congrArg Host.Outcome.next (if_neg hnot), congrArg Host.Outcome.next (if_neg hnot), congrArg Host.Outcome.next (if_neg hnot), congrArg Host.Outcome.next (if_neg ?_),
    fun i set sub dir => ⟨congrArg Host.Outcome.next (if_neg ?_), congrArg Host.Outcome.next (if_neg ?_), congrArg Host.Outcome.next (if_neg ?_)⟩⟩ <;>
  simp [hide]

end

/-! ### IDE keys (R269, R380) -/

theorem ideStream_setIde (s : State) (i : Nat) (x : IdeStream) : ideStream (setIde s i x) i = x := tget_tset_same ..

theorem ideStream_setIde_ne (s : State) {i j : Nat} (x : IdeStream) (h : j ≠ i) : ideStream (setIde s i x) j = ideStream s j :=
  tget_tset_ne _ _ h _ _

theorem bit_or_two_pow (a i : Nat) : (a ||| 2 ^ i) / 2 ^ i % 2 = 1 := by
  have h : (a ||| 2 ^ i).testBit i = true := by rw [Nat.testBit_or, Nat.testBit_two_pow_self, Bool.or_true]
  rwa [Nat.testBit_eq_decide_div_mod_eq, decide_eq_true_eq] at h

/-- A mask of eight bits without bit `i` clears it. -/
theorem bit_and_hole (a : Nat) {i : Nat} (hi : i < 8) : (a &&& (255 - 2 ^ i)) / 2 ^ i % 2 = 0 := by
  have hhole : (255 - 2 ^ i).testBit i = false := by interval_cases i <;> decide
  have h : (a &&& (255 - 2 ^ i)).testBit i = false := by rw [Nat.testBit_and, hhole, Bool.and_false]
  rw [Nat.testBit_eq_decide_div_mod_eq, decide_eq_false_iff_not] at h
  omega

/-- A field of eight bits shows any of them. -/
theorem bit_mod_octet (a : Nat) {i : Nat} (hi : i < 8) : a % 2 ^ 8 / 2 ^ i % 2 = a / 2 ^ i % 2 := by
  interval_cases i <;> omega

section
variable {sid i set : Nat} {s : State} (hopen : sessionOpen s sid = true) (hdebug : debugOpen s = false) (hi : i < 8) (hset : set < 2)
include hopen hdebug

theorem query_answers : Ends (.query sid) s (fun t => t.out = .mctp [14, 8, 2] :: s.out ∧ SameBut [.out] s t) :=
  ⟨_, congrArg Host.Outcome.next (if_pos (by simp [ideServed, hopen, hdebug])), answer_leaves ..⟩

include hi hset

theorem keyProg_keeps {sub dir : Nat} (hsub : sub < 3) (hdir : dir < 2) : Ends (.keyProg sid i set sub dir) s (fun t =>
    (∀ k, k ∈ (ideStream t i).keys ↔ k = 6 * set + 2 * sub + dir ∨ k ∈ (ideStream s i).keys) ∧
    (∀ j, j ≠ i → ideStream t j = ideStream s j) ∧ SameBut [.host, .out] s t) := by
  refine ⟨_, congrArg Host.Outcome.next (if_pos (by simp [ideServed, hopen, hdebug, hi, hset, hsub, hdir])), fun k => ?_,
    fun j hj => ideStream_setIde_ne s _ hj, sameBut_of_touches (answer_touches rfl (setIde_touches rfl (Touches.refl _ s)))⟩
  refine (iff_of_eq (congrArg (k ∈ ·.keys) (ideStream_setIde s i _))).trans ?_
  rw [List.mem_eraseDups, List.mem_cons]

theorem kSetGo_starts (hkeys : ∀ j < 6, 6 * set + j ∈ (ideStream s i).keys) (hrate : 5 ≤ rd s R.HOST_LINK_SPEED) :
    Ends (.kSetGo sid i set) s (fun t =>
      (ideStream t i).active = some set ∧ rd t R.HOST_IDE_STAT_ACTIVE / 2 ^ i % 2 = 1 ∧ rd t R.HOST_IDE_STAT_INSECURE / 2 ^ i % 2 = 0 ∧
      (∀ j, j ≠ i → ideStream t j = ideStream s j) ∧ SameBut [.page 7, .host, .out] s t) := by
  have hall : ∀ j < 6, (ideStream s i).keys.contains (6 * set + j) = true := fun j hj => List.contains_iff_mem.mpr (hkeys j hj)
  refine ⟨_, congrArg Host.Outcome.next (if_pos ?_), ?_, ?_, ?_, fun j hj => ideStream_setIde_ne s _ hj, sameBut_of_touches
    (answer_touches rfl (wr_touches rfl (wr_touches rfl (setIde_touches rfl (Touches.refl _ s)))))⟩
  · simp only [ideServed, hopen, hdebug, hi, hset, hrate, decide_true, Bool.not_false, Bool.and_self, Bool.and_true, Bool.true_and]
    exact List.all_eq_true.mpr fun j hj => hall j (List.mem_range.mp hj)
  · exact congrArg IdeStream.active (ideStream_setIde s i _)
  · rw [answer, rd_emit, rd_wr_ne (by decide), rd_wr]
    exact (bit_mod_octet _ hi).trans (bit_or_two_pow ..)
  · rw [answer, rd_emit, rd_wr]
    exact (bit_mod_octet _ hi).trans (bit_and_hole _ hi)

theorem kSetStop_stops (hactive : (ideStream s i).active = some set) : Ends (.kSetStop sid i set) s (fun t =>
    (ideStream t i).active = none ∧ (∀ k ∈ (ideStream t i).keys, k / 6 ≠ set) ∧ rd t R.HOST_IDE_STAT_ACTIVE / 2 ^ i % 2 = 0 ∧
    (∀ j, j ≠ i → ideStream t j = ideStream s j) ∧ SameBut [.page 7, .host, .out] s t) := by
  have hserved : (ideServed s sid i && set < 2) = true := by simp [ideServed, hopen, hdebug, hi, hset]
  have hexec : exec (.kSetStop sid i set) s = .next (answer (wr (setIde s i { ideStream s i with
      keys := (ideStream s i).keys.filter (fun k => k / 6 ≠ set), active := none })
      R.HOST_IDE_STAT_ACTIVE (rd s R.HOST_IDE_STAT_ACTIVE &&& (255 - 2 ^ i))) 17 [i]) := by
    refine congrArg Host.Outcome.next ((if_pos hserved).trans ?_)
    dsimp only
    rw [if_pos hactive, if_pos hactive]
    rfl
  refine ⟨_, hexec, congrArg IdeStream.active (ideStream_setIde s i _), fun k hk => ?_, ?_, fun j hj => ideStream_setIde_ne s _ hj,
    sameBut_of_touches (answer_touches rfl (wr_touches rfl (setIde_touches rfl (Touches.refl _ s))))⟩
  · have hk' := congrArg IdeStream.keys (ideStream_setIde s i _) ▸ hk
    exact of_decide_eq_true (List.mem_filter.mp hk').2
  · rw [answer, rd_emit, rd_wr]
    exact (bit_mod_octet _ hi).trans (bit_and_hole _ hi)

end

/-- Settles O40: every answer is the number of its request and its content, and the sessions and IDE streams are tables whose entry
of the request's number alone changes. -/
theorem attestation : Obligations.Attestation := by
  unfold Obligations.Attestation
  refine ⟨fun s => ⟨⟨_, rfl, answer_leaves ..⟩, ⟨_, rfl, answer_leaves ..⟩, _, rfl, answer_leaves ..⟩,
    fun s => ?_, fun off n s => ?_, fun k off n s hk => ⟨_, congrArg Host.Outcome.next (if_pos hk), answer_leaves ..⟩, fun nonce s => ?_,
    getMeasurements_answers, measurement_debug, fun s h => keyExchange_opens h,
    fun s h => ⟨_, congrArg Host.Outcome.next (if_pos h), answer_leaves ..⟩, fun sid s h => finish_ends h,
    fun sid s h => sessionRequest_served h, fun sid s h => sessionRequest_ignored h, fun bytes s => ?_, fun n s => ?_,
    fun sid i set s hopen hdebug hi hset => ⟨query_answers hopen hdebug, fun sub dir hsub hdir =>
      keyProg_keeps hopen hdebug hi hset hsub hdir, fun hkeys hrate => kSetGo_starts hopen hdebug hi hset hkeys hrate,
      fun hactive => kSetStop_stops hopen hdebug hi hset hactive⟩⟩
  · obtain ⟨hout, hsame⟩ := drawnAnswer_leaves s 3 ((List.range 48).map (freeVal s))
    exact ⟨_, rfl, ⟨_, length_drawn .., hout⟩, hsame⟩
  · obtain ⟨hout, hsame⟩ := drawnAnswer_leaves s 4 ((List.range n).map (fun i => freeVal s (off + i)))
    exact ⟨_, rfl, ⟨_, length_drawn .., hout⟩, hsame⟩
  · obtain ⟨hout, hsame⟩ := drawnAnswer_leaves s 5 (nonce.map BitVec.toNat ++ (List.range 114).map (freeVal s))
    exact ⟨_, rfl, ⟨_, length_drawn .., hout⟩, hsame⟩
  · exact ⟨⟨_, rfl, rfl, sameBut_of_touches (answer_touches rfl (Touches.security rfl (Touches.refl _ s)))⟩,
      _, rfl, rfl, sameBut_of_touches (answer_touches rfl (Touches.security rfl (Touches.refl _ s)))⟩
  · exact ⟨⟨_, rfl, rfl, rfl, sameBut_of_touches (answer_touches rfl (Touches.security rfl (Touches.refl _ s)))⟩,
      _, rfl, rfl, sameBut_of_touches (answer_touches rfl (Touches.security rfl (Touches.refl _ s)))⟩

end Sys2Proof.Proofs
end

section
/-!
Proofs for chapter 16: idle power domains, their wake, and standby (R391 to R397).
-/

namespace Sys2Proof.Proofs

open Sys2Proof Sys2Proof.Machine Sys2Proof.Safety Sys2Proof.Certificates Sys2Proof.Laws

/-! ### Single domains (R391, R392, R395, R396) -/

theorem pwr_setDom (s : State) (d v : Nat) : (setDom s d v).pwr = { s.pwr with dom := (setDom s d v).pwr.dom } := rfl

/-- A domain that is set leaves every other one. -/
theorem dom_setDom_others (s : State) (d v : Nat) : ∀ k, k ≠ d → dom (setDom s d v) k = dom s k :=
  fun _ hk => dom_setDom_ne s v hk

theorem setDom_leaves (s : State) (d v : Nat) : SameBut [.power] s (setDom s d v) :=
  sameBut_of_touches (setDom_touches rfl (Touches.refl _ s))

theorem mayIdle_of_noRule (s : State) {d : Nat} (h : 372 ≤ d ∧ d < 384 ∨ 392 ≤ d) : mayIdle s d = false := by
  unfold mayIdle
  rw [if_neg (by omega), if_neg (by omega), if_neg (by simp only [Bool.and_eq_true, decide_eq_true_eq]; omega)]

theorem domainIdle_ignored {s : State} {d : Nat} (h : dom s d ≠ 0 ∨ heldOn s d = true ∨ mayIdle s d = false) :
    exec (.domainIdle d) s = .next s := by
  refine congrArg Host.Outcome.next (if_neg ?_)
  rw [Bool.and_eq_true, Bool.and_eq_true, decide_eq_true_eq, Bool.not_eq_true']
  rintro ⟨⟨hon, hheld⟩, hidle⟩
  rcases h with h | h | h
  · exact h hon
  · exact Bool.false_ne_true (hheld.symm.trans h)
  · exact Bool.false_ne_true (h.symm.trans hidle)

theorem domainIdle_lowers {s : State} {d : Nat} (hon : dom s d = 0) (hheld : heldOn s d = false) (hidle : mayIdle s d = true) :
    exec (.domainIdle d) s = .next (setDom s d 2) :=
  congrArg Host.Outcome.next (if_pos (by rw [hon, hheld, hidle]; rfl))

/-- A low domain that may be on wakes while no dusk runs. -/
theorem wakeDomain_wakes {s : State} {d : Nat} (hlow : dom s d = 2) (hoff : alwaysOff s d = false) (hdusk : s.pwr.dusk = none) :
    wakeDomain s d = setDom s d 1 := if_pos (by rw [hlow, hoff, hdusk]; rfl)

theorem wakeDomain_ignored {s : State} {d : Nat} (h : dom s d ≠ 2 ∨ alwaysOff s d = true) : wakeDomain s d = s := by
  refine if_neg ?_
  rw [Bool.and_eq_true, Bool.and_eq_true, decide_eq_true_eq, Bool.not_eq_true']
  rintro ⟨⟨hlow, hoff⟩, -⟩
  rcases h with h | h
  · exact h hlow
  · exact Bool.false_ne_true (hoff.symm.trans h)

theorem domainWake_ignored {s : State} {d : Nat}
    (h : dom s d ≠ 2 ∨ alwaysOff s d = true ∨ rd s R.PWR_STAT_STANDBY = 1 ∧ d < 376) : exec (.domainWake d) s = .next s := by
  refine congrArg Host.Outcome.next ?_
  by_cases hlow : rd s R.PWR_STAT_STANDBY = 1 ∧ d < 376
  · exact if_pos (by simp [hlow])
  · rw [wakeDomain_ignored (by tauto), ite_self]

theorem wakeDone_ends {s : State} {d : Nat} (h : dom s d = 1) : Ends (.wakeDone d) s (fun t => dom t d = 0 ∧
    (∀ k, k ≠ d → dom t k = dom s k) ∧ (∀ p < 8, (port t p).idle = (if d = 376 + p then false else (port s p).idle)) ∧
    SameBut [.power, .links] s t) := by
  refine ⟨_, congrArg Host.Outcome.next (if_pos h), ?_⟩
  dsimp only
  split
  next hport =>
    have hrange : 376 ≤ d ∧ d < 384 := by simpa using hport
    refine ⟨dom_setDom .., dom_setDom_others s d 0, fun p hp => ?_, sameBut_of_touches
      (setPort_touches rfl (setDom_touches rfl (Touches.refl _ s)))⟩
    by_cases hpd : d = 376 + p
    · rw [if_pos hpd, show d - 376 = p by omega, port_setPort]
    · rw [if_neg hpd, port_setPort_ne _ _ (by omega)]
      rfl
  next hport =>
    have hrange : ¬(376 ≤ d ∧ d < 384) := by simpa using hport
    refine ⟨dom_setDom .., dom_setDom_others s d 0, fun p hp => ?_, sameBut_of_touches (setDom_touches rfl (Touches.refl _ s))⟩
    rw [if_neg (by omega)]
    rfl

/-! ### Writes of HOLD_ON (R392, R393) -/

theorem testBit_maskOf_page {ty : Nat} (hty : ty < 27) (l : List Comp) :
    (maskOf (.page ty :: l)).testBit (32 + ty % 32) = true := by
  rw [Nat.mod_eq_of_lt (by omega), maskOf, Nat.testBit_or, bit, Nat.testBit_two_pow_self, Bool.true_or]

theorem testBit_maskOf_tail {c : Comp} {l : List Comp} {n : Nat} (h : (maskOf l).testBit n = true) :
    (maskOf (c :: l)).testBit n = true := by
  rw [maskOf, Nat.testBit_or, h, Bool.or_true]

/-- HOLD_ON stands in the header, apart from every register of a page's own part. -/
theorem rd_wr_holdOn (s : State) (ty v i : Nat) {f : Fld} (hlo : 0x100 ≤ f.off) (hhi : f.off * 8 + f.lo < 2 ^ 15) (j k : Nat) :
    rd (wr s (hHoldOn ty) v i) f j k = rd s f j k :=
  rd_wr_ne (f := hHoldOn ty) (fldCode_ne_of_header hlo hhi (by decide : 0x024 * 8 + 0 < 0x800)) ..

theorem alwaysOff_congr {s t : State} (h : ∀ f ∈ [R.CELL_MAP_STATE, R.APIPE_MAP_STATE, R.MEMC_PART_DISABLED, R.SEC_STAT_DEBUG_OPEN],
    ∀ i, rd t f i = rd s f i) (d : Nat) : alwaysOff t d = alwaysOff s d := by
  unfold alwaysOff debugOpen
  rw [h _ (by simp) d, h _ (by simp) (d - 272), h _ (by simp) (d - 340), h R.SEC_STAT_DEBUG_OPEN (by simp) 0]

theorem alwaysOff_holdOn (s : State) (ty v i d : Nat) : alwaysOff (wr s (hHoldOn ty) v i) d = alwaysOff s d :=
  alwaysOff_congr (fun f hf j => by
    have hbody : 0x100 ≤ f.off ∧ f.off * 8 + f.lo < 2 ^ 15 := by fin_cases hf <;> decide
    exact rd_wr_holdOn s ty v i hbody.1 hbody.2 j 0) d

theorem rd_wakeDomain (s : State) (d : Nat) (f : Fld) (i k : Nat) : rd (wakeDomain s d) f i k = rd s f i k := by
  unfold wakeDomain
  split <;> rfl

theorem holdOnWrite_ends {ty i v : Nat} {s : State} (hty : ty < 27) (hi : i < pageCount ty) (hrec : rd s R.BOOT_STAT_RECOVERY ≠ 1) :
    Ends (.holdOnWrite ty i v) s (fun t => rd t (hHoldOn ty) i = v % 2 ∧ (v % 2 = 0 → SameBut [.page ty] s t) ∧
      (v % 2 = 1 → dom s (pageDomain ty i) = 2 → alwaysOff s (pageDomain ty i) = false → s.pwr.dusk = none →
        dom t (pageDomain ty i) = 1) ∧ SameBut [.page ty, .power] s t) := by
  have hserved : ¬(27 ≤ ty || pageCount ty ≤ i || (rd s R.BOOT_STAT_RECOVERY = 1 && !recoveryPage ty)) = true := by
    simp [hrec, hty, hi]
  refine ⟨_, congrArg Host.Outcome.next (if_neg hserved), ?_⟩
  have hbit : rd (wr s (hHoldOn ty) (v % 2) i) (hHoldOn ty) i = v % 2 := rd_wr_fit _ _ _ _ (Nat.mod_lt _ (by decide))
  have htouch {l : List Comp} : Touches (maskOf (.page ty :: l)) s (wr s (hHoldOn ty) (v % 2) i) :=
    wr_touches (f := hHoldOn ty) (testBit_maskOf_page hty l) (Touches.refl _ s)
  dsimp only
  split
  next hone =>
    refine ⟨(rd_wakeDomain ..).trans hbit, fun h0 => absurd (hone.symm.trans h0) (by decide), fun _ hlow hoff hdusk => ?_,
      sameBut_of_touches ?_⟩
    · rw [wakeDomain_wakes (by exact hlow) ((alwaysOff_holdOn ..).trans hoff) hdusk, dom_setDom]
    · unfold wakeDomain
      split
      · exact Touches.power (testBit_maskOf_tail rfl) htouch
      · exact htouch
  next hone =>
    exact ⟨hbit, fun _ => sameBut_of_touches htouch, fun h1 => absurd h1 hone, sameBut_of_touches htouch⟩

/-! ### Idle lanes (R395) -/

theorem laneIdleAgreement_idles {p : Nat} {s : State} (hidle : lanesMayIdle s p = true) (hon : dom s (376 + p) = 0) :
    Ends (.laneIdleAgreement p true) s (fun t => dom t (376 + p) = 2 ∧ (port t p).idle = true ∧ portState t p = portState s p ∧
      SameBut [.power, .links] s t) :=
  ⟨_, congrArg Host.Outcome.next (if_pos (by rw [hidle, hon]; rfl)), dom_setDom .., congrArg WPort.idle (port_setPort ..), rfl,
    sameBut_of_touches (setDom_touches rfl (setPort_touches rfl (Touches.refl _ s)))⟩

theorem laneIdleAgreement_ignored {p : Nat} {b : Bool} {s : State} (h : (b && lanesMayIdle s p) = false) :
    exec (.laneIdleAgreement p b) s = .next s := congrArg Host.Outcome.next (if_neg (by simp [h]))

/-! ### Standby (R397) -/

theorem mem_standbyDomains {d : Nat} : d ∈ standbyDomains ↔ d < 376 ∨ 384 ≤ d ∧ d < 397 := by
  rw [standbyDomains, List.mem_filter, List.mem_range]
  simp only [Bool.or_eq_true, decide_eq_true_eq]
  omega

/-- A run that sets domains to one value sets those of its list and no other. -/
theorem dom_foldl_setDom (v : Nat) (l : List Nat) (s : State) (d : Nat) :
    dom (l.foldl (fun s d => setDom s d v) s) d = if d ∈ l then v else dom s d := by
  induction l generalizing s with
  | nil => rfl
  | cons e l ih =>
    rw [List.foldl_cons, ih]
    by_cases hd : d = e
    · subst hd
      rw [dom_setDom, ite_self, if_pos List.mem_cons_self]
    · rw [dom_setDom_ne s v hd]
      simp only [List.mem_cons, hd, false_or]

theorem standbyEntry_ends {s : State} (hnot : rd s R.PWR_STAT_STANDBY = 0) (hmay : mayStandby s = true) :
    Ends .standbyEntry s (fun t => rd t R.PWR_STAT_STANDBY = 1 ∧
      (∀ d, (d < 376 ∨ 384 ≤ d ∧ d < 397) → dom t d = 2) ∧ (∀ d, (376 ≤ d ∧ d < 384 ∨ 397 ≤ d) → dom t d = dom s d) ∧
      SameBut (pages [19] ++ [.power]) s t) := by
  refine ⟨_, congrArg Host.Outcome.next (if_pos (by rw [hnot, hmay]; rfl)), ?_, fun d hd => ?_, fun d hd => ?_, ?_⟩
  · exact (Touches.foldl (m := 0x20) (Touches.refl _ _) fun u d => setDom_touches rfl (Touches.refl _ u)).reads rfl |>.trans
      (rd_wr_fit _ _ _ _ (by decide))
  · rw [dom_foldl_setDom, if_pos (mem_standbyDomains.mpr hd)]
  · rw [dom_foldl_setDom, if_neg (by rw [mem_standbyDomains]; omega)]
    rfl
  · exact sameBut_of_touches (Touches.foldl (wr_touches rfl (Touches.refl _ s)) fun u d => setDom_touches rfl (Touches.refl _ u))

/-- The end of standby for one domain. -/
def standbyWake (s : State) (d : Nat) : State :=
  if (d < 376 || 384 ≤ d) && dom s d ≠ 3 && !alwaysOff s d then setDom s d 0 else s

theorem standbyWake_touches (s : State) (d : Nat) : Touches 0x20 s (standbyWake s d) := by
  unfold standbyWake
  split
  · exact setDom_touches rfl (Touches.refl _ s)
  · exact Touches.refl _ s

theorem alwaysOff_standbyWake (s : State) (e d : Nat) : alwaysOff (standbyWake s e) d = alwaysOff s d :=
  alwaysOff_congr (fun f hf i => (standbyWake_touches s e).reads (by fin_cases hf <;> rfl)) d

theorem dom_standbyWake_ne (s : State) {d e : Nat} (h : d ≠ e) : dom (standbyWake s e) d = dom s d := by
  unfold standbyWake
  split
  · exact dom_setDom_ne s 0 h
  · rfl

theorem dom_standbyWake (s : State) {d : Nat} (hd : d < 376 ∨ 384 ≤ d) (hreset : dom s d ≠ 3) (hoff : alwaysOff s d = false) :
    dom (standbyWake s d) d = 0 := by
  rw [standbyWake, if_pos (by simpa [hreset, hoff] using hd), dom_setDom]

theorem dom_foldl_standbyWake {d : Nat} (hd : d < 376 ∨ 384 ≤ d) (l : List Nat) (s : State) (hreset : dom s d ≠ 3)
    (hoff : alwaysOff s d = false) (hl : d ∈ l ∨ dom s d = 0) : dom (l.foldl standbyWake s) d = 0 := by
  induction l generalizing s with
  | nil => exact hl.resolve_left List.not_mem_nil
  | cons e l ih =>
    by_cases hde : d = e
    · subst hde
      have h0 := dom_standbyWake s hd hreset hoff
      exact ih _ (by rw [h0]; decide) ((alwaysOff_standbyWake ..).trans hoff) (.inr h0)
    · have hsame := dom_standbyWake_ne s hde
      refine ih _ (hsame ▸ hreset) ((alwaysOff_standbyWake ..).trans hoff) ?_
      rw [hsame]
      exact hl.imp_left fun h => (List.mem_cons.mp h).resolve_left hde

theorem standbyExit_ends {s : State} (h : rd s R.PWR_STAT_STANDBY = 1) :
    Ends .standbyExit s (fun t => rd t R.PWR_STAT_STANDBY = 0 ∧
      (∀ d, (d < 376 ∨ 384 ≤ d ∧ d < 397) → dom s d ≠ 3 → alwaysOff s d = false → dom t d = 0) ∧
      rd t (hIrqRaw 19 Irq.PWR_STANDBY_EXIT) 0 = 1 ∧ SameBut (recorded ++ pages [19] ++ [.power]) s t) := by
  let s1 := wr s R.PWR_STAT_STANDBY 0
  have hexec : exec .standbyExit s = .next (irqEvent ((List.range 397).foldl standbyWake s1) 19 0 Irq.PWR_STANDBY_EXIT 0 []) :=
    congrArg Host.Outcome.next (if_pos h)
  have hfold : Touches 0x20 s1 ((List.range 397).foldl standbyWake s1) :=
    Touches.foldl (Touches.refl _ s1) fun u d => (standbyWake_touches u d)
  refine ⟨_, hexec, ?_, fun d hd hreset hoff => ?_, rd_irqEvent_same .., sameBut_of_touches
    (touches_of_next hexec (execStandbyExit_touches rfl (Touches.refl _ s) (Touches.refl _ s)))⟩
  · rw [rd_irqEvent _ _ _ _ _ _ rfl (by decide), hfold.reads rfl]
    exact rd_wr_fit _ _ _ _ (by decide)
  · have hl : d ∈ List.range 397 := List.mem_range.mpr (by omega)
    rw [dom, irqEvent_pwr]
    generalize List.range 397 = l at hl
    refine dom_foldl_standbyWake (hd.imp_right And.left) l s1 hreset ?_ (.inl hl)
    exact (alwaysOff_congr (fun f hf i => rd_wr_ne (by fin_cases hf <;> decide) ..) d).trans hoff

/-- Settles O43: a domain's state is one entry of a table, which each command sets where its conditions hold. -/
theorem domains : Obligations.Domains := by
  unfold Obligations.Domains
  refine ⟨fun d s => ⟨fun hon hheld hidle => ⟨_, domainIdle_lowers hon hheld hidle, dom_setDom .., dom_setDom_others s d 2, pwr_setDom ..,
      setDom_leaves ..⟩, domainIdle_ignored, fun h => domainIdle_ignored (.inr (.inr (mayIdle_of_noRule s h)))⟩,
    fun d s hlow hoff hdusk hstandby => ⟨_, congrArg Host.Outcome.next ((if_neg (by simp [hstandby])).trans
      (wakeDomain_wakes hlow hoff hdusk)), dom_setDom .., dom_setDom_others s d 1, setDom_leaves ..⟩,
    fun d s => domainWake_ignored, fun d s => ⟨wakeDone_ends, fun h => congrArg Host.Outcome.next (if_neg h)⟩,
    fun ty i v s hty hi hrec => holdOnWrite_ends hty hi hrec, fun ty i v s h => congrArg Host.Outcome.next (if_pos ?_),
    fun p s => ⟨laneIdleAgreement_idles, laneIdleAgreement_ignored rfl, fun h => laneIdleAgreement_ignored (by rw [h]; rfl)⟩,
    fun s hnot hmay => standbyEntry_ends hnot hmay, fun s h => congrArg Host.Outcome.next (if_neg ?_),
    fun s h => standbyExit_ends h, fun s h => congrArg Host.Outcome.next (if_neg h)⟩
  · rcases h with h | h <;> simp [h]
  · rcases h with h | h <;> simp [h]

end Sys2Proof.Proofs
end

section
/-!
Proofs for chapter 16: the power interval, the cap, the emergency shed and the launch gate (R398 to R402).
-/

namespace Sys2Proof.Proofs

open Sys2Proof Sys2Proof.Machine Sys2Proof.Safety Sys2Proof.Certificates Sys2Proof.Laws

/-! ### The parts of a power interval -/

section
variable (s : State) (m : Nat) (v : Int)

theorem rd_metricSample (f : Fld) (i k : Nat) : rd (metricSample s m v) f i k = rd s f i k := by
  unfold metricSample
  split <;> rfl

theorem metricSample_pwr : (metricSample s m v).pwr = s.pwr := by
  unfold metricSample
  split <;> rfl

end

section
variable {f : Fld} (hpage : Nat.testBit 0x180000000060010 (32 + f.ty % 32) = false)
include hpage

/-- An interrupt of the power page and its record leave every register but the raised bit. -/
theorem rd_raised {n : Nat} (hf : fldCode f ≠ fldCode (hIrqRaw 19 n)) (s : State) (code sev tenant : Nat) (detail : List Nat) (i k : Nat) :
    rd (raiseIrq (recordEvent s 19 0 code sev tenant detail) 19 0 n) f i k = rd s f i k := by
  rw [rd_raiseIrq hf, rd_recordEvent _ _ _ _ _ _ _ hpage]

theorem rd_setEff (hlag : fldCode f ≠ fldCode R.PWR_STAT_CAP_LAG) (hirq : fldCode f ≠ fldCode (hIrqRaw 19 Irq.PWR_CAP_LAG))
    (s : State) (e i k : Nat) : rd (setEff s e) f i k = rd s f i k := by
  unfold setEff
  extract_lets cap s1
  split
  · split
    · rfl
    · exact (rd_raised hpage hirq ..).trans (rd_wr_ne hlag ..)
  · exact rd_wr_ne hlag ..

end

theorem setEff_pwr (s : State) (e : Nat) : (setEff s e).pwr = { s.pwr with eff := e } := by
  unfold setEff
  extract_lets cap s1
  split
  · split
    · rfl
    · rw [raiseIrq_pwr, statusEvent, recordEvent_pwr]
      rfl
  · rfl

/-- CAP_LAG shows whether the effective cap lies above the cap. -/
theorem rd_setEff_lag (s : State) (e : Nat) :
    rd (setEff s e) R.PWR_STAT_CAP_LAG = if 1000 * rd s R.PWR_CAP_CAP_W < e then 1 else 0 := by
  unfold setEff
  extract_lets cap s1
  split
  · split
    · assumption
    · rw [statusEvent, rd_raised rfl (by decide)]
      exact rd_wr_fit _ _ _ _ (by decide)
  · exact rd_wr_fit _ _ _ _ (by decide)

/-- The registers that show the effective cap, the plateau and the ballast. -/
def shownPower : List Fld := [R.PWR_STAT_EFF_CAP, R.PWR_PLATEAU_PLAT_W, R.PWR_BALLAST_BALLAST_W]

theorem rd_showPower {f : Fld} (h : ∀ g ∈ shownPower, fldCode f ≠ fldCode g) (s : State) (i k : Nat) :
    rd (showPower s) f i k = rd s f i k := by
  have hcap := h R.PWR_STAT_EFF_CAP (by simp [shownPower])
  have hplat := h R.PWR_PLATEAU_PLAT_W (by simp [shownPower])
  have hballast := h R.PWR_BALLAST_BALLAST_W (by simp [shownPower])
  calc rd (showPower s) f i k = rd (wr (wr (wr s R.PWR_STAT_EFF_CAP _) R.PWR_PLATEAU_PLAT_W _) R.PWR_BALLAST_BALLAST_W _) f i k := rfl
    _ = rd s f i k := by rw [rd_wr_ne hballast, rd_wr_ne hplat, rd_wr_ne hcap]

theorem dropShaping_pwr (s : State) :
    (dropShaping s).pwr = { s.pwr with credit := 0, plateau := 0, ballast := 0, short := false } := rfl

theorem rd_dropShaping {f : Fld} (h : ∀ g ∈ shownPower, fldCode f ≠ fldCode g) (s : State) (i k : Nat) :
    rd (dropShaping s) f i k = rd s f i k := rd_showPower h ..

/-! ### The comb dies' limits (R401) -/

/-- The limit of each comb die set to what `v` gives it. -/
def setLimits (v : State → Nat → Nat) (s : State) : State := (List.range 4).foldl (fun s d => wr s (R.PWR_DIE_VLIM d) (v s d)) s

theorem setLimits_pwr (v : State → Nat → Nat) (s : State) : (setLimits v s).pwr = s.pwr :=
  List.foldlRecOn (List.range 4) _ (motive := fun u : State => u.pwr = s.pwr) rfl fun _ hu _ _ => hu

theorem rd_setLimits_ne {f : Fld} (h : ∀ d < 4, fldCode f ≠ fldCode (R.PWR_DIE_VLIM d)) (v : State → Nat → Nat) (s : State)
    (i k : Nat) : rd (setLimits v s) f i k = rd s f i k := by
  refine List.foldlRecOn (List.range 4) _ (motive := fun u => rd u f i k = rd s f i k) rfl fun u hu d hd => ?_
  rw [rd_wr_ne (h d (List.mem_range.mp hd)), hu]

/-- A value that no limit enters is taken from the state at the start. -/
theorem rd_setLimits {v : State → Nat → Nat} (hv : ∀ u d e x, v (wr u (R.PWR_DIE_VLIM e) x) d = v u d) (s : State) {d : Nat}
    (hd : d < 4) : rd (setLimits v s) (R.PWR_DIE_VLIM d) = v s d % 2 ^ 12 := by
  have hkeep : ∀ u : State, rd (setLimits v u) (R.PWR_DIE_VLIM d) =
      rd (wr (wr (wr (wr u (R.PWR_DIE_VLIM 0) (v u 0)) (R.PWR_DIE_VLIM 1) (v u 1)) (R.PWR_DIE_VLIM 2) (v u 2))
        (R.PWR_DIE_VLIM 3) (v u 3)) (R.PWR_DIE_VLIM d) := fun u => by
    simp only [setLimits, show List.range 4 = [0, 1, 2, 3] from rfl, List.foldl_cons, List.foldl_nil, hv]
  rw [hkeep]
  interval_cases d
  · rw [rd_wr_ne (by decide), rd_wr_ne (by decide), rd_wr_ne (by decide), rd_wr]
    rfl
  · rw [rd_wr_ne (by decide), rd_wr_ne (by decide), rd_wr]
    rfl
  · rw [rd_wr_ne (by decide), rd_wr]
    rfl
  · rw [rd_wr]
    rfl

theorem rd_setLimits_vmin (s : State) {d : Nat} (hd : d < 4) :
    rd (setLimits (fun s d => rd s R.PACE_VLIM_VMIN d) s) (R.PWR_DIE_VLIM d) = rd s R.PACE_VLIM_VMIN d % 2 ^ 12 :=
  rd_setLimits (fun _ _ _ _ => rd_wr_ne (fldCode_ne_of_page (by simp [R.PACE_VLIM_VMIN, R.PWR_DIE_VLIM])) ..) s hd

/-- The comb dies' limits below their set points. -/
def limitsBelow (s : State) : State :=
  setLimits (fun s d => max (rd s R.PACE_VLIM_VMIN d) (rd s R.PACE_VOLT_VSET d - 10)) s

theorem rd_limitsBelow (s : State) {d : Nat} (hd : d < 4) : rd (limitsBelow s) (R.PWR_DIE_VLIM d) =
      max (rd s R.PACE_VLIM_VMIN d) (rd s R.PACE_VOLT_VSET d - 10) % 2 ^ 12 := by
  refine rd_setLimits (fun u d e x => ?_) s hd
  rw [rd_wr_ne (fldCode_ne_of_page (by simp [R.PACE_VLIM_VMIN, R.PWR_DIE_VLIM])),
    rd_wr_ne (fldCode_ne_of_page (by simp [R.PACE_VOLT_VSET, R.PWR_DIE_VLIM]))]

theorem rd_clampLimits_hub (s : State) : rd (clampLimits s) (R.PWR_DIE_VLIM 4) = rd s R.PACE_VLIM_VMAX 4 % 2 ^ 12 := by
  unfold clampLimits
  extract_lets s1
  rw [rd_wr, show rd s1 R.PACE_VLIM_VMAX 4 = rd s R.PACE_VLIM_VMAX 4 from
    rd_setLimits_ne (fun d _ => fldCode_ne_of_page (by simp [R.PACE_VLIM_VMAX, R.PWR_DIE_VLIM])) (fun s d =>
      max (rd s R.PACE_VLIM_VMIN d) (min (rd s R.PACE_VLIM_VMAX d) (rd s (R.PWR_DIE_VLIM d)))) s 4 0]
  rfl

theorem rd_clampLimits {f : Fld} (h : ∀ d < 5, fldCode f ≠ fldCode (R.PWR_DIE_VLIM d)) (s : State) (i k : Nat) :
    rd (clampLimits s) f i k = rd s f i k :=
  (rd_wr_ne (h 4 (by decide)) ..).trans (rd_setLimits_ne (fun d hd => h d (by omega)) (fun s d =>
      max (rd s R.PACE_VLIM_VMIN d) (min (rd s R.PACE_VLIM_VMAX d) (rd s (R.PWR_DIE_VLIM d)))) s i k)

theorem clampLimits_pwr (s : State) : (clampLimits s).pwr = s.pwr :=
  (clampLimits_touches (mm := 0x8000000000000) rfl (Touches.refl _ s)).same (c := .power) rfl

theorem pinnedDie_lt {s : State} {d : Nat} (h : pinnedDie s = some d) : d < 4 := by
  unfold pinnedDie at h
  extract_lets far l at h
  split at h
  · exact nomatch h
  · exact List.mem_range.mp (List.mem_filter.mp (List.mem_of_getElem? h)).1

section
variable {s : State} {p : Nat}

/-- Above the cap every limit goes below the set point, and the credit is gone. -/
theorem moveLimits_above (h : s.pwr.eff < p) :
    moveLimits s p = { limitsBelow s with pwr := { s.pwr with credit := 0 } } := if_pos h

theorem rd_moveLimits_ne {f : Fld} (h : ∀ d < 4, fldCode f ≠ fldCode (R.PWR_DIE_VLIM d)) (i k : Nat) :
    rd (moveLimits s p) f i k = rd s f i k := by
  by_cases hp : s.pwr.eff < p
  · rw [moveLimits_above hp, rd_set_pwr]
    exact rd_setLimits_ne h _ s i k
  · unfold moveLimits
    extract_lets step x
    rw [if_neg hp]
    split
    · split
      next d hd => exact rd_wr_ne (h d (pinnedDie_lt hd)) ..
      next => rfl
    · rfl

/-- The limits' moves spend credit and nothing else of the power state. -/
theorem moveLimits_pwr (s : State) (p : Nat) : ∃ c ≤ s.pwr.credit, (moveLimits s p).pwr = { s.pwr with credit := c } := by
  by_cases hp : s.pwr.eff < p
  · rw [moveLimits_above hp]
    exact ⟨0, Nat.zero_le _, rfl⟩
  · unfold moveLimits
    extract_lets step x
    rw [if_neg hp]
    split
    · split
      · exact ⟨_, Nat.sub_le .., rfl⟩
      · exact ⟨_, le_rfl, rfl⟩
    · exact ⟨_, le_rfl, rfl⟩

end

/-! ### Plateau and ballast (R399, R400) -/

theorem unshaped_pwr (s : State) : (unshaped s).pwr = s.pwr := by rw [unshaped, irqEvent_pwr]; rfl

theorem rd_shapeLoad {f : Fld} (hpage : Nat.testBit 0x180000000060010 (32 + f.ty % 32) = false)
    (hover : fldCode f ≠ fldCode R.PWR_SLEW_OVER_CNT) (hirq : fldCode f ≠ fldCode (hIrqRaw 19 Irq.PWR_SLEW_OVER)) (s : State)
    (p i k : Nat) : rd (shapeLoad s p) f i k = rd s f i k := by
  unfold shapeLoad
  extract_lets
  split
  · exact (rd_raised hpage hirq ..).trans (rd_incSat_ne hover ..)
  · rfl

/-- The plateau stays under the effective cap, the ballast under the plateau, and the credit does not grow. -/
theorem shapeLoad_bounds (s : State) (p : Nat) :
    let x := (shapeLoad s p).pwr
    x.eff = s.pwr.eff ∧ x.plateau ≤ s.pwr.eff ∧ x.ballast ≤ x.plateau ∧ x.credit ≤ s.pwr.credit ∧
      (rd s R.PWR_BALLAST_BALLAST_EN = 0 → x.ballast = 0) := by
  unfold shapeLoad
  extract_lets x on demand base held want keep rise plateau room gap above s1 y
  have hy : y = s1.pwr := by
    simp only [y]
    split
    · exact unshaped_pwr s1
    · rfl
  have hbase : base ≤ s.pwr.eff := Nat.min_le_left ..
  have hwant : want ≤ s.pwr.eff := Nat.min_le_left ..
  have hkeep : keep ≤ s.pwr.eff := max_le hbase ((Nat.min_le_right ..).trans hwant)
  have hrise : rise ≤ want - keep := Nat.min_le_right ..
  have hgap : gap ≤ plateau := by
    simp only [gap]
    split
    · exact Nat.sub_le ..
    · exact Nat.zero_le _
  rw [hy]
  refine ⟨rfl, ?_, (Nat.min_le_left ..).trans hgap, Nat.sub_le .., fun hoff => ?_⟩
  · change keep + rise ≤ s.pwr.eff
    omega
  · have hnot : ¬on := by simp [on, hoff]
    exact (congrArg (min · room) (if_neg hnot)).trans (Nat.zero_min _)

/-! ### The interval (R398 to R402) -/

/-- The effective cap after an interval. -/
def effAfter (s : State) : Nat :=
  let cap := 1000 * rd s R.PWR_CAP_CAP_W
  if s.pwr.eff ≤ cap then cap else max cap (s.pwr.eff - 20 * rd s R.PWR_SLEW)

/-- The measured power is shown, the effective cap moved and its lag counted. -/
def measured (s : State) (p : Nat) : State :=
  countLag (setEff (metricSample (wr s R.PWR_STAT_P_IN p) 15 p) (effAfter s)) (100 * p)

/-- The fields that `measured` writes. -/
def measuredFields : List Fld := [R.PWR_STAT_P_IN, R.PWR_STAT_CAP_LAG, hIrqRaw 19 Irq.PWR_CAP_LAG, R.PWR_LAG_ENERGY]

theorem rd_measured {f : Fld} (hpage : Nat.testBit 0x180000000060010 (32 + f.ty % 32) = false)
    (h : ∀ g ∈ measuredFields, fldCode f ≠ fldCode g) (s : State) (p i k : Nat) : rd (measured s p) f i k = rd s f i k := by
  unfold measured countLag
  rw [rd_addSat_ne (h _ (by simp [measuredFields])), rd_set_pwr, rd_setEff hpage (h _ (by simp [measuredFields]))
    (h _ (by simp [measuredFields])), rd_metricSample, rd_wr_ne (h _ (by simp [measuredFields]))]

theorem rd_setEff_measured (s : State) (p : Nat) :
    let u := setEff (metricSample (wr s R.PWR_STAT_P_IN p) 15 p) (effAfter s)
    rd u R.PWR_STAT_P_IN = p % 2 ^ 16 ∧ rd u R.PWR_STAT_CAP_LAG = (if 1000 * rd s R.PWR_CAP_CAP_W < effAfter s then 1 else 0) ∧
      rd u R.PWR_LAG_ENERGY = rd s R.PWR_LAG_ENERGY ∧ rd u R.PWR_CAP_CAP_W = rd s R.PWR_CAP_CAP_W ∧
      u.pwr = { s.pwr with eff := effAfter s } := by
  refine ⟨?_, ?_, ?_, ?_, ?_⟩
  · rw [rd_setEff rfl (by decide) (by decide), rd_metricSample, rd_wr]
    rfl
  · rw [rd_setEff_lag, rd_metricSample, rd_wr_ne (by decide)]
  · rw [rd_setEff rfl (by decide) (by decide), rd_metricSample, rd_wr_ne (by decide)]
  · rw [rd_setEff rfl (by decide) (by decide), rd_metricSample, rd_wr_ne (by decide)]
  · rw [setEff_pwr, metricSample_pwr, wr_pwr]

theorem measured_shows (s : State) (p : Nat) :
    rd (measured s p) R.PWR_STAT_P_IN = p % 2 ^ 16 ∧
      rd (measured s p) R.PWR_STAT_CAP_LAG = (if 1000 * rd s R.PWR_CAP_CAP_W < effAfter s then 1 else 0) ∧
      rd (measured s p) R.PWR_LAG_ENERGY = min (rd s R.PWR_LAG_ENERGY +
        (100 * p - 1000 * rd s R.PWR_CAP_CAP_W + s.pwr.lagRest) / 50000) (2 ^ 32 - 1) ∧
      ∃ n, (measured s p).pwr = { s.pwr with eff := effAfter s, lagRest := n } := by
  obtain ⟨hin, hlag, henergy, hcap, hpwr⟩ := rd_setEff_measured s p
  unfold measured countLag
  refine ⟨?_, ?_, ?_, ?_⟩
  · rw [rd_addSat_ne (by decide), rd_set_pwr, hin]
  · rw [rd_addSat_ne (by decide), rd_set_pwr, hlag]
  · rw [rd_addSat, rd_set_pwr, henergy, hcap, hpwr]
    rfl
  · refine ⟨(100 * p - 1000 * rd s R.PWR_CAP_CAP_W + s.pwr.lagRest) % 50000, ?_⟩
    rw [addSat, wr_pwr]
    dsimp only
    rw [hpwr, hcap]

/-- What an interval makes of the limits, the plateau and the ballast. -/
def limitLoad (s : State) (slew mw : Nat) : State :=
  if rd s R.PWR_STAT_EMERG_ACTIVE = 1 then dropShaping (setLimits (fun s d => rd s R.PACE_VLIM_VMIN d) s)
  else if s.pwr.dusk.isSome then dropShaping s
  else shapeLoad (moveLimits { s with pwr := { s.pwr with credit := min (s.pwr.credit + slew) (1000 * rd s R.PWR_EST_STEP_W) } } mw) mw

/-- The fields of the power page that `limitLoad` writes. -/
def loadFields : List Fld :=
  shownPower ++ [R.PWR_SLEW_OVER_CNT, hIrqRaw 19 Irq.PWR_SLEW_OVER] ++ (List.range 4).map R.PWR_DIE_VLIM

theorem rd_limitLoad {f : Fld} (hpage : Nat.testBit 0x180000000060010 (32 + f.ty % 32) = false)
    (h : ∀ g ∈ loadFields, fldCode f ≠ fldCode g) (s : State) (slew mw i k : Nat) : rd (limitLoad s slew mw) f i k = rd s f i k := by
  have hshown : ∀ g ∈ shownPower, fldCode f ≠ fldCode g := fun g hg => h g (by simp [loadFields, hg])
  have hlimit : ∀ d < 4, fldCode f ≠ fldCode (R.PWR_DIE_VLIM d) := fun d hd => h _ (by
    simp only [loadFields, List.mem_append, List.mem_map, List.mem_range]
    exact .inr ⟨d, hd, rfl⟩)
  unfold limitLoad
  split
  · rw [rd_dropShaping hshown, rd_setLimits_ne hlimit]
  · split
    · rw [rd_dropShaping hshown]
    · rw [rd_shapeLoad hpage (h _ (by simp [loadFields])) (h _ (by simp [loadFields])), rd_moveLimits_ne hlimit, rd_set_pwr]

section
variable (s : State) (slew mw : Nat)

theorem limitLoad_emergency (h : rd s R.PWR_STAT_EMERG_ACTIVE = 1) :
    (limitLoad s slew mw).pwr = { s.pwr with credit := 0, plateau := 0, ballast := 0, short := false } ∧
    ∀ d < 4, rd (limitLoad s slew mw) (R.PWR_DIE_VLIM d) = rd s R.PACE_VLIM_VMIN d % 2 ^ 12 := by
  rw [limitLoad, if_pos h]
  refine ⟨by rw [dropShaping_pwr, setLimits_pwr], fun d hd => ?_⟩
  rw [rd_dropShaping (by interval_cases d <;> decide), rd_setLimits_vmin s hd]

theorem limitLoad_dusk (hemerg : rd s R.PWR_STAT_EMERG_ACTIVE ≠ 1) (hdusk : s.pwr.dusk ≠ none) :
    (limitLoad s slew mw).pwr = { s.pwr with credit := 0, plateau := 0, ballast := 0, short := false } := by
  rw [limitLoad, if_neg hemerg, if_pos (Option.isSome_iff_ne_none.mpr hdusk)]
  rfl

/-- The bounds of an interval with neither an emergency nor dusk. -/
theorem limitLoad_bounds (hemerg : rd s R.PWR_STAT_EMERG_ACTIVE ≠ 1) (hdusk : s.pwr.dusk = none) :
    let x := (limitLoad s slew mw).pwr
    x.eff = s.pwr.eff ∧ x.plateau ≤ s.pwr.eff ∧ x.ballast ≤ x.plateau ∧ x.credit ≤ 1000 * rd s R.PWR_EST_STEP_W ∧
      (rd s R.PWR_BALLAST_BALLAST_EN = 0 → x.ballast = 0) := by
  rw [limitLoad, if_neg hemerg, if_neg (by rw [hdusk]; decide)]
  generalize hu : ({ s with pwr := { s.pwr with credit := min (s.pwr.credit + slew) (1000 * rd s R.PWR_EST_STEP_W) } } : State) = u
  have heff : u.pwr.eff = s.pwr.eff := by rw [← hu]
  have hcredit : u.pwr.credit ≤ 1000 * rd s R.PWR_EST_STEP_W := by rw [← hu]; exact Nat.min_le_right ..
  have hen : rd u R.PWR_BALLAST_BALLAST_EN = rd s R.PWR_BALLAST_BALLAST_EN := by rw [← hu]; rfl
  obtain ⟨c, hc, hpwr⟩ := moveLimits_pwr u mw
  obtain ⟨he, hplat, hball, hcr, hoff⟩ := shapeLoad_bounds (moveLimits u mw) mw
  rw [hpwr] at he hplat hcr
  rw [rd_moveLimits_ne (by decide), hen] at hoff
  exact ⟨he.trans heff, hplat.trans_eq heff, hball, (hcr.trans hc).trans hcredit, hoff⟩

/-- Above the effective cap the credit is gone and every limit lies below its set point. -/
theorem limitLoad_above (hemerg : rd s R.PWR_STAT_EMERG_ACTIVE ≠ 1) (hdusk : s.pwr.dusk = none) (habove : s.pwr.eff < mw) :
    (limitLoad s slew mw).pwr.credit = 0 ∧ ∀ d < 4, rd (limitLoad s slew mw) (R.PWR_DIE_VLIM d) =
      max (rd s R.PACE_VLIM_VMIN d) (rd s R.PACE_VOLT_VSET d - 10) % 2 ^ 12 := by
  rw [limitLoad, if_neg hemerg, if_neg (by rw [hdusk]; decide)]
  generalize hu : ({ s with pwr := { s.pwr with credit := min (s.pwr.credit + slew) (1000 * rd s R.PWR_EST_STEP_W) } } : State) = u
  have hpace (f : Fld) (d : Nat) : rd u f d = rd s f d := by rw [← hu]; rfl
  rw [moveLimits_above (by rw [← hu]; exact habove)]
  refine ⟨Nat.le_zero.mp (shapeLoad_bounds _ mw).2.2.2.1, fun d hd => ?_⟩
  rw [rd_shapeLoad (by rw [show (R.PWR_DIE_VLIM d).ty = 19 from rfl]; rfl) (by interval_cases d <;> decide) (by interval_cases d <;> decide), rd_set_pwr, rd_limitsBelow _ hd,
    hpace, hpace]

end

theorem powerInterval_eq (p : Nat) (s : State) : exec (.powerInterval p) s =
    let u := showPower (limitLoad (clampLimits (measured s p)) (20 * rd s R.PWR_SLEW) (100 * p))
    .next (metricSample u 16 (rd u R.PWR_STAT_EFF_CAP)) := by
  have heff : (metricSample (wr s R.PWR_STAT_P_IN p) 15 p).pwr.eff = s.pwr.eff := by rw [metricSample_pwr, wr_pwr]
  unfold measured effAfter limitLoad
  rw [← heff]
  rfl

theorem powerInterval_shows (p : Nat) (s : State) :
    Ends (.powerInterval p) s (fun t => rd t R.PWR_STAT_P_IN = p % 2 ^ 16 ∧ t.pwr.eff = effAfter s ∧
      rd t R.PWR_STAT_CAP_LAG = (if 1000 * rd s R.PWR_CAP_CAP_W < effAfter s then 1 else 0) ∧
      rd t R.PWR_LAG_ENERGY = min (rd s R.PWR_LAG_ENERGY +
        (100 * p - 1000 * rd s R.PWR_CAP_CAP_W + s.pwr.lagRest) / 50000) (2 ^ 32 - 1) ∧
      rd t (R.PWR_DIE_VLIM 4) = rd s R.PACE_VLIM_VMAX 4 % 2 ^ 12 ∧
      t.pwr.plateau ≤ effAfter s ∧ t.pwr.ballast ≤ t.pwr.plateau ∧ t.pwr.credit ≤ 1000 * rd s R.PWR_EST_STEP_W ∧
      (rd s R.PWR_BALLAST_BALLAST_EN = 0 → t.pwr.ballast = 0) ∧
      (rd s R.PWR_STAT_EMERG_ACTIVE = 1 → t.pwr.credit = 0 ∧ t.pwr.plateau = 0 ∧ t.pwr.ballast = 0 ∧
        ∀ d < 4, rd t (R.PWR_DIE_VLIM d) = rd s R.PACE_VLIM_VMIN d % 2 ^ 12) ∧
      (s.pwr.dusk ≠ none → t.pwr.credit = 0 ∧ t.pwr.plateau = 0 ∧ t.pwr.ballast = 0) ∧
      (rd s R.PWR_STAT_EMERG_ACTIVE ≠ 1 → s.pwr.dusk = none → effAfter s < 100 * p → t.pwr.credit = 0 ∧
        ∀ d < 4, rd t (R.PWR_DIE_VLIM d) = max (rd s R.PACE_VLIM_VMIN d) (rd s R.PACE_VOLT_VSET d - 10) % 2 ^ 12) ∧
      SameBut (recorded ++ pages [19] ++ [.free, .power]) s t) := by
  have hexec := powerInterval_eq p s
  generalize hv : clampLimits (measured s p) = v at hexec
  generalize 20 * rd s R.PWR_SLEW = slew at hexec
  have htouch := touches_of_next hexec
    (execPowerInterval_touches (mm := maskOf (recorded ++ pages [19] ++ [.free, .power])) rfl (Touches.refl _ s) (Touches.refl _ s))
  obtain ⟨hin, hlag, henergy, n, hpwr⟩ := measured_shows s p
  have hvpwr : v.pwr = { s.pwr with eff := effAfter s, lagRest := n } := by rw [← hv, clampLimits_pwr, hpwr]
  have hveff : v.pwr.eff = effAfter s := by rw [hvpwr]
  have hvdusk : v.pwr.dusk = s.pwr.dusk := by rw [hvpwr]
  have hkeep (f : Fld) (hpage : Nat.testBit 0x180000000060010 (32 + f.ty % 32) = false)
      (hm : ∀ g ∈ measuredFields, fldCode f ≠ fldCode g) (hc : ∀ d < 5, fldCode f ≠ fldCode (R.PWR_DIE_VLIM d)) (i : Nat) :
      rd v f i = rd s f i := by rw [← hv, rd_clampLimits hc, rd_measured hpage hm]
  have hemerg : rd v R.PWR_STAT_EMERG_ACTIVE = rd s R.PWR_STAT_EMERG_ACTIVE := hkeep _ rfl (by decide) (by decide) 0
  have hstep : rd v R.PWR_EST_STEP_W = rd s R.PWR_EST_STEP_W := hkeep _ rfl (by decide) (by decide) 0
  have hen : rd v R.PWR_BALLAST_BALLAST_EN = rd s R.PWR_BALLAST_BALLAST_EN := hkeep _ rfl (by decide) (by decide) 0
  have hvmin (d : Nat) : rd v R.PACE_VLIM_VMIN d = rd s R.PACE_VLIM_VMIN d := hkeep _ rfl (by decide) (by decide) d
  have hvset (d : Nat) : rd v R.PACE_VOLT_VSET d = rd s R.PACE_VOLT_VSET d := hkeep _ rfl (by decide) (by decide) d
  have hback (f : Fld) (hshown : ∀ g ∈ shownPower, fldCode f ≠ fldCode g) (m : Nat) (x : Int) :
      rd (metricSample (showPower (limitLoad v slew (100 * p))) m x) f = rd (limitLoad v slew (100 * p)) f := by
    rw [rd_metricSample, rd_showPower hshown]
  have hend (m : Nat) (x : Int) : (metricSample (showPower (limitLoad v slew (100 * p))) m x).pwr =
      (limitLoad v slew (100 * p)).pwr := metricSample_pwr ..
  have hbounds : (limitLoad v slew (100 * p)).pwr.eff = effAfter s ∧ (limitLoad v slew (100 * p)).pwr.plateau ≤ effAfter s ∧
      (limitLoad v slew (100 * p)).pwr.ballast ≤ (limitLoad v slew (100 * p)).pwr.plateau ∧
      (limitLoad v slew (100 * p)).pwr.credit ≤ 1000 * rd s R.PWR_EST_STEP_W ∧
      (rd s R.PWR_BALLAST_BALLAST_EN = 0 → (limitLoad v slew (100 * p)).pwr.ballast = 0) := by
    rw [← hveff, ← hstep, ← hen]
    by_cases he : rd v R.PWR_STAT_EMERG_ACTIVE = 1
    · rw [(limitLoad_emergency v slew (100 * p) he).1]
      exact ⟨rfl, Nat.zero_le _, Nat.le_refl _, Nat.zero_le _, fun _ => rfl⟩
    · by_cases hd : v.pwr.dusk = none
      · exact limitLoad_bounds v slew (100 * p) he hd
      · rw [limitLoad_dusk v slew (100 * p) he hd]
        exact ⟨rfl, Nat.zero_le _, Nat.le_refl _, Nat.zero_le _, fun _ => rfl⟩
  obtain ⟨heff, hplat, hball, hcredit, hoff⟩ := hbounds
  refine ⟨_, hexec, ?_, by rw [hend, heff], ?_, ?_, ?_, by rw [hend]; exact hplat, by rw [hend]; exact hball, by rw [hend]; exact hcredit,
    by rw [hend]; exact hoff, fun he => ?_, fun hd => ?_, fun he hd habove => ?_, sameBut_of_touches htouch⟩
  · rw [hback _ (by decide), rd_limitLoad rfl (by decide), ← hv, rd_clampLimits (by decide), hin]
  · rw [hback _ (by decide), rd_limitLoad rfl (by decide), ← hv, rd_clampLimits (by decide), hlag]
  · rw [hback _ (by decide), rd_limitLoad rfl (by decide), ← hv, rd_clampLimits (by decide), henergy]
  · rw [hback _ (by decide), rd_limitLoad rfl (by decide), ← hv, rd_clampLimits_hub, rd_measured rfl (by decide)]
  · obtain ⟨hzero, hlimits⟩ := limitLoad_emergency v slew (100 * p) (hemerg.trans he)
    rw [hend, hzero]
    exact ⟨rfl, rfl, rfl, fun d hd => by rw [hback _ (by interval_cases d <;> decide), hlimits d hd, hvmin]⟩
  · rw [hend]
    by_cases he : rd v R.PWR_STAT_EMERG_ACTIVE = 1
    · rw [(limitLoad_emergency v slew (100 * p) he).1]
      exact ⟨rfl, rfl, rfl⟩
    · rw [limitLoad_dusk v slew (100 * p) he (hvdusk ▸ hd)]
      exact ⟨rfl, rfl, rfl⟩
  · obtain ⟨hzero, hlimits⟩ := limitLoad_above v slew (100 * p) (hemerg ▸ he) (hvdusk.trans hd) (hveff ▸ habove)
    rw [hend]
    exact ⟨hzero, fun d hd => by rw [hback _ (by interval_cases d <;> decide), hlimits d hd, hvmin, hvset]⟩

/-! ### Writes of the cap and of the emergency bit (R398, R402, R406) -/

theorem showPower_pwr (s : State) : (showPower s).pwr = s.pwr := rfl

section
variable {w : Writer} {v : Nat} {s : State} (hw : Writable s w 19 0)
include hw

theorem pwrCapWrite_takes (hlo : 120 ≤ v % 512) (hhi : v % 512 ≤ 450) :
    Ends (.pwrCapWrite w v) s (fun t => rd t R.PWR_CAP_CAP_W = v % 512 ∧
      t.pwr = { s.pwr with eff := max s.pwr.eff (1000 * (v % 512)) } ∧
      rd t R.PWR_STAT_CAP_LAG = (if 1000 * (v % 512) < s.pwr.eff then 1 else 0) ∧ SameBut ([.power] ++ written 19) s t) := by
  generalize hn : v % 512 = n at hlo hhi
  let s1 := wr s R.PWR_CAP_CAP_W n
  let e := if s.pwr.eff ≤ 1000 * n then 1000 * n else s.pwr.eff
  have hcap : rd s1 R.PWR_CAP_CAP_W = n := rd_wr_fit _ _ _ _ (by rw [show R.PWR_CAP_CAP_W.w = 9 from rfl]; omega)
  have hmax : e = max s.pwr.eff (1000 * n) := by
    simp only [e]
    split <;> omega
  have hlag : (1000 * n < e) = (1000 * n < s.pwr.eff) := by
    rw [hmax, eq_iff_iff]
    omega
  refine ends_of_taken (m := maskOf ([.power] ++ written 19)) (x := showPower (setEff s1 e)) rfl hw ?_ rfl
    (showPower_touches rfl (setEff_touches rfl (wr_touches rfl (Touches.refl _ s)))) fun t hnote htouch =>
    ⟨?_, ?_, ?_, sameBut_of_touches htouch⟩
  · rw [hn]
    exact if_neg (by simp only [Bool.or_eq_true, decide_eq_true_eq]; omega)
  · rw [hnote.reads rfl, rd_showPower (by decide), rd_setEff rfl (by decide) (by decide), hcap]
  · rw [show t.pwr = _ from hnote.same (c := .power) rfl, showPower_pwr, setEff_pwr, hmax]
    rfl
  · rw [hnote.reads rfl, rd_showPower (by decide), rd_setEff_lag, hcap]
    simp only [hlag]

theorem pwrCapWrite_refused (h : v % 512 < 120 ∨ 450 < v % 512) :
    Ends (.pwrCapWrite w v) s (fun t => rd t R.PWR_CAP_CAP_W = rd s R.PWR_CAP_CAP_W ∧
      rd t (hErrStatus 19) 0 = statusValue .lengthRange ∧ SameBut (written 19) s t) :=
  ends_of_refused (m := maskOf (written 19)) (st := .lengthRange) rfl hw (if_pos (by simpa using h)) rfl rfl rfl
    fun t hbody herr htouch => ⟨hbody _ rfl (by decide) (by decide) _ _, herr, sameBut_of_touches htouch⟩

theorem emergSet_sheds (hoff : rd s R.PWR_CAP_EMERG = 0) (hdusk : s.pwr.dusk = none) :
    Ends (.emergSet w) s (fun t => rd t R.PWR_CAP_EMERG = 1 ∧ rd t R.PWR_STAT_EMERG_ACTIVE = 1 ∧
      t.pwr = { s.pwr with credit := 0, plateau := 0, ballast := 0, short := false } ∧
      (∀ d < 4, rd t (R.PWR_DIE_VLIM d) = rd s R.PACE_VLIM_VMIN d % 2 ^ 12) ∧
      rd t (R.PWR_DIE_VLIM 4) = rd s (R.PWR_DIE_VLIM 4) ∧ rd t (hIrqRaw 19 Irq.PWR_EMERG) 0 = 1 ∧
      SameBut ([.power] ++ written 19) s t) := by
  let s1 := wr (wr s R.PWR_CAP_EMERG 1) R.PWR_STAT_EMERG_ACTIVE 1
  let s2 := dropShaping s1
  have hshed : emergWrite s true = irqEvent (setLimits (fun s d => rd s R.PACE_VLIM_VMIN d) s2) 19 0 Irq.PWR_EMERG 0 [] := by
    refine if_pos ?_
    rw [wr_pwr, hdusk, hoff]
    rfl
  have hback (f : Fld) (hpage : Nat.testBit 0x180000000060010 (32 + f.ty % 32) = false)
      (hirq : fldCode f ≠ fldCode (hIrqRaw 19 Irq.PWR_EMERG)) :
      rd (emergWrite s true) f = rd (setLimits (fun s d => rd s R.PACE_VLIM_VMIN d) s2) f := by
    rw [hshed]
    exact rd_raised hpage hirq ..
  refine ends_of_taken (m := maskOf ([.power] ++ written 19)) (x := emergWrite s true) rfl hw rfl rfl
    (emergWrite_touches rfl (Touches.refl _ s)) fun t hnote htouch =>
    ⟨?_, ?_, ?_, fun d hd => ?_, ?_, ?_, sameBut_of_touches htouch⟩
  · rw [hnote.reads rfl, hback _ rfl (by decide), rd_setLimits_ne (by decide), rd_dropShaping (by decide), rd_wr_ne (by decide)]
    exact rd_wr_fit _ _ _ _ (by decide)
  · rw [hnote.reads rfl, hback _ rfl (by decide), rd_setLimits_ne (by decide), rd_dropShaping (by decide)]
    exact rd_wr_fit _ _ _ _ (by decide)
  · rw [show t.pwr = _ from hnote.same (c := .power) rfl, hshed, irqEvent_pwr, setLimits_pwr, dropShaping_pwr]
    rfl
  · rw [hnote.reads (by interval_cases d <;> rfl), hback _ (by interval_cases d <;> rfl) (by interval_cases d <;> decide),
      rd_setLimits_vmin _ hd, rd_dropShaping (by decide), rd_wr_ne (by decide), rd_wr_ne (by decide)]
  · rw [hnote.reads rfl, hback _ rfl (by decide), rd_setLimits_ne (by decide), rd_dropShaping (by decide), rd_wr_ne (by decide),
      rd_wr_ne (by decide)]
  · rw [hnote.reads rfl, hshed]
    exact rd_irqEvent_same ..

/-- During dusk the bit stands without effect. -/
theorem emergSet_dusk (hdusk : s.pwr.dusk ≠ none) :
    Ends (.emergSet w) s (fun t => rd t R.PWR_CAP_EMERG = 1 ∧ rd t R.PWR_STAT_EMERG_ACTIVE = rd s R.PWR_STAT_EMERG_ACTIVE ∧
      t.pwr = s.pwr) := by
  have hnone : s.pwr.dusk.isNone = false := by rw [Option.isNone_eq_false_iff, Option.isSome_iff_ne_none]; exact hdusk
  refine ends_of_effect (x := wr s R.PWR_CAP_EMERG 1) rfl hw ?_ fun t h =>
    ⟨(h.reads rfl).trans (rd_wr_fit _ _ _ _ (by decide)), (h.reads rfl).trans (rd_wr_ne (by decide) ..), h.same (c := .power) rfl⟩
  refine (if_neg ?_).trans (if_neg (by decide))
  rw [wr_pwr, hnone, Bool.and_false]
  exact Bool.false_ne_true

theorem emergClear_ends : Ends (.emergClear w) s (fun t => rd t R.PWR_CAP_EMERG = 0 ∧ rd t R.PWR_STAT_EMERG_ACTIVE = 0 ∧
    t.pwr = s.pwr ∧ SameBut (written 19) s t) :=
  ends_of_taken (m := maskOf (written 19)) (x := wr (wr s R.PWR_CAP_EMERG 0) R.PWR_STAT_EMERG_ACTIVE 0) rfl hw rfl rfl
    (wr_touches rfl (wr_touches rfl (Touches.refl _ s))) fun t hnote htouch =>
    ⟨(hnote.reads rfl).trans ((rd_wr_ne (by decide) ..).trans (rd_wr_fit _ _ _ _ (by decide))),
      (hnote.reads rfl).trans (rd_wr_fit _ _ _ _ (by decide)), hnote.same (c := .power) rfl, sameBut_of_touches htouch⟩

end

/-! ### The launch gate (R400) -/

theorem launchGateHoldExpiry_passes {p x : Nat} {q : QLaunch} {rest : List QLaunch} {s : State} (hq : (part s p).queue = q :: rest)
    (hheld : q.held = some x) : Ends (.launchGateHoldExpiry p) s (fun t =>
      part t p = { part s p with queue := { q with pass := true } :: rest } ∧ t.now = max s.now (x + 1000 * rd s R.PWR_GATE) ∧
      SameBut [.now, .parts] s t) := by
  let s1 := reachTime s (x + 1000 * rd s R.PWR_GATE)
  have hexec : exec (.launchGateHoldExpiry p) s = .next (setPart s1 p { part s1 p with queue := { q with pass := true } :: rest }) := by
    refine congrArg Host.Outcome.next ?_
    rw [hq]
    dsimp only
    rw [hheld]
  refine ⟨_, hexec, part_setPart .., rfl, sameBut_of_touches (touches_of_next hexec
    (execLaunchGateHoldExpiry_touches rfl (Touches.refl _ s) (Touches.refl _ s)))⟩

theorem launchGateHoldExpiry_ignored {p : Nat} {s : State} (h : ∀ q ∈ (part s p).queue.head?, q.held = none) :
    exec (.launchGateHoldExpiry p) s = .next s := by
  refine congrArg Host.Outcome.next ?_
  cases hq : (part s p).queue with
  | nil => rfl
  | cons q rest =>
    dsimp only
    rw [h q (by rw [hq]; rfl)]

/-- Settles O42: the interval goes through its parts in order, each of which writes registers of its own. -/
theorem powerIntervals : Obligations.PowerIntervals :=
  ⟨powerInterval_shows, fun _ _ _ hw => ⟨fun hlo hhi => pwrCapWrite_takes hw hlo hhi, fun h => pwrCapWrite_refused hw h⟩,
    fun _ _ hw hoff hdusk => emergSet_sheds hw hoff hdusk, fun _ _ hw hdusk => emergSet_dusk hw hdusk,
    fun _ _ hw => emergClear_ends hw, fun _ _ _ _ _ hq hheld => launchGateHoldExpiry_passes hq hheld,
    fun _ _ h => launchGateHoldExpiry_ignored h⟩

end Sys2Proof.Proofs
end

section
/-!
Proofs for chapters 16, 19 and 21: dusk and its moments, thermal trips, and the loss of power (R404 to R406, R452, R509, R512, R514,
R515).
-/

namespace Sys2Proof.Proofs

open Sys2Proof Sys2Proof.Machine Sys2Proof.Safety Sys2Proof.Certificates Sys2Proof.Laws

/-! ### Messages on a port's channel (R312) -/

/-- The messages that wait on a channel of a port. -/
def portBodies (s : State) (p vc : Nat) : List Msg := (tget [] (port s p).txq vc).map OutMsg.body

theorem portBodies_of_wag {s t : State} (h : t.wag = s.wag) (p vc : Nat) : portBodies t p vc = portBodies s p vc := by
  unfold portBodies
  rw [port_of_wag h]

theorem portBodies_enqueue (s : State) (p : Nat) (m : OutMsg) : portBodies (enqueue s p m) p m.vc = portBodies s p m.vc ++ [m.body] := by
  unfold enqueue portBodies
  rw [port_setPort, show ∀ l : List OutMsg, tget [] (tset [] m.vc l (port s p).txq) m.vc = l from fun l => tget_tset_same _ _ _ _,
    List.map_append]
  rfl

theorem portBodies_sendOn {s : State} {p : Nat} (hup : portUp s p = true) (vc : Nat) (m : Msg) :
    portBodies (sendOn s p vc m) p vc = portBodies s p vc ++ [m] := by
  rw [show sendOn s p vc m = _ from if_pos hup]
  exact portBodies_enqueue ..

theorem port_sendOn_ne (s : State) {p q : Nat} (h : q ≠ p) (vc : Nat) (m : Msg) : port (sendOn s p vc m) q = port s q := by
  unfold sendOn
  split
  · exact port_setPort_ne _ _ h
  · rfl

theorem rd_sendOn (s : State) (p vc : Nat) (m : Msg) (f : Fld) (i k : Nat) : rd (sendOn s p vc m) f i k = rd s f i k := by
  unfold sendOn
  split <;> rfl

/-- One notice of leaving. -/
def leaveOn (s : State) (p : Nat) : State := if portUp s p then sendOn s p 1 (.leaving (hiveId s)) else s

theorem rd_leaveOn (s : State) (p : Nat) (f : Fld) (i k : Nat) : rd (leaveOn s p) f i k = rd s f i k := by
  unfold leaveOn
  split
  · exact rd_sendOn ..
  · rfl

theorem portBodies_leaveOn_ne (s : State) {p q : Nat} (h : q ≠ p) (vc : Nat) : portBodies (leaveOn s p) q vc = portBodies s q vc := by
  unfold leaveOn portBodies
  split
  · rw [port_sendOn_ne _ h]
  · rfl

theorem portBodies_leaveOn {s : State} {p : Nat} (h : portUp s p = true) :
    portBodies (leaveOn s p) p 1 = portBodies s p 1 ++ [.leaving (hiveId s)] := by
  rw [leaveOn, if_pos h, portBodies_sendOn h]

/-- Each port of a list without repetitions that is up gets one notice. -/
theorem portBodies_foldl_leaveOn {p : Nat} {l : List Nat} (hl : l.Nodup) (hp : p ∈ l) {s : State} (hup : portUp s p = true) :
    portBodies (l.foldl leaveOn s) p 1 = portBodies s p 1 ++ [.leaving (hiveId s)] := by
  have hskip : ∀ (l : List Nat) (u : State), p ∉ l → portBodies (l.foldl leaveOn u) p 1 = portBodies u p 1 := fun l u hp =>
    List.foldlRecOn l _ (motive := fun v : State => portBodies v p 1 = portBodies u p 1) rfl fun v hv q hq =>
      (portBodies_leaveOn_ne v (fun h => hp (by rwa [h])) 1).trans hv
  induction l generalizing s with
  | nil => exact absurd hp List.not_mem_nil
  | cons q l ih =>
    obtain ⟨hq, hrest⟩ := List.nodup_cons.mp hl
    by_cases hpq : p = q
    · subst hpq
      rw [List.foldl_cons, hskip l _ hq, portBodies_leaveOn hup]
    · have hup' : portUp (leaveOn s q) p = true := by rwa [portUp, portState, rd_leaveOn]
      rw [List.foldl_cons, ih hrest ((List.mem_cons.mp hp).resolve_left hpq) hup', portBodies_leaveOn_ne s hpq, hiveId, rd_leaveOn]
      rfl

theorem sendLeaving_eq (s : State) : sendLeaving s = (List.range 8).foldl leaveOn s := rfl

/-! ### Events below fatal leave the start's state (R441, R456) -/

theorem recordEvent_boot {sev : Nat} (hsev : sev ≠ 4) (s : State) (ty i code tenant : Nat) (detail : List Nat) :
    (recordEvent s ty i code sev tenant detail).boot = s.boot := by
  have hm : Touches 0x80000000040010 s (recordEvent s ty i code sev tenant detail) := by
    unfold recordEvent
    rw [if_neg hsev]
    split
    · exact holdRec_touches rfl (Touches.refl _ s)
    · exact applyRec_touches rfl (Touches.refl _ s)
  exact hm.same (c := .boot) rfl

theorem irqEvent_boot (s : State) (ty i n tenant : Nat) (detail : List Nat) : (irqEvent s ty i n tenant detail).boot = s.boot := by
  rw [irqEvent, raiseIrq_boot, recordEvent_boot (by decide)]

theorem abandonRunning_boot (s : State) (p : Nat) (cause : Cause) (ty : Nat) : (abandonRunning s p cause ty).boot = s.boot := by
  unfold abandonRunning
  split
  · rfl
  · split
    · rfl
    · extract_lets st s1
      have h1 : s1.boot = s.boot := recordEvent_boot (by simp only [st]; split <;> decide) ..
      split
      · exact h1
      · exact h1

/-! ### The begin of dusk (R404, R405) -/

theorem leaveStandby_of_standby {s : State} (h : rd s R.PWR_STAT_STANDBY = 1) : leaveStandby s =
    irqEvent ((List.range 397).foldl standbyWake (wr s R.PWR_STAT_STANDBY 0)) 19 0 Irq.PWR_STANDBY_EXIT 0 [] := if_pos h

theorem foldl_standbyWake_pwr (l : List Nat) (s : State) : ∃ x, (l.foldl standbyWake s).pwr = { s.pwr with dom := x } :=
  List.foldlRecOn l _ (motive := fun v : State => ∃ x, v.pwr = { s.pwr with dom := x }) ⟨_, rfl⟩ fun v ⟨x, hx⟩ d _ => by
    unfold standbyWake
    split
    · exact ⟨tset (domReset d) d 0 v.pwr.dom, by rw [setDom, hx]⟩
    · exact ⟨x, hx⟩

theorem leaveStandby_pwr (s : State) : ∃ x, (leaveStandby s).pwr = { s.pwr with dom := x } := by
  by_cases h : rd s R.PWR_STAT_STANDBY = 1
  · rw [leaveStandby_of_standby h, irqEvent_pwr]
    exact foldl_standbyWake_pwr ..
  · rw [show leaveStandby s = s from if_neg h]
    exact ⟨_, rfl⟩

theorem leaveStandby_boot (s : State) : (leaveStandby s).boot = s.boot := by
  by_cases h : rd s R.PWR_STAT_STANDBY = 1
  · rw [leaveStandby_of_standby h, irqEvent_boot]
    generalize List.range 397 = l
    exact (Touches.foldl (m := 0x20) (Touches.refl _ _) standbyWake_touches).same (c := .boot) rfl
  · rw [show leaveStandby s = s from if_neg h]

/-- Order 1 of dusk: its start is shown and nothing shapes the load. -/
theorem beginDusk_shows (s : State) :
    (∃ x, (beginDusk s).pwr = { s.pwr with dom := x, dusk := some s.now, order := 1, credit := 0, plateau := 0, ballast := 0, short := false }) ∧
      rd (beginDusk s) R.PWR_STAT_DUSK = 1 ∧ rd (beginDusk s) (hIrqRaw 19 Irq.PWR_DUSK) 0 = 1 ∧ (beginDusk s).boot = s.boot := by
  unfold beginDusk
  extract_lets s1 y s2 s3 parts c s4
  obtain ⟨x, hx⟩ := leaveStandby_pwr s
  have hfreeze : Touches 0x80000000040010 (leaveStandby s) s1 := endFreeze_touches rfl (Touches.refl _ _)
  have hpwr1 : s1.pwr = { s.pwr with dom := x } := (hfreeze.same (c := .power) rfl).trans hx
  have hnow1 : s1.now = s.now := (Touches.same (m := 0x188000000060030) (c := .now)
    (endFreeze_touches rfl (leaveStandby_touches rfl (Touches.refl _ s))) rfl)
  have hboot1 : s1.boot = s.boot := (hfreeze.same (c := .boot) rfl).trans (leaveStandby_boot s)
  have hpwr3 : s3.pwr = { s2.pwr with credit := 0, plateau := 0, ballast := 0, short := false } := irqEvent_pwr ..
  have hdusk3 : rd s3 R.PWR_STAT_DUSK = 1 := by
    refine (rd_irqEvent _ _ _ _ _ _ rfl (by decide) _ _).trans ((rd_dropShaping (by decide) _ _ _).trans ?_)
    exact rd_wr_fit _ _ _ _ (by decide)
  have hirq3 : rd s3 (hIrqRaw 19 Irq.PWR_DUSK) 0 = 1 := rd_irqEvent_same ..
  have hboot3 : s3.boot = s.boot := (irqEvent_boot ..).trans hboot1
  suffices hend : ∀ t, Touches 0x180000001060010 s4 t → t.boot = s4.boot →
      (∃ x, t.pwr = { s.pwr with dom := x, dusk := some s.now, order := 1, credit := 0, plateau := 0, ballast := 0, short := false }) ∧
      rd t R.PWR_STAT_DUSK = 1 ∧ rd t (hIrqRaw 19 Irq.PWR_DUSK) 0 = 1 ∧ t.boot = s.boot by
    refine hend _ (Touches.foldl (Touches.refl _ s4) fun u e => ?_) ?_
    · dsimp only
      split
      · split
        · exact Touches.refl _ u
        · exact abandonRunning_touches rfl (Touches.refl _ u)
      · exact Touches.refl _ u
    · refine List.foldlRecOn s4.comb.parts _ (motive := fun u : State => u.boot = s4.boot) rfl fun u hu e _ => ?_
      dsimp only
      split
      · split
        · exact hu
        · exact (abandonRunning_boot ..).trans hu
      · exact hu
  intro t ht hboot
  refine ⟨⟨x, ?_⟩, (ht.reads rfl).trans hdusk3, (ht.reads rfl).trans hirq3, hboot.trans hboot3⟩
  have h4 : s4.pwr = s3.pwr := rfl
  have h2 : s2.pwr = { s1.pwr with dusk := some s1.now, order := 1 } := rfl
  rw [show t.pwr = s4.pwr from ht.same (c := .power) rfl, h4, hpwr3, h2, hpwr1, hnow1]

theorem duskBegin_begins {s : State} (hdusk : s.pwr.dusk = none) (hgood : s.pwr.good = true) :
    Ends .duskBegin s (fun t => t.pwr.dusk = some s.now ∧ t.pwr.order = 1 ∧
      t.pwr.credit = 0 ∧ t.pwr.plateau = 0 ∧ t.pwr.ballast = 0 ∧ rd t R.PWR_STAT_DUSK = 1 ∧ rd t (hIrqRaw 19 Irq.PWR_DUSK) 0 = 1 ∧
      SameBut (recorded ++ pages [19] ++ [.free, .power, .parts]) s t) := by
  obtain ⟨⟨x, hpwr⟩, hshown, hirq, -⟩ := beginDusk_shows s
  refine ⟨_, congrArg Host.Outcome.next (if_neg (by rw [hdusk, hgood]; decide)), ?_, ?_, ?_, ?_, ?_, hshown, hirq,
    sameBut_of_touches (beginDusk_touches rfl (Touches.refl _ s))⟩ <;> rw [hpwr]

theorem duskBegin_ignored {s : State} (h : s.pwr.dusk ≠ none ∨ s.pwr.good = false) : exec .duskBegin s = .next s := by
  refine congrArg Host.Outcome.next (if_pos ?_)
  rw [Bool.or_eq_true, Bool.not_eq_true', Option.isSome_iff_ne_none]
  exact h

/-! ### The moments of dusk (R405) -/

theorem duskAt_of_order {s : State} {x order us n : Nat} {k : State → State} (hdusk : s.pwr.dusk = some x) (horder : s.pwr.order = order)
    (hn : x + 1000 * us = n) : duskAt s order us k =
      { k (reachTime s n) with pwr := { (k (reachTime s n)).pwr with order := order + 1 } } := by
  unfold duskAt
  rw [hdusk]
  refine (if_pos horder).trans ?_
  dsimp only
  rw [hn]

/-- A moment that leaves the power state takes the next order and goes on from its time; the rest is what it does. -/
theorem duskAt_moves {s : State} {x order us m n : Nat} {k : State → State} (hdusk : s.pwr.dusk = some x) (horder : s.pwr.order = order)
    (hn : x + 1000 * us = n) (hk : ∀ u, Touches m u (k u)) (h0 : m.testBit 0 = false) (h5 : m.testBit 5 = false) :
    ∃ u, u = k (reachTime s n) ∧ duskAt s order us k = { u with pwr := { s.pwr with order := order + 1 } } ∧ u.now = max s.now n := by
  have hpwr : (k (reachTime s n)).pwr = s.pwr := (hk _).same (c := .power) h5
  refine ⟨_, rfl, ?_, (hk _).same (c := .now) h0⟩
  rw [duskAt_of_order hdusk horder hn, hpwr]

theorem duskAt_ignored {s : State} {order us : Nat} {k : State → State} (h : s.pwr.dusk = none ∨ s.pwr.order ≠ order) :
    duskAt s order us k = s := by
  unfold duskAt
  split
  · next x hdusk => exact if_neg (h.resolve_left (by rw [hdusk]; exact Option.some_ne_none x))
  · rfl

/-- A triggered flush runs, or its sequence number has run out. -/
theorem triggerFlush_runs (s : State) (cause : Nat) :
    (triggerFlush s cause).evr.flush.isSome = true ∨ rd (triggerFlush s cause) R.NVS_STAT_SEQ_END = 1 := by
  unfold triggerFlush
  split
  · next f hf => exact .inl (Option.isSome_iff_exists.mpr ⟨f, hf⟩)
  · dsimp only
    split
    · exact .inr (rd_wr_fit _ _ _ _ (by decide))
    · exact .inl rfl

/-- What the fourth moment of dusk does. -/
def hostDownAtDusk (s : State) (cut : Cut) : State :=
  let u := hostPortReset (endAllRequests s .duskAbandon) cut
  { u with host := { u.host with perst := none } }

theorem duskHostDown_eq (cut : Cut) (s : State) :
    exec (.duskHostDown cut) s = .next (duskAt s 3 15000 (hostDownAtDusk · cut)) := rfl

theorem hostDownAtDusk_touches (s : State) (cut : Cut) :
    Touches (0x9824F8000062F94 ||| 0x9804E8000062F94) s (hostDownAtDusk s cut) :=
  Touches.host rfl (hostPortReset_touches rfl (endAllRequests_touches rfl (Touches.refl _ s)))

theorem hostDownAtDusk_ends (s : State) (cut : Cut) : rd (hostDownAtDusk s cut) R.HOST_LINK_UP = 0 ∧
    rd (hostDownAtDusk s cut) R.HOST_STAT_READY = 0 ∧ (hostDownAtDusk s cut).host.perst = none := by
  obtain ⟨hup, hready, -⟩ := hostPortReset_resets (endAllRequests s .duskAbandon) cut
  exact ⟨(rd_set_host ..).trans hup, (rd_set_host ..).trans hready, rfl⟩

/-- What the last moment of dusk does. -/
def offAtDusk (s : State) : State :=
  let s := (List.range 401).foldl (fun s d => setDom s d 2) s
  let s := (List.range 8).foldl (fun s p => wr s R.WAG_STAT_STATE 0 p) s
  let s := { s with comb := { s.comb with parts := [], cells := [], pipes := [] }, wag := {} }
  { s with host := { s.host with engines := [], queues := [] }, mem := { s.mem with rereads := [] } }

theorem duskPowerOff_eq (s : State) : exec .duskPowerOff s = .next (duskAt s 4 16000 offAtDusk) := rfl

theorem foldl_setDom_pwr (v : Nat) (l : List Nat) (s : State) :
    ∃ x, (l.foldl (fun s d => setDom s d v) s).pwr = { s.pwr with dom := x } :=
  List.foldlRecOn l _ (motive := fun u : State => ∃ x, u.pwr = { s.pwr with dom := x }) ⟨_, rfl⟩ fun u ⟨x, hx⟩ d _ =>
    ⟨tset (domReset d) d v u.pwr.dom, by rw [setDom, hx]⟩

theorem offAtDusk_power (s : State) : ∃ x, (offAtDusk s).pwr = { s.pwr with dom := x } ∧ (∀ d < 401, dom (offAtDusk s) d = 2) ∧
    dom (offAtDusk s) 401 = dom s 401 := by
  unfold offAtDusk
  have hin : ∀ d, d ∈ List.range 401 ↔ d < 401 := fun d => List.mem_range
  generalize List.range 401 = l at hin
  extract_lets s1 s2 c s3
  obtain ⟨x, hx⟩ := foldl_setDom_pwr 2 l s
  have hregs : s2.pwr = s1.pwr :=
    List.foldlRecOn (List.range 8) _ (motive := fun u : State => u.pwr = s1.pwr) rfl fun _ hu _ _ => hu
  have hdom (d : Nat) : dom s2 d = if d ∈ l then 2 else dom s d := by
    rw [dom, hregs]
    exact dom_foldl_setDom 2 l s d
  exact ⟨x, hregs.trans hx, fun d hd => (hdom d).trans (if_pos ((hin d).mpr hd)), (hdom 401).trans (if_neg fun h =>
    absurd ((hin 401).mp h) (by decide))⟩

theorem offAtDusk_clears (s : State) : (offAtDusk s).comb.cells = [] ∧ (offAtDusk s).comb.parts = [] ∧
    (offAtDusk s).host.queues = [] ∧ (offAtDusk s).host.engines = [] := by
  unfold offAtDusk
  generalize List.range 401 = l
  exact ⟨rfl, rfl, rfl, rfl⟩

theorem offAtDusk_now (s : State) : (offAtDusk s).now = s.now := by
  unfold offAtDusk
  generalize List.range 401 = l
  have h : Touches 0x200000000020 s ((List.range 8).foldl (fun s p => wr s R.WAG_STAT_STATE 0 p) (l.foldl (fun s d => setDom s d 2) s)) :=
    Touches.foldl (Touches.foldl (Touches.refl _ s) fun u d => setDom_touches rfl (Touches.refl _ u)) fun u p =>
      wr_touches rfl (Touches.refl _ u)
  exact h.same (c := .now) rfl

section
variable {x : Nat} {s : State} (hdusk : s.pwr.dusk = some x)
include hdusk

theorem duskFinishDeadline_ends (horder : s.pwr.order = 1) : Ends .duskFinishDeadline s (fun t =>
    t.pwr = { s.pwr with order := 2 } ∧ t.now = max s.now (x + 1000 * rd s R.PWR_DUSK) ∧
    (t.evr.flush.isSome = true ∨ rd t R.NVS_STAT_SEQ_END = 1)) := by
  obtain ⟨u, hu, hexec, hnow⟩ := duskAt_moves (m := 0xFFFFFFFF01068D90) (us := rd s R.PWR_DUSK)
    (k := fun s => triggerFlush (stopJobs (abandonAll s (fun r => !r.causes.contains .dusk) .dusk 19)) 2) hdusk horder rfl
    (fun v => triggerFlush_touches rfl (stopJobs_touches rfl (abandonAll_touches rfl (Touches.refl _ v)))) rfl rfl
  generalize stopJobs _ = v at hu
  subst hu
  exact ⟨_, congrArg Host.Outcome.next hexec, rfl, hnow, triggerFlush_runs v 2⟩

theorem duskLeaving_ends (horder : s.pwr.order = 2) : Ends .duskLeaving s (fun t => t.pwr = { s.pwr with order := 3 } ∧
    t.now = max s.now (x + 14600000) ∧ (∀ p < 8, portUp s p = true → (tget [] (port t p).txq 1).map OutMsg.body =
      (tget [] (port s p).txq 1).map OutMsg.body ++ [.leaving (hiveId s)]) ∧ SameBut [.now, .power, .links] s t) := by
  obtain ⟨u, hu, hexec, hnow⟩ := duskAt_moves (m := 0x800) (us := 14600) (k := sendLeaving) hdusk horder (n := x + 14600000) (by omega)
    (fun v => sendLeaving_touches rfl (Touches.refl _ v)) rfl rfl
  refine ⟨_, congrArg Host.Outcome.next hexec, rfl, hnow, fun p hp hup => ?_, sameBut_of_touches (touches_of_next
    (congrArg Host.Outcome.next hexec : exec .duskLeaving s = _) (execDuskLeaving_touches rfl (Touches.refl _ s) (Touches.refl _ s)))⟩
  generalize hv : reachTime s (x + 14600000) = v at hu
  have hid : hiveId v = hiveId s := by rw [← hv]; exact rd_reachTime ..
  have hup' : portUp v p = true := by rw [← hv, portUp, portState, rd_reachTime]; exact hup
  have hsent := portBodies_foldl_leaveOn List.nodup_range (List.mem_range.mpr hp) hup'
  have hwag : v.wag = s.wag := by rw [← hv]; exact reachTime_wag ..
  rw [← sendLeaving_eq, ← hu, hid, portBodies_of_wag hwag] at hsent
  exact hsent

theorem duskHostDown_ends (cut : Cut) (horder : s.pwr.order = 3) : Ends (.duskHostDown cut) s (fun t =>
    t.pwr = { s.pwr with order := 4 } ∧ t.now = max s.now (x + 15000000) ∧ rd t R.HOST_LINK_UP = 0 ∧ rd t R.HOST_STAT_READY = 0 ∧
    t.host.perst = none) := by
  obtain ⟨u, hu, hexec, hnow⟩ := duskAt_moves (m := 0x9824F8000062F94 ||| 0x9804E8000062F94) (us := 15000)
    (k := (hostDownAtDusk · cut)) hdusk horder (n := x + 15000000) (by omega) (fun v => hostDownAtDusk_touches v cut) rfl rfl
  obtain ⟨hup, hready, hperst⟩ := hostDownAtDusk_ends (reachTime s (x + 15000000)) cut
  rw [← hu] at hup hready hperst
  exact ⟨_, (duskHostDown_eq cut s).trans (congrArg Host.Outcome.next hexec), rfl, hnow, hup, hready, hperst⟩

theorem duskPowerOff_ends (horder : s.pwr.order = 4) : Ends .duskPowerOff s (fun t => t.pwr.order = 5 ∧ t.pwr.dusk = some x ∧
    t.now = max s.now (x + 16000000) ∧ (∀ d < 401, dom t d = 2) ∧ dom t 401 = dom s 401 ∧ t.comb.cells = [] ∧ t.comb.parts = [] ∧
    t.host.queues = [] ∧ t.host.engines = [] ∧ t.mem.cells = s.mem.cells ∧
    SameBut (pages [13] ++ [.now, .power, .memory, .host, .links, .cells, .pipes, .parts]) s t) := by
  have hexec := (duskPowerOff_eq s).trans (congrArg Host.Outcome.next (duskAt_of_order hdusk horder (n := x + 16000000) (by omega)))
  have htouch := touches_of_next hexec (execDuskPowerOff_touches (mm := maskOf (pages [13] ++
    [.now, .power, .memory, .host, .links, .cells, .pipes, .parts])) rfl (Touches.refl _ s) (Touches.refl _ s))
  generalize hv : reachTime s (x + 16000000) = v at hexec htouch
  obtain ⟨y, hpwr, hlow, hkept⟩ := offAtDusk_power v
  have hvpwr : v.pwr = s.pwr := by rw [← hv]; rfl
  have hnow : (offAtDusk v).now = max s.now (x + 16000000) := (offAtDusk_now v).trans (by rw [← hv]; rfl)
  obtain ⟨hcells, hparts, hqueues, hengines⟩ := offAtDusk_clears v
  generalize offAtDusk v = o at hexec htouch hpwr hlow hkept hnow hcells hparts hqueues hengines
  refine ⟨_, hexec, rfl, ?_, hnow, hlow, hkept.trans (by rw [← hv]; rfl), hcells, hparts, hqueues, hengines, htouch.same (c := .bytes) rfl,
    sameBut_of_touches htouch⟩
  dsimp only
  rw [hpwr, hvpwr]
  exact hdusk

end

/-- Outside dusk, and after its last order, no moment of it comes. -/
theorem dusk_ignored {s : State} (cut : Cut) (h : s.pwr.dusk = none ∨ s.pwr.order = 5) : exec .duskFinishDeadline s = .next s ∧
    exec .duskLeaving s = .next s ∧ exec (.duskHostDown cut) s = .next s ∧ exec .duskPowerOff s = .next s := by
  have hne (n : Nat) (hn : n ≠ 5) : s.pwr.dusk = none ∨ s.pwr.order ≠ n := h.imp_right fun h5 hn' => hn (hn'.symm.trans h5)
  exact ⟨congrArg _ (duskAt_ignored (hne 1 (by decide))), congrArg _ (duskAt_ignored (hne 2 (by decide))),
    congrArg _ (duskAt_ignored (hne 3 (by decide))), congrArg _ (duskAt_ignored (hne 4 (by decide)))⟩

theorem duskEnd_ignored {b : Bool} {s : State} (h : s.pwr.dusk = none ∨ s.pwr.order ≠ 5 ∨ b = false ∨ s.pwr.trip = true) :
    exec (.duskEnd b) s = .next s := by
  refine congrArg Host.Outcome.next (if_neg ?_)
  rcases h with h | h | h | h <;> simp [h]

/-! ### Cold resets (R367, R452, R456) -/

theorem rd_foldl_kept {f : Fld} (s : State) {l : List Fld} (h : ∀ g ∈ l, fldCode f ≠ fldCode g) (t : State) :
    rd (l.foldl (fun t g => wr t g (rd s g)) t) f = rd t f :=
  List.foldlRecOn l _ (motive := fun u : State => rd u f = rd t f) rfl fun _ hu g hg => (rd_wr_ne (h g hg) ..).trans hu

/-- The registers aside, what a cold reset leaves. -/
def resetBase (s : State) (cause : Nat) : State :=
  { now := s.now, rtc := if rd s R.EVR_STAT_TIME_Q = 0 then 0 else s.rtc, free := s.free, out := s.out, pending := s.pending,
    mem := { cells := s.mem.cells },
    evr := { bank0 := s.evr.bank0, bank1 := s.evr.bank1 },
    sec := { opkey := s.sec.opkey },
    pwr := { fed := s.pwr.fed, overvolt := s.pwr.overvolt },
    host := { refclk := s.host.refclk, inReset := s.host.inReset },
    boot := { nor := s.boot.nor, remapCopy := s.boot.remapCopy, cause := cause } }

theorem foldl_kept_eq (s : State) (l : List Fld) (t : State) :
    ∃ g, l.foldl (fun t f => wr t f (rd s f)) t = { t with regs := g } :=
  List.foldlRecOn l _ (motive := fun u : State => ∃ g, u = { t with regs := g }) ⟨_, rfl⟩ fun u ⟨_, hg⟩ f _ =>
    ⟨tset (fldReset f 0 0) (fldKey f 0 0) (rd s f % 2 ^ f.w) u.regs, by rw [hg]; rfl⟩

theorem coldReset_eq (s : State) (c : Nat) :
    let u := garbleMemory (cutFlush s)
    coldReset s c = wr (keptFields.foldl (fun t f => wr t f (rd u f)) (resetBase u c)) R.EVR_STAT_TIME_Q
      (if rd u R.EVR_STAT_TIME_Q = 0 then 0 else 1) := rfl

theorem coldReset_base (s : State) (c : Nat) : ∃ g, coldReset s c = { resetBase (garbleMemory (cutFlush s)) c with regs := g } := by
  obtain ⟨g, hg⟩ := foldl_kept_eq (garbleMemory (cutFlush s)) keptFields (resetBase (garbleMemory (cutFlush s)) c)
  rw [coldReset_eq]
  dsimp only
  rw [hg]
  exact ⟨_, rfl⟩

theorem garbled_touches (s : State) : Touches 0x194 s (garbleMemory (cutFlush s)) :=
  garbleMemory_touches rfl rfl rfl (cutFlush_touches rfl (Touches.refl _ s))

theorem coldReset_leaves (s : State) (c : Nat) :
    let t := coldReset s c
    t.now = s.now ∧ t.pending = s.pending ∧ t.boot.nor = s.boot.nor ∧ t.boot.cause = c ∧ t.sec.opkey = s.sec.opkey ∧
    t.pwr.dusk = none ∧ t.pwr.fed = s.pwr.fed ∧ t.pwr.good = false ∧ t.comb = {} ∧ t.kv = {} ∧ t.wag = {} ∧ t.serv = {} ∧ t.twin = {} ∧
    t.vid = {} ∧ t.hive = {} ∧ t.evr.flush = none ∧ t.pwr.overvolt = s.pwr.overvolt := by
  obtain ⟨g, hg⟩ := coldReset_base s c
  have hu := garbled_touches s
  generalize garbleMemory (cutFlush s) = u at hg hu
  have hboot : u.boot = s.boot := hu.same (c := .boot) rfl
  have hsec : u.sec = s.sec := hu.same (c := .security) rfl
  have hpwr : u.pwr = s.pwr := hu.same (c := .power) rfl
  intro t
  rw [show t = _ from hg, ← hboot, ← hsec, ← hpwr]
  exact ⟨hu.same (c := .now) rfl, hu.1, rfl, rfl, rfl, rfl, rfl, rfl, rfl, rfl, rfl, rfl, rfl, rfl, rfl, rfl, rfl⟩

/-- A register that is not kept reads its reset value after a cold reset. -/
theorem rd_coldReset {f : Fld} (hkept : ∀ g ∈ keptFields, fldCode f ≠ fldCode g) (hq : fldCode f ≠ fldCode R.EVR_STAT_TIME_Q)
    (s : State) (c : Nat) : rd (coldReset s c) f = fldReset f 0 0 := by
  rw [coldReset_eq, rd_wr_ne hq, rd_foldl_kept _ hkept]
  rfl

theorem coldReset_keeps (s : State) (c : Nat) :
    rd (coldReset s c) R.SEC_OPKEY_CTL_CHANGES = rd s R.SEC_OPKEY_CTL_CHANGES % 2 ^ 16 ∧
    rd (coldReset s c) R.EVR_STAT_TIME_Q = (if rd s R.EVR_STAT_TIME_Q = 0 then 0 else 1) := by
  have hu := garbled_touches s
  rw [coldReset_eq]
  generalize garbleMemory (cutFlush s) = u at hu
  rw [← hu.reads (f := R.SEC_OPKEY_CTL_CHANGES) rfl, ← hu.reads (f := R.EVR_STAT_TIME_Q) rfl]
  constructor
  · have hlist : keptFields = [R.BOOT_VARIANT_VARIANT, R.BOOT_CFG_REQUIRE_COSIGN, R.SEC_STAT_OPKEY_SET, R.SEC_OPKEY_CTL_CHANGES] ++
        ((List.range 4).map R.SEC_DEVID ++ (List.range 4).map R.SEC_BINDID) := rfl
    rw [rd_wr_ne (by decide), hlist, List.foldl_append, rd_foldl_kept _ (by decide)]
    exact rd_wr _ _ _ _ _
  · refine rd_wr_fit _ _ _ _ ?_
    split <;> decide

theorem coldReset_ends (s : State) (c : Nat) :
    let t := coldReset s c
    t.now = s.now ∧ t.pending = s.pending ∧ t.boot.nor = s.boot.nor ∧ t.boot.cause = c ∧ t.sec.opkey = s.sec.opkey ∧
    t.pwr.dusk = none ∧ t.pwr.fed = s.pwr.fed ∧ t.pwr.good = false ∧ t.comb = {} ∧ t.kv = {} ∧ t.wag = {} ∧ t.serv = {} ∧ t.twin = {} ∧
    t.vid = {} ∧ t.hive = {} ∧ t.evr.flush = none ∧ rd t R.SEC_STAT_DEBUG_OPEN = 0 ∧ rd t R.PWR_CAP_CAP_W = 420 ∧
    rd t R.SEC_OPKEY_CTL_CHANGES = rd s R.SEC_OPKEY_CTL_CHANGES % 2 ^ 16 ∧
    rd t R.EVR_STAT_TIME_Q = (if rd s R.EVR_STAT_TIME_Q = 0 then 0 else 1) := by
  obtain ⟨hnow, hpending, hnor, hcause, hopkey, hdusk, hfed, hgood, hcomb, hkv, hwag, hserv, htwin, hvid, hhive, hflush, -⟩ :=
    coldReset_leaves s c
  obtain ⟨hchanges, hq⟩ := coldReset_keeps s c
  exact ⟨hnow, hpending, hnor, hcause, hopkey, hdusk, hfed, hgood, hcomb, hkv, hwag, hserv, htwin, hvid, hhive, hflush,
    rd_coldReset (by decide) (by decide) s c, rd_coldReset (by decide) (by decide) s c, hchanges, hq⟩

/-! ### Temperature and input power (R509, R512, R514, R515) -/

theorem thermalAlarm_notes {place : Nat} {temp : Int} {s : State} (h : s.pwr.therm = false) :
    Ends (.thermalAlarm place temp) s (fun t => t.pwr = { s.pwr with therm := true } ∧ SameBut (recorded ++ [.power]) s t) := by
  refine ⟨_, congrArg Host.Outcome.next (if_neg (by rw [h]; exact Bool.false_ne_true)), recordEvent_pwr .., ?_⟩
  exact sameBut_of_touches (recordEvent_touches rfl (Touches.power rfl (Touches.refl _ s)))

theorem thermalTrip_begins {place : Nat} {temp : Int} {s : State} (h : s.pwr.dusk = none) :
    Ends (.thermalTrip place temp) s (fun t => t.pwr.dusk = some s.now ∧ t.pwr.order = 1 ∧
      t.pwr.trip = true ∧ t.pwr.therm = true ∧ t.boot.fatal = false ∧
      SameBut (recorded ++ pages [19] ++ [.free, .power, .parts]) s t) := by
  let s1 := recordEvent { s with pwr := { s.pwr with therm := true, trip := true } } 19 0 (statusValue .thermTrip) 4 0
    [place, codeInt 16 temp]
  let s2 : State := { s1 with boot := { s1.boot with fatal := false } }
  have hexec : exec (.thermalTrip place temp) s = .next (beginDusk s2) :=
    congrArg Host.Outcome.next (if_neg (by rw [h]; exact Bool.false_ne_true))
  obtain ⟨⟨x, hpwr⟩, -, -, hboot⟩ := beginDusk_shows s2
  have hpwr2 : s2.pwr = { s.pwr with therm := true, trip := true } := recordEvent_pwr ..
  have hnow2 : s2.now = s.now := recordEvent_now ..
  rw [hpwr2, hnow2] at hpwr
  refine ⟨_, hexec, ?_, ?_, ?_, ?_, ?_, sameBut_of_touches (touches_of_next hexec
    (execThermalTrip_touches rfl (Touches.refl _ s) (Touches.refl _ s)))⟩
  · rw [hpwr]
  · rw [hpwr]
  · rw [hpwr]
  · rw [hpwr]
  · rw [hboot]

theorem thermalTripCooled_answers (s : State) :
    (s.pwr.trip = true → s.pwr.order = 5 → exec .thermalTripCooled s = .next (coldReset s 4)) ∧
    ((s.pwr.trip = false ∨ s.pwr.order ≠ 5) → exec .thermalTripCooled s = .next s) := by
  refine ⟨fun htrip horder => congrArg Host.Outcome.next (if_pos (by rw [htrip, horder]; rfl)), fun h =>
    congrArg Host.Outcome.next (if_neg ?_)⟩
  rcases h with h | h <;> simp [h]

theorem powerLoss_ends (s : State) :
    Ends .inputPowerLoss s (fun t => t.pwr.fed = false ∧ t.pwr.overvolt = s.pwr.overvolt ∧ t.now = s.now ∧ t.pwr.dusk = none) ∧
    Ends .overvoltageDisconnect s (fun t => t.pwr.fed = false ∧ t.pwr.overvolt = true ∧ t.now = s.now ∧ t.pwr.dusk = none) := by
  obtain ⟨hnow, -, -, -, -, hdusk, -, -, -, -, -, -, -, -, -, -, hover⟩ := coldReset_leaves s 0
  have hloss : exec .inputPowerLoss s = .next (losePower s) := rfl
  have hover' : exec .overvoltageDisconnect s =
      .next (let s := losePower s; { s with pwr := { s.pwr with overvolt := true } }) := rfl
  unfold losePower at hloss hover'
  generalize coldReset s 0 = u at hnow hdusk hover hloss hover'
  exact ⟨⟨_, hloss, rfl, hover, hnow, hdusk⟩, _, hover', rfl, rfl, hnow, hdusk⟩

/-- Settles O44: dusk's moments come in the order that its state names, and a cold reset builds a new state from what it keeps. -/
theorem duskAndTrips : Obligations.DuskAndTrips := by
  unfold Obligations.DuskAndTrips
  refine ⟨fun s hdusk hgood => duskBegin_begins hdusk hgood, fun s h => duskBegin_ignored h,
    fun x s hdusk horder => duskFinishDeadline_ends hdusk horder, fun x s hdusk horder => duskLeaving_ends hdusk horder,
    fun x cut s hdusk horder => duskHostDown_ends hdusk cut horder, fun x s hdusk horder => duskPowerOff_ends hdusk horder,
    fun cut s h => dusk_ignored cut h, fun x s hdusk horder htrip => congrArg Host.Outcome.next (if_pos ?_),
    fun b s h => duskEnd_ignored h, coldReset_ends, fun place temp s => ⟨thermalAlarm_notes, fun h => congrArg Host.Outcome.next (if_pos h)⟩,
    fun place temp s => ⟨thermalTrip_begins, fun h => congrArg Host.Outcome.next (if_pos (Option.isSome_iff_ne_none.mpr h))⟩,
    thermalTripCooled_answers, powerLoss_ends⟩
  rw [hdusk, horder, htrip]
  rfl

end Sys2Proof.Proofs
end

section
/-!
Proofs for chapter 16: the clock loops, their sources, dividers and gates, and the observation output (R407 to R414).
-/

namespace Sys2Proof.Proofs

open Sys2Proof Sys2Proof.Machine Sys2Proof.Safety Sys2Proof.Certificates Sys2Proof.Laws

/-! ### Registers of a loop -/

theorem fldKey_ne_of_sel (f g : Fld) (i j : Nat) {k l : Nat} (h : l ≠ k) : fldKey g j l ≠ fldKey f i k := by
  unfold fldKey
  omega

/-- A write under one selector leaves every register under another alone. -/
theorem rd_wr_sel {k l : Nat} (h : l ≠ k) (s : State) (f g : Fld) (v i j : Nat) : rd (wr s f v i k) g j l = rd s g j l :=
  tget_tset_ne _ _ (fldKey_ne_of_sel f g i j h) _ _

theorem rd_showAwait {f : Fld} (h : fldCode f ≠ fldCode R.CLK_STAT_FALLBACK_NOT_READY) (s : State) (i k : Nat) :
    rd (showAwait s) f i k = rd s f i k := rd_wr_ne h ..

theorem loopState_setLoop (s : State) (k : Nat) {v : Nat} (hv : v < 8) : loopState (setLoop s k v) k = v := rd_wr_fit _ _ _ _ hv

theorem loopState_setLoop_ne (s : State) {j k : Nat} (v : Nat) (h : j ≠ k) : loopState (setLoop s k v) j = loopState s j :=
  rd_wr_inst _ (.inr h) _ _

theorem loopState_showAwait (s : State) (k : Nat) : loopState (showAwait s) k = loopState s k := rd_showAwait (by decide) ..

/-! ### Loops that coast and trip (R408 to R411) -/

/-- The state in which a loop coasts: with its divider at the last ratio it does so already. -/
def coastState (s : State) (k : Nat) : Nat := if rd s R.CLK_LOOP_STAT_DIVIDER 0 k = 5 then 2 else 3

theorem coastState_lt (s : State) (k : Nat) : coastState s k < 8 := by
  unfold coastState
  split <;> decide

/-- What a loop that coasts shows, before the block that it clocks loses its clock. -/
def coastShown (s : State) (k : Nat) (wait : Bool) : State :=
  let await := if wait then (k :: s.clk.await).eraseDups else s.clk.await.filter (· ≠ k)
  let clk := { s.clk with up := s.clk.up.filter (· ≠ k), come := s.clk.come.filter (· ≠ k), await := await }
  showAwait (setLoop { s with clk := clk } k (coastState s k))

theorem coast_eq (s : State) (k : Nat) (wait : Bool) (cut : Cut) : coast s k wait cut =
    if k = 32 then (if (coastShown s k wait).host.refclk then hostPortReset (coastShown s k wait) cut else coastShown s k wait)
    else if 33 ≤ k && k < 41 then portDown (coastShown s k wait) (k - 33) 2 else coastShown s k wait := rfl

/-- What the loss of its clock touches of the host port and of a port. -/
abbrev clockLost : Nat := 0x9824F8000062F94 ||| 0x981EA8000065F90

theorem coast_after (s : State) (k : Nat) (wait : Bool) (cut : Cut) : Touches clockLost (coastShown s k wait) (coast s k wait cut) := by
  rw [coast_eq]
  generalize coastShown s k wait = u
  split
  · split
    · exact hostPortReset_touches rfl (Touches.refl _ _)
    · exact Touches.refl _ _
  · split
    · exact portDown_touches rfl (Touches.refl _ _)
    · exact Touches.refl _ _

section
variable (s : State) (k : Nat) (wait : Bool) (cut : Cut)

/-- A clock page's register other than the state's own reads on. -/
theorem rd_coast {f : Fld} (hty : f.ty = 20) (hawait : fldCode f ≠ fldCode R.CLK_STAT_FALLBACK_NOT_READY)
    {i l : Nat} (h : fldCode f ≠ fldCode R.CLK_LOOP_STAT_STATE ∨ l ≠ k) : rd (coast s k wait cut) f i l = rd s f i l := by
  rw [(coast_after s k wait cut).reads (by rw [hty]; rfl), coastShown, rd_showAwait hawait]
  rcases h with h | h
  · exact (rd_wr_ne h ..).trans (rd_set_clk ..)
  · exact (rd_wr_sel h ..).trans (rd_set_clk ..)

theorem loopState_coast : loopState (coast s k wait cut) k = coastState s k :=
  ((coast_after s k wait cut).reads rfl).trans ((loopState_showAwait ..).trans (loopState_setLoop _ _ (coastState_lt s k)))

/-- A port's or the calendar's loop that waits for the TCXO shows it. -/
theorem coast_awaits (hk : 33 ≤ k) : rd (coast s k true cut) R.CLK_STAT_FALLBACK_NOT_READY = 1 := by
  rw [(coast_after s k true cut).reads rfl, coastShown]
  have hany : (k :: s.clk.await).eraseDups.any (33 ≤ ·) = true :=
    List.any_eq_true.mpr ⟨k, List.mem_eraseDups.mpr List.mem_cons_self, decide_eq_true hk⟩
  refine (rd_wr ..).trans ?_
  exact congrArg (b2n · % 2 ^ 1) hany

end

/-- The trip of a loop's monitor is counted and shown. -/
def tripShown (s : State) (k : Nat) : State :=
  irqEvent (incSat (wr s R.CLK_LOOP_STAT_SRC_LOST 1 0 k) R.CLK_SRC_FAIL_CNT) 20 0 Irq.CLK_SRC_LOST 0 [k]

section
variable (s : State) (k : Nat)

theorem rd_tripShown {f : Fld} (hty : f.ty = 20) (hcnt : fldCode f ≠ fldCode R.CLK_SRC_FAIL_CNT)
    (hirq : fldCode f ≠ fldCode (hIrqRaw 20 Irq.CLK_SRC_LOST)) {i l : Nat}
    (h : fldCode f ≠ fldCode R.CLK_LOOP_STAT_SRC_LOST ∨ l ≠ k) : rd (tripShown s k) f i l = rd s f i l := by
  unfold tripShown
  rw [rd_irqEvent _ _ _ _ _ _ (by rw [hty]; rfl) hirq, rd_incSat_ne hcnt]
  rcases h with h | h
  · exact rd_wr_ne h ..
  · exact rd_wr_sel h ..

theorem tripShown_counts : rd (tripShown s k) R.CLK_LOOP_STAT_SRC_LOST 0 k = 1 ∧
    rd (tripShown s k) R.CLK_SRC_FAIL_CNT = min (rd s R.CLK_SRC_FAIL_CNT + 1) (2 ^ 32 - 1) ∧
    rd (tripShown s k) (hIrqRaw 20 Irq.CLK_SRC_LOST) 0 = 1 := by
  unfold tripShown
  refine ⟨?_, ?_, rd_irqEvent_same ..⟩
  · rw [rd_irqEvent _ _ _ _ _ _ rfl (by decide), rd_incSat_ne (by decide)]
    exact rd_wr_fit _ _ _ _ (by decide)
  · rw [rd_irqEvent _ _ _ _ _ _ rfl (by decide), rd_incSat, rd_wr_ne (by decide)]
    rfl

end

/-- The trip with its effect on the calendar. -/
def tripNoted (s : State) (k : Nat) : State := if k = 41 then meridHoldover (tripShown s k) else tripShown s k

theorem tripNoted_after (s : State) (k : Nat) : Touches 0x180800000060010 (tripShown s k) (tripNoted s k) := by
  unfold tripNoted
  split
  · exact meridHoldover_touches rfl (Touches.refl _ _)
  · exact Touches.refl _ _

theorem tripShown_touches (s : State) (k : Nat) : Touches 0x190000000060010 s (tripShown s k) :=
  irqEvent_touches rfl rfl (incSat_touches rfl (wr_touches rfl (Touches.refl _ s)))

theorem tcxoStable_tripNoted (s : State) (k : Nat) : tcxoStable (tripNoted s k) = tcxoStable s := by
  unfold tcxoStable
  rw [(tripNoted_after s k).reads rfl, rd_tripShown _ _ rfl (by decide) (by decide) (.inl (by decide))]

/-- The trip of a loop without a source that it could fall back to. -/
def tripWaits (s : State) (k : Nat) : State :=
  let u := wr (tripNoted s k) R.CLK_LOOP_STAT_SOURCE 0 0 k
  raiseIrq (statusEvent u 20 0 .fallbackNotReady 0 [k]) 20 0 Irq.CLK_FALLBACK_NOT_READY

section
variable {s : State} {k : Nat} {cut : Cut}

/-- A trip that counts: of a loop that runs, or whose source was not lost. -/
theorem loopTrip_eq (hgo : (loopState s k = 0 || rd s R.CLK_LOOP_STAT_SRC_LOST 0 k = 1 && (loopState s k ≠ 1 || k < 33)) = false) :
    loopTrip s k cut =
      if (33 ≤ k && rd s R.CLK_LOOP_STAT_SOURCE 0 k = 2) && tcxoStable (tripNoted s k) then
        wr (tripNoted s k) R.CLK_LOOP_STAT_SOURCE 0 0 k
      else if 33 ≤ k && !tcxoStable (tripNoted s k) then coast (tripWaits s k) k true cut
      else coast (tripNoted s k) k (k < 32 && !tcxoStable (tripNoted s k)) cut :=
  if_neg (by rw [hgo]; exact Bool.false_ne_true)

/-- A locked loop on the hive reference falls back to the stable TCXO. -/
theorem loopTrip_fallsBack (hk : 33 ≤ k) (hlock : loopState s k = 1) (hsrc : rd s R.CLK_LOOP_STAT_SOURCE 0 k = 2)
    (htcxo : tcxoStable s = true) : loopTrip s k cut = wr (tripNoted s k) R.CLK_LOOP_STAT_SOURCE 0 0 k := by
  rw [loopTrip_eq (by simp [hlock, hk]), tcxoStable_tripNoted, if_pos (by simp [hk, hsrc, htcxo])]

/-- A loop below 33 has no fallback, and coasts. -/
theorem loopTrip_coasts (hk : k < 33) (hlock : loopState s k = 1) (hlost : rd s R.CLK_LOOP_STAT_SRC_LOST 0 k = 0) :
    ∃ wait, loopTrip s k cut = coast (tripShown s k) k wait cut := by
  have hnoted : tripNoted s k = tripShown s k := if_neg (by omega)
  have h33 : ¬33 ≤ k := by omega
  rw [loopTrip_eq (by simp [hlock, hlost]), hnoted, if_neg (by simp [h33]), if_neg (by simp [h33])]
  exact ⟨_, rfl⟩

/-- Without the TCXO a loop on it waits for it. -/
theorem loopTrip_waits (hk : 33 ≤ k) (hlock : loopState s k = 1) (htcxo : tcxoStable s = false) :
    loopTrip s k cut = coast (tripWaits s k) k true cut := by
  rw [loopTrip_eq (by simp [hlock, hk]), tcxoStable_tripNoted, if_neg (by simp [htcxo]), if_pos (by simp [hk, htcxo])]

end

/-- What every trip leaves of a clock page's registers. -/
theorem rd_tripWaits {f : Fld} (hty : f.ty = 20) (hcnt : fldCode f ≠ fldCode R.CLK_SRC_FAIL_CNT)
    (hlost : fldCode f ≠ fldCode (hIrqRaw 20 Irq.CLK_SRC_LOST)) (hwait : fldCode f ≠ fldCode (hIrqRaw 20 Irq.CLK_FALLBACK_NOT_READY))
    (s : State) {i k l : Nat} (h : fldCode f ≠ fldCode R.CLK_LOOP_STAT_SRC_LOST ∧ fldCode f ≠ fldCode R.CLK_LOOP_STAT_SOURCE ∨ l ≠ k) :
    rd (tripWaits s k) f i l = rd s f i l := by
  have hpage : Nat.testBit 0x180000000060010 (32 + f.ty % 32) = false := by rw [hty]; rfl
  have hnoted : rd (tripNoted s k) f i l = rd s f i l := by
    rw [(tripNoted_after s k).reads (by rw [hty]; rfl)]
    exact rd_tripShown s k hty hcnt hlost (h.imp_left And.left)
  unfold tripWaits statusEvent
  dsimp only
  rw [rd_raiseIrq hwait, rd_recordEvent _ _ _ _ _ _ _ hpage, ← hnoted]
  rcases h with h | h
  · exact rd_wr_ne h.2 ..
  · exact rd_wr_sel h ..

theorem clockSourceTrip_fallsBack {k : Nat} {cut : Cut} {s : State} (hlo : 33 ≤ k) (hhi : k < 42) (hlock : loopState s k = 1)
    (hsrc : rd s R.CLK_LOOP_STAT_SOURCE 0 k = 2) (htcxo : tcxoStable s = true) :
    Ends (.clockSourceTrip k cut) s (fun t => loopState t k = 1 ∧ rd t R.CLK_LOOP_STAT_SOURCE 0 k = 0 ∧
      rd t R.CLK_LOOP_STAT_SRC_LOST 0 k = 1 ∧ rd t R.CLK_SRC_FAIL_CNT = min (rd s R.CLK_SRC_FAIL_CNT + 1) (2 ^ 32 - 1) ∧
      rd t (hIrqRaw 20 Irq.CLK_SRC_LOST) 0 = 1 ∧ t.clk = s.clk ∧ t.wag = s.wag) := by
  have hexec : exec (.clockSourceTrip k cut) s = .next (wr (tripNoted s k) R.CLK_LOOP_STAT_SOURCE 0 0 k) :=
    congrArg Host.Outcome.next ((if_pos hhi).trans (loopTrip_fallsBack hlo hlock hsrc htcxo))
  have hafter := tripNoted_after s k
  obtain ⟨hlost, hcnt, hirq⟩ := tripShown_counts s k
  refine ⟨_, hexec, ?_, rd_wr_fit _ _ _ _ (by decide), ?_, ?_, ?_, ?_, ?_⟩
  · rw [loopState, rd_wr_ne (by decide), hafter.reads rfl, rd_tripShown _ _ rfl (by decide) (by decide) (.inl (by decide))]
    exact hlock
  · rw [rd_wr_ne (by decide), hafter.reads rfl, hlost]
  · rw [rd_wr_ne (by decide), hafter.reads rfl, hcnt]
  · rw [rd_wr_ne (by decide), hafter.reads rfl, hirq]
  · exact (hafter.same (c := .clocks) rfl).trans ((tripShown_touches s k).same (c := .clocks) rfl)
  · exact (hafter.same (c := .links) rfl).trans ((tripShown_touches s k).same (c := .links) rfl)

theorem clockSourceTrip_coasts {k : Nat} {cut : Cut} {s : State} (hk : k < 33) (hlock : loopState s k = 1)
    (hfresh : rd s R.CLK_LOOP_STAT_SRC_LOST 0 k = 0) :
    Ends (.clockSourceTrip k cut) s (fun t => loopState t k = (if rd s R.CLK_LOOP_STAT_DIVIDER 0 k = 5 then 2 else 3) ∧
      rd t R.CLK_LOOP_STAT_SRC_LOST 0 k = 1 ∧ rd t R.CLK_SRC_FAIL_CNT = min (rd s R.CLK_SRC_FAIL_CNT + 1) (2 ^ 32 - 1) ∧
      (k = 32 → s.host.refclk = true → rd t R.HOST_LINK_UP = 0) ∧ (∀ j, j ≠ k → loopState t j = loopState s j)) := by
  obtain ⟨wait, hcoast⟩ := loopTrip_coasts (cut := cut) hk hlock hfresh
  have hexec : exec (.clockSourceTrip k cut) s = .next (coast (tripShown s k) k wait cut) :=
    congrArg Host.Outcome.next ((if_pos (by omega)).trans hcoast)
  obtain ⟨hlost, hcnt, -⟩ := tripShown_counts s k
  refine ⟨_, hexec, ?_, ?_, ?_, fun h32 hclk => ?_, fun j hj => ?_⟩
  · rw [loopState_coast, coastState, rd_tripShown _ _ rfl (by decide) (by decide) (.inl (by decide))]
  · rw [rd_coast _ _ _ _ rfl (by decide) (.inl (by decide)), hlost]
  · rw [rd_coast _ _ _ _ rfl (by decide) (.inl (by decide)), hcnt]
  · have hup : (coastShown (tripShown s k) k wait).host.refclk = true := by
      show (tripShown s k).host.refclk = true
      rw [show (tripShown s k).host = s.host from (tripShown_touches s k).same (c := .host) rfl, hclk]
    rw [coast_eq, if_pos h32, if_pos hup]
    exact (hostPortReset_resets _ _).1
  · rw [loopState, rd_coast _ _ _ _ rfl (by decide) (.inr hj), rd_tripShown _ _ rfl (by decide) (by decide) (.inr hj)]
    rfl

theorem clockSourceTrip_ignored {k : Nat} {cut : Cut} {s : State} (h : 42 ≤ k ∨ loopState s k = 0) :
    exec (.clockSourceTrip k cut) s = .next s := by
  refine congrArg Host.Outcome.next ?_
  by_cases hk : k < 42
  · have h0 : loopState s k = 0 := h.resolve_left (by omega)
    exact (if_pos hk).trans (if_pos (by rw [h0]; rfl))
  · exact if_neg hk

/-! ### Dividers (R410) -/

section
variable {k : Nat} {s : State}

theorem relock_shows (s : State) (k : Nat) : loopState (relock s k) k = 4 ∧ (relock s k).clk.await.contains k = false := by
  refine ⟨(loopState_showAwait ..).trans (loopState_setLoop _ _ (by decide)), ?_⟩
  have hawait : (relock s k).clk.await = s.clk.await.filter (· ≠ k) := rfl
  rw [hawait, ← Bool.not_eq_true, List.contains_iff_mem, List.mem_filter]
  simp

/-- The divider's next ratio on the way down. -/
theorem dividerStep_down (hst : loopState s k = 3) (hup : s.clk.up.contains k = false) :
    exec (.dividerStep k) s = .next (
      let d := rd s R.CLK_LOOP_STAT_DIVIDER 0 k
      let u := wr s R.CLK_LOOP_STAT_DIVIDER (d + 1) 0 k
      if d + 1 < 5 then u else if u.clk.come.contains k then relock u k else setLoop u k 2) :=
  congrArg Host.Outcome.next (if_pos (by rw [hst, hup]; rfl))

theorem dividerStep_up (h : loopState s k = 4 ∨ loopState s k = 3 ∧ s.clk.up.contains k = true) :
    exec (.dividerStep k) s = .next (
      let d := rd s R.CLK_LOOP_STAT_DIVIDER 0 k
      let u := setLoop (wr { s with clk := { s.clk with up := (k :: s.clk.up).eraseDups } } R.CLK_LOOP_STAT_DIVIDER (d - 1) 0 k) k 3
      if 1 < d then u else setLoop { u with clk := { u.clk with up := u.clk.up.filter (· ≠ k) } } k 1) := by
  refine congrArg Host.Outcome.next ((if_neg ?_).trans (if_pos ?_))
  · rcases h with h | ⟨h, hup⟩
    · simp [h]
    · simp only [hup, Bool.not_true, Bool.and_false]
      exact Bool.false_ne_true
  · rcases h with h | ⟨h, -⟩ <;> simp [h]

theorem dividerStep_steps (k : Nat) (s : State) : let d := rd s R.CLK_LOOP_STAT_DIVIDER 0 k
    (loopState s k = 3 → s.clk.up.contains k = false → d < 4 → Ends (.dividerStep k) s (fun t => loopState t k = 3 ∧
      rd t R.CLK_LOOP_STAT_DIVIDER 0 k = d + 1 ∧ SameBut (pages [20] ++ [.clocks]) s t)) ∧
    (loopState s k = 3 → s.clk.up.contains k = false → d = 4 → s.clk.come.contains k = false → Ends (.dividerStep k) s (fun t =>
      loopState t k = 2 ∧ rd t R.CLK_LOOP_STAT_DIVIDER 0 k = 5 ∧ SameBut (pages [20] ++ [.clocks]) s t)) ∧
    (loopState s k = 4 → 1 < d → Ends (.dividerStep k) s (fun t => loopState t k = 3 ∧ t.clk.up.contains k = true ∧
      rd t R.CLK_LOOP_STAT_DIVIDER 0 k = (d - 1) % 2 ^ 4 ∧ SameBut (pages [20] ++ [.clocks]) s t)) ∧
    ((loopState s k = 4 ∨ loopState s k = 3 ∧ s.clk.up.contains k = true) → d ≤ 1 → Ends (.dividerStep k) s (fun t =>
      loopState t k = 1 ∧ t.clk.up.contains k = false ∧ rd t R.CLK_LOOP_STAT_DIVIDER 0 k = 0 ∧ SameBut (pages [20] ++ [.clocks]) s t)) ∧
    ((loopState s k < 3 ∨ 4 < loopState s k) → exec (.dividerStep k) s = .next s) := by
  have hframe {t : State} (hexec : exec (.dividerStep k) s = .next t) : SameBut (pages [20] ++ [.clocks]) s t :=
    sameBut_of_touches (touches_of_next hexec (execDividerStep_touches rfl (Touches.refl _ s) (Touches.refl _ s)))
  refine ⟨fun hst hup hd => ?_, fun hst hup hd hcome => ?_, fun hst hd => ?_, fun hst hd => ?_, fun hst => ?_⟩
  · have hexec := (dividerStep_down hst hup).trans (congrArg Host.Outcome.next (if_pos (by omega)))
    exact ⟨_, hexec, (rd_wr_ne (by decide) ..).trans hst, rd_wr_fit _ _ _ _ (by rw [show R.CLK_LOOP_STAT_DIVIDER.w = 4 from rfl]; omega), hframe hexec⟩
  · have hexec := (dividerStep_down hst hup).trans (congrArg Host.Outcome.next
      ((if_neg (by omega)).trans (if_neg (by rw [wr_clk, hcome]; exact Bool.false_ne_true))))
    refine ⟨_, hexec, loopState_setLoop _ _ (by decide), (rd_wr_ne (by decide) ..).trans ?_, hframe hexec⟩
    rw [hd]
    exact rd_wr_fit _ _ _ _ (by decide)
  · have hexec := (dividerStep_up (.inl hst)).trans (congrArg Host.Outcome.next (if_pos hd))
    refine ⟨_, hexec, loopState_setLoop _ _ (by decide), ?_, (rd_wr_ne (by decide) ..).trans (rd_wr ..), hframe hexec⟩
    exact List.contains_iff_mem.mpr (List.mem_eraseDups.mpr List.mem_cons_self)
  · have hexec := (dividerStep_up hst).trans (congrArg Host.Outcome.next (if_neg (by omega)))
    refine ⟨_, hexec, loopState_setLoop _ _ (by decide), ?_, ?_, hframe hexec⟩
    · rw [← Bool.not_eq_true, List.contains_iff_mem]
      exact fun hmem => of_decide_eq_true (List.mem_filter.mp hmem).2 rfl
    · refine (rd_wr_ne (by decide) ..).trans ((rd_set_clk ..).trans ((rd_wr_ne (by decide) ..).trans ((rd_wr ..).trans ?_)))
      rw [show rd s R.CLK_LOOP_STAT_DIVIDER 0 k - 1 = 0 by omega]
      rfl
  · refine congrArg Host.Outcome.next ((if_neg ?_).trans (if_neg ?_))
    · simp only [Bool.and_eq_true, decide_eq_true_eq]
      omega
    · simp only [Bool.or_eq_true, decide_eq_true_eq]
      omega

end

/-! ### Sources that are good again (R409, R410) -/

theorem clockSourceGood_answers (k : Nat) (s : State) :
    (k < 32 → loopState s k = 2 → tcxoStable s = true → Ends (.clockSourceGood k) s (fun t => loopState t k = 4 ∧
      rd t R.CLK_LOOP_STAT_SOURCE 0 k = 0 ∧ rd t R.CLK_LOOP_STAT_SRC_LOST 0 k = 0 ∧ t.clk.await.contains k = false ∧
      SameBut (pages [20] ++ [.clocks]) s t)) ∧
    (33 ≤ k → k < 42 → loopState s k = 1 → hiveRef s = true → Ends (.clockSourceGood k) s (fun t => loopState t k = 1 ∧
      rd t R.CLK_LOOP_STAT_SOURCE 0 k = 2 ∧ rd t R.CLK_LOOP_STAT_SRC_LOST 0 k = 0 ∧ SameBut [.page 20] s t)) ∧
    ((k < 32 ∧ tcxoStable s = false ∨ k = 32 ∧ s.host.refclk = false ∨ 42 ≤ k) → exec (.clockSourceGood k) s = .next s) := by
  refine ⟨fun hk hst htcxo => ?_, fun hlo hhi hst href => ?_, fun h => ?_⟩
  · let u := wr (wr s R.CLK_LOOP_STAT_SOURCE 0 0 k) R.CLK_LOOP_STAT_SRC_LOST 0 0 k
    have hexec : exec (.clockSourceGood k) s = .next (relock u k) := by
      refine congrArg Host.Outcome.next ?_
      rw [if_pos hk, if_pos htcxo]
      exact (if_neg (by omega)).trans ((if_neg (by omega)).trans (if_pos hst))
    obtain ⟨hrelock, hawait⟩ := relock_shows u k
    have hread {f : Fld} (hf : fldCode f ≠ fldCode R.CLK_STAT_FALLBACK_NOT_READY) (hst : fldCode f ≠ fldCode R.CLK_LOOP_STAT_STATE) :
        rd (relock u k) f 0 k = rd u f 0 k := (rd_showAwait hf ..).trans ((rd_wr_ne hst ..).trans (rd_set_clk ..))
    refine ⟨_, hexec, hrelock, (hread (by decide) (by decide)).trans ((rd_wr_ne (by decide) ..).trans (rd_wr_fit _ _ _ _ (by decide))),
      (hread (by decide) (by decide)).trans (rd_wr_fit _ _ _ _ (by decide)), hawait, sameBut_of_touches
      (touches_of_next hexec (execClockSourceGood_touches rfl (Touches.refl _ s) (Touches.refl _ s)))⟩
  · refine ⟨wr (wr s R.CLK_LOOP_STAT_SOURCE 2 0 k) R.CLK_LOOP_STAT_SRC_LOST 0 0 k, ?_, ?_, ?_, rd_wr_fit _ _ _ _ (by decide),
      sameBut_of_touches (wr_touches rfl (wr_touches rfl (Touches.refl _ s)))⟩
    · refine congrArg Host.Outcome.next ?_
      rw [if_neg (by omega), if_neg (by omega), if_pos href]
      exact (if_neg (by omega)).trans ((if_pos hst).trans (if_pos (by simp [hlo])))
    · rw [loopState, rd_wr_ne (by decide), rd_wr_ne (by decide)]
      exact hst
    · rw [rd_wr_ne (by decide)]
      exact rd_wr_fit _ _ _ _ (by decide)
  · refine congrArg Host.Outcome.next ?_
    rcases h with ⟨hk, htcxo⟩ | ⟨hk, hclk⟩ | hk
    · rw [if_pos hk, if_neg (by rw [htcxo]; exact Bool.false_ne_true)]
    · rw [if_neg (by omega), if_pos hk, if_neg (by rw [hclk]; exact Bool.false_ne_true)]
    · dsimp only
      generalize (if k < 32 then (if tcxoStable s then some 0 else none) else if k = 32 then (if s.host.refclk then some 1 else none)
        else if hiveRef s then some 2 else if tcxoStable s then some 0 else none : Option Nat) = src
      cases src with
      | none => rfl
      | some v => exact if_pos hk

/-! ### The TCXO (R407, R411, R412) -/

/-- A run over a list that passes `k` reaches what `k`'s step makes of a state with an invariant, where every step keeps both. -/
theorem foldl_reaches_of_inv {β : Type} {f : State → β → State} {P Q : State → Prop} {k : β} (hP : ∀ u j, P u → P (f u j))
    (hset : ∀ u, P u → Q (f u k)) (hkeep : ∀ u j, P u → Q u → Q (f u j)) {l : List β} (hk : k ∈ l) {s : State} (hs : P s) :
    Q (l.foldl f s) := by
  have hrest : ∀ (l : List β) (u : State), P u → Q u → Q (l.foldl f u) := fun l => by
    induction l with
    | nil => exact fun _ _ h => h
    | cons j l ih => exact fun u hp hq => ih _ (hP u j hp) (hkeep u j hp hq)
  induction l generalizing s with
  | nil => exact absurd hk List.not_mem_nil
  | cons j l ih =>
    rcases List.mem_cons.mp hk with rfl | hk
    · exact hrest l _ (hP s k hs) (hset s hs)
    · exact ih hk (hP s j hs)

/-- The source that a loop takes when the TCXO is first stable. -/
def firstSource (s : State) (k : Nat) : Nat := if k < 32 then 0 else if k = 32 then 1 else if hiveRef s then 2 else 0

theorem tcxoFor_locks {s : State} {k : Nat} (h : loopState s k = 0) :
    tcxoFor s k = if k = 32 && !s.host.refclk then s else setLoop (wr s R.CLK_LOOP_STAT_SOURCE (firstSource s k) 0 k) k 1 := if_pos h

/-- A loop's step leaves the registers of every other loop, and the state and the source of one that runs. -/
theorem rd_tcxoFor {f : Fld} (hawait : fldCode f ≠ fldCode R.CLK_STAT_FALLBACK_NOT_READY) (s : State) {j : Nat} (i : Nat) {l : Nat}
    (h : l ≠ j ∨ loopState s j = 1 ∧ fldCode f ≠ fldCode R.CLK_LOOP_STAT_SRC_LOST) : rd (tcxoFor s j) f i l = rd s f i l := by
  have hsel {g : Fld} {v : Nat} {u : State} (hl : l ≠ j) : rd (wr u g v 0 j) f i l = rd u f i l := rd_wr_sel hl ..
  unfold tcxoFor
  split
  · next h0 =>
    have hl : l ≠ j := h.resolve_right fun h1 => by rw [h1.1] at h0; exact absurd h0 (by decide)
    dsimp only
    split
    · rfl
    · exact (hsel hl).trans (hsel hl)
  · split
    · dsimp only
      rcases h with hl | ⟨h1, hlost⟩
      · split
        · exact (rd_showAwait hawait ..).trans ((hsel hl).trans ((rd_set_clk ..).trans (hsel hl)))
        · exact (rd_set_clk ..).trans (hsel hl)
      · have hst : loopState (wr s R.CLK_LOOP_STAT_SRC_LOST 0 0 j) j = 1 := (rd_wr_ne (by decide) ..).trans h1
        rw [if_neg (by rw [hst]; decide), rd_set_clk]
        exact rd_wr_ne hlost ..
    · rfl

/-- The registers that a loop's step writes. -/
def tcxoFields : List Fld :=
  [R.CLK_LOOP_STAT_SOURCE, R.CLK_LOOP_STAT_STATE, R.CLK_LOOP_STAT_SRC_LOST, R.CLK_STAT_FALLBACK_NOT_READY]

theorem rd_tcxoFor_ne {f : Fld} (h : ∀ g ∈ tcxoFields, fldCode f ≠ fldCode g) (s : State) (j i l : Nat) :
    rd (tcxoFor s j) f i l = rd s f i l := by
  have hsource := h R.CLK_LOOP_STAT_SOURCE (by simp [tcxoFields])
  have hstate := h R.CLK_LOOP_STAT_STATE (by simp [tcxoFields])
  have hlost := h R.CLK_LOOP_STAT_SRC_LOST (by simp [tcxoFields])
  have hawait := h R.CLK_STAT_FALLBACK_NOT_READY (by simp [tcxoFields])
  unfold tcxoFor
  split
  · dsimp only
    split
    · rfl
    · exact (rd_wr_ne hstate ..).trans (rd_wr_ne hsource ..)
  · split
    · dsimp only
      split
      · exact (rd_showAwait hawait ..).trans ((rd_wr_ne hstate ..).trans ((rd_set_clk ..).trans (rd_wr_ne hlost ..)))
      · exact (rd_set_clk ..).trans (rd_wr_ne hlost ..)
    · rfl

theorem tcxoFor_after (s : State) (j : Nat) : Touches 0x10000000000040 s (tcxoFor s j) := tcxoFor_touches rfl (Touches.refl _ s)

theorem hiveRef_of_touches {m : Nat} {s t : State} (h : Touches m s t) (hb : m.testBit 45 = false) : hiveRef t = hiveRef s := by
  unfold hiveRef
  rw [h.reads (f := R.WAG_REF_NONE) hb, h.reads (f := R.WAG_REF_LOCKED) hb]

/-- A loop that has not locked yet does, and then stays. -/
theorem foldl_tcxoFor_locks {s : State} {k : Nat} (hk : k < 42) (hne : k ≠ 32) (h0 : loopState s k = 0) :
    let t := (List.range 42).foldl tcxoFor s
    loopState t k = 1 ∧ rd t R.CLK_LOOP_STAT_SOURCE 0 k = (if k < 32 ∨ hiveRef s = false then 0 else 2) := by
  let v := if k < 32 ∨ hiveRef s = false then 0 else 2
  have hv : v < 4 := by simp only [v]; split <;> decide
  have hsource (u : State) (hu : hiveRef u = hiveRef s) : firstSource u k = v := by
    simp only [firstSource, hu, v, if_neg hne]
    by_cases hlow : k < 32
    · simp [hlow]
    · cases hiveRef s <;> simp [hlow]
  refine foldl_reaches_of_inv (k := k) (f := tcxoFor)
    (P := fun u => hiveRef u = hiveRef s ∧ (loopState u k = 0 ∨ loopState u k = 1 ∧ rd u R.CLK_LOOP_STAT_SOURCE 0 k = v))
    (Q := fun u => loopState u k = 1 ∧ rd u R.CLK_LOOP_STAT_SOURCE 0 k = v) ?_ ?_ ?_ (List.mem_range.mpr hk) ⟨rfl, .inl h0⟩
  all_goals
    have hstep : ∀ u, hiveRef u = hiveRef s → (loopState u k = 0 ∨ loopState u k = 1 ∧ rd u R.CLK_LOOP_STAT_SOURCE 0 k = v) →
        loopState (tcxoFor u k) k = 1 ∧ rd (tcxoFor u k) R.CLK_LOOP_STAT_SOURCE 0 k = v := by
      intro u href hst
      rcases hst with hst | ⟨hst, hsrc⟩
      · rw [tcxoFor_locks hst, if_neg (by simp [hne]), hsource u href]
        exact ⟨loopState_setLoop _ _ (by decide), (rd_wr_ne (by decide) ..).trans (rd_wr_fit _ _ _ _ hv)⟩
      · exact ⟨(rd_tcxoFor (by decide) u 0 (.inr ⟨hst, by decide⟩)).trans hst,
          (rd_tcxoFor (by decide) u 0 (.inr ⟨hst, by decide⟩)).trans hsrc⟩
    have hother : ∀ u j, j ≠ k → loopState (tcxoFor u j) k = loopState u k ∧
        rd (tcxoFor u j) R.CLK_LOOP_STAT_SOURCE 0 k = rd u R.CLK_LOOP_STAT_SOURCE 0 k := fun u j hj =>
      ⟨rd_tcxoFor (by decide) u 0 (.inl hj.symm), rd_tcxoFor (by decide) u 0 (.inl hj.symm)⟩
  · intro u j ⟨href, hst⟩
    refine ⟨(hiveRef_of_touches (tcxoFor_after u j) rfl).trans href, ?_⟩
    by_cases hj : j = k
    · rw [hj]
      exact .inr (hstep u href hst)
    · obtain ⟨h1, h2⟩ := hother u j hj
      rw [h1, h2]
      exact hst
  · exact fun u ⟨href, hst⟩ => hstep u href hst
  · intro u j ⟨href, hst⟩ hq
    by_cases hj : j = k
    · rw [hj]
      exact hstep u href hst
    · obtain ⟨h1, h2⟩ := hother u j hj
      rw [h1, h2]
      exact hq

theorem tcxoStable_locks (s : State) : Ends .tcxoStable s (fun t =>
    rd t R.CLK_STAT_TCXO_STABLE = 1 ∧ rd t R.CLK_STAT_TCXO_FAULT = 0 ∧
    (∀ k < 42, k ≠ 32 → loopState s k = 0 → loopState t k = 1 ∧
      rd t R.CLK_LOOP_STAT_SOURCE 0 k = (if k < 32 ∨ hiveRef s = false then 0 else 2)) ∧
    (loopState s 32 = 0 → s.host.refclk = false → loopState t 32 = 0) ∧ SameBut (pages [20] ++ [.clocks]) s t) := by
  let s1 := wr (wr s R.CLK_STAT_TCXO_STABLE 1) R.CLK_STAT_TCXO_FAULT 0
  have hexec : exec .tcxoStable s = .next (showAwait ((List.range 42).foldl tcxoFor s1)) := rfl
  have htouch := touches_of_next hexec (execTcxoStable_touches (mm := maskOf (pages [20] ++ [.clocks])) rfl (Touches.refl _ s) (Touches.refl _ s))
  have hkeep {f : Fld} (h : ∀ g ∈ tcxoFields, fldCode f ≠ fldCode g) : rd ((List.range 42).foldl tcxoFor s1) f = rd s1 f :=
    List.foldlRecOn (List.range 42) _ (motive := fun u : State => rd u f = rd s1 f) rfl fun u hu j _ => (rd_tcxoFor_ne h u j 0 0).trans hu
  have hstate (k : Nat) : loopState s1 k = loopState s k := (rd_wr_ne (by decide) ..).trans (rd_wr_ne (by decide) ..)
  have href : hiveRef s1 = hiveRef s := hiveRef_of_touches (m := 0x10000000000000) (wr_touches rfl (wr_touches rfl (Touches.refl _ s))) rfl
  have hpll : loopState s 32 = 0 → s.host.refclk = false → loopState ((List.range 42).foldl tcxoFor s1) 32 = 0 := fun h0 hclk => by
    have hall : loopState ((List.range 42).foldl tcxoFor s1) 32 = 0 ∧ ((List.range 42).foldl tcxoFor s1).host.refclk = false := by
      refine List.foldlRecOn (List.range 42) _ (motive := fun u : State => loopState u 32 = 0 ∧ u.host.refclk = false)
        ⟨(hstate 32).trans h0, hclk⟩ fun u ⟨hu, hc⟩ j _ => ⟨?_, ?_⟩
      · by_cases hj : 32 = j
        · rw [← hj, tcxoFor_locks hu, if_pos (by simp [hc])]
          exact hu
        · exact (rd_tcxoFor (by decide) u 0 (.inl hj)).trans hu
      · rw [show (tcxoFor u j).host = u.host from (tcxoFor_after u j).same (c := .host) rfl, hc]
    exact hall.1
  have hlocks (k : Nat) (hk : k < 42) (hne : k ≠ 32) (h0 : loopState s k = 0) := foldl_tcxoFor_locks hk hne ((hstate k).trans h0)
  generalize (List.range 42).foldl tcxoFor s1 = u at hexec htouch hkeep hpll hlocks
  refine ⟨_, hexec, ?_, ?_, fun k hk hne h0 => ?_, fun h0 hclk => (loopState_showAwait ..).trans (hpll h0 hclk), sameBut_of_touches htouch⟩
  · rw [rd_showAwait (by decide), hkeep (by decide), rd_wr_ne (by decide)]
    exact rd_wr_fit _ _ _ _ (by decide)
  · rw [rd_showAwait (by decide), hkeep (by decide)]
    exact rd_wr_fit _ _ _ _ (by decide)
  · obtain ⟨hst, hsrc⟩ := hlocks k hk hne h0
    rw [href] at hsrc
    exact ⟨(loopState_showAwait ..).trans hst, (rd_showAwait (by decide) ..).trans hsrc⟩

/-! ### The TCXO's fault (R412) -/

/-- What a fault of the TCXO does to a loop. -/
def tcxoLost (s : State) (k : Nat) : State :=
  if loopState s k ≠ 1 then s
  else if k < 32 then coast s k true []
  else if 33 ≤ k && rd s R.CLK_LOOP_STAT_SOURCE 0 k = 0 then loopTrip s k []
  else s

/-- The fault is shown and recorded. -/
def faultShown (s : State) : State :=
  let u := wr (wr s R.CLK_STAT_TCXO_FAULT 1) R.CLK_STAT_TCXO_STABLE 0
  raiseIrq (recordEvent u 20 0 (0x8000 + Irq.CLK_TCXO_FAULT) 4 0 []) 20 0 Irq.CLK_TCXO_FAULT

theorem tcxoFault_eq (s : State) :
    exec .tcxoFault s = .next (fatalAction ((List.range 42).foldl tcxoLost (faultShown s))) := rfl

theorem faultShown_shows (s : State) : rd (faultShown s) R.CLK_STAT_TCXO_FAULT = 1 ∧ rd (faultShown s) R.CLK_STAT_TCXO_STABLE = 0 ∧
    rd (faultShown s) (hIrqRaw 20 Irq.CLK_TCXO_FAULT) 0 = 1 := by
  have hread {f : Fld} (hpage : Nat.testBit 0x180000000060010 (32 + f.ty % 32) = false)
      (hirq : fldCode f ≠ fldCode (hIrqRaw 20 Irq.CLK_TCXO_FAULT)) :
      rd (faultShown s) f = rd (wr (wr s R.CLK_STAT_TCXO_FAULT 1) R.CLK_STAT_TCXO_STABLE 0) f := by
    unfold faultShown
    dsimp only
    rw [rd_raiseIrq hirq, rd_recordEvent _ _ _ _ _ _ _ hpage]
  refine ⟨?_, ?_, rd_raiseIrq_same ..⟩
  · rw [hread rfl (by decide), rd_wr_ne (by decide)]
    exact rd_wr_fit _ _ _ _ (by decide)
  · rw [hread rfl (by decide)]
    exact rd_wr_fit _ _ _ _ (by decide)

theorem rd_faultShown {f : Fld} (hpage : Nat.testBit 0x180000000060010 (32 + f.ty % 32) = false)
    (h : ∀ g ∈ [R.CLK_STAT_TCXO_FAULT, R.CLK_STAT_TCXO_STABLE, hIrqRaw 20 Irq.CLK_TCXO_FAULT], fldCode f ≠ fldCode g)
    (s : State) (i k : Nat) : rd (faultShown s) f i k = rd s f i k := by
  unfold faultShown
  dsimp only
  rw [rd_raiseIrq (h _ (by simp)), rd_recordEvent _ _ _ _ _ _ _ hpage, rd_wr_ne (h _ (by simp)), rd_wr_ne (h _ (by simp))]

/-- Without the TCXO, a loop's step leaves every other register of the page but those that a trip shows. -/
theorem rd_tcxoLost {f : Fld} (hty : f.ty = 20) (hawait : fldCode f ≠ fldCode R.CLK_STAT_FALLBACK_NOT_READY)
    (hcnt : fldCode f ≠ fldCode R.CLK_SRC_FAIL_CNT) (hlost : fldCode f ≠ fldCode (hIrqRaw 20 Irq.CLK_SRC_LOST))
    (hwait : fldCode f ≠ fldCode (hIrqRaw 20 Irq.CLK_FALLBACK_NOT_READY)) (s : State) (htcxo : tcxoStable s = false) {i j l : Nat}
    (h : (∀ g ∈ [R.CLK_LOOP_STAT_STATE, R.CLK_LOOP_STAT_SRC_LOST, R.CLK_LOOP_STAT_SOURCE], fldCode f ≠ fldCode g) ∨ l ≠ j) :
    rd (tcxoLost s j) f i l = rd s f i l := by
  have hstate : fldCode f ≠ fldCode R.CLK_LOOP_STAT_STATE ∨ l ≠ j := h.imp_left fun h => h _ (by simp)
  have htrip : fldCode f ≠ fldCode R.CLK_LOOP_STAT_SRC_LOST ∧ fldCode f ≠ fldCode R.CLK_LOOP_STAT_SOURCE ∨ l ≠ j :=
    h.imp_left fun h => ⟨h _ (by simp), h _ (by simp)⟩
  unfold tcxoLost
  split
  · rfl
  · next hrun =>
    have hlock : loopState s j = 1 := not_not.mp hrun
    split
    · exact rd_coast _ _ _ _ hty hawait hstate
    · split
      · next hk =>
        have hk33 : 33 ≤ j := by
          rw [Bool.and_eq_true, decide_eq_true_eq] at hk
          exact hk.1
        rw [loopTrip_waits hk33 hlock htcxo, rd_coast _ _ _ _ hty hawait hstate]
        exact rd_tripWaits hty hcnt hlost hwait s htrip
      · rfl

section
variable {s : State} (htcxo : tcxoStable s = false)
include htcxo

theorem tcxoStable_tcxoLost (j : Nat) : tcxoStable (tcxoLost s j) = false := by
  rw [← htcxo, tcxoStable, rd_tcxoLost rfl (by decide) (by decide) (by decide) (by decide) s htcxo (.inl (by decide)), tcxoStable]

theorem tcxoStable_foldl (l : List Nat) : tcxoStable (l.foldl tcxoLost s) = false :=
  List.foldlRecOn l _ (motive := fun u : State => tcxoStable u = false) htcxo fun _ hu j _ => tcxoStable_tcxoLost hu j

theorem rd_foldl_tcxoLost {f : Fld} (hty : f.ty = 20) (hawait : fldCode f ≠ fldCode R.CLK_STAT_FALLBACK_NOT_READY)
    (hcnt : fldCode f ≠ fldCode R.CLK_SRC_FAIL_CNT) (hlost : fldCode f ≠ fldCode (hIrqRaw 20 Irq.CLK_SRC_LOST))
    (hwait : fldCode f ≠ fldCode (hIrqRaw 20 Irq.CLK_FALLBACK_NOT_READY)) (l : List Nat) {i n : Nat}
    (h : ∀ j ∈ l, (∀ g ∈ [R.CLK_LOOP_STAT_STATE, R.CLK_LOOP_STAT_SRC_LOST, R.CLK_LOOP_STAT_SOURCE], fldCode f ≠ fldCode g) ∨ n ≠ j) :
    rd (l.foldl tcxoLost s) f i n = rd s f i n := by
  have hall : tcxoStable (l.foldl tcxoLost s) = false ∧ rd (l.foldl tcxoLost s) f i n = rd s f i n :=
    List.foldlRecOn l _ (motive := fun u : State => tcxoStable u = false ∧ rd u f i n = rd s f i n) ⟨htcxo, rfl⟩
      fun _ hu j hj => ⟨tcxoStable_tcxoLost hu.1 j, (rd_tcxoLost hty hawait hcnt hlost hwait _ hu.1 (h j hj)).trans hu.2⟩
  exact hall.2

/-- Every loop of the comb and memory clocks that runs begins to coast. -/
theorem foldl_tcxoLost_coasts {k : Nat} (hk : k < 32) (hlock : loopState s k = 1) :
    loopState ((List.range 42).foldl tcxoLost s) k = coastState s k := by
  have hstep : ∀ u, tcxoStable u = false → rd u R.CLK_LOOP_STAT_DIVIDER 0 k = rd s R.CLK_LOOP_STAT_DIVIDER 0 k →
      (loopState u k = 1 ∨ loopState u k = coastState s k) → loopState (tcxoLost u k) k = coastState s k := by
    intro u hu hdiv hst
    by_cases h1 : loopState u k = 1
    · rw [tcxoLost, if_neg (not_not_intro h1), if_pos hk, loopState_coast, coastState, hdiv, coastState]
    · rw [tcxoLost, if_pos h1]
      exact hst.resolve_left h1
  have hother : ∀ u j, tcxoStable u = false → j ≠ k → loopState (tcxoLost u j) k = loopState u k := fun u j hu hj =>
    rd_tcxoLost rfl (by decide) (by decide) (by decide) (by decide) u hu (.inr hj.symm)
  refine foldl_reaches_of_inv (f := tcxoLost) (k := k)
    (P := fun u => tcxoStable u = false ∧ rd u R.CLK_LOOP_STAT_DIVIDER 0 k = rd s R.CLK_LOOP_STAT_DIVIDER 0 k ∧
      (loopState u k = 1 ∨ loopState u k = coastState s k))
    (Q := fun u => loopState u k = coastState s k) ?_ (fun u ⟨hu, hdiv, hst⟩ => hstep u hu hdiv hst) ?_
    (List.mem_range.mpr (by omega)) ⟨htcxo, rfl, .inl hlock⟩
  · intro u j ⟨hu, hdiv, hst⟩
    refine ⟨tcxoStable_tcxoLost hu j, ?_, ?_⟩
    · rw [rd_tcxoLost rfl (by decide) (by decide) (by decide) (by decide) u hu (.inl (by decide)), hdiv]
    · by_cases hj : j = k
      · rw [hj]
        exact .inr (hstep u hu hdiv hst)
      · rwa [hother u j hu hj]
  · intro u j ⟨hu, hdiv, hst⟩ hq
    by_cases hj : j = k
    · rw [hj]
      exact hstep u hu hdiv hst
    · exact (hother u j hu hj).trans hq

/-- The calendar's loop on the TCXO waits for it. -/
theorem foldl_tcxoLost_waits (hlock : loopState s 41 = 1) (hsrc : rd s R.CLK_LOOP_STAT_SOURCE 0 41 = 0) :
    rd ((List.range 42).foldl tcxoLost s) R.CLK_STAT_FALLBACK_NOT_READY = 1 := by
  have hlist : List.range 42 = List.range 41 ++ [41] := rfl
  have hne : ∀ j ∈ List.range 41, 41 ≠ j := fun j hj h => absurd (List.mem_range.mp hj) (by omega)
  rw [hlist, List.foldl_append]
  have hst : loopState ((List.range 41).foldl tcxoLost s) 41 = 1 :=
    (rd_foldl_tcxoLost htcxo rfl (by decide) (by decide) (by decide) (by decide) _ fun j hj => .inr (hne j hj)).trans hlock
  have hsrc' : rd ((List.range 41).foldl tcxoLost s) R.CLK_LOOP_STAT_SOURCE 0 41 = 0 :=
    (rd_foldl_tcxoLost htcxo rfl (by decide) (by decide) (by decide) (by decide) _ fun j hj => .inr (hne j hj)).trans hsrc
  have hoff := tcxoStable_foldl htcxo (List.range 41)
  generalize (List.range 41).foldl tcxoLost s = u at hst hsrc' hoff
  rw [List.foldl_cons, List.foldl_nil, tcxoLost, if_neg (not_not_intro hst), if_neg (by decide), if_pos (by simp [hsrc']),
    loopTrip_waits (by decide) hst hoff]
  exact coast_awaits _ _ _ (by decide)

end

/-- With no action asked for, a fatal event leaves the state but for its mark. -/
theorem fatalAction_none {s : State} (h : rd s R.BOOT_CFG_FATAL_ACTION = 0) :
    fatalAction s = { s with boot := { s.boot with fatal := false } } := by
  unfold fatalAction
  split
  · dsimp only
    rw [rd_set_boot, h]
    rfl
  · next hf =>
    have hoff : s.boot.fatal = false := Bool.not_eq_true _ ▸ hf
    rw [← hoff]

theorem tcxoLost_touches (s : State) (k : Nat) : Touches 0x993EF8000067FD4 s (tcxoLost s k) := by
  unfold tcxoLost
  split
  · exact Touches.refl _ s
  · split
    · exact coast_touches rfl (Touches.refl _ s)
    · split
      · exact loopTrip_touches rfl (Touches.refl _ s)
      · exact Touches.refl _ s

theorem faultShown_touches (s : State) : Touches 0x190000000060010 s (faultShown s) :=
  raiseIrq_touches rfl rfl (recordEvent_touches rfl (wr_touches rfl (wr_touches rfl (Touches.refl _ s))))

theorem tcxoFault_ends {s : State} (haction : rd s R.BOOT_CFG_FATAL_ACTION = 0) : Ends .tcxoFault s (fun t =>
    rd t R.CLK_STAT_TCXO_FAULT = 1 ∧ rd t R.CLK_STAT_TCXO_STABLE = 0 ∧ rd t (hIrqRaw 20 Irq.CLK_TCXO_FAULT) 0 = 1 ∧
    t.boot.fatal = false ∧
    (∀ k < 32, loopState s k = 1 → loopState t k = (if rd s R.CLK_LOOP_STAT_DIVIDER 0 k = 5 then 2 else 3)) ∧
    (loopState s 41 = 1 → rd s R.CLK_LOOP_STAT_SOURCE 0 41 = 0 → rd t R.CLK_STAT_FALLBACK_NOT_READY = 1)) := by
  obtain ⟨hfault, hstable, hirq⟩ := faultShown_shows s
  have htcxo : tcxoStable (faultShown s) = false := by rw [tcxoStable, hstable]; rfl
  have hread {f : Fld} (hpage : Nat.testBit 0x180000000060010 (32 + f.ty % 32) = false)
      (h : ∀ g ∈ [R.CLK_STAT_TCXO_FAULT, R.CLK_STAT_TCXO_STABLE, hIrqRaw 20 Irq.CLK_TCXO_FAULT], fldCode f ≠ fldCode g) (k : Nat) :
      rd (faultShown s) f 0 k = rd s f 0 k := rd_faultShown hpage h s 0 k
  have hkeep {f : Fld} (hty : f.ty = 20) (hawait : fldCode f ≠ fldCode R.CLK_STAT_FALLBACK_NOT_READY)
      (hcnt : fldCode f ≠ fldCode R.CLK_SRC_FAIL_CNT) (hlost : fldCode f ≠ fldCode (hIrqRaw 20 Irq.CLK_SRC_LOST))
      (hwait : fldCode f ≠ fldCode (hIrqRaw 20 Irq.CLK_FALLBACK_NOT_READY))
      (h : ∀ g ∈ [R.CLK_LOOP_STAT_STATE, R.CLK_LOOP_STAT_SRC_LOST, R.CLK_LOOP_STAT_SOURCE], fldCode f ≠ fldCode g) :
      rd ((List.range 42).foldl tcxoLost (faultShown s)) f = rd (faultShown s) f :=
    rd_foldl_tcxoLost htcxo hty hawait hcnt hlost hwait _ fun _ _ => .inl h
  have hcoasts (k : Nat) (hk : k < 32) (hlock : loopState s k = 1) :
      loopState ((List.range 42).foldl tcxoLost (faultShown s)) k = coastState s k := by
    rw [foldl_tcxoLost_coasts htcxo hk ((hread rfl (by decide) k).trans hlock), coastState, hread rfl (by decide), coastState]
  have hwaits (hlock : loopState s 41 = 1) (hsrc : rd s R.CLK_LOOP_STAT_SOURCE 0 41 = 0) :=
    foldl_tcxoLost_waits htcxo ((hread rfl (by decide) 41).trans hlock) ((hread rfl (by decide) 41).trans hsrc)
  have hfold : Touches 0x993EF8000067FD4 (faultShown s) ((List.range 42).foldl tcxoLost (faultShown s)) :=
    Touches.foldl (Touches.refl _ _) tcxoLost_touches
  have h1 := hkeep (f := R.CLK_STAT_TCXO_FAULT) rfl (by decide) (by decide) (by decide) (by decide) (by decide)
  have h2 := hkeep (f := R.CLK_STAT_TCXO_STABLE) rfl (by decide) (by decide) (by decide) (by decide) (by decide)
  have h3 := hkeep (f := hIrqRaw 20 Irq.CLK_TCXO_FAULT) rfl (by decide) (by decide) (by decide) (by decide) (by decide)
  have hexec := tcxoFault_eq s
  generalize (List.range 42).foldl tcxoLost (faultShown s) = u at hexec hcoasts hwaits hfold h1 h2 h3
  rw [fatalAction_none (by rw [hfold.reads rfl, (faultShown_touches s).reads rfl, haction])] at hexec
  exact ⟨_, hexec, h1.trans hfault, h2.trans hstable, h3.trans hirq, rfl, hcoasts, hwaits⟩

/-! ### Clock gates (R413) -/

theorem clockGates_answer {k : Nat} (s : State) (hk : k < 42) :
    Ends (.clockGateRequest k true) s (fun t => rd t R.CLK_LOOP_STAT_GATED 0 k = 0 ∧ SameBut [.page 20] s t) ∧
    ((32 ≤ k ∨ rd s R.MEMC_STAT_HELD k ≠ 1 ∧ dom s (340 + k) = 2) →
      Ends (.clockGateRequest k false) s (fun t => rd t R.CLK_LOOP_STAT_GATED 0 k = 1 ∧ SameBut [.page 20] s t)) ∧
    (k < 32 → (rd s R.MEMC_STAT_HELD k = 1 ∨ dom s (340 + k) ≠ 2) → exec (.clockGateRequest k false) s = .next s) ∧
    Ends (.gateStuck k) s (fun t => rd t R.CLK_LOOP_STAT_GATE_STUCK 0 k = 1 ∧ rd t R.CLK_LOOP_STAT_GATED 0 k = 0 ∧
      rd t R.CLK_GATE_STUCK_CNT = min (rd s R.CLK_GATE_STUCK_CNT + 1) (2 ^ 32 - 1) ∧ rd t (hIrqRaw 20 Irq.CLK_GATE_STUCK) 0 = 1 ∧
      SameBut (recorded ++ pages [20]) s t) := by
  have hnot : ¬42 ≤ k := by omega
  have hwr (v : Nat) : SameBut [.page 20] s (wr s R.CLK_LOOP_STAT_GATED v 0 k) := sameBut_of_touches (wr_touches rfl (Touches.refl _ s))
  refine ⟨⟨_, congrArg Host.Outcome.next ((if_neg hnot).trans (if_pos rfl)), rd_wr_fit _ _ _ _ (by decide), hwr 0⟩, fun h => ?_,
    fun hlow h => ?_, ?_⟩
  · refine ⟨_, congrArg Host.Outcome.next ((if_neg hnot).trans ((if_neg Bool.false_ne_true).trans (if_neg ?_))),
      rd_wr_fit _ _ _ _ (by decide), hwr 1⟩
    simp only [Bool.and_eq_true, Bool.or_eq_true, decide_eq_true_eq]
    omega
  · refine congrArg Host.Outcome.next ((if_neg hnot).trans ((if_neg Bool.false_ne_true).trans (if_pos ?_)))
    simp only [Bool.and_eq_true, Bool.or_eq_true, decide_eq_true_eq]
    exact ⟨hlow, h⟩
  · let u := incSat (wr (wr s R.CLK_LOOP_STAT_GATE_STUCK 1 0 k) R.CLK_LOOP_STAT_GATED 0 0 k) R.CLK_GATE_STUCK_CNT
    have hexec : exec (.gateStuck k) s = .next (raiseIrq (statusEvent u 20 0 .gateStuck 0 [k]) 20 0 Irq.CLK_GATE_STUCK) :=
      congrArg Host.Outcome.next (if_neg hnot)
    have hread {f : Fld} (hty : f.ty = 20) (hirq : fldCode f ≠ fldCode (hIrqRaw 20 Irq.CLK_GATE_STUCK)) (l : Nat) :
        rd (raiseIrq (statusEvent u 20 0 .gateStuck 0 [k]) 20 0 Irq.CLK_GATE_STUCK) f 0 l = rd u f 0 l := by
      rw [rd_raiseIrq hirq, statusEvent, rd_recordEvent _ _ _ _ _ _ _ (by rw [hty]; rfl)]
    refine ⟨_, hexec, ?_, ?_, ?_, rd_raiseIrq_same .., sameBut_of_touches (touches_of_next hexec
      (execGateStuck_touches rfl (Touches.refl _ s) (Touches.refl _ s)))⟩
    · rw [hread rfl (by decide), rd_incSat_ne (by decide), rd_wr_ne (by decide)]
      exact rd_wr_fit _ _ _ _ (by decide)
    · rw [hread rfl (by decide), rd_incSat_ne (by decide)]
      exact rd_wr_fit _ _ _ _ (by decide)
    · rw [hread rfl (by decide), rd_incSat, rd_wr_ne (by decide), rd_wr_ne (by decide)]
      rfl

/-! ### The observation output (R414) -/

/-- The fields whose writes have rules of their own. -/
def ruledFields : List Fld :=
  [R.Q_SEL, R.FN_SIG_SEL, R.Q_TIMEOUT, R.PWR_SLEW, R.PACE_SENSOR_SEL, R.MEM_OWN_SEL, R.TWIN_CFG_ROLE_CFG, R.TWIN_PARTS,
    R.HIVE_SHAPE_EX, R.HIVE_SHAPE_X0, R.HIVE_SHAPE_EY, R.HIVE_SHAPE_Y0, R.HIVE_SHAPE_EZ, R.HIVE_SHAPE_Z0]

/-- Any other field outside the twin's page and without an alignment takes every legal value. -/
theorem fieldRefuses_plain {f : Fld} (hf : ∀ g ∈ ruledFields, f ≠ g) (hty : f.ty ≠ 16) (halign : alignBits f = 0) {n : Nat}
    (hlegal : legalValue f n = true) (s : State) (ty i v : Nat) : fieldRefuses s ty i v f n = none := by
  simp only [ruledFields, List.forall_mem_cons] at hf
  unfold fieldRefuses badAxis
  simp [hf, hty, halign, hlegal, Nat.mod_one]

section
variable {w : Writer} {v hz : Nat} {s : State} (hs : pageServed s 20 0 = true) (hv : v < 2 ^ 32) (hkind : v / 2 ^ 30 ≠ 3)
  (hdie : bitsOf v 27 3 < 5)
include hs hv hkind hdie

/-- A word for CLK_OBS_SEL sets all of its fields. -/
theorem obsSel_takes : rd (wordWrite s w 20 0 0x10C v) R.CLK_OBS_SEL_KIND = v / 2 ^ 30 ∧
    rd (wordWrite s w 20 0 0x10C v) R.CLK_OBS_SEL_DIE = bitsOf v 27 3 ∧
    rd (wordWrite s w 20 0 0x10C v) R.CLK_OBS_SEL_INDEX = bitsOf v 16 11 ∧
    rd (wordWrite s w 20 0 0x10C v) R.CLK_OBS_SEL_DIV = v % 2 ^ 16 := by
  have hk4 : v / 2 ^ 30 % 4 = v / 2 ^ 30 := Nat.mod_eq_of_lt (by omega)
  have hk2 : v / 2 ^ 30 < 3 := by omega
  have hindex : bitsOf v 16 11 < 2 ^ 11 := Nat.mod_lt _ (by decide)
  have hdiv : v % 2 ^ 16 < 2 ^ 16 := Nat.mod_lt _ (by decide)
  have hfs : fieldsAt 20 0 0x10C = [R.CLK_OBS_SEL_KIND, R.CLK_OBS_SEL_DIE, R.CLK_OBS_SEL_INDEX, R.CLK_OBS_SEL_DIV] := rfl
  refine ⟨?_, ?_, ?_, ?_⟩
  · refine rd_wordWrite_unlocked hs rfl (by decide) rfl (by decide) (by decide) (a := []) hfs (by decide) (.inl rfl) (by decide)
      (.inl rfl) (by decide) rfl hk4 (Nat.lt_of_lt_of_le hk2 (by decide)) (fieldRefuses_plain (by decide) (by decide) rfl ?_ · _ _ _)
    interval_cases v / 2 ^ 30 <;> rfl
  · refine rd_wordWrite_unlocked hs rfl (by decide) rfl (by decide) (by decide) (a := [_]) hfs (by decide) (.inl rfl) (by decide)
      (.inl rfl) (by decide) rfl rfl (Nat.lt_of_lt_of_le hdie (by decide)) (fieldRefuses_plain (by decide) (by decide) rfl ?_ · _ _ _)
    interval_cases bitsOf v 27 3 <;> rfl
  · refine rd_wordWrite_unlocked hs rfl (by decide) rfl (by decide) (by decide) (a := [_, _]) hfs (by decide) (.inl rfl) (by decide)
      (.inl rfl) (by decide) rfl rfl hindex (fieldRefuses_plain (by decide) (by decide) rfl ?_ · _ _ _)
    exact Bool.and_eq_true_iff.mpr ⟨decide_eq_true hindex, rfl⟩
  · refine rd_wordWrite_unlocked hs rfl (by decide) rfl (by decide) (by decide) (a := [_, _, _]) hfs (by decide) (.inl rfl) (by decide)
      (.inl rfl) (by decide) rfl (congrArg (· % 2 ^ 16) (Nat.div_one v)) hdiv (fieldRefuses_plain (by decide) (by decide) rfl ?_ · _ _ _)
    exact Bool.and_eq_true_iff.mpr ⟨decide_eq_true hdiv, rfl⟩

theorem clkObsSelect_selects (hok : obsIndexOk (v / 2 ^ 30) (bitsOf v 27 3) (bitsOf v 16 11) = true) :
    Ends (.clkObsSelect w v hz) s (fun t => rd t R.CLK_OBS_SEL_KIND = v / 2 ^ 30 ∧
      rd t R.CLK_OBS_SEL_DIE = bitsOf v 27 3 ∧ rd t R.CLK_OBS_SEL_INDEX = bitsOf v 16 11 ∧ rd t R.CLK_OBS_SEL_DIV = v % 2 ^ 16 ∧
      rd t R.CLK_OBS_STAT_OVER =
        (if 200000000 * (v % 2 ^ 16 + 1) < (if v / 2 ^ 30 = 2 then fixedHz (bitsOf v 16 11) else hz) then 1 else 0) ∧
      SameBut (written 20) s t) := by
  have hk4 : v / 2 ^ 30 % 4 = v / 2 ^ 30 := Nat.mod_eq_of_lt (by omega)
  obtain ⟨h1, h2, h3, h4⟩ := obsSel_takes (w := w) hs hv hkind hdie
  have hafter : Touches (maskOf (written 20)) s (wordWrite s w 20 0 0x10C v) := wordWrite_after (by decide) (by decide) rfl rfl
  have hexec : exec (.clkObsSelect w v hz) s = .next (
      let u := wordWrite s w 20 0 0x10C v
      wr u R.CLK_OBS_STAT_OVER (b2n (200000000 * (rd u R.CLK_OBS_SEL_DIV + 1) <
        if rd u R.CLK_OBS_SEL_KIND = 2 then fixedHz (rd u R.CLK_OBS_SEL_INDEX) else hz))) := by
    refine congrArg Host.Outcome.next (if_neg ?_)
    rw [hk4, hok, Bool.not_true, Bool.and_false]
    exact Bool.false_ne_true
  dsimp only at hexec
  rw [h1, h3, h4] at hexec
  refine ⟨_, hexec, (rd_wr_ne (by decide) ..).trans h1, (rd_wr_ne (by decide) ..).trans h2, (rd_wr_ne (by decide) ..).trans h3,
    (rd_wr_ne (by decide) ..).trans h4, (rd_wr ..).trans ?_, sameBut_of_touches (wr_touches rfl hafter)⟩
  generalize (if v / 2 ^ 30 = 2 then fixedHz (bitsOf v 16 11) else hz) = n
  by_cases hn : 200000000 * (v % 2 ^ 16 + 1) < n
  · rw [decide_eq_true hn, if_pos hn]
    rfl
  · rw [decide_eq_false hn, if_neg hn]
    rfl

theorem clkObsSelect_refused (hok : obsIndexOk (v / 2 ^ 30) (bitsOf v 27 3) (bitsOf v 16 11) = false) :
    Ends (.clkObsSelect w v hz) s (fun t => rd t R.CLK_OBS_SEL_KIND = rd s R.CLK_OBS_SEL_KIND ∧
      rd t (hErrStatus 20) 0 = statusValue .fieldReserved ∧ SameBut (written 20) s t) := by
  have hk4 : v / 2 ^ 30 % 4 = v / 2 ^ 30 := Nat.mod_eq_of_lt (by omega)
  refine ⟨refuseWrite s 20 0 0x10C .fieldReserved, congrArg Host.Outcome.next ((if_pos ?_).trans (if_pos hs)),
    rd_refuseWrite_of_body _ _ _ _ _ (by decide) (by decide) _ _, rd_refuseWrite_hErrStatus .., sameBut_of_touches
    (refuseWrite_touches rfl (Touches.refl _ s))⟩
  rw [hk4, hok]
  simp only [Bool.not_false, Bool.and_true, Bool.and_eq_true, decide_eq_true_eq]
  exact ⟨hkind, hdie⟩

end

/-- Settles O45: a loop is a row of registers under its own selector, and the block that loses its clock has no register of the page. -/
theorem clocks : Obligations.Clocks :=
  ⟨fun _ _ _ hlo hhi hlock hsrc htcxo => clockSourceTrip_fallsBack hlo hhi hlock hsrc htcxo,
    fun _ _ _ hk hlock hfresh => clockSourceTrip_coasts hk hlock hfresh, fun _ _ _ h => clockSourceTrip_ignored h, dividerStep_steps,
    clockSourceGood_answers, tcxoStable_locks, fun _ haction => tcxoFault_ends haction, fun _ s hk => clockGates_answer s hk,
    fun _ _ _ hk => ⟨congrArg Host.Outcome.next (if_pos hk), congrArg Host.Outcome.next (if_pos hk)⟩,
    fun _ _ _ _ hs hv hkind hdie => ⟨fun hok => clkObsSelect_selects hs hv hkind hdie hok,
      fun hok => clkObsSelect_refused hs hv hkind hdie hok⟩⟩

end Sys2Proof.Proofs
end

section
/-!
Proofs for chapter 17: video contexts open, take commands and close (R418, R419, R421, R425).
-/

namespace Sys2Proof.Proofs

open Sys2Proof Sys2Proof.Machine Sys2Proof.Safety Sys2Proof.Certificates Sys2Proof.Laws

theorem leNat_lt (l : List Byte) : leNat l < 256 ^ l.length := by
  induction l with
  | nil => exact Nat.one_pos
  | cons b l ih =>
    have hb : b.toNat < 256 := b.isLt
    rw [List.length_cons, Nat.pow_succ, leNat]
    omega

/-- An operand of `n` bytes is below 256 ^ n. -/
theorem arg_lt (r : RunCmd) (a n : Nat) : arg r a n < 256 ^ n :=
  Nat.lt_of_lt_of_le (leNat_lt _) (Nat.pow_le_pow_right (by decide) (by rw [List.length_take]; omega))

/-! ### Opens (R418 to R421) -/

/-- A context of a block, before its command completes. -/
def openedVctx (s : State) (q : Nat) (r : RunCmd) (enc : Bool) (b : List Byte) : State :=
  let c := arg r 17 1
  let s := setVctx s c { block := b }
  let s := wr (wr (wr s R.VID_CTX_STAT_STATE 1 0 c) R.VID_CTX_STAT_LIVE (bitsOf (fieldAt b 0 1) 2 1) 0 c)
    R.VID_CTX_STAT_ENCODE (b2n enc) 0 c
  let s := wr (wr (wr s R.VID_CTX_STAT_STD (fieldAt b 0 1 % 4) 0 c) R.VID_CTX_STAT_ENGINES (fieldAt b 1 1) 0 c)
    R.VID_CTX_STAT_TENANT (arg r 18 1) 0 c
  { s with vid := { s.vid with opened := tset 0 q (c + 1) s.vid.opened } }

/-- The opcode of the codec's direction. -/
def codecOp (enc : Bool) : Nat := if enc then 0x11 else 0x10

section
variable {s : State} {q : Nat} {r : RunCmd} {enc : Bool} (hrun : running s q (codecOp enc) = some r)
include hrun

/-- The block of an open command that could be read is checked, and then opens the context. -/
theorem openVideo_checked {block : List Byte} {bad : Option Nat} (hseal : tenSeals s r.tenant = false) (hop : arg r 16 1 % 4 = 0) :
    openVideo s q enc block true bad = match openCheck s r ((block ++ List.replicate 128 0).take 128) enc with
      | some st => finishCmd s q st 0
      | none => finishCmd (openedVctx s q r enc ((block ++ List.replicate 128 0).take 128)) q .ok 0 := by
  have hread : ownRead s q r 128 true bad = (s, none) := by
    unfold ownRead sealedRead
    rw [hseal]
    rfl
  have hrun' : running s q (if enc then 0x11 else 0x10) = some r := hrun
  unfold openVideo
  rw [hrun']
  dsimp only
  rw [if_neg (not_not_intro hop), hread]
  rfl

theorem openVideo_unread {block : List Byte} {bad : Option Nat} (hop : arg r 16 1 % 4 = 0) :
    openVideo s q enc block false bad = finishCmd (hostReadFailed s r.fn [q]) q .dmaHostError 0 := by
  have hrun' : running s q (if enc then 0x11 else 0x10) = some r := hrun
  unfold openVideo
  rw [hrun']
  dsimp only
  rw [if_neg (not_not_intro hop)]
  rfl

theorem openVideo_noKey {block : List Byte} {bad : Option Nat} (hop : arg r 16 1 % 4 = 0) (hseal : tenSeals s r.tenant = true)
    (hkey : rd s R.SEC_TEN_STATE_TRANSPORT 0 r.tenant = 0) : openVideo s q enc block true bad = finishCmd s q .sealNoKey 0 := by
  have hread : ownRead s q r 128 true bad = (s, some .sealNoKey) := by
    unfold ownRead
    rw [hseal, hkey]
    rfl
  have hrun' : running s q (if enc then 0x11 else 0x10) = some r := hrun
  unfold openVideo
  rw [hrun']
  dsimp only
  rw [if_neg (not_not_intro hop), hread]

end

/-- The registers that show a context. -/
def vctxFields : List Fld :=
  [R.VID_CTX_STAT_STATE, R.VID_CTX_STAT_LIVE, R.VID_CTX_STAT_ENCODE, R.VID_CTX_STAT_STD, R.VID_CTX_STAT_ENGINES, R.VID_CTX_STAT_TENANT]

section
variable (s : State) (q : Nat) (r : RunCmd) (enc : Bool) (b : List Byte)

theorem vctx_openedVctx (c : Nat) : vctx (openedVctx s q r enc b) c = if c = arg r 17 1 then { block := b } else vctx s c := by
  have hctx : (openedVctx s q r enc b).vid.ctxs = tset {} (arg r 17 1) { block := b } s.vid.ctxs := rfl
  rw [vctx, hctx]
  split
  · next h => rw [h, tget_tset_same]
  · next h => rw [tget_tset_ne _ _ h, vctx]

theorem openedVctx_shows : vctxState (openedVctx s q r enc b) (arg r 17 1) = 1 ∧
    vctxEncode (openedVctx s q r enc b) (arg r 17 1) = enc ∧ vctxTenant (openedVctx s q r enc b) (arg r 17 1) = arg r 18 1 := by
  unfold vctxState vctxEncode vctxTenant openedVctx
  dsimp only
  refine ⟨?_, ?_, ?_⟩
  · rw [rd_set_vid, rd_wr_ne (by decide), rd_wr_ne (by decide), rd_wr_ne (by decide), rd_wr_ne (by decide), rd_wr_ne (by decide)]
    exact rd_wr_fit _ _ _ _ (by decide)
  · rw [rd_set_vid, rd_wr_ne (by decide), rd_wr_ne (by decide), rd_wr_ne (by decide), rd_wr]
    cases enc <;> rfl
  · rw [rd_set_vid]
    exact rd_wr_fit _ _ _ _ (arg_lt r 18 1)

theorem vctxState_openedVctx_ne {k : Nat} (h : k ≠ arg r 17 1) : vctxState (openedVctx s q r enc b) k = vctxState s k := by
  unfold vctxState openedVctx
  dsimp only
  rw [rd_set_vid, rd_wr_sel h, rd_wr_sel h, rd_wr_sel h, rd_wr_sel h, rd_wr_sel h, rd_wr_sel h]
  rfl

theorem openedVctx_leaves : SameBut [.page 21, .video] s (openedVctx s q r enc b) :=
  sameBut_of_touches (Touches.video rfl (wr_touches rfl (wr_touches rfl (wr_touches rfl (wr_touches rfl (wr_touches rfl
    (wr_touches rfl (setVctx_touches rfl (Touches.refl _ s)))))))))

end

/-- What an open command of either direction answers. -/
theorem opens_answer (enc : Bool) {q : Nat} {block : List Byte} {bad : Option Nat} {r : RunCmd} {s : State}
    (hseal : tenSeals s r.tenant = false) (hop : arg r 16 1 % 4 = 0) (hrun : running s q (codecOp enc) = some r) :
    let b := (block ++ List.replicate 128 0).take 128
    let c := arg r 17 1
    openVideo s q enc block false bad = finishCmd (hostReadFailed s r.fn [q]) q .dmaHostError 0 ∧
    (∀ st, openCheck s r b enc = some st → openVideo s q enc block true bad = finishCmd s q st 0) ∧
    (openCheck s r b enc = none → ∃ u, openVideo s q enc block true bad = finishCmd u q .ok 0 ∧ vctxState u c = 1 ∧
      vctx u c = { block := b } ∧ vctxEncode u c = enc ∧ vctxTenant u c = arg r 18 1 ∧
      (∀ k, k ≠ c → vctx u k = vctx s k ∧ vctxState u k = vctxState s k) ∧ SameBut [.page 21, .video] s u) := by
  intro b c
  have hchecked := openVideo_checked (block := block) (bad := bad) hrun hseal hop
  obtain ⟨hstate, henc, hten⟩ := openedVctx_shows s q r enc b
  refine ⟨openVideo_unread hrun hop, fun st hst => ?_, fun hnone => ⟨openedVctx s q r enc b, ?_, hstate, ?_, henc, hten, fun k hk => ⟨?_, ?_⟩,
    openedVctx_leaves s q r enc b⟩⟩
  · rw [hchecked, hst]
  · rw [hchecked, hnone]
  · rw [vctx_openedVctx, if_pos rfl]
  · rw [vctx_openedVctx, if_neg hk]
  · exact vctxState_openedVctx_ne s q r enc b hk

/-! ### Commands of an open context (R418, R419, R425) -/

section
variable {s : State} {q : Nat} {r : RunCmd} {enc : Bool} {op : Nat} {k : State → RunCmd → State}
  (hrun : running s q (codecOp enc) = some r) (hop : arg r 16 1 % 4 = op)
include hrun hop

theorem workVideo_refused {st : Status} (hcheck : workCheck s r enc = some st) :
    workVideo s q enc op k = endVideo s q r.tenant (arg r 48 8) 0 st {} := by
  have hrun' : running s q (if enc then 0x11 else 0x10) = some r := hrun
  unfold workVideo
  rw [hrun']
  dsimp only
  rw [if_neg (not_not_intro hop), hcheck]

theorem workVideo_goes (hcheck : workCheck s r enc = none) : workVideo s q enc op k = k s r := by
  have hrun' : running s q (if enc then 0x11 else 0x10) = some r := hrun
  unfold workVideo
  rw [hrun']
  dsimp only
  rw [if_neg (not_not_intro hop), hcheck]

end

/-- The job of a command. -/
def jobOf (s : State) (q : Nat) (r : RunCmd) (enc : Bool) (inSegs : Nat) : VJob :=
  { serial := s.vid.serial, queue := q, tenant := arg r 18 1, ctx := arg r 17 1, encode := enc, op := arg r 16 1 % 4,
    key := bitsOf (arg r 16 1) 2 1 = 1, length := arg r 20 4, src := arg r 24 8,
    release := if enc then 0 else arg r 32 8, out := arg r 32 8, cap := arg r 40 4, result := arg r 48 8, inSegs := inSegs }

theorem addJob_joins (s : State) (q : Nat) (r : RunCmd) (enc : Bool) (inSegs : Nat) :
    (addJob s q r enc inSegs).vid.jobs = s.vid.jobs ++ [jobOf s q r enc inSegs] := rfl

theorem run_addJob {s : State} {q : Nat} {r : RunCmd} (h : (queue s q).run = some r) (enc : Bool) (inSegs : Nat) :
    (queue (addJob s q r enc inSegs) q).run = some { r with busy := true } := run_setBusy h

theorem addJob_leaves (s : State) (q : Nat) (r : RunCmd) (enc : Bool) (inSegs : Nat) :
    SameBut [.host, .video] s (addJob s q r enc inSegs) := sameBut_of_touches (addJob_touches rfl (Touches.refl _ s))

theorem decodePicture_stages {q : Nat} {au : List Byte} {bad : Option Nat} {r : RunCmd} {s : State}
    (hrun : running s q 0x10 = some r) (hcheck : workCheck s r false = none) (hop : arg r 16 1 % 4 = 1)
    (hseal : tenSeals s r.tenant = false) : Ends (.decodePicture q au true bad) s (fun t =>
      (∃ x, t.vid.jobs = s.vid.jobs ++ [x] ∧ x.serial = s.vid.serial ∧ x.queue = q ∧ x.ctx = arg r 17 1 ∧ x.encode = false ∧ x.op = 1 ∧
        x.length = arg r 20 4 ∧ x.release = arg r 32 8 ∧ x.result = arg r 48 8 ∧ x.st = 0) ∧
      t.mem = (memWrite s (vpar s (arg r 17 1) 24 8) ((au ++ List.replicate (arg r 20 4) 0).take (arg r 20 4))).mem ∧
      (queue t q).run = some { r with busy := true } ∧ SameBut [.bytes, .memory, .host, .video] s t) := by
  let u := memWrite s (vpar s (arg r 17 1) 24 8) ((au ++ List.replicate (arg r 20 4) 0).take (arg r 20 4))
  have hread : ownRead s q r (arg r 20 4) true bad = (s, none) := by
    unfold ownRead sealedRead
    rw [hseal]
    rfl
  have hexec : ∃ n, exec (.decodePicture q au true bad) s = .next (addJob u q r false n) := by
    refine ⟨if tenSeals u r.tenant then segCount (arg r 20 4) else 0, congrArg Host.Outcome.next ((workVideo_goes (enc := false) hrun hop hcheck).trans ?_)⟩
    dsimp only
    rw [hread]
  obtain ⟨n, hexec⟩ := hexec
  refine ⟨_, hexec, ⟨_, addJob_joins .., rfl, rfl, rfl, rfl, hop, rfl, rfl, rfl, rfl⟩, rfl,
    run_addJob (s := u) (run_of_running hrun).1 false n, sameBut_of_touches (addJob_touches rfl (memWrite_touches rfl rfl (Touches.refl _ s)))⟩

/-! ### Closes (R418) -/

theorem endJobs_none {s : State} {f : VJob → Bool} (h : ∀ j ∈ s.vid.jobs, f j = false) (st : Status) : endJobs s f st = s := by
  have hnil : s.vid.jobs.filter f = [] := List.filter_eq_nil_iff.mpr fun j hj => by rw [h j hj]; exact Bool.false_ne_true
  rw [endJobs, hnil]
  rfl

/-- A context that is marked as closing. -/
def closingVctx (s : State) (q : Nat) (r : RunCmd) : State :=
  wr (setVctx (setBusy s q) (arg r 17 1) { vctx s (arg r 17 1) with closing := some (q, arg r 48 8) })
    R.VID_CTX_STAT_STATE 2 0 (arg r 17 1)

theorem closeVideo_goes {s : State} {q : Nat} {r : RunCmd} {enc : Bool} (hrun : running s q (codecOp enc) = some r)
    (hop : arg r 16 1 % 4 = 3) (hcheck : workCheck s r enc = none) (hidle : ∀ j ∈ s.vid.jobs, j.ctx = arg r 17 1 → j.st ≠ 0) :
    closeVideo s q enc = finishClose (closingVctx s q r) (arg r 17 1) := by
  refine (workVideo_goes hrun hop hcheck).trans ?_
  refine congrArg (finishClose · (arg r 17 1)) (endJobs_none (fun j hj => ?_) .slotState)
  rw [Bool.and_eq_false_iff, decide_eq_false_iff_not, decide_eq_false_iff_not]
  by_cases hc : j.ctx = arg r 17 1
  · exact .inr (hidle j hj hc)
  · exact .inl hc

theorem vctx_closingVctx (s : State) (q : Nat) (r : RunCmd) :
    vctx (closingVctx s q r) (arg r 17 1) = { vctx s (arg r 17 1) with closing := some (q, arg r 48 8) } := tget_tset_same ..

theorem vctxState_closingVctx (s : State) (q : Nat) (r : RunCmd) : vctxState (closingVctx s q r) (arg r 17 1) = 2 :=
  rd_wr_fit _ _ _ _ (by decide)

theorem freeVctx_vid (s : State) (c : Nat) : (freeVctx s c).vid = (setVctx s c {}).vid := rfl

theorem freeVctx_clears (s : State) (c : Nat) : vctxState (freeVctx s c) c = 0 ∧ vctx (freeVctx s c) c = {} ∧
    (freeVctx s c).vid.jobs = s.vid.jobs := by
  refine ⟨?_, ?_, rfl⟩
  · unfold vctxState freeVctx
    simp only [List.foldl_cons, List.foldl_nil]
    rw [rd_wr_ne (by decide), rd_wr_ne (by decide), rd_wr_ne (by decide), rd_wr_ne (by decide), rd_wr_ne (by decide),
      rd_wr_ne (by decide), rd_wr_ne (by decide)]
    exact rd_wr_fit _ _ _ _ (by decide)
  · rw [vctx, freeVctx_vid]
    exact tget_tset_same ({} : VCtx) c {} s.vid.ctxs

/-- The end of a command's record leaves the contexts and the jobs. -/
theorem endVideo_after (s : State) (q tenant result tagged : Nat) (st : Status) (x : VidRecord) :
    Touches 0x800428000040D80 s (endVideo s q tenant result tagged st x) := endVideo_touches rfl (Touches.refl _ s)

theorem close_frees {s : State} {q : Nat} {r : RunCmd} {enc : Bool} (hrun : running s q (codecOp enc) = some r)
    (hop : arg r 16 1 % 4 = 3) (hcheck : workCheck s r enc = none) (hnone : ∀ j ∈ s.vid.jobs, j.ctx ≠ arg r 17 1) :
    vctxState (closeVideo s q enc) (arg r 17 1) = 0 ∧ vctx (closeVideo s q enc) (arg r 17 1) = {} ∧
      (closeVideo s q enc).vid.jobs = s.vid.jobs := by
  have hjobs : (closingVctx s q r).vid.jobs = s.vid.jobs := rfl
  have hgo : (vctxState (closingVctx s q r) (arg r 17 1) = 2 &&
      !((closingVctx s q r).vid.jobs.any (fun j => j.ctx = arg r 17 1))) = true := by
    rw [vctxState_closingVctx, hjobs, List.any_eq_false.mpr fun j hj => by simpa using hnone j hj]
    rfl
  obtain ⟨hstate, hctx, hkept⟩ := freeVctx_clears (closingVctx s q r) (arg r 17 1)
  have hclose : closeVideo s q enc = endVideo (freeVctx (closingVctx s q r) (arg r 17 1)) q
      (vctxTenant (closingVctx s q r) (arg r 17 1)) (arg r 48 8) 0 .ok {} := by
    rw [closeVideo_goes hrun hop hcheck fun j hj h => absurd h (hnone j hj)]
    refine (if_pos hgo).trans ?_
    dsimp only
    rw [vctx_closingVctx]
  rw [hclose]
  have hafter := endVideo_after (freeVctx (closingVctx s q r) (arg r 17 1)) q (vctxTenant (closingVctx s q r) (arg r 17 1))
    (arg r 48 8) 0 .ok {}
  generalize endVideo _ q _ (arg r 48 8) 0 .ok {} = t at hafter
  have hvid : t.vid = (freeVctx (closingVctx s q r) (arg r 17 1)).vid := hafter.same (c := .video) rfl
  exact ⟨(hafter.reads rfl).trans hstate, by rw [vctx, hvid]; exact hctx, by rw [hvid]; exact hkept⟩

theorem decodeClose_waits {s : State} {q : Nat} {r : RunCmd} (hrun : running s q 0x10 = some r)
    (hop : arg r 16 1 % 4 = 3) (hcheck : workCheck s r false = none) (hbusy : ∀ j ∈ s.vid.jobs, j.ctx = arg r 17 1 → j.st ≠ 0)
    (hsome : ∃ j ∈ s.vid.jobs, j.ctx = arg r 17 1) : Ends (.decodeClose q) s (fun t =>
      vctxState t (arg r 17 1) = 2 ∧ (vctx t (arg r 17 1)).closing = some (q, arg r 48 8) ∧ t.vid.jobs = s.vid.jobs ∧
      (queue t q).run = some { r with busy := true } ∧ SameBut [.page 21, .host, .video] s t) := by
  obtain ⟨j, hj, hctx⟩ := hsome
  have hstay : ¬(vctxState (closingVctx s q r) (arg r 17 1) = 2 &&
      !((closingVctx s q r).vid.jobs.any (fun j => j.ctx = arg r 17 1))) = true := by
    have hjobs : (closingVctx s q r).vid.jobs = s.vid.jobs := rfl
    rw [hjobs, List.any_eq_true.mpr ⟨j, hj, decide_eq_true hctx⟩, Bool.not_true, Bool.and_false]
    exact Bool.false_ne_true
  have hexec : exec (.decodeClose q) s = .next (closingVctx s q r) :=
    congrArg Host.Outcome.next ((closeVideo_goes (enc := false) hrun hop hcheck hbusy).trans (if_neg hstay))
  refine ⟨_, hexec, vctxState_closingVctx s q r, by rw [vctx_closingVctx], rfl, run_setBusy (run_of_running hrun).1,
    sameBut_of_touches (wr_touches rfl (setVctx_touches rfl (setBusy_touches rfl (Touches.refl _ s))))⟩

/-- Settles O46: a command's checks decide alone, a context is a table's entry with a row of registers, and a job joins the list. -/
theorem videoContexts : Obligations.VideoContexts := by
  unfold Obligations.VideoContexts
  refine ⟨fun q block bad r s hseal hop => ⟨fun hrun => ?_, fun hrun => ?_⟩, fun q block bad r s hrun hop hseal hkey =>
      congrArg Host.Outcome.next (openVideo_noKey (enc := false) hrun hop hseal hkey),
    fun q au ok bad r st s hrun hcheck => ⟨fun hop => congrArg Host.Outcome.next (workVideo_refused (enc := false) hrun hop hcheck),
      fun hop => congrArg Host.Outcome.next (workVideo_refused (enc := false) hrun hop hcheck),
      fun hop => congrArg Host.Outcome.next (workVideo_refused (enc := false) hrun hop hcheck)⟩,
    fun q r st s hrun hcheck => ⟨fun hop => congrArg Host.Outcome.next (workVideo_refused (enc := true) hrun hop hcheck),
      fun hop => congrArg Host.Outcome.next (workVideo_refused (enc := true) hrun hop hcheck),
      fun hop => congrArg Host.Outcome.next (workVideo_refused (enc := true) hrun hop hcheck)⟩,
    fun q au bad r s hrun hcheck hop hseal => decodePicture_stages hrun hcheck hop hseal, fun q r s hrun hcheck hop => ?_,
    fun q r s hrun hcheck => ⟨fun hop => ?_, fun hop => ?_⟩, fun q r s hrun hcheck hop => ⟨fun hnone => ?_, fun hbusy hsome => ?_⟩,
    fun q r s hrun hcheck hop => fun hnone => ?_⟩
  · obtain ⟨hunread, hrefused, hopened⟩ := opens_answer false (block := block) (bad := bad) hseal hop hrun
    refine ⟨congrArg _ hunread, fun st hst => congrArg _ (hrefused st hst), fun hnone => ?_⟩
    obtain ⟨u, hu, hshown⟩ := hopened hnone
    exact ⟨u, congrArg _ hu, hshown⟩
  · obtain ⟨hunread, hrefused, hopened⟩ := opens_answer true (block := block) (bad := bad) hseal hop hrun
    refine ⟨congrArg _ hunread, fun st hst => congrArg _ (hrefused st hst), fun hnone => ?_⟩
    obtain ⟨u, hu, hstate, hctx, henc, hten, -, hsame⟩ := hopened hnone
    exact ⟨u, congrArg _ hu, hstate, hctx, henc, hten, hsame⟩
  · exact ⟨_, congrArg Host.Outcome.next (workVideo_goes (enc := false) hrun hop hcheck), ⟨_, addJob_joins .., rfl, rfl, rfl, hop, rfl⟩,
      run_addJob (run_of_running hrun).1 .., addJob_leaves ..⟩
  · exact ⟨_, congrArg Host.Outcome.next (workVideo_goes (enc := true) hrun hop hcheck),
      ⟨_, addJob_joins .., rfl, rfl, rfl, rfl, hop, rfl, rfl, rfl, rfl⟩, run_addJob (run_of_running hrun).1 .., addJob_leaves ..⟩
  · exact ⟨_, congrArg Host.Outcome.next (workVideo_goes (enc := true) hrun hop hcheck), ⟨_, addJob_joins .., rfl, hop, rfl, rfl⟩,
      run_addJob (run_of_running hrun).1 .., addJob_leaves ..⟩
  · exact ⟨_, rfl, close_frees (enc := false) hrun hop hcheck hnone⟩
  · exact decodeClose_waits hrun hop hcheck hbusy hsome
  · exact ⟨_, rfl, close_frees (enc := true) hrun hop hcheck hnone⟩

end Sys2Proof.Proofs
end

section
/-!
Chapter 18, the recorder: what an event that is applied or held, a freeze and its end, and a sample of a metric leave as it was
(R442 to R451).
-/

namespace Sys2Proof.Proofs

open Sys2Proof Sys2Proof.Machine Sys2Proof.Safety Sys2Proof.Certificates Sys2Proof.Laws

/-! ### Registers of which no setting is made (R480) -/

/-- A write of a register without a plain field under LOCK leaves no setting. -/
theorem noteSetting_none {ty i off : Nat}
    (h : ∀ o ∈ settingWords ty i off, ∀ f ∈ fieldsAt ty i o, ¬(f.lock = true ∧ f.acc = .rw)) (b s : State) :
    noteSetting b s ty i off = s := by
  have hword : ∀ o ∈ settingWords ty i off, ∀ u, noteWord b u ty i o = u := by
    intro o ho u
    refine if_pos ?_
    rw [Bool.or_eq_true, Bool.not_eq_true', lockChanged, List.any_eq_false]
    refine .inr fun f hf hch => h o ho f hf ?_
    simp only [Bool.and_eq_true, decide_eq_true_eq] at hch
    exact ⟨hch.1.1, hch.1.2⟩
  unfold noteSetting
  generalize settingWords ty i off = l at hword
  induction l generalizing s with
  | nil => rfl
  | cons o l ih =>
    rw [List.foldl_cons, hword o List.mem_cons_self]
    exact ih _ fun o' ho' => hword o' (List.mem_cons_of_mem _ ho')

section
variable {s : State} {w : Writer} {ty i off : Nat} {touches : Bool} {k : State → State}

theorem regWrite_plain (hs : pageServed s ty i = true) (hl : ¬(touches = true ∧ w = .host ∧ rd s (hLocked ty) i = 1))
    (h : ∀ o ∈ settingWords ty i off, ∀ f ∈ fieldsAt ty i o, ¬(f.lock = true ∧ f.acc = .rw)) :
    regWrite s w ty i off touches k = k s := by
  rw [regWrite_taken hs hl, noteSetting_none h]

/-- EVR_CTL holds no plain field under LOCK. -/
theorem regWrite_evrCtl (hs : pageServed s 23 0 = true) : regWrite s w 23 0 0x100 false k = k s :=
  regWrite_plain hs (by simp) (by decide)

theorem regWrite_evrCtl_locked (hw : Writable s w 23 0) : regWrite s w 23 0 0x100 true k = k s :=
  regWrite_plain hw.1 (fun h => hw.2 h.2) (by decide)

end

/-! ### Events applied and held -/

section
variable (s : State) (e : Rec)

/-- An event is applied as new contents of the store, as a new record, or as a counted drop. -/
theorem applyRec_cases : (∃ l, applyRec s e = setStore s l) ∨ (∃ place, applyRec s e = writeRec s e place) ∨
    applyRec s e = raiseIrq (incSat s (R.EVR_DROP_CNT e.severity)) 23 0 Irq.EVR_DROP := by
  by_cases h : ∃ r ∈ s.evr.store, Latest s e.source r ∧ isRepeat r e = true
  · exact .inl ⟨_, applyRec_of_repeat h⟩
  have hnew : ∀ r ∈ s.evr.store, Latest s e.source r → isRepeat r e = false := fun r hr hl =>
    Bool.eq_false_iff.mpr fun hrep => h ⟨r, hr, hl, hrep⟩
  by_cases hroom : s.evr.store.length < 65536
  · exact .inr (.inl ⟨_, applyRec_of_room hnew hroom⟩)
  · have hfull := applyRec_of_full hnew (not_lt.mp hroom)
    cases hv : victim e.severity 0 s.evr.store with
    | none => exact .inr (.inr (by rw [hfull, hv]))
    | some p => exact .inr (.inl ⟨_, by rw [hfull, hv]⟩)

theorem applyRec_evr : ∃ st n l, (applyRec s e).evr = { s.evr with store := st, serial := n, latest := l } := by
  obtain ⟨l, h⟩ | ⟨place, h⟩ | h := applyRec_cases s e
  · exact ⟨_, _, _, by rw [h]; rfl⟩
  · exact ⟨_, _, _, by rw [h, writeRec_evr]⟩
  · exact ⟨_, _, _, by rw [h, raiseIrq_evr]; rfl⟩

theorem holdRec_evr : ∃ l, (holdRec s e).evr = { s.evr with hold := l } := by
  unfold holdRec
  split
  · exact ⟨_, rfl⟩
  · exact ⟨s.evr.hold, raiseIrq_evr ..⟩

end

/-- A field at another place than the count of records, the drop counts and the interrupts of the recorder's page. -/
structure OffRecords (f : Fld) : Prop where
  records : fldCode f ≠ fldCode R.EVR_STAT_RECORDS
  drops : ∀ k, fldCode f ≠ fldCode (R.EVR_DROP_CNT k)
  held : fldCode f ≠ fldCode R.EVR_HOLD_DROP_CNT
  fatal : fldCode f ≠ fldCode (hIrqRaw 23 Irq.EVR_FATAL)
  drop : fldCode f ≠ fldCode (hIrqRaw 23 Irq.EVR_DROP)

theorem offRecords_frozen : OffRecords R.EVR_STAT_FROZEN := by
  refine ⟨by decide, fun k => ?_, by decide, by decide, by decide⟩
  simp only [fldCode, R.EVR_STAT_FROZEN, R.EVR_DROP_CNT]
  omega

theorem offRecords_of_page {f : Fld} (h : f.ty % 32 ≠ 23) : OffRecords f := by
  have hne : ∀ g : Fld, g.ty = 23 → fldCode f ≠ fldCode g := fun g hg => by
    simp only [fldCode, hg]
    omega
  exact ⟨hne _ rfl, fun _ => hne _ rfl, hne _ rfl, hne _ rfl, hne _ rfl⟩

section
variable {f : Fld} (h : OffRecords f)
include h

theorem rd_setStore (s : State) (l : List Rec) (i k : Nat) : rd (setStore s l) f i k = rd s f i k :=
  (rd_wr_ne h.records _ _ _ _ _ _).trans (rd_set_evr ..)

theorem rd_applyRec (s : State) (e : Rec) (i k : Nat) : rd (applyRec s e) f i k = rd s f i k := by
  obtain ⟨l, hc⟩ | ⟨place, hc⟩ | hc := applyRec_cases s e
  · rw [hc, rd_setStore h]
  · rw [hc]
    unfold writeRec
    dsimp only
    split
    · rw [rd_raiseIrq h.fatal, rd_setStore h, rd_set_evr]
    · rw [rd_setStore h, rd_set_evr]
  · rw [hc, rd_raiseIrq h.drop, incSat, rd_wr_ne (h.drops _)]

theorem rd_holdRec (s : State) (e : Rec) (i k : Nat) : rd (holdRec s e) f i k = rd s f i k := by
  unfold holdRec
  split
  · exact rd_set_evr ..
  · rw [rd_raiseIrq h.drop, incSat, rd_wr_ne h.held]

theorem rd_applyHeld (s : State) (i k : Nat) : rd (applyHeld s) f i k = rd s f i k := by
  unfold applyHeld
  refine (?_ : rd (s.evr.hold.foldl applyRec _) f i k = rd { s with evr := { s.evr with hold := [] } } f i k).trans (rd_set_evr ..)
  generalize { s with evr := { s.evr with hold := [] } } = u
  generalize s.evr.hold = l
  induction l generalizing u with
  | nil => rfl
  | cons e l ih => rw [List.foldl_cons, ih, rd_applyRec h]

end

theorem rd_triggerFlush {f : Fld} (hpage : f.ty % 32 ≠ 24) (s : State) (cause i k : Nat) :
    rd (triggerFlush s cause) f i k = rd s f i k := by
  have hne : ∀ g : Fld, g.ty = 24 → fldCode f ≠ fldCode g := fun g hg => by
    simp only [fldCode, hg]
    omega
  unfold triggerFlush
  split
  · exact rd_set_evr ..
  · dsimp only
    split
    · exact rd_wr_ne (hne _ rfl) _ _ _ _ _ _
    · exact (rd_wr_ne (hne _ rfl) _ _ _ _ _ _).trans (rd_set_evr ..)

theorem applyHeld_evr (s : State) :
    ∃ st n l, (applyHeld s).evr = { s.evr with hold := [], store := st, serial := n, latest := l } := by
  have hfold : ∀ (es : List Rec) (u : State), ∃ st n l,
      (es.foldl applyRec u).evr = { u.evr with store := st, serial := n, latest := l } := by
    intro es
    induction es with
    | nil => exact fun u => ⟨_, _, _, rfl⟩
    | cons e es ih =>
      intro u
      obtain ⟨st, n, l, hrest⟩ := ih (applyRec u e)
      obtain ⟨st', n', l', hone⟩ := applyRec_evr u e
      exact ⟨st, n, l, by rw [List.foldl_cons, hrest, hone]⟩
  exact hfold s.evr.hold _

/-! ### A freeze and its end (R450) -/

theorem isFrozen_iff (s : State) : isFrozen s = true ↔ rd s R.EVR_STAT_FROZEN = 1 := decide_eq_true_iff

theorem isFrozen_congr {s t : State} (h : rd t R.EVR_STAT_FROZEN = rd s R.EVR_STAT_FROZEN) : isFrozen t = isFrozen s := by
  unfold isFrozen
  rw [h]

theorem isFrozen_setMetric (s : State) (m : Nat) (x : Metric) : isFrozen (setMetric s m x) = isFrozen s := rfl

/-- What holds of the recorder once no freeze stops it. -/
theorem endFreeze_shows (s : State) : isFrozen (endFreeze s) = false ∧ (endFreeze s).evr.flush = s.evr.flush ∧
    (isFrozen s = true → (endFreeze s).evr.copying = false ∧ (isFlushing s = false → (endFreeze s).evr.hold = [])) := by
  have hbase : ∀ u : State, isFrozen (wr (wr u R.EVR_STAT_FROZEN 0) R.EVR_CTL_FREEZE 0) = false := fun u =>
    decide_eq_false (by rw [rd_wr_ne (by decide), rd_wr_fit _ _ _ _ (by decide)]; decide)
  unfold endFreeze
  split
  · dsimp only
    have hopen := hbase { s with evr := { s.evr with copying := false } }
    have hflush : isFlushing (wr (wr { s with evr := { s.evr with copying := false } } R.EVR_STAT_FROZEN 0) R.EVR_CTL_FREEZE 0) =
      isFlushing s := rfl
    split
    · next h => exact ⟨hopen, rfl, fun _ => ⟨rfl, fun hf => absurd (hflush.symm.trans h) (by simp [hf])⟩⟩
    · obtain ⟨st, n, l, hevr⟩ := applyHeld_evr
        (wr (wr { s with evr := { s.evr with copying := false } } R.EVR_STAT_FROZEN 0) R.EVR_CTL_FREEZE 0)
      rw [hevr]
      exact ⟨(isFrozen_congr (rd_applyHeld offRecords_frozen _ _ _)).trans hopen, rfl, fun _ => ⟨rfl, fun _ => rfl⟩⟩
  · next h => exact ⟨Bool.eq_false_iff.mpr h, rfl, fun hf => absurd hf h⟩

/-- Below fatal an event neither begins nor ends a freeze. -/
theorem isFrozen_recordEvent {sev : Nat} (hsev : sev ≠ 4) (s : State) (ty i code tenant : Nat) (detail : List Nat) :
    isFrozen (recordEvent s ty i code sev tenant detail) = isFrozen s := by
  unfold recordEvent
  dsimp only
  rw [if_neg hsev]
  split
  · exact isFrozen_congr (rd_holdRec offRecords_frozen _ _ _ _)
  · exact isFrozen_congr (rd_applyRec offRecords_frozen _ _ _ _)

/-- A fatal event ends a freeze (R451). -/
theorem isFrozen_recordEvent_fatal (s : State) (ty i code tenant : Nat) (detail : List Nat) :
    isFrozen (recordEvent s ty i code 4 tenant detail) = false := by
  unfold recordEvent
  dsimp only
  rw [if_pos rfl]
  refine (isFrozen_congr (rd_set_boot ..)).trans ?_
  refine (isFrozen_congr (rd_triggerFlush (by decide) _ _ _ _)).trans ?_
  refine Eq.trans ?_ (endFreeze_shows s).1
  split
  · exact isFrozen_congr (rd_holdRec offRecords_frozen _ _ _ _)
  · exact isFrozen_congr (rd_applyRec offRecords_frozen _ _ _ _)

theorem isFrozen_irqEvent (s : State) {n : Nat} (hn : n < 32) (tenant : Nat) (detail : List Nat) :
    isFrozen (irqEvent s 23 0 n tenant detail) = isFrozen s := by
  refine (isFrozen_congr (rd_raiseIrq ?_ _ _ _ _)).trans (isFrozen_recordEvent (by decide) _ _ _ _ _ _)
  exact fldCode_ne_of_header (by decide) (by decide) (show 0x010 * 8 + n < 0x800 by omega)

end Sys2Proof.Proofs
end

section
/-!
Chapter 18, the event recorder (O48): events that wait, freezes and their copy, and the metrics.
-/

namespace Sys2Proof.Proofs

open Sys2Proof Sys2Proof.Machine Sys2Proof.Safety Sys2Proof.Certificates Sys2Proof.Laws

/-! ### Events that wait, and fatal ones (R449, R451) -/

section
variable {ty i code sev tenant : Nat} {detail : List Nat} {s : State}

theorem exec_eventRecord (hdefined : i < pageCount ty ∨ ty = 63) (hsev : sev ≤ 4) (hcode : code < 65536) (htenant : tenant < 256) :
    exec (.eventRecord ty i code sev tenant detail) s = .next (fatalAction (recordEvent s ty i code sev tenant detail)) :=
  congrArg Host.Outcome.next (if_pos (by simp [hdefined, hsev, hcode, htenant]))

theorem eventRecord_undefined (h : ¬(i < pageCount ty ∨ ty = 63) ∨ 4 < sev ∨ 65536 ≤ code ∨ 256 ≤ tenant) :
    exec (.eventRecord ty i code sev tenant detail) s = .next s := by
  refine congrArg Host.Outcome.next (if_neg ?_)
  simp only [Bool.and_eq_true, Bool.or_eq_true, decide_eq_true_eq]
  rintro ⟨⟨⟨hdefined, hsev⟩, hcode⟩, htenant⟩
  rcases h with h | h | h | h
  · exact h hdefined
  all_goals omega

/-- While the recorder is frozen or flushes, an event below fatal joins the holding queue. -/
theorem exec_eventRecord_held (hdefined : i < pageCount ty ∨ ty = 63) (hsev : sev ≤ 3) (hcode : code < 65536) (htenant : tenant < 256)
    (hfatal : s.boot.fatal = false) (hwaits : isFrozen s = true ∨ isFlushing s = true) :
    exec (.eventRecord ty i code sev tenant detail) s = .next (holdRec s (mkRec s ty i code sev tenant detail)) := by
  have hrec : recordEvent s ty i code sev tenant detail = holdRec s (mkRec s ty i code sev tenant detail) := by
    unfold recordEvent
    dsimp only
    rw [if_neg (by omega), if_pos (by simpa using hwaits)]
  have hboot : (holdRec s (mkRec s ty i code sev tenant detail)).boot = s.boot :=
    (holdRec_touches (mm := 0x80000000040010) rfl (Touches.refl _ s)).same (c := .boot) rfl
  rw [exec_eventRecord hdefined (by omega) hcode htenant, hrec]
  exact congrArg Host.Outcome.next (if_neg (by simp [hboot, hfatal]))

theorem eventRecord_fatal (hdefined : i < pageCount ty ∨ ty = 63) (hcode : code < 65536) (htenant : tenant < 256)
    (haction : rd s R.BOOT_CFG_FATAL_ACTION = 0) :
    Ends (.eventRecord ty i code 4 tenant detail) s (fun t => isFrozen t = false ∧ t.boot.fatal = false ∧
      (t.evr.flush.isSome = true ∨ rd t R.NVS_STAT_SEQ_END = 1) ∧ SameBut recorded s t) := by
  have htouch : Touches (maskOf recorded) s (recordEvent s ty i code 4 tenant detail) := recordEvent_touches rfl (Touches.refl _ s)
  have hexec := exec_eventRecord (detail := detail) (s := s) hdefined (le_refl 4) hcode htenant
  rw [fatalAction_none ((htouch.reads rfl).trans haction)] at hexec
  refine ⟨_, hexec, isFrozen_recordEvent_fatal _ _ _ _ _ _, rfl, ?_, sameBut_of_touches (Touches.boot rfl htouch)⟩
  unfold recordEvent
  dsimp only
  rw [if_pos rfl]
  exact triggerFlush_runs _ 1

end

theorem rtcSet_answers (w : Writer) (s : State) (hw : Writable s w 23 0) :
    Ends (.rtcSet w) s (fun t => t.evr.rtcSet = some (rd s R.EVR_RTC_SET) ∧ t.rtc = s.rtc) :=
  ⟨_, congrArg Host.Outcome.next (regWrite_plain hw.1 (fun h => hw.2 h.2) (by decide)), rfl, rfl⟩

/-! ### Freezes (R450) -/

/-- The recorder's registers and its state, a freeze begun. -/
def freezeBegun (s : State) : State :=
  let t := wr (wr (wr s R.EVR_CTL_FREEZE 1) R.EVR_STAT_FROZEN 1) R.EVR_STAT_COPIED 0
  { t with evr := { t.evr with frozenAt := t.now } }

theorem rd_freezeBegun (s : State) (g : Fld) (i k : Nat) : rd (freezeBegun s) g i k =
    rd (wr (wr (wr s R.EVR_CTL_FREEZE 1) R.EVR_STAT_FROZEN 1) R.EVR_STAT_COPIED 0) g i k := rfl

theorem freezeBegun_shows (s : State) : isFrozen (freezeBegun s) = true ∧ rd (freezeBegun s) R.EVR_STAT_COPIED = 0 ∧
    ∀ g : Fld, g.ty = 3 ∨ g.ty = 11 ∨ g.ty = 26 ∨ g.ty = 23 ∧ g.lo = 0 ∧ 0x108 ≤ g.off ∧ g.off < 0x800 →
      ∀ i k, rd (freezeBegun s) g i k = rd s g i k := by
  refine ⟨decide_eq_true ?_, ?_, fun g hg i k => ?_⟩ <;> rw [rd_freezeBegun]
  · exact (rd_wr_ne (by decide) _ _ _ _ _ _).trans (rd_wr_fit _ _ _ _ (by decide))
  · exact rd_wr_fit _ _ _ _ (by decide)
  · have hne : ∀ f : Fld, f.ty = 23 → f.off * 8 + f.lo < 0x840 → fldCode g ≠ fldCode f := fun f hf hlt => by
      simp only [fldCode, hf]
      omega
    exact (rd_wr_ne (hne _ rfl (by decide)) _ _ _ _ _ _).trans
      ((rd_wr_ne (hne _ rfl (by decide)) _ _ _ _ _ _).trans (rd_wr_ne (hne _ rfl (by decide)) _ _ _ _ _ _))

theorem startFreeze_open {s : State} (h : isFrozen s = false) : startFreeze s =
    if rd (freezeBegun s) R.BOOT_STAT_RECOVERY = 1 || owned (freezeBegun s) 0 (rd (freezeBegun s) R.EVR_DUMP_BASE) 4456448 then
      { freezeBegun s with evr := { (freezeBegun s).evr with copying := true } }
    else refuseWrite (freezeBegun s) 23 0 0x100 .memUnowned :=
  if_neg (by simp [h])

theorem exec_freeze {w : Writer} {s : State} (hs : pageServed s 23 0 = true) : exec (.freeze w) s = .next (startFreeze s) :=
  congrArg Host.Outcome.next (regWrite_evrCtl hs)

theorem freeze_begins (w : Writer) (s : State) (hs : pageServed s 23 0 = true) (hopen : isFrozen s = false) :
    Ends (.freeze w) s (fun t => isFrozen t = true ∧ t.evr.frozenAt = s.now ∧ rd t R.EVR_STAT_COPIED = 0 ∧
      (rd s R.BOOT_STAT_RECOVERY = 0 → (owned s 0 (rd s R.EVR_DUMP_BASE) 4456448 = true → t.evr.copying = true) ∧
        (owned s 0 (rd s R.EVR_DUMP_BASE) 4456448 = false → t.evr.copying = s.evr.copying ∧
          rd t (hErrStatus 23) 0 = statusValue .memUnowned))) := by
  obtain ⟨hfrozen, hcopied, hread⟩ := freezeBegun_shows s
  have howned : owned (freezeBegun s) 0 (rd (freezeBegun s) R.EVR_DUMP_BASE) 4456448 = owned s 0 (rd s R.EVR_DUMP_BASE) 4456448 := by
    rw [hread R.EVR_DUMP_BASE (by decide)]
    exact congrArg Option.isNone (accessFail_congr (fun g hg => hread g (by omega)) _ _ _)
  refine ⟨_, exec_freeze hs, ?_⟩
  rw [startFreeze_open hopen, hread R.BOOT_STAT_RECOVERY (by decide), howned]
  split
  · next h =>
    refine ⟨hfrozen, rfl, hcopied, fun hrec => ⟨fun _ => rfl, fun hno => absurd h ?_⟩⟩
    rw [hrec, hno]
    decide
  · next h =>
    have hin : ∀ f : Fld, 0x100 ≤ f.off → f.off * 8 + f.lo < 2 ^ 15 → rd (refuseWrite (freezeBegun s) 23 0 0x100 .memUnowned) f = rd (freezeBegun s) f :=
      fun f hlo hhi => rd_refuseWrite_of_body _ _ _ _ _ hlo hhi _ _
    refine ⟨(isFrozen_congr (hin _ (by decide) (by decide))).trans hfrozen, rfl, (hin _ (by decide) (by decide)).trans hcopied,
      fun _ => ⟨fun hyes => absurd ?_ h, fun _ => ⟨rfl, rd_refuseWrite_hErrStatus _ _ _ _ _⟩⟩⟩
    rw [hyes]
    exact Bool.or_true _

theorem unfreeze_answers (w : Writer) (s : State) (hs : pageServed s 23 0 = true) :
    Ends (.unfreeze w) s (fun t => isFrozen t = false ∧ (isFrozen s = true → t.evr.copying = false ∧
      (isFlushing s = false → t.evr.hold = []))) :=
  ⟨_, congrArg Host.Outcome.next (regWrite_evrCtl hs), (endFreeze_shows s).1, (endFreeze_shows s).2.2⟩

theorem freezeExpiry_answers (s : State) (hfrozen : isFrozen s = true) :
    Ends .freezeExpiry s (fun t => isFrozen t = false ∧ t.now = max s.now (s.evr.frozenAt + 10000000000) ∧
      rd t (hIrqRaw 23 Irq.EVR_FREEZE_EXPIRED) 0 = 1 ∧ SameBut (recorded ++ [.now]) s t) := by
  generalize hv : s.evr.frozenAt + 10000000000 = v
  have hexec : exec .freezeExpiry s = .next (irqEvent (endFreeze (reachTime s v)) 23 0 Irq.EVR_FREEZE_EXPIRED 0 []) :=
    hv ▸ congrArg Host.Outcome.next (if_pos hfrozen)
  have hend : Touches (maskOf recorded) (reachTime s v) (endFreeze (reachTime s v)) := endFreeze_touches rfl (Touches.refl _ _)
  refine ⟨_, hexec, ?_, ?_, rd_irqEvent_same _ _ _ _ _ _, ?_⟩
  · rw [isFrozen_irqEvent _ (by decide)]
    exact (endFreeze_shows _).1
  · rw [irqEvent_now]
    exact hend.same (c := .now) rfl
  · exact sameBut_of_touches (irqEvent_touches rfl rfl (endFreeze_touches rfl (reachTime_touches rfl (Touches.refl _ s))))

/-- What memory holds after a write of bytes rests on the memory before it alone. -/
theorem memWrite_mem_congr {s u : State} (h : u.mem = s.mem) (a : Nat) (bs : List Byte) :
    (memWrite u a bs).mem = (memWrite s a bs).mem := by
  have hbytes : ∀ (l : List Byte) (a0 n b : Nat) (t : Tbl Byte), writeBytes u a0 n b l t = writeBytes s a0 n b l t := by
    intro l
    induction l with
    | nil => exact fun _ _ _ _ => rfl
    | cons x l ih =>
      intro a0 n b t
      rw [writeBytes, writeBytes, ih, poisonUnit, poisonUnit, h]
  simp only [memWrite, hbytes, h]

theorem freezeCopyDone_answers (s : State) (hcopying : s.evr.copying = true) (hrec : rd s R.BOOT_STAT_RECOVERY = 0) :
    Ends .freezeCopyDone s (fun t =>
      t.mem = (memWrite s (rd s R.EVR_DUMP_BASE) (freezeBytes s)).mem ∧ t.evr = { s.evr with copying := false } ∧
      rd t R.EVR_STAT_COPIED = 1 ∧ SameBut (pages [23] ++ [.free, .recorder, .bytes, .memory, .out]) s t) := by
  have hexec : exec .freezeCopyDone s = .next (wr (memWrite (useFree { s with evr := { s.evr with copying := false } })
      (rd s R.EVR_DUMP_BASE) (freezeBytes s)) R.EVR_STAT_COPIED 1) := by
    refine congrArg Host.Outcome.next ((if_pos hcopying).trans ?_)
    exact congrArg (fun u => wr u R.EVR_STAT_COPIED 1) (if_neg (by rw [rd_useFree, rd_set_evr, hrec]; decide))
  refine ⟨_, hexec, (wr_mem ..).trans (memWrite_mem_congr ?_ _ _), rfl, rd_wr_fit _ _ _ _ (by decide), ?_⟩
  · rfl
  exact sameBut_of_touches (wr_touches rfl (memWrite_touches rfl rfl (Touches.free rfl (Touches.recorder rfl (Touches.refl _ s)))))

/-! ### Metrics (R446, R447) -/

theorem tget_map_clear (l : Tbl Metric) (m : Nat) :
    tget ({} : Metric) (l.map (fun e => (e.1, { e.2 with hist := [], low := none, high := none }))) m =
      { tget ({} : Metric) l m with hist := [], low := none, high := none } := by
  induction l with
  | nil => rfl
  | cons e l ih =>
    rw [List.map_cons, tget, tget]
    split
    · rfl
    · exact ih

theorem clearMetrics_answers (w : Writer) (s : State) (hw : Writable s w 23 0) :
    (isFrozen s = false → Ends (.clearMetrics w) s (fun t => ∀ m, metric t m = { metric s m with hist := [], low := none, high := none })) ∧
    (isFrozen s = true → Ends (.clearMetrics w) s (fun t => ∀ m, metric t m = metric s m)) := by
  have hexec : exec (.clearMetrics w) s = .next (clearAllMetrics s) := congrArg Host.Outcome.next (regWrite_evrCtl_locked hw)
  refine ⟨fun hopen => ⟨_, hexec, fun m => ?_⟩, fun hfrozen => ⟨_, hexec, fun m => ?_⟩⟩
  · rw [clearAllMetrics, if_neg (by simp [hopen])]
    exact tget_map_clear s.evr.metrics m
  · rw [clearAllMetrics, if_pos hfrozen]

theorem metric_setMetric (s : State) (m : Nat) (x : Metric) : metric (setMetric s m x) m = x := tget_tset_same ..

theorem metric_setMetric_ne {m k : Nat} (h : k ≠ m) (s : State) (x : Metric) : metric (setMetric s m x) k = metric s k :=
  tget_tset_ne _ _ h _ _

/-- EVR_MET_LOW holds one field, which takes every value of its width. -/
theorem wordWrite_metLow {w : Writer} {v : Nat} {s : State} (hs : pageServed s 23 0 = true) :
    wordWrite s w 23 0 0x154 v =
      if v % 2 ^ 32 = rd s R.EVR_MET_LOW 0 (rd s R.EVR_MET_SEL) then s else wr s R.EVR_MET_LOW (v % 2 ^ 32) 0 (rd s R.EVR_MET_SEL) := by
  obtain ⟨hdom, hrec⟩ := Bool.and_eq_true_iff.mp hs
  have hlow : decide (dom s (pageDomain 23 0) ≠ 0) = false := decide_eq_false (not_not_intro (of_decide_eq_true hdom))
  have hgo : ¬(rd s R.BOOT_STAT_RECOVERY = 1 && !recoveryPage 23) = true := by
    simp [show recoveryPage 23 = true from rfl]
  have hfields : fieldsAt 23 0 0x154 = [R.EVR_MET_LOW] := by decide
  have hbank : bankIdx s 23 0 R.EVR_MET_LOW = rd s R.EVR_MET_SEL := rfl
  have hlegal : legalValue R.EVR_MET_LOW (v % 2 ^ 32) = true := by
    rw [legalValue, Bool.and_eq_true, decide_eq_true_eq]
    exact ⟨Nat.mod_lt _ (by decide), rfl⟩
  have hcarried : carried R.EVR_MET_LOW 0x154 v (rd s R.EVR_MET_LOW 0 (rd s R.EVR_MET_SEL)) = v % 2 ^ 32 :=
    (if_pos (by decide)).trans (congrArg (· % 2 ^ 32) (Nat.div_one v))
  have hrefuses : ∀ u, fieldRefuses u 23 0 v R.EVR_MET_LOW (v % 2 ^ 32) = none := fun u =>
    fieldRefuses_plain (by decide) (by decide) rfl hlegal u 23 0 v
  have hfield : writeField w 23 0 0x154 v false (s, none, false) R.EVR_MET_LOW =
      (if v % 2 ^ 32 = rd s R.EVR_MET_LOW 0 (rd s R.EVR_MET_SEL) then s
        else wr s R.EVR_MET_LOW (v % 2 ^ 32) 0 (rd s R.EVR_MET_SEL), none, false) := by
    unfold writeField
    rw [homeFld_of_ne (by decide), show homeInst 23 0 R.EVR_MET_LOW = 0 from rfl]
    dsimp only
    rw [hbank, hcarried, hrefuses, show R.EVR_MET_LOW.acc = .rw from rfl, show R.EVR_MET_LOW.lock = false from rfl]
    dsimp only
    rw [if_neg (by decide), hlegal]
    split <;> rfl
  unfold wordWrite
  rw [if_neg hgo, show registerShut s 23 0 0x154 = none from rfl]
  dsimp only
  rw [hlow, hfields, List.foldl_cons, List.foldl_nil, hfield]
  exact noteSetting_none (by decide) _ _

theorem metricConfigWrite_low (w : Writer) (v : Nat) (s : State) (hs : pageServed s 23 0 = true) (hopen : isFrozen s = false) :
    Ends (.metricConfigWrite w false v) s (fun t => rd t R.EVR_MET_LOW 0 (rd s R.EVR_MET_SEL) = v % 2 ^ 32 ∧
      (metric t (rd s R.EVR_MET_SEL)).hist = (if v % 2 ^ 32 = rd s R.EVR_MET_LOW 0 (rd s R.EVR_MET_SEL) then
        (metric s (rd s R.EVR_MET_SEL)).hist else []) ∧
      (∀ k, k ≠ rd s R.EVR_MET_SEL → metric t k = metric s k)) := by
  generalize hm : rd s R.EVR_MET_SEL = m
  have hword := wordWrite_metLow (w := w) (v := v) hs
  rw [hm] at hword
  have hexec : exec (.metricConfigWrite w false v) s = .next (
      if rd (wordWrite s w 23 0 0x154 v) R.EVR_MET_LOW 0 m = rd s R.EVR_MET_LOW 0 m &&
        rd (wordWrite s w 23 0 0x154 v) R.EVR_MET_CFG_SHIFT 0 m = rd s R.EVR_MET_CFG_SHIFT 0 m then wordWrite s w 23 0 0x154 v
      else setMetric (wordWrite s w 23 0 0x154 v) m { metric (wordWrite s w 23 0 0x154 v) m with hist := [] }) :=
    hm ▸ congrArg Host.Outcome.next (if_neg (by simp [hopen]))
  rw [hword] at hexec
  by_cases hkept : v % 2 ^ 32 = rd s R.EVR_MET_LOW 0 m
  · rw [if_pos hkept, if_pos (by simp)] at hexec
    exact ⟨s, hexec, hkept.symm, (if_pos hkept).symm, fun k _ => rfl⟩
  · have hnew : rd (wr s R.EVR_MET_LOW (v % 2 ^ 32) 0 m) R.EVR_MET_LOW 0 m = v % 2 ^ 32 := rd_wr_fit _ _ _ _ (Nat.mod_lt _ (by decide))
    rw [if_neg hkept, if_neg fun h => hkept (hnew.symm.trans (of_decide_eq_true (Bool.and_eq_true_iff.mp h).1))] at hexec
    exact ⟨_, hexec, hnew, (congrArg Metric.hist (metric_setMetric _ _ _)).trans (if_neg hkept).symm,
      fun k hk => metric_setMetric_ne hk _ _⟩

theorem metricConfigWrite_frozen (w : Writer) (cfg : Bool) (v : Nat) (s : State) (hfrozen : isFrozen s = true) :
    Ends (.metricConfigWrite w cfg v) s (fun t => rd t R.EVR_MET_LOW 0 (rd s R.EVR_MET_SEL) = rd s R.EVR_MET_LOW 0 (rd s R.EVR_MET_SEL) ∧
      t.evr = s.evr ∧ rd t (hErrStatus 23) 0 = statusValue .evrFrozen ∧ SameBut [.page 23] s t) :=
  ⟨refuseWrite s 23 0 (if cfg then 0x158 else 0x154) .evrFrozen, congrArg Host.Outcome.next (if_pos hfrozen),
    rd_refuseWrite_of_body _ _ _ _ _ (by decide) (by decide) _ _, rfl, rd_refuseWrite_hErrStatus _ _ _ _ _,
    sameBut_of_touches (refuseWrite_touches rfl (Touches.refl _ s))⟩

theorem metricIntervalEnd_answers (m : Nat) (s : State) (hopen : isFrozen s = false) (hm : m < 1024) :
    Ends (.metricIntervalEnd m) s (fun t =>
      t.rtc = max s.rtc ((metric s m).start + 32768 * rd s R.EVR_MET_CFG_INTERVAL 0 m) ∧
      metric t m = { metric s m with lastSum := (metric s m).sum, lastCnt := (metric s m).cnt, sum := 0, cnt := 0, start := t.rtc } ∧
      (∀ k, k ≠ m → metric t k = metric s k) ∧ SameBut [.rtc, .recorder] s t) :=
  ⟨_, congrArg Host.Outcome.next (if_neg (by simp [hopen, hm])), rfl, metric_setMetric _ _ _, fun _ hk => metric_setMetric_ne hk _ _,
    sameBut_of_touches (Touches.recorder rfl (Touches.rtc rfl (Touches.refl _ s)))⟩

theorem metricIntervalEnd_idle (m : Nat) (s : State) (h : isFrozen s = true ∨ 1024 ≤ m) : exec (.metricIntervalEnd m) s = .next s :=
  congrArg Host.Outcome.next (if_pos (by simpa using h))

/-! ### Counts per second (R447) -/

/-- The counter and the number of samples of a metric, as a sample of counted errors leaves them. -/
def sampledCnt (s : State) (m : Nat) : Nat := if isFrozen s = true then (metric s m).cnt else min ((metric s m).cnt + 1) 0xFFFFFFFF

section
variable (s : State) (m now : Nat)

theorem rd_countMetric (f : Fld) (i k : Nat) : rd (countMetric s m now) f i k = rd s f i k :=
  (rd_metricSample ..).trans (rd_set_evr ..)

theorem metricSample_evr (v : Int) : ∃ x, (metricSample s m v).evr = { s.evr with metrics := x } := by
  unfold metricSample
  split <;> exact ⟨_, rfl⟩

theorem countMetric_evr : ∃ x, (countMetric s m now).evr = { s.evr with counted := tset 0 m now s.evr.counted, metrics := x } := by
  obtain ⟨x, hx⟩ := metricSample_evr { s with evr := { s.evr with counted := tset 0 m now s.evr.counted } } m
    ((if tget 0 s.evr.counted m ≤ now then now - tget 0 s.evr.counted m else now : Nat) : Int)
  exact ⟨x, hx⟩

theorem cnt_countMetric : (metric (countMetric s m now) m).cnt = sampledCnt s m := by
  have hfrozen : isFrozen { s with evr := { s.evr with counted := tset 0 m now s.evr.counted } } = isFrozen s := rfl
  unfold countMetric metricSample sampledCnt
  dsimp only
  rw [hfrozen]
  split
  · rfl
  · rw [metric_setMetric]
    rfl

theorem metric_countMetric_ne {k : Nat} (h : k ≠ m) : metric (countMetric s m now) k = metric s k := by
  unfold countMetric metricSample
  dsimp only
  split
  · rfl
  · exact metric_setMetric_ne h _ _

end

/-- What a run of counters that begins at metric `a` leaves after its first `n`. -/
structure Counted (a : Nat) (count : Nat → Nat) (n : Nat) (s u : State) : Prop where
  touches : Touches (maskOf [.recorder]) s u
  reads : ∀ (f : Fld) (i k : Nat), rd u f i k = rd s f i k
  store : u.evr.store = s.evr.store
  counted : ∀ i < n, tget 0 u.evr.counted (a + i) = count i
  sampled : ∀ i < n, (metric u (a + i)).cnt = sampledCnt s (a + i)
  others : ∀ k, k < a ∨ a + n ≤ k → tget 0 u.evr.counted k = tget 0 s.evr.counted k ∧ metric u k = metric s k

theorem Counted.succ {a : Nat} {count : Nat → Nat} {n : Nat} {s u : State} (h : Counted a count n s u) :
    Counted a count (n + 1) s (countMetric u (a + n) (count n)) := by
  obtain ⟨x, hevr⟩ := countMetric_evr u (a + n) (count n)
  have hlast : sampledCnt u (a + n) = sampledCnt s (a + n) := by
    rw [sampledCnt, sampledCnt, (h.others (a + n) (.inr (le_refl _))).2, isFrozen_congr (h.reads ..)]
  have hcounted : ∀ k, k ≠ a + n → tget 0 (countMetric u (a + n) (count n)).evr.counted k = tget 0 u.evr.counted k := fun k hk => by
    rw [hevr]
    exact tget_tset_ne _ _ hk _ _
  refine ⟨countMetric_touches rfl h.touches, fun f i k => (rd_countMetric ..).trans (h.reads f i k), by rw [hevr]; exact h.store, fun i hi => ?_, fun i hi => ?_, fun k hk => ?_⟩
  · rcases Nat.lt_succ_iff_lt_or_eq.mp hi with hi | rfl
    · rw [hcounted _ (by omega)]
      exact h.counted i hi
    · rw [hevr]
      exact tget_tset_same ..
  · rcases Nat.lt_succ_iff_lt_or_eq.mp hi with hi | rfl
    · rw [metric_countMetric_ne _ _ _ (by omega)]
      exact h.sampled i hi
    · rw [cnt_countMetric, hlast]
  · rw [hcounted _ (by omega), metric_countMetric_ne _ _ _ (by omega)]
    exact h.others k (by omega)

/-- A run of counters, each read as the run comes to it. -/
theorem counted_foldl (a n : Nat) (f : Nat → Fld) (inst : Nat → Nat) (s : State) :
    Counted a (fun i => rd s (f i) (inst i)) n s ((List.range n).foldl (fun s i => countMetric s (a + i) (rd s (f i) (inst i))) s) := by
  induction n with
  | zero => exact ⟨Touches.refl _ s, fun _ _ _ => rfl, rfl, fun i hi => absurd hi (by omega), fun i hi => absurd hi (by omega), fun k _ => ⟨rfl, rfl⟩⟩
  | succ n ih =>
    rw [List.range_succ, List.foldl_append, List.foldl_cons, List.foldl_nil, ih.reads]
    exact ih.succ

theorem metricCountSecond_answers (s : State) :
    Ends .metricCountSecond s (fun t => (∀ i < 32, tget 0 t.evr.counted (49 + i) = rd s R.MEMC_CE_CNT i) ∧
      (∀ p < 8, tget 0 t.evr.counted (81 + p) = rd s R.WAG_REPLAY_CNT p) ∧
      (∀ i < 40, (metric t (49 + i)).cnt = sampledCnt s (49 + i)) ∧ t.evr.store = s.evr.store ∧ SameBut [.recorder] s t) := by
  have h1 := counted_foldl 49 32 (fun _ => R.MEMC_CE_CNT) (fun i => i) s
  generalize hu : (List.range 32).foldl (fun s i => countMetric s (49 + i) (rd s R.MEMC_CE_CNT i)) s = u at h1
  have h2 := counted_foldl 81 8 (fun _ => R.WAG_REPLAY_CNT) (fun p => p) u
  have hsampled : ∀ k, sampledCnt u k = if isFrozen s = true then (metric u k).cnt else min ((metric u k).cnt + 1) 0xFFFFFFFF := fun k => by
    rw [sampledCnt, isFrozen_congr (h1.reads ..)]
  refine ⟨_, hu ▸ rfl, fun i hi => ?_, fun p hp => (h2.counted p hp).trans (h1.reads ..), fun i hi => ?_, h2.store.trans h1.store,
    sameBut_of_touches (h1.touches.trans h2.touches)⟩
  · rw [(h2.others (49 + i) (.inl (by omega))).1]
    exact h1.counted i hi
  · by_cases hlow : i < 32
    · rw [(h2.others (49 + i) (.inl (by omega))).2]
      exact h1.sampled i hlow
    · obtain ⟨p, rfl⟩ : ∃ p, i = 32 + p := ⟨i - 32, by omega⟩
      have hp : (metric _ (81 + p)).cnt = sampledCnt u (81 + p) := h2.sampled p (by omega)
      rw [show 49 + (32 + p) = 81 + p by omega, hp, hsampled, (h1.others (81 + p) (.inr (by omega))).2, sampledCnt]

/-- Settles O48: what waits in the holding queue stays there while the recorder is frozen or flushes, and the end of a freeze applies
it; a freeze stops the metrics, which otherwise take their settings, samples and intervals one by one. -/
theorem eventRecorder : Obligations.EventRecorder := by
  refine ⟨?_, ?_, fun ty i code tenant detail s hdefined hcode htenant haction => eventRecord_fatal hdefined hcode htenant haction,
    rtcSet_answers, fun w s hs => ⟨freeze_begins w s hs, ?_, unfreeze_answers w s hs⟩,
    fun s => ⟨freezeExpiry_answers s, fun h => congrArg Host.Outcome.next (if_neg (by simp [h]))⟩,
    fun s => ⟨freezeCopyDone_answers s, fun h => congrArg Host.Outcome.next (if_neg (by simp [h]))⟩,
    clearMetrics_answers, fun w v s hs => ⟨metricConfigWrite_low w v s hs, fun cfg hf => metricConfigWrite_frozen w cfg v s hf⟩,
    metricIntervalEnd_answers, metricIntervalEnd_idle, metricCountSecond_answers⟩
  · intro ty i code sev tenant detail s hdefined hsev hcode htenant hfatal
    refine ⟨⟨rfl, rfl, by rw [mkRec_source], rfl, rfl, rfl⟩, fun hwaits hroom => ?_, fun hwaits hfull => ?_⟩
    · refine ⟨_, exec_eventRecord_held hdefined hsev hcode htenant hfatal hwaits, ?_⟩
      rw [holdRec, if_pos hroom]
      exact ⟨rfl, sameBut_of_touches (Touches.recorder rfl (Touches.refl _ s))⟩
    · refine ⟨_, exec_eventRecord_held hdefined hsev hcode htenant hfatal hwaits, ?_⟩
      rw [holdRec, if_neg (by omega)]
      exact ⟨(rd_raiseIrq (by decide) _ _ _ _).trans (rd_incSat _ _ _ _), rd_raiseIrq_same _ _ _ _,
        sameBut_of_touches (raiseIrq_touches rfl rfl (incSat_touches rfl (Touches.refl _ s)))⟩
  · exact fun ty i code sev tenant detail s h => eventRecord_undefined h
  · exact fun hfrozen => ⟨s, (exec_freeze hs).trans (congrArg Host.Outcome.next (if_pos hfrozen)), hfrozen, rfl, rfl⟩

end Sys2Proof.Proofs
end

section
/-!
Chapter 18, flushes (O50, R448, R449, R454): where a flush writes, and what its end leaves in the banks.
-/

namespace Sys2Proof.Proofs

open Sys2Proof Sys2Proof.Machine Sys2Proof.Safety Sys2Proof.Certificates Sys2Proof.Laws

/-! ### A flush begins -/

/-- A trigger without a flush under way starts one into the bank that is not current. -/
theorem triggerFlush_starts {s : State} (hidle : s.evr.flush = none)
    (hseq : max (bankSeq s.evr.bank0) (bankSeq s.evr.bank1) + 1 < 2 ^ 64) (cause : Nat) :
    triggerFlush s cause =
      let x : Flush := ⟨targetBank s, bankOf s cause (max (bankSeq s.evr.bank0) (bankSeq s.evr.bank1) + 1)⟩
      wr { s with evr := { s.evr with flush := some x } } R.NVS_STAT_FLUSHING 1 := by
  unfold triggerFlush
  rw [hidle]
  exact if_neg (by omega)

/-- While a flush runs its trigger is kept, the highest cause among the kept ones. -/
theorem triggerFlush_keeps {s : State} {f : Flush} (hrun : s.evr.flush = some f) (cause : Nat) :
    triggerFlush s cause = { s with evr := { s.evr with kept := some (max cause (s.evr.kept.getD 0)) } } := by
  unfold triggerFlush
  rw [hrun]

theorem flushPeriodExpiry_answers (s : State) (hidle : s.evr.flush = none)
    (hseq : max (bankSeq s.evr.bank0) (bankSeq s.evr.bank1) + 1 < 2 ^ 64) :
    Ends .flushPeriodExpiry s (fun t => (∃ f, t.evr.flush = some f ∧ f.bank = 1 - rd s R.NVS_STAT_CURRENT ∧ f.data.cause = 0) ∧
      t.now = max s.now (s.evr.lastEnd + 60000000000 * rd s R.EVR_FLUSH_PERIOD) ∧ SameBut (pages [24] ++ [.now, .recorder]) s t) := by
  generalize hv : s.evr.lastEnd + 60000000000 * rd s R.EVR_FLUSH_PERIOD = v
  have hexec : exec .flushPeriodExpiry s = .next (triggerFlush (reachTime s v) 0) :=
    hv ▸ congrArg Host.Outcome.next (if_neg (by simp [isFlushing, hidle]))
  rw [triggerFlush_starts (by rw [reachTime_evr]; exact hidle) (by rw [reachTime_evr]; exact hseq)] at hexec
  refine ⟨_, hexec, ⟨_, rfl, ?_, rfl⟩, rfl, ?_⟩
  · rw [targetBank, rd_reachTime]
  · exact sameBut_of_touches (wr_touches rfl (Touches.recorder rfl (reachTime_touches rfl (Touches.refl _ s))))

/-! ### A flush is over -/

theorem keptFlush_evr (s : State) : ∃ f k, (keptFlush s).evr = { s.evr with flush := f, kept := k } := by
  unfold keptFlush
  split
  · obtain ⟨f, k, h⟩ := triggerFlush_evr { s with evr := { s.evr with kept := none } } ‹Nat›
    exact ⟨f, k, h⟩
  · exact ⟨_, _, rfl⟩

/-- Held events and a kept trigger leave the banks and the clock. -/
theorem flushOver_banks (s : State) : (flushOver s).evr.bank0 = s.evr.bank0 ∧ (flushOver s).evr.bank1 = s.evr.bank1 := by
  unfold flushOver
  extract_lets _ u
  obtain ⟨f, k, hkept⟩ := keptFlush_evr (if isFrozen u then u else applyHeld u)
  rw [hkept]
  split
  · exact ⟨rfl, rfl⟩
  · obtain ⟨st, n, l, hheld⟩ := applyHeld_evr u
    rw [hheld]
    exact ⟨rfl, rfl⟩

theorem rd_flushOver {f : Fld} (hty : f.ty = 24) (hflushing : fldCode f ≠ fldCode R.NVS_STAT_FLUSHING)
    (hend : fldCode f ≠ fldCode R.NVS_STAT_SEQ_END) (s : State) (i k : Nat) : rd (flushOver s) f i k = rd s f i k := by
  have htrigger : ∀ (u : State) (c : Nat), rd (triggerFlush u c) f i k = rd u f i k := fun u c => by
    unfold triggerFlush
    split
    · exact rd_set_evr ..
    · dsimp only
      split
      · exact rd_wr_ne hend _ _ _ _ _ _
      · exact (rd_wr_ne hflushing _ _ _ _ _ _).trans (rd_set_evr ..)
  have hkept : ∀ u : State, rd (keptFlush u) f i k = rd u f i k := fun u => by
    unfold keptFlush
    split
    · exact (htrigger _ _).trans (rd_set_evr ..)
    · rfl
  unfold flushOver
  extract_lets _ u
  have hu : rd u f i k = rd s f i k := (rd_wr_ne hflushing _ _ _ _ _ _).trans (rd_set_evr ..)
  rw [hkept]
  split
  · exact hu
  · exact (rd_applyHeld (offRecords_of_page (by rw [hty]; decide)) _ _ _).trans hu

theorem irqEvent_banks (s : State) (ty i n tenant : Nat) (detail : List Nat) :
    (irqEvent s ty i n tenant detail).evr.bank0 = s.evr.bank0 ∧ (irqEvent s ty i n tenant detail).evr.bank1 = s.evr.bank1 := by
  unfold irqEvent recordEvent
  rw [raiseIrq_evr]
  dsimp only
  rw [if_neg (by decide)]
  split
  · obtain ⟨l, h⟩ := holdRec_evr s (mkRec s ty i (0x8000 + n) 1 tenant detail)
    rw [h]
    exact ⟨rfl, rfl⟩
  · obtain ⟨st, m, l, h⟩ := applyRec_evr s (mkRec s ty i (0x8000 + n) 1 tenant detail)
    rw [h]
    exact ⟨rfl, rfl⟩

/-- An interrupt of the store's page leaves the page's own registers. -/
theorem rd_irqEvent_nvs {f : Fld} (hty : f.ty = 24) (hlo : 0x100 ≤ f.off) (hhi : f.off * 8 + f.lo < 2 ^ 15) {n : Nat} (hn : n < 32)
    (s : State) (tenant : Nat) (detail : List Nat) (i k : Nat) : rd (irqEvent s 24 0 n tenant detail) f i k = rd s f i k := by
  have hoff : OffRecords f := offRecords_of_page (by rw [hty]; decide)
  unfold irqEvent recordEvent
  rw [rd_raiseIrq (fldCode_ne_of_header hlo hhi (show 0x010 * 8 + n < 0x800 by omega))]
  dsimp only
  rw [if_neg (by decide)]
  split
  · exact rd_holdRec hoff _ _ _ _
  · exact rd_applyRec hoff _ _ _ _

/-! ### A flush that commits (R453, R454) -/

/-- The bank that a number names: 0, or the other. -/
def validBit (bank : Nat) : Fld := if bank = 0 then R.NVS_STAT_VALID0 else R.NVS_STAT_VALID1

theorem commitBank_shows (s : State) (bank : Nat) (d : BankData) :
    (bank = 0 → (commitBank s bank d).evr.bank0 = some d ∧ (commitBank s bank d).evr.bank1 = s.evr.bank1) ∧
    (bank ≠ 0 → (commitBank s bank d).evr.bank1 = some d ∧ (commitBank s bank d).evr.bank0 = s.evr.bank0) ∧
    rd (commitBank s bank d) (validBit bank) = 1 ∧ rd (commitBank s bank d) R.NVS_STAT_CURRENT = bank % 2 ∧
    rd (commitBank s bank d) R.NVS_SEQ = d.seq % 2 ^ 64 ∧
    rd (commitBank s bank d) R.NVS_FLUSH_CNT = min (rd s R.NVS_FLUSH_CNT + 1) (2 ^ 32 - 1) := by
  have hcodes : ∀ f ∈ [R.NVS_STAT_VALID0, R.NVS_STAT_VALID1], fldCode f ≠ fldCode R.NVS_FLUSH_CNT ∧
      fldCode f ≠ fldCode R.NVS_STAT_LAST_CAUSE ∧ fldCode f ≠ fldCode R.NVS_SEQ ∧ fldCode R.NVS_STAT_CURRENT ≠ fldCode f ∧
      fldCode R.NVS_FLUSH_CNT ≠ fldCode f ∧ f.w = 1 := by decide
  obtain ⟨hcnt, hcause, hseq, hcur, hcnt', hwidth⟩ := hcodes (validBit bank) (by unfold validBit; split <;> simp)
  unfold commitBank
  extract_lets _ u v
  have hu : rd u R.NVS_FLUSH_CNT = rd s R.NVS_FLUSH_CNT := rd_set_evr ..
  have hv : v = wr (wr u R.NVS_STAT_CURRENT bank) (validBit bank) 1 := rfl
  have hevr : u.evr = if bank = 0 then { s.evr with bank0 := some d } else { s.evr with bank1 := some d } := rfl
  rw [hv]
  refine ⟨fun h => ?_, fun h => ?_, ?_, ?_, ?_, ?_⟩
  · rw [if_pos h] at hevr
    show u.evr.bank0 = some d ∧ u.evr.bank1 = s.evr.bank1
    rw [hevr]
    exact ⟨rfl, rfl⟩
  · rw [if_neg h] at hevr
    show u.evr.bank1 = some d ∧ u.evr.bank0 = s.evr.bank0
    rw [hevr]
    exact ⟨rfl, rfl⟩
  · rw [rd_incSat_ne hcnt, rd_wr_ne hcause, rd_wr_ne hseq, rd_wr_fit _ _ _ _ (by rw [hwidth]; decide)]
  · rw [rd_incSat_ne (by decide), rd_wr_ne (by decide), rd_wr_ne (by decide), rd_wr_ne hcur]
    exact rd_wr ..
  · rw [rd_incSat_ne (by decide), rd_wr_ne (by decide)]
    exact rd_wr ..
  · rw [rd_incSat, rd_wr_ne (by decide), rd_wr_ne (by decide), rd_wr_ne hcnt', rd_wr_ne (by decide), hu]
    rfl

section
variable {f : Flush} {s : State}

/-- The state in which a commit ends, before what was held and kept follows. -/
def committed (f : Flush) (us : Nat) (s : State) : State :=
  let u := { s with now := max s.now (f.data.merid + 1000 * min us 6200) }
  let v := commitBank (wr u R.NVS_LAST_US (min us 6200)) f.bank f.data
  if v.boot.healthOwed && f.data.boot.trial = 3 then
    wr { v with boot := { v.boot with healthOwed := false } } R.FWU_STAT_HEALTH_COMMITTED 1
  else v

theorem commitFlush_eq (hrun : s.evr.flush = some f) (us : Nat) :
    commitFlush s us = flushOver (raiseIrq (committed f us s) 24 0 Irq.NVS_FLUSH_DONE) := by
  unfold commitFlush
  rw [hrun]
  rfl

theorem committed_shows (us : Nat) :
    (f.bank = 0 → (committed f us s).evr.bank0 = some f.data ∧ (committed f us s).evr.bank1 = s.evr.bank1) ∧
    (f.bank ≠ 0 → (committed f us s).evr.bank1 = some f.data ∧ (committed f us s).evr.bank0 = s.evr.bank0) ∧
    rd (committed f us s) (validBit f.bank) = 1 ∧ rd (committed f us s) R.NVS_STAT_CURRENT = f.bank % 2 ∧
    rd (committed f us s) R.NVS_SEQ = f.data.seq % 2 ^ 64 ∧
    rd (committed f us s) R.NVS_FLUSH_CNT = min (rd s R.NVS_FLUSH_CNT + 1) (2 ^ 32 - 1) := by
  have hcodes : ∀ g ∈ [R.NVS_STAT_VALID0, R.NVS_STAT_VALID1], fldCode g ≠ fldCode R.FWU_STAT_HEALTH_COMMITTED := by decide
  have hvalid : fldCode (validBit f.bank) ≠ fldCode R.FWU_STAT_HEALTH_COMMITTED :=
    hcodes (validBit f.bank) (by unfold validBit; split <;> simp)
  unfold committed
  extract_lets u v
  have hcnt : rd (wr u R.NVS_LAST_US (min us 6200)) R.NVS_FLUSH_CNT = rd s R.NVS_FLUSH_CNT := rd_wr_ne (by decide) _ _ _ _ _ _
  have h := commitBank_shows (wr u R.NVS_LAST_US (min us 6200)) f.bank f.data
  rw [hcnt] at h
  split
  · have hread : ∀ g : Fld, fldCode g ≠ fldCode R.FWU_STAT_HEALTH_COMMITTED →
        rd (wr { v with boot := { v.boot with healthOwed := false } } R.FWU_STAT_HEALTH_COMMITTED 1) g = rd v g := fun g hg =>
      (rd_wr_ne hg _ _ _ _ _ _).trans (rd_set_boot ..)
    rw [hread _ hvalid, hread _ (by decide), hread _ (by decide), hread _ (by decide)]
    exact h
  · exact h

theorem flushEnd_answers (us : Nat) (hrun : s.evr.flush = some f) : Ends (.flushEnd us) s (fun t =>
    (f.bank = 0 → t.evr.bank0 = some f.data ∧ t.evr.bank1 = s.evr.bank1 ∧ rd t R.NVS_STAT_VALID0 = 1) ∧
    (f.bank = 1 → t.evr.bank1 = some f.data ∧ t.evr.bank0 = s.evr.bank0 ∧ rd t R.NVS_STAT_VALID1 = 1) ∧
    rd t R.NVS_STAT_CURRENT = f.bank % 2 ∧ rd t R.NVS_SEQ = f.data.seq % 2 ^ 64 ∧
    rd t R.NVS_FLUSH_CNT = min (rd s R.NVS_FLUSH_CNT + 1) (2 ^ 32 - 1) ∧ rd t (hIrqRaw 24 Irq.NVS_FLUSH_DONE) 0 = 1 ∧
    t.now = max s.now (f.data.merid + 1000 * min us 6200) ∧ SameBut (recorded ++ pages [25] ++ [.now]) s t) := by
  obtain ⟨hbank0, hbank1, hvalid, hcur, hseq, hcnt⟩ := committed_shows (f := f) (s := s) us
  have hexec : exec (.flushEnd us) s = .next (commitFlush s us) := rfl
  have htouch : Touches (maskOf (recorded ++ pages [25] ++ [.now])) s (commitFlush s us) := commitFlush_touches rfl (Touches.refl _ s)
  have hclock : Touches (maskOf (recorded ++ pages [25])) { s with now := max s.now (f.data.merid + 1000 * min us 6200) }
      (flushOver (raiseIrq (committed f us s) 24 0 Irq.NVS_FLUSH_DONE)) := by
    refine flushOver_touches rfl (raiseIrq_touches rfl rfl ?_)
    unfold committed
    extract_lets u v
    have hv : Touches (maskOf (recorded ++ pages [25])) u v := commitBank_touches rfl (wr_touches rfl (Touches.refl _ u))
    exact Touches.ite (wr_touches rfl (Touches.boot rfl hv)) hv
  rw [commitFlush_eq hrun] at hexec htouch
  have hread : ∀ g ∈ [R.NVS_STAT_VALID0, R.NVS_STAT_VALID1, R.NVS_STAT_CURRENT, R.NVS_SEQ, R.NVS_FLUSH_CNT],
      rd (flushOver (raiseIrq (committed f us s) 24 0 Irq.NVS_FLUSH_DONE)) g = rd (committed f us s) g := by
    intro g hg
    have hcodes : ∀ g ∈ [R.NVS_STAT_VALID0, R.NVS_STAT_VALID1, R.NVS_STAT_CURRENT, R.NVS_SEQ, R.NVS_FLUSH_CNT],
      g.ty = 24 ∧ fldCode g ≠ fldCode R.NVS_STAT_FLUSHING ∧ fldCode g ≠ fldCode R.NVS_STAT_SEQ_END ∧
        fldCode g ≠ fldCode (hIrqRaw 24 Irq.NVS_FLUSH_DONE) := by decide
    obtain ⟨hty, hflushing, hend, hirq⟩ := hcodes g hg
    rw [rd_flushOver hty hflushing hend, rd_raiseIrq hirq]
  obtain ⟨hover0, hover1⟩ := flushOver_banks (raiseIrq (committed f us s) 24 0 Irq.NVS_FLUSH_DONE)
  rw [raiseIrq_evr] at hover0 hover1
  refine ⟨_, hexec, fun h => ?_, fun h => ?_, ?_, ?_, ?_, ?_, hclock.same (c := .now) rfl, sameBut_of_touches htouch⟩
  · rw [hread _ (by decide), hover0, hover1]
    exact ⟨(hbank0 h).1, (hbank0 h).2, (congrArg (rd _) (if_pos h)).symm.trans hvalid⟩
  · rw [hread _ (by decide), hover0, hover1]
    exact ⟨(hbank1 (by omega)).1, (hbank1 (by omega)).2, (congrArg (rd _) (if_neg (by omega))).symm.trans hvalid⟩
  · rw [hread _ (by decide), hcur]
  · rw [hread _ (by decide), hseq]
  · rw [hread _ (by decide), hcnt]
  · rw [rd_flushOver rfl (by decide) (by decide)]
    exact rd_raiseIrq_same _ _ _ _

/-! ### A flush that fails (R454) -/

theorem mramWriteError_answers (hrun : s.evr.flush = some f) : Ends .mramWriteError s (fun t =>
    (f.bank = 0 → t.evr.bank0 = none ∧ t.evr.bank1 = s.evr.bank1 ∧ rd t R.NVS_STAT_VALID0 = 0) ∧
    (f.bank = 1 → t.evr.bank1 = none ∧ t.evr.bank0 = s.evr.bank0 ∧ rd t R.NVS_STAT_VALID1 = 0) ∧
    rd t R.NVS_FLUSH_FAIL_CNT = min (rd s R.NVS_FLUSH_FAIL_CNT + 1) (2 ^ 32 - 1) ∧
    rd t (hIrqRaw 24 Irq.NVS_FLUSH_FAIL) 0 = 1 ∧ SameBut (recorded) s t) := by
  have hfield : ∀ g ∈ [R.NVS_STAT_VALID0, R.NVS_STAT_VALID1], fldCode g ≠ fldCode R.NVS_FLUSH_FAIL_CNT ∧ g.ty = 24 ∧ 0x100 ≤ g.off ∧
      g.off * 8 + g.lo < 2 ^ 15 ∧ g.w = 1 ∧ fldCode g ≠ fldCode R.NVS_STAT_FLUSHING ∧ fldCode g ≠ fldCode R.NVS_STAT_SEQ_END ∧
      fldCode R.NVS_FLUSH_FAIL_CNT ≠ fldCode g := by decide
  obtain ⟨hfail, hty, hlo, hhi, hwidth, hflushing, hend, hfail'⟩ := hfield (validBit f.bank) (by unfold validBit; split <;> simp)
  generalize hu : incSat (wr (cutFlush s) (validBit f.bank) 0) R.NVS_FLUSH_FAIL_CNT = u
  have hexec : exec .mramWriteError s = .next (flushOver (irqEvent u 24 0 Irq.NVS_FLUSH_FAIL 0 [])) := by
    refine congrArg Host.Outcome.next ?_
    rw [hrun, ← hu]
    rfl
  have htouch : Touches (maskOf recorded) s u :=
    hu ▸ incSat_touches (by decide) (wr_touches (by rw [hty]; rfl) (cutFlush_touches rfl (Touches.refl _ s)))
  have hevr : u.evr = if f.bank = 0 then { s.evr with bank0 := none } else { s.evr with bank1 := none } := by
    rw [← hu]
    show (cutFlush s).evr = _
    unfold cutFlush
    rw [hrun]
  have hread : ∀ g : Fld, g.ty = 24 → 0x100 ≤ g.off → g.off * 8 + g.lo < 2 ^ 15 → fldCode g ≠ fldCode R.NVS_STAT_FLUSHING →
      fldCode g ≠ fldCode R.NVS_STAT_SEQ_END → rd (flushOver (irqEvent u 24 0 Irq.NVS_FLUSH_FAIL 0 [])) g = rd u g :=
    fun g hgty hglo hghi hgflush hgend => by
      rw [rd_flushOver hgty hgflush hgend, rd_irqEvent_nvs hgty hglo hghi (by decide)]
  obtain ⟨hover0, hover1⟩ := flushOver_banks (irqEvent u 24 0 Irq.NVS_FLUSH_FAIL 0 [])
  obtain ⟨hirq0, hirq1⟩ := irqEvent_banks u 24 0 Irq.NVS_FLUSH_FAIL 0 []
  have hshown : rd u (validBit f.bank) = 0 := by
    rw [← hu, rd_incSat_ne hfail, rd_wr_fit _ _ _ _ (by rw [hwidth]; decide)]
  refine ⟨_, hexec, fun h => ?_, fun h => ?_, ?_, ?_, ?_⟩
  · have hbit : validBit f.bank = R.NVS_STAT_VALID0 := if_pos h
    rw [if_pos h] at hevr
    rw [hover0, hirq0, hover1, hirq1, hevr, ← hbit, hread _ hty hlo hhi hflushing hend]
    exact ⟨rfl, rfl, hshown⟩
  · have hbit : validBit f.bank = R.NVS_STAT_VALID1 := if_neg (by omega)
    rw [if_neg (by omega)] at hevr
    rw [hover0, hirq0, hover1, hirq1, hevr, ← hbit, hread _ hty hlo hhi hflushing hend]
    exact ⟨rfl, rfl, hshown⟩
  · rw [hread _ rfl (by decide) (by decide) (by decide) (by decide), ← hu, rd_incSat, rd_wr_ne hfail',
      (cutFlush_touches (mm := maskOf [.recorder]) rfl (Touches.refl _ s)).reads rfl]
    rfl
  · rw [rd_flushOver rfl (by decide) (by decide)]
    exact rd_irqEvent_same _ _ _ _ _ _
  · exact sameBut_of_touches (flushOver_touches rfl (irqEvent_touches rfl rfl htouch))

end

/-- Settles O50: a trigger starts a flush into the bank that is not current or is kept, and the end of a flush changes its own bank
alone, what was held and kept following after it. -/
theorem flushes : Obligations.Flushes := by
  refine ⟨fun w s hs hseq hidle => ?_, fun w f s hs hrun => ?_, flushPeriodExpiry_answers,
    fun s h => congrArg Host.Outcome.next (if_pos h), fun us f s hrun => flushEnd_answers us hrun,
    fun f s hrun _ => mramWriteError_answers hrun, fun us s hidle => ⟨?_, ?_⟩⟩
  · refine ⟨_, (congrArg Host.Outcome.next (regWrite_evrCtl hs)).trans (congrArg Host.Outcome.next (triggerFlush_starts hidle hseq 3)), ?_⟩
    exact ⟨_, rfl, rfl, rfl, rfl, rfl, rfl, rfl, rd_wr_fit _ _ _ _ (by decide), rfl, rfl⟩
  · refine ⟨_, (congrArg Host.Outcome.next (regWrite_evrCtl hs)).trans (congrArg Host.Outcome.next (triggerFlush_keeps hrun 3)), ?_⟩
    exact ⟨hrun, rfl⟩
  · refine congrArg Host.Outcome.next ?_
    rw [commitFlush, hidle]
  · refine congrArg Host.Outcome.next ?_
    rw [hidle]

end Sys2Proof.Proofs
end

section
/-!
Chapter 19, a layer: the NOR devices, the staging bitmap and the posting of a firmware step's outcome (R464, R468 to R472).
-/

namespace Sys2Proof.Proofs

open Sys2Proof Sys2Proof.Machine Sys2Proof.Safety Sys2Proof.Certificates Sys2Proof.Laws

/-! ### Sectors of the NOR devices (R464) -/

/-- A run of bytes in place: byte `n + i` of the run lies at `a + n + i`. -/
theorem tget_zipIdx (a : Nat) (l : List Byte) (n i : Nat) :
    tget (none : Option Byte) ((l.zipIdx n).map (fun e => (a + e.2, some e.1))) (a + n + i) = l[i]? := by
  induction l generalizing n i with
  | nil => rfl
  | cons b l ih =>
    rw [List.zipIdx_cons, List.map_cons, tget]
    cases i with
    | zero => exact if_pos rfl
    | succ i =>
      rw [if_neg (by omega), show a + n + (i + 1) = a + (n + 1) + i by omega, ih]
      rfl

theorem tget_append_of_absent {α : Type} {d : α} {l : Tbl α} {k : Nat} (h : ∀ e ∈ l, e.1 ≠ k) (m : Tbl α) :
    tget d (l ++ m) k = tget d m k := by
  induction l with
  | nil => rfl
  | cons e l ih =>
    rw [List.cons_append, tget, if_neg fun hk => h e List.mem_cons_self hk.symm]
    exact ih fun e' he' => h e' (List.mem_cons_of_mem _ he')

theorem tget_append_of_some {α : Type} {l : Tbl (Option α)} {k : Nat} {v : α} (h : tget none l k = some v) (m : Tbl (Option α)) :
    tget none (l ++ m) k = some v := by
  induction l with
  | nil => cases h
  | cons e l ih =>
    rw [tget] at h
    rw [List.cons_append, tget]
    split
    · next hk => rwa [if_pos hk] at h
    · next hk =>
      rw [if_neg hk] at h
      exact ih h

/-- The bytes of a sector after it was programmed: those given, and 0xFF beyond them. -/
theorem norByte_norProgram (s : State) (slot sector : Nat) (bs : List Byte) {i : Nat} (hi : i < 65536) :
    norByte (norProgram s slot sector bs) (norAddr slot (65536 * sector) + i) = bs.getD i 0xFF := by
  unfold norByte norProgram
  dsimp only
  generalize norAddr slot (65536 * sector) = a
  have hwhole : ((bs.take 65536) ++ List.replicate (65536 - (bs.take 65536).length) (0xFF : Byte))[i]? = some (bs.getD i 0xFF) := by
    by_cases hin : i < bs.length
    · rw [List.getElem?_append_left (by rw [List.length_take]; omega), List.getElem?_take_of_lt hi, List.getD_eq_getElem?_getD,
        List.getElem?_eq_getElem hin]
      rfl
    · rw [List.getElem?_append_right (by rw [List.length_take]; omega), List.getD_eq_default _ _ (by omega),
        List.getElem?_replicate_of_lt (by rw [List.length_take]; omega)]
  have hput := tget_zipIdx a ((bs.take 65536) ++ List.replicate (65536 - (bs.take 65536).length) (0xFF : Byte)) 0 i
  rw [Nat.add_zero, hwhole] at hput
  rw [List.append_assoc, tget_append_of_absent, tget_append_of_some hput]
  · rfl
  · intro e he
    have hlt := (List.mem_filter.mp he).2
    simp only [decide_eq_true_eq] at hlt
    omega

theorem norAddr_add (slot off : Nat) : norAddr slot off = norAddr slot 0 + off := rfl

/-- Sector 0 of a slot, programmed with a manifest, reads as the manifest. -/
theorem norBytes_norProgram (s : State) (slot : Nat) {m : List Byte} (hm : m.length ≤ 65536) :
    norBytes (norProgram s slot 0 m) slot 0 m.length = m := by
  refine List.ext_getElem (by simp [norBytes]) fun i h1 h2 => ?_
  simp only [norBytes, List.getElem_map, List.getElem_range]
  rw [show norAddr slot 0 = norAddr slot (65536 * 0) from rfl, norByte_norProgram _ _ _ _ (by omega), List.getD_eq_getElem?_getD,
    List.getElem?_eq_getElem h2]
  rfl

theorem norBytes_congr {s t : State} (h : t.boot.nor = s.boot.nor) (slot off n : Nat) : norBytes t slot off n = norBytes s slot off n := by
  simp only [norBytes, norByte, h]

/-! ### The staging bitmap (R471) -/

theorem rd_setBitmap {f : Fld} (hmap : ∀ j < 16, fldCode f ≠ fldCode (R.FWU_BITMAP j)) (hstaged : fldCode f ≠ fldCode R.FWU_STAT_STAGED)
    (s : State) (bits : List Nat) (i k : Nat) : rd (setBitmap s bits) f i k = rd s f i k := by
  unfold setBitmap
  rw [rd_wr_ne hstaged]
  exact List.foldlRecOn _ _ (motive := fun u : State => rd u f i k = rd s f i k) rfl fun u hu j hj =>
    (rd_wr_ne (hmap j (List.mem_range.mp hj)) _ _ _ _ _ _).trans hu

theorem setBitmap_boot (s : State) (bits : List Nat) : (setBitmap s bits).boot = s.boot :=
  (setBitmap_touches (mm := 0x200000000000000) rfl (Touches.refl _ s)).same (c := .boot) rfl

theorem fldCode_bitmap_ne {i j : Nat} (hi : i < 16) (hj : j < 16) (h : i ≠ j) : fldCode (R.FWU_BITMAP i) ≠ fldCode (R.FWU_BITMAP j) := by
  simp only [fldCode, R.FWU_BITMAP]
  omega

/-- An empty bitmap shows no chunk. -/
theorem setBitmap_nil (s : State) : rd (setBitmap s []) R.FWU_STAT_STAGED = 0 ∧ ∀ j < 16, rd (setBitmap s []) (R.FWU_BITMAP j) = 0 := by
  refine ⟨(rd_wr ..).trans (by decide +kernel), fun j hj => ?_⟩
  have hcode : ∀ j < 16, fldCode (R.FWU_BITMAP j) ≠ fldCode R.FWU_STAT_STAGED := by decide
  unfold setBitmap
  rw [rd_wr_ne (hcode j hj)]
  exact foldl_reaches (P := fun u : State => rd u (R.FWU_BITMAP j) = 0) (List.mem_range.mpr hj)
    (fun u => (rd_wr ..).trans (by rw [List.getD_nil]; rfl))
    (fun u i hi hu => by
      by_cases hij : j = i
      · subst hij
        exact (rd_wr ..).trans (by rw [List.getD_nil]; rfl)
      · rw [rd_wr_ne (fldCode_bitmap_ne hj (List.mem_range.mp hi) hij), hu]) s

/-! ### Outcomes (R468) -/

/-- An event of the staging page leaves the page's own registers. -/
theorem rd_fwuEvent (s : State) {n : Nat} (hn : n < 1024) (tenant : Nat) (detail : List Nat) {f : Fld} (hty : f.ty = 25)
    (hlo : 0x100 ≤ f.off) (hhi : f.off * 8 + f.lo < 2 ^ 15) (i k : Nat) : rd (irqEvent s 25 0 n tenant detail) f i k = rd s f i k :=
  rd_irqEvent _ _ _ _ _ _ (by rw [hty]; rfl) (fldCode_ne_of_header hlo hhi (by simp only [hIrqRaw]; omega)) _ _

theorem statusEvent_boot (s : State) (ty i : Nat) (st : Status) (tenant : Nat) (detail : List Nat) :
    (statusEvent s ty i st tenant detail).boot = s.boot :=
  recordEvent_boot (by split <;> decide) _ _ _ _ _ _

section
variable (s : State) (index : Nat) (st : Status)

/-- The registers of an outcome, with the count of digests that do not agree. -/
def posted : State :=
  let t := wr (wr (wr s R.FWU_RESULT_VALID 1) R.FWU_RESULT_INDEX index) R.FWU_RESULT_STATUS (statusValue st)
  if st = .fwuChunkDigest then incSat t R.FWU_DIGEST_FAIL_CNT else t

/-- What follows a post on the page's own registers and the boot state: nothing. -/
theorem postResult_leaves : (postResult s index st).boot = s.boot ∧
    ∀ f : Fld, f.ty = 25 → 0x100 ≤ f.off → f.off * 8 + f.lo < 2 ^ 15 → ∀ i k, rd (postResult s index st) f i k = rd (posted s index st) f i k := by
  unfold postResult posted
  extract_lets t u
  by_cases hok : st = .ok
  · rw [if_pos hok, if_neg (by rw [hok]; decide)]
    exact ⟨irqEvent_boot .., fun f hty hlo hhi i k => rd_fwuEvent _ (by decide) _ _ hty hlo hhi _ _⟩
  · rw [if_neg hok]
    refine ⟨?_, fun f hty hlo hhi i k => ?_⟩
    · rw [raiseIrq_boot, statusEvent_boot]
      simp only [u]
      split <;> rfl
    · rw [rd_raiseIrq (fldCode_ne_of_header hlo hhi (by decide)), statusEvent, rd_recordEvent _ _ _ _ _ _ _ (by rw [hty]; rfl)]

theorem postResult_shows : rd (postResult s index st) R.FWU_RESULT_VALID = 1 ∧ rd (postResult s index st) R.FWU_RESULT_INDEX = index % 2 ^ 9 ∧
    rd (postResult s index st) R.FWU_RESULT_STATUS = statusValue st ∧
    (st = .fwuChunkDigest → rd (postResult s index st) R.FWU_DIGEST_FAIL_CNT = min (rd s R.FWU_DIGEST_FAIL_CNT + 1) (2 ^ 32 - 1)) := by
  have hread := (postResult_leaves s index st).2
  rw [hread _ rfl (by decide) (by decide), hread _ rfl (by decide) (by decide), hread _ rfl (by decide) (by decide),
    hread _ rfl (by decide) (by decide)]
  unfold posted
  extract_lets t
  have hcount : ∀ f ∈ [R.FWU_RESULT_VALID, R.FWU_RESULT_INDEX, R.FWU_RESULT_STATUS],
      rd (if st = .fwuChunkDigest then incSat t R.FWU_DIGEST_FAIL_CNT else t) f = rd t f := by
    have hcodes : ∀ f ∈ [R.FWU_RESULT_VALID, R.FWU_RESULT_INDEX, R.FWU_RESULT_STATUS], fldCode f ≠ fldCode R.FWU_DIGEST_FAIL_CNT := by
      decide
    intro f hf
    split
    · exact rd_incSat_ne (hcodes f hf) _ _ _ _ _
    · rfl
  refine ⟨?_, ?_, ?_, fun h => ?_⟩
  · rw [hcount _ (by decide)]
    exact (rd_wr_ne (by decide) _ _ _ _ _ _).trans ((rd_wr_ne (by decide) _ _ _ _ _ _).trans (rd_wr_fit _ _ _ _ (by decide)))
  · rw [hcount _ (by decide)]
    exact (rd_wr_ne (by decide) _ _ _ _ _ _).trans (rd_wr ..)
  · rw [hcount _ (by decide)]
    exact rd_wr_fit _ _ _ _ (statusValue_lt st)
  · rw [if_pos h, rd_incSat]
    have ht : rd t R.FWU_DIGEST_FAIL_CNT = rd s R.FWU_DIGEST_FAIL_CNT :=
      (rd_wr_ne (by decide) _ _ _ _ _ _).trans ((rd_wr_ne (by decide) _ _ _ _ _ _).trans (rd_wr_ne (by decide) _ _ _ _ _ _))
    rw [ht]
    rfl

/-- The registers that no outcome shows. -/
theorem rd_postResult {f : Fld} (hty : f.ty = 25) (hlo : 0x100 ≤ f.off) (hhi : f.off * 8 + f.lo < 2 ^ 15)
    (hf : ∀ g ∈ [R.FWU_RESULT_VALID, R.FWU_RESULT_INDEX, R.FWU_RESULT_STATUS, R.FWU_DIGEST_FAIL_CNT], fldCode f ≠ fldCode g) (i k : Nat) :
    rd (postResult s index st) f i k = rd s f i k := by
  rw [(postResult_leaves s index st).2 f hty hlo hhi]
  unfold posted
  extract_lets t
  have ht : rd t f i k = rd s f i k :=
    (rd_wr_ne (hf _ (by simp)) _ _ _ _ _ _).trans ((rd_wr_ne (hf _ (by simp)) _ _ _ _ _ _).trans (rd_wr_ne (hf _ (by simp)) _ _ _ _ _ _))
  split
  · exact (rd_incSat_ne (hf _ (by simp)) _ _ _ _ _).trans ht
  · exact ht

/-- The registers and state of staging that a post leaves. -/
theorem rd_postResult_state : rd (postResult s index st) R.FWU_STAT_STATE = rd s R.FWU_STAT_STATE :=
  rd_postResult _ _ _ rfl (by decide) (by decide) (by decide) _ _

theorem rd_postResult_bitmap {j : Nat} (hj : j < 16) : rd (postResult s index st) (R.FWU_BITMAP j) = rd s (R.FWU_BITMAP j) := by
  have hcodes : ∀ j < 16, (∀ g ∈ [R.FWU_RESULT_VALID, R.FWU_RESULT_INDEX, R.FWU_RESULT_STATUS, R.FWU_DIGEST_FAIL_CNT],
      fldCode (R.FWU_BITMAP j) ≠ fldCode g) := by decide
  exact rd_postResult _ _ _ rfl (Nat.le_add_right_of_le (by decide)) (by simp only [R.FWU_BITMAP]; omega) (hcodes j hj) _ _

end

/-! ### A BEGIN that is accepted (R469) -/

theorem stagingTarget_lt (s : State) (e : StartEnv) : stagingTarget s e < 2 := by
  unfold stagingTarget
  split
  · split
    · decide
    · split
      · decide
      · split <;> decide
  · omega

section
variable {s : State} {e : StartEnv} {m : List Byte} {chain : Bool} (hidle : rd s R.FWU_STAT_STATE = 0)
include hidle

/-- What an accepted BEGIN in IDLE leaves: the manifest in the target's sector 0, and an empty bitmap. -/
theorem beginStaging_shows (hm : m.length ≤ 65536) :
    rd (beginStaging s e m chain) R.FWU_STAT_STATE = 1 ∧ rd (beginStaging s e m chain) R.FWU_STAT_TARGET = stagingTarget s e ∧
    rd (beginStaging s e m chain) R.FWU_STAT_CHAIN_SOURCE = b2n chain ∧ rd (beginStaging s e m chain) R.FWU_STAT_STAGED = 0 ∧
    (beginStaging s e m chain).boot.digest = manDigest m ∧ (beginStaging s e m chain).boot.chunks = manChunks m ∧
    norBytes (beginStaging s e m chain) (stagingTarget s e) 0 m.length = m := by
  have hmap : ∀ f ∈ [R.FWU_STAT_STATE, R.FWU_STAT_TARGET, R.FWU_STAT_CHAIN_SOURCE],
      (∀ j < 16, fldCode f ≠ fldCode (R.FWU_BITMAP j)) ∧ fldCode f ≠ fldCode R.FWU_STAT_STAGED ∧ fldCode f ≠ fldCode R.FWU_CHAIN_DONE := by
    decide
  have htarget := stagingTarget_lt s e
  unfold beginStaging
  rw [if_neg (by simp [hidle])]
  extract_lets t a s1 s2 b s3 s4
  have hread : ∀ f ∈ [R.FWU_STAT_STATE, R.FWU_STAT_TARGET, R.FWU_STAT_CHAIN_SOURCE],
      rd (wr (setBitmap s4 []) R.FWU_CHAIN_DONE 0) f = rd s4 f := fun f hf => by
    obtain ⟨h1, h2, h3⟩ := hmap f hf
    rw [rd_wr_ne h3, rd_setBitmap h1 h2]
  rw [hread _ (by decide), hread _ (by decide), hread _ (by decide)]
  refine ⟨?_, ?_, ?_, ?_, rfl, rfl, ?_⟩
  · exact (rd_wr_ne (by decide) _ _ _ _ _ _).trans ((rd_wr_ne (by decide) _ _ _ _ _ _).trans (rd_wr_fit _ _ _ _ (by decide)))
  · exact (rd_wr_ne (by decide) _ _ _ _ _ _).trans (rd_wr_fit _ _ _ _ htarget)
  · exact rd_wr_fit _ _ _ _ (by cases chain <;> decide)
  · rw [rd_wr_ne (by decide)]
    exact (setBitmap_nil s4).1
  · have hnor : (wr (setBitmap s4 []) R.FWU_CHAIN_DONE 0).boot.nor = s2.boot.nor := (congrArg Boot.nor (setBitmap_boot s4 []) : (setBitmap s4 []).boot.nor = s4.boot.nor)
    exact (norBytes_congr hnor _ _ _).trans (norBytes_norProgram _ _ hm)

end

/-- A manifest whose ranges are legal fits a sector. -/
theorem length_le_of_manLen {m : List Byte} (hlen : manLen m = m.length) (hranges : manRanges m = true) : m.length ≤ 65536 := by
  unfold manRanges at hranges
  simp only [Bool.and_eq_true, decide_eq_true_eq] at hranges
  obtain ⟨⟨-, hmax⟩, hchunks⟩ := hranges
  unfold manLen manBody at hlen
  split at hlen <;> omega

/-! ### A trial that falls back (R478) -/

/-- With power good and neither dusk nor a warm reset under way, a fall back begins a warm reset. -/
theorem fallBack_shows {s : State} (hwarm : s.boot.warm = none) (hdusk : s.pwr.dusk = none) (hgood : s.pwr.good = true) :
    (fallBack s).boot = { s.boot with trialUp := 1800, warm := some s.now, cause := 7, toRecovery := false } ∧
    rd (fallBack s) R.BOOT_TRIAL_LEFT = 0 := by
  unfold fallBack
  extract_lets _ u
  have hevent : Touches (maskOf recorded) { s with boot := { s.boot with trialUp := 1800 } } u := statusEvent_touches rfl (Touches.refl _ _)
  have hboot : u.boot = { s.boot with trialUp := 1800 } := statusEvent_boot ..
  have hpwr : u.pwr = s.pwr := hevent.same (c := .power) rfl
  have hnow : u.now = s.now := hevent.same (c := .now) rfl
  have hgo : beginWarm (wr u R.BOOT_TRIAL_LEFT 0) 7 false =
      { wr u R.BOOT_TRIAL_LEFT 0 with boot := { u.boot with warm := some u.now, cause := 7, toRecovery := false } } := by
    refine if_neg ?_
    show ¬(u.boot.warm.isSome || u.pwr.dusk.isSome || !u.pwr.good) = true
    rw [hboot, hpwr]
    simp [hwarm, hdusk, hgood]
  rw [hgo, hboot, hnow]
  exact ⟨rfl, (rd_set_boot ..).trans (rd_wr_fit _ _ _ _ (by decide))⟩

end Sys2Proof.Proofs
end

section
/-!
Chapter 19, the staging of an image and its trial (O53, R468 to R472, R476 to R478).
-/

namespace Sys2Proof.Proofs

open Sys2Proof Sys2Proof.Machine Sys2Proof.Safety Sys2Proof.Certificates Sys2Proof.Laws

/-- FWU_CTL holds actions alone. -/
theorem fwuAction_taken {s : State} {w : Writer} (hw : Writable s w 25 0) (k : State → State) : fwuAction s w k = k s :=
  regWrite_plain hw.1 (fun h => hw.2 h.2) (by decide)

/-! ### BEGIN (R469) -/

section
variable {w : Writer} {e : StartEnv} {s : State} (hw : Writable s w 25 0) (hdev : rd s R.FWU_CHUNK_SEL_DEVICE = 0)
include hdev

theorem fwuRead_some (a n : Nat) (bs : List Byte) : fwuRead s a n (some bs) = .ok (bs.take n) :=
  if_neg (by rw [hdev]; decide)

theorem fwuRead_none (a n : Nat) : fwuRead s a n none = .error .dmaHostError :=
  if_neg (by rw [hdev]; decide)

include hw

theorem fwuBegin_unread : Ends (.fwuBegin w none e) s (fun t =>
    rd t R.FWU_RESULT_VALID = 1 ∧ rd t R.FWU_RESULT_INDEX = 0x1FF ∧ rd t R.FWU_RESULT_STATUS = statusValue .dmaHostError ∧
    rd t R.FWU_STAT_STATE = rd s R.FWU_STAT_STATE ∧ t.boot.nor = s.boot.nor) := by
  have hexec : exec (.fwuBegin w none e) s = .next (postResult s 0x1FF .dmaHostError) := by
    refine congrArg Host.Outcome.next ((fwuAction_taken hw _).trans ?_)
    unfold doBegin
    dsimp only
    rw [fwuRead_none hdev]
  obtain ⟨hvalid, hindex, hstatus, -⟩ := postResult_shows s 0x1FF .dmaHostError
  exact ⟨_, hexec, hvalid, hindex, hstatus, rd_postResult_state _ _ _, congrArg Boot.nor (postResult_leaves s 0x1FF .dmaHostError).1⟩

section
variable {m : List Byte} (hread : m.length = rd s R.FWU_MAN_LEN) (hlen : manLen m = m.length) (hranges : manRanges m = true)
include hread hlen hranges

theorem exec_fwuBegin_fails {st : Status} (hcheck : beginCheck s m = some st) :
    exec (.fwuBegin w (some m) e) s = .next (postResult s 0x1FF st) := by
  refine congrArg Host.Outcome.next ((fwuAction_taken hw _).trans ?_)
  unfold doBegin
  dsimp only
  rw [fwuRead_some hdev]
  dsimp only
  rw [← hread, List.take_length, if_neg (by simp [hlen, hranges]), hcheck]

theorem exec_fwuBegin_stages (hcheck : beginCheck s m = none) :
    exec (.fwuBegin w (some m) e) s = .next (postResult (beginStaging s e m false) 0x1FF .ok) := by
  refine congrArg Host.Outcome.next ((fwuAction_taken hw _).trans ?_)
  unfold doBegin
  dsimp only
  rw [fwuRead_some hdev]
  dsimp only
  rw [← hread, List.take_length, if_neg (by simp [hlen, hranges]), hcheck]

theorem fwuBegin_fails {st : Status} (hcheck : beginCheck s m = some st) : Ends (.fwuBegin w (some m) e) s (fun t =>
    rd t R.FWU_RESULT_STATUS = statusValue st ∧ rd t R.FWU_RESULT_INDEX = 0x1FF ∧ rd t R.FWU_STAT_STATE = rd s R.FWU_STAT_STATE ∧
    t.boot.nor = s.boot.nor) := by
  have hexec := exec_fwuBegin_fails (e := e) hw hdev hread hlen hranges hcheck
  obtain ⟨-, hindex, hstatus, -⟩ := postResult_shows s 0x1FF st
  exact ⟨_, hexec, hstatus, hindex, rd_postResult_state _ _ _, congrArg Boot.nor (postResult_leaves s 0x1FF st).1⟩

theorem fwuBegin_stages (hcheck : beginCheck s m = none) (hidle : rd s R.FWU_STAT_STATE = 0) : Ends (.fwuBegin w (some m) e) s (fun t =>
    rd t R.FWU_STAT_STATE = 1 ∧ rd t R.FWU_STAT_TARGET = stagingTarget s e ∧ t.boot.digest = manDigest m ∧
    t.boot.chunks = manChunks m ∧ rd t R.FWU_RESULT_STATUS = statusValue .ok ∧ rd t R.FWU_STAT_STAGED = 0 ∧
    norBytes t (stagingTarget s e) 0 m.length = m) := by
  have hexec := exec_fwuBegin_stages (e := e) hw hdev hread hlen hranges hcheck
  obtain ⟨hstate, htarget, -, hstaged, hdigest, hchunks, hnor⟩ :=
    beginStaging_shows (e := e) (chain := false) hidle (length_le_of_manLen hlen hranges)
  generalize beginStaging s e m false = u at hexec hstate htarget hstaged hdigest hchunks hnor
  have hboot := (postResult_leaves u 0x1FF .ok).1
  refine ⟨_, hexec, (rd_postResult_state _ _ _).trans hstate, ?_, ?_, ?_, (postResult_shows u 0x1FF .ok).2.2.1, ?_, ?_⟩
  · exact (rd_postResult _ _ _ rfl (by decide) (by decide) (by decide) _ _).trans htarget
  · rw [hboot, hdigest]
  · rw [hboot, hchunks]
  · exact (rd_postResult _ _ _ rfl (by decide) (by decide) (by decide) _ _).trans hstaged
  · exact (norBytes_congr (congrArg Boot.nor hboot) _ _ _).trans hnor

end

/-! ### Chunks (R470) -/

theorem chunkGo_takes (bs : List Byte) (hnone : s.boot.chunk = none) (hcheck : chunkCheck s (rd s R.FWU_CHUNK_SEL_INDEX) = none)
    (hlen : bs.length = chunkLen (stagedMan s) (rd s R.FWU_CHUNK_SEL_INDEX)) :
    exec (.chunkGo w (some bs)) s = .next (takeChunk s (rd s R.FWU_CHUNK_SEL_INDEX) bs false) := by
  refine congrArg Host.Outcome.next ((fwuAction_taken hw _).trans ?_)
  unfold doChunk
  rw [if_neg (by simp [hnone])]
  dsimp only
  rw [hcheck]
  dsimp only
  rw [fwuRead_some hdev]
  dsimp only
  rw [← hlen, List.take_length]

end

section
variable {w : Writer} {s : State} (hw : Writable s w 25 0)
include hw

theorem chunkGo_busy (data : Option (List Byte)) (hbusy : s.boot.chunk.isSome = true) : Ends (.chunkGo w data) s (fun t =>
    t.boot.chunk = s.boot.chunk ∧ rd t (hErrStatus 25) 0 = statusValue .dmaBusy) :=
  ⟨_, congrArg Host.Outcome.next ((fwuAction_taken hw _).trans (if_pos hbusy)), rfl, rd_refuseWrite_hErrStatus _ _ _ _ _⟩

theorem chunkGo_fails (data : Option (List Byte)) (st : Status) (hnone : s.boot.chunk = none)
    (hcheck : chunkCheck s (rd s R.FWU_CHUNK_SEL_INDEX) = some st) :
    Ends (.chunkGo w data) s (fun t => t.boot.chunk = none ∧ rd t R.FWU_RESULT_STATUS = statusValue st) := by
  have hexec : exec (.chunkGo w data) s = .next (postResult s (rd s R.FWU_CHUNK_SEL_INDEX) st) := by
    refine congrArg Host.Outcome.next ((fwuAction_taken hw _).trans ?_)
    unfold doChunk
    rw [if_neg (by simp [hnone])]
    dsimp only
    rw [hcheck]
  exact ⟨_, hexec, (congrArg Boot.chunk (postResult_leaves _ _ _).1).trans hnone, (postResult_shows _ _ _).2.2.1⟩

theorem chunkGo_answers (bs : List Byte) (hnone : s.boot.chunk = none) (hdev : rd s R.FWU_CHUNK_SEL_DEVICE = 0)
    (hcheck : chunkCheck s (rd s R.FWU_CHUNK_SEL_INDEX) = none)
    (hlen : bs.length = chunkLen (stagedMan s) (rd s R.FWU_CHUNK_SEL_INDEX)) :
    (chunkGood (stagedMan s) (rd s R.FWU_CHUNK_SEL_INDEX) bs = false → Ends (.chunkGo w (some bs)) s (fun t => t.boot.chunk = none ∧
      rd t R.FWU_RESULT_STATUS = statusValue .fwuChunkDigest ∧
      rd t R.FWU_DIGEST_FAIL_CNT = min (rd s R.FWU_DIGEST_FAIL_CNT + 1) (2 ^ 32 - 1))) ∧
    (chunkGood (stagedMan s) (rd s R.FWU_CHUNK_SEL_INDEX) bs = true → bitSet s (rd s R.FWU_CHUNK_SEL_INDEX) = false →
      Ends (.chunkGo w (some bs)) s (fun t => t.boot.chunk = some (rd s R.FWU_CHUNK_SEL_INDEX, bs, false) ∧ t.boot.nor = s.boot.nor)) := by
  have hexec := chunkGo_takes hw hdev bs hnone hcheck hlen
  unfold takeChunk at hexec
  refine ⟨fun hbad => ?_, fun hgood hclear => ?_⟩
  · rw [if_pos (by simp [hbad])] at hexec
    obtain ⟨-, -, hstatus, hcount⟩ := postResult_shows s (rd s R.FWU_CHUNK_SEL_INDEX) .fwuChunkDigest
    exact ⟨_, hexec, (congrArg Boot.chunk (postResult_leaves _ _ _).1).trans hnone, hstatus, hcount rfl⟩
  · rw [if_neg (by simp [hlen, hgood]), if_neg (by simp [hclear])] at hexec
    exact ⟨_, hexec, rfl, rfl⟩

end

/-! ### The end of a chunk (R470) -/

/-- Adding a bit that is clear sets it, whatever the word's width cuts off above it. -/
theorem bitsOf_add_two_pow {n k : Nat} (hk : k < 32) (hclear : bitsOf n k 1 ≠ 1) : bitsOf ((n + 2 ^ k) % 2 ^ 32) k 1 = 1 := by
  have hbit : n.testBit k = false := by
    rw [Nat.testBit_eq_decide_div_mod_eq]
    exact decide_eq_false hclear
  have hset : ((n + 2 ^ k) % 2 ^ 32).testBit k = true := by
    rw [Nat.testBit_mod_two_pow, decide_eq_true hk, Nat.add_comm, Nat.testBit_two_pow_add_eq, hbit]
    rfl
  rw [Nat.testBit_eq_decide_div_mod_eq] at hset
  exact of_decide_eq_true hset

/-- The registers of a chunk that is staged, before they are posted. -/
def staged (s : State) (i : Nat) : State :=
  let f := R.FWU_BITMAP (i / 32)
  let t := wr s f (rd s f + 2 ^ (i % 32))
  incSat (wr t R.FWU_STAT_STAGED (rd t R.FWU_STAT_STAGED + 1)) R.FWU_CHUNK_CNT

theorem staged_shows {s : State} {i : Nat} (hi : i < 511) (hclear : bitSet s i = false) :
    (staged s i).boot = s.boot ∧ bitSet (staged s i) i = true ∧
    rd (staged s i) R.FWU_STAT_STAGED = (rd s R.FWU_STAT_STAGED + 1) % 2 ^ 9 ∧ rd (staged s i) R.FWU_STAT_STATE = rd s R.FWU_STAT_STATE := by
  have hj : i / 32 < 16 := by omega
  have hcodes : ∀ j < 16, fldCode (R.FWU_BITMAP j) ≠ fldCode R.FWU_CHUNK_CNT ∧ fldCode (R.FWU_BITMAP j) ≠ fldCode R.FWU_STAT_STAGED ∧
      fldCode R.FWU_STAT_STAGED ≠ fldCode (R.FWU_BITMAP j) ∧ fldCode R.FWU_STAT_STATE ≠ fldCode (R.FWU_BITMAP j) := by decide
  obtain ⟨hcnt, hstaged, hstaged', hstate⟩ := hcodes _ hj
  unfold staged
  extract_lets f t
  refine ⟨rfl, decide_eq_true ?_, ?_, ?_⟩
  · rw [rd_incSat_ne hcnt, rd_wr_ne hstaged]
    have hword : rd t (R.FWU_BITMAP (i / 32)) = (rd s f + 2 ^ (i % 32)) % 2 ^ 32 := rd_wr ..
    rw [hword]
    exact bitsOf_add_two_pow (Nat.mod_lt _ (by decide)) (of_decide_eq_false hclear)
  · rw [rd_incSat_ne (by decide), rd_wr, rd_wr_ne hstaged']
    rfl
  · rw [rd_incSat_ne (by decide), rd_wr_ne (by decide), rd_wr_ne hstate]

/-- A flush that is triggered leaves the boot state. -/
theorem triggerFlush_boot (s : State) (cause : Nat) : (triggerFlush s cause).boot = s.boot :=
  (triggerFlush_touches (mm := 0x100000000000010) rfl (Touches.refl _ s)).same (c := .boot) rfl

/-- A flush that is triggered leaves every register outside the store's page. -/
theorem rd_triggerFlush_page {f : Fld} (h : Nat.testBit 0x100000000000010 (32 + f.ty % 32) = false) (s : State) (cause i k : Nat) :
    rd (triggerFlush s cause) f i k = rd s f i k :=
  (triggerFlush_touches rfl (Touches.refl _ s)).reads h

/-- The state after the image is complete. -/
def imageComplete (u : State) : State := triggerFlush (irqEvent (wr u R.FWU_STAT_STATE 2) 25 0 Irq.FWU_COMPLETE 0 []) 3

theorem rd_imageComplete {f : Fld} (hty : f.ty = 25) (hlo : 0x100 ≤ f.off) (hhi : f.off * 8 + f.lo < 2 ^ 15) (u : State) (i k : Nat) :
    rd (imageComplete u) f i k = rd (wr u R.FWU_STAT_STATE 2) f i k :=
  (rd_triggerFlush_page (by rw [hty]; rfl) _ _ _ _).trans (rd_fwuEvent _ (by decide) _ _ hty hlo hhi _ _)

theorem chunkStaged_eq (s : State) (i : Nat) : chunkStaged s i =
    if rd (postResult (staged s i) i .ok) R.FWU_STAT_STAGED = (postResult (staged s i) i .ok).boot.chunks then
      imageComplete (postResult (staged s i) i .ok)
    else postResult (staged s i) i .ok := rfl

theorem chunkStaged_shows {s : State} {i : Nat} (hi : i < 511) (hclear : bitSet s i = false) :
    (chunkStaged s i).boot = s.boot ∧ bitSet (chunkStaged s i) i = true ∧
    rd (chunkStaged s i) R.FWU_STAT_STAGED = (rd s R.FWU_STAT_STAGED + 1) % 2 ^ 9 ∧
    rd (chunkStaged s i) R.FWU_RESULT_STATUS = statusValue .ok ∧ rd (chunkStaged s i) R.FWU_RESULT_INDEX = i ∧
    rd (chunkStaged s i) R.FWU_STAT_STATE = (if (rd s R.FWU_STAT_STAGED + 1) % 2 ^ 9 = s.boot.chunks then 2 else rd s R.FWU_STAT_STATE) := by
  have hj : i / 32 < 16 := by omega
  obtain ⟨hboot, hbit, hstaged, hstate⟩ := staged_shows hi hclear
  obtain ⟨-, hindex, hstatus, -⟩ := postResult_shows (staged s i) i .ok
  have hpboot := (postResult_leaves (staged s i) i .ok).1.trans hboot
  have hpstaged : rd (postResult (staged s i) i .ok) R.FWU_STAT_STAGED = _ :=
    (rd_postResult _ _ _ rfl (by decide) (by decide) (by decide) _ _).trans hstaged
  have hpbit : bitSet (postResult (staged s i) i .ok) i = true := by
    rw [← hbit, bitSet, bitSet, rd_postResult_bitmap _ _ _ hj]
  have hpstate := (rd_postResult_state (staged s i) i .ok).trans hstate
  rw [Nat.mod_eq_of_lt (show i < 2 ^ 9 by omega)] at hindex
  rw [chunkStaged_eq, hpstaged, hpboot]
  generalize postResult (staged s i) i .ok = u at hindex hstatus hpboot hpstaged hpbit hpstate
  split
  · have hcodes : ∀ f ∈ [R.FWU_STAT_STAGED, R.FWU_RESULT_STATUS, R.FWU_RESULT_INDEX], f.ty = 25 ∧ 0x100 ≤ f.off ∧
        f.off * 8 + f.lo < 2 ^ 15 ∧ fldCode f ≠ fldCode R.FWU_STAT_STATE := by decide
    have hread : ∀ f ∈ [R.FWU_STAT_STAGED, R.FWU_RESULT_STATUS, R.FWU_RESULT_INDEX], rd (imageComplete u) f = rd u f := fun f hf => by
      obtain ⟨hty, hlo, hhi, hne⟩ := hcodes f hf
      rw [rd_imageComplete hty hlo hhi, rd_wr_ne hne]
    have hmap : ∀ j < 16, fldCode (R.FWU_BITMAP j) ≠ fldCode R.FWU_STAT_STATE := by decide
    refine ⟨?_, ?_, (hread _ (by decide)).trans hpstaged, (hread _ (by decide)).trans hstatus, (hread _ (by decide)).trans hindex, ?_⟩
    · rw [imageComplete, triggerFlush_boot, irqEvent_boot]
      exact hpboot
    · rw [← hpbit, bitSet, bitSet, rd_imageComplete rfl (Nat.le_add_right_of_le (by decide)) (by simp only [R.FWU_BITMAP]; omega),
        rd_wr_ne (hmap _ hj)]
    · rw [rd_imageComplete rfl (by decide) (by decide)]
      exact rd_wr_fit _ _ _ _ (by decide)
  · exact ⟨hpboot, hpbit, hpstaged, hstatus, hindex, hpstate⟩

/-- The chunk's sector holds the bytes `b`, and no chunk is in progress. -/
def programmed (s : State) (i : Nat) (b : List Byte) : State :=
  let u := { s with boot := { s.boot with chunk := none } }
  norProgram u (rd u R.FWU_STAT_TARGET) (i + 1) b

theorem rd_programmed (s : State) (i : Nat) (b : List Byte) (f : Fld) (j k : Nat) : rd (programmed s i b) f j k = rd s f j k := rfl

theorem programmed_boot (s : State) (i : Nat) (b : List Byte) :
    (programmed s i b).boot.chunk = none ∧ (programmed s i b).boot.chunks = s.boot.chunks := ⟨rfl, rfl⟩

section
variable {s : State} {i : Nat} {bs : List Byte} {c : Bool} (hchunk : s.boot.chunk = some (i, bs, c)) (hi : i < 511)
include hchunk hi

omit hi in
theorem exec_chunkProgramDone (ok : Bool) : exec (.chunkProgramDone ok) s = .next (
    if ok then chunkStaged (programmed s i bs) i
    else postResult (useFree (programmed s i (freeBytes { s with boot := { s.boot with chunk := none } } 0 65536))) i .fwuChunkDigest) := by
  refine congrArg Host.Outcome.next ?_
  rw [hchunk]
  rfl

theorem chunkProgramDone_good (hclear : bitSet s i = false) : Ends (.chunkProgramDone true) s (fun t => t.boot.chunk = none ∧
    bitSet t i = true ∧ rd t R.FWU_STAT_STAGED = (rd s R.FWU_STAT_STAGED + 1) % 2 ^ 9 ∧ rd t R.FWU_RESULT_STATUS = statusValue .ok ∧
    rd t R.FWU_RESULT_INDEX = i ∧
    rd t R.FWU_STAT_STATE = (if (rd s R.FWU_STAT_STAGED + 1) % 2 ^ 9 = s.boot.chunks then 2 else rd s R.FWU_STAT_STATE)) := by
  obtain ⟨hnone, hchunks⟩ := programmed_boot s i bs
  have hbit : bitSet (programmed s i bs) i = bitSet s i := by rw [bitSet, bitSet, rd_programmed]
  have hread := rd_programmed s i bs
  have hexec : exec (.chunkProgramDone true) s = .next (chunkStaged (programmed s i bs) i) :=
    (exec_chunkProgramDone hchunk true).trans (congrArg Host.Outcome.next (if_pos rfl))
  generalize programmed s i bs = v at hnone hchunks hbit hread hexec
  obtain ⟨hsame, hset, hstaged, hstatus, hindex, hstate⟩ := chunkStaged_shows hi (hbit.trans hclear)
  rw [hread] at hstaged
  rw [hread, hread, hchunks] at hstate
  exact ⟨_, hexec, (congrArg Boot.chunk hsame).trans hnone, hset, hstaged, hstatus, hindex, hstate⟩

theorem chunkProgramDone_bad : Ends (.chunkProgramDone false) s (fun t => t.boot.chunk = none ∧ bitSet t i = bitSet s i ∧
      rd t R.FWU_RESULT_STATUS = statusValue .fwuChunkDigest ∧ rd t R.FWU_STAT_STATE = rd s R.FWU_STAT_STATE) := by
  have hexec := (exec_chunkProgramDone hchunk false).trans (congrArg Host.Outcome.next (if_neg (by decide)))
  generalize freeBytes { s with boot := { s.boot with chunk := none } } 0 65536 = b at hexec
  have hnone := (programmed_boot s i b).1
  have hread := rd_programmed s i b
  generalize programmed s i b = v at hnone hread hexec
  refine ⟨_, hexec, (congrArg Boot.chunk (postResult_leaves _ _ _).1).trans hnone, ?_, (postResult_shows _ _ _).2.2.1, ?_⟩
  · rw [bitSet, bitSet, rd_postResult_bitmap _ _ _ (by omega), rd_useFree, hread]
  · exact (rd_postResult_state _ _ _).trans (hread _ _ _)

end

/-! ### ACTIVATE, ABORT and HEALTH (R472, R477) -/

theorem clearStaging_shows (s : State) : rd (clearStaging s) R.FWU_STAT_STATE = 0 ∧ (clearStaging s).boot.chunk = none ∧
    (clearStaging s).boot.digest = [] ∧ rd (clearStaging s) R.FWU_STAT_STAGED = 0 ∧ (∀ j < 16, rd (clearStaging s) (R.FWU_BITMAP j) = 0) ∧
    (clearStaging s).boot = { s.boot with digest := [], chunks := 0, chunk := none, children := [], complete := [] } := by
  have hcodes : (∀ j < 16, fldCode R.FWU_STAT_STATE ≠ fldCode (R.FWU_BITMAP j)) := by decide
  unfold clearStaging
  extract_lets b u
  have hboot := setBitmap_boot (wr (wr u R.FWU_STAT_STATE 0) R.FWU_STAT_CHAIN_SOURCE 0) []
  obtain ⟨hstaged, hmap⟩ := setBitmap_nil (wr (wr u R.FWU_STAT_STATE 0) R.FWU_STAT_CHAIN_SOURCE 0)
  rw [hboot]
  refine ⟨?_, rfl, rfl, hstaged, hmap, rfl⟩
  rw [rd_setBitmap hcodes (by decide), rd_wr_ne (by decide)]
  exact rd_wr_fit _ _ _ _ (by decide)

/-- The boot registers once the running image is confirmed. -/
def confirmedRegs (s : State) : State :=
  let t := wr (wr (wr s R.BOOT_SLOTS_ACTIVE (rd s R.BOOT_STAT_RUNNING)) R.BOOT_SLOTS_OTHER_CONFIRMED 1) R.BOOT_SLOTS_TRIAL 3
  wr (wr (wr t R.BOOT_SLOTS_TRIAL_BOOTS 0) R.BOOT_STAT_TRIAL 0) R.BOOT_TRIAL_LEFT 0

/-- The running image is the active one, and its health is owed to a flush. -/
def confirmed (s : State) : State :=
  let t := confirmedRegs s
  let d := (List.range 16).flatMap (fun j => leBytes 4 (rd t (R.BOOT_MAN_DIGEST j)))
  { t with boot := { t.boot with trialUp := 0, activeDigest := d, healthOwed := true } }

section
variable {w : Writer} {s : State} (hw : Writable s w 25 0)
include hw

theorem activate_tries (hcomplete : rd s R.FWU_STAT_STATE = 2) : Ends (.activate w) s (fun t => rd t R.FWU_STAT_STATE = 3 ∧
    rd t R.BOOT_SLOTS_TRIAL = rd s R.FWU_STAT_TARGET % 2 ^ 2 ∧ rd t R.BOOT_SLOTS_TRIAL_BOOTS = 0 ∧ t.boot.trialUp = 0) := by
  refine ⟨_, congrArg Host.Outcome.next ((fwuAction_taken hw _).trans (if_neg (by simp [hcomplete]))), ?_, ?_, ?_, ?_⟩
  · exact (rd_triggerFlush_page rfl _ _ _ _).trans (rd_wr_fit _ _ _ _ (by decide))
  · refine (rd_triggerFlush_page rfl _ _ _ _).trans ((rd_wr_ne (by decide) _ _ _ _ _ _).trans ((rd_set_boot ..).trans ?_))
    rw [rd_wr_ne (by decide), rd_wr]
    rfl
  · refine (rd_triggerFlush_page rfl _ _ _ _).trans ((rd_wr_ne (by decide) _ _ _ _ _ _).trans ((rd_set_boot ..).trans ?_))
    exact rd_wr_fit _ _ _ _ (by decide)
  · exact congrArg Boot.trialUp (triggerFlush_boot _ _)

theorem activate_refused (hother : rd s R.FWU_STAT_STATE ≠ 2) : Ends (.activate w) s (fun t =>
    rd t R.FWU_STAT_STATE = rd s R.FWU_STAT_STATE ∧ rd t R.BOOT_SLOTS_TRIAL = rd s R.BOOT_SLOTS_TRIAL ∧
    rd t (hErrStatus 25) 0 = statusValue .slotState) := by
  refine ⟨_, congrArg Host.Outcome.next ((fwuAction_taken hw _).trans (if_pos hother)), ?_, ?_, rd_refuseWrite_hErrStatus _ _ _ _ _⟩
  · exact rd_refuseWrite_of_body _ _ _ _ _ (by decide) (by decide) _ _
  · exact (refuseWrite_touches (m := maskOf [.page 25]) rfl (Touches.refl _ s)).reads rfl

theorem abort_ends (hbusy : rd s R.FWU_STAT_STATE ≠ 0) : Ends (.abort w) s (fun t => rd t R.FWU_STAT_STATE = 0 ∧ t.boot.chunk = none ∧
    t.boot.digest = [] ∧ rd t R.FWU_STAT_STAGED = 0 ∧ (∀ j < 16, rd t (R.FWU_BITMAP j) = 0) ∧
    (∀ k < 65536, norByte t (norAddr (rd s R.FWU_STAT_TARGET) k) = 0xFF)) := by
  generalize hu : (if rd s R.FWU_STAT_STATE = 3 && rd s R.BOOT_SLOTS_TRIAL_BOOTS = 0 then wr s R.BOOT_SLOTS_TRIAL 3 else s) = u
  have hexec : exec (.abort w) s = .next (clearStaging (norProgram u (rd u R.FWU_STAT_TARGET) 0 [])) := by
    refine congrArg Host.Outcome.next ((fwuAction_taken hw _).trans ((if_neg hbusy).trans ?_))
    rw [← hu]
  have htarget : rd u R.FWU_STAT_TARGET = rd s R.FWU_STAT_TARGET := by
    rw [← hu]
    split
    · exact rd_wr_ne (by decide) _ _ _ _ _ _
    · rfl
  obtain ⟨hstate, hchunk, hdigest, hstaged, hmap, hboot⟩ := clearStaging_shows (norProgram u (rd u R.FWU_STAT_TARGET) 0 [])
  refine ⟨_, hexec, hstate, hchunk, hdigest, hstaged, hmap, fun k hk => ?_⟩
  rw [norByte, hboot, ← htarget]
  exact norByte_norProgram u (rd u R.FWU_STAT_TARGET) 0 [] hk

theorem abort_idle (hidle : rd s R.FWU_STAT_STATE = 0) : Ends (.abort w) s (fun t => t.boot.nor = s.boot.nor ∧ rd t R.FWU_STAT_STATE = 0) :=
  ⟨_, congrArg Host.Outcome.next ((fwuAction_taken hw _).trans (if_pos hidle)), rfl, hidle⟩

theorem health_confirms (htrial : onTrial s = true) (hwarm : s.boot.warm = none) : Ends (.health w) s (fun t =>
    rd t R.BOOT_SLOTS_ACTIVE = rd s R.BOOT_STAT_RUNNING % 2 ^ 2 ∧
    rd t R.BOOT_SLOTS_OTHER_CONFIRMED = 1 ∧ rd t R.BOOT_SLOTS_TRIAL = 3 ∧ rd t R.BOOT_SLOTS_TRIAL_BOOTS = 0 ∧ onTrial t = false ∧
    rd t R.FWU_STAT_STATE = 0 ∧ t.boot.healthOwed = true ∧ t.boot.trialUp = 0) := by
  have hexec : exec (.health w) s = .next (triggerFlush (clearStaging (confirmed s)) 3) := by
    refine congrArg Host.Outcome.next ((fwuAction_taken hw _).trans (if_neg ?_))
    simp [htrial, hwarm]
  obtain ⟨hstate, -, -, -, -, hboot⟩ := clearStaging_shows (confirmed s)
  have hpage : ∀ f : Fld, f.ty = 26 → rd (triggerFlush (clearStaging (confirmed s)) 3) f = rd (confirmedRegs s) f := fun f hf =>
    (rd_triggerFlush_page (by rw [hf]; rfl) _ _ _ _).trans
      ((clearStaging_touches (mm := 0x200000000020000) rfl (Touches.refl _ _)).reads (by rw [hf]; rfl))
  refine ⟨_, hexec, ?_, ?_, ?_, ?_, decide_eq_false ?_, ?_, ?_, ?_⟩
  · rw [hpage _ rfl, confirmedRegs]
    simp (disch := decide) only [rd_wr_ne, rd_wr]
    rfl
  · rw [hpage _ rfl, confirmedRegs]
    simp (disch := decide) only [rd_wr_ne, rd_wr]
    rfl
  · rw [hpage _ rfl, confirmedRegs]
    simp (disch := decide) only [rd_wr_ne, rd_wr]
    rfl
  · rw [hpage _ rfl, confirmedRegs]
    simp (disch := decide) only [rd_wr_ne, rd_wr]
    rfl
  · rw [hpage _ rfl, confirmedRegs]
    simp (disch := decide) only [rd_wr_ne, rd_wr]
    decide
  · exact (rd_triggerFlush_page rfl _ _ _ _).trans hstate
  · rw [triggerFlush_boot, hboot]
    rfl
  · rw [triggerFlush_boot, hboot]
    rfl

theorem health_refused (hno : onTrial s = false) : Ends (.health w) s (fun t => rd t R.BOOT_SLOTS_ACTIVE = rd s R.BOOT_SLOTS_ACTIVE ∧
    rd t (hErrStatus 25) 0 = statusValue .slotState) := by
  refine ⟨_, congrArg Host.Outcome.next ((fwuAction_taken hw _).trans (if_pos (by simp [hno]))), ?_, rd_refuseWrite_hErrStatus _ _ _ _ _⟩
  exact (refuseWrite_touches (m := maskOf [.page 25]) rfl (Touches.refl _ s)).reads rfl

end

/-! ### The end of a trial (R476, R478) -/

section
variable {s : State} (htrial : onTrial s = true)
include htrial

theorem trialExpiry_falls (hwarm : s.boot.warm = none) (hdusk : s.pwr.dusk = none) (hgood : s.pwr.good = true) :
    Ends .trialExpiry s (fun t => t.boot.warm = some s.now ∧ t.boot.cause = 7 ∧ t.boot.trialUp = 1800 ∧ rd t R.BOOT_TRIAL_LEFT = 0 ∧
      SameBut (recorded ++ pages [26]) s t) := by
  obtain ⟨hboot, hleft⟩ := fallBack_shows hwarm hdusk hgood
  refine ⟨_, congrArg Host.Outcome.next (if_pos (by simp [htrial, hwarm, hdusk])), ?_, ?_, ?_, hleft,
    sameBut_of_touches (fallBack_touches rfl (Touches.refl _ s))⟩ <;> rw [hboot]

theorem trialFlushTimer_counts : Ends .trialFlushTimer s (fun t => t.boot.trialUp = min 1800 (s.boot.trialUp + 60) ∧
    rd t R.BOOT_TRIAL_LEFT = 1800 - min 1800 (s.boot.trialUp + 60) ∧ SameBut (pages [24, 26] ++ [.recorder, .boot]) s t) := by
  generalize hup : min 1800 (s.boot.trialUp + 60) = up
  have hexec : exec .trialFlushTimer s = .next (triggerFlush (wr { s with boot := { s.boot with trialUp := up } } R.BOOT_TRIAL_LEFT (1800 - up)) 3) :=
    hup ▸ congrArg Host.Outcome.next (if_pos htrial)
  refine ⟨_, hexec, congrArg Boot.trialUp (triggerFlush_boot _ _), ?_, ?_⟩
  · exact (rd_triggerFlush_page rfl _ _ _ _).trans (rd_wr_fit _ _ _ _ (Nat.lt_of_le_of_lt (Nat.sub_le ..) (by decide)))
  · exact sameBut_of_touches (triggerFlush_touches rfl (wr_touches rfl (Touches.boot rfl (Touches.refl _ s))))

end

/-- Settles O53: BEGIN and the chunks post their first failing check or move staging on, ACTIVATE, ABORT and HEALTH move it between its
states, and a trial that ends falls back. -/
theorem firmwareStaging : Obligations.FirmwareStaging := by
  refine ⟨fun w e s hw hdev => fwuBegin_unread hw hdev, fun w e m s hw hdev hread hlen hranges =>
      ⟨fun st hcheck => fwuBegin_fails hw hdev hread hlen hranges hcheck,
        fun hcheck hidle => fwuBegin_stages hw hdev hread hlen hranges hcheck hidle⟩,
    fun w data s hw => ⟨chunkGo_busy hw data, fun st hnone hcheck => chunkGo_fails hw data st hnone hcheck⟩,
    fun w bs s hw hnone hdev hcheck hlen => chunkGo_answers hw bs hnone hdev hcheck hlen,
    fun i bs c s hchunk hi => ⟨chunkProgramDone_good hchunk hi, chunkProgramDone_bad hchunk hi⟩,
    fun b s hnone => congrArg Host.Outcome.next (by rw [hnone]),
    fun w s hw => ⟨activate_tries hw, activate_refused hw⟩, fun w s hw => ⟨abort_ends hw, abort_idle hw⟩,
    fun w s hw => ⟨health_confirms hw, health_refused hw⟩,
    fun s htrial hwarm hdusk hgood => trialExpiry_falls htrial hwarm hdusk hgood, fun s htrial => trialFlushTimer_counts htrial,
    fun s hno => ⟨congrArg Host.Outcome.next (if_neg (by simp [hno])), congrArg Host.Outcome.next (if_neg (by simp [hno]))⟩⟩

end Sys2Proof.Proofs
end

section
/-!
Chapter 19, the firmware chain (O54, R473 to R475).
-/

namespace Sys2Proof.Proofs

open Sys2Proof Sys2Proof.Machine Sys2Proof.Safety Sys2Proof.Certificates Sys2Proof.Laws

/-! ### Children and parents (R326) -/

theorem child_setChild (s : State) (p : Nat) (c : Child) : child (setChild s p c) p = c := tget_tset_same _ _ _ _

theorem child_setChild_ne (s : State) {p q : Nat} (h : q ≠ p) (c : Child) : child (setChild s p c) q = child s q := tget_tset_ne _ _ h _ _

theorem isMember_congr {s u : State} (h : ∀ (f : Fld) (i k : Nat), rd u f i k = rd s f i k) (m : Nat) : isMember u m = isMember s m := by
  unfold isMember
  rw [h]

theorem childPorts_congr {s u : State} (h : ∀ (f : Fld) (i k : Nat), rd u f i k = rd s f i k) : childPorts u = childPorts s := by
  simp only [childPorts, portUp, portState, h, isMember_congr h]
  rfl

theorem childPorts_up {s : State} {p : Nat} (hp : p ∈ childPorts s) : portUp s p = true := by
  have hcond := (List.mem_filter.mp hp).2
  simp only [Bool.and_eq_true] at hcond
  exact hcond.1.1.1

/-- A message to a parent goes out on the upstream port. -/
theorem sendParent_up {s : State} (hnone : rd s R.WAG_REF_NONE = 0) (m : Msg) :
    sendParent s m = sendOn s (rd s R.WAG_REF_UPSTREAM) 2 m := if_neg (by rw [hnone]; decide)

theorem rd_sendParent (s : State) (m : Msg) (f : Fld) (i k : Nat) : rd (sendParent s m) f i k = rd s f i k := by
  unfold sendParent
  split
  · rfl
  · exact rd_sendOn ..

theorem sendParent_boot (s : State) (m : Msg) : (sendParent s m).boot = s.boot :=
  (sendParent_touches (mm := 0x800) rfl (Touches.refl _ s)).same (c := .boot) rfl

theorem refuseChain_shows (s : State) : rd (refuseChain s) (hIrqRaw 25 Irq.FWU_CHAIN_REFUSED) 0 = 1 ∧ (refuseChain s).boot = s.boot ∧
    ∀ f : Fld, f.ty = 25 → 0x100 ≤ f.off → f.off * 8 + f.lo < 2 ^ 15 → ∀ i k, rd (refuseChain s) f i k = rd s f i k := by
  refine ⟨rd_irqEvent_same _ _ _ _ _ _, (irqEvent_boot ..).trans (sendParent_boot ..), fun f hty hlo hhi i k => ?_⟩
  exact (rd_fwuEvent _ (by decide) _ _ hty hlo hhi _ _).trans (rd_sendParent ..)

/-! ### Outside a formed hive -/

theorem forwards_formed {s : State} (h : forwards s = true) : hiveState s = 2 := by
  unfold forwards at h
  simp only [Bool.and_eq_true, decide_eq_true_eq] at h
  exact h.1.1

theorem chain_idle {s : State} (h : hiveState s ≠ 2) (m : List Byte) (e : StartEnv) (i : Nat) (bs : List Byte) (p id : Nat) (dg : List Byte)
    (bits : List Nat) : exec (.chainManifest m e) s = .next s ∧ exec (.chainChunk i bs) s = .next s ∧
      exec (.chainForward p) s = .next s ∧ exec .bitmapReportTimer s = .next s ∧ exec (.bitmapReport p id dg bits) s = .next s := by
  refine ⟨congrArg Host.Outcome.next (if_pos h), congrArg Host.Outcome.next (if_pos (by simp [h])),
    congrArg Host.Outcome.next (if_pos ?_), congrArg Host.Outcome.next (if_pos (by simp [h])), congrArg Host.Outcome.next (if_pos h)⟩
  rw [Bool.eq_false_iff.mpr (fun hf => h (forwards_formed hf))]
  rfl

/-! ### CHAIN_MANIFEST and CHAIN_CHUNK (R474) -/

section
variable {s : State} (hformed : hiveState s = 2)
include hformed

theorem chainManifest_refused (m : List Byte) (e : StartEnv) (hno : rd s R.FWU_CFG_CHAIN_ACCEPT = 0) :
    Ends (.chainManifest m e) s (fun t => rd t (hIrqRaw 25 Irq.FWU_CHAIN_REFUSED) 0 = 1 ∧
      rd t R.FWU_STAT_STATE = rd s R.FWU_STAT_STATE ∧ t.boot.nor = s.boot.nor) := by
  obtain ⟨hirq, hboot, hread⟩ := refuseChain_shows s
  exact ⟨_, congrArg Host.Outcome.next ((if_neg (not_not_intro hformed)).trans (if_pos hno)), hirq,
    hread _ rfl (by decide) (by decide) _ _, congrArg Boot.nor hboot⟩

section
variable {m : List Byte} {e : StartEnv} (haccept : rd s R.FWU_CFG_CHAIN_ACCEPT ≠ 0) (hranges : manRanges m = true)
  (hlen : manLen m = m.length)
include haccept hranges hlen

theorem exec_chainManifest_fails {st : Status} (hcheck : beginCheck s m = some st) :
    exec (.chainManifest m e) s = .next (refuseChain (postResult s 0x1FF st)) := by
  refine congrArg Host.Outcome.next ((if_neg (not_not_intro hformed)).trans ((if_neg haccept).trans ?_))
  rw [if_pos (by simp [hranges, hlen]), hcheck]

theorem exec_chainManifest_stages (hcheck : beginCheck s m = none) :
    exec (.chainManifest m e) s = .next (postResult (beginStaging s e m true) 0x1FF .ok) := by
  refine congrArg Host.Outcome.next ((if_neg (not_not_intro hformed)).trans ((if_neg haccept).trans ?_))
  rw [if_pos (by simp [hranges, hlen]), hcheck]

theorem chainManifest_fails {st : Status} (hcheck : beginCheck s m = some st) :
    Ends (.chainManifest m e) s (fun t => rd t (hIrqRaw 25 Irq.FWU_CHAIN_REFUSED) 0 = 1 ∧ rd t R.FWU_RESULT_STATUS = statusValue st ∧
      rd t R.FWU_STAT_STATE = rd s R.FWU_STAT_STATE) := by
  obtain ⟨hirq, -, hread⟩ := refuseChain_shows (postResult s 0x1FF st)
  refine ⟨_, exec_chainManifest_fails (e := e) hformed haccept hranges hlen hcheck, hirq, ?_, ?_⟩
  · exact (hread _ rfl (by decide) (by decide) _ _).trans (postResult_shows _ _ _).2.2.1
  · exact (hread _ rfl (by decide) (by decide) _ _).trans (rd_postResult_state _ _ _)

theorem chainManifest_stages (hcheck : beginCheck s m = none) (hidle : rd s R.FWU_STAT_STATE = 0) :
    Ends (.chainManifest m e) s (fun t => rd t R.FWU_STAT_STATE = 1 ∧
        rd t R.FWU_STAT_CHAIN_SOURCE = 1 ∧ t.boot.digest = manDigest m ∧ t.boot.chunks = manChunks m ∧
        norBytes t (stagingTarget s e) 0 m.length = m ∧ SameBut (recorded ++ pages [25, 26] ++ [.links]) s t) := by
  obtain ⟨hstate, -, hsource, -, hdigest, hchunks, hnor⟩ :=
    beginStaging_shows (e := e) (chain := true) hidle (length_le_of_manLen hlen hranges)
  have hexec := exec_chainManifest_stages (e := e) hformed haccept hranges hlen hcheck
  have htouch : Touches (maskOf (recorded ++ pages [25, 26] ++ [.links])) s (postResult (beginStaging s e m true) 0x1FF .ok) :=
    postResult_touches rfl (beginStaging_touches rfl (Touches.refl _ s))
  generalize beginStaging s e m true = u at hexec hstate hsource hdigest hchunks hnor htouch
  have hboot := (postResult_leaves u 0x1FF .ok).1
  refine ⟨_, hexec, (rd_postResult_state _ _ _).trans hstate, ?_, ?_, ?_, ?_, sameBut_of_touches htouch⟩
  · exact (rd_postResult _ _ _ rfl (by decide) (by decide) (by decide) _ _).trans hsource
  · rw [hboot, hdigest]
  · rw [hboot, hchunks]
  · exact (norBytes_congr (congrArg Boot.nor hboot) _ _ _).trans hnor

end

omit hformed in
theorem chainChunk_waits (i : Nat) (bs : List Byte) (hbusy : s.boot.chunk.isSome = true) : exec (.chainChunk i bs) s = .next s :=
  congrArg Host.Outcome.next (if_pos (by simp [hbusy]))

theorem chainChunk_takes (i : Nat) (bs : List Byte) (hnone : s.boot.chunk = none) (hcheck : chunkCheck s i = none)
    (hlen : bs.length = chunkLen (stagedMan s) i) (hgood : chunkGood (stagedMan s) i bs = true) (hclear : bitSet s i = false) :
    Ends (.chainChunk i bs) s (fun t => t.boot = { s.boot with chunk := some (i, bs, true) } ∧ SameBut [.boot] s t) := by
  have hexec : exec (.chainChunk i bs) s = .next (takeChunk s i bs true) := by
    refine congrArg Host.Outcome.next ((if_neg (by simp [hformed, hnone])).trans ?_)
    rw [hcheck]
  unfold takeChunk at hexec
  rw [if_neg (by simp [hlen, hgood]), if_neg (by simp [hclear])] at hexec
  exact ⟨_, hexec, rfl, sameBut_of_touches (Touches.boot rfl (Touches.refl _ s))⟩

/-! ### Reports (R475) -/

/-- A parent owes a child the manifest again, where the child has not reported this image, and waits for its next report. -/
def owedAgain (s : State) (p : Nat) : State :=
  let c := child s p
  setChild s p { c with sentMan := c.sentMan && c.digest = s.boot.digest, digest := [] }

omit hformed in
theorem owedAgain_touches (l : List Nat) (u : State) : Touches (maskOf [.boot]) u (l.foldl owedAgain u) :=
  Touches.foldl (Touches.refl _ u) fun v _ => setChild_touches rfl (Touches.refl _ v)

omit hformed in
theorem owedAgain_digest {l : List Nat} {p : Nat} (hp : p ∈ l) (u : State) : (child (l.foldl owedAgain u) p).digest = [] :=
  foldl_reaches (P := fun v : State => (child v p).digest = []) hp
    (fun v => congrArg Child.digest (child_setChild ..))
    (fun v q _ hv => by
      by_cases hq : p = q
      · subst hq
        exact congrArg Child.digest (child_setChild ..)
      · exact (congrArg Child.digest (child_setChild_ne _ hq _)).trans hv) u

theorem bitmapReportTimer_reports (hbusy : rd s R.FWU_STAT_STATE ≠ 0) (hqueen : isQueen s = false) (hnone : rd s R.WAG_REF_NONE = 0)
    (hup : portUp s (rd s R.WAG_REF_UPSTREAM) = true) : Ends .bitmapReportTimer s (fun t =>
      portBodies t (rd s R.WAG_REF_UPSTREAM) 2 = portBodies s (rd s R.WAG_REF_UPSTREAM) 2 ++
          [.bitmap (hiveId s) s.boot.digest ((List.range 16).map (fun j => rd s (R.FWU_BITMAP j)))] ∧
      (∀ p ∈ childPorts s, (child t p).digest = []) ∧ SameBut [.links, .boot] s t) := by
  generalize hm : Msg.bitmap (hiveId s) s.boot.digest ((List.range 16).map (fun j => rd s (R.FWU_BITMAP j))) = m
  have hchildren : childPorts (sendParent s m) = childPorts s := childPorts_congr (rd_sendParent s m)
  have hexec : exec .bitmapReportTimer s = .next ((childPorts (sendParent s m)).foldl owedAgain (sendParent s m)) := by
    refine congrArg Host.Outcome.next ((if_neg (by simp [hformed, hbusy])).trans ?_)
    dsimp only
    rw [hm, if_neg (by simp [hqueen])]
    rfl
  rw [hchildren] at hexec
  have htouch := owedAgain_touches (childPorts s) (sendParent s m)
  refine ⟨_, hexec, ?_, fun p hp => owedAgain_digest hp _, sameBut_of_touches ((sendParent_touches rfl (Touches.refl _ s)).trans (htouch.mono rfl))⟩
  rw [portBodies_of_wag (htouch.same (c := .links) rfl), sendParent_up hnone, portBodies_sendOn hup]

/-- The state in which a report has changed the child's own entry. -/
def heard (s : State) (c : Tbl Child) : State := { s with boot := { s.boot with children := c } }

theorem exec_bitmapReport (p id : Nat) (digest : List Byte) (bits : List Nat) : ∃ c, exec (.bitmapReport p id digest bits) s = .next (
    if !isQueen (heard s c) then sendParent (heard s c) (.bitmap id digest bits)
    else if decide (rd s R.FWU_STAT_STATE ≠ 0) && decide (digest = s.boot.digest) && bitmapFull (heard s c) bits &&
      !(heard s c).boot.complete.contains id then
      wr { heard s c with boot := { (heard s c).boot with complete := id :: s.boot.complete } } R.FWU_CHAIN_DONE (id :: s.boot.complete).length
    else heard s c) := by
  obtain ⟨c, hc⟩ : ∃ c, (if rd s R.FWU_STAT_STATE = 0 || rd s R.WAG_PEER_MODULE p ≠ id then s
      else if decide (rd s R.FWU_STAT_STATE ≠ 0) && decide (digest = s.boot.digest) then
        setChild s p { digest := digest, bits := bits, sentMan := true, sent := [] }
      else setChild s p { digest := digest }) = heard s c := by
    split
    · exact ⟨_, rfl⟩
    · split <;> exact ⟨_, rfl⟩
  refine ⟨c, congrArg Host.Outcome.next ((if_neg (not_not_intro hformed)).trans ?_)⟩
  dsimp only
  rw [hc]
  rfl

theorem bitmapReport_queen (p id : Nat) (bits : List Nat) (hqueen : isQueen s = true) (hbusy : rd s R.FWU_STAT_STATE ≠ 0)
    (hfull : bitmapFull s bits = true) :
    (s.boot.complete.contains id = false → Ends (.bitmapReport p id s.boot.digest bits) s (fun t =>
      t.boot.complete = id :: s.boot.complete ∧ rd t R.FWU_CHAIN_DONE = (s.boot.complete.length + 1) % 2 ^ 10 ∧
      SameBut (pages [25] ++ [.links, .boot]) s t)) ∧
    (s.boot.complete.contains id = true → Ends (.bitmapReport p id s.boot.digest bits) s (fun t =>
      t.boot.complete = s.boot.complete ∧ rd t R.FWU_CHAIN_DONE = rd s R.FWU_CHAIN_DONE)) := by
  obtain ⟨c, hexec⟩ := exec_bitmapReport hformed p id s.boot.digest bits
  have hq : isQueen (heard s c) = true := hqueen
  have hf : bitmapFull (heard s c) bits = true := hfull
  rw [if_neg (by simp [hq])] at hexec
  refine ⟨fun hnew => ?_, fun hold => ?_⟩
  · have hn : (heard s c).boot.complete.contains id = false := hnew
    rw [if_pos (by rw [hf, hn, decide_eq_true hbusy, decide_eq_true rfl]; rfl)] at hexec
    exact ⟨_, hexec, rfl, rd_wr .., sameBut_of_touches (wr_touches rfl (Touches.boot rfl (Touches.boot rfl (Touches.refl _ s))))⟩
  · have hn : (heard s c).boot.complete.contains id = true := hold
    rw [if_neg (by rw [hn]; simp)] at hexec
    exact ⟨_, hexec, rfl, rfl⟩

theorem bitmapReport_member (p id : Nat) (digest : List Byte) (bits : List Nat) (hmember : isQueen s = false)
    (hnone : rd s R.WAG_REF_NONE = 0) (hup : portUp s (rd s R.WAG_REF_UPSTREAM) = true) :
    Ends (.bitmapReport p id digest bits) s (fun t => portBodies t (rd s R.WAG_REF_UPSTREAM) 2 =
      portBodies s (rd s R.WAG_REF_UPSTREAM) 2 ++ [.bitmap id digest bits]) := by
  obtain ⟨c, hexec⟩ := exec_bitmapReport hformed p id digest bits
  have hm : isQueen (heard s c) = false := hmember
  rw [if_pos (by rw [hm]; rfl), sendParent_up (s := heard s c) hnone] at hexec
  exact ⟨_, hexec, portBodies_sendOn (s := heard s c) hup 2 _⟩

end

/-! ### CHAIN_FORWARD (R473) -/

section
variable {s : State} {p : Nat} (hforwards : forwards s = true) (hchild : p ∈ childPorts s)
include hforwards hchild

theorem chainForward_forwards : ¬(!forwards s || !(childPorts s).contains p) = true := by
  simp [hforwards, hchild]

theorem chainForward_manifest (hfirst : (child s p).sentMan = false) : Ends (.chainForward p) s (fun t => (child t p).sentMan = true ∧
    portBodies t p 2 = portBodies s p 2 ++ [.manifest (stagedMan s)] ∧ SameBut [.links, .boot] s t) := by
  refine ⟨_, congrArg Host.Outcome.next ((if_neg (chainForward_forwards hforwards hchild)).trans (if_pos (by simp [hfirst]))), ?_, ?_, ?_⟩
  · exact congrArg Child.sentMan (child_setChild ..)
  · exact (portBodies_of_wag rfl p 2).trans (portBodies_sendOn (childPorts_up hchild) 2 _)
  · exact sameBut_of_touches (setChild_touches rfl (sendOn_touches rfl (Touches.refl _ s)))

section
variable (hsent : (child s p).sentMan = true)
include hsent

theorem chainForward_chunk (i : Nat) (hnext : nextChunk s (child s p) = some i) : Ends (.chainForward p) s (fun t =>
    (child t p).sent = (child s p).sent ++ [i] ∧ portBodies t p 2 = portBodies s p 2 ++
      [.chunk i (norBytes s (rd s R.FWU_STAT_TARGET) (65536 * (i + 1)) (chunkLen (stagedMan s) i))] ∧ SameBut [.links, .boot] s t) := by
  generalize hm : Msg.chunk i (norBytes s (rd s R.FWU_STAT_TARGET) (65536 * (i + 1)) (chunkLen (stagedMan s) i)) = m
  have hexec : exec (.chainForward p) s = .next (setChild (sendOn s p 2 m) p { child s p with sent := (child s p).sent ++ [i] }) := by
    refine congrArg Host.Outcome.next ((if_neg (chainForward_forwards hforwards hchild)).trans ((if_neg (by simp [hsent])).trans ?_))
    rw [hnext, ← hm]
  refine ⟨_, hexec, ?_, ?_, ?_⟩
  · exact congrArg Child.sent (child_setChild ..)
  · exact (portBodies_of_wag rfl p 2).trans (portBodies_sendOn (childPorts_up hchild) 2 _)
  · exact sameBut_of_touches (setChild_touches rfl (sendOn_touches rfl (Touches.refl _ s)))

theorem chainForward_done (hnext : nextChunk s (child s p) = none) : exec (.chainForward p) s = .next s := by
  refine congrArg Host.Outcome.next ((if_neg (chainForward_forwards hforwards hchild)).trans ((if_neg (by simp [hsent])).trans ?_))
  rw [hnext]

end

end

theorem chainForward_idle (p : Nat) (s : State) (h : forwards s = false ∨ p ∉ childPorts s) : exec (.chainForward p) s = .next s :=
  congrArg Host.Outcome.next (if_pos (by simpa using h))

/-- Settles O54: outside a formed hive the chain's messages change nothing, and in one each is refused, taken, forwarded or counted by
its own conditions. -/
theorem firmwareChain : Obligations.FirmwareChain :=
  ⟨fun m e i bs p id dg bits _ h => chain_idle h m e i bs p id dg bits,
    fun m e _ hformed => ⟨chainManifest_refused hformed m e, fun haccept hranges hlen =>
      ⟨fun _ hcheck => chainManifest_fails hformed haccept hranges hlen hcheck,
        fun hcheck hidle => chainManifest_stages hformed haccept hranges hlen hcheck hidle⟩⟩,
    fun i bs _ hformed => ⟨chainChunk_waits i bs, chainChunk_takes hformed i bs⟩,
    fun _ _ hforwards hchild => ⟨chainForward_manifest hforwards hchild,
      fun i hsent hnext => chainForward_chunk hforwards hchild hsent i hnext, chainForward_done hforwards hchild⟩,
    chainForward_idle,
    fun _ hformed hbusy hqueen hnone hup => bitmapReportTimer_reports hformed hbusy hqueen hnone hup,
    fun p id bits _ hformed hqueen hbusy hfull => bitmapReport_queen hformed p id bits hqueen hbusy hfull,
    fun p id digest bits _ hformed hmember hnone hup => bitmapReport_member hformed p id digest bits hmember hnone hup⟩

end Sys2Proof.Proofs
end

section
/-!
A layer: what commands, transfers, requests and links leave alone of the boot state. None of them records a fatal event, so that the boot
state stays as it is.
-/

namespace Sys2Proof.Proofs

open Sys2Proof Sys2Proof.Machine Sys2Proof.Safety Sys2Proof.Certificates Sys2Proof.Laws

/-- The boot state is the same in both. -/
def KeepsBoot (s t : State) : Prop := t.boot = s.boot

namespace KeepsBoot

variable {s t u : State}

theorem refl (s : State) : KeepsBoot s s := rfl

theorem trans (h : KeepsBoot s t) (k : KeepsBoot t u) : KeepsBoot s u := Eq.trans k h

theorem of_touches {m : Nat} (h : Touches m s t) (hb : m.testBit 17 = false) : KeepsBoot s t := h.same (c := .boot) hb

theorem wr (s : State) (f : Fld) (v i k : Nat) : KeepsBoot s (Machine.wr s f v i k) := rfl

theorem event (s : State) (ty i n tenant : Nat) (detail : List Nat) : KeepsBoot s (irqEvent s ty i n tenant detail) :=
  irqEvent_boot ..

theorem ite {c : Prop} [Decidable c] (ht : KeepsBoot s t) (hu : KeepsBoot s u) : KeepsBoot s (if c then t else u) := by
  split <;> assumption

theorem foldl {α : Type} {f : State → α → State} (hf : ∀ u x, KeepsBoot u (f u x)) (l : List α) (s : State) :
    KeepsBoot s (l.foldl f s) :=
  List.foldlRecOn l f (motive := KeepsBoot s) (refl s) fun _ h x _ => h.trans (hf _ x)

end KeepsBoot

/-! ### Commands and transfers -/

theorem finishCmd_keepsBoot (s : State) (q : Nat) (st : Status) (result flags : Nat) : KeepsBoot s (finishCmd s q st result flags) :=
  .of_touches (finishCmd_touches (mm := 0x800428000040D80) rfl (Touches.refl _ s)) rfl

theorem endPeer_keepsBoot (s : State) (cmd : Nat) (st : Status) : KeepsBoot s (endPeer s cmd st) :=
  .of_touches (endPeer_touches (mm := 0x800428000040D80) rfl (Touches.refl _ s)) rfl

theorem endXfer_keepsBoot (s : State) (e : Nat) (x : Xfer) (st : Status) (bytes : Nat) : KeepsBoot s (endXfer s e x st bytes) := by
  unfold endXfer
  extract_lets s1 s2
  have h1 : KeepsBoot s s1 := .ite (.refl s) rfl
  have h2 : KeepsBoot s s2 := .ite (h1.trans rfl) h1
  split
  · exact h2.trans (finishCmd_keepsBoot ..)
  · refine KeepsBoot.trans ?_ (.event ..)
    exact h2.trans ((KeepsBoot.wr ..).trans (.wr ..))

theorem stopXfers_keepsBoot (s : State) (p : Xfer → Bool) (st : Status) (cut : Cut) : KeepsBoot s (stopXfers s p st cut) := by
  unfold stopXfers
  refine .foldl (fun u e => ?_) _ s
  split
  · exact .refl u
  · next x r _ =>
    extract_lets stop
    refine .ite (.refl u) ?_
    generalize hm : (if p x = true then moveCut u e x (List.take (x.length - 1) (cutOf cut e)) else (u, 0)) = m
    have hcut : KeepsBoot u m.1 := by
      rw [← hm]
      split
      · exact .of_touches (moveCut_touches (mm := 0x10000040584) rfl (Touches.refl _ u)) rfl
      · exact .refl u
    exact (hcut.trans (.of_touches (setEngine_touches (mm := 0x10000000400) rfl (Touches.refl _ _)) rfl)).trans
      (.foldl (fun v y => endXfer_keepsBoot v e y st _) _ _)

theorem deleteQueue_keepsBoot (s : State) (q : Nat) (cut : Cut) : KeepsBoot s (deleteQueue s q cut) := by
  unfold deleteQueue
  extract_lets x s1
  have h1 : KeepsBoot s s1 := rfl
  have hoff : KeepsBoot s (disableQueue s1 q) := h1.trans rfl
  split
  · exact hoff
  · refine .ite hoff ?_
    split
    · exact h1.trans (stopXfers_keepsBoot ..)
    · exact hoff
    · split
      · exact (h1.trans (.of_touches (abortCopy_touches (mm := 0x800) rfl (Touches.refl _ _)) rfl)).trans (endPeer_keepsBoot ..)
      · exact hoff
    · exact h1

/-! ### Sequences and requests -/

theorem kvSync_keepsBoot (s : State) (t : Nat) : KeepsBoot s (kvSync s t) := by
  unfold kvSync
  extract_lets f was s1 s2
  have h2 : KeepsBoot s s2 := rfl
  exact .ite (h2.trans (.event ..)) h2

theorem closeSeq_keepsBoot (s : State) (k : Nat) : KeepsBoot s (closeSeq s k) := by
  unfold closeSeq
  extract_lets x
  refine .ite (.refl s) (.ite rfl ?_)
  unfold releaseSeq
  extract_lets hand fs s0 s1 s2
  have h2 : KeepsBoot s s2 := .of_touches (m := 0x380) (setSeq_touches rfl (Touches.kv rfl (Touches.refl _ s))) rfl
  have horphan : KeepsBoot s2 (pfxOrphan s2 x.tenant k) := .of_touches (pfxOrphan_touches (mm := 0x180) rfl (Touches.refl _ s2)) rfl
  exact (h2.trans horphan).trans (kvSync_keepsBoot ..)

theorem deliver_keepsBoot (s : State) (i : Nat) (toks : List (Nat × Bool)) (late : Bool) (endSt : Option Status) (quiet : Bool) :
    KeepsBoot s (deliver s i toks late endSt quiet) := by
  unfold deliver
  split
  · exact .refl s
  rename_i x _
  split
  rename_i l fin _
  extract_lets ended x' z s1 s2 s3 s4 s5 s6 s7 s8 s9 s10 s11
  clear_value ended
  have hwrite : ∀ (u : State) (a b : Nat) (bs : List Byte), KeepsBoot u (deliverWrite u x a b bs) := fun u a b bs =>
    .of_touches (deliverWrite_touches (mm := 0x8000040400) rfl (Touches.refl _ u)) rfl
  have h1 : KeepsBoot s s1 := .ite (.refl s) (.foldl (fun u e => hwrite ..) _ s)
  have h2 : KeepsBoot s s2 := .ite h1 (h1.trans (hwrite ..))
  have h3 : KeepsBoot s s3 := .ite ((h2.trans rfl).trans (.event ..)) h2
  have h4 : KeepsBoot s s4 := by
    simp only [s4]
    split
    · exact .ite h3 (.ite (h3.trans (hwrite ..)) (h3.trans (hwrite ..)))
    · exact h3
  have h5 : KeepsBoot s s5 :=
    .ite (h4.trans (.of_touches (signalUpdate_touches (mm := 0x800428000040D80) rfl (Touches.refl _ s4)) rfl)) h4
  have h6 : KeepsBoot s s6 := .ite h5 (h5.trans (.of_touches (chargeBudget_touches (mm := 0x40000002000) rfl (Touches.refl _ s5)) rfl))
  have h7 : KeepsBoot s s7 :=
    .ite (h6.trans (.of_touches (metricSample_touches (mm := 0x14) rfl (Touches.free rfl (Touches.refl _ s6))) rfl)) h6
  have h9 : KeepsBoot s s9 :=
    .ite ((h7.trans (closeSeq_keepsBoot ..)).trans (closeSeq_keepsBoot ..)) (h7.trans (closeSeq_keepsBoot ..))
  have h11 : KeepsBoot s s11 := (h9.trans rfl).trans (.foldl (fun u q => finishCmd_keepsBoot u q _ _ _) _ s10)
  split
  · exact h7.trans rfl
  · exact h11.trans (.of_touches (servAction_touches (mm := 0x800) rfl (Touches.refl _ s11)) rfl)

theorem dropWaking_keepsBoot (s : State) (i : Nat) : KeepsBoot s (dropWaking s i) := by
  unfold dropWaking
  split
  · exact .ite (KeepsBoot.trans (t := setReq s i none) rfl (finishCmd_keepsBoot ..)) (.refl s)
  · exact .refl s

/-! ### Resets of functions and of the host port -/

theorem functionReset_keepsBoot (s : State) (fn : Nat) (cut : Cut) : KeepsBoot s (functionReset s fn cut) := by
  unfold functionReset
  extract_lets qs s1 s2 s3
  have h1 : KeepsBoot s s1 := .foldl (fun u q => deleteQueue_keepsBoot u q cut) _ s
  have h2 : KeepsBoot s s2 := h1.trans (stopXfers_keepsBoot ..)
  have h3 : KeepsBoot s s3 := h2.trans (.foldl (fun u i => by
    split
    · exact .ite (dropWaking_keepsBoot ..) (deliver_keepsBoot ..)
    · exact .refl u) _ s2)
  clear_value s3
  exact h3

theorem hostPortReset_keepsBoot (s : State) (cut : Cut) : KeepsBoot s (hostPortReset s cut) := by
  have h1 : KeepsBoot s ((List.range 64).foldl (fun s f => functionReset s f cut) s) :=
    .foldl (fun u f => functionReset_keepsBoot u f cut) _ s
  unfold hostPortReset
  generalize (List.range 64).foldl (fun s f => functionReset s f cut) s = s1 at h1 ⊢
  extract_lets s0 was s2 s3 s4 h s5 s6
  have htail : Touches 0x8000000400 s1 s4 := wr_touches rfl (wr_touches rfl (wr_touches rfl (wr_touches rfl (wr_touches rfl
    (wr_touches rfl (wr_touches rfl (Touches.refl _ s1)))))))
  have h5 : KeepsBoot s s5 := h1.trans (.of_touches (Touches.host rfl htail) rfl)
  exact KeepsBoot.trans (t := s6) (.ite (h5.trans (.event ..)) h5) (.event ..)

/-! ### Links -/

theorem setQuality_keepsBoot (s : State) (q : Nat) : KeepsBoot s (setQuality s q) := by
  unfold setQuality
  refine .ite (.refl s) ?_
  extract_lets s1
  have h1 : KeepsBoot s s1 := rfl
  exact .ite (h1.trans (.event ..)) (.ite (h1.trans (.event ..)) h1)

theorem refLost_keepsBoot (s : State) : KeepsBoot s (refLost s) := by
  unfold refLost
  extract_lets s1 _ s2
  have h2 : KeepsBoot s s2 := KeepsBoot.trans (t := s1) (irqEvent_boot ..) rfl
  exact .ite (.ite (h2.trans (setQuality_keepsBoot ..)) h2) (.refl s)

theorem twinLinkDown_keepsBoot (s : State) : KeepsBoot s (twinLinkDown s) := by
  unfold twinLinkDown
  extract_lets st role s1
  have h1 : KeepsBoot s s1 := KeepsBoot.trans (.event s 16 0 Irq.TWIN_BROKEN 0 []) rfl
  have hclose : KeepsBoot s1 (closeFollowed s1) := by
    unfold closeFollowed
    exact KeepsBoot.trans (t := { s1 with twin := { s1.twin with follow := [] } }) rfl (.foldl (fun u k => closeSeq_keepsBoot u k) _ _)
  exact .ite (.ite ((h1.trans hclose).trans rfl) (h1.trans rfl)) (.refl s)

theorem portDown_keepsBoot (s : State) (p cause : Nat) : KeepsBoot s (portDown s p cause) := by
  unfold portDown
  refine .ite (.refl s) ?_
  extract_lets x left own queued lost fwd s1 s2 s3 _ s4 s5 s6 s7
  have h3 : KeepsBoot s s3 := KeepsBoot.trans (t := incSat (wr s2 R.WAG_REPLAY_HELD 0 p) R.WAG_DOWN_CNT p) rfl (.event ..)
  have h4 : KeepsBoot s s4 := h3.trans rfl
  have h5 : KeepsBoot s s5 := .ite (h4.trans (refLost_keepsBoot ..)) h4
  have h6 : KeepsBoot s s6 := h5.trans (.foldl (fun u c => endPeer_keepsBoot u c _) _ s5)
  have h7 : KeepsBoot s s7 := h6.trans (.foldl (fun u m =>
    .of_touches (tellUnreachable_touches (mm := 0x40800) rfl (Touches.refl _ u)) rfl) _ s6)
  exact .ite (h7.trans (twinLinkDown_keepsBoot ..)) h7

end Sys2Proof.Proofs
end

section
/-!
Chapter 19, a layer: what a start, the reset state of a warm reset, and the choice of an image leave as they are (R457, R458, R462, R467).
-/

namespace Sys2Proof.Proofs

open Sys2Proof Sys2Proof.Machine Sys2Proof.Safety Sys2Proof.Certificates Sys2Proof.Laws

/-- The kind of the start, the warm reset that runs and the host link are the same in both. -/
structure KeepsStart (s t : State) : Prop where
  warm : t.boot.warm = s.boot.warm
  cold : t.boot.cold = s.boot.cold
  link : rd t R.HOST_LINK_UP = rd s R.HOST_LINK_UP
  kind : rd t R.BOOT_RESET_CAUSE_KIND = rd s R.BOOT_RESET_CAUSE_KIND

namespace KeepsStart

variable {s t u : State}

theorem refl (s : State) : KeepsStart s s := ⟨rfl, rfl, rfl, rfl⟩

theorem trans (h : KeepsStart s t) (k : KeepsStart t u) : KeepsStart s u :=
  ⟨k.warm.trans h.warm, k.cold.trans h.cold, k.link.trans h.link, k.kind.trans h.kind⟩

theorem of_touches {m : Nat} (h : Touches m s t) (hboot : m.testBit 17 = false) (hhost : m.testBit (32 + 7) = false)
    (hpage : m.testBit (32 + 26) = false) : KeepsStart s t := by
  have hb : t.boot = s.boot := h.same (c := .boot) hboot
  exact ⟨congrArg Boot.warm hb, congrArg Boot.cold hb, h.reads hhost, h.reads hpage⟩

theorem ite {c : Prop} [Decidable c] (ht : KeepsStart s t) (hu : KeepsStart s u) : KeepsStart s (if c then t else u) := by
  split <;> assumption

/-- A write of another register of the module. -/
theorem wr {f : Fld} (hlink : fldCode R.HOST_LINK_UP ≠ fldCode f) (hkind : fldCode R.BOOT_RESET_CAUSE_KIND ≠ fldCode f)
    (s : State) (v i k : Nat) : KeepsStart s (Machine.wr s f v i k) :=
  ⟨rfl, rfl, rd_wr_ne hlink _ _ _ _ _ _, rd_wr_ne hkind _ _ _ _ _ _⟩

theorem inc {f : Fld} (hlink : fldCode R.HOST_LINK_UP ≠ fldCode f) (hkind : fldCode R.BOOT_RESET_CAUSE_KIND ≠ fldCode f)
    (s : State) (i k : Nat) : KeepsStart s (incSat s f i k) := wr hlink hkind _ _ _ _

theorem raise (s : State) {n : Nat} (hn : n < 1024) : KeepsStart s (raiseIrq s 26 0 n) := by
  have hb := raiseIrq_boot s 26 0 n
  have hhead : (hIrqRaw 26 n).off * 8 + (hIrqRaw 26 n).lo < 0x800 := by
    simp only [hIrqRaw]
    omega
  exact ⟨congrArg Boot.warm hb, congrArg Boot.cold hb, rd_raiseIrq (fldCode_ne_of_header (by decide) (by decide) hhead) _ _ _ _,
    rd_raiseIrq (fldCode_ne_of_header (by decide) (by decide) hhead) _ _ _ _⟩

end KeepsStart

/-! ### Records and interrupts of a start -/

theorem startRecord_keepsStart (s : State) (code : Nat) {sev : Nat} (hsev : sev ≠ 4) : KeepsStart s (startRecord s code sev) := by
  unfold startRecord
  split
  · exact .of_touches (holdRec_touches (mm := 0x80000000040010) rfl (Touches.refl _ s)) rfl rfl rfl
  · have h : Touches 0x180000000060010 s (recordEvent s 26 0 code sev 0 []) := recordEvent_touches rfl (Touches.refl _ s)
    have hb := recordEvent_boot hsev s 26 0 code 0 []
    exact ⟨congrArg Boot.warm hb, congrArg Boot.cold hb, h.reads rfl, h.reads rfl⟩

theorem startStatus_keepsStart (s : State) (st : Status) : KeepsStart s (startStatus s st) :=
  startRecord_keepsStart _ _ (by split <;> decide)

theorem startIrq_keepsStart (s : State) {n : Nat} (hn : n < 1024) : KeepsStart s (startIrq s n) :=
  (startRecord_keepsStart _ _ (by decide)).trans (.raise _ hn)

/-! ### The choice of an image (R467) -/

theorem runSlot_keepsStart (s : State) (slot : Nat) : KeepsStart s (runSlot s slot) := by
  have hcodes : ∀ j < 16, fldCode R.HOST_LINK_UP ≠ fldCode (R.BOOT_MAN_DIGEST j) ∧
      fldCode R.BOOT_RESET_CAUSE_KIND ≠ fldCode (R.BOOT_MAN_DIGEST j) := by decide
  unfold runSlot
  extract_lets d
  exact List.foldlRecOn _ _ (motive := KeepsStart s) (.wr (by decide) (by decide) _ _ _ _) fun u hu j hj =>
    hu.trans (.wr (hcodes j (List.mem_range.mp hj)).1 (hcodes j (List.mem_range.mp hj)).2 _ _ _ _)

theorem commitStart_keepsStart (s : State) : KeepsStart s (commitStart s) :=
  .of_touches (commitStart_touches (mm := 0x100000000040010) rfl (Touches.refl _ s)) rfl rfl rfl

theorem dropTrial_keepsStart (s : State) (st : Status) : KeepsStart s (dropTrial s st) := by
  unfold dropTrial
  extract_lets s1 _
  have h1 : KeepsStart s s1 := (KeepsStart.wr (by decide) (by decide) _ _ _ _).trans (.wr (by decide) (by decide) _ _ _ _)
  have h2 : KeepsStart s { s1 with boot := { s1.boot with trialUp := 0 } } := ⟨h1.warm, h1.cold, h1.link, h1.kind⟩
  exact ((h2.trans (startStatus_keepsStart ..)).trans (.wr (by decide) (by decide) _ _ _ _)).trans (startIrq_keepsStart _ (by decide))

theorem enterRecovery_keepsStart (s : State) (cause : Nat) : KeepsStart s (enterRecovery s cause) :=
  (((KeepsStart.wr (by decide) (by decide) _ _ _ _).trans (.wr (by decide) (by decide) _ _ _ _)).trans
    (.wr (by decide) (by decide) _ _ _ _)).trans (startIrq_keepsStart _ (by decide))

theorem tryTrial_keepsStart (s : State) (e : StartEnv) : KeepsStart s (tryTrial s e).1 := by
  unfold tryTrial
  extract_lets slot
  split
  · exact .refl s
  · split
    · split
      · have h1 : KeepsStart s (incSat s R.BOOT_SLOTS_TRIAL_BOOTS) := .inc (by decide) (by decide) _ _ _
        have h2 := h1.trans (.wr (f := R.BOOT_STAT_TRIAL) (by decide) (by decide) _ 1 0 0)
        have h3 := h2.trans (.wr (f := R.BOOT_TRIAL_LEFT) (by decide) (by decide) _ (1800 - s.boot.trialUp) 0 0)
        dsimp only
        exact (h3.trans (runSlot_keepsStart ..)).trans (commitStart_keepsStart _)
      · exact dropTrial_keepsStart ..
    · exact dropTrial_keepsStart ..

theorem tryRecovery_keepsStart (s : State) (e : StartEnv) (cause : Nat) : KeepsStart s (tryRecovery s e cause).1 := by
  unfold tryRecovery
  split
  · exact (runSlot_keepsStart ..).trans (enterRecovery_keepsStart ..)
  · exact startStatus_keepsStart ..

theorem tryActive_keepsStart (s : State) (e : StartEnv) : KeepsStart s (tryActive s e).1 := by
  unfold tryActive
  extract_lets a first
  clear_value first
  split
  · exact runSlot_keepsStart ..
  · extract_lets s1 s2
    have h1 : KeepsStart s s1 := by
      simp only [s1]
      split
      · exact startStatus_keepsStart ..
      · exact .refl s
    split
    · split
      · have h2 : KeepsStart s s2 := h1.trans (.wr (by decide) (by decide) _ _ _ _)
        have h3 : KeepsStart s { s2 with boot := { s2.boot with activeDigest := manDigest (slotMan s2 (1 - a)) } } :=
          ⟨h2.warm, h2.cold, h2.link, h2.kind⟩
        exact h3.trans (runSlot_keepsStart ..)
      · exact h1.trans (startStatus_keepsStart ..)
    · exact h1

theorem chooseImage_keepsStart (s : State) (e : StartEnv) : KeepsStart s (chooseImage s e).1 := by
  unfold chooseImage
  split
  · exact tryRecovery_keepsStart ..
  · have htrial := tryTrial_keepsStart s e
    split
    · next h => rwa [h] at htrial
    · next u h =>
      rw [h] at htrial
      have hactive := tryActive_keepsStart u e
      split
      · next h2 =>
        rw [h2] at hactive
        exact htrial.trans hactive
      · next h2 =>
        rw [h2] at hactive
        exact (htrial.trans hactive).trans (tryRecovery_keepsStart ..)

/-! ### Orders 2 to 4 of a start (R462) -/

theorem loadBoot_keepsStart (s : State) (b : BootPage) : KeepsStart s (loadBoot s b) := by
  unfold loadBoot
  extract_lets s1 s2 s3
  have h3 : KeepsStart s s3 := by
    refine KeepsStart.trans (t := s1) ?_ (KeepsStart.trans (t := s2) ?_ ?_)
    · exact (KeepsStart.wr (by decide) (by decide) _ _ _ _).trans (.wr (by decide) (by decide) _ _ _ _)
    · exact (KeepsStart.wr (by decide) (by decide) _ _ _ _).trans (.wr (by decide) (by decide) _ _ _ _)
    · exact ((KeepsStart.wr (by decide) (by decide) _ _ _ _).trans (.wr (by decide) (by decide) _ _ _ _)).trans
        (.wr (by decide) (by decide) _ _ _ _)
  exact ⟨h3.warm, h3.cold, h3.link, h3.kind⟩

theorem loadStaging_keepsStart (s : State) (g : Staging) : KeepsStart s (loadStaging s g) := by
  have h : Touches 0x200000000020000 s (loadStaging s g) := loadStaging_touches rfl (Touches.refl _ s)
  have hboot : (loadStaging s g).boot = { s.boot with digest := g.digest, chunks := g.chunks, beginTime := g.beginTime } :=
    setBitmap_boot _ _
  exact ⟨by rw [hboot], by rw [hboot], h.reads rfl, h.reads rfl⟩

theorem checkBanks_keepsStart (s : State) (e : StartEnv) : KeepsStart s (checkBanks s e) :=
  .of_touches (checkBanks_touches (mm := 0x100000000000010) rfl (Touches.refl _ s)) rfl rfl rfl

theorem loadPages_keepsStart (s : State) (e : StartEnv) : KeepsStart s (loadPages s e) := by
  unfold loadPages
  extract_lets s1
  have h1 : KeepsStart s s1 := checkBanks_keepsStart s e
  clear_value s1
  split
  · extract_lets s2 _
    have h2 : KeepsStart s s2 := h1.trans (.of_touches (m := 0x100000000000000)
      (wr_touches rfl (wr_touches rfl (wr_touches rfl (Touches.refl _ s1)))) rfl rfl rfl)
    have h3 : KeepsStart s { s2 with boot := { s2.boot with lost := false } } := ⟨h2.warm, h2.cold, h2.link, h2.kind⟩
    exact (h3.trans (loadBoot_keepsStart ..)).trans (loadStaging_keepsStart ..)
  · have h3 : KeepsStart s { s1 with boot := { s1.boot with lost := true } } := ⟨h1.warm, h1.cold, h1.link, h1.kind⟩
    exact (h3.trans (loadBoot_keepsStart ..)).trans (loadStaging_keepsStart ..)

/-- What every start leaves: the kind of the reset is shown, and the start stands before the release of the cores or at stage 2. -/
theorem startIsland_shows (s : State) (e : StartEnv) : (startIsland s e).boot.warm = s.boot.warm ∧
    (startIsland s e).boot.cold = s.boot.cold ∧ rd (startIsland s e) R.HOST_LINK_UP = rd s R.HOST_LINK_UP ∧
    rd (startIsland s e) R.BOOT_RESET_CAUSE_KIND = b2n (!s.boot.cold) ∧
    (rd (startIsland s e) R.BOOT_STAT_STAGE = 4 ∨ rd (startIsland s e) R.BOOT_STAT_STAGE = 2) := by
  unfold startIsland
  extract_lets s1 s2 s3
  have hload : KeepsStart s s1 := loadPages_keepsStart s e
  clear_value s1
  have hcold : s2.boot.cold = s.boot.cold := hload.cold
  have h2 : s2.boot = s1.boot := rfl
  have hlink : rd s3 R.HOST_LINK_UP = rd s R.HOST_LINK_UP := by
    have hcode : ∀ f ∈ [R.BOOT_COLD_CNT, R.BOOT_WARM_CNT], fldCode R.HOST_LINK_UP ≠ fldCode f := by decide
    exact (rd_wr_ne (by decide) _ _ _ _ _ _).trans ((rd_wr_ne (by decide) _ _ _ _ _ _).trans
      ((rd_wr_ne (hcode _ (by split <;> simp)) _ _ _ _ _ _).trans hload.link))
  have hkind : rd s3 R.BOOT_RESET_CAUSE_KIND = b2n (!s.boot.cold) := by
    refine (rd_wr_ne (by decide) _ _ _ _ _ _).trans ?_
    rw [hcold]
    exact rd_wr_fit _ _ _ _ (by cases s.boot.cold <;> decide)
  have hboot : s3.boot = s1.boot := rfl
  have hchosen := chooseImage_keepsStart s3 e
  split
  · next u h =>
    rw [h] at hchosen
    have hreads : Touches 0x400 (wr (wr u R.SEC_STAT_READY 1) R.BOOT_STAT_STAGE 4)
        (effectiveRelease (wr (wr u R.SEC_STAT_READY 1) R.BOOT_STAT_STAGE 4)) := effectiveRelease_touches rfl (Touches.refl _ _)
    have hb : (effectiveRelease (wr (wr u R.SEC_STAT_READY 1) R.BOOT_STAT_STAGE 4)).boot = u.boot := hreads.same (c := .boot) rfl
    rw [hb, hreads.reads rfl, hreads.reads rfl, hreads.reads rfl]
    refine ⟨?_, ?_, ?_, ?_, .inl (rd_wr_fit _ _ _ _ (by decide))⟩
    · rw [hchosen.warm, hboot, hload.warm]
    · rw [hchosen.cold, hboot, hload.cold]
    · rw [rd_wr_ne (by decide), rd_wr_ne (by decide), hchosen.link, hlink]
    · rw [rd_wr_ne (by decide), rd_wr_ne (by decide), hchosen.kind, hkind]
  · next u h =>
    rw [h] at hchosen
    refine ⟨?_, ?_, ?_, ?_, .inr (rd_wr_fit _ _ _ _ (by decide))⟩
    · exact hchosen.warm.trans ((congrArg Boot.warm hboot).trans hload.warm)
    · exact hchosen.cold.trans ((congrArg Boot.cold hboot).trans hload.cold)
    · exact (rd_wr_ne (by decide) _ _ _ _ _ _).trans (hchosen.link.trans hlink)
    · exact (rd_wr_ne (by decide) _ _ _ _ _ _).trans (hchosen.kind.trans hkind)

end Sys2Proof.Proofs
end

section
/-!
Chapter 19, resets (O52, R456 to R459).
-/

namespace Sys2Proof.Proofs

open Sys2Proof Sys2Proof.Machine Sys2Proof.Safety Sys2Proof.Certificates Sys2Proof.Laws

/-! ### Cold and warm resets (R456, R458) -/

section
variable {s : State} {w : Writer}

/-- BOOT_CTL holds actions alone. -/
theorem bootAction_taken (hw : Writable s w 26 0) (k : State → State) : regWrite s w 26 0 0x108 true k = k s :=
  regWrite_plain hw.1 (fun h => hw.2 h.2) (by decide)

theorem exec_cold (hw : Writable s w 26 0) : exec (.cold w) s = .next (askCold s 2) :=
  congrArg Host.Outcome.next ((bootAction_taken hw _).trans (if_pos (by decide)))

theorem exec_warm (hw : Writable s w 26 0) : exec (.warm w) s = .next (beginWarm s 5 false) :=
  congrArg Host.Outcome.next ((bootAction_taken hw _).trans ((if_neg (by decide)).trans ((if_neg (by decide)).trans (if_pos (by decide)))))

theorem exec_recoveryRequest (hw : Writable s w 26 0) : exec (.recoveryRequest w) s = .next (beginWarm s 9 true) :=
  congrArg Host.Outcome.next ((bootAction_taken hw _).trans ((if_neg (by decide)).trans (if_pos (by decide))))

theorem beginWarm_begins (hgood : s.pwr.good = true) (hdusk : s.pwr.dusk = none) (hwarm : s.boot.warm = none) (cause : Nat) (rec : Bool) :
    beginWarm s cause rec = { s with boot := { s.boot with warm := some s.now, cause := cause, toRecovery := rec } } :=
  if_neg (by simp [hgood, hdusk, hwarm])

theorem beginWarm_runs {x : Nat} (hwarm : s.boot.warm = some x) (cause : Nat) (rec : Bool) : beginWarm s cause rec = s :=
  if_pos (by simp [hwarm])

end

theorem coldReset_warm (s : State) (c : Nat) : (coldReset s c).boot.warm = none := by
  obtain ⟨g, hg⟩ := coldReset_base s c
  rw [hg]
  rfl

theorem warmWaitExpiry_colds (x : Nat) (s : State) (hwarm : s.boot.warm = some x) (hdusk : s.pwr.dusk = none)
    (hruns : launchRuns s = true) : Ends .warmWaitExpiry s (fun t => t.boot.cause = 8 ∧ t.boot.warm = none ∧ t.pwr.good = false ∧
      t.comb = {} ∧ t.now = max s.now (x + 1000000 * rd s R.BOOT_CFG_WARM_WAIT)) := by
  generalize hv : x + 1000000 * rd s R.BOOT_CFG_WARM_WAIT = v
  have hexec : exec .warmWaitExpiry s = .next (coldReset (reachTime s v) 8) := by
    refine congrArg Host.Outcome.next ?_
    rw [hwarm, ← hv]
    exact if_pos (by simp [hruns, hdusk])
  obtain ⟨hnow, -, -, hcause, -, -, -, hgood, hcomb, -⟩ := coldReset_leaves (reachTime s v) 8
  exact ⟨_, hexec, hcause, coldReset_warm _ _, hgood, hcomb, hnow⟩

theorem warmWaitExpiry_idle (s : State) (h : s.boot.warm = none ∨ launchRuns s = false) : exec .warmWaitExpiry s = .next s := by
  refine congrArg Host.Outcome.next ?_
  split
  · next x hwarm => exact if_neg (by rcases h with h | h <;> simp_all)
  · rfl

/-! ### What order 6 of a warm reset leaves (R457, R458) -/

/-- The parts of the module that a warm reset empties, with the link down and the controllers' channels in self-refresh. -/
structure WarmLeft (t : State) : Prop where
  warm : t.boot.warm = none
  cold : t.boot.cold = false
  parts : t.comb.parts = []
  cells : t.comb.cells = []
  slots : t.comb.slots = []
  kv : t.kv = {}
  serv : t.serv = {}
  wag : t.wag = {}
  link : rd t R.HOST_LINK_UP = 0
  doms : ∀ m < 32, dom t (340 + m) = 2

theorem heldChannels_touches (s : State) (l : List Nat) :
    Touches 0x800000020 s (l.foldl (fun t m => setDom (wr t R.MEMC_STAT_HELD 0 m) (340 + m) 2) s) :=
  Touches.foldl (Touches.refl _ s) fun _ _ => setDom_touches rfl (wr_touches rfl (Touches.refl _ _))

theorem heldChannels_dom (s : State) {m : Nat} (hm : m < 32) :
    dom ((List.range 32).foldl (fun t m => setDom (wr t R.MEMC_STAT_HELD 0 m) (340 + m) 2) s) (340 + m) = 2 :=
  foldl_reaches (P := fun t : State => dom t (340 + m) = 2) (List.mem_range.mpr hm) (fun _ => dom_setDom ..)
    (fun u i _ hu => by
      by_cases h : m = i
      · subst h
        exact dom_setDom ..
      · rw [dom_setDom_ne _ _ (by omega)]
        exact hu) s

theorem warmState_left (s : State) : WarmLeft (warmState s) := by
  unfold warmState
  extract_lets s0 retire comb pwr host boot _ _ t0 t1 t2
  have hlink : rd t0 R.HOST_LINK_UP = 0 := by
    have hget := tget_filter 0 keepWarm s0.regs (fldKey R.HOST_LINK_UP 0 0)
    rw [if_neg (by decide +kernel)] at hget
    exact hget
  have hleft : t0.boot.warm = none ∧ t0.boot.cold = false ∧ t0.comb.parts = [] ∧ t0.comb.cells = [] ∧ t0.comb.slots = [] ∧
      t0.kv = {} ∧ t0.serv = {} ∧ t0.wag = {} := ⟨rfl, rfl, rfl, rfl, rfl, rfl, rfl, rfl⟩
  have h1 : Touches 0x400000000000 t0 t1 := by
    simp only [t1]
    split
    · exact wr_touches rfl (wr_touches rfl (Touches.refl _ t0))
    · exact Touches.refl _ t0
  clear_value t0 t1
  obtain ⟨hwarm, hcold, hparts, hcells, hslots, hkv, hserv, hwag⟩ := hleft
  have hdom : ∀ m < 32, dom t2 (340 + m) = 2 := fun m hm => heldChannels_dom _ hm
  have h2 : Touches 0x800000020 t1 t2 :=
    (powerDomains_touches (mm := 0x800000020) rfl (Touches.refl _ t1)).trans (heldChannels_touches _ _)
  clear_value t2
  generalize hv : b2n (!s0.host.refclk) = v
  have h3 : Touches 0x8000000000 t2 (wr t2 R.HOST_STAT_REFCLK_LOST v) := wr_touches rfl (Touches.refl _ t2)
  have k3 : KeepsStart t2 (wr t2 R.HOST_STAT_REFCLK_LOST v) := .wr (by decide) (by decide) _ _ _ _
  generalize wr t2 R.HOST_STAT_REFCLK_LOST v = t3 at h3 k3 ⊢
  have h4 : Touches 0x180800000060010 t3 (setQuality t3 2) := setQuality_touches rfl (Touches.refl _ t3)
  have k4 := setQuality_keepsBoot t3 2
  generalize setQuality t3 2 = t4 at h4 k4 ⊢
  have h5 : Touches 0x4400000000 t4 (showHops t4) := showHops_touches rfl (Touches.refl _ t4)
  generalize showHops t4 = t5 at h5 ⊢
  have hstart : KeepsStart t0 t5 :=
    (((KeepsStart.of_touches h1 rfl rfl rfl).trans (.of_touches h2 rfl rfl rfl)).trans k3).trans
      (KeepsStart.trans ⟨congrArg Boot.warm k4, congrArg Boot.cold k4, h4.reads rfl, h4.reads rfl⟩ (.of_touches h5 rfl rfl rfl))
  have hsame : ∀ c : Comp, c ∈ [Comp.parts, .cells, .slots, .kv, .serving, .links] → Same c t0 t5 := by
    intro c hc
    have hbits : ∀ c ∈ [Comp.parts, .cells, .slots, .kv, .serving, .links], (0x400000000000).testBit (bit c) = false ∧
        (0x800000020).testBit (bit c) = false ∧ (0x8000000000).testBit (bit c) = false ∧
        (0x180800000060010).testBit (bit c) = false ∧ (0x4400000000).testBit (bit c) = false := by decide
    obtain ⟨b1, b2, b3, b4, b5⟩ := hbits c hc
    exact Same.trans (h1.2.2 c b1) (Same.trans (h2.2.2 c b2) (Same.trans (h3.2.2 c b3) (Same.trans (h4.2.2 c b4) (h5.2.2 c b5))))
  refine ⟨hstart.warm.trans hwarm, hstart.cold.trans hcold, ?_, ?_, ?_, ?_, ?_, ?_, hstart.link.trans hlink, fun m hm => ?_⟩
  · exact (hsame .parts (by decide)).trans hparts
  · exact (hsame .cells (by decide)).trans hcells
  · exact (hsame .slots (by decide)).trans hslots
  · exact (hsame .kv (by decide)).trans hkv
  · exact (hsame .serving (by decide)).trans hserv
  · exact (hsame .links (by decide)).trans hwag
  · rw [dom_of_touches h5 rfl, dom_of_touches h4 rfl, dom_of_touches h3 rfl, hdom m hm]

theorem warmResetProceed_leaves (e : StartEnv) (us : Nat) (cut : List (Nat × List Byte)) (s : State) (hwarm : s.boot.warm ≠ none)
    (hruns : launchRuns s = false) (hdusk : s.pwr.dusk = none) :
    Ends (.warmResetProceed e us cut) s (fun t => t.boot.warm = none ∧ t.boot.cold = false ∧ t.comb.parts = [] ∧ t.comb.cells = [] ∧
      t.comb.slots = [] ∧ t.kv = {} ∧ t.serv = {} ∧ t.wag = {} ∧ rd t R.HOST_LINK_UP = 0 ∧ rd t R.BOOT_RESET_CAUSE_KIND = 1 ∧
      (rd t R.BOOT_STAT_STAGE = 4 ∨ rd t R.BOOT_STAT_STAGE = 2) ∧ (∀ m < 32, dom t (340 + m) = 2)) := by
  refine ⟨_, congrArg Host.Outcome.next (if_neg (by simp [hruns, hdusk, hwarm])), ?_⟩
  extract_lets held s1 s2 s3 s4 _ s5
  obtain ⟨hwarm, hcold, hparts, hcells, hslots, hkv, hserv, hwag, hlink, hdom⟩ := warmState_left (flushNow s5 us)
  generalize warmState (flushNow s5 us) = u at *
  obtain ⟨hwarm', hcold', hlink', hkind, hstage⟩ := startIsland_shows u e
  have h : Touches 0x782008000060410 u (startIsland u e) := startIsland_touches rfl (Touches.refl _ u)
  refine ⟨hwarm'.trans hwarm, hcold'.trans hcold, ?_, ?_, ?_, ?_, ?_, ?_, hlink'.trans hlink, ?_, hstage, fun m hm => ?_⟩
  · exact (h.same (c := .parts) rfl).trans hparts
  · exact (h.same (c := .cells) rfl).trans hcells
  · exact (h.same (c := .slots) rfl).trans hslots
  · exact (h.same (c := .kv) rfl).trans hkv
  · exact (h.same (c := .serving) rfl).trans hserv
  · exact (h.same (c := .links) rfl).trans hwag
  · rw [hkind, hcold]
    rfl
  · rw [dom_of_touches h rfl, hdom m hm]

theorem warmResetProceed_idle (e : StartEnv) (us : Nat) (cut : List (Nat × List Byte)) (s : State)
    (h : s.boot.warm = none ∨ launchRuns s = true ∨ s.pwr.dusk ≠ none) : exec (.warmResetProceed e us cut) s = .next s :=
  congrArg Host.Outcome.next (if_pos (by
    rcases h with h | h | h
    · simp [h]
    · simp [h]
    · simp [Option.isSome_iff_ne_none.mpr h]))

/-! ### Partial resets (R459) -/

theorem wordWrite_preset {w : Writer} {d : Nat} (hd : d ≤ 401) {s : State} (hw : Writable s w 26 0) :
    wordWrite s w 26 0 0x12C (2 ^ 31 + d % 512) = if d = rd s R.BOOT_PRESET_DOMAIN then s else wr s R.BOOT_PRESET_DOMAIN d := by
  obtain ⟨hdom, hrec⟩ := Bool.and_eq_true_iff.mp hw.1
  have hlow : decide (dom s (pageDomain 26 0) ≠ 0) = false := decide_eq_false (not_not_intro (of_decide_eq_true hdom))
  have hgo : ¬(rd s R.BOOT_STAT_RECOVERY = 1 && !recoveryPage 26) = true := by
    simp [show recoveryPage 26 = true from rfl]
  have hfields : fieldsAt 26 0 0x12C = [R.BOOT_PRESET_GO, R.BOOT_PRESET_DOMAIN] := by decide
  have hlegal : legalValue R.BOOT_PRESET_DOMAIN d = true := by
    simp only [legalValue, R.BOOT_PRESET_DOMAIN]
    simp [hd, show d < 512 by omega]
  generalize hv : 2 ^ 31 + d % 512 = v
  have hcarried : carried R.BOOT_PRESET_DOMAIN 0x12C v (rd s R.BOOT_PRESET_DOMAIN) = d := by
    refine (if_pos (by decide)).trans ?_
    rw [← hv]
    show (2 ^ 31 + d % 512) / 2 ^ 0 % 2 ^ 9 = d
    omega
  have hact : writeField w 26 0 0x12C v false (s, none, false) R.BOOT_PRESET_GO = (s, none, false) := by
    unfold writeField
    rw [homeFld_of_ne (by decide), show homeInst 26 0 R.BOOT_PRESET_GO = 0 from rfl]
    dsimp only
    rw [show R.BOOT_PRESET_GO.acc = .wo from rfl]
    dsimp only
    rw [if_neg (by simpa using fun _ hh hl => absurd ⟨hh, hl⟩ hw.2), if_neg (by decide)]
  have hfield : writeField w 26 0 0x12C v false (s, none, false) R.BOOT_PRESET_DOMAIN =
      (if d = rd s R.BOOT_PRESET_DOMAIN then s else wr s R.BOOT_PRESET_DOMAIN d, none, false) := by
    unfold writeField
    rw [homeFld_of_ne (by decide), show homeInst 26 0 R.BOOT_PRESET_DOMAIN = 0 from rfl]
    dsimp only
    rw [show bankIdx s 26 0 R.BOOT_PRESET_DOMAIN = 0 from rfl, hcarried,
      fieldRefuses_plain (by decide) (by decide) rfl hlegal s 26 0 v, show R.BOOT_PRESET_DOMAIN.acc = .rw from rfl,
      show R.BOOT_PRESET_DOMAIN.lock = false from rfl]
    dsimp only
    rw [if_neg (by decide), hlegal]
    split <;> rfl
  unfold wordWrite
  rw [if_neg hgo, show registerShut s 26 0 0x12C = none from rfl]
  dsimp only
  rw [hlow, hfields, List.foldl_cons, List.foldl_cons, List.foldl_nil, hact, hfield]
  exact noteSetting_none (by decide) _ _

section
variable (s : State) (v d : Nat)

theorem unitPart_wr_domain (isPipe : Bool) (n : Nat) : unitPart (wr s R.BOOT_PRESET_DOMAIN v) isPipe n = unitPart s isPipe n := by
  cases isPipe <;>
    simp (disch := decide) only [unitPart, logicalOf, mapState, mapLogical, quadPart, rd_wr_ne, if_true, if_false, Bool.false_eq_true]

theorem memcInUse_wr_domain (m : Nat) : memcInUse (wr s R.BOOT_PRESET_DOMAIN v) m = memcInUse s m := by
  simp (disch := decide) only [memcInUse, memcOf, locate, usedRanges, transferRanges, launchRanges, slotEnabled, slot, Machine.setOf,
    memPer, rd_wr_ne, wr_comb, wr_mem, wr_host, wr_wag] <;> rfl

/-- A write of the domain's number changes nothing of what refuses a partial reset. -/
theorem presetRefusal_wr_domain : presetRefusal (wr s R.BOOT_PRESET_DOMAIN v) d = presetRefusal s d := by
  simp (disch := decide) only [presetRefusal, unitPart_wr_domain, memcInUse_wr_domain, partRunning, part, rd_wr_ne, wr_comb] <;> rfl

end

theorem presetRefusal_places (s : State) (d : Nat) :
    (d = 372 ∨ d = 398 ∨ d = 400 ∨ d = 401 → presetRefusal s d = some .fieldReserved) ∧
    (376 ≤ d → d < 393 → presetRefusal s d = none) := by
  constructor
  · rintro (rfl | rfl | rfl | rfl) <;> rfl
  · intro hlo hhi
    exact (if_neg (by omega)).trans ((if_neg (by omega)).trans (if_pos (by simp [hlo, hhi])))

theorem beginPreset_shows (s : State) (d : Nat) : (beginPreset s d).boot.preset = some d ∧
    rd (beginPreset s d) R.BOOT_PRESET_STAT_BUSY = 1 ∧ rd (beginPreset s d) R.BOOT_PRESET_DOMAIN = rd s R.BOOT_PRESET_DOMAIN ∧
    (presetWaits s d = false → dom (beginPreset s d) d = 3) ∧ (∀ k, k ≠ d → dom (beginPreset s d) k = dom s k) := by
  unfold beginPreset
  extract_lets _ s1 s2 p
  have hwaits : presetWaits s1 d = presetWaits s d := by
    simp (disch := decide) only [s1, presetWaits, engineBusy, rd_wr_ne, wr_vid] <;> rfl
  have hboot : s2.boot.preset = some d := by
    simp only [s2]
    split <;> rfl
  have hbusy : rd s2 R.BOOT_PRESET_STAT_BUSY = 1 := by
    have h1 : rd s1 R.BOOT_PRESET_STAT_BUSY = 1 := rd_wr_fit _ _ _ _ (by decide)
    simp only [s2]
    split
    · exact h1
    · exact h1
  have hdomain : rd s2 R.BOOT_PRESET_DOMAIN = rd s R.BOOT_PRESET_DOMAIN := by
    have h1 : rd s1 R.BOOT_PRESET_DOMAIN = rd s R.BOOT_PRESET_DOMAIN := rd_wr_ne (by decide) _ _ _ _ _ _
    simp only [s2]
    split
    · exact h1
    · exact h1
  have hin : presetWaits s d = false → dom s2 d = 3 := fun h => by
    simp only [s2]
    rw [if_neg (by simp [hwaits, h])]
    exact dom_setDom ..
  have hothers : ∀ k, k ≠ d → dom s2 k = dom s k := fun k hk => by
    simp only [s2]
    split
    · rfl
    · exact dom_setDom_ne _ _ hk
  have hkeep : ∀ t : State, KeepsBoot s2 t → Touches 0x981EA8000065F90 s2 t → t.boot.preset = some d ∧
      rd t R.BOOT_PRESET_STAT_BUSY = 1 ∧ rd t R.BOOT_PRESET_DOMAIN = rd s R.BOOT_PRESET_DOMAIN ∧
      (presetWaits s d = false → dom t d = 3) ∧ (∀ k, k ≠ d → dom t k = dom s k) := fun t hb ht =>
    ⟨(congrArg Boot.preset hb).trans hboot, (ht.reads rfl).trans hbusy, (ht.reads rfl).trans hdomain,
      fun h => (dom_of_touches ht rfl _).trans (hin h), fun k hk => (dom_of_touches ht rfl _).trans (hothers k hk)⟩
  clear_value s2
  split
  · split
    · exact hkeep _ (portDown_keepsBoot ..) (portDown_touches rfl (Touches.refl _ _))
    · split
      · exact hkeep _ (KeepsBoot.refl _) (Touches.refl _ _)
      · exact hkeep _ rfl (wr_touches rfl (wr_touches rfl (setPort_touches rfl (Touches.refl _ _))))
  · exact hkeep _ (KeepsBoot.refl _) (Touches.refl _ _)

section
variable {w : Writer} {d : Nat} {s : State} (hw : Writable s w 26 0) (hd : d ≤ 401)
include hw hd

/-- GO acts on the page with the domain's number taken. -/
theorem exec_partialReset : ∃ u, exec (.partialReset w d) s = .next (presetGo u) ∧ (u = s ∨ u = wr s R.BOOT_PRESET_DOMAIN d) ∧
    rd u R.BOOT_PRESET_DOMAIN = d := by
  have haction : actionTaken s w 26 0 = true := by
    simpa [actionTaken, hw.1, imp_iff_not_or] using hw.2
  have hword := wordWrite_preset hd hw
  have hexec : exec (.partialReset w d) s = .next (presetGo (wordWrite s w 26 0 0x12C (2 ^ 31 + d % 512))) := by
    refine congrArg Host.Outcome.next (if_pos ?_)
    have hgo : bitsOf (2 ^ 31 + d % 512) 31 1 = 1 := by
      unfold bitsOf
      omega
    have hnum : (2 ^ 31 + d % 512) % 512 ≤ 401 := by omega
    rw [Bool.and_eq_true, Bool.and_eq_true]
    exact ⟨⟨decide_eq_true hgo, haction⟩, decide_eq_true hnum⟩
  rw [hword] at hexec
  refine ⟨_, hexec, ?_, ?_⟩
  · split
    · exact .inl rfl
    · exact .inr rfl
  · split
    · next h => exact h.symm
    · exact rd_wr_fit _ _ _ _ (show d < 2 ^ 9 by omega)

theorem partialReset_answers :
    (rd s R.BOOT_PRESET_STAT_BUSY = 1 → Ends (.partialReset w d) s (fun t => t.boot.preset = s.boot.preset ∧
      rd t (hErrStatus 26) 0 = statusValue .dmaBusy)) ∧
    (∀ st, rd s R.BOOT_PRESET_STAT_BUSY ≠ 1 → presetRefusal s d = some st → Ends (.partialReset w d) s (fun t =>
      t.boot.preset = s.boot.preset ∧ t.pwr = s.pwr ∧ rd t (hErrStatus 26) 0 = statusValue st)) ∧
    (rd s R.BOOT_PRESET_STAT_BUSY ≠ 1 → presetRefusal s d = none → s.pwr.dusk = none → s.boot.warm = none →
      Ends (.partialReset w d) s (fun t => t.boot.preset = some d ∧ rd t R.BOOT_PRESET_STAT_BUSY = 1 ∧
        rd t R.BOOT_PRESET_DOMAIN = d ∧ (presetWaits s d = false → dom t d = 3) ∧
        (∀ k, k ≠ d → dom t k = dom s k))) := by
  obtain ⟨u, hexec, hu, hnum⟩ := exec_partialReset hw hd
  have hbusy : rd u R.BOOT_PRESET_STAT_BUSY = rd s R.BOOT_PRESET_STAT_BUSY := by
    obtain rfl | rfl := hu
    · rfl
    · exact rd_wr_ne (by decide) _ _ _ _ _ _
  have hrefusal : presetRefusal u d = presetRefusal s d := by
    obtain rfl | rfl := hu
    · rfl
    · exact presetRefusal_wr_domain s d d
  have hwaits : presetWaits u d = presetWaits s d := by
    obtain rfl | rfl := hu
    · rfl
    · simp (disch := decide) only [presetWaits, engineBusy, rd_wr_ne, wr_vid]
  have hboot : u.boot = s.boot ∧ u.pwr = s.pwr := by
    obtain rfl | rfl := hu <;> exact ⟨rfl, rfl⟩
  obtain ⟨hboot, hpwr⟩ := hboot
  clear hu
  unfold presetGo at hexec
  rw [hnum] at hexec
  dsimp only at hexec
  refine ⟨fun hb => ?_, fun st hb hr => ?_, fun hb hr hdusk hwarm => ?_⟩
  · rw [if_pos (hbusy.trans hb)] at hexec
    exact ⟨_, hexec, congrArg Boot.preset hboot, rd_refuseWrite_hErrStatus _ _ _ _ _⟩
  · rw [if_neg (by rwa [hbusy]), hrefusal, hr] at hexec
    exact ⟨_, hexec, congrArg Boot.preset hboot, hpwr, rd_refuseWrite_hErrStatus _ _ _ _ _⟩
  · rw [if_neg (by rwa [hbusy]), hrefusal, hr] at hexec
    dsimp only at hexec
    rw [if_neg (by simp [hpwr, hboot, hdusk, hwarm])] at hexec
    obtain ⟨hpreset, hbusy1, hkept, hin, hothers⟩ := beginPreset_shows u d
    exact ⟨_, hexec, hpreset, hbusy1, hkept.trans hnum, fun h => hin (hwaits.trans h),
      fun k hk => (hothers k hk).trans (congrArg (fun p : Pwr => tget (domReset k) p.dom k) hpwr)⟩

end

theorem fldKey_place (f : Fld) (i k : Nat) : fldKey f i k % 2 ^ 15 = (f.off * 8 + f.lo) % 2 ^ 15 := by
  unfold fldKey
  omega

/-- A page in reset keeps the fields that a reset of its block keeps. -/
theorem rd_resetPage_kept {f : Fld} {also : List Fld} {ty : Nat} (hkept : keptPlace also ty ((f.off * 8 + f.lo) % 2 ^ 15) = true) (s : State)
    (i n : Nat) : rd (resetPage also s ty i) f n = rd s f n := by
  have hget := tget_filter (fldReset f n 0) (fun a => decide (a / 2 ^ 15 % 32 ≠ ty) || decide (a / 2 ^ 20 % 2 ^ 16 ≠ i) ||
    keptPlace also ty (a % 2 ^ 15) || (decide (ty = 3) || decide (ty = 21)) && decide (8 * 0x140 ≤ a % 2 ^ 15)) s.regs (fldKey f n 0)
  rw [if_pos (by rw [fldKey_place, hkept]; simp)] at hget
  exact hget

theorem presetEffect_unit (s : State) {d : Nat} (hd : d < 340) (f : Fld)
    (hkept : keptPlace warmFields (unitPage (decide (272 ≤ d))) ((f.off * 8 + f.lo) % 2 ^ 15) = true) (n : Nat) :
    rd (presetEffect s d) f n = rd s f n := by
  unfold presetEffect
  rw [if_pos hd]
  extract_lets isPipe m s1 s2
  have h1 : Touches 0x1C00000 s s1 := by
    simp only [s1]
    split
    · exact clearResident_touches rfl (Touches.refl _ s)
    · exact Touches.refl _ s
  have h2 : Touches 0x1C00000 s s2 := by
    simp only [s2]
    split
    · split
      · exact setPipe_touches rfl h1
      · exact setCell_touches rfl h1
    · exact h1
  rw [rd_resetPage_kept hkept]
  exact h2.reads (Nat.testBit_lt_two_pow (lt_of_lt_of_le (by decide : 0x1C00000 < 2 ^ 32) (Nat.pow_le_pow_right (by decide) (by omega))))

/-- A partial reset does not move a unit on or off the map. -/
theorem alwaysOff_presetEffect (s : State) {d : Nat} (hd : d < 393) (hmemc : ¬(340 ≤ d ∧ d < 372)) :
    alwaysOff (presetEffect s d) d = alwaysOff s d := by
  unfold alwaysOff
  by_cases h1 : d < 272
  · rw [if_pos h1, if_pos h1, presetEffect_unit s (by omega) R.CELL_MAP_STATE (by rw [decide_eq_false (by omega)]; decide +kernel)]
  · rw [if_neg h1, if_neg h1]
    by_cases h2 : d < 340
    · rw [if_pos h2, if_pos h2, presetEffect_unit s h2 R.APIPE_MAP_STATE (by rw [decide_eq_true (by omega)]; decide +kernel)]
    · rw [if_neg h2, if_neg h2, if_neg (by omega), if_neg (by omega), decide_eq_false (show ¬d = 400 by omega), Bool.false_and,
        Bool.false_and]

theorem partialResetDone_ends (d : Nat) (s : State) (hpreset : s.boot.preset = some d) (hends : presetWaits s d = false) (hd : d < 393) :
    Ends .partialResetDone s (fun t => t.boot.preset = none ∧ rd t R.BOOT_PRESET_STAT_BUSY = 0 ∧
      rd t R.BOOT_PRESET_STAT_STATUS = statusValue .ok ∧ rd t (hIrqRaw 26 Irq.BOOT_PRESET_DONE) 0 = 1 ∧
      dom t d = (if alwaysOff s d = true ∨ 340 ≤ d ∧ d < 372 then 2 else 0) ∧ t.mem = s.mem) := by
  let u := presetEffect { s with boot := { s.boot with preset := none } } d
  let v := setDom u d (if alwaysOff u d || (340 ≤ d && d < 372) then 2 else 0)
  let x := irqEvent (wr (wr v R.BOOT_PRESET_STAT_STATUS (statusValue .ok)) R.BOOT_PRESET_STAT_BUSY 0) 26 0 Irq.BOOT_PRESET_DONE 0 [d]
  have hexec : exec .partialResetDone s = .next (
      if 376 ≤ d && d < 384 && rd x R.WAG_CTL_ENABLE (d - 376) = 1 then startTraining x (d - 376) else x) := by
    refine congrArg Host.Outcome.next ?_
    rw [hpreset]
    exact if_neg (by simp [hends])
  have hu : Touches 0xFFFFFFFF01C00000 { s with boot := { s.boot with preset := none } } u := presetEffect_touches rfl (Touches.refl _ _)
  have hv : u.boot.preset = none := congrArg Boot.preset (hu.same (c := .boot) rfl)
  have hoff : (alwaysOff u d || (decide (340 ≤ d) && decide (d < 372))) = true ↔ alwaysOff s d = true ∨ 340 ≤ d ∧ d < 372 := by
    by_cases hmemc : 340 ≤ d ∧ d < 372
    · simp [hmemc]
    · rw [show alwaysOff u d = alwaysOff s d from alwaysOff_presetEffect _ hd hmemc]
      simp
  have hmem : u.mem = _ := mem_of_touches hu rfl rfl
  have hx : Touches 0x580000000060010 v x := irqEvent_touches rfl rfl (wr_touches rfl (wr_touches rfl (Touches.refl _ v)))
  have hdom : dom x d = if alwaysOff s d = true ∨ 340 ≤ d ∧ d < 372 then 2 else 0 := by
    rw [dom_of_touches hx rfl]
    exact (dom_setDom ..).trans (if_congr hoff rfl rfl)
  have hbusy : rd x R.BOOT_PRESET_STAT_BUSY = 0 :=
    (rd_irqEvent _ _ _ _ _ _ rfl (by decide) _ _).trans (rd_wr_fit _ _ _ _ (by decide))
  have hstatus : rd x R.BOOT_PRESET_STAT_STATUS = statusValue .ok :=
    (rd_irqEvent _ _ _ _ _ _ rfl (by decide) _ _).trans ((rd_wr_ne (by decide) _ _ _ _ _ _).trans (rd_wr_fit _ _ _ _ (by decide)))
  have hirq : rd x (hIrqRaw 26 Irq.BOOT_PRESET_DONE) 0 = 1 := rd_irqEvent_same ..
  have hnone : x.boot.preset = none := (congrArg Boot.preset (irqEvent_boot ..)).trans hv
  have hxmem : x.mem = s.mem := (mem_of_touches hx rfl rfl).trans hmem
  refine ⟨_, hexec, ?_⟩
  clear_value x
  split
  · have ht : Touches 0x200000000800 x (startTraining x (d - 376)) := startTraining_touches rfl (Touches.refl _ x)
    rw [ht.reads rfl, ht.reads rfl, ht.reads rfl, dom_of_touches ht rfl, mem_of_touches ht rfl rfl,
      show (startTraining x (d - 376)).boot = x.boot from ht.same (c := .boot) rfl]
    exact ⟨hnone, hbusy, hstatus, hirq, hdom, hxmem⟩
  · exact ⟨hnone, hbusy, hstatus, hirq, hdom, hxmem⟩

theorem partialResetDone_idle (s : State) (h : s.boot.preset = none ∨ ∃ d, s.boot.preset = some d ∧ presetWaits s d = true) :
    exec .partialResetDone s = .next s := by
  refine congrArg Host.Outcome.next ?_
  rcases h with h | ⟨d, h, hwaits⟩
  · rw [h]
  · rw [h]
    exact if_pos hwaits

/-- Settles O52: a reset is carried out by `coldReset_leaves`, in order 6 of a warm one by `warmState_left` and `startIsland_shows`, and
for one domain by `beginPreset_shows` and the effects that a partial reset may have. -/
theorem resets : Obligations.Resets := by
  unfold Obligations.Resets
  refine ⟨fun w s hw => ⟨fun hgood hdusk => ?_, fun h => ?_⟩, fun w s hw hgood hdusk hwarm => ⟨?_, ?_⟩, fun w x s hw hwarm => ?_,
    fun s hgood hdusk hwarm => ?_, fun s hwarm => ?_, warmWaitExpiry_colds, warmWaitExpiry_idle, warmResetProceed_leaves,
    warmResetProceed_idle, fun w d s hw hd => partialReset_answers hw hd, presetRefusal_places, partialResetDone_ends, partialResetDone_idle⟩
  · obtain ⟨hnow, -, -, hcause, -, -, -, hpower, hcomb, hkv, -⟩ := coldReset_leaves s 2
    refine ⟨_, (exec_cold hw).trans (congrArg Host.Outcome.next (if_neg (by simp [hgood, hdusk]))), hcause, hpower, hcomb, hkv, hnow, ?_⟩
    exact rd_coldReset (by decide) (by decide) s 2
  · refine ⟨s, (exec_cold hw).trans (congrArg Host.Outcome.next (if_pos ?_)), rfl, rfl, rfl⟩
    rcases h with h | h
    · simp [h]
    · simp [Option.isSome_iff_ne_none.mpr h]
  · exact ⟨_, (exec_warm hw).trans (congrArg Host.Outcome.next (beginWarm_begins hgood hdusk hwarm 5 false)), rfl, rfl, rfl, rfl⟩
  · exact ⟨_, (exec_recoveryRequest hw).trans (congrArg Host.Outcome.next (beginWarm_begins hgood hdusk hwarm 9 true)), rfl, rfl, rfl, rfl⟩
  · exact ⟨s, (exec_warm hw).trans (congrArg Host.Outcome.next (beginWarm_runs hwarm 5 false)), hwarm, rfl⟩
  · exact ⟨_, congrArg Host.Outcome.next (beginWarm_begins hgood hdusk hwarm 6 false), rfl,
      sameBut_of_touches (Touches.boot rfl (Touches.refl _ s))⟩
  · obtain ⟨x, hx⟩ := Option.ne_none_iff_exists'.mp hwarm
    exact congrArg Host.Outcome.next (beginWarm_runs hx 6 false)

end Sys2Proof.Proofs
end

section
/-!
Chapter 19, start-up from power to ready (O51, R457 to R463).
-/

namespace Sys2Proof.Proofs

open Sys2Proof Sys2Proof.Machine Sys2Proof.Safety Sys2Proof.Certificates Sys2Proof.Laws

/-! ### The checks and the load of an image (R466, R467) -/

section
variable {s t : State} (hnor : t.boot.nor = s.boot.nor) (hkey : t.sec.opkey = s.sec.opkey)
  (hcosign : rd t R.BOOT_CFG_REQUIRE_COSIGN = rd s R.BOOT_CFG_REQUIRE_COSIGN) (hdev : ∀ j, rd t (R.SEC_DEVID j) = rd s (R.SEC_DEVID j))

include hnor in
theorem slotMan_congr (slot : Nat) : slotMan t slot = slotMan s slot := by
  rw [slotMan, norBytes_congr hnor, norBytes_congr hnor, slotMan]

include hkey in
theorem cosigned_congr (e : StartEnv) (slot : Nat) (m : List Byte) : cosigned t e slot m = cosigned s e slot m := by
  rw [cosigned, hkey, cosigned]

include hdev in
theorem manBinds_congr (m : List Byte) : manBinds t m = manBinds s m := by
  simp only [manBinds, hdev]

include hnor hkey hcosign hdev in
theorem verifies_congr (e : StartEnv) (slot : Nat) : verifies t e slot = verifies s e slot := by
  unfold verifies
  rw [slotMan_congr hnor, hcosign]
  simp only [cosigned_congr hkey, manBinds_congr hdev, norBytes_congr hnor]

end

section
variable {f : Fld}

theorem rd_runSlot (hrun : fldCode f ≠ fldCode R.BOOT_STAT_RUNNING) (hdig : ∀ j < 16, fldCode f ≠ fldCode (R.BOOT_MAN_DIGEST j))
    (s : State) (slot i k : Nat) : rd (runSlot s slot) f i k = rd s f i k := by
  unfold runSlot
  extract_lets d
  exact List.foldlRecOn _ _ (motive := fun u : State => rd u f i k = rd s f i k) (rd_wr_ne hrun _ _ _ _ _ _) fun u hu j hj =>
    (rd_wr_ne (hdig j (List.mem_range.mp hj)) _ _ _ _ _ _).trans hu

theorem runSlot_running (s : State) {slot : Nat} (hslot : slot < 4) : rd (runSlot s slot) R.BOOT_STAT_RUNNING = slot := by
  have hdig : ∀ j < 16, fldCode R.BOOT_STAT_RUNNING ≠ fldCode (R.BOOT_MAN_DIGEST j) := by decide
  unfold runSlot
  extract_lets d
  exact List.foldlRecOn _ _ (motive := fun u : State => rd u R.BOOT_STAT_RUNNING = slot) (rd_wr_fit _ _ _ _ hslot) fun u hu j hj =>
    (rd_wr_ne (hdig j (List.mem_range.mp hj)) _ _ _ _ _ _).trans hu

end

/-- What the boot page of a bank shows once it is in force. -/
theorem loadBoot_shows (s : State) (b : BootPage) : rd (loadBoot s b) R.BOOT_SLOTS_ACTIVE = b.active % 2 ^ 2 ∧
    rd (loadBoot s b) R.BOOT_SLOTS_TRIAL = b.trial % 2 ^ 2 ∧ rd (loadBoot s b) R.BOOT_SLOTS_OTHER_CONFIRMED = b2n b.otherOk ∧
    rd (loadBoot s b) R.BOOT_COLD_CNT = b.cold % 2 ^ 32 ∧ rd (loadBoot s b) R.BOOT_CFG_REQUIRE_COSIGN = rd s R.BOOT_CFG_REQUIRE_COSIGN := by
  unfold loadBoot
  extract_lets s1 s2 s3
  have hread : ∀ f : Fld, rd { s3 with boot := { s3.boot with trialUp := b.trialUp, activeDigest := b.activeDigest } } f = rd s3 f := fun _ => rfl
  rw [hread, hread, hread, hread, hread]
  have h2 : ∀ f : Fld, fldCode f ≠ fldCode R.BOOT_COLD_CNT → fldCode f ≠ fldCode R.BOOT_WARM_CNT → fldCode f ≠ fldCode R.BOOT_FALLBACK_CNT →
      rd s3 f = rd s2 f := fun f h4 h5 h6 => by
    simp only [s3]
    rw [rd_wr_ne h6, rd_wr_ne h5, rd_wr_ne h4]
  have h1 : ∀ f : Fld, fldCode f ≠ fldCode R.BOOT_SLOTS_TRIAL_BOOTS → fldCode f ≠ fldCode R.BOOT_SLOTS_OTHER_CONFIRMED →
      rd s2 f = rd s1 f := fun f h4 h5 => by
    simp only [s2]
    rw [rd_wr_ne h5, rd_wr_ne h4]
  have hother : rd s2 R.BOOT_SLOTS_OTHER_CONFIRMED = b2n b.otherOk := rd_wr_fit _ _ _ _ (by cases b.otherOk <;> decide)
  refine ⟨?_, ?_, ?_, ?_, ?_⟩
  · rw [h2 _ (by decide) (by decide) (by decide), h1 _ (by decide) (by decide)]
    exact (rd_wr_ne (by decide) _ _ _ _ _ _).trans (rd_wr ..)
  · rw [h2 _ (by decide) (by decide) (by decide), h1 _ (by decide) (by decide)]
    exact rd_wr ..
  · rw [h2 _ (by decide) (by decide) (by decide), hother]
  · exact (rd_wr_ne (by decide) _ _ _ _ _ _).trans ((rd_wr_ne (by decide) _ _ _ _ _ _).trans (rd_wr ..))
  · rw [h2 _ (by decide) (by decide) (by decide), h1 _ (by decide) (by decide)]
    exact (rd_wr_ne (by decide) _ _ _ _ _ _).trans (rd_wr_ne (by decide) _ _ _ _ _ _)

/-- The slot that a start without a bank takes as the active one. -/
def lostActive (s : State) (e : StartEnv) : Nat := if (verifies s e 0).isNone then 0 else if (verifies s e 1).isNone then 1 else 3

/-- What a start without a bank finds: no bank, an active slot that verifies if there is one, no trial, and counts from 0 (R481). -/
structure LostLoaded (s : State) (e : StartEnv) (t : State) : Prop where
  touches : Touches 0x700000000020010 s t
  bank0 : t.evr.bank0 = none
  bank1 : t.evr.bank1 = none
  lost : t.boot.lost = true
  cold : t.boot.cold = s.boot.cold
  toRecovery : t.boot.toRecovery = s.boot.toRecovery
  cause : t.boot.cause = s.boot.cause
  active : rd t R.BOOT_SLOTS_ACTIVE = lostActive s e
  trial : rd t R.BOOT_SLOTS_TRIAL = 3
  other : rd t R.BOOT_SLOTS_OTHER_CONFIRMED = 0
  count : rd t R.BOOT_COLD_CNT = 0
  verify : ∀ slot, verifies t e slot = verifies s e slot

theorem loadPages_none {s : State} {e : StartEnv} (h : selectedBank (checkBanks s e) = none) : ∃ d, loadPages s e =
    loadStaging (loadBoot { checkBanks s e with boot := { (checkBanks s e).boot with lost := true } }
      { active := lostActive (checkBanks s e) e, activeDigest := d }) {} := by
  unfold loadPages
  extract_lets s1
  rw [show selectedBank s1 = none from h]
  exact ⟨_, rfl⟩

theorem loadPages_lost (s : State) (e : StartEnv) (h0 : e.bad0 ≠ 0) (h1 : e.bad1 ≠ 0) : LostLoaded s e (loadPages s e) := by
  have htouch : Touches 0x700000000020010 s (loadPages s e) := loadPages_touches rfl (Touches.refl _ s)
  have hbanks : (checkBanks s e).evr.bank0 = none ∧ (checkBanks s e).evr.bank1 = none := ⟨if_neg h0, if_neg h1⟩
  have hcheck : Touches 0x100000000000010 s (checkBanks s e) := checkBanks_touches rfl (Touches.refl _ s)
  have hverify : ∀ slot, verifies (checkBanks s e) e slot = verifies s e slot := verifies_congr (s := s) (t := checkBanks s e) rfl rfl
    (hcheck.reads rfl) (fun j => hcheck.reads (f := R.SEC_DEVID j) (show Nat.testBit _ (32 + 17 % 32) = false from rfl)) e
  obtain ⟨d, heq⟩ := loadPages_none (e := e) (s := s) (by rw [selectedBank, hbanks.1, hbanks.2])
  rw [show lostActive (checkBanks s e) e = lostActive s e by simp only [lostActive, hverify]] at heq
  rw [heq] at htouch ⊢
  generalize hu : ({ checkBanks s e with boot := { (checkBanks s e).boot with lost := true } } : State) = u at htouch ⊢
  have hevr : u.evr = (checkBanks s e).evr := by rw [← hu]
  have hboot : u.boot = { s.boot with lost := true } := by rw [← hu]; rfl
  have hpage : rd u R.BOOT_CFG_REQUIRE_COSIGN = rd s R.BOOT_CFG_REQUIRE_COSIGN := by
    rw [← hu]
    exact hcheck.reads rfl
  clear hu heq
  have hactive : lostActive s e < 4 := by
    unfold lostActive
    split
    · decide
    · split <;> decide
  generalize hb : ({ active := lostActive s e, activeDigest := d } : BootPage) = b at htouch ⊢
  obtain ⟨hshow, htrial, hother, hcold, hcosign⟩ := loadBoot_shows u b
  have hlboot : (loadBoot u b).boot = { u.boot with trialUp := b.trialUp, activeDigest := b.activeDigest } := rfl
  have hlevr : (loadBoot u b).evr = u.evr := rfl
  generalize loadBoot u b = v at htouch hshow htrial hother hcold hcosign hlboot hlevr ⊢
  have hstage : Touches 0x200000000020000 v (loadStaging v {}) := loadStaging_touches rfl (Touches.refl _ v)
  have htboot : (loadStaging v {}).boot = { v.boot with digest := [], chunks := 0, beginTime := 0 } := setBitmap_boot _ _
  have hevr' : (loadStaging v {}).evr = (checkBanks s e).evr := (hstage.same (c := .recorder) rfl).trans (hlevr.trans hevr)
  have hread : ∀ f : Fld, f.ty = 26 → rd (loadStaging v {}) f = rd v f := fun f hf => hstage.reads (by rw [hf]; rfl)
  subst hb
  refine ⟨htouch, ?_, ?_, ?_, ?_, ?_, ?_, ?_, ?_, ?_, ?_, ?_⟩
  · rw [hevr', hbanks.1]
  · rw [hevr', hbanks.2]
  · rw [htboot, hlboot, hboot]
  · rw [htboot, hlboot, hboot]
  · rw [htboot, hlboot, hboot]
  · rw [htboot, hlboot, hboot]
  · exact (hread _ rfl).trans (hshow.trans (Nat.mod_eq_of_lt hactive))
  · exact (hread _ rfl).trans htrial
  · exact (hread _ rfl).trans hother
  · exact (hread _ rfl).trans hcold
  · refine verifies_congr (s := s) ?_ (congrArg Sec.opkey (htouch.same (c := .security) rfl)) ?_ (fun j => htouch.reads (f := R.SEC_DEVID j)
      (show Nat.testBit _ (32 + 17 % 32) = false from rfl)) e
    · rw [htboot, hlboot, hboot]
    · rw [hread _ rfl, hcosign, hpage]

/-! ### Recovery mode (R463) -/

theorem rd_startIrq (s : State) {n : Nat} (hn : n < 1024) {f : Fld} (hty : Nat.testBit 0x180000000060010 (32 + f.ty % 32) = false)
    (hpage : Nat.testBit 0x80000000040010 (32 + f.ty % 32) = false) (hlo : 0x100 ≤ f.off) (hhi : f.off * 8 + f.lo < 2 ^ 15) (i k : Nat) :
    rd (startIrq s n) f i k = rd s f i k := by
  have hhead : (hIrqRaw 26 n).off * 8 + (hIrqRaw 26 n).lo < 0x800 := by
    simp only [hIrqRaw]
    omega
  unfold startIrq
  rw [rd_raiseIrq (fldCode_ne_of_header hlo hhi hhead), startRecord]
  split
  · exact (holdRec_touches (mm := 0x80000000040010) rfl (Touches.refl _ s)).reads hpage
  · exact (recordEvent_touches (mm := 0x180000000060010) rfl (Touches.refl _ s)).reads hty

theorem enterRecovery_shows (s : State) (cause : Nat) (hcause : cause < 2 ^ R.BOOT_STAT_RECOVERY_CAUSE.w) :
    rd (enterRecovery s cause) R.BOOT_STAT_RUNNING = rd s R.BOOT_STAT_RUNNING ∧ rd (enterRecovery s cause) R.BOOT_STAT_RECOVERY = 1 ∧
    rd (enterRecovery s cause) R.BOOT_STAT_RECOVERY_CAUSE = cause ∧ rd (enterRecovery s cause) R.HOST_STAT_RECOVERY = 1 := by
  unfold enterRecovery
  rw [rd_startIrq _ (by decide) rfl rfl (by decide) (by decide), rd_startIrq _ (by decide) rfl rfl (by decide) (by decide),
    rd_startIrq _ (by decide) rfl rfl (by decide) (by decide), rd_startIrq _ (by decide) rfl rfl (by decide) (by decide)]
  refine ⟨?_, ?_, ?_, rd_wr_fit _ _ _ _ (by decide)⟩
  · rw [rd_wr_ne (by decide), rd_wr_ne (by decide), rd_wr_ne (by decide)]
  · rw [rd_wr_ne (by decide), rd_wr_ne (by decide)]
    exact rd_wr_fit _ _ _ _ (by decide)
  · rw [rd_wr_ne (by decide)]
    exact rd_wr_fit _ _ _ _ hcause

/-! ### The choice of an image without a bank (R467, R499) -/

/-- The count and the cause of a start, once its pages are in force. -/
def counted (s : State) : State :=
  wr (wr (incSat s (if s.boot.cold then R.BOOT_COLD_CNT else R.BOOT_WARM_CNT)) R.BOOT_RESET_CAUSE_KIND (b2n (!s.boot.cold)))
    R.BOOT_RESET_CAUSE_CAUSE s.boot.cause

section
variable {s u : State} {e : StartEnv}

theorem startIsland_takes (h : chooseImage (counted (loadPages s e)) e = (u, true)) :
    startIsland s e = effectiveRelease (wr (wr u R.SEC_STAT_READY 1) R.BOOT_STAT_STAGE 4) := by
  unfold startIsland
  extract_lets s1 s2 s3
  rw [show chooseImage s3 e = (u, true) from h]

theorem startIsland_stays (h : chooseImage (counted (loadPages s e)) e = (u, false)) :
    startIsland s e = wr { u with host := { u.host with perst := none } } R.BOOT_STAT_STAGE 2 := by
  unfold startIsland
  extract_lets s1 s2 s3
  rw [show chooseImage s3 e = (u, false) from h]

theorem tryTrial_none (h : rd s R.BOOT_SLOTS_TRIAL = 3) : tryTrial s e = (s, false) := by
  unfold tryTrial
  dsimp only
  rw [h]
  rfl

theorem chooseImage_untried (hrec : s.boot.toRecovery = false) (h : rd s R.BOOT_SLOTS_TRIAL = 3) :
    ((tryActive s e).2 = true → chooseImage s e = ((tryActive s e).1, true)) ∧
    ((tryActive s e).2 = false → chooseImage s e = tryRecovery (tryActive s e).1 e 1) := by
  unfold chooseImage
  rw [if_neg (by simp [hrec]), tryTrial_none h]
  dsimp only
  rcases tryActive s e with ⟨v, b⟩
  cases b
  · exact ⟨fun h => (Bool.false_ne_true h).elim, fun _ => rfl⟩
  · exact ⟨fun _ => rfl, fun h => (Bool.false_ne_true h.symm).elim⟩

theorem tryActive_first (hactive : rd s R.BOOT_SLOTS_ACTIVE = 0) (hgood : verifies s e 0 = none) : tryActive s e = (runSlot s 0, true) := by
  unfold tryActive
  dsimp only
  rw [hactive, if_neg (by decide), hgood]
  rfl

theorem tryActive_none (hactive : rd s R.BOOT_SLOTS_ACTIVE = 3) (hother : rd s R.BOOT_SLOTS_OTHER_CONFIRMED = 0) :
    tryActive s e = (s, false) := by
  unfold tryActive
  dsimp only
  rw [hactive, if_pos (by decide)]
  dsimp only
  rw [hother]
  rfl

end

section
variable (s : State) (e : StartEnv) (hbad0 : e.bad0 ≠ 0) (hbad1 : e.bad1 ≠ 0) (hcold : s.boot.cold = true)
include hbad0 hbad1 hcold

/-- The state in which a cold start that lost both banks chooses its image. -/
theorem counted_lost : let t := counted (loadPages s e)
    LostLoaded s e (loadPages s e) ∧ Touches 0x400000000000000 (loadPages s e) t ∧ t.boot = (loadPages s e).boot ∧
    rd t R.BOOT_SLOTS_ACTIVE = lostActive s e ∧ rd t R.BOOT_SLOTS_TRIAL = 3 ∧ rd t R.BOOT_SLOTS_OTHER_CONFIRMED = 0 ∧
    rd t R.BOOT_COLD_CNT = 1 ∧ rd t R.BOOT_RESET_CAUSE_KIND = 0 ∧ ∀ slot, verifies t e slot = verifies s e slot := by
  have hload := loadPages_lost s e hbad0 hbad1
  generalize loadPages s e = u at hload
  intro t
  have hincs : t = wr (wr (incSat u R.BOOT_COLD_CNT) R.BOOT_RESET_CAUSE_KIND 0) R.BOOT_RESET_CAUSE_CAUSE u.boot.cause := by
    show counted u = _
    unfold counted
    rw [hload.cold, hcold]
    rfl
  have htouch : Touches 0x400000000000000 u t := hincs ▸ wr_touches rfl (wr_touches rfl (wr_touches rfl (Touches.refl _ u)))
  have hread : ∀ f : Fld, fldCode f ≠ fldCode R.BOOT_RESET_CAUSE_CAUSE → fldCode f ≠ fldCode R.BOOT_RESET_CAUSE_KIND →
      fldCode f ≠ fldCode R.BOOT_COLD_CNT → rd t f = rd u f := fun f h1 h2 h3 => by
    rw [hincs, rd_wr_ne h1, rd_wr_ne h2, rd_incSat_ne h3]
  refine ⟨hload, htouch, by rw [hincs]; rfl, ?_, ?_, ?_, ?_, ?_, fun slot => ?_⟩
  · rw [hread _ (by decide) (by decide) (by decide), hload.active]
  · rw [hread _ (by decide) (by decide) (by decide), hload.trial]
  · rw [hread _ (by decide) (by decide) (by decide), hload.other]
  · rw [hincs, rd_wr_ne (by decide), rd_wr_ne (by decide), rd_incSat, hload.count]
    rfl
  · rw [hincs, rd_wr_ne (by decide)]
    exact rd_wr_fit _ _ _ _ (by decide)
  · rw [verifies_congr (s := u) (t := t) (by rw [hincs]; rfl) (by rw [hincs]; rfl) (hread _ (by decide) (by decide) (by decide))
      (fun j => htouch.reads (f := R.SEC_DEVID j) (show Nat.testBit _ (32 + 17 % 32) = false from rfl)), hload.verify]

variable (hrec : s.boot.toRecovery = false)
include hrec

theorem startIsland_active (hgood : verifies s e 0 = none) : let t := startIsland s e
    rd t R.BOOT_STAT_STAGE = 4 ∧ rd t R.BOOT_STAT_RUNNING = 0 ∧ rd t R.BOOT_SLOTS_ACTIVE = 0 ∧ rd t R.SEC_STAT_READY = 1 ∧
    rd t R.BOOT_RESET_CAUSE_KIND = 0 ∧ rd t R.BOOT_COLD_CNT = 1 ∧ t.pwr = s.pwr ∧ t.boot.lost = true ∧ t.boot.cold = true ∧
    t.evr.bank0 = none ∧ t.evr.bank1 = none ∧ t.now = s.now ∧ t.rtc = s.rtc ∧ rd t R.EVR_STAT_TIME_Q = rd s R.EVR_STAT_TIME_Q := by
  obtain ⟨hload, hcount, hboot, hactive, htrial, -, hcnt, hkind, hverify⟩ := counted_lost s e hbad0 hbad1 hcold
  have htake : tryActive (counted (loadPages s e)) e = (runSlot (counted (loadPages s e)) 0, true) := by
    refine tryActive_first (hactive.trans ?_) ((hverify 0).trans hgood)
    rw [lostActive, hgood]
    rfl
  have hchoose := (chooseImage_untried (e := e) (by rw [hboot, hload.toRecovery, hrec]) htrial).1 (by rw [htake])
  rw [htake] at hchoose
  intro t
  have ht : t = _ := startIsland_takes hchoose
  generalize counted (loadPages s e) = c at hcount hboot hactive hcnt hkind ht
  have hdig : ∀ f ∈ [R.BOOT_SLOTS_ACTIVE, R.BOOT_RESET_CAUSE_KIND, R.BOOT_COLD_CNT], ∀ j < 16, fldCode f ≠ fldCode (R.BOOT_MAN_DIGEST j) := by
    decide
  have hrun : Touches 0x400000000000000 c (runSlot c 0) := runSlot_touches rfl (Touches.refl _ c)
  have hzero : lostActive s e = 0 := by
    rw [lostActive, hgood]
    rfl
  have hrunning : rd (runSlot c 0) R.BOOT_STAT_RUNNING = 0 := runSlot_running c (by decide)
  have hact : rd (runSlot c 0) R.BOOT_SLOTS_ACTIVE = 0 := (rd_runSlot (by decide) (hdig _ (by decide)) _ _ _ _).trans (hactive.trans hzero)
  have hkind' : rd (runSlot c 0) R.BOOT_RESET_CAUSE_KIND = 0 := (rd_runSlot (by decide) (hdig _ (by decide)) _ _ _ _).trans hkind
  have hcnt' : rd (runSlot c 0) R.BOOT_COLD_CNT = 1 := (rd_runSlot (by decide) (hdig _ (by decide)) _ _ _ _).trans hcnt
  have hsum : Touches 0x700000000020010 s (runSlot c 0) :=
    hload.touches.trans ((hcount.mono rfl).trans (hrun.mono rfl))
  have hevr : (runSlot c 0).evr = (loadPages s e).evr := (hrun.same (c := .recorder) rfl).trans (hcount.same (c := .recorder) rfl)
  have hrboot : (runSlot c 0).boot = (loadPages s e).boot := (hrun.same (c := .boot) rfl).trans hboot
  rw [ht]
  clear ht hchoose htake hrun
  generalize runSlot c 0 = r at *
  have hready : rd (wr (wr r R.SEC_STAT_READY 1) R.BOOT_STAT_STAGE 4) R.SEC_STAT_READY = 1 :=
    (rd_wr_ne (by decide) _ _ _ _ _ _).trans (rd_wr_fit _ _ _ _ (by decide))
  have hstage : rd (wr (wr r R.SEC_STAT_READY 1) R.BOOT_STAT_STAGE 4) R.BOOT_STAT_STAGE = 4 := rd_wr_fit _ _ _ _ (by decide)
  have hrest : ∀ f : Fld, fldCode f ≠ fldCode R.BOOT_STAT_STAGE → fldCode f ≠ fldCode R.SEC_STAT_READY →
      rd (wr (wr r R.SEC_STAT_READY 1) R.BOOT_STAT_STAGE 4) f = rd r f := fun f h1 h2 =>
    (rd_wr_ne h1 _ _ _ _ _ _).trans (rd_wr_ne h2 _ _ _ _ _ _)
  have hlast : Touches 0x402000000000000 r (wr (wr r R.SEC_STAT_READY 1) R.BOOT_STAT_STAGE 4) :=
    wr_touches rfl (wr_touches rfl (Touches.refl _ r))
  generalize wr (wr r R.SEC_STAT_READY 1) R.BOOT_STAT_STAGE 4 = v at *
  have hrel : Touches 0x400 v (effectiveRelease v) := effectiveRelease_touches rfl (Touches.refl _ v)
  have hread : ∀ (f : Fld), rd (effectiveRelease v) f = rd v f := fun f => hrel.reads
    (Nat.testBit_lt_two_pow (lt_of_lt_of_le (by decide : 0x400 < 2 ^ 32) (Nat.pow_le_pow_right (by decide) (by omega))))
  have hvboot : (effectiveRelease v).boot = (loadPages s e).boot :=
    (hrel.same (c := .boot) rfl).trans ((hlast.same (c := .boot) rfl).trans hrboot)
  have hvevr : (effectiveRelease v).evr = (loadPages s e).evr :=
    (hrel.same (c := .recorder) rfl).trans ((hlast.same (c := .recorder) rfl).trans hevr)
  have hall : Touches 0x702000000020410 s (effectiveRelease v) := (hsum.mono rfl).trans ((hlast.mono rfl).trans (hrel.mono rfl))
  refine ⟨?_, ?_, ?_, ?_, ?_, ?_, hall.same (c := .power) rfl, ?_, ?_, ?_, ?_, hall.same (c := .now) rfl, hall.same (c := .rtc) rfl,
    hall.reads rfl⟩
  · rw [hread, hstage]
  · rw [hread, hrest _ (by decide) (by decide), hrunning]
  · rw [hread, hrest _ (by decide) (by decide), hact]
  · rw [hread, hready]
  · rw [hread, hrest _ (by decide) (by decide), hkind']
  · rw [hread, hrest _ (by decide) (by decide), hcnt']
  · rw [hvboot, hload.lost]
  · rw [hvboot, hload.cold, hcold]
  · rw [hvevr, hload.bank0]
  · rw [hvevr, hload.bank1]

theorem chooseImage_recovery (h0 : verifies s e 0 ≠ none) (h1 : verifies s e 1 ≠ none) :
    chooseImage (counted (loadPages s e)) e = tryRecovery (counted (loadPages s e)) e 1 := by
  obtain ⟨hload, -, hboot, hactive, htrial, hother, -⟩ := counted_lost s e hbad0 hbad1 hcold
  have hnone : tryActive (counted (loadPages s e)) e = (counted (loadPages s e), false) := by
    refine tryActive_none (hactive.trans ?_) hother
    rw [lostActive, if_neg (by simpa using h0), if_neg (by simpa using h1)]
  have hchoose := (chooseImage_untried (e := e) (by rw [hboot, hload.toRecovery, hrec]) htrial).2 (by rw [hnone])
  rwa [hnone] at hchoose

theorem startIsland_recovery (h0 : verifies s e 0 ≠ none) (h1 : verifies s e 1 ≠ none) (h2 : verifies s e 2 = none) :
    let t := startIsland s e
    rd t R.BOOT_STAT_STAGE = 4 ∧ rd t R.BOOT_STAT_RUNNING = 2 ∧ rd t R.BOOT_STAT_RECOVERY = 1 ∧
    rd t R.BOOT_STAT_RECOVERY_CAUSE = 1 ∧ rd t R.HOST_STAT_RECOVERY = 1 := by
  obtain ⟨-, -, -, -, -, -, -, -, hverify⟩ := counted_lost s e hbad0 hbad1 hcold
  have hchoose := chooseImage_recovery s e hbad0 hbad1 hcold hrec h0 h1
  generalize hc : counted (loadPages s e) = c at hchoose hverify
  rw [tryRecovery, (hverify 2).trans h2] at hchoose
  intro t
  have ht : t = _ := startIsland_takes (u := enterRecovery (runSlot c 2) 1) (by rw [hc]; exact hchoose)
  rw [ht]
  have hrunning : rd (runSlot c 2) R.BOOT_STAT_RUNNING = 2 := runSlot_running c (by decide)
  generalize runSlot c 2 = r at *
  obtain ⟨hr1, hr2, hr3, hr4⟩ := enterRecovery_shows r 1 (by decide)
  generalize enterRecovery r 1 = v at *
  have hrel : Touches 0x400 (wr (wr v R.SEC_STAT_READY 1) R.BOOT_STAT_STAGE 4) (effectiveRelease (wr (wr v R.SEC_STAT_READY 1) R.BOOT_STAT_STAGE 4)) :=
    effectiveRelease_touches rfl (Touches.refl _ _)
  rw [hrel.reads rfl, hrel.reads rfl, hrel.reads rfl, hrel.reads rfl, hrel.reads rfl]
  have hrest : ∀ f : Fld, fldCode f ≠ fldCode R.BOOT_STAT_STAGE → fldCode f ≠ fldCode R.SEC_STAT_READY →
      rd (wr (wr v R.SEC_STAT_READY 1) R.BOOT_STAT_STAGE 4) f = rd v f := fun f h1 h2 =>
    (rd_wr_ne h1 _ _ _ _ _ _).trans (rd_wr_ne h2 _ _ _ _ _ _)
  exact ⟨rd_wr_fit _ _ _ _ (by decide), (hrest _ (by decide) (by decide)).trans (hr1.trans hrunning),
    (hrest _ (by decide) (by decide)).trans hr2, (hrest _ (by decide) (by decide)).trans hr3, (hrest _ (by decide) (by decide)).trans hr4⟩

theorem startIsland_idle (h0 : verifies s e 0 ≠ none) (h1 : verifies s e 1 ≠ none) (h2 : verifies s e 2 ≠ none) :
    let t := startIsland s e
    rd t R.BOOT_STAT_STAGE = 2 ∧ t.host.perst = none := by
  obtain ⟨-, -, -, -, -, -, -, -, hverify⟩ := counted_lost s e hbad0 hbad1 hcold
  have hchoose := chooseImage_recovery s e hbad0 hbad1 hcold hrec h0 h1
  generalize hc : counted (loadPages s e) = c at hchoose hverify
  obtain ⟨st, hst⟩ := Option.ne_none_iff_exists'.mp h2
  rw [tryRecovery, (hverify 2).trans hst] at hchoose
  intro t
  have ht : t = _ := startIsland_stays (hc ▸ hchoose)
  rw [ht]
  exact ⟨rd_wr_fit _ _ _ _ (by decide), rfl⟩

end

/-! ### Power and straps (R499, R501) -/

/-- The module at the moment its power is good: a start is about to begin. -/
def powered (s : State) (clock : Bool) : State :=
  let s := if clock then s else wr { s with rtc := 0 } R.EVR_STAT_TIME_Q 0
  { s with pwr := { s.pwr with good := true }, boot := { s.boot with cold := true } }

theorem exec_powerGood {s : State} (hoff : s.pwr.good = false) (hfed : s.pwr.fed = true) (e : StartEnv) (clock : Bool) :
    exec (.powerGood e clock) s = .next (startIsland (powered s clock) e) :=
  congrArg Host.Outcome.next (if_neg (by simp [hoff, hfed]))

theorem powered_shows (s : State) (clock : Bool) : (powered s clock).boot = { s.boot with cold := true } ∧ (powered s clock).pwr.good = true ∧
    (clock = false → (powered s clock).rtc = 0 ∧ rd (powered s clock) R.EVR_STAT_TIME_Q = 0) ∧
    (clock = true → (powered s clock).rtc = s.rtc) ∧ (powered s clock).now = s.now ∧
    ∀ e slot, verifies (powered s clock) e slot = verifies s e slot := by
  cases clock
  · have hread : ∀ f : Fld, rd (powered s false) f = rd (wr s R.EVR_STAT_TIME_Q 0) f := fun _ => rfl
    have hpage : Touches 0x80000000000000 s (wr s R.EVR_STAT_TIME_Q 0) := wr_touches rfl (Touches.refl _ s)
    refine ⟨rfl, rfl, fun _ => ⟨rfl, ?_⟩, fun h => (Bool.false_ne_true h).elim, rfl, ?_⟩
    · rw [hread]
      exact rd_wr_fit _ _ _ _ (by decide)
    · exact verifies_congr (s := s) (t := powered s false) rfl rfl (hpage.reads rfl)
        (fun j => hpage.reads (f := R.SEC_DEVID j) (show Nat.testBit _ (32 + 17 % 32) = false from rfl))
  · exact ⟨rfl, rfl, fun h => (Bool.false_ne_true h.symm).elim, fun _ => rfl, rfl, fun _ _ => rfl⟩

theorem powered_touches (s : State) (clock : Bool) : Touches 0x80000000020022 s (powered s clock) := by
  unfold powered
  extract_lets u
  have hclock : Touches 0x80000000020022 s u :=
    Touches.ite (Touches.refl _ s) (wr_touches rfl (Touches.rtc rfl (Touches.refl _ s)))
  clear_value u
  exact Touches.boot (x := { u.boot with cold := true }) rfl (Touches.power (x := { u.pwr with good := true }) rfl hclock)

section
variable (e : StartEnv) (clock : Bool) (s : State) (hoff : s.pwr.good = false) (hfed : s.pwr.fed = true) (hbad0 : e.bad0 ≠ 0)
  (hbad1 : e.bad1 ≠ 0) (hrec : s.boot.toRecovery = false)
include hoff hfed hbad0 hbad1 hrec

theorem powerGood_active (hgood : verifies s e 0 = none) : Ends (.powerGood e clock) s (fun t =>
    rd t R.BOOT_STAT_STAGE = 4 ∧ rd t R.BOOT_STAT_RUNNING = 0 ∧
      rd t R.BOOT_SLOTS_ACTIVE = 0 ∧ rd t R.SEC_STAT_READY = 1 ∧ rd t R.BOOT_RESET_CAUSE_KIND = 0 ∧ rd t R.BOOT_COLD_CNT = 1 ∧
      t.pwr.good = true ∧ t.boot.lost = true ∧ t.boot.cold = true ∧ t.evr.bank0 = none ∧ t.evr.bank1 = none ∧ t.now = s.now ∧
      (clock = false → t.rtc = 0 ∧ rd t R.EVR_STAT_TIME_Q = 0) ∧ (clock = true → t.rtc = s.rtc) ∧
      SameBut (recorded ++ pages [7, 17, 25, 26] ++ [.rtc, .power, .host]) s t) := by
  obtain ⟨hboot, hpwr, hlost, hkept, hnow, hverify⟩ := powered_shows s clock
  have htouch : Touches (maskOf (recorded ++ pages [7, 17, 25, 26] ++ [.rtc, .power, .host])) s (startIsland (powered s clock) e) :=
    startIsland_touches rfl ((powered_touches s clock).mono rfl)
  obtain ⟨hstage, hrun, hactive, hready, hkind, hcnt, hp, hl, hc, hb0, hb1, hn, hr, hq⟩ := startIsland_active (powered s clock) e hbad0 hbad1
    (congrArg Boot.cold hboot) ((congrArg Boot.toRecovery hboot).trans hrec) ((hverify e 0).trans hgood)
  refine ⟨_, exec_powerGood hoff hfed e clock, hstage, hrun, hactive, hready, hkind, hcnt, (congrArg Pwr.good hp).trans hpwr, hl, hc, hb0,
    hb1, hn.trans hnow, fun h => ⟨hr.trans (hlost h).1, hq.trans (hlost h).2⟩, fun h => hr.trans (hkept h), sameBut_of_touches htouch⟩

theorem powerGood_recovery (h0 : verifies s e 0 ≠ none) (h1 : verifies s e 1 ≠ none) (h2 : verifies s e 2 = none) :
    Ends (.powerGood e clock) s (fun t => rd t R.BOOT_STAT_STAGE = 4 ∧ rd t R.BOOT_STAT_RUNNING = 2 ∧ rd t R.BOOT_STAT_RECOVERY = 1 ∧
      rd t R.BOOT_STAT_RECOVERY_CAUSE = 1 ∧ rd t R.HOST_STAT_RECOVERY = 1) := by
  obtain ⟨hboot, -, -, -, -, hverify⟩ := powered_shows s clock
  exact ⟨_, exec_powerGood hoff hfed e clock, startIsland_recovery (powered s clock) e hbad0 hbad1 (congrArg Boot.cold hboot)
    ((congrArg Boot.toRecovery hboot).trans hrec) (by rwa [hverify]) (by rwa [hverify]) ((hverify e 2).trans h2)⟩

theorem powerGood_idle (h0 : verifies s e 0 ≠ none) (h1 : verifies s e 1 ≠ none) (h2 : verifies s e 2 ≠ none) :
    Ends (.powerGood e clock) s (fun t => rd t R.BOOT_STAT_STAGE = 2 ∧ t.host.perst = none) := by
  obtain ⟨hboot, -, -, -, -, hverify⟩ := powered_shows s clock
  exact ⟨_, exec_powerGood hoff hfed e clock, startIsland_idle (powered s clock) e hbad0 hbad1 (congrArg Boot.cold hboot)
    ((congrArg Boot.toRecovery hboot).trans hrec) (by rwa [hverify]) (by rwa [hverify]) (by rwa [hverify])⟩

end

theorem strapSample_answers (id role : Nat) (s : State) :
    (s.pwr.good = true → s.boot.straps = none → Ends (.strapSample id role) s (fun t => hiveId t = id % 2 ^ 9 ∧
      rd t R.HIVE_ID_ID_CFG = id % 2 ^ 9 ∧ rd t R.HIVE_ROLE_ROLE_CFG = role % 2 ^ 2 ∧ t.boot.straps = some (id % 512, role % 4) ∧
      SameBut (pages [14] ++ [.boot]) s t)) ∧
    ((s.pwr.good = false ∨ s.boot.straps ≠ none) → exec (.strapSample id role) s = .next s) := by
  refine ⟨fun hgood hnone => ⟨_, congrArg Host.Outcome.next (if_neg (by simp [hgood, hnone])), ?_, ?_, ?_, rfl, ?_⟩, fun h => ?_⟩
  · exact (rd_wr_ne (by decide) _ _ _ _ _ _).trans ((rd_wr_ne (by decide) _ _ _ _ _ _).trans (rd_wr _ _ _ _ _))
  · exact (rd_wr_ne (by decide) _ _ _ _ _ _).trans (rd_wr _ _ _ _ _)
  · exact rd_wr _ _ _ _ _
  · exact sameBut_of_touches (wr_touches rfl (wr_touches rfl (wr_touches rfl (Touches.boot rfl (Touches.refl _ s)))))
  · refine congrArg Host.Outcome.next (if_pos ?_)
    rcases h with h | h
    · simp [h]
    · simp [Option.isSome_iff_ne_none.mpr h]

/-! ### The release of the cores (R462 order 5) -/

theorem fldCode_ne_of_bits {f g : Fld} (hf : f.lo % 8 ≠ 0) (hg : g.lo = 0) : fldCode f ≠ fldCode g := by
  unfold fldCode
  omega

/-- No selector shares a place with a field that does not begin on a byte. -/
theorem rd_resetSelectors {f : Fld} (hf : f.lo % 8 ≠ 0) (s : State) (i k : Nat) : rd (resetSelectors s) f i k = rd s f i k := by
  unfold resetSelectors
  refine List.foldlRecOn _ _ (motive := fun u : State => rd u f i k = rd s f i k) rfl fun u hu ty _ => ?_
  extract_lets offs
  clear_value offs
  refine List.foldlRecOn _ _ (motive := fun u : State => rd u f i k = rd s f i k) hu fun v hv b _ => ?_
  split
  · next g hg =>
    have hplace := List.find?_some (p := fun g : Fld => decide (b ≠ 0) && decide (g.off = b) && decide (g.lo = 0)) hg
    have hlo : g.lo = 0 := of_decide_eq_true (Bool.and_eq_true_iff.mp hplace).2
    exact List.foldlRecOn _ _ (motive := fun u : State => rd u f i k = rd s f i k) hv fun w hw j _ =>
      (rd_wr_ne (fldCode_ne_of_bits hf hlo) _ _ _ _ _ _).trans hw
  · exact hv

theorem replaySettings_nil {s : State} (hset : s.boot.settings = []) : replaySettings s = resetSelectors s := by
  have hboot : (resetSelectors s).boot = s.boot := (resetSelectors_touches (mm := 0xFFFFFFFF00000000) rfl (Touches.refl _ s)).same (c := .boot) rfl
  unfold replaySettings
  extract_lets l u
  have hu : u = resetSelectors s := by
    simp only [u, l, hset]
    rfl
  have hl : l = u.boot.settings := by rw [hu, hboot]
  clear_value u l
  rw [hl, ← hu]

theorem powerDomains_pwr (s : State) : ∃ d, powerDomains s = { s with pwr := { s.pwr with dom := d } } := by
  unfold powerDomains
  refine List.foldlRecOn _ _ (motive := fun u : State => ∃ d, u = { s with pwr := { s.pwr with dom := d } }) ⟨_, rfl⟩ fun u hu x _ => ?_
  obtain ⟨d, rfl⟩ := hu
  split
  · exact ⟨d, rfl⟩
  · exact ⟨_, rfl⟩

theorem powerDomains_dom (s : State) {d : Nat} (hd : d < 401) (hmemc : d < 340 ∨ 372 ≤ d) :
    dom (powerDomains s) d = if alwaysOff s d = true then 2 else 0 := by
  unfold powerDomains
  refine foldl_reaches_of_inv (P := fun u => ∀ x, alwaysOff u x = alwaysOff s x)
    (Q := fun u => dom u d = if alwaysOff s d = true then 2 else 0) (k := d) (fun u j hu x => ?_) (fun u hu => ?_)
    (fun u j hu hq => ?_) (List.mem_range.mpr hd) (fun _ => rfl)
  · split
    · exact hu x
    · exact (alwaysOff_congr (fun _ _ _ => rfl) x).trans (hu x)
  · rw [if_neg (by simp; omega), dom_setDom, hu]
  · split
    · exact hq
    · by_cases hj : d = j
      · subst hj
        rw [dom_setDom, hu]
      · rw [dom_setDom_ne _ _ hj, hq]

/-- What order 5 leaves of the state that the store's copies are in. -/
structure Released (w t : State) : Prop where
  evr : t.evr = w.evr
  mem : t.mem = w.mem
  comb : t.comb = w.comb
  now : t.now = w.now
  doms : ∀ d < 401, (d < 340 ∨ 372 ≤ d) → dom t d = if alwaysOff w d = true then 2 else 0
  stage : rd t R.BOOT_STAT_STAGE = if rd w R.BOOT_STAT_RECOVERY = 1 then 5 else if w.boot.cold = true then 6 else 8

section
variable {s w : State} {k : Nat} {b : BankData} (hw : w = if s.boot.cold then restoreBank s b else s)
  (hfatal : w.boot.fatal = false) (hover : w.pwr.overvolt = false) (hset : w.boot.settings = [])
  (hhold : w.boot.cold = true → w.evr.hold = [])
include hw hfatal hover hset hhold

theorem coresReleased_releases (hstage : rd s R.BOOT_STAT_STAGE = 4) (hdusk : s.pwr.dusk = none) (hbank : selectedBank s = some (k, b))
    (ok : Bool) : Ends (.coresReleased ok) s (Released w) := by
  refine ⟨_, congrArg Host.Outcome.next (if_neg (by simp [hstage, hdusk])), ?_⟩
  extract_lets s1 s2 s3 fatal _ s4 _ s5 s6
  have h1 : s1 = w := by
    simp only [s1, hbank, hw]
  clear_value s1
  subst h1
  have h2 : Touches 0x4400000020 s1 s2 := showHops_touches rfl (powerDomains_touches rfl (Touches.refl _ s1))
  have hdoms : ∀ d < 401, (d < 340 ∨ 372 ≤ d) → dom s2 d = if alwaysOff s1 d = true then 2 else 0 := fun d hd hmemc =>
    (dom_of_touches (showHops_touches (mm := 0x4400000000) rfl (Touches.refl _ _)) rfl d).trans (powerDomains_dom s1 hd hmemc)
  have hover2 : s2.pwr.overvolt = false := by
    obtain ⟨d, hd⟩ := powerDomains_pwr s1
    have hp : s2.pwr = (powerDomains s1).pwr := (showHops_touches (mm := 0x4400000000) rfl (Touches.refl _ _)).same (c := .power) rfl
    rw [hp, hd]
    exact hover
  have hboot2 : s2.boot = s1.boot := h2.same (c := .boot) rfl
  have hevr2 : s2.evr = s1.evr := h2.same (c := .recorder) rfl
  clear_value s2
  have h3 : s3 = s2 := by
    simp only [s3]
    split
    · next hc =>
      have hcold : s2.boot.cold = true := by simp_all
      have hnil : s2.evr.hold = [] := by rw [hevr2, hhold (by rw [← hboot2, hcold])]
      unfold applyHeld
      rw [hnil, List.foldl_nil, ← hnil]
    · rfl
  clear_value s3
  subst h3
  have h4 : s4 = s3 := if_neg (by simp [hover2])
  clear_value s4
  subst h4
  have h5 : s5 = resetSelectors s4 := replaySettings_nil (s := s4) (by rw [hboot2, hset])
  have ht5 : Touches 0xFFFFFFFF00000000 s4 s5 := h5 ▸ resetSelectors_touches rfl (Touches.refl _ s4)
  have hrec : rd s5 R.BOOT_STAT_RECOVERY = rd s1 R.BOOT_STAT_RECOVERY := by
    rw [h5, rd_resetSelectors (by decide)]
    exact h2.reads rfl
  clear_value s5
  have hboot5 : s5.boot = s1.boot := (ht5.same (c := .boot) rfl).trans hboot2
  have h6 : Touches 0x400000000000000 s5 s6 := Touches.ite (Touches.refl _ s5) (wr_touches rfl (Touches.refl _ s5))
  have hrec6 : rd s6 R.BOOT_STAT_RECOVERY = rd s1 R.BOOT_STAT_RECOVERY := by
    rw [← hrec]
    simp only [s6]
    split
    · rfl
    · exact rd_wr_ne (by decide) _ _ _ _ _ _
  clear_value s6
  have hboot6 : s6.boot = s1.boot := (h6.same (c := .boot) rfl).trans hboot5
  rw [hrec6, hboot6, fatalAction, if_neg (by rw [wr_boot, hboot6, hfatal]; decide)]
  generalize hv : (if rd s1 R.BOOT_STAT_RECOVERY = 1 then 5 else if s1.boot.cold = true then 6 else 8) = v
  have hall : Touches 0xFFFFFFFF00000020 s1 (wr s6 R.BOOT_STAT_STAGE v) :=
    (h2.mono rfl).trans ((ht5.mono rfl).trans ((h6.mono rfl).trans (wr_touches rfl (Touches.refl _ s6))))
  have hlast : Touches 0xFFFFFFFF00000000 s4 (wr s6 R.BOOT_STAT_STAGE v) :=
    (ht5.mono rfl).trans ((h6.mono rfl).trans (wr_touches rfl (Touches.refl _ s6)))
  refine ⟨hall.same (c := .recorder) rfl, mem_of_touches hall rfl rfl, comb_of_touches hall rfl, hall.same (c := .now) rfl,
    fun d hd hmemc => (dom_of_touches hlast rfl d).trans (hdoms d hd hmemc), (rd_wr_fit _ _ _ _ ?_).trans hv.symm⟩
  rw [← hv]
  split
  · decide
  · split <;> decide

end

/-! #### What the selected bank brings back at a cold start -/

/-- The fields that a bank saves. -/
def restoredFields : List Fld := [R.PACE_MARGIN_RAISE, R.PACE_MARGIN_ERRORS, R.PACE_MARGIN_RETIRE_REQ, R.CELL_MAP_STATE, R.CELL_MAP_LOGICAL,
  R.APIPE_MAP_STATE, R.APIPE_MAP_LOGICAL, R.DIE_PLAN_CLASS_CLASS, R.DIE_PLAN_CLASS_CHANGES, R.TWIN_STAT_STATE, R.HIVE_ROLE_ROLE_CFG]

theorem mem_restoredFields : ∀ x ∈ savedFields, x.1 ∈ restoredFields := by
  intro x hx
  simp only [savedFields, mapFields, List.mem_append, List.mem_flatMap, List.mem_cons, List.not_mem_nil, or_false] at hx
  rcases hx with ((⟨_, -, _, -, rfl | rfl | rfl⟩ | ⟨_, -, rfl | rfl⟩ | ⟨_, -, rfl | rfl⟩) | rfl | rfl | rfl | rfl) <;> simp [restoredFields]

theorem rd_restoreRegs {f : Fld} (hf : ∀ g ∈ restoredFields, fldCode f ≠ fldCode g) (t : Tbl Nat) (s : State) (i k : Nat) :
    rd (restoreRegs t s) f i k = rd s f i k :=
  List.foldlRecOn _ _ (motive := fun u : State => rd u f i k = rd s f i k) rfl fun _ hu x hx =>
    (rd_wr_ne (hf _ (mem_restoredFields x hx)) _ _ _ _ _ _).trans hu

theorem restoreBank_shows (s : State) (b : BankData) : let t := restoreBank s b
    t.evr.store = b.records ∧ t.evr.metrics = b.metrics ∧ t.evr.hold = s.evr.hold ∧ t.comb.margin = b.margin ∧ t.now = s.now ∧
    t.boot = { s.boot with settings := b.settings } ∧ t.pwr = s.pwr ∧ rd t R.BOOT_STAT_RECOVERY = rd s R.BOOT_STAT_RECOVERY := by
  unfold restoreBank
  extract_lets latest next _ _ _ s1 s2 t
  have h1 : s1.evr.store = b.records ∧ s1.evr.metrics = b.metrics ∧ s1.evr.hold = s.evr.hold ∧ s1.comb.margin = b.margin ∧
      s1.now = s.now ∧ s1.boot = { s.boot with settings := b.settings } ∧ s1.pwr = s.pwr ∧
      rd s1 R.BOOT_STAT_RECOVERY = rd s R.BOOT_STAT_RECOVERY := ⟨rfl, rfl, rfl, rfl, rfl, rfl, rfl, rfl⟩
  have h2 : Touches 0xFFFFFFFF00010000 s1 s2 := restoreRegs_touches rfl (wr_touches rfl (Touches.refl _ s1))
  have hrec2 : rd s2 R.BOOT_STAT_RECOVERY = rd s1 R.BOOT_STAT_RECOVERY :=
    (rd_restoreRegs (by decide) _ _ _ _).trans (rd_wr_ne (by decide) _ _ _ _ _ _)
  clear_value s1 s2
  obtain ⟨hstore, hmetrics, hhold, hmargin, hnow, hboot, hpwr, hrec⟩ := h1
  have h3 : Touches 0xFFFFFFFF00010000 s1 t ∧ rd t R.BOOT_STAT_RECOVERY = rd s1 R.BOOT_STAT_RECOVERY := by
    simp only [t]
    split
    · next id key _ =>
      have h3 : Touches 0x2000000000000 s2 ((List.range 4).foldl (fun s j => wr s (R.SEC_GROUPID j) (id.getD j 0)) s2) :=
        Touches.foldl (Touches.refl _ s2) fun u j => wr_touches (show Nat.testBit _ (32 + 17 % 32) = true from rfl) (Touches.refl _ u)
      generalize (List.range 4).foldl (fun s j => wr s (R.SEC_GROUPID j) (id.getD j 0)) s2 = s3 at h3 ⊢
      have h4 : Touches 0x2000000010000 s3 (wr { s3 with sec := { s3.sec with group := some key } } R.SEC_STAT_GROUP_KEY 1) :=
        wr_touches rfl (Touches.security rfl (Touches.refl _ s3))
      exact ⟨h2.trans ((h3.mono rfl).trans (h4.mono rfl)), (h4.reads rfl).trans ((h3.reads rfl).trans hrec2)⟩
    · exact ⟨h2, hrec2⟩
  clear_value t
  obtain ⟨ht, hr⟩ := h3
  have hevr : t.evr = s1.evr := ht.same (c := .recorder) rfl
  rw [hevr, comb_of_touches ht rfl]
  exact ⟨hstore, hmetrics, hhold, hmargin, (ht.same (c := .now) rfl).trans hnow, (ht.same (c := .boot) rfl).trans hboot,
    (ht.same (c := .power) rfl).trans hpwr, hr.trans hrec⟩

theorem coresReleased_idle (ok : Bool) (s : State) (h : rd s R.BOOT_STAT_STAGE ≠ 4 ∨ s.pwr.dusk ≠ none) :
    exec (.coresReleased ok) s = .next s := by
  refine congrArg Host.Outcome.next (if_pos ?_)
  rcases h with h | h
  · simp [h]
  · simp [Option.isSome_iff_ne_none.mpr h]

theorem coresReleased_answers (ok : Bool) (k : Nat) (b : BankData) (s : State) (hstage : rd s R.BOOT_STAT_STAGE = 4)
    (hdusk : s.pwr.dusk = none) (hbank : selectedBank s = some (k, b)) (hfatal : s.boot.fatal = false) (hover : s.pwr.overvolt = false) :
    (s.boot.cold = true → b.settings = [] → s.evr.hold = [] → Ends (.coresReleased ok) s (fun t => t.evr.store = b.records ∧
      t.evr.metrics = b.metrics ∧ t.comb.margin = b.margin ∧ t.now = s.now ∧
      rd t R.BOOT_STAT_STAGE = (if rd s R.BOOT_STAT_RECOVERY = 1 then 5 else 6))) ∧
    (s.boot.cold = false → s.boot.settings = [] → Ends (.coresReleased ok) s (fun t => t.evr = s.evr ∧ t.mem = s.mem ∧
      (∀ d < 401, (d < 340 ∨ 372 ≤ d) → dom t d = (if alwaysOff s d = true then 2 else 0)) ∧
      rd t R.BOOT_STAT_STAGE = (if rd s R.BOOT_STAT_RECOVERY = 1 then 5 else 8))) := by
  refine ⟨fun hcold hset hhold => ?_, fun hwarm hset => ?_⟩
  · obtain ⟨hstore, hmetrics, hhold', hmargin, hnow, hboot, hpwr, hrec⟩ := restoreBank_shows s b
    generalize hw : restoreBank s b = w at *
    obtain ⟨t, hexec, ht⟩ := coresReleased_releases (w := w) (by rw [if_pos hcold, hw]) (by rw [hboot, hfatal]) (by rw [hpwr, hover])
      (by rw [hboot, hset]) (fun _ => hhold'.trans hhold) hstage hdusk hbank ok
    refine ⟨t, hexec, ?_, ?_, ?_, ht.now.trans hnow, ?_⟩
    · rw [ht.evr, hstore]
    · rw [ht.evr, hmetrics]
    · rw [ht.comb, hmargin]
    · rw [ht.stage, hrec, if_pos (show w.boot.cold = true by rw [hboot, hcold])]
  · obtain ⟨t, hexec, ht⟩ := coresReleased_releases (w := s) (by rw [if_neg (by simp [hwarm])]) hfatal hover hset
      (fun h => absurd h (by simp [hwarm])) hstage hdusk hbank ok
    exact ⟨t, hexec, ht.evr, ht.mem, ht.doms, ht.stage.trans (by rw [hwarm]; rfl)⟩

/-! ### Memory and the self-test (R462 orders 7 and 8) -/

theorem eccInitDone_answers (s : State) :
    (rd s R.BOOT_STAT_STAGE = 7 → Ends .eccInitDone s (fun t => t.mem = { s.mem with cells := [], poison := [], awaiting := [] } ∧
      rd t R.BOOT_STAT_STAGE = 8 ∧ SameBut [.bytes, .memory, .page 26] s t)) ∧
    (rd s R.BOOT_STAT_STAGE ≠ 7 → exec .eccInitDone s = .next s) :=
  ⟨fun h => ⟨_, congrArg Host.Outcome.next (if_pos h), rfl, rd_wr_fit _ _ _ _ (by decide),
    sameBut_of_touches (touches_of_next (congrArg Host.Outcome.next (if_pos h)) (execEccInitDone_touches rfl (Touches.refl _ s) (Touches.refl _ s)))⟩,
    fun h => congrArg Host.Outcome.next (if_neg h)⟩

/-- A unit's result registers. -/
def doneBit (isPipe : Bool) : Fld := if isPipe then R.APIPE_TEST_RES_DONE else R.CELL_TEST_RES_DONE
def passBit (isPipe : Bool) : Fld := if isPipe then R.APIPE_TEST_RES_PASS else R.CELL_TEST_RES_PASS

theorem postTest_passes (s : State) (isPipe : Bool) (n : Nat) : rd (postTest s isPipe n 0) (doneBit isPipe) n = 1 ∧
    rd (postTest s isPipe n 0) (passBit isPipe) n = 1 := by
  have hhead : ∀ f ∈ [R.APIPE_TEST_RES_DONE, R.APIPE_TEST_RES_PASS, R.CELL_TEST_RES_DONE, R.CELL_TEST_RES_PASS],
      fldCode f ≠ fldCode (hIrqRaw 1 Irq.APIPE_TEST_DONE) ∧ fldCode f ≠ fldCode (hIrqRaw 0 Irq.CELL_TEST_DONE) := by decide
  cases isPipe
  · refine ⟨(rd_raiseIrq (hhead _ (by decide)).2 _ _ _ _).trans ?_, (rd_raiseIrq (hhead _ (by decide)).2 _ _ _ _).trans ?_⟩
    · exact (rd_wr_ne (by decide) _ _ _ _ _ _).trans ((rd_wr_ne (by decide) _ _ _ _ _ _).trans (rd_wr_fit _ _ _ _ (by decide)))
    · exact (rd_wr_ne (by decide) _ _ _ _ _ _).trans (rd_wr_fit _ _ _ _ (by decide))
  · refine ⟨(rd_raiseIrq (hhead _ (by decide)).1 _ _ _ _).trans ?_, (rd_raiseIrq (hhead _ (by decide)).1 _ _ _ _).trans ?_⟩
    · exact (rd_wr_ne (by decide) _ _ _ _ _ _).trans ((rd_wr_ne (by decide) _ _ _ _ _ _).trans (rd_wr_fit _ _ _ _ (by decide)))
    · exact (rd_wr_ne (by decide) _ _ _ _ _ _).trans (rd_wr_fit _ _ _ _ (by decide))

theorem rd_postTest_other (s : State) (isPipe : Bool) (v : Nat) {n j : Nat} (hne : n % 2 ^ 16 ≠ j % 2 ^ 16) (f : Fld) :
    rd (postTest s isPipe j v) f n = rd s f n := by
  cases isPipe
  · exact (rd_raiseIrq_other hne _ _ _ _ _).trans ((rd_wr_other hne _ _ _ _ _ _).trans ((rd_wr_other hne _ _ _ _ _ _).trans
      (rd_wr_other hne _ _ _ _ _ _)))
  · exact (rd_raiseIrq_other hne _ _ _ _ _).trans ((rd_wr_other hne _ _ _ _ _ _).trans ((rd_wr_other hne _ _ _ _ _ _).trans
      (rd_wr_other hne _ _ _ _ _ _)))

/-- A cell's test leaves the pipes' pages, and a pipe's the cells'. -/
theorem rd_postTest_page (s : State) (isPipe : Bool) (v j : Nat) {f : Fld} (hf : f.ty = unitPage (!isPipe)) (n : Nat) :
    rd (postTest s isPipe j v) f n = rd s f n := by
  cases isPipe
  · have h : Touches 0x100040000 s (postTest s false j v) :=
      raiseIrq_touches rfl rfl (wr_touches rfl (wr_touches rfl (wr_touches rfl (Touches.refl _ s))))
    exact h.reads (by rw [hf]; rfl)
  · have h : Touches 0x200040000 s (postTest s true j v) :=
      raiseIrq_touches rfl rfl (wr_touches rfl (wr_touches rfl (wr_touches rfl (Touches.refl _ s))))
    exact h.reads (by rw [hf]; rfl)

/-- A start-up self-test in which no unit fails. -/
theorem startTests_pass (s : State) (isPipe : Bool) : startTests s isPipe [] =
    ((List.range (if isPipe then 68 else 272)).filter (fun n => rd s (mapState isPipe) n ≠ 3)).foldl (fun s n => postTest s isPipe n 0) s := by
  unfold startTests
  extract_lets units fail s1
  have h1 : s1 = units.foldl (fun s n => postTest s isPipe n 0) s := rfl
  have hnone : units.filter (fun n => fail n ≠ 0) = [] := List.filter_eq_nil_iff.mpr fun n _ => by simp [fail]
  rw [hnone, List.foldl_nil, h1]

theorem startTests_passes (s : State) (isPipe : Bool) {n : Nat} (hn : n < if isPipe then 68 else 272) (hmap : rd s (mapState isPipe) n ≠ 3) :
    rd (startTests s isPipe []) (doneBit isPipe) n = 1 ∧ rd (startTests s isPipe []) (passBit isPipe) n = 1 := by
  have hlt : ∀ m, m < (if isPipe then 68 else 272) → m < 2 ^ 16 := fun m hm => by
    split at hm <;> omega
  rw [startTests_pass]
  refine foldl_reaches (P := fun t : State => rd t (doneBit isPipe) n = 1 ∧ rd t (passBit isPipe) n = 1)
    (List.mem_filter.mpr ⟨List.mem_range.mpr hn, decide_eq_true hmap⟩) (fun u => postTest_passes u isPipe n) (fun u j hj hu => ?_) s
  by_cases hne : n = j
  · exact hne ▸ postTest_passes u isPipe n
  · have hne' : n % 2 ^ 16 ≠ j % 2 ^ 16 := by
      rw [Nat.mod_eq_of_lt (hlt n hn), Nat.mod_eq_of_lt (hlt j (List.mem_range.mp (List.mem_filter.mp hj).1))]
      exact hne
    rw [rd_postTest_other _ _ _ hne', rd_postTest_other _ _ _ hne']
    exact hu

theorem rd_startTests_page (s : State) (isPipe : Bool) {f : Fld} (hf : f.ty = unitPage (!isPipe)) (n : Nat) :
    rd (startTests s isPipe []) f n = rd s f n := by
  rw [startTests_pass]
  exact List.foldlRecOn _ _ (motive := fun u : State => rd u f n = rd s f n) rfl fun u hu j _ =>
    (rd_postTest_page u isPipe 0 j hf n).trans hu

theorem startupSelfTestDone_passes (s : State) (hstage : rd s R.BOOT_STAT_STAGE = 8) : Ends (.startupSelfTestDone [] []) s (fun t =>
    rd t R.BOOT_STAT_STAGE = 9 ∧
    (∀ n < 272, rd s R.CELL_MAP_STATE n ≠ 3 → rd t R.CELL_TEST_RES_DONE n = 1 ∧ rd t R.CELL_TEST_RES_PASS n = 1) ∧
    (∀ n < 68, rd s R.APIPE_MAP_STATE n ≠ 3 → rd t R.APIPE_TEST_RES_DONE n = 1 ∧ rd t R.APIPE_TEST_RES_PASS n = 1)) := by
  refine ⟨_, congrArg Host.Outcome.next (if_neg (not_not_intro hstage)), ?_⟩
  extract_lets s1 s2
  have h2 : Touches 0x580004400060010 s1 (wr s2 R.BOOT_STAT_STAGE 9) :=
    wr_touches rfl (Touches.foldl (Touches.refl _ s1) fun u x => recomputeClass_touches rfl (Touches.refl _ u))
  refine ⟨rd_wr_fit _ _ _ _ (by decide), fun n hn hmap => ?_, fun n hn hmap => ?_⟩
  · rw [h2.reads rfl, h2.reads rfl, rd_startTests_page _ true rfl, rd_startTests_page _ true rfl]
    exact startTests_passes s false hn hmap
  · rw [h2.reads rfl, h2.reads rfl]
    exact startTests_passes (startTests s false []) true hn (by rwa [show mapState true = R.APIPE_MAP_STATE from rfl, rd_startTests_page _ false rfl])

theorem startupSelfTestDone_idle (l m : List (Nat × Nat)) (s : State) (hstage : rd s R.BOOT_STAT_STAGE ≠ 8) :
    exec (.startupSelfTestDone l m) s = .next s :=
  congrArg Host.Outcome.next (if_pos hstage)

/-! ### What the ports' control leaves of the readiness (R257, R320) -/

/-- The readiness shown to the host, the release that it waits for, and the start's own mark are the same in both. -/
structure KeepsReady (s t : State) : Prop where
  ready : rd t R.HOST_STAT_READY = rd s R.HOST_STAT_READY
  boot : rd t R.BOOT_STAT_READY = rd s R.BOOT_STAT_READY
  perst : t.host.perst = s.host.perst

namespace KeepsReady

variable {s t u : State}

theorem refl (s : State) : KeepsReady s s := ⟨rfl, rfl, rfl⟩

theorem trans (h : KeepsReady s t) (k : KeepsReady t u) : KeepsReady s u :=
  ⟨k.ready.trans h.ready, k.boot.trans h.boot, k.perst.trans h.perst⟩

theorem of_touches {m : Nat} (h : Touches m s t) (hhost : m.testBit 10 = false) (hpage : m.testBit (32 + 7) = false)
    (hboot : m.testBit (32 + 26) = false) : KeepsReady s t := by
  have hh : t.host = s.host := h.same (c := .host) hhost
  exact ⟨h.reads hpage, h.reads hboot, congrArg HostPort.perst hh⟩

theorem ite {c : Prop} [Decidable c] (ht : KeepsReady s t) (hu : KeepsReady s u) : KeepsReady s (if c then t else u) := by
  split <;> assumption

theorem foldl {α : Type} {f : State → α → State} (hf : ∀ u x, KeepsReady u (f u x)) (l : List α) (s : State) :
    KeepsReady s (l.foldl f s) :=
  List.foldlRecOn l f (motive := KeepsReady s) (refl s) fun _ h x _ => h.trans (hf _ x)

end KeepsReady

theorem setQueue_keepsReady (s : State) (q : Nat) (x : Queue) : KeepsReady s (setQueue s q x) := ⟨rfl, rfl, rfl⟩

theorem towardsHost_keepsReady (s : State) (tenant kind q a tagAddr : Nat) (bs : List Byte) :
    KeepsReady s (towardsHost s tenant kind q a tagAddr bs) := by
  unfold towardsHost
  extract_lets w c
  exact .ite (.ite ⟨rd_wr_ne (by decide) _ _ _ _ _ _, rd_wr_ne (by decide) _ _ _ _ _ _, rfl⟩ ⟨rfl, rfl, rfl⟩) ⟨rfl, rfl, rfl⟩

theorem postNow_keepsReady (s : State) (q : Nat) (c : Cpl) : KeepsReady s (postNow s q c) := by
  unfold postNow
  extract_lets t n x s1 t' s2 s3
  have h2 : KeepsReady s s2 := (towardsHost_keepsReady ..).trans
    (.of_touches (m := 0x20000000000) (wr_touches rfl (Touches.refl _ _)) rfl rfl rfl)
  have h3 : KeepsReady s s3 := .ite (h2.trans (setQueue_keepsReady ..)) h2
  exact .ite (h3.trans ⟨rfl, rfl, rfl⟩) h3

theorem postCpl_keepsReady (s : State) (q : Nat) (c : Cpl) : KeepsReady s (postCpl s q c) := by
  unfold postCpl
  refine .ite ?_ (postNow_keepsReady ..)
  exact (setQueue_keepsReady s q { queue s q with held := (queue s q).held ++ [c] }).trans
    (.of_touches (queueIrq_touches (mm := 0x800020000040000) rfl (wr_touches rfl (Touches.refl _ _))) rfl rfl rfl)

theorem settle_keepsReady (n : Nat) (s : State) (w : List SigWork) : KeepsReady s (settle n s w) := by
  induction n generalizing s w with
  | zero => exact .refl s
  | succ n ih =>
    rcases w with _ | ⟨⟨t, c, set, v⟩ | ⟨q, c⟩, w⟩
    · exact .refl s
    · rw [settle]
      split
      · exact KeepsReady.trans (.of_touches (m := 0x800020000040000) (raiseIrq_touches rfl rfl (wr_touches rfl (Touches.refl _ s))) rfl rfl rfl)
          (ih _ _)
      · extract_lets old s1 s2 met done s3
        have h1 : KeepsReady s s1 := ⟨rfl, rfl, rfl⟩
        have hbar : Touches 0x400000040800 s1 s2 := barrierThreshold_touches rfl (Touches.refl _ s1)
        have h2 : KeepsReady s s2 := h1.trans (.of_touches hbar rfl rfl rfl)
        have h3 : KeepsReady s s3 := h2.trans (.foldl (f := fun s (e : Nat × Queue) => setQueue s e.1 { queue s e.1 with run := none })
          (fun u e => setQueue_keepsReady ..) met s2)
        exact h3.trans (ih s3 (done ++ w))
    · rw [settle]
      exact ((postCpl_keepsReady s q c).trans (.of_touches (haltIf_touches (mm := 0x800020000040000) rfl (Touches.refl _ _)) rfl rfl rfl)).trans
        (ih _ _)

theorem finishCmd_keepsReady (s : State) (q : Nat) (st : Status) (result flags : Nat) : KeepsReady s (finishCmd s q st result flags) := by
  have hpage : Touches 0x800428000040D80 s (finishCmd s q st result flags) := finishCmd_touches rfl (Touches.refl _ s)
  refine ⟨?_, hpage.reads rfl, (finishCmd_keepsPort s q st result flags).perst⟩
  unfold finishCmd
  split
  · rfl
  · split
    · exact (disableQueue_touches (mm := 0x20000000400) rfl (Touches.refl _ s)).reads rfl
    · extract_lets s1 near s2
      have h1 : KeepsReady s s1 := .ite (.of_touches (m := 0x20000000000) (wr_touches rfl (Touches.refl _ _)) rfl rfl rfl) (.refl s)
      exact ((h1.trans (setQueue_keepsReady ..)).trans (settle_keepsReady ..)).ready

theorem endPeer_keepsReady (s : State) (cmd : Nat) (st : Status) : KeepsReady s (endPeer s cmd st) := by
  unfold endPeer
  split
  · exact .refl s
  · exact KeepsReady.trans (t := { s with wag := { s.wag with cmds := tset none cmd none s.wag.cmds } }) ⟨rfl, rfl, rfl⟩
      (finishCmd_keepsReady ..)

theorem portDown_keepsReady (s : State) (p cause : Nat) : KeepsReady s (portDown s p cause) := by
  unfold portDown
  refine .ite (.refl s) ?_
  extract_lets x left own queued lost fwd s1 s2 s3 _ s4 s5 s6 s7
  have h3 : KeepsReady s s3 := .of_touches (m := 0x180200000060810) (irqEvent_touches rfl rfl (wr_touches rfl (wr_touches rfl
    (wr_touches rfl (wr_touches rfl (wr_touches rfl (setPort_touches rfl (Touches.refl _ s)))))))) rfl rfl rfl
  clear_value s3
  have h4 : KeepsReady s s4 := h3.trans ⟨rfl, rfl, rfl⟩
  have h5 : KeepsReady s s5 := .ite (h4.trans (.of_touches (refLost_touches (mm := 0x180A00000061010) rfl (Touches.refl _ s4)) rfl rfl rfl)) h4
  have h6 : KeepsReady s s6 := h5.trans (.foldl (fun u c => endPeer_keepsReady u c _) _ s5)
  have h7 : KeepsReady s s7 := h6.trans (.foldl (fun u m =>
    .of_touches (tellUnreachable_touches (mm := 0x40800) rfl (Touches.refl _ u)) rfl rfl rfl) _ s6)
  exact .ite (h7.trans (.of_touches (twinLinkDown_touches (mm := 0x181080000064390) rfl (Touches.refl _ s7)) rfl rfl rfl)) h7

theorem wagControl_keepsReady (s : State) (w : Writer) (p v : Nat) : KeepsReady s (wagControl s w p v) := by
  have htrain : ∀ u, KeepsReady u (startTraining u p) := fun u =>
    .of_touches (startTraining_touches (mm := 0x200000000800) rfl (Touches.refl _ u)) rfl rfl rfl
  unfold wagControl
  extract_lets was served s1 en d1 d2 s2
  have h1 : KeepsReady s s1 := .of_touches (m := 0x180200000060014) (wordWrite_after (by decide) (by
    have hfs : fieldsAt 13 p 0x100 = [R.WAG_CTL_RETRAIN, R.WAG_CTL_MIN_WIDTH, R.WAG_CTL_MAX_GEN, R.WAG_CTL_ENABLE] := rfl
    rw [hfs]
    decide) rfl rfl) rfl rfl rfl
  clear_value s1
  have h2 : KeepsReady s s2 := by
    simp only [s2]
    split
    · exact (h1.trans (portDown_keepsReady s1 p 7)).trans (t := d1) (.of_touches (m := 0x200000000800) (wr_touches rfl (wr_touches rfl (wr_touches rfl
        (wr_touches rfl (wr_touches rfl (setPort_touches rfl (Touches.refl _ _))))))) rfl rfl rfl)
    · split
      · exact h1.trans (htrain s1)
      · exact h1
  clear_value s2
  split
  · exact h1
  · split
    · exact (h2.trans (portDown_keepsReady s2 p 7)).trans (htrain _)
    · exact h2

theorem shapePorts_keepsReady (s : State) (sh : List Nat) : KeepsReady s (shapePorts s sh) :=
  .foldl (fun u p => by
    extract_lets v want
    exact .ite (wagControl_keepsReady ..) (.ite (wagControl_keepsReady ..) (.refl u))) _ s

theorem beginRestart_keepsReady (s : State) : KeepsReady s (beginRestart s) := by
  unfold beginRestart
  extract_lets _ s1 s2 sh _
  have h1 : KeepsReady s s1 := .ite (.refl s) ⟨rfl, rfl, rfl⟩
  clear_value s1
  have h2 : KeepsReady s s2 := h1.trans (.of_touches (m := 0x400000000000) (wr_touches rfl (Touches.refl _ _)) rfl rfl rfl)
  clear_value s2 sh
  exact (h2.trans (.of_touches (m := 0x1000) (Touches.hive rfl (Touches.refl _ s2)) rfl rfl rfl)).trans (shapePorts_keepsReady _ sh)

/-! ### Readiness (R257, R462 order 9) -/

theorem formAlone_keepsReady (s : State) : KeepsReady s (formAlone s) :=
  .of_touches (formAlone_touches (mm := 0x180E00000061011) rfl (Touches.refl _ s)) rfl rfl rfl

theorem formAlone_state (s : State) : hiveState (formAlone s) = 2 := by
  unfold formAlone
  extract_lets s1 s2 _ s3
  have h3 : hiveState s3 = 2 := rd_wr_fit _ _ _ _ (by decide)
  clear_value s3
  have hread : hiveState (firstTime s3) = hiveState s3 :=
    (firstTime_touches (mm := 0x180800000061011) rfl (Touches.refl _ s3)).reads rfl
  exact (rd_irqEvent _ _ _ _ _ _ rfl (by decide) _ _).trans (hread.trans h3)

theorem firstReady_shows (s : State) (x : Nat) : rd (firstReady s x) R.HOST_STAT_READY = rd s R.HOST_STAT_READY ∧
    (firstReady s x).host.perst = s.host.perst ∧ rd (firstReady s x) R.BOOT_STAT_READY = 1 ∧
    (hiveOfOne s = true → hiveState (firstReady s x) = 2) := by
  unfold firstReady
  extract_lets s1 s2 s3
  have h1 : rd s1 R.BOOT_STAT_READY = 1 := (rd_wr_ne (by decide) _ _ _ _ _ _).trans (rd_wr_fit _ _ _ _ (by decide))
  have ht1 : Touches 0x400000000000004 s s1 := wr_touches rfl (wr_touches rfl (Touches.refl _ s))
  clear_value s1
  have ht2 : Touches 0x580000000060014 s1 s2 := irqEvent_touches rfl rfl (Touches.free rfl (Touches.refl _ s1))
  have h2 : rd s2 R.BOOT_STAT_READY = 1 := (rd_irqEvent _ _ _ _ _ _ rfl (by decide) _ _).trans h1
  have hready : rd s2 R.HOST_STAT_READY = rd s R.HOST_STAT_READY := (ht2.reads rfl).trans (ht1.reads rfl)
  have hhost : s2.host = s.host := (ht2.same (c := .host) rfl).trans (ht1.same (c := .host) rfl)
  have hone : hiveOfOne s2 = hiveOfOne s := by
    unfold hiveOfOne
    rw [ht2.reads rfl, ht1.reads rfl]
  clear_value s2
  have hkeep : ∀ t, KeepsReady s2 t → rd t R.HOST_STAT_READY = rd s R.HOST_STAT_READY ∧ t.host.perst = s.host.perst ∧
      rd t R.BOOT_STAT_READY = 1 := fun t ht => ⟨ht.ready.trans hready, ht.perst.trans (congrArg HostPort.perst hhost), ht.boot.trans h2⟩
  by_cases halone : hiveOfOne s = true
  · rw [hone, if_pos halone]
    obtain ⟨ha, hb, hc⟩ := hkeep _ (formAlone_keepsReady s2)
    exact ⟨ha, hb, hc, fun _ => formAlone_state s2⟩
  · have h3 : KeepsReady s2 s3 := .of_touches (setQuality_touches (mm := 0x180800000060010) rfl (Touches.refl _ s2)) rfl rfl rfl
    clear_value s3
    rw [hone, if_neg halone]
    have hrest : KeepsReady s2 (if rd s3 R.HIVE_ROLE_ROLE_CFG = 3 && s3.boot.cold then beginRestart s3 else s3) :=
      .ite (h3.trans (beginRestart_keepsReady s3)) h3
    obtain ⟨ha, hb, hc⟩ := hkeep _ hrest
    exact ⟨ha, hb, hc, fun h => absurd h halone⟩

theorem startupReady_answers (x : Nat) (s : State) (hperst : s.host.perst = some x) (hstage : rd s R.BOOT_STAT_STAGE = 9)
    (hrec : rd s R.BOOT_STAT_RECOVERY ≠ 1) (hwarm : s.boot.warm = none) (hdusk : s.pwr.dusk = none) :
    Ends .startupReady s (fun t => rd t R.HOST_STAT_READY = 1 ∧ t.host.perst = none ∧ rd t R.BOOT_STAT_READY = 1 ∧
      (rd s R.BOOT_STAT_READY = 1 → t.hive = s.hive ∧ SameBut [.page 7, .host] s t) ∧
      (rd s R.BOOT_STAT_READY ≠ 1 → hiveOfOne s = true → hiveState t = 2)) := by
  let u := wr { s with host := { s.host with perst := none } } R.HOST_STAT_READY 1
  have hexec : exec .startupReady s = .next (if rd u R.BOOT_STAT_READY = 1 then u else firstReady u x) := by
    refine congrArg Host.Outcome.next ?_
    rw [hperst]
    exact if_neg (by simp [hstage, hrec, hwarm, hdusk])
  have hready : rd u R.HOST_STAT_READY = 1 := rd_wr_fit _ _ _ _ (by decide)
  have hboot : rd u R.BOOT_STAT_READY = rd s R.BOOT_STAT_READY := rd_wr_ne (by decide) _ _ _ _ _ _
  have hone : hiveOfOne u = hiveOfOne s := by
    unfold hiveOfOne
    rw [rd_wr_ne (by decide)]
    rfl
  have hnone : u.host.perst = none := rfl
  have htouch : Touches (maskOf [.page 7, .host]) s u := wr_touches rfl (Touches.host rfl (Touches.refl _ s))
  have hhive : u.hive = s.hive := rfl
  clear_value u
  by_cases hdone : rd s R.BOOT_STAT_READY = 1
  · rw [if_pos (hboot.trans hdone)] at hexec
    exact ⟨u, hexec, hready, hnone, hboot.trans hdone, fun _ => ⟨hhive, sameBut_of_touches htouch⟩, fun h => absurd hdone h⟩
  · rw [if_neg (by rwa [hboot])] at hexec
    obtain ⟨hr, hp, hb, hh⟩ := firstReady_shows u x
    exact ⟨_, hexec, hr.trans hready, hp.trans hnone, hb, fun h => absurd h hdone, fun _ h => hh (hone.trans h)⟩

theorem startupReady_idle (s : State) (h : s.host.perst = none ∨ rd s R.BOOT_STAT_STAGE ≠ 9 ∨ rd s R.BOOT_STAT_RECOVERY = 1) :
    exec .startupReady s = .next s := by
  refine congrArg Host.Outcome.next ?_
  split
  · rfl
  · next x hx =>
    refine if_pos ?_
    rcases h with h | h | h <;> simp_all

/-! ### The reset pin of the host (R257, R259, R460) -/

theorem perstNRelease_answers (s : State) : Ends .perstNRelease s (fun t => t.host.inReset = false ∧
    t.host.perst = (if 4 ≤ rd s R.BOOT_STAT_STAGE ∧ s.pwr.dusk = none then some s.now else s.host.perst) ∧ SameBut [.host] s t) := by
  let u : State := { s with host := { s.host with inReset := false } }
  have hexec : exec .perstNRelease s = .next (if 4 ≤ rd u R.BOOT_STAT_STAGE && u.pwr.dusk.isNone then
      { u with host := { u.host with perst := some u.now } } else u) := rfl
  have hiff : (decide (4 ≤ rd u R.BOOT_STAT_STAGE) && u.pwr.dusk.isNone) = true ↔ 4 ≤ rd s R.BOOT_STAT_STAGE ∧ s.pwr.dusk = none := by
    rw [Bool.and_eq_true, decide_eq_true_iff, Option.isNone_iff_eq_none]
    exact Iff.rfl
  by_cases h : 4 ≤ rd s R.BOOT_STAT_STAGE ∧ s.pwr.dusk = none
  · rw [if_pos (hiff.mpr h)] at hexec
    exact ⟨_, hexec, rfl, (if_pos h).symm, sameBut_of_touches (Touches.host rfl (Touches.host rfl (Touches.refl _ s)))⟩
  · rw [if_neg (fun hc => h (hiff.mp hc))] at hexec
    exact ⟨_, hexec, rfl, (if_neg h).symm, sameBut_of_touches (Touches.host rfl (Touches.refl _ s))⟩

theorem perstNAssert_held (cut : List (Nat × List Byte)) (s : State) (h : s.pwr.dusk ≠ none ∨ s.host.inReset = true) :
    exec (.perstNAssert cut) s = .next { s with host := { s.host with inReset := true } } := by
  refine congrArg Host.Outcome.next (if_pos ?_)
  rcases h with h | h
  · simp [Option.isSome_iff_ne_none.mpr h]
  · simp [h]

/-- What PERST_SCOPE asks for once the port is reset. -/
def perstScope (r : State) : State :=
  let s := { r with host := { r.host with inReset := true, perst := none } }
  match rd s R.BOOT_CFG_PERST_SCOPE with
  | 1 => beginWarm s 3 false
  | 2 => if s.pwr.good then coldReset s 3 else s
  | _ => s

theorem perstScope_cases (r : State) : ∃ u : State, u.host.inReset = true ∧ u.host.perst = none ∧ u.boot = r.boot ∧ u.pwr = r.pwr ∧
    u.now = r.now ∧ (∀ f, rd u f = rd r f) ∧ (rd r R.BOOT_CFG_PERST_SCOPE = 0 → perstScope r = u) ∧
    (rd r R.BOOT_CFG_PERST_SCOPE = 1 → perstScope r = beginWarm u 3 false) ∧
    (rd r R.BOOT_CFG_PERST_SCOPE = 2 → perstScope r = if u.pwr.good then coldReset u 3 else u) := by
  refine ⟨{ r with host := { r.host with inReset := true, perst := none } }, rfl, rfl, rfl, rfl, rfl, fun _ => rfl, fun h => ?_,
    fun h => ?_, fun h => ?_⟩
  · unfold perstScope
    dsimp only
    rw [rd_set_host, h]
    rfl
  · unfold perstScope
    dsimp only
    rw [rd_set_host, h]
    rfl
  · unfold perstScope
    dsimp only
    rw [rd_set_host, h]
    rfl

section
variable (cut : List (Nat × List Byte)) (s : State) (hdusk : s.pwr.dusk = none) (hout : s.host.inReset = false)
include hdusk hout

/-- The state in which the host's reset pin takes effect: the port is reset, and nothing of power, time or the start has changed. -/
theorem exec_perstNAssert : ∃ u : State, u.host.inReset = true ∧ u.host.perst = none ∧ rd u R.HOST_LINK_UP = 0 ∧ rd u R.HOST_STAT_READY = 0 ∧
    u.boot = s.boot ∧ u.pwr = s.pwr ∧ u.now = s.now ∧
    (rd s R.BOOT_CFG_PERST_SCOPE = 0 → exec (.perstNAssert cut) s = .next u) ∧
    (rd s R.BOOT_CFG_PERST_SCOPE = 1 → exec (.perstNAssert cut) s = .next (beginWarm u 3 false)) ∧
    (rd s R.BOOT_CFG_PERST_SCOPE = 2 → exec (.perstNAssert cut) s = .next (if u.pwr.good then coldReset u 3 else u)) := by
  have hexec : exec (.perstNAssert cut) s = .next (perstScope (hostPortReset s cut)) := by
    refine congrArg Host.Outcome.next ?_
    rw [if_neg (by simp [hdusk, hout])]
    generalize hostPortReset s cut = r
    rfl
  have ht : Touches 0x9824F8000062F94 s (hostPortReset s cut) := hostPortReset_touches rfl (Touches.refl _ s)
  have hkeep : (hostPortReset s cut).boot = s.boot := hostPortReset_keepsBoot s cut
  obtain ⟨hup, hready, -⟩ := hostPortReset_resets s cut
  rw [hexec]
  generalize hostPortReset s cut = r at *
  obtain ⟨u, hin, hperst, hboot, hpwr, hnow, hread, h0, h1, h2⟩ := perstScope_cases r
  have hscope : rd r R.BOOT_CFG_PERST_SCOPE = rd s R.BOOT_CFG_PERST_SCOPE := ht.reads rfl
  have hrpwr : r.pwr = s.pwr := ht.same (c := .power) rfl
  have hrnow : r.now = s.now := ht.same (c := .now) rfl
  refine ⟨u, hin, hperst, by rw [hread, hup], by rw [hread, hready], hboot.trans hkeep, hpwr.trans hrpwr, hnow.trans hrnow,
    fun h => ?_, fun h => ?_, fun h => ?_⟩
  · rw [h0 (hscope.trans h)]
  · rw [h1 (hscope.trans h)]
  · rw [h2 (hscope.trans h)]

theorem perstNAssert_answers :
    (rd s R.BOOT_CFG_PERST_SCOPE = 0 → Ends (.perstNAssert cut) s (fun t =>
      t.host.inReset = true ∧ t.host.perst = none ∧ rd t R.HOST_LINK_UP = 0 ∧ rd t R.HOST_STAT_READY = 0 ∧ t.boot.warm = s.boot.warm)) ∧
    (rd s R.BOOT_CFG_PERST_SCOPE = 1 → s.pwr.good = true → s.boot.warm = none →
      Ends (.perstNAssert cut) s (fun t => t.boot.warm = some s.now ∧ t.boot.cause = 3 ∧ rd t R.HOST_LINK_UP = 0)) ∧
    (rd s R.BOOT_CFG_PERST_SCOPE = 2 → s.pwr.good = true →
      Ends (.perstNAssert cut) s (fun t => t.boot.cause = 3 ∧ t.pwr.good = false ∧ t.comb = {} ∧ t.now = s.now)) := by
  obtain ⟨u, hin, hperst, hup, hready, hboot, hpwr, hnow, h0, h1, h2⟩ := exec_perstNAssert cut s hdusk hout
  refine ⟨fun h => ⟨u, h0 h, hin, hperst, hup, hready, by rw [hboot]⟩, fun h hgood hwarm => ?_, fun h hgood => ?_⟩
  · rw [beginWarm_begins (by rw [hpwr, hgood]) (by rw [hpwr, hdusk]) (by rw [hboot, hwarm])] at h1
    exact ⟨_, h1 h, congrArg some hnow, rfl, hup⟩
  · rw [if_pos (by rw [hpwr, hgood])] at h2
    obtain ⟨hnow', -, -, hcause, -, -, -, hoff, hcomb, -⟩ := coldReset_leaves u 3
    exact ⟨_, h2 h, hcause, hoff, hcomb, hnow'.trans hnow⟩

end

/-! ### A start that is not ready in time (R257, R463, R478) -/

section
variable (x : Nat) (s : State) (hperst : s.host.perst = some x) (hready : rd s R.HOST_STAT_READY ≠ 1) (hrec : rd s R.BOOT_STAT_RECOVERY ≠ 1)
  (hwarm : s.boot.warm = none) (hdusk : s.pwr.dusk = none)
include hperst hready hrec hwarm hdusk

theorem exec_readinessTimeout :
    (¬(rd s R.BOOT_STAT_TRIAL = 1 ∧ rd s R.BOOT_STAT_READY = 0) → exec .readinessTimeout s = .next (irqEvent (wr (wr (wr
      (reachTime s (x + 4000000000)) R.BOOT_STAT_RECOVERY 1) R.BOOT_STAT_RECOVERY_CAUSE 2) R.HOST_STAT_RECOVERY 1) 26 0 Irq.BOOT_RECOVERY 0 [])) ∧
    (rd s R.BOOT_STAT_TRIAL = 1 ∧ rd s R.BOOT_STAT_READY = 0 → exec .readinessTimeout s = .next (fallBack (reachTime s (x + 4000000000)))) := by
  have hgo : ¬(rd s R.HOST_STAT_READY = 1 || rd s R.BOOT_STAT_RECOVERY = 1 || s.boot.warm.isSome || s.pwr.dusk.isSome) = true := by
    simp [hready, hrec, hwarm, hdusk]
  have hiff : (decide (rd (reachTime s (x + 4000000000)) R.BOOT_STAT_TRIAL = 1) && decide (rd (reachTime s (x + 4000000000)) R.BOOT_STAT_READY = 0)) = true ↔
      rd s R.BOOT_STAT_TRIAL = 1 ∧ rd s R.BOOT_STAT_READY = 0 := by
    rw [Bool.and_eq_true, decide_eq_true_iff, decide_eq_true_iff]
    exact Iff.rfl
  constructor
  · intro h
    refine congrArg Host.Outcome.next ?_
    rw [hperst]
    exact (if_neg hgo).trans (if_neg fun hc => h (hiff.mp hc))
  · intro h
    refine congrArg Host.Outcome.next ?_
    rw [hperst]
    exact (if_neg hgo).trans (if_pos (hiff.mpr h))

theorem readinessTimeout_answers :
    (rd s R.BOOT_STAT_TRIAL ≠ 1 → Ends .readinessTimeout s (fun t => rd t R.BOOT_STAT_RECOVERY = 1 ∧
      rd t R.BOOT_STAT_RECOVERY_CAUSE = 2 ∧ rd t R.HOST_STAT_RECOVERY = 1 ∧ t.now = max s.now (x + 4000000000) ∧
      rd t (hIrqRaw 26 Irq.BOOT_RECOVERY) 0 = 1 ∧ SameBut (recorded ++ pages [7, 26] ++ [.now]) s t)) ∧
    (rd s R.BOOT_STAT_TRIAL = 1 → rd s R.BOOT_STAT_READY = 0 → s.pwr.good = true → Ends .readinessTimeout s (fun t =>
      t.boot.warm = some t.now ∧ t.boot.cause = 7 ∧ t.boot.trialUp = 1800 ∧ rd t R.BOOT_TRIAL_LEFT = 0 ∧
      SameBut (recorded ++ pages [7, 26] ++ [.now]) s t)) := by
  obtain ⟨hfirst, htrial⟩ := exec_readinessTimeout x s hperst hready hrec hwarm hdusk
  constructor
  · intro h
    have ht : Touches (maskOf (recorded ++ pages [7, 26] ++ [.now])) s (irqEvent (wr (wr (wr
        (reachTime s (x + 4000000000)) R.BOOT_STAT_RECOVERY 1) R.BOOT_STAT_RECOVERY_CAUSE 2) R.HOST_STAT_RECOVERY 1) 26 0 Irq.BOOT_RECOVERY 0 []) :=
      irqEvent_touches rfl rfl (wr_touches rfl (wr_touches rfl (wr_touches rfl (reachTime_touches rfl (Touches.refl _ s)))))
    refine ⟨_, hfirst fun hc => h hc.1, ?_, ?_, ?_, ?_, rd_irqEvent_same .., sameBut_of_touches ht⟩
    · rw [rd_irqEvent _ _ _ _ _ _ rfl (by decide), rd_wr_ne (by decide), rd_wr_ne (by decide)]
      exact rd_wr_fit _ _ _ _ (by decide)
    · rw [rd_irqEvent _ _ _ _ _ _ rfl (by decide), rd_wr_ne (by decide)]
      exact rd_wr_fit _ _ _ _ (by decide)
    · rw [rd_irqEvent _ _ _ _ _ _ rfl (by decide)]
      exact rd_wr_fit _ _ _ _ (by decide)
    · rw [irqEvent_now]
      rfl
  · intro h1 h2 hgood
    have ht : Touches (maskOf (recorded ++ pages [7, 26] ++ [.now])) s (fallBack (reachTime s (x + 4000000000))) :=
      fallBack_touches rfl (reachTime_touches rfl (Touches.refl _ s))
    have hnow : (fallBack (reachTime s (x + 4000000000))).now = (reachTime s (x + 4000000000)).now :=
      (fallBack_touches (mm := 0x580000000060010) rfl (Touches.refl _ _)).same (c := .now) rfl
    obtain ⟨hboot, hleft⟩ := fallBack_shows (s := reachTime s (x + 4000000000)) hwarm hdusk hgood
    refine ⟨_, htrial ⟨h1, h2⟩, ?_, by rw [hboot], by rw [hboot], hleft, sameBut_of_touches ht⟩
    rw [hboot, hnow]

end

theorem readinessTimeout_idle (s : State) (h : s.host.perst = none ∨ rd s R.HOST_STAT_READY = 1) : exec .readinessTimeout s = .next s := by
  refine congrArg Host.Outcome.next ?_
  split
  · rfl
  · next x hx =>
    refine if_pos ?_
    rcases h with h | h <;> simp_all

/-- Settles O51, stage by stage: the choice of an image without a bank (`startIsland_active` and its kin), order 5 by
`coresReleased_releases`, the self-test by `startTests_passes`, and the first readiness by `firstReady_shows`. -/
theorem startUp : Obligations.StartUp := by
  unfold Obligations.StartUp
  refine ⟨fun e clock s h => congrArg Host.Outcome.next (if_pos ?_), fun e clock s hoff hfed hbad0 hbad1 hrec =>
    ⟨powerGood_active e clock s hoff hfed hbad0 hbad1 hrec, powerGood_recovery e clock s hoff hfed hbad0 hbad1 hrec,
      powerGood_idle e clock s hoff hfed hbad0 hbad1 hrec⟩, strapSample_answers, coresReleased_idle, coresReleased_answers,
    eccInitDone_answers, startupSelfTestDone_passes, startupSelfTestDone_idle, startupReady_answers, startupReady_idle, perstNRelease_answers,
    fun cut s => ⟨fun h => ⟨_, perstNAssert_held cut s h, rfl⟩, fun hdusk hout => (perstNAssert_answers cut s hdusk hout).1,
      fun hdusk hout => (perstNAssert_answers cut s hdusk hout).2.1, fun hdusk hout => (perstNAssert_answers cut s hdusk hout).2.2⟩,
    readinessTimeout_answers, readinessTimeout_idle⟩
  rcases h with h | h <;> simp [h]

end Sys2Proof.Proofs
end

section
/-!
Chapter 17, codec and pre-processor jobs (O47, R422 to R438).
-/

namespace Sys2Proof.Proofs

open Sys2Proof Sys2Proof.Machine Sys2Proof.Safety Sys2Proof.Certificates Sys2Proof.Laws

/-! ### Engines -/

section
variable {f : Fld} (hreset : ∀ i j, fldReset f i 0 = fldReset f j 0)
include hreset

theorem rd_wr_each (s : State) (x b v : Nat) : rd (wr s f x b) f v = if v % 2 ^ 16 = b % 2 ^ 16 then x % 2 ^ f.w else rd s f v := by
  by_cases h : v % 2 ^ 16 = b % 2 ^ 16
  · rw [if_pos h]
    have hkey : fldKey f v 0 = fldKey f b 0 := by
      unfold fldKey
      rw [h]
    have hread : rd (wr s f x b) f v = rd (wr s f x b) f b := by
      unfold rd
      rw [hkey, hreset v b]
    rw [hread, rd_wr]
  · rw [if_neg h, rd_wr_other h]

/-- A pass over engines that writes one value into a field of each leaves it there. -/
theorem foldl_writes {x : Nat} {g : State → Nat → State} (hg : ∀ u b v, rd (g u b) f v = rd (wr u f x b) f v) {l : List Nat} {v : Nat}
    (hv : v ∈ l) (s : State) : rd (l.foldl g s) f v = x % 2 ^ f.w :=
  foldl_reaches (P := fun u : State => rd u f v = x % 2 ^ f.w) hv (fun u => by rw [hg, rd_wr_each hreset, if_pos rfl])
    (fun u b _ hu => by
      rw [hg, rd_wr_each hreset]
      split
      · rfl
      · exact hu) s

end

theorem foldl_leaves {f : Fld} {g : State → Nat → State} (hg : ∀ u b v, rd (g u b) f v = rd u f v) (l : List Nat) (v : Nat) (s : State) :
    rd (l.foldl g s) f v = rd s f v :=
  List.foldlRecOn l g (motive := fun u : State => rd u f v = rd s f v) rfl fun u hu b _ => (hg u b v).trans hu

theorem rd_freeEngine_busy (s : State) (b v : Nat) : rd (freeEngine s b) R.VID_STAT_BUSY v = rd (wr s R.VID_STAT_BUSY 0 b) R.VID_STAT_BUSY v := by
  unfold freeEngine
  rw [rd_wr_each (fun _ _ => rfl), rd_wr_each (fun _ _ => rfl), rd_wr_ne (by decide), rd_wr_ne (by decide)]

/-! ### The end of a job (R422) -/

theorem endVideo_jobs (s : State) (q tenant result tagged : Nat) (st : Status) (r : VidRecord) :
    (endVideo s q tenant result tagged st r).vid = s.vid ∧
    ∀ v, rd (endVideo s q tenant result tagged st r) R.VID_STAT_BUSY v = rd s R.VID_STAT_BUSY v :=
  ⟨(endVideo_after s q tenant result tagged st r).same (c := .video) rfl, fun _ => (endVideo_after s q tenant result tagged st r).reads rfl⟩

theorem freeVctx_jobs (s : State) (c : Nat) : (freeVctx s c).vid.jobs = s.vid.jobs ∧
    ∀ v, rd (freeVctx s c) R.VID_STAT_BUSY v = rd s R.VID_STAT_BUSY v := by
  refine ⟨(freeVctx_clears s c).2.2, fun v => ?_⟩
  unfold freeVctx
  simp only [List.foldl_cons, List.foldl_nil]
  rw [rd_wr_ne (by decide), rd_wr_ne (by decide), rd_wr_ne (by decide), rd_wr_ne (by decide), rd_wr_ne (by decide), rd_wr_ne (by decide),
    rd_wr_ne (by decide), rd_wr_ne (by decide)]
  rfl

theorem finishClose_jobs (s : State) (c : Nat) : (finishClose s c).vid.jobs = s.vid.jobs ∧
    ∀ v, rd (finishClose s c) R.VID_STAT_BUSY v = rd s R.VID_STAT_BUSY v := by
  obtain ⟨hjobs, hbusy⟩ := freeVctx_jobs s c
  unfold finishClose
  split
  · extract_lets t
    split
    · next q a _ =>
      obtain ⟨hvid, hread⟩ := endVideo_jobs (freeVctx s c) q t a 0 .ok {}
      exact ⟨(congrArg Video.jobs hvid).trans hjobs, fun v => (hread v).trans (hbusy v)⟩
    · exact ⟨hjobs, hbusy⟩
  · exact ⟨rfl, fun _ => rfl⟩

theorem endJob_leaves (j : VJob) (n : Nat) (st : Status) (d : VidRecord) (s : State) :
    (∀ x ∈ (endJob s j n st d).vid.jobs, x.serial ≠ j.serial) ∧
    (j.st = 1 → ∀ v ∈ j.engines, rd (endJob s j n st d) R.VID_STAT_BUSY v = 0) := by
  unfold endJob
  extract_lets _ s1 s2
  have hjobs1 : ∀ x ∈ s1.vid.jobs, x.serial ≠ j.serial := fun x hx => of_decide_eq_true (List.mem_filter.mp hx).2
  have hjobs2 : s2.vid = s1.vid := by
    simp only [s2]
    split
    · exact (Touches.foldl (Touches.refl 0x20000000000000 s1) fun u v => freeEngine_touches rfl (Touches.refl _ u)).same (c := .video) rfl
    · split
      · exact (Touches.foldl (Touches.refl 0x20000000000000 s1) fun u v => wr_touches rfl (Touches.refl _ u)).same (c := .video) rfl
      · rfl
  have hbusy2 : j.st = 1 → ∀ v ∈ j.engines, rd s2 R.VID_STAT_BUSY v = 0 := fun hst v hv => by
    simp only [s2]
    rw [if_pos hst]
    exact foldl_writes (fun _ _ => rfl) rd_freeEngine_busy hv s1
  clear_value s1 s2
  obtain ⟨hvid, hread⟩ := endVideo_jobs s2 j.queue j.tenant j.result n st d
  obtain ⟨hkept, hbusy⟩ := finishClose_jobs (endVideo s2 j.queue j.tenant j.result n st d) j.ctx
  refine ⟨fun x hx => hjobs1 x ?_, fun hst v hv => ?_⟩
  · rwa [hkept, hvid, hjobs2] at hx
  · rw [hbusy, hread, hbusy2 hst v hv]

/-! ### The start of a job (R429, R434) -/

/-- The number whose bits below `n` are those that satisfy `p`. -/
def bitsThat (p : Nat → Bool) (n : Nat) : Nat := (List.range n).foldl (fun m i => if p i then m + 2 ^ i else m) 0

theorem bitsThat_succ (p : Nat → Bool) (n : Nat) : bitsThat p (n + 1) = if p n then bitsThat p n + 2 ^ n else bitsThat p n := by
  unfold bitsThat
  rw [List.range_succ, List.foldl_append]
  rfl

theorem bitsThat_lt (p : Nat → Bool) (n : Nat) : bitsThat p n < 2 ^ n := by
  induction n with
  | zero => exact Nat.one_pos
  | succ n ih =>
    rw [bitsThat_succ, Nat.pow_succ]
    split <;> omega

theorem testBit_bitsThat (p : Nat → Bool) (n b : Nat) : (bitsThat p n).testBit b = (decide (b < n) && p b) := by
  induction n with
  | zero => simp [bitsThat]
  | succ n ih =>
    have hlt := bitsThat_lt p n
    rw [bitsThat_succ]
    rcases Nat.lt_trichotomy b n with h | h | h
    · have hlt' : b < n + 1 := by omega
      split
      · rw [Nat.add_comm, Nat.testBit_two_pow_add_gt h, ih]
        simp [h, hlt']
      · rw [ih]
        simp [h, hlt']
    · subst h
      have hnone : (bitsThat p b).testBit b = false := Nat.testBit_lt_two_pow hlt
      split
      · next hp => rw [Nat.add_comm, Nat.testBit_two_pow_add_eq, hnone]; simp [hp]
      · next hp => rw [hnone]; simp [hp]
    · have hbig : 2 ^ (n + 1) ≤ 2 ^ b := Nat.pow_le_pow_right (by decide) h
      have hsucc : 2 ^ (n + 1) = 2 ^ n + 2 ^ n := by rw [Nat.pow_succ]; omega
      rw [Nat.testBit_lt_two_pow (by split <;> omega), decide_eq_false (by omega), Bool.false_and]

theorem releaseBufs_clears (s : State) (c m : Nat) {b : Nat} (hm : m / 2 ^ b % 2 = 1) :
    rd (releaseBufs s c m) R.VID_CTX_OUT 0 c / 2 ^ b % 2 = 0 := by
  have hout : rd (releaseBufs s c m) R.VID_CTX_OUT 0 c =
      bitsThat (fun i => rd s R.VID_CTX_OUT 0 c / 2 ^ i % 2 = 1 && m / 2 ^ i % 2 = 0) 64 :=
    (rd_wr s R.VID_CTX_OUT _ 0 c).trans (Nat.mod_eq_of_lt (bitsThat_lt _ 64))
  have hbit := testBit_bitsThat (fun i => rd s R.VID_CTX_OUT 0 c / 2 ^ i % 2 = 1 && m / 2 ^ i % 2 = 0) 64 b
  rw [← hout, Nat.testBit_eq_decide_div_mod_eq] at hbit
  simp only [hm] at hbit
  have hne : ¬rd (releaseBufs s c m) R.VID_CTX_OUT 0 c / 2 ^ b % 2 = 1 := by
    simpa using hbit
  omega

theorem videoJobStart_idle (units : Nat) (s : State) (h : rd s R.PWR_STAT_EMERG_ACTIVE = 1 ∨ admissionsStopped s = true ∨
    nextJob s ((List.range 8).filter (engineFree s)) (jobOrder s) = none) : exec (.videoJobStart units) s = .next s := by
  refine congrArg Host.Outcome.next ?_
  by_cases hgo : (rd s R.PWR_STAT_EMERG_ACTIVE = 1 || admissionsStopped s) = true
  · exact if_pos hgo
  · rw [if_neg hgo]
    rcases h with h | h | h
    · simp [h] at hgo
    · simp [h] at hgo
    · rw [h]

/-- An engine shows the job that runs on it. -/
def showEngine (j : VJob) (s : State) (v : Nat) : State :=
  wr (wr (wr (wr s R.VID_STAT_CTX j.ctx v) R.VID_STAT_LIVE (b2n (vctxLive s j.ctx)) v) R.VID_STAT_BUSY 1 v) R.VID_STAT_PAUSED 0 v

theorem showEngines_show (j : VJob) (l : List Nat) (s : State) :
    (∀ v ∈ l, rd (l.foldl (showEngine j) s) R.VID_STAT_BUSY v = 1 ∧ rd (l.foldl (showEngine j) s) R.VID_STAT_PAUSED v = 0) ∧
    (∀ c, rd (l.foldl (showEngine j) s) R.VID_CTX_OUT 0 c = rd s R.VID_CTX_OUT 0 c) ∧
    Touches 0x20000000000000 s (l.foldl (showEngine j) s) := by
  refine ⟨fun v hv => ⟨?_, ?_⟩, fun c => ?_, Touches.foldl (Touches.refl _ s) fun u v =>
    wr_touches rfl (wr_touches rfl (wr_touches rfl (wr_touches rfl (Touches.refl _ u))))⟩
  · refine foldl_writes (x := 1) (fun _ _ => rfl) (fun u b w => ?_) hv s
    unfold showEngine
    rw [rd_wr_ne (by decide), rd_wr_each (fun _ _ => rfl), rd_wr_each (fun _ _ => rfl), rd_wr_ne (by decide), rd_wr_ne (by decide)]
  · refine foldl_writes (x := 0) (fun _ _ => rfl) (fun u b w => ?_) hv s
    unfold showEngine
    rw [rd_wr_each (fun _ _ => rfl), rd_wr_each (fun _ _ => rfl), rd_wr_ne (by decide), rd_wr_ne (by decide), rd_wr_ne (by decide)]
  · refine List.foldlRecOn l _ (motive := fun u : State => rd u R.VID_CTX_OUT 0 c = rd s R.VID_CTX_OUT 0 c) rfl fun u hu v _ => ?_
    unfold showEngine
    rw [rd_wr_ne (by decide), rd_wr_ne (by decide), rd_wr_ne (by decide), rd_wr_ne (by decide), hu]

theorem videoJobStart_starts (units : Nat) (j : VJob) (l : List Nat) (s : State) (hemerg : rd s R.PWR_STAT_EMERG_ACTIVE ≠ 1)
    (hopen : admissionsStopped s = false) (hnext : nextJob s ((List.range 8).filter (engineFree s)) (jobOrder s) = some (j, l)) :
    let own := if j.st = 2 then l else l.take (max units 1)
    Ends (.videoJobStart units) s (fun t =>
      t.vid.jobs = s.vid.jobs.map (fun x => if x.serial = j.serial then { x with st := 1, engines := own } else x) ∧
      (∀ v ∈ own, rd t R.VID_STAT_BUSY v = 1 ∧ rd t R.VID_STAT_PAUSED v = 0) ∧
      (j.st = 0 → ∀ b < 64, j.release / 2 ^ b % 2 = 1 → rd t R.VID_CTX_OUT 0 j.ctx / 2 ^ b % 2 = 0) ∧
      SameBut (pages [21] ++ [.video]) s t) := by
  intro own
  let u := if j.st = 0 then releaseBufs s j.ctx j.release else s
  let w : State := { u with vid := { u.vid with jobs := u.vid.jobs.map (fun x => if x.serial = j.serial then { x with st := 1, engines := own } else x) } }
  have hexec : exec (.videoJobStart units) s = .next (own.foldl (showEngine j) w) := by
    refine congrArg Host.Outcome.next ((if_neg (by simp [hemerg, hopen])).trans ?_)
    rw [hnext]
    rfl
  obtain ⟨hshow, hout, htouch⟩ := showEngines_show j own w
  have hu : Touches (maskOf (pages [21] ++ [.video])) s u := by
    simp only [u]
    split
    · exact Touches.video rfl (wr_touches rfl (Touches.refl _ s))
    · exact Touches.refl _ s
  have hjobs : u.vid.jobs = s.vid.jobs := by
    simp only [u]
    split <;> rfl
  have hvid : (own.foldl (showEngine j) w).vid = w.vid := htouch.same (c := .video) rfl
  refine ⟨_, hexec, ?_, hshow, fun hst b _ hm => ?_, sameBut_of_touches ((Touches.video rfl hu).trans (htouch.mono rfl))⟩
  · rw [hvid, ← hjobs]
  · rw [hout]
    show rd u R.VID_CTX_OUT 0 j.ctx / 2 ^ b % 2 = 0
    simp only [u]
    rw [if_pos hst]
    exact releaseBufs_clears s j.ctx j.release hm

/-! ### Preemption (R434) -/

theorem pauseEngines_show (l : List Nat) (s : State) :
    let t := l.foldl (fun s v => wr (freeEngine s v) R.VID_STAT_PAUSED 1 v) s
    (∀ v ∈ l, rd t R.VID_STAT_BUSY v = 0 ∧ rd t R.VID_STAT_PAUSED v = 1) ∧ (∀ v, rd t R.VID_PREEMPT_CNT v = rd s R.VID_PREEMPT_CNT v) ∧
    Touches 0x20000000000000 s t := by
  refine ⟨fun v hv => ⟨?_, ?_⟩, fun v => foldl_leaves (fun u b w => ?_) l v s, Touches.foldl (Touches.refl _ s) fun u v =>
    wr_touches rfl (freeEngine_touches rfl (Touches.refl _ u))⟩
  · refine foldl_writes (x := 0) (fun _ _ => rfl) (fun u b w => ?_) hv s
    rw [rd_wr_ne (by decide), rd_freeEngine_busy]
  · refine foldl_writes (x := 1) (fun _ _ => rfl) (fun u b w => ?_) hv s
    unfold freeEngine
    rw [rd_wr_each (fun _ _ => rfl), rd_wr_each (fun _ _ => rfl), rd_wr_ne (by decide), rd_wr_ne (by decide), rd_wr_ne (by decide)]
  · unfold freeEngine
    rw [rd_wr_ne (by decide), rd_wr_ne (by decide), rd_wr_ne (by decide), rd_wr_ne (by decide)]

/-- The bytes that a paused job saves, and its mark. -/
def savedJob (s : State) (c : Nat) (j : VJob) (bs : List Byte) : State :=
  let s := useFree (memWrite s (vpar s c 32 8) bs)
  { s with vid := { s.vid with jobs := s.vid.jobs.map (fun x => if x.serial = j.serial then { x with st := 2 } else x) } }

theorem savedJob_shows (s : State) (c : Nat) (j : VJob) (bs : List Byte) :
    (savedJob s c j bs).vid.jobs = s.vid.jobs.map (fun x => if x.serial = j.serial then { x with st := 2 } else x) ∧
    (∀ v, rd (savedJob s c j bs) R.VID_PREEMPT_CNT v = rd s R.VID_PREEMPT_CNT v) ∧
    (savedJob s c j bs).mem = (memWrite s (vpar s c 32 8) bs).mem ∧
    Touches (maskOf (pages [21] ++ [.free, .bytes, .memory, .video])) s (savedJob s c j bs) :=
  ⟨rfl, fun _ => rfl, rfl, Touches.video rfl (Touches.free rfl (memWrite_touches rfl rfl (Touches.refl _ s)))⟩

theorem exec_preemption {c : Nat} {j : VJob} {s : State} (hjob : s.vid.jobs.find? (fun j => j.ctx = c && j.st = 1) = some j)
    (hbatch : vctxLive s c = false) (hlive : liveWants s j = true) : ∃ bs : List Byte, bs.length = 2 ^ 20 ∧
    exec (.preemption c) s = .next (incSat (j.engines.foldl (fun s v => wr (freeEngine s v) R.VID_STAT_PAUSED 1 v) (savedJob s c j bs))
      R.VID_PREEMPT_CNT (j.engines.headD 0)) := by
  refine ⟨freeBytes s 0 (2 ^ 20), by rw [freeBytes, List.length_map, List.length_range], congrArg Host.Outcome.next ?_⟩
  rw [hjob]
  refine (if_neg (by simp [hbatch, hlive])).trans ?_
  generalize freeBytes s 0 (2 ^ 20) = bs
  rfl

theorem preemption_answers (c : Nat) (j : VJob) (s : State) (hjob : s.vid.jobs.find? (fun j => j.ctx = c && j.st = 1) = some j) :
    ((vctxLive s c = true ∨ liveWants s j = false) → exec (.preemption c) s = .next s) ∧
    (vctxLive s c = false → liveWants s j = true → Ends (.preemption c) s (fun t =>
      t.vid.jobs = s.vid.jobs.map (fun x => if x.serial = j.serial then { x with st := 2 } else x) ∧
      (∀ v ∈ j.engines, rd t R.VID_STAT_BUSY v = 0 ∧ rd t R.VID_STAT_PAUSED v = 1) ∧
      rd t R.VID_PREEMPT_CNT (j.engines.headD 0) = min (rd s R.VID_PREEMPT_CNT (j.engines.headD 0) + 1) (2 ^ 32 - 1) ∧
      (∀ a, (a < vpar s c 32 8 ∨ vpar s c 32 8 + 2 ^ 20 ≤ a) → tget 0 t.mem.cells a = tget 0 s.mem.cells a) ∧
      SameBut (pages [21] ++ [.free, .bytes, .memory, .video]) s t)) := by
  refine ⟨fun h => ?_, fun hbatch hlive => ?_⟩
  · refine congrArg Host.Outcome.next ?_
    rw [hjob]
    exact if_pos (by rcases h with h | h <;> simp [h])
  · obtain ⟨bs, hbytes, hexec⟩ := exec_preemption hjob hbatch hlive
    obtain ⟨huvid, huread, humem, hut⟩ := savedJob_shows s c j bs
    generalize savedJob s c j bs = u at hexec huvid huread humem hut
    obtain ⟨hshow, hcnt, htouch⟩ := pauseEngines_show j.engines u
    generalize j.engines.foldl (fun s v => wr (freeEngine s v) R.VID_STAT_PAUSED 1 v) u = t at hexec hshow hcnt htouch
    have hvid : t.vid = u.vid := htouch.same (c := .video) rfl
    refine ⟨_, hexec, ?_, fun v hv => ⟨?_, ?_⟩, ?_, fun a ha => ?_, sameBut_of_touches (wr_touches rfl (hut.trans (htouch.mono rfl)))⟩
    · exact (congrArg Video.jobs hvid).trans huvid
    · exact (rd_incSat_ne (by decide) _ _ _ _ _).trans (hshow v hv).1
    · exact (rd_incSat_ne (by decide) _ _ _ _ _).trans (hshow v hv).2
    · rw [rd_incSat, hcnt, huread]
      rfl
    · have hm : t.mem = (memWrite s (vpar s c 32 8) bs).mem := (mem_of_touches htouch rfl rfl).trans humem
      have hbyte := memByte_memWrite_outside s (vpar s c 32 8) a bs (by rwa [hbytes])
      exact (congrArg (fun m : Mem => tget 0 m.cells a) hm).trans hbyte

theorem noJob_idle (c : Nat) (r : VidRes) (s : State) (hjob : s.vid.jobs.find? (fun j => j.ctx = c && j.st = 1) = none) :
    exec (.preemption c) s = .next s ∧ exec (.videoJobEnd c r) s = .next s := by
  constructor
  · refine congrArg Host.Outcome.next ?_
    rw [hjob]
  · refine congrArg Host.Outcome.next ?_
    rw [hjob]

/-! ### Jobs that end: what they all count (R422) -/

/-- The state after the counts of steps: the memory, the contexts and every other register are the same. -/
structure StepsCounted (s u : State) : Prop where
  touches : Touches 0x20000000000000 s u
  read : ∀ f : Fld, fldCode f ≠ fldCode R.VID_STEPS → ∀ i k, rd u f i k = rd s f i k

namespace StepsCounted

variable {s u : State} (h : StepsCounted s u)
include h

theorem vid : u.vid = s.vid := h.touches.same (c := .video) rfl
theorem mem : u.mem = s.mem := mem_of_touches h.touches rfl rfl
theorem out : u.out = s.out := h.touches.same (c := .out) rfl

theorem vctx (c : Nat) : Machine.vctx u c = Machine.vctx s c := by
  unfold Machine.vctx
  rw [h.vid]

theorem vpar (c a n : Nat) : Machine.vpar u c a n = Machine.vpar s c a n := by
  unfold Machine.vpar
  rw [h.vctx]

theorem rangePoison (a n : Nat) : Machine.rangePoison u a n = Machine.rangePoison s a n := by
  unfold Machine.rangePoison
  rw [h.mem]

theorem sameBut : SameBut [.page 21] s u := sameBut_of_touches h.touches

end StepsCounted

theorem countBusy_stepsCounted (s : State) (j : VJob) (steps : List Nat) : StepsCounted s (countBusy s j steps) := by
  unfold countBusy
  exact ⟨Touches.foldl (Touches.refl _ s) fun u e => wr_touches rfl (Touches.refl _ u),
    fun f hf i k => List.foldlRecOn _ _ (motive := fun u : State => rd u f i k = rd s f i k) rfl fun u hu e _ =>
      (rd_wr_ne hf _ _ _ _ _ _).trans hu⟩

theorem exec_videoJobEnd {c : Nat} {j : VJob} {r : VidRes} {s : State} (hjob : s.vid.jobs.find? (fun j => j.ctx = c && j.st = 1) = some j)
    (henv : r.env = {}) (hwait : waitsReRead s (.codec c) = false) : ∃ u, StepsCounted s u ∧ exec (.videoJobEnd c r) s = .next
      (if j.encode then endEncode u j r else if j.op = 2 then endDecodeFlush u j r else endDecode u j r) := by
  refine ⟨countBusy s j r.steps, countBusy_stepsCounted s j r.steps, congrArg Host.Outcome.next ?_⟩
  rw [hjob, henv]
  exact if_neg (by rw [show readFails s (.codec c) {} = s from rfl, hwait]; decide)

/-! ### The end of a decode (R424 to R428) -/

section
variable {s u : State} {j : VJob} {r : VidRes} (hu : StepsCounted s u)
include hu

theorem endDecode_poisoned (hbad : rangePoison s (vpar s j.ctx 24 8) j.length = true) :
    endDecode u j r = endJob u j j.inSegs .memPoison { steps := stepSum r.steps } := by
  unfold endDecode
  dsimp only
  rw [hu.vpar, hu.rangePoison]
  exact if_pos hbad

theorem endDecode_stream (hgood : rangePoison s (vpar s j.ctx 24 8) j.length = false)
    (hstream : r.parses = false ∨ (vctx s j.ctx).fresh = true ∧ r.newSeq = false) :
    endDecode u j r = endJob (raiseIrq (statusEvent (incSat u R.VID_STREAM_ERR_CNT (j.engines.headD 0)) 21 (j.engines.headD 0) .vidStreamError
      j.tenant [j.ctx]) 21 (j.engines.headD 0) Irq.VID_STREAM_ERROR) j j.inSegs .vidStreamError { steps := stepSum r.steps } := by
  unfold endDecode
  dsimp only
  rw [hu.vpar, hu.rangePoison, hu.vctx]
  refine (if_neg (by simp [hgood])).trans (if_pos ?_)
  rcases hstream with h | ⟨h1, h2⟩
  · simp [h]
  · simp [h1, h2]

end

theorem streamError_shows (u : State) (v tenant c : Nat) :
    let t := raiseIrq (statusEvent (incSat u R.VID_STREAM_ERR_CNT v) 21 v .vidStreamError tenant [c]) 21 v Irq.VID_STREAM_ERROR
    t.mem = u.mem ∧ rd t R.VID_STREAM_ERR_CNT v = min (rd u R.VID_STREAM_ERR_CNT v + 1) (2 ^ 32 - 1) ∧
    rd t (hIrqRaw 21 Irq.VID_STREAM_ERROR) v = 1 := by
  have hcnt : rd (statusEvent (incSat u R.VID_STREAM_ERR_CNT v) 21 v .vidStreamError tenant [c]) R.VID_STREAM_ERR_CNT v =
      rd (incSat u R.VID_STREAM_ERR_CNT v) R.VID_STREAM_ERR_CNT v := by rw [statusEvent, rd_recordEvent _ _ _ _ _ _ _ rfl]
  refine ⟨?_, ?_, rd_raiseIrq_same ..⟩
  · rw [raiseIrq_mem, statusEvent, recordEvent_mem]
    rfl
  · rw [rd_raiseIrq (by decide), hcnt, rd_incSat]
    rfl

/-- A picture that is whole, is output by none and drops none, in the buffer chosen for it. -/
def pictureIn (x : State) (v c b : Nat) (data : List Byte) : State :=
  let s := memWrite x (bufAddr x c b) (data.take (vpar x c 16 4))
  wr (incSat s R.VID_PICTURES v) R.VID_CTX_REF (mark (rd s R.VID_CTX_REF 0 c) b true) 0 c

theorem decodePic_whole {x : State} {v c tenant b : Nat} {later : List Nat} {p : DecPic} (hbuf : chooseBuf x c = some (b, false))
    (hlost : p.lost = []) (houts : p.outs = []) (hdrop : p.drop = []) (href : p.ref = true) (a : DecAcc) :
    ∃ a', decodePic v c tenant later (x, a) p = (pictureIn x v c b p.data, a') := by
  unfold decodePic
  dsimp only
  rw [hbuf, hlost, houts, hdrop, href]
  simp only [List.isEmpty_nil, Bool.false_eq_true, ↓reduceIte, List.map_nil, List.foldl_nil]
  exact ⟨_, rfl⟩

theorem testBit_mark (m b : Nat) (hb : b < 64) : marked (mark m b true % 2 ^ 64) b = true := by
  have hmark : (mark m b true).testBit b = true := by
    rw [Nat.testBit_eq_decide_div_mod_eq]
    unfold mark
    split
    · next h => exact h
    · next h =>
      have hbit : m / 2 ^ b % 2 = 0 := by
        have := mt decide_eq_true h
        omega
      rw [if_pos rfl, Nat.add_div_right _ (Nat.two_pow_pos b), decide_eq_true_eq]
      omega
  rw [marked, ← Nat.testBit_eq_decide_div_mod_eq, Nat.testBit_mod_two_pow, hmark, decide_eq_true hb]
  rfl

theorem pictureIn_shows (x : State) (v c b : Nat) (data : List Byte) (hb : b < 64) :
    (pictureIn x v c b data).mem = (memWrite x (bufAddr x c b) (data.take (vpar x c 16 4))).mem ∧
    marked (rd (pictureIn x v c b data) R.VID_CTX_REF 0 c) b = true ∧
    Touches (maskOf [.page 21, .bytes, .memory]) x (pictureIn x v c b data) :=
  ⟨rfl, (congrArg (marked · b) (rd_wr _ _ _ _ _)).trans (testBit_mark _ b hb),
    wr_touches rfl (wr_touches rfl (memWrite_touches rfl rfl (Touches.refl _ x)))⟩

section
variable {s u : State} {j : VJob} {r : VidRes} {p : DecPic} {b : Nat} (hu : StepsCounted s u)

theorem chooseBuf_congr {s t : State} {c : Nat} (href : rd t R.VID_CTX_REF 0 c = rd s R.VID_CTX_REF 0 c)
    (hout : rd t R.VID_CTX_OUT 0 c = rd s R.VID_CTX_OUT 0 c) (hblock : (vctx t c).block = (vctx s c).block)
    (hhold : (vctx t c).hold = (vctx s c).hold) (horder : (vctx t c).outOrder = (vctx s c).outOrder) : chooseBuf t c = chooseBuf s c := by
  unfold chooseBuf vpar
  dsimp only
  rw [href, hout, hblock, hhold, horder]

include hu in
theorem endDecode_decodes (hgood : rangePoison s (vpar s j.ctx 24 8) j.length = false) (hparses : r.parses = true) (hnew : r.newSeq = true)
    (hsup : r.unsupported = false) (hneed : (if vpar s j.ctx 0 1 % 4 = 2 then 8 else r.dpb) + 1 ≤ vpar s j.ctx 3 1) (hpics : r.pics = [p])
    (hwidth : p.width ≤ vpar s j.ctx 4 2) (hheight : p.height ≤ vpar s j.ctx 6 2) {w : State} {a : DecAcc}
    (hpic : decodePic (j.engines.headD 0) j.ctx j.tenant (r.pics.flatMap (fun p => p.outs.map Prod.fst))
      (setVctx u j.ctx { vctx u j.ctx with fresh := false }, {}) p = (w, a)) :
    ∃ d : VidRecord, endDecode u j r = endJob w j j.inSegs .ok d ∧ d.width = p.width ∧ d.height = p.height ∧ d.bytes = r.used := by
  unfold endDecode
  dsimp only at hpic ⊢
  rw [hu.vpar, hu.rangePoison, if_neg (by simp [hgood]), if_neg (by simp [hparses, hnew])]
  rw [hpics] at hpic
  simp only [hu.vpar, hpics]
  rw [if_neg (by simp [hsup, hwidth, hheight]; omega), List.foldl_cons, List.foldl_nil, hpic]
  exact ⟨_, rfl, rfl, rfl, rfl⟩

include hu in
theorem endDecode_good (hgood : rangePoison s (vpar s j.ctx 24 8) j.length = false) (hparses : r.parses = true) (hnew : r.newSeq = true)
    (hsup : r.unsupported = false) (hneed : (if vpar s j.ctx 0 1 % 4 = 2 then 8 else r.dpb) + 1 ≤ vpar s j.ctx 3 1) (hpics : r.pics = [p])
    (hwidth : p.width ≤ vpar s j.ctx 4 2) (hheight : p.height ≤ vpar s j.ctx 6 2) (hlost : p.lost = []) (houts : p.outs = [])
    (hdrop : p.drop = []) (href : p.ref = true) (hbuf : chooseBuf s j.ctx = some (b, false)) (hb : b < 64) :
    ∃ w d, endDecode u j r = endJob w j j.inSegs .ok d ∧ w.mem = (memWrite s (bufAddr s j.ctx b) (p.data.take (vpar s j.ctx 16 4))).mem ∧
      marked (rd w R.VID_CTX_REF 0 j.ctx) b = true ∧ d.width = p.width ∧ d.height = p.height ∧ d.bytes = r.used ∧
      SameBut [.page 21, .bytes, .memory, .video] s w := by
  let x := setVctx u j.ctx { vctx u j.ctx with fresh := false }
  have hctx : vctx x j.ctx = { vctx s j.ctx with fresh := false } := by
    rw [← hu.vctx]
    exact tget_tset_same ({} : VCtx) _ _ _
  have hxbuf : chooseBuf x j.ctx = some (b, false) :=
    (chooseBuf_congr (s := s) (t := x) (hu.read _ (by decide) _ _) (hu.read _ (by decide) _ _) (by rw [hctx]) (by rw [hctx]) (by rw [hctx])).trans hbuf
  have hxpar : ∀ a n, vpar x j.ctx a n = vpar s j.ctx a n := fun a n => by
    unfold vpar
    rw [hctx]
  have hxmem : x.mem = s.mem := hu.mem
  obtain ⟨a', hpic⟩ := decodePic_whole (v := j.engines.headD 0) (tenant := j.tenant) (later := r.pics.flatMap (fun p => p.outs.map Prod.fst))
    hxbuf hlost houts hdrop href {}
  obtain ⟨hmem, hmark, htouch⟩ := pictureIn_shows x (j.engines.headD 0) j.ctx b p.data hb
  have hend := endDecode_decodes hu hgood hparses hnew hsup hneed hpics hwidth hheight hpic
  obtain ⟨d, hend, h1, h2, h3⟩ := hend
  refine ⟨_, d, hend, ?_, hmark, h1, h2, h3, ?_⟩
  · rw [hmem]
    unfold bufAddr
    rw [hxpar, hxpar]
    exact memWrite_mem_congr hxmem _ _
  · exact sameBut_of_touches ((Touches.video rfl (hu.touches.mono rfl)).trans (htouch.mono rfl))

end

/-! ### The end of a flush (R422, R425) -/

theorem marked_iff (m b : Nat) : marked m b = m.testBit b := (Nat.testBit_eq_decide_div_mod_eq ..).symm

theorem marked_mod (m : Nat) {b : Nat} (hb : b < 64) : marked (m % 2 ^ 64) b = marked m b := by
  rw [marked_iff, marked_iff, Nat.testBit_mod_two_pow, decide_eq_true hb, Bool.true_and]

/-- A mark that is taken away leaves every other mark that was not there away. -/
theorem marked_unmark (m b k : Nat) (hk : k = b ∨ marked m k = false) : marked (mark m b false) k = false := by
  unfold mark
  split
  · next h =>
    rcases hk with rfl | hk
    · exact h
    · exact hk
  · next h =>
    have hset : m / 2 ^ b % 2 = 1 := by
      rw [Bool.not_eq_false] at h
      exact of_decide_eq_true h
    have hle : 2 ^ b ≤ m := by
      by_contra hlt
      rw [Nat.div_eq_of_lt (by omega)] at hset
      omega
    have hdiv : (m - 2 ^ b) / 2 ^ b = m / 2 ^ b - 1 := by
      have h := Nat.sub_mul_div m (2 ^ b) 1
      rwa [Nat.mul_one] at h
    rw [if_neg (by decide)]
    rcases Nat.lt_trichotomy k b with hlt | rfl | hgt
    · have hadd := Nat.testBit_two_pow_add_gt hlt (m - 2 ^ b)
      rw [Nat.add_sub_cancel' hle, ← marked_iff, ← marked_iff] at hadd
      rw [← hadd]
      exact hk.resolve_left (by omega)
    · refine decide_eq_false ?_
      rw [hdiv]
      omega
    · have hsplit : ∀ n : Nat, n / 2 ^ k = n / 2 ^ b / 2 / 2 ^ (k - b - 1) := fun n => by
        rw [Nat.div_div_eq_div_mul, Nat.div_div_eq_div_mul, ← Nat.pow_succ', ← Nat.pow_add, show b + (k - b - 1 + 1) = k by omega]
      have hhalf : (m / 2 ^ b - 1) / 2 = m / 2 ^ b / 2 := by
        clear hsplit hdiv
        generalize m / 2 ^ b = n at hset
        omega
      have hm := hk.resolve_left (by omega)
      rw [marked, hsplit, hdiv, hhalf, ← hsplit]
      exact hm

theorem unrefBuf_unmarks (c : Nat) (later : List Nat) (s : State) (b : Nat) {k : Nat} (hlt : k < 64)
    (hk : k = b ∨ marked (rd s R.VID_CTX_REF 0 c) k = false) : marked (rd (unrefBuf c later s b) R.VID_CTX_REF 0 c) k = false := by
  unfold unrefBuf
  split
  · have hread : marked (rd (wr s R.VID_CTX_REF (mark (rd s R.VID_CTX_REF 0 c) b false) 0 c) R.VID_CTX_REF 0 c) k = false := by
      rw [rd_wr]
      exact (marked_mod _ hlt).trans (marked_unmark _ _ _ hk)
    extract_lets u
    split
    · exact hread
    · exact hread
  · next h =>
    rcases hk with rfl | hk
    · exact Bool.not_eq_true _ ▸ h
    · exact hk

theorem endDecodeFlush_forgets {s u : State} {j : VJob} {r : VidRes} (hu : StepsCounted s u) :
    ∃ w d, endDecodeFlush u j r = endJob w j 0 .ok d ∧ (∀ b < 64, marked (rd w R.VID_CTX_REF 0 j.ctx) b = false) ∧
      (vctx w j.ctx).fresh = true ∧ d.outs = r.outs.take 4 ∧ SameBut [.page 21, .video] s w := by
  let x := ((r.outs.take 4).map Prod.fst).foldl (outputBuf j.ctx) u
  let y := (List.range 64).foldl (unrefBuf j.ctx ((r.outs.drop 4).map Prod.fst)) x
  have hx : Touches 0x20000000008000 s x := Touches.trans (hu.touches.mono rfl) (Touches.foldl (Touches.refl _ u) fun v b =>
    outputBuf_touches rfl (Touches.refl _ v))
  have hy : Touches 0x20000000008000 s y := hx.trans (Touches.foldl (Touches.refl _ x) fun v b => unrefBuf_touches rfl (Touches.refl _ v))
  have hnone : ∀ b < 64, marked (rd y R.VID_CTX_REF 0 j.ctx) b = false := fun b hb =>
    foldl_reaches (P := fun v : State => marked (rd v R.VID_CTX_REF 0 j.ctx) b = false) (List.mem_range.mpr hb)
      (fun v => unrefBuf_unmarks _ _ v b hb (.inl rfl)) (fun v k _ hv => unrefBuf_unmarks _ _ v k hb (.inr hv)) x
  refine ⟨setVctx y j.ctx { vctx y j.ctx with fresh := true }, _, rfl, hnone, ?_, rfl, sameBut_of_touches (Touches.video rfl hy)⟩
  exact congrArg VCtx.fresh (tget_tset_same ({} : VCtx) j.ctx _ y.vid.ctxs)

/-! ### The end of an encode (R431 to R433) -/

/-- Bytes of the picture that a context's encode reads. -/
def pictureBytes (s : State) (c : Nat) : Nat :=
  planeBytes (vpar s c 4 2) (vpar s c 6 2) (bitsOf (vpar s c 0 1) 5 1 = 1) (bitsOf (vpar s c 0 1) 4 1 = 1)

namespace StepsCounted

variable {s u : State} (h : StepsCounted s u)
include h

theorem pictureBytes (c : Nat) : Proofs.pictureBytes u c = Proofs.pictureBytes s c := by
  unfold Proofs.pictureBytes
  rw [h.vpar, h.vpar, h.vpar]

theorem accessFail (t a n : Nat) : Machine.accessFail u t a n = Machine.accessFail s t a n :=
  accessFail_congr (fun f hf i k => h.touches.reads (by rcases hf with hf | hf | hf <;> rw [hf] <;> rfl)) t a n

theorem mustKey (j : VJob) : Machine.mustKey u j = Machine.mustKey s j := by
  unfold Machine.mustKey
  rw [h.vctx, h.vpar]

end StepsCounted

section
variable {s u : State} {j : VJob} {r : VidRes} (hu : StepsCounted s u) (hop : j.op = 1)
include hu hop

theorem endEncode_denied {st : Status} (hfail : accessFail s j.tenant j.src (pictureBytes s j.ctx) = some st) :
    endEncode u j r = endJob u j 0 st { steps := stepSum r.steps } := by
  have hbytes := hu.pictureBytes j.ctx
  unfold pictureBytes at hbytes hfail
  unfold endEncode
  dsimp only
  rw [if_pos hop, hbytes, hu.accessFail, hfail]

theorem endEncode_poisoned (hok : accessFail s j.tenant j.src (pictureBytes s j.ctx) = none)
    (hbad : rangePoison s j.src (pictureBytes s j.ctx) = true) :
    endEncode u j r = endJob u j 0 .memPoison { steps := stepSum r.steps } := by
  have hbytes := hu.pictureBytes j.ctx
  unfold pictureBytes at hbytes hok hbad
  unfold endEncode
  dsimp only
  rw [if_pos hop, hbytes, hu.accessFail, hok, hu.rangePoison]
  exact if_pos (by
    rw [Bool.and_eq_true]
    exact ⟨decide_eq_true hop, hbad⟩)

end

theorem encodePic_shows (u : State) (j : VJob) (p : EncPic) : let o := encodePic j true (u, {}) p
    o.1.mem = u.mem ∧ o.1.out = u.out ∧ (∀ t, tenSeals o.1 t = tenSeals u t) ∧
    o.2.bytes = p.bytes.take (outBound (vpar u j.ctx 4 2) (vpar u j.ctx 6 2) (bitsOf (vpar u j.ctx 0 1) 5 1 = 1)) ∧
    (mustKey u j = true → o.2.key = true) := by
  refine ⟨rfl, rfl, fun t => ?_, List.nil_append _, fun h => ?_⟩
  · unfold tenSeals
    exact congrArg (fun n => decide (n = 1)) (rd_wr_ne (by decide) _ _ _ _ _ _)
  · unfold encodePic
    dsimp only
    rw [h]
    rfl

theorem keyFlag (x : Bool) : (8 * b2n true + 16 * b2n x) / 8 % 2 = 1 := by cases x <;> decide

theorem endEncode_codes {s u : State} {j : VJob} {r : VidRes} (hu : StepsCounted s u) (hop : j.op = 1)
    (hok : accessFail s j.tenant j.src (pictureBytes s j.ctx) = none) (hgood : rangePoison s j.src (pictureBytes s j.ctx) = false)
    {p : EncPic} (hcoded : r.coded = [p]) (hplain : tenSeals s j.tenant = false) :
    let bs := (p.bytes.take (outBound (vpar s j.ctx 4 2) (vpar s j.ctx 6 2) (bitsOf (vpar s j.ctx 0 1) 5 1 = 1))).take j.cap
    bs ≠ [] → ∃ w d, endEncode u j r = endJob w j 0 .ok d ∧ d.bytes = bs.length ∧ w.out = .hostWrite j.out bs :: s.out ∧
      (mustKey s j = true → d.flags / 8 % 2 = 1) ∧ w.mem = s.mem := by
  intro bs hbs
  have hbytes := hu.pictureBytes j.ctx
  unfold pictureBytes at hbytes hok hgood
  obtain ⟨hmem, hout, hseal, hcode, hkey⟩ := encodePic_shows u j p
  have hfold : List.foldl (fun a p => encodePic j (decide (p.2 = 0)) a p.1) (u, {}) [p].zipIdx = encodePic j true (u, {}) p := rfl
  have hcut : (encodePic j true (u, {}) p).2.bytes.take j.cap = bs := by rw [hcode, hu.vpar, hu.vpar, hu.vpar]
  unfold endEncode
  dsimp only
  rw [if_pos hop, hbytes, hu.accessFail, hok, hu.rangePoison]
  dsimp only
  rw [hgood, Bool.and_false, if_neg (by decide), hcoded, hfold, hcut]
  clear hfold hcut
  generalize encodePic j true (u, {}) p = o at *
  have hopen : tenSeals o.1 j.tenant = false := by
    rw [hseal, tenSeals, hu.read _ (by decide)]
    exact hplain
  have hwrite : writeStream o.1 j 0 bs = hostWrite o.1 j.out bs := by
    unfold writeStream
    rw [if_neg (by simp [hopen]), if_neg (by simp [hbs])]
    exact if_neg (by simp [hopen])
  have hafter : tenSeals (useFree (hostWrite o.1 j.out bs)) j.tenant = false := hopen
  rw [hwrite, hafter, if_neg (by decide)]
  refine ⟨_, _, rfl, rfl, ?_, fun h => ?_, hmem.trans hu.mem⟩
  · exact congrArg (OutEv.hostWrite j.out bs :: ·) (hout.trans hu.out)
  · rw [hkey ((hu.mustKey j).trans h)]
    exact keyFlag _

/-- What a running job's end leaves of the module, by the kind of the job. -/
theorem videoJobEnd_answers (c : Nat) (j : VJob) (r : VidRes) (s : State) (hjob : s.vid.jobs.find? (fun j => j.ctx = c && j.st = 1) = some j)
    (henv : r.env = {}) (hwait : waitsReRead s (.codec c) = false) :
    let v := j.engines.headD 0
    (j.encode = false → j.op = 1 →
      (rangePoison s (vpar s c 24 8) j.length = true → ∃ u d, exec (.videoJobEnd c r) s = .next (endJob u j j.inSegs .memPoison d) ∧
        u.mem = s.mem ∧ SameBut [.page 21] s u) ∧
      (rangePoison s (vpar s c 24 8) j.length = false → (r.parses = false ∨ (vctx s c).fresh = true ∧ r.newSeq = false) →
        ∃ u d, exec (.videoJobEnd c r) s = .next (endJob u j j.inSegs .vidStreamError d) ∧ u.mem = s.mem ∧
          rd u R.VID_STREAM_ERR_CNT v = min (rd s R.VID_STREAM_ERR_CNT v + 1) (2 ^ 32 - 1) ∧
          rd u (hIrqRaw 21 Irq.VID_STREAM_ERROR) v = 1) ∧
      (∀ p b, rangePoison s (vpar s c 24 8) j.length = false → r.parses = true → r.newSeq = true → r.unsupported = false →
        (if vpar s c 0 1 % 4 = 2 then 8 else r.dpb) + 1 ≤ vpar s c 3 1 → r.pics = [p] → p.width ≤ vpar s c 4 2 →
        p.height ≤ vpar s c 6 2 → p.lost = [] → p.outs = [] → p.drop = [] → p.ref = true → chooseBuf s c = some (b, false) → b < 64 →
        ∃ u d, exec (.videoJobEnd c r) s = .next (endJob u j j.inSegs .ok d) ∧
          u.mem = (memWrite s (bufAddr s c b) (p.data.take (vpar s c 16 4))).mem ∧ marked (rd u R.VID_CTX_REF 0 c) b = true ∧
          d.width = p.width ∧ d.height = p.height ∧ d.bytes = r.used ∧ SameBut [.page 21, .bytes, .memory, .video] s u)) ∧
    (j.encode = false → j.op = 2 → ∃ u d, exec (.videoJobEnd c r) s = .next (endJob u j 0 .ok d) ∧
      (∀ b < 64, marked (rd u R.VID_CTX_REF 0 c) b = false) ∧ (vctx u c).fresh = true ∧ d.outs = r.outs.take 4 ∧
      SameBut [.page 21, .video] s u) ∧
    (j.encode = true → j.op = 1 → j.ctx = c →
      let n := planeBytes (vpar s c 4 2) (vpar s c 6 2) (bitsOf (vpar s c 0 1) 5 1 = 1) (bitsOf (vpar s c 0 1) 4 1 = 1)
      (∀ st, accessFail s j.tenant j.src n = some st → ∃ u d, exec (.videoJobEnd c r) s = .next (endJob u j 0 st d) ∧
        SameBut [.page 21] s u) ∧
      (accessFail s j.tenant j.src n = none → rangePoison s j.src n = true →
        ∃ u d, exec (.videoJobEnd c r) s = .next (endJob u j 0 .memPoison d) ∧ SameBut [.page 21] s u) ∧
      (∀ p, accessFail s j.tenant j.src n = none → rangePoison s j.src n = false → r.coded = [p] → tenSeals s j.tenant = false →
        let bs := (p.bytes.take (outBound (vpar s c 4 2) (vpar s c 6 2) (bitsOf (vpar s c 0 1) 5 1 = 1))).take j.cap
        bs ≠ [] → ∃ u d, exec (.videoJobEnd c r) s = .next (endJob u j 0 .ok d) ∧ d.bytes = bs.length ∧
          u.out = .hostWrite j.out bs :: s.out ∧ (mustKey s j = true → d.flags / 8 % 2 = 1) ∧ u.mem = s.mem)) := by
  obtain ⟨u, hu, hexec⟩ := exec_videoJobEnd hjob henv hwait
  have hctx : j.ctx = c := of_decide_eq_true (Bool.and_eq_true_iff.mp
    (List.find?_some (p := fun j : VJob => decide (j.ctx = c) && decide (j.st = 1)) hjob)).1
  subst hctx
  intro v
  refine ⟨fun hdec hop => ?_, fun hdec hop => ?_, fun henc hop _ => ?_⟩
  · rw [if_neg (by simp [hdec]), if_neg (by omega)] at hexec
    refine ⟨fun hbad => ?_, fun hgood hstream => ?_, fun p b hgood hparses hnew hsup hneed hpics hw hh hl ho hd href hbuf hb => ?_⟩
    · rw [endDecode_poisoned hu hbad] at hexec
      exact ⟨u, _, hexec, hu.mem, hu.sameBut⟩
    · rw [endDecode_stream hu hgood hstream] at hexec
      obtain ⟨hmem, hcnt, hirq⟩ := streamError_shows u (j.engines.headD 0) j.tenant j.ctx
      exact ⟨_, _, hexec, hmem.trans hu.mem, hcnt.trans (by rw [hu.read _ (by decide)]), hirq⟩
    · obtain ⟨w, d, hend, hrest⟩ := endDecode_good hu hgood hparses hnew hsup hneed hpics hw hh hl ho hd href hbuf hb
      exact ⟨w, d, hexec.trans (congrArg Host.Outcome.next hend), hrest⟩
  · rw [if_neg (by simp [hdec]), if_pos hop] at hexec
    obtain ⟨w, d, hend, hrest⟩ := endDecodeFlush_forgets (j := j) (r := r) hu
    exact ⟨w, d, hexec.trans (congrArg Host.Outcome.next hend), hrest⟩
  · rw [if_pos henc] at hexec
    refine ⟨fun st hfail => ?_, fun hok hbad => ?_, fun p hok hgood hcoded hplain hbs => ?_⟩
    · exact ⟨u, _, hexec.trans (congrArg Host.Outcome.next (endEncode_denied hu hop hfail)), hu.sameBut⟩
    · exact ⟨u, _, hexec.trans (congrArg Host.Outcome.next (endEncode_poisoned hu hop hok hbad)), hu.sameBut⟩
    · obtain ⟨w, d, hend, hrest⟩ := endEncode_codes hu hop hok hgood hcoded hplain hbs
      exact ⟨w, d, hexec.trans (congrArg Host.Outcome.next hend), hrest⟩

/-! ### The pre-processor (R436 to R438) -/

/-- Whether a job of the queue is live: the last context that the queue opened is open and live. -/
def preLive (s : State) (q : Nat) : Bool :=
  match tget 0 s.vid.opened q with
  | 0 => false
  | c + 1 => vctxState s c = 1 && vctxLive s c

theorem vidPre_answers (q : Nat) (r : RunCmd) (s : State) (hrun : running s q 0x12 = some r) :
    (∀ st, preCheck s r = some st → ∃ u, exec (.vidPre q) s = .next (finishCmd u q st 0) ∧
      rd u R.VPRE_ERR_CNT = min (rd s R.VPRE_ERR_CNT + 1) (2 ^ 32 - 1) ∧ u.vid = s.vid ∧ u.mem = s.mem) ∧
    (preCheck s r = none → Ends (.vidPre q) s (fun t => (∃ x, t.vid.pre = s.vid.pre ++ [x] ∧ x.serial = s.vid.serial ∧ x.queue = q ∧
      x.tenant = fieldAt r.sub.bytes 16 1 ∧ x.entry = r.sub.bytes) ∧ (queue t q).run = some { r with busy := true } ∧
      SameBut [.host, .video] s t)) := by
  refine ⟨fun st hcheck => ?_, fun hcheck => ?_⟩
  · refine ⟨irqEvent (incSat s R.VPRE_ERR_CNT) 22 0 Irq.VPRE_JOB_ERROR (fieldAt r.sub.bytes 16 1) [statusValue st],
      congrArg Host.Outcome.next ?_, ?_, ?_, ?_⟩
    · rw [hrun]
      dsimp only
      rw [hcheck]
    · rw [rd_irqEvent _ _ _ _ _ _ rfl (by decide), rd_incSat]
      rfl
    · exact irqEvent_vid ..
    · exact irqEvent_mem ..
  · have hexec : exec (.vidPre q) s = .next (setBusy { s with vid := { s.vid with
        serial := s.vid.serial + 1
        pre := s.vid.pre ++ [{ serial := s.vid.serial, queue := q, tenant := fieldAt r.sub.bytes 16 1, entry := r.sub.bytes, live := preLive s q }] } } q) := by
      refine congrArg Host.Outcome.next ?_
      rw [hrun]
      dsimp only
      rw [hcheck]
      rfl
    exact ⟨_, hexec, ⟨_, rfl, rfl, rfl, rfl, rfl⟩, run_setBusy (run_of_running hrun).1,
      sameBut_of_touches (setBusy_touches rfl (Touches.video rfl (Touches.refl _ s)))⟩

theorem vpreJobStart_idle (s : State) (h : s.vid.preRun.isSome = true ∨ dom s 392 ≠ 0 ∨ admissionsStopped s = true ∨ s.vid.pre = []) :
    exec .vpreJobStart s = .next s := by
  refine congrArg Host.Outcome.next ?_
  split
  · rfl
  · next hgo =>
    rcases h with h | h | h | h
    · simp [h] at hgo
    · simp [h] at hgo
    · simp [h] at hgo
    · rw [h]
      rfl

theorem vpreJobStart_starts (j : PreJob) (l : List PreJob) (s : State) (hidle : s.vid.preRun = none) (hdom : dom s 392 = 0)
    (hpreset : s.boot.preset ≠ some 392) (hopen : admissionsStopped s = false) (hpre : s.vid.pre = j :: l)
    (hfirst : j.live = true ∨ ∀ x ∈ l, x.live = false) : Ends .vpreJobStart s (fun t => t.vid = { s.vid with preRun := some j.serial } ∧
      rd t R.VPRE_STAT_BUSY = 1 ∧ rd t R.VPRE_STAT_TENANT = j.tenant % 2 ^ 8 ∧ SameBut (pages [22] ++ [.video]) s t) := by
  have hhead : (s.vid.pre.filter (fun j => j.live) ++ s.vid.pre.filter (fun j => !j.live)).head? = some j := by
    rw [hpre]
    by_cases hlive : j.live = true
    · rw [List.filter_cons, if_pos hlive]
      rfl
    · have hnone : (j :: l).filter (fun j => j.live) = [] := by
        rw [List.filter_cons, if_neg hlive]
        exact List.filter_eq_nil_iff.mpr fun x hx => by simp [hfirst.resolve_left hlive x hx]
      rw [hnone, List.nil_append, List.filter_cons, if_pos (by simp [hlive])]
      rfl
  refine ⟨wr (wr { s with vid := { s.vid with preRun := some j.serial } } R.VPRE_STAT_BUSY 1) R.VPRE_STAT_TENANT j.tenant,
    congrArg Host.Outcome.next ?_, rfl, ?_, rd_wr _ _ _ _ _, ?_⟩
  · refine (if_neg (by simp [hidle, hdom, hpreset, hopen])).trans ?_
    rw [hhead]
  · exact (rd_wr_ne (by decide) _ _ _ _ _ _).trans (rd_wr_fit _ _ _ _ (by decide))
  · exact sameBut_of_touches (wr_touches rfl (wr_touches rfl (Touches.video rfl (Touches.refl _ s))))

section
variable {s t : State} (h : memNat t = memNat s)
include h

theorem cropOf_congr (b : List Byte) (i : Nat) : cropOf t b i = cropOf s b i := by
  unfold cropOf
  rw [h]

theorem planeAt_congr (b : List Byte) (p x y : Nat) : planeAt t b p x y = planeAt s b p x y := by
  unfold planeAt chromaAt lumaAt
  rw [h]

theorem scaledPic_congr (b : List Byte) (c : Nat × Nat × Nat × Nat) (p x y : Nat) : scaledPic t b c p x y = scaledPic s b c p x y := by
  unfold scaledPic cropAt
  simp only [planeAt_congr h]

theorem prePixel_congr (b : List Byte) (c : Nat × Nat × Nat × Nat) (x y : Nat) : prePixel t b c x y = prePixel s b c x y := by
  unfold prePixel preCode
  simp only [scaledPic_congr h, h]

theorem cropTensor_congr (b : List Byte) (i : Nat) : cropTensor t b i = cropTensor s b i := by
  unfold cropTensor
  simp only [cropOf_congr h, prePixel_congr h]

end

theorem dropPre_leaves {s : State} {j : PreJob} (hrun : s.vid.preRun = some j.serial) :
    (dropPre s j).vid.preRun = none ∧ rd (dropPre s j) R.VPRE_STAT_BUSY = 0 ∧ (dropPre s j).mem = s.mem ∧
    rd (dropPre s j) R.VPRE_JOBS = rd s R.VPRE_JOBS ∧ Touches (maskOf [.page 22, .video]) s (dropPre s j) := by
  unfold dropPre
  extract_lets run _ u
  have hr : run = true := decide_eq_true hrun
  rw [if_pos hr]
  have hpre : u.vid.preRun = none := if_pos hr
  refine ⟨hpre, ?_, rfl, ?_, wr_touches rfl (wr_touches rfl (Touches.video rfl (Touches.refl _ s)))⟩
  · exact (rd_wr_ne (by decide) _ _ _ _ _ _).trans (rd_wr_fit _ _ _ _ (by decide))
  · exact (rd_wr_ne (by decide) _ _ _ _ _ _).trans (rd_wr_ne (by decide) _ _ _ _ _ _)

/-- The state after a pre-processor's job has counted its steps and left. -/
def preLeft (s : State) (j : PreJob) (steps : Nat) : State := dropPre (incWrap s R.VPRE_STEPS steps) j

section
variable {s : State} {j : PreJob} (steps : Nat)

theorem preLeft_leaves (hrun : s.vid.preRun = some j.serial) :
    (preLeft s j steps).vid.preRun = none ∧ rd (preLeft s j steps) R.VPRE_STAT_BUSY = 0 ∧ (preLeft s j steps).mem = s.mem ∧
    rd (preLeft s j steps) R.VPRE_JOBS = rd s R.VPRE_JOBS ∧ Touches (maskOf [.page 22, .video]) s (preLeft s j steps) := by
  obtain ⟨hnone, hbusy, hmem, hjobs, htouch⟩ := dropPre_leaves (s := incWrap s R.VPRE_STEPS steps) hrun
  exact ⟨hnone, hbusy, hmem, hjobs.trans (rd_wr_ne (by decide) _ _ _ _ _ _), (wr_touches rfl (Touches.refl _ s)).trans htouch⟩

variable (hjob : s.vid.pre.find? (fun j => s.vid.preRun = some j.serial) = some j) (hwait : waitsReRead s .vpre = false)
  (hone : fieldAt j.entry 19 1 = 1)
include hjob hwait hone

theorem vpreJobEnd_poisoned (hbad : [(fieldAt j.entry 32 8, preSource j.entry), (fieldAt j.entry 40 8, 8), (fieldAt j.entry 56 8, 24)].any
    (fun x => rangePoison s x.1 x.2) = true) : exec (.vpreJobEnd steps {}) s = .next (finishCmd (preLeft s j steps) j.queue .memPoison 0) := by
  refine congrArg Host.Outcome.next ?_
  rw [hjob]
  refine (if_neg (by rw [show readFails s .vpre {} = s from rfl, hwait]; decide)).trans ?_
  dsimp only
  rw [hone]
  exact if_pos hbad

/-- The state after the one crop of a job is written. -/
def preWritten (s : State) (j : PreJob) (steps : Nat) : State :=
  memWrite (preLeft s j steps) (fieldAt j.entry 48 8 + 0 * preTensor j.entry) (cropTensor (preLeft s j steps) j.entry 0)

theorem vpreJobEnd_written (hgood : [(fieldAt j.entry 32 8, preSource j.entry), (fieldAt j.entry 40 8, 8), (fieldAt j.entry 56 8, 24)].any
    (fun x => rangePoison s x.1 x.2) = false) :
    exec (.vpreJobEnd steps {}) s = .next (finishCmd (incSat (preWritten s j steps) R.VPRE_JOBS) j.queue .ok 0) := by
  refine congrArg Host.Outcome.next ?_
  rw [hjob]
  refine (if_neg (by rw [show readFails s .vpre {} = s from rfl, hwait]; decide)).trans ?_
  dsimp only
  rw [hone]
  exact if_neg (by rw [Bool.not_eq_true]; exact hgood)

end

theorem vpreJobEnd_answers (steps : Nat) (j : PreJob) (s : State)
    (hjob : s.vid.pre.find? (fun j => s.vid.preRun = some j.serial) = some j) (hwait : waitsReRead s .vpre = false)
    (hone : fieldAt j.entry 19 1 = 1) :
    let bad := [(fieldAt j.entry 32 8, preSource j.entry), (fieldAt j.entry 40 8, 8), (fieldAt j.entry 56 8, 24)].any
      (fun x => rangePoison s x.1 x.2)
    (bad = true → ∃ u, exec (.vpreJobEnd steps {}) s = .next (finishCmd u j.queue .memPoison 0) ∧ u.vid.preRun = none ∧
      rd u R.VPRE_STAT_BUSY = 0 ∧ SameBut [.page 22, .video] s u) ∧
    (bad = false → ∃ u, exec (.vpreJobEnd steps {}) s = .next (finishCmd u j.queue .ok 0) ∧ u.vid.preRun = none ∧
      rd u R.VPRE_STAT_BUSY = 0 ∧ rd u R.VPRE_JOBS = min (rd s R.VPRE_JOBS + 1) (2 ^ 32 - 1) ∧
      u.mem = (memWrite s (fieldAt j.entry 48 8) (cropTensor s j.entry 0)).mem ∧ SameBut [.page 22, .bytes, .memory, .video] s u) := by
  have hrun : s.vid.preRun = some j.serial :=
    of_decide_eq_true (List.find?_some (p := fun j : PreJob => decide (s.vid.preRun = some j.serial)) hjob)
  obtain ⟨hnone, hbusy, hmem, hjobs, htouch⟩ := preLeft_leaves steps hrun
  refine ⟨fun hbad => ⟨_, vpreJobEnd_poisoned steps hjob hwait hone hbad, hnone, hbusy, sameBut_of_touches htouch⟩, fun hgood =>
    ⟨_, vpreJobEnd_written steps hjob hwait hone hgood, hnone, ?_, ?_, ?_, ?_⟩⟩
  · exact (rd_incSat_ne (by decide) ..).trans hbusy
  · rw [rd_incSat]
    exact congrArg (fun n => min (n + 1) (2 ^ 32 - 1)) hjobs
  · have hnat : memNat (preLeft s j steps) = memNat s := by
      unfold memNat memBytes
      rw [hmem]
    show (preWritten s j steps).mem = _
    rw [preWritten, Nat.zero_mul, Nat.add_zero, memWrite_mem_congr hmem, cropTensor_congr hnat]
  · exact sameBut_of_touches (incSat_touches rfl (memWrite_touches rfl rfl (htouch.mono rfl)))

theorem vpreJobEnd_idle (steps : Nat) (env : MemEnv) (s : State) (h : s.vid.preRun = none) : exec (.vpreJobEnd steps env) s = .next s := by
  have hnone : s.vid.pre.find? (fun j => s.vid.preRun = some j.serial) = none :=
    List.find?_eq_none.mpr fun j _ => by simp [h]
  refine congrArg Host.Outcome.next ?_
  rw [hnone]

/-- Settles O47: each command's clause is the lemma of its section. -/
theorem videoJobs : Obligations.VideoJobs :=
  ⟨videoJobStart_idle, videoJobStart_starts, preemption_answers, noJob_idle, videoJobEnd_answers, endJob_leaves, vidPre_answers,
    vpreJobStart_idle, vpreJobStart_starts, vpreJobEnd_answers, vpreJobEnd_idle⟩

end Sys2Proof.Proofs
end

section
/-!
Proofs for chapter 15, retirement (R374, R383): the drain fence destroys the weight keys whose HELD reads 1, so a register file in which
the one-bit field holds a wider value keeps a key of the tenant.
-/

namespace Sys2Proof.Proofs

open Sys2Proof Sys2Proof.Machine Sys2Proof.Safety Sys2Proof.Certificates Sys2Proof.Laws

/-- Tenant 1 retires at stage 3, and HELD of its weight key 0 holds a value of two bits. -/
def wideHeld : State :=
  let s := wr (wr (wr State.reset R.SEC_TEN_STATE_STATE 2 0 1) R.SEC_TEN_STATE_STAGE 3 0 1) R.SEC_WKEY_TENANT 1
  { s with regs := tset (fldReset R.SEC_WKEY_HELD 0 0) (fldKey R.SEC_WKEY_HELD 0 0) 2 s.regs }

theorem wideHeld_fenced : tenState wideHeld 1 = 2 ∧ rd wideHeld R.SEC_TEN_STATE_STAGE 0 1 = 3 ∧
    rd wideHeld R.SEC_STAT_UNLOCK_PENDING = 0 ∧ drained wideHeld 1 = true := by
  decide +kernel

/-- After the fence the key is still held, for the tenant. -/
theorem drainFence_wideHeld : (match exec (.drainFence 1) wideHeld with
    | .next t => (rd t R.SEC_WKEY_HELD, rd t R.SEC_WKEY_TENANT)
    | _ => (0, 0)) = (2, 1) := by
  decide +kernel

/-- Refutes O39: the registers are a table of any values, and where HELD of a weight key holds more than its one bit DRAIN_FENCE leaves
the retiring tenant's key. -/
theorem not_retirements : ¬ Obligations.Retirements := by
  rintro ⟨-, -, -, -, h, -⟩
  obtain ⟨hstate, hstage, hpending, hdrained⟩ := wideHeld_fenced
  obtain ⟨t, ht, -, -, -, -, hkeys, -⟩ := (h 1 wideHeld hstate hstage hpending).1 hdrained
  have hheld := drainFence_wideHeld
  rw [ht] at hheld
  obtain ⟨htwo, hone⟩ := Prod.mk.inj hheld
  rcases hkeys 0 (by decide) with hnone | hother
  · exact absurd (htwo.symm.trans hnone) (by decide)
  · exact hother hone

end Sys2Proof.Proofs
end

section
/-!
Chapter 15, debug unlock (O41, R387 to R390).
-/

namespace Sys2Proof.Proofs

open Sys2Proof Sys2Proof.Machine Sys2Proof.Safety Sys2Proof.Certificates Sys2Proof.Laws

/-! ### The nonce (R388) -/

theorem nonceWords_differ : ∀ a < 4, ∀ b < 4, a ≠ b → fldCode (R.SEC_UNLOCK_NONCE a) ≠ fldCode (R.SEC_UNLOCK_NONCE b) := by decide

/-- A pass over the four words of the nonce leaves in each the value written. -/
theorem rd_writeNonce (x : Nat → Nat) (s : State) {j : Nat} (hj : j < 4) :
    rd ((List.range 4).foldl (fun t j => wr t (R.SEC_UNLOCK_NONCE j) (x j)) s) (R.SEC_UNLOCK_NONCE j) = x j % 2 ^ 32 :=
  foldl_reaches (P := fun u : State => rd u (R.SEC_UNLOCK_NONCE j) = x j % 2 ^ 32) (List.mem_range.mpr hj) (fun u => rd_wr ..)
    (fun u b hb hu => by
      by_cases h : j = b
      · rw [← h]
        exact rd_wr ..
      · exact (rd_wr_ne (nonceWords_differ j hj b (List.mem_range.mp hb) h) ..).trans hu) s

theorem writeNonce_touches (x : Nat → Nat) (s : State) :
    Touches 0x2000000000000 s ((List.range 4).foldl (fun t j => wr t (R.SEC_UNLOCK_NONCE j) (x j)) s) :=
  Touches.foldl (Touches.refl _ s) fun u _ => wr_touches (show Nat.testBit _ (32 + 17 % 32) = true from rfl) (Touches.refl _ u)

theorem rd_clearNonce {f : Fld} (hf : ∀ j < 4, fldCode f ≠ fldCode (R.SEC_UNLOCK_NONCE j)) (s : State) (i k : Nat) :
    rd (clearNonce s) f i k = rd s f i k :=
  List.foldlRecOn (List.range 4) _ (motive := fun u : State => rd u f i k = rd s f i k) rfl fun _ hu j hj =>
    (rd_wr_ne (hf j (List.mem_range.mp hj)) ..).trans hu

theorem clearNonce_sec (s : State) : (clearNonce s).sec = { s.sec with nonce := none } :=
  (writeNonce_touches (fun _ => 0) { s with sec := { s.sec with nonce := none } }).same (c := .security) rfl

theorem newNonce_draws (w : Writer) (s : State) (hs : pageServed s 17 0 = true) : Ends (.newNonce w) s (fun t =>
    t.sec = { s.sec with nonce := some s.now } ∧ (∀ j < 4, rd t (R.SEC_UNLOCK_NONCE j) = freeVal s j % 2 ^ 32) ∧
    SameBut ([.security] ++ written 17) s t) := by
  let x := (List.range 4).foldl (fun t j => wr t (R.SEC_UNLOCK_NONCE j) (freeVal s j)) s
  have hx : Touches 0x2000000000000 s x := writeNonce_touches (freeVal s) s
  have hsec : x.sec = s.sec := hx.same (c := .security) rfl
  have hword : ∀ j < 4, rd x (R.SEC_UNLOCK_NONCE j) = freeVal s j % 2 ^ 32 := fun j hj => rd_writeNonce (freeVal s) s hj
  refine ends_of_served_write (m := maskOf ([.security] ++ written 17)) (x := useFree { x with sec := { x.sec with nonce := some s.now } })
    rfl hs (fun h => Bool.false_ne_true h.1) rfl rfl (useFree_touches rfl (Touches.security rfl (hx.mono rfl))) fun t hnote htouch =>
    ⟨(hnote.same (c := .security) rfl).trans ?_, fun j hj =>
      (hnote.reads (show Nat.testBit _ (32 + 17 % 32) = false from rfl)).trans (hword j hj), sameBut_of_touches htouch⟩
  show { x.sec with nonce := some s.now } = _
  rw [hsec]

theorem nonceExpiry_clears (x : Nat) (s : State) (hx : s.sec.nonce = some x) : Ends .nonceExpiry s (fun t =>
    t.sec = { s.sec with nonce := none } ∧ (∀ j < 4, rd t (R.SEC_UNLOCK_NONCE j) = 0) ∧ t.now = max s.now (x + 600 * 10 ^ 9) ∧
    SameBut (pages [17] ++ [.now, .security]) s t) := by
  have htouch : Touches 0x2000000010000 (reachTime s (x + 600 * 10 ^ 9)) (clearNonce (reachTime s (x + 600 * 10 ^ 9))) :=
    clearNonce_touches rfl (Touches.refl _ _)
  refine ⟨clearNonce (reachTime s (x + 600 * 10 ^ 9)), congrArg Host.Outcome.next ?_, clearNonce_sec _,
    fun j hj => (rd_writeNonce (fun _ => 0) _ hj).trans rfl, htouch.same (c := .now) rfl,
    sameBut_of_touches ((reachTime_touches rfl (Touches.refl _ s)).trans (htouch.mono rfl))⟩
  rw [hx]

theorem nonceExpiry_idle (s : State) (hx : s.sec.nonce = none) : exec .nonceExpiry s = .next s := by
  refine congrArg Host.Outcome.next ?_
  rw [hx]

/-! ### A token (R388) -/

theorem tokenOk_fails (s : State) (b : List Byte) (digest : List Nat) (sigOk : Bool)
    (h : s.sec.nonce = none ∨ sigOk = false ∨ digest ≠ s.sec.opkey ∨ fieldAt b 0 4 ≠ 0x4B4E4C55 ∨ fieldAt b 6 1 % 8 = 0 ∨
      (∃ j < 4, fieldAt b (8 + 4 * j) 4 ≠ rd s (R.SEC_DEVID j)) ∨ (∃ x, s.sec.nonce = some x ∧ x + 600 * 10 ^ 9 ≤ s.now) ∨
      (∃ j < 4, fieldAt b (24 + 4 * j) 4 ≠ rd s (R.SEC_UNLOCK_NONCE j)) ∨ (∀ d ∈ digest, d = 0)) :
    tokenOk s b digest sigOk = false := by
  rw [← Bool.not_eq_true]
  intro hok
  unfold tokenOk at hok
  simp only [Bool.and_eq_true, decide_eq_true_eq, List.all_eq_true, List.any_eq_true, List.mem_range] at hok
  obtain ⟨⟨⟨⟨⟨⟨⟨⟨hmagic, -⟩, hscope⟩, hdevice⟩, htime⟩, hnonce⟩, hkey⟩, hset⟩, hsig⟩ := hok
  rcases h with h | h | h | h | h | ⟨j, hj, h⟩ | ⟨x, hx, h⟩ | ⟨j, hj, h⟩ | h
  · rw [h] at htime
    exact Bool.false_ne_true htime
  · exact Bool.false_ne_true (h.symm.trans hsig)
  · exact h hkey
  · exact h hmagic
  · exact hscope h
  · exact h (hdevice j hj)
  · rw [hx] at htime
    have hlt : s.now < x + 600 * 10 ^ 9 := of_decide_eq_true htime
    omega
  · exact h (hnonce j hj)
  · obtain ⟨d, hd, hne⟩ := hset
    exact hne (h d hd)

theorem unlockSubmit_denied (token : Option (List Byte)) (digest : List Nat) (sigOk : Bool) (s : State)
    (hbad : tokenOk s (token.getD (unlockBuf s)) digest sigOk = false) :
    Ends (.unlockSubmit token digest sigOk) s (fun t => t.sec = { s.sec with nonce := none } ∧
      rd t R.SEC_UNLOCK_STAT_STATUS = statusValue .unlockDenied ∧
      rd t R.SEC_UNLOCK_FAIL_CNT = min (rd s R.SEC_UNLOCK_FAIL_CNT + 1) (2 ^ 32 - 1) ∧
      rd t R.SEC_STAT_UNLOCK_PENDING = rd s R.SEC_STAT_UNLOCK_PENDING ∧ SameBut ([.page 17, .security] ++ recorded) s t) := by
  let u := wr (clearNonce s) R.SEC_UNLOCK_STAT_STATUS (statusValue .unlockDenied)
  have hu : Touches 0x2000000010000 s u := wr_touches rfl (clearNonce_touches rfl (Touches.refl _ s))
  have hsec : u.sec = { s.sec with nonce := none } := clearNonce_sec s
  have hstatus : rd u R.SEC_UNLOCK_STAT_STATUS = statusValue .unlockDenied := rd_wr_fit _ _ _ _ (by decide)
  have hread : ∀ f : Fld, fldCode f ≠ fldCode R.SEC_UNLOCK_STAT_STATUS → (∀ j < 4, fldCode f ≠ fldCode (R.SEC_UNLOCK_NONCE j)) →
      rd u f = rd s f := fun f hf hn => (rd_wr_ne hf ..).trans (rd_clearNonce hn ..)
  refine ⟨raiseIrq (incSat (statusEvent u 17 0 .unlockDenied 0 []) R.SEC_UNLOCK_FAIL_CNT) 17 0 Irq.SEC_UNLOCK_DENIED,
    congrArg Host.Outcome.next (if_neg (by rw [hbad]; decide)), ?_, ?_, ?_, ?_, ?_⟩
  · rw [raiseIrq_sec]
    exact (recordEvent_sec ..).trans hsec
  · rw [rd_raiseIrq (by decide), rd_incSat_ne (by decide), statusEvent, rd_recordEvent _ _ _ _ _ _ _ rfl, hstatus]
  · rw [rd_raiseIrq (by decide), rd_incSat, statusEvent, rd_recordEvent _ _ _ _ _ _ _ rfl, hread _ (by decide) (by decide)]
    rfl
  · rw [rd_raiseIrq (by decide), rd_incSat_ne (by decide), statusEvent, rd_recordEvent _ _ _ _ _ _ _ rfl,
      hread _ (by decide) (by decide)]
  · exact sameBut_of_touches (raiseIrq_touches rfl rfl (incSat_touches rfl (statusEvent_touches rfl (hu.mono rfl))))

/-! ### What leaves the tenants' states alone -/

/-- The security state, the tenants' states and the mark of a pending unlock are the same. -/
structure KeepsTenants (s t : State) : Prop where
  sec : t.sec = s.sec
  state : ∀ n, tenState t n = tenState s n
  pending : rd t R.SEC_STAT_UNLOCK_PENDING = rd s R.SEC_STAT_UNLOCK_PENDING

namespace KeepsTenants

theorem refl (s : State) : KeepsTenants s s := ⟨rfl, fun _ => rfl, rfl⟩

theorem trans {s t u : State} (h : KeepsTenants s t) (k : KeepsTenants t u) : KeepsTenants s u :=
  ⟨k.sec.trans h.sec, fun n => (k.state n).trans (h.state n), k.pending.trans h.pending⟩

theorem of_touches {m : Nat} {s t : State} (h : Touches m s t) (hsec : m.testBit 16 = false) (hpage : m.testBit 49 = false) :
    KeepsTenants s t :=
  ⟨h.same (c := .security) hsec, fun _ => h.reads hpage, h.reads hpage⟩

theorem foldl {α : Type} {g : State → α → State} (hg : ∀ u x, KeepsTenants u (g u x)) (l : List α) (s : State) :
    KeepsTenants s (l.foldl g s) :=
  List.foldlRecOn l g (motive := KeepsTenants s) (refl s) fun _ hu x _ => hu.trans (hg _ x)

theorem wr {s : State} {f : Fld} (hstate : fldCode R.SEC_TEN_STATE_STATE ≠ fldCode f)
    (hpending : fldCode R.SEC_STAT_UNLOCK_PENDING ≠ fldCode f) (v i k : Nat) : KeepsTenants s (Machine.wr s f v i k) :=
  ⟨rfl, fun _ => rd_wr_ne hstate .., rd_wr_ne hpending ..⟩

end KeepsTenants

theorem finishCmd_keepsTenants (s : State) (q : Nat) (st : Status) (n : Nat) : KeepsTenants s (finishCmd s q st n) :=
  .of_touches (finishCmd_touches rfl (Touches.refl 0x800428000040D80 s)) rfl rfl

theorem endXfer_keepsTenants (s : State) (e : Nat) (x : Xfer) (st : Status) (n : Nat) : KeepsTenants s (endXfer s e x st n) := by
  unfold endXfer
  extract_lets s1 s2
  have h1 : KeepsTenants s s1 := by
    simp only [s1]
    split
    · exact .refl s
    · exact .wr (by decide) (by decide) ..
  have h2 : KeepsTenants s1 s2 := by
    simp only [s2]
    split
    · exact (KeepsTenants.wr (by decide) (by decide) ..).trans (.wr (by decide) (by decide) ..)
    · exact .refl s1
  refine (h1.trans h2).trans ?_
  split
  · exact finishCmd_keepsTenants ..
  · exact .of_touches (irqEvent_touches rfl rfl (wr_touches rfl (wr_touches rfl (Touches.refl 0x180010000060010 s2)))) rfl rfl

theorem dropQueued_keepsTenants (s : State) (t : Nat) (st : Status) : KeepsTenants s (dropQueued s t st) := by
  refine .foldl (fun u e => ?_) _ s
  dsimp only
  split
  · exact .refl u
  · split
    · exact .refl u
    · exact (KeepsTenants.of_touches (setEngine_touches rfl (Touches.refl 0x10000000400 u)) rfl rfl).trans
        (.foldl (fun v y => endXfer_keepsTenants v e y st 0) _ _)

/-- The fields that a freed context resets lie on the VID page. -/
theorem freeVctx_after (s : State) (c : Nat) : Touches 0x20000000008000 s (freeVctx s c) := by
  unfold freeVctx
  simp only [List.foldl_cons, List.foldl_nil]
  exact wr_touches rfl (wr_touches rfl (wr_touches rfl (wr_touches rfl (wr_touches rfl (wr_touches rfl (wr_touches rfl (wr_touches rfl
    (setVctx_touches rfl (Touches.refl _ s)))))))))

theorem finishClose_after (s : State) (c : Nat) : Touches 0x820428000048D80 s (finishClose s c) := by
  unfold finishClose
  have hfree : Touches 0x820428000048D80 s (freeVctx s c) := (freeVctx_after s c).mono rfl
  split
  · extract_lets t
    split
    · exact endVideo_touches rfl hfree
    · exact hfree
  · exact Touches.refl _ s

theorem endJob_after (s : State) (j : VJob) (n : Nat) (st : Status) (r : VidRecord) :
    Touches 0x820428000048D80 s (endJob s j n st r) := by
  unfold endJob
  extract_lets _ s1 s2
  have h1 : Touches 0x820428000048D80 s s1 := Touches.video rfl (Touches.refl _ s)
  have h2 : Touches 0x820428000048D80 s1 s2 := by
    simp only [s2]
    split
    · exact Touches.foldl (Touches.refl _ s1) fun u v => freeEngine_touches rfl (Touches.refl _ u)
    · split
      · exact Touches.foldl (Touches.refl _ s1) fun u v => wr_touches rfl (Touches.refl _ u)
      · exact Touches.refl _ s1
  exact (endVideo_touches rfl (h1.trans h2)).trans (finishClose_after ..)

theorem retireVideo_keepsTenants (s : State) (t : Nat) : KeepsTenants s (retireVideo s t) := by
  have hjobs : Touches 0x820428000048D80 s (endJobs s (fun j => j.tenant = t && j.st = 0) .tenantRetiring) :=
    Touches.foldl (Touches.refl _ s) fun u j => endJob_after u j j.inSegs .tenantRetiring {}
  exact .of_touches (m := 0x860428000048D80) (endPres_touches rfl (hjobs.mono rfl)) rfl rfl

/-! ### A retirement begins (R383) -/

theorem tenState_set (s : State) {v n : Nat} (t : Nat) (hv : v < 4) :
    tenState (wr s R.SEC_TEN_STATE_STATE v 0 t) n = if n = t then v else tenState s n := by
  split
  · next h => exact h ▸ rd_wr_fit _ _ _ _ hv
  · next h => exact rd_wr_sel h ..

theorem beginRetire_shows (s : State) (t : Nat) (q : Option Nat) (abandon : Bool) :
    (beginRetire s t q abandon).sec = { s.sec with retiring := s.sec.retiring ++ [{ tenant := t, queue := q, since := s.now }] } ∧
    (∀ n, tenState (beginRetire s t q abandon) n = if n = t then 2 else tenState s n) ∧
    rd (beginRetire s t q abandon) R.SEC_STAT_UNLOCK_PENDING = rd s R.SEC_STAT_UNLOCK_PENDING := by
  unfold beginRetire
  extract_lets s1 _ s2 s3 s4 _ s5 s6 s7
  have hstate1 : ∀ n, tenState s1 n = if n = t then 2 else tenState s n := fun n =>
    (rd_wr_ne (by decide) ..).trans (tenState_set s t (by decide))
  have hpending1 : rd s1 R.SEC_STAT_UNLOCK_PENDING = rd s R.SEC_STAT_UNLOCK_PENDING :=
    (rd_wr_ne (by decide) ..).trans (rd_wr_ne (by decide) ..)
  have hstate2 : ∀ n, tenState s2 n = if n = t then 2 else tenState s n := hstate1
  have hpending2 : rd s2 R.SEC_STAT_UNLOCK_PENDING = rd s R.SEC_STAT_UNLOCK_PENDING := hpending1
  have hsec2 : s2.sec = { s.sec with retiring := s.sec.retiring ++ [{ tenant := t, queue := q, since := s.now }] } := rfl
  clear_value s2
  have h3 : KeepsTenants s2 s3 := (dropQueued_keepsTenants s2 t .tenantRetiring).trans
    (.of_touches (endRequests_touches rfl (Touches.refl 0x9804E8000062F94 _)) rfl rfl)
  have h4 : KeepsTenants s3 s4 := retireVideo_keepsTenants s3 t
  have h6 : KeepsTenants s4 s6 := (KeepsTenants.of_touches (Touches.kv rfl (Touches.refl 0x200 s4)) rfl rfl).trans
    (.wr (by decide) (by decide) ..)
  have h7 : KeepsTenants s6 s7 := by
    simp only [s7]
    split
    · exact .of_touches (abandonAll_touches rfl (Touches.refl 0x180000001060010 _)) rfl rfl
    · exact .refl s6
  have hkeeps := (((h3.trans h4).trans h6).trans h7).trans (.wr (f := R.SEC_TEN_STATE_STAGE) (by decide) (by decide) 3 0 t)
  exact ⟨hkeeps.sec.trans hsec2, fun n => (hkeeps.state n).trans (hstate2 n), hkeeps.pending.trans hpending2⟩

/-! ### The unlock begins (R389) -/

/-- Each of the tenants listed retires; the unlock stays pending with its scope. -/
theorem retireAll_shows (l : List Nat) (s : State) :
    let t := l.foldl (fun s n => beginRetire s n none true) s
    t.sec.nonce = s.sec.nonce ∧ t.sec.scope = s.sec.scope ∧ rd t R.SEC_STAT_UNLOCK_PENDING = rd s R.SEC_STAT_UNLOCK_PENDING ∧
    (∀ n ∈ l, tenState t n = 2) := by
  intro t
  have hkeep : t.sec.nonce = s.sec.nonce ∧ t.sec.scope = s.sec.scope ∧
      rd t R.SEC_STAT_UNLOCK_PENDING = rd s R.SEC_STAT_UNLOCK_PENDING :=
    List.foldlRecOn l _ (motive := fun u : State => u.sec.nonce = s.sec.nonce ∧ u.sec.scope = s.sec.scope ∧
      rd u R.SEC_STAT_UNLOCK_PENDING = rd s R.SEC_STAT_UNLOCK_PENDING) ⟨rfl, rfl, rfl⟩ fun u hu n _ => by
        obtain ⟨hsec, -, hpending⟩ := beginRetire_shows u n none true
        obtain ⟨hnonce, hscope, hmark⟩ := hu
        rw [hsec, hpending]
        exact ⟨hnonce, hscope, hmark⟩
  obtain ⟨hnonce, hscope, hpending⟩ := hkeep
  refine ⟨hnonce, hscope, hpending, fun n hn => ?_⟩
  refine foldl_reaches (P := fun u : State => tenState u n = 2) hn (fun u => ?_) (fun u b _ hu => ?_) s
  · rw [(beginRetire_shows u n none true).2.1, if_pos rfl]
  · rw [(beginRetire_shows u b none true).2.1]
    split
    · rfl
    · exact hu

theorem beginUnlock_shows (s : State) (scope : Nat) :
    (beginUnlock s scope).sec.nonce = s.sec.nonce ∧ (beginUnlock s scope).sec.scope = scope ∧
    rd (beginUnlock s scope) R.SEC_STAT_UNLOCK_PENDING = 1 ∧
    (∀ n < 256, n ≠ 0 → tenState s n = 1 → tenState (beginUnlock s scope) n = 2) := by
  unfold beginUnlock
  extract_lets _ u
  have hpending : rd u R.SEC_STAT_UNLOCK_PENDING = 1 := rd_wr_fit _ _ _ _ (by decide)
  have hstate : ∀ n, tenState u n = tenState s n := fun n => rd_wr_ne (by decide) ..
  have hnonce : u.sec.nonce = s.sec.nonce := rfl
  have hscope : u.sec.scope = scope := rfl
  clear_value u
  obtain ⟨hn, hs, hp, hall⟩ := retireAll_shows ((List.range 256).filter (fun t => t ≠ 0 && tenState u t = 1)) u
  refine ⟨hn.trans hnonce, hs.trans hscope, hp.trans hpending, fun n hlt h0 hactive => hall n (List.mem_filter.mpr ⟨List.mem_range.mpr hlt, ?_⟩)⟩
  simp [h0, hstate, hactive]

theorem unlockSubmit_passes (token : Option (List Byte)) (digest : List Nat) (sigOk : Bool) (s : State) :
    let b := token.getD (unlockBuf s)
    tokenOk s b digest sigOk = true →
    Ends (.unlockSubmit token digest sigOk) s (fun t => t.sec.nonce = none ∧
      (rd s R.SEC_STAT_DEBUG_OPEN = 0 → rd s R.SEC_STAT_UNLOCK_PENDING = 0 → rd t R.SEC_STAT_UNLOCK_PENDING = 1 ∧
        t.sec.scope = fieldAt b 6 1 % 8 ∧ (∀ n < 256, n ≠ 0 → tenState s n = 1 → tenState t n = 2))) := by
  intro b hok
  let u := wr (clearNonce s) R.SEC_UNLOCK_STAT_STATUS (statusValue .ok)
  have hnonce : u.sec.nonce = none := by
    show (clearNonce s).sec.nonce = none
    rw [clearNonce_sec]
  have hread : ∀ f : Fld, fldCode f ≠ fldCode R.SEC_UNLOCK_STAT_STATUS → (∀ j < 4, fldCode f ≠ fldCode (R.SEC_UNLOCK_NONCE j)) →
      ∀ k, rd u f 0 k = rd s f 0 k := fun f hf hn k => (rd_wr_ne hf ..).trans (rd_clearNonce hn ..)
  have hexec : exec (.unlockSubmit token digest sigOk) s =
      .next (if debugOpen u || rd u R.SEC_STAT_UNLOCK_PENDING = 1 then u else beginUnlock u (fieldAt b 6 1 % 8)) :=
    congrArg Host.Outcome.next (if_pos hok)
  obtain ⟨hn, hscope, hpending, hall⟩ := beginUnlock_shows u (fieldAt b 6 1 % 8)
  refine ⟨_, hexec, ?_, fun hclosed hnone => ?_⟩
  · split
    · exact hnonce
    · exact hn.trans hnonce
  · have hopen : (debugOpen u || decide (rd u R.SEC_STAT_UNLOCK_PENDING = 1)) = false := by
      unfold debugOpen
      rw [hread _ (by decide) (by decide), hread _ (by decide) (by decide), hclosed, hnone]
      rfl
    rw [hopen, if_neg (by decide)]
    exact ⟨hpending, hscope, fun n hlt h0 hactive => hall n hlt h0 ((hread _ (by decide) (by decide) n).trans hactive)⟩

/-! ### The erasure (R389) -/

theorem destroyKeys_sec (s : State) : (destroyKeys s).sec = { s.sec with group := none, sessions := [], request := [], given := 0 } := by
  unfold destroyKeys
  extract_lets s1 s2 s3 _
  have h1 : Touches 0x2008000000400 s s1 := Touches.foldl (Touches.refl _ s) fun u t => dropTenantKeys_touches rfl (Touches.refl _ u)
  have h2 : Touches 0x981EA8000065F90 s1 s2 := Touches.foldl (Touches.refl _ s1) fun u p => portDown_touches rfl (Touches.refl _ u)
  have h3 : Touches 0x2000000000000 s2 s3 := Touches.foldl (wr_touches rfl (Touches.refl _ s2)) fun u j =>
    wr_touches (show Nat.testBit _ (32 + 17 % 32) = true from rfl) (Touches.refl _ u)
  have hsec : s3.sec = s.sec :=
    ((h3.same (c := .security) rfl).trans (h2.same (c := .security) rfl)).trans (h1.same (c := .security) rfl)
  clear_value s3
  have hend := (ideInsecure_touches rfl (Touches.refl 0x180008000060410
    { s3 with sec := { s3.sec with group := none, sessions := [], request := [], given := 0 } })).same (c := .security) rfl
  refine hend.trans ?_
  show { s3.sec with group := none, sessions := [], request := [], given := 0 } = _
  rw [hsec]

/-- One key slot at the erasure. -/
def eraseTenant (s : State) (t : Nat) : State := kvSync (if t ≠ 0 && tenState s t ≠ 0 then freeTenant s t else s) t

theorem tenState_freeTenant (s : State) (t n : Nat) : tenState (freeTenant s t) n = if n = t then 0 else tenState s n := by
  unfold freeTenant
  exact (rd_wr_ne (by decide) ..).trans ((rd_wr_ne (by decide) ..).trans ((rd_wr_ne (by decide) ..).trans (tenState_set s t (by decide))))

theorem tenState_kvSync (s : State) (t n : Nat) : tenState (kvSync s t) n = tenState s n :=
  (kvSync_touches rfl (Touches.refl 0x180080000060210 s)).reads rfl

theorem kvSync_sec (s : State) (t : Nat) : (kvSync s t).sec = s.sec :=
  (kvSync_touches rfl (Touches.refl 0x180080000060210 s)).same (c := .security) rfl

theorem eraseTenant_shows (s : State) (t : Nat) :
    (eraseTenant s t).sec = s.sec ∧ (eraseTenant s t).kv = s.kv ∧ (t ≠ 0 → tenState (eraseTenant s t) t = 0) ∧
    (∀ n, tenState s n = 0 → tenState (eraseTenant s t) n = 0) := by
  unfold eraseTenant
  rw [kvSync_sec, kvSync_kv]
  refine ⟨by split <;> rfl, by split <;> rfl, fun h0 => ?_, fun n hn => ?_⟩
  · rw [tenState_kvSync]
    split
    · rw [tenState_freeTenant, if_pos rfl]
    · next h => simpa [h0] using h
  · rw [tenState_kvSync]
    split
    · rw [tenState_freeTenant]
      split
      · rfl
      · exact hn
    · exact hn

theorem eraseTenants_show (l : List Nat) (s : State) : (l.foldl eraseTenant s).sec = s.sec ∧ (l.foldl eraseTenant s).kv = s.kv ∧
    (∀ n ∈ l, n ≠ 0 → tenState (l.foldl eraseTenant s) n = 0) := by
  refine ⟨?_, ?_, fun n hn h0 => ?_⟩
  · exact List.foldlRecOn l _ (motive := fun u : State => u.sec = s.sec) rfl fun u hu t _ => (eraseTenant_shows u t).1.trans hu
  · exact List.foldlRecOn l _ (motive := fun u : State => u.kv = s.kv) rfl fun u hu t _ => (eraseTenant_shows u t).2.1.trans hu
  · exact foldl_reaches (P := fun u : State => tenState u n = 0) hn (fun u => (eraseTenant_shows u n).2.2.1 h0)
      (fun u t _ hu => (eraseTenant_shows u t).2.2.2 n hu) s

theorem eraseStores_leaves (s : State) :
    (eraseStores s).kv.seqs = [] ∧ (eraseStores s).kv.frames = [] ∧ (∀ n < 256, n ≠ 0 → tenState (eraseStores s) n = 0) ∧
    (eraseStores s).sec = { s.sec with handedExtents := [], ran := [] } := by
  unfold eraseStores
  extract_lets _ s1 s2 _ _ s3
  have h1 : s1.sec = s.sec := rfl
  clear_value s1
  have h2 : Touches 0xFFFFFFFF00000000 s1 s2 := Touches.foldl (Touches.refl _ s1) fun u e =>
    wr_touches rfl (wr_touches rfl (Touches.refl _ u))
  have hsec : s3.sec = { s.sec with handedExtents := [], ran := [] } := by
    show { s2.sec with handedExtents := [], ran := [] } = _
    rw [h2.same (c := .security) rfl, h1]
  have hseqs : s3.kv.seqs = [] := rfl
  have hframes : s3.kv.frames = [] := rfl
  clear_value s3
  obtain ⟨hs, hk, hfree⟩ := eraseTenants_show (List.range 256) s3
  have hfold : (List.range 256).foldl (fun s t => kvSync (if t ≠ 0 && tenState s t ≠ 0 then freeTenant s t else s) t) s3 =
      (List.range 256).foldl eraseTenant s3 := rfl
  rw [hfold, hs, hk]
  exact ⟨hseqs, hframes, fun n hn => hfree n (List.mem_range.mpr hn), hsec⟩

/-- Debug opens with a scope, over a module whose retirements are over. -/
def openDebug (s : State) : State :=
  let s := { s with sec := { s.sec with retiring := [] } }
  let s := wr (wr (wr s R.SEC_STAT_UNLOCK_PENDING 0) R.SEC_STAT_DEBUG_OPEN 1) R.SEC_UNLOCK_STAT_SCOPE s.sec.scope
  setDom (irqEvent s 17 0 Irq.SEC_DEBUG_OPEN 0 []) 400 0

theorem openDebug_shows (s : State) :
    rd (openDebug s) R.SEC_STAT_UNLOCK_PENDING = 0 ∧ rd (openDebug s) R.SEC_STAT_DEBUG_OPEN = 1 ∧
    rd (openDebug s) R.SEC_UNLOCK_STAT_SCOPE = s.sec.scope % 8 ∧ dom (openDebug s) 400 = 0 ∧
    (openDebug s).sec = { s.sec with retiring := [] } ∧ (openDebug s).kv = s.kv ∧ (∀ n, tenState (openDebug s) n = tenState s n) := by
  unfold openDebug
  extract_lets _ u v
  have hpending : rd v R.SEC_STAT_UNLOCK_PENDING = 0 :=
    (rd_wr_ne (by decide) ..).trans ((rd_wr_ne (by decide) ..).trans (rd_wr_fit _ _ _ _ (by decide)))
  have hopen : rd v R.SEC_STAT_DEBUG_OPEN = 1 := (rd_wr_ne (by decide) ..).trans (rd_wr_fit _ _ _ _ (by decide))
  have hscope : rd v R.SEC_UNLOCK_STAT_SCOPE = s.sec.scope % 8 := rd_wr ..
  have hstate : ∀ n, tenState v n = tenState s n := fun n =>
    (rd_wr_ne (by decide) ..).trans ((rd_wr_ne (by decide) ..).trans (rd_wr_ne (by decide) ..))
  have hsec : v.sec = { s.sec with retiring := [] } := rfl
  have hkv : v.kv = s.kv := rfl
  clear_value v
  have hread : ∀ f : Fld, Nat.testBit 0x180000000060010 (32 + f.ty % 32) = false → fldCode f ≠ fldCode (hIrqRaw 17 Irq.SEC_DEBUG_OPEN) →
      ∀ k, rd (setDom (irqEvent v 17 0 Irq.SEC_DEBUG_OPEN 0 []) 400 0) f 0 k = rd v f 0 k := fun f hpage hf k =>
    rd_irqEvent _ _ _ _ _ _ hpage hf 0 k
  refine ⟨(hread _ rfl (by decide) _).trans hpending, (hread _ rfl (by decide) _).trans hopen, (hread _ rfl (by decide) _).trans hscope,
    dom_setDom .., (irqEvent_sec ..).trans hsec, (irqEvent_kv ..).trans hkv, fun n => (hread _ rfl (by decide) n).trans (hstate n)⟩

theorem exec_unlockEraseDone {s v : State} (hpending : rd s R.SEC_STAT_UNLOCK_PENDING = 1)
    (hdrained : ∀ r ∈ s.sec.retiring, drained s r.tenant = true) (hv : eraseStores (destroyKeys s) = v) : exec .unlockEraseDone s =
      .next ((s.sec.retiring.filterMap (fun r => r.queue)).foldl (fun s q => finishCmd s q .ok 0) (openDebug v)) := by
  have hgo : ¬(decide (rd s R.SEC_STAT_UNLOCK_PENDING = 0) || !(s.sec.retiring.all (fun r => drained s r.tenant))) = true := by
    rw [hpending, List.all_eq_true.mpr hdrained]
    decide
  refine congrArg Host.Outcome.next ((if_neg hgo).trans ?_)
  rw [hv]
  rfl

theorem unlockEraseDone_opens (s : State) (hpending : rd s R.SEC_STAT_UNLOCK_PENDING = 1)
    (hdrained : ∀ r ∈ s.sec.retiring, drained s r.tenant = true) :
    Ends .unlockEraseDone s (fun t => rd t R.SEC_STAT_UNLOCK_PENDING = 0 ∧ rd t R.SEC_STAT_DEBUG_OPEN = 1 ∧
      rd t R.SEC_UNLOCK_STAT_SCOPE = s.sec.scope % 8 ∧ dom t 400 = 0 ∧ t.sec.sessions = [] ∧ t.sec.retiring = [] ∧
      t.sec.group = none ∧ t.kv.seqs = [] ∧ t.kv.frames = [] ∧ (∀ n < 256, n ≠ 0 → tenState t n = 0)) := by
  have hexec := exec_unlockEraseDone hpending hdrained rfl
  obtain ⟨hseqs, hframes, hfree, hsec⟩ := eraseStores_leaves (destroyKeys s)
  rw [destroyKeys_sec] at hsec
  generalize eraseStores (destroyKeys s) = u at *
  generalize s.sec.retiring.filterMap (fun r => r.queue) = owed at *
  obtain ⟨hclear, hopen, hscope, hdom, hsec', hkv, hstate⟩ := openDebug_shows u
  have hend : Touches 0x800428000040D80 (openDebug u) (owed.foldl (fun s q => finishCmd s q .ok 0) (openDebug u)) :=
    Touches.foldl (Touches.refl _ _) fun v q => finishCmd_touches rfl (Touches.refl _ v)
  have hsecEnd : (owed.foldl (fun s q => finishCmd s q .ok 0) (openDebug u)).sec = { u.sec with retiring := [] } :=
    (hend.same (c := .security) rfl).trans hsec'
  have hkvEnd : (owed.foldl (fun s q => finishCmd s q .ok 0) (openDebug u)).kv = u.kv := (hend.same (c := .kv) rfl).trans hkv
  refine ⟨_, hexec, (hend.reads rfl).trans hclear, (hend.reads rfl).trans hopen, ?_, (dom_of_touches hend rfl 400).trans hdom, ?_, ?_, ?_, ?_, ?_,
    fun n hn h0 => (hend.reads rfl).trans ((hstate n).trans (hfree n hn h0))⟩
  · rw [hend.reads rfl, hscope, hsec]
  · rw [hsecEnd, hsec]
  · rw [hsecEnd]
  · rw [hsecEnd, hsec]
  · rw [hkvEnd, hseqs]
  · rw [hkvEnd, hframes]

theorem unlockEraseDone_waits (s : State) (h : rd s R.SEC_STAT_UNLOCK_PENDING = 0 ∨ (∃ r ∈ s.sec.retiring, drained s r.tenant = false)) :
    exec .unlockEraseDone s = .next s := by
  refine congrArg Host.Outcome.next (if_pos ?_)
  rcases h with h | ⟨r, hr, hbusy⟩
  · simp [h]
  · have hall : s.sec.retiring.all (fun r => drained s r.tenant) = false :=
      List.all_eq_false.mpr ⟨r, hr, by rw [hbusy]; decide⟩
    rw [hall]
    simp

/-! ### The operator's key and debug operations (R387, R388) -/

theorem b2n_lt_two (x : Bool) : b2n x < 2 := by cases x <;> decide

theorem keyMark_shows (x : Nat → Nat) :
    b2n (((List.range 16).map x).any (· ≠ 0)) = if (List.range 16).all (fun j => x j = 0) = true then 0 else 1 := by
  have hany : ((List.range 16).map x).any (· ≠ 0) = !((List.range 16).all (fun j => x j = 0)) := by
    rw [List.any_map, List.not_all_eq_any_not]
    exact congrArg _ (funext fun j => decide_not)
  rw [hany]
  by_cases h : (List.range 16).all (fun j => decide (x j = 0)) = true
  · rw [if_pos h, h]
    rfl
  · rw [if_neg h, Bool.eq_false_iff.mpr h]
    rfl

theorem opkeyCommit_stores (w : Writer) (s : State) (hw : Writable s w 17 0) : Ends (.opkeyCommit w) s (fun t =>
    t.sec = { s.sec with opkey := (List.range 16).map (fun j => rd s (R.SEC_OPKEY j)) } ∧
    rd t R.SEC_STAT_OPKEY_SET = (if (List.range 16).all (fun j => rd s (R.SEC_OPKEY j) = 0) = true then 0 else 1) ∧
    rd t R.SEC_OPKEY_CTL_CHANGES = min (rd s R.SEC_OPKEY_CTL_CHANGES + 1) (2 ^ 16 - 1)) := by
  refine ends_of_effect (x := incSat (wr { s with sec := { s.sec with opkey := (List.range 16).map (fun j => rd s (R.SEC_OPKEY j)) } }
    R.SEC_STAT_OPKEY_SET (b2n (((List.range 16).map (fun j => rd s (R.SEC_OPKEY j))).any (· ≠ 0)))) R.SEC_OPKEY_CTL_CHANGES) rfl hw rfl
    fun t hnote => ⟨hnote.same (c := .security) rfl, (hnote.reads rfl).trans ?_, (hnote.reads rfl).trans ?_⟩
  · exact (rd_incSat_ne (by decide) ..).trans ((rd_wr_fit _ _ _ _ (b2n_lt_two _)).trans (keyMark_shows fun j => rd s (R.SEC_OPKEY j)))
  · exact (rd_incSat ..).trans (congrArg (fun n => min (n + 1) (2 ^ 16 - 1)) (rd_wr_ne (by decide) ..))

theorem debugOperation_reads (a n : Nat) (s : State) (hopen : debugOpen s = true) (hscope : rd s R.SEC_UNLOCK_STAT_SCOPE % 2 = 1) :
    Ends (.debugOperation 0 a n) s (fun t => t.out = .debugRead (memBytes s a n) :: s.out ∧ SameBut [.out] s t) := by
  refine ⟨emit s (.debugRead (memBytes s a n)), congrArg Host.Outcome.next ?_, rfl, sameBut_of_touches (emit_touches rfl (Touches.refl _ s))⟩
  refine (if_neg ?_).trans (if_pos rfl)
  simp [hopen, hscope]

theorem debugOperation_idle (k a n : Nat) (s : State) (h : debugOpen s = false ∨ rd s R.SEC_UNLOCK_STAT_SCOPE / 2 ^ k % 2 = 0 ∨ k ≠ 0) :
    exec (.debugOperation k a n) s = .next s := by
  refine congrArg Host.Outcome.next ?_
  rcases h with h | h | h
  · exact if_pos (by simp [h])
  · exact if_pos (by simp [h])
  · rw [if_neg h]
    exact ite_self s

/-- Settles O41: each command's clause is the lemma of its section. -/
theorem debugUnlock : Obligations.DebugUnlock :=
  ⟨newNonce_draws, nonceExpiry_clears, nonceExpiry_idle, unlockSubmit_denied, unlockSubmit_passes, tokenOk_fails, unlockEraseDone_opens,
    unlockEraseDone_waits, opkeyCommit_stores, debugOperation_reads, debugOperation_idle⟩

end Sys2Proof.Proofs
end
